-- ==== Sys2Proof/Word.lean ====
section
/-! DEFINITION. Sys2Proof/Word.lean: the byte and the instant of time. -/

namespace Sys2Proof

/-- A byte. -/
abbrev Byte := BitVec 8

/-- An instant of the 64-bit nanosecond timebase (R24). -/
abbrev Time := BitVec 64

end Sys2Proof
end

