-- ==== Sys2Proof/Syntax.lean ====
section
/-! DEFINITION. Sys2Proof/Syntax.lean: the commands the block takes, one constructor per row of spec/opcode_table.json, and the data types of their operands. -/

set_option maxRecDepth 4000

namespace Sys2Proof.Machine

/-- R27 Table 2-1; lane rate, RATE_SEL coded 0 to 2. -/
inductive Rate where
  | j14
  | j28
  | j56
  deriving DecidableEq, Repr

/-- R27; outbound is away from the AX1224. -/
inductive Dir where
  | outb
  | inb
  deriving DecidableEq, Repr

/-- Table 2-3: identity of a terminal, bytes 16 to 27 of its TB. -/
structure PeerId where
  /-- VENDOR -/
  vendor : BitVec 16 := 0
  /-- PRODUCT -/
  product : BitVec 16 := 0
  /-- REVISION -/
  rev : BitVec 8 := 0
  /-- LLVER -/
  llver : BitVec 8 := 0
  /-- SERIAL -/
  serial : BitVec 48 := 0
  deriving DecidableEq, Repr

/-- R261 Table 10-1: where a command came from, and where its completion goes. -/
inductive Route where
  | mbx (hp : Fin 2) (s : Fin 256)
  | sq (hp : Fin 2) (s : Fin 256) (q : Fin 64)
  | mgmt
  | image (first : Option Nat)
  | fw
  | diag
  deriving DecidableEq, Repr

/-- what a read that a command makes of host memory (or flash) returned: the bytes, or an error. DESIGN CHOICE, log entry 33. -/
inductive HostData where
  | ok (bytes : List Byte)
  | err (cause : Nat)
  deriving DecidableEq, Repr

/-- R238 R260: a command as dispatched: its route, header and joined payload. DEDUCED, log entry 8. -/
structure Cmd where
  /-- where it came from -/
  route : Route := .fw
  /-- GEN -/
  gen : BitVec 8 := 0
  /-- TAG -/
  tag : BitVec 16 := 0
  /-- IRQ of the LAST entry -/
  irq : Bool := false
  /-- payload bytes of the chain, joined -/
  payload : List Byte := []
  /-- bytes read at the address the payload names -/
  data : HostData := .ok []
  /-- a deferred commit run again (R419) -/
  late : Bool := false
  /-- VFUSE at its monitor when FUSE_PROGRAM is carried out, in mV (R410) -/
  vfuse : Nat := 0
  deriving DecidableEq, Repr

/-- R238 Table 9-4: a submission entry, its 64 bytes (missing bytes read 0). -/
abbrev Entry := List Byte

/-- R244 Table 9-6: status codes, coded 0 to 14. -/
inductive Status where
  | ok
  | aborted
  | malformed
  | denied
  | noResource
  | noBandwidth
  | busy
  | timeout
  | linkLost
  | busReset
  | superseded
  | staleGeneration
  | mediaError
  | poisoned
  | overrun
  deriving DecidableEq, Repr

/-- R242 Table 9-5: a completion entry before PHASE and SQ_HEAD are set at its writing. -/
structure CqEntry where
  /-- TAG -/
  tag : BitVec 16 := 0
  /-- STATUS -/
  status : Status := .ok
  /-- DETAIL -/
  detail : Nat := 0
  /-- GEN -/
  gen : BitVec 8 := 0
  /-- KIND -/
  kind : Nat := 0
  /-- RESULT, 24 bytes (missing bytes 0) -/
  result : List Byte := []
  /-- counts toward moderation (IRQ=1 or a notice) -/
  irq : Bool := false
  deriving DecidableEq, Repr

/-- Table 4-8: OWNER with PLAN: the management controller, the plan, or a slice of a host port. -/
inductive Owner where
  | mgmt
  | plan
  | slice (hp s : Nat)
  deriving DecidableEq, Repr

/-- R248: a command dispatched and not completed. -/
structure Outst where
  /-- route -/
  route : Route := .fw
  /-- OPCODE -/
  opcode : Nat := 0
  /-- TAG -/
  tag : BitVec 16 := 0
  /-- GEN -/
  gen : BitVec 8 := 0
  /-- IRQ -/
  irq : Bool := false
  /-- its change has been committed (R257) -/
  committed : Bool := false
  /-- the object it acts on: a kind and a number (R248) -/
  object : Option (Nat × Nat) := none
  /-- it has taken effect (R248) -/
  begun : Bool := false
  deriving DecidableEq, Repr

/-- Table 14-2: a work item. -/
structure Item where
  /-- CLASS -/
  cls : BitVec 16 := 0
  /-- PRIO -/
  prio : Nat := 0
  /-- AFFINITY -/
  affinity : BitVec 8 := 0
  /-- ORIGIN: 0 EVC, 1 delay list, 2 firmware -/
  origin : Nat := 0
  /-- SOURCE -/
  source : Nat := 0
  /-- ARG -/
  arg : BitVec 64 := 0
  /-- T_READY -/
  tReady : BitVec 32 := 0
  /-- it has overrun ITEM_LIMIT once (R358) -/
  overran : Bool := false
  /-- the command it serves -/
  serves : Option Cmd := none
  deriving DecidableEq, Repr

/-- the change that waits with a deferred journal entry (R419). -/
inductive Act where
  | none
  | level (agent lvl : Nat)
  | teardown (tid : Nat)
  | revert (tid : Nat)
  | bankRetire (bank : Nat)
  | bankRetired (bank : Nat)
  | softRepair (region bank row : Nat)
  | dispRaise (tid flits : Nat)
  | dpBind (port src : Nat)
  | planApply (i : Nat)
  | close (tid : Nat)
  deriving DecidableEq, Repr

/-- what the block sends, as the outside sees it. -/
inductive Out where
  | hostWrite (hp slice : Nat) (addr : BitVec 64) (bytes : List Byte)
  | msix (hp vec : Nat)
  | pme (hp : Nat)
  | claim (src occur : Nat) (stale : Bool)
  | cancelled (found : Bool)
  | diag (bytes : List Byte)
  | flit (port lane : Nat) (bytes : List Byte)
  /-- R33 R35: what goes on a lane for a flit: with FEC off the sync header and the scrambled payload of its block, with FEC on the scrambled bits it adds to the codeword messages -/
  | line (port lane : Nat) (head : Option Nat) (bytes : List Byte)
  /-- R34: a marker: with FEC off the payload of a marker block, with FEC on the message of a marker codeword -/
  | marker (port lane : Nat) (bytes : List Byte)
  /-- R39: the payload of the training blocks sent on a lane from now on -/
  | tb (port lane : Nat) (bytes : List Byte)
  /-- R50 R71: a wake burst on the lanes named, and its length in ns -/
  | wakeBurst (port lanes ns : Nat)
  | tlp (hp : Nat) (bytes : List Byte)
  | frame (port : Nat) (bytes : List Byte)
  | cell (agent : Nat) (bytes : List Byte)
  /-- R202: the DisplayPort idle pattern -/
  | dpIdle (port : Nat)
  | pd (port sop kind typ : Nat) (bytes : List Byte)
  | hardReset (port : Nat)
  | dev (fn ep kind : Nat) (bytes : List Byte)
  | pmbus (reg mv : Nat)
  | smbus (bytes : List Byte)
  | readData (bytes : List Byte)
  deriving DecidableEq, Repr

/-- R57 R61: a DATA flit. -/
structure DataFlit where
  /-- SEQ -/
  seq : BitVec 12 := 0
  /-- TUN -/
  tun : Nat := 0
  /-- PRI -/
  pri : Nat := 0
  /-- BL -/
  bl : Bool := false
  /-- POISON -/
  poison : Bool := false
  /-- payload, 120 bytes (missing bytes 0) -/
  payload : List Byte := []
  deriving DecidableEq, Repr

/-- R93 Table 4-6: a MGMT message. -/
structure MgmtMsg where
  /-- MSG -/
  msg : Nat := 0
  /-- XID -/
  xid : BitVec 16 := 0
  /-- body -/
  body : List Byte := []
  deriving DecidableEq, Repr

/-- R60: a control flit that is due. -/
structure Ctrl where
  /-- TYPE -/
  typ : Nat := 2
  /-- payload, 120 bytes (missing bytes 0) -/
  payload : List Byte := []
  /-- last copy of a LANEMAP rotation: the set that takes effect after it -/
  newSet : Option Nat := none
  /-- it counts as a flit to send (R50) -/
  counts : Bool := true
  deriving DecidableEq, Repr

/-- R54 R55: what the cable of a port declares. -/
structure Cable where
  /-- highest rate -/
  maxRate : Option Rate := none
  /-- Jayth active cable -/
  active : Bool := false
  /-- false: an active cable with DIR_AGILE=0 -/
  dirAgile : Bool := true
  /-- turn time -/
  turnNs : Nat := 0
  /-- FEC needed at J14 -/
  fec14 : Bool := false
  /-- FEC needed at J28 -/
  fec28 : Bool := false
  /-- the e-marker declares 5 A -/
  amps5 : Bool := false
  /-- the e-marker declares EPR Capable and 50 V -/
  epr : Bool := false
  /-- the identity declares USB4 Gen3 or higher -/
  usb4 : Bool := false
  /-- the highest rate that the cable's DisplayPort VDO declares, 4 UHBR10 or 5 UHBR13.5 -/
  dpRate : Nat := 0
  /-- the cable is active and modal -/
  modal : Bool := false
  deriving DecidableEq, Repr

/-- what the reads of host memory that a step makes return: stretches of bytes by address; an address outside them is a bus error. DESIGN CHOICE, log entry 33. -/
abbrev HostView := List (BitVec 64 × List Byte)

/-- Table 6-4: an endpoint descriptor. -/
structure Epd where
  /-- NEXT -/
  next : BitVec 64 := 0
  /-- EP_HANDLE -/
  handle : Nat := 0
  /-- LIST -/
  async : Bool := false
  /-- IDLE_OK -/
  idleOk : Bool := false
  /-- SKIP -/
  skip : Bool := false
  /-- CMASK -/
  cmask : Nat := 0
  /-- BUDGET -/
  budget : Nat := 0
  /-- a reserved field is not 0 -/
  resv : Bool := false
  deriving DecidableEq, Repr

/-- Table 6-5: a transfer descriptor. -/
structure Td where
  /-- BUF_ADDR -/
  addr : BitVec 64 := 0
  /-- LEN -/
  len : Nat := 0
  /-- TAG -/
  tag : BitVec 16 := 0
  /-- IRQ -/
  irq : Bool := false
  /-- ZLP -/
  zlp : Bool := false
  /-- ASAP -/
  asap : Bool := false
  /-- TD_TYPE -/
  typ : Nat := 0
  /-- ISO_CYCLE -/
  cycle : BitVec 32 := 0
  deriving DecidableEq, Repr

/-- R162: a chain of TDs in progress. -/
structure Chain where
  /-- index of its first TD -/
  first : Nat := 0
  /-- its TDs -/
  tds : List Td := []
  /-- TD in progress, from 0 -/
  cur : Nat := 0
  /-- bytes moved of that TD -/
  off : Nat := 0
  /-- its zero-length packet has gone -/
  zlpDone : Bool := false
  /-- bytes moved by the chain -/
  bytes : Nat := 0
  /-- cycle of its last transaction; none while none has run -/
  cycle : Option (BitVec 32) := none
  /-- its data ended on a short packet -/
  short : Bool := false
  /-- GEN at fetch -/
  gen : BitVec 8 := 0
  deriving DecidableEq, Repr

/-- R168: a USB2 request outstanding on a tunnelled root. -/
structure UsbReq where
  /-- XID -/
  xid : BitVec 16 := 0
  /-- endpoint -/
  ep : Option Nat := none
  /-- cycle that MFRAME names -/
  cycle : Nat := 0
  /-- DLEN -/
  len : Nat := 0
  deriving DecidableEq, Repr

/-- Table 11-3: a DMA job entry. -/
structure Job where
  /-- PROG_ADDR -/
  prog : BitVec 64 := 0
  /-- PROG_LEN -/
  len : Nat := 0
  /-- TAG -/
  tag : BitVec 16 := 0
  /-- FIRST -/
  first : Bool := false
  /-- LAST -/
  last : Bool := false
  /-- IRQ -/
  irq : Bool := false
  /-- SPACES, A0 to A3 -/
  spaces : List Nat := []
  /-- A0 to A3 -/
  regs : List (BitVec 64) := []
  /-- a reserved field is not 0 -/
  resv : Bool := false
  deriving DecidableEq, Repr

/-- Table 11-6: conversion, reshuffle and check state of a DMA job. -/
structure Setup where
  /-- SRC_WIDTH -/
  srcW : Nat := 0
  /-- SRC_PACKED -/
  srcPacked : Bool := false
  /-- DST_WIDTH -/
  dstW : Nat := 0
  /-- DST_PACKED -/
  dstPacked : Bool := false
  /-- SIGN -/
  sign : Bool := false
  /-- ALIGN_MSB -/
  msb : Bool := false
  /-- SAT -/
  sat : Bool := false
  /-- SHORT_HALT -/
  shortHalt : Bool := false
  /-- POISON_HALT -/
  poisonHalt : Bool := false
  /-- RESHUF -/
  reshuf : Nat := 0
  /-- BP_INV -/
  bpInv : Bool := false
  /-- SET_ELEMS -/
  setElems : Nat := 0
  /-- CHECK -/
  check : Nat := 0
  /-- CHK_DST -/
  chkDst : Bool := false
  /-- STRIDE -/
  stride : Nat := 0
  deriving DecidableEq, Repr

/-- R336: data of a host read that has returned and has not been used yet. -/
structure HostRead where
  /-- slice -/
  sl : Nat := 0
  /-- address -/
  addr : BitVec 64 := 0
  /-- data -/
  bytes : List Byte := []
  deriving DecidableEq, Repr

/-- R336: what a host read was made for. -/
inductive ReadUser where
  | dma (ch : Fin 64) (program : Bool) (addr : BitVec 64)
  | queue (hp : Fin 2) (sl : Fin 256) (q : Fin 64)
  | usb (ep : Fin 4096)
  deriving DecidableEq, Repr

/-- R387 Table 15-8: what ends a sleep state: an enabled bit of PM_WAKE_CFG, an EVC source with WAKE=1, a due delay item. -/
inductive WakeSrc where
  | cfg (bit : Fin 64)
  | evc (n : Fin 512)
  | delay
  deriving DecidableEq, Repr

/-- R425: where trace records were lost. -/
inductive LossPlace where
  | fifo (agent : Nat)
  | buffer
  | ring (hp : Fin 2)
  deriving DecidableEq, Repr

/-- R245 R464: a notice backlog: a CQ's or the management FIFO. -/
inductive NoticeFifo where
  | cq (hp : Fin 2) (sl : Fin 256) (q : Fin 64)
  | mgmt
  deriving DecidableEq, Repr

/-- R172: what makes a native SuperSpeed link change between U0, U1 and U2. -/
inductive U1u2Cause where
  /-- the root's own timeout has expired -/
  | timeout
  /-- the device asks for U1 -/
  | askU1
  /-- the device asks for U2 -/
  | askU2
  /-- activity on the link -/
  | activity
  deriving DecidableEq, Repr

/-- R172: the state that the device asks for, 0 for none. -/
def U1u2Cause.asked : U1u2Cause → Nat
  | .askU1 => 1
  | .askU2 => 2
  | _ => 0

/-- R89 R90: the mode of a DisplayPort stream, as the MSA gives it. -/
structure DispMode where
  /-- HTOTAL -/
  htotal : Nat := 0
  /-- HACT -/
  hact : Nat := 0
  /-- PIXCLK in Hz -/
  pixclk : Nat := 0
  /-- bits per pixel -/
  bpp : Nat := 0
  /-- compressed bytes of one line, 0 if uncompressed -/
  dscLine : Nat := 0
  deriving DecidableEq, Repr

/-- R366: what firmware sets for an event source at start-up. -/
structure SrcCfg where
  /-- ENABLE -/
  enable : Bool := false
  /-- MODE: interrupt -/
  irq : Bool := false
  /-- LEVEL -/
  level : Bool := false
  /-- PRIO -/
  prio : Fin 16 := 0
  /-- AFFINITY -/
  affinity : BitVec 8 := 0
  /-- WAKE -/
  wake : Bool := false
  /-- CLASS of the source's item or handler (Table 14-2) -/
  cls : BitVec 16 := 0
  deriving DecidableEq, Repr

end Sys2Proof.Machine

namespace Sys2Proof

open Sys2Proof.Machine

/-- The commands, events and accesses of the AX1224: one constructor per row of spec/opcode_table.json. -/
inductive Instr where
  /-- DEV_IDENTIFY (R274): Command that returns identity, grade, firmware version, capability bits, release and lock state, and serial number. -/
  | devIdentify (c : Cmd)
  /-- DEV_CONFIG_LOCK (R262): Command that sets the configuration lock until cold start, after which slice-origin L commands are refused. -/
  | devConfigLock (c : Cmd)
  /-- MARL_POOL_CFG (R136): Command that changes the POOL_MIN and SHARE_MAX of a class pool or of the reserve. -/
  | marlPoolCfg (c : Cmd)
  /-- MARL_QUEUE_CFG (R134): Command that sets QCAP of an egress class queue, or of both queues of a USB class. -/
  | marlQueueCfg (c : Cmd)
  /-- MARL_AGE_CFG (R137): Command that sets a class age limit or the sweep round. -/
  | marlAgeCfg (c : Cmd)
  /-- COUNTER_READ (R466): Command that captures one counter group of an island and writes it to a buffer. -/
  | counterRead (c : Cmd)
  /-- SNAPSHOT (R17): Command that captures every counter group of an island, stamped, with DOMAIN_OFF when the domain is off. -/
  | snapshot (c : Cmd)
  /-- TUN_CREATE (R268): Command that checks and creates a tunnel, journals it and sends TUN_OPEN to the terminal. -/
  | tunCreate (c : Cmd)
  /-- TUN_DESTROY (R270): Command that tears down a tunnel through CLOSING to FREE and advances its generation. -/
  | tunDestroy (c : Cmd)
  /-- TUN_MODIFY (R270): Command that changes a tunnel's reservations, weights or PERSIST under the lane rule and ceilings. -/
  | tunModify (c : Cmd)
  /-- TUN_QUERY (R270): Command that returns a tunnel table entry. -/
  | tunQuery (c : Cmd)
  /-- TUN_ADOPT (R120): Command by which slice 0 takes ownership of a plan tunnel, clearing PLAN and keeping KEY. -/
  | tunAdopt (c : Cmd)
  /-- TUN_ALLOT_CFG (R270): Command that sets a port's turnaround parameters and orphan window. -/
  | tunAllotCfg (c : Cmd)
  /-- PORT_PD_CFG (R208): Command that changes a port's PD settings of Table 8-3. -/
  | portPdCfg (c : Cmd)
  /-- PORT_PD_SWAP (R219): Command that requests a PR, DR or VCONN swap on a port. -/
  | portPdSwap (c : Cmd)
  /-- PORT_PD_RESET (R230): Command that sends Soft_Reset or Hard Reset, enters ErrorRecovery, or re-initialises a port's PD layers. -/
  | portPdReset (c : Cmd)
  /-- PORT_PD_QUERY (R272): Command that returns a port's roles, contract, mode, training state, lanes, round trip and peer identity. -/
  | portPdQuery (c : Cmd)
  /-- PORT_LINK_CTRL (R273): Command that recalibrates, excludes, includes or retrains a lane or link, or clears stored equalisation. -/
  | portLinkCtrl (c : Cmd)
  /-- PORT_NOTIFY_BIND (R231): Command that binds a host port's queue to a port's notices. -/
  | portNotifyBind (c : Cmd)
  /-- PORT_LINK_CFG (R493): Command that sets a port's maximum rate, FEC requests, sleep and keep-alive times, link timeout, time period, recalibration period and HOME_MASK. -/
  | portLinkCfg (c : Cmd)
  /-- PORT_FALLBACK_CFG (R183): Command that changes a port's native fallback settings. -/
  | portFallbackCfg (c : Cmd)
  /-- PORT_JAYTH_RETRY (R186): Command that ends every fallback use of a port and runs discovery again. -/
  | portJaythRetry (c : Cmd)
  /-- USB_ROOT_BIND (R151): Command that binds a USB root to a slice with its schedules and notify queue. -/
  | usbRootBind (c : Cmd)
  /-- USB_ROOT_CTRL (R180): Command that powers, resets, suspends, resumes, fences, sets U1/U2 or auto-suspend of, or unbinds a root. -/
  | usbRootCtrl (c : Cmd)
  /-- USB_SLOT_ALLOC (R153): Command that allocates a device slot at address 0 on a root. -/
  | usbSlotAlloc (c : Cmd)
  /-- USB_SLOT_FREE (R273): Command that frees a device slot whose endpoints are all disabled. -/
  | usbSlotFree (c : Cmd)
  /-- USB_EP_CONFIG (R155): Command that configures or disables an endpoint with its ring and endpoint-buffer allocation. -/
  | usbEpConfig (c : Cmd)
  /-- USB_EP_RESET (R174): Command that returns a halted, errored or stopped endpoint to IDLE or ACTIVE. -/
  | usbEpReset (c : Cmd)
  /-- USB_EP_STOP (R174): Command that stops an endpoint, aborting its chain in progress. -/
  | usbEpStop (c : Cmd)
  /-- USB_EP_SET_DEQ (R174): Command that moves a non-active endpoint's consumer index to a chain start. -/
  | usbEpSetDeq (c : Cmd)
  /-- USB_ROOT_QUERY (R272): Command that returns root, slot or endpoint state. -/
  | usbRootQuery (c : Cmd)
  /-- USB_DEV_BIND (R187): Command that binds a device function to a port with its descriptor set. -/
  | usbDevBind (c : Cmd)
  /-- USB_DEV_UNBIND (R187): Command that takes a device function to DETACHED and releases it. -/
  | usbDevUnbind (c : Cmd)
  /-- USB_DEV_CTRL (R196): Command that requests remote wake, or sets or clears a halt, on a device function. -/
  | usbDevCtrl (c : Cmd)
  /-- DMA_CH_ALLOC (R276): Command that allocates a DMA channel to a slice. -/
  | dmaChAlloc (c : Cmd)
  /-- DMA_CH_CONFIG (R296): Command that loads a stopped channel's ring, program memory choice, trigger and retry count. -/
  | dmaChConfig (c : Cmd)
  /-- DMA_CH_CTRL (R277): Command that starts, stops or resets a DMA channel. -/
  | dmaChCtrl (c : Cmd)
  /-- DMA_CH_FREE (R277): Command that frees a stopped channel, discarding landed blocks. -/
  | dmaChFree (c : Cmd)
  /-- DMA_TIMER_CFG (R296): Command that enables, sets or disables a DMA timer owned by a slice. -/
  | dmaTimerCfg (c : Cmd)
  /-- DMA_CH_QUERY (R303): Command that returns a channel's state, ring index and halt cause and address. -/
  | dmaChQuery (c : Cmd)
  /-- QP_CREATE (R247): Command that creates a work-queue pair with its bases, sizes, vector, moderation, stall time and weight. -/
  | qpCreate (c : Cmd)
  /-- QP_MODIFY (R247): Command that changes a queue pair's vector, moderation, CR_STALL_US or weight. -/
  | qpModify (c : Cmd)
  /-- QP_RESET (R256): Command that aborts a queue pair's outstanding chains and returns it to ACTIVE. -/
  | qpReset (c : Cmd)
  /-- QP_DESTROY (R258): Command that aborts a queue pair's chains and disables it. -/
  | qpDestroy (c : Cmd)
  /-- QP_QUERY (R272): Command that returns a queue pair's state and settings. -/
  | qpQuery (c : Cmd)
  /-- SLICE_ENABLE (R310): Command that enables a slice with its PASID, MSI-X range and limits and increments its generation. -/
  | sliceEnable (c : Cmd)
  /-- SLICE_RESET (R320): Command that runs the slice reset sequence and leaves the slice ACTIVE. -/
  | sliceReset (c : Cmd)
  /-- SLICE_DISABLE (R320): Command that runs the reset sequence and disables the slice, releasing its PASID, range and limits. -/
  | sliceDisable (c : Cmd)
  /-- SLICE_FREEZE (R324): Command that stops a slice's fetch and new engine chains until it is quiescent. -/
  | sliceFreeze (c : Cmd)
  /-- SLICE_SAVE (R325): Command that writes a frozen slice's state as a blob. -/
  | sliceSave (c : Cmd)
  /-- SLICE_RESTORE (R326): Command that resumes a frozen slice in place or moves a saved slice's resources to a target slice. -/
  | sliceRestore (c : Cmd)
  /-- SLICE_DIRTY_LOG (R322): Command that starts or ends a dirty-page logging round. -/
  | sliceDirtyLog (c : Cmd)
  /-- SLICE_QUERY (R318): Command that returns a slice's state, generation and counters. -/
  | sliceQuery (c : Cmd)
  /-- PM_LEVEL (R380): Command that sets the performance level of one island or of every island but Loam. -/
  | pmLevel (c : Cmd)
  /-- PM_DOMAIN (R377): Command that switches a domain off with retention and holds it, or releases and powers it. -/
  | pmDomain (c : Cmd)
  /-- PM_WAKE_CFG (R387): Command that sets the wake-source mask. -/
  | pmWakeCfg (c : Cmd)
  /-- PM_QUERY (R395): Command that returns domain state and per-plane energy. -/
  | pmQuery (c : Cmd)
  /-- JRNL_READ (R494): Command that reads journal entries with the tag before the first and its JIDX. -/
  | jrnlRead (c : Cmd)
  /-- SILT_DRAIN_BIND (R492): Command that enables or disables one journal or trace sink. -/
  | siltDrainBind (c : Cmd)
  /-- TRACE_CFG (R424): Command that sets the enabled trace groups. -/
  | traceCfg (c : Cmd)
  /-- ALARM_READ (R427): Command that returns latched alarms and clears the ALARM management cause. -/
  | alarmRead (c : Cmd)
  /-- ALARM_ACK (R426): Command that sets an alarm's acknowledged flag, clearing the latch if its condition is absent. -/
  | alarmAck (c : Cmd)
  /-- ALARM_CFG (R426): Command that sets an alarm's severity and enable. -/
  | alarmCfg (c : Cmd)
  /-- JRNL_PERSIST_CFG (R419): Command that enables or disables flash persistence of the journal. -/
  | jrnlPersistCfg (c : Cmd)
  /-- FW_STAGE (R445): Command that checks an image and loads its firmware into the free code area. -/
  | fwStage (c : Cmd)
  /-- FW_ACTIVATE (R446): Command that starts the live update phases for the staged firmware. -/
  | fwActivate (c : Cmd)
  /-- IMAGE_WRITE (R443): Command that erases, programs and reads back one chunk of an image slot. -/
  | imageWrite (c : Cmd)
  /-- IMAGE_SELECT (R444): Command that verifies a slot and appends a select record naming it. -/
  | imageSelect (c : Cmd)
  /-- MARL_BANK_RETIRE (R146): Command that retires a Marl bank, draining it or taking a spare straight to RETIRED. -/
  | marlBankRetire (c : Cmd)
  /-- MARL_BANK_READMIT (R146): Command that scrubs a retired bank and returns it to SPARE or ACTIVE. -/
  | marlBankReadmit (c : Cmd)
  /-- MEM_ECC_CFG (R401): Command that sets a region's strength, correction mode, scrub period and RETIRE_AUTO. -/
  | memEccCfg (c : Cmd)
  /-- MEM_SOFT_REPAIR (R408): Command that switches a spare row in for a row while the region runs. -/
  | memSoftRepair (c : Cmd)
  /-- FUSE_PROGRAM (R410): Command that burns queued permanent repairs into the fuse repair map. -/
  | fuseProgram (c : Cmd)
  /-- MEM_FLIP_MASK (R411): Command that arms a one-shot codeword flip mask for a region. -/
  | memFlipMask (c : Cmd)
  /-- LOAM_HANDOVER (R451): Command that moves Loam output drive to the standby copy. -/
  | loamHandover (c : Cmd)
  /-- TB_SET (R25): Command that sets the timebase before release. -/
  | tbSet (c : Cmd)
  /-- TB_SLEW (R343): Command that loads the rate trim and an offset to slew out. -/
  | tbSlew (c : Cmd)
  /-- REFCLK_SELECT (R341): Command that sets the reference clock mode A, B or automatic. -/
  | refclkSelect (c : Cmd)
  /-- TB_QUERY (R274): Command that returns the timebase, trim and clock source state. -/
  | tbQuery (c : Cmd)
  /-- NET_PORT_CFG (R348): Command that sets an Ethernet port's rate and RS-FEC. -/
  | netPortCfg (c : Cmd)
  /-- PTP_CFG (R351): Command that sets an Ethernet port's event timestamps and PTP encapsulations. -/
  | ptpCfg (c : Cmd)
  /-- DPI_CFG (R346): Command that sets a DisplayPort input's rate, stream count and enable. -/
  | dpiCfg (c : Cmd)
  /-- DPI_QUERY (R274): Command that returns a DisplayPort input's rate, lanes, streams and pixel clock. -/
  | dpiQuery (c : Cmd)
  /-- DPALT_BIND (R200): Command that binds a DPI stream to a port in DisplayPort Alternate Mode. -/
  | dpaltBind (c : Cmd)
  /-- DPALT_UNBIND (R200): Command that removes a port's DisplayPort Alternate Mode binding. -/
  | dpaltUnbind (c : Cmd)
  /-- MBX_GO (R246): Write of GO=1 to a slice mailbox, submitting MBX_MSG or setting REFUSED while busy. -/
  | mbxGo (hp : Fin 2) (sl : Fin 256)
  /-- MBX_DONE_CLEAR (R233): Write of 1 to DONE of MBX_DB, clearing it. -/
  | mbxDoneClear (hp : Fin 2) (sl : Fin 256)
  /-- MBX_REFUSED_CLEAR (R233): Write of 1 to REFUSED of MBX_DB, clearing it. -/
  | mbxRefusedClear (hp : Fin 2) (sl : Fin 256)
  /-- SQ_DB (R252): Write of a submission queue producer index, accepted or refused as impossible. -/
  | sqDb (hp : Fin 2) (sl : Fin 256) (q : Fin 64) (v : BitVec 32)
  /-- CQ_DB (R249): Write of a completion queue consumer index, freeing space and ending a stall. -/
  | cqDb (hp : Fin 2) (sl : Fin 256) (q : Fin 64) (v : BitVec 32)
  /-- SLICE_EVT_CLEAR (R234): Write of 1s to SLICE_EVT, clearing slice event bits. -/
  | sliceEvtClear (hp : Fin 2) (sl : Fin 256) (v : BitVec 32)
  /-- USB_EP_DOORBELL (R164): Write of an endpoint's producer index, checked for ownership and range. -/
  | usbEpDoorbell (hp : Fin 2) (sl : Fin 256) (v : BitVec 32) (view : HostView)
  /-- DMA_CH_DOORBELL (R281): Write of a DMA channel's producer index, checked for ownership and range. -/
  | dmaChDoorbell (hp : Fin 2) (sl : Fin 256) (v : BitVec 32)
  /-- DMA_PROGRAM_WRITE (R280): Write to a channel's program memory, accepted only from the owner slice. -/
  | dmaProgramWrite (hp : Fin 2) (sl : Fin 256) (off : Fin 65536) (bytes : List Byte)
  /-- PM_MODE_REQ (R383): Write of REQ=1 to PM_MODE, requesting a sleep state or exit. -/
  | pmModeReq (writer : Option (Fin 2)) (target : Fin 4) (mask : BitVec 12)
  /-- PM_MODE_REFUSED_CLEAR (R383): Write of 1 to REFUSED of PM_MODE, clearing it. -/
  | pmModeRefusedClear
  /-- MGMT_GO (R246): Write of GO=1 to the management mailbox, submitting MGMT_MSG and raising EVC source 0x1C0. -/
  | mgmtGo
  /-- MGMT_DONE_CLEAR (R246): Write of 1 to DONE of MGMT_DB, clearing it. -/
  | mgmtDoneClear
  /-- MGMT_REFUSED_CLEAR (R246): Write of 1 to REFUSED of MGMT_DB, clearing it. -/
  | mgmtRefusedClear
  /-- MGMT_NTC_POP (R464): Write of POP=1, removing the oldest management notice. -/
  | mgmtNtcPop
  /-- JRNL_RING_CI (R421): Write of the host journal ring consumer index, freeing entries. -/
  | jrnlRingCi (hp : Fin 2) (v : BitVec 32)
  /-- TRACE_RING_CI (R492): Write of the host trace ring consumer index, freeing records. -/
  | traceRingCi (hp : Fin 2) (v : BitVec 32)
  /-- JRNL_MGMT_CI (R465): Write of the management journal consumer index, taking entries below it. -/
  | jrnlMgmtCi (v : BitVec 64)
  /-- TRACE_MGMT_CI (R465): Write of the management trace consumer index, taking records. -/
  | traceMgmtCi (v : BitVec 32)
  /-- GLB_SITE_ID_WRITE (R458): Write to the RWL site identifier, journalled before it takes effect and refused after the lock. -/
  | glbSiteIdWrite (who : Option (Fin 2)) (v : BitVec 32)
  /-- WR_REFUSED_CLEAR (R458): Write of 1 to WR_REFUSED of GLB_STATUS, clearing it. -/
  | wrRefusedClear (who : Option (Fin 2))
  /-- SHL_PEAK_CLR_LISTS (R373): Write of bit 0 of SHL_PEAK_CLR, clearing MAX_DEPTH and WAIT_MAX_NS of every list. -/
  | shlPeakClrLists
  /-- SHL_PEAK_CLR_DELAY (R373): Write of bit 1 of SHL_PEAK_CLR, clearing MAX_PENDING of every delay list. -/
  | shlPeakClrDelay
  /-- HALF_READ_LATCH (R455): Read of the low half of a 64-bit or 128-bit register that latches the rest for the same requester. -/
  | halfReadLatch (who : Option (Fin 2 × Fin 256)) (off : BitVec 32) (len : Nat)
  /-- ALARM_LATCH_READ (R457): Read of ALARM_LATCH through the Loam window, which clears the ALARM management cause. -/
  | alarmLatchRead
  /-- REGISTER_WRITE (R454): Write to a register without behaviour of its own, applied or ignored under the access rules. -/
  | registerWrite (who : Option (Fin 2 × Fin 256)) (off : BitVec 32) (bytes : List Byte)
  /-- SMB_WRITE (R352): SMBus WRITE transaction into the Loam window, checked for PEC. -/
  | smbWrite (addr : BitVec 32) (data : List Byte) (pec : Bool)
  /-- SMB_READ (R352): SMBus READ process call returning Loam window bytes with PEC. -/
  | smbRead (addr : BitVec 32) (count : Nat)
  /-- SMB_ALERT_RESPONSE (R427): Read of the Alert Response Address, clearing the ALARM cause. -/
  | smbAlertResponse
  /-- SMB_CLOCK_LOW_TIMEOUT (R352): SMB_SCL held low for 25 ms or more, resetting the target interface. -/
  | smbClockLowTimeout
  /-- ENTER_MODE_ACK (R38): Enter Mode ACK received for the Jayth mode, starting training at DETECT. -/
  | enterModeAck (port : Fin 12)
  /-- TB_RECEIVED (R41): A training block received on a lane, advancing the training state of the port. -/
  | tbReceived (port : Fin 12) (lane : Fin 4) (payload : List Byte) (err : Fin 256)
  /-- TRAIN_STATE_TIMEOUT (R41): Expiry of a training state's time limit, failing the attempt. -/
  | trainStateTimeout (port : Fin 12)
  /-- TRAIN_IDLE_END (R45): End of the 1 ms electrical idle after a failed attempt, restarting at DETECT. -/
  | trainIdleEnd (port : Fin 12)
  /-- RATE_IDLE_END (R41): End of the 5 µs idle in RATE, starting TB1 at the selected rate. -/
  | rateIdleEnd (port : Fin 12)
  /-- MARKER_RECEIVED (R34): A marker accepted on a receive lane, completing SYNC, a wake or a lane join. -/
  | markerReceived (port : Fin 12) (lane : Fin 4) (head : List Byte) (diff : Nat) (flit : Bool)
  /-- MARKER_LOSS_TIMEOUT (R52): No accepted marker on an awake receive lane for 3 group periods, degrading the lane. -/
  | markerLossTimeout (port : Fin 12) (lane : Fin 4)
  /-- CODEWORD_ERROR_LIMIT (R52): More than 16 uncorrectable codewords on a lane within 1 ms, degrading the lane. -/
  | codewordErrorLimit (port : Fin 12) (lane : Fin 4)
  /-- LINK_TIMEOUT (R52): No valid flit, marker or wake burst on any receive lane for the link timeout, taking the link down. -/
  | linkTimeout (port : Fin 12)
  /-- WAKE_BURST_RECEIVED (R50): Wake burst detected on a sleeping receive lane. -/
  | wakeBurstReceived (port : Fin 12)
  /-- SLEEP_IDLE_EXPIRY (R50): Idle time with no flit to send expires, and the direction sends SLEEP and enters micro-sleep. -/
  | sleepIdleExpiry (port : Fin 12)
  /-- DIRECTION_WAKE (R50): Sender wakes a sleeping direction when a counting flit becomes due. -/
  | directionWake (port : Fin 12)
  /-- KEEPALIVE_EXPIRY (R50): Keep-alive interval expires, and the sleeping sender wakes to send a marker and a flit. -/
  | keepaliveExpiry (port : Fin 12)
  /-- RECAL_PERIOD_EXPIRY (R49): A lane's recalibration period expires, starting or deferring recalibration. -/
  | recalPeriodExpiry (port : Fin 12) (lane : Fin 4)
  /-- TEMP_DRIFT (R49): Die temperature near a port moves more than 20 °C since a lane's last EQ. -/
  | tempDrift (port : Fin 12) (temp : Int)
  /-- RECAL_RETRY_EXPIRY (R49): The 10 s retry of a deferred recalibration expires. -/
  | recalRetryExpiry (port : Fin 12)
  /-- RECAL_DONE (R75): Equalisation of a lane out for recalibration ends and the lane returns, locks or is excluded. -/
  | recalDone (port : Fin 12) (outErr inErr : Fin 256)
  /-- FLIT_SLOT (R104): A flit slot of a direction is filled with a control, MGMT, reserved, best-effort or NULL flit. -/
  | flitSlot (port : Fin 12)
  /-- DATA_FLIT_RECEIVED (R63): A good DATA flit received, accepted, discarded as duplicate or treated as a gap. -/
  | dataFlitReceived (port : Fin 12) (lane : Fin 4) (flit : List Byte)
  /-- BAD_FLIT (R59): A flit failing FEC, HCHK or CRC, discarded and counted, with a NAK owed. -/
  | badFlit (port : Fin 12) (lane : Fin 4)
  /-- ACK_RECEIVED (R65): An ACK flit received, advancing the window or requesting a resend by NAK. -/
  | ackReceived (port : Fin 12) (lane : Fin 4) (flit : List Byte)
  /-- CREDIT_RECEIVED (R66): A CREDIT flit received, updating CUM_CREDIT of each tunnel named. -/
  | creditReceived (port : Fin 12) (lane : Fin 4) (flit : List Byte)
  /-- LANEMAP_RECEIVED (R69): A LANEMAP copy received, changing the inbound lane set at a rotation. -/
  | lanemapReceived (port : Fin 12) (lane : Fin 4) (flit : List Byte)
  /-- ECHO_RECEIVED (R77): An ECHO flit received, forming a path delay sample. -/
  | echoReceived (port : Fin 12) (lane : Fin 4) (flit : List Byte)
  /-- SLEEP_RECEIVED (R50): An LM SLEEP flit received, the inbound direction entering micro-sleep. -/
  | sleepReceived (port : Fin 12) (lane : Fin 4) (flit : List Byte)
  /-- TURN_DONE_RECEIVED (R72): An LM TURN_DONE received, completing an inbound-to-outbound turnaround. -/
  | turnDoneReceived (port : Fin 12) (lane : Fin 4) (flit : List Byte)
  /-- BACKLOG_RECEIVED (R70): An LM BACKLOG received with the terminal's queued flits for a cycle. -/
  | backlogReceived (port : Fin 12) (lane : Fin 4) (flit : List Byte)
  /-- RETRAIN_REQ_RECEIVED (R70): An LM RETRAIN_REQ received, taking the link down and retraining. -/
  | retrainReqReceived (port : Fin 12) (lane : Fin 4) (flit : List Byte)
  /-- LANE_BAD_RECEIVED (R498): An LM LANE_BAD received, degrading an outbound lane for recalibration. -/
  | laneBadReceived (port : Fin 12) (lane : Fin 4) (flit : List Byte)
  /-- NAK_TIMER_EXPIRY (R63): The nak_timer reaches the replay timeout while retry_wait is set, and the NAK is sent again. -/
  | nakTimerExpiry (port : Fin 12)
  /-- REPLAY_TIMEOUT (R64): The oldest unacknowledged burst waits longer than the replay timeout, and the sender resends. -/
  | replayTimeout (port : Fin 12)
  /-- ACK_REPEAT_EXPIRY (R62): The 10 µs interval for repeating the latest ACK expires. -/
  | ackRepeatExpiry (port : Fin 12)
  /-- CREDIT_REFRESH_EXPIRY (R67): The 1 ms interval for resending every open tunnel's CUM_CREDIT expires. -/
  | creditRefreshExpiry (port : Fin 12)
  /-- CREDIT_RETURN (R67): A tunnel's new CUM_CREDIT is sent after buffer space is freed. -/
  | creditReturn (port : Fin 12) (tun : Fin 1024)
  /-- TIME_PERIOD_EXPIRY (R76): The time period expires and a TIME flit is sent with its hardware stamp. -/
  | timePeriodExpiry (port : Fin 12)
  /-- TURNAROUND_TIMEOUT (R74): No marker accepted on a turning lane within the limit, failing the turnaround. -/
  | turnaroundTimeout (port : Fin 12)
  /-- LANE_REQ_RESEND_EXPIRY (R74): A LANE_REQ without answering LANEMAP is resent, or the change abandoned after three tries. -/
  | laneReqResendExpiry (port : Fin 12)
  /-- TERM_INFO_RECEIVED (R94): TERM_INFO received, permitting TUN_OPEN and the restore of orphan tunnels. -/
  | termInfoReceived (port : Fin 12)
  /-- OPEN_ACK_RECEIVED (R101): OPEN_ACK received, opening the tunnel and completing its create. -/
  | openAckReceived (port : Fin 12)
  /-- OPEN_NAK_RECEIVED (R94): OPEN_NAK received, completing the create with DENIED, NO_RESOURCE or MALFORMED. -/
  | openNakReceived (port : Fin 12)
  /-- CLOSE_ACK_RECEIVED (R101): CLOSE_ACK received, freeing the tunnel entry and its TUN. -/
  | closeAckReceived (port : Fin 12)
  /-- ALLOT_ACK_RECEIVED (R270): ALLOT_ACK received, completing an inbound raise. -/
  | allotAckReceived (port : Fin 12)
  /-- TUN_STATUS_RECEIVED (R96): TUN_STATUS received, posting a sink or source notice for the tunnel. -/
  | tunStatusReceived (port : Fin 12)
  /-- MGMT_RESEND_EXPIRY (R94): An unanswered MGMT request's 1 ms resend time expires, resending or ending with TIMEOUT. -/
  | mgmtResendExpiry (port : Fin 12) (xid : BitVec 16)
  /-- ALLOT_CYCLE_START (R102): Start of an allotment cycle, evaluating the cycle just ended and setting the new budgets. -/
  | allotCycleStart (port : Fin 12)
  /-- ORPHAN_WINDOW_EXPIRY (R116): The orphan window expires and tunnels still ORPHAN are torn down with LINK_LOST. -/
  | orphanWindowExpiry (port : Fin 12)
  /-- DISP_MODE_CHANGE (R90): A source stream changes mode, and the AX1224 raises the DISP reservation or sends NOVIDEO. -/
  | dispModeChange (dpi : Fin 8) (stream : Fin 4) (mode : DispMode)
  /-- HOST_LOST_TUNNEL_EXPIRY (R332): One second after HOST_LOST, the non-PERSIST tunnels of its slices are destroyed. -/
  | hostLostTunnelExpiry (hp : Fin 2) (sl : Fin 256)
  /-- CELL_ADMIT (R134): A cell from an ingress is admitted to Marl, placed in a bank and enqueued, or discarded. -/
  | cellAdmit (agent : BitVec 8) (flow : Nat) (bl poison : Bool) (payload : List Byte)
  /-- LOSSLESS_CREDIT_GRANT (R134): A waiting lossless credit grant is made once pool or shared space is freed. -/
  | losslessCreditGrant (agent : BitVec 8) (cls : Fin 8)
  /-- CELL_EGRESS_SELECT (R137): An egress selects a head cell, which is checked for age and generation and read or discarded. -/
  | cellEgressSelect (agent : BitVec 8) (linkUe : Bool)
  /-- SWEEP_ROUND (R139): A sweep round visits every non-empty flow FIFO and discards over-age and stale head cells. -/
  | sweepRound
  /-- MARL_BANK_RETIRED (R146): A DRAINING bank reaches FILL 0 and becomes RETIRED, with a journal entry. -/
  | marlBankRetired (bank : Fin 33)
  /-- BANK_READMIT_DONE (R146): Scrubbing of a readmitted bank ends, and it becomes SPARE or ACTIVE. -/
  | bankReadmitDone (bank : Fin 33)
  /-- SCRUB_STEP (R406): The scrub period expires and one page of a region is read, corrected and written back if needed. -/
  | scrubStep (region : Fin 5) (upset : List Nat)
  /-- CONVERSION_STEP (R401): One page of a region is re-encoded under the new strength, ending the pass at the last page. -/
  | conversionStep (region : Fin 5) (upset : List Nat)
  /-- WRITE_BACK (R403): A corrected page is written back once a bank slot is free. -/
  | writeBack (region : Fin 5) (page : Nat)
  /-- FW_SRAM_UE (R405): An uncorrectable firmware SRAM read, faulting the core or ending the item. -/
  | fwSramUe (core : Fin 9) (page : Fin 32768) (fetch : Bool)
  /-- FW_PAGE_REWRITE_DONE (R405): Loam finishes rewriting a failed firmware page from flash and the item may run again. -/
  | fwPageRewriteDone (page : Fin 32768) (good : Bool)
  /-- SOFT_REPAIR_DONE (R408): The copy of a row to its spare ends and the redirect takes effect. -/
  | softRepairDone (region : Fin 5) (bank row : Nat)
  /-- USB_PREFETCH (R166): Fetch of a cycle's periodic entry and EPDs begins 25 µs before the forming time. -/
  | usbPrefetch (root : Fin 24) (view : HostView)
  /-- USB_FORMING_TIME (R166): A root's forming time arrives and the cycle's periodic and asynchronous work is formed. -/
  | usbFormingTime (root : Fin 24) (usb3 : Bool) (view : HostView)
  /-- USB2_RESULT_RECEIVED (R175): A USB2 result record from a terminal, completing or retrying the transaction. -/
  | usb2ResultReceived
  /-- USB2_RESULT_MISSING (R173): No result by the end of the cycle after MFRAME plus delay, counted as a transaction error. -/
  | usb2ResultMissing (root : Fin 24) (xid : BitVec 16)
  /-- NATIVE_TRANSACTION_END (R173): A transaction on a native root ends with a handshake, data, error or timeout. -/
  | nativeTransactionEnd (ep : Fin 4096) (res : Fin 9) (dpid : Fin 4) (data : List Byte) (view : HostView)
  /-- COMPLETE_SPLIT_DUE (R170): A complete-split is issued in a microframe named by CMASK. -/
  | completeSplitDue (ep : Fin 4096) (res : Fin 9) (dpid : Fin 4) (data : List Byte) (view : HostView)
  /-- REMOTE_WAKE (R178): A resume notice or remote wake signal on a root, posting REMOTE_WAKE and resuming. -/
  | remoteWake (root : Fin 24) (tport : Fin 16)
  /-- TUN_ROOT_RESUME_WAIT_END (R177): The 30 ms after a resume PING on a tunnelled root ends, permitting requests. -/
  | tunRootResumeWaitEnd (root : Fin 24)
  /-- ROOT_CONNECT (R180): A connection held for 100 ms on a native root, posting CONNECT. -/
  | rootConnect (root : Fin 24) (speed : Fin 7)
  /-- ROOT_DISCONNECT (R180): A device disconnects from a native root, stopping its endpoints. -/
  | rootDisconnect (root : Fin 24)
  /-- ROOT_RESET_END (R180): A root reset ends, posting RESET_DONE with the speed. -/
  | rootResetEnd (root : Fin 24) (speed : Fin 7)
  /-- ROOT_SUSPEND_IDLE (R180): 3 ms with no bus activity in SUSPENDING, posting SUSPENDED. -/
  | rootSuspendIdle (root : Fin 24)
  /-- ROOT_RESUME_END (R180): Resume signalling and 10 ms recovery end, posting RESUMED. -/
  | rootResumeEnd (root : Fin 24)
  /-- U1U2_TIMEOUT (R172): A per-root U1 or U2 timeout expires and the engine initiates the link state. -/
  | u1u2Timeout (root : Fin 24) (cause : U1u2Cause)
  /-- DEV_ATTACHED (R192): A bound function on a UFP fallback port with VBUS valid attaches. -/
  | devAttached (fn : Fin 2)
  /-- DEV_BUS_RESET (R193): A bus reset on a device function, ending control transfers and stopping rings. -/
  | devBusReset (fn : Fin 2) (speed : Fin 7) (view : HostView)
  /-- DEV_SETUP_RECEIVED (R194): A SETUP packet received, answered by the AX1224 or delivered to the EP0 ring. -/
  | devSetupReceived (fn : Fin 2) (packet : List Byte) (view : HostView)
  /-- DEV_TOKEN (R190): An IN or OUT token to a device endpoint, served from its ring or answered NAK or NRDY. -/
  | devToken (fn : Fin 2) (ep : Fin 16) (dirIn : Bool) (dpid : Fin 4) (data : List Byte) (acked : Bool) (view : HostView)
  /-- DEV_SUSPENDED (R195): 3 ms without bus activity or U3 entry, suspending the function. -/
  | devSuspended (fn : Fin 2)
  /-- DEV_HOST_RESUME (R197): Host resume detected on a suspended function. -/
  | devHostResume (fn : Fin 2)
  /-- DEV_WAKE_SIGNAL_START (R196): A pending remote wake starts signalling after 5 ms of suspend. -/
  | devWakeSignalStart (fn : Fin 2)
  /-- DEV_WAKE_TIMEOUT (R197): No host resume within 100 ms after wake signalling, completing the request TIMEOUT. -/
  | devWakeTimeout (fn : Fin 2)
  /-- DEV_DETACHED (R192): VBUS loss, detach, Hard Reset or Jayth entry detaches a device function. -/
  | devDetached (fn : Fin 2)
  /-- DP_HPD_CHANGE (R202): HPD rises, falls or pulses IRQ_HPD through Attention or DP Status Update. -/
  | dpHpdChange (port : Fin 12) (kind : Fin 3) (linkOk dsc : Bool)
  /-- DP_TRAINED (R201): DisplayPort main-link training completes and the binding enters OPEN. -/
  | dpTrained (port : Fin 12) (ok : Bool)
  /-- CC_ATTACH (R205): A Type-C attach detected on a port, waking its group if needed. -/
  | ccAttach (port : Fin 12) (source flipped : Bool)
  /-- CC_DETACH (R206): A Type-C detach detected, disabling the link and orphaning tunnels. -/
  | ccDetach (port : Fin 12)
  /-- PD_MESSAGE_RECEIVED (R207): A PD message received on SOP, SOP' or SOP'' and handled by the policy engine. -/
  | pdMessageReceived (port : Fin 12) (sop : Fin 3) (bytes : List Byte)
  /-- HARD_RESET_RECEIVED (R223): A Hard Reset received, restoring roles and exiting modes. -/
  | hardResetReceived (port : Fin 12)
  /-- PD_TIMER_EXPIRY (R215): A PD or Type-C timer of Table 8-6 expires in the policy engine. -/
  | pdTimerExpiry (port : Fin 12) (timer : Nat)
  /-- SENDER_RESPONSE_TIMEOUT (R216): tSenderResponse expires while a response is awaited, sending Soft_Reset or Hard Reset. -/
  | senderResponseTimeout (port : Fin 12) (unacked : Bool)
  /-- SWAP_RETRY_EXPIRY (R221): 100 ms after a Wait, the AX1224 resends its own swap request. -/
  | swapRetryExpiry (port : Fin 12)
  /-- EPR_KEEPALIVE_TIMEOUT (R211): tSourceEPRKeepAlive passes without EPR_KeepAlive and the port sends Hard Reset. -/
  | eprKeepaliveTimeout (port : Fin 12)
  /-- FRS_SIGNAL (R222): A valid Fast Role Swap signal, enabling the 5 V path and sending FR_Swap. -/
  | frsSignal (port : Fin 12)
  /-- PSTG_FLT_LOW (R214): J*n*_PSTG_FLT_N falls, opening the path and acting on the stage fault. -/
  | pstgFltLow (port : Fin 12)
  /-- VBUS_SAMPLE (R213): Telemetry sample of VBUS voltage and current, ending transitions or detecting faults. -/
  | vbusSample (port : Fin 12) (mv : Nat) (ma : Int)
  /-- TRANSITION_WINDOW_TIMEOUT (R213): A source transition fails to reach its window within 250 ms, faulting the stage. -/
  | transitionWindowTimeout (port : Fin 12)
  /-- SOURCE_CAPS_UPDATE (R208): New Source_Capabilities sent within 100 ms of a committed stage setting change. -/
  | sourceCapsUpdate (port : Fin 12)
  /-- PG_IDLE_OFF_EXPIRY (R378): 10 s after the last detach, a held-off port group returns off. -/
  | pgIdleOffExpiry (group : Fin 4)
  /-- CHAIN_DISPATCH (R248): Firmware dispatches a ready command chain once its LAST entry is below the producer index. -/
  | chainDispatch (hp : Fin 2) (sl : Fin 256) (q : Fin 64) (entries : List Entry)
  /-- QUEUE_FETCH_ERROR (R253): A read of SQ entries fails and the SQ enters ERROR. -/
  | queueFetchError (hp : Fin 2) (sl : Fin 256) (q : Fin 64) (read : Nat) (cause : Fin 4)
  /-- CQ_WRITE_ERROR (R253): A completion write fails and the CQ enters ERROR. -/
  | cqWriteError (hp : Fin 2) (sl : Fin 256) (q : Fin 64) (cause : Fin 2)
  /-- COMPLETION_WRITE (R249): A held completion is written once its CQ is not full. -/
  | completionWrite (hp : Fin 2) (sl : Fin 256) (q : Fin 64)
  /-- COMPL_RING_STALLED (R249): STALLED stays set for CR_STALL_US and the slice event is raised. -/
  | complRingStalled (hp : Fin 2) (sl : Fin 256) (q : Fin 64)
  /-- MODERATION_TIMER_EXPIRY (R254): A CQ's moderation timer expires and its vector is sent. -/
  | moderationTimerExpiry (hp : Fin 2) (sl : Fin 256) (q : Fin 64)
  /-- NOTICE_OVERFLOW (R245): A NOTICE_OVERFLOW notice is posted when backlog space returns after drops. -/
  | noticeOverflow (fifo : NoticeFifo)
  /-- QP_STOP_DONE (R256): The last abort of a STOPPING pair is written, completing its reset or destroy. -/
  | qpStopDone (hp : Fin 2) (sl : Fin 256) (q : Fin 64)
  /-- SLICE_QUIESCENT (R324): A FREEZING slice reaches quiescence and SLICE_FREEZE completes OK. -/
  | sliceQuiescent (hp : Fin 2) (sl : Fin 256)
  /-- SLICE_FREEZE_TIMEOUT (R318): 10 ms without quiescence, SLICE_FREEZE completes BUSY and fetch resumes. -/
  | sliceFreezeTimeout (hp : Fin 2) (sl : Fin 256)
  /-- SLICE_RESET_DONE (R320): The slice reset sequence ends and its command completes. -/
  | sliceResetDone (hp : Fin 2) (sl : Fin 256)
  /-- GENERATION_DRAINED (R316): The oldest in-flight generation drains and a waiting increment proceeds. -/
  | generationDrained (hp : Fin 2) (sl : Fin 256)
  /-- HOST_PORT_LOSS (R331): A host port link loss, hot reset, link disable or PERST_N puts its slices in HOST_LOST. -/
  | hostPortLoss (hp : Fin 2)
  /-- HOST_PORT_RETURN (R318): A lost host port returns to DL_Active; slice 0 ACTIVE and other slices DISABLED. -/
  | hostPortReturn (hp : Fin 2) (rate : Fin 5) (width : Fin 4)
  /-- FUNCTION_LEVEL_RESET (R335): An FLR of a host port, handled as a loss of that port. -/
  | functionLevelReset (hp : Fin 2)
  /-- HOST_LINK_RATE_CHANGE (R338): A host link changes rate or width, recomputing its ceiling and raising its level if needed. -/
  | hostLinkRateChange (hp : Fin 2) (rate : Fin 5) (width : Fin 4)
  /-- HOST_POWER_STATE_CHANGE (R255): A host port enters or leaves D3hot, L2 or L3, or changes Bus Master Enable, holding or releasing completions. -/
  | hostPowerStateChange (hp : Fin 2) (power : Fin 3) (bme pmeEn ptmEn : Bool) (bar0 : Option (BitVec 64)) (ctoMs : Nat)
  /-- HOST_READ_TIMEOUT (R336): A host read reaches the completion timeout, a bus or fetch error for its user. -/
  | hostReadTimeout (user : ReadUser)
  /-- DMA_JOB_START (R282): A channel starts a job entry, loading registers and checking TUN_OUT ownership. -/
  | dmaJobStart (ch : Fin 64) (view : HostView)
  /-- DMA_MOVE (R284): MOVE instruction converts and moves elements between address spaces. -/
  | dmaMove (ch : Fin 64) (view : HostView) (fault : Fin 3)
  /-- DMA_LOOP (R285): LOOP instruction runs its body and advances registers. -/
  | dmaLoop (ch : Fin 64) (view : HostView) (fault : Fin 3)
  /-- DMA_WAIT (R286): WAIT instruction consumes triggers, making the next landed block current. -/
  | dmaWait (ch : Fin 64) (view : HostView) (fault : Fin 3)
  /-- DMA_SIGNAL (R287): SIGNAL instruction posts an entry, delivers a trigger or closes an outbound block. -/
  | dmaSignal (ch : Fin 64) (view : HostView) (fault : Fin 3)
  /-- DMA_SETUP (R288): SETUP instruction sets conversion, reshuffle and check state. -/
  | dmaSetup (ch : Fin 64) (view : HostView) (fault : Fin 3)
  /-- DMA_END (R289): END instruction stores the check value and finishes the job and chain. -/
  | dmaEnd (ch : Fin 64) (view : HostView) (fault : Fin 3)
  /-- DMA_TIMER_EXPIRY (R296): A DMA timer expires and adds a trigger to channels that name it. -/
  | dmaTimerExpiry (timer : Fin 16)
  /-- DMA_WAIT_TIMEOUT (R286): A WAIT's TIMEOUT passes first and the channel halts with WAIT_TIMEOUT. -/
  | dmaWaitTimeout (ch : Fin 64)
  /-- DMA_RETRY_EXPIRY (R302): A bus-error retry wait ends and the access is retried or the channel halts. -/
  | dmaRetryExpiry (ch : Fin 64) (view : HostView) (fault : Fin 3)
  /-- BLOCK_LANDED (R298): A SMPL block's BL cell lands in a channel's slot and its trigger is counted. -/
  | blockLanded (ch : Fin 64)
  /-- EVC_SOURCE_ASSERT (R367): An EVC source is asserted, becoming PENDING or counting in OCCUR. -/
  | evcSourceAssert (src : Fin 512) (rise : Bool)
  /-- WORK_ITEM_DISPATCH (R360): Shallot dispatches an item to an idle eligible slot. -/
  | workItemDispatch (ended : List (Fin 9))
  /-- EVC_INTERRUPT_TAKEN (R368): An interrupt-mode source is taken by the eligible slot of lowest running priority. -/
  | evcInterruptTaken (src : Fin 512)
  /-- EVC_CLAIM (R369): Firmware claims a source, reading OCCUR and STALE. -/
  | evcClaim (src : Fin 512) (core : Fin 9)
  /-- EVC_COMPLETE (R369): Firmware completes a claimed source, which goes IDLE or is raised again. -/
  | evcComplete (src : Fin 512)
  /-- CLAIM_OVERDUE (R370): A source stays IN_SERVICE for 10 ms and raises source 0x1E2. -/
  | claimOverdue (src : Fin 512)
  /-- DIRECT_ENQUEUE (R359): Firmware enqueues an item directly, or is refused when the store is full. -/
  | directEnqueue (item : Item)
  /-- DELAY_INSERT (R363): Firmware inserts an item on a delay list with a delay in ticks. -/
  | delayInsert (list : Fin 4) (item : Item) (d : BitVec 32)
  /-- DELAY_CANCEL (R364): Firmware cancels a pending delay item. -/
  | delayCancel (list : Fin 4) (ident : Nat)
  /-- DELAY_TICK (R364): A tick moves due delay items to their ready lists. -/
  | delayTick
  /-- CORE_ROTATION (R356): The 24 h rotation passes a slot to the spare and drains the outgoing core. -/
  | coreRotation
  /-- CORE_DRAIN_DONE (R355): A DRAINING core's item and handlers end and it self-tests. -/
  | coreDrainDone (core : Fin 9)
  /-- SELF_TEST_DONE (R355): A core's self-test passes to SPARE or fails to FAULTED. -/
  | selfTestDone (core : Fin 9) (pass : Bool)
  /-- SPARE_SELFTEST_EXPIRY (R355): An hour after its last self-test the spare self-tests. -/
  | spareSelftestExpiry
  /-- FAULTED_RETEST_EXPIRY (R355): 10 s after a fault, a core with fewer than three faults in 24 h self-tests. -/
  | faultedRetestExpiry (core : Fin 9)
  /-- CORE_FAULT (R357): A core faults, its item is requeued, claims released and the spare takes the slot. -/
  | coreFault (core : Fin 9)
  /-- ITEM_LIMIT_OVERRUN (R358): An item runs past ITEM_LIMIT and is re-dispatched, or discarded with CORE_HUNG. -/
  | itemLimitOverrun (core : Fin 9)
  /-- BROWNOUT_WARN (R390): A rail crosses below its warning level and a brownout hold begins. -/
  | brownoutWarn (rail : Fin 6) (mv : Nat)
  /-- RAIL_RETURN (R391): Every rail returns within the hold window, ending the hold and restoring levels. -/
  | railReturn (low : Nat)
  /-- HOLD_WINDOW_EXPIRY (R392): The hold window expires with a rail still low, entering LOW_SUPPLY. -/
  | holdWindowExpiry
  /-- LOW_SUPPLY_END (R392): Every rail stands above warning for 100 ms, ending LOW_SUPPLY. -/
  | lowSupplyEnd (low : Nat)
  /-- SWITCHED_DOMAIN_RESET (R394): VCORE_IN, VIO18 or VIO33 falls below reset, resetting every switched domain and restarting start-up. -/
  | switchedDomainReset (rail : Fin 6)
  /-- SERDES_RAIL_LOSS (R394): A SerDes rail falls below reset, idling every transmitter and losing links. -/
  | serdesRailLoss (rail : Fin 6)
  /-- COLD_START (R20): VAON falls below its reset level, a cold start of the whole device. -/
  | coldStart
  /-- LEVEL_CHANGE_DONE (R380): An island reaches its new voltage and clock, completing PM_LEVEL. -/
  | levelChangeDone (agent : Fin 28)
  /-- DOMAIN_SEQUENCE_DONE (R377): A domain's off or on sequence, and any MARL_B drain, ends. -/
  | domainSequenceDone (domain : Fin 12)
  /-- SLEEP_ENTRY (R383): The last core waits and entry to the requested sleep state runs to its end. -/
  | sleepEntry (done : Bool)
  /-- WAKE_EVENT (R387): An enabled wake source ends a sleep state, or is latched during entry. -/
  | wakeEvent (src : WakeSrc)
  /-- SLEEP_EXIT_DONE (R388): Exit completes, restoring state and replaying a wake latched during entry. -/
  | sleepExitDone
  /-- DOZE_UNGATE (R384): Work arrives at a gated island in DOZE and its clock is ungated. -/
  | dozeUngate (agent : Fin 28)
  /-- ENERGY_SAMPLE (R395): The 1 ms rail measurement updates island and tunnel energy counters. -/
  | energySample (islands tunnels overhead : List (Nat × Nat))
  /-- PMBUS_POLL (R353): Every 10 ms or on PMB_ALERT_N, STATUS_WORD of each regulator is read. -/
  | pmbusPoll (reg : Fin 4) (status : Option (BitVec 16))
  /-- REFCLK_LOST (R340): A reference clock input becomes invalid, switching or entering holdover. -/
  | refclkLost (input : Fin 2)
  /-- REFCLK_VALID (R340): An input becomes valid after 100 ms of good measurement, ending holdover. -/
  | refclkValid (input : Fin 2)
  /-- PREFERRED_RETURN (R341): The preferred input has been valid for 10 s and the AX1224 returns to it. -/
  | preferredReturn
  /-- FOLLOWER_INVALID (R24): A timebase follower misses two 1 µs full values and marks stamps invalid. -/
  | followerInvalid (agent : Fin 28)
  /-- PTM_DIALOGUE (R344): The 10 ms PTM dialogue with the root updates the PTM result registers. -/
  | ptmDialogue (hp : Fin 2) (t1 master : BitVec 64) (delay : BitVec 32)
  /-- ETH_FRAME_RECEIVED (R350): An Ethernet frame received, mapped by VLAN to a NET tunnel or discarded. -/
  | ethFrameReceived (ep : Fin 4) (frame : List Byte)
  /-- DISP_SEGMENT (R89): The DISP island forms a segment cell of a bound stream or discards an unbound one. -/
  | dispSegment (dpi : Fin 8) (stream : Fin 4) (seg flags line off : Nat) (frame : BitVec 8) (data : List Byte)
  /-- DPI_HPD_PULSE_END (R346): The 2 ms HPD low after a DPI_CFG change ends and HPD rises. -/
  | dpiHpdPulseEnd (dpi : Fin 8)
  /-- JOURNAL_DEFERRED_COMMIT (R419): A commit waiting for journal space or a hold is committed. -/
  | journalDeferredCommit
  /-- JOURNAL_DRAIN (R421): Entries are written to a host journal ring with space and its producer index advanced. -/
  | journalDrain (hp : Fin 2)
  /-- PERSIST_PAGE (R423): Eight entries wait or 10 ms pass and a journal page is programmed and read back. -/
  | persistPage (good : Bool)
  /-- TRACE_DRAIN (R425): Trace records are written to bound sinks as room allows. -/
  | traceDrain
  /-- LOSS_RECORD (R425): A trace loss record is written when room returns after losses. -/
  | lossRecord (place : LossPlace)
  /-- ALARM_VECTOR (R427): A coalesced alarm vector is sent at most once per 1 ms on a new occurrence. -/
  | alarmVector (hp : Fin 2)
  /-- SILT_RING_VECTOR (R429): A journal or trace ring vector is sent at most once per 100 µs as its producer index advances. -/
  | siltRingVector (hp : Fin 2) (trace : Bool)
  /-- POWER_GOOD (R479): PWRGD high with every rail in range, starting fuse load and start-up. -/
  | powerGood (recovery : Bool) (smbAddr : BitVec 2)
  /-- FUSE_LOAD_DONE (R433): Fuse load ends and select records and candidate images are read. -/
  | fuseLoadDone (keyHash : List Byte) (serial : BitVec 48) (options0 : BitVec 32) (options1 : BitVec 32) (trim : BitVec 512) (repairMap : List (BitVec 32))
  /-- IMAGE_VERIFIED (R436): A candidate image is read and checked, accepted or the next tried. -/
  | imageVerified (readError : Bool)
  /-- START_UP_RELEASE (R440): COMMANDS and PLAN START are applied and the device is released. -/
  | startUpRelease (sources : List (Fin 512 × SrcCfg))
  /-- UPDATE_ROTATION (R446): A live update rotation moves a slot between firmware versions. -/
  | updateRotation
  /-- CLASS_MOVE (R447): At the fence, a class's running items end and it moves to the new version. -/
  | classMove (cls : BitVec 16) (last : Bool)
  /-- UPDATE_ROLLBACK (R448): A self-test, takeover or hang failure rolls the update back. -/
  | updateRollback (takeover : Bool)
  /-- LOAM_COPY_FAULT (R450): A Loam copy fails, and the standby takes over if the active failed. -/
  | loamCopyFault (copyB : Bool)
  /-- LOAM_COPY_RETRY_EXPIRY (R450): 10 s after failing, a Loam copy is reset, self-tests and starts syncing. -/
  | loamCopyRetryExpiry (copyB : Bool)
  /-- LOAM_SYNC_DONE (R450): A syncing Loam copy has the whole state and enters STANDBY. -/
  | loamSyncDone (copyB : Bool)
  /-- ETH_LINK_CHANGE (R387): An Ethernet port's link comes up or goes down, raising its EVC source, changing the NET use of Table 15-2 and acting as wake source 18. -/
  | ethLinkChange (ep : Fin 4) (up : Bool)
  /-- DPI_LINK_CHANGE (R387): A DisplayPort source connects to a DPI input, starts or ends training, or loses its main link, raising the DPI link source and acting as wake source 17. -/
  | dpiLinkChange (dpi : Fin 8) (kind : Fin 5) (rate : Fin 6) (lanes : Fin 5)
  /-- TIMEBASE_FULL_VALUE (R24): The timebase tree delivers the full 64-bit value to every follower once per 1 µs, reloading a follower that marked its stamps invalid. -/
  | timebaseFullValue
  /-- SLEW_OFFSET_REMOVED (R343): TB_SLEW_LEFT reaches 0, SLEWING clears and the timebase rate returns to the steady TRIM. -/
  | slewOffsetRemoved
  /-- MSIX_VECTOR_UNMASK (R255): Host software clears the mask of an MSI-X vector that has a pending bit in the PBA, and the AX1224 sends the pending message. -/
  | msixVectorUnmask (hp : Fin 2) (vec : Fin 2048)
  /-- FLASH_OPERATION_DONE (R443): The erase, program and read-back of an IMAGE_WRITE chunk, or the slot read of IMAGE_SELECT, ends and the command completes OK or MEDIA_ERROR. -/
  | flashOperationDone (good : Bool)
  /-- FUSE_BURN_DONE (R410): The burn and read-back of a queued repair entry ends, and FUSE_PROGRAM goes on to the next entry or completes. -/
  | fuseBurnDone (good : Bool)
  /-- HOST_READ_COMPLETION (R336): A completion TLP for a host read issued by the AX1224 arrives: SQ entries, DMA or USB data, a program line, FW_STAGE or slice blob data. -/
  | hostReadCompletion (hp : Fin 2) (sl : Fin 256) (addr : BitVec 64) (bytes : List Byte)
  /-- NOVIDEO_PERIOD (R89): While the source of a bound stream has stopped, a NOVIDEO segment is sent once per 1 ms. -/
  | novideoPeriod (dpi : Fin 8) (stream : Fin 4)
  deriving DecidableEq, Repr

end Sys2Proof
end

