-- ==== Sys2Proof/Config.lean ====
section
/-! DEFINITION. Sys2Proof/Config.lean: the values the spec leaves open, as constants without a body. Each is applied to the free-value counter of the state or to the operands it depends on, so nothing can be proved about which value it is. -/

namespace Sys2Proof

/-- R424: the EVENT code that the firmware gives a trace record (DESIGN CHOICE, log entry 7). -/
opaque Config.traceEvent : Nat → BitVec 16

/-- R424: the ARGS the firmware gives a trace record (DESIGN CHOICE, log entry 7). -/
opaque Config.traceArgs : Nat → BitVec 128

/-- R399: whether a pattern of errors beyond t + 1 (or beyond t at t = 8) lies within t of another codeword: by region, t and pattern (DESIGN CHOICE, log entry 17). -/
opaque Config.miscorrects : Nat → Nat → List Nat → Bool

/-- R47: the receiver state that an equalisation finds: analogue, so its content is free (DESIGN CHOICE, log entry 21). -/
opaque Config.rxState : Nat → BitVec 64

/-- R40, R41: what the receiver of a lane asks of the far transmitter: PRESET in bits 2:0, COEF_MODE in bit 3, C_PRE in bits 9:4, C_POST in bits 15:10 (DESIGN CHOICE, log entry 144). -/
opaque Config.eqRequest : Nat → BitVec 16

/-- Table 2-3: the TAG of the physical pair of a lane of the AX1224 (DESIGN CHOICE, log entry 145). -/
opaque Config.laneTag : Nat → BitVec 2

/-- R165: CYCLE in the completion of a USB chain that has run no transaction (DESIGN CHOICE, log entry 157). -/
opaque Config.noCycle : Nat → BitVec 32

/-- R225, R448, Table 13-1: the silicon revision (DESIGN CHOICE, log entry 22). DESIGN CHOICE, log entry 145. -/
opaque Config.silicon : BitVec 8

/-- R207: the contents of a PD message that the spec supports without giving its fields: by port and message type, 32 for an extended one (DESIGN CHOICE, log entry 23). -/
opaque Config.pdContents : Nat → Nat → List Byte

/-- R325: the body of a slice blob, whose layout is private to the firmware (DESIGN CHOICE, log entry 24). -/
opaque Config.blobBody : Nat → List Byte

/-- R430: the size of the configuration flash, of which the spec gives only the least (DESIGN CHOICE, log entry 26). -/
opaque Config.flashBytes : Nat

/-- R443: what a chunk of flash holds after its programming failed (DESIGN CHOICE, log entry 27). -/
opaque Config.flashRest : Nat → List Byte

/-- R397, R405: the page of a copy of the Loam memory at which the journal ring begins, which the spec does not give. DESIGN CHOICE, log entry 174. -/
opaque Config.journalPage : Nat

end Sys2Proof
end

