-- ==== Sys2Proof/Machine/Operands.lean ====
section
/-! DEFINITION. Sys2Proof/Machine/Operands.lean: little-endian fields of payloads, entries and register windows (R10), and the format check of a command payload (R9, R263 step 1). -/

namespace Sys2Proof.Machine

/-- Byte `i` of a byte string; a byte it does not hold reads 0. -/
def byteAt (p : List Byte) (i : Nat) : Nat := (p.getD i 0).toNat

/-- R10: the little-endian number in `n` bytes from offset `off`. -/
def le (p : List Byte) (off : Nat) : Nat → Nat
  | 0 => 0
  | n + 1 => byteAt p off + 256 * le p (off + 1) n

/-- R10: a number as `n` little-endian bytes. -/
def toLe : Nat → Nat → List Byte
  | 0, _ => []
  | n + 1, v => BitVec.ofNat 8 v :: toLe n (v / 256)

/-- A number as `n` big-endian bytes. -/
def toBe (n v : Nat) : List Byte := (toLe n v).reverse

/-- The big-endian number of a byte string. -/
def beNat (p : List Byte) : Nat := p.foldl (fun a b => a * 256 + b.toNat) 0

/-- Bits `hi` down to `lo` of a number. -/
def bits (v hi lo : Nat) : Nat := v / 2 ^ lo % 2 ^ (hi + 1 - lo)

/-- Bit `i` of a number. -/
def bitOf (v i : Nat) : Bool := v.testBit i

/-- A flag as a number. -/
def flag (b : Bool) : Nat := if b then 1 else 0

/-- A byte string cut or padded with zeros to `n` bytes. -/
def padTo (n : Nat) (p : List Byte) : List Byte := (List.range n).map fun i => p.getD i 0

/-- The byte string with `bs` stored from offset `off`, padded with zeros where needed. -/
def putBytes (p : List Byte) (off : Nat) (bs : List Byte) : List Byte :=
  (List.range (max p.length (off + bs.length))).map fun i =>
    if off ≤ i && i < off + bs.length then bs.getD (i - off) 0 else p.getD i 0

/-- One field of a payload: its byte offset, its length in bytes, and the values it may hold. -/
structure Field where
  off : Nat
  len : Nat
  ok : Nat → Bool

/-- The field's bytes are inside it. -/
def Field.covers (f : Field) (i : Nat) : Bool := decide (f.off ≤ i) && decide (i < f.off + f.len)

/-- R263 step 1: the payload offset of the first field whose value is not allowed, or of the first reserved byte that is not 0. -/
def firstBad (fs : List Field) (p : List Byte) : Option Nat :=
  ((List.range p.length).filter fun i =>
    match fs.find? (·.covers i) with
    | some f => decide (f.off = i) && !f.ok (le p f.off f.len)
    | none => decide (byteAt p i ≠ 0)).head?

/-- A field that may hold any value. -/
def anyField (off len : Nat) : Field := ⟨off, len, fun _ => true⟩

/-- A field from `lo` to `hi`. -/
def rangeField (off len lo hi : Nat) : Field := ⟨off, len, fun v => decide (lo ≤ v) && decide (v ≤ hi)⟩

/-- The signed value of a `w`-bit number. -/
def signed (w v : Nat) : Int := if v < 2 ^ (w - 1) then (v : Int) else (v : Int) - (2 ^ w : Nat)

/-- The saturating sum of a counter of `w` bits. -/
def satAdd (w a b : Nat) : Nat := min (a + b) (2 ^ w - 1)

end Sys2Proof.Machine
end

