-- ==== Sys2Proof/Machine/Digest.lean ====
section
/-! DEFINITION. Sys2Proof/Machine/Digest.lean: SHA-256 (R415, R416), SHA-384 and ECDSA P-384 (R435, R436), and the CRCs of R293, as the standards those rules name define them. -/

namespace Sys2Proof.Machine

/-- The first `n` prime numbers are found by trial division over a bounded range. -/
def isPrime (n : Nat) : Bool := decide (2 ≤ n) && (List.range (n - 2)).all fun k => decide (n % (k + 2) ≠ 0)

/-- The round constants of SHA-256. -/
def sha256K : List (BitVec 32) :=
  [0x428a2f98, 0x71374491, 0xb5c0fbcf, 0xe9b5dba5, 0x3956c25b, 0x59f111f1, 0x923f82a4, 0xab1c5ed5,
   0xd807aa98, 0x12835b01, 0x243185be, 0x550c7dc3, 0x72be5d74, 0x80deb1fe, 0x9bdc06a7, 0xc19bf174]
  ++ [0xe49b69c1, 0xefbe4786, 0x0fc19dc6, 0x240ca1cc, 0x2de92c6f, 0x4a7484aa, 0x5cb0a9dc, 0x76f988da,
   0x983e5152, 0xa831c66d, 0xb00327c8, 0xbf597fc7, 0xc6e00bf3, 0xd5a79147, 0x06ca6351, 0x14292967]
  ++ [0x27b70a85, 0x2e1b2138, 0x4d2c6dfc, 0x53380d13, 0x650a7354, 0x766a0abb, 0x81c2c92e, 0x92722c85,
   0xa2bfe8a1, 0xa81a664b, 0xc24b8b70, 0xc76c51a3, 0xd192e819, 0xd6990624, 0xf40e3585, 0x106aa070]
  ++ [0x19a4c116, 0x1e376c08, 0x2748774c, 0x34b0bcb5, 0x391c0cb3, 0x4ed8aa4a, 0x5b9cca4f, 0x682e6ff3,
   0x748f82ee, 0x78a5636f, 0x84c87814, 0x8cc70208, 0x90befffa, 0xa4506ceb, 0xbef9a3f7, 0xc67178f2]

/-- Merkle–Damgård padding: 0x80, zeros, then the bit length in `lenBytes` big-endian bytes, to a multiple of `block`. -/
def shaPad (block lenBytes : Nat) (m : List Byte) : List Byte :=
  let used := m.length + 1 + lenBytes
  m ++ [0x80] ++ List.replicate ((block - used % block) % block) 0 ++ toBe lenBytes (8 * m.length)

/-- One step of the SHA-256 message schedule, the sixteen latest words newest first. -/
def sha256Next (w : List (BitVec 32)) : BitVec 32 :=
  let a := w.getD 14 0
  let b := w.getD 1 0
  let s0 := a.rotateRight 7 ^^^ a.rotateRight 18 ^^^ (a >>> 3)
  let s1 := b.rotateRight 17 ^^^ b.rotateRight 19 ^^^ (b >>> 10)
  w.getD 15 0 + s0 + w.getD 6 0 + s1

/-- The working variables of SHA-256. -/
structure Sha256Vars where
  a : BitVec 32
  b : BitVec 32
  c : BitVec 32
  d : BitVec 32
  e : BitVec 32
  f : BitVec 32
  g : BitVec 32
  h : BitVec 32

/-- One round of SHA-256 with round constant `k` and schedule word `w`. -/
def sha256Round (v : Sha256Vars) (k w : BitVec 32) : Sha256Vars :=
  let s1 := v.e.rotateRight 6 ^^^ v.e.rotateRight 11 ^^^ v.e.rotateRight 25
  let ch := (v.e &&& v.f) ^^^ (~~~v.e &&& v.g)
  let t1 := v.h + s1 + ch + k + w
  let s0 := v.a.rotateRight 2 ^^^ v.a.rotateRight 13 ^^^ v.a.rotateRight 22
  let maj := (v.a &&& v.b) ^^^ (v.a &&& v.c) ^^^ (v.b &&& v.c)
  ⟨t1 + (s0 + maj), v.a, v.b, v.c, v.d + t1, v.e, v.f, v.g⟩

/-- The rounds of one block: `ahead` holds the words still to use of the first sixteen, `w` the latest sixteen. -/
def sha256Rounds : List (BitVec 32) → List (BitVec 32) → List (BitVec 32) → Sha256Vars → Sha256Vars
  | [], _, _, v => v
  | k :: ks, x :: ahead, w, v => sha256Rounds ks ahead (x :: w) (sha256Round v k x)
  | k :: ks, [], w, v =>
    let x := sha256Next w
    sha256Rounds ks [] (x :: w.take 15) (sha256Round v k x)

/-- The big-endian 32-bit words of a byte string, `n` of them. -/
def words32 (p : List Byte) : Nat → List (BitVec 32)
  | 0 => []
  | n + 1 => BitVec.ofNat 32 (beNat (p.take 4)) :: words32 (p.drop 4) n

/-- SHA-256 of one 64-byte block. -/
def sha256Block (v : Sha256Vars) (blk : List Byte) : Sha256Vars :=
  let r := sha256Rounds sha256K (words32 blk 16) [] v
  ⟨v.a + r.a, v.b + r.b, v.c + r.c, v.d + r.d, v.e + r.e, v.f + r.f, v.g + r.g, v.h + r.h⟩

/-- The blocks of a padded message, one after another. -/
def sha256Blocks : Nat → List Byte → Sha256Vars → Sha256Vars
  | 0, _, v => v
  | n + 1, m, v => sha256Blocks n (m.drop 64) (sha256Block v (m.take 64))

/-- SHA-256 of a byte string, 32 bytes in output order. -/
def sha256 (m : List Byte) : List Byte :=
  let p := shaPad 64 8 m
  let v := sha256Blocks (p.length / 64) p
    ⟨0x6a09e667, 0xbb67ae85, 0x3c6ef372, 0xa54ff53a, 0x510e527f, 0x9b05688c, 0x1f83d9ab, 0x5be0cd19⟩
  [v.a, v.b, v.c, v.d, v.e, v.f, v.g, v.h].flatMap fun x => toBe 4 x.toNat

/-- R415: a digest is the first 4 bytes of SHA-256 of the canonical value. -/
def digest (canonical : List Byte) : List Byte := (sha256 canonical).take 4

/-- The 80 round constants of SHA-384: the first 64 bits of the fractional parts of the cube roots of the first 80 primes. -/
def cubeRootFrac (p : Nat) : BitVec 64 :=
  BitVec.ofNat 64 ((List.range 68).foldl (fun r i =>
    let t := r + 2 ^ (67 - i)
    if t * t * t ≤ p * 2 ^ 192 then t else r) 0)

/-- The primes that SHA-384 takes its constants from. -/
def sha384Primes : List Nat := (List.range 410).filter isPrime

/-- The rounds of SHA-384 share the shape of SHA-256 with 64-bit words. -/
structure Sha384Vars where
  a : BitVec 64
  b : BitVec 64
  c : BitVec 64
  d : BitVec 64
  e : BitVec 64
  f : BitVec 64
  g : BitVec 64
  h : BitVec 64

/-- One step of the SHA-384 message schedule. -/
def sha384Next (w : List (BitVec 64)) : BitVec 64 :=
  let a := w.getD 14 0
  let b := w.getD 1 0
  let s0 := a.rotateRight 1 ^^^ a.rotateRight 8 ^^^ (a >>> 7)
  let s1 := b.rotateRight 19 ^^^ b.rotateRight 61 ^^^ (b >>> 6)
  w.getD 15 0 + s0 + w.getD 6 0 + s1

/-- One round of SHA-384. -/
def sha384Round (v : Sha384Vars) (k w : BitVec 64) : Sha384Vars :=
  let s1 := v.e.rotateRight 14 ^^^ v.e.rotateRight 18 ^^^ v.e.rotateRight 41
  let ch := (v.e &&& v.f) ^^^ (~~~v.e &&& v.g)
  let t1 := v.h + s1 + ch + k + w
  let s0 := v.a.rotateRight 28 ^^^ v.a.rotateRight 34 ^^^ v.a.rotateRight 39
  let maj := (v.a &&& v.b) ^^^ (v.a &&& v.c) ^^^ (v.b &&& v.c)
  ⟨t1 + (s0 + maj), v.a, v.b, v.c, v.d + t1, v.e, v.f, v.g⟩

/-- The rounds of one SHA-384 block. -/
def sha384Rounds : List (BitVec 64) → List (BitVec 64) → List (BitVec 64) → Sha384Vars → Sha384Vars
  | [], _, _, v => v
  | k :: ks, x :: ahead, w, v => sha384Rounds ks ahead (x :: w) (sha384Round v k x)
  | k :: ks, [], w, v =>
    let x := sha384Next w
    sha384Rounds ks [] (x :: w.take 15) (sha384Round v k x)

/-- The big-endian 64-bit words of a byte string. -/
def words64 (p : List Byte) : Nat → List (BitVec 64)
  | 0 => []
  | n + 1 => BitVec.ofNat 64 (beNat (p.take 8)) :: words64 (p.drop 8) n

/-- The blocks of a padded message. -/
def sha384Blocks (ks : List (BitVec 64)) : Nat → List Byte → Sha384Vars → Sha384Vars
  | 0, _, v => v
  | n + 1, m, v =>
    let r := sha384Rounds ks (words64 (m.take 128) 16) [] v
    sha384Blocks ks n (m.drop 128)
      ⟨v.a + r.a, v.b + r.b, v.c + r.c, v.d + r.d, v.e + r.e, v.f + r.f, v.g + r.g, v.h + r.h⟩

/-- SHA-384 of a byte string, 48 bytes in output order (R435, R436). -/
def sha384 (m : List Byte) : List Byte :=
  let p := shaPad 128 16 m
  let v := sha384Blocks (sha384Primes.map cubeRootFrac) (p.length / 128) p
    ⟨0xcbbb9d5dc1059ed8, 0x629a292a367cd507, 0x9159015a3070dd17, 0x152fecd8f70e5939,
     0x67332667ffc00b31, 0x8eb44a8768581511, 0xdb0c2e0d64f98fa7, 0x47b5481dbefa4fa4⟩
  [v.a, v.b, v.c, v.d, v.e, v.f].flatMap fun x => toBe 8 x.toNat

/-- The field prime of P-384. -/
def p384P : Nat := 2 ^ 384 - 2 ^ 128 - 2 ^ 96 + 2 ^ 32 - 1

/-- The order of the P-384 base point. -/
def p384N : Nat :=
  0xffffffffffffffffffffffffffffffffffffffffffffffffc7634d81f4372ddf581a0db248b0a77aecec196accc52973

/-- The curve coefficient b of P-384. -/
def p384B : Nat :=
  0xb3312fa7e23ee7e4988e056be3f82d19181d9c6efe8141120314088f5013875ac656398d8a2ed19d2a85c8edd3ec2aef

/-- The base point of P-384. -/
def p384G : Nat × Nat :=
  (0xaa87ca22be8b05378eb1c71ef320ad746e1d3b628ba79b9859f741e082542a385502f25dbf55296c3a545e3872760ab7,
   0x3617de4a96262c6f5d9e98bf9292dc29f8f41dbd289a147ce9da3113b5f0b8c00a60b1ce1d7e819d7a431d7c90ea0e5f)

/-- `b` to the power `e` modulo `m`, over `fuel` bits of the exponent. -/
def powMod (m : Nat) : Nat → Nat → Nat → Nat
  | 0, _, _ => 1 % m
  | fuel + 1, b, e =>
    let r := powMod m fuel (b * b % m) (e / 2)
    if e % 2 = 1 then r * b % m else r

/-- The inverse modulo a prime below 2^384. -/
def invMod (m a : Nat) : Nat := powMod m 384 a (m - 2)

/-- A point in Jacobian coordinates; Z = 0 is the point at infinity. -/
structure JPoint where
  x : Nat
  y : Nat
  z : Nat

/-- Subtraction modulo the field prime. -/
def fsub (a b : Nat) : Nat := (a + (p384P - b % p384P)) % p384P

/-- Doubling a point of P-384. -/
def jDouble (p : JPoint) : JPoint :=
  if p.z = 0 then p else
  let y2 := p.y * p.y % p384P
  let s := 4 * p.x * y2 % p384P
  let z2 := p.z * p.z % p384P
  let m := 3 * (fsub p.x z2) * (p.x + z2) % p384P
  let x := fsub (m * m % p384P) (2 * s)
  ⟨x, fsub (m * fsub s x % p384P) (8 * (y2 * y2 % p384P)), 2 * p.y * p.z % p384P⟩

/-- Adding two points of P-384. -/
def jAdd (p q : JPoint) : JPoint :=
  if p.z = 0 then q else if q.z = 0 then p else
  let z1 := p.z * p.z % p384P
  let z2 := q.z * q.z % p384P
  let u1 := p.x * z2 % p384P
  let u2 := q.x * z1 % p384P
  let s1 := p.y * z2 * q.z % p384P
  let s2 := q.y * z1 * p.z % p384P
  if u1 = u2 then
    if s1 = s2 then jDouble p else ⟨1, 1, 0⟩
  else
    let h := fsub u2 u1
    let r := fsub s2 s1
    let h2 := h * h % p384P
    let h3 := h2 * h % p384P
    let v := u1 * h2 % p384P
    let x := fsub (fsub (r * r % p384P) h3) (2 * v)
    ⟨x, fsub (r * fsub v x % p384P) (s1 * h3), h * p.z * q.z % p384P⟩

/-- `k` times a point, over `fuel` bits of `k` from the lowest. -/
def jMul : Nat → Nat → JPoint → JPoint
  | 0, _, _ => ⟨1, 1, 0⟩
  | fuel + 1, k, p =>
    let r := jMul fuel (k / 2) (jDouble p)
    if k % 2 = 1 then jAdd r p else r

/-- R435: the ECDSA P-384 signature (r, s) over a digest verifies under the public key (x, y). -/
def ecdsaP384 (x y r s : Nat) (hash : List Byte) : Bool :=
  let onCurve := decide (y * y % p384P = (x * x % p384P * x + (p384P - 3) * x + p384B) % p384P)
  let z := beNat hash
  let w := invMod p384N s
  let q := jAdd (jMul 384 (z * w % p384N) ⟨p384G.1, p384G.2, 1⟩) (jMul 384 (r * w % p384N) ⟨x, y, 1⟩)
  let zi := invMod p384P q.z
  decide (0 < r) && decide (r < p384N) && decide (0 < s) && decide (s < p384N)
    && decide (x < p384P) && decide (y < p384P) && onCurve
    && decide (q.z ≠ 0) && decide (q.x * (zi * zi % p384P) % p384P % p384N = r)

/-- One bit of a reflected CRC with polynomial `poly`. -/
def crcBit (poly c : BitVec 32) : BitVec 32 := if c.getLsbD 0 then (c >>> 1) ^^^ poly else c >>> 1

/-- One byte of a reflected CRC. -/
def crcByte (poly c : BitVec 32) (b : Byte) : BitVec 32 :=
  (List.range 8).foldl (fun x _ => crcBit poly x) (c ^^^ b.setWidth 32)

/-- R293: CRC-32 (IEEE 802.3), reflected polynomial 0xEDB88320, initial value and final inversion all ones. -/
def crc32 (m : List Byte) : BitVec 32 := ~~~(m.foldl (crcByte 0xEDB88320) 0xFFFFFFFF)

/-- R293: CRC-32C (Castagnoli), reflected polynomial 0x82F63B78. -/
def crc32c (m : List Byte) : BitVec 32 := ~~~(m.foldl (crcByte 0x82F63B78) 0xFFFFFFFF)

end Sys2Proof.Machine
end

