-- ==== Sys2Proof/Machine/State.lean ====
section
/-! DEFINITION. Sys2Proof/Machine/State.lean: the state of the AX1224 as plain data, its reset value, the faults and refusals. Tables are lists of (key, value) pairs in one canonical form (Machine/Tab.lean): keys strictly rising, no entry equal to the default, and the default is the reset value `{}` of the record unless the field's docstring says otherwise. -/

set_option maxRecDepth 4000

namespace Sys2Proof.Machine

/-- R28 R71 R72 R75; why a lane leaves its set. -/
inductive TransitKind where
  | turnOut
  | turnIn
  | recal
  | exclude
  deriving DecidableEq, Repr

/-- R71 R72 R74; how far the lane change has gone. -/
inductive TransitPhase where
  | rotationSent
  | laneReqSent
  | awaitJoin
  | eq
  deriving DecidableEq, Repr

/-- Table 4-9; coded in the row order of the table (DEDUCED, log entry 12). -/
inductive TunState where
  | free
  | opening
  | opened
  | orphan
  | closing
  deriving DecidableEq, Repr

/-- Table 5-13 R146; coded 0 to 3. -/
inductive BankState where
  | spare
  | active
  | draining
  | retired
  deriving DecidableEq, Repr

/-- R233 QSTAT; coded 0 to 3. -/
inductive QpState where
  | disabled
  | active
  | stopping
  | error
  deriving DecidableEq, Repr

/-- R256; why a pair is STOPPING. -/
inductive QpStop where
  | none
  | reset
  | destroy
  | sliceReset
  deriving DecidableEq, Repr

/-- Table 12-2; coded 0 to 5. -/
inductive SliceState where
  | disabled
  | active
  | resetting
  | freezing
  | frozen
  | hostLost
  deriving DecidableEq, Repr

/-- Table 6-9. -/
inductive EpState where
  | disabled
  | idle
  | active
  | halted
  | error
  | stopped
  deriving DecidableEq, Repr

/-- Table 6-10, row order. -/
inductive RootState where
  | poweredOff
  | disconnected
  | connected
  | resetting
  | enabled
  | suspending
  | suspended
  | resuming
  deriving DecidableEq, Repr

/-- Table 7-5. -/
inductive FnState where
  | detached
  | attached
  | default
  | address
  | configured
  | suspended
  deriving DecidableEq, Repr

/-- Table 11-1 R277; coded 0 to 4. -/
inductive ChState where
  | free
  | stopped
  | running
  | halted
  | error
  deriving DecidableEq, Repr

/-- R286 R287 R302; what a RUNNING channel waits for. -/
inductive ChWait where
  | none
  | trigger
  | slot
  | retry
  | read
  deriving DecidableEq, Repr

/-- Table 14-1; coded 0 to 4. -/
inductive CoreState where
  | active
  | spare
  | draining
  | faulted
  | test
  deriving DecidableEq, Repr

/-- R367; coded 0 to 3. -/
inductive SrcState where
  | idle
  | pending
  | inService
  | inServiceAgain
  deriving DecidableEq, Repr

/-- R204 to R206; Type-C connection state. -/
inductive Conn where
  | unattached
  | attachedSrc
  | attachedSnk
  | errorRecovery
  | trySrc
  | tryWaitSnk
  deriving DecidableEq, Repr

/-- PORT_PD_QUERY byte 4, coded 0 to 3. -/
inductive PMode where
  | none
  | jayth
  | dp
  | fallback
  deriving DecidableEq, Repr

/-- PM_STATUS.PHASE coded 0 to 3. -/
inductive Phase where
  | steady
  | quiescing
  | entering
  | exiting
  deriving DecidableEq, Repr

/-- FW_UPDATE.PHASE coded 0 to 5. -/
inductive UpPhase where
  | idle
  | staged
  | rotatingIn
  | fence
  | rotatingOut
  | rollingBack
  deriving DecidableEq, Repr

/-- LOAM_COPIES coded 0 to 3. -/
inductive LoamState where
  | active
  | standby
  | syncing
  | failed
  deriving DecidableEq, Repr

/-- Table 18-5; how far start-up has gone. -/
inductive BootStage where
  | off
  | fuse
  | candidates
  | verified
  | noImage
  | released
  deriving DecidableEq, Repr

/-- Table 9-7; host port power state. -/
inductive HpPower where
  | d0
  | d3hot
  | l23
  deriving DecidableEq, Repr

/-- R223 Table 8-9; point a role swap has reached. -/
inductive SwapPhase where
  | sent
  | accepted
  | psRdyOld
  deriving DecidableEq, Repr

/-- R224 R184 R199; discovery step awaited. -/
inductive Disco where
  | idle
  | primeIdentity
  | primeSvids
  | primeModes
  | primeDpModes
  | sopIdentity
  | sopSvids
  | sopModes
  | sopDpModes
  | enterPrime
  | enterSop
  | dpEnter
  | dpStatus
  | dpConfig
  | done
  deriving DecidableEq, Repr

/-- R24 R25 R339 to R344: the timebase and its reference clocks. -/
structure Clock where
  /-- TB_NOW; 13 R24 -/
  now : BitVec 64 := 0
  /-- fraction of now in 2^-32 ns; 01 Timebase -/
  frac : BitVec 32 := 0
  /-- TB_TRIM signed; 13 R343 -/
  trim : BitVec 32 := 0
  /-- TB_SLEW_LEFT: offset not yet removed, in 2^-32 ns (the register shows whole ns, saturating); 13 R343 -/
  slewLeft : Int := 0
  /-- TB_STATUS.SRC; 13 -/
  srcB : Bool := false
  /-- TB_STATUS.A_VALID; 13 R340 -/
  aValid : Bool := false
  /-- TB_STATUS.B_VALID; 13 R340 -/
  bValid : Bool := false
  /-- TB_STATUS.HOLDOVER; 13 R342 -/
  holdover : Bool := false
  /-- TB_STATUS.MODE 0 A 1 B 2 automatic; 13 R341 -/
  mode : Nat := 2
  /-- TB_STATUS.SWITCHES; 13 -/
  switches : BitVec 16 := 0
  /-- when REFCLK_A last became valid; 13 R341 (10 s) -/
  aSince : BitVec 64 := 0
  /-- when REFCLK_B last became valid; 13 R341 (10 s) -/
  bSince : BitVec 64 := 0
  /-- agents whose follower marks its stamps invalid; 01 R24 -/
  invalidFollowers : List Nat := []
  deriving DecidableEq, Repr

/-- R47: one stored equalisation set of a lane, rate and direction. -/
structure EqSet where
  /-- rate of the set; 02 R47 -/
  rate : Rate := .j14
  /-- direction of the set; 02 R47 -/
  dir : Dir := .outb
  /-- transmitter pre-cursor in 1/64; 02 R40 -/
  pre : Int := 0
  /-- transmitter post-cursor in 1/64; 02 R40 -/
  post : Int := 0
  /-- receiver state (a free value: its content is analogue); 02 R47 -/
  rx : BitVec 64 := 0
  deriving DecidableEq, Repr

/-- R46 R70: why the link went down or training failed, where the spec names a cause. -/
inductive LinkCause where
  | none
  | cableDelay
  | peerRequest
  deriving DecidableEq, Repr

/-- R27 R34 R47 R59: one lane of a Jayth port. -/
structure Lane where
  /-- stored equalisation sets; 02 R47 -/
  sets : List EqSet := []
  /-- group counter of the next marker to be sent; 02 R34 -/
  groupTx : BitVec 16 := 0
  /-- marker group counter received; 02 R34 -/
  groupRx : BitVec 16 := 0
  /-- transmit pre-cursor in force; 02 R40 -/
  pre : Int := 0
  /-- transmit post-cursor in force; 02 R40 -/
  post : Int := 0
  /-- the setting in force was given as this preset, none as a coefficient pair; 02 R40 -/
  preset : Option Nat := none
  /-- the last coefficients requested were refused; 02 R40 -/
  reject : Bool := false
  /-- receiver state in force (a free value: its content is analogue); 02 R47 -/
  rx : BitVec 64 := 0
  /-- scrambler of the transmitter; 02 R35 -/
  scram : BitVec 23 := 0
  /-- last ERR_LOG2 of the lane; 02 R43 -/
  errLog2 : Nat := 0
  /-- BAD_FLIT; 03 R59 -/
  badFlit : BitVec 64 := 0
  /-- training error counter; 02 R39 -/
  trainErr : BitVec 64 := 0
  /-- recalibration period expiry; 02 R49 -/
  recalDue : Option (BitVec 64) := none
  /-- die temperature at the last EQ in degrees C; 02 R49 -/
  eqTemp : Int := 0
  /-- a recalibration of the lane is deferred; 02 R49 -/
  recalDeferred : Bool := false
  /-- LANE_BAD already handled for this absence; 03 R498 -/
  badTold : Bool := false
  /-- good TB1 received in DETECT and POLL; 02 R41 -/
  tb1Good : Nat := 0
  /-- EQ_REQ sent for the lane in this pass; 02 R41 -/
  eqReqs : Nat := 0
  /-- flits sent in the marker group; 02 R32 R33 -/
  flitsTx : Nat := 0
  deriving DecidableEq, Repr

/-- R493: the settings of PORT_LINK_CFG. DESIGN CHOICE, log entry 2. -/
structure LinkCfg where
  /-- configured maximum rate; 10 R493 -/
  maxRate : Rate := .j56
  /-- FEC request at J14; 10 R493 -/
  fecJ14 : Bool := false
  /-- FEC request at J28; 10 R493 -/
  fecJ28 : Bool := false
  /-- idle time in us, 0 disables; 02 R50 -/
  sleepIdle : Nat := 20
  /-- keep-alive interval in us; 02 R50 -/
  keepAlive : Nat := 1000
  /-- link timeout in 100 us; 02 R52 -/
  linkTimeout : Nat := 20
  /-- TIME period in us; 03 R76 -/
  timePeriod : Nat := 1000
  /-- recalibration period in hours, 0 disables; 02 R49 -/
  recalHours : Nat := 24
  /-- HOME_MASK; 02 R42 -/
  homeMask : BitVec 4 := 5
  deriving DecidableEq, Repr

/-- Table 2-5, in row order from 0; training states. -/
inductive TrainState where
  | disabled
  | detect
  | poll
  | config
  | rate
  | eqA
  | flip
  | eqB
  | check
  | sync
  | active
  | failed
  deriving DecidableEq, Repr

/-- R28 R71 to R75: the one lane change in progress on a port. -/
structure Transit where
  /-- lane in transit; 03 R71 -/
  lane : Nat := 0
  /-- kind of change; 03 R71 -/
  kind : TransitKind := .recal
  /-- progress; 03 R74 -/
  phase : TransitPhase := .eq
  /-- TURN_ID of the change; 03 R69 -/
  turnId : BitVec 16 := 0
  /-- direction the lane left; 03 R71 -/
  origDir : Dir := .outb
  /-- LANE_REQ resends made; 03 R74 -/
  tries : Nat := 0
  /-- failure or resend instant; 03 R74 -/
  due : Option (BitVec 64) := none
  /-- start of the first LANEMAP copy; 03 R73 -/
  startAt : BitVec 64 := 0
  /-- pass of the equalisation of the lane alone: EQ_A, FLIP or EQ_B; 03 R75 -/
  pass : TrainState := .eqA
  /-- a marker has been accepted on the lane; 03 R74 -/
  marker : Bool := false
  /-- the rotation that adds the lane has completed; 03 R69 -/
  joined : Bool := false
  deriving DecidableEq, Repr

/-- Table 2-5: training of one port. -/
structure Train where
  /-- training state; 02 R41 -/
  state : TrainState := .disabled
  /-- TRAIN_ID; 02 R45 -/
  trainId : BitVec 16 := 0
  /-- failed attempts at J14; 02 R45 -/
  failJ14 : Nat := 0
  /-- failed attempts at J28; 02 R45 -/
  failJ28 : Nat := 0
  /-- failed attempts at J56; 02 R45 -/
  failJ56 : Nat := 0
  /-- maximum rate of the present attempt; 02 R45 Table 2-6 -/
  maxNow : Rate := .j56
  /-- cause of the newest TRAIN_FAIL or link down; 02 R46, 03 R70 -/
  cause : LinkCause := .none
  /-- maximum lowered by R45; 02 R45 -/
  lowered : Option Rate := none
  /-- the 1 ms electrical idle of a failed attempt is running; 02 R45 -/
  idle : Bool := false
  /-- the 5 us idle of RATE is running; 02 R41 -/
  rateIdle : Bool := false
  /-- time limit of the state, or end of the idle; 02 R41 -/
  due : Option (BitVec 64) := none
  /-- receive lanes with block lock; 02 R41 -/
  locked : BitVec 4 := 0
  /-- when the sending of TB2 began in POLL; 02 R41 -/
  tb2Since : Option (BitVec 64) := none
  /-- matching CFG_ACK received; 02 R41 -/
  cfgAcks : Nat := 0
  /-- RX_TAGS; 02 Table 2-3 -/
  rxTags : BitVec 8 := 0
  /-- RATE_SEL; 02 R42 -/
  rateSel : Rate := .j14
  /-- FEC_SEL; 02 R42 -/
  fecSel : Bool := false
  /-- PRECODE_SEL; 02 R42 -/
  precodeSel : Bool := false
  /-- USE_STORED; 02 R42 -/
  useStored : Bool := false
  /-- OUT_MASK of the last CONFIG; 02 R42 -/
  outMask : BitVec 4 := 5
  /-- lanes outbound at SYNC: OUT_MASK after R44; 02 R44 -/
  outNow : BitVec 4 := 5
  /-- LANE_EXCL of the last CONFIG; 02 R42 -/
  laneExcl : BitVec 4 := 0
  /-- lanes done or marked in EQ_A; 02 R41 -/
  doneA : BitVec 4 := 0
  /-- lanes done or marked in EQ_B or CHECK; 02 R41 -/
  doneB : BitVec 4 := 0
  /-- lanes failed in the outbound direction; 02 R44 -/
  failOut : BitVec 4 := 0
  /-- lanes failed in the inbound direction; 02 R44 -/
  failIn : BitVec 4 := 0
  /-- receive lanes with a marker and flit in SYNC; 02 R41 -/
  syncMarks : BitVec 4 := 0
  /-- SYNC_GO echo received; 02 R46 -/
  echoSeen : Bool := false
  /-- round trip in ns; 02 R46 -/
  rtt : Nat := 0
  /-- identity of the terminal's TB; 02 Table 2-3 -/
  peer : Option PeerId := none
  /-- identity held before the loss; 04 R115 -/
  held : Option PeerId := none
  /-- terminal RATE_CAP; 02 R42 -/
  peerRateCap : BitVec 3 := 0
  /-- terminal FEC_CAP; 02 R42 -/
  peerFecCap : BitVec 2 := 0
  /-- terminal PRECODE_CAP; 02 R42 -/
  peerPrecode : Bool := false
  /-- terminal STORED_OK; 02 R42 -/
  peerStored : Bool := false
  /-- identity whose stored sets the port holds; 02 R47 -/
  storedFor : Option PeerId := none
  deriving DecidableEq, Repr

/-- R64: one DATA flit kept for retry. -/
structure Unacked where
  /-- SEQ; 03 R61 -/
  seq : BitVec 12 := 0
  /-- the flit; 03 R57 -/
  flit : DataFlit := {}
  /-- when it was last sent; 03 R64 -/
  sentAt : BitVec 64 := 0
  deriving DecidableEq, Repr

/-- R61 R64 R65 R68: sender of one port's outbound direction. -/
structure TxState where
  /-- next SEQ; 03 R61 -/
  seqNext : BitVec 12 := 0
  /-- lower edge: SEQ of the newest acknowledged BL flit; 03 R65 -/
  lower : BitVec 12 := 4095
  /-- unacknowledged flits, oldest first; 03 R64 -/
  unacked : List Unacked := []
  /-- flits due to be sent again, in order; 03 R64 -/
  resend : List Unacked := []
  /-- NAK_SEQ last resent from; 03 R65 -/
  nakSeq : Option (BitVec 12) := none
  /-- resends in a row from that NAK_SEQ; 03 R65 -/
  nakRun : Nat := 0
  /-- next lane position in stripe order; 03 R68 -/
  stripe : Nat := 0
  /-- flits of the burst begun and not yet sent; 03 R104 R497 -/
  burstCells : List DataFlit := []
  /-- round-robin point of reserved service; 04 R104 -/
  rrRsv : Nat := 0
  /-- round-robin point of best-effort service; 04 R104 -/
  rrBe : Nat := 0
  /-- MGMT flits sent this cycle; 04 R104 -/
  mgmtSent : Nat := 0
  /-- control flits due, in order; 03 R60 -/
  ctrl : List Ctrl := []
  /-- outbound direction in micro-sleep; 02 R50 -/
  asleep : Bool := false
  /-- idle time expiry; 02 R50 -/
  idleDue : Option (BitVec 64) := none
  /-- keep-alive expiry; 02 R50 -/
  keepDue : Option (BitVec 64) := none
  /-- DATA flits sent in this cycle; 04 R110 -/
  sentCycle : Nat := 0
  /-- the burst in progress is one of best-effort service; 04 R84 R104 -/
  beBurst : Bool := false
  deriving DecidableEq, Repr

/-- R62 to R67: receiver of one port's inbound direction. -/
structure RxState where
  /-- next expected SEQ; 03 R63 -/
  e : BitVec 12 := 0
  /-- SEQ after the newest accepted BL flit; 03 R63 -/
  b : BitVec 12 := 0
  /-- a burst has been accepted; 03 R62 -/
  ackValid : Bool := false
  /-- retry_wait; 03 R63 -/
  retryWait : Bool := false
  /-- nak_timer expiry; 03 R63 -/
  nakDue : Option (BitVec 64) := none
  /-- NAK_SEQ last sent; 03 R65 -/
  nakSeq : Option (BitVec 12) := none
  /-- NAKs in a row with that NAK_SEQ; 03 R65 -/
  nakRun : Nat := 0
  /-- repeat of the latest ACK; 03 R62 -/
  ackDue : Option (BitVec 64) := none
  /-- resend of every CUM_CREDIT; 03 R67 -/
  creditDue : Option (BitVec 64) := none
  /-- TUN of the burst being received; 03 R61 -/
  burstTun : Nat := 0
  /-- PRI of the burst being received; 03 R61 -/
  burstPri : Nat := 0
  /-- flits of the burst received so far; 03 R63 -/
  burstLen : Nat := 0
  /-- inbound direction in micro-sleep; 02 R50 -/
  asleep : Bool := false
  /-- link timeout expiry; 02 R52 -/
  linkDue : Option (BitVec 64) := none
  /-- DATA flits received in this cycle; 04 R110 -/
  recvCycle : Nat := 0
  /-- DATA flits received in the cycle just ended; 04 R110 -/
  recvLast : Nat := 0
  /-- newest BACKLOG of this cycle: CYCLE, RSV, BE; 03 R70 -/
  backlog : Option (Nat × Nat × Nat) := none
  /-- PROTO_ERR; 03 R60 -/
  protoErr : BitVec 64 := 0
  /-- when the last of them were counted, within 1 ms; 03 R65 -/
  protoTimes : List (BitVec 64) := []
  deriving DecidableEq, Repr

/-- R76 R77: time messages of one port. DESIGN CHOICE, log entry 167. -/
structure TimeMsg where
  /-- TIME_SEQ; 03 R76 -/
  seq : BitVec 16 := 0
  /-- next TIME; 03 R76 -/
  due : Option (BitVec 64) := none
  /-- last delay samples in 1/16 ns, newest first, at most 8; 03 R77 -/
  samples : List Int := []
  /-- PATH_DELAY in 1/16 ns; 03 R77 -/
  pathDelay : Nat := 0
  /-- PD_VALID; 03 R77 -/
  pdValid : Bool := false
  /-- samples discarded in a row; 03 R77 -/
  discards : Nat := 0
  /-- samples discarded; 03 R77 -/
  discarded : BitVec 64 := 0
  /-- a new mean is being formed without the 50 ns test; 03 R77 -/
  forming : Bool := false
  deriving DecidableEq, Repr

/-- R102 R109 to R112: allotment of one port. -/
structure Allot where
  /-- TURN_THRESH; 04 Table 4-12 -/
  turnThresh : Nat := 512
  /-- TURN_CYCLES; 04 Table 4-12 -/
  turnCycles : Nat := 8
  /-- HOLD_CYCLES; 04 Table 4-12 -/
  holdCycles : Nat := 64
  /-- HOME_CYCLES; 04 Table 4-12 -/
  homeCycles : Nat := 8000
  /-- orphan window in 100 ms; 04 R113 -/
  orphanWin : Nat := 50
  /-- C(outbound); 04 R110 -/
  cOut : Nat := 0
  /-- C(inbound); 04 R110 -/
  cIn : Nat := 0
  /-- cycle at which a turnaround to outbound completed; 04 R111 -/
  lastToOut : Option Nat := none
  /-- cycle at which a turnaround to inbound completed; 04 R111 -/
  lastToIn : Option Nat := none
  /-- consecutive cycles of home conditions; 04 R112 -/
  homeRun : Nat := 0
  /-- cycle last evaluated; 04 R102 -/
  cycle : Option Nat := none
  /-- outbound overcommitted; 04 R109 -/
  overOut : Bool := false
  /-- inbound overcommitted; 04 R109 -/
  overIn : Bool := false
  deriving DecidableEq, Repr

/-- R94 R95: a MGMT request awaiting its answer. -/
structure Await where
  /-- XID; 04 R95 -/
  xid : BitVec 16 := 0
  /-- the message, resent unchanged; 04 R94 -/
  msg : MgmtMsg := {}
  /-- tunnel the request serves; 04 R94 -/
  tid : Nat := 0
  /-- resends made; 04 R94 -/
  tries : Nat := 0
  /-- resend instant; 04 R94 -/
  due : BitVec 64 := 0
  deriving DecidableEq, Repr

/-- R66 R84 R104: per-TUN state of a link. -/
structure Tun where
  /-- CUM_CREDIT received for outbound flits; 03 R66 -/
  credit : BitVec 16 := 0
  /-- CUM_SENT; 03 R66 -/
  sent : BitVec 16 := 0
  /-- CUM_CREDIT granted for inbound flits; 03 R66 -/
  granted : BitVec 16 := 0
  /-- distinct inbound DATA flits accepted; 03 R66 -/
  recv : BitVec 16 := 0
  /-- reserved budget left; 04 R104 -/
  rsvLeft : Nat := 0
  /-- flits used beyond the budget; 04 R104 -/
  overrun : Nat := 0
  /-- DRR deficit; 04 R104 -/
  deficit : Nat := 0
  /-- credit grants that wait for buffer space; 05 R134 -/
  waitGrant : Nat := 0
  /-- PROTO_DROP; 04 R83 -/
  protoDrop : BitVec 64 := 0
  /-- ORPHAN_DROP; 04 R114 -/
  orphanDrop : BitVec 64 := 0
  /-- CREDIT_WAIT; 04 R84 -/
  creditWait : BitVec 64 := 0
  /-- TUN_ENERGY_NJ; 15 R396 -/
  energyNj : BitVec 64 := 0
  /-- TUN used since ACTIVE and its CLOSE_ACK not yet arrived; 04 R100 -/
  used : Bool := false
  /-- last BLOCK_SEQ of an inbound SMPL tunnel; 04 R92 -/
  blockSeq : Option (BitVec 16) := none
  /-- flits of the current inbound SMPL block; 04 R92 -/
  blockFlits : Nat := 0
  /-- flits its header implies; 04 R92 -/
  blockNeed : Nat := 0
  /-- surplus SMPL flits discarded; 04 R92 -/
  smplSurplus : BitVec 64 := 0
  /-- bytes of the record begun and not finished; 04 R85 -/
  recBuf : List (BitVec 8) := []
  /-- that record touches a poisoned flit; 04 R97 -/
  recPoison : Bool := false
  /-- arrival of the cell in which that record began; 13 R351 -/
  recAt : BitVec 64 := 0
  /-- skipping to the next flit whose CONT is 0; 04 R85 -/
  recSkip : Bool := false
  /-- records received with ERR; 04 R85 -/
  recErr : BitVec 64 := 0
  /-- poisoned records discarded; 04 R97 -/
  poisonDrop : BitVec 64 := 0
  /-- cells of space held for the minimum credit and not granted; 05 R135 -/
  held : Nat := 0
  /-- W_OUT in force in the present cycle, 0 before the first cycle start; 04 R102 -/
  wNow : Nat := 0
  /-- reserved budget of the inbound direction in the present cycle; 04 R102 R109 -/
  budgetIn : Nat := 0
  deriving DecidableEq, Repr

/-- Table 8-3: PD settings of one port. DESIGN CHOICE, log entry 2. -/
structure PdCfg where
  /-- PORT_MODE 0 DRP 1 source 2 sink; 08 R208 -/
  portMode : Nat := 0
  /-- TRY_SRC; 08 R208 -/
  trySrc : Bool := true
  /-- RP_LEVEL; 08 R208 -/
  rpLevel : Nat := 2
  /-- STAGE_VMAX; 08 R208 -/
  stageVmax : Nat := 3
  /-- STAGE_IMAX 0 3 A 1 5 A; 08 R208 -/
  stageImax : Nat := 0
  /-- SRC_PDP in W; 08 R208 -/
  srcPdp : Nat := 60
  /-- EPR_SRC_EN; 08 R208 -/
  eprSrcEn : Bool := false
  /-- SNK_LOAD; 08 R208 -/
  snkLoad : Bool := false
  /-- SNK_CURRENT in 50 mA; 08 R208 -/
  snkCurrent : Nat := 0
  /-- FRS_EN; 08 R208 -/
  frsEn : Bool := false
  /-- FRS_CURRENT; 08 R208 -/
  frsCurrent : Nat := 1
  /-- PR_ACCEPT; 08 R208 -/
  prAccept : Bool := false
  /-- VCONN_ACCEPT; 08 R208 -/
  vconnAccept : Bool := true
  /-- DR_ACCEPT; 08 R208 -/
  drAccept : Bool := false
  /-- T_SENDER_RESP; 08 R208 -/
  tSenderResp : Nat := 3
  deriving DecidableEq, Repr

/-- Table 7-2: fallback settings of one port. DESIGN CHOICE, log entry 2. -/
structure FbCfg where
  /-- JAYTH_EN; 07 R183 -/
  jaythEn : Bool := true
  /-- HOST_EN; 07 R183 -/
  hostEn : Bool := true
  /-- SS_EN; 07 R183 -/
  ssEn : Bool := true
  /-- DEV_EN; 07 R183 -/
  devEn : Bool := false
  /-- DPALT_EN; 07 R183 -/
  dpaltEn : Bool := false
  /-- DPALT_PREF_D; 07 R183 -/
  prefD : Bool := true
  /-- DPALT_SRC; 07 R183 -/
  dpaltSrc : BitVec 5 := 0
  deriving DecidableEq, Repr

/-- Table 8-4: power-stage outputs of one port. -/
structure Pins where
  /-- SRC_EN; 08 R212 -/
  srcEn : Bool := false
  /-- SNK_EN; 08 R212 -/
  snkEn : Bool := false
  /-- VSEL code 0 to 6; 08 R212 -/
  vsel : Nat := 0
  /-- DISCH; 08 R212 -/
  disch : Bool := false
  /-- VCONN1_EN; 08 R212 -/
  vconn1 : Bool := false
  /-- VCONN2_EN; 08 R212 -/
  vconn2 : Bool := false
  /-- FRS_EN pin; 08 R212 -/
  frsEn : Bool := false
  deriving DecidableEq, Repr

/-- R219 R223: roles of a port. -/
structure Roles where
  /-- power role is source; 08 R204 -/
  source : Bool := false
  /-- data role is DFP; 08 R204 -/
  dfp : Bool := false
  /-- the AX1224 is VCONN source; 08 R218 -/
  vconn : Bool := false
  deriving DecidableEq, Repr

/-- R219 R221 R223: a role swap in progress. -/
structure Swap where
  /-- 1 PR 2 DR 3 VCONN 4 FR; 08 R219 -/
  kind : Nat := 1
  /-- requested by the AX1224; 08 R221 -/
  own : Bool := false
  /-- point reached; 08 R223 -/
  phase : SwapPhase := .sent
  /-- Wait answers received; 08 R221 -/
  waits : Nat := 0
  /-- 100 ms retry instant; 08 R221 -/
  retryDue : Option (BitVec 64) := none
  /-- roles before the swap; 08 R223 -/
  before : Roles := {}
  /-- PORT_PD_SWAP awaiting its outcome; 08 R219 -/
  cmd : Option Cmd := none
  deriving DecidableEq, Repr

/-- R199 to R203: DisplayPort Alternate Mode of one port. -/
structure DpAlt where
  /-- the mode is entered; 07 R199 -/
  entered : Bool := false
  /-- HPD of the sink; 07 R202 -/
  hpd : Bool := false
  /-- pin assignment 2 C 3 D 4 E, 0 none; 07 R201 -/
  pin : Nat := 0
  /-- trained rate, 0 RBR to 5 UHBR13.5; 07 R201 -/
  rate : Option Nat := none
  /-- main-link lanes; 07 R201 -/
  lanes : Nat := 0
  /-- training failures; 07 R201 -/
  fails : Nat := 0
  /-- tunnel table entry of the binding; 07 R200 -/
  tid : Option Nat := none
  /-- bound stream: DPI [4:2], stream [1:0]; 07 R200 -/
  source : Option Nat := none
  /-- mode index of the partner's DisplayPort mode; 07 R199 -/
  pos : Nat := 0
  /-- the stream of DPALT_SRC has been bound or refused since the mode was entered; 07 R200 -/
  autoTried : Bool := false
  /-- the sink's DPCD reports DSC decode support; 07 R199 -/
  sinkDsc : Bool := false
  /-- pin assignments the partner offers: C, D, E; 07 R201 -/
  offers : BitVec 3 := 0
  deriving DecidableEq, Repr

/-- R204 to R231: connection, policy and power of one port. -/
structure Pd where
  /-- PD settings in force; 08 R208 -/
  cfg : PdCfg := {}
  /-- connection state; 08 R204 -/
  conn : Conn := .unattached
  /-- orientation: CC2 active; 08 R204 -/
  flipped : Bool := false
  /-- present roles; 08 R204 -/
  roles : Roles := {}
  /-- explicit contract: voltage code, current in 10 mA, EPR; 08 R207 -/
  contract : Option (Nat × Nat × Bool) := none
  /-- contract requested and accepted, not yet in force: voltage code, current in 10 mA, EPR; 08 R213 -/
  nego : Option (Nat × Nat × Bool) := none
  /-- Source_Capabilities sent without an answer; 08 Table 8-6 -/
  caps : Nat := 0
  /-- new Source_Capabilities due after a setting change; 08 R208 -/
  capsDue : Option (BitVec 64) := none
  /-- mode entered; 08 R224 -/
  mode : PMode := .none
  /-- discovery step awaited; 08 R224 -/
  disco : Disco := .idle
  /-- BUSY retries of the present discovery step; 08 R224 -/
  busyTries : Nat := 0
  /-- Discover Identity attempts; 08 Table 8-6 -/
  idTries : Nat := 0
  /-- partner lists 0x3A9D, and 0xFF01 with UFP_D; 08 R224 -/
  partnerSvids : Bool × Bool := (false, false)
  /-- Jayth mode VDO of the terminal; 08 R226 -/
  partnerVdo : Option (BitVec 32) := none
  /-- what the cable declared; 02 R54 R55 -/
  cable : Cable := {}
  /-- partner negotiated revision 3.x; 08 R207 -/
  pd3 : Bool := true
  /-- the port has stopped using PD (ladder end); 08 R217 -/
  pdOff : Bool := false
  /-- source role locked out; 08 R214 -/
  lockout : Bool := false
  /-- stage faults within 60 s; 08 R214 -/
  faultTimes : List (BitVec 64) := []
  /-- ErrorRecovery entries within 60 s; 08 R217 -/
  errTimes : List (BitVec 64) := []
  /-- Hard Resets counted against nHardResetCount; 08 R216 -/
  hardResets : Nat := 0
  /-- what answer is awaited: 0 none, 1 a message, 2 the Accept of a Soft_Reset, 3 a Request within tighter limits; 08 R216 -/
  awaiting : Nat := 0
  /-- tSenderResponse; 08 R216 -/
  senderDue : Option (BitVec 64) := none
  /-- running timers of Table 8-6 by number, with their expiry; 08 R215 -/
  timers : List (Nat × BitVec 64) := []
  /-- role swap in progress; 08 R219 -/
  swap : Option Swap := none
  /-- PORT_PD_RESET awaiting its outcome; 08 R230 -/
  resetCmd : Option Cmd := none
  /-- PORT_JAYTH_RETRY awaiting the end of discovery; 07 R186 -/
  retryCmd : Option Cmd := none
  /-- own swap request answered Wait, to be sent again; 08 R221 -/
  parked : Option Swap := none
  /-- RP_LEVEL latched when the port came to advertise Rp; 08 R208 -/
  rp : Nat := 2
  /-- cable lists the DisplayPort SVID on SOP'; 07 R199 -/
  cableDp : Bool := false
  /-- BIST mode in force: 0 none, 1 Carrier Mode, 2 Test Data; 08 Table 8-2 -/
  bist : Nat := 0
  /-- extended message sent in chunks: type, data; 08 Table 8-2 -/
  chunkOut : Option (Nat × List (BitVec 8)) := none
  /-- extended message received in chunks: type, size, data so far; 08 Table 8-2 -/
  chunkIn : Option (Nat × Nat × List (BitVec 8)) := none
  /-- Rp shows SinkTxNG; 08 R220 -/
  sinkTxNg : Bool := false
  /-- power-stage outputs; 08 R212 -/
  pins : Pins := {}
  /-- last VBUS sample in mV; 08 R213 -/
  vbusMv : Nat := 0
  /-- last current sample in mA; 08 R213 -/
  ibusMa : Int := 0
  /-- source transition: target mV, samples in window, window end; 08 R213 -/
  transit : Option (Nat × Nat × BitVec 64) := none
  /-- EPR mode is entered; 08 R211 -/
  epr : Bool := false
  /-- a contract has been made since attach; 08 R216 -/
  pdSeen : Bool := false
  /-- sequence that starts when tSinkTx ends: 0 none 1 discovery 2 own swap 3 Source_Capabilities; 08 R220 -/
  ams : Nat := 0
  /-- tSourceEPRKeepAlive; 08 R211 -/
  eprDue : Option (BitVec 64) := none
  /-- fallback settings in force; 07 R183 -/
  fb : FbCfg := {}
  /-- fallback settings latched by the fallback in force; 07 R183 -/
  fbNow : FbCfg := {}
  /-- Table 7-1 row of the fallback in force, from 0; 07 R182 -/
  fbCause : Option Nat := none
  /-- HP0 notice binding: queue, tag; 08 R231 -/
  bind0 : Option (Nat × BitVec 16) := none
  /-- HP1 notice binding: queue, tag; 08 R231 -/
  bind1 : Option (Nat × BitVec 16) := none
  /-- DisplayPort Alternate Mode; 07 R199 -/
  dp : DpAlt := {}
  deriving DecidableEq, Repr

/-- a Jayth port J0 to J11. -/
structure Port where
  /-- PORT_LINK_CFG settings; 10 R493 -/
  link : LinkCfg := {}
  /-- keep-alive in force since ACTIVE, us; 10 R493 -/
  keepForce : Nat := 1000
  /-- link timeout in force since ACTIVE, 100 us; 10 R493 -/
  toForce : Nat := 20
  /-- lane L0; 02 R27 -/
  lane0 : Lane := {}
  /-- lane L1; 02 R27 -/
  lane1 : Lane := {}
  /-- lane L2; 02 R27 -/
  lane2 : Lane := {}
  /-- lane L3; 02 R27 -/
  lane3 : Lane := {}
  /-- lanes outbound; 02 Table 2-1 -/
  outSet : BitVec 4 := 5
  /-- lanes inbound; 02 Table 2-1 -/
  inSet : BitVec 4 := 10
  /-- exclusion record; 10 R273 -/
  exclRec : BitVec 4 := 0
  /-- lanes locked to one direction; 02 R44 -/
  lockRec : BitVec 4 := 0
  /-- which of the locked lanes are locked outbound; 02 R44 -/
  lockOut : BitVec 4 := 0
  /-- EXCLUDE accepted and deferred; 10 R273 -/
  defExcl : Option Nat := none
  /-- 10 s retry of a deferred recalibration; 02 R49 -/
  recalRetry : Option (BitVec 64) := none
  /-- lane in transit; 02 R28 -/
  transit : Option Transit := none
  /-- next TURN_ID; 03 R69 -/
  turnId : BitVec 16 := 0
  /-- TURN_ID, CHANGE and LANE of the terminal's LANEMAP last acted on; 03 R69 -/
  lastMap : Option (BitVec 16 × Nat × Nat) := none
  /-- die temperature near the port in degrees C, last reported; 02 R49 -/
  temp : Int := 0
  /-- training; 02 R41 -/
  train : Train := {}
  /-- sender; 03 R64 -/
  tx : TxState := {}
  /-- receiver; 03 R63 -/
  rx : RxState := {}
  /-- time messages; 03 R76 -/
  time : TimeMsg := {}
  /-- allotment; 04 R110 -/
  allot : Allot := {}
  /-- per-TUN link state, a table; 03 R66 -/
  tuns : List (Nat × Tun) := []
  /-- TUN 0 receive FIFO not yet read by firmware; 14 Table 14-4 -/
  mgmtRx : List MgmtMsg := []
  /-- MGMT requests awaiting answers; 04 R95 -/
  awaits : List Await := []
  /-- next XID; 04 R95 -/
  xid : BitVec 16 := 0
  /-- TERM_INFO body; 04 R94 -/
  termInfo : Option (List (BitVec 8)) := none
  /-- HUB_INFO was sent with RESTORE=1; 04 R115 -/
  restoring : Bool := false
  /-- RETRY; 03 R64 -/
  retry : BitVec 64 := 0
  /-- CREDIT_OVERRUN; 03 R67 -/
  creditOverrun : BitVec 64 := 0
  /-- PORT_OVERHEAD_NJ; 15 R396 -/
  overheadNj : BitVec 64 := 0
  /-- CC/PD controller and native use; 08 -/
  pd : Pd := {}
  deriving DecidableEq, Repr

/-- R105 R270: a modify in progress. -/
structure Modify where
  /-- the command, none for an automatic raise; 10 R270 -/
  cmd : Option Cmd := none
  /-- new RSV_OUT; 10 R270 -/
  rsvOut : Nat := 0
  /-- new RSV_IN; 10 R270 -/
  rsvIn : Nat := 0
  /-- new W_OUT; 10 R270 -/
  wOut : Nat := 0
  /-- new W_IN; 10 R270 -/
  wIn : Nat := 0
  /-- new PERSIST; 10 R270 -/
  persist : Bool := false
  /-- waits for ALLOT_ACK; 04 R105 -/
  raiseIn : Bool := false
  /-- cycle from which ALLOT_IN applies; 04 R105 -/
  effective : Nat := 0
  /-- XID of its ALLOT_IN; 04 R95 -/
  xid : BitVec 16 := 0
  /-- RSV_OUT before it; 04 R94 R117 -/
  oldOut : Nat := 0
  /-- W_OUT before it; 04 R94 R117 -/
  oldWOut : Nat := 0
  /-- W_IN before it; 04 R94 R117 -/
  oldWIn : Nat := 0
  /-- PERSIST before it; 04 R94 R117 -/
  oldPersist : Bool := false
  deriving DecidableEq, Repr

/-- Table 4-8: tunnel table entry. -/
structure Tunnel where
  /-- PORT; 04 R98 -/
  port : Nat := 0
  /-- TUN; 04 R98 -/
  tun : Nat := 0
  /-- CLASS; 04 R98 -/
  cls : Nat := 0
  /-- PERIODIC; 04 R98 -/
  periodic : Bool := false
  /-- DIRS; 04 R98 -/
  dirs : BitVec 2 := 0
  /-- STATE; 04 R98 -/
  state : TunState := .free
  /-- GEN, 0 after a cold start (R268); 04 R98 -/
  gen : BitVec 8 := 0
  /-- OWNER with PLAN; 04 R98 -/
  owner : Owner := .mgmt
  /-- PERSIST; 04 R98 -/
  persist : Bool := false
  /-- KEY; 04 R98 -/
  key : BitVec 16 := 0
  /-- RSV_OUT; 04 R98 -/
  rsvOut : Nat := 0
  /-- RSV_IN; 04 R98 -/
  rsvIn : Nat := 0
  /-- W_OUT; 04 R98 -/
  wOut : Nat := 0
  /-- W_IN; 04 R98 -/
  wIn : Nat := 0
  /-- CLIENT_REF; 04 R98 -/
  clientRef : BitVec 32 := 0
  /-- NOTIFY_Q; 04 R98 -/
  notifyQ : Nat := 0
  /-- NOTIFY_TAG; 04 R98 -/
  notifyTag : BitVec 16 := 0
  /-- class parameters, TUN_CREATE payload bytes 24 to 119; 10 Table 10-5 -/
  params : List (BitVec 8) := []
  /-- OPENING is a restore; 04 R101 -/
  restore : Bool := false
  /-- plan tunnel waiting in OPENING for its port; 04 R118 -/
  planWait : Bool := false
  /-- its first refusal has been journalled; 04 R118 -/
  planTold : Bool := false
  /-- RESTORE_SHORT has been posted; 04 R115 -/
  shortTold : Bool := false
  /-- moment of the loss that made it ORPHAN; 04 R113 R117 -/
  orphanAt : Option (BitVec 64) := none
  /-- TUN_CREATE awaiting OPEN_ACK; 04 R101 -/
  create : Option Cmd := none
  /-- TUN_DESTROY awaiting FREE; 04 R101 -/
  destroy : Option Cmd := none
  /-- TUN_MODIFY awaiting ALLOT_ACK or a cycle start; 10 R270 -/
  modify : Option Modify := none
  /-- TUN_MODIFY commands that wait for an earlier one (R271); 10 R271 -/
  queued : List Cmd := []
  /-- a host-lost tunnel's owner host port, for the 1 s of R332; 12 R332 -/
  tornDown : Option Nat := none
  /-- RSV_OUT of a DISP raise that has passed its check and is not committed, 0 for none; 04 R90 -/
  rsvNext : Nat := 0
  deriving DecidableEq, Repr

/-- R118 R439: one entry of the persistent tunnel plan. -/
structure Plan where
  /-- KEY; 04 R118 -/
  key : BitVec 16 := 0
  /-- TRIGGER 0 START 1 HOST_LOST_HP0 2 HOST_LOST_HP1; 04 R118 -/
  trigger : Nat := 0
  /-- TUN_CREATE payload; 18 R439 -/
  payload : List (BitVec 8) := []
  deriving DecidableEq, Repr

/-- R121 R122: one Marl cell with its metadata. -/
structure Cell where
  /-- cell address: bank in [18:13], row in [12:0]; 05 R122 -/
  addr : Nat := 0
  /-- FLOW; 05 R122 -/
  flow : Nat := 0
  /-- KIND: SYS cell; 05 R122 -/
  sys : Bool := false
  /-- GEN; 05 R122 -/
  gen : BitVec 8 := 0
  /-- STAMP; 05 R122 -/
  stamp : BitVec 32 := 0
  /-- ARRIVAL; 05 R121 -/
  arrival : BitVec 64 := 0
  /-- POISON; 05 R122 -/
  poison : Bool := false
  /-- BL; 05 R122 -/
  bl : Bool := false
  /-- CLASS; 05 R122 -/
  cls : Nat := 0
  /-- it begins an inbound SMPL block; 04 R91 R92 -/
  first : Bool := false
  /-- PAYLOAD, 120 bytes; 05 R121 -/
  payload : List (BitVec 8) := []
  deriving DecidableEq, Repr

/-- Table 5-8 R134: one buffer pool. -/
structure Pool where
  /-- POOL_MIN; 05 R134 -/
  min : Nat := 0
  /-- SHARE_MAX; 05 R134 -/
  shareMax : Nat := 0
  /-- USED of the pool; 05 R141 -/
  used : Nat := 0
  /-- use of shared space; 05 R134 -/
  shared : Nat := 0
  /-- PEAK_USED; 05 R141 -/
  peak : Nat := 0
  deriving DecidableEq, Repr

/-- Table 5-11 R131: one egress class queue. -/
structure EgQueue where
  /-- QCAP; 05 R134 -/
  qcap : Nat := 32768
  /-- flow FIFOs by flow number (SYS flows above 8191), a table; 05 R131 -/
  flows : List (Nat × List Cell) := []
  /-- round-robin point; 05 R131 -/
  rr : Nat := 0
  /-- ENQ_CELLS; 05 R141 -/
  enq : BitVec 64 := 0
  /-- DEQ_CELLS; 05 R141 -/
  deq : BitVec 64 := 0
  /-- AGE_DROP; 05 R141 -/
  ageDrop : BitVec 64 := 0
  /-- GEN_DROP; 05 R141 -/
  genDrop : BitVec 64 := 0
  /-- CAP_DROP; 05 R141 -/
  capDrop : BitVec 64 := 0
  /-- POOL_DROP; 05 R141 -/
  poolDrop : BitVec 64 := 0
  /-- ECC_DROP; 05 R141 -/
  eccDrop : BitVec 64 := 0
  /-- POISON_OUT; 05 R141 -/
  poisonOut : BitVec 64 := 0
  /-- FLUSH_DROP; 05 R141 -/
  flushDrop : BitVec 64 := 0
  /-- PEAK_DEPTH; 05 R141 -/
  peakDepth : Nat := 0
  /-- banks of the last 4 cells admitted; 05 R125 -/
  recent : List Nat := []
  /-- flows whose unit is being discarded; 05 R142 -/
  discarding : List Nat := []
  /-- flows whose unit the egress has begun; 05 R142 -/
  begun : List Nat := []
  deriving DecidableEq, Repr

/-- Table 5-13: one Marl bank. -/
structure Bank where
  /-- STATE; 05 R146 -/
  state : BankState := .active
  /-- FILL; 05 R141 -/
  fill : Nat := 0
  /-- CE; 05 R141 -/
  ce : BitVec 64 := 0
  /-- UE; 05 R141 -/
  ue : BitVec 64 := 0
  /-- uncorrectable errors within 1 h; 05 R147 -/
  ueTimes : List (BitVec 64) := []
  /-- corrected errors within 1 h; 05 R147 -/
  ceTimes : List (BitVec 64) := []
  /-- MARL_BANK_RETIRE awaiting FILL 0; 05 R146 -/
  retireBy : Option Cmd := none
  /-- MARL_BANK_READMIT awaiting its scrub; 05 R146 -/
  readmit : Option Cmd := none
  deriving DecidableEq, Repr

/-- Table 5-8: default POOL_MIN and SHARE_MAX of each class and of the reserve. -/
def defaultPools : List (Nat × Pool) :=
  [(0, { min := 65536, shareMax := 22528 }), (1, { min := 8192, shareMax := 22528 }),
   (2, { min := 8192, shareMax := 22528 }), (3, { min := 32768, shareMax := 22528 }),
   (4, { min := 65536, shareMax := 22528 }), (5, { min := 32768, shareMax := 22528 }),
   (7, { min := 4096, shareMax := 0 })]

/-- the Marl switch. -/
structure Marl where
  /-- pools by class code, 7 the reserve, a table; 05 Table 5-8 -/
  pools : List (Nat × Pool) := defaultPools
  /-- egress class queues by agent*16+queue, a table; 05 R131 -/
  queues : List (Nat × EgQueue) := []
  /-- banks 0 to 32, a table; 05 Table 5-3 -/
  banks : List (Nat × Bank) := [(32, { state := .spare })]
  /-- bank chosen last; 05 R125 -/
  lastBank : Nat := 0
  /-- PEAK_USED of shared space; 05 R141 -/
  sharedPeak : Nat := 0
  /-- crossing credit held by a lossless ingress, by agent*8+class, a table; 05 R133 -/
  crossing : List (Nat × Nat) := []
  /-- class queue served last at an egress, by agent, a table; 05 R131 -/
  rrQ : List (Nat × Nat) := []
  /-- STAGE_UNDERRUN by agent, a table; 05 R132 -/
  stageUnderrun : List (Nat × BitVec 64) := []
  /-- staging buffers by agent, a table; 05 R132 -/
  staging : List (Nat × List Cell) := []
  /-- DISP age limit in us; 05 Table 5-9 -/
  ageDisp : Nat := 250
  /-- SMPL age limit; 05 Table 5-9 -/
  ageSmpl : Nat := 2000
  /-- USB2 age limit; 05 Table 5-9 -/
  ageUsb2 : Nat := 20000
  /-- USB3 age limit; 05 Table 5-9 -/
  ageUsb3 : Nat := 20000
  /-- PCIE age limit; 05 Table 5-9 -/
  agePcie : Nat := 20000
  /-- NET age limit; 05 Table 5-9 -/
  ageNet : Nat := 10000
  /-- MGMT age limit; 05 Table 5-9 -/
  ageMgmt : Nat := 20000
  /-- sweep round in us; 05 R139 -/
  sweepUs : Nat := 1000
  /-- SWEEP_ROUNDS; 05 R141 -/
  sweepRounds : BitVec 64 := 0
  /-- LINK_UE; 05 R144 -/
  linkUe : BitVec 64 := 0
  /-- shared size lost to retirement without a spare; 05 R149 -/
  sharedLost : Nat := 0
  /-- latched auto-retire triggers, oldest first; 05 R147 -/
  autoQ : List Nat := []
  /-- RETIRE_AUTO; 05 R147 -/
  retireAuto : Bool := true
  /-- ingress write buffer: cells that wait for a bank, by egress, queue and flow, oldest first; 05 R125 -/
  writeBuf : List (Nat × Nat × Nat × Cell) := []
  deriving DecidableEq, Repr

/-- R150 R151 R180: one USB root. -/
structure Root where
  /-- port state; 06 Table 6-10 -/
  state : RootState := .poweredOff
  /-- bound slice: host port, slice; 06 R151 -/
  owner : Option (Nat × Nat) := none
  /-- notify queue; 06 R151 -/
  notifyQ : Nat := 0
  /-- notice tag; 09 R245 -/
  notifyTag : BitVec 16 := 0xFFFF
  /-- AUTO_SUSPEND; 06 R151 -/
  autoSuspend : Bool := false
  /-- periodic table base; 06 R156 -/
  perBase : BitVec 64 := 0
  /-- asynchronous list pointer (END=1); 06 R160 -/
  asyncBase : BitVec 64 := 1
  /-- EPD after the one visited last; 06 R160 -/
  asyncNext : BitVec 64 := 1
  /-- asynchronous walk asleep; 06 R160 -/
  asyncSleep : Bool := false
  /-- TUN_LEAD in us; 06 R166 -/
  tunLead : Nat := 20
  /-- U1 timeout in us, 0 disabled; 06 R172 -/
  u1 : Nat := 0
  /-- U2 timeout in us, 0 disabled; 06 R172 -/
  u2 : Nat := 0
  /-- link power state U0 to U3; 06 R172 -/
  uState : Nat := 0
  /-- negotiated speed code; 06 R180 -/
  speed : Nat := 0
  /-- HELD while tunnels are ORPHAN; 06 R179 -/
  held : Bool := false
  /-- RESUMING from a remote wake; 06 R181 -/
  wakeFrom : Bool := false
  /-- a remote wake was lost to the reset in progress; 06 R181 -/
  wakeLost : Bool := false
  /-- SUSPEND waiting for ENABLED; 06 R181 -/
  suspendWait : Option Cmd := none
  /-- RESET awaiting its end; 06 R181 -/
  resetCmd : Option Cmd := none
  /-- RESUME awaiting its end; 06 R181 -/
  resumeCmd : Option Cmd := none
  /-- a resume PING waits for crossing credit; 01 R22, 06 R177 -/
  pingHeld : Bool := false
  /-- the 30 ms after a resume PING run; 06 R177 -/
  pingWait : Bool := false
  /-- prefetched cycle: number, EPDs in order, and how the chain ended: 0 END, 1 BUS_ERROR, 2 CHAIN_LONG; 06 R166 -/
  prefetch : Option (Nat × List Epd × Nat) := none
  /-- end of the reset, suspend or resume in progress; 06 R180 -/
  due : Option (BitVec 64) := none
  /-- cycle whose USB2 work was formed last; 06 R166 -/
  formed2 : Option Nat := none
  /-- cycle whose SuperSpeed work was formed last; 06 R166 -/
  formed3 : Option Nat := none
  /-- SCHED_ERR; 06 R158 -/
  schedErr : BitVec 64 := 0
  /-- cause of the newest USB_SCHED_ERR: 0 an EPD, 1 BUS_ERROR, 2 CHAIN_LONG; 06 R158 R159 -/
  schedCause : Nat := 0
  /-- cycle whose USB_SCHED_ERR has been raised; 06 R158 -/
  schedTold : Option Nat := none
  /-- USB2 requests or native transactions outstanding; 06 R168 -/
  outst : List UsbReq := []
  /-- next XID, never 0xFFFF; 06 R168 -/
  xid : BitVec 16 := 0
  deriving DecidableEq, Repr

/-- Table 6-2: one device slot. -/
structure Slot where
  /-- ROOT; 06 Table 6-2 -/
  root : Nat := 0
  /-- ROUTE; 06 Table 6-2 -/
  route : BitVec 20 := 0
  /-- TPORT; 06 Table 6-2 -/
  tport : Nat := 0
  /-- SPEED; 06 Table 6-2 -/
  speed : Nat := 0
  /-- HUB_SLOT; 06 Table 6-2 -/
  hubSlot : Nat := 0
  /-- HUB_PORT; 06 Table 6-2 -/
  hubPort : Nat := 0
  /-- ADDR; 06 R153 -/
  addr : Nat := 0
  /-- the slot is allocated; 06 R153 -/
  alloc : Bool := false
  deriving DecidableEq, Repr

/-- Table 6-2: one endpoint context. -/
structure Ep where
  /-- owner slice; 06 R151 -/
  owner : Option (Nat × Nat) := none
  /-- SLOT, or function number with bit 15 set; 06 Table 6-2 -/
  slot : Nat := 0
  /-- EP_NUM; 06 Table 6-2 -/
  num : Nat := 0
  /-- DIR is IN; 06 Table 6-2 -/
  dirIn : Bool := false
  /-- TYPE 0 control 1 isochronous 2 bulk 3 interrupt; 06 Table 6-2 -/
  typ : Nat := 0
  /-- MPS; 06 Table 6-2 -/
  mps : Nat := 0
  /-- BURST; 06 Table 6-2 -/
  burst : Nat := 0
  /-- MULT; 06 Table 6-2 -/
  mult : Nat := 0
  /-- RING_BASE; 06 Table 6-2 -/
  ringBase : BitVec 64 := 0
  /-- RING_LOG2; 06 Table 6-2 -/
  ringLog2 : Nat := 0
  /-- CQ; 06 Table 6-2 -/
  cq : Nat := 0
  /-- BUF_BASE; 06 Table 6-3 -/
  bufBase : Nat := 0
  /-- units of the allocation (BUF_SIZE_M1 + 1), 0 when not VALID; 06 Table 6-3 -/
  bufSize : Nat := 0
  /-- STATE; 06 Table 6-9 -/
  state : EpState := .disabled
  /-- CONS_IDX; 06 R165 -/
  cons : Nat := 0
  /-- PROD_IDX; 06 R164 -/
  prod : Nat := 0
  /-- TOGGLE; 06 R174 -/
  toggle : Bool := false
  /-- SEQNUM; 06 R171 -/
  seqnum : Nat := 0
  /-- consecutive transaction errors; 06 R173 -/
  errors : Nat := 0
  /-- consecutive split errors or cycles without a split state; 06 Table 6-7 -/
  splitErrs : Nat := 0
  /-- chain in progress; 06 R162 -/
  chain : Option Chain := none
  /-- a transaction is outstanding; 06 R167 -/
  busy : Bool := false
  /-- bytes the visit in progress may still move; 06 R167 -/
  left : Nat := 0
  /-- CMASK of the visit in progress; 06 R170 -/
  cmask : Nat := 0
  /-- cycle since which no split state has been free for it; 06 Table 6-7 -/
  noSplit : Option Nat := none
  /-- bytes of the SuperSpeed burst in progress still to come or to be acknowledged; 06 R171 -/
  ssLeft : Nat := 0
  /-- it answered NRDY and awaits ERDY; 06 R171 -/
  nrdy : Bool := false
  /-- IDLE_OK of its newest EPD; 06 R180 -/
  idleOk : Bool := false
  /-- DISABLED with chains still to complete: their status and GEN; 06 Table 6-9 -/
  ending : Option (Status × BitVec 8) := none
  /-- its context stays, STOPPED, once they have completed; 07 Table 7-5 -/
  endKeep : Bool := false
  /-- index latched by a stop; 06 R251 -/
  latched : Nat := 0
  /-- a device endpoint's halt feature; 07 R187 -/
  halted : Bool := false
  /-- held or current setup packet; 07 R194 -/
  setup : List (BitVec 8) := []
  /-- STOPPED by a bus reset: only USB_EP_RESET ends it; 07 R193 -/
  resetStop : Bool := false
  /-- held in STOPPED for want of a configuration or setting that includes it; 07 R192 -/
  cfgStop : Bool := false
  /-- a control transfer is open on a device EP0; 07 R194 -/
  ctlOpen : Bool := false
  deriving DecidableEq, Repr

/-- R187 R192: one device function. -/
structure Fn where
  /-- the function is bound; 07 R187 -/
  bound : Bool := false
  /-- it is the diagnostic function; 07 R198 -/
  diag : Bool := false
  /-- binding slice; 07 R187 -/
  owner : Option (Nat × Nat) := none
  /-- PORT; 07 R187 -/
  port : Nat := 0
  /-- notify queue; 07 R187 -/
  notifyQ : Nat := 0
  /-- speed cap; 07 R187 -/
  cap : Nat := 0
  /-- address of the descriptor set; 07 R187 -/
  descAddr : BitVec 64 := 0
  /-- descriptor set, up to 4 KiB; 07 R189 -/
  desc : List (BitVec 8) := []
  /-- state; 07 Table 7-5 -/
  state : FnState := .detached
  /-- state before suspend; 07 Table 7-5 -/
  before : FnState := .detached
  /-- device address; 07 R193 -/
  addr : Nat := 0
  /-- configuration value; 07 R193 -/
  config : Nat := 0
  /-- alternate settings by interface; 07 R193 -/
  alts : List (Nat × Nat) := []
  /-- bus speed code; 07 R192 -/
  speed : Nat := 0
  /-- remote wake enabled by the host; 07 R196 -/
  wakeEn : Bool := false
  /-- REMOTE_WAKE pending or signalling; 07 R196 -/
  wakePend : Option Cmd := none
  /-- signalling has started; 07 R196 -/
  wakeSig : Bool := false
  /-- suspend entry; 07 R196 -/
  suspAt : BitVec 64 := 0
  /-- SETUP_REPLACED; 07 R194 -/
  setupReplaced : BitVec 64 := 0
  /-- end of the wake signalling; 07 R197 -/
  wakeEnd : BitVec 64 := 0
  deriving DecidableEq, Repr

/-- Table 11-1: one DMA channel. -/
structure Ch where
  /-- state; 11 R277 -/
  state : ChState := .free
  /-- owner slice; 11 R276 -/
  owner : Option (Nat × Nat) := none
  /-- DMA_CH_CONFIG has been made; 11 R277 -/
  configured : Bool := false
  /-- ring base; 11 R282 -/
  ringBase : BitVec 64 := 0
  /-- RING_LOG2; 11 R282 -/
  ringLog2 : Nat := 0
  /-- CQ; 11 R282 -/
  cq : Nat := 0
  /-- program memory on the device; 11 R280 -/
  progDev : Bool := false
  /-- 0 timer 1 channel 2 block line; 11 R296 -/
  trigKind : Nat := 0
  /-- trigger number; 11 R296 -/
  trigNum : Nat := 0
  /-- bus-error retry count; 11 R302 -/
  retries : Nat := 3
  /-- consumer index; 11 R281 -/
  cons : Nat := 0
  /-- producer index; 11 R281 -/
  prod : Nat := 0
  /-- index of the FIRST entry of the running chain; 11 R277 -/
  chainFirst : Nat := 0
  /-- entries of the running chain not yet ended, first running; 11 R282 -/
  chain : List Job := []
  /-- TAG of the LAST entry; 11 R301 -/
  chainTag : BitVec 16 := 0
  /-- IRQ of the chain; 11 R282 -/
  chainIrq : Bool := false
  /-- the first entry of chain has been started; 11 R282 -/
  jobOn : Bool := false
  /-- slice generation of the running chain; 12 R317 -/
  chainGen : BitVec 8 := 0
  /-- destination bytes written by the chain; 11 R301 -/
  jobBytes : Nat := 0
  /-- program counter; 11 R303 -/
  pc : Nat := 0
  /-- A0 to A3; 11 R278 -/
  regs : List (BitVec 64) := [0, 0, 0, 0]
  /-- space codes of A0 to A3; 11 R282 -/
  spaces : List Nat := [3, 3, 3, 3]
  /-- the MOVE under way between two turns, as fetched, and the elements or bytes of its COUNT already moved; 11 R292 -/
  move : Option (List (BitVec 8) × Nat) := none
  /-- open loops, innermost first: start, body, iterations left (0 endless as 0), mask, advance; 11 R285 -/
  loops : List (Nat × Nat × Nat × Nat × BitVec 32) := []
  /-- conversion, reshuffle and check state; 11 R288 -/
  setup : Setup := {}
  /-- check accumulator; 11 R293 -/
  acc : BitVec 64 := 0
  /-- odd byte held by Fletcher-32; 11 R293 -/
  odd : Option (BitVec 8) := none
  /-- pending trigger count; 11 R297 -/
  pending : Nat := 0
  /-- landing slots: bytes, short, poisoned; - -/
  landed : List (List (BitVec 8) × Bool × Bool) := []
  /-- payloads of the block being landed; 11 R298 -/
  landing : List (BitVec 8) := []
  /-- a cell of that block is poisoned; 11 R299 -/
  landPois : Bool := false
  /-- current block; 11 R299 -/
  current : Option (List (BitVec 8)) := none
  /-- open outbound blocks by TID, bytes not yet closed, a table; 11 R300 -/
  outBlocks : List (Nat × List (BitVec 8)) := []
  /-- what the channel waits for; 11 R286 -/
  wait : ChWait := .none
  /-- COUNT of the WAIT in progress; 11 R286 -/
  waitN : Nat := 0
  /-- WAIT TIMEOUT; 11 R286 -/
  waitDue : Option (BitVec 64) := none
  /-- retries made; 11 R302 -/
  retryN : Nat := 0
  /-- end of the retry wait; 11 R302 -/
  retryDue : Option (BitVec 64) := none
  /-- XCODE of the halt; 11 R303 -/
  haltCause : Nat := 0
  /-- failing address; 11 R303 -/
  haltAddr : BitVec 64 := 0
  /-- JOBS; 11 R304 -/
  jobs : BitVec 64 := 0
  /-- BYTES_READ; 11 R304 -/
  bytesRead : BitVec 64 := 0
  /-- BYTES_WRITTEN; 11 R304 -/
  bytesWritten : BitVec 64 := 0
  /-- RETRIES; 11 R304 -/
  retryCnt : BitVec 64 := 0
  /-- TRIG_LOST; 11 R304 -/
  trigLost : BitVec 64 := 0
  /-- CLIP; 11 R304 -/
  clip : BitVec 64 := 0
  /-- BLOCKS_TAKEN; 11 R304 -/
  blocksTaken : BitVec 64 := 0
  /-- BLOCKS_SHORT; 11 R304 -/
  blocksShort : BitVec 64 := 0
  /-- BLOCKS_POISONED; 11 R304 -/
  blocksPois : BitVec 64 := 0
  /-- BLOCK_DROP; 11 R304 -/
  blockDrop : BitVec 64 := 0
  deriving DecidableEq, Repr

/-- R296: one DMA timer. -/
structure DmaTimer where
  /-- owner slice; 11 R296 -/
  owner : Option (Nat × Nat) := none
  /-- enabled; 11 R296 -/
  enabled : Bool := false
  /-- period in ns; 11 R296 -/
  period : Nat := 0
  /-- next expiry; 11 R296 -/
  next : BitVec 64 := 0
  deriving DecidableEq, Repr

/-- the XFER island. -/
structure Xfer where
  /-- roots 0 to 23, a table; 06 R150 -/
  roots : List (Nat × Root) := []
  /-- slots 0 to 1023, a table; 06 R153 -/
  slots : List (Nat × Slot) := []
  /-- endpoint contexts 0 to 4095, a table; 06 R153 -/
  eps : List (Nat × Ep) := []
  /-- split states: endpoint, microframe of the start-split, at most 256; 06 R154 -/
  splits : List (Nat × Nat) := []
  /-- device functions 0 and 1, a table; 07 R187 -/
  fns : List (Nat × Fn) := []
  /-- DMA channels 0 to 63, a table; 11 R276 -/
  chans : List (Nat × Ch) := []
  /-- DMA timers 0 to 15, a table; 11 R296 -/
  timers : List (Nat × DmaTimer) := []
  /-- DMA program memory, 64 KiB, a byte memory; 11 R280 -/
  prog : List (Nat × BitVec 8) := []
  /-- channel that the engines served last; 11 R292 -/
  dmaTurn : Nat := 63
  /-- SMPL_GAP; 04 R92 -/
  smplGap : BitVec 64 := 0
  /-- SMPL flows whose cells are discarded up to the next BL; 11 R298 -/
  dropFlows : List Nat := []
  deriving DecidableEq, Repr

/-- R333: one MSI-X table entry. PRESUMED, log entry 4. -/
structure MsixEntry where
  /-- message address; 13 R333 -/
  addr : BitVec 64 := 0
  /-- message data; 13 R333 -/
  data : BitVec 32 := 0
  /-- vector control: bit 0 mask; 13 R333 -/
  ctrl : BitVec 32 := 1
  deriving DecidableEq, Repr

/-- a host port HP0 or HP1. PRESUMED, log entry 4. DEDUCED, log entry 171. -/
structure HostPort where
  /-- link in DL_Active; 12 R330 -/
  linkUp : Bool := false
  /-- negotiated rate in 0.1 GT/s; 13 R338 -/
  rate : Nat := 320
  /-- negotiated width; 13 R338 -/
  width : Nat := 8
  /-- power state; 09 Table 9-7 -/
  power : HpPower := .d0
  /-- base of BAR0, none while the host has assigned none; 12 R309 -/
  bar0 : Option (BitVec 64) := none
  /-- Bus Master Enable; 09 Table 9-7 -/
  bme : Bool := false
  /-- PME_En of the power-management capability; 09 Table 9-7 -/
  pmeEn : Bool := false
  /-- the host port is lost; 12 R330 -/
  lost : Bool := false
  /-- PTM Enable; 13 R344 -/
  ptmEn : Bool := false
  /-- completion timeout in ms; 13 Table 13-1 -/
  ctoMs : Nat := 50
  /-- GLB_PASID_MISS; 19 -/
  pasidMiss : BitVec 64 := 0
  /-- GLB_BAD_ACCESS; 19 -/
  badAccess : BitVec 32 := 0
  /-- GLB_SCRATCH; 19 -/
  scratch : BitVec 32 := 0
  /-- GLB_STATUS.WR_REFUSED; 19 -/
  wrRefused : Bool := false
  /-- MSI-X table, 2048 entries, a table; 13 R333 -/
  msix : List (Nat × MsixEntry) := []
  /-- pending vectors, PBA; 13 R333 -/
  pba : List Nat := []
  /-- SQ doorbell record FIFO of 64; 14 R371 -/
  sqFifo : List (Nat × Nat) := []
  /-- CQ doorbell record FIFO of 64; 14 R371 -/
  cqFifo : List (Nat × Nat) := []
  /-- SQ doorbell overflow map of slices; 14 R371 -/
  sqMap : List Nat := []
  /-- CQ doorbell overflow map of slices; 14 R371 -/
  cqMap : List Nat := []
  /-- half-read latch: offset of the latched part, its bytes; 19 R455 -/
  latch : Option (Nat × List (BitVec 8)) := none
  /-- PTM_LOCAL; 13 Table 13-2 -/
  ptmLocal : BitVec 64 := 0
  /-- PTM_MASTER; 13 Table 13-2 -/
  ptmMaster : BitVec 64 := 0
  /-- PTM_DELAY; 13 Table 13-2 -/
  ptmDelay : BitVec 32 := 0
  /-- PTM_SEQ; 13 Table 13-2 -/
  ptmSeq : BitVec 32 := 0
  /-- JRNL_RING_PI; 17 R429 -/
  jPi : Nat := 0
  /-- JRNL_RING_CI; 17 R429 -/
  jCi : Nat := 0
  /-- JRNL_RING_FIRST; 17 R429 -/
  jFirst : BitVec 64 := 0
  /-- JIDX of the next entry to write to the ring; 17 R421 -/
  jNext : Nat := 0
  /-- journal ring base; 17 R492 -/
  jBase : BitVec 64 := 0
  /-- journal ring n; 17 R492 -/
  jLog2 : Nat := 0
  /-- journal sink enabled; 17 R492 -/
  jOn : Bool := false
  /-- TRACE_RING_PI; 17 R429 -/
  tPi : Nat := 0
  /-- TRACE_RING_CI; 17 R429 -/
  tCi : Nat := 0
  /-- trace ring base; 17 R492 -/
  tBase : BitVec 64 := 0
  /-- trace ring n; 17 R492 -/
  tLog2 : Nat := 0
  /-- trace sink enabled; 17 R492 -/
  tOn : Bool := false
  /-- next buffer record for the host ring; 17 R425 -/
  tNext : Nat := 0
  /-- records lost for this ring since its last loss record; 17 R425 -/
  tLost : Nat := 0
  /-- TIME of the first of them; 17 R425 -/
  tLostFirst : BitVec 64 := 0
  /-- TIME of the last of them; 17 R425 -/
  tLostLast : BitVec 64 := 0
  /-- group mask of them; 17 R425 -/
  tLostMask : BitVec 32 := 0
  /-- SILT_VEC: VEC, JRNL_EN, TRACE_EN, ALARM_EN; 17 R429 -/
  siltVec : BitVec 14 := 0
  /-- a new alarm occurrence awaits its vector; 17 R427 -/
  alarmPend : Bool := false
  /-- earliest instant of the next alarm vector; 17 R427 -/
  alarmNext : BitVec 64 := 0
  /-- JRNL_RING_PI advanced since its last vector; 17 R429 -/
  jPend : Bool := false
  /-- TRACE_RING_PI advanced since its last vector; 17 R429 -/
  tPend : Bool := false
  /-- earliest next journal vector; 17 R429 -/
  jVecNext : BitVec 64 := 0
  /-- earliest next trace vector; 17 R429 -/
  tVecNext : BitVec 64 := 0
  /-- vectors left pending by D3hot, L2 or L3, sent first on return to D0; 09 Table 9-7 -/
  owedVecs : List Nat := []
  /-- data of host reads returned and not yet used; 13 R336 -/
  reads : List HostRead := []
  /-- client overcommitted (R338); 13 R338 -/
  overRsv : Bool := false
  /-- RWL writes held during a hold, at most 4; 19 R458 -/
  siteHeld : List (BitVec 32) := []
  deriving DecidableEq, Repr

/-- R306 to R329: one slice of a host port. -/
structure Slice where
  /-- pair in its turn of the round; 09 R248 -/
  wq : Nat := 63
  /-- chains left of that turn; 09 R248 -/
  wleft : Nat := 0
  /-- state (slice 0 ACTIVE at release, R307); 12 R318 -/
  state : SliceState := .disabled
  /-- GEN; 12 R307 -/
  gen : BitVec 8 := 0
  /-- PASID; 12 R310 -/
  pasid : BitVec 20 := 0
  /-- first MSI-X vector (slice 0: 0); 12 R307 -/
  vecFirst : Nat := 0
  /-- MSI-X vectors (slice 0: 64); 12 R307 -/
  vecCount : Nat := 0
  /-- queue-pair limit; 12 R310 -/
  qpLim : Nat := 0
  /-- DMA channel limit; 12 R310 -/
  dmaLim : Nat := 0
  /-- tunnel limit; 12 R310 -/
  tunLim : Nat := 0
  /-- endpoint limit; 12 R310 -/
  epLim : Nat := 0
  /-- MBX_MSG, 64 bytes (missing bytes read 0); 09 R233 -/
  msg : List (BitVec 8) := []
  /-- MBX_CPL, 32 bytes (missing bytes read 0); 09 R233 -/
  cpl : List (BitVec 8) := []
  /-- MBX_DB.GO; 09 -/
  go : Bool := false
  /-- MBX_DB.BUSY; 09 -/
  busy : Bool := false
  /-- MBX_DB.DONE; 09 -/
  done : Bool := false
  /-- MBX_DB.REFUSED; 09 -/
  refused : Bool := false
  /-- IRQ of the message in execution; 09 R246 -/
  mbxIrq : Bool := false
  /-- MBX_CFG.VEC; 09 -/
  cfgVec : Nat := 0
  /-- MBX_CFG.IRQ_EN; 09 -/
  cfgIrq : Bool := false
  /-- SLICE_EVT; 09 R234 -/
  evt : BitVec 4 := 0
  /-- SLICE_EVT_EN; 09 R234 -/
  evtEn : BitVec 4 := 0
  /-- SLICE_EVT_VEC; 09 R234 -/
  evtVec : Nat := 0
  /-- SLICE_EVT_INFO; 09 R234 -/
  evtInfo : BitVec 32 := 0
  /-- DB_REJECT; 12 R308 -/
  dbReject : BitVec 64 := 0
  /-- ACCESS_REJECT; 12 R308 -/
  accReject : BitVec 64 := 0
  /-- NOTICE_LOST; 09 R245 -/
  noticeLost : BitVec 64 := 0
  /-- STALE_GENERATION; 12 R317 -/
  staleGen : BitVec 64 := 0
  /-- older generations in flight, oldest first; 12 R316 -/
  inFlight : List (BitVec 8) := []
  /-- opcodes and commands waiting for a generation to drain or a reset to end; 12 R316 -/
  waitCmds : List (Nat × Cmd) := []
  /-- SLICE_RESET or SLICE_DISABLE in progress, with its opcode; 12 R320 -/
  resetCmd : Option (Nat × Cmd) := none
  /-- the running reset disables the slice; 12 R320 -/
  resetDis : Bool := false
  /-- SLICE_FREEZE in progress; 12 R324 -/
  freezeCmd : Option Cmd := none
  /-- 10 ms limit of FREEZING; 12 R318 -/
  freezeDue : Option (BitVec 64) := none
  /-- FROZEN at the moment of loss; 12 R326 -/
  wasFrozen : Bool := false
  /-- SAVE_SEQ; 12 R325 -/
  saveSeq : BitVec 64 := 0
  /-- a logging round is open; 12 R322 -/
  dirtyOn : Bool := false
  /-- dirty-log ring base; 12 R322 -/
  dirtyBase : BitVec 64 := 0
  /-- dirty-log RING_LOG2; 12 R322 -/
  dirtyLog2 : Nat := 0
  /-- dirty-log entries written; 12 R322 -/
  dirtyPos : Nat := 0
  /-- last 256 pages logged; 12 R323 -/
  dirtyRecent : List (BitVec 52) := []
  /-- ALL_DIRTY; 12 R323 -/
  allDirty : Bool := false
  /-- 1 s after HOST_LOST; 12 R332 -/
  lostDue : Option (BitVec 64) := none
  deriving DecidableEq, Repr

/-- R247 R256: one queue pair. -/
structure Qp where
  /-- the chain at SQ_CI has been found without its LAST entry; 09 R240 -/
  partChain : Bool := false
  /-- STATE; 09 -/
  state : QpState := .disabled
  /-- why it is STOPPING; 09 R256 -/
  stop : QpStop := .none
  /-- QP_RESET or QP_DESTROY in progress, with its opcode; 09 R256 -/
  stopCmd : Option (Nat × Cmd) := none
  /-- SQ base; 10 QP_CREATE -/
  sqBase : BitVec 64 := 0
  /-- CQ base; 10 QP_CREATE -/
  cqBase : BitVec 64 := 0
  /-- SQ n; 10 QP_CREATE -/
  sqN : Nat := 0
  /-- CQ n; 10 QP_CREATE -/
  cqN : Nat := 0
  /-- dispatch weight; 09 R248 -/
  weight : Nat := 1
  /-- CQ vector; 09 R254 -/
  vec : Nat := 0
  /-- COUNT; 09 R254 -/
  count : Nat := 0
  /-- TIMER in us; 09 R254 -/
  timer : Nat := 0
  /-- CR_STALL_US; 09 R249 -/
  crStall : Nat := 1000
  /-- SQ_CI; 09 -/
  sqCi : Nat := 0
  /-- SQ_PI; 09 -/
  sqPi : Nat := 0
  /-- CQ_PI; 09 -/
  cqPi : Nat := 0
  /-- CQ_CI; 09 -/
  cqCi : Nat := 0
  /-- PHASE; 09 -/
  phase : Bool := true
  /-- completions and notices produced and not yet written, in the order produced (KIND 3 is the notice backlog, at most 64); 09 R249 R245 -/
  held : List CqEntry := []
  /-- ABORTED completions still to be produced (R257), in ring order; 09 R257 -/
  aborts : List CqEntry := []
  /-- holding slots reserved by jobs in progress; 09 R249 -/
  slots : Nat := 0
  /-- notices dropped since the backlog was last full; 09 R245 -/
  dropped : Nat := 0
  /-- STALLED; 09 -/
  stalled : Bool := false
  /-- STALL_COUNT; 09 -/
  stallCount : BitVec 32 := 0
  /-- CR_STALL_US expiry; 09 R249 -/
  stallDue : Option (BitVec 64) := none
  /-- counted completions since the last interrupt; 09 R254 -/
  k : Nat := 0
  /-- moderation timer expiry; 09 R254 -/
  modDue : Option (BitVec 64) := none
  deriving DecidableEq, Repr

/-- R325: what the body of a slice's latest blob holds (its layout is private to the firmware; the model keeps the contents). -/
structure SliceImage where
  /-- first vector of the saved slice's range; 12 R325 -/
  vecFirst : Nat := 0
  /-- GEN at save; 12 Table 12-6 -/
  gen : BitVec 8 := 0
  /-- queue pairs by number; 12 R325 -/
  qps : List (Nat × Qp) := []
  /-- device slots; 12 R325 -/
  slots : List (Nat × Slot) := []
  /-- endpoint contexts; 12 R325 -/
  eps : List (Nat × Ep) := []
  /-- root bindings; 12 R325 -/
  roots : List (Nat × Root) := []
  /-- device-function bindings; 12 R325 -/
  fns : List (Nat × Fn) := []
  /-- DMA channels; 12 R325 -/
  chans : List (Nat × Ch) := []
  /-- DMA timers; 12 R325 -/
  timers : List (Nat × DmaTimer) := []
  /-- owned tunnels by TID; 12 R325 -/
  tunnels : List (Nat × Tunnel) := []
  /-- SLICE_EVT; 12 R325 -/
  evt : BitVec 4 := 0
  /-- SLICE_EVT_EN; 12 R325 -/
  evtEn : BitVec 4 := 0
  /-- SLICE_EVT_VEC; 12 R325 -/
  evtVec : Nat := 0
  /-- SLICE_EVT_INFO; 12 R325 -/
  evtInfo : BitVec 32 := 0
  /-- a logging round is open; 12 R325 -/
  dirtyOn : Bool := false
  /-- dirty-log base; 12 R325 -/
  dirtyBase : BitVec 64 := 0
  /-- RING_LOG2; 12 R325 -/
  dirtyLog2 : Nat := 0
  /-- entries written; 12 R325 -/
  dirtyPos : Nat := 0
  /-- last pages logged; 12 R325 -/
  dirtyRecent : List (BitVec 52) := []
  /-- ALL_DIRTY; 12 R325 -/
  allDirty : Bool := false
  deriving DecidableEq, Repr

/-- host ports, slices and queue pairs. -/
structure Hosts where
  /-- HP0; 13 -/
  hp0 : HostPort := {}
  /-- HP1; 13 -/
  hp1 : HostPort := {}
  /-- slices by host port * 256 + slice, a table; 12 R306 -/
  slices : List (Nat × Slice) := []
  /-- queue pairs by (host port * 256 + slice) * 64 + q, a table; 09 R256 -/
  qps : List (Nat × Qp) := []
  /-- contents of the latest blob of each slice saved, a table by slice; 12 R325 -/
  images : List (Nat × SliceImage) := []
  /-- commands dispatched and not completed, in the order of their dispatch; 09 R248 -/
  running : List Outst := []
  /-- slice served last, as host port * 256 + slice; 09 R248 -/
  served : Nat := 511
  deriving DecidableEq, Repr

/-- Table 14-1 R354 to R358: one physical core. -/
structure Core where
  /-- STATE; 14 R355 -/
  state : CoreState := .active
  /-- SLOT held, none 15; 14 R354 -/
  slot : Option Nat := none
  /-- work item running or suspended; 14 R360 -/
  item : Option Item := none
  /-- when the item was dispatched; 14 R358 -/
  itemAt : BitVec 64 := 0
  /-- sources of the handlers nested on the item, innermost first; 14 R368 -/
  handlers : List Nat := []
  /-- ITEMS_RUN; 14 R373 -/
  itemsRun : BitVec 64 := 0
  /-- BUSY_NS; 14 R373 -/
  busyNs : BitVec 64 := 0
  /-- IRQS_TAKEN; 14 R373 -/
  irqsTaken : BitVec 64 := 0
  /-- FAULTS; 14 R373 -/
  faults : BitVec 32 := 0
  /-- faults of the last 24 h; 14 R355 -/
  faultTimes : List (BitVec 64) := []
  /-- LAST_ROTATE; 14 R373 -/
  lastRotate : BitVec 64 := 0
  /-- end of the last self-test; 14 R355 -/
  lastTest : BitVec 64 := 0
  /-- self-tests the new code has failed on this core; 18 R448 -/
  testFails : Nat := 0
  /-- the core runs the staged version; 18 R446 -/
  newCode : Bool := false
  deriving DecidableEq, Repr

/-- R360 R373: one of the sixteen ready lists. -/
structure ReadyList where
  /-- items in FIFO order; 14 R360 -/
  items : List Item := []
  /-- ITEMS_IN; 14 R373 -/
  itemsIn : BitVec 64 := 0
  /-- MAX_DEPTH; 14 R373 -/
  maxDepth : Nat := 0
  /-- WAIT_MAX_NS, saturating; 14 R373 -/
  waitMax : Nat := 0
  /-- HIST0 to HIST7 (missing ones read 0); 14 R373 -/
  hist : List (BitVec 32) := []
  deriving DecidableEq, Repr

/-- R363: an item pending on a delay list. -/
structure DelayItem where
  /-- DUE tick; 14 R363 -/
  due : BitVec 32 := 0
  /-- insertion number by which a cancel names it (model); 14 R364 -/
  ident : Nat := 0
  /-- the item; 14 R363 -/
  item : Item := {}
  deriving DecidableEq, Repr

/-- R363 R373: one of the four delay lists. -/
structure DelayList where
  /-- pending items in insertion order; 14 R363 -/
  items : List DelayItem := []
  /-- MAX_PENDING; 14 R373 -/
  maxPending : Nat := 0
  /-- EXPIRED; 14 R373 -/
  expired : BitVec 64 := 0
  /-- LATE; 14 R373 -/
  late : BitVec 64 := 0
  deriving DecidableEq, Repr

/-- R366 R367: one EVC source. -/
structure Src where
  /-- state; 14 R367 -/
  state : SrcState := .idle
  /-- ENABLE; 14 R366 -/
  enable : Bool := false
  /-- MODE: interrupt; 14 R366 -/
  irq : Bool := false
  /-- LEVEL; 14 R366 -/
  level : Bool := false
  /-- ASSERTED: present input; 14 R373 -/
  asserted : Bool := false
  /-- WAKE; 14 R366 -/
  wake : Bool := false
  /-- PRIO; 14 R366 -/
  prio : Nat := 0
  /-- CORE holding the claim, none 15; 14 R373 -/
  core : Option Nat := none
  /-- OCCUR, saturating at 65535; 14 R367 -/
  occur : Nat := 0
  /-- AFFINITY; 14 R366 -/
  affinity : BitVec 8 := 0
  /-- CLASS that the firmware gives the source's item or handler; 14 Table 14-2 -/
  cls : BitVec 16 := 0
  /-- when it was claimed; 14 R370 -/
  since : BitVec 64 := 0
  /-- its overdue claim has been reported; 14 R370 -/
  overdue : Bool := false
  deriving DecidableEq, Repr

/-- R354: at reset CORE0 to CORE7 occupy slots 0 to 7 and CORE8 is the spare. -/
def defaultCores : List Core :=
  [{ slot := some 0 }, { slot := some 1 }, { slot := some 2 }, { slot := some 3 },
   { slot := some 4 }, { slot := some 5 }, { slot := some 6 }, { slot := some 7 },
   { state := .spare }]

/-- the control cluster. -/
structure Cluster where
  /-- CORE0 to CORE8; 14 Table 14-6 -/
  cores : List Core := defaultCores
  /-- ready lists 0 to 15, a table; 14 R360 -/
  ready : List (Nat × ReadyList) := []
  /-- delay lists 0 to 3, a table; 14 R363 -/
  delay : List (Nat × DelayList) := []
  /-- EVC sources 0 to 511, a table; 14 R366 -/
  srcs : List (Nat × Src) := []
  /-- next insertion number of a delay item (model); 14 R364 -/
  nextIdent : Nat := 0
  /-- round-robin point among eligible slots; 14 R360 -/
  rrSlot : Nat := 0
  /-- slot that last won an interrupt tie; 14 R368 -/
  rrTie : Nat := 7
  /-- ROTATIONS; 14 R373 -/
  rotations : BitVec 32 := 0
  /-- when the last daily rotation was due; 14 R356 -/
  rotateAt : BitVec 64 := 0
  /-- ENQ_REFUSED; 14 R373 -/
  enqRefused : BitVec 32 := 0
  /-- EVC_RAISED; 14 R373 -/
  raised : BitVec 64 := 0
  /-- EVC_STALE; 14 R373 -/
  stale : BitVec 64 := 0
  /-- EVC_OVERDUE; 14 R373 -/
  overdue : BitVec 32 := 0
  /-- DELAY_REFUSED; 14 R373 -/
  delayRefused : BitVec 32 := 0
  /-- EVC and Shallot state is in retention, CTRL off; 14 R372 -/
  saved : Bool := false
  /-- sources latched in the pending shadow; 14 R372 -/
  shadow : List Nat := []
  /-- firmware classes admitted to the staged version, newest first; 18 R447 -/
  moved : List (BitVec 16) := []
  /-- class whose dispatch is stopped at the fence; 18 R447 -/
  paused : Option (BitVec 16) := none
  /-- MGMT cells of the control cluster that wait for space, with their ports, oldest first; 05 R133 R134 -/
  mgmtOut : List (Nat × Cell) := []
  deriving DecidableEq, Repr

/-- R377: a domain sequence under way. -/
structure DomSeq where
  /-- domain code; 15 R377 -/
  domain : Nat := 0
  /-- it goes off; 15 R377 -/
  off : Bool := false
  /-- PM_DOMAIN it completes; 15 R377 -/
  cmd : Option Cmd := none
  deriving DecidableEq, Repr

/-- R380: an island on its way to a level. -/
structure LevelJob where
  /-- agent ID; 15 R380 -/
  agent : Nat := 0
  /-- level; 15 R380 -/
  level : Nat := 0
  /-- PM_LEVEL it serves; 15 R380 -/
  cmd : Option Cmd := none
  deriving DecidableEq, Repr

/-- R353 R437: one external PMBus regulator. -/
structure Regulator where
  /-- rail of SETTINGS, 0 none; 18 R437 -/
  rail : Nat := 0
  /-- PMBus address; 18 R437 -/
  addr : Nat := 0
  /-- PMBus page, 0xFF none; 18 R437 -/
  page : Nat := 255
  /-- STATUS_WORD last read; 13 R353 -/
  status : BitVec 16 := 0
  /-- transactions not answered in a row; 13 R353 -/
  missed : Nat := 0
  /-- output voltage last commanded, mV, 0 none; 13 R353 -/
  cmdMv : Nat := 0
  deriving DecidableEq, Repr

/-- domains, levels, sleep, supply and energy. -/
structure Power where
  /-- PM_DOMAINS.ON; 15 -/
  on : BitVec 12 := 4095
  /-- PM_DOMAINS.HELD; 15 -/
  held : BitVec 12 := 0
  /-- levels in force by agent ID, P0 unless listed; 15 PM_LEVELS -/
  levels : List (Nat × Nat) := []
  /-- levels set, restored at the end of a hold or sleep; 15 R386 R391 -/
  levelsSet : List (Nat × Nat) := []
  /-- level changes under way; 15 R380 -/
  jobs : List LevelJob := []
  /-- domain sequences under way; 15 R377 -/
  seqs : List DomSeq := []
  /-- power good has been seen; 20 R479 -/
  powered : Bool := false
  /-- PM_LEVELS.HOLD; 15 R390 -/
  hold : Bool := false
  /-- start of the hold; 15 R390 -/
  holdAt : BitVec 64 := 0
  /-- rail of the hold; 15 R391 -/
  holdRail : Nat := 0
  /-- lowest reading in mV; 15 R391 -/
  holdLow : Nat := 0
  /-- LOW_SUPPLY; 15 R392 -/
  lowSupply : Bool := false
  /-- expiry of the hold window that began LOW_SUPPLY; 15 R392 -/
  lowAt : BitVec 64 := 0
  /-- a SerDes rail is below reset; 15 R394 -/
  serdesLost : Bool := false
  /-- a switched-domain reset waits for every rail; 15 R394 -/
  resetWait : Bool := false
  /-- PM_WAKE_CFG mask; 15 R387 -/
  wakeMask : BitVec 64 := 65535
  /-- wakes latched during entry: PM_WAKE_CFG bit, or 64 plus an EVC source; 15 R388 -/
  wakeLatched : List Nat := []
  /-- PM_MODE.TARGET_STATE; 15 PM_MODE -/
  target : BitVec 2 := 0
  /-- PM_MODE.DOMAIN_MASK; 15 PM_MODE -/
  mask : BitVec 12 := 0
  /-- PM_MODE.REFUSED; 15 PM_MODE -/
  refused : Bool := false
  /-- PM_MODE.REQ; 15 PM_MODE -/
  req : Bool := false
  /-- PM_STATUS.STATE; 15 PM_STATUS -/
  sleep : BitVec 2 := 0
  /-- PM_STATUS.PHASE; 15 PM_STATUS -/
  phase : Phase := .steady
  /-- PM_STATUS.RESULT; 15 PM_STATUS -/
  result : BitVec 3 := 0
  /-- PM_STATUS.BUSY_DOMAIN; 15 PM_STATUS -/
  busyDomain : BitVec 4 := 0
  /-- PM_STATUS.LAST_WAKE; 15 PM_STATUS -/
  lastWake : BitVec 6 := 0
  /-- PM_STATUS.REPLAYED; 15 PM_STATUS -/
  replayed : Bool := false
  /-- a sleep request waits for the end of a hold; 15 R383 -/
  sleepWait : Bool := false
  /-- when each domain was last switched off, a table; 01 R18 -/
  offAt : List (Nat × BitVec 64) := []
  /-- islands gated in DOZE, by agent ID; 15 R384 -/
  gated : List Nat := []
  /-- domains powered before sleep entry; 15 R386 -/
  onBefore : BitVec 12 := 4095
  /-- port groups powered on demand while held; 15 R378 -/
  pgDemand : BitVec 4 := 0
  /-- 10 s idle-off instants by port group; 15 R378 -/
  pgDue : List (Nat × BitVec 64) := []
  /-- ENERGY_NJ by agent ID; 15 R395 -/
  energy : List (Nat × BitVec 64) := []
  /-- external regulators 0 to 3, a table; 13 R353 -/
  regs : List (Nat × Regulator) := []
  deriving DecidableEq, Repr

/-- R412: the counters of a protected region, or of one copy of the Loam memory. -/
structure RegionCtr where
  /-- CE; 16 R412 -/
  ce : BitVec 64 := 0
  /-- UE; 16 R412 -/
  ue : BitVec 64 := 0
  /-- WRITE_BACK; 16 R412 -/
  writeBack : BitVec 64 := 0
  /-- RMW; 16 R412 -/
  rmw : BitVec 64 := 0
  /-- SCRUB_PAGES; 16 R412 -/
  scrubPages : BitVec 64 := 0
  /-- SCRUB_CE; 16 R412 -/
  scrubCe : BitVec 64 := 0
  /-- SCRUB_UE; 16 R412 -/
  scrubUe : BitVec 64 := 0
  /-- REPAIRS_SOFT; 16 R412 -/
  repairsSoft : BitVec 64 := 0
  deriving DecidableEq, Repr

/-- R397 R401 R412: one page-protected region. -/
structure Region where
  /-- T_IN_FORCE of the pages behind the pointer; 16 R401 -/
  t : Nat := 6
  /-- t of the pages at or ahead of the pointer while converting; 16 R401 -/
  tOld : Nat := 6
  /-- MODE: correct-on-the-fly; 16 R404 -/
  fly : Bool := false
  /-- scrub period in us, 0 stopped; 16 R406 -/
  period : Nat := 10
  /-- scrub pass pointer, page; 16 R406 -/
  scrubAt : Nat := 0
  /-- CONVERTING; 16 R401 -/
  converting : Bool := false
  /-- CONV_POINTER, page; 16 R401 -/
  convAt : Nat := 0
  /-- armed flip mask positions; 16 R411 -/
  flip : List Nat := []
  /-- FLIP_ARMED; 16 R411 -/
  flipArmed : Bool := false
  /-- pages with inverted positions, a table by page; 16 R399 -/
  errs : List (Nat × List Nat) := []
  /-- pages that kept an old t at a conversion, and that t, a table; 16 R401 -/
  keepsOld : List (Nat × Nat) := []
  /-- pages whose write-back waits; 16 R403 -/
  backs : List Nat := []
  /-- its counters; of the Loam memory those of copy A; 16 R412 -/
  ctr : RegionCtr := {}
  /-- the counters of copy B of the Loam memory; 16 R412 19 R466 -/
  ctrB : RegionCtr := {}
  /-- spare rows used, by bank, a table (SPARES_FREE is 16 less it); 16 R397 R412 -/
  used : List (Nat × Nat) := []
  /-- soft repairs in force: bank, row, spare; 16 R408 -/
  repairs : List (Nat × Nat × Nat) := []
  /-- soft repairs whose copy runs: bank, row, spare, permanent, command; 16 R408 -/
  copying : List (Nat × Nat × Nat × Bool × Option Cmd) := []
  /-- corrected positions of a row within 24 h, by row index; 16 R409 -/
  rowErrs : List (Nat × List (Nat × BitVec 64)) := []
  /-- pages written back and not read since; 16 R409 -/
  backOnce : List Nat := []
  deriving DecidableEq, Repr

/-- Table 16-1 and R406: default strengths and scrub periods; Marl has t = 4 and 1 µs per page. -/
def defaultRegions : List Region :=
  [{ t := 4, tOld := 4, period := 1 }, {}, {}, {}, {}]

/-- memory integrity and repair. -/
structure Mem where
  /-- regions 0 to 4 of Table 16-1; 16 R397 -/
  regions : List Region := defaultRegions
  /-- permanent repairs queued: region, bank, row, spare; 16 R408 -/
  queued : List (Nat × Nat × Nat × Nat) := []
  /-- fuse repair map entries written, at most 128; 16 R407 -/
  fuseMap : List (BitVec 32) := []
  /-- REPAIRS_FUSED; 16 R412 -/
  repairsFused : BitVec 64 := 0
  /-- FUSE_PROGRAM under way and its entries left; 16 R410 -/
  burning : Option (Cmd × List (Nat × Nat × Nat × Nat)) := none
  /-- firmware pages being rewritten from flash and the items that wait for each; 16 R405 -/
  rewrites : List (Nat × List Item) := []
  /-- DMA in-flight buffer, 512 KiB, a byte memory; 16 Table 16-1 -/
  dmaBuf : List (Nat × BitVec 8) := []
  /-- endpoint buffer, 2 MiB, a byte memory; 16 Table 16-1 -/
  epBuf : List (Nat × BitVec 8) := []
  deriving DecidableEq, Repr

/-- R414: one journal entry. -/
structure JEntry where
  /-- the 32 bytes of Table 17-1; 17 R414 -/
  bytes : List (BitVec 8) := []
  deriving DecidableEq, Repr

/-- R419: one journal sink's progress. -/
structure Sink where
  /-- the sink is enabled; 17 R419 -/
  on : Bool := false
  /-- JIDX of the next entry it takes; 17 R419 -/
  next : Nat := 0
  deriving DecidableEq, Repr

/-- R414: what a journal entry records, before its TIME and TAG. -/
structure JReq where
  /-- ORIGIN; 17 R414 -/
  origin : Nat := 5
  /-- SLICE; 17 R414 -/
  slice : Nat := 0
  /-- KIND; 17 R414 -/
  kind : Nat := 0
  /-- OBJECT; 17 R414 -/
  object : Nat := 0
  /-- OLD, four bytes; 17 R414 -/
  old : List (BitVec 8) := []
  /-- NEW, four bytes; 17 R414 -/
  new : List (BitVec 8) := []
  /-- REFUSED; 17 R414 -/
  refused : Bool := false
  /-- DEFERRED; 17 R414 -/
  deferred : Bool := false
  /-- RESERVE; 17 R414 -/
  reserve : Bool := false
  deriving DecidableEq, Repr

/-- R419 R390: a commit that waits. -/
structure Deferred where
  /-- opcode and command that waits, none for a firmware change; 17 R419 -/
  cmd : Option (Nat × Cmd) := none
  /-- the entry of a firmware change or record; 17 R419 -/
  req : JReq := {}
  /-- the change that waits with the entry; 17 R419 -/
  act : Act := .none
  deriving DecidableEq, Repr

/-- R424: one trace record. -/
structure TraceRec where
  /-- TIME; 17 R424 -/
  time : BitVec 64 := 0
  /-- AGENT; 17 R424 -/
  agent : Nat := 0
  /-- GROUP, 255 for a loss record; 17 R424 -/
  group : Nat := 0
  /-- EVENT (a free value of the firmware); 17 R424 -/
  event : BitVec 16 := 0
  /-- OBJECT; 17 R424 -/
  object : BitVec 32 := 0
  /-- ARGS, 16 bytes (missing bytes 0); 17 R424 -/
  args : List (BitVec 8) := []
  deriving DecidableEq, Repr

/-- R425: losses at one place since the last loss record. -/
structure Loss where
  /-- COUNT lost; 17 R425 -/
  count : Nat := 0
  /-- group mask of the records lost; 17 R425 -/
  groups : BitVec 32 := 0
  /-- TIME of the first record lost; 17 R425 -/
  first : BitVec 64 := 0
  /-- TIME of the last record lost; 17 R425 -/
  last : BitVec 64 := 0
  deriving DecidableEq, Repr

/-- R426: one alarm. -/
structure Alarm where
  /-- latch; 17 R426 -/
  latch : Bool := false
  /-- acknowledged flag; 17 R426 -/
  acked : Bool := false
  /-- occurrence count, saturating at 65535; 17 R426 -/
  occur : Nat := 0
  /-- severity set by ALARM_CFG, none for the default of Table 17-6; 17 R426 -/
  sev : Option Nat := none
  /-- enable; 17 R426 -/
  enable : Bool := true
  /-- condition present; 17 R426 -/
  cond : Bool := false
  /-- OBJECT of the latest occurrence; 17 R426 -/
  object : BitVec 32 := 0
  deriving DecidableEq, Repr

/-- journal, traces and alarms. -/
structure Silt where
  /-- CHAIN_START has been committed since the last cold start; 17 R417 -/
  chained : Bool := false
  /-- Loam journal ring, a table by position 0 to 8191; 17 R418 -/
  ring : List (Nat × JEntry) := []
  /-- JRNL_NEXT; 17 R429 -/
  next : Nat := 0
  /-- JRNL_TAG, eight bytes; 17 R429 -/
  tag : List (BitVec 8) := []
  /-- tag before the oldest entry held; 17 R494 -/
  tagOld : List (BitVec 8) := []
  /-- JRNL_OLDEST; 19 Table 19-4 -/
  oldest : Nat := 0
  /-- management journal sink, JRNL_MGMT_CI is its next; 19 R465 -/
  mgmtJ : Sink := {}
  /-- flash persistence sink; 17 R423 -/
  persist : Sink := {}
  /-- PERSIST_FAULT; 17 R429 -/
  persistFault : Bool := false
  /-- 10 ms after the first waiting entry; 17 R423 -/
  persistDue : Option (BitVec 64) := none
  /-- write pointer into the persistent log, pages; 17 R423 -/
  persistWr : Nat := 0
  /-- JRNL_BUSY; 17 R429 -/
  jrnlBusy : BitVec 64 := 0
  /-- REFUSED_UNLOGGED; 17 R429 -/
  refusedUnlogged : BitVec 32 := 0
  /-- RECORDS_DROPPED; 17 R429 -/
  recordsDropped : BitVec 32 := 0
  /-- DRAIN_CI_BAD; 17 R429 -/
  drainCiBad : BitVec 32 := 0
  /-- TRACE_LOST; 17 R429 -/
  traceLost : BitVec 64 := 0
  /-- record store, at most 64; 17 R419 -/
  records : List JReq := []
  /-- commits that wait for a hold or for space, in dispatch order; 17 R419 -/
  deferred : List Deferred := []
  /-- enabled trace groups; 17 R424 -/
  groups : BitVec 32 := 223
  /-- island FIFOs of at most 16 records, a table by agent; 17 R424 -/
  fifos : List (Nat × List TraceRec) := []
  /-- losses at an island FIFO, a table by agent; 17 R425 -/
  fifoLoss : List (Nat × Loss) := []
  /-- trace buffer by record number, those no sink has yet let go; 17 R424 -/
  trace : List (Nat × TraceRec) := []
  /-- latest record at each position of the trace view, a table; 19 R462 -/
  traceView : List (Nat × TraceRec) := []
  /-- number of the next record of the buffer; 17 R424 -/
  traceNext : Nat := 0
  /-- losses of the buffer; 17 R425 -/
  traceLoss : Option Loss := none
  /-- the management trace sink is enabled; 17 R422 -/
  mgmtT : Bool := false
  /-- TRACE_MGMT_PI; 19 Table 19-4 -/
  traceMgmtPi : BitVec 32 := 0
  /-- TRACE_MGMT_CI; 19 Table 19-4 -/
  traceMgmtCi : BitVec 32 := 0
  /-- alarms 0 to 26, a table; 17 R426 -/
  alarms : List (Nat × Alarm) := []
  /-- ALARM_LAST; 17 R429 -/
  alarmLast : BitVec 64 := 0
  deriving DecidableEq, Repr

/-- R443 R444: a flash operation of a command. -/
structure ImageJob where
  /-- the command; 18 R443 -/
  cmd : Cmd := {}
  /-- IMAGE_SELECT rather than IMAGE_WRITE; 18 R444 -/
  select : Bool := false
  /-- 0 A 1 B 2 recovery; 18 R443 -/
  slot : Nat := 0
  /-- OFFSET; 18 R443 -/
  off : Nat := 0
  /-- LENGTH; 18 R443 -/
  len : Nat := 0
  /-- bytes to program; 18 R443 -/
  data : List (BitVec 8) := []
  deriving DecidableEq, Repr

/-- R449 R450: one Loam copy. -/
structure Loam where
  /-- state; 18 R450 -/
  state : LoamState := .active
  /-- failures within 24 h; 18 R450 -/
  fails : List (BitVec 64) := []
  /-- 10 s after failing; 18 R450 -/
  retryDue : Option (BitVec 64) := none
  deriving DecidableEq, Repr

/-- start-up, live update and replacement. -/
structure Boot where
  /-- how far start-up has gone; 18 Table 18-5 -/
  stage : BootStage := .off
  /-- FORCE_RECOVERY_N sampled low at power good; 18 R440 -/
  recoveryStrap : Bool := false
  /-- SMB_ADDR[1:0] sampled at power good; 13 R352 -/
  smbAddr : BitVec 2 := 0
  /-- ROOT_KEY_HASH fuses (missing bytes 0); 18 R432 -/
  keyHash : List (BitVec 8) := []
  /-- SERIAL fuses; 18 R432 -/
  serial : BitVec 48 := 0
  /-- OPTIONS0 fuses; 18 R432 -/
  options0 : BitVec 32 := 0
  /-- OPTIONS1 fuses; 18 R432 -/
  options1 : BitVec 32 := 0
  /-- TRIM fuses; 18 R432 -/
  trim : BitVec 512 := 0
  /-- fuse load has ended; 18 R433 -/
  fuseLoaded : Bool := false
  /-- configuration flash, a byte memory (erased bytes are stored inverted: an unlisted byte reads 0xFF); 18 R430 -/
  flash : List (Nat × BitVec 8) := []
  /-- PREFERRED of the select record in force; 18 R431 -/
  preferred : BitVec 1 := 0
  /-- SEQ of the select record in force; 18 R431 -/
  selSeq : BitVec 64 := 0
  /-- flash address of the newest select record; 18 R431 -/
  selAt : Option Nat := none
  /-- BOOT_STATUS.BOOTED; 18 -/
  booted : BitVec 2 := 3
  /-- BOOT_STATUS.RELEASED and TB_STATUS.RELEASED; 18 -/
  released : Bool := false
  /-- BOOT_STATUS.CAUSE_A; 18 -/
  causeA : BitVec 3 := 0
  /-- BOOT_STATUS.CAUSE_B; 18 -/
  causeB : BitVec 3 := 0
  /-- BOOT_STATUS.CAUSE_REC; 18 -/
  causeRec : BitVec 3 := 0
  /-- BOOT_STATUS.CMD_FAIL, saturating; 18 -/
  cmdFail : Nat := 0
  /-- SUBSYS_VENDOR in force; 18 R437 -/
  subVendor : BitVec 16 := 0
  /-- SUBSYS_ID in force; 18 R437 -/
  subId : BitVec 16 := 0
  /-- brownout hold window in ms; 15 R391 -/
  holdWindow : Nat := 10
  /-- JRNL_OFFSET in force; 18 R437 -/
  jrnlOffset : Nat := 0
  /-- JRNL_SIZE in force; 18 R437 -/
  jrnlSize : Nat := 0
  /-- COMMANDS entries of the image taken; 18 R438 -/
  commands : List Entry := []
  /-- index of the COMMANDS entry where the next chain begins; 18 R438 -/
  cmdAt : Nat := 0
  /-- newest valid page of the persistent journal, kept in flash: region offset, next JIDX, write pointer, TAG (the spec gives the log no layout); 17 R423 -/
  persisted : Option (Nat × Nat × Nat × List (BitVec 8)) := none
  /-- DISPLAYID descriptors by input * 4 + stream; 18 R439 -/
  displayIds : List (Nat × List (BitVec 8)) := []
  /-- streams whose record has DSC_CAP; 18 R439 -/
  dscCap : List Nat := []
  /-- FW_RUNNING; 18 -/
  running : BitVec 32 := 0
  /-- FW_STAGED; 18 -/
  staged : BitVec 32 := 0
  /-- payload of the FW_STAGE in force; 17 R415 -/
  stageValue : List (BitVec 8) := []
  /-- slot that matched the staged image; 18 R445 -/
  stagedSlot : Option Nat := none
  /-- slot from which the running firmware came; 18 R443 -/
  fwSlot : Option Nat := none
  /-- FW_UPDATE.PHASE; 18 -/
  phase : UpPhase := .idle
  /-- FW_ACTIVATE in progress; 18 R446 -/
  activate : Option Cmd := none
  /-- DETAIL of a rollback in progress; 18 R448 -/
  rollDetail : Nat := 0
  /-- 1 s for a core to be SPARE during an update; 18 R453 -/
  spareDue : Option (BitVec 64) := none
  /-- flash operation under way; 18 R443 -/
  imageJob : Option ImageJob := none
  /-- Loam copy A; 18 R449 -/
  loamA : Loam := {}
  /-- Loam copy B; 18 R449 -/
  loamB : Loam := { state := .standby }
  /-- LOAM_COPIES.ACTIVE; 18 -/
  loamActiveB : Bool := false
  /-- LOAM_COPIES.HANDOVERS; 18 -/
  handovers : BitVec 16 := 0
  deriving DecidableEq, Repr

/-- R348 to R351: one Ethernet port. DESIGN CHOICE, log entry 106. -/
structure NetPort where
  /-- 0 off, 1 10GBASE-R, 2 25GBASE-R; 13 R348 -/
  rate : Nat := 0
  /-- RS-FEC; 13 R348 -/
  fec : Bool := false
  /-- link is up; 13 R348 -/
  up : Bool := false
  /-- event timestamps enabled; 13 R351 -/
  ptpEvents : Bool := false
  /-- PTP encapsulations: bit 0 UDP/IPv4, bit 1 Ethernet; 13 R351 -/
  ptpEnc : Nat := 0
  /-- CTRL_DROP; 13 R350 -/
  ctrlDrop : BitVec 64 := 0
  /-- OVERSIZE; 13 R350 -/
  oversize : BitVec 64 := 0
  /-- FCS_DROP; 13 R350 -/
  fcsDrop : BitVec 64 := 0
  /-- UNTAGGED_DROP; 13 R350 -/
  untaggedDrop : BitVec 64 := 0
  /-- NO_TUNNEL_DROP; 13 R350 -/
  noTunnelDrop : BitVec 64 := 0
  /-- VID_MISMATCH; 13 R350 -/
  vidMismatch : BitVec 64 := 0
  deriving DecidableEq, Repr

/-- R88 to R90 R347: one stream of a DisplayPort input. -/
structure Stream where
  /-- UNBOUND_DROP; 13 R347 -/
  unboundDrop : BitVec 64 := 0
  /-- SDP_DROP; 13 R347 -/
  sdpDrop : BitVec 64 := 0
  /-- SDP segments sent in the present frame; 04 R89 -/
  sdps : Nat := 0
  /-- HPD_DROP; 07 R202 -/
  hpdDrop : BitVec 64 := 0
  /-- the source of the stream has stopped; 04 R89 -/
  stopped : Bool := false
  /-- the tunnel sends NOVIDEO; 04 R90 -/
  noVideo : Bool := false
  /-- flits per cycle of the present mode; 04 R90 -/
  flits : Nat := 0
  /-- present mode of the source; 04 R90 -/
  mode : DispMode := {}
  /-- FRAME of the newest segment; 04 R88 -/
  frame : BitVec 8 := 0
  /-- the MSA segment of the present frame has been sent; 04 R89 -/
  msa : Bool := false
  /-- its VBLANK segment has been sent; 04 R89 -/
  vblank : Bool := false
  deriving DecidableEq, Repr

/-- R345 R346: one DisplayPort input. DESIGN CHOICE, log entry 106. -/
structure Dpi where
  /-- enabled by DPI_CFG; 13 R346 -/
  enabled : Bool := false
  /-- maximum rate code; 13 R346 -/
  rate : Nat := 0
  /-- stream count; 13 R346 -/
  streams : Nat := 1
  /-- main link trained; 13 R346 -/
  trained : Bool := false
  /-- trained rate code; 13 R346 -/
  linkRate : Nat := 0
  /-- trained lanes; 13 R346 -/
  lanes : Nat := 0
  /-- end of the 2 ms for which HPD is held low after a DPI_CFG change; 13 R346 -/
  hpdDue : Option (BitVec 64) := none
  /-- a source is connected; 13 R346 -/
  connected : Bool := false
  /-- stream 0; 13 R347 -/
  s0 : Stream := {}
  /-- stream 1; 13 R347 -/
  s1 : Stream := {}
  /-- stream 2; 13 R347 -/
  s2 : Stream := {}
  /-- stream 3; 13 R347 -/
  s3 : Stream := {}
  deriving DecidableEq, Repr

/-- the DISP and NET islands. -/
structure Edge where
  /-- Ethernet ports 0 to 3, a table; 13 R348 -/
  nets : List (Nat × NetPort) := []
  /-- DisplayPort inputs 0 to 7, a table; 13 R345 -/
  dpis : List (Nat × Dpi) := []
  deriving DecidableEq, Repr

/-- the management target. -/
structure Mgmt where
  /-- MGMT_MSG (missing bytes read 0); 19 R463 -/
  msg : List (BitVec 8) := []
  /-- MGMT_CPL (missing bytes read 0); 19 R463 -/
  cpl : List (BitVec 8) := []
  /-- MGMT_DB.GO; 19 -/
  go : Bool := false
  /-- MGMT_DB.BUSY; 19 -/
  busy : Bool := false
  /-- MGMT_DB.DONE; 19 -/
  done : Bool := false
  /-- MGMT_DB.REFUSED; 19 -/
  refused : Bool := false
  /-- IRQ of the message in execution; 09 R246 -/
  irq : Bool := false
  /-- MGMT_INT_EN: DONE, NOTICE, ALARM set; 19 -/
  intEn : BitVec 5 := 19
  /-- MGMT_INT_STAT.ALARM; 19 R427 -/
  alarmCause : Bool := false
  /-- notice FIFO, oldest first, at most 64; 19 R464 -/
  notices : List CqEntry := []
  /-- LOST, saturating; 19 R464 -/
  lost : Nat := 0
  /-- notices dropped since the FIFO was last full; 19 R464 -/
  droppedNow : Nat := 0
  /-- MGMT_BUF, 64 KiB, a byte memory; 19 R463 -/
  buf : List (Nat × BitVec 8) := []
  /-- GLB_BAD_ACCESS of the management view; 19 R462 -/
  badAccess : BitVec 32 := 0
  /-- GLB_SCRATCH of the management target; 19 R462 -/
  scratch : BitVec 32 := 0
  /-- WR_REFUSED of the management target; 19 R462 -/
  wrRefused : Bool := false
  /-- half-read latch; 19 R455 -/
  latch : Option (Nat × List (BitVec 8)) := none
  /-- RWL writes held during a hold, at most 4; 19 R458 -/
  siteHeld : List (BitVec 32) := []
  deriving DecidableEq, Repr

/-- the AX1224. DESIGN CHOICE, log entry 3. -/
structure State where
  /-- timebase and reference clocks; 13 -/
  clock : Clock := {}
  /-- Jayth ports J0 to J11, a table; 02 -/
  ports : List (Nat × Port) := []
  /-- tunnel table, 8192 entries by TID, a table; 04 R98 -/
  tunnels : List (Nat × Tunnel) := []
  /-- persistent tunnel plan, at most 1024 entries; 04 R118 -/
  plan : List Plan := []
  /-- the Marl buffer; 05 -/
  marl : Marl := {}
  /-- USB engine, device functions and sample DMA; 06 -/
  xfer : Xfer := {}
  /-- host ports, slices and queue pairs; 12 -/
  hosts : Hosts := {}
  /-- control cluster; 14 -/
  cluster : Cluster := {}
  /-- power; 15 -/
  power : Power := {}
  /-- memory integrity; 16 -/
  mem : Mem := {}
  /-- records; 17 -/
  silt : Silt := {}
  /-- start-up and firmware; 18 -/
  boot : Boot := {}
  /-- DISP and NET islands; 13 -/
  edge : Edge := {}
  /-- management target; 19 -/
  mgmt : Mgmt := {}
  /-- configuration lock; 10 R262 -/
  lock : Bool := false
  /-- GLB_SITE_ID; 19 -/
  siteId : BitVec 32 := 0
  /-- what the block has sent, newest first (model's own); model -/
  out : List Out := []
  /-- free-value counter (model's own); model -/
  freeCtr : Nat := 0
  /-- commands waiting, first in first out (model's own); model -/
  pending : List Instr := []
  deriving DecidableEq, Repr

/-- The machine right after reset (VAON good, before power good): every field at the value the spec states, and where it states none at the value of log entries 1, 2 and 4. -/
def State.reset : State := {}

/-- The model stops with a fault nowhere: an access to an offset or object that the spec does not name has the effect R456 and R252 give it. No command raises `impossible`; it is kept so that the type is inhabited. Safe. DESIGN CHOICE, log entry 11. -/
inductive Fault where
  /-- Raised by no command. Safe. -/
  | impossible
  deriving DecidableEq, Repr

/-- Reasons for which a command has no meaning. DESIGN CHOICE, log entry 11. -/
inductive Refusal where
  /-- Raised by exec for a command whose meaning is not written yet. Safe: the machine stops. -/
  | notModelled (mnemonic : String)
  deriving DecidableEq, Repr

end Sys2Proof.Machine
end

