-- ==== Sys2Proof/Machine/Tab.lean ====
section
/-! DEFINITION. Sys2Proof/Machine/Tab.lean: sparse tables by number, as lists of (key, value) pairs in one canonical form. Byte memories are such tables of bytes. -/

namespace Sys2Proof.Machine

/-- The value a table holds at key `k`: the entry's, or the default `d` that an unlisted key reads as. -/
def Tab.get {α : Type} (d : α) : List (Nat × α) → Nat → α
  | [], _ => d
  | (k', v) :: t, k => if k = k' then v else Tab.get d t k

/-- The table without an entry of key `k`. -/
def Tab.erase {α : Type} (k : Nat) : List (Nat × α) → List (Nat × α)
  | [] => []
  | (k', v) :: t => if k = k' then Tab.erase k t else (k', v) :: Tab.erase k t

/-- The table with an entry (k, v), put in key order; an old entry of `k` is replaced. -/
def Tab.insert {α : Type} (k : Nat) (v : α) : List (Nat × α) → List (Nat × α)
  | [] => [(k, v)]
  | (k', v') :: t =>
    if k < k' then (k, v) :: (k', v') :: t
    else if k = k' then (k, v) :: t
    else (k', v') :: Tab.insert k v t

/-- Writing `v` at key `k`: the default's entry is not listed, so equal tables are equal lists. -/
def Tab.set {α : Type} [DecidableEq α] (d : α) (k : Nat) (v : α) (t : List (Nat × α)) :
    List (Nat × α) :=
  if v = d then Tab.erase k t else Tab.insert k v t

/-- Changing the value at key `k` by `f`. -/
def Tab.mod {α : Type} [DecidableEq α] (d : α) (k : Nat) (f : α → α) (t : List (Nat × α)) :
    List (Nat × α) :=
  Tab.set d k (f (Tab.get d t k)) t

/-- Every key of the table is above `k`. -/
def Tab.above {α : Type} (k : Nat) : List (Nat × α) → Bool
  | [] => true
  | (k', _) :: t => decide (k < k') && Tab.above k t

/-- The canonical form: keys strictly rising, no entry equal to the default. -/
def Tab.wf {α : Type} [DecidableEq α] (d : α) : List (Nat × α) → Bool
  | [] => true
  | (k, v) :: t => decide (v ≠ d) && Tab.above k t && Tab.wf d t

/-- The keys listed. -/
def Tab.keys {α : Type} (t : List (Nat × α)) : List Nat := t.map Prod.fst

/-- `n` bytes of a byte memory from address `a`, unlisted bytes reading `d`. -/
def Tab.bytes (d : Byte) (t : List (Nat × Byte)) (a : Nat) : Nat → List Byte
  | 0 => []
  | n + 1 => Tab.get d t a :: Tab.bytes d t (a + 1) n

/-- Writing bytes to a byte memory from address `a` on. -/
def Tab.write (d : Byte) (a : Nat) : List Byte → List (Nat × Byte) → List (Nat × Byte)
  | [], t => t
  | b :: bs, t => Tab.write d (a + 1) bs (Tab.set d a b t)

/-- The element of a list at place `i`, changed by `f`; out of range nothing changes. -/
def listMod {α : Type} (f : α → α) : Nat → List α → List α
  | _, [] => []
  | 0, x :: xs => f x :: xs
  | i + 1, x :: xs => x :: listMod f i xs

end Sys2Proof.Machine
end

