-- ==== Sys2Proof/Machine/Ops.lean ====
section
/-! DEFINITION. Sys2Proof/Machine/Ops.lean: the named operations over the state that the commands share: tables, time, records, event sources, interrupts, completions and notices. -/

namespace Sys2Proof.Machine

/-! ## Tables of the state -/

def State.port (s : State) (p : Nat) : Port := Tab.get {} s.ports p
def State.setPort (s : State) (p : Nat) (v : Port) : State := { s with ports := Tab.set {} p v s.ports }
def State.modPort (s : State) (p : Nat) (f : Port → Port) : State := s.setPort p (f (s.port p))

def State.tunnel (s : State) (t : Nat) : Tunnel := Tab.get {} s.tunnels t
def State.setTunnel (s : State) (t : Nat) (v : Tunnel) : State := { s with tunnels := Tab.set {} t v s.tunnels }
def State.modTunnel (s : State) (t : Nat) (f : Tunnel → Tunnel) : State := s.setTunnel t (f (s.tunnel t))

/-- R66: the per-TUN state of a port's link. -/
def Port.tun (p : Port) (t : Nat) : Tun := Tab.get {} p.tuns t
def Port.setTun (p : Port) (t : Nat) (v : Tun) : Port := { p with tuns := Tab.set {} t v p.tuns }
def Port.modTun (p : Port) (t : Nat) (f : Tun → Tun) : Port := p.setTun t (f (p.tun t))

def Port.lane (p : Port) : Nat → Lane
  | 0 => p.lane0
  | 1 => p.lane1
  | 2 => p.lane2
  | _ => p.lane3
def Port.setLane (p : Port) (l : Nat) (v : Lane) : Port :=
  match l with
  | 0 => { p with lane0 := v }
  | 1 => { p with lane1 := v }
  | 2 => { p with lane2 := v }
  | _ => { p with lane3 := v }
def Port.modLane (p : Port) (l : Nat) (f : Lane → Lane) : Port := p.setLane l (f (p.lane l))

def State.modMarl (s : State) (f : Marl → Marl) : State := { s with marl := f s.marl }
def State.modXfer (s : State) (f : Xfer → Xfer) : State := { s with xfer := f s.xfer }
def State.modCluster (s : State) (f : Cluster → Cluster) : State := { s with cluster := f s.cluster }
def State.modPower (s : State) (f : Power → Power) : State := { s with power := f s.power }
def State.modMem (s : State) (f : Mem → Mem) : State := { s with mem := f s.mem }
def State.modSilt (s : State) (f : Silt → Silt) : State := { s with silt := f s.silt }
def State.modBoot (s : State) (f : Boot → Boot) : State := { s with boot := f s.boot }
def State.modEdge (s : State) (f : Edge → Edge) : State := { s with edge := f s.edge }
def State.modMgmt (s : State) (f : Mgmt → Mgmt) : State := { s with mgmt := f s.mgmt }
def State.modClock (s : State) (f : Clock → Clock) : State := { s with clock := f s.clock }
def State.modHosts (s : State) (f : Hosts → Hosts) : State := { s with hosts := f s.hosts }

/-- Host port 0 or 1. -/
def State.hp (s : State) (h : Nat) : HostPort := if h = 0 then s.hosts.hp0 else s.hosts.hp1
def State.setHp (s : State) (h : Nat) (v : HostPort) : State :=
  if h = 0 then { s with hosts := { s.hosts with hp0 := v } }
  else { s with hosts := { s.hosts with hp1 := v } }
def State.modHp (s : State) (h : Nat) (f : HostPort → HostPort) : State := s.setHp h (f (s.hp h))

/-- The number of a slice of a host port in the slice table. -/
def sliceKey (h sl : Nat) : Nat := h * 256 + sl
/-- The number of a queue pair of a slice in the queue-pair table. -/
def qpKey (h sl q : Nat) : Nat := sliceKey h sl * 64 + q

def State.slice (s : State) (h sl : Nat) : Slice := Tab.get {} s.hosts.slices (sliceKey h sl)
def State.setSlice (s : State) (h sl : Nat) (v : Slice) : State :=
  s.modHosts fun x => { x with slices := Tab.set {} (sliceKey h sl) v x.slices }
def State.modSlice (s : State) (h sl : Nat) (f : Slice → Slice) : State := s.setSlice h sl (f (s.slice h sl))

def State.qp (s : State) (h sl q : Nat) : Qp := Tab.get {} s.hosts.qps (qpKey h sl q)
def State.setQp (s : State) (h sl q : Nat) (v : Qp) : State :=
  s.modHosts fun x => { x with qps := Tab.set {} (qpKey h sl q) v x.qps }
def State.modQp (s : State) (h sl q : Nat) (f : Qp → Qp) : State := s.setQp h sl q (f (s.qp h sl q))

def State.root (s : State) (r : Nat) : Root := Tab.get {} s.xfer.roots r
def State.setRoot (s : State) (r : Nat) (v : Root) : State := s.modXfer fun x => { x with roots := Tab.set {} r v x.roots }
def State.modRoot (s : State) (r : Nat) (f : Root → Root) : State := s.setRoot r (f (s.root r))
def State.ep (s : State) (e : Nat) : Ep := Tab.get {} s.xfer.eps e
def State.setEp (s : State) (e : Nat) (v : Ep) : State := s.modXfer fun x => { x with eps := Tab.set {} e v x.eps }
def State.modEp (s : State) (e : Nat) (f : Ep → Ep) : State := s.setEp e (f (s.ep e))
def State.dslot (s : State) (n : Nat) : Slot := Tab.get {} s.xfer.slots n
def State.setDslot (s : State) (n : Nat) (v : Slot) : State := s.modXfer fun x => { x with slots := Tab.set {} n v x.slots }
def State.fn (s : State) (n : Nat) : Fn := Tab.get {} s.xfer.fns n
def State.setFn (s : State) (n : Nat) (v : Fn) : State := s.modXfer fun x => { x with fns := Tab.set {} n v x.fns }
def State.modFn (s : State) (n : Nat) (f : Fn → Fn) : State := s.setFn n (f (s.fn n))
def State.ch (s : State) (n : Nat) : Ch := Tab.get {} s.xfer.chans n
def State.setCh (s : State) (n : Nat) (v : Ch) : State := s.modXfer fun x => { x with chans := Tab.set {} n v x.chans }
def State.modCh (s : State) (n : Nat) (f : Ch → Ch) : State := s.setCh n (f (s.ch n))

def State.core (s : State) (c : Nat) : Core := s.cluster.cores.getD c {}
def State.modCore (s : State) (c : Nat) (f : Core → Core) : State :=
  s.modCluster fun x => { x with cores := listMod f c x.cores }
def State.readyList (s : State) (p : Nat) : ReadyList := Tab.get {} s.cluster.ready p
def State.setReady (s : State) (p : Nat) (v : ReadyList) : State :=
  s.modCluster fun x => { x with ready := Tab.set {} p v x.ready }
def State.delayList (s : State) (d : Nat) : DelayList := Tab.get {} s.cluster.delay d
def State.setDelay (s : State) (d : Nat) (v : DelayList) : State :=
  s.modCluster fun x => { x with delay := Tab.set {} d v x.delay }
def State.src (s : State) (n : Nat) : Src := Tab.get {} s.cluster.srcs n
def State.setSrc (s : State) (n : Nat) (v : Src) : State :=
  s.modCluster fun x => { x with srcs := Tab.set {} n v x.srcs }
def State.region (s : State) (r : Nat) : Region := s.mem.regions.getD r {}
def State.modRegion (s : State) (r : Nat) (f : Region → Region) : State :=
  s.modMem fun x => { x with regions := listMod f r x.regions }
def State.alarm (s : State) (a : Nat) : Alarm := Tab.get {} s.silt.alarms a
def State.setAlarm (s : State) (a : Nat) (v : Alarm) : State :=
  s.modSilt fun x => { x with alarms := Tab.set {} a v x.alarms }
def State.netPort (s : State) (n : Nat) : NetPort := Tab.get {} s.edge.nets n
def State.modNet (s : State) (n : Nat) (f : NetPort → NetPort) : State :=
  s.modEdge fun x => { x with nets := Tab.set {} n (f (Tab.get {} x.nets n)) x.nets }
def State.dpi (s : State) (n : Nat) : Dpi := Tab.get {} s.edge.dpis n
def State.modDpi (s : State) (n : Nat) (f : Dpi → Dpi) : State :=
  s.modEdge fun x => { x with dpis := Tab.set {} n (f (Tab.get {} x.dpis n)) x.dpis }
def Dpi.stream (d : Dpi) : Nat → Stream
  | 0 => d.s0
  | 1 => d.s1
  | 2 => d.s2
  | _ => d.s3
def Dpi.modStream (d : Dpi) (k : Nat) (f : Stream → Stream) : Dpi :=
  match k with
  | 0 => { d with s0 := f d.s0 }
  | 1 => { d with s1 := f d.s1 }
  | 2 => { d with s2 := f d.s2 }
  | _ => { d with s3 := f d.s3 }

/-- What the block sends is put on the outbox, newest first. -/
def State.send (s : State) (o : Out) : State := { s with out := o :: s.out }

/-- A free value was taken: the counter moves on, so the next one is another. -/
def State.tickFree (s : State) : State := { s with freeCtr := s.freeCtr + 1 }

/-! ## Time (R24) -/

/-- The timebase. -/
def State.now (s : State) : Time := s.clock.now
/-- The instant `ns` nanoseconds from now. -/
def State.after (s : State) (ns : Nat) : Time := s.now + BitVec.ofNat 64 ns
/-- A running timer has reached its instant. DESIGN CHOICE, log entry 6. -/
def State.due (s : State) (t : Option Time) : Bool :=
  match t with
  | some x => decide (x.toNat ≤ s.now.toNat)
  | none => false
/-- The instant `t` lies no more than `ns` before now. -/
def State.within (s : State) (ns : Nat) (t : Time) : Bool := decide (s.now.toNat - t.toNat ≤ ns)

/-! ## Trace (R424, R425) -/

/-- Agent IDs of Table 1-3. -/
def agentLoam : Nat := 0x00
def agentCtrl : Nat := 0x01
def agentMarl : Nat := 0x02
def agentHp (h : Nat) : Nat := 0x03 + h
def agentXfer : Nat := 0x05
def agentDisp : Nat := 0x06
def agentNet : Nat := 0x07
def agentPort (p : Nat) : Nat := 0x10 + p

/-- R425: a record lost at one place adds to the losses that await their loss record. -/
def Loss.add (l : Option Loss) (r : TraceRec) : Loss :=
  match l with
  | none => { count := 1, groups := BitVec.ofNat 32 (2 ^ r.group), first := r.time, last := r.time }
  | some x => { x with count := x.count + 1, groups := x.groups ||| BitVec.ofNat 32 (2 ^ r.group), last := r.time }

/-- R424, R425: the loss record of one place: COUNT lost, group mask, TIME of the first; its TIME is that of the last record lost. -/
def Loss.record (l : Loss) (agent : Nat) : TraceRec :=
  { time := l.last, agent := agent, group := 0xFF, args := toLe 4 l.count ++ toLe 4 l.groups.toNat ++ toLe 8 l.first.toNat }

/-- R424, R425: an event in an enabled group gives one record in its island's FIFO of 16; when the FIFO is full the newest record is lost. DESIGN CHOICE, log entry 7. -/
def State.trace (s : State) (agent group : Nat) (object : Nat) : State :=
  if s.silt.groups.getLsbD group then
    let r : TraceRec :=
      { time := s.now, agent := agent, group := group, event := Config.traceEvent s.freeCtr
        object := BitVec.ofNat 32 object, args := toLe 16 (Config.traceArgs s.freeCtr).toNat }
    let f := Tab.get [] s.silt.fifos agent
    let loss := (s.silt.fifoLoss.find? (·.1 = agent)).map Prod.snd
    let ahead := match loss with
      | some l => [l.record agent]
      | none => []
    if f.length + ahead.length < 16 then
      (s.modSilt fun x =>
        { x with fifos := Tab.set [] agent (f ++ ahead ++ [r]) x.fifos, fifoLoss := Tab.erase agent x.fifoLoss }).tickFree
    else
      (s.modSilt fun x =>
        { x with fifoLoss := Tab.insert agent (Loss.add loss r) x.fifoLoss, traceLost := x.traceLost + 1 }).tickFree
  else s

/-! ## Event controller (R366 to R369) -/

/-- R360: an item enters the ready list of its priority; T_READY is the instant it enters. -/
def State.enqueue (s : State) (it : Item) : State :=
  let l := s.readyList it.prio
  let items := l.items ++ [{ it with tReady := s.now.setWidth 32 }]
  s.setReady it.prio { l with items := items, itemsIn := l.itemsIn + 1, maxDepth := max l.maxDepth items.length }

/-- R367, R368: a source is raised to PENDING; in work-item mode its item enters its ready list. -/
def State.raiseSrc (s : State) (n : Nat) (x : Src) : State :=
  let s := (s.setSrc n { x with state := .pending }).modCluster fun c => { c with raised := c.raised + 1 }
  if x.irq then s
  else s.enqueue { cls := x.cls, prio := x.prio, affinity := x.affinity, origin := 0, source := n }

/-- R387, R388: a wake ends the sleep state in force; one that arrives before entry has ended is latched. The code is a bit of PM_WAKE_CFG, 63 for a delay item, or 64 and an EVC source. -/
def State.wakeNow (s : State) (code : Nat) : State :=
  match s.power.phase with
  | .steady =>
    if s.power.sleep = 0 then s
    else s.modPower fun w => { w with phase := .exiting, lastWake := BitVec.ofNat 6 (min code 63) }
  | .exiting => s
  | _ => s.modPower fun w => { w with wakeLatched := if w.wakeLatched.contains code then w.wakeLatched else w.wakeLatched ++ [code] }

/-- R387, Table 15-8: wake source `b` occurs; it wakes the AX1224 if PM_WAKE_CFG enables it. -/
def State.wakeCfg (s : State) (b : Nat) : State := if b < 19 && s.power.wakeMask.getLsbD b then s.wakeNow b else s

/-- R366, R367: an assertion of an EVC source; a disabled source only counts it in OCCUR. While CTRL is off it is latched in the pending shadow, and one with WAKE=1 wakes the AX1224 (R372, R387). -/
def State.event (s : State) (n : Nat) : State :=
  let s := if (s.src n).wake then s.wakeNow (64 + n) else s
  if s.cluster.saved then
    s.modCluster fun c => { c with shadow := if c.shadow.contains n then c.shadow else n :: c.shadow }
  else
    let x := { s.src n with occur := satAdd 16 (s.src n).occur 1 }
    match x.state with
    | .idle => if x.enable then s.raiseSrc n x else s.setSrc n x
    | .inService => s.setSrc n { x with state := .inServiceAgain }
    | _ => s.setSrc n x

/-- R366: the input of a level source rises, which asserts it, or falls. -/
def State.level (s : State) (n : Nat) (b : Bool) : State :=
  let x := s.src n
  let s' := s.setSrc n { x with asserted := b }
  if b && !x.asserted then s'.event n else s'

/-- Table 14-4: event sources of a Jayth port and of its CC/PD controller. -/
def evPort (p k : Nat) : Nat := 16 * p + k
def evPd (p k : Nat) : Nat := 0x0C0 + 4 * p + k
/-- Table 14-4: event sources of a host port. -/
def evHp (h k : Nat) : Nat := 0x100 + 0x20 * h + k

/-! ## Alarms (R426, R427) -/

/-- Table 17-6: default severities of alarms 0 to 26. -/
def alarmSeverities : List Nat :=
  [1, 2, 2, 1, 2, 1, 1, 2, 1, 1, 2, 1, 1, 2, 1, 1, 1, 2, 1, 2, 1, 1, 1, 2, 1, 1, 0]

/-- The severity in force. -/
def Alarm.severity (a : Alarm) (n : Nat) : Nat := a.sev.getD (alarmSeverities.getD n 0)

/-- R426: an occurrence of alarm `a`; `cond` tells whether its condition stays present. R427: its notification. DESIGN CHOICE, log entry 70; DESIGN CHOICE, log entry 101. -/
def State.alarmOccur (s : State) (a : Nat) (object : Nat) (cond : Bool) : State :=
  let x := s.alarm a
  let s := s.setAlarm a
    { x with latch := true, acked := false, occur := satAdd 16 x.occur 1, object := BitVec.ofNat 32 object, cond := cond }
  let s := s.modSilt fun y => { y with alarmLast := s.now }
  let s := if x.severity a = 2 then s.wakeCfg 15 else s
  if x.enable then
    let mark (h : HostPort) : HostPort := { h with alarmPend := h.alarmPend || h.siltVec.getLsbD 13 }
    let s := (s.modHp 0 mark).modHp 1 mark
    (s.modMgmt fun m => { m with alarmCause := true }).event 0x1C2
  else s

/-- R426: the condition of an alarm ends; an acknowledged latch then clears. -/
def State.alarmEnd (s : State) (a : Nat) : State :=
  let x := s.alarm a
  s.setAlarm a { x with cond := false, latch := x.latch && !x.acked }

/-! ## Journal (R414 to R420) -/

/-- R416: the genesis tag, from the ASCII string VEXAD-AX1224-JOURNAL and the serial number. -/
def State.genesisTag (s : State) : List Byte :=
  (sha256 ([0x56, 0x45, 0x58, 0x41, 0x44, 0x2D, 0x41, 0x58, 0x31, 0x32, 0x32, 0x34, 0x2D,
    0x4A, 0x4F, 0x55, 0x52, 0x4E, 0x41, 0x4C] ++ toLe 6 s.boot.serial.toNat)).take 8

/-- R429: JRNL_TAG; before JIDX 0 it is the genesis tag. -/
def State.jrnlTag (s : State) : List Byte :=
  if s.silt.next = 0 then s.genesisTag else s.silt.tag

/-- R494: the tag before the oldest entry held. -/
def State.tagBeforeOldest (s : State) : List Byte :=
  if s.silt.oldest = 0 then s.genesisTag else s.silt.tagOld

/-- R419: the JIDX that each enabled journal sink takes next. -/
def State.sinkNexts (s : State) : List Nat :=
  (if s.hosts.hp0.jOn then [s.hosts.hp0.jNext] else [])
  ++ (if s.hosts.hp1.jOn then [s.hosts.hp1.jNext] else [])
  ++ (if s.silt.mgmtJ.on then [s.silt.mgmtJ.next] else [])
  ++ (if s.silt.persist.on then [s.silt.persist.next] else [])

/-- R419: the entries that not every enabled sink has taken. -/
def State.unreleased (s : State) : Nat :=
  match s.sinkNexts.min? with
  | some m => s.silt.next - m
  | none => 0

/-- R420: NO_SINK. -/
def State.noSink (s : State) : Bool := s.sinkNexts.isEmpty

/-- R419, R421: where a sink that is enabled now begins: the oldest unreleased entry, or JRNL_NEXT. -/
def State.sinkStart (s : State) : Nat := s.silt.next - s.unreleased

/-- Table 17-1: bytes 0 to 23 of a journal entry. -/
def JReq.head (r : JReq) (time : Time) : List Byte :=
  toLe 8 time.toNat
  ++ [BitVec.ofNat 8 (r.origin % 8 + 8 * flag r.refused + 16 * flag r.deferred + 32 * flag r.reserve),
      BitVec.ofNat 8 r.slice]
  ++ toLe 2 r.kind ++ toLe 4 r.object ++ padTo 4 r.old ++ padTo 4 r.new

/-- R416: the chain tag of an entry. -/
def chainTag (prev : List Byte) (head : List Byte) : List Byte := (sha256 (prev ++ head)).take 8

/-- R420: the JOURNAL_FULL alarm follows UNRELEASED: it occurs at 7936, its condition ends below 7680. -/
def State.journalAlarm (s : State) : State :=
  if 7936 ≤ s.unreleased then
    if (s.alarm 23).cond then s else (s.alarmOccur 23 0 true).event 0x1C5
  else if s.unreleased < 7680 && (s.alarm 23).cond then s.alarmEnd 23
  else s

/-- R418: commit of one entry: it takes the next JIDX in the Loam ring of 8192, and the oldest entry goes when the ring is full. R423: the flash sink begins its 10 ms with the first entry that waits. -/
def State.commit (s : State) (r : JReq) : State :=
  let head := r.head s.now
  let tag := chainTag s.jrnlTag head
  let full := decide (s.silt.next - s.silt.oldest ≥ 8192)
  let dropped := ((Tab.get {} s.silt.ring (s.silt.oldest % 8192)).bytes.drop 24).take 8
  (s.modSilt fun x =>
    { x with
      ring := Tab.set {} (x.next % 8192) { bytes := head ++ tag } x.ring
      next := x.next + 1
      tag := tag
      oldest := if full then x.oldest + 1 else x.oldest
      tagOld := if full then dropped else x.tagOld
      persistDue := if x.persist.on && x.persistDue.isNone then some (s.after 10000000) else x.persistDue
    }).journalAlarm

/-- Records may be committed once CHAIN_START has been (R433, R442). -/
def State.journalOpen (s : State) : Bool := s.silt.chained

/-- R264, R419: room for an entry. Below 7936 any; up to 8191 only origin MGMT and ALARM_ACK, marked RESERVE. Before CHAIN_START entries wait in the record store of 64 (R442). -/
def State.journalRoom (s : State) (reserved : Bool) : Bool :=
  if s.journalOpen then decide (s.unreleased < 7936) || (reserved && decide (s.unreleased < 8192))
  else decide (s.silt.records.length < 64)

/-- The entry as it is committed now: RESERVE marked when it uses the reserve. -/
def State.commitNow (s : State) (r : JReq) : State :=
  if s.journalOpen then s.commit { r with reserve := decide (7936 ≤ s.unreleased) }
  else s.modSilt fun x => { x with records := x.records ++ [r] }

/-- R419: a record of Table 17-3: committed when there is room and none waits, else kept in the store of 64, else dropped and counted. One that waits for CHAIN_START alone (R433) is not marked DEFERRED (Table 17-1). DEDUCED, log entry 38. -/
def State.record (s : State) (r : JReq) : State :=
  if s.journalOpen && s.journalRoom false && s.silt.records.isEmpty then s.commit r
  else if s.silt.records.length < 64 then
    s.modSilt fun x => { x with records := x.records ++ [{ r with deferred := s.journalOpen }] }
  else s.modSilt fun x => { x with recordsDropped := x.recordsDropped + 1 }

/-- A LOAM record: KIND, OBJECT, OLD and NEW as Table 17-3 gives them. -/
def State.loamRecord (s : State) (kind object old new : Nat) : State :=
  s.record { origin := 6, kind := kind, object := object, old := toLe 4 old, new := toLe 4 new }

/-- R419: a change of origin FW, LOAM, PARTNER or IMAGE can be committed at once: no hold and room in the journal. -/
def State.fwMayCommit (s : State) : Bool := !s.power.hold && s.journalOpen && s.journalRoom false && s.silt.deferred.isEmpty

/-- R419: a change of origin FW, LOAM, PARTNER or IMAGE: its entry is committed and the change made, or both wait, marked DEFERRED; a change that waits is not asked for twice. DESIGN CHOICE, log entry 37. -/
def State.fwChange (s : State) (r : JReq) (act : Act) (effect : State → State) : State :=
  if s.fwMayCommit then effect (s.commit r)
  else if act ≠ .none && s.silt.deferred.any (fun d => decide (d.act = act)) then s
  else s.modSilt fun x => { x with deferred := x.deferred ++ [{ req := { r with deferred := true }, act := act }] }

/-! ## Interrupts (R255, R333) -/

/-- The MSI-X table entry of a vector. -/
def HostPort.msixEntry (h : HostPort) (v : Nat) : MsixEntry := Tab.get {} h.msix v

/-- R255, Table 9-7: a vector is sent, or left pending as the host port's state asks. -/
def State.sendVec (s : State) (h v : Nat) : State :=
  let x := s.hp h
  if x.power ≠ .d0 then
    let s := s.setHp h { x with owedVecs := if x.owedVecs.contains v then x.owedVecs else x.owedVecs ++ [v] }
    if x.power = .d3hot && x.pmeEn then s.send (.pme h) else s
  else if !x.bme || (x.msixEntry v).ctrl.getLsbD 0 then
    s.setHp h { x with pba := if x.pba.contains v then x.pba else x.pba ++ [v] }
  else s.send (.msix h v)

/-- R234: a slice event: its bit sets, SLICE_EVT_INFO names it, its vector goes when the bit was 0 and is enabled; EVC source and trace. -/
def State.sliceEvent (s : State) (h sl bit q cause : Nat) : State :=
  let x := s.slice h sl
  let was := x.evt.getLsbD bit
  let s := s.setSlice h sl
    { x with evt := x.evt ||| BitVec.ofNat 4 (2 ^ bit), evtInfo := BitVec.ofNat 32 (q + 256 * bit + 65536 * cause) }
  let s := if !was && x.evtEn.getLsbD bit then s.sendVec h x.evtVec else s
  (s.event (evHp h 3)).trace (agentHp h) 3 sl

/-! ## Completions and notices (R242 to R249) -/

/-- Table 9-6. -/
def Status.code (x : Status) : Nat := x.ctorIdx

/-- Table 9-5: the 32 bytes of a completion entry. DEDUCED, log entry 53. -/
def CqEntry.bytes (e : CqEntry) (phase : Bool) (sqHead : Nat) : List Byte :=
  toLe 2 e.tag.toNat ++ [BitVec.ofNat 8 e.status.code, BitVec.ofNat 8 e.detail, e.gen,
    BitVec.ofNat 8 (flag phase + 2 * e.kind)] ++ toLe 2 sqHead ++ padTo 24 e.result

/-- Table 10-3: the result bytes of a notice. -/
def noticeResult (code sub object : Nat) (detail : List Byte) (count : Nat) (time : Time) : List Byte :=
  [BitVec.ofNat 8 code, BitVec.ofNat 8 sub] ++ toLe 2 object ++ padTo 4 detail ++ toLe 4 count ++ toLe 4 0
    ++ toLe 8 time.toNat

/-- R245: the notices that wait in a CQ's backlog. -/
def Qp.backlog (x : Qp) : Nat := (x.held.filter (·.kind = 3)).length
/-- R249: the completions that wait in holding slots. -/
def Qp.waiting (x : Qp) : Nat := (x.held.filter (·.kind ≠ 3)).length

/-- R245: a notice as a completion entry. -/
def noticeEntry (tag : BitVec 16) (st : Status) (gen : BitVec 8) (result : List Byte) : CqEntry :=
  { tag := tag, status := st, gen := gen, kind := 3, result := result, irq := true }

/-- R245: once backlog space has returned after drops, NOTICE_OVERFLOW with the count dropped. -/
def Qp.overflowOut (x : Qp) (gen : BitVec 8) (now : Time) : Qp :=
  if 0 < x.dropped && x.backlog < 64 then
    { x with held := x.held ++ [noticeEntry 0xFFFF .ok gen (noticeResult 8 0 0 [] x.dropped now)], dropped := 0 }
  else x

/-- R249: STALLED follows the holding store: it sets, and counts, when all 16 slots are taken, and clears when one is free. -/
def Qp.settle (x : Qp) (now : Time) : Qp :=
  if 16 ≤ x.waiting + x.slots then
    if x.stalled then x
    else { x with stalled := true, stallCount := x.stallCount + 1, stallDue := some (now + BitVec.ofNat 64 (1000 * x.crStall)) }
  else { x with stalled := false, stallDue := none }

/-- R245: a notice for queue `q` of a slice; dropped and counted when the queue is DISABLED or 64 notices wait. -/
def State.notice (s : State) (h sl q : Nat) (tag : BitVec 16) (st : Status) (result : List Byte) : State :=
  let gen := (s.slice h sl).gen
  let x := (s.qp h sl q).overflowOut gen s.now
  let lost (s : State) := s.modSlice h sl fun y => { y with noticeLost := y.noticeLost + 1 }
  if (s.slice h sl).state = .hostLost then s.modSlice h sl fun y => { y with staleGen := y.staleGen + 1 }
  else if x.state = .disabled then lost s
  else if 64 ≤ x.backlog then (lost s).setQp h sl q { x with dropped := x.dropped + 1 }
  else s.setQp h sl q { x with held := x.held ++ [noticeEntry tag st gen result] }

/-- R464: the FIFO of 64 for the management controller; NOTICE_OVERFLOW goes ahead of later notices. -/
def Mgmt.overflowOut (m : Mgmt) (now : Time) : Mgmt :=
  if 0 < m.droppedNow && m.notices.length < 64 then
    { m with notices := m.notices ++ [noticeEntry 0xFFFF .ok 0 (noticeResult 8 0 0 [] m.droppedNow now)], droppedNow := 0 }
  else m

/-- R464: a notice for the management controller; one that finds 64 held is dropped and counted in LOST. -/
def State.mgmtNotice (s : State) (st : Status) (result : List Byte) : State :=
  s.modMgmt fun m =>
    let m := m.overflowOut s.now
    if m.notices.length < 64 then { m with notices := m.notices ++ [noticeEntry 0xFFFF st 0 result] }
    else { m with lost := satAdd 16 m.lost 1, droppedNow := m.droppedNow + 1 }

/-! ## Host writes (R309, R323) -/

/-- R309: the AX1224 issues a write for a slice only to an address below 2^57 that is in no BAR of its own. -/
def State.addrOk (s : State) (addr : BitVec 64) : Bool :=
  let clear (h : HostPort) : Bool :=
    match h.bar0 with
    | some b => !(decide (b.toNat ≤ addr.toNat) && decide (addr.toNat < b.toNat + 0x1000000))
    | none => true
  decide (addr.toNat < 2 ^ 57) && clear s.hosts.hp0 && clear s.hosts.hp1

/-- Table 12-5: one entry of the dirty log. -/
def dirtyEntry (page : Nat) (overflow : Bool) : List Byte := toLe 8 (page + 2 ^ 62 * flag overflow + 2 ^ 63)

/-- R323: one page is logged in the open round, unless it is among the last 256 logged; when one entry remains free the round overflows. -/
def State.logPage (s : State) (h sl page : Nat) : State :=
  let x := s.slice h sl
  let at' := x.dirtyBase + BitVec.ofNat 64 (8 * x.dirtyPos)
  if !x.dirtyOn || x.allDirty || x.dirtyRecent.contains (BitVec.ofNat 52 page) then s
  else if !s.addrOk at' then s.setSlice h sl { x with allDirty := true }
  else if x.dirtyPos + 1 = 2 ^ x.dirtyLog2 then
    (s.send (.hostWrite h sl at' (dirtyEntry (2 ^ 52 - 1) true))).setSlice h sl
      { x with allDirty := true, dirtyPos := x.dirtyPos + 1 }
  else
    (s.send (.hostWrite h sl at' (dirtyEntry page false))).setSlice h sl
      { x with dirtyPos := x.dirtyPos + 1, dirtyRecent := (BitVec.ofNat 52 page :: x.dirtyRecent).take 256 }

/-- R309, R323: a write issued for a slice, each page it touches logged after it; the caller has checked the address. -/
def State.hostWrite (s : State) (h sl : Nat) (addr : BitVec 64) (bytes : List Byte) : State :=
  let s := s.send (.hostWrite h sl addr bytes)
  if bytes.isEmpty then s
  else
    let p0 := addr.toNat / 4096
    let p1 := (addr.toNat + bytes.length - 1) / 4096
    (List.range (p1 + 1 - p0)).foldl (fun s k => s.logPage h sl (p0 + k)) s

/-- R99, R96: a notice to the owner of an object: its slice's queue, or the management FIFO. -/
def State.noticeOwner (s : State) (o : Owner) (q : Nat) (tag : BitVec 16) (st : Status) (result : List Byte) : State :=
  match o with
  | .slice h sl => s.notice h sl q tag st result
  | _ => s.mgmtNotice st result

/-- R247: the identity of a dispatched command among those not completed. -/
def Outst.is (o : Outst) (c : Cmd) (op : Nat) : Bool :=
  decide (o.route = c.route) && decide (o.tag = c.tag) && decide (o.opcode = op) && decide (o.gen = c.gen)

/-- The commands without the first that `p` picks. -/
def eraseFirst {α : Type} (p : α → Bool) : List α → List α
  | [] => []
  | x :: xs => if p x then xs else x :: eraseFirst p xs

/-- R248: the object that a command acts on: 1 a tunnel, 2 a port, 3 a root, 4 an endpoint, 5 a channel, 6 a queue pair. DESIGN CHOICE, log entry 162. -/
def Cmd.object (c : Cmd) (op : Nat) : Option (Nat × Nat) :=
  let p := c.payload
  if [0x0202, 0x0203, 0x0205].contains op then some (1, le p 0 2)
  else if [0x0206, 0x0301, 0x0302, 0x0303, 0x0305, 0x0306, 0x0307, 0x0310, 0x0311, 0x0B10, 0x0B11].contains op then some (2, byteAt p 0)
  else if op = 0x0401 || op = 0x0402 then some (3, byteAt p 0)
  else if op = 0x0405 then (if le p 24 2 = 0xFFFF then none else some (4, le p 24 2))
  else if [0x0406, 0x0407, 0x0408].contains op then some (4, le p 0 2)
  else if op = 0x0412 && byteAt p 1 ≠ 1 then some (4, le p 2 2)
  else if [0x0501, 0x0502, 0x0503, 0x0504].contains op then (if byteAt p 0 = 0xFF then none else some (5, byteAt p 0))
  else if [0x0601, 0x0602, 0x0603, 0x0604].contains op then
    match c.route with
    | .mbx h sl => some (6, qpKey h sl (byteAt p 0))
    | .sq h sl _ => some (6, qpKey h sl (byteAt p 0))
    | _ => none
  else none

/-- A command counts as dispatched and not completed (R248). -/
def State.isRunning (s : State) (c : Cmd) (op : Nat) : Bool := s.hosts.running.any (·.is c op)
def State.startCmd (s : State) (c : Cmd) (op : Nat) : State :=
  if s.isRunning c op then s
  else s.modHosts fun x =>
    { x with running := x.running ++ [{ route := c.route, opcode := op, tag := c.tag, gen := c.gen, irq := c.irq, object := c.object op }] }
def State.endCmd (s : State) (c : Cmd) (op : Nat) : State :=
  s.modHosts fun x => { x with running := eraseFirst (·.is c op) x.running }
/-- R257: the change of the command has been committed to the journal, and takes effect. -/
def State.markCommitted (s : State) (c : Cmd) (op : Nat) : State :=
  s.modHosts fun x => { x with running := x.running.map fun o => if o.is c op then { o with committed := true, begun := true } else o }
/-- R248: the command takes effect. -/
def State.markBegun (s : State) (c : Cmd) (op : Nat) : State :=
  s.modHosts fun x => { x with running := x.running.map fun o => if o.is c op then { o with begun := true } else o }

/-- R246, R249, R438, R463: the completion goes to the route the command came by. An SQ completion is produced into its CQ's store and gives its reserved slot up to it; one of an older generation is discarded and counted (R317), but while a slice reset waits for it (R257). DEDUCED, log entry 53. -/
def State.deliver (s : State) (c : Cmd) (st : Status) (detail : Nat) (result : List Byte) : State :=
  let e : CqEntry := { tag := c.tag, status := st, detail := detail, gen := c.gen, result := result, irq := c.irq }
  match c.route with
  | .mbx h sl =>
    let x := s.slice h.val sl.val
    let s := s.setSlice h.val sl.val { x with cpl := e.bytes false 0, busy := false, done := true }
    if x.mbxIrq && x.cfgIrq then s.sendVec h.val x.cfgVec else s
  | .sq h sl q =>
    if c.gen = (s.slice h.val sl.val).gen || ((s.qp h.val sl.val q.val).stop = .sliceReset && (s.qp h.val sl.val q.val).state = .stopping) then
      s.modQp h.val sl.val q.val fun x => Qp.settle { x with held := x.held ++ [e], slots := x.slots - 1 } s.now
    else
      s.modSlice h.val sl.val fun x => { x with staleGen := x.staleGen + 1 }
  | .mgmt => s.modMgmt fun m => { m with cpl := e.bytes false 0, busy := false, done := true }
  | .image none => s
  | .image (some first) =>
    if st = .ok then s
    else (s.modBoot fun b => { b with cmdFail := satAdd 16 b.cmdFail 1 }).trace agentCtrl 6 first
  | .fw => s
  | .diag => s.send (.diag (e.bytes false 0))

/-- A command completes: once, if it is still outstanding. -/
def State.complete (s : State) (c : Cmd) (op : Nat) (st : Status) (detail : Nat) (result : List Byte) : State :=
  if s.isRunning c op then (s.endCmd c op).deliver c st detail result else s

/-- The command recorded as waiting, if any, completes. -/
def State.completeOpt (s : State) (c : Option Cmd) (op : Nat) (st : Status) (detail : Nat) (result : List Byte) : State :=
  match c with
  | some c => s.complete c op st detail result
  | none => s

/-! ## The command skeleton (R261 to R264) -/

/-- Table 10-2: what the table says of one command. -/
structure CmdInfo where
  opcode : Nat
  /-- accepted from any slice (S) -/
  fromS : Bool := false
  /-- accepted from slice 0 (O) -/
  fromO : Bool := false
  fromM : Bool := false
  fromI : Bool := false
  fromF : Bool := false
  fromD : Bool := false
  /-- marked L -/
  locked : Bool := false
  /-- marked J -/
  journal : Bool := false
  /-- payload bytes up to the last field -/
  len : Nat := 0

/-- R261: the route's origin is one the command lists. -/
def CmdInfo.accepts (i : CmdInfo) : Route → Bool
  | .mbx _ sl => i.fromS || (i.fromO && decide (sl.val = 0))
  | .sq _ sl _ => i.fromS || (i.fromO && decide (sl.val = 0))
  | .mgmt => i.fromM
  | .image _ => i.fromI
  | .fw => i.fromF
  | .diag => i.fromD

/-- The slice a command came from, as (host port, slice). -/
def Route.slice? : Route → Option (Nat × Nat)
  | .mbx h sl => some (h.val, sl.val)
  | .sq h sl _ => some (h.val, sl.val)
  | _ => none

/-- Table 17-2: the journal's ORIGIN code of a route. -/
def Route.journalOrigin : Route → Nat
  | .mbx h _ => 3 + h.val
  | .sq h _ _ => 3 + h.val
  | .mgmt => 2
  | .image _ => 1
  | .fw => 5
  | .diag => 5

/-- What the checks of R263 find for one command; the canonical values for its journal entry. -/
structure Checks where
  /-- step 1: payload offset of the first bad field -/
  bad : Option Nat := none
  /-- step 3: DETAIL of a DENIED that the command's own rule gives its origin -/
  deny : Option Nat := none
  /-- step 3: the origin owns the named object -/
  owned : Bool := true
  /-- steps 4 and 5: status and DETAIL of the first failing check -/
  refuse : Option (Status × Nat) := none
  /-- OBJECT of the journal entry (R414, R415) -/
  object : Nat := 0
  /-- canonical value before the change (R415) -/
  old : List Byte := []
  /-- canonical value after the change -/
  new : List Byte := []
  /-- this form of the command writes a journal entry -/
  journalled : Bool := true

/-- R263 step 2: the command carries the present generation of its slice; one that comes by another route has none. DEDUCED, log entry 40. -/
def State.genOk (s : State) (c : Cmd) : Bool :=
  match c.route.slice? with
  | some (h, sl) => decide (c.gen = (s.slice h sl).gen)
  | none => true

/-- The present generation of the slice of a command, else its own. DEDUCED, log entry 39. -/
def State.genNow (s : State) (c : Cmd) : BitVec 8 :=
  match c.route.slice? with
  | some (h, sl) => (s.slice h sl).gen
  | none => c.gen

/-- R263 steps 1 to 5: the first failing check, as status and DETAIL. DEDUCED, log entry 40; DEDUCED, log entry 48; DEDUCED, log entry 55. -/
def firstFailure (i : CmdInfo) (c : Cmd) (s : State) (k : Checks) : Option (Status × Nat) :=
  if c.payload.length < i.len then some (.malformed, 0)
  else match k.bad with
  | some off => some (.malformed, min off 255)
  | none =>
    if !s.genOk c then some (.staleGeneration, 0)
    else if !i.accepts c.route then some (.denied, 1)
    else if k.deny.isSome then some (.denied, k.deny.getD 1)
    else if i.locked && s.lock && c.route.slice?.isSome then some (.denied, 2)
    else if !k.owned then some (.denied, 3)
    else k.refuse

/-- The journal entry of a command. -/
def cmdEntry (i : CmdInfo) (c : Cmd) (k : Checks) : JReq :=
  { origin := c.route.journalOrigin, slice := (c.route.slice?.map Prod.snd).getD 0, kind := i.opcode
    object := k.object, old := digest k.old, new := digest k.new, deferred := c.late }

/-- R264: a J command refused at step 3 writes an entry marked refused, OLD and NEW equal; without room it is counted in REFUSED_UNLOGGED. -/
def State.journalRefused (s : State) (i : CmdInfo) (c : Cmd) (k : Checks) : State :=
  if s.journalRoom (c.route.journalOrigin = 2) then
    s.commitNow { cmdEntry i c k with new := digest k.old, refused := true }
  else s.modSilt fun x => { x with refusedUnlogged := x.refusedUnlogged + 1 }

/-- A failing check of step 3 is a DENIED with DETAIL 1, 2, 3 or 5. -/
def stepThree (f : Status × Nat) : Bool := decide (f.1 = .denied) && (decide (f.2 ≤ 3) || decide (f.2 = 5))

/-- R19: the control plane has stopped executing: a sleep request or sleep state, no core that runs, or a fence of a live update. DEDUCED, log entry 151. -/
def State.ctrlStopped (s : State) : Bool :=
  decide (s.power.phase ≠ .steady) || decide (s.power.sleep ≠ 0) || decide (s.boot.phase = .fence)
  || s.cluster.cores.all fun c => decide (c.state ≠ .active) && decide (c.state ≠ .draining)

/-- R19: a command waits while the control plane has stopped; counters, snapshots and alarms stay available to the management controller. DEDUCED, log entry 151. -/
def State.waitsCtrl (s : State) (i : CmdInfo) (c : Cmd) : Bool :=
  s.ctrlStopped && !(decide (c.route = .mgmt) && [0x0106, 0x0107, 0x0804].contains i.opcode)

/-- R248: a command dispatched before, which has not taken effect, acts on the same object. DESIGN CHOICE, log entry 162. -/
def State.waitsTurn (s : State) (c : Cmd) (op : Nat) : Bool :=
  (c.object op).isSome && (s.hosts.running.takeWhile fun o => !o.is c op).any fun o => !o.begun && decide (o.object = c.object op)

/-- R19, R248: a command that waits, dispatched, for the control plane or for its turn on its object. -/
def State.waits (s : State) (i : CmdInfo) (c : Cmd) : Bool := s.waitsCtrl i c || s.waitsTurn c i.opcode

/-- R19, R248: a command that comes while the control plane has stopped, or before an earlier one on its object has taken effect, stays dispatched and waits. R263: the checks in order, then journal admission (step 6: a J command waits during a brownout hold, an image or firmware command waits for space, another completes BUSY), then the effect. A command that fails a check is completed in the present generation of its slice (R250). DEDUCED, log entry 9; DEDUCED, log entry 39. -/
def State.command (s : State) (i : CmdInfo) (c : Cmd) (k : Checks) (effect : State → State) : State :=
  let s := s.startCmd c i.opcode
  if s.waits i c then s
  else match firstFailure i c s k with
  | some f =>
    let s := if i.journal && k.journalled && stepThree f then s.journalRefused i c k else s
    if s.isRunning c i.opcode then (s.endCmd c i.opcode).deliver { c with gen := s.genNow c } f.1 f.2 [] else s
  | none =>
    if !(i.journal && k.journalled) then effect (s.markBegun c i.opcode)
    else
      let reserved := decide (c.route.journalOrigin = 2) || decide (i.opcode = 0x0805)
      let waits := match c.route with
        | .image _ => true
        | .fw => true
        | _ => false
      let defer (s : State) := s.modSilt fun x => { x with deferred := x.deferred ++ [{ cmd := some (i.opcode, c) }] }
      if s.power.hold && !c.late then defer s
      else if s.journalRoom reserved then
        effect ((s.commitNow (cmdEntry i c k)).markCommitted c i.opcode)
      else if waits then defer s
      else (s.modSilt fun x => { x with jrnlBusy := x.jrnlBusy + 1 }).complete c i.opcode .busy 0 []

/-- The command completes OK with a result. -/
def State.ok (s : State) (c : Cmd) (op : Nat) (result : List Byte) : State := s.complete c op .ok 0 result

/-- R378: domain `d` of Table 15-1 is off, or its off sequence has begun (Table 15-3: its crossings are closed first). DEDUCED, log entry 94. -/
def State.domainOff (s : State) (d : Nat) : Bool :=
  !s.power.on.getLsbD d || s.power.seqs.any fun q => decide (q.domain = d) && q.off

/-- The result of a command that always has its effect. -/
abbrev Result := Host.Outcome State Fault Refusal

/-- R463, R466: bytes a command writes to the buffer it names: host memory of its slice, MGMT_BUF from M, the bulk IN endpoint from D. -/
def State.bufferWrite (s : State) (c : Cmd) (addr : Nat) (bytes : List Byte) : State :=
  match c.route with
  | .mgmt => s.modMgmt fun m => { m with buf := Tab.write 0 addr bytes m.buf }
  | .diag => s.send (.diag bytes)
  | r => match r.slice? with
    | some (h, sl) => s.hostWrite h sl (BitVec.ofNat 64 addr) bytes
    | none => s

/-- R463: from M, the range named does not lie within MGMT_BUF. -/
def bufferBad (c : Cmd) (addr len : Nat) : Bool := decide (c.route = .mgmt) && decide (65536 < addr + len)

/-- R463: the bytes a command reads at the address it names: from MGMT_BUF for M, else what its host read returned. -/
def State.sourceBytes (s : State) (c : Cmd) (addr len : Nat) : HostData :=
  if c.route = .mgmt then .ok (Tab.bytes 0 s.mgmt.buf addr len) else c.data

/-- The access a command made of host memory failed. -/
def Cmd.accessFailed (c : Cmd) : Bool :=
  match c.data with
  | .ok _ => false
  | .err _ => true

/-- The first of two checks that finds something bad. -/
def orBad (a b : Option Nat) : Option Nat :=
  match a, b with
  | some x, some y => some (min x y)
  | some x, none => some x
  | none, y => y

/-- A format fault at payload offset `off` when `b` holds. -/
def badIf (b : Bool) (off : Nat) : Option Nat := if b then some off else none

/-- The first check that fails of a list. -/
def firstSome {α : Type} : List (Option α) → Option α
  | [] => none
  | some x :: _ => some x
  | none :: t => firstSome t

/-- A check that fails with a status and DETAIL when `b` holds. -/
def failIf (b : Bool) (st : Status) (detail : Nat) : Option (Status × Nat) := if b then some (st, detail) else none

end Sys2Proof.Machine
end

