-- ==== Sys2Proof/Machine/Cluster.lean ====
section
/-! DEFINITION. Sys2Proof/Machine/Cluster.lean: cores, ready lists, delay lists and the event controller ("Control cluster: cores, Shallot scheduler and event controller"). -/

namespace Sys2Proof.Machine

/-! ## Slots and priorities -/

/-- The core that occupies a logical slot. -/
def State.slotCore (s : State) (k : Nat) : Option Nat :=
  (List.range 9).find? fun c => decide ((s.core c).slot = some k)

/-- R354: the spare core. -/
def State.spare (s : State) : Option Nat := (List.range 9).find? fun c => decide ((s.core c).state = .spare)

/-- The core runs no item and no handler. -/
def Core.idle (c : Core) : Bool := c.item.isNone && c.handlers.isEmpty

/-- R357: a slot that no core occupies. DESIGN CHOICE, log entry 16. -/
def State.vacantSlot (s : State) : Option Nat := (List.range 8).find? fun k => (s.slotCore k).isNone

/-- R357: affinity to a vacant slot is widened to every occupied slot. -/
def State.allows (s : State) (affinity : BitVec 8) (k : Nat) : Bool :=
  affinity.getLsbD k || (List.range 8).any fun v => affinity.getLsbD v && (s.slotCore v).isNone

/-- R361, R446, R447: the version fence admits a class to a core. -/
def State.admits (s : State) (cls : BitVec 16) (c : Core) : Bool :=
  let b := s.cluster
  match s.boot.phase with
  | .idle => true
  | .staged => true
  | .rotatingIn => !c.newCode
  | .fence => decide (b.paused ≠ some cls) && (c.newCode == b.moved.contains cls)
  | .rotatingOut => c.newCode
  | .rollingBack => decide (b.paused ≠ some cls) && (c.newCode == b.moved.contains cls)

/-- R360: the slot can take the item now. -/
def State.canTake (s : State) (it : Item) (k : Nat) : Bool :=
  match s.slotCore k with
  | some c => decide ((s.core c).state = .active) && (s.core c).idle && s.allows it.affinity k && s.admits it.cls (s.core c)
  | none => false

/-- The first of `n` places, counted round from `start` modulo 8, that `p` picks. -/
def roundRobin (p : Nat → Bool) (start : Nat) : Option Nat :=
  ((List.range 8).map fun i => (start + i) % 8).find? p

/-- R368: the running priority of a core, one above PRIO so that an idle core is at 0. DEDUCED, log entry 112. -/
def State.runLevel (s : State) (c : Nat) : Nat :=
  match (s.core c).handlers with
  | h :: _ => (s.src h).prio + 1
  | [] => match (s.core c).item with
    | some it => it.prio + 1
    | none => 0

/-- R373: the core goes idle: the time it was busy counts in BUSY_NS. -/
def Core.rest (c : Core) (now : Time) : Core :=
  if c.idle then { c with busyNs := c.busyNs + (now - c.itemAt) } else c

/-- The item of a core ends; handlers that nest on it are not touched. DESIGN CHOICE, log entry 14. -/
def State.endItem (s : State) (c : Nat) : State :=
  s.modCore c fun x => if x.item.isNone then x else Core.rest { x with item := none } s.now

/-! ## Dispatch (R360, R362, R373) -/

/-- R373: the histogram bucket of a wait in ns. -/
def waitBucket (ns : Nat) : Nat := if ns < 1000 then 0 else min 7 ((ns / 1000).log2 + 1)

/-- R360: the place among the first 8 of a list and the slot for it. -/
def State.pickIn (s : State) (items : List Item) : Option (Nat × Nat) :=
  firstSome ((List.range (min 8 items.length)).map fun i =>
    (roundRobin (s.canTake (items.getD i {})) s.cluster.rrSlot).map fun k => (i, k))

/-- R360: the list, the place in it and the slot: the highest list that has an item to take in its window. DEDUCED, log entry 119. -/
def State.pick (s : State) : Option (Nat × Nat × Nat) :=
  firstSome ((List.range 16).map fun d =>
    let p := 15 - d
    (s.pickIn (s.readyList p).items).map fun r => (p, r))

/-- R360, R373: the item leaves its list for the slot's core. -/
def State.dispatchItem (s : State) (p i k : Nat) : State :=
  let l := s.readyList p
  let it := l.items.getD i {}
  let wait := (s.now.setWidth 32 - it.tReady).toNat
  let hist := (List.range 8).map fun b => l.hist.getD b 0 + (if b = waitBucket wait then 1 else 0)
  let s := s.setReady p { l with items := l.items.eraseIdx i, waitMax := max l.waitMax wait, hist := hist }
  let s := s.modCluster fun c => { c with rrSlot := (k + 1) % 8 }
  match s.slotCore k with
  | some c => s.modCore c fun x => { x with item := some it, itemAt := s.now, itemsRun := x.itemsRun + 1 }
  | none => s

/-- R383, R442: dispatch goes on only once the cores run the firmware (Table 18-5 step 7), outside a sleep request and a sleep state. DESIGN CHOICE, log entry 75. -/
def State.awake (s : State) : Bool :=
  (decide (s.boot.stage = .verified) || decide (s.boot.stage = .released)) && decide (s.power.phase = .steady) && decide (s.power.sleep = 0)

/-- WORK_ITEM_DISPATCH (R358, R360, R361, R373): `ended` names the cores whose items, other than those an EVC_COMPLETE ends, have run to their end (DESIGN CHOICE, log entry 14). DESIGN CHOICE, log entry 75; DEDUCED, log entry 119. -/
def execWorkItemDispatch (ended : List (Fin 9)) (s : State) : Result :=
  let s := ended.foldl (fun s c => if (s.core c).handlers.isEmpty then s.endItem c else s) s
  if !s.awake then .next s
  else match s.pick with
    | some (p, i, k) => .next (s.dispatchItem p i k)
    | none => .next s

/-! ## Event controller (R366 to R370) -/

/-- EVC_SOURCE_ASSERT (R366 to R368): an edge source is asserted by a rise; a level source follows its input. -/
def execEvcSourceAssert (src : Fin 512) (rise : Bool) (s : State) : Result :=
  if (s.src src).level then .next (s.level src rise)
  else .next (if rise then s.event src else s)

/-- R366, Table 14-5: firmware's set-up of a source: one with assertions recorded becomes PENDING when it is enabled; one disabled while PENDING is withdrawn. DESIGN CHOICE, log entry 29; DEDUCED, log entry 120. -/
def State.setUpSource (s : State) (n : Nat) (g : SrcCfg) : State :=
  let old := s.src n
  let x := { old with enable := g.enable, irq := g.irq, level := g.level, prio := g.prio.val, affinity := g.affinity, wake := g.wake, cls := g.cls }
  if x.state = .idle && x.enable && decide (0 < x.occur) then s.raiseSrc n x
  else if x.state = .pending && !x.enable then
    let l := s.readyList old.prio
    (s.setReady old.prio { l with items := l.items.filter fun i => !(decide (i.origin = 0) && decide (i.source = n)) }).setSrc n { x with state := .idle }
  else s.setSrc n x

/-- A handler of the source runs, or waits under a nested one. -/
def State.handled (s : State) (n : Nat) : Bool := s.cluster.cores.any fun c => c.handlers.contains n

/-- R368: the slots that may take an interrupt of a source. -/
def State.irqSlots (s : State) (x : Src) : List Nat :=
  (List.range 8).filter fun k =>
    match s.slotCore k with
    | some c => decide ((s.core c).state = .active) && s.allows x.affinity k && s.admits x.cls (s.core c)
    | none => false

/-- The running priority of the core in a slot. DEDUCED, log entry 112. -/
def State.slotLevel (s : State) (k : Nat) : Nat :=
  match s.slotCore k with
  | some c => s.runLevel c
  | none => 0

/-- EVC_INTERRUPT_TAKEN (R19, R368): the eligible slot of lowest running priority, ties round-robin after the last winner of a tie; taken only above that priority. -/
def execEvcInterruptTaken (src : Fin 512) (s : State) : Result :=
  let x := s.src src
  let slots := s.irqSlots x
  match (slots.map s.slotLevel).min? with
  | some low =>
    let least := slots.filter fun k => decide (s.slotLevel k = low)
    if !s.ctrlStopped && x.state = .pending && x.enable && x.irq && !s.handled src && low < x.prio + 1 then
      match roundRobin least.contains ((s.cluster.rrTie + 1) % 8) with
      | some k =>
        match s.slotCore k with
        | some c =>
          let s := s.modCore c fun y =>
            { y with handlers := src.val :: y.handlers, irqsTaken := y.irqsTaken + 1
                     itemAt := if y.idle then s.now else y.itemAt }
          .next (if 1 < least.length then s.modCluster fun z => { z with rrTie := k } else s)
        | none => .next s
      | none => .next s
    else .next s
  | none => .next s

/-- The core runs the item or handler of the source. -/
def Core.serves (c : Core) (n : Nat) : Bool :=
  decide (c.handlers.head? = some n)
  || (match c.item with
      | some it => decide (it.origin = 0) && decide (it.source = n)
      | none => false)

/-- EVC_CLAIM (R19, R369): OCCUR and STALE are returned, OCCUR clears, the source is IN_SERVICE. -/
def execEvcClaim (src : Fin 512) (core : Fin 9) (s : State) : Result :=
  let x := s.src src
  if !s.ctrlStopped && x.state = .pending && (s.core core).serves src then
    let stale := x.level && !x.asserted
    let s := s.setSrc src { x with state := .inService, core := some core.val, occur := 0, since := s.now, overdue := false }
    let s := if stale then s.modCluster fun c => { c with stale := c.stale + 1 } else s
    .next (s.send (.claim src x.occur stale))
  else .next s

/-- R369: a claimed source is raised again, or goes IDLE; a disabled one waits for its enable. -/
def State.completeSrc (s : State) (n : Nat) : State :=
  let x := { s.src n with core := none }
  let again := if x.level then x.asserted else decide (x.state = .inServiceAgain)
  if again && x.enable then s.raiseSrc n x else s.setSrc n { x with state := .idle }

/-- EVC_COMPLETE (R369): the handler or item of the source ends with it. -/
def execEvcComplete (src : Fin 512) (s : State) : Result :=
  let x := s.src src
  if x.state = .inService || x.state = .inServiceAgain then
    let s := match x.core with
      | some c =>
        if (s.core c).handlers.head? = some src.val then
          s.modCore c fun y => Core.rest { y with handlers := y.handlers.drop 1 } s.now
        else if (s.core c).serves src then s.endItem c else s
      | none => s
    .next (s.completeSrc src)
  else .next s

/-- CLAIM_OVERDUE (R370): 10 ms IN_SERVICE. -/
def execClaimOverdue (src : Fin 512) (s : State) : Result :=
  let x := s.src src
  if (x.state = .inService || x.state = .inServiceAgain) && !x.overdue && x.since.toNat + 10000000 ≤ s.now.toNat then
    let s := (s.setSrc src { x with overdue := true }).modCluster fun c => { c with overdue := c.overdue + 1 }
    .next ((s.event 0x1E2).trace agentCtrl 6 src)
  else .next s

/-! ## Direct items and delay lists (R359, R363 to R365) -/

/-- R359: the directly enqueued items that wait. -/
def State.directItems (s : State) : Nat :=
  (List.range 16).foldl (fun n p => n + ((s.readyList p).items.filter (·.origin = 2)).length) 0

/-- DIRECT_ENQUEUE (R359): beyond the free store the item is refused and counted. -/
def execDirectEnqueue (item : Item) (s : State) : Result :=
  if s.directItems < 3584 then .next (s.enqueue { item with origin := 2, prio := item.prio % 16 })
  else .next (s.modCluster fun c => { c with enqRefused := c.enqRefused + 1 })

/-- R363: TICK. -/
def State.tick32 (s : State) : BitVec 32 := BitVec.ofNat 32 (s.now.toNat / 1000)

/-- R363: the items pending on the four lists. -/
def State.delayPending (s : State) : Nat :=
  (List.range 4).foldl (fun n d => n + (s.delayList d).items.length) 0

/-- DELAY_INSERT (R363): D of 0 enqueues at once, D of 2^31 or more or a full store is refused. -/
def execDelayInsert (list : Fin 4) (item : Item) (d : BitVec 32) (s : State) : Result :=
  let item := { item with origin := 1, prio := item.prio % 16 }
  if d = 0 then .next (s.enqueue item)
  else if 2 ^ 31 ≤ d.toNat || 4096 ≤ s.delayPending then
    .next (s.modCluster fun c => { c with delayRefused := c.delayRefused + 1 })
  else
    let l := s.delayList list
    let items := l.items ++ [{ due := s.tick32 + d, ident := s.cluster.nextIdent, item := item }]
    .next ((s.setDelay list { l with items := items, maxPending := max l.maxPending items.length }).modCluster
      fun c => { c with nextIdent := c.nextIdent + 1 })

/-- R363: the due test. -/
def DelayItem.isDue (i : DelayItem) (tick : BitVec 32) : Bool := decide ((tick - i.due).toNat < 2 ^ 31)

/-- R363: place in a list: by due tick, across the wrap, an overdue item first (DESIGN CHOICE, log entry 15). -/
def DelayItem.order (i : DelayItem) (tick : BitVec 32) : Nat := (i.due - tick + BitVec.ofNat 32 (2 ^ 31)).toNat

/-- Stable insertion by rising key. -/
def insertBy {α : Type} (key : α → Nat) (x : α) : List α → List α
  | [] => [x]
  | y :: ys => if key x < key y then x :: y :: ys else y :: insertBy key x ys

/-- Stable sorting by rising key. -/
def sortBy {α : Type} (key : α → Nat) (l : List α) : List α := l.foldl (fun acc x => insertBy key x acc) []

/-- R364: a delay list moves its due items in order, at most 16. -/
def State.tickList (s : State) (d : Nat) : State :=
  let l := s.delayList d
  let t := s.tick32
  let moved := ((sortBy (·.order t) l.items).filter (·.isDue t)).take 16
  let late := (moved.filter fun i => decide (i.due ≠ t)).length
  let s := s.setDelay d
    { l with items := l.items.filter fun i => !moved.any fun m => decide (m.ident = i.ident)
             expired := l.expired + BitVec.ofNat 64 moved.length, late := l.late + BitVec.ofNat 64 late }
  moved.foldl (fun s i => s.enqueue i.item) s

/-- R372, R387: an item is due on one of the lists. -/
def State.anyDue (s : State) : Bool := s.cluster.delay.any fun d => d.2.items.any fun i => i.isDue s.tick32

/-- R365: a step of the timebase changes no remaining delay: every pending DUE moves by the same step of the tick. DESIGN CHOICE, log entry 172. -/
def State.rebaseDelays (s : State) (step : BitVec 32) : State :=
  (List.range 4).foldl (fun s d =>
    let l := s.delayList d
    s.setDelay d { l with items := l.items.map fun i => { i with due := i.due + step } }) s

/-- DELAY_TICK (R364). In a sleep state nothing moves: the wake timer that Loam holds ends it once an item is due (R372, R387). DESIGN CHOICE, log entry 15. -/
def execDelayTick (s : State) : Result :=
  if s.cluster.saved || (decide (s.power.phase = .steady) && decide (s.power.sleep ≠ 0)) then .next (if s.anyDue then s.wakeNow 63 else s)
  else .next ((List.range 4).foldl State.tickList s)

/-- DELAY_CANCEL (R364): an expiry of the same tick is applied first. -/
def execDelayCancel (list : Fin 4) (ident : Nat) (s : State) : Result :=
  let s := if s.cluster.saved then s else s.tickList list
  let l := s.delayList list
  let found := l.items.any fun i => decide (i.ident = ident)
  .next ((s.setDelay list { l with items := l.items.filter fun i => decide (i.ident ≠ ident) }).send (.cancelled found))

/-! ## Cores (R354 to R358) -/

/-- R355, R356: the spare takes a slot; LAST_ROTATE is when a core leaves SPARE. -/
def State.occupy (s : State) (c k : Nat) : State :=
  s.modCore c fun x => { x with state := .active, slot := some k, lastRotate := s.now }

/-- R356: of the cores `p` picks, the ACTIVE one with the earliest LAST_ROTATE. -/
def State.oldest (s : State) (p : Core → Bool) : Option Nat :=
  ((List.range 9).filter fun c => decide ((s.core c).state = .active) && p (s.core c)).foldl
    (fun best c => match best with
      | none => some c
      | some b => if (s.core c).lastRotate.toNat < (s.core b).lastRotate.toNat then some c else some b) none

/-- R356: one rotation: the slot of `out` passes to the spare, `out` drains; it counts and is traced. -/
def State.rotate (s : State) (out spare : Nat) : State :=
  let k := (s.core out).slot.getD 0
  let s := s.modCore out fun x => { x with state := .draining, slot := none }
  ((s.occupy spare k).modCluster fun c => { c with rotations := c.rotations + 1 }).trace agentCtrl 6 out

/-- R356: rotation is deferred by a hold, a sleep state, a live update, or the lack of a spare. -/
def State.mayRotate (s : State) : Bool :=
  !s.power.hold && s.awake && (decide (s.boot.phase = .idle) || decide (s.boot.phase = .staged))

/-- CORE_ROTATION (R356): every 24 h. -/
def execCoreRotation (s : State) : Result :=
  match s.spare, s.oldest (fun _ => true) with
  | some sp, some out =>
    if s.mayRotate && s.cluster.rotateAt.toNat + 86400000000000 ≤ s.now.toNat then
      .next ((s.rotate out sp).modCluster fun c => { c with rotateAt := s.now })
    else .next s
  | _, _ => .next s

/-- R446, R448: a core that loads its code now loads that of the staged version. DESIGN CHOICE, log entry 67. -/
def State.loadsNew (s : State) : Bool :=
  decide (s.boot.phase = .rotatingIn) || decide (s.boot.phase = .fence) || decide (s.boot.phase = .rotatingOut)

/-- CORE_DRAIN_DONE (R355, R446). -/
def execCoreDrainDone (core : Fin 9) (s : State) : Result :=
  if (s.core core).state = .draining then
    .next (s.modCore core fun x =>
      { x with state := .test, item := none, handlers := [], newCode := s.loadsNew
               busyNs := if x.idle then x.busyNs else x.busyNs + (s.now - x.itemAt) })
  else .next s

/-- R357: the alarm CORE_FAULT. -/
def State.coreFaultAlarm (s : State) (c : Nat) : State := (s.alarmOccur 8 c false).event 0x1E0

/-- R357: a core that becomes SPARE takes a vacant slot; CTRL_DEGRADED ends when none is left (DESIGN CHOICE, log entry 16). -/
def State.fillVacancy (s : State) : State :=
  match s.spare, s.vacantSlot with
  | some c, some k =>
    let s := s.occupy c k
    if s.vacantSlot.isNone then s.alarmEnd 10 else s
  | _, _ => s

/-- R448: an update in phases 2 to 4 rolls back, with the DETAIL that FW_ACTIVATE will return; a class paused for its move goes on. DEDUCED, log entry 76. -/
def State.startRollback (s : State) (detail : Nat) : State :=
  if s.loadsNew then
    (s.modBoot fun b => { b with phase := .rollingBack, rollDetail := detail, spareDue := none }).modCluster fun c => { c with paused := none }
  else s

/-- Every core that is not FAULTED runs one code, and none is on its way. -/
def State.coresSettled (s : State) (new : Bool) : Bool :=
  s.cluster.cores.all fun c =>
    decide (c.state = .faulted) || ((decide (c.state = .active) || decide (c.state = .spare)) && (c.newCode == new))

/-- The update is over: no class is moved, every core runs the version in force. -/
def State.codeSettled (s : State) : State :=
  s.modCluster fun c => { c with moved := [], paused := none, cores := c.cores.map fun x => { x with newCode := false, testFails := 0 } }

/-- R446: the last outgoing core is SPARE: the staged version is the running one. -/
def State.updateDone (s : State) : State :=
  let v := s.boot.staged
  let c := s.boot.activate
  let s := s.modBoot fun b =>
    { b with running := b.staged, fwSlot := b.stagedSlot, staged := 0, stageValue := [], stagedSlot := none, phase := .idle
             activate := none, spareDue := none }
  s.codeSettled.completeOpt c 0x0902 .ok 0 (toLe 4 v.toNat)

/-- R448: the old code is back on every core: one entry of origin FW, and FW_ACTIVATE completes ABORTED. The staged version stays staged. -/
def State.rollbackDone (s : State) : State :=
  let c := s.boot.activate
  let d := digest (toLe 4 s.boot.running.toNat)
  let detail := s.boot.rollDetail
  let s := s.fwChange { kind := 0x0902, old := d, new := d } .none id
  let s := s.modBoot fun b => { b with phase := .staged, activate := none, rollDetail := 0, spareDue := none }
  s.codeSettled.completeOpt c 0x0902 .aborted detail []

/-- R446, R448: the end of the last phase. -/
def State.updateEnd (s : State) : State :=
  match s.boot.phase with
  | .rotatingOut => if s.coresSettled true && s.spare.isSome then s.updateDone else s
  | .rollingBack => if s.coresSettled false && s.cluster.moved.isEmpty && s.cluster.paused.isNone then s.rollbackDone else s
  | _ => s

/-- SELF_TEST_DONE (R355, R446, R448): a new-version core that fails twice rolls the update back; the last core's test ends an update. -/
def execSelfTestDone (core : Fin 9) (pass : Bool) (s : State) : Result :=
  let x := s.core core
  if x.state ≠ .test then .next s
  else if pass then
    let s := (s.modCore core fun x => { x with state := .spare, lastTest := s.now, testFails := 0 }).modBoot fun b => { b with spareDue := none }
    .next s.fillVacancy.updateEnd
  else
    let fails := if x.newCode then x.testFails + 1 else 0
    let s := s.modCore core fun x =>
      { x with state := .faulted, faults := x.faults + 1, testFails := fails
               faultTimes := s.now :: x.faultTimes.filter (s.within 86400000000000) }
    let s := s.coreFaultAlarm core
    .next (if 2 ≤ fails then s.startRollback 1 else s)

/-- SPARE_SELFTEST_EXPIRY (R355): 1 h since its last self-test. DEDUCED, log entry 76. -/
def execSpareSelftestExpiry (s : State) : Result :=
  match s.spare with
  | some c =>
    if (s.core c).lastTest.toNat + 3600000000000 ≤ s.now.toNat then
      .next (s.modCore c fun x => { x with state := .test })
    else .next s
  | none => .next s

/-- R355: the faults of a core within 24 h of its latest one. A third keeps it out of service until cold start, however long ago they are by then. -/
def State.recentFaults (s : State) (c : Nat) : List Time := (s.core c).faultTimes

/-- FAULTED_RETEST_EXPIRY (R355): 10 s after its fault, with fewer than 3 faults in 24 h. -/
def execFaultedRetestExpiry (core : Fin 9) (s : State) : Result :=
  let x := s.core core
  if x.state = .faulted && (s.recentFaults core).length < 3
      && (match x.faultTimes with
          | t :: _ => decide (t.toNat + 10000000000 ≤ s.now.toNat)
          | [] => true) then
    .next (s.modCore core fun x => { x with state := .test, newCode := s.loadsNew })
  else .next s

/-- R357: the item a core was running goes back to the head of its ready list. -/
def State.requeueHead (s : State) (it : Item) : State :=
  let l := s.readyList it.prio
  let items := it :: l.items
  s.setReady it.prio { l with items := items, maxDepth := max l.maxDepth items.length }

/-- R357: every source the core had claimed is released and raised again, OCCUR kept; the source of the item put back has that item as its delivery. -/
def State.releaseClaims (s : State) (c : Nat) (keep : Option Nat) : State :=
  (s.cluster.srcs.filter fun e => decide (e.2.core = some c)).foldl (fun s e =>
    let x := { e.2 with core := none }
    if keep = some e.1 then s.setSrc e.1 { x with state := .pending }
    else if x.enable then s.raiseSrc e.1 x else s.setSrc e.1 { x with state := .idle }) s

/-- The EVC source of an item. DEDUCED, log entry 120. -/
def Item.evc (it : Item) : Option Nat := if it.origin = 0 then some it.source else none

/-- R357 steps 1 to 3: the core stops; its item (changed by `f`, none to discard it) goes back; its claims are released. -/
def State.stopCore (s : State) (c : Nat) (f : Item → Option Item) : State :=
  let x := s.core c
  let back := x.item.bind f
  let s := s.modCore c fun y =>
    { y with item := none, handlers := [], busyNs := if y.idle then y.busyNs else y.busyNs + (s.now - y.itemAt) }
  let s := match back with
    | some it => s.requeueHead it
    | none => s
  s.releaseClaims c (back.bind Item.evc)

/-- R357 steps 4 and 5: the core is FAULTED; the spare takes its slot, or the slot is vacant and CTRL_DEGRADED is raised. -/
def State.faultCore (s : State) (c : Nat) : State :=
  let slot := (s.core c).slot
  let s := s.modCore c fun x =>
    { x with state := .faulted, slot := none, faults := x.faults + 1
             faultTimes := s.now :: x.faultTimes.filter (s.within 86400000000000) }
  let s := match slot, s.spare with
    | some k, some sp => s.occupy sp k
    | some _, none => s.alarmOccur 10 c true
    | none, _ => s
  s.coreFaultAlarm c

/-- R448, R453: a fault of a core that runs new code during an update counts as a failed self-test; without a spare the update waits 1 s for one. -/
def State.faultInUpdate (s : State) (c : Nat) : State :=
  let x := s.core c
  let s := if s.loadsNew && s.spare.isNone && s.boot.spareDue.isNone then s.modBoot fun b => { b with spareDue := some (s.after 1000000000) } else s
  if x.newCode then
    let s := s.modCore c fun y => { y with testFails := y.testFails + 1 }
    if 2 ≤ x.testFails + 1 then s.startRollback 1 else s
  else s

/-- CORE_FAULT (R357): an ACTIVE or DRAINING core. -/
def execCoreFault (core : Fin 9) (s : State) : Result :=
  match (s.core core).state with
  | .active => .next (((s.stopCore core some).faultCore core).faultInUpdate core)
  | .draining => .next (((s.stopCore core some).faultCore core).faultInUpdate core)
  | _ => .next s

/-- R358: the command that a discarded item served completes ABORTED. -/
def State.abortServed (s : State) (it : Item) : State :=
  match it.serves with
  | some c =>
    match s.hosts.running.find? fun o => decide (o.route = c.route) && decide (o.tag = c.tag) && decide (o.gen = c.gen) with
    | some o => s.complete c o.opcode .aborted 0 []
    | none => s
  | none => s

/-- ITEM_LIMIT_OVERRUN (R358): 2 ms on the core; the first overrun re-dispatches the item, the second discards it with CORE_HUNG. -/
def execItemLimitOverrun (core : Fin 9) (s : State) : Result :=
  let x := s.core core
  match x.item with
  | some it =>
    if x.itemAt.toNat + 2000000 ≤ s.now.toNat then
      if it.overran then
        let s := ((s.stopCore core fun _ => none).abortServed it).alarmOccur 9 core false
        let s := (s.event 0x1E1).faultCore core
        .next (if x.newCode then s.startRollback 3 else s.faultInUpdate core)
      else .next (s.stopCore core fun i => some { i with overran := true })
    else .next s
  | none => .next s

/-- SHL_PEAK_CLR_LISTS (R373). -/
def execShlPeakClrLists (s : State) : Result :=
  .next ((List.range 16).foldl (fun s p => s.setReady p { s.readyList p with maxDepth := 0, waitMax := 0 }) s)

/-- SHL_PEAK_CLR_DELAY (R373). -/
def execShlPeakClrDelay (s : State) : Result :=
  .next ((List.range 4).foldl (fun s d => s.setDelay d { s.delayList d with maxPending := 0 }) s)

end Sys2Proof.Machine
end

