-- ==== Sys2Proof/Machine/Mem.lean ====
section
/-! DEFINITION. Sys2Proof/Machine/Mem.lean: the page code, scrubbing, repair, fuses and Marl bank retirement ("Memory integrity and repair", "Marl shared-memory switch", R146 to R149). -/

namespace Sys2Proof.Machine

/-! ## Geometry (Table 16-1) -/

/-- The banks of a region. -/
def regionBanks : Nat → Nat
  | 0 => 33
  | 1 => 8
  | 2 => 16
  | 3 => 3
  | _ => 8

/-- R397: the rows of 8 pages in a bank of a region. -/
def bankRows (region bank : Nat) : Nat :=
  if region = 0 then 1024 else if region = 3 && bank = 2 then 64 else 256

/-- The pages of a region. -/
def regionPages : Nat → Nat
  | 0 => 270336
  | 1 => 16384
  | 2 => 32768
  | 3 => 4608
  | _ => 16384

/-- The bank of a page. -/
def pageBank (region page : Nat) : Nat := if region = 0 then page / 8192 else min (page / 2048) (regionBanks region - 1)

/-- The row of a page in its bank. -/
def pageRow (region page : Nat) : Nat := (page - pageBank region page * (if region = 0 then 8192 else 2048)) / 8

/-- The first page of a row. -/
def rowPage (region bank row : Nat) : Nat := bank * (if region = 0 then 8192 else 2048) + 8 * row

/-- The power domain that holds a page; Loam memory is never off. -/
def pageDomain (region page : Nat) : Option Nat :=
  match region with
  | 0 => some (if page / 8192 < 16 then 1 else 2)
  | 1 => some 8
  | 2 => some 0
  | 3 => some 8
  | _ => none

/-- R397, R466: the page lies in copy B of the Loam memory, which counts by itself. -/
def inCopyB (region page : Nat) : Bool := decide (region = 4) && decide (8192 ≤ page)

/-- R412: a counter of a page's region, or Loam copy, changes. -/
def Region.tally (r : Region) (onB : Bool) (f : RegionCtr → RegionCtr) : Region :=
  if onB then { r with ctrB := f r.ctrB } else { r with ctr := f r.ctr }

/-- R412: the counters that a page counts in. -/
def State.pageCtr (s : State) (region page : Nat) : RegionCtr :=
  if inCopyB region page then (s.region region).ctrB else (s.region region).ctr

/-! ## Reading a page (R398, R399, R401) -/

/-- R398: the used positions of a codeword of strength t: data, parity, and overall parity for t from 1 to 7. -/
def usedPositions (t : Nat) : Nat := 1024 + 11 * t + (if t ≤ 7 then 1 else 0)

/-- What a page reads as. -/
inductive PageRead where
  | clean
  | corrected
  | uncorrectable
  deriving DecidableEq, Repr

/-- R399: at most t errors in used positions are corrected; t + 1 at t ≤ 7 are reported; more are reported unless within t of another codeword. DESIGN CHOICE, log entry 17. -/
def decodePage (region t : Nat) (errs : List Nat) : PageRead :=
  let e := errs.filter fun p => decide (p < usedPositions t)
  if e.isEmpty then .clean
  else if e.length ≤ t then .corrected
  else if t ≤ 7 && e.length = t + 1 then .uncorrectable
  else if Config.miscorrects region t e then .corrected else .uncorrectable

/-- R401: the strength a page is held under. -/
def Region.pageT (r : Region) (page : Nat) : Nat :=
  match r.keepsOld.find? (·.1 = page) with
  | some e => e.2
  | none => if r.converting && r.convAt ≤ page then r.tOld else r.t

/-- The inverted positions of a page. -/
def Region.pageErrs (r : Region) (page : Nat) : List Nat := Tab.get [] r.errs page

def State.readPage (s : State) (region page : Nat) : PageRead :=
  decodePage region ((s.region region).pageT page) ((s.region region).pageErrs page)

/-- A position turns over: an error appears, or one disappears. -/
def toggle (l : List Nat) (p : Nat) : List Nat := if l.contains p then l.filter (· ≠ p) else p :: l

/-- Bits of a page that have turned over since it was last looked at. -/
def State.upsetPage (s : State) (region page : Nat) (upset : List Nat) : State :=
  s.modRegion region fun r => { r with errs := Tab.set [] page ((upset.filter (· < 1112)).foldl toggle (r.pageErrs page)) r.errs }

/-- A page is written whole with a correct codeword. -/
def Region.fix (r : Region) (page : Nat) : Region :=
  { r with errs := Tab.erase page r.errs, keepsOld := Tab.erase page r.keepsOld }

/-- R403, R411: a whole-page demand write: it cancels a waiting write-back and takes an armed flip mask once. -/
def Region.written (r : Region) (page : Nat) : Region :=
  let r := { r.fix page with backs := r.backs.filter (· ≠ page), backOnce := r.backOnce.filter (· ≠ page) }
  if r.flipArmed then
    { r with errs := Tab.set [] page (r.flip.filter fun p => decide (p < usedPositions (r.pageT page))) r.errs
             flip := [], flipArmed := false }
  else r

def State.pageWritten (s : State) (region page : Nat) : State := s.modRegion region (·.written page)

/-! ## Soft repair (R408, R409) -/

/-- R408: the next free spare row of a bank. -/
def State.freeSpare (s : State) (region bank : Nat) : Option Nat :=
  let n := Tab.get 0 (s.region region).used bank
  if n < 16 then some n else none

/-- R408: a spare is taken and the copy of the row begins. -/
def State.startRepair (s : State) (region bank row spare : Nat) (perm : Bool) (cmd : Option Cmd) : State :=
  s.modRegion region fun r =>
    { r with used := Tab.set 0 bank (spare + 1) r.used, copying := r.copying ++ [(bank, row, spare, perm, cmd)] }

/-- A repair of the row is under way or in force. -/
def Region.repaired (r : Region) (bank row : Nat) : Bool :=
  r.copying.any (fun x => decide (x.1 = bank) && decide (x.2.1 = row))
  || r.repairs.any fun x => decide (x.1 = bank) && decide (x.2.1 = row)

/-- R409: firmware's own repair of a row, origin FW; no spare raises REPAIR_EXHAUSTED. -/
def State.autoRepair (s : State) (region page : Nat) : State :=
  let bank := pageBank region page
  let row := pageRow region page
  if (s.region region).repaired bank row then s
  else match s.freeSpare region bank with
    | some spare =>
      s.fwChange { origin := 5, kind := 0x0908, object := region, old := digest []
                   new := digest (toLe 1 region ++ toLe 1 bank ++ toLe 2 row ++ toLe 1 0) }
        (.softRepair region bank row) fun s => s.startRepair region bank row spare false none
    | none => s.alarmOccur 15 region false

/-- R409: a corrected read adds to the row's record; the third error at one position within 24 h, or an error on the first read after a write-back, is repaired. -/
def State.noteCorrected (s : State) (region page : Nat) : State :=
  let r := s.region region
  let row := page / 8
  let old := (Tab.get [] r.rowErrs row).filter fun e => s.within 86400000000000 e.2
  let now := (r.pageErrs page).map fun p => (p, s.now)
  let all := now ++ old
  let thrice := (r.pageErrs page).any fun p => decide (3 ≤ (all.filter (·.1 = p)).length)
  let back := r.backOnce.contains page
  let s := s.modRegion region fun r =>
    { r with rowErrs := Tab.set [] row all r.rowErrs, backOnce := r.backOnce.filter (· ≠ page) }
  if thrice || back then s.autoRepair region page else s

/-- R403, R404: a demand read of a page outside Marl: a corrected page is counted and, in write-back mode, its write-back waits. DEDUCED, log entry 31. -/
def State.demandRead (s : State) (region page : Nat) : State :=
  match s.readPage region page with
  | .clean => s.modRegion region fun r => { r with backOnce := r.backOnce.filter (· ≠ page) }
  | .corrected =>
    let s := s.modRegion region fun r =>
      { r.tally (inCopyB region page) fun k => { k with ce := k.ce + 1 } with
        backs := if r.fly || r.backs.contains page then r.backs else r.backs ++ [page] }
    s.noteCorrected region page
  | .uncorrectable => s.modRegion region fun r => r.tally (inCopyB region page) fun k => { k with ue := k.ue + 1 }

/-- R405, Table 16-3: a page of the Loam memory is read from the active copy; one that fails there is read from the other copy, if that is in service, and written whole. It tells whether both copies failed. DESIGN CHOICE, log entry 174. -/
def State.loamRead (s : State) (page : Nat) : State × Bool :=
  let onB := s.boot.loamActiveB
  let here := page % 8192 + 8192 * flag onB
  let there := page % 8192 + 8192 * flag !onB
  let spare := if onB then s.boot.loamA else s.boot.loamB
  let t := s.demandRead 4 here
  if s.readPage 4 here ≠ .uncorrectable then (t, false)
  else if spare.state = .standby && s.readPage 4 there ≠ .uncorrectable then
    (((t.alarmOccur 12 (flag onB) false).demandRead 4 there).modRegion 4 (·.fix here), false)
  else ((t.alarmOccur 12 (flag onB) false).alarmOccur 13 (flag onB) false, true)

/-- Pages of the Loam memory read one after another; whether one failed in both copies. DESIGN CHOICE, log entry 174. -/
def State.loamReads (s : State) (pages : List Nat) : State × Bool :=
  pages.foldl (fun a p => ((a.1.loamRead p).1, a.2 || (a.1.loamRead p).2)) (s, false)

/-- R397, R418: the pages of the journal ring that hold `n` entries from JIDX `first` on. DESIGN CHOICE, log entry 174. -/
def journalPages (first n : Nat) : List Nat :=
  if n = 0 then [] else (List.range ((first % 4 + n + 3) / 4)).map fun i => Config.journalPage + (first / 4 + i) % 2048

/-- R402, R403, R411: bytes written to a region from byte address `at'` on: a page covered whole is written whole, any other by read-modify-write; `put` stores the bytes of one page. It tells whether a partial write was refused, its page being uncorrectable. DEDUCED, log entry 31. -/
def State.storeBytes (s : State) (region at' : Nat) (bytes : List Byte) (put : Nat → List Byte → State → State) : State × Bool :=
  if bytes.isEmpty then (s, false)
  else (List.range ((at' % 128 + bytes.length + 127) / 128)).foldl (fun (a : State × Bool) i =>
    let page := at' / 128 + i
    let lo := max at' (128 * page)
    let piece := (bytes.drop (lo - at')).take (128 * page + 128 - lo)
    if piece.length = 128 then (put lo piece (a.1.pageWritten region page), a.2)
    else
      let s := (a.1.modRegion region fun r => r.tally (inCopyB region page) fun k => { k with rmw := k.rmw + 1 }).demandRead region page
      if a.1.readPage region page = .uncorrectable then (s, true) else (put lo piece (s.pageWritten region page), a.2)) (s, false)

/-- Bytes that pass through a buffer of a region: written from `at'` on, then read; tells whether they come out uncorrectable (R405). DESIGN CHOICE, log entry 30. -/
def State.throughBuffer (s : State) (region at' : Nat) (bytes : List Byte) (put : Nat → List Byte → State → State) : State × Bool :=
  let w := s.storeBytes region at' bytes put
  let pages := (List.range ((at' % 128 + bytes.length + 127) / 128)).map fun i => at' / 128 + i
  if bytes.isEmpty then (s, false)
  else (pages.foldl (fun s p => s.demandRead region p) w.1, w.2 || pages.any fun p => decide (w.1.readPage region p = .uncorrectable))

/-! ## Marl banks (R146 to R149) -/

def State.bank (s : State) (b : Nat) : Bank := Tab.get {} s.marl.banks b
def State.setBank (s : State) (b : Nat) (v : Bank) : State := s.modMarl fun m => { m with banks := Tab.set {} b v m.banks }
def State.modBank (s : State) (b : Nat) (f : Bank → Bank) : State := s.setBank b (f (s.bank b))

/-- A bank of MARL_B while MARL_B is off. -/
def State.bankOff (s : State) (b : Nat) : Bool := decide (16 ≤ b) && s.domainOff 2

/-- The banks in a state. -/
def State.banksIn (s : State) (x : BankState) : List Nat := (List.range 33).filter fun b => decide ((s.bank b).state = x)

/-- R134: the sum of the POOL_MIN values and the reserve. DEDUCED, log entry 139. -/
def State.carve (s : State) : Nat := (s.marl.pools.map fun e => e.2.min).sum

/-- R149: an ACTIVE bank may leave placement: a spare can join, or the carve fits in the other active banks. -/
def State.canRetire (s : State) : Bool :=
  (!(s.banksIn .spare).isEmpty && !s.domainOff 2) || decide (s.carve ≤ 8192 * (((s.banksIn .active).filter fun b => !s.bankOff b).length - 1))

/-- R415, Table 17-10: the canonical value of a bank. -/
def bankValue (b : Nat) (st : BankState) : List Byte := [BitVec.ofNat 8 b, BitVec.ofNat 8 st.ctorIdx]

/-- R146, Table 5-13: a bank leaves placement; the spare joins in the same cycle, or the shared size falls by 8192 cells. -/
def State.retireBank (s : State) (b : Nat) (cmd : Option Cmd) : State :=
  let x := s.bank b
  if x.state = .spare then (s.setBank b { x with state := .retired }).event 0x182
  else
    let s := match s.banksIn .spare with
      | sp :: _ => if s.domainOff 2 then s.modMarl fun m => { m with sharedLost := m.sharedLost + 8192 }
          else s.modBank sp fun y => { y with state := .active }
      | [] => s.modMarl fun m => { m with sharedLost := m.sharedLost + 8192 }
    s.setBank b { x with state := .draining, retireBy := cmd }

/-- R147, R149: an automatic trigger: latched during a drain or a hold, else acted on with origin FW if R149 allows. -/
def State.autoRetire (s : State) (b : Nat) : State :=
  let x := s.bank b
  if x.state = .draining || x.state = .retired then s
  else if !(s.banksIn .draining).isEmpty || s.power.hold then
    s.modMarl fun m => { m with autoQ := if m.autoQ.contains b then m.autoQ else m.autoQ ++ [b] }
  else if x.state = .active && !s.canRetire then s
  else
    let dst := if x.state = .spare then BankState.retired else BankState.draining
    s.fwChange { origin := 5, kind := 0x0905, object := b, old := digest (bankValue b x.state), new := digest (bankValue b dst) }
      (.bankRetire b) fun s => s.retireBank b none

/-- R147, R149: the latched triggers are acted on one at a time, up to the first that makes a bank drain. -/
def State.latchedAuto : Nat → State → State
  | 0, s => s
  | n + 1, s =>
    match s.marl.autoQ with
    | b :: rest => if (s.banksIn .draining).isEmpty && !s.power.hold
        then State.latchedAuto n ((s.modMarl fun m => { m with autoQ := rest }).autoRetire b) else s
    | [] => s

def State.nextAuto (s : State) : State := State.latchedAuto s.marl.autoQ.length s

/-- R146, R149: an automatic retire of the bank can be made now: no bank drains, and an ACTIVE one can be spared. -/
def State.mayAutoRetire (s : State) (b : Nat) : Bool :=
  (s.banksIn .draining).isEmpty && (decide ((s.bank b).state = .spare) || (decide ((s.bank b).state = .active) && s.canRetire))

/-- R145, R147: an error read in a bank is counted; two uncorrectable errors within 1 h, or more than 1000 corrected ones within 1 h with no spare row left, retire it when RETIRE_AUTO is set. -/
def State.bankError (s : State) (b : Nat) (ue : Bool) : State :=
  let hour := 3600000000000
  let x := s.bank b
  let x := if ue then { x with ue := x.ue + 1, ueTimes := s.now :: x.ueTimes.filter (s.within hour) }
    else { x with ce := x.ce + 1, ceTimes := s.now :: x.ceTimes.filter (s.within hour) }
  let s := s.setBank b x
  let bad := decide (2 ≤ x.ueTimes.length) || ((s.freeSpare 0 b).isNone && decide (1000 < x.ceTimes.length))
  if s.marl.retireAuto && bad then s.autoRetire b else s

def infoBankRetire : CmdInfo :=
  { opcode := 0x0905, fromO := true, fromM := true, fromF := true, journal := true, len := 1 }

/-- What the checks of MARL_BANK_RETIRE find (R146 to R149). -/
def checksMarlBankRetire (c : Cmd) (s : State) : Checks :=
  let b := byteAt c.payload 0
  let x := s.bank b
  let dst := if x.state = .spare then BankState.retired else BankState.draining
  { bad := firstBad [rangeField 0 1 0 32] c.payload
    refuse := firstSome [failIf (s.bankOff b) .denied 4,
      failIf (decide (x.state = .draining) || decide (x.state = .retired)) .denied 4,
      failIf (!(s.banksIn .draining).isEmpty) .busy 0,
      failIf (decide (x.state = .active) && !s.canRetire) .noResource 0]
    object := b, old := bankValue b x.state, new := bankValue b dst }

/-- MARL_BANK_RETIRE (R146 to R149). -/
def execMarlBankRetire (c : Cmd) (s : State) : Result :=
  let b := byteAt c.payload 0
  let x := s.bank b
  .next <| s.command infoBankRetire c (checksMarlBankRetire c s) fun s =>
      let s := s.retireBank b (some c)
      if x.state = .spare then s.ok c 0x0905 [3] else s

/-- R146, Table 5-13: a DRAINING bank with no fill is RETIRED, and its command completes. -/
def State.bankRetiredNow (s : State) (b : Nat) : State :=
  let x := s.bank b
  let s := (s.setBank b { x with state := .retired, retireBy := none }).event 0x182
  (s.completeOpt x.retireBy 0x0905 .ok 0 [3]).nextAuto

/-- MARL_BANK_RETIRED (R146): a DRAINING bank has FILL 0; its entry carries the origin of the retire. -/
def execMarlBankRetired (bank : Fin 33) (s : State) : Result :=
  let x := s.bank bank
  if x.state = .draining && x.fill = 0 then
      let origin := match x.retireBy with
        | some c => c.route.journalOrigin
        | none => 5
      let slice := ((x.retireBy.bind (·.route.slice?)).map Prod.snd).getD 0
      .next <| s.fwChange
        { origin := origin, slice := slice, kind := 0x0905, object := bank
          old := digest (bankValue bank .draining), new := digest (bankValue bank .retired) }
        (.bankRetired bank) fun s => s.bankRetiredNow bank
  else .next s

def infoBankReadmit : CmdInfo := { opcode := 0x0906, fromO := true, fromM := true, journal := true, len := 1 }

/-- R146: the state a readmitted bank takes. -/
def State.readmitTo (s : State) : BankState := if (s.banksIn .active).length < 32 then .active else .spare

/-- What the checks of MARL_BANK_READMIT find (R146). -/
def checksMarlBankReadmit (c : Cmd) (s : State) : Checks :=
  let b := byteAt c.payload 0
  let x := s.bank b
  { bad := firstBad [rangeField 0 1 0 32] c.payload
    refuse := firstSome [failIf (s.bankOff b) .denied 4, failIf (decide (x.state ≠ .retired)) .denied 4,
      failIf x.readmit.isSome .busy 0]
    object := b, old := bankValue b x.state, new := bankValue b s.readmitTo }

/-- MARL_BANK_READMIT (R146): it completes when the scrub ends. -/
def execMarlBankReadmit (c : Cmd) (s : State) : Result :=
  let b := byteAt c.payload 0
  .next <| s.command infoBankReadmit c (checksMarlBankReadmit c s) fun s => s.modBank b fun x => { x with readmit := some c }

/-- BANK_READMIT_DONE (R146): zero cells with valid parity; SPARE, or ACTIVE when fewer than 32 banks are, which gives shared space its cells back. -/
def execBankReadmitDone (bank : Fin 33) (s : State) : Result :=
  let x := s.bank bank
  match x.readmit with
  | some c =>
    if x.state ≠ .retired then .next s
    else
      let dst := s.readmitTo
      let s := s.setBank bank { x with state := dst, readmit := none, fill := 0, ueTimes := [], ceTimes := [] }
      let s := s.modRegion 0 fun r => { r with errs := r.errs.filter fun e => decide (e.1 / 8192 ≠ bank.val) }
      let s := if dst = .active then s.modMarl fun m => { m with sharedLost := m.sharedLost - 8192 } else s
      .next (s.ok c 0x0906 [BitVec.ofNat 8 dst.ctorIdx])
  | none => .next s

/-! ## Scrubbing, conversion and write-back (R401, R403, R406) -/

/-- R405: no resident Marl cell lies at the address. -/
def State.marlFree (s : State) (page : Nat) : Bool :=
  !s.marl.queues.any fun q => q.2.flows.any fun f => f.2.any fun c => decide (c.addr = page)

/-- R145: the scrubber finds an uncorrectable cell: POISON is set in its metadata. -/
def State.poisonCell (s : State) (page : Nat) : State :=
  s.modMarl fun m =>
    { m with queues := m.queues.map fun q => (q.1, { q.2 with
        flows := q.2.flows.map fun f => (f.1, f.2.map fun c => if c.addr = page then { c with poison := true } else c) }) }

/-- R406, R405, R145, R147: the scrubber looks at one page. -/
def State.scrubPage (s : State) (region page : Nat) : State :=
  let onB := inCopyB region page
  let s := s.modRegion region fun r => r.tally onB fun k => { k with scrubPages := k.scrubPages + 1 }
  match s.readPage region page with
  | .clean => s.modRegion region fun r => { r with backOnce := r.backOnce.filter (· ≠ page) }
  | .corrected =>
    let s := s.noteCorrected region page
    let s := s.modRegion region fun r =>
      { (r.fix page).tally onB fun k => { k with scrubCe := k.scrubCe + 1 } with backOnce := page :: r.backOnce.filter (· ≠ page) }
    if region = 0 then s.bankError (pageBank 0 page) false else s
  | .uncorrectable =>
    let s := s.modRegion region fun r => r.tally onB fun k => { k with scrubUe := k.scrubUe + 1 }
    if region = 0 then
      let s := if s.marlFree page then s.modRegion 0 (·.fix page) else s.poisonCell page
      s.bankError (pageBank 0 page) true
    else s

/-- R376, R406: the page lies in a domain that is off. -/
def State.pageOff (s : State) (region page : Nat) : Bool :=
  match pageDomain region page with
  | some d => s.domainOff d
  | none => false

/-- SCRUB_STEP (R406): one page per scrub period; `upset` names the positions of it that have turned over. In a domain that is off nothing is scrubbed. -/
def execScrubStep (region : Fin 5) (upset : List Nat) (s : State) : Result :=
  let r := s.region region
  let page := r.scrubAt
  if r.period = 0 || s.pageOff region page then .next s
  else
    let s := (s.upsetPage region page upset).scrubPage region page
    .next (s.modRegion region fun r => { r with scrubAt := (page + 1) % regionPages region })

/-- CONVERSION_STEP (R401): one page re-encoded under the new t; an uncorrectable one keeps the old t, except a free Marl page. In a domain that is off the pass stands still. -/
def execConversionStep (region : Fin 5) (upset : List Nat) (s : State) : Result :=
  let r := s.region region
  let page := r.convAt
  if !r.converting || s.pageOff region page then .next s
  else
    let s := s.upsetPage region page upset
    let s := match s.readPage region page with
      | .uncorrectable =>
        let keep := !(region.val = 0 && s.marlFree page)
        s.modRegion region fun r =>
          (if keep then { r with keepsOld := Tab.insert page (r.pageT page) r.keepsOld } else r.fix page).tally
            (inCopyB region page) fun k => { k with ue := k.ue + 1 }
      | _ => s.modRegion region (·.fix page)
    .next (s.modRegion region fun r =>
      if page + 1 < regionPages region then { r with convAt := page + 1 }
      else { r with convAt := 0, converting := false, tOld := r.t })

/-- WRITE_BACK (R403): a waiting write-back is made and counted, in a domain that is on. DESIGN CHOICE, log entry 168. -/
def execWriteBack (region : Fin 5) (page : Nat) (s : State) : Result :=
  let r := s.region region
  if r.backs.contains page && !s.pageOff region page then
    .next (s.modRegion region fun r =>
      { (r.fix page).tally (inCopyB region page) fun k => { k with writeBack := k.writeBack + 1 } with
        backs := r.backs.filter (· ≠ page), backOnce := page :: r.backOnce.filter (· ≠ page) })
  else .next s

def infoMemEccCfg : CmdInfo :=
  { opcode := 0x0907, fromO := true, fromM := true, fromI := true, locked := true, journal := true, len := 8 }

/-- R415: the MEM_ECC_CFG payload in force. -/
def State.eccValue (s : State) (region : Nat) : List Byte :=
  let r := s.region region
  toLe 1 region ++ toLe 1 r.t ++ toLe 1 (flag r.fly) ++ toLe 1 (if region = 0 then flag s.marl.retireAuto else 0) ++ toLe 4 r.period

/-- What the checks of MEM_ECC_CFG find (R401, R404, R406). -/
def checksMemEccCfg (c : Cmd) (s : State) : Checks :=
  let p := c.payload
  let region := byteAt p 0
  let t := byteAt p 1
  let r := s.region region
  { bad := firstBad [rangeField 0 1 0 4, rangeField 1 1 1 8, rangeField 2 1 0 1,
      rangeField 3 1 0 (if region = 0 then 1 else 0), rangeField 4 4 0 1000000] p
    refuse := failIf (r.converting && decide (t ≠ r.t)) .busy 0
    object := region, old := s.eccValue region, new := p.take 8 }

/-- MEM_ECC_CFG (R401, R404, R406). DESIGN CHOICE, log entry 168. -/
def execMemEccCfg (c : Cmd) (s : State) : Result :=
  let p := c.payload
  let region := byteAt p 0
  let t := byteAt p 1
  .next <| s.command infoMemEccCfg c (checksMemEccCfg c s) fun s =>
      let s := s.modRegion region fun r =>
        let r := { r with fly := decide (byteAt p 2 = 1), period := le p 4 4 }
        if t = r.t then r else { r with tOld := r.t, t := t, converting := true, convAt := 0 }
      (if region = 0 then s.modMarl fun m => { m with retireAuto := bitOf (byteAt p 3) 0 } else s).ok c 0x0907 []

def infoMemSoftRepair : CmdInfo :=
  { opcode := 0x0908, fromO := true, fromM := true, fromF := true, journal := true, len := 5 }

/-- What the checks of MEM_SOFT_REPAIR find (R408). -/
def checksMemSoftRepair (c : Cmd) (s : State) : Checks :=
  let p := c.payload
  let region := byteAt p 0
  let bank := byteAt p 1
  { bad := firstBad [rangeField 0 1 0 4, rangeField 1 1 0 (regionBanks region - 1),
      rangeField 2 2 0 (bankRows region bank - 1), rangeField 4 1 0 1] p
    refuse := failIf (s.freeSpare region bank).isNone .noResource 0
    object := region, old := [], new := p.take 5 }

/-- MEM_SOFT_REPAIR (R408): it completes when the copy ends; a bank with no free spare row also raises REPAIR_EXHAUSTED. -/
def execMemSoftRepair (c : Cmd) (s : State) : Result :=
  let p := c.payload
  let region := byteAt p 0
  let bank := byteAt p 1
  let row := le p 2 2
  let k := checksMemSoftRepair c s
  let s' := s.command infoMemSoftRepair c k fun s =>
    match s.freeSpare region bank with
    | some spare => s.startRepair region bank row spare (bitOf (byteAt p 4) 0) (some c)
    | none => s
  if firstFailure infoMemSoftRepair c s k = some (.noResource, 0) then .next (s'.alarmOccur 15 region false) else .next s'

/-- SOFT_REPAIR_DONE (R408): the redirect takes effect; errors that the decoder corrected in the copy are gone. -/
def execSoftRepairDone (region : Fin 5) (bank row : Nat) (s : State) : Result :=
  let r := s.region region
  match r.copying.find? fun x => decide (x.1 = bank) && decide (x.2.1 = row) with
  | some (_, _, spare, perm, cmd) =>
    let pages := (List.range 8).map fun i => rowPage region bank row + i
    let clean := pages.filter fun p => decide (s.readPage region p ≠ .uncorrectable)
    let s := s.modRegion region fun r =>
      { r.tally (inCopyB region (rowPage region bank row)) fun k => { k with repairsSoft := k.repairsSoft + 1 } with
               copying := r.copying.filter fun x => !(decide (x.1 = bank) && decide (x.2.1 = row))
               repairs := r.repairs ++ [(bank, row, spare)]
               errs := r.errs.filter fun e => !clean.contains e.1 }
    let s := if perm then s.modMem fun m => { m with queued := m.queued ++ [(region.val, bank, row, spare)] } else s
    .next (s.completeOpt cmd 0x0908 .ok 0 [])
  | none => .next s

/-! ## Fuses (R407, R410) -/

/-- R407: the 24 bits of a repair entry. PRESUMED, log entry 18. -/
def fuseFields (region bank row spare : Nat) : Nat := region + 8 * bank + 512 * row + 2 ^ 19 * spare

/-- R407: the check of an entry: the low 7 bits of the CRC-32C of its four bytes with check and VALID 0 (PRESUMED, log entry 18). -/
def fuseCheck (fields : Nat) : Nat := (crc32c (toLe 4 fields)).toNat % 128

/-- R407: a fuse entry; VALID is programmed last. -/
def fuseEntry (e : Nat × Nat × Nat × Nat) (valid : Bool) : BitVec 32 :=
  let f := fuseFields e.1 e.2.1 e.2.2.1 e.2.2.2
  BitVec.ofNat 32 (f + 2 ^ 24 * fuseCheck f + 2 ^ 31 * flag valid)

/-- R410: the fuse bits left in the repair map. -/
def State.fuseBitsLeft (s : State) : Nat := 32 * (128 - s.mem.fuseMap.length)

def infoFuseProgram : CmdInfo := { opcode := 0x0909, fromM := true, journal := true, len := 1 }

/-- What the checks of FUSE_PROGRAM find (R275, R410). DESIGN CHOICE, log entry 28. -/
def checksFuseProgram (c : Cmd) (s : State) : Checks :=
  { bad := firstBad [rangeField 0 1 1 1] c.payload
    refuse := firstSome [failIf (!(decide (1710 ≤ c.vfuse) && decide (c.vfuse ≤ 1890))) .denied 4,
      failIf s.mem.burning.isSome .denied 4,
      failIf (decide (128 < s.mem.fuseMap.length + s.mem.queued.length)) .noResource 0]
    object := 1, old := s.mem.fuseMap.flatMap fun e => toLe 4 e.toNat
    new := (s.mem.fuseMap ++ s.mem.queued.map fun e => fuseEntry e true).flatMap fun e => toLe 4 e.toNat }

/-- FUSE_PROGRAM (R275, R410): VFUSE from 1.71 to 1.89 V; entries are burned one at a time (FUSE_BURN_DONE). -/
def execFuseProgram (c : Cmd) (s : State) : Result :=
  .next <| s.command infoFuseProgram c (checksFuseProgram c s) fun s =>
      if s.mem.queued.isEmpty then s.ok c 0x0909 (toLe 2 s.fuseBitsLeft)
      else s.modMem fun m => { m with burning := some (c, m.queued) }

/-- FUSE_BURN_DONE (R410): a good read-back goes on to the next entry; a failure leaves VALID unset and completes MEDIA_ERROR. -/
def execFuseBurnDone (good : Bool) (s : State) : Result :=
  match s.mem.burning with
  | some (c, e :: rest) =>
    let s := s.modMem fun m => { m with fuseMap := m.fuseMap ++ [fuseEntry e good] }
    if good then
      let s := s.modMem fun m =>
        { m with queued := m.queued.filter (· ≠ e), repairsFused := m.repairsFused + 1
                 burning := if rest.isEmpty then none else some (c, rest) }
      .next (if rest.isEmpty then s.ok c 0x0909 (toLe 2 s.fuseBitsLeft) else s)
    else .next ((s.modMem fun m => { m with burning := none }).complete c 0x0909 .mediaError 0 [])
  | _ => .next s

def infoMemFlipMask : CmdInfo := { opcode := 0x090A, fromM := true, journal := true, len := 26 }

/-- R411: the mask positions of a payload. -/
def flipPositions (p : List Byte) : List Nat := (List.range 12).map fun k => le p (2 + 2 * k) 2

/-- What the checks of MEM_FLIP_MASK find (R411). -/
def checksMemFlipMask (c : Cmd) (s : State) : Checks :=
  let p := c.payload
  let region := byteAt p 0
  let r := s.region region
  let mask (l : List Nat) : List Byte := toLe 2 region ++ (List.range 12).flatMap fun k => toLe 2 (l.getD k 0xFFFF)
  { bad := firstBad (rangeField 0 1 0 4 :: (List.range 12).map fun k =>
      ⟨2 + 2 * k, 2, fun v => decide (v ≤ 1111) || decide (v = 0xFFFF)⟩) p
    object := region, old := if r.flipArmed then mask r.flip else [], new := p.take 26 }

/-- MEM_FLIP_MASK (R411): arms, or replaces, the one-shot mask. -/
def execMemFlipMask (c : Cmd) (s : State) : Result :=
  let p := c.payload
  let region := byteAt p 0
  .next <| s.command infoMemFlipMask c (checksMemFlipMask c s) fun s => (s.modRegion region fun r =>
      { r with flip := (flipPositions p).filter (· ≠ 0xFFFF), flipArmed := true }).ok c 0x090A []

/-! ## Firmware SRAM (R405) -/

/-- FW_SRAM_UE (R405, Table 16-3): on a fetch the core is FAULTED and its item waits for the page's rewrite; on a data load the item ends and its command completes MEDIA_ERROR. -/
def execFwSramUe (core : Fin 9) (page : Fin 32768) (fetch : Bool) (s : State) : Result :=
  let x := s.core core
  let s := (s.modRegion 2 fun r => r.tally false fun k => { k with ue := k.ue + 1 }).alarmOccur 11 page false
  if fetch then
    if x.state = .active || x.state = .draining then
      let waiting := ((s.mem.rewrites.find? (·.1 = page.val)).map Prod.snd).getD []
      let s := s.modMem fun m => { m with rewrites := Tab.insert page.val (waiting ++ x.item.toList) m.rewrites }
      .next (((s.stopCore core fun _ => none).faultCore core).faultInUpdate core)
    else .next s
  else match x.item with
    | some it =>
      let s := s.endItem core
      match it.serves with
      | some c =>
        match s.hosts.running.find? fun o => decide (o.route = c.route) && decide (o.tag = c.tag) && decide (o.gen = c.gen) with
        | some o => .next (s.complete c o.opcode .mediaError 0 [])
        | none => .next s
      | none => .next s
    | none => .next s

/-- FW_PAGE_REWRITE_DONE (R405): the page holds good firmware again and the items that wait go back to the heads of their lists; a page that fails again has its row soft-repaired and is written once more. -/
def execFwPageRewriteDone (page : Fin 32768) (good : Bool) (s : State) : Result :=
  match s.mem.rewrites.find? (·.1 = page.val) with
  | some (_, items) =>
    if good then
      let s := (s.modRegion 2 (·.fix page)).modMem fun m => { m with rewrites := Tab.erase page.val m.rewrites }
      .next (items.foldl State.requeueHead s)
    else .next (s.autoRepair 2 page)
  | none => .next s

end Sys2Proof.Machine
end

