-- ==== Sys2Proof/Machine/Marl.lean ====
section
/-! DEFINITION. Sys2Proof/Machine/Marl.lean: the cells, pools, queues, ageing and errors of the shared-memory switch ("Marl shared-memory switch"). A flow number is a TID below 8192, 8192 + n for TUN 0 of Jn, and 16384 and up for a SYS flow. -/

namespace Sys2Proof.Machine

/-! ## Queues (Table 5-7) -/

/-- The class queues of an egress attachment. -/
def egressQueues (agent : Nat) : Nat :=
  if 0x10 ≤ agent && agent ≤ 0x1B then 9
  else match agent with
    | 0 => 1
    | 1 => 2
    | 3 => 2
    | 4 => 2
    | 5 => 6
    | 7 => 1
    | _ => 0

/-- The queue that a class takes at an egress: DISP, SMPL, USB2, USB3, PCIE, NET, MGMT, SYS are codes 0 to 7; a USB class has a periodic and an asynchronous queue (R131). -/
def queueOf (agent cls : Nat) (periodic : Bool) : Option Nat :=
  if 0x10 ≤ agent && agent ≤ 0x1B then
    match cls with
    | 0 => some 0
    | 1 => some 1
    | 2 => some (if periodic then 2 else 3)
    | 3 => some (if periodic then 4 else 5)
    | 4 => some 6
    | 5 => some 7
    | 6 => some 8
    | _ => none
  else match agent, cls with
    | 3, 4 => some 0
    | 3, 7 => some 1
    | 4, 4 => some 0
    | 4, 7 => some 1
    | 5, 1 => some 0
    | 5, 2 => some (if periodic then 1 else 3)
    | 5, 3 => some (if periodic then 2 else 4)
    | 5, 7 => some 5
    | 7, 5 => some 0
    | 1, 6 => some 0
    | 1, 7 => some 1
    | 0, 7 => some 0
    | _, _ => none

def State.egq (s : State) (agent q : Nat) : EgQueue := Tab.get {} s.marl.queues (agent * 16 + q)
def State.setEgq (s : State) (agent q : Nat) (v : EgQueue) : State :=
  s.modMarl fun m => { m with queues := Tab.set {} (agent * 16 + q) v m.queues }
def State.modEgq (s : State) (agent q : Nat) (f : EgQueue → EgQueue) : State := s.setEgq agent q (f (s.egq agent q))

/-- The cells of one flow FIFO. -/
def EgQueue.flow (x : EgQueue) (f : Nat) : List Cell := Tab.get [] x.flows f
/-- DEPTH. -/
def EgQueue.depth (x : EgQueue) : Nat := (x.flows.map fun e => e.2.length).sum

/-! ## Buffer pools (R133 to R135) -/

/-- The pool that a class draws on: MGMT and SYS draw on the reserve. -/
def poolOf (cls : Nat) : Nat := if cls ≤ 5 then cls else 7

def State.pool (s : State) (k : Nat) : Pool := Tab.get {} s.marl.pools k
def State.setPool (s : State) (k : Nat) (v : Pool) : State := s.modMarl fun m => { m with pools := Tab.set {} k v m.pools }

/-- The cells of the active banks that are powered (R126, R136). -/
def State.activeCells (s : State) : Nat := 8192 * ((s.banksIn .active).filter fun b => !s.bankOff b).length

/-- The shared size: what the carve leaves of 262,144 cells, less what retirement without a spare took (R149), or of the active banks while MARL_B is off (R126). -/
def State.sharedSize (s : State) : Nat := (if s.domainOff 2 then s.activeCells else 262144 - s.marl.sharedLost) - s.carve
/-- The use of shared space. -/
def State.sharedUsed (s : State) : Nat := (s.marl.pools.map fun e => e.2.shared).sum

/-- R134 steps 2 to 4: space for one cell of a class: from its pool, else from shared space, else none. -/
def State.takeSpace (s : State) (cls : Nat) : Option State :=
  let k := poolOf cls
  let p := s.pool k
  if p.used < p.min then
    some (s.setPool k { p with used := p.used + 1, peak := max p.peak (p.used + 1) })
  else if k ≠ 7 && s.sharedUsed < s.sharedSize && p.shared < p.shareMax then
    some ((s.setPool k { p with shared := p.shared + 1 }).modMarl fun m =>
      { m with sharedPeak := max m.sharedPeak (s.sharedUsed + 1) })
  else none

/-- Space for up to `n` cells; answers how many were found. -/
def State.takeSpaces : Nat → Nat → State → State × Nat
  | 0, _, s => (s, 0)
  | n + 1, cls, s =>
    match s.takeSpace cls with
    | some s' => let r := State.takeSpaces n cls s'; (r.1, r.2 + 1)
    | none => (s, 0)

/-- Space of one cell is freed: shared space first (DESIGN CHOICE, log entry 19). -/
def State.freeSpace (s : State) (cls : Nat) : State :=
  let k := poolOf cls
  let p := s.pool k
  if 0 < p.shared then s.setPool k { p with shared := p.shared - 1 }
  else s.setPool k { p with used := p.used - 1 }

/-- Space of `n` cells is freed. -/
def State.freeSpaces : Nat → Nat → State → State
  | 0, _, s => s
  | n + 1, cls, s => State.freeSpaces n cls (s.freeSpace cls)

/-! ## Placement and admission (R121, R122, R125) -/

/-- R125: the banks a cell for this queue may be written to, without and with the rule of the last 4 cells. -/
def State.placeable (s : State) (recent : List Nat) : List Nat :=
  let ok := (s.banksIn .active).filter fun b => decide ((s.bank b).fill < 8192) && !s.bankOff b
  let best := ok.filter fun b => !recent.contains b
  if best.isEmpty then ok else best

/-- R125: fewest entries in use; ties go to the lowest number after the bank chosen last. -/
def State.placeBank (s : State) (recent : List Nat) : Option Nat :=
  let c := s.placeable recent
  let order := (c.filter (s.marl.lastBank < ·)) ++ c.filter (· ≤ s.marl.lastBank)
  match (order.map fun b => (s.bank b).fill).min? with
  | some m => order.find? fun b => decide ((s.bank b).fill = m)
  | none => none

/-- The addresses of the cells that Marl holds. -/
def State.usedAddrs (s : State) : List Nat :=
  (s.marl.queues.map fun q => (q.2.flows.map fun f => f.2.map (·.addr)).flatten).flatten

/-- The lowest free row of a bank (the order of the free lists is the model's). DESIGN CHOICE, log entry 34. -/
def State.freeAddr (s : State) (bank : Nat) : Nat :=
  let used := s.usedAddrs
  let base := bank * 8192
  match (List.range (used.length + 1)).find? fun r => !used.contains (base + r) with
  | some r => base + r
  | none => base

/-- R121, R122: an admitted cell is written to bank `b` and enqueued. -/
def State.writeCell (s : State) (agent q flow b : Nat) (c : Cell) : State :=
  let x := s.egq agent q
  let c := { c with addr := s.freeAddr b }
  let s := (s.pageWritten 0 c.addr).modBank b fun y => { y with fill := y.fill + 1 }
  let x := { x with flows := Tab.set [] flow (x.flow flow ++ [c]) x.flows, enq := x.enq + 1, recent := (b :: x.recent).take 4 }
  let x := { x with peakDepth := max x.peakDepth x.depth }
  (s.setEgq agent q x).modMarl fun m => { m with lastBank := b }

/-- R125: the writes that wait go on, in their order, as far as banks take them. DESIGN CHOICE, log entry 152. -/
def State.writesGoOn : Nat → State → State
  | 0, s => s
  | n + 1, s =>
    match s.marl.writeBuf with
    | [] => s
    | (a, q, f, c) :: rest =>
      match s.placeBank (s.egq a q).recent with
      | none => s
      | some b => State.writesGoOn n ((s.modMarl fun m => { m with writeBuf := rest }).writeCell a q f b c)

/-- R125: every write that waits is tried. DESIGN CHOICE, log entry 152. -/
def State.flushWrites (s : State) : State := State.writesGoOn s.marl.writeBuf.length s

/-- R121, R122, R125: a cell with its space already set aside is admitted: it is written to a bank and enqueued, or waits in the ingress write buffer for a bank. DESIGN CHOICE, log entry 59. -/
def State.enqueueCell (s : State) (agent q flow : Nat) (c : Cell) : State :=
  let c := { c with flow := flow, arrival := s.now, stamp := s.now.setWidth 32 }
  match s.marl.writeBuf, s.placeBank (s.egq agent q).recent with
  | [], some b => s.writeCell agent q flow b c
  | w, _ => (s.modMarl fun m => { m with writeBuf := w ++ [(agent, q, flow, c)] }).flushWrites

/-- R134: a cell of a lossy ingress: QCAP, then space, else it is discarded and counted. -/
def State.admitLossy (s : State) (agent q flow : Nat) (c : Cell) : State :=
  let x := s.egq agent q
  if x.qcap ≤ x.depth then s.setEgq agent q { x with capDrop := x.capDrop + 1 }
  else match s.takeSpace c.cls with
    | some s' => s'.enqueueCell agent q flow c
    | none => (s.setEgq agent q { x with poolDrop := x.poolDrop + 1 }).event 0x183

/-- R133: a cell of a lossless ingress takes the space set aside with one crossing credit of its class; without one it is never offered. -/
def State.admitLossless (s : State) (from' agent q flow : Nat) (c : Cell) : State :=
  let key := from' * 8 + c.cls
  if Tab.get 0 s.marl.crossing key = 0 then s
  else (s.modMarl fun m => { m with crossing := Tab.mod 0 key (· - 1) m.crossing }).enqueueCell agent q flow c

/-- R22, R133, R134: a MGMT cell of the control cluster for port `p`: it goes with crossing credit held, or with space found for it now; without space it waits in the cluster, and so do those behind it. -/
def State.admitMgmt (s : State) (p : Nat) (c : Cell) : State :=
  let key := 1 * 8 + c.cls
  let wait := s.modCluster fun x => { x with mgmtOut := x.mgmtOut ++ [(p, c)] }
  if !s.cluster.mgmtOut.isEmpty then wait
  else if Tab.get 0 s.marl.crossing key ≠ 0 then s.admitLossless 1 (agentPort p) 8 (8192 + p) c
  else match s.takeSpace c.cls with
    | some s' => s'.enqueueCell (agentPort p) 8 (8192 + p) c
    | none => wait

/-- R133: the oldest MGMT cell that waits takes a crossing credit. -/
def State.mgmtGoesOn (s : State) : State :=
  match s.cluster.mgmtOut with
  | (p, c) :: rest =>
    if Tab.get 0 s.marl.crossing (1 * 8 + c.cls) = 0 then s
    else (s.modCluster fun x => { x with mgmtOut := rest }).admitLossless 1 (agentPort p) 8 (8192 + p) c
  | [] => s

/-! ## Head checks (R15, R137, R138) -/

/-- Table 5-9: age limit of a class in µs. -/
def State.ageLimit (s : State) : Nat → Nat
  | 0 => s.marl.ageDisp
  | 1 => s.marl.ageSmpl
  | 2 => s.marl.ageUsb2
  | 3 => s.marl.ageUsb3
  | 4 => s.marl.agePcie
  | 5 => s.marl.ageNet
  | 6 => s.marl.ageMgmt
  | _ => 65000

/-- R138: a cell's age in ns. -/
def State.age (s : State) (c : Cell) : Nat := ((s.now.setWidth 32 : BitVec 32) - c.stamp).toNat

def State.overAge (s : State) (c : Cell) : Bool := decide (1000 * s.ageLimit c.cls < s.age c)

/-- R15, R137: a tunnel cell of a generation other than the tunnel's. -/
def State.staleCell (s : State) (c : Cell) : Bool :=
  !c.sys && decide (c.flow < 8192) && decide (c.gen ≠ (s.tunnel c.flow).gen)

/-- Table 4-1: minimum credit of a class in flits. -/
def minCredit : Nat → Nat
  | 0 => 512
  | 1 => 32
  | 2 => 32
  | 3 => 64
  | 4 => 64
  | 5 => 96
  | _ => 16

/-- The port and TUN whose inbound cells a flow at a client egress holds, while that TUN is open. -/
def State.inboundTun (s : State) (agent flow : Nat) (c : Cell) : Option (Nat × Nat) :=
  if 16 ≤ agent || c.sys then none
  else if 8192 ≤ flow then (if (s.port (flow - 8192)).train.state = .active then some (flow - 8192, 0) else none)
  else
    let t := s.tunnel flow
    if t.gen = c.gen && (t.state = .opened || t.state = .orphan || t.state = .opening) then some (t.port, t.tun) else none

/-- R135: the space of a cell is freed; that of an open inbound tunnel goes back to what is held for it, up to the minimum credit with its grants and with the `queued` cells it still has. DESIGN CHOICE, log entry 152. -/
def State.freeCell (s : State) (agent flow queued : Nat) (c : Cell) : State :=
  match s.inboundTun agent flow c with
  | some (p, tun) =>
    let x := (s.port p).tun tun
    if (x.granted - x.recv).toNat + x.held + queued < minCredit c.cls then s.modPort p fun y => y.setTun tun { x with held := x.held + 1 }
    else s.freeSpace c.cls
  | none => s.freeSpace c.cls

/-- R104: the queue of a tunnel at a Jayth egress is empty: its deficit is cleared. -/
def State.clearDeficit (s : State) (agent flow : Nat) : State :=
  if 16 ≤ agent && flow < 8192 then s.modPort (agent - 16) fun y => y.modTun (s.tunnel flow).tun fun t => { t with deficit := 0 } else s

/-- The head cell of a flow leaves the queue: its bank and its space are freed, and a tunnel's deficit is cleared when its queue empties (R104). -/
def State.popHead (s : State) (agent q flow : Nat) : State :=
  let x := s.egq agent q
  match x.flow flow with
  | [] => s
  | c :: rest =>
    let s := ((s.setEgq agent q { x with flows := Tab.set [] flow rest x.flows }).modBank (c.addr / 8192)
      fun y => { y with fill := y.fill - 1 }).freeCell agent flow rest.length c
    if rest.isEmpty then s.clearDeficit agent flow else s

/-- R298: the channel configured on a block line. -/
def State.lineCh (s : State) (line : Nat) : Option Nat :=
  (s.xfer.chans.find? fun e => e.2.configured && decide (e.2.trigKind = 2) && decide (e.2.trigNum = line)).map Prod.fst

/-- R296: the block line that the SMPL tunnel of a flow names. -/
def State.lineOf (s : State) (flow : Nat) : Nat := (s.tunnel flow).clientRef.toNat % 128

/-- R298: after an AGE_DROP the rest of the block is not taken: XFER discards the flow's cells up to and including the next BL cell. DEDUCED, log entry 135. -/
def State.agedBlock (s : State) (agent flow : Nat) (c : Cell) : State :=
  if agent ≠ agentXfer || c.cls ≠ 1 then s
  else
    let s := s.modXfer fun x =>
      { x with dropFlows := if c.bl then x.dropFlows.filter (· ≠ flow) else if x.dropFlows.contains flow then x.dropFlows else x.dropFlows ++ [flow] }
    match s.lineCh (s.lineOf flow) with
    | some n => s.modCh n fun x => { x with landing := [], landPois := false }
    | none => s

/-- R298: XFER takes cells of a SMPL flow only for a channel configured on its line, while a landing slot is free, or to discard them. -/
def State.lineOpen (s : State) (flow : Nat) : Bool :=
  match s.lineCh (s.lineOf flow) with
  | none => false
  | some n =>
    let x := s.ch n
    let staged := (Tab.get [] s.marl.staging agentXfer).any fun c => decide (c.cls = 1) && decide (s.lineOf c.flow = s.lineOf flow)
    s.xfer.dropFlows.contains flow || (!staged && decide (x.landed.length + flag x.current.isSome < 2))

/-- A cell of a flow was discarded at the head: with a BL cell the unit it belongs to ends. -/
def EgQueue.dropped (x : EgQueue) (flow : Nat) (c : Cell) : EgQueue :=
  if c.bl then { x with begun := x.begun.filter (· ≠ flow), discarding := x.discarding.filter (· ≠ flow) } else x

/-- R137, R139: head cells over age or of a stale generation are discarded and counted, up to the first that is neither. -/
def State.cleanFlow (agent q flow : Nat) : Nat → State → State
  | 0, s => s
  | n + 1, s =>
    match (s.egq agent q).flow flow with
    | [] => s
    | c :: _ =>
      if s.staleCell c then
        State.cleanFlow agent q flow n ((s.popHead agent q flow).modEgq agent q fun x => { x.dropped flow c with genDrop := x.genDrop + 1 })
      else if s.overAge c then
        State.cleanFlow agent q flow n
          (((s.popHead agent q flow).modEgq agent q fun x => { x.dropped flow c with ageDrop := x.ageDrop + 1 }).agedBlock agent flow c)
      else s

/-- The head checks of one flow FIFO. -/
def State.checkHead (s : State) (agent q flow : Nat) : State :=
  State.cleanFlow agent q flow ((s.egq agent q).flow flow).length s

/-- R144: an uncorrectable link-memory entry loses the rest of its flow FIFO. DESIGN CHOICE, log entry 59. -/
def State.loseFlow (s : State) (agent q flow : Nat) : State :=
  let n := ((s.egq agent q).flow flow).length
  let s := (List.range n).foldl (fun s _ => s.popHead agent q flow) s
  let s := s.modEgq agent q fun x =>
    { x with eccDrop := x.eccDrop + BitVec.ofNat 64 n, begun := x.begun.filter (· ≠ flow), discarding := x.discarding.filter (· ≠ flow) }
  let s := s.modMarl fun m => { m with linkUe := m.linkUe + 1 }
  (s.alarmOccur 14 agent false).event 0x181

/-- R398: the data of a page as it reads with the positions inverted that are in error. -/
def asRead (errs : List Nat) (b : List Byte) : List Byte :=
  errs.foldl (fun b p => if p < 8 * b.length then b.modify (p / 8) fun v => v ^^^ BitVec.ofNat 8 (2 ^ (p % 8)) else b) b

/-- R142, R143, R145, Table 5-12: the head cell of a flow is read. `committed` tells that the egress has begun its unit; a cell admitted with POISON, or given it by the scrubber, counts as committed. Answers the cell, with POISON set when it must be delivered poisoned, its payload as read, or none when it is discarded. -/
def State.readHead (s : State) (agent q flow : Nat) (committed : Bool) : State × Option Cell :=
  match (s.egq agent q).flow flow with
  | [] => (s, none)
  | c :: _ =>
    let bank := c.addr / 8192
    let got := s.readPage 0 c.addr
    let errs := (s.region 0).pageErrs c.addr
    let s := if got = .corrected then
        (s.modRegion 0 fun r => r.tally false fun k => { k with ce := k.ce + 1 }).bankError bank false else s
    let s := if got = .uncorrectable then
        ((s.modRegion 0 fun r => r.tally false fun k => { k with ue := k.ue + 1 }).bankError bank true).event 0x180 else s
    let s := s.popHead agent q flow
    let x := s.egq agent q
    if x.discarding.contains flow then
      (s.setEgq agent q { x with eccDrop := x.eccDrop + 1
                                 discarding := if c.bl then x.discarding.filter (· ≠ flow) else x.discarding }, none)
    else if got = .uncorrectable && !committed && !c.poison then
      (s.setEgq agent q { x with eccDrop := x.eccDrop + 1
                                 discarding := if c.bl then x.discarding else flow :: x.discarding }, none)
    else if got = .uncorrectable || c.poison then
      (s.setEgq agent q { x with deq := x.deq + 1, poisonOut := x.poisonOut + 1 },
        some { c with poison := true, payload := if got = .uncorrectable then asRead errs c.payload else c.payload })
    else (s.setEgq agent q { x with deq := x.deq + 1 }, some c)

/-! ## Records (R85, R86, R97) -/

/-- One record: KIND, ERR, whether it touches a poisoned flit, and its body. -/
structure Record where
  kind : Nat
  err : Bool
  poison : Bool
  /-- arrival of the cell in which it began -/
  at' : Time
  body : List Byte

/-- The highest KIND of a class (Table 4-2). -/
def kindMax (cls : Nat) : Nat := if cls = 2 then 1 else 0

/-- R85: the bytes of a record with its padding, from its record word. -/
def recordSize (word : Nat) : Nat := 4 + (bits word 13 0 + 3) / 4 * 4

/-- R85: the records that begin in a flit from offset `off` of its payload; the rest of one that goes on is kept. -/
def parseRecords (cls : Nat) (poison : Bool) (at' : Time) (pl : List Byte) : Nat → Nat → Tun → Tun × List Record
  | 0, _, t => (t, [])
  | n + 1, off, t =>
    if 120 < off + 4 then (t, [])
    else
      let w := le pl off 4
      if bits w 13 0 = 0 then (t, [])
      else if 9232 < bits w 13 0 || kindMax cls < bits w 23 16 then
        ({ t with protoDrop := t.protoDrop + 1, recSkip := true }, [])
      else if off + recordSize w ≤ 120 then
        let r := parseRecords cls poison at' pl n (off + recordSize w) t
        (r.1, { kind := bits w 23 16, err := bitOf w 15, poison := poison, at' := at',
                body := (pl.drop (off + 4)).take (bits w 13 0) } :: r.2)
      else ({ t with recBuf := pl.drop off, recPoison := poison, recAt := at' }, [])

/-- R85, R97: one flit payload of a record class is taken; the records that end in it are answered. -/
def Tun.takeRecords (t : Tun) (cls : Nat) (poison : Bool) (at' : Time) (payload : List Byte) : Tun × List Record :=
  let pl := padTo 120 payload
  let cont := min (bits (le pl 0 2) 6 0) 116
  if t.recSkip && cont ≠ 0 then (t, [])
  else
    let t := { t with recSkip := false }
    if t.recBuf.isEmpty || cont = 0 then
      parseRecords cls poison at' pl 30 (4 + cont) { t with recBuf := [] }
    else
      let buf := t.recBuf ++ (pl.drop 4).take cont
      let w := le buf 0 4
      if recordSize w ≤ buf.length then
        let r := parseRecords cls poison at' pl 30 (4 + cont) { t with recBuf := [], recPoison := false }
        (r.1, { kind := bits w 23 16, err := bitOf w 15, poison := t.recPoison || poison, at' := t.recAt,
                body := (buf.drop 4).take (bits w 13 0) } :: r.2)
      else if cont = 116 then ({ t with recBuf := buf, recPoison := t.recPoison || poison }, [])
      else ({ t with recBuf := [], recSkip := true, protoDrop := t.protoDrop + 1 }, [])

/-- R85: the flit payloads of one record that begins a flit of its own: the first carries up to 116 bytes of it, and CONT of each later one what it continues. -/
def recordFlits : Nat → Bool → List Byte → List (List Byte)
  | 0, _, _ => []
  | n + 1, first, b =>
    if b.isEmpty then []
    else padTo 120 (toLe 4 (if first then 0 else min 116 b.length) ++ b.take 116) :: recordFlits n false (b.drop 116)

/-- R85: record word and padded body. -/
def recordBytes (kind : Nat) (body : List Byte) : List Byte :=
  toLe 4 (body.length + 65536 * kind) ++ padTo ((body.length + 3) / 4 * 4) body

/-- R97: a poisoned TLP with data goes on with EP=1. DEDUCED, log entry 113. -/
def poisonTlp (b : List Byte) : List Byte := putBytes b 2 [BitVec.ofNat 8 (byteAt b 2 ||| 0x40)]

/-- Table 5-12: a frame with its FCS inverted. -/
def invertFcs (b : List Byte) : List Byte := b.take (b.length - 4) ++ (b.drop (b.length - 4)).map (~~~ ·)

/-! ## Egress selection (R131, R132, R137) -/

/-- R132: cells a staging buffer holds. -/
def stagingSize (agent : Nat) : Nat :=
  if agent = 7 then 8 else if agent = 1 then 4 else if agent = 0 then 2 else 16

/-- The flows of a queue that may be served: a CLOSING tunnel's cells are not (Table 4-9). -/
def State.servable (s : State) (agent q : Nat) : List Nat :=
  (Tab.keys (s.egq agent q).flows).filter fun f =>
    !(decide (f < 8192) && (decide ((s.tunnel f).state = .closing)
      || (decide (agent = agentXfer) && decide ((s.tunnel f).cls = 1) && !s.lineOpen f)))

/-- Round-robin: the first of a rising list after `last`, else the first. -/
def rrNext (l : List Nat) (last : Nat) : Option Nat :=
  match l.find? (last < ·) with
  | some x => some x
  | none => l.head?

/-- R131: the queues of an egress in the order they are looked at now: strict, but round-robin at a host port. -/
def State.queueOrder (s : State) (agent : Nat) : List Nat :=
  if agent = 3 || agent = 4 then
    if Tab.get 1 s.marl.rrQ agent = 0 then [1, 0] else [0, 1]
  else List.range (egressQueues agent)

/-- R131: a unit begun of a flow goes on: cells of it wait, or may still come. -/
def State.unitLives (s : State) (agent q flow : Nat) : Bool :=
  (s.servable agent q).contains flow || decide (8192 ≤ flow) || decide ((s.tunnel flow).state = .opened)

/-- R131: the queue and flow an egress serves next: a unit it has begun, whose next cell it awaits, else the first queue with cells, its flows round-robin. -/
def State.pickUnit (s : State) (agent : Nat) : Option (Nat × Nat) :=
  let qs := List.range (egressQueues agent)
  match qs.findSome? fun q => ((s.egq agent q).begun.find? fun f => s.unitLives agent q f).map fun f => (q, f) with
  | some (q, f) => if (s.servable agent q).contains f then some (q, f) else none
  | none => (s.queueOrder agent).findSome? fun q => (rrNext (s.servable agent q) (s.egq agent q).rr).map fun f => (q, f)

/-- The unit a cell belongs to is begun, or ends with it. -/
def EgQueue.unit (x : EgQueue) (flow : Nat) (bl : Bool) : EgQueue :=
  if bl then { x with begun := x.begun.filter (· ≠ flow), rr := flow }
  else { x with begun := if x.begun.contains flow then x.begun else flow :: x.begun }

/-- R86, R97: a record that has ended at a host port or NET leaves the AX1224. `out` puts a good body on its way. -/
def Tun.count (t : Tun) (r : Record) : Tun :=
  if r.err then { t with recErr := t.recErr + 1 } else if r.poison then { t with poisonDrop := t.poisonDrop + 1 } else t

/-- A TLP record at host port `h` (R97, Table 5-12). DEDUCED, log entry 113. -/
def State.tlpOut (s : State) (h : Nat) (r : Record) : State :=
  if r.err then s
  else if r.poison then
    if bitOf (byteAt r.body 0) 6 then s.send (.tlp h (poisonTlp r.body)) else s
  else s.send (.tlp h r.body)

/-- The cell of a record class is taken by its client: the tunnel's records that end in it go on by `out`. -/
def State.takeCell (s : State) (c : Cell) (out : State → Record → State) : State :=
  let t := s.tunnel c.flow
  let x := (s.port t.port).tun t.tun
  let (x, rs) := x.takeRecords c.cls c.poison c.arrival c.payload
  let x := rs.foldl Tun.count x
  rs.foldl out (s.modPort t.port fun p => p.setTun t.tun x)

/-- A cell of TUN 0 reaches the control cluster: its message enters the port's receive FIFO, and MGMT_RX rises; a poisoned one is discarded (R97). -/
def State.mgmtArrives (s : State) (port : Nat) (c : Cell) : State :=
  if c.poison then s
  else
    let p := c.payload
    let m : MgmtMsg := { msg := byteAt p 0, xid := BitVec.ofNat 16 (le p 2 2), body := (padTo 112 (p.drop 8)).take (le p 4 2) }
    (s.modPort port fun x => { x with mgmtRx := x.mgmtRx ++ [m] }).level (evPort port 9) true

end Sys2Proof.Machine
end

