-- ==== Sys2Proof/Machine/Net.lean ====
section
/-! DEFINITION. Sys2Proof/Machine/Net.lean: Ethernet frames as the NET island looks at them: VLAN tag, FCS, and the one-step transparent clock (R349 to R351). -/

namespace Sys2Proof.Machine

/-- The big-endian number of `n` bytes of a frame at offset `off`. -/
def be (f : List Byte) (off n : Nat) : Nat := beNat ((f.drop off).take n)

/-- R350: the VID of a frame with an 802.1Q tag; none for an untagged or priority-tagged one. -/
def frameVid (f : List Byte) : Option Nat :=
  if be f 12 2 = 0x8100 && be f 14 2 % 4096 ≠ 0 then some (be f 14 2 % 4096) else none

/-- The FCS that belongs to a frame without one. -/
def frameFcs (f : List Byte) : List Byte := toLe 4 (crc32 f).toNat

/-- R349: the FCS of a frame is right. -/
def fcsOk (f : List Byte) : Bool := decide (frameFcs (f.take (f.length - 4)) = f.drop (f.length - 4))

/-- R351: the offset of the PTP header of an event message in an enabled encapsulation (bit 0 UDP/IPv4, bit 1 Ethernet), and the offset of the UDP checksum. -/
def ptpAt (enc : Nat) (f : List Byte) : Option (Nat × Option Nat) :=
  let t := if be f 12 2 = 0x8100 then 16 else 12
  let event (o : Nat) : Bool := decide (be f o 1 % 16 ≤ 1)
  if be f t 2 = 0x88F7 then
    if bitOf enc 1 && event (t + 2) then some (t + 2, none) else none
  else if be f t 2 = 0x0800 && be f (t + 11) 1 = 17 then
    let u := t + 2 + 4 * (be f (t + 2) 1 % 16)
    if bitOf enc 0 && be f (u + 2) 2 = 319 && event (u + 8) then some (u + 8, some (u + 6)) else none
  else none

/-- R351: the residence (in 2^-16 ns) is added to correctionField, the UDP checksum set to 0 and the FCS recomputed. DEDUCED, log entry 105. -/
def ptpCorrect (enc : Nat) (residence : Nat) (f : List Byte) : List Byte :=
  match ptpAt enc f with
  | none => f
  | some (o, ck) =>
    let g := putBytes f (o + 8) (toBe 8 (be f (o + 8) 8 + residence))
    let g := match ck with
      | some k => putBytes g k [0, 0]
      | none => g
    let g := g.take (g.length - 4)
    g ++ frameFcs g

end Sys2Proof.Machine
end

