-- ==== Sys2Proof/Machine/Switch.lean ====
section
/-! DEFINITION. Sys2Proof/Machine/Switch.lean: the Marl commands and events: configuration, admission, egress selection and the sweeper. -/

namespace Sys2Proof.Machine

/-! ## Commands (R136, Table 10-10) -/

def infoMarlPoolCfg : CmdInfo :=
  { opcode := 0x0103, fromO := true, fromM := true, fromI := true, locked := true, journal := true, len := 12 }

/-- R135: what the open inbound tunnels of a class hold as their minimum credit; with code 7, what TUN 0 of each ACTIVE link holds from the reserve. -/
def State.heldMin (s : State) (cls : Nat) : Nat :=
  if cls = 7 then minCredit 6 * (s.ports.filter fun e => decide (e.2.train.state = .active)).length
  else minCredit cls * (s.tunnels.filter fun e => decide (e.2.cls = cls) && e.2.dirs.getLsbD 1
    && (decide (e.2.state = .opened) || decide (e.2.state = .opening) || decide (e.2.state = .orphan))).length

/-- R136: with these pools and `cells` cells of active banks, every class can hold the minimum credit of its open inbound tunnels: from its pool, and what that does not reach from shared space. -/
def State.carveHolds (s : State) (pools : List (Nat × Pool)) (cells : Nat) : Bool :=
  let short (k : Nat) : Nat := s.heldMin k - (Tab.get {} pools k).min
  ((List.range 6).all fun k => decide (short k ≤ (Tab.get {} pools k).shareMax)) && decide (short 7 = 0)
    && decide (((List.range 6).map short).sum ≤ cells - (pools.map fun e => e.2.min).sum)

/-- R415: canonical value of a pool. -/
def State.poolValue (s : State) (k : Nat) : List Byte :=
  toLe 4 k ++ toLe 4 (s.pool k).min ++ toLe 4 (s.pool k).shareMax

/-- What the checks of MARL_POOL_CFG find (R136). -/
def checksMarlPoolCfg (c : Cmd) (s : State) : Checks :=
  let p := c.payload
  let k := byteAt p 0
  let v := le p 4 4
  let sh := le p 8 4
  let pools := Tab.set {} k { s.pool k with min := v, shareMax := sh } s.marl.pools
  let carve := (pools.map fun e => e.2.min).sum
  { bad := firstBad [⟨0, 1, fun x => decide (x ≤ 5) || decide (x = 7)⟩, anyField 4 4, ⟨8, 4, fun x => decide (k ≠ 7) || decide (x = 0)⟩] p
    refuse := failIf (decide (s.activeCells < carve) || !s.carveHolds pools s.activeCells) .noResource 0
    object := k, old := s.poolValue k, new := toLe 4 k ++ toLe 4 v ++ toLe 4 sh }

/-- MARL_POOL_CFG (R136). -/
def execMarlPoolCfg (c : Cmd) (s : State) : Result :=
  let p := c.payload
  let k := byteAt p 0
  let v := le p 4 4
  let sh := le p 8 4
  let pools := Tab.set {} k { s.pool k with min := v, shareMax := sh } s.marl.pools
  .next (s.command infoMarlPoolCfg c (checksMarlPoolCfg c s) fun s =>
      let s := s.modMarl fun m => { m with pools := pools }
      s.ok c 0x0103 (toLe 4 s.sharedSize))

def infoMarlQueueCfg : CmdInfo :=
  { opcode := 0x0104, fromO := true, fromM := true, fromI := true, locked := true, journal := true, len := 8 }

/-- R131: the class queues that a class code names at an egress. -/
def queuesNamed (agent cls : Nat) : List Nat :=
  [queueOf agent cls true, queueOf agent cls false].filterMap id

/-- What the checks of MARL_QUEUE_CFG find (R131, R134). -/
def checksMarlQueueCfg (c : Cmd) (s : State) : Checks :=
  let p := c.payload
  let a := byteAt p 0
  let k := byteAt p 1
  let cap := le p 4 4
  let old := match queueOf a k true with
    | some q => (s.egq a q).qcap
    | none => 0
  { bad := firstBad [⟨0, 1, fun x => decide (egressQueues x ≠ 0)⟩, ⟨1, 1, fun x => !(queuesNamed a x).isEmpty⟩,
      rangeField 4 4 64 262144] p
    object := a, old := padTo 4 (toLe 1 a ++ toLe 1 k) ++ toLe 4 old
    new := padTo 4 (toLe 1 a ++ toLe 1 k) ++ toLe 4 cap }

/-- MARL_QUEUE_CFG (R131, R134): QCAP of a class queue, or of both queues of a USB class. -/
def execMarlQueueCfg (c : Cmd) (s : State) : Result :=
  let p := c.payload
  let a := byteAt p 0
  let k := byteAt p 1
  let cap := le p 4 4
  .next (s.command infoMarlQueueCfg c (checksMarlQueueCfg c s) fun s => ((queuesNamed a k).foldl (fun s q => s.modEgq a q fun x => { x with qcap := cap }) s).ok c 0x0104 [])

def infoMarlAgeCfg : CmdInfo :=
  { opcode := 0x0105, fromO := true, fromM := true, fromI := true, locked := true, journal := true, len := 12 }

/-- R137: the age limit of a class is set; that of SYS is fixed. -/
def Marl.setAge (m : Marl) (cls us : Nat) : Marl :=
  match cls with
  | 0 => { m with ageDisp := us }
  | 1 => { m with ageSmpl := us }
  | 2 => { m with ageUsb2 := us }
  | 3 => { m with ageUsb3 := us }
  | 4 => { m with agePcie := us }
  | 5 => { m with ageNet := us }
  | 6 => { m with ageMgmt := us }
  | _ => m

/-- R415: canonical value of an age limit and the sweep round. -/
def ageValue (cls us sweep : Nat) : List Byte := toLe 4 cls ++ toLe 4 us ++ toLe 4 sweep

/-- What the checks of MARL_AGE_CFG find (R137, R139). DEDUCED, log entry 58. -/
def checksMarlAgeCfg (c : Cmd) (s : State) : Checks :=
  let p := c.payload
  let k := byteAt p 0
  let us := le p 4 4
  let sweep := if le p 8 4 = 0 then s.marl.sweepUs else le p 8 4
  let age (us : Nat) := if k = 0xFF then 0 else us
  { bad := firstBad [⟨0, 1, fun x => decide (x ≤ 6) || decide (x = 0xFF)⟩,
      ⟨4, 4, fun x => decide (k = 0xFF) || (decide (1 ≤ x) && decide (x ≤ 65000))⟩,
      ⟨8, 4, fun x => decide (x = 0) || (decide (100 ≤ x) && decide (x ≤ 1000))⟩] p
    object := k, old := ageValue k (age (s.ageLimit k)) s.marl.sweepUs, new := ageValue k (age us) sweep }

/-- MARL_AGE_CFG (R137, R139): a class age limit, or with 0xFF the sweep round only. DEDUCED, log entry 58. -/
def execMarlAgeCfg (c : Cmd) (s : State) : Result :=
  let p := c.payload
  let k := byteAt p 0
  let us := le p 4 4
  let sweep := if le p 8 4 = 0 then s.marl.sweepUs else le p 8 4
  .next (s.command infoMarlAgeCfg c (checksMarlAgeCfg c s) fun s => (s.modMarl fun m => { (if k = 0xFF then m else m.setAge k us) with sweepUs := sweep }).ok c 0x0105 [])

/-! ## Admission -/

/-- The client that an outbound tunnel's cells come from (Table 4-1). -/
def Tunnel.client (t : Tunnel) : Nat :=
  match t.cls with
  | 0 => agentDisp
  | 4 => agentHp (bits t.clientRef.toNat 0 0)
  | 5 => agentNet
  | 6 => agentCtrl
  | _ => agentXfer

/-- R114: a cell of an ORPHAN tunnel from its client is discarded and counted. -/
def State.orphanDrop (s : State) (t : Tunnel) : State :=
  s.modPort t.port fun p => p.modTun t.tun fun x => { x with orphanDrop := x.orphanDrop + 1 }

/-- R122, R133, R134: a cell of a client for an outbound tunnel: dropped while the tunnel is ORPHAN, refused when it is not OPEN, else admitted by the rule of its ingress. Answers whether it was dropped because the tunnel is not open. -/
def State.clientCell (s : State) (tid : Nat) (bl poison : Bool) (payload : List Byte) : State :=
  let t := s.tunnel tid
  let c : Cell := { gen := t.gen, poison := poison, bl := bl, cls := t.cls, payload := padTo 120 payload }
  match queueOf (agentPort t.port) t.cls t.periodic with
  | none => s
  | some q =>
    if t.state = .orphan then s.orphanDrop t
    else if t.state = .opened then
      if t.client = agentDisp || t.client = agentNet then s.admitLossy (agentPort t.port) q tid c
      else s.admitLossless t.client (agentPort t.port) q tid c
    else s

/-- The egress of a SYS flow of an ingress (R122, Table 5-7): host-memory traffic of XFER, the control cluster and Loam goes to the host ports, theirs to XFER, the control cluster or Loam, by its internal flow number. DESIGN CHOICE, log entry 153. -/
def sysEgress (agent flow : Nat) : Nat :=
  if agent = 3 || agent = 4 then [agentXfer, agentCtrl, agentLoam].getD (flow % 3) agentXfer
  else agentHp (flow % 2)

/-- CELL_ADMIT (R23, R121, R122, R125, R133): a client offers a cell, of the tunnel `flow` that it serves, or of a SYS flow from 16384 up. While Marl is off its crossing withholds credit. DESIGN CHOICE, log entry 153. -/
def execCellAdmit (agent : BitVec 8) (flow : Nat) (bl poison : Bool) (payload : List Byte) (s : State) : Result :=
  let a := agent.toNat
  .next (
    if s.domainOff 1 then s
    else if flow < 8192 then
      if (s.tunnel flow).client = a && (s.tunnel flow).dirs.getLsbD 0 then s.clientCell flow bl poison payload else s
    else if 16384 ≤ flow then
      match queueOf (sysEgress a flow) 7 false with
      | some q => s.admitLossless a (sysEgress a flow) q flow
          { sys := true, poison := poison, bl := bl, cls := 7, payload := padTo 120 payload }
      | none => s
    else s)

/-! ## Egress selection at the client attachments -/

/-- R143, R349, R350, R351: a frame record at its Ethernet port; one that touches a poisoned cell leaves with its FCS inverted. DEDUCED, log entry 113. -/
def State.frameOut (s : State) (tid : Nat) (r : Record) : State :=
  let t := s.tunnel tid
  let n := bits t.clientRef.toNat 13 12
  let x := s.netPort n
  if r.err then s
  else if frameVid r.body ≠ some (bits t.clientRef.toNat 11 0) then
    s.modNet n fun y => { y with vidMismatch := y.vidMismatch + 1 }
  else if r.poison then s.send (.frame n (invertFcs r.body))
  else if !fcsOk r.body then s.modNet n fun y => { y with fcsDrop := y.fcsDrop + 1 }
  else if x.ptpEvents then
    let residence := (s.now - r.at').toNat * 65536 + (s.port t.port).time.pathDelay * 4096
    s.send (.frame n (ptpCorrect x.ptpEnc residence r.body))
  else s.send (.frame n r.body)

/-- R92, R298: a cell of a block line; the first of a block ends what a lost block left behind. It is discarded after an AGE_DROP, landed in the free slot, or, the BL cell, staged for its landing (BLOCK_LANDED). DEDUCED, log entry 113. -/
def State.landCell (s : State) (c : Cell) : State :=
  match s.lineCh (s.lineOf c.flow) with
  | none => s
  | some n =>
    let s := if c.first then s.modCh n fun x => { x with landing := [], landPois := false } else s
    if s.xfer.dropFlows.contains c.flow then
      let s := s.modCh n fun x => { x with blockDrop := x.blockDrop + 1 }
      if c.bl then s.modXfer fun x => { x with dropFlows := x.dropFlows.filter (· ≠ c.flow) } else s
    else if c.bl then s.modMarl fun m => { m with staging := Tab.mod [] agentXfer (· ++ [c]) m.staging }
    else s.modCh n fun x => { x with landing := x.landing ++ c.payload, landPois := x.landPois || c.poison }

/-- R131, R202, Table 5-12: what a client does with a cell that leaves its staging buffer; for NOVIDEO a DisplayPort port sends the idle pattern. -/
def State.deliverCell (s : State) (agent : Nat) (c : Cell) : State :=
  if agent = agentXfer then
    if c.cls = 1 then s.landCell c
    else if c.cls = 2 || c.cls = 3 then s.modMarl fun m => { m with staging := Tab.mod [] agent (· ++ [c]) m.staging }
    else s.send (.cell agent c.payload)
  else if agent = agentHp 0 || agent = agentHp 1 then
    if c.cls = 4 then s.takeCell c fun s r => s.tlpOut (agent - 3) r else s.send (.cell agent c.payload)
  else if agent = agentNet then s.takeCell c fun s r => s.frameOut c.flow r
  else if agent = agentCtrl && c.cls = 6 then s.mgmtArrives (c.flow - 8192) c
  else if 0x10 ≤ agent && agent ≤ 0x1B && c.cls = 0 && byteAt c.payload 0 = 4 then s.send (.dpIdle (agent - 0x10))
  else s.send (.cell agent c.payload)

/-- R132: the attachment takes cells from its staging buffer: a host port while its link can carry requests, every other client at once. DESIGN CHOICE, log entry 154. -/
def State.egressTakes (s : State) (agent : Nat) : Bool :=
  if agent = agentHp 0 || agent = agentHp 1 then decide ((s.hp (agent - 3)).power = .d0) else true

/-- R132: the staging buffer of a client goes on to the client, oldest cell first; that of XFER is taken by what its engines do. DESIGN CHOICE, log entry 154. -/
def State.drainStaging (s : State) (agent : Nat) : State :=
  if agent = agentXfer || !s.egressTakes agent then s
  else
    let l := Tab.get [] s.marl.staging agent
    l.foldl (fun s c => s.deliverCell agent c) (s.modMarl fun m => { m with staging := Tab.erase agent m.staging })

/-- R132: a cell that has been read enters the staging buffer of its egress. -/
def State.stageCell (s : State) (agent : Nat) (c : Cell) : State :=
  if agent = agentXfer then s.deliverCell agent c
  else (s.modMarl fun m => { m with staging := Tab.mod [] agent (· ++ [c]) m.staging }).drainStaging agent

/-- R131, R132, R137, R142 to R144: a client egress selects the head cell of a flow; it is checked, then read into the staging buffer or discarded. -/
def State.selectCell (s : State) (agent : Nat) (linkUe : Bool) : State :=
  match s.pickUnit agent with
  | none => s
  | some (q, f) =>
    if linkUe then s.loseFlow agent q f
    else
      let s := s.checkHead agent q f
      let begun := (s.egq agent q).begun.contains f
      match (s.egq agent q).flow f with
      | [] => s
      | h :: _ =>
        let ctrl := agent = agentCtrl || agent = agentLoam
        let r := s.readHead agent q f (begun && !ctrl)
        match r.2 with
        | some c =>
          let s := r.1.modEgq agent q fun x => x.unit f c.bl
          let s := if c.bl then s.modMarl fun m => { m with rrQ := Tab.set 1 agent q m.rrQ } else s
          s.stageCell agent c
        | none => r.1.modEgq agent q fun x => if h.bl then x.unit f true else x

/-- The island of an agent is powered and not in reset, so its crossing grants credit (R22, R23, Table 5-10); so is Marl. -/
def State.agentPowered (s : State) (agent : Nat) : Bool :=
  !s.domainOff 1 && match agent with
  | 0 => true
  | 1 => !s.domainOff 0
  | 3 => !s.domainOff 7 && s.hosts.hp0.linkUp && !s.hosts.hp0.lost
  | 4 => !s.domainOff 7 && s.hosts.hp1.linkUp && !s.hosts.hp1.lost
  | 5 => !s.domainOff 8
  | 6 => !s.domainOff 9
  | 7 => !s.domainOff 10
  | a => !s.domainOff (3 + (a - 0x10) / 3)

/-- SWEEP_ROUND (R125, R139): every non-empty flow FIFO is visited once; the writes that wait find the banks freed. -/
def execSweepRound (s : State) : Result :=
  let fifos := (s.marl.queues.map fun e => (Tab.keys e.2.flows).map fun f => (e.1, f)).flatten
  let s := fifos.foldl (fun s e => s.checkHead (e.1 / 16) (e.1 % 16) e.2) s
  .next (s.modMarl fun m => { m with sweepRounds := m.sweepRounds + 1 }).flushWrites

/-- Table 5-10: the egress queues of an attachment are flushed at once, counted in FLUSH_DROP, and the space held for its ingress is released. -/
def State.flushAgent (s : State) (agent : Nat) : State :=
  let qs := (s.marl.queues.filter fun e => decide (e.1 / 16 = agent)).map fun e => (e.1 % 16, e.2)
  let s := qs.foldl (fun s e =>
    let s := e.2.flows.foldl (fun s f => (List.range f.2.length).foldl (fun s _ => s.popHead agent e.1 f.1) s) s
    s.modEgq agent e.1 fun x => { x with flushDrop := x.flushDrop + BitVec.ofNat 64 e.2.depth, discarding := [], begun := [] }) s
  let staged := Tab.get [] s.marl.staging agent
  let s := staged.foldl (fun s c => s.modEgq agent ((queueOf agent c.cls false).getD 0) fun x => { x with flushDrop := x.flushDrop + 1 }) s
  let s := s.modMarl fun m => { m with staging := Tab.erase agent m.staging }
  let waiting := s.marl.writeBuf.filter fun e => decide (e.1 = agent)
  let s := waiting.foldl (fun s e => (s.freeSpace e.2.2.2.cls).modEgq agent e.2.1 fun x => { x with flushDrop := x.flushDrop + 1 }) s
  let s := s.modMarl fun m => { m with writeBuf := m.writeBuf.filter fun e => decide (e.1 ≠ agent) }
  let s := (List.range 8).foldl (fun s cls => State.freeSpaces (Tab.get 0 s.marl.crossing (agent * 8 + cls)) cls s) s
  s.modMarl fun m => { m with crossing := m.crossing.filter fun e => decide (e.1 / 8 ≠ agent) }

end Sys2Proof.Machine
end

