-- ==== Sys2Proof/Machine/Root.lean ====
section
/-! DEFINITION. Sys2Proof/Machine/Root.lean: endpoints and roots of the USB host engine as every event sees them: completions of an engine ring, how endpoints stop, root notices, and a root whose link or tunnels go (R165, R174, R179 to R181). -/

namespace Sys2Proof.Machine

/-! ## Completions of an engine (R165, R249, R317) -/

/-- R249: a completion of an engine job goes to the holding store of its CQ, and gives up the job's slot. -/
def State.enginePush (s : State) (h sl q : Nat) (e : CqEntry) (slot : Bool) : State :=
  s.modQp h sl q fun x => Qp.settle { x with held := x.held ++ [e], slots := if slot then x.slots - 1 else x.slots } s.now

/-- R317: work of an older generation has its completion discarded and counted. -/
def State.enginePost (s : State) (h sl q : Nat) (e : CqEntry) (slot : Bool) : State :=
  if e.gen = (s.slice h sl).gen then s.enginePush h sl q e slot
  else s.modSlice h sl fun x => { x with staleGen := x.staleGen + 1 }

/-- R249: a source bound to the CQ may start a job: the pair is in use and a holding slot is free. -/
def State.slotFree (s : State) (h sl q : Nat) : Bool :=
  let x := s.qp h sl q
  decide (x.state = .active) && decide (x.waiting + x.slots < 16)

/-- R249: a job takes a holding slot. -/
def State.takeSlot (s : State) (h sl q : Nat) : State :=
  s.modQp h sl q fun x => Qp.settle { x with slots := x.slots + 1 } s.now

/-! ## Endpoint rings (R162, R165, R174) -/

/-- The indices of a ring run modulo twice its size (R235). -/
def Ep.span (x : Ep) : Nat := 2 ^ (x.ringLog2 + 1)
/-- The TDs between the consumer and the producer index. -/
def Ep.used (x : Ep) : Nat := (x.prod + x.span - x.cons % x.span) % x.span

/-- Table 6-6: the result area of a USB completion. -/
def usbResult (e idx bytes xcode : Nat) (short : Bool) (cycle : BitVec 32) : List Byte :=
  toLe 2 e ++ toLe 2 idx ++ toLe 4 bytes ++ toLe 1 xcode ++ toLe 1 (flag short) ++ toLe 2 0 ++ toLe 4 cycle.toNat

/-- R165: the CYCLE of a completion whose chain has run no transaction: a free value. DESIGN CHOICE, log entry 157. -/
def State.noCycle (s : State) : BitVec 32 := Config.noCycle s.freeCtr

/-- IDLE with nothing in the ring, else ACTIVE. -/
def Ep.restState (x : Ep) : EpState := if x.used = 0 then .idle else .active

/-- R165: the chain in progress ends: one completion, the consumer index moves past its LAST TD. -/
def State.endChain (s : State) (e : Nat) (st : Status) (xcode : Nat) (short : Bool) : State :=
  let x := s.ep e
  match x.chain, x.owner with
  | some c, some (h, sl) =>
    let last := (c.first + c.tds.length + x.span - 1) % x.span
    let td := c.tds.getLastD {}
    let entry : CqEntry := { tag := td.tag, status := st, gen := c.gen, kind := 1, irq := td.irq
                             result := usbResult e last c.bytes xcode short (c.cycle.getD s.noCycle) }
    let s := if c.cycle.isNone then s.tickFree else s
    (s.setEp e { x with chain := none, busy := false, left := 0, cons := (last + 1) % x.span }).enginePost h sl x.cq entry true
  | _, _ => s

/-- R165: a completion for a ring that stops with no chain in progress. -/
def State.ringStop (s : State) (e : Nat) (tag : BitVec 16) (st : Status) (xcode : Nat) : State :=
  let x := s.ep e
  match x.owner with
  | some (h, sl) =>
    s.tickFree.enginePost h sl x.cq { tag := tag, status := st, gen := (s.slice h sl).gen, kind := 1
                                      result := usbResult e x.cons 0 xcode false s.noCycle } false
  | none => s

/-- The outstanding requests and split states of an endpoint are dropped. -/
def State.dropRequests (s : State) (e : Nat) : State :=
  s.modXfer fun x =>
    { x with splits := x.splits.filter (·.1 ≠ e)
             roots := x.roots.map fun r => (r.1, { r.2 with outst := r.2.outst.filter (·.ep ≠ some e) }) }

/-- Table 6-9: an endpoint leaves its ring for a stopped state; the chain in progress completes with the bytes moved so far. -/
def State.stopEp (s : State) (e : Nat) (st : Status) (xcode : Nat) (dst : EpState) : State :=
  let s := (s.dropRequests e).endChain e st xcode false
  s.modEp e fun x => { x with state := dst, busy := false, left := 0, latched := x.cons, errors := 0, splitErrs := 0, nrdy := false, noSplit := none }

/-- Table 6-9: an endpoint is disabled: the chain in progress completes, and the chains still in its ring complete as the engine reads them. DEDUCED, log entry 125. -/
def State.disableEp (s : State) (e : Nat) (st : Status) (gen : BitVec 8) : State :=
  let s := s.stopEp e st 0 .disabled
  let x := s.ep e
  if x.used = 0 then s.setEp e {} else s.setEp e { x with ending := some (st, gen) }

/-! ## Roots (R150, R179, R180) -/

/-- The root of an endpoint; none for an endpoint of a device function. -/
def State.epRoot (s : State) (x : Ep) : Option Nat :=
  if x.slot < 1024 && (s.dslot x.slot).alloc then some (s.dslot x.slot).root else none

/-- The endpoints in use under a root. -/
def State.rootEps (s : State) (r : Nat) : List Nat :=
  (s.xfer.eps.filter fun e => decide (e.2.state ≠ .disabled) && decide (s.epRoot e.2 = some r)).map Prod.fst

/-- R180, Table 6-11: a notice of root `r`, with its event source. -/
def State.rootNotice (s : State) (r code tport : Nat) : State :=
  let x := s.root r
  let s := match x.owner with
    | some (h, sl) => s.notice h sl x.notifyQ x.notifyTag .ok
        (noticeResult code tport r [BitVec.ofNat 8 x.speed] 0 s.now)
    | none => s
  s.event (0x140 + r)

/-- The commands that wait on a root complete. -/
def State.endRootCmds (s : State) (r : Nat) (st : Status) : State :=
  let x := s.root r
  let s := ((s.completeOpt x.suspendWait 0x0402 st 0 []).completeOpt x.resetCmd 0x0402 st 0 []).completeOpt x.resumeCmd 0x0402 st 0 []
  s.modRoot r fun x => { x with suspendWait := none, resetCmd := none, resumeCmd := none }

/-- R174: every endpoint of the root stops. -/
def State.stopRoot (s : State) (r : Nat) (st : Status) (xcode : Nat) : State :=
  let s := (s.rootEps r).foldl (fun s e => s.stopEp e st xcode .stopped) s
  s.modRoot r fun x => { x with outst := [] }

/-- Table 6-10, Table 6-12: a disconnect: endpoints under R174, waiting commands ABORTED, and only DISCONNECT posted. -/
def State.rootDisconnect (s : State) (r : Nat) : State :=
  if (s.root r).state = .poweredOff || (s.root r).state = .disconnected then s
  else
    let s := (s.stopRoot r .aborted 7).endRootCmds r .aborted
    let s := s.modRoot r fun x => { x with state := .disconnected, due := none, wakeFrom := false, wakeLost := false, uState := 0, pingWait := false, pingHeld := false }
    s.rootNotice r 0x11 0

/-- Table 6-10: POWERED_OFF, by command, over-current (OVERCURRENT), or Jayth mode on the port. -/
def State.rootOff (s : State) (r : Nat) (excess : Bool) : State :=
  let s := (s.stopRoot r .aborted 7).endRootCmds r .aborted
  let s := s.modRoot r fun x => { x with state := .poweredOff, due := none, wakeFrom := false, wakeLost := false, uState := 0 }
  if excess then s.rootNotice r 0x17 0 else s

/-- R173: an outstanding transaction that is lost counts as an error; the third in a row halts the endpoint. -/
def State.usbError (s : State) (e : Nat) : State :=
  let x := s.ep e
  if 2 ≤ x.errors then s.stopEp e .mediaError 3 .halted
  else s.setEp e { x with errors := x.errors + 1, busy := false, left := 0 }

/-- R173: the outstanding requests and SuperSpeed transactions of a root whose link is lost. -/
def State.loseRequests (s : State) (r : Nat) : State :=
  let l := (s.root r).outst
  let ss := (s.rootEps r).filter fun e => (s.ep e).busy && !l.any fun q => decide (q.ep = some e)
  let s := s.modRoot r fun x => { x with outst := [] }
  (l.filterMap (·.ep) ++ ss).eraseDups.foldl State.usbError s

/-- R179: a tunnelled root whose tunnels became ORPHAN is held: ROOT_HELD. -/
def State.rootHeld (s : State) (r : Nat) : State :=
  if (s.root r).held then s
  else ((s.loseRequests r).modRoot r fun x => { x with held := true }).rootNotice r 0x18 0

/-- R179, R180: its tunnels are open: ROOT_RESTORED after a hold; a root that was absent connects. -/
def State.rootRestored (s : State) (r : Nat) : State :=
  let s := if (s.root r).held then (s.modRoot r fun x => { x with held := false }).rootNotice r 0x19 0 else s
  let async := s.tunnels.any fun e =>
    decide (e.2.port + 12 = r) && decide (e.2.cls = 2) && !e.2.periodic && decide (e.2.state = .opened)
  if async && ((s.root r).state = .poweredOff || (s.root r).state = .disconnected) then
    (s.modRoot r fun x => { x with state := .enabled }).rootNotice r 0x10 0
  else s

/-- The slots of a root are freed. -/
def State.freeSlots (s : State) (r : Nat) : State :=
  s.modXfer fun x => { x with slots := x.slots.filter fun e => decide (e.2.root ≠ r) }

/-- R179: its tunnels are gone: the root is absent, every outstanding chain completes LINK_LOST, its slots are freed. -/
def State.rootGone (s : State) (r : Nat) : State :=
  if (s.root r).state = .poweredOff || (s.root r).state = .disconnected then s.modRoot r fun x => { x with held := false }
  else
    let s := (s.rootEps r).foldl (fun s e =>
      s.disableEp e .linkLost (match (s.ep e).owner with
        | some (h, sl) => (s.slice h sl).gen
        | none => 0)) s
    let s := (s.freeSlots r).endRootCmds r .aborted
    let s := s.modRoot r fun x =>
      { x with state := .disconnected, held := false, outst := [], due := none, wakeFrom := false, wakeLost := false, pingWait := false, pingHeld := false }
    s.rootNotice r 0x11 0

end Sys2Proof.Machine
end

