-- ==== Sys2Proof/Machine/Tunnels.lean ====
section
/-! DEFINITION. Sys2Proof/Machine/Tunnels.lean: the tunnel table, the lane rule and the ceilings, MGMT messages, teardown, ORPHAN hold and restore ("Tunnels and bandwidth allotment"). -/

namespace Sys2Proof.Machine

/-! ## Lanes and capacity (R31, R103, R108) -/

/-- A small set of lanes as a list. -/
def lanesOf (m : BitVec 4) : List Nat := (List.range 4).filter (m.getLsbD ·)
/-- How many lanes a set holds. -/
def laneCount (m : BitVec 4) : Nat := (lanesOf m).length
/-- One lane as a set. -/
def laneBit (l : Nat) : BitVec 4 := BitVec.ofNat 4 (2 ^ l)

/-- R31, Table 4-10: S, flit slots per lane and cycle. -/
def slotsPerLane : Rate → Bool → Nat
  | .j14, false => 1711
  | .j14, true => 1615
  | .j28, false => 3424
  | .j28, true => 3237
  | .j56, _ => 6476

/-- R103: plannable slots of `k` lanes. -/
def plannable (r : Rate) (fec : Bool) (k : Nat) : Nat := 95 * k * slotsPerLane r fec / 100

/-- The port is ACTIVE. -/
def State.linkUp (s : State) (p : Nat) : Bool := decide ((s.port p).train.state = .active)

/-- FEC on the link in force. -/
def Port.fec (x : Port) : Bool := x.train.fecSel || decide (x.train.rateSel = .j56)

/-- R103: PS of `k` lanes of the port's link; 0 on a port that is not ACTIVE (R107). -/
def State.ps (s : State) (p k : Nat) : Nat :=
  if s.linkUp p then plannable (s.port p).train.rateSel (s.port p).fec k else 0

/-- The lanes of a direction that are not in transit. -/
def Port.lanesIn (x : Port) : Dir → BitVec 4
  | .outb => x.outSet
  | .inb => x.inSet

/-- R90, R105, R106: what a tunnel counts in a direction: a display raise from its check on, a raise of RSV_IN from its ALLOT_IN on, a cut from EFFECTIVE. -/
def Tunnel.counted (t : Tunnel) : Dir → Nat
  | .outb => max t.rsvOut t.rsvNext
  | .inb => match t.modify with
    | some m => max t.rsvIn m.rsvIn
    | none => t.rsvIn

/-- R106: the tunnel counts under the lane rule. -/
def Tunnel.counts (t : Tunnel) : Bool :=
  match t.state with
  | .opening => !t.planWait
  | .opened => true
  | .orphan => true
  | _ => false

/-- The sum of what tunnels that `p` picks count in a direction. -/
def State.rsvSum (s : State) (d : Dir) (p : Nat → Tunnel → Bool) : Nat :=
  (s.tunnels.map fun e => if p e.1 e.2 then e.2.counted d else 0).sum

/-- R106: reservations in force on a port and direction. -/
def State.laneSum (s : State) (port : Nat) (d : Dir) : Nat :=
  s.rsvSum d fun _ t => decide (t.port = port) && t.counts

/-- R109: a direction is overcommitted. -/
def State.over (s : State) (port : Nat) (d : Dir) : Bool :=
  decide (s.ps port (laneCount ((s.port port).lanesIn d)) < s.laneSum port d)

/-- R106: a lane may leave a direction: one stays, and the reservations fit in PS(k − 1). -/
def State.mayLeave (s : State) (port : Nat) (d : Dir) : Bool :=
  let k := laneCount ((s.port port).lanesIn d)
  decide (2 ≤ k) && decide (s.laneSum port d ≤ s.ps port (k - 1))

/-- The level in force of an island, by agent ID. -/
def State.levelOf (s : State) (agent : Nat) : Nat := Tab.get 0 s.power.levels agent

/-- Table 4-11, and Table 15-5 for an island at P4 or P5: ceiling of a client; none for a client without one. -/
def State.ceiling (s : State) (client : Nat) : Option Nat :=
  match client with
  | 3 => some (25000 * s.hosts.hp0.rate * s.hosts.hp0.width / 2560)
  | 4 => some (25000 * s.hosts.hp1.rate * s.hosts.hp1.width / 2560)
  | 5 => some (match s.levelOf 5 with
      | 4 => 40800
      | 5 => 27200
      | _ => 54400)
  | 6 => some (match s.levelOf 6 with
      | 4 => 35700
      | 5 => 23800
      | _ => 47600)
  | _ => none

/-- R108: reservations of a client in a direction; waiting plan tunnels count here. -/
def State.clientSum (s : State) (client : Nat) (d : Dir) : Nat :=
  s.rsvSum d fun _ t => decide (t.client = client) && (t.counts || (decide (t.state = .opening) && t.planWait))

/-- R108: `more` flits fit under the client's ceiling. -/
def State.underCeiling (s : State) (client : Nat) (d : Dir) (more : Nat) : Bool :=
  match s.ceiling client with
  | some c => decide (s.clientSum client d + more ≤ c) || decide (more = 0)
  | none => true

/-! ## Entries (Table 4-8, Table 17-10) -/

/-- Table 4-8: OWNER as the commands carry it. -/
def Owner.code : Owner → Nat
  | .slice h s => s + 256 * h + 512
  | _ => 0

/-- R415, Table 17-10: canonical value of a tunnel: its TUN_CREATE payload in force, then GEN and PLAN; empty for a FREE entry. -/
def Tunnel.value (t : Tunnel) : List Byte :=
  if t.state = .free then []
  else
    toLe 2 t.port ++ toLe 1 (t.cls + 8 * flag t.periodic + 16 * t.dirs.toNat + 64 * flag t.persist) ++ toLe 1 t.notifyQ
    ++ toLe 2 t.rsvOut ++ toLe 2 t.rsvIn ++ toLe 1 t.wOut ++ toLe 1 t.wIn ++ toLe 2 t.key.toNat
    ++ toLe 4 t.clientRef.toNat ++ toLe 2 t.owner.code ++ toLe 6 0 ++ padTo 96 t.params
    ++ toLe 1 t.gen.toNat ++ toLe 1 (flag (decide (t.owner = .plan)))

/-- The tunnel table entry that holds a TUN of a port. -/
def State.tidOf (s : State) (port tun : Nat) : Option Nat :=
  (s.tunnels.find? fun e => decide (e.2.port = port) && decide (e.2.tun = tun) && decide (e.2.state ≠ .free)).map Prod.fst

/-- The tunnels of a port in a state, by TID. -/
def State.portTunnels (s : State) (port : Nat) (st : TunState) : List Nat :=
  (s.tunnels.filter fun e => decide (e.2.port = port) && decide (e.2.state = st)).map Prod.fst

/-- R101, R266: a tunnel notice: CODE, OBJECT the TID, GEN in byte 4. -/
def State.tunnelNotice (s : State) (tid code : Nat) (st : Status) : State :=
  let t := s.tunnel tid
  s.noticeOwner t.owner t.notifyQ t.notifyTag st (noticeResult code 0 tid [t.gen] 0 s.now)

/-! ## Credit held for inbound tunnels (R84, R135) -/

/-- R84: the credit a tunnel's receiver keeps available: the class minimum, or twice the reservation if larger. -/
def Tunnel.window (t : Tunnel) : Nat := max (minCredit t.cls) (2 * t.rsvIn)

/-- The client queue that inbound cells of a tunnel wait in. -/
def Tunnel.inQueue (t : Tunnel) : Option Nat := queueOf t.client t.cls t.periodic

/-- Inbound cells of a flow still in Marl or staged. -/
def State.cellsOf (s : State) (agent q flow : Nat) : Nat :=
  ((s.egq agent q).flow flow).length + ((Tab.get [] s.marl.staging agent).filter (·.flow = flow)).length

/-- A CREDIT flit with records of (TUN, CUM_CREDIT). -/
def creditFlit (rs : List (Nat × BitVec 16)) (counts : Bool) : Ctrl :=
  { typ := 3, counts := counts
    payload := toLe 8 rs.length ++ (rs.map fun r => toLe 2 r.1 ++ toLe 2 r.2.toNat).flatten }

/-- A control flit is due; one that counts restarts the idle time when it is sent. -/
def State.pushCtrl (s : State) (p : Nat) (c : Ctrl) : State :=
  s.modPort p fun x => { x with tx := { x.tx with ctrl := x.tx.ctrl ++ [c] } }

/-- R66, R67, R84, R134, R135: credit is granted up to the window, first from the space held for the TUN, then as far as space is found; the rest waits. -/
def State.grant (s : State) (p tun cls window queued : Nat) : State :=
  let x := (s.port p).tun tun
  let want := window - ((x.granted - x.recv).toNat + queued)
  let own := min want x.held
  let r := s.takeSpaces (want - own) cls
  let x := { x with granted := x.granted + BitVec.ofNat 16 (own + r.2), held := x.held - own, waitGrant := want - own - r.2 }
  let s := r.1.modPort p fun y => y.setTun tun x
  if own + r.2 = 0 then s else s.pushCtrl p (creditFlit [(tun, x.granted)] true)

/-- Credit for an inbound tunnel, or for TUN 0. -/
def State.grantTun (s : State) (p tun : Nat) : State :=
  if tun = 0 then s.grant p 0 6 16 (s.cellsOf agentCtrl 0 (8192 + p))
  else match s.tidOf p tun with
    | some tid =>
      let t := s.tunnel tid
      match t.inQueue with
      | some q => if t.state = .opened && t.dirs.getLsbD 1 then s.grant p tun t.cls t.window (s.cellsOf t.client q tid) else s
      | none => s
    | none => s

/-- The space set aside for unused grants of a TUN is released, but for what `keep` cells of it stay held (R135), and what its link has counted and begun starts afresh (R66, R92). -/
def State.releaseTun (s : State) (p tun cls keep : Nat) : State :=
  let x := (s.port p).tun tun
  let all := (x.granted - x.recv).toNat + x.held
  (s.freeSpaces (all - keep) cls).modPort p fun y =>
    y.setTun tun { x with credit := 0, sent := 0, granted := 0, recv := 0, rsvLeft := 0, overrun := 0, deficit := 0, wNow := 0, budgetIn := 0
                          held := min keep all, waitGrant := 0, blockSeq := none, blockFlits := 0, blockNeed := 0
                          recBuf := [], recPoison := false, recSkip := false }

/-- R135: the minimum credit of a class can be held. -/
def State.canHold (s : State) (cls : Nat) : Bool := decide ((s.takeSpaces (minCredit cls) cls).2 = minCredit cls)

/-- R135: space is taken until a TUN has the minimum credit of its class set aside. DESIGN CHOICE, log entry 152. -/
def State.holdMin (s : State) (p tun cls : Nat) : State :=
  let x := (s.port p).tun tun
  let r := s.takeSpaces (minCredit cls - ((x.granted - x.recv).toNat + x.held)) cls
  r.1.modPort p fun y => y.setTun tun { x with held := x.held + r.2 }

/-! ## MGMT messages (R93 to R95) -/

/-- R93: a MGMT message as a flit payload. -/
def MgmtMsg.payload (m : MgmtMsg) : List Byte :=
  toLe 2 m.msg ++ toLe 2 m.xid.toNat ++ toLe 4 m.body.length ++ m.body

/-- A message is queued on TUN 0: one cell of class MGMT. -/
def State.queueMgmt (s : State) (p : Nat) (m : MgmtMsg) : State := s.admitMgmt p { bl := true, cls := 6, payload := m.payload }

/-- R94, R95: a request is sent with the next XID and awaits its answer for 1 ms. -/
def State.request (s : State) (p msg tid : Nat) (body : List Byte) : State :=
  let m : MgmtMsg := { msg := msg, xid := (s.port p).xid, body := body }
  let due := s.after 1000000
  (s.modPort p fun x => { x with xid := x.xid + 1, awaits := x.awaits ++ [{ xid := m.xid, msg := m, tid := tid, due := due }] }).queueMgmt p m

/-- TUN_OPEN (Table 4-6); from here the TUN counts as used until its CLOSE_ACK or the next link down (R100). -/
def State.sendOpen (s : State) (tid : Nat) : State :=
  let t := s.tunnel tid
  (s.modPort t.port fun p => p.modTun t.tun fun x => { x with used := true }).request t.port 0x10 tid
    (toLe 2 t.tun ++ toLe 1 (t.cls + 8 * flag t.periodic + 16 * t.dirs.toNat) ++ [t.gen] ++ toLe 2 t.rsvIn
      ++ toLe 2 t.wIn ++ toLe 8 t.rsvOut ++ padTo 96 t.params)

/-- TUN_CLOSE. -/
def State.sendClose (s : State) (tid : Nat) : State :=
  let t := s.tunnel tid
  s.request t.port 0x13 tid (toLe 2 t.tun ++ [t.gen, 0])

/-- The number of the present allotment cycle (R102). -/
def State.cycle (s : State) : Nat := s.now.toNat / 125000

/-- ALLOT_IN with one record. -/
def State.sendAllot (s : State) (tid rsvIn wIn effective : Nat) : State :=
  let t := s.tunnel tid
  s.request t.port 0x20 tid (toLe 2 effective ++ toLe 2 1 ++ toLe 2 t.tun ++ toLe 2 rsvIn ++ toLe 1 wIn)

/-- No request about a tunnel is awaited any more. -/
def State.dropAwaits (s : State) (p tid : Nat) : State :=
  s.modPort p fun x => { x with awaits := x.awaits.filter (·.tid ≠ tid) }

/-! ## Restore and waiting plan tunnels (R115, R118) -/

/-- R115, R118: a tunnel's own reservations fit beside `others`. -/
def State.fitsBeside (s : State) (tid : Nat) (others : Nat → Tunnel → Bool) : Bool :=
  let t := s.tunnel tid
  let x := s.port t.port
  let ok (d : Dir) : Bool := decide (s.rsvSum d others + t.counted d ≤ s.ps t.port (laneCount (x.lanesIn d)))
  ok .outb && ok .inb

/-- R115: the tunnels of a port, reserved ones first, each by TID. -/
def State.restoreOrder (s : State) (p : Nat) : List Nat :=
  let l := s.portTunnels p .orphan
  let rsv (t : Nat) : Bool := decide ((s.tunnel t).rsvOut ≠ 0) || decide ((s.tunnel t).rsvIn ≠ 0)
  l.filter rsv ++ l.filter fun t => !rsv t

/-- R115: one ORPHAN tunnel is re-opened if it fits; else RESTORE_SHORT is posted once. -/
def State.restoreOne (s : State) (tid : Nat) : State :=
  let t := s.tunnel tid
  if s.fitsBeside tid fun i x => decide (x.port = t.port) && x.counts && decide (x.state ≠ .orphan) && decide (i ≠ tid) then
    (s.setTunnel tid { t with state := .opening, restore := true, shortTold := false }).sendOpen tid
  else if t.shortTold then s
  else (s.tunnelNotice tid 0x03 .ok).modTunnel tid fun x => { x with shortTold := true }

/-- R118: the lane rule refuses a plan tunnel: at the first time an entry of origin FW is written and PLAN_REFUSED raised. DEDUCED, log entry 88; DEDUCED, log entry 139. -/
def State.planRefused (s : State) (tid : Nat) : State :=
  if (s.tunnel tid).planTold then s
  else
    ((s.modTunnel tid fun t => { t with planTold := true }).record
      { origin := 5, kind := 0x0201, object := tid, old := digest [], new := digest [] }).alarmOccur 21 tid false

/-- R118: one waiting plan tunnel is opened if it fits. DEDUCED, log entry 88; DEDUCED, log entry 139. -/
def State.planOne (s : State) (tid : Nat) : State :=
  let t := s.tunnel tid
  if s.fitsBeside tid fun i x => decide (x.port = t.port) && x.counts && decide (i ≠ tid) then
    (s.setTunnel tid { t with planWait := false }).sendOpen tid
  else s.planRefused tid

/-- R115, R118: the restores, then the waiting plan tunnels, of a port whose TERM_INFO has arrived. -/
def State.retryTunnels (s : State) (p : Nat) : State :=
  if s.linkUp p && (s.port p).termInfo.isSome then
    let s := (s.restoreOrder p).foldl State.restoreOne s
    ((s.portTunnels p .opening).filter fun t => (s.tunnel t).planWait).foldl State.planOne s
  else s

/-! ## Teardown (R15, R101) -/

/-- R150, R179: a tunnelled root follows its tunnels: it is gone with its USB2 asynchronous tunnel, held while a USB tunnel of the port is ORPHAN or being restored, and else present. -/
def State.rootFollows (s : State) (port : Nat) : State :=
  let usb (e : Nat × Tunnel) : Bool := decide (e.2.port = port) && (decide (e.2.cls = 2) || decide (e.2.cls = 3))
  let async := s.tunnels.any fun e => decide (e.2.port = port) && decide (e.2.cls = 2) && !e.2.periodic
    && (decide (e.2.state = .opened) || decide (e.2.state = .orphan) || decide (e.2.state = .opening))
  if !async then s.rootGone (12 + port)
  else if s.tunnels.any fun e => usb e && decide (e.2.state = .orphan) then s.rootHeld (12 + port)
  else if s.tunnels.any fun e => usb e && decide (e.2.state = .opening) && e.2.restore then s
  else s.rootRestored (12 + port)

/-- R101: the entry returns to FREE with GEN incremented; space and requests of the tunnel are released. `closed`: its CLOSE_ACK has arrived, so its TUN may be used again before the next link down (R94, R100). -/
def State.freeEntry (s : State) (tid : Nat) (closed : Bool) : State :=
  let t := s.tunnel tid
  let s := (s.dropAwaits t.port tid).releaseTun t.port t.tun t.cls 0
  let s := s.modPort t.port fun p => p.modTun t.tun fun x => { x with used := x.used && !closed }
  let s := (s.setTunnel tid { gen := t.gen + 1 }).retryTunnels t.port
  if t.cls = 2 || t.cls = 3 then s.rootFollows t.port else s

/-- The commands that wait on a tunnel's modify complete. DEDUCED, log entry 170. -/
def State.endModify (s : State) (tid : Nat) (st : Status) (detail : Nat) : State :=
  let t := s.tunnel tid
  let s := match t.modify with
    | some m => s.completeOpt m.cmd 0x0203 st detail []
    | none => s
  s.modTunnel tid fun x => { x with modify := none }

/-- R94, R117: a modify is given up before it has taken effect: it completes, and the values before it stay. DEDUCED, log entry 170. -/
def State.undoModify (s : State) (tid : Nat) (st : Status) : State :=
  let t := s.tunnel tid
  match t.modify with
  | some m =>
    (s.setTunnel tid { t with rsvOut := m.oldOut, wOut := m.oldWOut, wIn := m.oldWIn, persist := m.oldPersist }).endModify tid st 0
  | none => s

/-- R271: the modifies that waited are checked against a tunnel that is no longer OPEN. -/
def State.failQueued (s : State) (tid : Nat) (st : Status) (detail : Nat) : State :=
  let t := s.tunnel tid
  let s := t.queued.foldl (fun s c => s.complete c 0x0203 st detail []) s
  s.modTunnel tid fun x => { x with queued := [] }

/-- R101, R113, R115, R116: a tunnel is torn down without a command: its entry becomes FREE and its owner receives LINK_LOST. -/
def State.teardownNow (s : State) (tid : Nat) : State :=
  let s := s.tunnelNotice tid 0x01 .linkLost
  let s := (s.endModify tid .linkLost 0).failQueued tid .linkLost 0
  s.freeEntry tid false

/-- R415: the journal entry of a teardown by the AX1224. DEDUCED, log entry 60. -/
def State.teardownReq (s : State) (tid origin : Nat) : JReq :=
  { origin := origin, kind := 0x0202, object := tid, old := digest (s.tunnel tid).value, new := digest [] }

/-- The same with its journal entry, of origin FW or PARTNER. -/
def State.teardown (s : State) (tid origin : Nat) : State :=
  if (s.tunnel tid).state = .free then s
  else s.fwChange (s.teardownReq tid origin) (.teardown tid) fun s => s.teardownNow tid

/-- R94, R101: a create is reverted by its link partner or by the loss of the link: it completes, and the entry returns to FREE. -/
def State.revertCreate (s : State) (tid : Nat) (st : Status) (detail : Nat) : State :=
  let s := s.completeOpt (s.tunnel tid).create 0x0201 st detail []
  let s := s.modTunnel tid fun x => { x with create := none }
  s.fwChange (s.teardownReq tid 7) (.revert tid) fun s => s.freeEntry tid false

/-- Table 4-9: a tunnel is taken down while its link is up: TUN_CLOSE, and CLOSING until CLOSE_ACK. A tunnel that holds nothing at the terminal becomes FREE; the destroy of an ORPHAN completes ABORTED. -/
def State.closeTunnel (s : State) (tid : Nat) : State :=
  let t := s.tunnel tid
  let s := s.completeOpt t.create 0x0201 .aborted 0 []
  let s := (s.endModify tid .aborted 0).failQueued tid .denied 4
  let s := s.modTunnel tid fun x => { x with create := none }
  if t.state = .orphan || (t.state = .opening && t.planWait) || !s.linkUp t.port then
    let st : Status := if t.state = .orphan then .aborted else .ok
    (s.completeOpt t.destroy 0x0202 st 0 [t.gen + 1]).freeEntry tid false
  else
    ((s.dropAwaits t.port tid).setTunnel tid { s.tunnel tid with state := .closing }).sendClose tid

/-- Table 4-9: CLOSING ends, with CLOSE_ACK (`closed`) or without. -/
def State.closeDone (s : State) (tid : Nat) (closed : Bool) : State :=
  let t := s.tunnel tid
  (s.completeOpt t.destroy 0x0202 .ok 0 [t.gen + 1]).freeEntry tid closed

/-! ## Link down (R113) -/

/-- R113, Table 4-9: what link down does to one tunnel of the port. An ORPHAN keeps its minimum credit; a plan tunnel whose TUN_OPEN has not gone waits again. DESIGN CHOICE, log entry 152. -/
def State.tunnelLinkDown (s : State) (tid : Nat) : State :=
  let t := s.tunnel tid
  match t.state with
  | .opened =>
    let s := (s.undoModify tid .linkLost).failQueued tid .busy 0
    let keep := match t.inQueue with
      | some q => if t.dirs.getLsbD 1 then minCredit t.cls - s.cellsOf t.client q tid else 0
      | none => 0
    let s := s.releaseTun t.port t.tun t.cls keep
    let now := s.now
    (s.modTunnel tid fun x => { x with state := .orphan, orphanAt := some now }).tunnelNotice tid 0x01 .ok
  | .opening =>
    if t.planWait then s
    else if t.owner = .plan && !((s.port t.port).tun t.tun).used then s.modTunnel tid fun x => { x with planWait := true }
    else if t.create.isSome then s.revertCreate tid .linkLost 0x30
    else s.teardown tid 7
  | .closing => s.closeDone tid false
  | _ => s

/-- R100, R113: every tunnel of the port follows Table 4-9; TUN 0 closes; each ORPHAN's window runs from its loss. A window of 0 tears the tunnels down at once. -/
def State.tunnelsLinkDown (s : State) (p : Nat) : State :=
  let s := s.modPort p fun x => { x with awaits := [], termInfo := none, mgmtRx := [] }
  let s := (s.level (evPort p 9) false).releaseTun p 0 6 0
  let s := ((s.tunnels.filter fun e => decide (e.2.port = p)).map Prod.fst).foldl State.tunnelLinkDown s
  let s := s.modPort p fun x => { x with tuns := x.tuns.map fun e => (e.1, { e.2 with used := false }) }
  let s := s.modPort p fun x => { x with tuns := x.tuns.filter fun e => decide (e.2 ≠ {}) }
  let orphans := s.portTunnels p .orphan
  if orphans.isEmpty then s
  else
    let s := if orphans.any fun t => (s.tunnel t).cls = 2 || (s.tunnel t).cls = 3 then s.rootHeld (12 + p) else s
    if (s.port p).allot.orphanWin = 0 then orphans.foldl (fun s t => s.teardown t 5) s else s

end Sys2Proof.Machine
end

