-- ==== Sys2Proof/Machine/PdOps.lean ====
section
/-! DEFINITION. Sys2Proof/Machine/PdOps.lean: what other chapters use of the CC/PD controllers: timers, VDMs, port notices and the entry to native fallback (R182, R215, R224, R231). -/

namespace Sys2Proof.Machine

def State.modPd (s : State) (p : Nat) (f : Pd → Pd) : State := s.modPort p fun x => { x with pd := f x.pd }

/-! ## Timers (Table 8-6, by row; 16 is tErrorRecovery of Table 8-1, 17 the 2 s of PORT_JAYTH_RETRY, 18 to 22 timers the table does not name, 23 and 24 those of Try.SRC) -/

/-- Timer `n` runs until `t`. -/
def Pd.arm (d : Pd) (n : Nat) (t : Time) : Pd := { d with timers := (d.timers.filter fun e => decide (e.1 ≠ n)) ++ [(n, t)] }
def Pd.disarm (d : Pd) (n : Nat) : Pd := { d with timers := d.timers.filter fun e => decide (e.1 ≠ n) }
def Pd.timer (d : Pd) (n : Nat) : Option Time := (d.timers.find? fun e => decide (e.1 = n)).map Prod.snd
def State.armPd (s : State) (p n ms : Nat) : State := s.modPd p fun d => d.arm n (s.after (1000000 * ms))

def tVdmResponse : Nat := 2
def tVdmEntry : Nat := 3
def tVdmBusy : Nat := 4
def tSendSourceCap : Nat := 5
def tSrcTransition : Nat := 6
def tPsHardReset : Nat := 7
def tSrcRecover : Nat := 8
def tPsSourceOff : Nat := 9
def tPsSourceOn : Nat := 10
def tSwapSourceStart : Nat := 11
def tSinkTx : Nat := 12
/-- Table 8-6: tChunkSenderResponse. -/
def tChunkResponse : Nat := 1
def tNoResponse : Nat := 15
def tErrorRecovery : Nat := 16
def tRetryLimit : Nat := 17
/-- R215: timers that Table 8-6 does not name: tTypeCSinkWaitCap 465 ms, tPSTransition 500 ms, tSinkRequest 100 ms. -/
def tSinkWaitCap : Nat := 18
def tPsTransition : Nat := 19
def tSinkRequest : Nat := 20

/-- R215, PRESUMED, log entry 160: tSourceActivity 45 ms of the Ping in EPR, tBISTContMode 45 ms. -/
def tSourceActivity : Nat := 21
def tBistCont : Nat := 22
/-- Table 8-1: tDRPTry and tTryTimeout. -/
def tDrpTry : Nat := 23
def tTryTimeout : Nat := 24

/-- Table 8-3: tSenderResponse in ms. -/
def PdCfg.senderMs (c : PdCfg) : Nat := 24 + c.tSenderResp

/-! ## Messages -/

/-- A PD message to the partner (`sop` 0 SOP, 1 SOP', 2 SOP''; `kind` 0 control, 1 data, 2 extended), without the header that the protocol layer adds. DESIGN CHOICE, log entry 23. -/
def State.sendPd (s : State) (p sop kind typ : Nat) (objs : List Byte) : State := s.send (.pd p sop kind typ objs)

/-- R12, R224: header of a structured VDM of the AX1224: SVID, version 2.1, object position, command. PRESUMED, log entry 132. -/
def vdmHeader (svid pos cmd : Nat) : Nat := svid * 65536 + 0x8000 + 0x2800 + pos * 256 + cmd

/-- R207: the extended header of a chunk: the data size, the number of the chunk, and whether it is asked for. PRESUMED, log entry 160. -/
def extHeader (size num : Nat) (ask : Bool) : List Byte := toLe 2 (size % 512 + 1024 * flag ask + 2048 * num + 32768)

/-- R207: chunk `num` of an extended message: 26 bytes, or what is left. -/
def State.sendChunk (s : State) (p typ num : Nat) (data : List Byte) : State :=
  s.sendPd p 0 2 typ (extHeader data.length num false ++ (data.drop (26 * num)).take 26)

/-- R207, Table 8-6: an extended message goes out chunked; each chunk beyond the first is awaited for tChunkSenderResponse. -/
def State.sendExt (s : State) (p typ : Nat) (data : List Byte) : State :=
  let s := s.sendChunk p typ 0 data
  if 26 < data.length then (s.modPd p fun d => { d with chunkOut := some (typ, data) }).armPd p tChunkResponse 27
  else s.modPd p fun d => { d with chunkOut := none }

def State.sendVdm (s : State) (p sop svid pos cmd : Nat) (objs : List Byte) : State :=
  s.sendPd p sop 1 15 (toLe 4 (vdmHeader svid pos cmd) ++ objs)

/-- The SVIDs of the Jayth mode (R12) and of DisplayPort. -/
def svidJayth : Nat := 0x3A9D
def svidDp : Nat := 0xFF01

/-- A discovery or mode command is sent, and its answer awaited for tVDMSenderResponse, or tVDMWaitModeEntry. -/
def State.askVdm (s : State) (p : Nat) (step : Disco) (sop svid pos cmd : Nat) (objs : List Byte) : State :=
  let s := (s.sendVdm p sop svid pos cmd objs).modPd p fun d => { d with disco := step }
  if cmd = 4 then s.armPd p tVdmEntry 45 else s.armPd p tVdmResponse 27

/-! ## Notices (R231) -/

/-- R231, R207: a port notice to the queues bound and to the management controller, and its trace event. -/
def State.portNotice (s : State) (p code : Nat) (detail : List Byte) : State :=
  let d := (s.port p).pd
  let result := noticeResult code 0 p detail 0 s.now
  let post (h : Nat) (b : Option (Nat × BitVec 16)) (s : State) : State :=
    match b with
    | some (q, tag) => s.notice h 0 q tag .ok result
    | none => s
  ((post 1 d.bind1 (post 0 d.bind0 s)).mgmtNotice .ok result).trace (agentPort p) 2 p

/-- Table 8-12: MODE_ENTERED or MODE_EXITED. -/
def State.modeNotice (s : State) (p code svid pos : Nat) : State := s.portNotice p code (toLe 2 svid ++ toLe 1 pos)

/-! ## Native fallback (R182 to R184) -/

/-- The port is in native fallback, DisplayPort Alternate Mode included. -/
def Pd.inFallback (d : Pd) : Bool := decide (d.mode = .fallback) || decide (d.mode = .dp)

/-- R183: the fallback settings that bear on the port: those latched by a fallback in force, else those configured. -/
def Pd.fbUse (d : Pd) : FbCfg := if d.inFallback then d.fbNow else d.fb

/-- Table 7-3: lane pairs that the port's fallback use leaves for USB 3.2: one under pin assignment D, none under C and E. -/
def Pd.usbPairs (d : Pd) : Nat :=
  if d.dp.entered then (match d.dp.pin with
    | 0 => 2
    | 3 => 1
    | _ => 0)
  else 2

/-- R183, R185: native root `r` may run at this SPEED: USB 3.2 only with SS_EN, on the lane pairs that are left. -/
def Pd.rootSpeedOk (d : Pd) (speed : Nat) : Bool :=
  decide (speed < 3) || (d.fbNow.ssEn && decide ((if speed = 4 || speed = 6 then 2 else 1) ≤ d.usbPairs))

/-- R187, R192: a device function is presented on the port. -/
def State.presented (s : State) (p : Nat) : Bool :=
  [0, 1].any fun n => (s.fn n).bound && decide ((s.fn n).port = p) && decide ((s.fn n).state ≠ .detached)

/-- R210: the sink path closes only with SNK_LOAD=1 and no device function presented. -/
def State.sinkOn (s : State) (p : Nat) : State :=
  let presented := s.presented p
  s.modPd p fun d => { d with pins := { d.pins with snkEn := d.cfg.snkLoad && !presented && !d.pins.srcEn } }

/-- R198: firmware presents the diagnostic function on a UFP port with DEV_EN and no function, while fewer than two are bound. -/
def State.presentDiag (s : State) (p : Nat) : State :=
  let taken := [0, 1].any fun n => (s.fn n).bound && decide ((s.fn n).port = p)
  match [0, 1].find? fun n => !(s.fn n).bound with
  | some n => if taken then s else s.setFn n { bound := true, diag := true, port := p, cap := 4 }
  | none => s

/-- R198: after a function has been released, firmware looks for ports that lack one, `skip` excepted. -/
def State.presentDiags (s : State) (skip : Nat) : State :=
  (List.range 12).foldl (fun s p =>
    let d := (s.port p).pd
    if p ≠ skip && d.inFallback && !d.roles.dfp && d.fbNow.devEn then s.presentDiag p else s) s

/-- R115: discovery that finds no Jayth partner, or none that answers, tears down the port's ORPHAN tunnels. -/
def State.notJayth (s : State) (p : Nat) : State :=
  (s.portTunnels p .orphan).foldl (fun s t => s.teardown t 7) s

/-- R184, R198: the native uses of a port in fallback: as DFP DisplayPort Alternate Mode is asked for if enabled and offered, as UFP the diagnostic function may be presented. -/
def State.nativeUses (s : State) (p : Nat) : State :=
  let d := (s.port p).pd
  if d.roles.dfp then
    if d.fbNow.dpaltEn && d.partnerSvids.2 && !d.pdOff && d.contract.isSome then s.askVdm p .dpEnter 0 svidDp d.dp.pos 4 [] else s
  else if d.fbNow.devEn then s.presentDiag p else s

/-- R182, R184, Table 7-1: a port enters native fallback: the settings are latched, and the native uses begin. Without JAYTH_EN discovery is still to come where DisplayPort Alternate Mode is enabled. -/
def State.fallback (s : State) (p cause : Nat) : State :=
  let s := s.modPd p fun d =>
    { d with mode := .fallback, fbCause := some cause, fbNow := d.fb
             disco := if cause = 0 && d.fb.dpaltEn && d.disco = .idle then .idle else .done }
  let s := if cause = 2 then s.notJayth p else s
  let s := s.trace (agentPort p) 2 p
  s.nativeUses p

/-- R228: Exit Mode for the Jayth mode is sent, on SOP. -/
def State.sendExitJayth (s : State) (p : Nat) : State := (s.sendVdm p 0 svidJayth 1 5 []).modeNotice p 0x3A svidJayth 1

end Sys2Proof.Machine
end

