-- ==== Sys2Proof/Machine/TunCmd.lean ====
section
/-! DEFINITION. Sys2Proof/Machine/TunCmd.lean: the tunnel commands (R268 to R271) and the MGMT messages that firmware receives on TUN 0 (R94 to R96). -/

namespace Sys2Proof.Machine

/-! ## Checks shared by the commands -/

/-- R99: the tunnel may be modified or destroyed from this route. -/
def ownsTunnel (r : Route) (o : Owner) : Bool :=
  match r with
  | .mgmt => true
  | .fw => decide (o = .plan)
  | .image _ => decide (o = .plan)
  | .diag => false
  | r => match r.slice?, o with
    | some (h, sl), .slice h' sl' => decide (h = h') && (decide (sl = sl') || decide (sl = 0))
    | _, _ => false

/-- R99: the route may act on a tunnel entry; a FREE entry is no one's. DEDUCED, log entry 41. -/
def mayActOn (r : Route) (t : Tunnel) : Bool := decide (t.state = .free) || ownsTunnel r t.owner

/-- Table 10-4: an OWNER field: 0, or a slice with the valid bit. DEDUCED, log entry 46. -/
def ownerFieldOk (v : Nat) : Bool := decide (v = 0) || (decide (v < 1024) && bitOf v 9)

/-- Table 10-4: the owner an OWNER field names; 0 makes the issuing slice the owner, or MGMT, or the plan for origins I and F. -/
def ownerNamed (r : Route) (v : Nat) : Owner :=
  if bitOf v 9 then .slice (bits v 8 8) (bits v 7 0)
  else match r.slice? with
    | some (h, sl) => .slice h sl
    | none => match r with
      | .mgmt => .mgmt
      | _ => .plan

/-- Table 10-4: a slice other than slice 0 may name only itself. -/
def mayNameOwner (r : Route) (v : Nat) : Bool :=
  match r.slice? with
  | some (h, sl) => decide (sl = 0) || decide (ownerNamed r v = .slice h sl)
  | none => true

/-- R310: the owner slice is at its tunnel limit; slice 0 has none. -/
def State.atTunLimit (s : State) (o : Owner) : Bool :=
  match o with
  | .slice h sl => decide (sl ≠ 0) && decide ((s.slice h sl).tunLim ≤
      (s.tunnels.filter fun e => decide (e.2.owner = o) && decide (e.2.state ≠ .free)).length)
  | _ => false

/-- R82: a reservation is required of the tunnel in the directions it names. -/
def rsvRequired (cls : Nat) (periodic : Bool) : Bool := decide (cls = 1) || ((decide (cls = 2) || decide (cls = 3)) && periodic)
/-- R82: a reservation is forbidden. -/
def rsvForbidden (cls : Nat) (periodic : Bool) : Bool :=
  decide (cls = 0) || decide (cls = 5) || ((decide (cls = 2) || decide (cls = 3)) && !periodic)

/-- R82: a reservation value fits the class and the direction. -/
def rsvOk (cls : Nat) (periodic named : Bool) (v : Nat) : Bool :=
  if !named || rsvForbidden cls periodic then decide (v = 0)
  else if rsvRequired cls periodic then decide (v ≠ 0) else true

/-- Table 4-1: default weight. DEDUCED, log entry 44. -/
def defaultWeight : Nat → Nat
  | 2 => 16
  | 3 => 64
  | 4 => 64
  | 5 => 32
  | _ => 1

/-- R90: F, flits per cycle of a display mode. -/
def dispFlits (m : DispMode) : Nat :=
  let line := if m.dscLine ≠ 0 then m.dscLine else (m.hact * m.bpp + 7) / 8
  (m.pixclk + 8000 * m.htotal - 1) / (8000 * m.htotal) * ((line + 111) / 112) + 4

/-- Table 10-5: the mode in a DISP create. -/
def modeOf (p : List Byte) : DispMode :=
  { htotal := le p 24 2, hact := le p 26 2, pixclk := le p 32 5, bpp := le p 37 1, dscLine := le p 38 2 }

/-- Table 4-5: bits of a sample width code. -/
def sampleBits : Nat → Nat
  | 0 => 20
  | 1 => 16
  | 2 => 24
  | _ => 32

/-- R92: flits of a SMPL block. -/
def blockFlits (nsets nch width : Nat) : Nat := (24 + (nsets * nch * sampleBits width + 7) / 8 + 119) / 120

/-- Table 10-5: the class parameters of a create. -/
def paramFields (p : List Byte) (cls : Nat) : List Field :=
  match cls with
  | 0 => [rangeField 24 2 1 65535, rangeField 26 2 1 (le p 24 2), rangeField 28 2 1 (le p 30 2), rangeField 30 2 1 65535,
      rangeField 32 5 1 (2 ^ 40 - 1), rangeField 37 1 18 48, anyField 38 2,
      ⟨40, 2, fun v => decide (v = 0) || (decide (100 ≤ v) && decide (v ≤ 2000))⟩]
  | 1 => [anyField 24 1, rangeField 25 1 0 3, anyField 26 4, rangeField 30 2 1 65535]
  | 4 => [anyField 24 8, ⟨32, 8, fun v => decide (v % 4096 = 0)⟩, ⟨40, 4, fun v => decide (bits v 30 20 = 0)⟩]
  | _ => []

/-- Table 10-4: CLIENT_REF of a class. -/
def clientRefOk (port cls v : Nat) : Bool :=
  match cls with
  | 0 => decide (v < 32)
  | 1 => decide (v < 128)
  | 2 => decide (v = 12 + port)
  | 3 => decide (v = 12 + port)
  | 4 => decide (v < 2)
  | _ => decide (v < 2 ^ 14) && decide (1 ≤ bits v 11 0) && decide (bits v 11 0 ≤ 4094)

/-- R268, Table 10-4: the first bad field of a create. -/
def createBad (r : Route) (p : List Byte) : Option Nat :=
  let b := byteAt p 2
  let cls := bits b 2 0
  let periodic := bitOf b 3
  let out := bitOf b 4
  let inb := bitOf b 5
  let dirsOk := match cls with
    | 0 => out && !inb
    | 1 => out != inb
    | _ => out || inb
  let plan := match r with
    | .fw => true
    | .image _ => true
    | _ => false
  let block := blockFlits (le p 30 2) (byteAt p 24 + 1) (byteAt p 25)
  let small (v : Nat) : Bool := cls = 1 && decide (v < block)
  firstBad ([rangeField 0 1 0 11,
    ⟨2, 1, fun v => decide (v < 128) && decide (cls ≤ 5) && (!periodic || decide (cls = 2) || decide (cls = 3)) && dirsOk⟩,
    rangeField 3 1 0 63,
    ⟨4, 2, fun v => rsvOk cls periodic out v && !(out && small v)⟩,
    ⟨6, 2, fun v => rsvOk cls periodic inb v && !(inb && small v)⟩,
    anyField 8 1, anyField 9 1, ⟨10, 2, fun v => plan || decide (v = 0)⟩,
    ⟨12, 4, clientRefOk (byteAt p 0) cls⟩, ⟨16, 2, ownerFieldOk⟩] ++ paramFields p cls) p

/-! ## TUN_CREATE (R268, R269, R107) -/

/-- R100: the lowest free TUN of a port. DESIGN CHOICE, log entry 34. -/
def State.freeTun (s : State) (port : Nat) : Option Nat :=
  let taken := (s.tunnels.filter fun e => decide (e.2.port = port) && decide (e.2.state ≠ .free)).map fun e => e.2.tun
  let x := s.port port
  ((List.range 1023).map (· + 1)).find? fun t => !taken.contains t && !(x.tun t).used

/-- The lowest free entry of the table. DESIGN CHOICE, log entry 34. -/
def State.freeTid (s : State) : Option Nat := (List.range 8192).find? fun t => decide ((s.tunnel t).state = .free)

/-- R347: a stream is bound by a tunnel already. -/
def State.streamBound (s : State) (ref : Nat) : Bool :=
  s.tunnels.any fun e => decide (e.2.state ≠ .free) && decide (e.2.cls = 0) && decide (e.2.clientRef.toNat = ref)

/-- R350: a VID is bound on that Ethernet port already. -/
def State.vidBound (s : State) (ref : Nat) : Bool :=
  s.tunnels.any fun e => decide (e.2.state ≠ .free) && decide (e.2.cls = 5) && decide (e.2.clientRef.toNat = ref)

/-- R107 step 2 for more reservation in each direction: the lane rule (R106, R109). -/
def State.laneCheck (s : State) (port moreOut moreIn : Nat) : Option (Status × Nat) :=
  let x := s.port port
  let fits (d : Dir) (m : Nat) : Bool :=
    decide (m = 0) || decide (s.laneSum port d + m ≤ s.ps port (laneCount (x.lanesIn d)))
  let excess := (decide (moreOut ≠ 0) && s.over port .outb && s.linkUp port)
    || (decide (moreIn ≠ 0) && s.over port .inb && s.linkUp port)
  firstSome [failIf excess .noBandwidth 0x13, failIf (!fits .outb moreOut) .noBandwidth 0x10,
    failIf (!fits .inb moreIn) .noBandwidth 0x11]

/-- R107 step 3: the ceiling of the client (R108). -/
def State.ceilingCheck (s : State) (client moreOut moreIn : Nat) : Option (Status × Nat) :=
  failIf (!(s.underCeiling client .outb moreOut && s.underCeiling client .inb moreIn)) .noBandwidth 0x12

/-- R107 steps 2 and 3. -/
def State.bandwidth (s : State) (port client moreOut moreIn : Nat) : Option (Status × Nat) :=
  firstSome [s.laneCheck port moreOut moreIn, s.ceilingCheck client moreOut moreIn]

/-- The entry that a create makes. -/
def newTunnel (c : Cmd) (tun : Nat) (gen : BitVec 8) (wait : Bool) : Tunnel :=
  let p := c.payload
  let b := byteAt p 2
  let cls := bits b 2 0
  { port := byteAt p 0, tun := tun, cls := cls, periodic := bitOf b 3, dirs := BitVec.ofNat 2 (bits b 5 4)
    state := .opening, gen := gen, owner := ownerNamed c.route (le p 16 2), persist := bitOf b 6
    key := BitVec.ofNat 16 (le p 10 2)
    rsvOut := if cls = 0 then dispFlits (modeOf p) else le p 4 2
    rsvIn := le p 6 2
    wOut := if byteAt p 8 = 0 then defaultWeight cls else byteAt p 8
    wIn := if byteAt p 9 = 0 then defaultWeight cls else byteAt p 9
    clientRef := BitVec.ofNat 32 (le p 12 4), notifyQ := byteAt p 3, notifyTag := c.tag
    params := (p.drop 24).take 96, planWait := wait, create := some c }

def infoTunCreate : CmdInfo :=
  { opcode := 0x0201, fromS := true, fromO := true, fromM := true, fromI := true, fromF := true, journal := true, len := 120 }

/-- R269: result bytes of a create. -/
def State.createResult (s : State) (tid : Nat) : List Byte :=
  let t := s.tunnel tid
  toLe 2 tid ++ toLe 2 t.tun ++ toLe 2 t.gen.toNat ++ toLe 2 t.rsvOut ++ toLe 2 t.rsvIn

/-- The route applies a plan entry, or stands for the plan. -/
def planRoute : Route → Bool
  | .image none => true
  | .fw => true
  | _ => false

/-- R107, R118, R119: a plan create on a port that is not ACTIVE, or where the lane rule refuses it, waits in OPENING. -/
def State.planWaits (s : State) (t : Tunnel) : Bool := !s.linkUp t.port || (s.laneCheck t.port t.rsvOut t.rsvIn).isSome

/-- The entry is made: an inbound tunnel's minimum credit is set aside (R135); TUN_OPEN goes once TERM_INFO has arrived (R94). A plan tunnel that the lane rule of an ACTIVE port refuses waits, its refusal told (R118). -/
def State.makeTunnel (s : State) (tid : Nat) (t : Tunnel) : State :=
  let s := s.setTunnel tid t
  let s := if t.dirs.getLsbD 1 then s.holdMin t.port t.tun t.cls else s
  if t.planWait then (if s.linkUp t.port then s.planRefused tid else s)
  else if (s.port t.port).termInfo.isNone then s
  else s.sendOpen tid

/-- What the checks of TUN_CREATE find (R268, R107). -/
def checksTunCreate (c : Cmd) (s : State) : Checks :=
  let p := c.payload
  let plan := planRoute c.route
  let port := byteAt p 0
  let tid := s.freeTid.getD 0
  let probe := newTunnel c ((s.freeTun port).getD 1) (s.tunnel tid).gen false
  let t := { probe with planWait := plan && s.planWaits probe }
  let ref := le p 12 4
  let bound := probe.cls = 0 && s.streamBound ref
  { bad := createBad c.route p
    deny := match c.route with
      | .image (some _) => some 5
      | _ => none
    owned := mayNameOwner c.route (le p 16 2)
    refuse := firstSome [
      failIf (probe.cls = 5 && s.vidBound ref) .denied 4,
      failIf bound .busy 0,
      failIf s.freeTid.isNone .noResource 1, failIf (s.freeTun port).isNone .noResource 2,
      failIf (t.dirs.getLsbD 1 && !s.canHold t.cls) .noResource 3, failIf (s.atTunLimit t.owner) .noResource 4,
      if plan then s.ceilingCheck t.client t.rsvOut t.rsvIn else s.bandwidth port t.client t.rsvOut t.rsvIn,
      failIf (!plan && !s.linkUp port) .linkLost 0x30]
    object := tid, new := t.value }

/-- TUN_CREATE (R268, R107): table, TUN, credit and limit checks, the lane rule, the ceiling, the port; then the entry is OPENING. A plan create completes at once. -/
def execTunCreate (c : Cmd) (s : State) : Result :=
  let p := c.payload
  let plan := planRoute c.route
  let port := byteAt p 0
  let tid := s.freeTid.getD 0
  let probe := newTunnel c ((s.freeTun port).getD 1) (s.tunnel tid).gen false
  let t := { probe with planWait := plan && s.planWaits probe }
  .next <| s.command infoTunCreate c (checksTunCreate c s) fun s =>
      let s := s.makeTunnel tid t
      if plan then
        (s.modTunnel tid fun x => { x with create := none }).ok c 0x0201 (s.createResult tid)
      else s

/-! ## TUN_DESTROY, TUN_MODIFY, TUN_QUERY, TUN_ADOPT, TUN_ALLOT_CFG (R270) -/

def infoTunDestroy : CmdInfo :=
  { opcode := 0x0202, fromS := true, fromO := true, fromM := true, fromF := true, journal := true, len := 3 }

/-- What the checks of TUN_DESTROY find (R270, Table 4-9). DEDUCED, log entry 41. -/
def checksTunDestroy (c : Cmd) (s : State) : Checks :=
  let tid := le c.payload 0 2
  let t := s.tunnel tid
  { bad := firstBad [rangeField 0 2 0 8191, anyField 2 1] c.payload
    owned := mayActOn c.route t
    refuse := firstSome [failIf (t.gen ≠ BitVec.ofNat 8 (byteAt c.payload 2)) .denied 0x40,
      failIf (decide (t.state = .free) || decide (t.state = .closing)) .denied 4]
    object := tid, old := t.value, new := [] }

/-- TUN_DESTROY (R270, Table 4-9). -/
def execTunDestroy (c : Cmd) (s : State) : Result :=
  let tid := le c.payload 0 2
  let t := s.tunnel tid
  .next <| s.command infoTunDestroy c (checksTunDestroy c s) fun s =>
      let s := (s.modTunnel tid fun x => { x with destroy := some c }).closeTunnel tid
      if t.cls = 2 || t.cls = 3 then s.rootFollows t.port else s

def infoTunModify : CmdInfo :=
  { opcode := 0x0203, fromS := true, fromO := true, fromM := true, fromF := true, journal := true, len := 11 }

/-- The values after a TUN_MODIFY. DEDUCED, log entry 44. -/
def Tunnel.modified (t : Tunnel) (p : List Byte) : Tunnel :=
  let m := byteAt p 3
  { t with
    rsvOut := if bitOf m 0 && t.cls ≠ 0 then le p 4 2 else t.rsvOut
    rsvIn := if bitOf m 0 then le p 6 2 else t.rsvIn
    wOut := if bitOf m 1 then (if byteAt p 8 = 0 then defaultWeight t.cls else byteAt p 8) else t.wOut
    wIn := if bitOf m 1 then (if byteAt p 9 = 0 then defaultWeight t.cls else byteAt p 9) else t.wIn
    persist := if bitOf m 2 then bitOf (byteAt p 10) 0 else t.persist }

/-- R102, R105, R270: the new values of an OPEN tunnel: outbound ones and PERSIST are entered at once, and the scheduler takes them at the next cycle start; inbound ones go by ALLOT_IN, a raise at its ALLOT_ACK and a cut from EFFECTIVE. -/
def State.startModify (s : State) (tid : Nat) (n : Tunnel) (cmd : Option Cmd) : State :=
  let t := s.tunnel tid
  let inbound := n.rsvIn ≠ t.rsvIn || n.wIn ≠ t.wIn
  let eff := s.cycle + 3
  let m : Modify := { cmd := cmd, rsvOut := n.rsvOut, rsvIn := n.rsvIn, wOut := n.wOut, wIn := n.wIn, persist := n.persist
                      raiseIn := decide (t.rsvIn < n.rsvIn), effective := if inbound then eff else 0, xid := (s.port t.port).xid
                      oldOut := t.rsvOut, oldWOut := t.wOut, oldWIn := t.wIn, oldPersist := t.persist }
  let s := s.setTunnel tid { t with rsvOut := n.rsvOut, wOut := n.wOut, persist := n.persist, modify := some m }
  let s := if inbound then s.sendAllot tid n.rsvIn n.wIn eff else s
  s.retryTunnels t.port

/-- What the checks of TUN_MODIFY find (R270). DEDUCED, log entry 41; DEDUCED, log entry 42. -/
def checksTunModify (c : Cmd) (s : State) : Checks :=
  let p := c.payload
  let tid := le p 0 2
  let t := s.tunnel tid
  let n := t.modified p
  let rsv := bitOf (byteAt p 3) 0 && decide (t.state ≠ .free)
  { bad := firstBad [rangeField 0 2 0 8191, anyField 2 1, rangeField 3 1 0 7,
    ⟨4, 2, fun v => !rsv || (decide (t.cls ≠ 0) && rsvOk t.cls t.periodic (t.dirs.getLsbD 0) v)⟩,
      ⟨6, 2, fun v => !rsv || rsvOk t.cls t.periodic (t.dirs.getLsbD 1) v⟩, anyField 8 1, anyField 9 1, rangeField 10 1 0 1] p
    owned := mayActOn c.route t
    refuse := firstSome [failIf (t.gen ≠ BitVec.ofNat 8 (byteAt p 2)) .denied 0x40, failIf (decide (t.state = .orphan)) .busy 0,
      failIf (decide (t.state ≠ .opened)) .denied 4,
      s.bandwidth t.port t.client (n.rsvOut - t.rsvOut) (n.rsvIn - t.rsvIn)]
    object := tid, old := t.value, new := n.value }

/-- TUN_MODIFY (R270, R271): one that finds an earlier one awaiting ALLOT_ACK waits for it. -/
def execTunModify (c : Cmd) (s : State) : Result :=
  let p := c.payload
  let tid := le p 0 2
  let t := s.tunnel tid
  let k := checksTunModify c s
  if t.modify.isSome && !s.waitsCtrl infoTunModify c && (firstFailure infoTunModify c s { k with refuse := none }).isNone
      && decide (t.gen = BitVec.ofNat 8 (byteAt p 2)) && t.state = .opened then
    .next ((s.startCmd c 0x0203).modTunnel tid fun x => { x with queued := x.queued ++ [c] })
  else .next <| s.command infoTunModify c k fun s => s.startModify tid (t.modified p) (some c)

/-- R271: the modify in progress has completed; the next one that waits is checked against the values now in force. -/
def State.nextModify (s : State) (tid : Nat) : State :=
  let t := s.tunnel tid
  match t.queued with
  | [] => s
  | c :: rest =>
    let s := s.setTunnel tid { t with queued := rest }
    match execTunModify c s with
    | .next s' => s'
    | _ => s

def infoTunQuery : CmdInfo :=
  { opcode := 0x0204, fromS := true, fromO := true, fromM := true, fromF := true, fromD := true, len := 2 }

/-- What the checks of TUN_QUERY find (R98, Table 10-7). -/
def checksTunQuery (c : Cmd) (s : State) : Checks :=
  let tid := le c.payload 0 2
  let t := s.tunnel tid
  { bad := firstBad [rangeField 0 2 0 8191] c.payload
    owned := mayActOn c.route t || decide (c.route = .diag) }

/-- TUN_QUERY (R98, Table 10-7). DEDUCED, log entry 12. -/
def execTunQuery (c : Cmd) (s : State) : Result :=
  let tid := le c.payload 0 2
  let t := s.tunnel tid
  .next <| s.command infoTunQuery c (checksTunQuery c s) fun s => s.ok c 0x0204
      (toLe 2 tid ++ toLe 1 t.port ++ toLe 2 t.tun
        ++ toLe 1 (t.cls + 8 * flag t.periodic + 16 * t.dirs.toNat + 64 * flag (decide (t.owner = .plan)) + 128 * flag t.persist)
        ++ toLe 1 t.state.ctorIdx ++ [t.gen] ++ toLe 2 t.owner.code ++ toLe 2 t.key.toNat ++ toLe 2 t.rsvOut ++ toLe 2 t.rsvIn
        ++ toLe 1 t.wOut ++ toLe 1 t.wIn ++ toLe 4 t.clientRef.toNat ++ toLe 1 t.notifyQ)

def infoTunAdopt : CmdInfo := { opcode := 0x0205, fromO := true, journal := true, len := 6 }

/-- What the checks of TUN_ADOPT find (R120). -/
def checksTunAdopt (c : Cmd) (s : State) : Checks :=
  let p := c.payload
  let tid := le p 0 2
  let t := s.tunnel tid
  let o := ownerNamed c.route (le p 4 2)
  let n := { t with owner := o, notifyQ := byteAt p 3, notifyTag := c.tag }
  { bad := firstBad [rangeField 0 2 0 8191, anyField 2 1, rangeField 3 1 0 63, ⟨4, 2, ownerFieldOk⟩] p
    refuse := firstSome [failIf (t.gen ≠ BitVec.ofNat 8 (byteAt p 2)) .denied 0x40,
      failIf (decide (t.state = .free) || decide (t.owner ≠ .plan)) .denied 0x41,
      failIf (s.atTunLimit o) .noResource 4]
    object := tid, old := t.value, new := n.value }

/-- TUN_ADOPT (R120): a slice takes a plan tunnel; PLAN is cleared, KEY kept. -/
def execTunAdopt (c : Cmd) (s : State) : Result :=
  let p := c.payload
  let tid := le p 0 2
  let t := s.tunnel tid
  let o := ownerNamed c.route (le p 4 2)
  let n := { t with owner := o, notifyQ := byteAt p 3, notifyTag := c.tag }
  .next <| s.command infoTunAdopt c (checksTunAdopt c s) fun s => (s.setTunnel tid n).ok c 0x0205 [t.gen]

def infoTunAllotCfg : CmdInfo :=
  { opcode := 0x0206, fromO := true, fromM := true, fromI := true, locked := true, journal := true, len := 12 }

/-- R415: canonical value of a port's allotment parameters, every MASK bit set. -/
def Allot.value (a : Allot) (port : Nat) : List Byte :=
  toLe 1 port ++ toLe 1 0x1F ++ toLe 2 a.turnThresh ++ toLe 2 a.turnCycles ++ toLe 2 a.holdCycles ++ toLe 2 a.homeCycles
    ++ toLe 2 a.orphanWin

/-- What the checks of TUN_ALLOT_CFG find (R110, R113, Table 4-12). DEDUCED, log entry 49. -/
def checksTunAllotCfg (c : Cmd) (s : State) : Checks :=
  let p := c.payload
  let port := byteAt p 0
  let m := byteAt p 1
  let a := (s.port port).allot
  let n := { a with
    turnThresh := if bitOf m 0 then le p 2 2 else a.turnThresh
    turnCycles := if bitOf m 1 then byteAt p 4 else a.turnCycles
    holdCycles := if bitOf m 2 then le p 6 2 else a.holdCycles
    homeCycles := if bitOf m 3 then le p 8 2 else a.homeCycles
    orphanWin := if bitOf m 4 then le p 10 2 else a.orphanWin }
  { bad := firstBad [rangeField 0 1 0 11, rangeField 1 1 0 31, ⟨2, 2, fun v => !bitOf m 0 || decide (16 ≤ v)⟩,
      ⟨4, 1, fun v => !bitOf m 1 || decide (1 ≤ v)⟩, anyField 6 2, anyField 8 2, ⟨10, 2, fun v => !bitOf m 4 || decide (v ≤ 600)⟩] p
    object := port, old := a.value port, new := n.value port }

/-- TUN_ALLOT_CFG (R110, R113, Table 4-12): only fields whose MASK bit is 1 are checked and written. -/
def execTunAllotCfg (c : Cmd) (s : State) : Result :=
  let p := c.payload
  let port := byteAt p 0
  let m := byteAt p 1
  let a := (s.port port).allot
  let n := { a with
    turnThresh := if bitOf m 0 then le p 2 2 else a.turnThresh
    turnCycles := if bitOf m 1 then byteAt p 4 else a.turnCycles
    holdCycles := if bitOf m 2 then le p 6 2 else a.holdCycles
    homeCycles := if bitOf m 3 then le p 8 2 else a.homeCycles
    orphanWin := if bitOf m 4 then le p 10 2 else a.orphanWin }
  .next <| s.command infoTunAllotCfg c (checksTunAllotCfg c s) fun s => (s.modPort port fun x => { x with allot := n }).ok c 0x0206 []

/-! ## Counters of the link -/

/-- R60, R65: PROTO_ERR of a port counts one; the times of those of the last 1 ms, at most 16, are kept. -/
def State.protoErr (s : State) (p : Nat) : State :=
  s.modPort p fun x =>
    let r := x.rx
    { x with rx := { r with protoErr := r.protoErr + 1
                            protoTimes := (r.protoTimes.filter (s.within 1000000) ++ [s.now]).drop ((r.protoTimes.filter (s.within 1000000)).length - 15) } }

/-- PROTO_DROP of a TUN. -/
def State.protoDrop (s : State) (p tun : Nat) : State :=
  s.modPort p fun x => x.modTun tun fun t => { t with protoDrop := t.protoDrop + 1 }

end Sys2Proof.Machine
end

