-- ==== Sys2Proof/Machine/Line.lean ====
section
/-! DEFINITION. Sys2Proof/Machine/Line.lean: flits and training blocks as bytes, the scrambler and the markers (R34, R35, R39, R57, R58). -/

namespace Sys2Proof.Machine

/-! ## Flits (R57 to R60) -/

/-- R58: HCHK over header bits 0 to 28. -/
def hchkStep (header : Nat) (c i : Nat) : Nat :=
  let fb := (bitOf c 2) != (bitOf header i)
  let sh := c * 2 % 8
  if fb then sh ^^^ 3 else sh
def hchk (header : Nat) : Nat := (List.range 29).foldl (hchkStep header) 7

/-- R57: a flit from its header bits 28:0 and its payload. -/
def flitBytes (header : Nat) (payload : List Byte) : List Byte :=
  let b := toLe 4 (header + 2 ^ 29 * hchk header) ++ padTo 120 payload
  b ++ toLe 4 (crc32 b).toNat

/-- Table 3-1: a DATA flit as bytes. -/
def DataFlit.bytes (f : DataFlit) : List Byte :=
  flitBytes (1 + 8 * flag f.poison + 16 * f.pri + 64 * f.tun + 2 ^ 16 * f.seq.toNat + 2 ^ 28 * flag f.bl) f.payload

/-- R59: HCHK and CRC of a received flit are right. -/
def flitGood (b : List Byte) : Bool :=
  let h := le b 0 4
  decide (b.length = 128) && decide (hchk (h % 2 ^ 29) = h / 2 ^ 29) && decide ((crc32 (b.take 124)).toNat = le b 124 4)

/-- Table 3-1: TYPE. -/
def flitType (b : List Byte) : Nat := byteAt b 0 % 8
/-- The payload. -/
def flitPayload (b : List Byte) : List Byte := (b.drop 4).take 120
/-- Table 3-1: the fields of a DATA flit. -/
def parseData (b : List Byte) : DataFlit :=
  let h := le b 0 4
  { seq := BitVec.ofNat 12 (bits h 27 16), tun := bits h 15 6, pri := bits h 5 4, bl := bitOf h 28, poison := bitOf h 3
    payload := flitPayload b }

/-- Payload bytes from `a` to `b` are 0. -/
def zeros (p : List Byte) (a b : Nat) : Bool := (List.range (b + 1 - a)).all fun i => decide (byteAt p (a + i) = 0)

/-- R60: a control flit's header bits 28:3 are 0. -/
def plainHeader (b : List Byte) : Bool := decide (bits (le b 0 4) 28 3 = 0)

/-! ## Scrambler (R35) -/

/-- R35: lane seeds. -/
def laneSeed : Nat → BitVec 23
  | 0 => 0x1DBFBC
  | 1 => 0x0607BB
  | 2 => 0x1EC760
  | _ => 0x18C0DB

/-- R35: one step of the scrambler (delay-line form, log entry 20): the bit it gives, and its next state. -/
def scramNext (x : BitVec 23) : BitVec 23 :=
  let b := x.getLsbD 22 ^^ x.getLsbD 20 ^^ x.getLsbD 15 ^^ x.getLsbD 7 ^^ x.getLsbD 4 ^^ x.getLsbD 1
  (x <<< 1) ||| BitVec.ofNat 23 (flag b)

/-- The scrambler after `n` bits. DEDUCED, log entry 20. -/
def scramRun : Nat → BitVec 23 → BitVec 23
  | 0, x => x
  | n + 1, x => scramRun n (scramNext x)

/-- R35: eight bits of the scrambler, the first in bit 0, and the scrambler after them. DEDUCED, log entry 20. -/
def scramByte (x : BitVec 23) : Byte × BitVec 23 :=
  let y := scramRun 8 x
  (BitVec.ofNat 8 ((List.range 8).foldl (fun n i => 2 * n + flag (y.getLsbD i)) 0), y)

/-- `n` bytes of the scrambler's output. -/
def scramTake : Nat → BitVec 23 → List Byte
  | 0, _ => []
  | n + 1, x => (scramByte x).1 :: scramTake n (scramByte x).2

/-- R35: a byte string scrambled, each byte least significant bit first, and the scrambler after it. -/
def scramble : List Byte → BitVec 23 → List Byte × BitVec 23
  | [], x => ([], x)
  | b :: t, x =>
    let r := scramble t (scramByte x).2
    ((b ^^^ (scramByte x).1) :: r.1, r.2)

/-! ## Markers (R34) -/

/-- R34: bytes 0 to 7 of the marker that a side sends on a lane. -/
def markerHead (lane : Nat) (d : Dir) (terminal : Bool) (group : Nat) : List Byte :=
  [0x4A, 0x54, 0x48, 0x4D, BitVec.ofNat 8 (lane + 4 * flag (decide (d = .inb)) + 8 * flag terminal)] ++ toLe 2 group ++ [0]

/-- R32, R33, R34: a marker of the AX1224 on an outbound lane: its head, then the scrambler from the lane seed up to the 1024 bits of a block or the 5140 of a codeword message (the last byte then holds 4). -/
def markerBytes (lane group : Nat) (fec : Bool) : List Byte :=
  markerHead lane .outb false group
  ++ if fec then (scramTake 635 (laneSeed lane)).mapIdx fun i b => if i = 634 then b &&& 15 else b
     else scramTake 120 (laneSeed lane)

/-- R34: a marker is accepted: bytes 0 to 4 match and at most 8 of the remaining bits differ. -/
def markerOk (lane : Nat) (d : Dir) (head : List Byte) (diff : Nat) : Bool :=
  decide (head.take 5 = (markerHead lane d true 0).take 5) && decide (diff ≤ 8)

/-! ## Training blocks (R39, Table 2-3) -/

/-- Table 2-3: TB_TYPE values. -/
def tbTypes : List Nat := [0x11, 0x12, 0x21, 0x22, 0x31, 0x32, 0x33, 0x41, 0x51]

/-- R39: a training block that a receiver takes: CRC, TB_TYPE and reserved fields are right. -/
def tbGood (b : List Byte) : Bool :=
  decide (b.length = 128) && decide ((crc32 (b.take 124)).toNat = le b 124 4) && tbTypes.contains (byteAt b 0)
  && decide (bits (byteAt b 1) 7 6 = 0) && !bitOf (byteAt b 4) 7 && decide (bits (byteAt b 5) 7 5 = 0)
  && decide (bits (byteAt b 8) 7 5 = 0) && decide (bits (byteAt b 9) 7 6 = 0) && decide (bits (byteAt b 10) 7 6 = 0)
  && decide (bits (byteAt b 12) 7 5 = 0) && zeros b 13 15 && zeros b 36 123

def tbType (b : List Byte) : Nat := byteAt b 0
def tbTrainId (b : List Byte) : BitVec 16 := BitVec.ofNat 16 (le b 2 2)
/-- Table 2-3: bytes 16 to 27. -/
def tbPeer (b : List Byte) : PeerId :=
  { vendor := BitVec.ofNat 16 (le b 16 2), product := BitVec.ofNat 16 (le b 18 2), rev := BitVec.ofNat 8 (byteAt b 20)
    llver := BitVec.ofNat 8 (byteAt b 21), serial := BitVec.ofNat 48 (le b 22 6) }
/-- Table 2-3: a cursor in units of 1/64. -/
def tbCursor (b : List Byte) (i : Nat) : Int := signed 6 (byteAt b i % 64)

/-- Table 2-4: presets in units of 1/64, rounded to the nearest. -/
def presets : List (Int × Int) :=
  [(0, 0), (0, -6), (0, -13), (0, -19), (-3, -6), (-3, -13), (-6, -10), (-6, -16)]

/-- R40: initial preset of a rate. -/
def initialPreset : Rate → Nat
  | .j56 => 5
  | .j28 => 2
  | .j14 => 1

/-- R43: ERR_LOG2 passes. -/
def errPasses (fec : Bool) (err : Nat) : Bool := decide ((if fec then 17 else 40) ≤ err)

end Sys2Proof.Machine
end

