-- ==== Sys2Proof/Machine/Link.lean ====
section
/-! DEFINITION. Sys2Proof/Machine/Link.lean: training, loss and recalibration of a Jayth link ("Jayth link: lanes, rates and training"). -/

namespace Sys2Proof.Machine

/-! ## Rates and lane sets (R42, R44) -/

def Rate.code (r : Rate) : Nat := r.ctorIdx
def rateOf : Nat → Rate
  | 0 => .j14
  | 1 => .j28
  | _ => .j56
def Rate.le (a b : Rate) : Bool := decide (a.code ≤ b.code)
/-- R45: one rate lower. -/
def Rate.lower : Rate → Rate
  | .j56 => .j28
  | _ => .j14
def Rate.min (a b : Rate) : Rate := if a.le b then a else b

/-- R45: the port's maximum in force. -/
def Port.maxRate (x : Port) : Rate := x.train.lowered.getD x.link.maxRate

/-- R42, R226: the terminal's RATE_CAP: that of its training blocks, within that of its mode VDO. DEDUCED, log entry 146. -/
def Port.peerRates (x : Port) : BitVec 3 :=
  match x.pd.partnerVdo with
  | some v => x.train.peerRateCap &&& v.setWidth 3
  | none => x.train.peerRateCap

/-- R42: the highest rate in both RATE_CAPs that the cable and the port's maximum for the attempt permit; J14 if none is higher. -/
def Port.selectRate (x : Port) : Rate :=
  let top := (x.pd.cable.maxRate.getD .j14).min x.train.maxNow
  if top.le .j28 then
    if top.le .j14 then .j14 else if x.peerRates.getLsbD 1 then .j28 else .j14
  else if x.peerRates.getLsbD 2 then .j56
  else if x.peerRates.getLsbD 1 then .j28 else .j14

/-- R42, R55: FEC at a rate. -/
def Port.selectFec (x : Port) (r : Rate) : Bool :=
  match r with
  | .j56 => true
  | .j28 => x.link.fecJ28 || x.train.peerFecCap.getLsbD 1 || x.pd.cable.fec28
  | .j14 => x.link.fecJ14 || x.train.peerFecCap.getLsbD 0 || x.pd.cable.fec14

/-- R42, R44: a lane set with the locked lanes where R44 places them and the excluded ones left out. -/
def Port.placed (x : Port) (m : BitVec 4) : BitVec 4 := ((m &&& ~~~(x.lockRec)) ||| (x.lockRec &&& x.lockOut)) &&& ~~~x.exclRec

/-- R42: OUT_MASK. -/
def Port.outMask (x : Port) : BitVec 4 :=
  let home := if x.link.homeMask = 0 then 5 else x.link.homeMask
  let try' (m : BitVec 4) : Bool := decide (x.placed m ≠ 0) && decide (~~~(x.placed m) &&& ~~~x.exclRec ≠ 0)
  if !x.pd.cable.dirAgile then 5
  else if try' home then x.placed home else x.placed 5

/-- The peer's identity without revision and version (R115). -/
def sameUnit (a b : PeerId) : Bool :=
  decide (a.vendor = b.vendor) && decide (a.product = b.product) && decide (a.serial = b.serial)

/-- R47: the port holds stored sets of every lane in use for the peer it sees. -/
def Port.storedOk (x : Port) : Bool :=
  decide (x.train.storedFor.isSome) && decide (x.train.storedFor = x.train.peer)
  && (lanesOf (~~~x.exclRec)).all fun l => !(x.lane l).sets.isEmpty

/-- R44, R55: the lanes that a direction may use: not those locked to the other, and over a cable of fixed direction only its own. -/
def Port.usable (x : Port) (d : Dir) : BitVec 4 :=
  let fixed : BitVec 4 := if d = .outb then 5 else 10
  let locked := if d = .outb then x.lockRec &&& ~~~x.lockOut else x.lockRec &&& x.lockOut
  (if x.pd.cable.dirAgile then 15 else fixed) &&& ~~~locked &&& ~~~x.exclRec

/-- R47: a lane holds the set of a rate and direction. -/
def Lane.hasSet (v : Lane) (r : Rate) (d : Dir) : Bool := v.sets.any fun e => decide (e.rate = r) && decide (e.dir = d)

/-- R47: a set takes the place of the one of its rate and direction. -/
def Lane.putSet (v : Lane) (e : EqSet) : Lane :=
  { v with sets := (v.sets.filter fun x => !(decide (x.rate = e.rate) && decide (x.dir = e.dir))) ++ [e] }

/-- R47: the stored set of a rate and direction is loaded: the coefficients of a transmitter, the state of a receiver. -/
def Lane.load (v : Lane) (r : Rate) (d : Dir) : Lane :=
  match v.sets.find? fun e => decide (e.rate = r) && decide (e.dir = d) with
  | some e => if d = .outb then { v with pre := e.pre, post := e.post, preset := none } else { v with rx := e.rx }
  | none => v

/-- R47: what a lane holds of a direction, as a set of rate `r`; `rx` is what its receiver has found. DESIGN CHOICE, log entry 21. -/
def Lane.save (v : Lane) (r : Rate) (d : Dir) (rx : BitVec 64) : Lane :=
  if d = .outb then v.putSet { rate := r, dir := .outb, pre := v.pre, post := v.post }
  else { v.putSet { rate := r, dir := .inb, rx := rx } with rx := rx }

/-- R42, R47: the sets of a rate that the CHECK path would use are held. DEDUCED, log entry 146. -/
def Port.setsAt (x : Port) (r : Rate) : Bool :=
  [Dir.outb, Dir.inb].all fun d => (lanesOf (x.usable d)).all fun l => (x.lane l).hasSet r d

/-! ## What the AX1224 sends in training (R38 to R41, Table 2-3) -/

/-- The TB_TYPE of the blocks that a state sends of itself. -/
def Train.sends (t : Train) : Nat :=
  match t.state with
  | .poll => if t.tb2Since.isSome then 0x12 else 0x11
  | .config => 0x21
  | .check => 0x33
  | .sync => 0x41
  | _ => 0x11

/-- Table 2-3: the fields of a training block that are not the port's own: TB_TYPE, the request of an EQ_REQ, ERR_LOG2, TARGET_LANE, PASS, REJECT and LANE_FAIL. -/
structure TbOut where
  typ : Nat := 0x11
  req : Option (BitVec 16) := none
  err : Option Nat := none
  target : Nat := 0
  passB : Bool := false
  reject : Bool := false
  laneFail : Bool := false

/-- R40: bytes 8 to 10 of a training block: the request of an EQ_REQ, else the setting of the lane it goes on, in the form in which it was given. DESIGN CHOICE, log entry 144. -/
def Lane.coefBytes (v : Lane) (req : Option (BitVec 16)) : List Byte :=
  match req with
  | some q => toLe 1 (q.toNat % 16 + (if q.getLsbD 3 then 8 else 0)) ++ toLe 1 ((64 - bits q.toNat 9 4 % 17) % 64) ++ toLe 1 ((64 - bits q.toNat 15 10 % 25) % 64)
  | none => match v.preset with
    | some k => toLe 1 k ++ toLe 2 0
    | none => toLe 1 16 ++ toLe 1 (v.pre % 64).toNat ++ toLe 1 (v.post % 64).toNat

/-- Table 2-3: a training block of the AX1224 on a lane. RX_TAGS holds the TAG received on each inbound lane. DESIGN CHOICE, log entry 145. -/
def State.tbBytes (s : State) (p lane : Nat) (o : TbOut) : List Byte :=
  let x := s.port p
  let t := x.train
  let l := x.lane lane
  let cfg := decide (5 ≤ t.state.ctorIdx) || decide (t.state = .config) || decide (t.state = .rate)
  let b : List Byte :=
    toLe 1 o.typ ++ toLe 1 (2 + 4 * lane + 16 * (Config.laneTag lane).toNat) ++ toLe 2 t.trainId.toNat
    ++ toLe 1 (7 + 8 * flag x.link.fecJ14 + 16 * flag x.link.fecJ28 + 32 + 64 * flag x.storedOk)
    ++ toLe 1 (if cfg then t.rateSel.code + 4 * flag t.fecSel + 8 * flag t.precodeSel + 16 * flag t.useStored else 0)
    ++ toLe 1 (if cfg then t.outMask.toNat + 16 * t.laneExcl.toNat else 0)
    ++ toLe 1 (if o.typ = 0x12 then t.rxTags.toNat else 0)
    ++ l.coefBytes o.req ++ toLe 1 (o.err.getD l.errLog2)
    ++ toLe 4 (o.target + 4 * flag o.passB + 8 * flag o.reject + 16 * flag o.laneFail)
    ++ toLe 2 0x1FE7 ++ toLe 2 0xC124 ++ toLe 1 Config.silicon.toNat ++ toLe 1 1 ++ toLe 6 s.boot.serial.toNat
    ++ toLe 4 (if o.typ = 0x41 then s.now.toNat % 2 ^ 32 else 0)
  let b := padTo 124 b
  b ++ toLe 4 (crc32 b).toNat

/-- The block that the present state sends on a lane. DESIGN CHOICE, log entry 145. -/
def State.tbSent (s : State) (p lane : Nat) : List Byte := s.tbBytes p lane { typ := (s.port p).train.sends, target := lane }

/-- R35, R39: the training blocks of the lanes of a set are these from now on; each restarts the scrambler of its lane. DESIGN CHOICE, log entry 147. -/
def State.sendTb (s : State) (p : Nat) (lanes : BitVec 4) (o : Nat → TbOut) : State :=
  (lanesOf lanes).foldl (fun s l =>
    (s.send (.tb p l (s.tbBytes p l (o l)))).modPort p fun x => x.modLane l fun v => { v with scram := laneSeed l }) s

/-- R32 to R34: a marker on an outbound lane: the next group begins. DESIGN CHOICE, log entry 148. -/
def State.sendMarker (s : State) (p l : Nat) : State :=
  let x := s.port p
  (s.send (.marker p l (markerBytes l (x.lane l).groupTx.toNat x.fec))).modPort p fun x =>
    x.modLane l fun v => { v with groupTx := v.groupTx + 1, flitsTx := 0, scram := laneSeed l }

/-- The lanes this side sends on in a state of training; CHECK begins with those of pass A. -/
def Train.transmits (t : Train) : BitVec 4 :=
  match t.state with
  | .detect => 5
  | .poll => 5
  | .flip => 10 &&& ~~~t.laneExcl
  | .eqB => 10 &&& ~~~t.laneExcl
  | .sync => t.outNow &&& ~~~t.laneExcl
  | _ => 5 &&& ~~~t.laneExcl

/-- R41: what the state entered sends. DESIGN CHOICE, log entry 147. -/
def State.announce (s : State) (p : Nat) : State :=
  let t := (s.port p).train
  s.sendTb p t.transmits fun l => { typ := t.sends, target := l }

/-! ## Attempts (R41, R45) -/

def State.modTrain (s : State) (p : Nat) (f : Train → Train) : State := s.modPort p fun x => { x with train := f x.train }

/-- Every lane record changed by `f`. -/
def Port.mapLanes (x : Port) (f : Lane → Lane) : Port :=
  { x with lane0 := f x.lane0, lane1 := f x.lane1, lane2 := f x.lane2, lane3 := f x.lane3 }

/-- Table 2-5: time limits of the states, in µs. -/
def stateLimit : TrainState → Nat
  | .detect => 100
  | .poll => 100
  | .config => 100
  | .rate => 150
  | .eqA => 1000
  | .flip => 20
  | .eqB => 1000
  | .check => 100
  | .sync => 30
  | _ => 0

/-- A training state is entered: its limit runs, its progress starts anew. -/
def State.enter (s : State) (p : Nat) (st : TrainState) : State :=
  s.modPort p fun x =>
    ({ x with train := { x.train with state := st, due := some (s.after (1000 * stateLimit st)), locked := 0, rateIdle := false, idle := false } }).mapLanes
      fun l => { l with eqReqs := 0 }

/-- R38, R45: training starts at DETECT, with TRAIN_ID incremented, the initial preset of J14 and the maximum rate now in force; TB1 goes on L0 and L2. -/
def State.startDetect (s : State) (p : Nat) : State :=
  let s := s.enter p .detect
  let s := s.modPort p fun x =>
    ({ x with
      outSet := 5, inSet := 10, transit := none
      train := { x.train with trainId := x.train.trainId + 1, rateSel := .j14, fecSel := false, precodeSel := false, useStored := false
                              tb2Since := none, cfgAcks := 0, rxTags := 0, peer := none, doneA := 0, doneB := 0, failOut := 0, failIn := 0
                              syncMarks := 0, echoSeen := false, maxNow := x.maxRate } }).mapLanes fun l =>
      { l with tb1Good := 0, pre := 0, post := -6, preset := some 1, reject := false }
  s.announce p

/-- R45: the maximum returns to the configured value and every count restarts at 0. -/
def Train.clearCounts (t : Train) : Train := { t with failJ14 := 0, failJ28 := 0, failJ56 := 0, lowered := none }

/-- Table 2-5: DISABLED: lanes in electrical idle. -/
def State.trainDisable (s : State) (p : Nat) : State :=
  s.modPort p fun x => { x with train := { x.train.clearCounts with state := .disabled, due := none, idle := false, rateIdle := false }, transit := none, outSet := 5, inSet := 10 }

/-- R45, R46, R53, R228: training ends in FAILED: TRAIN_FAIL with its cause, Exit Mode, native fallback. -/
def State.trainFailed (s : State) (p : Nat) (cause : LinkCause) : State :=
  let s := s.modTrain p fun t => { t with state := .failed, due := none, idle := false, rateIdle := false, cause := cause }
  let s := (s.event (evPort p 7)).trace (agentPort p) 0 p
  (s.sendExitJayth p).fallback p 5

/-- The rate at which an attempt counts: the rate chosen in CONFIG, or before that the port's maximum. DEDUCED, log entry 114. -/
def Port.attemptRate (x : Port) : Rate :=
  if x.train.state = .detect || x.train.state = .poll || x.train.state = .config then x.train.maxNow else x.train.rateSel

def Train.fails (t : Train) : Rate → Nat
  | .j14 => t.failJ14
  | .j28 => t.failJ28
  | .j56 => t.failJ56
def Train.addFail (t : Train) : Rate → Train
  | .j14 => { t with failJ14 := t.failJ14 + 1 }
  | .j28 => { t with failJ28 := t.failJ28 + 1 }
  | .j56 => { t with failJ56 := t.failJ56 + 1 }

/-- R45: an attempt fails: FAIL goes to the terminal when the AX1224 finds it (DEDUCED, log entry 149), then 1 ms of electrical idle; after three at one rate the maximum drops one rate, after three at J14 the port is FAILED. -/
def State.attemptFails (s : State) (p : Nat) (tell : Bool) : State :=
  let r := (s.port p).attemptRate
  let s := if tell then s.sendTb p (s.port p).train.transmits fun l => { typ := 0x51, target := l } else s
  let s := s.modTrain p fun t => t.addFail r
  let s := s.trace (agentPort p) 0 p
  if 3 ≤ (s.port p).train.fails r then
    if r = .j14 then s.trainFailed p .none
    else
      let s := s.modTrain p fun t => { t with lowered := some r.lower, state := .detect, idle := true, due := some (s.after 1000000) }
      s.event (evPort p 6)
  else s.modTrain p fun t => { t with state := .detect, idle := true, due := some (s.after 1000000) }

/-! ## ACTIVE and link down (R41, R52, R53) -/

/-- HUB_INFO (Table 4-6). -/
def State.sendHubInfo (s : State) (p : Nat) (restore : Bool) : State :=
  let m : MgmtMsg := { msg := 1, xid := (s.port p).xid
                       body := toLe 8 s.cycle ++ toLe 1 (flag restore) ++ [0x01] ++ toLe 2 (s.port p).keepForce ++ toLe 4 0 }
  (s.modPort p fun x => { x with xid := x.xid + 1 }).queueMgmt p m

/-- R47: the recalibration period of the lanes runs. -/
def State.armRecal (s : State) (p : Nat) : State :=
  let h := (s.port p).link.recalHours
  s.modPort p fun x => x.mapLanes fun l =>
    { l with recalDue := if h = 0 then none else some (l.recalDue.getD (s.after (h * 3600000000000))), badTold := false }

/-- R41, R45, R66, R94, R115, R493: the port enters ACTIVE. DESIGN CHOICE, log entry 167. -/
def State.linkUpNow (s : State) (p : Nat) : State :=
  let x := s.port p
  let t := x.train
  let out := t.outNow
  let s := s.setPort p
    { x with
      train := { t.clearCounts with state := .active, due := none, held := t.peer, lowered := t.lowered }
      outSet := out &&& ~~~t.laneExcl, inSet := ~~~out &&& ~~~t.laneExcl
      keepForce := x.link.keepAlive, toForce := x.link.linkTimeout
      tx := { idleDue := if x.link.sleepIdle = 0 then none else some (s.after (1000 * x.link.sleepIdle)) }
      rx := { protoErr := x.rx.protoErr, linkDue := some (s.after (100000 * x.link.linkTimeout))
              creditDue := some (s.after 1000000) }
      time := { due := some (s.after (1000 * x.link.timePeriod)), pathDelay := t.rtt * 8 }
      allot := { x.allot with cOut := 0, cIn := 0, lastToOut := none, lastToIn := none, homeRun := 0 }
      restoring := false }
  let s := (s.armRecal p).event (evPort p 0)
  let s := s.trace (agentPort p) 0 p
  let same := match x.train.held, t.peer with
    | some a, some b => sameUnit a b
    | _, _ => true
  let orphans := s.portTunnels p .orphan
  let s := if same then s else orphans.foldl (fun s t => s.teardown t 7) s
  let restore := same && !orphans.isEmpty
  ((s.modPort p fun y => { y with restoring := restore }).sendHubInfo p restore).grant p 0 6 16 0

/-- R52, R53, R113: an ACTIVE link goes down: LINK_DOWN, a lane change is abandoned, the tunnels follow Table 4-9. -/
def State.linkLost (s : State) (p : Nat) : State :=
  if s.linkUp p then
    let s := s.modPort p fun x => { x with transit := none, recalRetry := none, defExcl := none, tx := {}, rx := { protoErr := x.rx.protoErr }
                                           time := { x.time with due := none, samples := [], pdValid := false, forming := false } }
    let s := s.modTrain p fun t => { t with state := .detect, cause := .none }
    let s := (s.event (evPort p 1)).trace (agentPort p) 0 p
    s.tunnelsLinkDown p
  else s

/-- R52, R70: link down for a cause, with a retrain at DETECT. -/
def State.retrainFor (s : State) (p : Nat) (cause : LinkCause) : State :=
  if s.linkUp p then ((s.linkLost p).modTrain p fun t => { t with cause := cause }).startDetect p else s

/-- R52: link down with a retrain at DETECT. -/
def State.linkRetrain (s : State) (p : Nat) : State := s.retrainFor p .none

/-- Table 2-6, R52: CC detach, Hard Reset or Exit Mode: DISABLED at once; LINK_DOWN only from ACTIVE. -/
def State.linkDisable (s : State) (p : Nat) : State :=
  if (s.port p).train.state = .disabled then s else (s.linkLost p).trainDisable p

/-! ## Training events -/

/-- R42: CONFIG begins: CFG carries the values the AX1224 selects. DEDUCED, log entry 146. -/
def State.enterConfig (s : State) (p : Nat) : State :=
  let s := s.enter p .config
  let s := s.modPort p fun x =>
    let r := x.selectRate
    { x with train := { x.train with rateSel := r, fecSel := x.selectFec r, precodeSel := decide (r = .j56) && x.train.peerPrecode
                                     useStored := x.storedOk && x.train.peerStored && x.setsAt r, outMask := x.outMask, outNow := x.outMask
                                     laneExcl := x.exclRec, cfgAcks := 0 } }
  s.announce p

/-- The lanes the link uses. -/
def Train.lanes (t : Train) : BitVec 4 := ~~~t.laneExcl

/-- R44: the lanes of an EQ are judged: one that failed in one direction is locked to the other, one that failed in both is excluded, each with LANE_EXCLUDED. -/
def State.judgeLanes (s : State) (p : Nat) : State :=
  let x := s.port p
  let t := x.train
  let agile := x.pd.cable.dirAgile
  let fo := if agile then t.failOut else t.failOut ||| 10
  let fi := if agile then t.failIn else t.failIn ||| 5
  let both := fo &&& fi &&& t.lanes
  let one := (fo ^^^ fi) &&& t.lanes
  let news := if agile then both ||| one else both
  let s := s.setPort p
    { x with
      exclRec := x.exclRec ||| both
      lockRec := if agile then (x.lockRec &&& ~~~t.lanes) ||| one else x.lockRec
      lockOut := if agile then (x.lockOut &&& ~~~one) ||| (one &&& fi) else x.lockOut
      train := { t with laneExcl := t.laneExcl ||| both } }
  (lanesOf news).foldl (fun s _ => (s.event (evPort p 2)).trace (agentPort p) 0 p) s

/-- R41, R47: the sets of one pass of EQ are stored for this peer: the transmitters of one pair of lanes, the receivers of the other; what a receiver has found is a free value. DESIGN CHOICE, log entry 21. -/
def State.storePass (s : State) (p : Nat) (passB : Bool) : State :=
  let free := s.freeCtr
  let s := s.modPort p fun x =>
    let r := x.train.rateSel
    let sends : BitVec 4 := if passB then 10 else 5
    let upd (l : Nat) (v : Lane) : Lane :=
      if !x.train.lanes.getLsbD l then v
      else if sends.getLsbD l then (if x.train.failOut.getLsbD l then v else v.save r .outb 0)
      else if x.train.failIn.getLsbD l then v else v.save r .inb (Config.rxState (free + l))
    { x with lane0 := upd 0 x.lane0, lane1 := upd 1 x.lane1, lane2 := upd 2 x.lane2, lane3 := upd 3 x.lane3
             train := { x.train with storedFor := x.train.peer } }
  { s with freeCtr := s.freeCtr + 4 }

/-- R49: an equalisation of a lane has ended: its period starts anew, and the temperature is noted. -/
def State.eqNoted (s : State) (p : Nat) (f : Nat → Bool) : State :=
  let h := (s.port p).link.recalHours
  let due := if h = 0 then none else some (s.after (h * 3600000000000))
  s.modPort p fun x =>
    let upd (l : Nat) (v : Lane) : Lane := if f l then { v with eqTemp := x.temp, recalDue := due } else v
    { x with lane0 := upd 0 x.lane0, lane1 := upd 1 x.lane1, lane2 := upd 2 x.lane2, lane3 := upd 3 x.lane3 }

/-- R41: SYNC begins: the lanes turn to OUT_MASK and load their stored sets; SYNC_GO is sent. -/
def State.enterSync (s : State) (p : Nat) : State :=
  let s := (s.modTrain p fun t => { t with syncMarks := 0 }).enter p .sync
  let s := s.modPort p fun x =>
    let upd (l : Nat) (v : Lane) : Lane := v.load x.train.rateSel (if x.train.outNow.getLsbD l then .outb else .inb)
    { x with lane0 := upd 0 x.lane0, lane1 := upd 1 x.lane1, lane2 := upd 2 x.lane2, lane3 := upd 3 x.lane3 }
  s.announce p

/-- R44, Table 2-5: EQ has ended: the lanes are judged; without a lane in one direction the attempt fails, else SYNC. -/
def State.eqEnds (s : State) (p : Nat) : State :=
  let s := (s.eqNoted p (fun _ => true)).judgeLanes p
  let x := s.port p
  let out := x.placed x.train.outMask
  let out := if out = 0 || (~~~out &&& ~~~x.exclRec) = 0 then x.placed 5 else out
  let inn := ~~~out &&& ~~~x.exclRec
  if out = 0 || inn = 0 then s.attemptFails p true
  else (s.modTrain p fun t => { t with outNow := out }).enterSync p

/-- Table 2-5: the lanes this side receives in the present pass; CHECK runs both. -/
def Train.receives (t : Train) : BitVec 4 :=
  match t.state with
  | .flip => 5
  | .eqB => 5
  | .check => 15
  | .sync => ~~~t.outNow
  | _ => 10

/-- R40: what an EQ_REQ of the terminal does to the transmitter of its target lane: a pair beyond 26/64 is refused with REJECT, another is in force at once; the next block of the lane echoes the setting. DESIGN CHOICE, log entry 144. -/
def State.applyRequest (s : State) (p : Nat) (b : List Byte) : State :=
  let l := byteAt b 12 % 4
  let coef := bitOf (byteAt b 8) 4
  let want := if coef then (tbCursor b 9, tbCursor b 10) else presets.getD (byteAt b 8 % 8) (0, 0)
  let bad := decide (26 < want.1.natAbs + want.2.natAbs)
  let s := s.modPort p fun x => x.modLane l fun v =>
    if bad then { v with reject := true }
    else { v with pre := want.1, post := want.2, preset := if coef then none else some (byteAt b 8 % 8), reject := false }
  s.sendTb p (laneBit l) fun _ => { target := l, passB := bitOf (byteAt b 12) 2, reject := bad }

/-- R41, R43: this side's receiver of lane `l` has the estimate `err`: EQ_DONE when it passes, EQ_REQ while it does not, EQ_DONE with LANE_FAIL after 32 requests; answers whether the lane is done and whether it failed. DESIGN CHOICE, log entry 144. -/
def State.eqAnswer (s : State) (p l : Nat) (on : BitVec 4) (fec : Bool) (err : Nat) (passB : Bool) : State × Bool × Bool :=
  let done (fail : Bool) : State := s.sendTb p on fun _ => { typ := 0x32, target := l, passB := passB, err := some err, laneFail := fail }
  if errPasses fec err then (done false, true, false)
  else if 32 ≤ ((s.port p).lane l).eqReqs then (done true, true, true)
  else
    let q := Config.eqRequest s.freeCtr
    let s := (s.modPort p fun x => x.modLane l fun v => { v with eqReqs := v.eqReqs + 1 }).tickFree
    (s.sendTb p on fun _ => { typ := 0x31, req := some q, target := l, passB := passB, err := some err }, false, false)

/-- R41, R43: one TB in EQ on lane `l`: this side's own receiver, then what the TB says of the lanes it sends. DEDUCED, log entry 114. -/
def State.eqStep (s : State) (p l : Nat) (b : List Byte) (err : Nat) (passB : Bool) : State :=
  let t := (s.port p).train
  let rx := t.receives &&& t.lanes
  let s := s.modPort p fun x => x.modLane l fun v => { v with errLog2 := err }
  let s :=
    if !rx.getLsbD l || t.doneA.getLsbD l then s
    else
      let r := s.eqAnswer p l t.transmits t.fecSel err passB
      r.1.modTrain p fun t =>
        { t with doneA := if r.2.1 then t.doneA ||| laneBit l else t.doneA, failIn := if r.2.2 then t.failIn ||| laneBit l else t.failIn }
  let tgt := byteAt b 12 % 4
  let mine := bitOf (byteAt b 12) 2 = passB && !rx.getLsbD tgt
  if tbType b = 0x31 && mine then s.applyRequest p b
  else if tbType b = 0x32 && mine then
    s.modTrain p fun t => { t with doneA := t.doneA ||| laneBit tgt
                                   failOut := if bitOf (byteAt b 12) 4 then t.failOut ||| laneBit tgt else t.failOut }
  else s

/-- Every lane in use is done. -/
def Train.allDone (t : Train) : Bool := decide (t.doneA &&& t.lanes = t.lanes)

/-- Table 2-5: DETECT and POLL take what the terminal's TB says of itself. -/
def State.notePeer (s : State) (p : Nat) (b : List Byte) : State :=
  let peer := tbPeer b
  s.modPort p fun x =>
    let x := { x with train := { x.train with peer := some peer, peerRateCap := BitVec.ofNat 3 (byteAt b 4), peerFecCap := BitVec.ofNat 2 (bits (byteAt b 4) 4 3)
                                              peerPrecode := bitOf (byteAt b 4) 5, peerStored := bitOf (byteAt b 4) 6 } }
    if x.train.storedFor.isSome && x.train.storedFor ≠ some peer then
      ({ x with train := { x.train with storedFor := none } }).mapLanes fun l => { l with sets := [] }
    else x

/-- R41: 16 TB2 have been sent: every fourth block of 1026 bits at J14 (72.96 ns) is a training block. DEDUCED, log entry 114. -/
def tb2Sent (s : State) (t : Train) : Bool :=
  match t.tb2Since with
  | some a => decide (16 * 4 * 7296 ≤ (s.now - a).toNat * 100)
  | none => false

/-- R46, SYNC: the echo of SYNC_GO gives the round trip; one beyond 10,200 ns ends in FAILED at once, cause CABLE_DELAY; else operating framing begins, with a marker on each outbound lane. -/
def State.syncEcho (s : State) (p : Nat) (b : List Byte) : State :=
  let rtt := (BitVec.ofNat 32 s.now.toNat - BitVec.ofNat 32 (le b 28 4) - BitVec.ofNat 32 (le b 32 4)).toNat
  if (s.port p).train.echoSeen then s
  else if 10200 < rtt then s.trainFailed p .cableDelay
  else
    let s := s.modTrain p fun t => { t with rtt := rtt, echoSeen := true }
    (lanesOf (s.port p).train.transmits).foldl (fun s l => s.sendMarker p l) s

/-- R47: the stored sets of the port are discarded. -/
def State.dropSets (s : State) (p : Nat) : State :=
  s.modPort p fun x => ({ x with train := { x.train with storedFor := none } }).mapLanes fun v => { v with sets := [] }

/-- CHECK: lane `l` receives at `err`, which a CHECK tells the terminal; a CHECK of the terminal reports its target lane. A lane below R43 fails the attempt, and the stored sets go. Each lane is checked in the directions it may use (R44, R55). -/
def State.checkStep (s : State) (p l : Nat) (b : List Byte) (err : Nat) : State :=
  let t := (s.port p).train
  let tgt := byteAt b 12 % 4
  let peerSays := tbType b = 0x33 && t.lanes.getLsbD tgt
  let on : BitVec 4 := (if (10 : BitVec 4).getLsbD l then 5 else 10) &&& t.lanes
  let s := s.modPort p fun x => x.modLane l fun v => { v with errLog2 := err }
  let s := s.sendTb p on fun _ => { typ := 0x33, target := l, passB := !(10 : BitVec 4).getLsbD l, err := some err, laneFail := !errPasses t.fecSel err }
  if (t.lanes.getLsbD l && !errPasses t.fecSel err) || (peerSays && !errPasses t.fecSel (byteAt b 11)) then
    (s.dropSets p).attemptFails p true
  else
    let s := s.modTrain p fun t =>
      { t with doneB := t.doneB ||| laneBit l, doneA := if peerSays then t.doneA ||| laneBit tgt else t.doneA }
    let x := s.port p
    let out := x.usable .outb &&& x.train.lanes
    let inn := x.usable .inb &&& x.train.lanes
    if decide (x.train.doneA &&& out = out) && decide (x.train.doneB &&& inn = inn) then s.enterSync p else s

/-- R40: the transmitters of the lanes of a set start at the initial preset of the rate. -/
def State.presetLanes (s : State) (p : Nat) (m : BitVec 4) : State :=
  s.modPort p fun x =>
    let k := initialPreset x.train.rateSel
    let c := presets.getD k (0, 0)
    let upd (l : Nat) (v : Lane) : Lane := if m.getLsbD l then { v with pre := c.1, post := c.2, preset := some k, reject := false } else v
    { x with lane0 := upd 0 x.lane0, lane1 := upd 1 x.lane1, lane2 := upd 2 x.lane2, lane3 := upd 3 x.lane3 }

/-- R41: one good training block of the present attempt, received on lane `l`; `err` is this side's receiver estimate. DEDUCED, log entry 114. -/
def State.tbStep (s : State) (p l : Nat) (b : List Byte) (err : Nat) : State :=
  let t := (s.port p).train
  let s := s.modTrain p fun t => { t with locked := t.locked ||| laneBit l }
  let tag : BitVec 8 := BitVec.ofNat 8 (bits (byteAt b 1) 5 4 * 2 ^ (2 * l))
  let good (s : State) : State := s.modPort p fun x => x.modLane l fun v => { v with tb1Good := v.tb1Good + 1 }
  match t.state with
  | .detect =>
    if tbType b ≠ 0x11 then s
    else
      let s := (good (s.notePeer p b)).modTrain p fun t => { t with rxTags := t.rxTags ||| tag }
      let lk := (s.port p).train.locked
      ((s.enter p .poll).modTrain p fun t => { t with locked := lk }).announce p
  | .poll =>
    let s := s.notePeer p b
    let s := if tbType b = 0x11 then good s else s
    let s := s.modTrain p fun t => { t with rxTags := (t.rxTags &&& ~~~(BitVec.ofNat 8 (3 * 2 ^ (2 * l)))) ||| tag }
    let x := s.port p
    let all8 := (lanesOf (x.train.locked &&& 10)).all fun k => decide (8 ≤ (x.lane k).tb1Good)
    let s := if all8 && x.train.tb2Since.isNone then (s.modTrain p fun t => { t with tb2Since := some s.now }).announce p else s
    let s := if tbType b = 0x12 then s.modTrain p fun t => { t with cfgAcks := t.cfgAcks + 1 } else s
    if 8 ≤ (s.port p).train.cfgAcks && tb2Sent s (s.port p).train then s.enterConfig p else s
  | .config =>
    if tbType b = 0x22 && (b.drop 5).take 2 = (s.tbSent p l |>.drop 5).take 2 then
      let s := s.modTrain p fun t => { t with cfgAcks := t.cfgAcks + 1 }
      if 8 ≤ (s.port p).train.cfgAcks then
        (s.enter p .rate).modTrain p fun t => { t with rateIdle := true }
      else s
    else s
  | .rate =>
    let need := t.receives &&& t.lanes
    if t.rateIdle then s
    else if decide ((s.port p).train.locked &&& need = need) then
      if t.useStored then
        let s := (s.enter p .check).modTrain p fun t => { t with doneA := 0, doneB := 0 }
        s.modPort p fun x => x.mapLanes fun v => (v.load x.train.rateSel .outb).load x.train.rateSel .inb
      else (s.enter p .eqA).modTrain p fun t => { t with doneA := 0, failOut := 0, failIn := 0 }
    else s
  | .eqA =>
    let s := s.eqStep p l b err false
    if (s.port p).train.allDone then
      let s := s.storePass p false
      if (s.port p).pd.cable.dirAgile then ((s.enter p .flip).presetLanes p 10).announce p else s.eqEnds p
    else s
  | .flip =>
    let need := t.receives &&& t.lanes
    if decide ((s.port p).train.locked &&& need = need) then (s.enter p .eqB).modTrain p fun t => { t with doneA := 0 }
    else s
  | .eqB =>
    let s := s.eqStep p l b err true
    if (s.port p).train.allDone then (s.storePass p true).eqEnds p else s
  | .check => s.checkStep p l b err
  | .sync => if tbType b = 0x41 && bitOf (byteAt b 1) 0 then s.syncEcho p b else s
  | _ => s

/-- R75: the pass in which a lane alone runs has ended: EQ_A is followed by FLIP, in which the lane reverses, over a cable that permits it. -/
def State.recalPassEnds (s : State) (p : Nat) (t : Transit) : State :=
  if t.pass = .eqA && (s.port p).pd.cable.dirAgile then
    let s := s.modPort p fun x => ({ x with transit := some { t with pass := .flip } }).modLane t.lane fun v => { v with eqReqs := 0 }
    if t.origDir = .inb then (s.presetLanes p (laneBit t.lane)).sendTb p (laneBit t.lane) fun l => { target := l, passB := true } else s
  else s

/-- R39, R75: a good training block on a lane out for recalibration: EQ_A in the direction it left, FLIP, EQ_B in the other, on that lane alone. -/
def State.recalStep (s : State) (p : Nat) (t : Transit) (b : List Byte) (err : Nat) : State :=
  let l := t.lane
  let t' : Transit := if t.pass = .flip then { t with pass := .eqB } else t
  let passB := decide (t'.pass = .eqB)
  let inb := decide ((t.origDir = .inb) = !passB)
  let s := s.modPort p fun x => ({ x with transit := some t' }).modLane l fun v => { v with errLog2 := err }
  if inb then
    let r := s.eqAnswer p l (laneBit l) (s.port p).fec err passB
    if r.2.1 then r.1.recalPassEnds p t' else r.1
  else if byteAt b 12 % 4 ≠ l then s
  else if tbType b = 0x31 then s.applyRequest p b
  else if tbType b = 0x32 then s.recalPassEnds p t'
  else s

/-- The lane change in progress, while its lane alone is equalised. -/
def State.recalLane (s : State) (p : Nat) : Option Transit :=
  if s.linkUp p then (s.port p).transit.filter fun t => decide (t.phase = .eq) else none

/-- TB_RECEIVED (R39, R41, R75, Table 2-6): a bad block or one of another TRAIN_ID is counted; FAIL ends the attempt. -/
def execTbReceived (port : Fin 12) (lane : Fin 4) (payload : List Byte) (err : Fin 256) (s : State) : Result :=
  let p := port.val
  let t := (s.port p).train
  let training := decide (1 ≤ t.state.ctorIdx) && decide (t.state.ctorIdx ≤ 9) && !t.idle && t.receives.getLsbD lane.val
  let recal := (s.recalLane p).filter fun x => decide (x.lane = lane.val)
  if !training && recal.isNone then .next s
  else if !tbGood payload || tbTrainId payload ≠ t.trainId then
    .next (s.modPort p fun x => x.modLane lane.val fun v => { v with trainErr := v.trainErr + 1 })
  else match recal with
    | some x => .next (s.recalStep p x payload err.val)
    | none => if tbType payload = 0x51 then .next (s.attemptFails p false) else .next (s.tbStep p lane.val payload err.val)

/-- TRAIN_STATE_TIMEOUT (R41): a state's limit passes without its exit. -/
def execTrainStateTimeout (port : Fin 12) (s : State) : Result :=
  let p := port.val
  let t := (s.port p).train
  if s.due t.due && !t.idle then .next (s.attemptFails p true) else .next s

/-- TRAIN_IDLE_END (R45): the 1 ms of electrical idle ends and training restarts at DETECT. -/
def execTrainIdleEnd (port : Fin 12) (s : State) : Result :=
  let p := port.val
  let t := (s.port p).train
  if t.idle && s.due t.due then .next (s.startDetect p) else .next s

/-- RATE_IDLE_END (R40, Table 2-5): the 5 µs of idle end; TB1 goes at the selected rate, from its initial preset. -/
def execRateIdleEnd (port : Fin 12) (s : State) : Result :=
  let p := port.val
  let t := (s.port p).train
  if t.state = .rate && t.rateIdle then
    .next (((s.modTrain p fun t => { t with rateIdle := false, locked := 0 }).presetLanes p 15).announce p)
  else .next s

/-! ## Recalibration (R49, R75) -/

/-- The direction a lane is in. -/
def Port.laneDir (x : Port) (l : Nat) : Option Dir :=
  if x.outSet.getLsbD l then some .outb else if x.inSet.getLsbD l then some .inb else none

/-- Table 3-5: a LANEMAP payload. -/
def lanemap (newSet lane change copy copies turnId ext : Nat) : List Byte :=
  toLe 1 newSet ++ toLe 1 (lane + 4 * change) ++ toLe 2 (copy + 4 * copies) ++ toLe 2 turnId ++ toLe 1 ext

/-- R69: a rotation is due: one copy on each lane of the old set, ahead of other control flits; the new set takes effect after the last. -/
def State.rotate' (s : State) (p newSet lane change ext : Nat) : State :=
  s.modPort p fun x =>
    let n := laneCount x.outSet
    let tid := (x.transit.map fun t => t.turnId.toNat).getD 0
    let copies := (List.range n).map fun i =>
      ({ typ := 4, payload := lanemap newSet lane change i (n - 1) tid ext
         newSet := if i + 1 = n then some newSet else none } : Ctrl)
    { x with tx := { x.tx with ctrl := copies ++ x.tx.ctrl } }

/-- LANE_REQ (Table 3-6). -/
def State.laneReq (s : State) (p lane action : Nat) : State :=
  let tid := ((s.port p).transit.map fun t => t.turnId.toNat).getD 0
  s.pushCtrl p { typ := 6, payload := [0x02] ++ toLe 1 (lane + 4 * action) ++ toLe 2 tid }

/-- The one-way delay in ns, rounded up. -/
def Port.oneWay (x : Port) : Nat := (x.train.rtt + 1) / 2

/-- A lane change begins: the next TURN_ID; the AX1224 rotates its own set, or asks the terminal and waits 2 µs beyond the round trip for the answer (R71, R72, R74, R75). -/
def State.beginChange (s : State) (p lane : Nat) (kind : TransitKind) (dir : Dir) : State :=
  let x := s.port p
  let t : Transit := { lane := lane, kind := kind, phase := if dir = .outb then .rotationSent else .laneReqSent, turnId := x.turnId
                       origDir := dir, startAt := s.now
                       due := if dir = .outb then none else some (s.after (2 * x.oneWay + 2000)) }
  let s := s.setPort p ({ x with transit := some t, turnId := x.turnId + 1 }.modLane lane fun v => { v with eqReqs := 0 })
  let change := match kind with
    | .recal => 2
    | .exclude => 4
    | _ => 0
  let ext := if kind = .turnOut && x.pd.cable.active then (x.pd.cable.turnNs + 9) / 10 else 0
  if dir = .outb then s.rotate' p ((x.outSet &&& ~~~(laneBit lane)).toNat) lane change ext
  else s.laneReq p lane (match kind with
    | .recal => 1
    | .exclude => 2
    | _ => 0)

/-- R50, R51: the idle time in force, in ns; none when sleep is disabled. In DOZE it is 2 µs. -/
def State.idleNs (s : State) (p : Nat) : Option Nat :=
  if s.power.sleep = 1 then some 2000
  else if (s.port p).link.sleepIdle = 0 then none else some (1000 * (s.port p).link.sleepIdle)

/-- The idle time starts anew. -/
def State.armIdle (s : State) (p : Nat) : State :=
  let d := (s.idleNs p).map s.after
  s.modPort p fun x => { x with tx := { x.tx with idleDue := d } }

/-- R67: the CUM_CREDIT of every open tunnel is sent. -/
def State.creditAll (s : State) (p : Nat) : State :=
  let x := s.port p
  let open' := (0, 0) :: (s.tunnels.filter fun e => decide (e.2.port = p) && decide (e.2.state = .opened) && e.2.dirs.getLsbD 1).map fun e => (e.2.tun, e.1)
  let rs := open'.map fun e => (e.1, (x.tun e.1).granted)
  (List.range ((rs.length + 27) / 28)).foldl (fun s i => s.pushCtrl p (creditFlit ((rs.drop (28 * i)).take 28) false)) s

/-- R50: the outbound direction wakes: wake burst and marker on each lane, then the credits (R67). -/
def State.wakeOut (s : State) (p : Nat) : State :=
  let x := s.port p
  if !x.tx.asleep || !s.linkUp p then s
  else
    let s := s.modPort p fun x => { x with tx := { x.tx with asleep := false, keepDue := none } }
    let s := s.send (.wakeBurst p x.outSet.toNat 200)
    let s := (lanesOf x.outSet).foldl (fun s l => s.sendMarker p l) s
    (s.creditAll p).armIdle p

/-- R49: the recalibration of a lane is deferred and retried every 10 s: RECAL_DEFERRED. -/
def State.deferRecal (s : State) (p lane : Nat) : State :=
  let s := s.modPort p fun x =>
    { x with recalRetry := some (x.recalRetry.getD (s.after 10000000000)) }.modLane lane fun l => { l with recalDeferred := true }
  (s.event (evPort p 5)).trace (agentPort p) 0 p

/-- R49: a recalibration of a lane begins, or is deferred. -/
def State.recalibrate (s : State) (p lane : Nat) : State :=
  let x := s.port p
  match x.laneDir lane with
  | none => if x.transit.isSome then s.deferRecal p lane else s
  | some d =>
    if x.transit.isSome || !s.mayLeave p d then s.deferRecal p lane
    else
      let s := s.modPort p fun x => x.modLane lane fun l => { l with recalDeferred := false }
      let s := if d = .outb then s.wakeOut p else s
      s.beginChange p lane .recal d

/-- Table 2-7: a degraded lane: LANE_DEGRADED, then recalibration; without another receive lane the link goes down. -/
def State.degraded (s : State) (p lane : Nat) : State :=
  let s := (s.event (evPort p 3)).trace (agentPort p) 0 p
  let x := s.port p
  if x.inSet.getLsbD lane && laneCount x.inSet = 1 then s.linkRetrain p else s.recalibrate p lane

/-- MARKER_LOSS_TIMEOUT (R52): no accepted marker on an awake receive lane for 3 group periods. -/
def execMarkerLossTimeout (port : Fin 12) (lane : Fin 4) (s : State) : Result :=
  let x := s.port port.val
  if s.linkUp port.val && x.inSet.getLsbD lane.val && !x.rx.asleep then .next (s.degraded port.val lane.val) else .next s

/-- CODEWORD_ERROR_LIMIT (R52): more than 16 uncorrectable codewords on a receive lane within 1 ms. PRESUMED, log entry 140. -/
def execCodewordErrorLimit (port : Fin 12) (lane : Fin 4) (s : State) : Result :=
  let x := s.port port.val
  if s.linkUp port.val && x.inSet.getLsbD lane.val then .next (s.degraded port.val lane.val) else .next s

/-- LINK_TIMEOUT (R52, R53): nothing valid on any receive lane for the link timeout: LINK_DOWN, retrain. -/
def execLinkTimeout (port : Fin 12) (s : State) : Result :=
  if s.linkUp port.val && s.due (s.port port.val).rx.linkDue then .next (s.linkRetrain port.val) else .next s

/-- Anything valid received restarts the link timeout. -/
def State.alive (s : State) (p : Nat) : State :=
  s.modPort p fun x => { x with rx := { x.rx with linkDue := some (s.after (100000 * x.toForce)) } }

/-- WAKE_BURST_RECEIVED (R50, R387): the terminal wakes its direction; it is wake source *n*. -/
def execWakeBurstReceived (port : Fin 12) (s : State) : Result :=
  if s.linkUp port.val then
    .next (((s.modPort port.val fun x => { x with rx := { x.rx with asleep := false } }).alive port.val).wakeCfg port.val)
  else .next s

/-- The transit has ended: its lane has settled, and waiting changes may follow. -/
def State.settled (s : State) (p : Nat) : State :=
  (s.modPort p fun x => { x with transit := none }).retryTunnels p

/-- R69, R74: the lane in transit has joined and its marker was accepted: the change is complete. -/
def State.joinDone (s : State) (p : Nat) : State :=
  match (s.port p).transit with
  | some t =>
    if t.joined && t.marker then
      let s := s.modPort p fun x =>
        { x with allot := { x.allot with lastToIn := if t.kind = .turnOut then some s.cycle else x.allot.lastToIn
                                         lastToOut := if t.kind = .turnIn then some s.cycle else x.allot.lastToOut } }
      let s := if t.kind = .recal then s else s.trace (agentPort p) 1 p
      s.settled p
    else s
  | none => s

/-- MARKER_RECEIVED (R34, R41, R74): an accepted marker; in SYNC it and a valid flit on every receive lane make the port ACTIVE. DEDUCED, log entry 169. -/
def execMarkerReceived (port : Fin 12) (lane : Fin 4) (head : List Byte) (diff : Nat) (flit : Bool) (s : State) : Result :=
  let p := port.val
  let l := lane.val
  let t := (s.port p).train
  if !markerOk l .inb head diff then .next s
  else if t.state = .sync then
    if !t.echoSeen || !flit then .next s
    else
      let s := s.modPort p fun x =>
        { x with train := { x.train with syncMarks := x.train.syncMarks ||| laneBit l } }.modLane l fun v => { v with groupRx := BitVec.ofNat 16 (le head 5 2) }
      let need := ~~~t.outNow &&& t.lanes
      if (s.port p).train.syncMarks &&& need = need then .next (s.linkUpNow p) else .next s
  else if t.state = .active then
    let s := (s.alive p).modPort p fun (x : Port) =>
      { x with transit := x.transit.map fun (t : Transit) => if t.lane = l then { t with marker := true } else t
               rx := { x.rx with asleep := false } }.modLane l fun v => { v with groupRx := BitVec.ofNat 16 (le head 5 2), badTold := false }
    .next (s.joinDone p)
  else .next s

/-- RECAL_PERIOD_EXPIRY (R49). -/
def execRecalPeriodExpiry (port : Fin 12) (lane : Fin 4) (s : State) : Result :=
  let p := port.val
  let x := s.port p
  if s.linkUp p && s.due (x.lane lane.val).recalDue then
    let h := x.link.recalHours
    let s := s.modPort p fun x => x.modLane lane.val fun l => { l with recalDue := if h = 0 then none else some (s.after (h * 3600000000000)) }
    .next (s.recalibrate p lane.val)
  else .next s

/-- A lane is out for recalibration, or waits for it. -/
def Port.recalAsked (x : Port) (l : Nat) : Bool :=
  (x.lane l).recalDeferred || x.transit.any fun t => decide (t.lane = l) && decide (t.kind = .recal)

/-- TEMP_DRIFT (R49): die temperature near the port; a lane whose last EQ was more than 20 °C away is recalibrated. -/
def execTempDrift (port : Fin 12) (temp : Int) (s : State) : Result :=
  let p := port.val
  let s := s.modPort p fun x => { x with temp := temp }
  if !s.linkUp p then .next s
  else
    let far := (List.range 4).filter fun l => decide (20 < (temp - ((s.port p).lane l).eqTemp).natAbs) && !(s.port p).recalAsked l
    .next (far.foldl (fun s l => s.recalibrate p l) s)

/-- RECAL_RETRY_EXPIRY (R49): the deferred recalibrations are tried again. -/
def execRecalRetryExpiry (port : Fin 12) (s : State) : Result :=
  let p := port.val
  if s.linkUp p && s.due (s.port p).recalRetry then
    let s := s.modPort p fun x => { x with recalRetry := none }
    let l := (List.range 4).filter fun k => ((s.port p).lane k).recalDeferred
    .next (l.foldl (fun s k => s.recalibrate p k) s)
  else .next s

/-- R69, R72: an outbound lane that joins sends its wake burst and marker, then the rotation adds it. -/
def State.joinOut (s : State) (p lane change ns : Nat) : State :=
  let s := (s.send (.wakeBurst p (laneBit lane).toNat ns)).sendMarker p lane
  s.rotate' p (((s.port p).outSet ||| laneBit lane).toNat) lane change 0

/-- R75: the lane comes back to a direction with its stored set, by RECAL_IN from its sender. -/
def State.comeBack (s : State) (p lane : Nat) (d : Dir) : State :=
  let s := s.modPort p fun (x : Port) =>
    ({ x with transit := x.transit.map fun (t : Transit) => { t with phase := .awaitJoin, origDir := d, marker := decide (d = Dir.outb) } }).modLane lane fun v =>
      v.load x.train.rateSel d
  if d = .outb then s.joinOut p lane 3 200 else s

/-- RECAL_DONE (R43, R44, R47, R55, R75): EQ on the lane alone has ended with the estimates of its two directions; the sets of those that passed are stored, and the lane returns, is locked to its other direction, or is excluded. Over a cable of fixed direction only the direction it left was run. -/
def execRecalDone (port : Fin 12) (outErr inErr : Fin 256) (s : State) : Result :=
  let p := port.val
  match (s.port p).transit with
  | none => .next s
  | some t =>
    if t.phase ≠ .eq then .next s
    else
      let fec := (s.port p).fec
      let l := t.lane
      let agile := (s.port p).pd.cable.dirAgile
      let out := errPasses fec outErr.val && (agile || decide (t.origDir = .outb))
      let inn := errPasses fec inErr.val && (agile || decide (t.origDir = .inb))
      let rx := Config.rxState s.freeCtr
      let s := (s.eqNoted p (fun k => decide (k = l))).tickFree
      let s := s.modPort p fun x => x.modLane l fun v =>
        let v := if out then v.save x.train.rateSel .outb 0 else v
        let v := if inn then v.save x.train.rateSel .inb rx else v
        { v with errLog2 := inErr.val }
      let left := if t.origDir = .outb then out else inn
      let other := if t.origDir = .outb then inn else out
      let od : Dir := if t.origDir = .outb then .inb else .outb
      if left then .next (s.comeBack p l t.origDir)
      else if other then
        let s := s.modPort p fun x =>
          { x with lockRec := x.lockRec ||| laneBit l
                   lockOut := if od = .outb then x.lockOut ||| laneBit l else x.lockOut &&& ~~~(laneBit l) }
        let s := (s.event (evPort p 2)).trace (agentPort p) 0 p
        .next (s.comeBack p l od)
      else
        let s := s.modPort p fun x => { x with exclRec := x.exclRec ||| laneBit l }
        .next (((s.event (evPort p 2)).trace (agentPort p) 0 p).settled p)

end Sys2Proof.Machine
end

