-- ==== Sys2Proof/Machine/Flits.lean ====
section
/-! DEFINITION. Sys2Proof/Machine/Flits.lean: flits sent and received, retry, credits, LANEMAP, turnaround, time messages ("Jayth link: flits, sequence, retry and lane turnaround"). -/

namespace Sys2Proof.Machine

/-! ## Errors and retry (R63 to R65) -/

/-- R65: PROTO_ERR counts one; growth of 16 within 1 ms is retry exhaustion, and the link retrains. -/
def State.badProto (s : State) (p : Nat) : State :=
  let s := s.protoErr p
  if 16 ≤ (s.port p).rx.protoTimes.length && s.linkUp p then
    ((s.event (evPort p 11)).modPort p fun x => { x with rx := { x.rx with protoTimes := [] } }).linkRetrain p
  else s

/-- R64: the replay timeout in ns. -/
def Port.replayNs (x : Port) : Nat := x.train.rtt + 4000

/-- Table 3-3: an ACK payload. -/
def ackPayload (r : RxState) (nak : Option (BitVec 12)) : List Byte :=
  toLe 2 (if r.ackValid then (r.b - 1).toNat + 4096 else 0)
  ++ toLe 2 (match nak with
    | some n => n.toNat + 4096
    | none => 0)

/-- R62: the latest ACK is due; its repeat is armed. -/
def State.sendAck (s : State) (p : Nat) (counts : Bool) : State :=
  let due := s.after 10000
  let s := s.modPort p fun x => { x with rx := { x.rx with ackDue := some due } }
  s.pushCtrl p { typ := 2, payload := ackPayload (s.port p).rx none, counts := counts }

/-- R63, R65: a NAK from B; the eighth with the same NAK_SEQ is retry exhaustion. -/
def State.sendNak (s : State) (p : Nat) : State :=
  let r := (s.port p).rx
  let run := if r.nakSeq = some r.b then r.nakRun + 1 else 1
  let due := s.after (s.port p).replayNs
  let s := s.modPort p fun x => { x with rx := { x.rx with retryWait := true, nakDue := some due, nakSeq := some r.b, nakRun := run } }
  if 8 ≤ run then s.linkRetrain p else s.pushCtrl p { typ := 2, payload := ackPayload r (some r.b) }

/-- R63: on_error. -/
def State.onError (s : State) (p : Nat) : State := if (s.port p).rx.retryWait then s else s.sendNak p

/-- R59: a bad flit. -/
def State.badFlit (s : State) (p l : Nat) : State :=
  (s.modPort p fun x => x.modLane l fun v => { v with badFlit := v.badFlit + 1 }).onError p

/-- BAD_FLIT (R59, R63). PRESUMED, log entry 140. -/
def execBadFlit (port : Fin 12) (lane : Fin 4) (s : State) : Result :=
  if s.linkUp port.val then .next (s.badFlit port.val lane.val) else .next s

/-- R59: a flit is received on a lane: a bad one is handled as such, a good one restarts the link timeout and goes on to `f`. DEDUCED, log entry 169. -/
def State.flitIn (s : State) (p l : Nat) (b : List Byte) (f : State → State) : State :=
  if !s.linkUp p then s
  else if !flitGood b then s.badFlit p l
  else f (s.alive p)

/-! ## DATA flits (R61, R63, R66, R67, R83, R92, R93) -/

/-- Table 4-1: PRI of a class. -/
def classPri (cls : Nat) (periodic : Bool) : Nat :=
  match cls with
  | 0 => 3
  | 1 => 3
  | 2 => if periodic then 2 else 1
  | 3 => if periodic then 2 else 1
  | 4 => 1
  | 5 => 0
  | _ => 2

/-- Table 4-6: a MSG value the AX1224 takes from a terminal. -/
def knownMsg (m : Nat) : Bool := [0x01, 0x02, 0x10, 0x11, 0x12, 0x13, 0x14, 0x20, 0x21, 0x30].contains m

/-- R92: a flit of a SMPL block: gaps of BLOCK_SEQ are counted, flits beyond what the header implies are discarded; answers whether the flit is kept, whether it ends the block and whether it begins it. -/
def State.smplFlit (s : State) (p : Nat) (f : DataFlit) : State × Bool × Bool × Bool :=
  let x := (s.port p).tun f.tun
  let first := x.blockFlits = 0
  let seq := BitVec.ofNat 16 (le f.payload 12 2)
  let need := if first then blockFlits (le f.payload 14 2) (byteAt f.payload 16 + 1) (byteAt f.payload 17 % 8) else x.blockNeed
  let gap := first && (match x.blockSeq with
    | some q => decide (seq ≠ q + 1)
    | none => false)
  let surplus := need ≤ x.blockFlits
  let n := x.blockFlits + 1
  let x := { x with blockSeq := if first then some seq else x.blockSeq, blockNeed := need, blockFlits := if f.bl then 0 else n
                    smplSurplus := if surplus then x.smplSurplus + 1 else x.smplSurplus }
  let s := s.modPort p fun y => y.setTun f.tun x
  let s := if gap then (s.modXfer fun y => { y with smplGap := y.smplGap + 1 }).event 0x15B else s
  (s, !surplus, f.bl || n = need, first)

/-- The payload of an accepted DATA flit: credit, tunnel, PRI and format, then into Marl (R66, R67, R83). -/
def State.dataPayload (s : State) (p : Nat) (f : DataFlit) : State :=
  let x := (s.port p).tun f.tun
  let room := (x.granted - x.recv).toNat
  let took (s : State) : State := s.modPort p fun y => y.modTun f.tun fun t => { t with recv := t.recv + 1 }
  let excess := room = 0 || 32767 < room
  let overrun (s : State) : State := (s.modPort p fun y => { y with creditOverrun := y.creditOverrun + 1 }).event (evPort p 8)
  if f.tun = 0 then
    if excess then overrun s
    else
      let s := took s
      if f.pri ≠ 2 || !knownMsg (byteAt f.payload 0) then (s.protoDrop p 0).freeSpace 6
      else s.enqueueCell agentCtrl 0 (8192 + p) { poison := f.poison, bl := f.bl, cls := 6, payload := f.payload }
  else match s.tidOf p f.tun with
    | none => s.protoDrop p f.tun
    | some tid =>
      let t := s.tunnel tid
      if t.state = .closing then (if excess then s else (took s).freeSpace t.cls)
      else if t.state ≠ .opened || !t.dirs.getLsbD 1 then s.protoDrop p f.tun
      else if excess then overrun s
      else
        let s := took s
        if f.pri ≠ classPri t.cls t.periodic then (s.protoDrop p f.tun).freeSpace t.cls
        else
          let r := if t.cls = 1 then s.smplFlit p f else (s, true, f.bl, false)
          if !r.2.1 then r.1.freeSpace t.cls
          else match t.inQueue with
            | some q => r.1.enqueueCell t.client q tid
                { gen := t.gen, poison := f.poison, bl := r.2.2.1, cls := t.cls, first := r.2.2.2, payload := f.payload }
            | none => r.1

/-- R61, R63: a good DATA flit by its SEQ. DESIGN CHOICE, log entry 166. -/
def State.dataIn (s : State) (p : Nat) (f : DataFlit) : State :=
  let r := (s.port p).rx
  if f.seq = r.e then
    if 16 ≤ r.burstLen || (r.burstLen ≠ 0 && (f.tun ≠ r.burstTun || f.pri ≠ r.burstPri)) then s.onError p
    else
      let s := s.modPort p fun x => { x with rx := { x.rx with
        e := r.e + 1, b := if f.bl then r.e + 1 else r.b, ackValid := r.ackValid || f.bl, retryWait := false, nakDue := none
        burstTun := f.tun, burstPri := f.pri, burstLen := if f.bl then 0 else r.burstLen + 1
        nakRun := if f.bl then 0 else r.nakRun, recvCycle := r.recvCycle + 1 } }
      let s := if f.bl then s.sendAck p true else s
      s.dataPayload p f
  else if (r.e - f.seq).toNat ≤ 2048 then s
  else s.onError p

/-- DATA_FLIT_RECEIVED (R59, R60, R63): a DATA flit, or a flit of a reserved type or LM subtype, which PROTO_ERR counts. DESIGN CHOICE, log entry 164. -/
def execDataFlitReceived (port : Fin 12) (lane : Fin 4) (flit : List Byte) (s : State) : Result :=
  let p := port.val
  .next <| s.flitIn p lane.val flit fun s =>
    let pl := flitPayload flit
    match flitType flit with
    | 1 => s.dataIn p (parseData flit)
    | 0 => if plainHeader flit then s else s.badProto p
    | 7 => s.badProto p
    | 6 => if [1, 3, 4, 5, 6].contains (byteAt pl 0) then s else s.badProto p
    | 5 => if byteAt pl 0 = 2 then s else s.badProto p
    | _ => s

/-- R60: a control flit of the type and subtype named: used when its fields are in range, else counted in PROTO_ERR. -/
def State.ctrlIn (s : State) (p l : Nat) (b : List Byte) (typ : Nat) (sub : Option Nat) (ok : List Byte → Bool)
    (f : List Byte → State → State) : State :=
  s.flitIn p l b fun s =>
    let pl := flitPayload b
    if flitType b ≠ typ || sub.any (· ≠ byteAt pl 0) then s
    else if !plainHeader b || !ok pl then s.badProto p
    else f pl s

/-! ## ACK and CREDIT (R62, R64 to R67) -/

/-- R64: every unacknowledged flit from `seq` on is due again; each resend is counted. DEDUCED, log entry 115. -/
def State.resendFrom (s : State) (p : Nat) (seq : BitVec 12) : State :=
  let now := s.now
  s.modPort p fun x =>
    let again := (x.tx.unacked.filter fun u => decide ((u.seq - seq).toNat < 2048)).map fun u => { u with sentAt := now }
    let keep := x.tx.unacked.filter fun u => !decide ((u.seq - seq).toNat < 2048)
    { x with retry := if again.isEmpty then x.retry else x.retry + 1, tx := { x.tx with unacked := keep ++ again, resend := again } }

/-- R65: the acknowledging part of an ACK. -/
def State.ackSeq (s : State) (p : Nat) (seq : BitVec 12) : State :=
  let t := (s.port p).tx
  let d := (seq - t.lower).toNat
  if d = 0 then s
  else if (t.seqNext - 1 - t.lower).toNat < d then s.badProto p
  else s.modPort p fun x =>
    let live (u : Unacked) : Bool := decide (d < (u.seq - t.lower).toNat)
    { x with tx := { x.tx with lower := seq, unacked := x.tx.unacked.filter live, resend := x.tx.resend.filter live, nakRun := 0, nakSeq := none } }

/-- R64, R65: the NAK part: a resend from NAK_SEQ, which may be the lower edge; the eighth from one NAK_SEQ is retry exhaustion. -/
def State.nakIn (s : State) (p : Nat) (seq : BitVec 12) : State :=
  let t := (s.port p).tx
  let d := (seq - t.lower).toNat
  let size := (t.seqNext - 1 - t.lower).toNat
  if d = size + 1 then s
  else if size < d then s.badProto p
  else
    let run := if t.nakSeq = some seq then t.nakRun + 1 else 1
    let s := s.modPort p fun x => { x with tx := { x.tx with nakSeq := some seq, nakRun := run } }
    if 8 ≤ run then s.linkRetrain p else s.resendFrom p seq

/-- ACK_RECEIVED (R65). -/
def execAckReceived (port : Fin 12) (lane : Fin 4) (flit : List Byte) (s : State) : Result :=
  let p := port.val
  .next <| s.ctrlIn p lane.val flit 2 none
    (fun b => decide (bits (byteAt b 1) 7 5 = 0) && decide (bits (byteAt b 3) 7 5 = 0) && zeros b 4 119)
    fun b s =>
      let s := if bitOf (byteAt b 1) 4 then s.ackSeq p (BitVec.ofNat 12 (le b 0 2)) else s
      if bitOf (byteAt b 3) 4 && s.linkUp p then s.nakIn p (BitVec.ofNat 12 (le b 2 2)) else s

/-- R66: a TUN of the link that is open, or whose TUN_OPEN has been sent. DESIGN CHOICE, log entry 150. -/
def State.creditable (s : State) (p tun : Nat) : Bool :=
  decide (tun = 0) || (match s.tidOf p tun with
    | some tid => decide ((s.tunnel tid).state = .opened) || decide ((s.tunnel tid).state = .opening)
    | none => false)

/-- CREDIT_RECEIVED (R66, Table 3-4). DESIGN CHOICE, log entry 150. -/
def execCreditReceived (port : Fin 12) (lane : Fin 4) (flit : List Byte) (s : State) : Result :=
  let p := port.val
  .next <| s.ctrlIn p lane.val flit 3 none
    (fun b =>
      let n := byteAt b 0
      decide (1 ≤ n) && decide (n ≤ 28) && zeros b 1 7
        && (List.range n).all (fun k => decide (le b (8 + 4 * k) 2 < 1024))
        && (decide (n = 28) || zeros b (8 + 4 * n) 119))
    fun b s => (List.range (byteAt b 0)).foldl (fun s k =>
      if s.creditable p (le b (8 + 4 * k) 2) then
        s.modPort p fun x => x.modTun (le b (8 + 4 * k) 2) fun t => { t with credit := BitVec.ofNat 16 (le b (10 + 4 * k) 2) }
      else s) s

/-- CREDIT_RETURN (R67, R84): buffer space of a tunnel has been freed; its credit is granted again. -/
def execCreditReturn (port : Fin 12) (tun : Fin 1024) (s : State) : Result :=
  if s.linkUp port.val then .next (s.grantTun port.val tun.val) else .next s

/-- CREDIT_REFRESH_EXPIRY (R67): every CUM_CREDIT is sent once per 1 ms while the outbound direction is awake. -/
def execCreditRefreshExpiry (port : Fin 12) (s : State) : Result :=
  let p := port.val
  if s.linkUp p && s.due (s.port p).rx.creditDue then
    let due := s.after 1000000
    let s := s.modPort p fun x => { x with rx := { x.rx with creditDue := some due } }
    .next (if (s.port p).tx.asleep then s else s.creditAll p)
  else .next s

/-- ACK_REPEAT_EXPIRY (R62): the latest ACK again, while both directions are awake. -/
def execAckRepeatExpiry (port : Fin 12) (s : State) : Result :=
  let p := port.val
  let x := s.port p
  if s.linkUp p && s.due x.rx.ackDue && !x.tx.asleep && !x.rx.asleep then .next (s.sendAck p false) else .next s

/-- NAK_TIMER_EXPIRY (R63). -/
def execNakTimerExpiry (port : Fin 12) (s : State) : Result :=
  let p := port.val
  let r := (s.port p).rx
  if s.linkUp p && r.retryWait && s.due r.nakDue then .next (s.sendNak p) else .next s

/-- REPLAY_TIMEOUT (R64): the oldest burst has waited longer than the replay timeout. DEDUCED, log entry 115. -/
def execReplayTimeout (port : Fin 12) (s : State) : Result :=
  let p := port.val
  let x := s.port p
  match x.tx.unacked with
  | [] => .next s
  | u :: _ =>
    if s.linkUp p && decide (u.sentAt.toNat + x.replayNs < s.now.toNat) then .next (s.resendFrom p u.seq) else .next s

/-! ## LANEMAP and turnaround (R69, R71, R72, R74, R75) -/

/-- R73: the turnaround time, in ns. -/
def Port.turnNs (x : Port) : Nat := if x.train.rateSel = .j14 && x.fec then 2200 else 1800

/-- R74: when a turnaround that started at `t` has failed. -/
def Port.turnDue (x : Port) (t : Time) : Time := t + BitVec.ofNat 64 (x.turnNs + 2 * x.oneWay + 2000)

/-- The LANEMAP of the terminal has been acted on. -/
def State.mapped (s : State) (p : Nat) (newSet : Nat) (tid : BitVec 16) (change : Nat) (f : Transit → Transit) : State :=
  s.modPort p fun x =>
    { x with inSet := BitVec.ofNat 4 newSet, lastMap := some (tid, change, (x.transit.map (·.lane)).getD 0), transit := x.transit.map f }

/-- R47, R71, R72: a lane turns away from direction `d`: the set of that direction is saved, what its receiver has adapted to being a free value, and the stored set of the other is loaded. DESIGN CHOICE, log entry 21. -/
def State.turnSets (s : State) (p l : Nat) (d : Dir) : State :=
  let rx := Config.rxState s.freeCtr
  let od : Dir := if d = .outb then .inb else .outb
  (s.modPort p fun x => x.modLane l fun v => (v.save x.train.rateSel d rx).load x.train.rateSel od).tickFree

/-- R71, R72: the extra length of a wake burst in ns: the turn time of a Jayth active cable. -/
def Port.wakeExt (x : Port) : Nat := if x.pd.cable.active then x.pd.cable.turnNs else 0

/-- R72: the terminal has given up the lane: the AX1224 turns it, drives wake burst and marker, and adds it by a rotation. -/
def State.takeLane (s : State) (p l : Nat) : State := (s.turnSets p l .inb).joinOut p l 1 (200 + (s.port p).wakeExt)

/-- LANEMAP_RECEIVED (R69, R71, R72, R75): the terminal's rotation answers the change in progress; another is counted in PROTO_ERR, a further copy is discarded. DESIGN CHOICE, log entry 165. -/
def execLanemapReceived (port : Fin 12) (lane : Fin 4) (flit : List Byte) (s : State) : Result :=
  let p := port.val
  .next <| s.ctrlIn p lane.val flit 4 none
    (fun b => decide (1 ≤ byteAt b 0) && decide (byteAt b 0 ≤ 15) && decide (byteAt b 1 < 20) && decide (byteAt b 2 < 16)
      && zeros b 3 3 && zeros b 7 119)
    fun b s =>
      let x := s.port p
      let set := byteAt b 0
      let change := bits (byteAt b 1) 4 2
      let tid := BitVec.ofNat 16 (le b 4 2)
      if x.lastMap = some (tid, change, byteAt b 1 % 4) then s
      else match x.transit with
        | none => s.badProto p
        | some t =>
          if t.turnId ≠ tid || t.lane ≠ byteAt b 1 % 4 then s.badProto p
          else match t.kind, t.phase, change with
            | .turnIn, .laneReqSent, 0 =>
              (s.mapped p set tid 0 fun t => { t with phase := .awaitJoin, marker := true, due := some (x.turnDue s.now) }).takeLane p t.lane
            | .turnOut, .awaitJoin, 1 => (s.mapped p set tid 1 fun t => { t with joined := true }).joinDone p
            | .recal, .laneReqSent, 2 => s.mapped p set tid 2 fun t => { t with phase := .eq, due := none, pass := .eqA }
            | .recal, .awaitJoin, 3 => (s.mapped p set tid 3 fun t => { t with joined := true }).joinDone p
            | .exclude, .laneReqSent, 4 => (s.mapped p set tid 4 id).settled p
            | _, _, _ => s.badProto p

/-- TURN_DONE_RECEIVED (R72): the terminal has accepted the first flit on the lane. -/
def execTurnDoneReceived (port : Fin 12) (lane : Fin 4) (flit : List Byte) (s : State) : Result :=
  let p := port.val
  .next <| s.ctrlIn p lane.val flit 6 (some 3) (fun b => decide (byteAt b 1 < 4) && zeros b 4 119) fun b s =>
    match (s.port p).transit with
    | some t =>
      if t.kind = .turnIn && t.phase = .awaitJoin && t.lane = byteAt b 1 && t.turnId = BitVec.ofNat 16 (le b 2 2) then
        (s.modPort p fun x => { x with transit := some { t with joined := true } }).joinDone p
      else s
    | none => s

/-- R74: a turnaround has failed: TURN_FAIL, and the lane goes to recalibration from its new sender's set, a lane change of its own with the next TURN_ID (Table 3-5). -/
def State.turnFails (s : State) (p : Nat) (t : Transit) : State :=
  let s := (s.event (evPort p 4)).trace (agentPort p) 1 p
  let x := s.port p
  let t := { t with turnId := x.turnId }
  let s := s.modPort p fun x => ({ x with turnId := x.turnId + 1 }).modLane t.lane fun v => { v with eqReqs := 0 }
  if t.kind = .turnIn then
    let s := s.modPort p fun x => { x with transit := some { t with kind := .recal, phase := .rotationSent, origDir := .outb, due := none } }
    s.rotate' p ((x.outSet &&& ~~~(laneBit t.lane)).toNat) t.lane 2 0
  else
    let s := s.modPort p fun x =>
      { x with transit := some { t with kind := .recal, phase := .laneReqSent, origDir := .inb, tries := 0, due := some (s.after (2 * x.oneWay + 2000)) } }
    s.laneReq p t.lane 1

/-- TURNAROUND_TIMEOUT (R74). -/
def execTurnaroundTimeout (port : Fin 12) (s : State) : Result :=
  let p := port.val
  match (s.port p).transit with
  | some t =>
    let late := t.phase = .awaitJoin && s.due t.due && ((t.kind = .turnOut && !t.marker) || (t.kind = .turnIn && !t.joined))
    if s.linkUp p && late then .next (s.turnFails p t) else .next s
  | none => .next s

/-- LANE_REQ_RESEND_EXPIRY (R74): a LANE_REQ without an answering LANEMAP goes again, at most three times; then TURN_FAIL, and the change is abandoned. -/
def execLaneReqResendExpiry (port : Fin 12) (s : State) : Result :=
  let p := port.val
  match (s.port p).transit with
  | some t =>
    if s.linkUp p && t.phase = .laneReqSent && s.due t.due then
      if t.tries < 3 then
        let s := s.modPort p fun x =>
          { x with transit := some { t with tries := t.tries + 1, due := some (s.after (2 * x.oneWay + 2000)) } }
        .next (s.laneReq p t.lane (match t.kind with
          | .recal => 1
          | .exclude => 2
          | _ => 0))
      else .next (((s.event (evPort p 4)).trace (agentPort p) 1 p).settled p)
    else .next s
  | none => .next s

/-! ## Sleep, backlog, retrain, lane reports (R50, R70, R498) -/

/-- SLEEP_RECEIVED (R50). -/
def execSleepReceived (port : Fin 12) (lane : Fin 4) (flit : List Byte) (s : State) : Result :=
  .next <| s.ctrlIn port.val lane.val flit 6 (some 1) (fun b => zeros b 1 119) fun _ s =>
    s.modPort port.val fun x => { x with rx := { x.rx with asleep := true } }

/-- BACKLOG_RECEIVED (R70, R110). -/
def execBacklogReceived (port : Fin 12) (lane : Fin 4) (flit : List Byte) (s : State) : Result :=
  .next <| s.ctrlIn port.val lane.val flit 6 (some 4) (fun b => zeros b 1 1 && zeros b 10 119) fun b s =>
    s.modPort port.val fun x => { x with rx := { x.rx with backlog := some (le b 2 2, le b 4 3, le b 7 3) } }

/-- RETRAIN_REQ_RECEIVED (R70): the link goes down and retrains, cause PEER_REQUEST. -/
def execRetrainReqReceived (port : Fin 12) (lane : Fin 4) (flit : List Byte) (s : State) : Result :=
  .next <| s.ctrlIn port.val lane.val flit 6 (some 5) (fun b => zeros b 2 119) fun _ s => s.retrainFor port.val .peerRequest

/-- LANE_BAD_RECEIVED (R498): the first one for a lane that the terminal receives on makes it degraded. -/
def execLaneBadReceived (port : Fin 12) (lane : Fin 4) (flit : List Byte) (s : State) : Result :=
  let p := port.val
  .next <| s.ctrlIn p lane.val flit 6 (some 6)
    (fun b => decide (byteAt b 1 < 4) && decide (1 ≤ byteAt b 2) && decide (byteAt b 2 ≤ 2) && zeros b 3 119)
    fun b s =>
      let l := byteAt b 1
      if (s.port p).outSet.getLsbD l && !((s.port p).lane l).badTold then
        (s.modPort p fun x => x.modLane l fun v => { v with badTold := true }).degraded p l
      else s

/-! ## Time messages (R76, R77) -/

/-- TIME_PERIOD_EXPIRY (R76): a TIME is due; its stamp is inserted as it is sent. -/
def execTimePeriodExpiry (port : Fin 12) (s : State) : Result :=
  let p := port.val
  let x := s.port p
  if s.linkUp p && s.due x.time.due then
    let due := s.after (1000 * x.link.timePeriod)
    let t := x.time
    let s := s.modPort p fun x => { x with time := { t with seq := t.seq + 1, due := some due } }
    let body := [0x01, BitVec.ofNat 8 (1 + 4 * flag t.pdValid)] ++ toLe 2 t.seq.toNat ++ toLe 28 0 ++ toLe 4 t.pathDelay
    .next (s.pushCtrl p { typ := 5, payload := body })
  else .next s

/-- R77: PATH_DELAY, the mean of the last 8 samples, halves rounded up. -/
def TimeMsg.mean (l : List Int) : Nat := ((l.sum + 4) / 8).toNat

/-- R77: one delay sample in units of 1/16 ns. -/
def TimeMsg.sample (t : TimeMsg) (v : Int) : TimeMsg × Bool :=
  if !t.forming && 800 < (v - (t.pathDelay : Int)).natAbs then
    if 7 ≤ t.discards then
      ({ t with samples := [], pdValid := false, discards := 0, discarded := t.discarded + 1, forming := true }, true)
    else ({ t with discards := t.discards + 1, discarded := t.discarded + 1 }, false)
  else
    let l := (v :: t.samples).take 8
    if l.length = 8 then ({ t with samples := l, discards := 0, pathDelay := TimeMsg.mean l, pdValid := true, forming := false }, false)
    else ({ t with samples := l, discards := 0 }, false)

/-- ECHO_RECEIVED (R77): T4 is the timebase now. -/
def execEchoReceived (port : Fin 12) (lane : Fin 4) (flit : List Byte) (s : State) : Result :=
  let p := port.val
  .next <| s.ctrlIn p lane.val flit 5 (some 2)
    (fun b => (decide (byteAt b 1 = 0) || decide (byteAt b 1 = 2)) && zeros b 4 7 && zeros b 32 119)
    fun b s =>
      let v : Int := ((s.now.toNat : Int) - le b 8 8 - ((le b 24 8 : Int) - le b 16 8)) * 8
      let r := (s.port p).time.sample v
      let s := s.modPort p fun x => { x with time := r.1 }
      if r.2 then s.trace (agentPort p) 0 p else s

/-! ## Sending (R61, R64, R66, R68, R69, R104, R497) -/

/-- R497: the head burst of a flow: up to 16 cells, ending at the first with BL. -/
def headBurst : Nat → List Cell → List Cell
  | 0, _ => []
  | _, [] => []
  | n + 1, c :: cs => if c.bl then [c] else c :: headBurst n cs

/-- The TUN of a flow at a Jayth egress. -/
def State.flowTun (s : State) (flow : Nat) : Nat := if flow < 8192 then (s.tunnel flow).tun else 0

/-- A burst that could be sent: queue, flow, TUN and length. -/
structure Ready where
  q : Nat
  flow : Nat
  tun : Nat
  len : Nat
  /-- credit covers it -/
  credit : Bool

/-- R66, R497: the bursts present at a port, one for each flow; a SMPL tunnel has one only when its BL cell is in Marl. -/
def State.bursts (s : State) (p : Nat) : List Ready :=
  let a := agentPort p
  ((List.range 9).map fun q => (s.servable a q).filterMap fun f =>
    let b := headBurst 16 ((s.egq a q).flow f)
    let tun := s.flowTun f
    let x := (s.port p).tun tun
    let room := (x.credit - x.sent).toNat
    let whole := q ≠ 1 || (b.getLast?.any (·.bl))
    if b.isEmpty || !whole then none
    else some { q := q, flow := f, tun := tun, len := b.length, credit := decide (b.length ≤ room) && decide (room ≤ 32767) }).flatten

/-- R104: the first, in round-robin order of TUN after `last`, of a list. -/
def rrBurst (l : List Ready) (last : Nat) : Option Ready :=
  match (l.map (·.tun)).filter (last < ·) |>.min? with
  | some t => l.find? (·.tun = t)
  | none => match (l.map (·.tun)).min? with
    | some t => l.find? (·.tun = t)
    | none => none

/-- R104: the deficit round-robin: visits go on until one tunnel may send its head burst. -/
def drr : Nat → List Ready → Nat → Port → (Nat → Nat) → Port × Option Ready
  | 0, _, _, x, _ => (x, none)
  | n + 1, l, last, x, w =>
    match rrBurst l last with
    | none => (x, none)
    | some r =>
      let d := (x.tun r.tun).deficit + w r.flow
      if r.len ≤ d then
        ({ x.modTun r.tun fun t => { t with deficit := d - r.len } with tx := { x.tx with rrBe := r.tun } }, some r)
      else drr n l r.tun (x.modTun r.tun fun t => { t with deficit := d }) w

/-- R102: the weight in force of the tunnel of a flow: that of the last cycle start, or before the first one that of its entry. -/
def State.weightOf (s : State) (p flow : Nat) : Nat :=
  let t := s.tunnel flow
  let w := ((s.port p).tun t.tun).wNow
  if w = 0 then t.wOut else w

/-- R104: the reserved budgets, then the deficit round-robin. -/
def State.selectData (s : State) (p : Nat) (ok : List Ready) : State × Option Ready :=
  let x := s.port p
  match rrBurst (ok.filter fun r => decide (0 < (x.tun r.tun).rsvLeft)) x.tx.rrRsv with
  | some r =>
    let x := x.modTun r.tun fun t => { t with rsvLeft := t.rsvLeft - r.len, overrun := t.overrun + (r.len - t.rsvLeft) }
    (s.setPort p { x with tx := { x.tx with rrRsv := r.tun, beBurst := false } }, some r)
  | none =>
    let be := ok.filter (·.tun ≠ 0)
    let d := drr (16 * be.length + 1) be x.tx.rrBe x fun f => s.weightOf p f
    (s.setPort p { d.1 with tx := { d.1.tx with beBurst := true } }, d.2)

/-- R104: which burst the scheduler selects: MGMT up to 256 a cycle, then the tunnels' flows. -/
def State.selectBurst (s : State) (p : Nat) : State × Option Ready :=
  let ok := (s.bursts p).filter (·.credit)
  match ok.find? (·.tun = 0) with
  | some r =>
    if (s.port p).tx.mgmtSent < 256 then
      (s.modPort p fun x => { x with tx := { x.tx with mgmtSent := x.tx.mgmtSent + 1, beBurst := false } }, some r)
    else s.selectData p ok
  | none => s.selectData p ok

/-- R142: the cells of a burst are read, each committed; they are the flits of the burst, BL on the last. -/
def State.readBurst (a q flow tun pri : Nat) : Nat → State → State × List DataFlit
  | 0, s => (s, [])
  | n + 1, s =>
    let r := s.readHead a q flow true
    match r.2 with
    | none => (r.1, [])
    | some c =>
      let rest := State.readBurst a q flow tun pri n r.1
      (rest.1, { tun := tun, pri := pri, bl := rest.2.isEmpty, poison := c.poison, payload := c.payload } :: rest.2)

/-- R351: a PTP event message that came in at an Ethernet port leaves for a Jayth link with its residence and the link's PATH_DELAY added. DEDUCED, log entry 105. -/
def ptpBurst (enc residence : Nat) (fl : List DataFlit) : List DataFlit :=
  let b := (fl.map fun f => (padTo 120 f.payload).drop 4).flatten
  let frame := (b.drop 4).take (bits (le b 0 4) 13 0)
  if (fl.any (·.poison)) || bits (le ((fl.headD {}).payload) 0 2) 6 0 ≠ 0 || frame.length ≠ bits (le b 0 4) 13 0 || (ptpAt enc frame).isNone then fl
  else (fl.zip (recordFlits 20 true (recordBytes 0 (ptpCorrect enc residence frame)))).map fun e => { e.1 with payload := e.2 }

/-- R131, R137, R497: the next burst of a Jayth egress: head checks of every flow, the scheduler's choice, its cells into staging. -/
def State.stageBurst (s : State) (p : Nat) : State :=
  let a := agentPort p
  let fifos := ((List.range 9).map fun q => (s.servable a q).map fun f => (q, f)).flatten
  let s := fifos.foldl (fun s e => s.checkHead a e.1 e.2) s
  let r := s.selectBurst p
  match r.2 with
  | none => r.1
  | some b =>
    let pri := if b.tun = 0 then 2 else classPri (r.1.tunnel b.flow).cls (r.1.tunnel b.flow).periodic
    let t := r.1.tunnel b.flow
    let net := r.1.netPort (bits t.clientRef.toNat 13 12)
    let at' := ((((r.1.egq a b.q).flow b.flow).head?).map (·.arrival)).getD r.1.now
    let d := State.readBurst a b.q b.flow b.tun pri b.len r.1
    let cells := if b.tun ≠ 0 && t.cls = 5 && net.ptpEvents then
        ptpBurst net.ptpEnc ((r.1.now - at').toNat * 65536 + (r.1.port p).time.pathDelay * 4096) d.2
      else d.2
    (d.1.modPort p fun x => { x with tx := { x.tx with burstCells := cells } }).flushWrites

/-- R33, R34: the flits of a marker group. -/
def Port.groupFlits (x : Port) : Nat := if x.fec then 5140 else 4096

/-- R32 to R35: one flit on a lane, after a marker when the lane's group is full: its bytes, and the scrambled bits of its block or codewords. PRESUMED, log entry 140. -/
def State.laneFlit (s : State) (p l : Nat) (bytes : List Byte) : State :=
  let s := if (s.port p).groupFlits ≤ ((s.port p).lane l).flitsTx then s.sendMarker p l else s
  let r := scramble bytes ((s.port p).lane l).scram
  let head := if (s.port p).fec then none else some 1
  let s := s.modPort p fun x => x.modLane l fun v => { v with flitsTx := v.flitsTx + 1, scram := r.2 }
  (s.send (.flit p l bytes)).send (.line p l head r.1)

/-- One flit leaves on the next lane in stripe order (R68). -/
def State.putFlit (s : State) (p : Nat) (bytes : List Byte) : State :=
  let x := s.port p
  let l := (lanesOf x.outSet).getD x.tx.stripe 0
  let s := s.modPort p fun x => { x with tx := { x.tx with stripe := if x.tx.stripe + 1 < laneCount x.outSet then x.tx.stripe + 1 else 0 } }
  s.laneFlit p l bytes

/-- R69: the NULL flits that fill the rest of a leaving lane's codeword, FEC on: `n` flits of 1024 bits have been sent of the 5140-bit messages of the group. -/
def codewordFill (n : Nat) : Nat := ((5140 - 1024 * n % 5140) % 5140 + 1023) / 1024

/-- R69: a lane leaves its set: with FEC on NULL flits fill its codeword. -/
def State.fillLane (s : State) (p l : Nat) : State :=
  if (s.port p).fec then (List.range (codewordFill ((s.port p).lane l).flitsTx)).foldl (fun s _ => s.laneFlit p l (flitBytes 0 [])) s else s

/-- R69: the last copy of a rotation has been sent: the new set takes effect, and the lane change goes on. -/
def State.rotationDone (s : State) (p m : Nat) : State :=
  let s := (lanesOf ((s.port p).outSet &&& ~~~(BitVec.ofNat 4 m))).foldl (fun s l => s.fillLane p l) s
  let s := s.modPort p fun x => { x with outSet := BitVec.ofNat 4 m, tx := { x.tx with stripe := 0 } }
  match (s.port p).transit with
  | none => s
  | some t =>
    let s := s.modPort p fun x => x.modLane t.lane fun v => { v with badTold := false }
    let set (t : Transit) (s : State) : State := s.modPort p fun x => { x with transit := some t }
    match t.phase, t.kind with
    | .rotationSent, .turnOut =>
      (set { t with phase := .awaitJoin, due := some ((s.port p).turnDue t.startAt) } s).turnSets p t.lane .outb
    | .rotationSent, .recal => ((set { t with phase := .eq, due := none, pass := .eqA } s).presetLanes p (laneBit t.lane)).sendTb p (laneBit t.lane) fun l => { target := l }
    | .rotationSent, .exclude => s.settled p
    | .awaitJoin, .recal => (set { t with joined := true, marker := true } s).joinDone p
    | _, _ => s

/-- R60, R69, R76: a control flit is sent; a TIME takes its stamp; a SLEEP puts the direction to sleep (R50). -/
def State.putCtrl (s : State) (p : Nat) (c : Ctrl) : State :=
  let pl := if c.typ = 5 then putBytes (padTo 120 c.payload) 8 (toLe 8 s.now.toNat) else c.payload
  let s := s.putFlit p (flitBytes c.typ pl)
  let s := if c.counts then s.armIdle p else s
  let s := match c.newSet with
    | some m => s.rotationDone p m
    | none => s
  if c.typ = 6 && byteAt c.payload 0 = 1 then
    let due := s.after (1000 * (s.port p).keepForce)
    s.modPort p fun x => { x with tx := { x.tx with asleep := true, keepDue := some due } }
  else s

/-- R84: best-effort data takes a slot: each reserved tunnel with budget left that cannot use it for lack of credit counts it in CREDIT_WAIT. -/
def State.creditWaits (s : State) (p : Nat) : State :=
  if (s.port p).tx.beBurst then
    let wait := (s.bursts p).filter fun r => !r.credit && decide (0 < ((s.port p).tun r.tun).rsvLeft)
    wait.foldl (fun s r => s.modPort p fun x => x.modTun r.tun fun t => { t with creditWait := t.creditWait + 1 }) s
  else s

/-- R61, R64, R66: a DATA flit is sent for the first time. -/
def State.putData (s : State) (p : Nat) (f : DataFlit) (rest : List DataFlit) : State :=
  let seq := (s.port p).tx.seqNext
  let f := { f with seq := seq }
  let now := s.now
  let s := s.modPort p fun x =>
    let x : Port := { x with tx := { x.tx with seqNext := seq + 1, burstCells := rest, sentCycle := x.tx.sentCycle + 1
                                               unacked := x.tx.unacked ++ [{ seq := seq, flit := f, sentAt := now }] } }
    x.modTun f.tun fun t => { t with sent := t.sent + 1 }
  (s.putFlit p f.bytes).armIdle p

/-- FLIT_SLOT (R61, R64, R68, R104): one slot of the outbound direction: a control flit, a resend, the burst in progress or the next one, or a NULL flit. -/
def execFlitSlot (port : Fin 12) (s : State) : Result :=
  let p := port.val
  let x := s.port p
  if !s.linkUp p || x.tx.asleep || x.outSet = 0 then .next s
  else match x.tx.ctrl, x.tx.resend with
    | c :: rest, _ => .next ((s.modPort p fun x => { x with tx := { x.tx with ctrl := rest } }).putCtrl p c)
    | [], u :: rest =>
      .next (((s.modPort p fun x => { x with tx := { x.tx with resend := rest } }).putFlit p u.flit.bytes).armIdle p)
    | [], [] =>
      if 2048 ≤ x.tx.unacked.length then .next (s.putFlit p (flitBytes 0 []))
      else
        let s := if x.tx.burstCells.isEmpty then s.stageBurst p else s
        match (s.port p).tx.burstCells with
        | f :: rest => .next ((s.creditWaits p).putData p f rest)
        | [] => .next (s.putFlit p (flitBytes 0 []))

/-- R50: something waits that counts as a flit to send. -/
def State.hasWork (s : State) (p : Nat) : Bool :=
  let x := s.port p
  x.tx.ctrl.any (·.counts) || !x.tx.resend.isEmpty || !x.tx.burstCells.isEmpty || (s.bursts p).any (·.credit)

/-- SLEEP_IDLE_EXPIRY (R50, R51, Table 3-8): nothing to send for the idle time: SLEEP is sent; it waits while a lane is in transit. -/
def execSleepIdleExpiry (port : Fin 12) (s : State) : Result :=
  let p := port.val
  let x := s.port p
  if s.linkUp p && !x.tx.asleep && s.due x.tx.idleDue && x.transit.isNone && !s.hasWork p then
    .next (s.pushCtrl p { typ := 6, payload := [0x01], counts := false })
  else .next s

/-- DIRECTION_WAKE (R50): a sleeping direction with a flit to send wakes. -/
def execDirectionWake (port : Fin 12) (s : State) : Result :=
  if (s.port port.val).tx.asleep && s.hasWork port.val then .next (s.wakeOut port.val) else .next s

/-- KEEPALIVE_EXPIRY (R50): a sleeping sender wakes at least once per keep-alive interval. -/
def execKeepaliveExpiry (port : Fin 12) (s : State) : Result :=
  let x := s.port port.val
  if x.tx.asleep && s.due x.tx.keepDue then .next (s.wakeOut port.val) else .next s

end Sys2Proof.Machine
end

