-- ==== Sys2Proof/Machine/Msg.lean ====
section
/-! DEFINITION. Sys2Proof/Machine/Msg.lean: the MGMT messages that firmware receives on TUN 0 (R94 to R96), and the orphan window. -/

namespace Sys2Proof.Machine

/-- Firmware takes the oldest message of the port's receive FIFO if it is one of those named; its Marl space was freed when it left Marl, and its credit returns with CREDIT_RETURN. DESIGN CHOICE, log entry 36. -/
def State.takeMsg (s : State) (p : Nat) (msg : Nat) (f : MgmtMsg → State → State) : State :=
  match (s.port p).mgmtRx with
  | [] => s
  | m :: rest =>
    if m.msg ≠ msg then s
    else
      let s := s.modPort p fun x => { x with mgmtRx := rest }
      f m (if rest.isEmpty then s.level (evPort p 9) false else s)

/-- R95: an answer is awaited: a request of the message answered, with its XID. -/
def State.awaited (s : State) (p : Nat) (xid : BitVec 16) (msg : Nat) : Option Await :=
  (s.port p).awaits.find? fun a => decide (a.xid = xid) && decide (a.msg.msg = msg)

/-- R95: the answer ends its request; one that no request awaits is counted in PROTO_ERR. -/
def State.answer (s : State) (p : Nat) (m : MgmtMsg) (req : Nat) (f : Await → State → State) : State :=
  match s.awaited p m.xid req with
  | some a => f a (s.modPort p fun x => { x with awaits := x.awaits.filter (·.xid ≠ m.xid) })
  | none => s.badProto p

/-- TERM_INFO_RECEIVED (R94, R115, R118): the terminal's abilities are stored; restores, waiting plan tunnels and creates that waited for it are opened. -/
def execTermInfoReceived (port : Fin 12) (s : State) : Result :=
  let p := port.val
  .next <| s.takeMsg p 0x02 fun m s =>
    let s := s.modPort p fun x => { x with termInfo := some m.body }
    let fresh := (s.portTunnels p .opening).filter fun t =>
      !(s.tunnel t).planWait && !(s.port p).awaits.any (·.tid = t)
    fresh.foldl State.sendOpen (s.retryTunnels p)

/-- R101: an OPENING tunnel is opened: credit is granted, the create completes, or the restore is told. -/
def State.opened (s : State) (tid : Nat) : State :=
  let t := s.tunnel tid
  let s := s.setTunnel tid { t with state := .opened, restore := false, create := none, orphanAt := none }
  let s := if t.dirs.getLsbD 1 then s.grantTun t.port t.tun else s
  let s := s.completeOpt t.create 0x0201 .ok 0 (s.createResult tid)
  let s := if t.restore then s.tunnelNotice tid 0x02 .ok else s
  if t.cls = 2 || t.cls = 3 then s.rootFollows t.port else s

/-- OPEN_ACK_RECEIVED (R95, R101). -/
def execOpenAckReceived (port : Fin 12) (s : State) : Result :=
  .next <| s.takeMsg port.val 0x11 fun m s => s.answer port.val m 0x10 fun a s => s.opened a.tid

/-- R94: status and DETAIL of an OPEN_NAK reason; one that Table 4-6 does not name counts as a bad parameter. DESIGN CHOICE, log entry 155. -/
def nakStatus : Nat → Status × Nat
  | 1 => (.denied, 0x21)
  | 2 => (.noResource, 0x22)
  | _ => (.malformed, 0x23)

/-- OPEN_NAK_RECEIVED (R94, R100, R101): the create completes; a restore goes back to ORPHAN; any other tunnel returns to FREE, its TUN unusable until the next link down. DESIGN CHOICE, log entry 155. -/
def execOpenNakReceived (port : Fin 12) (s : State) : Result :=
  .next <| s.takeMsg port.val 0x12 fun m s => s.answer port.val m 0x10 fun a s =>
    let tid := a.tid
    let t := s.tunnel tid
    let r := nakStatus (byteAt m.body 3)
    if t.restore then s.setTunnel tid { t with state := .orphan, restore := false }
    else s.revertCreate tid r.1 r.2

/-- CLOSE_ACK_RECEIVED (R15, R95, R101). -/
def execCloseAckReceived (port : Fin 12) (s : State) : Result :=
  .next <| s.takeMsg port.val 0x14 fun m s => s.answer port.val m 0x13 fun a s => s.closeDone a.tid true

/-- R95, R105, R270: the answer to the ALLOT_IN of the inbound raise in progress: it takes effect. That of another modify changes nothing more. -/
def State.raiseDone (s : State) (a : Await) : State :=
  let tid := a.tid
  let t := s.tunnel tid
  match t.modify with
  | some m =>
    if m.raiseIn && m.xid = a.xid then
      let s := s.setTunnel tid { t with rsvIn := m.rsvIn, wIn := m.wIn, modify := none }
      let s := s.grantTun t.port t.tun
      (s.completeOpt m.cmd 0x0203 .ok 0 (toLe 2 t.rsvOut ++ toLe 2 m.rsvIn)).nextModify tid
    else s
  | none => s

/-- ALLOT_ACK_RECEIVED (R95, R105, R270). -/
def execAllotAckReceived (port : Fin 12) (s : State) : Result :=
  .next <| s.takeMsg port.val 0x21 fun m s => s.answer port.val m 0x20 fun a s => s.raiseDone a

/-- TUN_STATUS_RECEIVED (R96): a notice and a trace event; nothing else changes. -/
def execTunStatusReceived (port : Fin 12) (s : State) : Result :=
  let p := port.val
  .next <| s.takeMsg p 0x30 fun m s =>
    let tun := bits (le m.body 0 2) 9 0
    let code := byteAt m.body 3
    match s.tidOf p tun with
    | none => s.badProto p
    | some tid =>
      let t := s.tunnel tid
      if t.state ≠ .opening && t.state ≠ .opened then s.badProto p
      else if t.gen ≠ BitVec.ofNat 8 (byteAt m.body 2) || code = 0 || 4 < code then s.protoDrop p tun
      else (s.tunnelNotice tid (3 + code) .ok).trace (agentPort p) 0 tid

/-- R94: a request unanswered after its resends. The raise that its ALLOT_IN carried is given up and the old values stay; a cut takes effect anyway. -/
def State.unanswered (s : State) (a : Await) : State :=
  let t := s.tunnel a.tid
  if a.msg.msg = 0x10 then
    if t.restore then s.setTunnel a.tid { t with state := .orphan, restore := false }
    else s.revertCreate a.tid .timeout 0
  else if a.msg.msg = 0x13 then s.closeDone a.tid false
  else match t.modify with
    | some m =>
      if m.raiseIn && m.xid = a.xid then ((s.undoModify a.tid .timeout).nextModify a.tid).retryTunnels t.port else s
    | none => s

/-- MGMT_RESEND_EXPIRY (R94): an unanswered request is sent again after 1 ms, at most twice; then it is given up. -/
def execMgmtResendExpiry (port : Fin 12) (xid : BitVec 16) (s : State) : Result :=
  let p := port.val
  match (s.port p).awaits.find? fun a => decide (a.xid = xid) with
  | none => .next s
  | some a =>
    if s.now.toNat < a.due.toNat then .next s
    else
      let rest := (s.port p).awaits.filter (·.xid ≠ xid)
      if a.tries < 2 then
        let a' := { a with tries := a.tries + 1, due := s.after 1000000 }
        .next ((s.modPort p fun x => { x with awaits := rest ++ [a'] }).queueMgmt p a.msg)
      else .next ((s.modPort p fun x => { x with awaits := rest }).unanswered a)

/-- R113, R117: the orphan window in force has passed since a tunnel's loss. -/
def State.windowOver (s : State) (tid : Nat) : Bool :=
  let t := s.tunnel tid
  match t.orphanAt with
  | some at' => decide (at'.toNat + 100000000 * (s.port t.port).allot.orphanWin ≤ s.now.toNat)
  | none => false

/-- ORPHAN_WINDOW_EXPIRY (R113, R116): each tunnel still ORPHAN when its window has passed is torn down with LINK_LOST. -/
def execOrphanWindowExpiry (port : Fin 12) (s : State) : Result :=
  .next (((s.portTunnels port.val .orphan).filter s.windowOver).foldl (fun s t => s.teardown t 5) s)

end Sys2Proof.Machine
end

