-- ==== Sys2Proof/Machine/Allot.lean ====
section
/-! DEFINITION. Sys2Proof/Machine/Allot.lean: the allotment cycle: reserved budgets, the turnaround trigger and the home split; the display reservation (R90). -/

namespace Sys2Proof.Machine

/-! ## Budgets (R102, R104, R109) -/

/-- R338: a reserved budget of a host port's tunnel, scaled while the client is overcommitted. DEDUCED, log entry 116. -/
def State.clientBudget (s : State) (client : Nat) (d : Dir) (rsv : Nat) : Nat :=
  match s.ceiling client with
  | some c => if (client = 3 || client = 4) && c < s.clientSum client d then rsv * c / s.clientSum client d else rsv
  | none => rsv

/-- R109: a reserved budget of a direction, scaled while the lanes of the port, or its client (R338), are overcommitted. -/
def State.budget (s : State) (p client : Nat) (d : Dir) (rsv : Nat) : Nat :=
  let b := if s.over p d then rsv * s.ps p (laneCount ((s.port p).lanesIn d)) / s.laneSum p d else rsv
  min b (s.clientBudget client d rsv)

/-- R102, R104, R109: the budgets of both directions in the new cycle; what a tunnel used beyond its outbound budget comes off its next one. The weight in force is the entry's at the cycle start. DEDUCED, log entry 116. -/
def State.setBudgets (s : State) (p : Nat) : State :=
  let l := s.portTunnels p .opened
  l.foldl (fun s tid =>
    let t := s.tunnel tid
    let b := s.budget p t.client .outb t.rsvOut
    let bi := s.budget p t.client .inb t.rsvIn
    s.modPort p fun x => x.modTun t.tun fun u => { u with rsvLeft := b - u.overrun, overrun := 0, budgetIn := bi, wNow := t.wOut }) s

/-- R109: RSV_OVERCOMMIT when a direction becomes overcommitted. -/
def State.noteOver (s : State) (p : Nat) : State :=
  let a := (s.port p).allot
  let o := s.over p .outb
  let i := s.over p .inb
  let s := s.modPort p fun x => { x with allot := { x.allot with overOut := o, overIn := i } }
  if (o && !a.overOut) || (i && !a.overIn) then (s.event (evPort p 10)).trace (agentPort p) 1 p else s

/-- R338: CLIENT_OVERCOMMIT when the reservations of a host port's tunnels exceed its ceiling; its condition ends when they fit. -/
def State.noteClient (s : State) (h : Nat) : State :=
  let excess := !(decide (s.clientSum (3 + h) .outb ≤ (s.ceiling (3 + h)).getD 0) && decide (s.clientSum (3 + h) .inb ≤ (s.ceiling (3 + h)).getD 0))
  let was := (s.hp h).overRsv
  let s := s.modHp h fun x => { x with overRsv := excess }
  if excess && !was then s.alarmOccur 22 h true
  else if !excess && was && !(s.hp (1 - h)).overRsv then s.alarmEnd 22 else s

/-- R105, R118, R270: a modify that waits for a cycle start, not for ALLOT_ACK, completes; an inbound cut holds from its EFFECTIVE cycle, and waiting tunnels are checked again. -/
def State.applyModify (s : State) (tid : Nat) : State :=
  let t := s.tunnel tid
  match t.modify with
  | some m =>
    if m.raiseIn || s.cycle < m.effective then s
    else
      let s := s.setTunnel tid { t with rsvIn := m.rsvIn, wIn := m.wIn, modify := none }
      ((s.completeOpt m.cmd 0x0203 .ok 0 (toLe 2 t.rsvOut ++ toLe 2 m.rsvIn)).nextModify tid).retryTunnels t.port
  | none => s

/-! ## The turnaround trigger (R110 to R112) -/

/-- R110: what the trigger sees of a port: flits sent and queued outbound, then inbound. -/
structure TurnView where
  sentOut : Nat
  backOut : Nat
  sentIn : Nat
  backIn : Nat

/-- R110: over the cycle just ended; the inbound quantities lag by one cycle. -/
def State.turnView (s : State) (p : Nat) : TurnView :=
  let x := s.port p
  { sentOut := x.tx.sentCycle
    backOut := ((List.range 16).map fun q => (s.egq (agentPort p) q).depth).sum
    sentIn := x.rx.recvLast
    backIn := match x.rx.backlog with
      | some (_, r, b) => r + b
      | none => 0 }

/-- R110: the counter of a direction after one evaluation. DEDUCED, log entry 117. -/
def turnCount (thresh back : Nat) (fits : Bool) (c : Nat) : Nat :=
  if 2 * back < thresh || !fits then 0
  else if thresh ≤ back then min 255 (c + 1)
  else c

/-- R111: the conditions on a turn out of direction `a`. DEDUCED, log entry 117. -/
def State.mayTurn (s : State) (p : Nat) (a : Dir) : Bool :=
  let x := s.port p
  let last := match a with
    | .outb => x.allot.lastToOut
    | .inb => x.allot.lastToIn
  let held := match last with
    | some n => decide (s.cycle - n < x.allot.holdCycles)
    | none => false
  s.mayLeave p a && x.transit.isNone && x.pd.cable.dirAgile && !held

/-- R111: the highest-numbered lane of a direction that is not locked to it. -/
def Port.turnLane (x : Port) (a : Dir) : Option Nat := (lanesOf (x.lanesIn a &&& ~~~x.lockRec)).getLast?

/-- R111, R71, R72: a turn of one lane out of direction `a` begins, if it may; it is traced. -/
def State.turn (s : State) (p : Nat) (a : Dir) : Option State :=
  match s.mayTurn p a, (s.port p).turnLane a with
  | true, some l =>
    let s := if a = .outb then s.wakeOut p else s
    let s := s.beginChange p l (match a with
      | .outb => .turnOut
      | .inb => .turnIn) a
    some (s.trace (agentPort p) 1 p)
  | _, _ => none

/-- R111: the requests that the counters ask for; both at once go toward the larger backlog, or nowhere when equal. -/
def State.turnRequests (s : State) (p : Nat) (v : TurnView) : State :=
  let a := (s.port p).allot
  let cl (o i : Bool) (s : State) : State :=
    s.modPort p fun x => { x with allot := { x.allot with cOut := if o then 0 else x.allot.cOut, cIn := if i then 0 else x.allot.cIn } }
  let wantIn := decide (a.turnCycles ≤ a.cIn)
  let wantOut := decide (a.turnCycles ≤ a.cOut)
  if wantIn && wantOut then
    let s := cl true true s
    if v.backOut < v.backIn then (s.turn p .outb).getD s
    else if v.backIn < v.backOut then (s.turn p .inb).getD s
    else s
  else if wantIn then ((s.turn p .outb).map (cl false true)).getD s
  else if wantOut then ((s.turn p .inb).map (cl true false)).getD s
  else s

/-- R112: the outbound lanes of the home split, so limited that each direction keeps a lane; a lane locked to a direction counts there. -/
def Port.homeOut (x : Port) : Nat :=
  let n := laneCount (~~~x.exclRec)
  let lo := laneCount (x.lockRec &&& x.lockOut &&& ~~~x.exclRec)
  let li := laneCount (x.lockRec &&& ~~~x.lockOut &&& ~~~x.exclRec)
  min (max (laneCount x.train.outMask) (max 1 lo)) (n - max 1 li)

/-- R112: one evaluation of the home conditions, and the turn back once they have held for HOME_CYCLES. -/
def State.turnHome (s : State) (p : Nat) (v : TurnView) : State :=
  let x := s.port p
  let h := x.homeOut
  let k := laneCount x.outSet
  let n := laneCount (~~~x.exclRec)
  let a : Dir := if h < k then .outb else .inb
  let set (c : Nat) (s : State) : State := s.modPort p fun x => { x with allot := { x.allot with homeRun := c } }
  let ok := decide (2 * v.backOut < x.allot.turnThresh) && decide (2 * v.backIn < x.allot.turnThresh)
    && decide (v.sentOut + v.backOut ≤ s.ps p h) && decide (v.sentIn + v.backIn ≤ s.ps p (n - h)) && s.mayLeave p a
  if x.allot.homeCycles = 0 || k = h || !ok then set 0 s
  else if x.allot.homeRun + 1 < x.allot.homeCycles then set (x.allot.homeRun + 1) s
  else match s.turn p a with
    | some s' => set 0 s'
    | none => set x.allot.homeCycles s

/-- R273: the deferred exclusion is made at the first cycle start at which R106 and R28 permit. -/
def State.deferredExclude (s : State) (p : Nat) : State :=
  let x := s.port p
  match x.defExcl with
  | none => s
  | some l =>
    match x.laneDir l with
    | none => if x.transit.isSome then s else s.modPort p fun x => { x with defExcl := none }
    | some d =>
      if s.mayLeave p d && x.transit.isNone then
        let s := s.modPort p fun x => { x with defExcl := none }
        (if d = .outb then s.wakeOut p else s).beginChange p l .exclude d
      else s

/-- R110: the counts of the cycle that begins. -/
def State.rollCycle (s : State) (p : Nat) : State :=
  let n := s.cycle
  s.modPort p fun x =>
    { x with tx := { x.tx with sentCycle := 0, mgmtSent := 0 }
             rx := { x.rx with recvLast := x.rx.recvCycle, recvCycle := 0, backlog := none }
             allot := { x.allot with cycle := some n } }

/-- R110: the two counters after the evaluation. -/
def State.turnCounts (s : State) (p : Nat) (v : TurnView) : State :=
  let x := s.port p
  let a := x.allot
  let fitsIn := decide (v.sentOut + v.backOut ≤ s.ps p (laneCount x.outSet - 1))
  let fitsOut := decide (v.sentIn + v.backIn ≤ s.ps p (laneCount x.inSet - 1))
  s.setPort p { x with allot := { a with cIn := turnCount a.turnThresh v.backIn fitsIn a.cIn
                                         cOut := turnCount a.turnThresh v.backOut fitsOut a.cOut } }

/-- ALLOT_CYCLE_START (R102, R104, R105, R109 to R112, R270, R273, R338): the start of allotment cycle floor(timebase / 125 µs) at an ACTIVE port, once. -/
def execAllotCycleStart (port : Fin 12) (s : State) : Result :=
  let p := port.val
  if !s.linkUp p || (s.port p).allot.cycle = some s.cycle then .next s
  else
    let v := s.turnView p
    let s := (s.turnCounts p v).rollCycle p
    let s := (s.portTunnels p .opened).foldl State.applyModify s
    let s := ((((s.noteOver p).noteClient 0).noteClient 1).setBudgets p).deferredExclude p
    .next ((s.turnRequests p v).turnHome p v)

end Sys2Proof.Machine
end

