-- ==== Sys2Proof/Machine/Silt.lean ====
section
/-! DEFINITION. Sys2Proof/Machine/Silt.lean: the journal, trace and alarm commands and events ("Silt: journal, traces and alarms"). -/

namespace Sys2Proof.Machine

/-! ## Journal sinks -/

/-- R494: the entries of the Loam ring from JIDX `j` on, `n` of them. -/
def State.journalEntries (s : State) (j : Nat) : Nat → List Byte
  | 0 => []
  | n + 1 => (Tab.get {} s.silt.ring (j % 8192)).bytes ++ s.journalEntries (j + 1) n

/-- R494: the TAG of the entry before JIDX `j`, for `j` from the oldest entry held to JRNL_NEXT. -/
def State.tagBefore (s : State) (j : Nat) : List Byte :=
  if j = s.silt.next then s.jrnlTag
  else if j = s.silt.oldest then s.tagBeforeOldest
  else ((Tab.get {} s.silt.ring ((j - 1) % 8192)).bytes.drop 24).take 8

def infoJrnlRead : CmdInfo := { opcode := 0x0801, fromO := true, fromM := true, fromD := true, len := 18 }

/-- What the checks of JRNL_READ find (R494). -/
def checksJrnlRead (c : Cmd) : Checks :=
  let want := le c.payload 16 2
  let addr := le c.payload 8 8
  { bad := orBad (firstBad [anyField 0 8, anyField 8 8, anyField 16 2] c.payload)
      (badIf (bufferBad c addr (32 * want)) 8) }

/-- JRNL_READ (R494, R405): entries whose page fails in both copies of the Loam memory are lost: MEDIA_ERROR. DESIGN CHOICE, log entry 174. -/
def execJrnlRead (c : Cmd) (s : State) : Result :=
  let want := le c.payload 16 2
  let addr := le c.payload 8 8
  let first := max (le c.payload 0 8) s.silt.oldest
  let n := min want (s.silt.next - first)
  let at' := if n = 0 then s.silt.next else first
  .next <| s.command infoJrnlRead c (checksJrnlRead c) fun s =>
      let r := s.loamReads (journalPages first n)
      let s := r.1
      if c.accessFailed || r.2 then s.complete c 0x0801 .mediaError 0 []
      else (s.bufferWrite c addr (s.journalEntries first n)).ok c 0x0801
        (toLe 8 n ++ s.tagBefore at' ++ toLe 8 at')

/-- R420: the alarm JOURNAL_NO_SINK occurs when the last enabled sink is disabled after release, and its condition ends when one is enabled. -/
def State.sinkAlarm (s : State) (hadNone : Bool) : State :=
  let s := s.journalAlarm
  if s.noSink then
    if !hadNone && s.boot.released then s.alarmOccur 24 0 true else s
  else if (s.alarm 24).cond then s.alarmEnd 24 else s

/-- R425: records that every bound trace sink has taken leave the buffer. -/
def State.traceRelease (s : State) : State :=
  let nexts := (if s.hosts.hp0.tOn then [s.hosts.hp0.tNext] else [])
    ++ (if s.hosts.hp1.tOn then [s.hosts.hp1.tNext] else [])
    ++ (if s.silt.mgmtT then [s.silt.traceNext - (s.silt.traceMgmtPi - s.silt.traceMgmtCi).toNat] else [])
  let low := nexts.min?.getD s.silt.traceNext
  s.modSilt fun x => { x with trace := x.trace.filter fun e => decide (low ≤ e.1) }

/-- R425: a trace sink is bound. -/
def State.traceBound (s : State) : Bool := s.hosts.hp0.tOn || s.hosts.hp1.tOn || s.silt.mgmtT

/-- R422, R492: binding the journal ring of a host port; the binding starts at the oldest unreleased entry. -/
def State.bindJournal (s : State) (h base log2 : Nat) : State :=
  let start := s.sinkStart
  s.modHp h fun x =>
    { x with jOn := true, jBase := BitVec.ofNat 64 base, jLog2 := log2, jPi := 0, jCi := 0
             jNext := start, jFirst := BitVec.ofNat 64 start }

/-- R422: unbinding the sinks of a host port releases the entries held only for it. -/
def State.unbindJournal (s : State) (h : Nat) : State := s.modHp h fun x => { x with jOn := false }

/-- R422: binding a host trace ring; it begins with the first record written after. -/
def State.bindTrace (s : State) (h base log2 : Nat) : State :=
  s.modHp h fun x =>
    { x with tOn := true, tBase := BitVec.ofNat 64 base, tLog2 := log2, tPi := 0, tCi := 0
             tNext := s.silt.traceNext, tLost := 0 }

def State.unbindTrace (s : State) (h : Nat) : State :=
  (s.modHp h fun x => { x with tOn := false, tLost := 0 }).traceRelease

def infoSiltDrainBind : CmdInfo := { opcode := 0x0802, fromO := true, fromM := true, journal := true, len := 16 }

/-- R492: the sink a SILT_DRAIN_BIND names: none the management sink, else the host port's ring. -/
def drainTarget (c : Cmd) : Option Nat :=
  match c.route.slice? with
  | some (h, _) => some h
  | none => if byteAt c.payload 3 = 0 then none else some (byteAt c.payload 3 - 1)

/-- R492: the named sink of class `cls` is enabled. -/
def State.drainOn (s : State) (cls : Nat) : Option Nat → Bool
  | some h => if cls = 0 then (s.hp h).jOn else (s.hp h).tOn
  | none => if cls = 0 then s.silt.mgmtJ.on else s.silt.mgmtT

/-- R415: the canonical value of a sink: the SILT_DRAIN_BIND payload in force. -/
def State.sinkValue (s : State) (cls sinkByte : Nat) (t : Option Nat) : List Byte :=
  let (log2, base) := match t with
    | some h => if cls = 0 then ((s.hp h).jLog2, (s.hp h).jBase.toNat) else ((s.hp h).tLog2, (s.hp h).tBase.toNat)
    | none => (0, 0)
  if s.drainOn cls t then toLe 1 cls ++ toLe 1 log2 ++ toLe 1 1 ++ toLe 1 sinkByte ++ toLe 4 0 ++ toLe 8 base
  else toLe 3 cls ++ toLe 1 sinkByte ++ toLe 12 0

/-- What the checks of SILT_DRAIN_BIND find (R492, R419 to R422, R465). -/
def checksSiltDrainBind (c : Cmd) (s : State) : Checks :=
  let p := c.payload
  let cls := byteAt p 0
  let enable := bitOf (byteAt p 2) 0
  let sink := byteAt p 3
  let fromM := decide (c.route = .mgmt)
  let t := drainTarget c
  let host := t.isSome
  let log2 := byteAt p 1
  let base := le p 8 8
  let new := if enable then toLe 1 cls ++ toLe 1 (if host then log2 else 0) ++ toLe 1 1 ++ toLe 1 sink ++ toLe 4 0
      ++ toLe 8 (if host then base else 0)
    else toLe 3 cls ++ toLe 1 sink ++ toLe 12 0
  { bad := orBad (firstBad [rangeField 0 1 0 1,
        ⟨1, 1, fun v => !(enable && host && !fromM) || (decide (8 ≤ v) && decide (v ≤ 15))⟩,
        rangeField 2 1 0 1, ⟨3, 1, fun v => !fromM || decide (v ≤ 2)⟩, anyField 8 8] p) none
    deny := if fromM then (if host && enable then some 1 else none) else (if sink ≠ 0 then some 1 else none)
    refuse := failIf (enable && s.drainOn cls t) .busy 0
    object := cls
    old := s.sinkValue cls sink t
    new := new }

/-- SILT_DRAIN_BIND (R492, R419 to R422, R465). -/
def execSiltDrainBind (c : Cmd) (s : State) : Result :=
  let p := c.payload
  let cls := byteAt p 0
  let enable := bitOf (byteAt p 2) 0
  let t := drainTarget c
  let log2 := byteAt p 1
  let base := le p 8 8
  let bind (s : State) : State :=
    let none' := s.noSink
    let s := match t, cls, enable with
      | some h, 0, true => s.bindJournal h base log2
      | some h, 0, false => s.unbindJournal h
      | some h, _, true => s.bindTrace h base log2
      | some h, _, false => if (s.hp h).tOn then s.unbindTrace h else s
      | none, 0, true => let j := s.sinkStart; s.modSilt fun x => { x with mgmtJ := { on := true, next := j } }
      | none, 0, false => s.modSilt fun x => { x with mgmtJ := { x.mgmtJ with on := false } }
      | none, _, true => s.modSilt fun x =>
          { x with mgmtT := true, traceMgmtPi := BitVec.ofNat 32 x.traceNext, traceMgmtCi := BitVec.ofNat 32 x.traceNext }
      | none, _, false => (s.modSilt fun x => { x with mgmtT := false }).traceRelease
    s.sinkAlarm none'
  .next <| s.command infoSiltDrainBind c (checksSiltDrainBind c s) fun s => (bind s).ok c 0x0802 []

/-- R252: how far a consumer-index write moves the index, if it is possible: within the ring's width, not beyond the producer index and not behind the index last accepted. -/
def ciAdvance (n pi ci new : Nat) : Option Nat :=
  let m := 2 ^ (n + 1)
  let used := (pi + m - ci) % m
  let d := (new + m - ci) % m
  if new < m && d ≤ used then some d else none

/-- JRNL_RING_CI (R421), a write through BAR0 (R387). -/
def execJrnlRingCi (hp : Fin 2) (v : BitVec 32) (s : State) : Result :=
  let s := s.wakeCfg (12 + hp)
  let h := s.hp hp
  let idx := v.toNat % 65536
  if !h.jOn then .next s
  else match ciAdvance h.jLog2 h.jPi h.jCi idx with
    | some _ => .next (s.setHp hp { h with jCi := idx })
    | none => .next (s.modSilt fun x => { x with drainCiBad := x.drainCiBad + 1 })

/-- TRACE_RING_CI (R492, R421), a write through BAR0 (R387). -/
def execTraceRingCi (hp : Fin 2) (v : BitVec 32) (s : State) : Result :=
  let s := s.wakeCfg (12 + hp)
  let h := s.hp hp
  let idx := v.toNat % 65536
  if !h.tOn then .next s
  else match ciAdvance h.tLog2 h.tPi h.tCi idx with
    | some _ => .next (s.setHp hp { h with tCi := idx })
    | none => .next (s.modSilt fun x => { x with drainCiBad := x.drainCiBad + 1 })

/-- JRNL_MGMT_CI (R465): takes every entry below the value. -/
def execJrnlMgmtCi (v : BitVec 64) (s : State) : Result :=
  let m := s.silt.mgmtJ
  if !m.on then .next s
  else if m.next ≤ v.toNat && v.toNat ≤ s.silt.next then
    .next (s.modSilt fun x => { x with mgmtJ := { m with next := v.toNat } }).journalAlarm
  else .next (s.modSilt fun x => { x with drainCiBad := x.drainCiBad + 1 })

/-- TRACE_MGMT_CI (R465): as JRNL_MGMT_CI, over 32-bit wrapping indices. -/
def execTraceMgmtCi (v : BitVec 32) (s : State) : Result :=
  let x := s.silt
  if !x.mgmtT then .next s
  else if (v - x.traceMgmtCi).toNat ≤ (x.traceMgmtPi - x.traceMgmtCi).toNat then
    .next (s.modSilt fun x => { x with traceMgmtCi := v }).traceRelease
  else .next (s.modSilt fun x => { x with drainCiBad := x.drainCiBad + 1 })

/-- The host port takes posted writes now (Table 9-7). -/
def HostPort.writable (h : HostPort) : Bool := decide (h.power = .d0) && h.bme && !h.lost && h.linkUp

/-- R421: one entry written to a host journal ring with room, then its producer index. -/
def State.drainOne (s : State) (h : Nat) : State :=
  let x := s.hp h
  let m := 2 ^ (x.jLog2 + 1)
  let e := (Tab.get {} s.silt.ring (x.jNext % 8192)).bytes
  (s.send (.hostWrite h 0 (x.jBase + BitVec.ofNat 64 (32 * (x.jPi % 2 ^ x.jLog2))) e)).setHp h
    { x with jPi := (x.jPi + 1) % m, jNext := x.jNext + 1, jPend := x.jPend || x.siltVec.getLsbD 11 }

/-- R421: `n` entries. -/
def State.drainEntries (s : State) (h : Nat) : Nat → State
  | 0 => s
  | n + 1 => (s.drainOne h).drainEntries h n

/-- R421, R235: the entries that a host journal ring has waiting and room for. -/
def State.drainable (s : State) (h : Nat) : Nat :=
  let x := s.hp h
  let m := 2 ^ (x.jLog2 + 1)
  if x.jOn && x.writable then min (s.silt.next - x.jNext) (2 ^ x.jLog2 - (x.jPi + m - x.jCi) % m) else 0

/-- JOURNAL_DRAIN (R421). -/
def execJournalDrain (hp : Fin 2) (s : State) : Result :=
  .next (s.drainEntries hp (s.drainable hp)).journalAlarm

/-! ## Persistence (R423) -/

/-- Erasing a range of the configuration flash: its bytes read 0xFF. -/
def eraseRange (off len : Nat) (t : List (Nat × Byte)) : List (Nat × Byte) :=
  t.filter fun e => !(decide (off ≤ e.1) && decide (e.1 < off + len))

/-- R423: the flash address of the page that the write pointer names. -/
def State.persistAddr (s : State) : Nat := s.boot.jrnlOffset + 256 * s.silt.persistWr

/-- R423: the entries waiting for the flash sink. -/
def State.persistWaiting (s : State) : Nat := if s.silt.persist.on then s.silt.next - s.silt.persist.next else 0

/-- R423: a failure disables the flash sink, latches PERSIST_FAULT and queues a PERSIST_STOP record. -/
def State.persistFail (s : State) : State :=
  let none' := s.noSink
  let a := s.persistAddr
  let s := s.modSilt fun x => { x with persist := { x.persist with on := false }, persistFault := true, persistDue := none }
  ((s.alarmOccur 25 0 false).loamRecord 0xF008 a 0 0).sinkAlarm none'

/-- R423: a page of up to 8 entries programmed and read back; one erased sector is kept ahead. -/
def State.persistPage (s : State) : State :=
  let n := min 8 s.persistWaiting
  let pages := s.boot.jrnlSize / 256
  let bytes := s.journalEntries s.silt.persist.next n
  let wr := (s.silt.persistWr + 1) % max pages 1
  let a := s.persistAddr
  let s := s.modBoot fun b =>
    let f := Tab.write 0xFF a bytes b.flash
    { b with
      persisted := some (b.jrnlOffset, s.silt.persist.next + n, wr, (s.tagBefore (s.silt.persist.next + n)))
      flash := if wr % 256 = 0 then eraseRange (b.jrnlOffset + (256 * (wr + 256)) % max b.jrnlSize 1) 65536 f else f }
  (s.modSilt fun x =>
    { x with persist := { x.persist with next := x.persist.next + n }, persistWr := wr
             persistDue := if x.persist.next + n < x.next then some (s.after 10000000) else none }).journalAlarm

/-- PERSIST_PAGE (R423): when 8 entries wait or 10 ms have passed since the first; `good` tells whether program, erase and read-back succeed. -/
def execPersistPage (good : Bool) (s : State) : Result :=
  if 8 ≤ s.persistWaiting || (0 < s.persistWaiting && s.due s.silt.persistDue) then
    .next (if good then s.persistPage else s.persistFail)
  else .next s

def infoJrnlPersistCfg : CmdInfo :=
  { opcode := 0x0807, fromM := true, fromI := true, locked := true, journal := true, len := 1 }

/-- What the checks of JRNL_PERSIST_CFG find (R419, R423). -/
def checksJrnlPersistCfg (c : Cmd) (s : State) : Checks :=
  let enable := bitOf (byteAt c.payload 0) 0
  { bad := firstBad [rangeField 0 1 0 1] c.payload
    refuse := failIf (enable && decide (s.boot.jrnlOffset = 0)) .denied 4
    old := toLe 1 (flag s.silt.persist.on), new := toLe 1 (flag enable) }

/-- JRNL_PERSIST_CFG (R419, R423). DEDUCED, log entry 54. -/
def execJrnlPersistCfg (c : Cmd) (s : State) : Result :=
  let enable := bitOf (byteAt c.payload 0) 0
  .next <| s.command infoJrnlPersistCfg c (checksJrnlPersistCfg c s) fun s =>
      if c.accessFailed then s.complete c 0x0807 .mediaError 0 []
      else
        let none' := s.noSink
        let j := s.sinkStart
        let s := if enable = s.silt.persist.on then s
          else if enable then s.modSilt fun x =>
            { x with persist := { on := true, next := j }, persistFault := false
                     persistDue := if j < x.next then some (s.after 10000000) else none }
          else s.modSilt fun x => { x with persist := { x.persist with on := false }, persistDue := none }
        (s.sinkAlarm none').ok c 0x0807 []

/-! ## Trace (R424, R425) -/

def infoTraceCfg : CmdInfo := { opcode := 0x0803, fromO := true, fromM := true, fromI := true, journal := true, len := 8 }

/-- What the checks of TRACE_CFG find (R424). DEDUCED, log entry 56. -/
def checksTraceCfg (c : Cmd) (s : State) : Checks :=
  let m := le c.payload 0 8
  { bad := firstBad [rangeField 0 8 0 255] c.payload
    old := toLe 8 s.silt.groups.toNat, new := toLe 8 m }

/-- TRACE_CFG (R424): the enabled groups of Table 17-5. -/
def execTraceCfg (c : Cmd) (s : State) : Result :=
  let m := le c.payload 0 8
  .next <| s.command infoTraceCfg c (checksTraceCfg c s) fun s => (s.modSilt fun x => { x with groups := BitVec.ofNat 32 m }).ok c 0x0803 []

/-- R425: one record written to the buffer under the next record number, for the bound sinks. -/
def State.bufferPut (s : State) (r : TraceRec) : State :=
  s.modSilt fun x =>
    { x with trace := x.trace ++ [(x.traceNext, r)], traceView := Tab.insert (x.traceNext % 8192) r x.traceView
             traceNext := x.traceNext + 1, traceMgmtPi := if x.mgmtT then x.traceMgmtPi + 1 else x.traceMgmtPi }

/-- R425: a loss record of the buffer is written as soon as there is room; the alarm TRACE_LOSS then ends. -/
def State.bufferLossOut (s : State) : State :=
  match s.silt.traceLoss with
  | some l => if s.silt.trace.length < 8192
      then ((s.bufferPut (l.record 0xFF)).modSilt fun x => { x with traceLoss := none }).alarmEnd 26
      else s
  | none => s

/-- R425: a record arrives at the buffer: discarded when no sink is bound, lost when the buffer is full. -/
def State.bufferIn (s : State) (r : TraceRec) : State :=
  if !s.traceBound then s.modSilt fun x => { x with traceLost := x.traceLost + 1 }
  else
    let s := s.bufferLossOut
    if s.silt.trace.length < 8192 then s.bufferPut r
    else
      let s := if s.silt.traceLoss.isNone then s.alarmOccur 26 0 true else s
      s.modSilt fun x => { x with traceLoss := some (Loss.add x.traceLoss r), traceLost := x.traceLost + 1 }

/-- R424: the island FIFOs empty into the buffer. -/
def State.drainFifos (s : State) : State :=
  let recs := s.silt.fifos.flatMap Prod.snd
  recs.foldl (fun s r => s.bufferIn r) (s.modSilt fun x => { x with fifos := [] })

/-- Table 17-4: the 32 bytes of a trace record. -/
def TraceRec.bytes (r : TraceRec) : List Byte :=
  toLe 8 r.time.toNat ++ toLe 1 r.agent ++ toLe 1 r.group ++ toLe 2 r.event.toNat ++ toLe 4 r.object.toNat ++ padTo 16 r.args

/-- R421, R492: room in a host trace ring. -/
def HostPort.traceRoom (h : HostPort) : Bool :=
  let m := 2 ^ (h.tLog2 + 1)
  decide ((h.tPi + m - h.tCi) % m < 2 ^ h.tLog2)

/-- R425: a record written to a host trace ring. -/
def State.ringPut (s : State) (h : Nat) (r : TraceRec) : State :=
  let x := s.hp h
  (s.send (.hostWrite h 0 (x.tBase + BitVec.ofNat 64 (32 * (x.tPi % 2 ^ x.tLog2))) r.bytes)).setHp h
    { x with tPi := (x.tPi + 1) % 2 ^ (x.tLog2 + 1), tPend := x.tPend || x.siltVec.getLsbD 12 }

/-- R425: the pending loss record of a host ring goes out when the ring has room. -/
def State.ringLossOut (s : State) (h : Nat) : State :=
  let x := s.hp h
  if 0 < x.tLost && x.tOn && x.traceRoom && x.writable then
    (s.ringPut h { time := x.tLostLast, agent := 0xFF, group := 0xFF
                   args := toLe 4 x.tLost ++ toLe 4 x.tLostMask.toNat ++ toLe 8 x.tLostFirst.toNat }).modHp h
      fun y => { y with tLost := 0, tLostMask := 0 }
  else s

/-- R425: a record for a host ring; a full ring loses it for that host alone. -/
def State.ringIn (s : State) (h : Nat) (k : Nat) (r : TraceRec) : State :=
  let s := s.ringLossOut h
  let x := s.hp h
  let s := if x.traceRoom then s.ringPut h r
    else (s.setHp h
      { x with tLost := x.tLost + 1, tLostLast := r.time, tLostFirst := if x.tLost = 0 then r.time else x.tLostFirst
               tLostMask := x.tLostMask ||| BitVec.ofNat 32 (2 ^ r.group) }).modSilt fun y => { y with traceLost := y.traceLost + 1 }
  s.modHp h fun y => { y with tNext := k + 1 }

/-- R425, R428: the buffer's records go to a bound host ring that takes writes. -/
def State.traceToRing (s : State) (h : Nat) : State :=
  let x := s.hp h
  if x.tOn && x.writable then
    (s.silt.trace.filter fun e => decide (x.tNext ≤ e.1)).foldl (fun s e => s.ringIn h e.1 e.2) s
  else s

/-- TRACE_DRAIN (R424, R425, R428). R428: journal entries that wait for a host port's ring and have room go first. -/
def execTraceDrain (s : State) : Result :=
  let s := s.drainFifos
  let s := if s.drainable 0 = 0 then s.traceToRing 0 else s
  let s := if s.drainable 1 = 0 then s.traceToRing 1 else s
  .next s.traceRelease

/-- LOSS_RECORD (R425): the loss record of one place, when room has returned. -/
def execLossRecord (place : LossPlace) (s : State) : Result :=
  match place with
  | .buffer => .next s.bufferLossOut
  | .ring hp => .next (s.ringLossOut hp)
  | .fifo agent =>
    match (s.silt.fifoLoss.find? (·.1 = agent)).map Prod.snd with
    | some l =>
      let f := Tab.get [] s.silt.fifos agent
      if f.length < 16 then
        .next (s.modSilt fun x =>
          { x with fifos := Tab.set [] agent (f ++ [l.record agent]) x.fifos, fifoLoss := Tab.erase agent x.fifoLoss })
      else .next s
    | none => .next s

/-! ## Alarms (R426 to R429) -/

/-- R427: the latched alarm bits. -/
def State.alarmLatches (s : State) : Nat :=
  (List.range 27).foldl (fun a n => if (s.alarm n).latch then a + 2 ^ n else a) 0

/-- R429: the acknowledged bits. -/
def State.alarmAcks (s : State) : Nat :=
  (List.range 27).foldl (fun a n => if (s.alarm n).acked then a + 2 ^ n else a) 0

/-- R426: ALARM_N[sev] is low. -/
def State.alarmPin (s : State) (sev : Nat) : Bool :=
  (List.range 27).any fun n =>
    let a := s.alarm n
    a.latch && !a.acked && a.enable && decide (a.severity n = sev)

/-- Table 17-10: the canonical value of an alarm. -/
def State.alarmValue (s : State) (n : Nat) : List Byte :=
  let a := s.alarm n
  toLe 1 n ++ toLe 1 (a.severity n) ++ toLe 1 (flag a.enable) ++ toLe 1 (flag a.acked)

def infoAlarmRead : CmdInfo := { opcode := 0x0804, fromO := true, fromM := true, fromD := true }

/-- What the checks of ALARM_READ find (R427). -/
def checksAlarmRead (c : Cmd) : Checks :=
  { bad := firstBad [] c.payload }

/-- ALARM_READ (R427): from the management controller it clears the cause ALARM. -/
def execAlarmRead (c : Cmd) (s : State) : Result :=
  .next <| s.command infoAlarmRead c (checksAlarmRead c) fun s =>
    let r := toLe 16 s.alarmLatches ++ toLe 8 s.silt.alarmLast.toNat
    let s := if c.route = .mgmt then s.modMgmt fun m => { m with alarmCause := false } else s
    s.ok c 0x0804 r

def infoAlarmAck : CmdInfo := { opcode := 0x0805, fromO := true, fromM := true, journal := true, len := 1 }

/-- What the checks of ALARM_ACK find (R426). -/
def checksAlarmAck (c : Cmd) (s : State) : Checks :=
  let n := byteAt c.payload 0
  let ack (s : State) : State := let a := s.alarm n; s.setAlarm n { a with acked := true, latch := a.latch && a.cond }
  { bad := firstBad [rangeField 0 1 0 26] c.payload, object := n, old := s.alarmValue n, new := (ack s).alarmValue n }

/-- ALARM_ACK (R426): the latch clears when its condition is absent. -/
def execAlarmAck (c : Cmd) (s : State) : Result :=
  let n := byteAt c.payload 0
  let ack (s : State) : State := let a := s.alarm n; s.setAlarm n { a with acked := true, latch := a.latch && a.cond }
  .next <| s.command infoAlarmAck c (checksAlarmAck c s) fun s => (ack s).ok c 0x0805 []

def infoAlarmCfg : CmdInfo :=
  { opcode := 0x0806, fromO := true, fromM := true, fromI := true, locked := true, journal := true, len := 3 }

/-- What the checks of ALARM_CFG find (R426). -/
def checksAlarmCfg (c : Cmd) (s : State) : Checks :=
  let n := byteAt c.payload 0
  let cfg (s : State) : State :=
    s.setAlarm n { s.alarm n with sev := some (byteAt c.payload 1), enable := bitOf (byteAt c.payload 2) 0 }
  { bad := firstBad [rangeField 0 1 0 26, rangeField 1 1 0 2, rangeField 2 1 0 1] c.payload
    object := n, old := s.alarmValue n, new := (cfg s).alarmValue n }

/-- ALARM_CFG (R426): severity and enable. -/
def execAlarmCfg (c : Cmd) (s : State) : Result :=
  let n := byteAt c.payload 0
  let cfg (s : State) : State :=
    s.setAlarm n { s.alarm n with sev := some (byteAt c.payload 1), enable := bitOf (byteAt c.payload 2) 0 }
  .next <| s.command infoAlarmCfg c (checksAlarmCfg c s) fun s => (cfg s).ok c 0x0806 []

/-- R429: SILT_VEC.VEC. -/
def HostPort.siltVecNum (h : HostPort) : Nat := h.siltVec.toNat % 2048

/-- ALARM_VECTOR (R427): at most once per 1 ms. -/
def execAlarmVector (hp : Fin 2) (s : State) : Result :=
  let h := s.hp hp
  if h.alarmPend && h.alarmNext.toNat ≤ s.now.toNat then
    .next ((s.setHp hp { h with alarmPend := false, alarmNext := s.after 1000000 }).sendVec hp h.siltVecNum)
  else .next s

/-- SILT_RING_VECTOR (R429): the vector of a ring whose producer index advanced, at most once per 100 µs. -/
def execSiltRingVector (hp : Fin 2) (trace : Bool) (s : State) : Result :=
  let h := s.hp hp
  if trace then
    if h.tPend && h.tVecNext.toNat ≤ s.now.toNat then
      .next ((s.setHp hp { h with tPend := false, tVecNext := s.after 100000 }).sendVec hp h.siltVecNum)
    else .next s
  else if h.jPend && h.jVecNext.toNat ≤ s.now.toNat then
    .next ((s.setHp hp { h with jPend := false, jVecNext := s.after 100000 }).sendVec hp h.siltVecNum)
  else .next s

end Sys2Proof.Machine
end

