-- ==== Sys2Proof/Machine/Rings.lean ====
section
/-! DEFINITION. Sys2Proof/Machine/Rings.lean: mailboxes, doorbells, chains, completions, notices and queue pairs ("Mailboxes, rings and completions"). -/

namespace Sys2Proof.Machine

/-- R267: the opcodes of Table 10-2. -/
def definedOpcodes : List Nat :=
  [0x0101, 0x0102, 0x0103, 0x0104, 0x0105, 0x0106, 0x0107,
   0x0201, 0x0202, 0x0203, 0x0204, 0x0205, 0x0206,
   0x0301, 0x0302, 0x0303, 0x0304, 0x0305, 0x0306, 0x0307, 0x0310, 0x0311]
  ++ [0x0401, 0x0402, 0x0403, 0x0404, 0x0405, 0x0406, 0x0407, 0x0408, 0x0409, 0x0410, 0x0411, 0x0412,
   0x0501, 0x0502, 0x0503, 0x0504, 0x0505, 0x0506,
   0x0601, 0x0602, 0x0603, 0x0604, 0x0605, 0x0606, 0x0607, 0x0608, 0x0609, 0x060A, 0x060B, 0x060C, 0x060D]
  ++ [0x0701, 0x0702, 0x0703, 0x0704, 0x0801, 0x0802, 0x0803, 0x0804, 0x0805, 0x0806, 0x0807,
   0x0901, 0x0902, 0x0903, 0x0904, 0x0905, 0x0906, 0x0907, 0x0908, 0x0909, 0x090A, 0x090B,
   0x0A01, 0x0A02, 0x0A03, 0x0A04, 0x0A10, 0x0A11, 0x0B01, 0x0B02, 0x0B10, 0x0B11]

/-! ## Submission entries (Table 9-4) -/

def entryOpcode (e : Entry) : Nat := le e 0 2
def entryFirst (e : Entry) : Bool := bitOf (byteAt e 2) 0
def entryLast (e : Entry) : Bool := bitOf (byteAt e 2) 1
def entryIrq (e : Entry) : Bool := bitOf (byteAt e 2) 2
def entryGen (e : Entry) : BitVec 8 := BitVec.ofNat 8 (byteAt e 3)
def entryTag (e : Entry) : BitVec 16 := BitVec.ofNat 16 (le e 4 2)
/-- R9: the reserved fields of an entry header are 0. -/
def entryReservedOk (e : Entry) : Bool := decide (byteAt e 2 / 8 = 0) && decide (le e 6 2 = 0)

/-! ## Access to slice pages (R306, R308) -/

/-- R306, GLB_SLICES: a request reaches a slice that is ACTIVE, RESETTING, FREEZING or FROZEN. -/
def SliceState.reachable : SliceState → Bool
  | .active => true
  | .resetting => true
  | .freezing => true
  | .frozen => true
  | _ => false

def State.reachable (s : State) (h sl : Nat) : Bool := (s.slice h sl).state.reachable

/-- R306: a write that matches no slice is discarded, counted in PASID_MISS and recorded as a trace event. -/
def State.pasidMiss (s : State) (h sl : Nat) : State :=
  (s.modHp h fun x => { x with pasidMiss := x.pasidMiss + 1 }).trace (agentHp h) 3 sl

/-- An access to the page of a slice: as `f` says, if it reaches the slice. -/
def State.atSlice (s : State) (h sl : Nat) (f : State → State) : State :=
  if s.reachable h sl then f s else s.pasidMiss h sl

/-- A write through BAR0, which is a wake source of its host port (R387, Table 15-8). -/
def State.atPage (s : State) (h sl : Nat) (f : State → State) : State := (s.wakeCfg (12 + h)).atSlice h sl f

/-! ## Mailboxes (R246, R463) -/

/-- The command a mailbox message carries. -/
def msgCmd (route : Route) (m : List Byte) : Cmd :=
  { route := route, gen := entryGen m, tag := entryTag m, irq := entryIrq m, payload := (padTo 64 m).drop 8 }

/-- R246, R250: the message is a one-entry chain with a defined opcode and no reserved field set. -/
def msgFormOk (m : List Byte) : Bool :=
  entryFirst m && entryLast m && entryReservedOk m && definedOpcodes.contains (entryOpcode m)

/-- R246: the mailbox copies MBX_MSG, clears GO, sets BUSY and starts the command; one that breaks the format of its entry completes at once. -/
def State.submitMbx (s : State) (h : Fin 2) (sl : Fin 256) : State :=
  let x := s.slice h sl
  let m := x.msg
  let c := msgCmd (.mbx h sl) m
  let op := entryOpcode m
  let s := (s.setSlice h sl { x with go := false, busy := true, mbxIrq := entryIrq m }).event (evHp h 1)
  let s := s.startCmd c op
  if !msgFormOk m then s.complete c op .malformed 0 [] else s

/-- MBX_GO (R246): a GO while BUSY is 1, or in RESETTING (Table 12-3), is ignored and sets REFUSED; a frozen slice's mailbox is not fetched (R324). DEDUCED, log entry 8. -/
def execMbxGo (hp : Fin 2) (sl : Fin 256) (s : State) : Result :=
  .next <| s.atPage hp sl fun s =>
    let x := s.slice hp sl
    if x.busy || x.state = .resetting then s.setSlice hp sl { x with refused := true }
    else if x.state = .active then s.submitMbx hp sl
    else s.setSlice hp sl { x with go := true }

/-- MBX_DONE_CLEAR (R233). -/
def execMbxDoneClear (hp : Fin 2) (sl : Fin 256) (s : State) : Result :=
  .next <| s.atPage hp sl fun s => s.modSlice hp sl fun x => { x with done := false }

/-- MBX_REFUSED_CLEAR (R233). -/
def execMbxRefusedClear (hp : Fin 2) (sl : Fin 256) (s : State) : Result :=
  .next <| s.atPage hp sl fun s => s.modSlice hp sl fun x => { x with refused := false }

/-- SLICE_EVT_CLEAR (R234): writing 1 clears the bit. -/
def execSliceEvtClear (hp : Fin 2) (sl : Fin 256) (v : BitVec 32) (s : State) : Result :=
  .next <| s.atPage hp sl fun s => s.modSlice hp sl fun x => { x with evt := x.evt &&& ~~~(v.setWidth 4) }

/-- R442: the opcodes Loam serves in NO_IMAGE. -/
def noImageOpcodes : List Nat := [0x0101, 0x0903, 0x0904]

/-- MGMT_GO (R246, R463, R442): GEN is ignored; in NO_IMAGE every opcode but three completes DENIED. DEDUCED, log entry 8. -/
def execMgmtGo (s : State) : Result :=
  let m := s.mgmt
  if m.busy then .next (s.modMgmt fun m => { m with refused := true })
  else
    let c := msgCmd .mgmt m.msg
    let op := entryOpcode m.msg
    let s := (s.modMgmt fun m => { m with go := false, busy := true, irq := entryIrq m.msg }).event 0x1C0
    let s := s.startCmd c op
    if !msgFormOk m.msg then .next (s.complete c op .malformed 0 [])
    else if s.boot.stage = .noImage && !noImageOpcodes.contains op then .next (s.complete c op .denied 4 [])
    else .next s

/-- MGMT_DONE_CLEAR (R246, R463). -/
def execMgmtDoneClear (s : State) : Result := .next (s.modMgmt fun m => { m with done := false })

/-- MGMT_REFUSED_CLEAR (R246, R463). -/
def execMgmtRefusedClear (s : State) : Result := .next (s.modMgmt fun m => { m with refused := false })

/-- MGMT_NTC_POP (R464): removes the oldest notice; ignored when there is none. -/
def execMgmtNtcPop (s : State) : Result := .next (s.modMgmt fun m => { m with notices := m.notices.drop 1 })

/-! ## Doorbells (R252, R371) -/

/-- R371: the record FIFO of 64 (slice, queue) pairs; a pair already in it is merged; when it is full the slice's overflow bit sets. -/
def pushDoorbell (fifo : List (Nat × Nat)) (map : List Nat) (sl q : Nat) : List (Nat × Nat) × List Nat :=
  if fifo.contains (sl, q) then (fifo, map)
  else if fifo.length < 64 then (fifo ++ [(sl, q)], map)
  else (fifo, if map.contains sl then map else map ++ [sl])

/-- R371: an accepted SQ doorbell is recorded and raises its source. -/
def State.sqRecord (s : State) (h sl q : Nat) : State :=
  (s.modHp h fun x =>
    let r := pushDoorbell x.sqFifo x.sqMap sl q
    { x with sqFifo := r.1, sqMap := r.2 }).event (evHp h 0)

/-- R371: an accepted CQ doorbell. -/
def State.cqRecord (s : State) (h sl q : Nat) : State :=
  (s.modHp h fun x =>
    let r := pushDoorbell x.cqFifo x.cqMap sl q
    { x with cqFifo := r.1, cqMap := r.2 }).event (evHp h 2)

/-- R252, Table 9-3: the cause for which a producer index cannot be taken: 3 upper bits, 1 beyond the ring, 2 behind the last accepted. -/
def piCause (n ci old new : Nat) : Option Nat :=
  let m := 2 ^ (n + 1)
  if m ≤ new then some 3
  else if 2 ^ n < (new + m - ci) % m then some 1
  else if (new + m - ci) % m < (old + m - ci) % m then some 2
  else none

/-- R252, Table 9-3: the cause for which a consumer index cannot be taken: 3 upper bits, 5 behind the last accepted, 4 beyond CQ_PI. DEDUCED, log entry 52. -/
def ciCause (n pi ci new : Nat) : Option Nat :=
  let m := 2 ^ (n + 1)
  if m ≤ new then some 3
  else if 2 ^ n < (new + m - ci) % m then some 5
  else if (pi + m - ci) % m < (new + m - ci) % m then some 4
  else none

/-- SQ_DB (R252, Table 9-8). -/
def execSqDb (hp : Fin 2) (sl : Fin 256) (q : Fin 64) (v : BitVec 32) (s : State) : Result :=
  .next <| s.atPage hp sl fun s =>
    let x := s.qp hp sl q
    let idx := v.toNat % 65536
    match x.state with
    | .stopping => s
    | .active =>
      match piCause x.sqN x.sqCi x.sqPi idx with
      | some cause => s.sliceEvent hp sl 0 q cause
      | none => (s.setQp hp sl q { x with sqPi := idx, partChain := false }).sqRecord hp sl q
    | _ => s.sliceEvent hp sl 0 q 6

/-- CQ_DB (R249, R252, Table 9-8). -/
def execCqDb (hp : Fin 2) (sl : Fin 256) (q : Fin 64) (v : BitVec 32) (s : State) : Result :=
  .next <| s.atPage hp sl fun s =>
    let x := s.qp hp sl q
    let idx := v.toNat % 65536
    match x.state with
    | .disabled => s.sliceEvent hp sl 0 q 6
    | .error => s.sliceEvent hp sl 0 q 6
    | _ =>
      match ciCause x.cqN x.cqPi x.cqCi idx with
      | some cause => s.sliceEvent hp sl 0 q cause
      | none => (s.setQp hp sl q { x with cqCi := idx }).cqRecord hp sl q

/-! ## Chains (R239, R240, R248, R250) -/

/-- What reading a submission queue from its consumer index finds. -/
inductive ChainRead where
  /-- R240: the chain's LAST entry is not below the producer index yet -/
  | wait
  /-- R250: a format fault: TAG of the completion, the entry it is judged by, entries consumed -/
  | bad (e : Entry) (n : Nat)
  /-- a whole chain: its first entry, IRQ of its LAST entry, entries consumed, and whether every reserved field is 0 -/
  | chain (e : Entry) (irq : Bool) (n : Nat) (clean : Bool)
  deriving DecidableEq, Repr

/-- R250: the chain that `e` began, read on; `n` entries of it are read so far, `clean` if their reserved fields are 0. -/
def readChain (e : Entry) (n : Nat) (clean : Bool) : List Entry → ChainRead
  | [] => if 32 ≤ n then .bad e n else .wait
  | x :: xs =>
    if 32 ≤ n then .bad e n
    else if entryFirst x then .bad e n
    else if entryOpcode x ≠ entryOpcode e || entryTag x ≠ entryTag e || entryGen x ≠ entryGen e then .bad e (n + 1)
    else if entryLast x then .chain e (entryIrq x) (n + 1) (clean && entryReservedOk x)
    else readChain e (n + 1) (clean && entryReservedOk x) xs

/-- R239, R240, R250: the chain at the consumer index. -/
def readQueue : List Entry → ChainRead
  | [] => .wait
  | e :: xs =>
    if !entryFirst e then .bad e 1
    else if entryLast e then .chain e (entryIrq e) 1 (entryReservedOk e)
    else readChain e 1 (entryReservedOk e) xs

/-- R248: the commands of a slice fetched and not completed. -/
def State.outstanding (s : State) (h sl : Nat) : Nat :=
  (s.hosts.running.filter fun o => decide (o.route.slice? = some (h, sl))).length

/-- R235: entries in use between two indices of a ring of 2^n. -/
def ringUsed (n p c : Nat) : Nat := (p + 2 ^ (n + 1) - c) % 2 ^ (n + 1)

/-- R19, R240, R248, R249, R324: an SQ may be fetched: the control plane runs, ACTIVE pair of an ACTIVE slice, a free holding slot, fewer than 256 commands outstanding. -/
def State.mayFetch (s : State) (h sl q : Nat) : Bool :=
  let x := s.qp h sl q
  !s.ctrlStopped && decide (x.state = .active) && decide ((s.slice h sl).state = .active) && decide (x.waiting + x.slots < 16)
    && decide (s.outstanding h sl < 256)

/-- R248: an SQ has work: it may be fetched, and holds entries not known to be an incomplete chain. -/
def State.sqReady (s : State) (h sl q : Nat) : Bool :=
  let x := s.qp h sl q
  s.mayFetch h sl q && decide (ringUsed x.sqN x.sqPi x.sqCi ≠ 0) && !x.partChain

/-- Places of a cycle of `n` from just after `last` to `k`. -/
def turnDist (n last k : Nat) : Nat := (k + 2 * n - last - 1) % n

/-- R248: slices with ready work are served round-robin, one chain a turn: none with work stands between the slice served last and this one. A mailbox command goes first within its slice. DESIGN CHOICE, log entry 162. -/
def State.sliceTurn (s : State) (h sl : Nat) : Bool :=
  !(s.slice h sl).go && s.hosts.qps.all fun e =>
    let k := e.1 / 64
    !s.sqReady (k / 256) (k % 256) (e.1 % 64) || decide (turnDist 512 s.hosts.served (sliceKey h sl) ≤ turnDist 512 s.hosts.served k)

/-- R248: within a slice the pair in its turn goes on up to its weight, then the next with work. DESIGN CHOICE, log entry 162. -/
def State.pairTurn (s : State) (h sl q : Nat) : Bool :=
  let x := s.slice h sl
  if 0 < x.wleft && s.sqReady h sl x.wq then decide (q = x.wq)
  else (List.range 64).all fun k => !s.sqReady h sl k || decide (turnDist 64 x.wq q ≤ turnDist 64 x.wq k)

/-- R248: the turn taken by a chain of pair `q`. -/
def State.takeTurn (s : State) (h sl q : Nat) : State :=
  let s := s.modHosts fun x => { x with served := sliceKey h sl }
  s.modSlice h sl fun x => { x with wq := q, wleft := (if x.wq = q && 0 < x.wleft then x.wleft else max 1 (s.qp h sl q).weight) - 1 }

/-- R239, R250: the payload bytes of the first `n` entries joined. -/
def joinPayload (entries : List Entry) (n : Nat) : List Byte := (entries.take n).flatMap fun e => (padTo 64 e).drop 8

/-- CHAIN_DISPATCH (R240, R241, R248 to R250, R267): in its turn, an SQ is read: `entries` are the entries read from SQ_CI on; those at or above SQ_PI are not read. A whole chain is consumed, takes a holding slot and is outstanding; a faulty one completes. DEDUCED, log entry 8. -/
def execChainDispatch (hp : Fin 2) (sl : Fin 256) (q : Fin 64) (entries : List Entry) (s : State) : Result :=
  let x := s.qp hp sl q
  let es := entries.take (min 33 (ringUsed x.sqN x.sqPi x.sqCi))
  let consume (n : Nat) (s : State) : State :=
    s.modQp hp sl q fun y => Qp.settle { y with sqCi := (y.sqCi + n) % 2 ^ (y.sqN + 1), slots := y.slots + 1 } s.now
  let start (e : Entry) (irq : Bool) (n : Nat) (s : State) : State × Cmd :=
    let c : Cmd := { route := .sq hp sl q, gen := entryGen e, tag := entryTag e, irq := irq, payload := joinPayload es n }
    (((consume n s).takeTurn hp sl q).startCmd c (entryOpcode e), c)
  if !s.mayFetch hp sl q || !s.sliceTurn hp sl || !s.pairTurn hp sl q then .next s
  else match readQueue es with
    | .wait => .next (s.modQp hp sl q fun y => { y with partChain := true })
    | .bad e n =>
      let c : Cmd := { route := .sq hp sl q, gen := (s.slice hp sl).gen, tag := entryTag e, irq := entryIrq e }
      .next (((consume n s).takeTurn hp sl q).deliver c .malformed 0 [])
    | .chain e irq n clean =>
      let (s', c) := start e irq n s
      if !clean || !definedOpcodes.contains (entryOpcode e) then
        .next ((s'.endCmd c (entryOpcode e)).deliver { c with gen := (s.slice hp sl).gen } .malformed 0 [])
      else .next s'

/-- R253: the fetch of an SQ fails after `read` entries: the SQ enters ERROR, SQ_CI stays at the first entry not read; one completion with TAG 0xFFFF. -/
def State.fetchError (s : State) (h sl q read cause : Nat) : State :=
  let x := s.qp h sl q
  let n := min read (ringUsed x.sqN x.sqPi x.sqCi)
  let e : CqEntry := { tag := 0xFFFF, status := .mediaError, gen := (s.slice h sl).gen }
  (s.setQp h sl q (Qp.settle { x with state := .error, sqCi := (x.sqCi + n) % 2 ^ (x.sqN + 1), held := x.held ++ [e] } s.now)).sliceEvent h sl 2 q cause

/-- QUEUE_FETCH_ERROR (R253). -/
def execQueueFetchError (hp : Fin 2) (sl : Fin 256) (q : Fin 64) (read : Nat) (cause : Fin 4) (s : State) : Result :=
  if (s.qp hp sl q).state = .active then .next (s.fetchError hp sl q read (cause.val + 1)) else .next s

/-- R253: a completion write fails: the CQ enters ERROR, its completions stay held. -/
def State.cqWriteError (s : State) (h sl q cause : Nat) : State :=
  (s.modQp h sl q fun x => { x with state := .error }).sliceEvent h sl 3 q cause

/-- CQ_WRITE_ERROR (R253). -/
def execCqWriteError (hp : Fin 2) (sl : Fin 256) (q : Fin 64) (cause : Fin 2) (s : State) : Result :=
  if (s.qp hp sl q).state = .active then .next (s.cqWriteError hp sl q (cause.val + 1)) else .next s

/-! ## Writing completions (R243, R249, R254) -/

/-- R254: a counted entry is in host memory: the timer starts at the first, the vector goes at COUNT, or at once with TIMER 0. -/
def State.moderate (s : State) (h sl q : Nat) : State :=
  let x := s.qp h sl q
  let k := x.k + 1
  if (1 ≤ x.count && x.count ≤ k) || x.timer = 0 then
    (s.setQp h sl q { x with k := 0, modDue := none }).sendVec h x.vec
  else
    s.setQp h sl q { x with k := k, modDue := if x.k = 0 then some (s.after (1000 * x.timer)) else x.modDue }

/-- R257: aborts still to be produced take holding slots as they come free. -/
def Qp.refill (x : Qp) : Qp :=
  let n := 16 - (x.waiting + x.slots)
  { x with held := x.held ++ x.aborts.take n, aborts := x.aborts.drop n }

/-- R237, R243, R249: the oldest completion is written at the CQ's producer index; PHASE changes at each pass. -/
def State.writeCompletion (s : State) (h sl q : Nat) (e : CqEntry) (rest : List CqEntry) : State :=
  let x := s.qp h sl q
  let addr := x.cqBase + BitVec.ofNat 64 (32 * (x.cqPi % 2 ^ x.cqN))
  if !s.addrOk addr then s.cqWriteError h sl q 2
  else
    let pi := (x.cqPi + 1) % 2 ^ (x.cqN + 1)
    let y := { x with held := rest, cqPi := pi, phase := if pi % 2 ^ x.cqN = 0 then !x.phase else x.phase }
    let y := (y.overflowOut (s.slice h sl).gen s.now).refill
    let s := (s.hostWrite h sl addr (e.bytes x.phase x.sqCi)).setQp h sl q (y.settle s.now)
    if e.irq then s.moderate h sl q else s

/-- R249, R255: a completion may be written: the CQ is not full, the pair not in ERROR, the host port takes writes and owes no vector. -/
def State.mayWrite (s : State) (h sl q : Nat) : Bool :=
  let x := s.qp h sl q
  (decide (x.state = .active) || decide (x.state = .stopping)) && decide (ringUsed x.cqN x.cqPi x.cqCi < 2 ^ x.cqN)
    && decide ((s.hp h).power = .d0) && (s.hp h).bme && !(s.hp h).lost && (s.hp h).owedVecs.isEmpty

/-- COMPLETION_WRITE (R249). -/
def execCompletionWrite (hp : Fin 2) (sl : Fin 256) (q : Fin 64) (s : State) : Result :=
  match (s.qp hp sl q).held with
  | e :: rest => if s.mayWrite hp sl q then .next (s.writeCompletion hp sl q e rest) else .next s
  | [] => .next s

/-- COMPL_RING_STALLED (R249): once per stall. -/
def execComplRingStalled (hp : Fin 2) (sl : Fin 256) (q : Fin 64) (s : State) : Result :=
  let x := s.qp hp sl q
  if x.stalled && s.due x.stallDue then
    .next ((s.setQp hp sl q { x with stallDue := none }).sliceEvent hp sl 1 q 0)
  else .next s

/-- MODERATION_TIMER_EXPIRY (R254). -/
def execModerationTimerExpiry (hp : Fin 2) (sl : Fin 256) (q : Fin 64) (s : State) : Result :=
  let x := s.qp hp sl q
  if s.due x.modDue then .next ((s.setQp hp sl q { x with k := 0, modDue := none }).sendVec hp x.vec)
  else .next s

/-- NOTICE_OVERFLOW (R245, R464). -/
def execNoticeOverflow (fifo : NoticeFifo) (s : State) : Result :=
  match fifo with
  | .cq hp sl q => .next (s.modQp hp sl q fun x => x.overflowOut (s.slice hp sl).gen s.now)
  | .mgmt => .next (s.modMgmt fun m => m.overflowOut s.now)

/-- MSIX_VECTOR_UNMASK (R255, R333): the mask clears; a pending message is sent and its pending bit clears. -/
def execMsixVectorUnmask (hp : Fin 2) (vec : Fin 2048) (s : State) : Result :=
  let h := s.hp hp
  let e := h.msixEntry vec
  let h' := { h with msix := Tab.set {} vec.val { e with ctrl := e.ctrl &&& ~~~1 } h.msix }
  if h.pba.contains vec.val && h.bme && h.power = .d0 then
    .next ((s.setHp hp { h' with pba := h.pba.filter (· ≠ vec.val) }).send (.msix hp vec))
  else .next (s.setHp hp h')

/-! ## Queue pairs (R247, R256 to R258, R272, R273) -/

/-- R312: the vector lies in the slice's range. DEDUCED, log entry 43. -/
def Slice.vecOk (x : Slice) (v : Nat) : Bool := decide (x.vecFirst ≤ v) && decide (v < x.vecFirst + x.vecCount)

/-- The slice whose queue pairs a command names: its own; from the diagnostic function slice 0 of HP0 (DESIGN CHOICE, log entry 13). -/
def Cmd.home (c : Cmd) : Nat × Nat := c.route.slice?.getD (0, 0)

/-- R310: the queue pairs a slice holds. -/
def State.qpCount (s : State) (h sl : Nat) : Nat :=
  ((List.range 64).filter fun q => decide ((s.qp h sl q).state ≠ .disabled)).length

def infoQpCreate : CmdInfo := { opcode := 0x0601, fromS := true, len := 32 }

/-- What the checks of QP_CREATE find (R236, R247, R256, R273, R310). DEDUCED, log entry 43. -/
def checksQpCreate (c : Cmd) (s : State) : Checks :=
  let p := c.payload
  let (h, sl) := c.home
  let q := byteAt p 0
  let x := s.slice h sl
  { bad := firstBad [rangeField 0 1 0 63, rangeField 1 1 4 15, rangeField 2 1 4 15, rangeField 3 1 0 16,
      ⟨4, 2, fun v => c.route.slice?.isNone || x.vecOk v⟩, anyField 6 1, anyField 8 2, ⟨10, 2, fun v => decide (v = 0) || decide (100 ≤ v)⟩,
      ⟨16, 8, fun v => decide (v % 4096 = 0)⟩, ⟨24, 8, fun v => decide (v % 4096 = 0)⟩] p
    refuse := firstSome [failIf (decide ((s.qp h sl q).state ≠ .disabled)) .busy 0,
      failIf (decide (sl ≠ 0) && decide (x.qpLim ≤ s.qpCount h sl)) .noResource 0] }

/-- QP_CREATE (R236, R247, R256, R273, R310). -/
def execQpCreate (c : Cmd) (s : State) : Result :=
  let p := c.payload
  let (h, sl) := c.home
  let q := byteAt p 0
  .next <| s.command infoQpCreate c (checksQpCreate c s) fun s =>
      (s.setQp h sl q
        { state := .active, sqN := byteAt p 1, cqN := byteAt p 2, weight := max 1 (byteAt p 3), vec := le p 4 2
          count := byteAt p 6, timer := le p 8 2, crStall := if le p 10 2 = 0 then 1000 else le p 10 2
          sqBase := BitVec.ofNat 64 (le p 16 8), cqBase := BitVec.ofNat 64 (le p 24 8) }).ok c 0x0601 []

def infoQpModify : CmdInfo := { opcode := 0x0602, fromS := true, len := 13 }

/-- What the checks of QP_MODIFY find (R247, R272, R273). DEDUCED, log entry 43. -/
def checksQpModify (c : Cmd) (s : State) : Checks :=
  let p := c.payload
  let (h, sl) := c.home
  let q := byteAt p 0
  let mask := byteAt p 12
  let x := s.slice h sl
  { bad := firstBad [rangeField 0 1 0 63, ⟨3, 1, fun v => !bitOf mask 3 || decide (v ≤ 16)⟩,
      ⟨4, 2, fun v => !bitOf mask 0 || c.route.slice?.isNone || x.vecOk v⟩, anyField 6 1, anyField 8 2,
      ⟨10, 2, fun v => !bitOf mask 2 || decide (v = 0) || decide (100 ≤ v)⟩, rangeField 12 1 0 15] p
    refuse := failIf (decide ((s.qp h sl q).state = .disabled)) .denied 4 }

/-- QP_MODIFY (R247, R272, R273): only fields whose MASK bit is 1 are checked and written. -/
def execQpModify (c : Cmd) (s : State) : Result :=
  let p := c.payload
  let (h, sl) := c.home
  let q := byteAt p 0
  let mask := byteAt p 12
  .next <| s.command infoQpModify c (checksQpModify c s) fun s =>
      (s.modQp h sl q fun y =>
        { y with
          vec := if bitOf mask 0 then le p 4 2 else y.vec
          count := if bitOf mask 1 then byteAt p 6 else y.count
          timer := if bitOf mask 1 then le p 8 2 else y.timer
          crStall := if bitOf mask 2 then (if le p 10 2 = 0 then 1000 else le p 10 2) else y.crStall
          weight := if bitOf mask 3 then max 1 (byteAt p 3) else y.weight }).ok c 0x0602 []

/-- R257: one ABORTED completion for each chain of the entries not fetched, its TAG and the IRQ of its LAST entry; an incomplete chain at the end is included. -/
def chainEnds : Option (BitVec 16) → List Entry → List (BitVec 16 × Bool)
  | none, [] => []
  | some t, [] => [(t, false)]
  | started, e :: es =>
    let cut := match started with
      | some t => if entryFirst e then [(t, false)] else []
      | none => []
    let tag := match started with
      | some t => if entryFirst e then entryTag e else t
      | none => entryTag e
    let whole := entryLast e || (started.isNone && !entryFirst e)
    if whole then cut ++ (tag, entryIrq e) :: chainEnds none es else cut ++ chainEnds (some tag) es

/-- The 64-byte entries of bytes read from a ring. -/
def splitEntries : Nat → List Byte → List Entry
  | 0, _ => []
  | n + 1, p => p.take 64 :: splitEntries n (p.drop 64)

/-- R257: the outstanding chains of one SQ that end by an abort: all but those whose change is committed. DEDUCED, log entry 80. -/
def Outst.abortable (o : Outst) (h sl q : Nat) : Bool :=
  (match o.route with
    | .sq h' sl' q' => decide (h'.val = h) && decide (sl'.val = sl) && decide (q'.val = q)
    | _ => false) && !o.committed

/-- R256, R257: a pair begins to stop: fetch ends, its uncommitted chains and those still in the ring abort in ring order, with the GEN given. `unread` holds the entries between SQ_CI and SQ_PI. DEDUCED, log entry 72. -/
def State.stopQp (s : State) (h sl q : Nat) (why : QpStop) (cmd : Option (Nat × Cmd)) (unread : List Entry) (gen : BitVec 8) : State :=
  let x := s.qp h sl q
  let gone := s.hosts.running.filter (·.abortable h sl q)
  let ends := gone.map (fun o => (o.tag, o.irq)) ++ chainEnds none unread
  let aborts := ends.map fun t => ({ tag := t.1, status := .aborted, gen := gen, irq := t.2 } : CqEntry)
  let s := s.modHosts fun y => { y with running := y.running.filter fun o => !o.abortable h sl q }
  s.setQp h sl q
    (Qp.settle (Qp.refill { x with state := .stopping, stop := why, stopCmd := cmd, slots := x.slots - gone.length
                                   aborts := x.aborts ++ aborts
                                   sqCi := (x.sqCi + unread.length) % 2 ^ (x.sqN + 1) }) s.now)

/-- R257: the entries between SQ_CI and SQ_PI of a queue, from what was read of host memory. DEDUCED, log entry 78. -/
def State.unreadEntries (s : State) (h sl q : Nat) : HostData → List Entry
  | .ok b => let x := s.qp h sl q; splitEntries (min (b.length / 64) (ringUsed x.sqN x.sqPi x.sqCi)) b
  | .err _ => []

/-- R247: the command came by the SQ it names. -/
def onOwnSq (c : Cmd) (q : Nat) : Bool :=
  match c.route with
  | .sq _ _ q' => decide (q'.val = q)
  | _ => false

/-- The pair may be reset or destroyed: ACTIVE or ERROR. DEDUCED, log entry 50. -/
def QpState.stoppable : QpState → Bool
  | .active => true
  | .error => true
  | _ => false

def infoQpReset : CmdInfo := { opcode := 0x0603, fromS := true, len := 1 }

/-- What the checks of QP_RESET find (R253, R256, R257). DEDUCED, log entry 50. -/
def checksQpReset (c : Cmd) (s : State) : Checks :=
  let (h, sl) := c.home
  let q := byteAt c.payload 0
  { bad := firstBad [rangeField 0 1 0 63] c.payload
    refuse := firstSome [failIf (onOwnSq c q) .denied 4, failIf (!(s.qp h sl q).state.stoppable) .denied 4] }

/-- QP_RESET (R253, R256, R257): it completes when the last abort is in host memory (QP_STOP_DONE). -/
def execQpReset (c : Cmd) (s : State) : Result :=
  let (h, sl) := c.home
  let q := byteAt c.payload 0
  .next <| s.command infoQpReset c (checksQpReset c s) fun s => s.stopQp h sl q .reset (some (0x0603, c)) (s.unreadEntries h sl q c.data) (s.slice h sl).gen

/-- R258: an engine ring, a DMA channel or a notice binding, that of a tunnel among them, names the queue. DEDUCED, log entry 51. -/
def State.cqNamed (s : State) (h sl q : Nat) : Bool :=
  s.xfer.eps.any (fun e => decide (e.2.owner = some (h, sl)) && decide (e.2.state ≠ .disabled) && decide (e.2.cq = q))
  || s.xfer.chans.any (fun e => decide (e.2.owner = some (h, sl)) && e.2.configured && decide (e.2.cq = q))
  || s.xfer.roots.any (fun e => decide (e.2.owner = some (h, sl)) && decide (e.2.notifyQ = q))
  || s.xfer.fns.any (fun e => decide (e.2.owner = some (h, sl)) && e.2.bound && decide (e.2.notifyQ = q))
  || (decide (sl = 0) && s.ports.any (fun e =>
      decide (((if h = 0 then e.2.pd.bind0 else e.2.pd.bind1).map Prod.fst) = some q)))
  || s.tunnels.any (fun e => decide (e.2.state ≠ .free) && decide (e.2.owner = .slice h sl) && decide (e.2.notifyQ = q)
      && decide ((s.port e.2.port).pd.dp.tid ≠ some e.1))

def infoQpDestroy : CmdInfo := { opcode := 0x0604, fromS := true, len := 1 }

/-- What the checks of QP_DESTROY find (R256 to R258). DEDUCED, log entry 50. -/
def checksQpDestroy (c : Cmd) (s : State) : Checks :=
  let (h, sl) := c.home
  let q := byteAt c.payload 0
  { bad := firstBad [rangeField 0 1 0 63] c.payload
    refuse := firstSome [failIf (onOwnSq c q) .denied 4, failIf (!(s.qp h sl q).state.stoppable) .denied 4,
      failIf (s.cqNamed h sl q) .busy 0] }

/-- QP_DESTROY (R256 to R258). -/
def execQpDestroy (c : Cmd) (s : State) : Result :=
  let (h, sl) := c.home
  let q := byteAt c.payload 0
  .next <| s.command infoQpDestroy c (checksQpDestroy c s) fun s => s.stopQp h sl q .destroy (some (0x0604, c)) (s.unreadEntries h sl q c.data) (s.slice h sl).gen

/-- Table 9-2: the 16 bytes of QSTAT. -/
def Qp.qstat (x : Qp) : List Byte :=
  toLe 2 x.sqCi ++ toLe 2 x.sqPi ++ toLe 2 x.cqPi ++ toLe 2 x.cqCi
  ++ toLe 4 (x.state.ctorIdx + 8 * flag x.phase + 16 * min 16 x.waiting + 512 * flag x.stalled) ++ toLe 4 x.stallCount.toNat

def infoQpQuery : CmdInfo := { opcode := 0x0605, fromS := true, fromD := true, len := 1 }

/-- What the checks of QP_QUERY find (R272). -/
def checksQpQuery (c : Cmd) : Checks :=
  { bad := firstBad [rangeField 0 1 0 63] c.payload }

/-- QP_QUERY (R272). -/
def execQpQuery (c : Cmd) (s : State) : Result :=
  let (h, sl) := c.home
  let x := s.qp h sl (byteAt c.payload 0)
  .next <| s.command infoQpQuery c (checksQpQuery c) fun s =>
    s.ok c 0x0605 (x.qstat ++ toLe 2 x.vec ++ toLe 1 x.count ++ toLe 1 0 ++ toLe 2 x.timer)

/-- R257: every abort of a stopping pair is in host memory and no chain of its SQ is outstanding. -/
def State.stopEnded (s : State) (h sl q : Nat) : Bool :=
  let x := s.qp h sl q
  decide (x.state = .stopping) && decide (x.waiting = 0) && x.aborts.isEmpty
    && s.hosts.running.all fun o => !(match o.route with
      | .sq h' sl' q' => decide (h'.val = h) && decide (sl'.val = sl) && decide (q'.val = q)
      | _ => false)

/-- QP_STOP_DONE (R256). -/
def execQpStopDone (hp : Fin 2) (sl : Fin 256) (q : Fin 64) (s : State) : Result :=
  let x := s.qp hp sl q
  if !s.stopEnded hp sl q then .next s
  else
    let finish (s : State) : State :=
      match x.stopCmd with
      | some (op, c) => s.ok c op []
      | none => s
    match x.stop with
    | .reset => .next (finish (s.setQp hp sl q { x with state := .active, stop := .none, stopCmd := none, sqCi := 0, sqPi := 0 }))
    | .destroy => .next (finish (s.setQp hp sl q {}))
    | _ => .next (s.setQp hp sl q {})

end Sys2Proof.Machine
end

