-- ==== Sys2Proof/Machine/Port.lean ====
section
/-! DEFINITION. Sys2Proof/Machine/Port.lean: the link commands of a port (PORT_LINK_CTRL, PORT_LINK_CFG, PORT_NOTIFY_BIND). -/

namespace Sys2Proof.Machine

/-- R378: a command that needs a held-off domain, other than PM_DOMAIN itself, is DENIED with DETAIL 4. DEDUCED, log entry 121. -/
def State.needs (s : State) (d : Nat) : Option (Status × Nat) := failIf (s.domainOff d) .denied 4

/-- The power domain of a port's group. DEDUCED, log entry 121. -/
def portDomain (p : Nat) : Nat := 3 + p / 3

/-- Table 17-10: the lane record of a port, given the port. -/
def Port.laneRecord (x : Port) (p : Nat) : List Byte :=
  let stored := (List.range 4).foldl (fun n l => if (x.lane l).sets.isEmpty then n else n + 2 ^ l) 0
  toLe 1 p ++ toLe 1 x.exclRec.toNat ++ toLe 1 x.lockRec.toNat ++ toLe 1 stored

/-- R273: lane `l` excluded would leave a direction with no lane. -/
def State.lastLane (s : State) (p l : Nat) : Bool :=
  let x := s.port p
  let left := ~~~x.exclRec &&& ~~~(laneBit l)
  let locked := decide (left &&& x.lockRec = left) && (decide (left &&& x.lockOut = left) || decide (left &&& ~~~x.lockOut = left))
  if s.linkUp p then
    match x.laneDir l with
    | some d =>
      let back := match x.transit with
        | some t => if t.kind = .recal && t.origDir = d then 1 else 0
        | none => 0
      decide (laneCount (x.lanesIn d) + back ≤ 1)
    | none => false
  else decide (laneCount left < 2) || locked

/-- The lane record after an EXCLUDE, INCLUDE or CLEAR_EQ. DEDUCED, log entry 118. -/
def Port.laneChange (x : Port) (action l : Nat) : Port :=
  match action with
  | 2 => { x with exclRec := x.exclRec ||| laneBit l }
  | 3 => { x with exclRec := x.exclRec &&& ~~~(laneBit l), lockRec := x.lockRec &&& ~~~(laneBit l)
                  defExcl := if x.defExcl = some l then none else x.defExcl }
  | _ => x.modLane l fun v => { v with sets := [] }

/-- R75, R273: an exclusion is made now, or waits for a cycle start; answers result DETAIL. DEDUCED, log entry 118; DEDUCED, log entry 139. -/
def State.exclude (s : State) (p l : Nat) : State × Nat :=
  let x := s.port p
  if !s.linkUp p then (s, 0)
  else match x.laneDir l with
    | some d =>
      if x.transit.isNone && s.mayLeave p d then ((if d = .outb then s.wakeOut p else s).beginChange p l .exclude d, 0)
      else (s.setPort p { x with defExcl := some l }, 1)
    | none => (s.setPort p { x with defExcl := some l }, 1)

/-- R273: RETRAIN: FAILED goes to DISABLED; any other state takes the link down and retrains at DETECT, the failure counts cleared. -/
def State.retrainCmd (s : State) (p : Nat) : State :=
  let failed := decide ((s.port p).train.state = .failed)
  let s := (s.linkLost p).modTrain p Train.clearCounts
  if failed then s.trainDisable p else s.startDetect p

def infoPortLinkCtrl : CmdInfo := { opcode := 0x0305, fromO := true, fromM := true, journal := true, len := 3 }

/-- What the checks of PORT_LINK_CTRL find (R44, R49, R75, R273). -/
def checksPortLinkCtrl (c : Cmd) (s : State) : Checks :=
  let p := byteAt c.payload 0
  let a := byteAt c.payload 1
  let l := byteAt c.payload 2
  let x := s.port p
  { bad := firstBad [rangeField 0 1 0 11, rangeField 1 1 1 5, rangeField 2 1 0 3] c.payload
    refuse := firstSome [s.needs (portDomain p),
      failIf (decide (a = 1) && (!s.linkUp p || x.exclRec.getLsbD l)) .denied 4,
      failIf (decide (a = 2) && x.exclRec.getLsbD l) .denied 4,
      failIf (decide (a = 2) && s.lastLane p l) .denied 4,
      failIf (decide (a = 2) && x.defExcl.isSome) .busy 0,
      failIf (decide (a = 5) && decide (x.train.state = .disabled)) .denied 4]
    object := p, old := x.laneRecord p, new := (x.laneChange a l).laneRecord p
    journalled := decide (2 ≤ a) && decide (a ≤ 4) }

/-- PORT_LINK_CTRL (R44, R49, R75, R273). -/
def execPortLinkCtrl (c : Cmd) (s : State) : Result :=
  let p := byteAt c.payload 0
  let a := byteAt c.payload 1
  let l := byteAt c.payload 2
  .next <| s.command infoPortLinkCtrl c (checksPortLinkCtrl c s) fun s =>
      match a with
      | 1 =>
        let s := s.recalibrate p l
        s.ok c 0x0305 [BitVec.ofNat 8 (flag ((s.port p).lane l).recalDeferred)]
      | 2 =>
        let r := (s.modPort p fun x => x.laneChange 2 l).exclude p l
        r.1.ok c 0x0305 [BitVec.ofNat 8 r.2]
      | 5 => (s.retrainCmd p).ok c 0x0305 [0]
      | _ => (s.modPort p fun x => x.laneChange a l).ok c 0x0305 [0]

/-- R415: the PORT_LINK_CFG payload in force, every MASK bit set. DEDUCED, log entry 47. -/
def LinkCfg.value (v : LinkCfg) (p : Nat) : List Byte :=
  toLe 1 p ++ toLe 1 255 ++ toLe 1 v.maxRate.code ++ toLe 1 (flag v.fecJ14 + 2 * flag v.fecJ28) ++ toLe 2 v.sleepIdle
    ++ toLe 2 v.keepAlive ++ toLe 2 v.linkTimeout ++ toLe 2 v.timePeriod ++ toLe 2 v.recalHours ++ toLe 1 v.homeMask.toNat ++ toLe 1 1

/-- R493: the settings after a PORT_LINK_CFG. -/
def LinkCfg.after (v : LinkCfg) (b : List Byte) : LinkCfg :=
  let m := byteAt b 1
  { maxRate := if bitOf m 0 then rateOf (byteAt b 2) else v.maxRate
    fecJ14 := if bitOf m 1 then bitOf (byteAt b 3) 0 else v.fecJ14
    fecJ28 := if bitOf m 2 then bitOf (byteAt b 3) 1 else v.fecJ28
    sleepIdle := if bitOf m 3 then le b 4 2 else v.sleepIdle
    keepAlive := if bitOf m 4 then le b 6 2 else v.keepAlive
    linkTimeout := if bitOf m 5 then le b 8 2 else v.linkTimeout
    timePeriod := if bitOf m 6 then le b 10 2 else v.timePeriod
    recalHours := if bitOf m 7 then le b 12 2 else v.recalHours
    homeMask := if bitOf (byteAt b 15) 0 then (if byteAt b 14 = 0 then 5 else BitVec.ofNat 4 (byteAt b 14)) else v.homeMask }

/-- Table 15-5: the settings meet the condition of a port island's level. -/
def LinkCfg.meets (v : LinkCfg) (level : Nat) : Bool :=
  match level with
  | 4 => v.maxRate.le .j28
  | 5 => v.maxRate.le .j14 || (v.maxRate.le .j28 && v.fecJ28)
  | _ => true

/-- R45, R49, R493: what takes effect at once: a MAX_RATE set also ends a lowered maximum and the counts. -/
def State.linkCfgNow (s : State) (p : Nat) (m : Nat) : State :=
  let v := (s.port p).link
  let s := if bitOf m 0 then s.modTrain p Train.clearCounts else s
  let s := if bitOf m 3 && s.linkUp p then s.armIdle p else s
  let s := if bitOf m 6 && s.linkUp p then s.modPort p fun x => { x with time := { x.time with due := some (s.after (1000 * v.timePeriod)) } } else s
  if bitOf m 7 then
    s.modPort p fun x => x.mapLanes fun l =>
      { l with recalDue := if v.recalHours = 0 then none else if s.linkUp p || l.recalDue.isSome then some (s.after (v.recalHours * 3600000000000)) else none }
  else s

def infoPortLinkCfg : CmdInfo :=
  { opcode := 0x0307, fromO := true, fromM := true, fromI := true, locked := true, journal := true, len := 16 }

/-- What the checks of PORT_LINK_CFG find (R493, Table 15-5). DEDUCED, log entry 49. -/
def checksPortLinkCfg (c : Cmd) (s : State) : Checks :=
  let b := c.payload
  let p := byteAt b 0
  let m := byteAt b 1
  let v := (s.port p).link
  let n := v.after b
  let if' (i : Nat) (ok : Nat → Bool) (x : Nat) : Bool := !bitOf m i || ok x
  let range (lo hi x : Nat) : Bool := decide (lo ≤ x) && decide (x ≤ hi)
  { bad := orBad (firstBad [rangeField 0 1 0 11, anyField 1 1, ⟨2, 1, if' 0 (range 0 2)⟩,
        ⟨3, 1, fun x => !(bitOf m 1 || bitOf m 2) || decide (x < 4)⟩,
        ⟨4, 2, if' 3 fun x => decide (x = 0) || range 2 1000 x⟩, ⟨6, 2, if' 4 (range 250 4000)⟩, ⟨8, 2, if' 5 (range 5 500)⟩,
        ⟨10, 2, if' 6 (range 125 8000)⟩, ⟨12, 2, if' 7 (range 0 720)⟩,
        ⟨14, 1, fun x => !bitOf (byteAt b 15) 0 || decide (x < 15)⟩, rangeField 15 1 0 1] b)
      (badIf (decide (100 * n.linkTimeout ≤ n.keepAlive)) 8)
    refuse := failIf (!n.meets (s.levelOf (agentPort p))) .denied 4
    object := p, old := v.value p, new := n.value p }

/-- PORT_LINK_CFG (R493, Table 15-5). -/
def execPortLinkCfg (c : Cmd) (s : State) : Result :=
  let b := c.payload
  let p := byteAt b 0
  let m := byteAt b 1
  let v := (s.port p).link
  let n := v.after b
  .next <| s.command infoPortLinkCfg c (checksPortLinkCfg c s) fun s => ((s.modPort p fun x => { x with link := n }).linkCfgNow p m).ok c 0x0307 []

def infoPortNotifyBind : CmdInfo := { opcode := 0x0306, fromO := true, len := 3 }

/-- What the checks of PORT_NOTIFY_BIND find (R231, R273). -/
def checksPortNotifyBind (c : Cmd) (s : State) : Checks :=
  let p := byteAt c.payload 0
  let q := byteAt c.payload 1
  let en := bitOf (byteAt c.payload 2) 0
  let h := c.home.1
  let get (d : Pd) : Option (Nat × BitVec 16) := if h = 0 then d.bind0 else d.bind1
  { bad := firstBad [rangeField 0 1 0 11, rangeField 1 1 0 63, rangeField 2 1 0 1] c.payload
    refuse := failIf (en && match get (s.port p).pd with
      | some (q', _) => decide (q' ≠ q)
      | none => false) .noResource 0 }

/-- PORT_NOTIFY_BIND (R231, R273): one queue per host port per port; the command's TAG is the notice tag. -/
def execPortNotifyBind (c : Cmd) (s : State) : Result :=
  let p := byteAt c.payload 0
  let q := byteAt c.payload 1
  let en := bitOf (byteAt c.payload 2) 0
  let h := c.home.1
  let get (d : Pd) : Option (Nat × BitVec 16) := if h = 0 then d.bind0 else d.bind1
  let set (v : Option (Nat × BitVec 16)) (d : Pd) : Pd := if h = 0 then { d with bind0 := v } else { d with bind1 := v }
  .next <| s.command infoPortNotifyBind c (checksPortNotifyBind c s) fun s =>
      (s.modPort p fun x =>
        { x with pd := if en then set (some (q, c.tag)) x.pd
                       else if (get x.pd).map Prod.fst = some q then set none x.pd else x.pd }).ok c 0x0306 []

end Sys2Proof.Machine
end

