-- ==== Sys2Proof/Machine/Dp.lean ====
section
/-! DEFINITION. Sys2Proof/Machine/Dp.lean: display streams and their tunnels (R88 to R90, R347), and DisplayPort Alternate Mode (R199 to R203). -/

namespace Sys2Proof.Machine

/-! ## Streams (R88 to R90) -/

/-- A DISP tunnel's stream, DPI input in [4:2], stream in [1:0]. -/
def Tunnel.stream (t : Tunnel) : Nat := bits t.clientRef.toNat 2 0 * 4 + bits t.clientRef.toNat 4 3

/-- Table 10-4: CLIENT_REF of a stream. -/
def streamRef (x : Nat) : BitVec 32 := BitVec.ofNat 32 (x / 4 % 8 + 8 * (x % 4))

/-- The tunnel that a DISP stream is bound to. -/
def State.streamTunnel (s : State) (x : Nat) : Option Nat :=
  (s.tunnels.find? fun e => decide (e.2.state ≠ .free) && decide (e.2.cls = 0) && decide (e.2.stream = x)).map Prod.fst

def State.streamOf (s : State) (x : Nat) : Stream := (s.dpi (x / 4)).stream (x % 4)
def State.modStream (s : State) (x : Nat) (f : Stream → Stream) : State :=
  s.modDpi (x / 4) fun d => d.modStream (x % 4) f

/-! ## The main link (R199, R201) -/

/-- Table 7-8: net capacity of one lane in Mb/s, by rate. -/
def dpCapacity (rate : Nat) : Nat := [1296, 2160, 4320, 6480, 9697, 13091].getD rate 0

/-- R201: bits per second of a mode. -/
def DispMode.bitRate (m : DispMode) : Nat :=
  if m.dscLine ≠ 0 then m.dscLine * 8 * m.pixclk / max m.htotal 1 else m.pixclk * m.bpp

/-- R201: the rate at a lane count carries 1.05 times the stream. -/
def dpFits (m : DispMode) (lanes rate : Nat) : Bool := decide (105 * m.bitRate ≤ dpCapacity rate * 1000000 * lanes * 100)

/-- R199: the highest rate that the cable permits: UHBR rates by USB4 Gen3 or its DisplayPort VDO. PRESUMED, log entry 159. -/
def Pd.dpTop (d : Pd) : Nat := if d.cable.usb4 then 5 else max 3 d.cable.dpRate

/-- R201: the lowest permitted rate that fits. -/
def Pd.dpRate (d : Pd) (m : DispMode) (lanes : Nat) : Option Nat := (List.range (d.dpTop + 1)).find? (dpFits m lanes)

/-- R201: pin assignment: 3 D, 2 C, 4 E. DEDUCED, log entry 126. -/
def Pd.dpPin (d : Pd) (m : DispMode) : Nat :=
  let offersC := d.dp.offers.getLsbD 0
  let offersD := d.dp.offers.getLsbD 1
  let offersE := d.dp.offers.getLsbD 2
  if offersD && d.fbNow.prefD && (List.range (d.dpTop + 1)).any (dpFits m 2) then 3
  else if offersC then 2 else if offersE then 4 else 3

/-- Table 7-3: main-link lanes of a pin assignment. -/
def dpLanes (pin : Nat) : Nat := if pin = 3 then 2 else 4

/-! ## The binding (R200) -/

/-- The tunnel table entry of a port's binding. -/
def State.dpTid (s : State) (p : Nat) : Option Nat :=
  (s.port p).pd.dp.tid.filter fun tid =>
    let t := s.tunnel tid
    decide (t.port = p) && decide (t.state ≠ .free) && decide (t.cls = 0) && decide (t.tun = 1)

/-- The mode that a DISP tunnel entry holds, in the parameters of a create. -/
def DispMode.params (m : DispMode) : List Byte :=
  padTo 96 (toLe 2 m.htotal ++ toLe 2 m.hact ++ toLe 4 0 ++ toLe 5 m.pixclk ++ toLe 1 m.bpp ++ toLe 2 m.dscLine)

/-- R200: the entry of a binding: CLASS DISP, TUN 1, outbound, F of the stream's present mode. -/
def State.dpEntry (s : State) (p src : Nat) (owner : Owner) (gen : BitVec 8) : Tunnel :=
  let m := (s.streamOf src).mode
  { port := p, tun := 1, cls := 0, dirs := 1, state := .opening, gen := gen, owner := owner, rsvOut := dispFlits m
    clientRef := streamRef src, notifyTag := 0xFFFF, params := m.params }

/-- The stream a DisplayPort port shows has this mode; without a binding it is empty. -/
def State.dpMode (s : State) (p : Nat) : DispMode :=
  match (s.port p).pd.dp.source with
  | some x => (s.streamOf x).mode
  | none => {}

/-- R199, R203: the mode ends: DP_MODE_EXIT, MODE_EXITED, and the binding is torn down with LINK_LOST. -/
def State.dpEnd (s : State) (p : Nat) : State :=
  let d := (s.port p).pd
  if d.dp.entered then
    let s := match s.dpTid p with
      | some tid => s.teardown tid 5
      | none => s
    let s := s.modPd p fun d => { d with dp := { offers := d.dp.offers, pos := d.dp.pos }, mode := if d.mode = .dp then .fallback else d.mode }
    (s.portNotice p 0x2B []).modeNotice p 0x3A svidDp d.dp.pos
  else s

/-- The AX1224 leaves the mode with Exit Mode. -/
def State.dpExit (s : State) (p : Nat) : State :=
  let d := (s.port p).pd
  if d.dp.entered then (s.sendVdm p 0 svidDp d.dp.pos 5 []).dpEnd p else s

/-- R201: main-link training begins, or no rate fits: DISP_MODE_NO_BW and Exit Mode. -/
def State.dpTrain (s : State) (p : Nat) : State :=
  let d := (s.port p).pd
  let s := s.modPd p fun d => { d with dp := { d.dp with rate := none, lanes := dpLanes d.dp.pin } }
  if (d.dpRate (s.dpMode p) (dpLanes d.dp.pin)).isNone then (s.event 0x1A8).dpExit p else s

/-- R203: the link is retrained only if its rate no longer fits. -/
def State.dpRefit (s : State) (p : Nat) : State :=
  let d := (s.port p).pd
  match d.dp.rate with
  | some r =>
    if dpFits (s.dpMode p) d.dp.lanes r then
      match s.dpTid p with
      | some tid => s.modTunnel tid fun t => { t with state := .opened }
      | none => s
    else s.dpTrain p
  | none => if d.dp.hpd then s.dpTrain p else s

/-- R200: the binding is made; a binding that the port already shows is replaced as one step, its generation raised. -/
def State.dpBindNow (s : State) (p src : Nat) (owner : Owner) : State × Nat :=
  let tid := (if (s.dpTid p).isSome then s.dpTid p else s.freeTid).getD 0
  let old := s.tunnel tid
  let gen := if (s.dpTid p).isSome then old.gen + 1 else old.gen
  let s := (s.setTunnel tid (s.dpEntry p src owner gen)).modPd p fun d => { d with dp := { d.dp with tid := some tid, source := some src } }
  (s.dpRefit p, tid)

/-- R199: a DSC stream passes only to a sink that reports DSC decode support. -/
def Pd.dpDscOk (d : Pd) (m : DispMode) : Bool := decide (m.dscLine = 0) || d.dp.sinkDsc

/-- R199, R200: a binding of the port to the stream could be made now: not bound, DSC decoded, an entry free, the DISP ceiling kept. -/
def State.dpBindable (s : State) (p src : Nat) : Bool :=
  (s.port p).pd.dpDscOk (s.streamOf src).mode && (s.streamTunnel src).isNone && s.freeTid.isSome && s.underCeiling agentDisp .outb (dispFlits (s.streamOf src).mode)

/-- Table 17-2: the journal value of a binding: the DPALT_BIND payload. -/
def dpValue (p src : Nat) : List Byte := toLe 1 p ++ toLe 1 src

/-- R200: the mode is entered: the AX1224 binds the stream that DPALT_SRC names, with origin FW; a DSC stream once the sink's DPCD has been read (R199, R201). DEDUCED, log entry 126. -/
def State.dpAutoBind (s : State) (p : Nat) : State :=
  let src := (s.port p).pd.fbNow.dpaltSrc.toNat
  let known := (s.port p).pd.dp.hpd || decide ((s.streamOf src).mode.dscLine = 0)
  let s := s.modPd p fun d => { d with dp := { d.dp with autoTried := known } }
  if known && s.dpBindable p src then
    s.fwChange { kind := 0x0B10, object := p, old := digest [], new := digest (dpValue p src) } (.dpBind p src)
      fun s => (s.dpBindNow p src .plan).1
  else s

def infoDpaltBind : CmdInfo := { opcode := 0x0B10, fromS := true, fromO := true, fromM := true, fromF := true, journal := true, len := 2 }

/-- What the checks of DPALT_BIND find (R199, R200, R203, R347). DEDUCED, log entry 126. -/
def checksDpaltBind (c : Cmd) (s : State) : Checks :=
  let p := byteAt c.payload 0
  let src := byteAt c.payload 1
  let d := (s.port p).pd
  let m := (s.streamOf src).mode
  let had := match s.dpTid p with
    | some tid => (s.tunnel tid).rsvOut
    | none => 0
  { bad := firstBad [rangeField 0 1 0 11, rangeField 1 1 0 31] c.payload
    owned := match s.dpTid p with
      | some tid => decide ((s.tunnel tid).owner = .plan) || ownsTunnel c.route (s.tunnel tid).owner
      | none => true
    refuse := firstSome [failIf (!d.dp.entered) .denied 4, failIf (!d.dpDscOk m) .denied 4,
      failIf (s.streamTunnel src).isSome .busy 0, failIf ((s.dpTid p).isNone && s.freeTid.isNone) .busy 0,
      failIf (!s.underCeiling agentDisp .outb (dispFlits m - had)) .noBandwidth 0x12]
    object := p
    old := match d.dp.source with
      | some x => dpValue p x
      | none => []
    new := dpValue p src }

/-- DPALT_BIND (R199, R200, R203, R347). -/
def execDpaltBind (c : Cmd) (s : State) : Result :=
  let p := byteAt c.payload 0
  let src := byteAt c.payload 1
  .next <| s.command infoDpaltBind c (checksDpaltBind c s) fun s =>
      let r := s.dpBindNow p src (ownerNamed c.route 0)
      r.1.ok c 0x0B10 (toLe 2 r.2)

def infoDpaltUnbind : CmdInfo := { opcode := 0x0B11, fromS := true, fromO := true, fromM := true, fromF := true, journal := true, len := 1 }

/-- What the checks of DPALT_UNBIND find (R200). -/
def checksDpaltUnbind (c : Cmd) (s : State) : Checks :=
  let p := byteAt c.payload 0
  let d := (s.port p).pd
  { bad := firstBad [rangeField 0 1 0 11] c.payload
    owned := match s.dpTid p with
      | some tid => ownsTunnel c.route (s.tunnel tid).owner
      | none => true
    refuse := failIf (s.dpTid p).isNone .denied 4
    object := p
    old := match d.dp.source with
      | some x => dpValue p x
      | none => [] }

/-- DPALT_UNBIND (R200). -/
def execDpaltUnbind (c : Cmd) (s : State) : Result :=
  let p := byteAt c.payload 0
  .next <| s.command infoDpaltUnbind c (checksDpaltUnbind c s) fun s =>
      let s := match s.dpTid p with
        | some tid => s.freeEntry tid false
        | none => s
      (s.modPd p fun d => { d with dp := { d.dp with tid := none, source := none } }).ok c 0x0B11 []

/-! ## Reservations of DISP tunnels (R90, R203) -/

/-- The tunnel entry is a DisplayPort Alternate Mode binding. -/
def State.dpBinding (s : State) (tid : Nat) : Bool := decide (s.dpTid (s.tunnel tid).port = some tid)

/-- R202, R203: the port island of a DisplayPort binding sends the idle pattern while HPD is high. -/
def State.dpIdle (s : State) (tid : Nat) : State :=
  let p := (s.tunnel tid).port
  if s.dpBinding tid && (s.port p).pd.dp.hpd then s.send (.dpIdle p) else s

/-- R90: the reservation of a DISP tunnel is raised, and its stream sends its video again. -/
def State.dispRaised (s : State) (tid flits : Nat) : State :=
  let t := s.tunnel tid
  (s.setTunnel tid { t with rsvOut := max t.rsvOut flits, rsvNext := if t.rsvNext ≤ flits then 0 else t.rsvNext }).modStream t.stream
    fun x => { x with noVideo := false }

/-- R90, R114, R203: a raise to `flits` is checked as a TUN_MODIFY, so only an OPEN tunnel can have one; it counts from its check on and is committed with origin FW. A refused one makes the tunnel send NOVIDEO, a DisplayPort port its idle pattern: DISP_MODE_NO_BW. The lane rule does not bear on a DisplayPort binding (R200); a DSC mode that its sink does not decode is refused (R199). -/
def State.dispRaise (s : State) (tid flits : Nat) : State :=
  let t := s.tunnel tid
  let more := flits - t.counted .outb
  let binding := s.dpBinding tid
  let dsc := binding && !(s.port t.port).pd.dpDscOk (s.streamOf t.stream).mode
  let refused := dsc || if binding then !s.underCeiling t.client .outb more
    else decide (t.state ≠ .opened) || (s.bandwidth t.port t.client more 0).isSome
  if !dsc && flits ≤ t.rsvOut then s.modStream t.stream fun x => { x with noVideo := false }
  else if refused then ((s.modStream t.stream fun x => { x with noVideo := true }).event 0x1A8).dpIdle tid
  else
    let n := { t with rsvOut := flits }
    let s := s.setTunnel tid { t with rsvNext := max t.rsvNext flits }
    s.fwChange { kind := 0x0203, object := tid, old := digest t.value, new := digest n.value } (.dispRaise tid flits)
      fun s => s.dispRaised tid flits

/-- R199: the sink's DPCD has been read: a DSC stream bound to the port is passed on or held back. -/
def State.dpDscCheck (s : State) (p : Nat) : State :=
  let m := s.dpMode p
  match s.dpTid p with
  | some tid => if m.dscLine = 0 then s else s.dispRaise tid (dispFlits m)
  | none => s

/-! ## Sink events (R201, R202) -/

/-- DP_HPD_CHANGE (R201, R202, R203): HPD falls (0), rises (1) or pulses IRQ_HPD (2); `dsc` and `linkOk` are what the sink's DPCD tells. -/
def execDpHpdChange (port : Fin 12) (kind : Fin 3) (linkOk dsc : Bool) (s : State) : Result :=
  let p := port.val
  let d := (s.port p).pd
  if !d.dp.entered then .next s
  else match kind.val with
    | 0 => .next ((s.modPd p fun d => { d with dp := { d.dp with hpd := false, rate := none } }).portNotice p 0x29 [])
    | 1 =>
      let s := (s.modPd p fun d => { d with dp := { d.dp with hpd := true, sinkDsc := dsc, fails := 0 } }).portNotice p 0x28 []
      let s := if d.dp.autoTried || d.disco ≠ .done then s else s.dpAutoBind p
      .next ((s.dpDscCheck p).dpTrain p)
    | _ => .next (if d.dp.hpd && !linkOk then s.dpTrain p else s)

/-- DP_TRAINED (R200, R201): a training ends; the binding enters OPEN. The third failure gives DISP_MODE_NO_BW and Exit Mode. DESIGN CHOICE, log entry 127. -/
def execDpTrained (port : Fin 12) (ok : Bool) (s : State) : Result :=
  let p := port.val
  let d := (s.port p).pd
  if !d.dp.entered || !d.dp.hpd || d.dp.rate.isSome then .next s
  else if ok then
    match d.dpRate (s.dpMode p) d.dp.lanes with
    | none => .next ((s.event 0x1A8).dpExit p)
    | some r =>
      let s := s.modPd p fun d => { d with dp := { d.dp with rate := some r, fails := 0 } }
      let s := match s.dpTid p with
        | some tid => s.modTunnel tid fun t => { t with state := .opened }
        | none => s
      .next (s.portNotice p 0x2A (toLe 1 r ++ toLe 1 d.dp.lanes))
  else if 2 ≤ d.dp.fails then .next ((s.event 0x1A8).dpExit p)
  else .next (s.modPd p fun d => { d with dp := { d.dp with fails := d.dp.fails + 1 } })

/-! ## The streams' cells (R88 to R90, R202, R347) -/

/-- DISP_MODE_CHANGE (R90, R203): the source changes to a mode. -/
def execDispModeChange (dpi : Fin 8) (stream : Fin 4) (mode : DispMode) (s : State) : Result :=
  let x := 4 * dpi.val + stream.val
  let f := dispFlits mode
  let s := s.modStream x fun y => { y with flits := f, mode := mode, stopped := false }
  match s.streamTunnel x with
  | some tid =>
    let s := s.dispRaise tid f
    if s.dpBinding tid && !(s.streamOf x).noVideo then .next (s.dpRefit (s.tunnel tid).port) else .next s
  | none => .next s

/-- Table 4-4: a segment's flit payload. -/
def segment (seg flags line off : Nat) (frame : BitVec 8) (data : List Byte) : List Byte :=
  padTo 120 ([BitVec.ofNat 8 seg, BitVec.ofNat 8 flags] ++ toLe 2 line ++ toLe 2 off ++ [BitVec.ofNat 8 data.length, frame] ++ data)

/-- R202: the stream's cells go to a DisplayPort sink whose HPD is low. -/
def State.hpdLow (s : State) (tid : Nat) : Bool := s.dpBinding tid && !(s.port (s.tunnel tid).port).pd.dp.hpd

/-- NOVIDEO_PERIOD (R89, R90): once per 1 ms while the source has stopped or its mode has no reservation. -/
def execNovideoPeriod (dpi : Fin 8) (stream : Fin 4) (s : State) : Result :=
  let x := 4 * dpi.val + stream.val
  let y := s.streamOf x
  match s.streamTunnel x with
  | some tid =>
    if (y.stopped || y.noVideo) && !s.hpdLow tid then .next (s.clientCell tid true false (segment 4 0 0 0 y.frame [0])) else .next s
  | none => .next s

/-- Table 4-4: a segment that a stream forms. -/
def segOk (seg flags line : Nat) (data : List Byte) : Bool :=
  decide (seg < 4) && decide (flags < 8) && decide (line < 65536) && decide (1 ≤ data.length) && decide (data.length ≤ 112)

/-- R89, Table 10-5: the presentation delay of a DISP tunnel in ns; 300 µs by default. -/
def Tunnel.presDelay (t : Tunnel) : Nat := if le t.params 16 2 = 0 then 300000 else 1000 * le t.params 16 2

/-- R89: the data of an MSA segment: the source's MSA, byte 23 zero, and FRAME_T, the arrival of the frame's first active pixel plus the presentation delay. DEDUCED, log entry 139. -/
def msaData (src : List Byte) (delay : Nat) : List Byte := (padTo 23 src).take 23 ++ [0] ++ toLe 8 (le (padTo 32 src) 24 8 + delay)

/-- DISP_SEGMENT (R88, R89, R202, R347): a segment of a stream, as the DISP island forms it from the source: of a frame one MSA, whose operand holds the source's MSA and in bytes 24 to 31 the arrival of the first active pixel, one VBLANK and up to two SDP segments. A stream that nothing binds has it discarded and counted; a third SDP of a frame is counted in SDP_DROP; a stream in NOVIDEO sends none; toward a sink whose HPD is low it is counted in HPD_DROP. DEDUCED, log entry 139. -/
def execDispSegment (dpi : Fin 8) (stream : Fin 4) (seg flags line off : Nat) (frame : BitVec 8) (data : List Byte) (s : State) : Result :=
  let x := 4 * dpi.val + stream.val
  let y := s.streamOf x
  if !segOk seg flags line data then .next s
  else
    let y := if frame = y.frame then y else { y with frame := frame, sdps := 0, msa := false, vblank := false }
    let z : Stream := { y with stopped := false, sdps := y.sdps + flag (decide (seg = 2)), msa := y.msa || decide (seg = 1) }
    let s := s.modStream x fun _ => { z with vblank := z.vblank || decide (seg = 3) }
    match s.streamTunnel x with
    | some tid =>
      let t := s.tunnel tid
      if (seg = 1 && y.msa) || (seg = 3 && y.vblank) then .next s
      else if seg = 2 && 2 ≤ y.sdps then .next (s.modStream x fun y => { y with sdpDrop := y.sdpDrop + 1 })
      else if s.hpdLow tid then .next (s.modStream x fun y => { y with hpdDrop := y.hpdDrop + 1 })
      else if t.state = .opening || t.state = .closing then
        .next (s.modStream x fun y => { y with unboundDrop := y.unboundDrop + 1 })
      else if y.noVideo then .next s
      else if seg = 1 then .next (s.clientCell tid true false (segment 1 0 0 0 frame (msaData data t.presDelay)))
      else if seg = 3 then .next (s.clientCell tid true false (segment 3 0 0 0 frame [0]))
      else .next (s.clientCell tid true false (segment seg flags line off frame data))
    | none => .next (s.modStream x fun y => { y with unboundDrop := y.unboundDrop + 1 })

end Sys2Proof.Machine
end

