-- ==== Sys2Proof/Machine/Ss.lean ====
section
/-! DEFINITION. Sys2Proof/Machine/Ss.lean: the SuperSpeed packets that USB3 tunnels carry (R86). The spec names USB 3.2 for their layout. PRESUMED, log entry 156. -/

namespace Sys2Proof.Machine

/-- A transaction packet (`tp`), or a data packet: what the engine reads and sets of it. -/
structure SsPacket where
  /-- transaction packet -/
  tp : Bool := false
  /-- route string -/
  route : Nat := 0
  /-- device address -/
  addr : Nat := 0
  /-- transaction packet: 1 ACK, 2 NRDY, 3 ERDY, 4 STATUS, 5 STALL -/
  sub : Nat := 0
  /-- ACK: the packet is to be sent again -/
  rty : Bool := false
  /-- direction of the endpoint's data: toward the host -/
  dirIn : Bool := false
  /-- endpoint number -/
  ep : Nat := 0
  /-- ACK, ERDY: packets granted -/
  numP : Nat := 0
  /-- sequence number -/
  seq : Nat := 0
  /-- data packet: the burst or the interval ends with it -/
  last : Bool := false
  /-- data packet: it carries a setup -/
  setup : Bool := false
  /-- data packet: payload -/
  data : List Byte := []
  deriving DecidableEq, Repr

/-- CRC-16 of the 12 bytes of a header packet. -/
def ssCrc16 (m : List Byte) : BitVec 16 := ~~~((m.foldl (crcByte 0xD008) 0xFFFF).setWidth 16)

/-- Second word of a header packet. -/
def SsPacket.word1 (p : SsPacket) : Nat :=
  if p.tp then p.sub + 64 * flag p.rty + 128 * flag p.dirIn + 256 * p.ep + 65536 * p.numP + 2097152 * p.seq
  else p.seq + 64 * flag p.last + 128 * flag p.dirIn + 256 * p.ep + 32768 * flag p.setup + 65536 * p.data.length

/-- R86: a packet as a record body: 16 bytes of header packet with its CRC-16, then a data packet's payload and CRC-32. PRESUMED, log entry 156. -/
def SsPacket.bytes (p : SsPacket) : List Byte :=
  let h := toLe 4 ((if p.tp then 4 else 8) + 32 * p.route + 33554432 * p.addr) ++ toLe 4 p.word1 ++ toLe 4 0
  padTo 16 (h ++ toLe 2 (ssCrc16 h).toNat) ++ (if p.tp then [] else p.data ++ toLe 4 (crc32 p.data).toNat)

/-- R86: a record body read as a packet, if its header is good; `dataOk` tells whether a data packet's payload is good too. PRESUMED, log entry 156. -/
def parseSs (b : List Byte) : Option (SsPacket × Bool) :=
  let w0 := le b 0 4
  let w1 := le b 4 4
  let p : SsPacket :=
    { tp := decide (bits w0 4 0 = 4), route := bits w0 24 5, addr := bits w0 31 25, sub := bits w1 3 0, rty := bitOf w1 6
      dirIn := bitOf w1 7, ep := bits w1 11 8 }
  if b.length < 16 || (ssCrc16 (b.take 12)).toNat ≠ le b 12 2 then none
  else if bits w0 4 0 = 4 then some ({ p with numP := bits w1 20 16, seq := bits w1 25 21 }, true)
  else if bits w0 4 0 = 8 then
    let d := (b.drop 16).take (bits w1 31 16)
    some ({ p with sub := 0, rty := false, seq := bits w1 4 0, last := bitOf w1 6, setup := bitOf w1 15, data := d },
      decide (d.length = bits w1 31 16) && decide (le b (16 + d.length) 4 = (crc32 d).toNat) && decide (b.length = 20 + d.length))
  else none

end Sys2Proof.Machine
end

