-- ==== Sys2Proof/Machine/Usb.lean ====
section
/-! DEFINITION. Sys2Proof/Machine/Usb.lean: the USB host engine at work: schedules, transfer rings, requests and results ("USB host engine"). -/

namespace Sys2Proof.Machine

/-! ## Reading host memory -/

/-- What a read of host memory returns: the bytes, or none for a bus error. -/
def HostView.read (v : HostView) (addr : BitVec 64) (n : Nat) : Option (List Byte) :=
  if n = 0 then some []
  else (v.find? fun c => decide (c.1.toNat ≤ addr.toNat) && decide (addr.toNat + n ≤ c.1.toNat + c.2.length)).map
    fun c => (c.2.drop (addr.toNat - c.1.toNat)).take n

/-- Table 6-4: the fields of an endpoint descriptor. -/
def parseEpd (b : List Byte) : Epd :=
  let f := byteAt b 10
  { next := BitVec.ofNat 64 (le b 0 8), handle := bits (le b 8 2) 11 0, async := bitOf f 0, idleOk := bitOf f 1, skip := bitOf f 2
    cmask := byteAt b 11, budget := le b 12 4
    resv := decide (bits (byteAt b 0) 5 1 ≠ 0) || decide (bits (le b 8 2) 15 12 ≠ 0) || decide (8 ≤ f) || bitOf (byteAt b 11) 0
      || decide (le b 16 16 ≠ 0) }

/-- R158, R159: the EPDs of a chain in order, at most `n`, and how the walk ended: 0 END, 1 BUS_ERROR, 2 CHAIN_LONG. -/
def walkChain (v : HostView) : Nat → BitVec 64 → List Epd × Nat
  | 0, p => ([], if p.getLsbD 0 then 0 else 2)
  | n + 1, p =>
    if p.getLsbD 0 then ([], 0)
    else match v.read (p &&& ~~~63) 64 with
      | none => ([], 1)
      | some b =>
        let e := parseEpd b
        let r := walkChain v n e.next
        (e :: r.1, r.2)

/-! ## Roots in service -/

/-- A tunnelled root. -/
def tunnelled (r : Nat) : Bool := decide (12 ≤ r)

/-- The OPEN tunnel of a USB class of a tunnelled root, periodic or asynchronous. -/
def State.usbTunnelOf (s : State) (r cls : Nat) (periodic : Bool) : Option Nat :=
  (s.tunnels.find? fun e => decide (e.2.port + 12 = r) && decide (e.2.cls = cls) && (e.2.periodic == periodic)
    && decide (e.2.state = .opened)).map Prod.fst

/-- The OPEN USB2 tunnel of a tunnelled root. -/
def State.usbTunnel (s : State) (r : Nat) (periodic : Bool) : Option Nat := s.usbTunnelOf r 2 periodic

/-- R150: the root is bound and ENABLED, and its slice runs. -/
def State.rootBound (s : State) (r : Nat) : Bool :=
  let owner := match (s.root r).owner with
    | some (h, sl) => decide ((s.slice h sl).state = .active)
    | none => false
  owner && decide ((s.root r).state = .enabled) && !s.domainOff 8

/-- R150, R179, R177: the engine forms work for the root: not HELD, no resume wait. -/
def State.rootRuns (s : State) (r : Nat) : Bool :=
  s.rootBound r && !(s.root r).held && !(s.root r).pingWait && (!tunnelled r || (s.usbTunnel r false).isSome)

/-- R166: how far ahead of its cycle a root's work is formed, in ns. -/
def State.leadNs (s : State) (r : Nat) (usb3 : Bool) : Nat :=
  if tunnelled r && !usb3 then 1000 * (s.root r).tunLead else 0

/-- USB_SCHED_ERR (R158, R159) with its cause, at most once per cycle per root. -/
def State.schedErr (s : State) (r cycle cause : Nat) : State :=
  if (s.root r).schedTold = some cycle then s
  else (s.modRoot r fun x => { x with schedTold := some cycle, schedCause := cause }).event 0x158

/-! ## Chains (R162, R163) -/

/-- What reading a chain finds. -/
inductive TdRead where
  | wait
  | bad (idx : Nat) (tag : BitVec 16)
  | unreadable (idx : Nat)
  | chain (tds : List Td)
  deriving DecidableEq, Repr

/-- Table 6-5. -/
def parseTd (b : List Byte) : Td :=
  let f := byteAt b 14
  { addr := BitVec.ofNat 64 (le b 0 8), len := bits (le b 8 4) 16 0, tag := BitVec.ofNat 16 (le b 12 2), irq := bitOf f 2
    zlp := bitOf f 3, asap := bitOf f 4, typ := bits (byteAt b 15) 3 0, cycle := BitVec.ofNat 32 (le b 16 4) }

/-- The endpoint belongs to a device function. -/
def Ep.ofDevice (x : Ep) : Bool := bitOf x.slot 15

/-- Which TD types the ring takes: the endpoint's TYPE, or 4 for EP0 of a device function. -/
def Ep.tdKind (x : Ep) : Nat := if x.ofDevice && x.typ = 0 then 4 else x.typ

/-- R163, Table 7-4: the TD types that may stand here, given those before it in the chain. -/
def tdTypeOk (kind : Nat) (before : List Td) (t : Nat) (last : Bool) : Bool :=
  match kind with
  | 4 =>
    match before.getLast? with
    | none => if t = 2 || t = 3 then !last else (decide (t = 1) || decide (t = 4) || decide (t = 6)) && last
    | some p => if t = 4 then last && decide (p.typ ≠ 4) else (decide (t = 2) || decide (t = 3)) && !last && decide (p.typ = t)
  | 0 =>
    match before.getLast? with
    | none => decide (t = 1) && !last
    | some p =>
      if t = 4 then last && decide (p.typ ≠ 4)
      else (decide (t = 2) || decide (t = 3)) && !last && (decide (p.typ = 1) || decide (p.typ = t))
  | 1 => decide (t = 5) && before.isEmpty && last
  | _ => decide (t = 0)

/-- R9, R163: the TD is well formed at this place of its chain. -/
def tdOk (kind : Nat) (before : List Td) (b : List Byte) : Bool :=
  let t := parseTd b
  let f := byteAt b 14
  decide (bits (le b 8 4) 31 17 = 0) && decide (f < 32) && decide (byteAt b 15 < 16) && decide (le b 20 12 = 0)
    && (bitOf f 0 == before.isEmpty) && decide (t.len ≤ 65536) && (decide (t.typ = 5) || decide (t.cycle = 0))
    && tdTypeOk kind before t.typ (bitOf f 1) && (decide (t.typ ≠ 1) || decide (t.len = 8))
    && ((decide (t.typ ≠ 4) && decide (t.typ ≠ 6)) || decide (t.len = 0))

/-- R162, R163: the chain at the consumer index, read up to its LAST TD. DEDUCED, log entry 124. -/
def Ep.readChain (x : Ep) (v : HostView) : Nat → List Td → TdRead
  | 0, before => .bad ((x.cons + before.length) % x.span) 0xFFFF
  | n + 1, before =>
    let idx := (x.cons + before.length) % x.span
    if x.used ≤ before.length then .wait
    else match v.read (x.ringBase + BitVec.ofNat 64 (32 * (idx % 2 ^ x.ringLog2))) 32 with
      | none => .unreadable idx
      | some b =>
        let t := parseTd b
        if !tdOk x.tdKind before b || (before.length = 31 && !bitOf (byteAt b 14) 1) then .bad idx t.tag
        else if bitOf (byteAt b 14) 1 then .chain (before ++ [t])
        else x.readChain v n (before ++ [t])

/-- R162, R249, R251: the engine takes the next chain of a ring, if it is whole, good, and its CQ has a slot. DEDUCED, log entry 124. -/
def State.startChain (s : State) (v : HostView) (e : Nat) : State :=
  let x := s.ep e
  match x.owner, x.chain with
  | some (h, sl), none =>
    if x.state ≠ .active || !s.slotFree h sl x.cq then s
    else match x.readChain v 32 [] with
      | .wait => s
      | .bad idx tag => (s.setEp e { x with cons := idx, state := .error, latched := idx }).ringStop e tag .malformed 0
      | .unreadable idx => (s.setEp e { x with cons := idx, state := .halted, latched := idx }).ringStop e 0xFFFF .mediaError 3
      | .chain tds =>
        (s.setEp e { x with chain := some { first := x.cons, tds := tds, gen := (s.slice h sl).gen }
                            seqnum := if x.typ = 0 then 0 else x.seqnum }).takeSlot h sl x.cq
  | _, _ => s

/-- Table 6-9: the chains that a disabled endpoint left in its ring complete in order as they are read; then the context is free, or with `endKeep` stays STOPPED. -/
def Ep.ended (x : Ep) : Ep := if x.endKeep then { x with ending := none, endKeep := false, state := if x.num = 0 then .idle else .stopped } else {}

/-- One endpoint's chains, as they are read. DEDUCED, log entry 125. -/
def State.drainEnding (s : State) (v : HostView) (e : Nat) : Nat → State
  | 0 => s
  | n + 1 =>
    let x := s.ep e
    match x.ending, x.owner with
    | some (st, gen), some (h, sl) =>
      let post (tag : BitVec 16) (irq : Bool) (idx : Nat) (s : State) : State :=
        s.tickFree.enginePush h sl x.cq { tag := tag, status := st, gen := gen, kind := 1, irq := irq, result := usbResult e idx 0 0 false s.noCycle } false
      match x.readChain v 32 [] with
      | .chain tds =>
        let last := (x.cons + tds.length + x.span - 1) % x.span
        let td := tds.getLastD {}
        let s := post td.tag td.irq last s
        let y := { x with cons := (last + 1) % x.span }
        if y.used = 0 then s.setEp e y.ended else (s.setEp e y).drainEnding v e n
      | .bad idx tag => (post tag false idx s).setEp e x.ended
      | .unreadable idx => (post 0xFFFF false idx s).setEp e x.ended
      | .wait => s.setEp e x.ended
    | _, _ => s

/-- Every endpoint that is ending. -/
def State.drainAll (s : State) (v : HostView) : State :=
  ((s.xfer.eps.filter fun e => e.2.ending.isSome).map Prod.fst).foldl (fun s e => s.drainEnding v e 32768) s

/-! ## Transactions (R153, R155, R163, R165, R169, R173) -/

/-- A SuperSpeed device, or a device function at SuperSpeed. -/
def State.isSs (s : State) (x : Ep) : Bool :=
  decide (3 ≤ if x.ofDevice then (s.fn (x.slot % 2)).speed else (s.dslot x.slot).speed)

/-- R154: a native endpoint behind a transaction translator. -/
def State.isSplit (s : State) (x : Ep) : Bool :=
  let d := s.dslot x.slot
  decide (d.root < 12) && (decide (d.speed = 1) || decide (d.speed = 2)) && decide (d.hubSlot ≠ 0)

/-- R155: most bytes of one transaction: a packet, or a SuperSpeed burst. -/
def State.unitBytes (s : State) (x : Ep) : Nat :=
  if !s.isSs x then x.mps
  else if x.typ = 1 then x.mps * (x.burst + 1) * (x.mult + 1)
  else if x.typ = 0 then x.mps
  else x.mps * max 1 (min (x.burst + 1) (x.bufSize * 1024 / max x.mps 1))

/-- R163: the status stage is IN unless there was an IN data stage. -/
def Chain.statusIn (c : Chain) : Bool := !c.tds.any fun t => decide (t.typ = 2)

/-- The next transaction of a chain: XTYPE (0 SETUP, 1 OUT, 2 IN) and its bytes. -/
def Ep.nextXact (x : Ep) (c : Chain) (unit : Nat) : Nat × Nat :=
  let td := c.tds.getD c.cur {}
  let n := min unit (td.len - c.off)
  match td.typ with
  | 1 => (0, 8)
  | 2 => (2, n)
  | 3 => (1, n)
  | 4 => (if c.statusIn then 2 else 1, 0)
  | _ => (if x.dirIn then 2 else 1, n)

/-- R153: a SET_ADDRESS that completed sets the slot's ADDR. -/
def State.noteAddress (s : State) (x : Ep) (c : Chain) : State :=
  let a := (c.tds.getD 0 {}).addr.toNat
  if x.typ = 0 && x.num = 0 && x.slot < 1024 && a % 65536 = 0x0500 then
    s.setDslot x.slot { s.dslot x.slot with addr := a / 65536 % 128 }
  else s

/-- R165: the chain has run to its end, or to a short packet. -/
def State.chainOk (s : State) (e : Nat) (short : Bool) : State :=
  let x := s.ep e
  let s := match x.chain with
    | some c => s.noteAddress x c
    | none => s
  (s.endChain e .ok 0 short).modEp e fun x => { x with state := x.restState, errors := 0 }

/-- The TD in progress is done: the next one, or the end of the chain. A control endpoint's sequence number starts again with each stage (R171). -/
def State.nextTd (s : State) (e : Nat) (cur : Nat) (short : Bool) : State :=
  let x := s.ep e
  match x.chain with
  | some c =>
    if cur < c.tds.length then
      let stage := decide ((c.tds.getD cur {}).typ ≠ (c.tds.getD c.cur {}).typ)
      s.setEp e { x with chain := some { c with cur := cur, off := 0, zlpDone := false, short := c.short || short }
                         seqnum := if x.typ = 0 && stage then 0 else x.seqnum }
    else s.chainOk e (c.short || short)
  | none => s

/-- R165: `n` bytes have gone out, acknowledged. -/
def State.movedOut (s : State) (e n : Nat) (cycle : BitVec 32) : State :=
  let x := s.ep e
  match x.chain with
  | none => s
  | some c =>
    let td := c.tds.getD c.cur {}
    let setup := decide (td.typ = 1)
    let off := if setup then 8 else c.off + n
    let c := { c with off := off, bytes := if setup then c.bytes else c.bytes + n, cycle := some cycle
                      zlpDone := c.zlpDone || (decide (n = 0) && decide (0 < td.len)) }
    let seq := (x.seqnum + max 1 ((n + max x.mps 1 - 1) / max x.mps 1)) % 32
    let s := s.setEp e { x with chain := some c, errors := 0, seqnum := seq, left := x.left - n
                                toggle := if setup then true else if x.typ = 1 || td.typ = 4 then x.toggle else !x.toggle }
    let owed := td.zlp && decide (0 < td.len) && decide (td.len % max x.mps 1 = 0) && !c.zlpDone
    if td.len ≤ off && !owed then s.nextTd e (c.cur + 1) false else s

/-- R405: the data of a packet passes through the endpoint's carve of the endpoint buffer, if it has one; tells whether it comes out uncorrectable. -/
def State.epBuffer (s : State) (x : Ep) (data : List Byte) : State × Bool :=
  if x.bufSize = 0 then (s, false)
  else s.throughBuffer 1 (x.bufBase * 1024) data fun a b s => s.modMem fun m => { m with epBuf := Tab.write 0 a b m.epBuf }

/-- Table 6-7, R405: the chain of an endpoint ends POISONED. -/
def State.poisonEnd (s : State) (e : Nat) : State :=
  (s.endChain e .poisoned 0 false).modEp e fun x => { x with state := x.restState }

/-- R165, R167, R169, Table 6-7: a packet or burst has come in; `asked` is the most that was accepted. A packet shorter than MPS ends an IN chain. An isochronous TD takes further full packets of its visit while `more` can come. -/
def State.movedIn (s : State) (e asked dpid : Nat) (data : List Byte) (cycle : BitVec 32) (more : Bool) : State :=
  let x := s.ep e
  match x.chain, x.owner with
  | some c, some (h, sl) =>
    let td := c.tds.getD c.cur {}
    let status := decide (td.typ = 4)
    let n := data.length
    if x.typ ≠ 1 && !s.isSs x && (dpid % 2 = 1) != (if status then true else x.toggle) then s.modEp e fun x => { x with errors := 0 }
    else if x.typ ≠ 1 && asked < n then s.stopEp e .mediaError 2 .halted
    else
      let put := data.take (td.len - c.off)
      let addr := td.addr + BitVec.ofNat 64 c.off
      let (s, bad) := s.epBuffer x put
      if bad then s.poisonEnd e
      else if !put.isEmpty && !s.addrOk addr then s.stopEp e .mediaError 3 .halted
      else
        let s := if put.isEmpty then s else s.hostWrite h sl addr put
        let c := { c with off := c.off + put.length, bytes := c.bytes + put.length, cycle := some cycle }
        let seq := (x.seqnum + max 1 ((n + max x.mps 1 - 1) / max x.mps 1)) % 32
        let s := s.setEp e { x with chain := some c, errors := 0, seqnum := seq, left := x.left - n
                                    toggle := if x.typ = 1 || status then x.toggle else !x.toggle }
        let short := decide (n = 0) || decide (n % max x.mps 1 ≠ 0)
        if x.typ = 1 then
          if td.len < c.off - put.length + n then
            (s.endChain e .mediaError 5 false).modEp e fun x => { x with state := x.restState }
          else if !short && decide (asked ≤ n) && decide (c.off < td.len) && more && decide (n < x.left) then s
          else s.chainOk e short
        else if status then s.nextTd e (c.cur + 1) false
        else if short then (if x.typ = 0 then s.nextTd e (c.tds.length - 1) true else s.chainOk e true)
        else if td.len ≤ c.off then s.nextTd e (c.cur + 1) false
        else s
  | _, _ => s

/-- Table 6-7: a third split error in a row halts the endpoint. -/
def State.splitError (s : State) (e : Nat) : State :=
  let x := s.ep e
  let s := s.modXfer fun y => { y with splits := y.splits.filter (·.1 ≠ e) }
  if 2 ≤ x.splitErrs then s.stopEp e .mediaError 6 .halted
  else s.setEp e { x with splitErrs := x.splitErrs + 1, busy := false, left := 0 }

/-- R165, R167, Table 4-3, Table 6-7: a transaction of an endpoint ends with a RESULT; the endpoint stays busy while another of its visit is outstanding. RESULT is 0 ACK, 1 NAK (or NRDY), 2 STALL, 3 NYET, 4 DATA, 5 no response or an error, 6 BABBLE, 7 NOT_RUN, 8 split error. DEDUCED, log entry 124. -/
def State.xactEnd (s : State) (e res asked dpid : Nat) (data : List Byte) (poison : Bool) (cycle : BitVec 32) : State :=
  let rest := (s.root ((s.epRoot (s.ep e)).getD 24)).outst.any fun q => decide (q.ep = some e)
  let native := decide ((s.epRoot (s.ep e)).getD 24 < 12) || s.isSs (s.ep e)
  let s := s.modEp e fun x => { x with busy := rest, chain := x.chain.map fun c => { c with cycle := some cycle } }
  if (s.ep e).chain.isNone then s
  else if poison then s.poisonEnd e
  else match res with
    | 0 => s.movedOut e asked cycle
    | 3 => s.movedOut e asked cycle
    | 1 => s.modEp e fun x => { x with errors := 0, left := 0, nrdy := s.isSs x && decide (x.typ ≠ 1) }
    | 2 => s.stopEp e .mediaError 1 .halted
    | 4 => s.movedIn e asked dpid data cycle (rest || native)
    | 6 => s.stopEp e .mediaError 2 .halted
    | 7 => if (s.ep e).typ = 1 then (s.endChain e .mediaError 4 false).modEp e fun x => { x with state := x.restState }
           else s.modEp e fun x => { x with left := 0 }
    | 8 => s.splitError e
    | _ => s.usbError e

/-! ## Requests to a terminal (R87, R168) -/

/-- R87, Table 4-3: the header and data of a USB2 request. -/
def usb2Request (xid : BitVec 16) (mframe addr : Nat) (dirIn : Bool) (ep xtype speed dpid dlen tport : Nat) (data : List Byte) : List Byte :=
  recordBytes 0 (toLe 2 xid.toNat ++ toLe 1 mframe ++ toLe 1 (addr % 128 + 128 * flag dirIn) ++ toLe 1 (ep % 16 + 16 * xtype)
    ++ toLe 1 (speed + 4 * dpid) ++ toLe 2 (dlen + 2048 * tport) ++ data)

/-- R85: records packed with no gap into flit payloads; `starts` are the offsets at which records begin. -/
def packRecords (bytes : List Byte) (starts : List Nat) : Nat → Nat → List (List Byte)
  | 0, _ => []
  | n + 1, off =>
    if bytes.length ≤ off then []
    else
      let here := bytes.length - off
      let first := (starts.find? fun x => decide (off ≤ x)).getD bytes.length
      padTo 120 (toLe 4 (min 116 (min here (first - off))) ++ (bytes.drop off).take 116) :: packRecords bytes starts n (off + 116)

/-- Offsets at which the records of a list begin when joined. -/
def recordStarts : Nat → List (List Byte) → List Nat
  | _, [] => []
  | off, r :: rs => off :: recordStarts (off + r.length) rs

/-- The records formed in one pass go to a tunnel, BL on the last cell. -/
def State.sendRecords (s : State) (tid : Option Nat) (rs : List (List Byte)) : State :=
  match tid with
  | none => s
  | some tid =>
    let bytes := rs.flatten
    let flits := packRecords bytes (recordStarts 0 rs) (bytes.length / 116 + 1) 0
    (List.range flits.length).foldl (fun s i => s.clientCell tid (decide (i + 1 = flits.length)) false (flits.getD i [])) s

/-- The work of one pass over a root: the state, the records for the periodic and the asynchronous tunnel, the crossing credit left, and whether a visit had work. -/
structure Pass where
  s : State
  per : List (List Byte) := []
  asy : List (List Byte) := []
  credit : Nat := 0
  worked : Bool := false

/-- R168: the next XID, never 0xFFFF. -/
def Root.takeXid (x : Root) : Root × BitVec 16 := ({ x with xid := if x.xid = 0xFFFE then 0 else x.xid + 1 }, x.xid)

/-- R169, USB 2.0: the DPID of packet `k` of an isochronous visit, of which `rest` more follow: IN counts down to DATA0, OUT sends MDATA before its last. PRESUMED, log entry 158. -/
def isoDpid (dirIn : Bool) (k rest : Nat) : Nat := if dirIn then rest else if rest = 0 then k else 3

/-- R167, R168: a request of the endpoint's next transaction is formed for a tunnelled root, if the limits allow; `done` bytes of the TD are in requests of this visit already, `k` of them, and `rest` follow. -/
def Pass.request (a : Pass) (r e mframe done k rest : Nat) (v : HostView) : Pass :=
  let s := a.s
  let x := s.ep e
  match x.chain with
  | none => a
  | some c =>
    let d := s.dslot x.slot
    let (xt, n) := x.nextXact { c with off := c.off + done } x.mps
    let td := c.tds.getD c.cur {}
    let addr := td.addr + BitVec.ofNat 64 (c.off + done)
    let data := if xt = 0 then some (toLe 8 td.addr.toNat) else if xt = 1 then v.read addr n else some []
    let flits := (12 + n + 3 + 115) / 116 + 1
    if x.left < done + n || 64 ≤ (s.root r).outst.length || a.credit < flits then a
    else match data with
      | none => { a with s := s.stopEp e .mediaError 3 .halted, worked := true }
      | some data =>
        let (s, bad) := s.epBuffer x (if xt = 1 then data else [])
        if bad then { a with s := s.poisonEnd e, worked := true } else
        let (y, xid) := (s.root r).takeXid
        let dpid := if xt = 0 then 0 else if td.typ = 4 then 1 else if x.typ = 1 then isoDpid x.dirIn k rest else flag x.toggle
        let rec' := usb2Request xid (mframe % 256) d.addr (decide (xt = 2)) x.num xt d.speed dpid n d.tport data
        let s := s.setRoot r { y with outst := y.outst ++ [{ xid := xid, ep := some e, cycle := mframe, len := n }] }
        let s := s.modEp e fun x => { x with busy := true }
        let per := (x.typ = 1 || x.typ = 3) && (s.usbTunnel r true).isSome
        { a with s := s, per := if per then a.per ++ [rec'] else a.per, asy := if per then a.asy else a.asy ++ [rec']
                 credit := a.credit - flits, worked := true }

/-- R167, R169: the requests of one visit: one, or for a high-bandwidth isochronous TD up to MULT + 1. -/
def Pass.requests (a : Pass) (r e mframe : Nat) (v : HostView) : Pass :=
  let x := a.s.ep e
  match x.chain with
  | none => a
  | some c =>
    let len := min ((c.tds.getD c.cur {}).len - c.off) x.left
    let n := if x.typ = 1 then max 1 (min (x.mult + 1) ((len + max x.mps 1 - 1) / max x.mps 1)) else 1
    (List.range n).foldl (fun a k => a.request r e mframe (k * x.mps) k (n - 1 - k) v) a

/-- R170: no split state is free for an endpoint at a visit: an isochronous TD completes MISSED, another transfer waits, and halts after 8 cycles. -/
def State.splitWait (s : State) (e cycle : Nat) : State :=
  let x := s.ep e
  if x.typ = 1 then (s.endChain e .mediaError 4 false).modEp e fun x => { x with state := x.restState }
  else match x.noSplit with
    | none => s.setEp e { x with noSplit := some cycle }
    | some n => if n + 8 ≤ cycle then s.stopEp e .mediaError 6 .halted else s

/-- R154, R167, R170: the endpoint's next transaction starts on a native root. -/
def State.startNative (s : State) (e cycle : Nat) (v : HostView) : State :=
  let x := s.ep e
  match x.chain with
  | none => s
  | some c =>
    let (xt, n) := x.nextXact c (s.unitBytes x)
    let td := c.tds.getD c.cur {}
    let data := if xt = 1 then v.read (td.addr + BitVec.ofNat 64 c.off) n else some []
    if x.left < n then s
    else if data.isNone then s.stopEp e .mediaError 3 .halted
    else
    let (s, bad) := s.epBuffer x (data.getD [])
    if bad then s.poisonEnd e
    else if s.isSplit x then
      if s.xfer.splits.length < 256 then
        (s.setEp e { x with busy := true, noSplit := none }).modXfer fun y => { y with splits := y.splits ++ [(e, cycle)] }
      else s.splitWait e cycle
    else s.setEp e { x with busy := true }

/-! ## SuperSpeed packets of a tunnelled root (R86, R97, R171) -/

/-- The USB3 tunnel that an endpoint's packets use. -/
def State.ssTunnel (s : State) (r : Nat) (x : Ep) : Option Nat :=
  match (if x.typ = 1 || x.typ = 3 then s.usbTunnelOf r 3 true else none) with
  | some t => some t
  | none => s.usbTunnelOf r 3 false

/-- Packets of the USB3 class take crossing credit; without enough of it they are not sent. -/
def State.sendSs (s : State) (tid : Nat) (ps : List SsPacket) : Option State :=
  let rs := ps.map fun p => recordBytes 0 p.bytes
  let n := (rs.map List.length).sum / 116 + 1
  if Tab.get 0 s.marl.crossing (agentXfer * 8 + 3) < n then none else some (s.sendRecords (some tid) rs)

/-- R171: the data packets of an OUT transaction, in packets of at most MPS. -/
def ssData (base : SsPacket) (mps : Nat) : Nat → Nat → List Byte → List SsPacket
  | 0, _, _ => []
  | n + 1, seq, d =>
    let p := { base with seq := seq % 32, data := d.take mps }
    if d.length ≤ mps then [{ p with last := true }] else p :: ssData base mps n (seq + 1) (d.drop mps)

/-- R155, R171: the packets that begin the endpoint's next transaction: the setup, data up to the effective burst, an ACK that grants it, or STATUS. -/
def State.ssOpening (s : State) (x : Ep) (c : Chain) (xt n : Nat) (data : List Byte) : List SsPacket :=
  let d := s.dslot x.slot
  let td := c.tds.getD c.cur {}
  let base : SsPacket := { route := d.route.toNat, addr := d.addr, ep := x.num }
  if xt = 0 then [{ base with setup := true, data := toLe 8 td.addr.toNat }]
  else if td.typ = 4 then [{ base with tp := true, sub := 4, dirIn := decide (xt = 2) }]
  else if xt = 2 then
    [{ base with tp := true, sub := 1, dirIn := true, numP := max 1 ((n + max x.mps 1 - 1) / max x.mps 1), seq := x.seqnum }]
  else ssData base x.mps 64 x.seqnum data

/-- R167, R171: the endpoint's next transaction starts on the SuperSpeed side of a tunnelled root, if its packets can be sent. An isochronous OUT ends with its sending. -/
def State.startSs (s : State) (r e : Nat) (v : HostView) : State :=
  let x := s.ep e
  match x.chain, s.ssTunnel r x with
  | some c, some tid =>
    let (xt, n) := x.nextXact c (s.unitBytes x)
    let td := c.tds.getD c.cur {}
    let data := if xt = 1 then v.read (td.addr + BitVec.ofNat 64 c.off) n else some []
    if x.left < n then s
    else if data.isNone then s.stopEp e .mediaError 3 .halted
    else
      let (s, bad) := s.epBuffer x (data.getD [])
      if bad then s.poisonEnd e
      else match s.sendSs tid (s.ssOpening x c xt n (data.getD [])) with
        | none => s
        | some s =>
          if x.typ = 1 && xt = 1 then s.xactEnd e 0 n 0 [] false (BitVec.ofNat 32 s.cycle)
          else s.modEp e fun x => { x with busy := true, ssLeft := n }
  | _, _ => s

/-- The endpoint of a root that an inbound packet concerns. -/
def State.ssEp (s : State) (r : Nat) (p : SsPacket) : Option Nat :=
  (s.rootEps r).find? fun e =>
    let x := s.ep e
    decide ((s.dslot x.slot).addr = p.addr) && decide (x.num = p.ep) && s.isSs x && (decide (p.ep = 0) || (x.dirIn == p.dirIn))

/-- R171: more of the burst in progress is to come: the transaction stays outstanding for `left` bytes. -/
def State.ssGoOn (s : State) (e left cur : Nat) : State :=
  let x := s.ep e
  if 0 < left && (x.chain.any fun c => decide (c.cur = cur)) && x.state = .active then s.setEp e { x with busy := true, ssLeft := left } else s

/-- R171: a data packet of the burst that an ACK has granted: it is moved, acknowledged, and the rest of the burst awaited; one out of sequence is asked for again. -/
def State.ssDataIn (s : State) (r e : Nat) (p : SsPacket) : State :=
  let x := s.ep e
  let cur := (x.chain.map (·.cur)).getD 0
  let d := s.dslot x.slot
  let tell (s : State) (seq left : Nat) (rty : Bool) : State :=
    match s.ssTunnel r x with
    | some tid => (s.sendSs tid [{ tp := true, route := d.route.toNat, addr := d.addr, sub := 1, rty := rty, dirIn := true, ep := x.num
                                   numP := (left + max x.mps 1 - 1) / max x.mps 1, seq := seq % 32 }]).getD s
    | none => s
  if x.typ ≠ 1 && p.seq ≠ x.seqnum then tell s x.seqnum x.ssLeft true
  else
    let left := if p.last || p.data.length < x.mps then 0 else x.ssLeft - p.data.length
    let s := (s.xactEnd e 4 (min x.mps x.ssLeft) 0 p.data false (BitVec.ofNat 32 s.cycle)).ssGoOn e left cur
    if x.typ = 1 then s else tell s (p.seq + 1) (if (s.ep e).busy then left else 0) false

/-- R171: an ACK of packets sent: those before its sequence number have been taken. -/
def State.ssAcked (s : State) (e : Nat) (p : SsPacket) : State :=
  let x := s.ep e
  let cur := (x.chain.map (·.cur)).getD 0
  let k := (p.seq + 32 - x.seqnum) % 32
  let n := min (k * x.mps) x.ssLeft
  let status := x.chain.any fun c => decide ((c.tds.getD c.cur {}).typ = 4)
  if k = 0 && !status then s.modEp e fun x => { x with busy := false, left := 0 }
  else (s.xactEnd e 0 n 0 [] false (BitVec.ofNat 32 s.cycle)).ssGoOn e (if p.rty then 0 else x.ssLeft - n) cur

/-- R86, R97, R171, R173: a packet of a USB3 tunnel: ERDY wakes its endpoint; data, ACK, NRDY and STALL end or carry on the transaction outstanding; a poisoned one ends its chain POISONED, and a data packet that is not good is a transaction error. -/
def State.ssPacket (s : State) (r : Nat) (rec' : Record) : State :=
  if rec'.err || rec'.kind ≠ 0 then s
  else match parseSs rec'.body with
    | none => s
    | some (p, good) =>
      match s.ssEp r p with
      | none => s
      | some e =>
        if p.tp && p.sub = 3 then (s.modEp e fun x => { x with nrdy := false }).modRoot r fun x => { x with asyncSleep := false }
        else if !(s.ep e).busy then s
        else if rec'.poison then s.xactEnd e 4 0 0 [] true (BitVec.ofNat 32 s.cycle)
        else if p.tp then match p.sub with
          | 1 => s.ssAcked e p
          | 2 => s.xactEnd e 1 0 0 [] false (BitVec.ofNat 32 s.cycle)
          | 5 => s.xactEnd e 2 0 0 [] false (BitVec.ofNat 32 s.cycle)
          | _ => s
        else if good then s.ssDataIn r e p
        else s.xactEnd e 5 0 0 [] false (BitVec.ofNat 32 s.cycle)

/-- R86: the engine takes the USB3 cells of XFER's staging buffer, oldest first, and the packets that end in them. -/
def State.usb3Cells (s : State) : State :=
  let l := Tab.get [] s.marl.staging agentXfer
  let s := s.modMarl fun m => { m with staging := Tab.set [] agentXfer (l.filter fun c => decide (c.cls ≠ 3)) m.staging }
  (l.filter fun c => decide (c.cls = 3)).foldl (fun s c => s.takeCell c fun s r => s.ssPacket ((s.tunnel c.flow).port + 12) r) s

/-- CELL_EGRESS_SELECT (R131, R137, R142 to R144, R202): a client egress, a DisplayPort port only while HPD is high, takes its next cell, and XFER's engine the USB3 packets that end in it; a Jayth egress forms its next burst. -/
def execCellEgressSelect (agent : BitVec 8) (linkUe : Bool) (s : State) : Result :=
  let a := agent.toNat
  if !s.agentPowered a then .next s
  else if 0x10 ≤ a && a ≤ 0x1B then
    let p := a - 0x10
    if linkUe then
      match (List.range 9).findSome? fun q => ((s.servable a q).head?).map fun f => (q, f) with
      | some (q, f) => .next (s.loseFlow a q f).flushWrites
      | none => .next s
    else if (s.port p).pd.dp.entered then .next (if (s.port p).pd.dp.hpd then (s.selectCell a false).flushWrites else s)
    else if s.linkUp p && (s.port p).tx.burstCells.isEmpty then .next (s.stageBurst p) else .next s
  else if stagingSize a ≤ (Tab.get [] s.marl.staging a).length then .next s
  else .next ((s.selectCell a linkUe).flushWrites.usb3Cells)

/-! ## The walk of a schedule (R157 to R160, R169) -/

/-- R169: the isochronous TDs at the head of a ring whose cycle has passed complete MISSED; tells whether one is due now. -/
def State.isoReady (s : State) (v : HostView) (e cycle : Nat) : Nat → State × Bool
  | 0 => (s, false)
  | n + 1 =>
    let s := s.startChain v e
    match (s.ep e).chain with
    | none => (s, false)
    | some c =>
      let td := c.tds.getD 0 {}
      let d := (td.cycle - BitVec.ofNat 32 cycle).toNat
      if td.asap || d = 0 then (s, true)
      else if 2 ^ 31 ≤ d then
        ((s.endChain e .mediaError 4 false).modEp e fun x => { x with state := x.restState }).isoReady v e cycle n
      else (s, false)

/-- R158: an EPD that must be skipped and counted. -/
def State.epdBad (s : State) (r : Nat) (d : Epd) : Bool :=
  let x := s.ep d.handle
  d.resv || decide (x.owner ≠ (s.root r).owner) || decide (s.epRoot x ≠ some r)
    || (d.async != (decide (x.typ = 0) || decide (x.typ = 2))) || (decide (d.cmask ≠ 0) && !s.isSplit x)

/-- R157, R160, R167: one visit of an EPD; on a tunnelled root `usb3` tells which side is formed. An endpoint with TDs had work. DEDUCED, log entry 123. -/
def Pass.visit (a : Pass) (r cycle mframe : Nat) (usb3 : Bool) (v : HostView) (d : Epd) : Pass :=
  let s := a.s
  let e := d.handle
  let x := s.ep e
  let side := !tunnelled r || (s.isSs x == usb3)
  if s.epdBad r d then
    if tunnelled r && usb3 then a
    else { a with s := (s.modRoot r fun y => { y with schedErr := y.schedErr + 1 }).schedErr r cycle 0 }
  else if d.skip || x.state ≠ .active then a
  else
    let a := { a with worked := a.worked || x.chain.isSome || decide (x.used ≠ 0) }
    if !side || x.busy || x.nrdy then a else
    let budget := if d.budget = 0 then x.mps * (x.burst + 1) * (x.mult + 1) else d.budget
    let s := s.setEp e { x with left := budget, cmask := d.cmask, idleOk := d.idleOk, seqnum := if x.typ = 1 then 0 else x.seqnum }
    let (s, go) := if x.typ = 1 then s.isoReady v e cycle 64 else (s.startChain v e, true)
    if !go || (s.ep e).chain.isNone then { a with s := s }
    else if !tunnelled r then { a with s := s.startNative e cycle v }
    else if usb3 then { a with s := s.startSs r e v }
    else { a with s := s }.requests r e mframe v

/-- R158, R160: the EPDs of a circular list from `p` round to `start`, and whether one could not be read. -/
def asyncWalk (v : HostView) (start : BitVec 64) : Nat → BitVec 64 → List Epd × Bool
  | 0, _ => ([], false)
  | n + 1, p =>
    if p.getLsbD 0 then ([], false)
    else match v.read (p &&& ~~~63) 64 with
      | none => ([], true)
      | some b =>
        let e := parseEpd b
        if (e.next &&& ~~~63) = (start &&& ~~~63) then ([e], false)
        else
          let r := asyncWalk v start n e.next
          (e :: r.1, r.2)

/-- R160: one pass of the asynchronous list, from the EPD after the one visited last. -/
def State.asyncEpds (s : State) (v : HostView) (r : Nat) : List Epd × Bool :=
  let x := s.root r
  let start := if x.asyncNext.getLsbD 0 then x.asyncBase else x.asyncNext
  if x.asyncBase.getLsbD 0 then ([], false) else asyncWalk v start 4096 start

/-- R180: a ring with work, other than that of a periodic IN endpoint with IDLE_OK. -/
def State.rootHasWork (s : State) (r : Nat) : Bool :=
  (s.rootEps r).any fun e =>
    let x := s.ep e
    (decide (x.used ≠ 0) || x.chain.isSome) && !(x.idleOk && x.dirIn && (x.typ = 1 || x.typ = 3))

/-- R180: an ENABLED root with AUTO_SUSPEND and no work begins to suspend. -/
def State.autoSuspend (s : State) (r : Nat) : State :=
  let x := s.root r
  if x.state = .enabled && x.autoSuspend && !s.rootHasWork r then
    s.setRoot r { x with state := .suspending, due := some (s.after 3000000) }
  else s

/-- USB_PREFETCH (R156, R159, R166): from 25 µs before the forming time: the cycle's entry and its EPDs, at most 256. DEDUCED, log entry 123. -/
def execUsbPrefetch (root : Fin 24) (view : HostView) (s : State) : Result :=
  let r := root.val
  let s := s.drainAll view
  let x := s.root r
  let t := s.now.toNat + s.leadNs r false
  let n := (t + 25000) / 125000
  if !s.rootRuns r || n * 125000 ≤ t || (x.prefetch.map (·.1)) = some n then .next s
  else
    let (l, how) := match view.read (x.perBase + BitVec.ofNat 64 (8 * (n % 8192))) 8 with
      | none => ([], 1)
      | some b => walkChain view 256 (BitVec.ofNat 64 (le b 0 8))
    .next (s.setRoot r { x with prefetch := some (n, l, how) })

/-- The periodic work of a cycle that has been prefetched. -/
def Pass.periodic (a : Pass) (r cycle : Nat) (usb3 : Bool) (v : HostView) : Pass :=
  match (a.s.root r).prefetch with
  | some (n, l, how) =>
    if n ≠ cycle then a
    else
      let a := l.foldl (fun a d => a.visit r cycle cycle usb3 v d) a
      if how = 0 || (tunnelled r && usb3) then a else { a with s := a.s.schedErr r cycle how }
  | none => a

/-- R179: while a tunnelled root is held, the isochronous TDs due in a cycle complete MISSED. -/
def State.heldIso (s : State) (r cycle : Nat) (v : HostView) : State :=
  ((s.rootEps r).filter fun e => decide ((s.ep e).typ = 1)).foldl (fun s e => (s.isoReady v e (cycle + 1) 64).1) s

/-- USB_FORMING_TIME (R160, R166 to R169, R179): the periodic work of the cycle, then a pass of the asynchronous list; run again within the cycle it makes a further asynchronous pass, unless the walk sleeps. DESIGN CHOICE, log entry 122; DEDUCED, log entry 123. -/
def execUsbFormingTime (root : Fin 24) (usb3 : Bool) (view : HostView) (s : State) : Result :=
  let r := root.val
  let s := s.drainAll view
  let x := s.root r
  let n := (s.now.toNat + s.leadNs r usb3) / 125000
  let fresh := decide ((if usb3 then x.formed3 else x.formed2) ≠ some n)
  if x.held && s.rootBound r then .next (s.heldIso r n view)
  else if !s.rootRuns r || (x.asyncSleep && !fresh) then .next s
  else
    let s := s.setRoot r (if usb3 then { x with formed3 := some n, asyncSleep := false } else { x with formed2 := some n, asyncSleep := false })
    let a : Pass := { s := s, credit := Tab.get 0 s.marl.crossing (5 * 8 + 2) }
    let a := if fresh then a.periodic r n usb3 view else a
    let (l, cut) := a.s.asyncEpds view r
    let a := l.foldl (fun a d => a.visit r n (if fresh then n else n + 1) usb3 view d) { a with worked := false }
    let s := if cut then a.s.schedErr r n 1 else a.s
    let s := s.modRoot r fun x =>
      { x with asyncSleep := !a.worked, asyncNext := match l.getLast? with
          | some d => d.next
          | none => x.asyncBase }
    let s := (s.sendRecords (s.usbTunnel r true) a.per).sendRecords (s.usbTunnel r false) a.asy
    .next (s.autoSuspend r)

/-! ## Results -/

/-- The low 32 bits of the present cycle. -/
def State.cycle32 (s : State) : BitVec 32 := BitVec.ofNat 32 s.cycle

/-- R168: the next cycle whose forming time for the USB2 traffic of a root has not passed. -/
def State.nextFormed (s : State) (r : Nat) : Nat := (s.now.toNat + s.leadNs r false) / 125000 + 1

/-- R22, R168, R177: the PING that resumes a tunnelled root goes with a crossing credit of XFER, and is held until there is one; 30 ms run from it. -/
def State.sendPing (s : State) (r : Nat) : State :=
  if Tab.get 0 s.marl.crossing (agentXfer * 8 + 2) = 0 then s.modRoot r fun x => { x with pingHeld := true }
  else
    let hub := (s.xfer.slots.find? fun e => decide (e.2.root = r) && decide (e.2.route = 0)).map fun e => e.2.addr
    let n := s.nextFormed r
    let due := s.after 30000000
    let (y, xid) := (s.root r).takeXid
    let s := s.setRoot r { y with pingHeld := false, due := some due, outst := y.outst ++ [{ xid := xid, ep := none, cycle := n, len := 0 }] }
    s.sendRecords (s.usbTunnel r false) [usb2Request xid (n % 256) (hub.getD 1) false 0 3 0 0 0 0 []]

/-- A crossing credit has come to XFER: the first PING that waits goes. -/
def State.heldPing (s : State) : State :=
  match (List.range 24).find? fun r => (s.root r).pingHeld && decide ((s.root r).state = .resuming) with
  | some r => s.sendPing r
  | none => s

/-- R180, R181: work or a RESUME brings a suspended root back. -/
def State.beginResume (s : State) (r : Nat) (wake : Bool) : State :=
  let due := if tunnelled r then none else some (s.after 30000000)
  let s := s.modRoot r fun x => { x with state := .resuming, wakeFrom := wake, pingWait := tunnelled r, due := due }
  if tunnelled r then s.sendPing r else s

/-- LOSSLESS_CREDIT_GRANT (R23, R133, R134): space is set aside for one cell of a class that a lossless client may then offer; without space the grant waits, and none is made while Marl is off. A cell that waited for it goes. DISP, NET and Marl have no crossing credit; a Jayth port's grants are the tunnel credits of CREDIT_RETURN. -/
def execLosslessCreditGrant (agent : BitVec 8) (cls : Fin 8) (s : State) : Result :=
  let a := agent.toNat
  .next (
    if [0, 1, 3, 4, 5].contains a && !s.domainOff 1 then
      match s.takeSpace cls.val with
      | some s' =>
        let s := s'.modMarl fun m => { m with crossing := Tab.mod 0 (a * 8 + cls.val) (· + 1) m.crossing }
        if a = agentCtrl then s.mgmtGoesOn else if a = agentXfer then s.heldPing else s
      | none => s
    else s)

/-- R178, R180, R181: a remote wake of a root. -/
def State.remoteWake (s : State) (r tport : Nat) : State :=
  match (s.root r).state with
  | .suspended => (s.rootNotice r 0x15 tport).beginResume r true
  | .resetting => s.modRoot r fun x => { x with wakeLost := true }
  | _ => if tunnelled r then s.rootNotice r 0x15 tport else s

/-- R168: the result record's length agrees with its DLEN. -/
def resultOk (b : List Byte) : Bool :=
  let dlen := bits (le b 6 2) 10 0
  decide (8 ≤ b.length) && decide (dlen ≤ 1024)
    && decide (b.length - 8 = (if bitOf (byteAt b 3) 7 then dlen else 0)) && !bitOf (byteAt b 4) 7 && !bitOf (byteAt b 5) 7

/-- R87, R168, R173, R178: one result record of a tunnelled root. -/
def State.usb2Result (s : State) (r : Nat) (rec' : Record) : State :=
  let b := rec'.body
  let xid := BitVec.ofNat 16 (le b 0 2)
  let res := bits (byteAt b 5) 6 4
  let tport := bits (le b 6 2) 14 11
  if rec'.err || rec'.kind ≠ 1 then s
  else if xid = 0xFFFF then
    if rec'.poison || res ≠ 0 then s else s.remoteWake r tport
  else match (s.root r).outst.find? fun q => decide (q.xid = xid) with
    | none => s
    | some q =>
      if !rec'.poison && !resultOk b then s
      else
        let s := s.modRoot r fun x => { x with outst := x.outst.filter (·.xid ≠ xid) }
        match q.ep with
        | none => s
        | some e => s.xactEnd e res q.len (bits (byteAt b 5) 3 2) (b.drop 8) rec'.poison (BitVec.ofNat 32 q.cycle)

/-- USB2_RESULT_RECEIVED (R85, R87, R168): the engine takes the oldest USB2 cell of XFER's staging buffer and the results that end in it. -/
def execUsb2ResultReceived (s : State) : Result :=
  let l := Tab.get [] s.marl.staging agentXfer
  match l.find? fun c => decide (c.cls = 2) with
  | none => .next s
  | some c =>
    let s := s.modMarl fun m => { m with staging := Tab.set [] agentXfer (eraseFirst (fun c => decide (c.cls = 2)) l) m.staging }
    .next (s.takeCell c fun s r => s.usb2Result ((s.tunnel c.flow).port + 12) r)

/-- USB2_RESULT_MISSING (R173): no result by the end of the cycle after MFRAME, plus the one-way cable delay and 10 µs. -/
def execUsb2ResultMissing (root : Fin 24) (xid : BitVec 16) (s : State) : Result :=
  let r := root.val
  match (s.root r).outst.find? fun q => decide (q.xid = xid) with
  | none => .next s
  | some q =>
    if s.now.toNat < (q.cycle + 2) * 125000 + (s.port (r - 12)).oneWay + 10000 then .next s
    else
      let s := s.modRoot r fun x => { x with outst := x.outst.filter (·.xid ≠ xid) }
      match q.ep with
      | some e => .next (s.usbError e)
      | none => .next s

/-- R167: a visit goes on with the endpoint's next transaction while its budget lasts; an isochronous one within its TD. -/
def State.goOn (s : State) (e : Nat) (v : HostView) : State :=
  if (s.ep e).busy || (s.ep e).left = 0 then s
  else
    let s := if (s.ep e).typ = 1 then s else s.startChain v e
    if (s.ep e).chain.isSome && (s.ep e).state = .active then s.startNative e s.cycle v else s

/-- NATIVE_TRANSACTION_END (R167, R170, R171, R173): a transaction of a native root ends with a result; a start-split that is acknowledged waits for its complete-split, and one that is not taken runs again. An ACK with no transaction outstanding is the ERDY of an endpoint that answered NRDY. On the SuperSpeed side of a tunnelled root only a missing answer ends a transaction here. DESIGN CHOICE, log entry 122. -/
def execNativeTransactionEnd (ep : Fin 4096) (res : Fin 9) (dpid : Fin 4) (data : List Byte) (view : HostView) (s : State) : Result :=
  let e := ep.val
  let x := s.ep e
  match x.chain with
  | none => .next s
  | some c =>
    let r := (s.epRoot x).getD 24
    if !x.busy then
      if res.val = 0 && x.nrdy then .next ((s.setEp e { x with nrdy := false }).modRoot r fun y => { y with asyncSleep := false }) else .next s
    else if tunnelled r then
      if res.val = 5 && s.isSs x then .next (s.xactEnd e 5 0 0 [] false s.cycle32) else .next s
    else
      let (xt, n) := x.nextXact c (s.unitBytes x)
      let waits := s.xfer.splits.any (·.1 = e) && !(x.typ = 1 && xt = 1)
      if waits && res.val = 0 then .next s
      else if waits && res.val = 1 then
        .next ((s.modXfer fun y => { y with splits := y.splits.filter (·.1 ≠ e) }).setEp e { x with busy := false, left := 0, errors := 0, splitErrs := 0 })
      else if waits then .next (s.splitError e)
      else
        let s := s.modXfer fun y => { y with splits := y.splits.filter (·.1 ≠ e) }
        .next ((s.xactEnd e res.val n dpid.val data false s.cycle32).goOn e view)

/-- COMPLETE_SPLIT_DUE (R170): a complete-split in a microframe that CMASK names, or at a later asynchronous visit, with its result: NYET waits for the next one, and after the last one is a split error. -/
def execCompleteSplitDue (ep : Fin 4096) (res : Fin 9) (dpid : Fin 4) (data : List Byte) (view : HostView) (s : State) : Result :=
  let e := ep.val
  let x := s.ep e
  match s.xfer.splits.find? (·.1 = e), x.chain with
  | some (_, start), some c =>
    let k := s.cycle - start
    let periodic := decide (x.typ = 1) || decide (x.typ = 3)
    if periodic && !(decide (k < 8) && bitOf x.cmask k) then .next s
    else if res.val = 3 then
      if periodic && x.cmask / 2 ^ (k + 1) = 0 then .next (s.splitError e) else .next s
    else if res.val = 5 || res.val = 8 then .next (s.splitError e)
    else
      let s := (s.modXfer fun y => { y with splits := y.splits.filter (·.1 ≠ e) }).modEp e fun x => { x with splitErrs := 0 }
      .next ((s.xactEnd e res.val (x.nextXact c (s.unitBytes x)).2 dpid.val data false s.cycle32).goOn e view)
  | _, _ => .next s

/-! ## Root events (R172, R177, R178, R180, R181) -/

/-- ROOT_CONNECT (R180): a connection held for 100 ms on a native root. -/
def execRootConnect (root : Fin 24) (speed : Fin 7) (s : State) : Result :=
  let r := root.val
  if (s.root r).state = .disconnected && !tunnelled r && (s.port r).pd.rootSpeedOk speed.val then
    .next ((s.modRoot r fun x => { x with state := .connected, speed := speed.val }).rootNotice r 0x10 0)
  else .next s

/-- ROOT_DISCONNECT (R180, R181). -/
def execRootDisconnect (root : Fin 24) (s : State) : Result :=
  if tunnelled root.val then .next s else .next (s.rootDisconnect root.val)

/-- R181: a SUSPEND that waited for ENABLED runs. -/
def State.runSuspend (s : State) (r : Nat) : State :=
  let x := s.root r
  match x.suspendWait with
  | some c =>
    (s.setRoot r { x with suspendWait := none, state := .suspending, due := some (s.after 3000000) }).ok c 0x0402 [BitVec.ofNat 8 x.speed]
  | none => s

/-- ROOT_RESET_END (R180, R181): the reset has run its time; the negotiated speed. -/
def execRootResetEnd (root : Fin 24) (speed : Fin 7) (s : State) : Result :=
  let r := root.val
  let x := s.root r
  if x.state = .resetting && s.due x.due && (tunnelled r || (s.port r).pd.rootSpeedOk speed.val) then
    let s := s.setRoot r { x with state := .enabled, due := none, speed := speed.val, wakeLost := false, wakeFrom := false, resetCmd := none }
    let s := if x.wakeLost then s.rootNotice r 0x16 0 else s
    let s := (s.rootNotice r 0x12 0).completeOpt x.resetCmd 0x0402 .ok 0 [BitVec.ofNat 8 speed.val]
    .next (s.runSuspend r)
  else .next s

/-- ROOT_SUSPEND_IDLE (R180): 3 ms with no bus activity. DEDUCED, log entry 124. -/
def execRootSuspendIdle (root : Fin 24) (s : State) : Result :=
  let r := root.val
  let x := s.root r
  if x.state = .suspending && s.due x.due then
    .next ((s.setRoot r { x with state := .suspended, due := none, uState := 3 }).rootNotice r 0x13 0)
  else .next (s.autoSuspend r)

/-- R180: the resume is over: RESUMED. -/
def State.resumed (s : State) (r : Nat) : State :=
  let x := s.root r
  let s := s.setRoot r { x with state := .enabled, due := none, wakeFrom := false, pingWait := false, pingHeld := false, uState := 0, resumeCmd := none }
  ((s.rootNotice r 0x14 0).completeOpt x.resumeCmd 0x0402 .ok 0 [BitVec.ofNat 8 x.speed]).runSuspend r

/-- ROOT_RESUME_END (R180): signalling has ended and 10 ms of recovery have passed on a native root. -/
def execRootResumeEnd (root : Fin 24) (s : State) : Result :=
  let r := root.val
  if (s.root r).state = .resuming && !tunnelled r && s.due (s.root r).due then .next (s.resumed r) else .next s

/-- TUN_ROOT_RESUME_WAIT_END (R177): 30 ms after the PING of a tunnelled root. -/
def execTunRootResumeWaitEnd (root : Fin 24) (s : State) : Result :=
  let r := root.val
  if (s.root r).state = .resuming && tunnelled r && s.due (s.root r).due then .next (s.resumed r) else .next s

/-- REMOTE_WAKE (R178, R180, R181). -/
def execRemoteWake (root : Fin 24) (tport : Fin 16) (s : State) : Result :=
  .next (s.remoteWake root.val (if tunnelled root.val then tport.val else 0))

/-- U1U2_TIMEOUT (R172): a native SuperSpeed link idle for its U1 or U2 timeout enters that state, or the device asks for U1 or U2, which the engine accepts; activity returns it to U0. -/
def execU1u2Timeout (root : Fin 24) (cause : U1u2Cause) (s : State) : Result :=
  let r := root.val
  let x := s.root r
  if tunnelled r || x.state ≠ .enabled || x.speed < 3 then .next s
  else if cause = .activity then .next (s.setRoot r { x with uState := 0 })
  else if cause ≠ .timeout then .next (if x.uState < cause.asked then s.setRoot r { x with uState := cause.asked } else s)
  else if x.uState = 0 && x.u1 ≠ 0 then .next (s.setRoot r { x with uState := 1 })
  else if x.uState < 2 && x.u2 ≠ 0 then .next (s.setRoot r { x with uState := 2 })
  else .next s

end Sys2Proof.Machine
end

