-- ==== Sys2Proof/Machine/Dma.lean ====
section
/-! DEFINITION. Sys2Proof/Machine/Dma.lean: the sample DMA engine at work: job entries, instructions, conversion, checks, triggers and halts ("Sample DMA engine"). -/

namespace Sys2Proof.Machine

/-! ## Rings and job entries (R282, Table 11-3) -/

def Ch.span (x : Ch) : Nat := 2 ^ (x.ringLog2 + 1)
/-- The entries between the consumer and the producer index. -/
def Ch.used (x : Ch) : Nat := (x.prod + x.span - x.cons % x.span) % x.span

/-- Table 11-3. -/
def parseJob (b : List Byte) : Job :=
  let f := byteAt b 12
  { prog := BitVec.ofNat 64 (le b 0 8), len := bits (le b 8 2) 12 0, tag := BitVec.ofNat 16 (le b 10 2), first := bitOf f 0
    last := bitOf f 1, irq := bitOf f 2, spaces := (List.range 4).map fun k => bits (byteAt b 13) (2 * k + 1) (2 * k)
    regs := (List.range 4).map fun k => BitVec.ofNat 64 (le b (16 + 8 * k) 8)
    resv := decide (bits (le b 8 2) 15 13 ≠ 0) || decide (8 ≤ f) || decide (le b 14 2 ≠ 0) || decide (le b 48 16 ≠ 0) }

/-- Table 11-3: the entry's own fields are in range; a program in program memory lies within the channel's 1 KiB. -/
def Job.ok (j : Job) (progDev : Bool) : Bool :=
  !j.resv && decide (1 ≤ j.len) && decide (j.prog.toNat % 16 = 0)
    && (if progDev then decide (j.len ≤ 64) && decide (j.prog.toNat + 16 * j.len ≤ 1024) else decide (j.len ≤ 4096))

/-- What reading a chain of job entries finds. -/
inductive JobRead where
  | wait
  | bad (idx : Nat) (tag : BitVec 16)
  | unreadable (addr : BitVec 64)
  | chain (jobs : List Job)
  deriving DecidableEq, Repr

/-- R239, R240, R282: the chain at the consumer index, once its LAST entry is below the producer index. DEDUCED, log entry 135. -/
def Ch.readChain (x : Ch) (v : HostView) : Nat → List Job → JobRead
  | 0, before => .bad ((x.cons + before.length) % x.span) 0xFFFF
  | n + 1, before =>
    let idx := (x.cons + before.length) % x.span
    let addr := x.ringBase + BitVec.ofNat 64 (64 * (idx % 2 ^ x.ringLog2))
    if x.used ≤ before.length then .wait
    else match v.read addr 64 with
      | none => .unreadable addr
      | some b =>
        let j := parseJob b
        if j.first != before.isEmpty || (before.length = 31 && !j.last) then .bad idx j.tag
        else if j.last then .chain (before ++ [j])
        else x.readChain v n (before ++ [j])

/-! ## Ends of chains (R301, R303, Tables 11-8 and 11-9) -/

/-- Table 11-9: the status of a halt or stop cause. -/
def causeStatus (cause : Nat) : Status :=
  match cause with
  | 0x05 => .poisoned
  | 0x13 => .poisoned
  | 0x14 => .poisoned
  | 0x15 => .timeout
  | 0x16 => .overrun
  | 0x20 => .malformed
  | 0x21 => .malformed
  | 0x22 => .overrun
  | 0x23 => .denied
  | _ => .mediaError

/-- Table 11-8: the result area of a DMA completion. -/
def Ch.result (x : Ch) (n entry bytesOrId xcode check : Nat) (now : Time) : List Byte :=
  toLe 1 n ++ toLe 1 entry ++ toLe 2 x.cons ++ toLe 4 bytesOrId ++ toLe 1 xcode ++ toLe 1 0 ++ toLe 2 x.pc ++ toLe 4 check ++ toLe 8 now.toNat

/-- The TAG of the LAST entry of the running chain. -/
def Ch.lastTag (x : Ch) : BitVec 16 := ((x.chain.getLast?).map (·.tag)).getD x.chainTag

/-- R301: the chain completion goes into the slot reserved at the chain's start; the chain is over. -/
def State.chainEnd (s : State) (n : Nat) (st : Status) (xcode check : Nat) : State :=
  let x := s.ch n
  match x.owner with
  | none => s
  | some (h, sl) =>
    if x.chain.isEmpty then s
    else
      let e : CqEntry := { tag := x.chainTag, status := st, gen := x.chainGen, kind := 2, irq := x.chainIrq
                           result := x.result n 0 x.jobBytes xcode check s.now }
      (s.enginePost h sl x.cq e true).modCh n fun x =>
        { x with chain := [], jobOn := false, current := none, wait := .none, waitDue := none, retryN := 0, retryDue := none, loops := [], move := none }

/-- A completion for a ring that stops with no chain started. -/
def State.ringEnd (s : State) (n : Nat) (tag : BitVec 16) (st : Status) (xcode : Nat) : State :=
  let x := s.ch n
  match x.owner with
  | none => s
  | some (h, sl) =>
    s.enginePush h sl x.cq { tag := tag, status := st, gen := (s.slice h sl).gen, kind := 2, irq := false
                             result := x.result n 0 0 xcode 0 s.now } false

/-- R277, R303: the channel halts or stops in ERROR: state latched, chain completed with the cause. -/
def State.haltCh (s : State) (n cause : Nat) (addr : BitVec 64) : State :=
  let x := s.ch n
  let s := if x.chain.isEmpty then s.ringEnd n 0xFFFF (causeStatus cause) cause else s
  let loops := x.loops
  let s := s.chainEnd n (causeStatus cause) cause 0
  s.modCh n fun x => { x with state := if 0x20 ≤ cause then .error else .halted, haltCause := cause, haltAddr := addr, loops := loops
                              wait := .none, retryDue := none, retryN := 0 }

/-- R302: a bus error: the access is retried after 1 µs, doubling, up to the channel's count; then the channel halts. DESIGN CHOICE, log entry 138. -/
def State.busError (s : State) (n cause : Nat) (addr : BitVec 64) : State :=
  let x := s.ch n
  if x.retryN < x.retries then
    s.modCh n fun x => { x with wait := .retry, retryN := x.retryN + 1, retryCnt := x.retryCnt + 1, haltAddr := addr
                                retryDue := some (s.after (1000 * 2 ^ x.retryN)) }
  else s.haltCh n cause addr

/-! ## Spaces (R278, Table 11-2) -/

/-- R279, R302: a host read in requests of at most 512 bytes: the bytes, or the address of the first request that fails. -/
def readHost (v : HostView) : Nat → BitVec 64 → Nat → Except (BitVec 64) (List Byte)
  | 0, _, _ => .ok []
  | f + 1, addr, len =>
    if len = 0 then .ok []
    else
      let k := min 512 len
      match v.read addr k with
      | none => .error addr
      | some b => match readHost v f (addr + BitVec.ofNat 64 k) (len - k) with
        | .ok r => .ok (b ++ r)
        | .error a => .error a

/-- R299: bytes of the current block; at or beyond the landed length they read 0. -/
def Ch.blockBytes (x : Ch) (off len : Nat) : List Byte := (List.range len).map fun i => (x.current.getD []).getD (off + i) 0

/-- How an instruction ends: done, not yet able to go on, or stopped by a cause at an address (`bus` for a bus error, which is retried). -/
inductive DmaOut where
  | done (s : State)
  | hold (s : State)
  | stop (s : State) (cause : Nat) (addr : BitVec 64) (bus : Bool)

/-- Reading `len` bytes through register `r` at `addr`. -/
def Ch.readSpace (x : Ch) (v : HostView) (space : Nat) (addr : BitVec 64) (len : Nat) : Except (BitVec 64) (List Byte) :=
  match space with
  | 0 => readHost v (len / 512 + 1) addr len
  | 1 => .ok (x.blockBytes addr.toNat len)
  | _ => .ok (List.replicate len 0)

/-- R278: the accesses of an instruction that its spaces permit: no read of TUN_OUT, no read of TUN_IN beyond offset 2047 or without a block line, no write of TUN_IN. -/
def Ch.mayRead (x : Ch) (space : Nat) (addr : BitVec 64) (len : Nat) : Bool :=
  match space with
  | 0 => true
  | 1 => decide (x.trigKind = 2) && decide (addr.toNat + len ≤ 2048)
  | 2 => false
  | _ => true

/-- R300: a TUN_OUT register names a tunnel that the channel may write: outbound SMPL, owned by its slice, or a PERSIST tunnel of slice 0 of its host port. DEDUCED, log entry 136. -/
def State.mayTunOut (s : State) (owner : Nat × Nat) (reg : BitVec 64) : Bool :=
  let t := s.tunnel reg.toNat
  decide (reg.toNat < 8192) && decide (t.cls = 1) && t.dirs.getLsbD 0
    && (decide (t.owner = .slice owner.1 owner.2) || (t.persist && decide (t.owner = .slice owner.1 0)))

/-- R91, R300: the cells of an open outbound block of `n` bytes that have been sent: those that are full, but for the last, which waits to carry BL. -/
def blockSent (n : Nat) : Nat := (n - 1) / 120

/-- R91, R300: cells of the open outbound block that fill up are sent; `close` fills the last one with zeros and sets BL. -/
def State.sendBlock (s : State) (tid : Nat) (before after : List Byte) (close : Bool) : State :=
  let sent := blockSent before.length
  let full := blockSent after.length
  let s := (List.range (full - sent)).foldl (fun s k => s.clientCell tid false false ((after.drop (120 * (sent + k))).take 120)) s
  if close then s.clientCell tid true false (after.drop (120 * full)) else s

/-- R300: the crossing credits that the cells need; a tunnel that is not OPEN takes none. -/
def State.hasCredit (s : State) (tid cells : Nat) : Bool :=
  decide ((s.tunnel tid).state ≠ .opened) || decide (cells ≤ Tab.get 0 s.marl.crossing (agentXfer * 8 + 1))

/-- Bytes to write, by address in the space of one register. -/
abbrev Writes := List (BitVec 64 × List Byte)

/-- R302, R309: the writes to host memory before one that the address check refuses, and that one's address. -/
def State.hostWrites (s : State) (h sl : Nat) : Writes → State × Option (BitVec 64)
  | [] => (s, none)
  | (a, b) :: rest =>
    if b.isEmpty then s.hostWrites h sl rest
    else if s.addrOk a && s.addrOk (a + BitVec.ofNat 64 (b.length - 1)) then (s.hostWrite h sl a b).hostWrites h sl rest
    else (s, some a)

/-- Writing through register `r` of channel `n`. Nothing is written while a write is to be retried. -/
def State.writeSpace (s : State) (n r : Nat) (w : Writes) : DmaOut :=
  let x := s.ch n
  let bytes := w.flatMap Prod.snd
  let count (s : State) : State := s.modCh n fun x =>
    { x with jobBytes := x.jobBytes + bytes.length, bytesWritten := x.bytesWritten + BitVec.ofNat 64 bytes.length }
  match x.owner, x.spaces.getD r 3 with
  | none, _ => .hold s
  | some (h, sl), 0 =>
    if !(s.hp h).writable then .hold s
    else match s.hostWrites h sl w with
      | (s', none) => .done (count s')
      | (s', some a) => .stop (if x.retryN < x.retries then s else s') 0x11 a true
  | some o, 2 =>
    let reg := x.regs.getD r 0
    let tid := reg.toNat
    let before := Tab.get [] x.outBlocks tid
    let after := before ++ bytes
    if !s.mayTunOut o reg then .stop s 0x23 reg false
    else if 1920 < after.length then .stop s 0x16 reg false
    else if !s.hasCredit tid (blockSent after.length - blockSent before.length) then .hold s
    else .done (count ((s.sendBlock tid before after false).modCh n fun x => { x with outBlocks := Tab.set [] tid after x.outBlocks }))
  | _, _ => .done s

/-! ## Conversion (R291, Table 11-7) -/

def widthBits (code : Nat) : Nat := [8, 16, 20, 24, 32, 64].getD code 8
def containerBytes (code : Nat) : Nat := [1, 2, 4, 4, 4, 8].getD code 1

/-- Bytes that `k` elements take. -/
def elemBytes (code : Nat) (packed : Bool) (k : Nat) : Nat := if packed then k * widthBits code / 8 else k * containerBytes code

/-- `k` elements from bytes: packed bits from the least significant bit of each byte, or one container each. -/
def elemsOf (code : Nat) (packed : Bool) (k : Nat) (b : List Byte) : List Nat :=
  let w := widthBits code
  if packed then
    let v := le b 0 b.length
    (List.range k).map fun i => v / 2 ^ (w * i) % 2 ^ w
  else (List.range k).map fun i => le b (containerBytes code * i) (containerBytes code) % 2 ^ w

/-- One element in its container, extended by its sign or by zeros. -/
def containerOf (code : Nat) (sign : Bool) (v : Nat) : List Byte :=
  let w := widthBits code
  let c := containerBytes code
  toLe c (if sign && decide (2 ^ (w - 1) ≤ v) then v + 2 ^ (8 * c) - 2 ^ w else v)

/-- Bytes of elements. -/
def bytesOf (code : Nat) (packed sign : Bool) (vs : List Nat) : List Byte :=
  let w := widthBits code
  if packed then toLe (vs.length * w / 8) (((List.range vs.length).map fun i => vs.getD i 0 * 2 ^ (w * i)).sum)
  else vs.flatMap (containerOf code sign)

/-- R291: one element converted from `a` bits to `b` bits, and whether it was saturated. -/
def convert (u : Setup) (a b v : Nat) : Nat × Bool :=
  if u.msb then (if a ≤ b then v * 2 ^ (b - a) else v / 2 ^ (a - b), false)
  else if a ≤ b then (if u.sign && decide (2 ^ (a - 1) ≤ v) then v + 2 ^ b - 2 ^ a else v, false)
  else if !u.sat then (v % 2 ^ b, false)
  else if u.sign then
    if v < 2 ^ (a - 1) then (if 2 ^ (b - 1) ≤ v then (2 ^ (b - 1) - 1, true) else (v, false))
    else if v < 2 ^ a - 2 ^ (b - 1) then (2 ^ (b - 1), true) else (v % 2 ^ b, false)
  else if 2 ^ b ≤ v then (2 ^ b - 1, true) else (v, false)

/-! ## Check functions (R293) -/

/-- CRC-16-CCITT: one byte, not reflected. -/
def crc16Byte (c : BitVec 16) (b : Byte) : BitVec 16 :=
  (List.range 8).foldl (fun x _ => if x.getMsbD 0 then (x <<< 1) ^^^ 0x1021 else x <<< 1) (c ^^^ (b.setWidth 16 <<< 8))

/-- The accumulator before any byte. -/
def checkStart : Nat → BitVec 64
  | 1 => 0xFFFFFFFF
  | 2 => 0xFFFFFFFF
  | 3 => 0xFFFF
  | _ => 0

/-- Fletcher-32: one 16-bit word into sum2 (high half) and sum1 (low half). -/
def fletcherWord (acc : BitVec 64) (w : Nat) : BitVec 64 :=
  let s1 := (acc.toNat % 2 ^ 32 + w) % 65535
  let s2 := (acc.toNat / 2 ^ 32 + s1) % 65535
  BitVec.ofNat 64 (s2 * 2 ^ 32 + s1)

/-- One byte into the check. -/
def Ch.checkByte (x : Ch) (b : Byte) : Ch :=
  match x.setup.check with
  | 1 => { x with acc := (crcByte 0x82F63B78 (x.acc.setWidth 32) b).setWidth 64 }
  | 2 => { x with acc := (crcByte 0xEDB88320 (x.acc.setWidth 32) b).setWidth 64 }
  | 3 => { x with acc := (crc16Byte (x.acc.setWidth 16) b).setWidth 64 }
  | 4 => match x.odd with
    | some l => { x with acc := fletcherWord x.acc (l.toNat + 256 * b.toNat), odd := none }
    | none => { x with odd := some b }
  | _ => x

/-- The check value at END. -/
def Ch.checkValue (x : Ch) : Nat :=
  match x.setup.check with
  | 1 => (~~~(x.acc.setWidth 32)).toNat
  | 2 => (~~~(x.acc.setWidth 32)).toNat
  | 3 => x.acc.toNat % 65536
  | 4 =>
    let a := match x.odd with
      | some l => fletcherWord x.acc l.toNat
      | none => x.acc
    a.toNat / 2 ^ 32 * 65536 + a.toNat % 65536
  | _ => 0

/-! ## Instructions: fetch and common checks (R283, R290) -/

/-- R280, R283: the instruction at the program counter: none where host memory fails. -/
def State.dmaInstr (s : State) (n : Nat) (v : HostView) : Option (List Byte) :=
  let x := s.ch n
  let j := x.chain.headD {}
  if x.progDev then some (Tab.bytes 0 s.xfer.prog (1024 * n + j.prog.toNat + 16 * x.pc) 16)
  else v.read (j.prog + BitVec.ofNat 64 (16 * x.pc)) 16

/-- R285: the program counter moves on; at the end of a loop body the registers advance and the body runs again, or the loop is left. -/
def Ch.advance : Nat → Ch → Ch
  | 0, x => x
  | f + 1, x =>
    match x.loops with
    | (start, body, left, mask, adv) :: outer =>
      if x.pc = start + body then
        let regs := (List.range 4).map fun k => if bitOf mask k then x.regs.getD k 0 + adv.signExtend 64 else x.regs.getD k 0
        if left = 1 then Ch.advance f { x with regs := regs, loops := outer }
        else { x with regs := regs, pc := start, loops := (start, body, left - 1, mask, adv) :: outer }
      else x
    | [] => x

/-- The instruction is done. -/
def Ch.step (x : Ch) : Ch := Ch.advance 5 { x with pc := x.pc + 1, wait := .none, waitDue := none, retryN := 0, retryDue := none }

def State.dmaStepped (s : State) (n : Nat) : State := s.modCh n Ch.step

/-- Where the innermost loop body, or else the program, ends. -/
def Ch.bodyEnd (x : Ch) : Nat :=
  match x.loops with
  | (start, body, _) :: _ => start + body
  | [] => (x.chain.headD {}).len

/-- A signed 32-bit offset as a 64-bit addend. -/
def offAt (b : List Byte) (i : Nat) : BitVec 64 := (BitVec.ofNat 32 (le b i 4)).signExtend 64

/-- A register advances by `adv`. -/
def Ch.bump (x : Ch) (r : Nat) (adv : BitVec 64) : Ch := { x with regs := x.regs.modify r (· + adv) }

/-! ## MOVE (R284, R291 to R295, R299, R300) -/

/-- The fields of Table 11-4 with the SETUP in force are well formed. DEDUCED, log entry 136. -/
def moveOk (u : Setup) (b : List Byte) : Bool :=
  let f := byteAt b 1
  let raw := bitOf f 6
  let first := byteAt b 2
  let nch := byteAt b 3 + 1
  let count := le b 4 4
  let g := u.setElems
  let shuf := !raw && decide (u.reshuf ≠ 0)
  let whole (code : Nat) (packed : Bool) (k : Nat) : Bool := !packed || decide (k * widthBits code % 8 = 0)
  !bitOf f 7 && decide (byteAt b 3 < 32) && decide (1 ≤ count) && decide (count ≤ 16777216) && decide (first < 255)
    && (shuf || (decide (first = 0) && decide (nch = 1)))
    && (raw || match u.reshuf with
      | 0 => whole u.srcW u.srcPacked count && whole u.dstW u.dstPacked count
      | 1 => decide (count % g = 0) && decide (first + nch ≤ g) && !u.dstPacked && whole u.srcW u.srcPacked count
      | 2 => decide (count % nch = 0) && decide (first + nch ≤ g) && !u.srcPacked && (!u.dstPacked || decide (nch = g))
          && whole u.dstW u.dstPacked count
      | _ => if u.bpInv then decide (count % widthBits u.srcW = 0)
             else decide (count % g = 0) && whole u.srcW u.srcPacked count)

/-- Where `count` elements of a MOVE are read: offsets from the source address and lengths, in the order of the holding register. DEDUCED, log entry 136. -/
def moveReads (u : Setup) (b : List Byte) (count : Nat) : List (Nat × Nat) :=
  let nch := byteAt b 3 + 1
  if bitOf (byteAt b 1) 6 then [(0, count)]
  else match u.reshuf with
    | 2 => (List.range nch).map fun c => (c * u.stride, count / nch * containerBytes u.srcW)
    | 3 => if u.bpInv then [(0, count * (u.setElems / 8))] else [(0, elemBytes u.srcW u.srcPacked count)]
    | _ => [(0, elemBytes u.srcW u.srcPacked count)]

/-- What a MOVE makes of the bytes it read: the writes (offset from the destination address), the destination bytes in holding-register order, and the saturations. -/
structure Moved where
  writes : List (Nat × List Byte)
  produced : List Byte
  clips : Nat
  /-- source bytes in holding-register order -/
  taken : List Byte

/-- Table 11-6, R291: plain conversion of elements. -/
def convertAll (u : Setup) (vs : List Nat) : List Nat × Nat :=
  let r := vs.map (convert u (widthBits u.srcW) (widthBits u.dstW))
  (r.map Prod.fst, (r.filter Prod.snd).length)

/-- R295: elements of a group to planes: word `b` holds bit `b` of every element. -/
def toPlanes (g w : Nat) (vs : List Nat) : List Byte :=
  (List.range w).flatMap fun b => toLe (g / 8) (((List.range g).map fun k => vs.getD k 0 / 2 ^ b % 2 * 2 ^ k).sum)

/-- R295: planes to the elements of a group. -/
def fromPlanes (g w : Nat) (ps : List Nat) : List Nat :=
  (List.range g).map fun k => ((List.range w).map fun b => ps.getD b 0 / 2 ^ k % 2 * 2 ^ b).sum

/-- The list cut into pieces of `k`. -/
def pieces {α : Type} (k n : Nat) (l : List α) : List (List α) := (List.range n).map fun i => (l.drop (k * i)).take k

def moved (u : Setup) (b : List Byte) (count : Nat) (src : List (List Byte)) : Moved :=
  let first := byteAt b 2
  let nch := byteAt b 3 + 1
  let g := u.setElems
  let all := src.flatten
  let size := containerBytes u.dstW
  if bitOf (byteAt b 1) 6 then { writes := [(0, all)], produced := all, clips := 0, taken := all }
  else match u.reshuf with
    | 0 =>
      let r := convertAll u (elemsOf u.srcW u.srcPacked count all)
      let out := bytesOf u.dstW u.dstPacked u.sign r.1
      { writes := [(0, out)], produced := out, clips := r.2, taken := all }
    | 1 =>
      let sets := (pieces g (count / g) (elemsOf u.srcW u.srcPacked count all)).map fun l => (l.drop first).take nch
      let r := convertAll u sets.flatten
      let outs := pieces nch sets.length (r.1.map (containerOf u.dstW u.sign))
      { writes := (List.range nch).map fun c => (c * u.stride, outs.flatMap fun l => l.getD c [])
        produced := (outs.flatten).flatten, clips := r.2, taken := all }
    | 2 =>
      let n := count / nch
      let runs := src.map (elemsOf u.srcW false n)
      let r := convertAll u ((List.range n).flatMap fun i => runs.map fun l => l.getD i 0)
      let sets := pieces nch n r.1
      let taken := (List.range n).flatMap fun i => src.flatMap fun l => (l.drop (containerBytes u.srcW * i)).take (containerBytes u.srcW)
      if u.dstPacked then
        let out := bytesOf u.dstW true u.sign r.1
        { writes := [(0, out)], produced := out, clips := r.2, taken := taken }
      else
        let out := r.1.flatMap (containerOf u.dstW u.sign)
        { writes := (List.range n).map fun i => ((i * g + first) * size, (sets.getD i []).flatMap (containerOf u.dstW u.sign))
          produced := out, clips := r.2, taken := taken }
    | _ =>
      let w := widthBits u.srcW
      if u.bpInv then
        let ps := (List.range count).map fun i => le all (g / 8 * i) (g / 8)
        let out := bytesOf u.srcW u.dstPacked u.sign ((pieces w (count / w) ps).flatMap (fromPlanes g w))
        { writes := [(0, out)], produced := out, clips := 0, taken := all }
      else
        let out := (pieces g (count / g) (elemsOf u.srcW u.srcPacked count all)).flatMap (toPlanes g w)
        { writes := [(0, out)], produced := out, clips := 0, taken := all }

/-- Reads at several offsets. -/
def Ch.readAll (x : Ch) (v : HostView) (space : Nat) (addr : BitVec 64) : List (Nat × Nat) → Except (BitVec 64) (List (List Byte))
  | [] => .ok []
  | (o, k) :: rest =>
    match x.readSpace v space (addr + BitVec.ofNat 64 o) k with
    | .error a => .error a
    | .ok b => match x.readAll v space addr rest with
      | .ok r => .ok (b :: r)
      | .error a => .error a

/-- R279, R405: the data of a MOVE passes through the channel's private 4 KiB of the in-flight buffer; tells whether it comes out uncorrectable. DESIGN CHOICE, log entry 30. -/
def State.inFlight (s : State) (n : Nat) (data : List Byte) : State × Bool :=
  (pieces 4096 ((data.length + 4095) / 4096) data).foldl (fun (a : State × Bool) l =>
    let r := a.1.throughBuffer 3 (4096 * n) l fun i b s => s.modMem fun m => { m with dmaBuf := Tab.write 0 i b m.dmaBuf }
    (r.1, a.2 || r.2)) (s, false)

/-! ### Turns (R292) -/

/-- The elements of a MOVE that go together: a set, a group, or one element (one byte under RAW). -/
def moveUnit (u : Setup) (b : List Byte) : Nat :=
  if bitOf (byteAt b 1) 6 then 1
  else match u.reshuf with
    | 0 => 1
    | 1 => u.setElems
    | 2 => byteAt b 3 + 1
    | _ => if u.bpInv then widthBits u.srcW else u.setElems

/-- R292: the elements of a full turn: whole pairs of units, so that a packed transfer is cut at a byte, of up to 4 KiB read. DESIGN CHOICE, log entry 163. -/
def turnElems (u : Setup) (b : List Byte) : Nat :=
  let pair := 2 * moveUnit u b
  pair * max 1 (4096 / max 1 (((moveReads u b pair).map Prod.snd).sum))

/-- How far the source and destination offsets have come after `at_` elements of a MOVE: bytes of each read run, and bytes of each destination run. -/
def moveOffsets (u : Setup) (b : List Byte) (at_ : Nat) : Nat × Nat :=
  let units := at_ / moveUnit u b
  if bitOf (byteAt b 1) 6 then (at_, at_)
  else match u.reshuf with
    | 0 => (elemBytes u.srcW u.srcPacked at_, elemBytes u.dstW u.dstPacked at_)
    | 1 => (elemBytes u.srcW u.srcPacked at_, units * containerBytes u.dstW)
    | 2 => (units * containerBytes u.srcW, if u.dstPacked then elemBytes u.dstW true at_ else units * u.setElems * containerBytes u.dstW)
    | _ => if u.bpInv then (at_ * (u.setElems / 8), elemBytes u.srcW u.dstPacked (units * u.setElems))
           else (elemBytes u.srcW u.srcPacked at_, units * widthBits u.srcW * (u.setElems / 8))

/-- R284: the destination advance of a whole MOVE: the bytes written, or under de-interleave those of one channel's run. -/
def moveAdvance (u : Setup) (b : List Byte) : Nat :=
  let total := le b 4 4
  if !bitOf (byteAt b 1) 6 && decide (u.reshuf = 2) then elemBytes u.dstW u.dstPacked total else (moveOffsets u b total).2

/-- A channel's distance behind the one served last. -/
def turnAfter (last n : Nat) : Nat := (n + 127 - last) % 64

/-- R22, R277, R324: the channel can run instructions: RUNNING, XFER powered, its slice not frozen, lost or resetting. -/
def State.chRuns (s : State) (n : Nat) : Bool :=
  let x := s.ch n
  decide (x.state = .running) && !s.domainOff 8 && match x.owner with
    | some (h, sl) => decide ((s.slice h sl).state = .active) || decide ((s.slice h sl).state = .freezing)
    | none => false

/-- The host port of the channel's owner takes accesses now. -/
def State.chUp (s : State) (n : Nat) : Bool := ((s.ch n).owner.map fun o => (s.hp o.1).writable).getD false

/-- The channel runs a job and waits for nothing. -/
def State.chBusy (s : State) (n : Nat) : Bool := s.chRuns n && (s.ch n).jobOn && decide ((s.ch n).wait = .none) && s.chUp n

/-- R292: the channels are served round-robin: the turn is not the channel's while another's MOVE is under way and comes before it. DESIGN CHOICE, log entry 163. -/
def State.dmaTurnOf (s : State) (n : Nat) : Bool :=
  s.xfer.chans.all fun e => decide (e.1 = n) || e.2.move.isNone || !s.chBusy e.1
    || decide (turnAfter s.xfer.dmaTurn n < turnAfter s.xfer.dmaTurn e.1)

/-- R292: no other channel asks for a turn. -/
def State.dmaAlone (s : State) (n : Nat) : Bool := s.xfer.chans.all fun e => decide (e.1 = n) || !s.chBusy e.1

/-- R284, R292: one turn of a MOVE: up to 4 KiB are read, converted and written, and the check takes them; with the last of them the registers change. A turn that cannot be made passes on. DESIGN CHOICE, log entry 163. -/
def State.moveTurn (s : State) (n : Nat) (v : HostView) (b : List Byte) : DmaOut :=
  let x := s.ch n
  let u := x.setup
  let f := byteAt b 1
  let sr := bits f 1 0
  let dr := bits f 3 2
  let at_ := (x.move.map Prod.snd).getD 0
  let total := le b 4 4
  let count := min (turnElems u b) (total - at_)
  let off := moveOffsets u b at_
  let src := x.regs.getD sr 0 + offAt b 8 + BitVec.ofNat 64 off.1
  let dst := x.regs.getD dr 0 + offAt b 12 + BitVec.ofNat 64 off.2
  let ss := x.spaces.getD sr 3
  let fromMem := decide (ss = 0) || decide (ss = 1)
  let s := s.modXfer fun y => { y with dmaTurn := n }
  match x.readAll v ss src (moveReads u b count) with
  | .error a => .stop s 0x10 a true
  | .ok data =>
    let (s, bad) := s.inFlight n (if fromMem then data.flatten else [])
    if bad then .stop s 0x14 0 false else
    let m := moved u b count data
    match s.writeSpace n dr (m.writes.map fun e => (dst + BitVec.ofNat 64 e.1, e.2)) with
    | .hold s' => .hold s'
    | .stop s' c a bus => .stop s' c a bus
    | .done s' =>
      .done <| s'.modCh n fun x =>
        let x := { x with clip := x.clip + BitVec.ofNat 64 m.clips, retryN := 0
                          bytesRead := x.bytesRead + BitVec.ofNat 64 (if fromMem then (data.flatten).length else 0) }
        let x := if bitOf f 6 then x else (if u.chkDst then m.produced else m.taken).foldl Ch.checkByte x
        if at_ + count < total then { x with move := some (b, at_ + count) }
        else
          let got := (((moveReads u b total).map Prod.snd).sum)
          let x := { x with move := none }
          let x := if bitOf f 4 then x.bump sr (offAt b 8 + BitVec.ofNat 64 got) else x
          if bitOf f 5 then x.bump dr (offAt b 12 + BitVec.ofNat 64 (moveAdvance u b)) else x

/-- R292: turns of one MOVE, one after another while no other channel asks for one; `hold` with the MOVE under way otherwise. -/
def State.moveTurns (n : Nat) (v : HostView) (b : List Byte) : Nat → State → DmaOut
  | 0, s => .hold s
  | k + 1, s =>
    match s.moveTurn n v b with
    | .done s' =>
      if (s'.ch n).move.isNone then .done s'
      else if s'.dmaAlone n then State.moveTurns n v b k s' else .hold s'
    | o => o

/-- The run of a MOVE: its fields and spaces are checked as it is fetched, and its turns follow (R292). DEDUCED, log entry 135. -/
def State.dmaMoveRun (s : State) (n : Nat) (v : HostView) (fault : Nat) (b : List Byte) : DmaOut :=
  let x := s.ch n
  let u := x.setup
  let f := byteAt b 1
  let sr := bits f 1 0
  let dr := bits f 3 2
  let src := x.regs.getD sr 0 + offAt b 8
  let ss := x.spaces.getD sr 3
  let ds := x.spaces.getD dr 3
  let host := decide (ss = 0)
  if !moveOk u b || ds = 1 || !((moveReads u b (le b 4 4)).all fun e => x.mayRead ss (src + BitVec.ofNat 64 e.1) e.2) then .stop s 0x21 0 false
  else if host && !s.chUp n then .hold s
  else if host && fault = 1 then .stop s 0x13 src false
  else if !s.dmaTurnOf n then .hold s
  else State.moveTurns n v b (le b 4 4) s

/-! ## LOOP, SETUP (R285, R288) -/

/-- The run of a LOOP. -/
def State.dmaLoopRun (s : State) (n : Nat) (b : List Byte) : DmaOut :=
  let x := s.ch n
  let body := byteAt b 1
  let ok := decide (1 ≤ body) && decide (byteAt b 2 < 16) && decide (byteAt b 3 = 0) && decide (le b 12 4 = 0)
    && decide (x.loops.length < 4) && decide (x.pc + 1 + body ≤ x.bodyEnd)
  if !ok then .stop s 0x21 0 false
  else .done (s.modCh n fun x => { x with loops := (x.pc + 1, body, le b 4 4, byteAt b 2, BitVec.ofNat 32 (le b 8 4)) :: x.loops })

/-- Table 11-6. -/
def parseSetup (b : List Byte) : Setup :=
  let f := byteAt b 1
  let g := byteAt b 2
  { srcW := bits f 2 0, srcPacked := bitOf f 3, dstW := bits f 6 4, dstPacked := bitOf f 7, sign := bitOf g 0, msb := bitOf g 1
    sat := bitOf g 2, shortHalt := bitOf g 3, poisonHalt := bitOf g 4, reshuf := bits (byteAt b 3) 1 0, bpInv := bitOf (byteAt b 3) 2
    setElems := byteAt b 4, check := bits (byteAt b 5) 2 0, chkDst := bitOf (byteAt b 5) 3, stride := le b 8 4 }

/-- Table 11-6: reserved fields, width codes, set and group sizes. DEDUCED, log entry 136. -/
def setupOk (b : List Byte) : Bool :=
  let u := parseSetup b
  decide (u.srcW < 6) && (decide (u.dstW < 6) || decide (u.reshuf = 3)) && decide (byteAt b 2 < 32) && decide (byteAt b 3 < 8)
    && decide (byteAt b 5 < 16) && decide (u.check < 5) && decide (le b 6 2 = 0) && decide (le b 12 4 = 0)
    && (match u.reshuf with
      | 0 => true
      | 3 => [8, 16, 24, 32].contains u.setElems
      | _ => decide (1 ≤ u.setElems))

/-- The run of a SETUP. -/
def State.dmaSetupRun (s : State) (n : Nat) (b : List Byte) : DmaOut :=
  if !setupOk b then .stop s 0x21 0 false
  else .done (s.modCh n fun x => { x with setup := parseSetup b, acc := checkStart (parseSetup b).check, odd := none })

/-! ## WAIT (R286, R297 to R299) -/

/-- A signal or block entry, which takes a holding slot of its own. -/
def State.dmaEntry (s : State) (n entry id xcode : Nat) (st : Status) (irq : Bool) : State :=
  let x := s.ch n
  match x.owner with
  | none => s
  | some (h, sl) =>
    s.enginePost h sl x.cq { tag := (x.chain.headD {}).tag, status := st, gen := x.chainGen, kind := 2, irq := irq
                             result := x.result n entry id xcode 0 s.now } false

/-- Holding slots free on the channel's CQ. -/
def State.dmaSlots (s : State) (n : Nat) : Nat :=
  let x := s.ch n
  match x.owner with
  | none => 0
  | some (h, sl) =>
    let q := s.qp h sl x.cq
    if q.state = .active then 16 - (q.waiting + q.slots) else 0

/-- R299: the next landed block becomes current; a flagged block halts the channel or posts its block entries. -/
def State.takeBlock (s : State) (n : Nat) : DmaOut :=
  let x := s.ch n
  match x.landed with
  | [] => .hold s
  | (bytes, short, pois) :: rest =>
    let u := x.setup
    let seq := le bytes 12 2
    let haltS := short && u.shortHalt
    let haltP := pois && u.poisonHalt && !haltS
    let posts := flag (short && !haltS) + flag (pois && !u.poisonHalt && !haltS)
    if s.dmaSlots n < posts then .hold (s.modCh n fun x => { x with wait := .slot, current := none })
    else
      let s := s.modCh n fun x =>
        { x with current := some bytes, landed := rest, pending := rest.length, blocksTaken := x.blocksTaken + 1
                 blocksShort := if short then x.blocksShort + 1 else x.blocksShort
                 blocksPois := if pois then x.blocksPois + 1 else x.blocksPois }
      if haltS then .stop s 0x04 0 false
      else
        let s := if short then s.dmaEntry n 2 seq 0x04 .ok false else s
        if haltP then .stop s 0x05 0 false
        else .done (if pois then s.dmaEntry n 2 seq 0x05 .poisoned false else s)

/-- The run of a WAIT. DEDUCED, log entry 135. -/
def State.dmaWaitRun (s : State) (n : Nat) (b : List Byte) : DmaOut :=
  let x := s.ch n
  let count := byteAt b 1
  let timeout := le b 4 4
  let ok := decide (1 ≤ count) && decide (le b 2 2 = 0) && decide (le b 8 8 = 0) && (decide (x.trigKind ≠ 2) || decide (count = 1))
  let waits (s : State) : DmaOut := .hold <| s.modCh n fun x =>
    { x with current := none, wait := .trigger, waitN := count
             waitDue := if x.wait = .trigger then x.waitDue else if timeout = 0 then none else some (s.after (1000 * timeout)) }
  if !ok then .stop s 0x21 0 false
  else if x.trigKind = 2 then (if x.landed.isEmpty then waits s else s.takeBlock n)
  else if x.pending < count then waits s
  else .done (s.modCh n fun x => { x with pending := x.pending - count })

/-! ## SIGNAL, END (R285, R287, R289, R296, R300) -/

/-- R297: a timer or channel trigger: the pending count, saturating at 255 with TRIG_LOST. -/
def Ch.trigger (x : Ch) : Ch := if x.pending < 255 then { x with pending := x.pending + 1 } else { x with trigLost := x.trigLost + 1 }

/-- Every channel whose configured trigger is `num` of `kind`, and for a channel's signal of the same owner, is triggered. -/
def State.triggerAll (s : State) (kind num : Nat) (owner : Option (Nat × Nat)) : State :=
  s.modXfer fun y => { y with chans := y.chans.map fun e =>
    if e.2.configured && e.2.state ≠ .free && e.2.trigKind = kind && e.2.trigNum = num && (owner.isNone || e.2.owner = owner) then (e.1, e.2.trigger) else e }

/-- The run of a SIGNAL. -/
def State.dmaSignalRun (s : State) (n : Nat) (b : List Byte) : DmaOut :=
  let x := s.ch n
  let f := byteAt b 1
  let posts := flag (bitOf f 0) + flag (bitOf f 1) + flag (bitOf f 2)
  let r := byteAt b 4
  let close := bitOf f 4
  let reg := x.regs.getD r 0
  let ok := decide (1 ≤ f) && decide (f < 32) && decide (posts ≤ 1) && decide (r < 4) && decide (le b 5 3 = 0) && decide (le b 8 8 = 0)
    && (!close || decide (x.spaces.getD r 3 = 2))
  let tid := reg.toNat
  let block := Tab.get [] x.outBlocks tid
  if !ok then .stop s 0x21 0 false
  else if close && !(s.mayTunOut (x.owner.getD (0, 0)) reg) then .stop s 0x23 reg false
  else if posts = 1 && s.dmaSlots n = 0 then .hold (s.modCh n fun x => { x with wait := .slot })
  else if close && !s.hasCredit tid 1 then .hold s
  else
    let xcode := if bitOf f 0 then 1 else if bitOf f 1 then 2 else 3
    let s := if posts = 1 then s.dmaEntry n 1 (le b 2 2) xcode .ok (xcode ≠ 3) else s
    let s := if bitOf f 3 then s.triggerAll 1 n x.owner else s
    .done (if close then (s.sendBlock tid block block true).modCh n fun x => { x with outBlocks := Tab.set [] tid [] x.outBlocks } else s)

/-- The run of an END: the check value is stored, and the job, or with the LAST entry the chain, ends. -/
def State.dmaEndRun (s : State) (n : Nat) (b : List Byte) : DmaOut :=
  let x := s.ch n
  let r := bits (byteAt b 1) 1 0
  let store := bitOf (byteAt b 1) 2 && x.setup.check ≠ 0
  let value := x.checkValue
  let size := if x.setup.check = 3 then 2 else 4
  let ok := decide (byteAt b 1 < 8) && decide (le b 2 8 = 0) && decide (le b 10 6 = 0) && (!store || decide (x.spaces.getD r 3 ≠ 1))
  if !ok then .stop s 0x21 0 false
  else match (if store then s.writeSpace n r [(x.regs.getD r 0, toLe size value)] else .done s) with
    | .hold s' => .hold s'
    | .stop s' c a bus => .stop s' c a bus
    | .done s =>
      let s := s.modCh n fun x =>
        let x := if store then x.bump r (BitVec.ofNat 64 size) else x
        { x with jobs := x.jobs + 1, current := none }
      let next (s : State) : State := s.modCh n fun x => { x with cons := (x.cons + 1) % x.span, jobOn := false }
      match x.chain with
      | [_] => .done (next (s.chainEnd n .ok 0 value))
      | _ => .done (next (s.modCh n fun x => { x with chain := x.chain.drop 1, wait := .none, waitDue := none }))

/-! ## Running a channel -/

/-- What the engine sees of host memory: the reads that this step makes, and data that has returned before. -/
def State.dmaView (s : State) (n : Nat) (v : HostView) : HostView :=
  match (s.ch n).owner with
  | some (h, sl) => v ++ ((s.hp h).reads.filter (·.sl = sl)).map fun r => (r.addr, r.bytes)
  | none => v

/-- An instruction's end as the channel's. -/
def dmaEnds (n : Nat) : DmaOut → State
  | .done s' => s'
  | .hold s' => s'
  | .stop s' cause addr bus => if bus then s'.busError n cause addr else s'.haltCh n cause addr

/-- R283, R290, R302: the instruction at the program counter is fetched and checked, and run if its OP is `op` (any, for a retry); a malformed one stops the channel whichever was expected. -/
def State.dmaInstrRun (s : State) (n : Nat) (op : Option Nat) (view : HostView) (fault : Nat) : State :=
  let x := s.ch n
  let v := s.dmaView n view
  let run (s : State) (b : List Byte) : DmaOut :=
    let step (o : DmaOut) : DmaOut := match o with
      | .done s' => .done (s'.dmaStepped n)
      | o => o
    match byteAt b 0 with
    | 1 => step (s.dmaMoveRun n v fault b)
    | 2 => step (s.dmaLoopRun n b)
    | 3 => step (s.dmaWaitRun n b)
    | 4 => step (s.dmaSignalRun n b)
    | 5 => step (s.dmaSetupRun n b)
    | 6 => s.dmaEndRun n b
    | _ => .stop s 0x21 0 false
  if !x.jobOn then s
  else if (x.chain.headD {}).len ≤ x.pc then s.haltCh n 0x21 0
  else if let some (b, _) := x.move then
    if op.isSome && op ≠ some 1 then s else if fault = 2 then s.haltCh n 0x14 0 else dmaEnds n (run s b)
  else if fault = 2 then s.haltCh n 0x14 0
  else if fault = 1 && !x.progDev then s.haltCh n 0x13 0
  else if !x.progDev && !s.chUp n then s
  else
  let page := (524288 + 1024 * n + (x.chain.headD {}).prog.toNat + 16 * x.pc) / 128
  let bad := x.progDev && decide (s.readPage 3 page = .uncorrectable)
  let s' := if x.progDev then s.demandRead 3 page else s
  if bad then s'.haltCh n 0x14 0
  else match s.dmaInstr n v with
    | none => dmaEnds n (.stop s 0x12 ((x.chain.headD {}).prog + BitVec.ofNat 64 (16 * x.pc)) true)
    | some b =>
      let known := decide (1 ≤ byteAt b 0) && decide (byteAt b 0 ≤ 6)
      if known && op.isSome && op ≠ some (byteAt b 0) then s else dmaEnds n (run s' b)

/-- One instruction row: nothing while the channel waits to retry, but a poisoned read, which halts at once (Table 11-10). DEDUCED, log entry 31. -/
def State.dmaRow (s : State) (n op : Nat) (view : HostView) (fault : Nat) : State :=
  if !s.chRuns n then s
  else if (s.ch n).wait = .retry then (if fault = 1 && (s.ch n).jobOn then s.haltCh n 0x13 (s.ch n).haltAddr else s)
  else s.dmaInstrRun n (some op) view fault

/-- R282: the next entry of a chain starts: registers loaded, TUN_OUT registers checked. -/
def State.startEntry (s : State) (n : Nat) : State :=
  let x := s.ch n
  match x.chain with
  | [] => s
  | j :: _ =>
    let o := x.owner.getD (0, 0)
    let s := s.modCh n fun x =>
      { x with regs := j.regs, spaces := j.spaces, pc := 0, loops := [], move := none, setup := {}, acc := 0, odd := none, jobOn := true }
    let openOut (k : Nat) : Bool := s.mayTunOut o (j.regs.getD k 0) && decide ((s.tunnel (j.regs.getD k 0).toNat).state = .opened)
    if !j.ok x.progDev then s.haltCh n 0x20 0
    else if (List.range 4).any fun k => decide (j.spaces.getD k 3 = 2) && !openOut k then s.haltCh n 0x23 0
    else s

/-- R239, R240, R249, R282: an idle channel starts the next chain of its ring, if it is whole and its CQ has a holding slot; a chain under way starts its next entry. DEDUCED, log entry 137. -/
def State.startJob (s : State) (n : Nat) (view : HostView) : State :=
  let x := s.ch n
  match x.owner with
  | none => s
  | some (h, sl) =>
    if x.jobOn then s
    else if !x.chain.isEmpty then s.startEntry n
    else if !s.slotFree h sl x.cq || (s.slice h sl).state ≠ .active || !(s.hp h).writable then s
    else match x.readChain (s.dmaView n view) 32 [] with
      | .wait => s
      | .bad idx tag =>
        let s := (s.modCh n fun x => { x with chainFirst := x.cons, cons := idx }).ringEnd n tag .malformed 0x20
        s.modCh n fun x => { x with state := .error, haltCause := 0x20, haltAddr := 0, retryN := 0, wait := .none, retryDue := none }
      | .unreadable addr =>
        let s := s.modCh n fun x => { x with chainFirst := x.cons }
        s.busError n 0x10 addr
      | .chain jobs =>
        let last := jobs.getLastD {}
        let s := (s.modCh n fun x =>
          { x with chain := jobs, chainFirst := x.cons, chainTag := last.tag, chainIrq := last.irq, chainGen := (s.slice h sl).gen, jobBytes := 0
                   retryN := 0, retryDue := none, wait := .none }).takeSlot h sl x.cq
        s.startEntry n

/-- DMA_JOB_START (R282). -/
def execDmaJobStart (ch : Fin 64) (view : HostView) (s : State) : Result :=
  .next <| if s.chRuns ch.val && (s.ch ch.val).wait ≠ .retry then s.startJob ch.val view else s

/-- DMA_MOVE (R284). DESIGN CHOICE, log entry 138. -/
def execDmaMove (ch : Fin 64) (view : HostView) (fault : Fin 3) (s : State) : Result := .next (s.dmaRow ch.val 1 view fault.val)
/-- DMA_LOOP (R285). -/
def execDmaLoop (ch : Fin 64) (view : HostView) (fault : Fin 3) (s : State) : Result := .next (s.dmaRow ch.val 2 view fault.val)
/-- DMA_WAIT (R286). -/
def execDmaWait (ch : Fin 64) (view : HostView) (fault : Fin 3) (s : State) : Result := .next (s.dmaRow ch.val 3 view fault.val)
/-- DMA_SIGNAL (R287). -/
def execDmaSignal (ch : Fin 64) (view : HostView) (fault : Fin 3) (s : State) : Result := .next (s.dmaRow ch.val 4 view fault.val)
/-- DMA_SETUP (R288). -/
def execDmaSetup (ch : Fin 64) (view : HostView) (fault : Fin 3) (s : State) : Result := .next (s.dmaRow ch.val 5 view fault.val)
/-- DMA_END (R289). -/
def execDmaEnd (ch : Fin 64) (view : HostView) (fault : Fin 3) (s : State) : Result := .next (s.dmaRow ch.val 6 view fault.val)

/-- DMA_RETRY_EXPIRY (R302): the retry wait ends and the access is made again. -/
def execDmaRetryExpiry (ch : Fin 64) (view : HostView) (fault : Fin 3) (s : State) : Result :=
  let n := ch.val
  let x := s.ch n
  .next <|
    if !s.chRuns n || x.wait ≠ .retry || !s.due x.retryDue then s
    else
      let s := s.modCh n fun x => { x with retryDue := none, wait := .none }
      if x.jobOn then s.dmaInstrRun n none view fault.val else s.startJob n view

/-- DMA_WAIT_TIMEOUT (R286): TIMEOUT passes before the WAIT's triggers. -/
def execDmaWaitTimeout (ch : Fin 64) (s : State) : Result :=
  let n := ch.val
  let x := s.ch n
  .next <| if s.chRuns n && x.wait = .trigger && s.due x.waitDue then s.haltCh n 0x15 0 else s

/-- R296: the first instant of the series first + k × period that has not passed. -/
def seriesFrom (first period now : Nat) : Nat :=
  if now ≤ first then first else first + (now - first + period - 1) / period * period

/-- DMA_TIMER_EXPIRY (R296, R297, R387): every channel that names the timer is triggered; wake source 16. While XFER is off no trigger arrives (DESIGN CHOICE, log entry 163). -/
def execDmaTimerExpiry (timer : Fin 16) (s : State) : Result :=
  let t := Tab.get {} s.xfer.timers timer.val
  .next <|
    if t.enabled && s.due (some t.next) then
      let s := s.modXfer fun y => { y with timers := Tab.set {} timer.val { t with next := t.next + BitVec.ofNat 64 t.period } y.timers }
      (if s.domainOff 8 then s else s.triggerAll 0 timer.val none).wakeCfg 16
    else s

/-- R92: the header of a landed block implies more cells than have come. -/
def blockShort (b : List Byte) : Bool :=
  decide (b.length / 120 < blockFlits (le b 14 2) (byteAt b 16 + 1) (byteAt b 17 % 8))

/-- BLOCK_LANDED (R298, R299): the BL cell staged for the channel's line lands: the block is in its slot and its trigger counted. -/
def execBlockLanded (ch : Fin 64) (s : State) : Result :=
  let n := ch.val
  let l := Tab.get [] s.marl.staging agentXfer
  let mine (c : Cell) : Bool := decide (c.cls = 1) && decide (s.lineCh (s.lineOf c.flow) = some n)
  .next <|
    match l.find? mine with
    | none => s
    | some c =>
      let s := s.modMarl fun m => { m with staging := Tab.set [] agentXfer (eraseFirst mine l) m.staging }
      s.modCh n fun x =>
        let b := x.landing ++ c.payload
        let landed := x.landed ++ [(b, blockShort b, x.landPois || c.poison)]
        { x with landed := landed, landing := [], landPois := false, pending := landed.length }

end Sys2Proof.Machine
end

