-- ==== Sys2Proof/Machine/Device.lean ====
section
/-! DEFINITION. Sys2Proof/Machine/Device.lean: the device functions (R187 to R198). -/

namespace Sys2Proof.Machine

/-! ## The descriptor set (R189) -/

/-- Descriptors that follow one another to the end of the bytes; none where a length is bad. -/
def subDescs : Nat → List Byte → Option (List (List Byte))
  | _, [] => some []
  | 0, _ => none
  | n + 1, b =>
    let len := byteAt b 0
    if len < 2 || b.length < len then none else (subDescs n (b.drop len)).map (b.take len :: ·)

/-- A configuration or BOS descriptor counts with all that its total length holds. -/
def descLength (b : List Byte) : Nat := if byteAt b 1 = 2 || byteAt b 1 = 15 then le b 2 2 else byteAt b 0

/-- A descriptor of the set stands whole and well formed at the start of the bytes. -/
def descOk (b : List Byte) : Bool :=
  let len := byteAt b 0
  let n := descLength b
  decide (len ≤ n) && decide (n ≤ b.length) && decide (2 ≤ len)
    && (match byteAt b 1 with
      | 1 => decide (len = 18)
      | 2 => decide (len = 9) && (subDescs n (b.take n)).isSome
      | 3 => true
      | 15 => decide (len = 5) && (subDescs n (b.take n)).isSome
      | _ => false)

/-- The descriptors of a set, in order: device, BOS, configuration and string descriptors. -/
def topDescs : Nat → List Byte → Option (List (List Byte))
  | _, [] => some []
  | 0, _ => none
  | n + 1, b => if descOk b then (topDescs n (b.drop (descLength b))).map (b.take (descLength b) :: ·) else none

/-- R189: the set parses: one device descriptor and a configuration. -/
def descSetOk (b : List Byte) : Bool :=
  match topDescs b.length b with
  | some l => decide ((l.filter fun d => decide (byteAt d 1 = 1)).length = 1) && l.any fun d => decide (byteAt d 1 = 2)
  | none => false

/-- The `i`-th descriptor of a type. -/
def Fn.descriptor (f : Fn) (typ i : Nat) : Option (List Byte) :=
  (((topDescs f.desc.length f.desc).getD []).filter fun d => decide (byteAt d 1 = typ))[i]?

/-- The configuration of a value. -/
def Fn.configuration (f : Fn) (v : Nat) : Option (List Byte) :=
  ((topDescs f.desc.length f.desc).getD []).find? fun d => decide (byteAt d 1 = 2) && decide (byteAt d 5 = v)

/-- Interface, alternate setting and address of each endpoint of a configuration; an interface itself is listed with address 0. -/
def Fn.endpoints (f : Fn) (v : Nat) : List (Nat × Nat × Nat) :=
  let subs := ((f.configuration v).bind fun c => subDescs c.length c).getD []
  (subs.foldl (fun (a : (Nat × Nat) × List (Nat × Nat × Nat)) d =>
    match byteAt d 1 with
    | 4 => ((byteAt d 2, byteAt d 3), a.2 ++ [(byteAt d 2, byteAt d 3, 0)])
    | 5 => (a.1, a.2 ++ [(a.1.1, a.1.2, byteAt d 2)])
    | _ => a) ((0, 0), [])).2

/-- The alternate setting of an interface. -/
def Fn.alt (f : Fn) (iface : Nat) : Nat := ((f.alts.find? fun e => decide (e.1 = iface)).map Prod.snd).getD 0

/-- R192: the present configuration and alternate settings include the endpoint. -/
def Fn.includes (f : Fn) (addr : Nat) : Bool :=
  decide (f.state = .configured) && (f.endpoints f.config).any fun e => decide (e.2.2 = addr) && decide (f.alt e.1 = e.2.1)

/-- R198: the descriptor set of the diagnostic function. DESIGN CHOICE, log entry 128. -/
def diagDesc : List Byte :=
  [18, 1, 0x20, 0x03, 0, 0, 0, 9] ++ toLe 2 0x3A9D ++ toLe 2 0x1224 ++ [0, 0, 0, 0, 0, 1]
  ++ [9, 2, 32, 0, 1, 1, 0, 0xC0, 0] ++ [9, 4, 0, 0, 2, 0xFF, 0x01, 0, 0] ++ [7, 5, 0x01, 2, 0, 2, 0] ++ [7, 5, 0x81, 2, 0, 2, 0]

/-! ## Endpoints and notices of a function -/

/-- The endpoint contexts of a function. -/
def State.fnEps (s : State) (n : Nat) : List Nat :=
  (s.xfer.eps.filter fun e => decide (e.2.slot = 0x8000 + n) && decide (e.2.state ≠ .disabled)).map Prod.fst

/-- The USB address of an endpoint. -/
def Ep.address (x : Ep) : Nat := x.num + 128 * flag x.dirIn

/-- Endpoint 0 of a function. -/
def State.fnEp0 (s : State) (n : Nat) : Option Nat := (s.fnEps n).find? fun e => decide ((s.ep e).num = 0)

/-- The endpoint of an address. -/
def State.fnEp (s : State) (n num : Nat) (dirIn : Bool) : Option Nat :=
  (s.fnEps n).find? fun e => decide ((s.ep e).num = num) && ((s.ep e).dirIn == dirIn)

/-- R192: a notice on the function's notify queue; its event source. -/
def State.devNotice (s : State) (n code : Nat) (detail : List Byte) : State :=
  let f := s.fn n
  let s := match f.owner with
    | some (h, sl) => s.notice h sl f.notifyQ 0xFFFF .ok (noticeResult code 0 n detail 0 s.now)
    | none => s
  s.event 0x15A

/-- R196, R197: the remote wake in progress ends. -/
def State.endWake (s : State) (n : Nat) (st : Status) : State :=
  let f := s.fn n
  (s.setFn n { f with wakePend := none, wakeSig := false }).completeOpt f.wakePend 0x0412 st 0 []

/-- R192: rings that the configuration and settings now include run again if only their being left out held them; the others are held in STOPPED, a chain in progress ABORTED. -/
def State.devSettings (s : State) (n : Nat) : State :=
  (s.fnEps n).foldl (fun s e =>
    let x := s.ep e
    if x.num = 0 then s
    else if (s.fn n).includes x.address then
      if x.state = .stopped && x.cfgStop then s.setEp e { x with state := x.restState, cfgStop := false } else s
    else if x.state = .stopped then s
    else (s.stopEp e .aborted 0 .stopped).modEp e fun x => { x with cfgStop := true }) s

/-! ## Control transfers (R190, R191, R193, R194) -/

/-- Every chain of the control transfer still on the EP0 ring completes, up to the next SETUP TD. DEDUCED, log entry 129. -/
def State.flushControl (s : State) (v : HostView) (e : Nat) (st : Status) (xcode : Nat) : Nat → State
  | 0 => s
  | n + 1 =>
    let x := s.ep e
    match x.owner with
    | none => s
    | some (h, sl) =>
      match x.readChain v 32 [] with
      | .chain tds =>
        if (tds.headD {}).typ = 1 then s
        else
          let last := (x.cons + tds.length + x.span - 1) % x.span
          let td := tds.getLastD {}
          let entry : CqEntry := { tag := td.tag, status := st, gen := (s.slice h sl).gen, kind := 1, irq := td.irq
                                   result := usbResult e last 0 xcode false 0 }
          let y := { x with cons := (last + 1) % x.span }
          ((s.setEp e { y with state := y.restState }).enginePost h sl x.cq entry false).flushControl v e st xcode n
      | _ => s

/-- R193, R194: the open control transfer of EP0 ends: the chain in progress with its bytes, the rest of the transfer with none. -/
def State.endControl (s : State) (v : HostView) (e : Nat) (st : Status) (xcode : Nat) : State :=
  let x := s.ep e
  let s := s.endChain e st xcode false
  let s := if x.ctlOpen && x.setup.isEmpty then s.flushControl v e st xcode 32768 else s
  s.modEp e fun x => { x with ctlOpen := false, busy := false, state := if x.state = .active || x.state = .idle then x.restState else x.state }

/-- R191, R194: a held SETUP packet is delivered to the SETUP TD at the head of the EP0 ring; data-stage chains of the transfer before it complete ABORTED. DEDUCED, log entry 129. -/
def State.deliverSetup (s : State) (v : HostView) (e : Nat) : State :=
  let x := s.ep e
  if x.setup.isEmpty || x.chain.isSome || x.state ≠ .active then s
  else
    let s := s.flushControl v e .aborted 8 32768
    let x := s.ep e
    match x.owner with
    | none => s
    | some (h, sl) =>
      if x.state ≠ .active || !s.slotFree h sl x.cq || (s.slice h sl).state ≠ .active then s
      else match x.readChain v 32 [] with
        | .wait => s
        | .bad idx tag => (s.setEp e { x with cons := idx, state := .error, latched := idx }).ringStop e tag .malformed 0
        | .unreadable idx => (s.setEp e { x with cons := idx, state := .halted, latched := idx }).ringStop e 0xFFFF .mediaError 3
        | .chain tds =>
          let td := tds.headD {}
          if !s.addrOk td.addr then (s.setEp e { x with state := .halted, latched := x.cons }).ringStop e 0xFFFF .mediaError 3
          else
            let s := s.hostWrite h sl td.addr x.setup
            let entry : CqEntry := { tag := td.tag, gen := (s.slice h sl).gen, kind := 1, irq := td.irq
                                     result := toLe 2 e ++ toLe 2 x.cons ++ toLe 4 8 ++ x.setup }
            let y := { x with cons := (x.cons + 1) % x.span, setup := [], toggle := true }
            (s.setEp e { y with state := y.restState }).enginePost h sl x.cq entry false

/-- What the function sends on the bus: 0 data, 1 ACK, 2 NAK, 3 STALL, 4 NRDY, 5 ERDY, 6 wake signalling, 7 a Function Wake notification. DESIGN CHOICE, log entry 143. -/
def State.devSend (s : State) (n ep kind : Nat) (bytes : List Byte) : State := s.send (.dev n ep kind bytes)

/-- R190: no TD is ready. -/
def State.devNak (s : State) (n ep : Nat) : State := s.devSend n ep (if 3 ≤ (s.fn n).speed then 4 else 2) []

/-! ## Standard requests (R189) -/

/-- R189: the standard requests that the AX1224 answers by itself. DEDUCED, log entry 129. -/
def standardRequest (p : List Byte) : Bool :=
  decide (bits (byteAt p 0) 6 5 = 0) && [0, 1, 3, 5, 6, 8, 9, 10, 11, 48, 49].contains (byteAt p 1)

/-- The endpoint that a request's wIndex names. -/
def State.fnEpAt (s : State) (n addr : Nat) : Option Nat :=
  if addr % 16 = 0 then s.fnEp0 n else s.fnEp n (addr % 16) (decide (128 ≤ addr))

/-- The halt feature of an endpoint; clearing it resets its toggle and sequence. -/
def State.setHalt (s : State) (e : Nat) (b : Bool) : State :=
  s.modEp e fun x => if b then { x with halted := true } else { x with halted := false, toggle := false, seqnum := 0 }

/-- GET_STATUS: self-powered and remote wake of the device, the remote-wake bits of an interface, the halt of an endpoint. -/
def State.devStatus (s : State) (n : Nat) (p : List Byte) : Nat :=
  let f := s.fn n
  match bits (byteAt p 0) 4 0 with
  | 0 => 1 + 2 * flag (f.wakeEn && decide (f.speed < 3))
  | 1 => if 3 ≤ f.speed then 1 + 2 * flag f.wakeEn else 0
  | _ => match s.fnEpAt n (byteAt p 4) with
    | some e => flag (s.ep e).halted
    | none => 0

/-- SET_FEATURE and CLEAR_FEATURE (R196): DEVICE_REMOTE_WAKEUP at USB 2.0, function remote wake at SuperSpeed, ENDPOINT_HALT; U1, U2 and LTM enables are taken. -/
def State.devFeature (s : State) (n : Nat) (p : List Byte) (on : Bool) : Option State :=
  let f := s.fn n
  let feature := le p 2 2
  match bits (byteAt p 0) 4 0 with
  | 0 =>
    if feature = 1 && f.speed < 3 then some (s.setFn n { f with wakeEn := on })
    else if 48 ≤ feature && feature ≤ 50 && 3 ≤ f.speed then some s else none
  | 1 => if feature = 0 && 3 ≤ f.speed then some (s.setFn n { f with wakeEn := on && bitOf (byteAt p 5) 1 }) else none
  | _ => if feature = 0 then (s.fnEpAt n (byteAt p 4)).map fun e => s.setHalt e on else none

/-- SET_CONFIGURATION (Table 7-5). -/
def State.setConfiguration (s : State) (n v : Nat) : Option State :=
  let f := s.fn n
  if v = 0 then
    if f.state = .configured then some ((s.setFn n { f with state := .address, config := 0, alts := [] }).devSettings n)
    else if f.state = .address then some s else none
  else if (f.configuration v).isNone || f.state = .default then none
  else
    let s := (s.setFn n { f with state := .address, config := 0, alts := [] }).devSettings n
    some (((s.setFn n { f with state := .configured, config := v, alts := [] }).devSettings n).devNotice n 0x23 (toLe 1 v))

/-- SET_INTERFACE (Table 7-5). -/
def State.setInterface (s : State) (n iface alt : Nat) : Option State :=
  let f := s.fn n
  if f.state = .configured && (f.endpoints f.config).any fun e => decide (e.1 = iface) && decide (e.2.1 = alt) then
    let alts := (f.alts.filter fun e => decide (e.1 ≠ iface)) ++ (if alt = 0 then [] else [(iface, alt)])
    some (((s.setFn n { f with alts := alts }).devSettings n).devNotice n 0x27 (toLe 1 iface ++ toLe 1 alt))
  else none

/-- R195: a configuration descriptor (of the other speed too) as the function reports it: bit 6 of its bmAttributes, byte 7, says self-powered. PRESUMED, log entry 175. -/
def selfPowered (d : List Byte) : List Byte := if byteAt d 1 = 2 || byteAt d 1 = 7 then d.modify 7 (· ||| 0x40) else d

/-- R189: the answer to a standard request: the state after it and the data of an IN stage, or none for STALL. -/
def State.standardAnswer (s : State) (n : Nat) (p : List Byte) : Option (State × List Byte) :=
  let f := s.fn n
  let value := le p 2 2
  match byteAt p 1 with
  | 0 => some (s, toLe 2 (s.devStatus n p))
  | 1 => (s.devFeature n p false).map fun s => (s, [])
  | 3 => (s.devFeature n p true).map fun s => (s, [])
  | 5 =>
    let s' := s.setFn n { f with addr := value % 128, state := if f.state = .default && value % 128 ≠ 0 then .address else f.state }
    some (if f.state = .default && value % 128 ≠ 0 then s'.devNotice n 0x22 [] else s', [])
  | 6 => (f.descriptor (value / 256) (value % 256)).map fun d => (s, selfPowered d)
  | 8 => some (s, toLe 1 f.config)
  | 9 => (s.setConfiguration n (value % 256)).map fun s => (s, [])
  | 10 => if f.state = .configured then some (s, toLe 1 (f.alt (byteAt p 4))) else none
  | 11 => (s.setInterface n (byteAt p 4) value).map fun s => (s, [])
  | _ => some (s, [])

/-! ## Bus events -/

/-- A function that takes part in bus traffic: DEFAULT, ADDRESS or CONFIGURED. -/
def FnState.live : FnState → Bool
  | .default => true
  | .address => true
  | .configured => true
  | _ => false

/-- DEV_ATTACHED (R192, R195): fallback as UFP, VBUS valid, function bound, DEV_EN=1; a sink path is opened. -/
def execDevAttached (fn : Fin 2) (s : State) : Result :=
  let f := s.fn fn.val
  let d := (s.port f.port).pd
  if f.bound && f.state = .detached && d.inFallback && !d.roles.dfp && (d.conn = .attachedSrc || d.conn = .attachedSnk) && d.fbNow.devEn then
    let s := s.modPd f.port fun d => { d with pins := { d.pins with snkEn := false } }
    .next ((s.setFn fn.val { f with state := .attached, desc := if f.diag then diagDesc else f.desc }).devNotice fn.val 0x20 [])
  else .next s

/-- R188: the speed is offered: high and full speed, and SuperSpeed speeds up to the cap with SS_EN. -/
def State.devSpeedOk (s : State) (f : Fn) (speed : Nat) : Bool :=
  decide (speed < 2) || (decide (3 ≤ speed) && decide (speed ≤ f.cap + 2) && (s.port f.port).pd.fbNow.ssEn)

/-- R188: MPS of endpoint 0. -/
def ep0Mps (speed : Nat) : Nat := if 3 ≤ speed then 512 else 64

/-- R193: one endpoint other than EP0 at a bus reset: it stops with a completion, whatever its state. -/
def State.resetRing (s : State) (e : Nat) : State :=
  let x := s.ep e
  if x.num = 0 then s.modEp e fun x => { x with halted := false, toggle := false, seqnum := 0 }
  else
    let s := if x.chain.isSome then s.stopEp e .busReset 0 .stopped
      else (s.ringStop e 0xFFFF .busReset 0).stopEp e .busReset 0 .stopped
    s.modEp e fun x => { x with cfgStop := false, resetStop := true, halted := false, toggle := false, seqnum := 0 }

/-- DEV_BUS_RESET (R188, R192, R193, R197): the first reset after the attach finds no ring that runs, and leaves them held. DEDUCED, log entry 129. -/
def execDevBusReset (fn : Fin 2) (speed : Fin 7) (view : HostView) (s : State) : Result :=
  let n := fn.val
  let s := s.drainAll view
  if (s.fn n).state = .detached || !s.devSpeedOk (s.fn n) speed.val then .next s
  else
    let s := s.endWake n .busReset
    let s := match s.fnEp0 n with
      | some e => (s.endControl view e .busReset 0).modEp e fun x => { x with setup := [], halted := false, mps := ep0Mps speed.val }
      | none => s
    let s := if (s.fn n).state = .attached then s else (s.fnEps n).foldl State.resetRing s
    let s := s.setFn n { s.fn n with state := .default, addr := 0, config := 0, alts := [], wakeEn := false, speed := speed.val }
    .next (s.devNotice n 0x21 (toLe 1 speed.val))

/-- DEV_SETUP_RECEIVED (R189, R191, R194). -/
def execDevSetupReceived (fn : Fin 2) (packet : List Byte) (view : HostView) (s : State) : Result :=
  let n := fn.val
  let s := s.drainAll view
  if !(s.fn n).state.live || packet.length ≠ 8 then .next s
  else
    let e0 := s.fnEp0 n
    let s := match e0 with
      | some e =>
        let held := !(s.ep e).setup.isEmpty
        let s := if (s.ep e).ctlOpen then s.endControl view e .aborted 8 else s
        let s := s.modEp e fun x => { x with setup := [] }
        if held then s.setFn n { s.fn n with setupReplaced := (s.fn n).setupReplaced + 1 } else s
      | none => s
    if standardRequest packet then
      match s.standardAnswer n packet with
      | some (s', data) => .next (s'.devSend n 0 (if bitOf (byteAt packet 0) 7 then 0 else 1) (data.take (le packet 6 2)))
      | none => .next (s.devSend n 0 3 [])
    else match e0 with
      | some e => .next (((s.modEp e fun x => { x with setup := packet, ctlOpen := true }).devSend n 0 1 []).deliverSetup view e)
      | none => .next (s.devSend n 0 3 [])

/-- R190: one packet of the chain in progress; `acked` tells whether the host acknowledged what was sent. -/
def State.devPacket (s : State) (n e : Nat) (dirIn : Bool) (dpid : Nat) (data : List Byte) (acked : Bool) (v : HostView) : State :=
  let x := s.ep e
  match x.chain with
  | none => s.devNak n x.num
  | some c =>
    let td := c.tds.getD c.cur {}
    let k := min x.mps (td.len - c.off)
    if dirIn then
      match v.read (td.addr + BitVec.ofNat 64 c.off) k with
      | none => s.stopEp e .mediaError 3 .halted
      | some bytes =>
        let (s, bad) := s.epBuffer x bytes
        if bad then s.poisonEnd e else
        let s := s.devSend n x.num 0 bytes
        if acked then s.movedOut e k s.cycle32 else s
    else (s.devSend n x.num 1 []).movedIn e (if td.typ = 4 then 0 else k) dpid data s.cycle32 false

/-- R190, R194: a token on EP0: the control transfer's chain, which the host ends early by going to the status stage. -/
def State.ep0Token (s : State) (n e : Nat) (dirIn : Bool) (dpid : Nat) (data : List Byte) (acked : Bool) (v : HostView) : State :=
  let s := s.deliverSetup v e
  let x := s.ep e
  if !x.ctlOpen || !x.setup.isEmpty then s.devNak n 0
  else
    let isSetup := match x.chain, x.readChain v 32 [] with
      | none, .chain tds => decide ((tds.headD {}).typ = 1)
      | _, _ => false
    let running : Bool := match x.owner with
      | some (h, sl) => decide ((s.slice h sl).state = .active)
      | none => false
    let s := if isSetup || !running then s else s.startChain v e
    let x := s.ep e
    match x.chain with
    | none => s.devNak n 0
    | some c =>
      let td := c.tds.getD c.cur {}
      if td.typ = 6 then
        ((s.devSend n 0 3 []).endChain e .ok 0 false).modEp e fun x => { x with ctlOpen := false, state := x.restState }
      else
        let early := (td.typ = 2 && !dirIn) || (td.typ = 3 && dirIn)
        let c := if early then { c with cur := c.tds.length - 1, off := 0 } else c
        let td := c.tds.getD c.cur {}
        if td.typ = 4 && c.statusIn != dirIn then s.devNak n 0
        else
          let s := (s.setEp e { x with chain := some c }).devPacket n e dirIn dpid data acked v
          s.modEp e fun x => { x with ctlOpen := x.ctlOpen && (x.chain.isSome || td.typ ≠ 4) }

/-- R198: the bulk OUT endpoint of the diagnostic function carries submission entries; each is a command of one entry. DESIGN CHOICE, log entry 128. -/
def State.diagEntries (s : State) (data : List Byte) : State :=
  (splitEntries (data.length / 64) data).foldl (fun s m =>
    let c := msgCmd .diag m
    let op := entryOpcode m
    let s := s.startCmd c op
    if msgFormOk m then s else s.complete c op .malformed 0 []) s

/-- DEV_TOKEN (R190, R192, R198): an IN or OUT token, with the data of an OUT; served, answered NAK or NRDY, or STALL on a halted endpoint. -/
def execDevToken (fn : Fin 2) (ep : Fin 16) (dirIn : Bool) (dpid : Fin 4) (data : List Byte) (acked : Bool) (view : HostView) (s : State) : Result :=
  let n := fn.val
  let s := s.drainAll view
  let f := s.fn n
  if !f.state.live then .next s
  else if f.diag && ep.val ≠ 0 then
    if f.includes (ep.val + 128 * flag dirIn) then
      .next (if dirIn then s.devNak n ep.val else (s.devSend n ep.val 1 []).diagEntries data)
    else .next s
  else if ep.val = 0 then
    match s.fnEp0 n with
    | some e => .next (s.ep0Token n e dirIn dpid.val data acked view)
    | none => .next (s.devNak n 0)
  else match s.fnEp n ep.val dirIn with
    | none => .next s
    | some e =>
      if !f.includes (s.ep e).address then .next s
      else if (s.ep e).halted then .next (s.devSend n ep.val 3 [])
      else
        let running : Bool := match (s.ep e).owner with
          | some (h, sl) => decide ((s.slice h sl).state = .active)
          | none => false
        let s := if running then s.startChain view e else s
        .next (s.devPacket n e dirIn dpid.val data acked view)

/-- DEV_SUSPENDED (R192, R195). -/
def execDevSuspended (fn : Fin 2) (s : State) : Result :=
  let f := s.fn fn.val
  if f.state.live then .next ((s.setFn fn.val { f with state := .suspended, before := f.state, suspAt := s.now }).devNotice fn.val 0x24 [])
  else .next s

/-- DEV_HOST_RESUME (R192, R195 to R197): a pending remote wake is superseded; one that has signalled is answered. -/
def execDevHostResume (fn : Fin 2) (s : State) : Result :=
  let n := fn.val
  let f := s.fn n
  if f.state ≠ .suspended then .next s
  else
    let s := s.setFn n { f with state := f.before }
    let s := if f.wakeSig && 3 ≤ f.speed then s.devSend n 0 7 [] else s
    .next ((s.endWake n (if f.wakeSig then .ok else .superseded)).devNotice n 0x25 [])

/-- DEV_WAKE_SIGNAL_START (R196): at USB 2.0 from 5 ms after suspend entry, K for 2 ms; at SuperSpeed LFPS. -/
def execDevWakeSignalStart (fn : Fin 2) (s : State) : Result :=
  let n := fn.val
  let f := s.fn n
  let ss := decide (3 ≤ f.speed)
  if f.state = .suspended && f.wakePend.isSome && !f.wakeSig && (ss || decide (f.suspAt.toNat + 5000000 ≤ s.now.toNat)) then
    .next ((s.setFn n { f with wakeSig := true, wakeEnd := if ss then s.now else s.after 2000000 }).devSend n 0 6 [])
  else .next s

/-- DEV_WAKE_TIMEOUT (R197): 100 ms after signalling ended: the request completes TIMEOUT, the function stays SUSPENDED. -/
def execDevWakeTimeout (fn : Fin 2) (s : State) : Result :=
  let n := fn.val
  let f := s.fn n
  if f.wakePend.isSome && f.wakeSig && f.wakeEnd.toNat + 100000000 ≤ s.now.toNat then .next (s.endWake n .timeout) else .next s

/-- R192, R197: a function goes to DETACHED: the wake request and every outstanding chain complete ABORTED, the rings stop. DEDUCED, log entry 129. -/
def State.devDetach (s : State) (n : Nat) : State :=
  if (s.fn n).state = .detached then s
  else
    let s := s.endWake n .aborted
    let s := (s.fnEps n).foldl (fun s e =>
      let s := s.stopEp e .aborted 0 .stopped
      s.modEp e fun x =>
        { x with ctlOpen := false, setup := [], halted := false, resetStop := false, cfgStop := true
                 state := if x.num = 0 then (if x.used = 0 then .idle else .stopped) else .stopped
                 ending := if x.used = 0 then none else some (.aborted, (x.owner.map fun o => (s.slice o.1 o.2).gen).getD 0)
                 endKeep := decide (x.used ≠ 0) }) s
    let s := s.setFn n { s.fn n with state := .detached, addr := 0, config := 0, alts := [], wakeEn := false, speed := 0 }
    s.devNotice n 0x26 []

/-- The functions bound to a port are detached; the diagnostic function is released. -/
def State.portDevices (s : State) (p : Nat) : State :=
  [0, 1].foldl (fun s n =>
    let f := s.fn n
    if f.bound && f.port = p then
      let s := s.devDetach n
      if f.diag then (s.setFn n {}).presentDiags p else s
    else s) s

/-- DEV_DETACHED (R192): VBUS lost, CC detach, Hard Reset or Jayth entry on the function's port. -/
def execDevDetached (fn : Fin 2) (s : State) : Result := .next (s.devDetach fn.val)

/-! ## Commands (R187, R196, R197) -/

/-- The USB_DEV_BIND payload in force (R415). -/
def Fn.value (f : Fn) : List Byte :=
  if f.bound then toLe 1 f.port ++ toLe 1 f.notifyQ ++ toLe 1 f.cap ++ [0] ++ toLe 2 f.desc.length ++ toLe 2 0 ++ toLe 8 f.descAddr.toNat else []

def infoUsbDevBind : CmdInfo := { opcode := 0x0410, fromS := true, fromO := true, journal := true, len := 16 }

/-- What the checks of USB_DEV_BIND find (R187, R189, R198). -/
def checksUsbDevBind (c : Cmd) (s : State) : Checks :=
  let p := c.payload
  let port := byteAt p 0
  let len := le p 4 2
  let diagHere := [0, 1].find? fun n => (s.fn n).bound && (s.fn n).diag && decide ((s.fn n).port = port)
  let desc := match c.data with
    | .ok b => padTo len b
    | .err _ => []
  let f : Fn := { bound := true, owner := c.route.slice?, port := port, notifyQ := byteAt p 1, cap := byteAt p 2, desc := desc
                  descAddr := BitVec.ofNat 64 (le p 8 8) }
  { bad := firstBad [rangeField 0 1 0 11, rangeField 1 1 0 63, rangeField 2 1 0 4, rangeField 4 2 1 4096, anyField 8 8] p
    refuse := firstSome [s.needs 8,
      failIf ([0, 1].any fun n => (s.fn n).bound && !(s.fn n).diag && decide ((s.fn n).port = port)) .busy 0,
      failIf (diagHere.isNone && [0, 1].all fun n => (s.fn n).bound) .noResource 0,
      failIf c.accessFailed .mediaError 0, failIf (!descSetOk desc) .malformed 8]
    object := port, new := f.value }

/-- USB_DEV_BIND (R187, R189, R198): the descriptor set is what the read of host memory returned. -/
def execUsbDevBind (c : Cmd) (s : State) : Result :=
  let p := c.payload
  let port := byteAt p 0
  let len := le p 4 2
  let diagHere := [0, 1].find? fun n => (s.fn n).bound && (s.fn n).diag && decide ((s.fn n).port = port)
  let n := diagHere.getD (([0, 1].find? fun n => !(s.fn n).bound).getD 0)
  let desc := match c.data with
    | .ok b => padTo len b
    | .err _ => []
  let f : Fn := { bound := true, owner := c.route.slice?, port := port, notifyQ := byteAt p 1, cap := byteAt p 2, desc := desc
                  descAddr := BitVec.ofNat 64 (le p 8 8) }
  .next <| s.command infoUsbDevBind c (checksUsbDevBind c s) fun s =>
      let s := match diagHere with
        | some m => s.devDetach m
        | none => s
      (s.setFn n f).ok c 0x0410 [BitVec.ofNat 8 n]

/-- The function is bound by the slice the command came from. -/
def State.ownsFn (s : State) (c : Cmd) (n : Nat) : Bool :=
  let f := s.fn n
  f.bound && f.owner.isSome && decide (c.route.slice? = f.owner)

def infoUsbDevUnbind : CmdInfo := { opcode := 0x0411, fromS := true, fromO := true, journal := true, len := 1 }

/-- R187, R198, R210: a function is released: DETACHED, its endpoints disabled; a sink path that it kept open closes again, and the diagnostic function may take its place. -/
def State.releaseFn (s : State) (n : Nat) : State :=
  let s := s.devDetach n
  let s := (s.fnEps n).foldl (fun s e =>
    s.disableEp e .aborted (((s.ep e).owner.map fun o => (s.slice o.1 o.2).gen).getD 0)) s
  let p := (s.fn n).port
  let d := (s.port p).pd
  let s := s.setFn n {}
  let s := if d.conn = .attachedSnk && !d.roles.source && (d.contract.isSome || d.pdOff) then s.sinkOn p else s
  s.presentDiags 12

/-- What the checks of USB_DEV_UNBIND find (R187). -/
def checksUsbDevUnbind (c : Cmd) (s : State) : Checks :=
  let n := byteAt c.payload 0
  { bad := firstBad [rangeField 0 1 0 1] c.payload
    owned := s.ownsFn c n
    refuse := s.needs 8
    object := n, old := (s.fn n).value }

/-- USB_DEV_UNBIND (R187). -/
def execUsbDevUnbind (c : Cmd) (s : State) : Result :=
  let n := byteAt c.payload 0
  .next <| s.command infoUsbDevUnbind c (checksUsbDevUnbind c s) fun s => (s.releaseFn n).ok c 0x0411 []

def infoUsbDevCtrl : CmdInfo := { opcode := 0x0412, fromS := true, len := 4 }

/-- What the checks of USB_DEV_CTRL find (R196, R197). -/
def checksUsbDevCtrl (c : Cmd) (s : State) : Checks :=
  let n := byteAt c.payload 0
  let a := byteAt c.payload 1
  let e := le c.payload 2 2
  let f := s.fn n
  { bad := firstBad [rangeField 0 1 0 1, rangeField 1 1 1 3, ⟨2, 2, fun v => decide (a = 1) || decide (v < 4096)⟩] c.payload
    owned := s.ownsFn c n && (decide (a = 1) || (s.fnEps n).contains e)
    refuse := firstSome [s.needs 8, failIf (decide (a = 1) && f.wakePend.isSome) .busy 0,
      failIf (decide (a = 1) && (decide (f.state ≠ .suspended) || !f.wakeEn)) .denied 4] }

/-- USB_DEV_CTRL (R196, R197): remote wake, or the halt of an endpoint. -/
def execUsbDevCtrl (c : Cmd) (s : State) : Result :=
  let n := byteAt c.payload 0
  let a := byteAt c.payload 1
  let e := le c.payload 2 2
  let f := s.fn n
  .next <| s.command infoUsbDevCtrl c (checksUsbDevCtrl c s) fun s =>
      if a = 1 then s.setFn n { f with wakePend := some c, wakeSig := false }
      else (s.setHalt e (decide (a = 2))).ok c 0x0412 []

end Sys2Proof.Machine
end

