-- ==== Sys2Proof/Machine/UsbCmd.lean ====
section
/-! DEFINITION. Sys2Proof/Machine/UsbCmd.lean: the commands and the doorbell of the USB host engine (R151 to R155, R164, R171, R174, R180, R181, R272, R273). -/

namespace Sys2Proof.Machine

/-- The command came from the slice that owns the object. -/
def Cmd.owns (c : Cmd) (o : Option (Nat × Nat)) : Bool := decide (c.route.slice? = o) && o.isSome

/-! ## Roots -/

/-- R119: a tunnel is torn down and created anew as one step: the next generation, one TUN_OPEN. -/
def State.replaceTunnel (s : State) (tid : Nat) (n : Tunnel) : State :=
  let t := s.tunnel tid
  let s := s.completeOpt t.create 0x0201 .aborted 0 []
  let s := (s.endModify tid .aborted 0).failQueued tid .denied 0x40
  let s := s.completeOpt t.destroy 0x0202 .ok 0 [t.gen + 1]
  let s := (s.dropAwaits t.port tid).releaseTun t.port t.tun t.cls 0
  s.makeTunnel tid { n with state := .opening, gen := t.gen + 1, restore := false, create := none, destroy := none, modify := none, queued := [] }

/-- R415: the USB_ROOT_BIND payload in force; empty when the root is not bound. -/
def Root.value (x : Root) (r : Nat) : List Byte :=
  match x.owner with
  | some (h, sl) => toLe 1 r ++ toLe 1 x.notifyQ ++ toLe 1 (flag x.autoSuspend) ++ toLe 2 (sl + 256 * h + 512) ++ [0] ++ toLe 2 x.tunLead
      ++ toLe 8 x.perBase.toNat ++ toLe 8 x.asyncBase.toNat
  | none => []

/-- The owner that an OWNER field gives a root or channel: the slice named, or the issuing one. -/
def ownerSlice (r : Route) (v : Nat) : Option (Nat × Nat) :=
  match ownerNamed r v with
  | .slice h sl => some (h, sl)
  | _ => none

def infoUsbRootBind : CmdInfo := { opcode := 0x0401, fromS := true, fromO := true, journal := true, len := 24 }

/-- What the checks of USB_ROOT_BIND find (R151, R166). -/
def checksUsbRootBind (c : Cmd) (s : State) : Checks :=
  let p := c.payload
  let r := byteAt p 0
  let x := s.root r
  let base := BitVec.ofNat 64 (le p 16 8)
  let n : Root := { x with owner := ownerSlice c.route (le p 3 2), notifyQ := byteAt p 1, notifyTag := 0xFFFF, autoSuspend := bitOf (byteAt p 2) 0
                           tunLead := if le p 6 2 = 0 then 20 else le p 6 2, perBase := BitVec.ofNat 64 (le p 8 8)
                           asyncBase := base, asyncNext := base, asyncSleep := false, prefetch := none }
  { bad := firstBad [rangeField 0 1 0 23, rangeField 1 1 0 63, rangeField 2 1 0 1, ⟨3, 2, ownerFieldOk⟩,
      ⟨6, 2, fun v => decide (v = 0) || (decide (5 ≤ v) && decide (v ≤ 100))⟩, ⟨8, 8, fun v => decide (v % 4096 = 0)⟩,
      ⟨16, 8, fun v => decide (bits v 5 1 = 0)⟩] p
    owned := mayNameOwner c.route (le p 3 2)
    refuse := firstSome [s.needs 8, failIf x.owner.isSome .busy 0]
    object := r, old := x.value r, new := n.value r }

/-- USB_ROOT_BIND (R151, R166). -/
def execUsbRootBind (c : Cmd) (s : State) : Result :=
  let p := c.payload
  let r := byteAt p 0
  let x := s.root r
  let base := BitVec.ofNat 64 (le p 16 8)
  let n : Root := { x with owner := ownerSlice c.route (le p 3 2), notifyQ := byteAt p 1, notifyTag := 0xFFFF, autoSuspend := bitOf (byteAt p 2) 0
                           tunLead := if le p 6 2 = 0 then 20 else le p 6 2, perBase := BitVec.ofNat 64 (le p 8 8)
                           asyncBase := base, asyncNext := base, asyncSleep := false, prefetch := none }
  .next <| s.command infoUsbRootBind c (checksUsbRootBind c s) fun s => (s.setRoot r n).ok c 0x0401 []

/-- Table 6-10: RESET or WARM_RESET: of a native root, 50 ms; of a tunnelled one, its tunnel is created anew at once (R152), which ends a resume in progress (R181). -/
def State.rootReset (s : State) (r : Nat) (c : Cmd) : State :=
  let x := s.root r
  let s := s.stopRoot r .busReset 0
  if tunnelled r then
    let s := match s.usbTunnel r false with
      | some tid => s.replaceTunnel tid (s.tunnel tid)
      | none => s
    let s := s.completeOpt x.resumeCmd 0x0402 .aborted 0 []
    let s := if x.state = .resuming && x.wakeFrom then s.rootNotice r 0x16 0 else s
    let s := s.modRoot r fun x => { x with state := .enabled, due := none, wakeFrom := false, pingWait := false, pingHeld := false, resumeCmd := none }
    ((s.rootNotice r 0x12 0).ok c 0x0402 [BitVec.ofNat 8 x.speed]).runSuspend r
  else
    let wake := decide (x.state = .resuming) && x.wakeFrom
    let s := s.completeOpt x.resumeCmd 0x0402 .aborted 0 []
    s.modRoot r fun x => { x with state := .resetting, due := some (s.after 50000000), resetCmd := some c, resumeCmd := none
                                  wakeLost := x.wakeLost || wake, wakeFrom := false }

/-- Table 6-10: the state permits the action. -/
def RootState.permits (st : RootState) (action : Nat) : Bool :=
  match action, st with
  | 1, .poweredOff => true
  | 1, _ => false
  | 3, .connected => true
  | 3, .enabled => true
  | 3, .suspended => true
  | 3, .resuming => true
  | 3, .suspending => true
  | 3, _ => false
  | 4, .connected => true
  | 4, .enabled => true
  | 4, .suspended => true
  | 4, .resuming => true
  | 4, .suspending => true
  | 4, _ => false
  | 5, .poweredOff => false
  | 5, .disconnected => false
  | 5, .connected => false
  | 5, _ => true
  | 6, .suspended => true
  | 6, .suspending => true
  | 6, .resuming => true
  | 6, _ => false
  | _, _ => true

/-- R150, Table 6-10: the port of a native root is in fallback as DFP with a contract as source. -/
def State.mayPower (s : State) (r : Nat) : Bool :=
  let d := (s.port r).pd
  d.inFallback && d.fbNow.hostEn && d.roles.dfp && d.roles.source && d.contract.isSome

/-- The effect of one USB_ROOT_CTRL action. -/
def State.rootAction (s : State) (r action : Nat) (c : Cmd) : State :=
  let p := c.payload
  let x := s.root r
  let done (s : State) : State := s.ok c 0x0402 [BitVec.ofNat 8 x.speed]
  match action with
  | 1 => done (s.setRoot r { x with state := .disconnected })
  | 2 => done (s.rootOff r false)
  | 3 => s.rootReset r c
  | 4 => s.rootReset r c
  | 5 =>
    match x.state with
    | .enabled => done (s.setRoot r { x with state := .suspending, due := some (s.after 3000000) })
    | .resetting => s.setRoot r { x with suspendWait := some c }
    | .resuming => s.setRoot r { x with suspendWait := some c }
    | _ => done s
  | 6 =>
    match x.state with
    | .suspending => done (s.setRoot r { x with state := .enabled, due := none })
    | .suspended => (s.beginResume r false).modRoot r fun x => { x with resumeCmd := some c }
    | _ => s.setRoot r { x with resumeCmd := some c }
  | 7 => done (s.setRoot r { x with asyncNext := x.asyncBase })
  | 8 => done (s.setRoot r { x with u1 := le p 4 2, u2 := le p 6 2 })
  | 9 => done (s.setRoot r { x with autoSuspend := bitOf (byteAt p 2) 0 })
  | _ => done (s.setRoot r { state := x.state, speed := x.speed, held := x.held, xid := x.xid })

def infoUsbRootCtrl : CmdInfo := { opcode := 0x0402, fromS := true, len := 8 }

/-- What the checks of USB_ROOT_CTRL find (R152, R161, R172, R180, R181, R273). -/
def checksUsbRootCtrl (c : Cmd) (s : State) : Checks :=
  let p := c.payload
  let r := byteAt p 0
  let a := byteAt p 1
  let x := s.root r
  { bad := firstBad [rangeField 0 1 0 23, rangeField 1 1 1 10, rangeField 2 1 0 1, anyField 4 2, anyField 6 2] p
    owned := c.owns x.owner
    refuse := firstSome [s.needs 8, failIf (tunnelled r && [1, 2, 4, 8].contains a) .denied 4,
      failIf (decide (x.state = .resetting) && (a = 3 || a = 4)) .busy 0,
      failIf (!x.state.permits a || (a = 1 && !s.mayPower r)) .denied 4,
      failIf (a = 3 && tunnelled r && (s.usbTunnel r false).isNone) .denied 4,
      failIf (x.suspendWait.isSome && a = 5) .busy 0,
      failIf (x.resumeCmd.isSome && a = 6) .busy 0,
      failIf (a = 10 && s.xfer.slots.any fun e => decide (e.2.root = r)) .busy 0] }

/-- USB_ROOT_CTRL (R152, R161, R172, R180, R181, R273). -/
def execUsbRootCtrl (c : Cmd) (s : State) : Result :=
  let p := c.payload
  let r := byteAt p 0
  let a := byteAt p 1
  .next <| s.command infoUsbRootCtrl c (checksUsbRootCtrl c s) fun s => s.rootAction r a c

/-! ## Slots -/

/-- The lowest free device slot. DESIGN CHOICE, log entry 34. -/
def State.freeDslot (s : State) : Option Nat := (List.range 1024).find? fun n => !(s.dslot n).alloc

def infoUsbSlotAlloc : CmdInfo := { opcode := 0x0403, fromS := true, len := 11 }

/-- What the checks of USB_SLOT_ALLOC find (R153, R154). -/
def checksUsbSlotAlloc (c : Cmd) (s : State) : Checks :=
  let p := c.payload
  let r := byteAt p 0
  { bad := firstBad [rangeField 0 1 0 23, rangeField 1 1 0 6,
      ⟨2, 1, fun v => decide (v ≤ 15) && !(tunnelled r && decide (3 ≤ byteAt p 1) && decide (v = 15))⟩,
      rangeField 4 3 0 0xFFFFF, rangeField 8 2 0 1023, anyField 10 1] p
    owned := c.owns (s.root r).owner
    refuse := firstSome [s.needs 8, failIf (tunnelled r && decide (le p 8 2 ≠ 0)) .denied 4,
      failIf s.freeDslot.isNone .noResource 0,
      failIf (s.xfer.slots.any fun e => decide (e.2.root = r) && decide (e.2.addr = 0)) .busy 0] }

/-- USB_SLOT_ALLOC (R153, R154). -/
def execUsbSlotAlloc (c : Cmd) (s : State) : Result :=
  let p := c.payload
  let r := byteAt p 0
  let n := s.freeDslot.getD 0
  .next <| s.command infoUsbSlotAlloc c (checksUsbSlotAlloc c s) fun s =>
      (s.setDslot n { root := r, route := BitVec.ofNat 20 (le p 4 3), tport := byteAt p 2, speed := byteAt p 1, hubSlot := le p 8 2
                      hubPort := byteAt p 10, alloc := true }).ok c 0x0403 (toLe 2 n)

/-- The owner of a slot: the owner of its root. -/
def State.slotOwner (s : State) (n : Nat) : Option (Nat × Nat) :=
  let d := s.dslot n
  if d.alloc then (s.root d.root).owner else none

def infoUsbSlotFree : CmdInfo := { opcode := 0x0404, fromS := true, len := 2 }

/-- What the checks of USB_SLOT_FREE find (R273). -/
def checksUsbSlotFree (c : Cmd) (s : State) : Checks :=
  let n := le c.payload 0 2
  { bad := firstBad [rangeField 0 2 0 1023] c.payload
    owned := c.owns (s.slotOwner n)
    refuse := firstSome [s.needs 8,
      failIf (s.xfer.eps.any fun e => decide (e.2.slot = n) && decide (e.2.state ≠ .disabled)) .busy 0] }

/-- USB_SLOT_FREE (R273). -/
def execUsbSlotFree (c : Cmd) (s : State) : Result :=
  let n := le c.payload 0 2
  .next <| s.command infoUsbSlotFree c (checksUsbSlotFree c s) fun s => (s.setDslot n {}).ok c 0x0404 []

/-! ## Endpoints -/

/-- R310: the endpoints a slice holds. -/
def State.epCount (s : State) (h sl : Nat) : Nat := (s.xfer.eps.filter fun e => decide (e.2.owner = some (h, sl))).length

/-- The lowest free endpoint context. DESIGN CHOICE, log entry 34. -/
def State.freeEp (s : State) : Option Nat := (List.range 4096).find? fun e => decide (s.ep e = {})

/-- R155: the units from `b` on overlap another endpoint's allocation. -/
def State.bufTaken (s : State) (b n : Nat) : Bool :=
  s.xfer.eps.any fun e => decide (e.2.bufSize ≠ 0) && decide (b < e.2.bufBase + e.2.bufSize) && decide (e.2.bufBase < b + n)

/-- R155, Table 6-3: the allocation entry fits and is large enough. -/
def allocOk (typ mps burst mult v : Nat) : Bool :=
  let size := bits v 21 11 + 1
  let need := if typ = 1 then mps * (burst + 1) * (mult + 1) else mps
  bitOf v 31 && decide (bits v 30 22 = 0) && decide (bits v 10 0 + size ≤ 2048) && decide (need ≤ size * 1024)

/-- The owner of what USB_EP_CONFIG names: a slot, or a device function with bit 15 set. -/
def State.epTargetOwner (s : State) (v : Nat) : Option (Nat × Nat) :=
  if bitOf v 15 then (if (s.fn (v % 2)).bound then (s.fn (v % 2)).owner else none) else s.slotOwner v

def infoUsbEpConfig : CmdInfo := { opcode := 0x0405, fromS := true, len := 26 }

/-- The endpoint that USB_EP_CONFIG makes. -/
def newEp (c : Cmd) : Ep :=
  let p := c.payload
  let f := byteAt p 2
  let a := le p 12 4
  { owner := c.route.slice?, slot := le p 0 2, num := bits f 3 0, dirIn := bitOf f 4, typ := bits f 6 5, mps := le p 4 2
    burst := bits (byteAt p 6) 3 0, mult := bits (byteAt p 6) 5 4, ringBase := BitVec.ofNat 64 (le p 16 8), ringLog2 := byteAt p 3
    cq := byteAt p 7, bufBase := bits a 10 0, bufSize := bits a 21 11 + 1, state := .idle }

/-- R174: the TDs left in the ring of an endpoint that is disabled complete in order, from what was read of the ring. -/
def Cmd.ringView (c : Cmd) (x : Ep) : HostView :=
  match c.data with
  | .ok b => (List.range (b.length / 32)).map fun i =>
      (x.ringBase + BitVec.ofNat 64 (32 * ((x.cons + i) % 2 ^ x.ringLog2)), (b.drop (32 * i)).take 32)
  | .err _ => []

/-- What the checks of USB_EP_CONFIG find (R153, R155, R171, R174, R273, R310). DEDUCED, log entry 125. -/
def checksUsbEpConfig (c : Cmd) (s : State) : Checks :=
  let p := c.payload
  let f := byteAt p 2
  let on := bitOf f 7
  let e := le p 24 2
  let x := s.ep e
  let target := le p 0 2
  let (h, sl) := c.home
  let burst := bits (byteAt p 6) 3 0
  let mult := bits (byteAt p 6) 5 4
  let a := le p 12 4
  { bad := firstBad [⟨0, 2, fun v => if bitOf v 15 then decide (v % 32768 < 2) else decide (v < 1024)⟩, anyField 2 1,
      ⟨3, 1, fun v => !on || (decide (4 ≤ v) && decide (v ≤ 15))⟩, ⟨4, 2, fun v => !on || (decide (1 ≤ v) && decide (v ≤ 1024))⟩,
      ⟨6, 1, fun v => decide (v < 64) && decide (bits v 5 4 ≤ 2)⟩, rangeField 7 1 0 63, rangeField 8 1 0 31,
      ⟨12, 4, fun v => !on || allocOk (bits f 6 5) (le p 4 2) burst mult v⟩, ⟨16, 8, fun v => !on || decide (v % 32 = 0)⟩,
      ⟨24, 2, fun v => decide (v < 4096) || (on && decide (v = 0xFFFF))⟩] p
    owned := if e = 0xFFFF then c.owns (s.epTargetOwner target) else c.owns x.owner
    refuse := firstSome [s.needs 8, failIf (decide (byteAt p 8 ≠ 0)) .denied 4,
      failIf (on && bitOf target 15 && decide (bits f 6 5 = 1)) .denied 4,
      failIf (on && decide (e ≠ 0xFFFF)) .busy 0,
      failIf (!on && decide (x.state = .disabled)) .denied 4,
      failIf (on && (s.bufTaken (bits a 10 0) (bits a 21 11 + 1) || s.freeEp.isNone
        || (decide (sl ≠ 0) && decide ((s.slice h sl).epLim ≤ s.epCount h sl)))) .noResource 0] }

/-- USB_EP_CONFIG (R153, R155, R171, R174, R273, R310): a new endpoint, or ENABLE=0 to disable one; the reads of its ring come with the command. -/
def execUsbEpConfig (c : Cmd) (s : State) : Result :=
  let p := c.payload
  let f := byteAt p 2
  let on := bitOf f 7
  let e := le p 24 2
  let (h, sl) := c.home
  let ep0 := s.freeEp.getD 0
  .next <| s.command infoUsbEpConfig c (checksUsbEpConfig c s) fun s =>
      if on then
        let y := newEp c
        let held := y.ofDevice && decide (y.num ≠ 0) && !(s.fn (y.slot % 2)).includes y.address
        let y := if y.ofDevice && y.num = 0 then { y with mps := ep0Mps (s.fn (y.slot % 2)).speed } else y
        (s.setEp ep0 (if held then { y with state := .stopped, cfgStop := true } else y)).ok c 0x0405 (toLe 2 ep0)
      else
        let s := s.disableEp e .aborted (s.slice h sl).gen
        (s.drainEnding (c.ringView (s.ep e)) e 32768).ok c 0x0405 (toLe 2 e)

def infoUsbEpReset : CmdInfo := { opcode := 0x0406, fromS := true, len := 2 }

/-- A state that USB_EP_RESET leaves. -/
def EpState.stopped' : EpState → Bool
  | .halted => true
  | .error => true
  | .stopped => true
  | _ => false

/-- What the checks of USB_EP_RESET find (R174, R192, R193). -/
def checksUsbEpReset (c : Cmd) (s : State) : Checks :=
  let e := le c.payload 0 2
  let x := s.ep e
  { bad := firstBad [rangeField 0 2 0 4095] c.payload
    owned := c.owns x.owner
    refuse := firstSome [s.needs 8, failIf (!x.state.stopped') .denied 4,
      failIf (x.ofDevice && decide (x.num ≠ 0) && !(s.fn (x.slot % 2)).includes x.address) .denied 4] }

/-- USB_EP_RESET (R174, R192, R193). -/
def execUsbEpReset (c : Cmd) (s : State) : Result :=
  let e := le c.payload 0 2
  let x := s.ep e
  .next <| s.command infoUsbEpReset c (checksUsbEpReset c s) fun s =>
      let y := if x.state = .halted then { x with toggle := false, seqnum := 0, resetStop := false, cfgStop := false } else { x with resetStop := false, cfgStop := false }
      (s.setEp e { y with state := y.restState }).ok c 0x0406 (toLe 2 x.cons)

def infoUsbEpStop : CmdInfo := { opcode := 0x0407, fromS := true, len := 2 }

/-- What the checks of USB_EP_STOP find (R174). -/
def checksUsbEpStop (c : Cmd) (s : State) : Checks :=
  let e := le c.payload 0 2
  let x := s.ep e
  { bad := firstBad [rangeField 0 2 0 4095] c.payload
    owned := c.owns x.owner
    refuse := firstSome [s.needs 8, failIf (decide (x.state ≠ .idle) && decide (x.state ≠ .active) && decide (x.state ≠ .halted)) .denied 4] }

/-- USB_EP_STOP (R174): the chain in progress completes ABORTED. -/
def execUsbEpStop (c : Cmd) (s : State) : Result :=
  let e := le c.payload 0 2
  .next <| s.command infoUsbEpStop c (checksUsbEpStop c s) fun s =>
      let s := s.stopEp e .aborted 0 .stopped
      s.ok c 0x0407 (toLe 2 (s.ep e).cons)

def infoUsbEpSetDeq : CmdInfo := { opcode := 0x0408, fromS := true, len := 4 }

/-- What the checks of USB_EP_SET_DEQ find (R174). -/
def checksUsbEpSetDeq (c : Cmd) (s : State) : Checks :=
  let e := le c.payload 0 2
  let x := s.ep e
  { bad := firstBad [rangeField 0 2 0 4095, ⟨2, 2, fun v => decide (v < x.span)⟩] c.payload
    owned := c.owns x.owner
    refuse := firstSome [s.needs 8, failIf (decide (x.state = .active)) .busy 0, failIf (decide (x.state = .disabled)) .denied 4] }

/-- USB_EP_SET_DEQ (R174): the consumer index is set to a chain start; BUSY in ACTIVE. -/
def execUsbEpSetDeq (c : Cmd) (s : State) : Result :=
  let e := le c.payload 0 2
  let x := s.ep e
  let n := le c.payload 2 2
  .next <| s.command infoUsbEpSetDeq c (checksUsbEpSetDeq c s) fun s =>
      let y := { x with cons := n }
      (s.setEp e { y with state := if y.state = .idle then y.restState else y.state }).ok c 0x0408 []

def infoUsbRootQuery : CmdInfo := { opcode := 0x0409, fromS := true, fromD := true, len := 4 }

/-- What the checks of USB_ROOT_QUERY find (R272). -/
def checksUsbRootQuery (c : Cmd) (s : State) : Checks :=
  let p := c.payload
  let r := byteAt p 0
  let what := byteAt p 1
  let n := le p 2 2
  let owner := match what with
    | 0 => (s.root r).owner
    | 1 => s.slotOwner n
    | _ => (s.ep n).owner
  { bad := firstBad [rangeField 0 1 0 23, rangeField 1 1 0 2, ⟨2, 2, fun v => decide (what = 0) || decide (v < if what = 1 then 1024 else 4096)⟩] p
    owned := decide (c.route = .diag) || c.owns owner }

/-- USB_ROOT_QUERY (R272). -/
def execUsbRootQuery (c : Cmd) (s : State) : Result :=
  let p := c.payload
  let r := byteAt p 0
  let what := byteAt p 1
  let n := le p 2 2
  .next <| s.command infoUsbRootQuery c (checksUsbRootQuery c s) fun s => s.ok c 0x0409 (match what with
      | 0 => let x := s.root r; toLe 1 x.state.ctorIdx ++ toLe 1 x.speed ++ toLe 1 (flag x.held)
      | 1 => let d := s.dslot n; toLe 1 d.addr ++ toLe 1 d.speed ++ toLe 1 d.tport
      | _ => let x := s.ep n
             toLe 1 x.state.ctorIdx ++ [0] ++ toLe 2 x.cons ++ toLe 2 x.prod ++ toLe 1 (flag x.toggle) ++ toLe 1 x.seqnum)

/-! ## The doorbell -/

/-- R164, R252: a producer index that the ring cannot take. -/
def prodBad (log2 cons old v : Nat) : Bool :=
  let m := 2 ^ (log2 + 1)
  let d (a : Nat) : Nat := (a + m - cons % m) % m
  decide (m ≤ v) || decide (2 ^ log2 < d v) || decide (d v < d old)

/-- R160, R180: new work wakes the walk, and a root in suspend. -/
def State.newWork (s : State) (e : Nat) : State :=
  match s.epRoot (s.ep e) with
  | none => s
  | some r =>
    let s := s.modRoot r fun x => { x with asyncSleep := false }
    let x := s.root r
    if !s.rootHasWork r then s
    else match x.state with
      | .suspending => s.setRoot r { x with state := .enabled, due := none }
      | .suspended => if x.autoSuspend then s.beginResume r false else s
      | _ => s

/-- R164, R313: the doorbell is rejected and counted. -/
def State.dbReject (s : State) (h sl : Nat) : State := s.modSlice h sl fun x => { x with dbReject := x.dbReject + 1 }

/-- R190, R194: a doorbell of a device endpoint: a held SETUP packet is delivered; at SuperSpeed ERDY is sent when a TD is ready. -/
def State.deviceWork (s : State) (e : Nat) (v : HostView) : State :=
  let x := s.ep e
  let n := x.slot % 2
  let f := s.fn n
  if !f.state.live then s
  else
    let s := s.deliverSetup v e
    if 3 ≤ f.speed && x.state = .active && !x.halted then s.devSend n x.num 5 [] else s

/-- USB_EP_DOORBELL (R164, R174, R190, R194, R252, R320). -/
def execUsbEpDoorbell (hp : Fin 2) (sl : Fin 256) (v : BitVec 32) (view : HostView) (s : State) : Result :=
  .next <| s.atPage hp.val sl.val fun s =>
    let e := v.toNat % 4096
    let i := v.toNat / 65536
    let x := s.ep e
    if x.owner ≠ some (hp.val, sl.val) || x.state = .disabled || (s.slice hp.val sl.val).state = .resetting || s.domainOff 8 then
      s.dbReject hp.val sl.val
    else
      let bad := prodBad x.ringLog2 x.cons x.prod i
      let live := decide (x.state = .idle) || decide (x.state = .active)
      if bad && live then
        let s := if x.chain.isSome then s.stopEp e .overrun 0 .error else s.ringStop e 0xFFFF .overrun 0
        s.modEp e fun y => { y with state := .error, latched := y.cons }
      else if bad then s
      else
        let y := { x with prod := i }
        let s := s.setEp e { y with state := if live then (if y.chain.isSome then .active else y.restState) else y.state }
        if y.ofDevice then s.deviceWork e view else s.newWork e

end Sys2Proof.Machine
end

