-- ==== Sys2Proof/Machine/DmaCmd.lean ====
section
/-! DEFINITION. Sys2Proof/Machine/DmaCmd.lean: the commands, the doorbell and the program memory of the sample DMA engine (R276, R277, R280, R281, R296, R302, R305). -/

namespace Sys2Proof.Machine

/-- R415: a channel as DMA_CH_ALLOC sets it: channel and owner; empty while FREE. -/
def Ch.value (x : Ch) (n : Nat) : List Byte :=
  if x.state = .free then [] else toLe 1 n ++ toLe 2 ((x.owner.map fun o => o.2 + 256 * o.1 + 512).getD 0)

/-- R310: the slice is at its channel limit. -/
def State.atChLimit (s : State) (h sl : Nat) : Bool :=
  decide (sl ≠ 0) && decide ((s.slice h sl).dmaLim ≤ (s.xfer.chans.filter fun e => decide (e.2.owner = some (h, sl))).length)

/-- Table 11-1: what stays of a channel when its configuration is cleared: its counters; landed and staged blocks are discarded and counted. -/
def State.clearCh (s : State) (n : Nat) (keep : Bool) : State :=
  let l := Tab.get [] s.marl.staging agentXfer
  let mine (c : Cell) : Bool := decide (c.cls = 1) && decide (s.lineCh (s.lineOf c.flow) = some n)
  let staged := (l.filter mine).length
  let s := s.modMarl fun m => { m with staging := Tab.set [] agentXfer (l.filter fun c => !mine c) m.staging }
  s.modCh n fun x =>
    { state := if keep then .stopped else .free, owner := if keep then x.owner else none
      jobs := x.jobs, bytesRead := x.bytesRead, bytesWritten := x.bytesWritten, retryCnt := x.retryCnt, trigLost := x.trigLost
      clip := x.clip, blocksTaken := x.blocksTaken, blocksShort := x.blocksShort, blocksPois := x.blocksPois
      blockDrop := x.blockDrop + BitVec.ofNat 64 (x.landed.length + staged) }

/-- STOP: the running chain completes ABORTED with its bytes so far; the ring goes on after it. DEDUCED, log entry 135. -/
def State.stopCh (s : State) (n : Nat) : State :=
  let x := s.ch n
  let cons := if x.chain.isEmpty then x.cons else (x.cons + x.chain.length) % x.span
  (s.chainEnd n .aborted 0 0).modCh n fun x => { x with state := .stopped, cons := cons, wait := .none, retryN := 0, retryDue := none }

def infoDmaChAlloc : CmdInfo := { opcode := 0x0501, fromS := true, fromO := true, journal := true, len := 3 }

/-- What the checks of DMA_CH_ALLOC find (R276, R310). DEDUCED, log entry 137. -/
def checksDmaChAlloc (c : Cmd) (s : State) : Checks :=
  let k := byteAt c.payload 0
  let own := le c.payload 1 2
  let o := (ownerSlice c.route own).getD (0, 0)
  let n := if k = 0xFF then (List.range 64).find? fun n => decide ((s.ch n).state = .free)
           else if (s.ch k).state = .free then some k else none
  let x : Ch := { s.ch (n.getD 0) with state := .stopped, owner := some o }
  { bad := firstBad [⟨0, 1, fun v => decide (v < 64) || decide (v = 0xFF)⟩, ⟨1, 2, ownerFieldOk⟩] c.payload
    owned := mayNameOwner c.route own && decide (o.1 = c.home.1)
    refuse := firstSome [s.needs 8, failIf n.isNone .noResource 0, failIf (s.atChLimit o.1 o.2) .noResource 0]
    object := n.getD k, old := [], new := x.value (n.getD 0) }

/-- DMA_CH_ALLOC (R276, R310). -/
def execDmaChAlloc (c : Cmd) (s : State) : Result :=
  let k := byteAt c.payload 0
  let own := le c.payload 1 2
  let o := (ownerSlice c.route own).getD (0, 0)
  let n := if k = 0xFF then (List.range 64).find? fun n => decide ((s.ch n).state = .free)
           else if (s.ch k).state = .free then some k else none
  let x : Ch := { s.ch (n.getD 0) with state := .stopped, owner := some o }
  .next <| s.command infoDmaChAlloc c (checksDmaChAlloc c s) fun s => (s.setCh (n.getD 0) x).ok c 0x0501 (toLe 1 (n.getD 0))

/-- R276: the command comes from the slice that owns the channel. -/
def State.ownsCh (s : State) (c : Cmd) (n : Nat) : Bool := c.route.slice?.isSome && decide ((s.ch n).owner = c.route.slice?)

/-- R296: the trigger named belongs to another slice. DEDUCED, log entry 137. -/
def State.foreignTrigger (s : State) (h sl kind num : Nat) : Bool :=
  match kind with
  | 0 => match (Tab.get {} s.xfer.timers num).owner with
    | some o => decide (o ≠ (h, sl))
    | none => false
  | 1 => match (s.ch num).owner with
    | some o => decide (o ≠ (h, sl))
    | none => false
  | _ => s.tunnels.any fun e => decide (e.2.state ≠ .free) && decide (e.2.cls = 1) && e.2.dirs.getLsbD 1
      && decide (e.2.clientRef.toNat % 128 = num) && (match e.2.owner with
        | .slice h' sl' => decide ((h', sl') ≠ (h, sl))
        | _ => false)

def infoDmaChConfig : CmdInfo := { opcode := 0x0502, fromS := true, len := 16 }

/-- What the checks of DMA_CH_CONFIG find (R277, R282, R296, R302). -/
def checksDmaChConfig (c : Cmd) (s : State) : Checks :=
  let p := c.payload
  let n := byteAt p 0
  let kind := byteAt p 4
  let num := byteAt p 5
  let o := c.route.slice?.getD (0, 0)
  let taken := match s.lineCh num with
    | some m => decide (m ≠ n)
    | none => false
  { bad := firstBad [rangeField 0 1 0 63, rangeField 1 1 4 15, rangeField 2 1 0 63, rangeField 3 1 0 1, rangeField 4 1 0 2,
      ⟨5, 1, fun v => decide (v < if kind = 0 then 16 else if kind = 1 then 64 else 128)⟩, rangeField 6 1 0 7,
      ⟨8, 8, fun v => decide (v % 64 = 0)⟩] p
    owned := s.ownsCh c n && !s.foreignTrigger o.1 o.2 kind num
    refuse := firstSome [s.needs 8, failIf (decide ((s.ch n).state ≠ .stopped)) .busy 0, failIf (decide (kind = 2) && taken) .busy 0] }

/-- DMA_CH_CONFIG (R277, R282, R296, R302). -/
def execDmaChConfig (c : Cmd) (s : State) : Result :=
  let p := c.payload
  let n := byteAt p 0
  let kind := byteAt p 4
  let num := byteAt p 5
  .next <| s.command infoDmaChConfig c (checksDmaChConfig c s) fun s =>
      let s := s.modCh n fun x =>
        { x with configured := true, ringBase := BitVec.ofNat 64 (le p 8 8), ringLog2 := byteAt p 1, cq := byteAt p 2
                 progDev := decide (byteAt p 3 = 1), trigKind := kind, trigNum := num, retries := byteAt p 6, cons := 0, prod := 0, chainFirst := 0 }
      s.ok c 0x0502 []

def infoDmaChCtrl : CmdInfo := { opcode := 0x0503, fromS := true, len := 2 }

/-- What the checks of DMA_CH_CTRL find (R277, Table 11-1). -/
def checksDmaChCtrl (c : Cmd) (s : State) : Checks :=
  let n := byteAt c.payload 0
  let a := byteAt c.payload 1
  let x := s.ch n
  { bad := firstBad [rangeField 0 1 0 63, rangeField 1 1 1 3] c.payload
    owned := s.ownsCh c n
    refuse := firstSome [s.needs 8,
      failIf (decide (a = 1) && (decide (x.state ≠ .stopped) || !x.configured)) .denied 4,
      failIf (decide (a = 3) && decide (x.state = .running)) .denied 4] }

/-- DMA_CH_CTRL (R277, Table 11-1): START, STOP, RESET; the result is the ring index latched. -/
def execDmaChCtrl (c : Cmd) (s : State) : Result :=
  let n := byteAt c.payload 0
  let a := byteAt c.payload 1
  let x := s.ch n
  .next <| s.command infoDmaChCtrl c (checksDmaChCtrl c s) fun s =>
      match a with
      | 1 =>
        (s.modCh n fun x => { x with state := .running, pending := if x.trigKind = 2 then x.landed.length else 0 }).ok c 0x0503 (toLe 2 x.cons)
      | 2 => (if x.state = .running then s.stopCh n else s).ok c 0x0503 (toLe 2 x.cons)
      | _ =>
        let s := if x.state = .halted || x.state = .error then
            s.modCh n fun x => { x with state := .stopped, cons := x.chainFirst, haltCause := 0, haltAddr := 0, pc := 0, loops := [], regs := [0, 0, 0, 0] }
          else s
        s.ok c 0x0503 (toLe 2 x.cons)

def infoDmaChFree : CmdInfo := { opcode := 0x0504, fromS := true, fromO := true, journal := true, len := 1 }

/-- What the checks of DMA_CH_FREE find (R277). DEDUCED, log entry 137. -/
def checksDmaChFree (c : Cmd) (s : State) : Checks :=
  let n := byteAt c.payload 0
  let mine := match c.route.slice?, (s.ch n).owner with
    | some (h, sl), some (h', sl') => decide (h = h') && (decide (sl = sl') || decide (sl = 0))
    | _, _ => false
  { bad := firstBad [rangeField 0 1 0 63] c.payload
    owned := mine
    refuse := firstSome [s.needs 8, failIf (decide ((s.ch n).state ≠ .stopped)) .busy 0]
    object := n, old := (s.ch n).value n, new := [] }

/-- DMA_CH_FREE (R277): by the owner, or by slice 0 of its host port. -/
def execDmaChFree (c : Cmd) (s : State) : Result :=
  let n := byteAt c.payload 0
  .next <| s.command infoDmaChFree c (checksDmaChFree c s) fun s => (s.clearCh n false).ok c 0x0504 []

/-- R415: the DMA_TIMER_CFG payload in force. -/
def DmaTimer.value (t : DmaTimer) (n : Nat) : List Byte :=
  if t.owner.isNone then [] else toLe 1 n ++ toLe 1 (flag t.enabled) ++ toLe 2 0 ++ toLe 4 t.period ++ toLe 8 t.next.toNat

def infoDmaTimerCfg : CmdInfo := { opcode := 0x0505, fromS := true, fromO := true, journal := true, len := 16 }

/-- What the checks of DMA_TIMER_CFG find (R296). -/
def checksDmaTimerCfg (c : Cmd) (s : State) : Checks :=
  let p := c.payload
  let n := byteAt p 0
  let en := bitOf (byteAt p 1) 0
  let t := Tab.get {} s.xfer.timers n
  let o := c.route.slice?
  let foreign := t.owner.isSome && decide (t.owner ≠ o)
  { bad := firstBad [rangeField 0 1 0 15, rangeField 1 1 0 1, ⟨4, 4, fun v => !en || decide (1000 ≤ v)⟩, anyField 8 8] p
    refuse := firstSome [s.needs 8, failIf foreign .noResource 0]
    object := n, old := t.value n
    new := if en then toLe 1 n ++ toLe 1 1 ++ toLe 2 0 ++ toLe 4 (le p 4 4) ++ toLe 8 (le p 8 8) else [] }

/-- DMA_TIMER_CFG (R296). -/
def execDmaTimerCfg (c : Cmd) (s : State) : Result :=
  let p := c.payload
  let n := byteAt p 0
  let en := bitOf (byteAt p 1) 0
  let o := c.route.slice?
  let next : DmaTimer :=
    if en then { owner := o, enabled := true, period := le p 4 4, next := BitVec.ofNat 64 (seriesFrom (le p 8 8) (le p 4 4) s.now.toNat) } else {}
  .next <| s.command infoDmaTimerCfg c (checksDmaTimerCfg c s) fun s => (s.modXfer fun y => { y with timers := Tab.set {} n next y.timers }).ok c 0x0505 []

def infoDmaChQuery : CmdInfo := { opcode := 0x0506, fromS := true, fromD := true, len := 1 }

/-- What the checks of DMA_CH_QUERY find (R277, R303). -/
def checksDmaChQuery (c : Cmd) (s : State) : Checks :=
  let n := byteAt c.payload 0
  { bad := firstBad [rangeField 0 1 0 63] c.payload
    owned := s.ownsCh c n || decide (c.route = .diag) }

/-- DMA_CH_QUERY (R277, R303). -/
def execDmaChQuery (c : Cmd) (s : State) : Result :=
  let n := byteAt c.payload 0
  let x := s.ch n
  .next <| s.command infoDmaChQuery c (checksDmaChQuery c s) fun s => s.ok c 0x0506 (toLe 1 x.state.ctorIdx ++ toLe 1 0 ++ toLe 2 x.cons ++ toLe 4 x.haltCause ++ toLe 8 x.haltAddr.toNat)

/-- DMA_CH_DOORBELL (R252, R281): CHANNEL in [5:0], PROD_IDX in [31:16]. -/
def execDmaChDoorbell (hp : Fin 2) (sl : Fin 256) (v : BitVec 32) (s : State) : Result :=
  .next <| s.atPage hp.val sl.val fun s =>
    let n := v.toNat % 64
    let i := v.toNat / 65536
    let x := s.ch n
    if x.owner ≠ some (hp.val, sl.val) || (s.slice hp.val sl.val).state = .resetting || s.domainOff 8 then s.dbReject hp.val sl.val
    else if prodBad x.ringLog2 x.cons x.prod i then (if x.state = .running then s.haltCh n 0x22 0 else s)
    else s.setCh n { x with prod := i }

/-- DMA_PROGRAM_WRITE (R280, R402): bytes into a channel's own 1 KiB, from the owner slice only. -/
def execDmaProgramWrite (hp : Fin 2) (sl : Fin 256) (off : Fin 65536) (bytes : List Byte) (s : State) : Result :=
  .next <| s.atPage hp.val sl.val fun s =>
    let n := off.val / 1024
    if (s.ch n).owner ≠ some (hp.val, sl.val) || s.domainOff 8 then s
    else
      let (s, bad) := s.storeBytes 3 (524288 + off.val) (bytes.take (1024 - off.val % 1024)) fun a b s =>
        s.modXfer fun y => { y with prog := Tab.write 0 (a - 524288) b y.prog }
      if bad && (s.ch n).state = .running then s.haltCh n 0x14 0 else s

end Sys2Proof.Machine
end

