-- ==== Sys2Proof/Machine/Slices.lean ====
section
/-! DEFINITION. Sys2Proof/Machine/Slices.lean: enabling, resetting, freezing, saving and restoring slices, and the dirty-page log ("Slices, isolation and migration"). -/

namespace Sys2Proof.Machine

/-! ## The object (R415, R495, Table 17-10) -/

/-- Table 17-10: canonical value of a slice: the SLICE_ENABLE payload in force, GEN, and the state code; empty when DISABLED. DEDUCED, log entry 77. -/
def Slice.value (x : Slice) (sl : Nat) : List Byte :=
  if x.state = .disabled then []
  else toLe 1 sl ++ toLe 3 0 ++ toLe 3 x.pasid.toNat ++ [0] ++ toLe 2 x.vecFirst ++ toLe 2 x.vecCount ++ toLe 1 x.qpLim ++ toLe 1 x.dmaLim
    ++ toLe 2 x.tunLim ++ toLe 2 x.epLim ++ [x.gen, BitVec.ofNat 8 x.state.ctorIdx]

/-- R495: the host port of the slice a command names: the issuer's, or payload byte 3 from M and D. -/
def Cmd.slicePort (c : Cmd) : Nat := (c.route.slice?.map Prod.fst).getD (byteAt c.payload 3 % 2)

/-- R495: byte 3 is HOST_PORT from M and D, reserved from a slice. -/
def Cmd.portField (c : Cmd) : List Field := if c.route.slice?.isSome then [] else [rangeField 3 1 0 1]

/-- Table 10-2: a slice other than slice 0 names only itself. -/
def Cmd.mayNameSlice (c : Cmd) (sl : Nat) : Bool :=
  match c.route.slice? with
  | some (_, own) => decide (own = 0) || decide (own = sl)
  | none => true

/-- R315, R316: GEN is incremented; the generation that was in force stays in flight. -/
def Slice.bump (x : Slice) : Slice := { x with gen := x.gen + 1, inFlight := x.inFlight ++ [x.gen] }

/-- R316, Table 12-8: an increment that would put a fifth generation in flight, or a reset of a slice that is RESETTING, waits: the command stays dispatched, and nothing begins. -/
def State.orWait (s : State) (i : CmdInfo) (c : Cmd) (k : Checks) (h sl : Nat) (waits : Bool) (effect : State → State) : State :=
  if !s.waits i c && (firstFailure i c s k).isNone && waits then
    (s.startCmd c i.opcode).modSlice h sl fun x => { x with waitCmds := x.waitCmds ++ [(i.opcode, c)] }
  else s.command i c k effect

/-! ## SLICE_ENABLE (R310, R311) -/

/-- R311: the MSI-X range overlaps slice 0's or another enabled slice's, or ends beyond vector 2047. -/
def State.rangeTaken (s : State) (h sl first count : Nat) : Bool :=
  decide (first < 64) || decide (2048 < first + count)
    || s.hosts.slices.any fun e => decide (e.1 / 256 = h) && decide (e.1 % 256 ≠ sl) && decide (e.2.state ≠ .disabled)
        && decide (first < e.2.vecFirst + e.2.vecCount) && decide (e.2.vecFirst < first + count)

/-- R311: the PASID selects an enabled slice of the host port already. -/
def State.pasidTaken (s : State) (h sl : Nat) (pasid : BitVec 20) : Bool :=
  s.hosts.slices.any fun e => decide (e.1 / 256 = h) && decide (e.1 % 256 ≠ 0) && decide (e.1 % 256 ≠ sl) && decide (e.2.state ≠ .disabled)
    && decide (e.2.pasid = pasid)

def infoSliceEnable : CmdInfo := { opcode := 0x0606, fromO := true, journal := true, len := 18 }

/-- Table 12-1: the slice as SLICE_ENABLE leaves it, its generation new (R315). -/
def Slice.enabled (x : Slice) (p : List Byte) : Slice :=
  { x.bump with state := .active, pasid := BitVec.ofNat 20 (le p 4 3), vecFirst := le p 8 2, vecCount := le p 10 2, qpLim := byteAt p 12
                dmaLim := byteAt p 13, tunLim := le p 14 2, epLim := le p 16 2 }

/-- What the checks of SLICE_ENABLE find (R310, R311). -/
def checksSliceEnable (c : Cmd) (s : State) : Checks :=
  let p := c.payload
  let h := c.slicePort
  let sl := byteAt p 0
  let x := s.slice h sl
  let n := x.enabled p
  { bad := firstBad [rangeField 0 1 1 255, rangeField 4 3 0 0xFFFFF, anyField 8 2, ⟨10, 2, fun v => decide (1 ≤ v)⟩, rangeField 12 1 0 64,
        rangeField 13 1 0 64, rangeField 14 2 0 8192, rangeField 16 2 0 4096] p
    refuse := firstSome [failIf (decide (x.state ≠ .disabled) || s.pasidTaken h sl n.pasid) .busy 0,
      failIf (s.rangeTaken h sl n.vecFirst n.vecCount) .noResource 0]
    object := sl, old := x.value sl, new := n.value sl }

/-- SLICE_ENABLE (R310, R311, R315). -/
def execSliceEnable (c : Cmd) (s : State) : Result :=
  let h := c.slicePort
  let sl := byteAt c.payload 0
  let x := s.slice h sl
  .next <| s.orWait infoSliceEnable c (checksSliceEnable c s) h sl (decide (3 ≤ x.inFlight.length)) fun s =>
    (s.setSlice h sl (x.enabled c.payload)).ok c 0x0606 []

/-! ## Release of owned objects (Table 12-4) -/

/-- The keys of a table whose entries `p` picks. -/
def keysOf {α : Type} (t : List (Nat × α)) (p : α → Bool) : List Nat := (t.filter fun e => p e.2).map Prod.fst

def State.epsOf (s : State) (h sl : Nat) : List Nat := keysOf s.xfer.eps fun e => decide (e.owner = some (h, sl))
def State.rootsOf (s : State) (h sl : Nat) : List Nat := keysOf s.xfer.roots fun e => decide (e.owner = some (h, sl))
def State.fnsOf (s : State) (h sl : Nat) : List Nat := keysOf s.xfer.fns fun e => e.bound && decide (e.owner = some (h, sl))
def State.chansOf (s : State) (h sl : Nat) : List Nat := keysOf s.xfer.chans fun e => decide (e.owner = some (h, sl))
def State.timersOf (s : State) (h sl : Nat) : List Nat := keysOf s.xfer.timers fun e => decide (e.owner = some (h, sl))
def State.tunnelsOf (s : State) (h sl : Nat) : List Nat :=
  keysOf s.tunnels fun t => decide (t.owner = .slice h sl) && decide (t.state ≠ .free)
/-- The queue pairs of a slice that are in use. -/
def State.qpsOf (s : State) (h sl : Nat) : List Nat :=
  ((Tab.keys s.hosts.qps).filter fun k => decide (k / 64 = sliceKey h sl)).map (· % 64)

/-- Table 12-4: a root is unbound and its slots are freed; a native root goes to POWERED_OFF. -/
def State.unbindRoot (s : State) (r : Nat) : State :=
  let s := (s.freeSlots r).endRootCmds r .aborted
  s.modRoot r fun x => { state := if tunnelled r then x.state else .poweredOff, speed := x.speed, held := x.held, xid := x.xid }

/-- R152, Table 12-4: an asynchronous tunnel that outlives its root's binding is created anew, so that the embedded hub returns to default. -/
def State.renewHub (s : State) (r : Nat) : State :=
  match s.usbTunnel r false with
  | some tid => if tunnelled r then s.replaceTunnel tid (s.tunnel tid) else s
  | none => s

/-- A DisplayPort Alternate Mode binding is torn down; the port sends the idle pattern. -/
def State.dropBinding (s : State) (tid : Nat) : State :=
  let p := (s.tunnel tid).port
  ((s.dpIdle tid).freeEntry tid false).modPd p fun d => { d with dp := { d.dp with tid := none, source := none } }

/-- R332, Table 12-4: a tunnel of a slice that is torn down without notice. DEDUCED, log entry 79. -/
def State.closeOwned (s : State) (tid : Nat) : State :=
  let t := s.tunnel tid
  if t.state = .free || t.state = .closing then s
  else if s.dpBinding tid then s.dropBinding tid
  else
    let s := s.closeTunnel tid
    if t.cls = 2 || t.cls = 3 then s.rootFollows t.port else s

/-- A PERSIST tunnel passes to slice 0 of the host port. -/
def Tunnel.toSliceZero (t : Tunnel) (h : Nat) : Tunnel := { t with owner := .slice h 0, notifyQ := 0, notifyTag := 0xFFFF }

/-- Table 12-4: one tunnel of a slice that is reset; one in CLOSING is left to end, and a create that is committed is let complete first (R257). DEDUCED, log entry 79. -/
def State.releaseTunnel (s : State) (h sl tid : Nat) : State :=
  let t := s.tunnel tid
  if t.persist && !s.dpBinding tid then
    if sl = 0 then s else s.setTunnel tid (t.toSliceZero h)
  else if t.state = .closing || t.create.any (fun c => s.isRunning c 0x0201) then s
  else s.fwChange (s.teardownReq tid 5) (.close tid) fun s => s.closeOwned tid

/-- Table 12-4: the objects a slice owns are released. -/
def State.releaseOwned (s : State) (h sl : Nat) (disable : Bool) : State :=
  let roots := s.rootsOf h sl
  let s := roots.foldl State.unbindRoot s
  let s := (s.fnsOf h sl).foldl (fun s n => (s.modFn n fun f => { f with owner := none }).releaseFn n) s
  let s := (s.tunnelsOf h sl).foldl (fun s tid => s.releaseTunnel h sl tid) s
  let s := roots.foldl State.renewHub s
  let s := (s.chansOf h sl).foldl (fun s n => s.clearCh n (!disable)) s
  let s := (s.timersOf h sl).foldl (fun s n => s.modXfer fun y => { y with timers := Tab.erase n y.timers }) s
  let s := if sl = 0 then
      { s with ports := s.ports.map fun e => (e.1, { e.2 with pd := (if h = 0 then { e.2.pd with bind0 := none } else { e.2.pd with bind1 := none }) }) }
    else s
  let s := { s with ports := s.ports.filter fun e => decide (e.2 ≠ {}) }
  if disable then s.modSlice h sl fun x => { x with dirtyOn := false, dirtyBase := 0, dirtyLog2 := 0, dirtyPos := 0, dirtyRecent := [], allDirty := false }
  else s

/-! ## Slice reset (R319 to R321, Table 12-3) -/

/-- R257, Table 12-3 step 3: the chains of every endpoint ring complete ABORTED, as far as `bytes` holds what was read of the rings; answers what is left of `bytes`. -/
def State.abortEps (s : State) (gen : BitVec 8) : List Nat → List Byte → State × List Byte
  | [], b => (s, b)
  | e :: es, b =>
    let s := s.disableEp e .aborted gen
    let x := s.ep e
    let n := if x.ending.isSome then 32 * x.used else 0
    let mine := b.take n
    let view : HostView := (List.range (mine.length / 32)).map fun i =>
      (x.ringBase + BitVec.ofNat 64 (32 * ((x.cons + i) % 2 ^ x.ringLog2)), (mine.drop (32 * i)).take 32)
    let s := if x.ending.isSome && mine.length = n then s.drainEnding view e 32768 else s
    s.abortEps gen es (b.drop n)

/-- Table 12-3 steps 2 and 3: every queue pair stops; the chains of its SQ abort in ring order. DEDUCED, log entry 72. -/
def State.abortQps (s : State) (h sl : Nat) (gen : BitVec 8) : List Nat → List Byte → State
  | [], _ => s
  | q :: qs, b =>
    let x := s.qp h sl q
    let n := 64 * ringUsed x.sqN x.sqPi x.sqCi
    let s := if x.state = .disabled then s else s.stopQp h sl q .sliceReset none (s.unreadEntries h sl q (.ok (b.take n))) gen
    s.abortQps h sl gen qs (b.drop n)

/-- The command in a slice's mailbox. -/
def Outst.inMbx (o : Outst) (h sl : Nat) : Bool :=
  match o.route with
  | .mbx h' sl' => decide (h'.val = h) && decide (sl'.val = sl)
  | _ => false

/-- Table 9-9: the mailbox command, other than the reset itself and unless committed, completes ABORTED with the old GEN. DEDUCED, log entry 72; DEDUCED, log entry 80. -/
def State.abortMbx (s : State) (h sl : Nat) : State :=
  let gone := s.hosts.running.filter fun o => o.inMbx h sl && !o.committed
  gone.foldl (fun s o =>
    let c : Cmd := { route := o.route, tag := o.tag, gen := o.gen, irq := o.irq }
    s.complete c o.opcode .aborted 0 []) s

/-- Table 12-3 steps 1 to 4: engine chains abort, then command chains, then the mailbox command, all with the old GEN; GEN + 1; RESETTING; owned objects are released. DEDUCED, log entry 78. -/
def State.beginReset (s : State) (h sl op : Nat) (c : Cmd) (disable : Bool) : State :=
  let gen := (s.slice h sl).gen
  let data := match c.data with
    | .ok b => b
    | .err _ => []
  let s := s.completeOpt (s.slice h sl).freezeCmd 0x0609 .aborted 0 []
  let (s, rest) := s.abortEps gen (s.epsOf h sl) data
  let s := (s.chansOf h sl).foldl State.stopCh s
  let s := s.abortQps h sl gen (s.qpsOf h sl) rest
  let s := s.abortMbx h sl
  let s := s.modSlice h sl fun x =>
    { x.bump with state := .resetting, resetCmd := some (op, c), resetDis := disable, freezeCmd := none, freezeDue := none }
  s.releaseOwned h sl disable

/-- Table 12-2: the states from which a reset begins, or in which it waits. -/
def SliceState.resettable : SliceState → Bool
  | .disabled => false
  | .hostLost => false
  | _ => true

/-- What the checks of SLICE_RESET and SLICE_DISABLE find (R318, R320). DEDUCED, log entry 77. -/
def checksReset (c : Cmd) (disable : Bool) (s : State) : Checks :=
  let sl := byteAt c.payload 0
  let h := c.slicePort
  let x := s.slice h sl
  let bySq := match c.route with
    | .sq _ own _ => decide (own.val = sl)
    | _ => false
  let n := if disable then [] else { x with gen := x.gen + 1, state := .active }.value sl
  { bad := firstBad [anyField 0 1] c.payload
    owned := c.mayNameSlice sl
    refuse := firstSome [failIf (!disable && bySq) .denied 4, failIf (disable && sl = 0) .denied 4, failIf (!x.state.resettable) .denied 4]
    object := sl, old := x.value sl, new := n }

/-- SLICE_RESET and SLICE_DISABLE: one that finds the slice RESETTING, or three generations draining, waits. -/
def State.resetCmd (s : State) (i : CmdInfo) (c : Cmd) (disable : Bool) : State :=
  let sl := byteAt c.payload 0
  let h := c.slicePort
  let x := s.slice h sl
  s.orWait i c (checksReset c disable s) h sl (decide (x.state = .resetting) || decide (3 ≤ x.inFlight.length)) fun s =>
    s.beginReset h sl i.opcode c disable

def infoSliceReset : CmdInfo := { opcode := 0x0607, fromS := true, fromO := true, journal := true, len := 1 }
def infoSliceDisable : CmdInfo := { opcode := 0x0608, fromO := true, journal := true, len := 1 }

/-- SLICE_RESET (R319, R320, R321): the reads of the slice's rings that the aborts need come with the command. -/
def execSliceReset (c : Cmd) (s : State) : Result := .next (s.resetCmd infoSliceReset c false)

/-- SLICE_DISABLE (R318, R320). -/
def execSliceDisable (c : Cmd) (s : State) : Result := .next (s.resetCmd infoSliceDisable c true)

/-! ## Freeze (R318, R324) -/

def infoSliceFreeze : CmdInfo := { opcode := 0x0609, fromO := true, fromM := true, journal := true, len := 4 }

/-- What the checks of SLICE_FREEZE find (R318, R324, Table 12-8). DEDUCED, log entry 77. -/
def checksSliceFreeze (c : Cmd) (s : State) : Checks :=
  let h := c.slicePort
  let sl := byteAt c.payload 0
  let x := s.slice h sl
  { bad := firstBad (anyField 0 1 :: c.portField) c.payload
    refuse := firstSome [failIf (decide (sl = 0) && c.route.slice?.isSome) .denied 4, failIf (decide (x.state ≠ .active)) .denied 4]
    object := sl, old := x.value sl, new := { x with state := .frozen }.value sl }

/-- SLICE_FREEZE (R318, R324, Table 12-8). -/
def execSliceFreeze (c : Cmd) (s : State) : Result :=
  let h := c.slicePort
  let sl := byteAt c.payload 0
  .next <| s.command infoSliceFreeze c (checksSliceFreeze c s) fun s => s.modSlice h sl fun x => { x with state := .freezing, freezeCmd := some c, freezeDue := some (s.after 10000000) }

/-- R324: the channel is at a WAIT whose trigger is not pending, at a chain boundary, or stopped. -/
def Ch.quiet (x : Ch) : Bool :=
  decide (x.state ≠ .running) || x.chain.isEmpty
    || (decide (x.wait = .trigger) && (if x.trigKind = 2 then x.landed.isEmpty else decide (x.pending < x.waitN)))

/-- R324: the slice is quiescent. -/
def State.quiescent (s : State) (h sl : Nat) : Bool :=
  (s.hosts.running.all fun o => decide (o.route.slice? ≠ some (h, sl)))
  && ((s.epsOf h sl).all fun e => (s.ep e).chain.isNone)
  && ((s.chansOf h sl).all fun n => (s.ch n).quiet)
  && ((s.qpsOf h sl).all fun q => decide ((s.qp h sl q).waiting = 0) && (s.qp h sl q).aborts.isEmpty)

/-- SLICE_QUIESCENT (R318, R324). -/
def execSliceQuiescent (hp : Fin 2) (sl : Fin 256) (s : State) : Result :=
  let x := s.slice hp sl
  if x.state = .freezing && s.quiescent hp sl then
    .next ((s.setSlice hp sl { x with state := .frozen, freezeCmd := none, freezeDue := none }).completeOpt x.freezeCmd 0x0609 .ok 0 [x.gen])
  else .next s

/-- R318: fetch resumes; a message that waited in the mailbox is taken. -/
def State.thaw (s : State) (h : Fin 2) (sl : Fin 256) : State :=
  let s := s.modSlice h sl fun x => { x with state := .active, freezeCmd := none, freezeDue := none }
  if (s.slice h sl).go && !(s.slice h sl).busy then s.submitMbx h sl else s

/-- SLICE_FREEZE_TIMEOUT (R318): BUSY, and nothing is lost. -/
def execSliceFreezeTimeout (hp : Fin 2) (sl : Fin 256) (s : State) : Result :=
  let x := s.slice hp sl
  if x.state = .freezing && s.due x.freezeDue then .next ((s.completeOpt x.freezeCmd 0x0609 .busy 0 [x.gen]).thaw hp sl) else .next s

/-! ## SLICE_SAVE (R325, Table 12-6) -/

/-- R325: the state that belongs to a slice. -/
def State.image (s : State) (h sl : Nat) : SliceImage :=
  let x := s.slice h sl
  let roots := s.rootsOf h sl
  { vecFirst := x.vecFirst, gen := x.gen
    qps := (s.qpsOf h sl).map fun q => (q, s.qp h sl q)
    slots := s.xfer.slots.filter fun e => roots.contains e.2.root
    eps := (s.epsOf h sl).map fun e => (e, s.ep e)
    roots := roots.map fun r => (r, s.root r)
    fns := (s.fnsOf h sl).map fun n => (n, s.fn n)
    chans := (s.chansOf h sl).map fun n => (n, s.ch n)
    timers := (s.timersOf h sl).map fun n => (n, Tab.get {} s.xfer.timers n)
    tunnels := (s.tunnelsOf h sl).map fun t => (t, s.tunnel t)
    evt := x.evt, evtEn := x.evtEn, evtVec := x.evtVec, evtInfo := x.evtInfo
    dirtyOn := x.dirtyOn, dirtyBase := x.dirtyBase, dirtyLog2 := x.dirtyLog2, dirtyPos := x.dirtyPos, dirtyRecent := x.dirtyRecent
    allDirty := x.allDirty }

/-- Table 12-6: bytes 0 to 35 of a blob. -/
def State.blobHead (s : State) (h sl len : Nat) (seq : BitVec 64) : List Byte :=
  [0x53, 0x4C, 0x43, 0x42] ++ toLe 2 1 ++ toLe 1 h ++ toLe 1 sl ++ [(s.slice h sl).gen, 0, 0, 0] ++ toLe 4 len ++ toLe 8 seq.toNat
  ++ toLe 6 s.boot.serial.toNat ++ [0, 0] ++ [0, 0, BitVec.ofNat 8 (bits s.boot.running.toNat 23 16), BitVec.ofNat 8 (bits s.boot.running.toNat 31 24)]

/-- R325: the blob of a slice; no blob exceeds 512 KiB. DESIGN CHOICE, log entry 24. -/
def State.blob (s : State) (h sl : Nat) : List Byte :=
  let body := (Config.blobBody s.freeCtr).take (524288 - 40)
  let head := s.blobHead h sl (40 + body.length) ((s.slice h sl).saveSeq + 1)
  head ++ toLe 4 (crc32c (head ++ body)).toNat ++ body

def infoSliceSave : CmdInfo := { opcode := 0x060A, fromO := true, fromM := true, len := 20 }

/-- What the checks of SLICE_SAVE find (R309, R325, R495). -/
def checksSliceSave (c : Cmd) (s : State) : Checks :=
  let p := c.payload
  let h := c.slicePort
  let sl := byteAt p 0
  let addr := le p 8 8
  let len := le p 16 4
  { bad := orBad (firstBad ([anyField 0 1, anyField 8 8, anyField 16 4] ++ c.portField) p) (badIf (bufferBad c addr len) 8)
    refuse := failIf (decide ((s.slice h sl).state ≠ .frozen)) .denied 4 }

/-- SLICE_SAVE (R309, R325, R495). -/
def execSliceSave (c : Cmd) (s : State) : Result :=
  let p := c.payload
  let h := c.slicePort
  let sl := byteAt p 0
  let addr := le p 8 8
  let len := le p 16 4
  .next <| s.command infoSliceSave c (checksSliceSave c s) fun s =>
      let b := s.blob h sl
      if len < b.length then (s.complete c 0x060A .noResource 0 (toLe 4 b.length)).tickFree
      else if c.accessFailed || (c.route.slice?.isSome && !s.addrOk (BitVec.ofNat 64 addr)) then (s.complete c 0x060A .mediaError 0 []).tickFree
      else
        let img := s.image h sl
        let s := (s.modSlice h sl fun x => { x with saveSeq := x.saveSeq + 1 }).modHosts fun y =>
          { y with images := Tab.set {} (sliceKey h sl) img y.images }
        ((s.bufferWrite c addr b).ok c 0x060A (toLe 4 b.length)).tickFree

/-! ## SLICE_RESTORE (R326 to R329) -/

/-- R326 step 1: the header and CRC of a blob are right, for this device and the running firmware. DEDUCED, log entry 84. -/
def State.blobOk (s : State) (b : List Byte) : Bool :=
  let n := le b 12 4
  decide (b.take 4 = [0x53, 0x4C, 0x43, 0x42]) && decide (le b 4 2 = 1) && decide (byteAt b 6 < 2) && decide (40 ≤ n) && decide (n ≤ b.length)
    && decide (le b 9 3 = 0) && decide (le b 30 2 = 0) && decide (le b 24 6 = s.boot.serial.toNat)
    && decide (byteAt b 35 = bits s.boot.running.toNat 31 24)
    && decide (le b 36 4 = (crc32c (b.take 36 ++ (b.take n).drop 40)).toNat)

/-- R329: the tunnel of the blob still exists, with the same TID and GEN. -/
def State.still (s : State) (e : Nat × Tunnel) : Bool := decide ((s.tunnel e.1).state ≠ .free) && decide ((s.tunnel e.1).gen = e.2.gen)

/-- R326 step 3: the target is not ACTIVE or holds something, or a tunnel of the blob is OPENING or CLOSING. -/
def State.restoreBusy (s : State) (h sl : Nat) (m : SliceImage) : Bool :=
  decide ((s.slice h sl).state ≠ .active) || !(s.qpsOf h sl).isEmpty || !(s.chansOf h sl).isEmpty || !(s.rootsOf h sl).isEmpty
    || !(s.fnsOf h sl).isEmpty || !(s.tunnelsOf h sl).isEmpty
    || m.tunnels.any fun e => s.still e && (decide ((s.tunnel e.1).state = .opening) || decide ((s.tunnel e.1).state = .closing))

/-- A vector of the source's range at the same place in the target's (DEDUCED, log entry 25). -/
def SliceImage.vec (m : SliceImage) (first v : Nat) : Nat := first + (v - m.vecFirst)

/-- R326 step 4: the target's limits or range cannot hold the blob's resources, or another slice has taken one of them since. -/
def State.restoreShort (s : State) (h sl : Nat) (m : SliceImage) (src : Nat × Nat) : Bool :=
  let x := s.slice h sl
  let free (o : Option (Nat × Nat)) : Bool := o.isNone || decide (o = some src)
  (decide (sl ≠ 0) && (decide (x.qpLim < m.qps.length) || decide (x.dmaLim < m.chans.length) || decide (x.tunLim < m.tunnels.length)
    || decide (x.epLim < m.eps.length)))
  || (m.qps.any fun e => !x.vecOk (m.vec x.vecFirst e.2.vec)) || !x.vecOk (m.vec x.vecFirst m.evtVec)
  || !((m.eps.all fun e => free (s.ep e.1).owner && (decide ((s.ep e.1).owner = some src) || !s.bufTaken e.2.bufBase e.2.bufSize))
    && (m.roots.all fun e => free (s.root e.1).owner) && (m.slots.all fun e => !(s.dslot e.1).alloc || decide (s.slotOwner e.1 = some src))
    && (m.fns.all fun e => !(s.fn e.1).bound || decide ((s.fn e.1).owner = some src))
    && (m.chans.all fun e => free (s.ch e.1).owner) && (m.timers.all fun e => free (Tab.get {} s.xfer.timers e.1).owner))

/-- R329: one tunnel of the blob passes to the target, or is created anew; R326 steps 4 and 5 for one created anew. DEDUCED, log entry 85. -/
def State.restoreTunnel (s : State) (o : Owner) (e : Nat × Tunnel) : Except (Status × Nat) State :=
  if s.still e then .ok (s.setTunnel e.1 { s.tunnel e.1 with owner := o, tornDown := none })
  else
    let t := e.2
    match s.freeTid, s.freeTun t.port with
    | some tid, some tun =>
      match s.bandwidth t.port t.client t.rsvOut t.rsvIn with
      | some f => .error (.noBandwidth, f.2)
      | none =>
        if !s.linkUp t.port then .error (.noBandwidth, 0x30)
        else .ok (s.makeTunnel tid { t with state := .opening, tun := tun, gen := (s.tunnel tid).gen, owner := o, create := none, destroy := none
                                            modify := none, queued := [], restore := false, planWait := false, tornDown := none })
    | _, _ => .error (.noResource, 0)

/-- Every tunnel of the blob. -/
def State.restoreTunnels (s : State) (o : Owner) : List (Nat × Tunnel) → Except (Status × Nat) State
  | [] => .ok s
  | e :: es => match s.restoreTunnel o e with
    | .error f => .error f
    | .ok s' => s'.restoreTunnels o es

/-- R329: bindings whose object the source still holds keep what the object does now; others start as a new binding does. DEDUCED, log entry 83. -/
def State.restoreEngines (s : State) (m : SliceImage) (src dst : Nat × Nat) : State :=
  let s := m.roots.foldl (fun s e =>
    let now := s.root e.1
    s.setRoot e.1 (if now.owner = some src then { now with owner := some dst }
      else { e.2 with owner := some dst, state := now.state, speed := now.speed, held := now.held, uState := now.uState, outst := [], due := none
                      resetCmd := none, resumeCmd := none, suspendWait := none })) s
  let s := m.slots.foldl (fun s e => s.setDslot e.1 e.2) s
  let s := m.eps.foldl (fun s e => s.setEp e.1 { e.2 with owner := some dst }) s
  let s := m.fns.foldl (fun s e =>
    let now := s.fn e.1
    s.setFn e.1 (if now.bound then { now with owner := some dst }
      else { bound := true, owner := some dst, port := e.2.port, notifyQ := e.2.notifyQ, cap := e.2.cap, descAddr := e.2.descAddr, desc := e.2.desc })) s
  let s := m.chans.foldl (fun s e =>
    let now := s.ch e.1
    let x := { e.2 with owner := some dst }
    s.setCh e.1 (if now.owner = some src then
      { x with landed := now.landed, landing := now.landing, landPois := now.landPois, pending := if x.trigKind = 2 then now.landed.length else x.pending }
      else x)) s
  m.timers.foldl (fun s e => s.modXfer fun y => { y with timers := Tab.set {} e.1 { e.2 with owner := some dst } y.timers }) s

/-- A DISABLED slice keeps its generation and counters only. DEDUCED, log entry 82. -/
def Slice.disabledNow (x : Slice) : Slice :=
  { gen := x.gen, inFlight := x.inFlight, dbReject := x.dbReject, accReject := x.accReject, noticeLost := x.noticeLost, staleGen := x.staleGen
    saveSeq := x.saveSeq, waitCmds := x.waitCmds, lostDue := x.lostDue, cpl := x.cpl }

/-- R328, R329: the resources move to the target, which takes the blob's GEN; the source becomes DISABLED with GEN + 1 (slice 0 is never disabled, R307). DEDUCED, log entry 25; DEDUCED, log entry 82. -/
def State.restoreMove (s : State) (m : SliceImage) (src dst : Nat × Nat) : State :=
  let (sh, ss) := src
  let (h, sl) := dst
  let first := (s.slice h sl).vecFirst
  let s := s.restoreEngines m src dst
  let s := (s.qpsOf sh ss).foldl (fun s q => s.setQp sh ss q {}) s
  let s := m.qps.foldl (fun s e => s.setQp h sl e.1 { e.2 with vec := m.vec first e.2.vec }) s
  let s := s.modSlice h sl fun x =>
    { x with gen := m.gen, evt := m.evt, evtEn := m.evtEn, evtVec := m.vec first m.evtVec, evtInfo := m.evtInfo, dirtyOn := m.dirtyOn
             dirtyBase := m.dirtyBase, dirtyLog2 := m.dirtyLog2, dirtyPos := m.dirtyPos, dirtyRecent := m.dirtyRecent, allDirty := m.allDirty }
  let s := if (s.slice sh ss).state = .hostLost then s else s.releaseOwned sh ss true
  let s := s.modHosts fun y => { y with images := Tab.erase (sliceKey sh ss) y.images }
  s.modSlice sh ss fun x =>
    { x.bump.disabledNow with state := if ss = 0 && x.state = .frozen then .active else .disabled, vecCount := if ss = 0 then 64 else 0 }

def infoSliceRestore : CmdInfo := { opcode := 0x060B, fromO := true, fromM := true, journal := true, len := 20 }

/-- R326, R463: the blob that a SLICE_RESTORE reads, and whether the read failed. DEDUCED, log entry 84. -/
def State.restoreBlob (s : State) (c : Cmd) : List Byte × Bool :=
  let len := le c.payload 16 4
  match s.sourceBytes c (le c.payload 8 8) len with
  | .ok b => (b.take len, false)
  | .err _ => ([], true)

/-- The slice that a blob was saved from: host port and number. -/
def blobFrom (blob : List Byte) : Nat × Nat := (byteAt blob 6, byteAt blob 7)

/-- What the checks of SLICE_RESTORE find (R326 to R329, R495). -/
def checksSliceRestore (c : Cmd) (s : State) : Checks :=
  let p := c.payload
  let h := c.slicePort
  let sl := byteAt p 0
  let x := s.slice h sl
  let inPlace := decide (le p 16 4 = 0)
  let blob := (s.restoreBlob c).1
  let src := blobFrom blob
  let y := s.slice src.1 src.2
  let m := Tab.get {} s.hosts.images (sliceKey src.1 src.2)
  let frozen := decide (y.state = .frozen) || (decide (y.state = .hostLost) && y.wasFrozen)
  { bad := orBad (firstBad ([anyField 0 1, anyField 8 8, anyField 16 4] ++ c.portField) p) (badIf (bufferBad c (le p 8 8) (le p 16 4)) 8)
    refuse := if inPlace then failIf (decide (x.state ≠ .frozen)) .denied 4
      else firstSome [failIf (s.restoreBlob c).2 .mediaError 0, failIf (!s.blobOk blob) .malformed 8,
        failIf (!frozen || decide (le blob 16 8 ≠ y.saveSeq.toNat)) .denied 4, failIf (s.restoreBusy h sl m) .busy 0,
        failIf (s.restoreShort h sl m src) .noResource 0,
        match s.restoreTunnels (.slice h sl) m.tunnels with
        | .error f => some f
        | .ok _ => none]
    object := sl, old := x.value sl
    new := if inPlace then { x with state := .active }.value sl else { x with gen := m.gen, state := .active }.value sl }

/-- SLICE_RESTORE (R326 to R329, R495): in place with blob length 0, else from the blob that the command read. -/
def execSliceRestore (c : Cmd) (s : State) : Result :=
  let h := c.slicePort
  let sl := byteAt c.payload 0
  let x := s.slice h sl
  let inPlace := decide (le c.payload 16 4 = 0)
  let src := blobFrom (s.restoreBlob c).1
  let m := Tab.get {} s.hosts.images (sliceKey src.1 src.2)
  .next <| s.orWait infoSliceRestore c (checksSliceRestore c s) src.1 src.2
    (!inPlace && decide (3 ≤ (s.slice src.1 src.2).inFlight.length)) fun s =>
      if inPlace then (s.thaw (Fin.ofNat 2 h) (Fin.ofNat 256 sl)).ok c 0x060B [x.gen]
      else match s.restoreTunnels (.slice h sl) m.tunnels with
        | .ok s' => (s'.restoreMove m src (h, sl)).ok c 0x060B [m.gen]
        | .error f => s.complete c 0x060B f.1 f.2 []

/-! ## SLICE_DIRTY_LOG, SLICE_QUERY (R322, R323, R318) -/

def infoSliceDirtyLog : CmdInfo := { opcode := 0x060C, fromO := true, fromM := true, len := 16 }

/-- What the checks of SLICE_DIRTY_LOG find (R322, R323, R495). -/
def checksSliceDirtyLog (c : Cmd) (s : State) : Checks :=
  let p := c.payload
  let h := c.slicePort
  let sl := byteAt p 0
  let on := bitOf (byteAt p 2) 0
  { bad := firstBad ([anyField 0 1, ⟨1, 1, fun v => !on || (decide (8 ≤ v) && decide (v ≤ 20))⟩, rangeField 2 1 0 1,
      ⟨8, 8, fun v => !on || decide (v % 4096 = 0)⟩] ++ c.portField) p
    refuse := failIf (!(s.slice h sl).state.reachable) .denied 4 }

/-- SLICE_DIRTY_LOG (R322, R323, R495): the open round ends; enable=1 starts the next one, empty, with ALL_DIRTY cleared. -/
def execSliceDirtyLog (c : Cmd) (s : State) : Result :=
  let p := c.payload
  let h := c.slicePort
  let sl := byteAt p 0
  let on := bitOf (byteAt p 2) 0
  .next <| s.command infoSliceDirtyLog c (checksSliceDirtyLog c s) fun s =>
      (s.modSlice h sl fun x =>
        if on then { x with dirtyOn := true, dirtyBase := BitVec.ofNat 64 (le p 8 8), dirtyLog2 := byteAt p 1, dirtyPos := 0, dirtyRecent := [], allDirty := false }
        else { x with dirtyOn := false }).ok c 0x060C []

def infoSliceQuery : CmdInfo := { opcode := 0x060D, fromS := true, fromO := true, fromM := true, fromD := true, len := 4 }

/-- What the checks of SLICE_QUERY find (R318, R495). -/
def checksSliceQuery (c : Cmd) : Checks :=
  let sl := byteAt c.payload 0
  { bad := firstBad (anyField 0 1 :: c.portField) c.payload
    owned := c.mayNameSlice sl }

/-- SLICE_QUERY (R318, R495). -/
def execSliceQuery (c : Cmd) (s : State) : Result :=
  let sl := byteAt c.payload 0
  let x := s.slice c.slicePort sl
  .next <| s.command infoSliceQuery c (checksSliceQuery c) fun s => s.ok c 0x060D ([BitVec.ofNat 8 x.state.ctorIdx, x.gen] ++ toLe 2 (flag x.allDirty) ++ toLe 4 x.staleGen.toNat ++ toLe 4 x.noticeLost.toNat)

/-! ## The end of a reset and of a generation (R316, R320) -/

/-- A command that waited for a generation or a reset is begun anew. -/
def State.rerunSlice (s : State) (op : Nat) (c : Cmd) : State :=
  let r := match op with
    | 0x0606 => execSliceEnable c s
    | 0x0607 => execSliceReset c s
    | 0x0608 => execSliceDisable c s
    | _ => execSliceRestore c s
  match r with
  | .next s' => s'
  | _ => s

/-- The first command that waits on a slice. -/
def State.nextWaiting (s : State) (h sl : Nat) : State :=
  match (s.slice h sl).waitCmds with
  | [] => s
  | (op, c) :: rest => (s.modSlice h sl fun x => { x with waitCmds := rest }).rerunSlice op c

/-- Table 12-3: every abort is written and every committed command has completed. -/
def State.resetEnded (s : State) (h sl : Nat) : Bool :=
  decide ((s.slice h sl).state = .resetting) && (s.qpsOf h sl).isEmpty && (s.epsOf h sl).all (fun e => (s.ep e).ending.isNone)
    && s.hosts.running.all fun o => !(o.inMbx h sl && !(match (s.slice h sl).resetCmd with
        | some (op, c) => o.is c op
        | none => false))

/-- SLICE_RESET_DONE (R318, R319, R320, Table 12-8): steps 4 to 6 of Table 12-3 end; then a command that waited runs. -/
def execSliceResetDone (hp : Fin 2) (sl : Fin 256) (s : State) : Result :=
  if !s.resetEnded hp sl then .next s
  else
    let x := s.slice hp sl
    let s := s.releaseOwned hp sl x.resetDis
    let s := s.modSlice hp sl fun x =>
      let y := { x with evt := 0, evtEn := 0, evtInfo := 0, go := false, busy := false, done := false, refused := false, resetCmd := none, resetDis := false, state := .active }
      if x.resetDis then y.disabledNow else y
    let own (c : Cmd) : Bool := decide (c.route = .mbx hp sl)
    let s := match x.resetCmd with
      | some (op, c) =>
        if s.isRunning c op then (s.endCmd c op).deliver (if own c then { c with gen := x.gen } else c) .ok 0 [x.gen] else s
      | none => s
    .next (s.nextWaiting hp sl)

/-- GENERATION_DRAINED (R316): the oldest generation in flight has drained: none of its entries is held and its host reads have ended; a waiting increment proceeds. DEDUCED, log entry 81. -/
def execGenerationDrained (hp : Fin 2) (sl : Fin 256) (s : State) : Result :=
  match (s.slice hp sl).inFlight with
  | [] => .next s
  | g :: rest =>
    let remains := (s.slice hp sl).state = .resetting && rest.isEmpty
    let busy := (s.qpsOf hp sl).any fun q => (s.qp hp sl q).held.any (fun e => decide (e.gen = g) && decide (e.kind ≠ 3))
    if remains || (busy && g ≠ (s.slice hp sl).gen) then .next s
    else .next ((s.modSlice hp sl fun x => { x with inFlight := rest }).nextWaiting hp sl)

end Sys2Proof.Machine
end

