-- ==== Sys2Proof/Machine/Levels.lean ====
section
/-! DEFINITION. Sys2Proof/Machine/Levels.lean: power domains and performance levels: PM_LEVEL, PM_DOMAIN, PM_WAKE_CFG, PM_QUERY and the ends of their sequences ("Power domains, performance levels and sleep", R353, R374 to R382). -/

namespace Sys2Proof.Machine

/-! ## Levels (R379 to R382, R353) -/

/-- Every island but Loam, by agent ID. -/
def islands : List Nat := [1, 2, 3, 4, 5, 6, 7] ++ (List.range 12).map agentPort

/-- Table 15-4: domain voltage of a level in mV. -/
def levelMv (level : Nat) : Nat := [850, 800, 750, 700, 650, 600].getD level 600

/-- R380: the level an island is on its way to, or runs at, if that is faster. -/
def State.wantedLevel (s : State) (agent : Nat) : Nat :=
  (s.power.jobs.filter fun j => decide (j.agent = agent)).foldl (fun m j => min m j.level) (s.levelOf agent)

/-- R353: VCORE_IN for the highest level among the islands: its voltage plus 50 mV, held between 0.80 V and 0.90 V. DEDUCED, log entry 93. -/
def State.vcoreTarget (s : State) : Nat :=
  max 800 (min 900 (levelMv (islands.foldl (fun m a => min m (s.wantedLevel a)) 5) + 50))

/-- R353, Table 18-4: the regulator of VCORE_IN. -/
def State.vcoreReg (s : State) : Option Nat :=
  (List.range 4).find? fun r => decide ((Tab.get {} s.power.regs r).rail = 1)

/-- R353: VOUT_COMMAND follows the target; nothing is written during a hold, nor to a regulator that does not answer. -/
def State.commandVcore (s : State) : State :=
  match s.vcoreReg with
  | none => s
  | some r =>
    let x := Tab.get {} s.power.regs r
    if s.power.hold || 3 ≤ x.missed || x.cmdMv = s.vcoreTarget then s
    else (s.modPower fun w => { w with regs := Tab.set {} r { x with cmdMv := s.vcoreTarget } w.regs }).send (.pmbus r s.vcoreTarget)

/-- R353: the level needs more than the last confirmed voltage of a regulator that does not answer. -/
def State.vcoreShort (s : State) (level : Nat) : Bool :=
  match s.vcoreReg with
  | none => false
  | some r =>
    let x := Tab.get {} s.power.regs r
    decide (3 ≤ x.missed) && decide (x.cmdMv < max 800 (min 900 (levelMv level + 50)))

/-- Table 15-5: a host port's link fits P5 up to 16 GT/s, P4 also at any rate up to x4. -/
def hostLevelMax (rate width : Nat) : Nat := if rate ≤ 160 then 5 else if width ≤ 4 then 4 else 3

/-- Table 15-5: the island meets the condition of a level. -/
def State.meetsLevel (s : State) (agent level : Nat) : Bool :=
  if level ≤ 3 then true
  else if agent = 3 || agent = 4 then
    let x := s.hp (agent - 3)
    !x.linkUp || decide (level ≤ hostLevelMax x.rate x.width)
  else if agent = 5 || agent = 6 then
    let top := if agent = 5 then (if level = 4 then 40800 else 27200) else if level = 4 then 35700 else 23800
    decide (s.clientSum agent .outb ≤ top) && decide (s.clientSum agent .inb ≤ top)
  else if agent = 7 then (List.range 4).all fun n => decide ((s.netPort n).rate ≠ 2)
  else if 16 ≤ agent then (s.port (agent - 16)).link.meets level
  else true

/-- R415: the PM_LEVEL payload in force. -/
def levelValue (agent level : Nat) : List Byte := toLe 1 agent ++ toLe 1 level

/-- The set level of an island. -/
def State.setLevel (s : State) (agent level : Nat) : State :=
  s.modPower fun w => { w with levelsSet := Tab.set 0 agent level w.levelsSet }

/-- R380: an island goes to a level: a slower clock at once, a faster one once its voltage is there (LEVEL_CHANGE_DONE). DEDUCED, log entry 93. -/
def State.startLevel (s : State) (agent level : Nat) (cmd : Option Cmd) : State :=
  let s := s.setLevel agent level
  s.modPower fun w =>
    { w with levels := (if s.levelOf agent < level then Tab.set 0 agent level w.levels else w.levels)
             jobs := w.jobs ++ [{ agent := agent, level := level, cmd := cmd }] }

/-- R382: a host port's island whose condition its link breaks is raised, by firmware. DEDUCED, log entry 93. -/
def State.raiseHost (s : State) (h : Nat) : State :=
  let a := agentHp h
  let x := s.hp h
  let l := s.wantedLevel a
  let n := hostLevelMax x.rate x.width
  if !x.linkUp || l ≤ n then s
  else s.fwChange { kind := 0x0701, object := a, old := digest (levelValue a l), new := digest (levelValue a n) } (.level a n)
    fun s => (s.startLevel a n none).commandVcore

def infoPmLevel : CmdInfo := { opcode := 0x0701, fromO := true, fromM := true, fromI := true, locked := true, journal := true, len := 2 }

/-- The islands a PM_LEVEL names. -/
def levelAgents (a : Nat) : List Nat := if a = 0xFF then islands else [a]

/-- The level in force of the islands a PM_LEVEL names: the fastest. DEDUCED, log entry 92. -/
def State.levelsInForce (s : State) (a : Nat) : Nat := (levelAgents a).foldl (fun m i => min m (s.levelOf i)) 5

/-- What the checks of PM_LEVEL find (R353, R380, R381, R392). DEDUCED, log entry 92. -/
def checksPmLevel (c : Cmd) (s : State) : Checks :=
  let a := byteAt c.payload 0
  let l := byteAt c.payload 1
  { bad := firstBad [⟨0, 1, fun a => decide (a = 0xFF) || islands.contains a⟩, rangeField 1 1 0 5] c.payload
    refuse := firstSome [failIf (!(levelAgents a).all fun i => s.meetsLevel i l) .denied 4,
      failIf (s.power.lowSupply && decide (l < 3)) .denied 4, failIf (s.vcoreShort l) .denied 4]
    object := a, old := levelValue a (s.levelsInForce a), new := levelValue a l }

/-- PM_LEVEL (R353, R380, R381, R392): it completes when every island it names runs at the new level. -/
def execPmLevel (c : Cmd) (s : State) : Result :=
  let a := byteAt c.payload 0
  let l := byteAt c.payload 1
  .next <| s.command infoPmLevel c (checksPmLevel c s) fun s => ((levelAgents a).foldl (fun s i => s.startLevel i l (some c)) s).commandVcore

/-- LEVEL_CHANGE_DONE (R380, R353): an island runs at its new level; the last of a command completes it; the supply follows a lower level. Above P3 nothing ends during a hold or LOW_SUPPLY. DEDUCED, log entry 93. -/
def execLevelChangeDone (agent : Fin 28) (s : State) : Result :=
  match s.power.jobs.find? fun j => decide (j.agent = agent.val) with
  | none => .next s
  | some j =>
    if (s.power.hold || s.power.lowSupply) && decide (j.level < 3) then .next s
    else
      let s := s.modPower fun w =>
        { w with levels := Tab.set 0 agent.val j.level w.levels, jobs := eraseFirst (fun x : LevelJob => decide (x.agent = agent.val)) w.jobs }
      let s := (s.trace agentLoam 4 agent).commandVcore
      match j.cmd with
      | none => .next s
      | some c =>
        if s.power.jobs.any fun x => decide (x.cmd = some c) then .next s
        else .next (s.complete c 0x0701 .ok 0 [BitVec.ofNat 8 j.level])

/-! ## Domains (R374 to R378, R126) -/

/-- Table 15-2: a native root of a port that is in use, or a tunnelled one with bound slots. -/
def State.rootUses (s : State) (r : Nat) (sleepOk : Bool) : Bool :=
  let x := s.root r
  let slots := s.xfer.slots.any fun e => decide (e.2.root = r) && e.2.alloc
  if sleepOk then (decide (r < 12) || slots) && !(decide (x.state = .poweredOff) || decide (x.state = .suspended))
  else !(decide (x.state = .poweredOff) || decide (x.state = .disconnected))

/-- Table 15-2: a port's own uses. -/
def State.portUses (s : State) (p : Nat) : Bool :=
  (s.tunnels.any fun t => decide (t.2.port = p) && decide (t.2.state ≠ .free))
    || s.rootUses p false
    || ((List.range 2).any fun n => (s.fn n).bound && decide ((s.fn n).port = p) && decide ((s.fn n).state ≠ .detached))
    || (s.port p).pd.dp.entered

/-- Table 15-2: a use keeps the domain on. -/
def State.domainUsed (s : State) (d : Nat) : Bool :=
  if d = 2 then (List.range 17).any fun k => decide ((s.bank (16 + k)).fill ≠ 0)
  else if 3 ≤ d && d ≤ 6 then (List.range 3).any fun k => s.portUses (3 * (d - 3) + k)
  else if d = 7 then (List.range 2).any fun h => (s.hp h).linkUp && decide ((s.hp h).power ≠ .l23)
  else if d = 8 then (s.xfer.chans.any fun e => decide (e.2.state = .running)) || (List.range 24).any fun r => s.rootUses r true
  else if d = 9 then (List.range 8).any fun n => (s.dpi n).enabled && (s.dpi n).trained
  else if d = 10 then (List.range 4).any fun n => (s.netPort n).up
  else false

/-- R374, R376, R378: what the loss of a domain's power does beyond retention: a port group's links go down. -/
def State.domainDown (s : State) (d : Nat) : State :=
  let s := s.modPower fun w => { w with on := w.on &&& ~~~(BitVec.ofNat 12 (2 ^ d)), offAt := Tab.set 0 d s.now w.offAt }
  if 3 ≤ d && d ≤ 6 then (List.range 3).foldl (fun s k => s.linkDisable (3 * (d - 3) + k)) s else s

/-- R53, R378, R386: a port whose Jayth mode is still entered retrains from DETECT at once. -/
def State.retrainEntered (s : State) (p : Nat) : State :=
  if (s.port p).pd.mode = .jayth && (s.port p).train.state = .disabled then s.startDetect p else s

/-- The power of a domain returns, with what it held. -/
def State.domainUp (s : State) (d : Nat) : State :=
  let s := s.modPower fun w => { w with on := w.on ||| BitVec.ofNat 12 (2 ^ d) }
  if 3 ≤ d && d ≤ 6 then (List.range 3).foldl (fun s k => s.retrainEntered (3 * (d - 3) + k)) s else s

def infoPmDomain : CmdInfo := { opcode := 0x0702, fromO := true, fromM := true, fromI := true, locked := true, journal := true, len := 2 }

/-- R126: MARL_B may go off only at P0 to P3 and with a carve of at most 131,072 cells. -/
def State.marlBMayGo (s : State) : Bool := decide (s.levelOf agentMarl ≤ 3) && decide (s.carve ≤ 131072)

/-- What the checks of PM_DOMAIN find (R126, R377, R378). DEDUCED, log entry 94. -/
def checksPmDomain (c : Cmd) (s : State) : Checks :=
  let d := byteAt c.payload 0
  let off := decide (byteAt c.payload 1 = 1)
  { bad := firstBad [rangeField 0 1 0 11, rangeField 1 1 0 1] c.payload
    refuse := firstSome [failIf ([0, 1, 11].contains d) .denied 4,
      failIf (off && decide (d = 2) && !s.marlBMayGo) .noResource 0,
      failIf (off && decide (d ≠ 2) && s.domainUsed d) .busy 0]
    object := d, old := toLe 1 d ++ toLe 1 (flag (s.power.held.getLsbD d)), new := toLe 1 d ++ toLe 1 (flag off) }

/-- PM_DOMAIN (R126, R377, R378). -/
def execPmDomain (c : Cmd) (s : State) : Result :=
  let d := byteAt c.payload 0
  let off := decide (byteAt c.payload 1 = 1)
  let seq := s.power.seqs.any fun q => decide (q.domain = d)
  .next <| s.command infoPmDomain c (checksPmDomain c s) fun s =>
      let bit := BitVec.ofNat 12 (2 ^ d)
      let s := s.modPower fun w =>
        { w with held := (if off then w.held ||| bit else w.held &&& ~~~bit)
                 pgDemand := (if 3 ≤ d && d ≤ 6 then w.pgDemand &&& ~~~(BitVec.ofNat 4 (2 ^ (d - 3))) else w.pgDemand)
                 pgDue := (if 3 ≤ d then Tab.erase (d - 3) w.pgDue else w.pgDue) }
      if !seq && s.power.on.getLsbD d = !off then s.ok c 0x0702 []
      else s.modPower fun w => { w with seqs := w.seqs ++ [{ domain := d, off := off, cmd := some c }] }

/-- DOMAIN_SEQUENCE_DONE (R126, R375, R376, R377, R378): a sequence of Table 15-3 ends; that of MARL_B only once banks 16 to 32 are drained. -/
def execDomainSequenceDone (domain : Fin 12) (s : State) : Result :=
  match s.power.seqs.find? fun q => decide (q.domain = domain.val) with
  | none => .next s
  | some q =>
    if q.off && domain.val = 2 && s.domainUsed 2 then .next s
    else
      let s := s.modPower fun w => { w with seqs := eraseFirst (fun x : DomSeq => decide (x.domain = domain.val)) w.seqs }
      let s := if q.off then s.domainDown domain else s.domainUp domain
      let s := if q.cmd.isNone && !q.off then s.trace agentLoam 4 domain else s
      .next (s.completeOpt q.cmd 0x0702 .ok 0 [])

/-- R378: an attach to a port whose group is off brings the group up on demand; any attach stops the 10 s to its going off. -/
def State.pgWake (s : State) (g : Nat) : State :=
  let s := s.modPower fun x => { x with pgDue := Tab.erase g x.pgDue }
  if s.domainOff (3 + g) && !(s.power.seqs.any fun q => decide (q.domain = 3 + g)) then
    s.modPower fun x => { x with seqs := x.seqs ++ [{ domain := 3 + g }], pgDemand := x.pgDemand ||| BitVec.ofNat 4 (2 ^ g) }
  else s

/-- Table 15-9: something is attached to a port of the group. -/
def State.groupAttached (s : State) (g : Nat) : Bool :=
  (List.range 3).any fun k => decide ((s.port (3 * g + k)).pd.conn = .attachedSrc) || decide ((s.port (3 * g + k)).pd.conn = .attachedSnk)

/-- PG_IDLE_OFF_EXPIRY (R378): 10 s after the last detach a group powered on demand returns off, once Table 15-2 shows no use. DESIGN CHOICE, log entry 95. -/
def execPgIdleOffExpiry (group : Fin 4) (s : State) : Result :=
  let d := 3 + group.val
  let due := (s.power.pgDue.find? fun e => decide (e.1 = group.val)).map Prod.snd
  if s.due due && s.power.pgDemand.getLsbD group && s.power.held.getLsbD d && !s.domainUsed d then
    .next (s.modPower fun w =>
      { w with pgDue := Tab.erase group.val w.pgDue, pgDemand := w.pgDemand &&& ~~~(BitVec.ofNat 4 (2 ^ group.val))
               seqs := w.seqs ++ [{ domain := d, off := true }] })
  else .next s

/-! ## Wake sources and energy (R387, R388, R395) -/

/-- R372, R387: the source is enabled to end a sleep state. -/
def State.wakeEnabled (s : State) : WakeSrc → Bool
  | .cfg b => decide (b.val < 19) && s.power.wakeMask.getLsbD b
  | .evc n => (s.src n).wake
  | .delay => s.anyDue

/-- PM_STATUS.LAST_WAKE of a source, and how one latched during entry is kept. -/
def WakeSrc.code : WakeSrc → Nat
  | .cfg b => b
  | .evc n => 64 + n
  | .delay => 63

/-- R387: an enabled source wakes the AX1224. -/
def State.wake (s : State) (src : WakeSrc) : State := if s.wakeEnabled src then s.wakeNow src.code else s

/-- WAKE_EVENT (R372, R386, R387, R388). DEDUCED, log entry 96. -/
def execWakeEvent (src : WakeSrc) (s : State) : Result := .next (s.wake src)


def infoPmWakeCfg : CmdInfo := { opcode := 0x0703, fromO := true, fromM := true, fromI := true, locked := true, journal := true, len := 8 }

/-- What the checks of PM_WAKE_CFG find (R387, Table 15-8). -/
def checksPmWakeCfg (c : Cmd) (s : State) : Checks :=
  let v := le c.payload 0 8
  { bad := firstBad [⟨0, 8, fun v => decide (v < 2 ^ 19)⟩] c.payload
    old := toLe 8 s.power.wakeMask.toNat, new := toLe 8 v }

/-- PM_WAKE_CFG (R387, Table 15-8): bits 19 to 63 are reserved. -/
def execPmWakeCfg (c : Cmd) (s : State) : Result :=
  let v := le c.payload 0 8
  .next <| s.command infoPmWakeCfg c (checksPmWakeCfg c s) fun s => (s.modPower fun w => { w with wakeMask := BitVec.ofNat 64 v }).ok c 0x0703 []

/-- R395: the energy of a plane in µJ, modulo 2^32. -/
def State.planeUj (s : State) (agents : List Nat) : Nat :=
  ((agents.map fun a => (Tab.get 0 s.power.energy a).toNat).sum / 1000) % 2 ^ 32

def infoPmQuery : CmdInfo := { opcode := 0x0704, fromS := true, fromO := true, fromM := true, fromD := true, len := 0 }

/-- What the checks of PM_QUERY find (R9, R260): it has no fields. -/
def checksPmQuery (c : Cmd) : Checks := { bad := firstBad [] c.payload }

/-- PM_QUERY (R395). -/
def execPmQuery (c : Cmd) (s : State) : Result :=
  .next <| s.command infoPmQuery c (checksPmQuery c) fun s =>
    s.ok c 0x0704 (toLe 2 s.power.on.toNat ++ toLe 1 s.power.sleep.toNat ++ [0]
      ++ toLe 4 (s.planeUj (islands.filter fun a => decide (a ≠ 1))) ++ toLe 4 (s.planeUj [1]) ++ toLe 4 (s.planeUj [0]))

end Sys2Proof.Machine
end

