-- ==== Sys2Proof/Machine/HostPort.lean ====
section
/-! DEFINITION. Sys2Proof/Machine/HostPort.lean: host ports as their slices see them: loss, return, link rate, power states and host reads (R119, R330 to R338, Table 9-7, Table 12-7). -/

namespace Sys2Proof.Machine

/-! ## Plan triggers (R119) -/

/-- The command that creates a plan entry's tunnel. -/
def Plan.cmd (e : Plan) : Cmd := { route := .image none, payload := e.payload }

/-- R119: the existing tunnel that holds an entry's KEY. -/
def State.planOld (s : State) (e : Plan) : Option Nat :=
  (s.tunnels.find? fun t => decide (t.2.key = e.key) && decide (t.2.state ≠ .free) && decide (t.2.state ≠ .closing)).map Prod.fst

/-- R119: what a matching entry makes: the TID and the tunnel, none where it is refused. A replacement on one port sees only the net change; a create waits in OPENING as at START. -/
def State.planTunnel (s : State) (e : Plan) : Option (Nat × Tunnel) :=
  let c := e.cmd
  match s.planOld e with
  | some tid =>
    let t := s.tunnel tid
    let n := { newTunnel c t.tun (t.gen + 1) false with create := none }
    let inb := t.dirs.getLsbD 1 && t.cls = n.cls
    let net (off : Bool) (v : Nat) (d : Dir) : Nat := if off then v - t.counted d else v
    let same := decide (n.client = t.client) && decide (t.state ≠ .closing)
    if (n.dirs.getLsbD 1 && !inb && !s.canHold n.cls)
      || (s.ceilingCheck n.client (net same n.rsvOut .outb) (net same n.rsvIn .inb)).isSome then none
    else if n.port = t.port then
      if !s.linkUp n.port then some (tid, { n with planWait := true })
      else if (s.laneCheck n.port (net t.counts n.rsvOut .outb) (net t.counts n.rsvIn .inb)).isSome then none
      else some (tid, n)
    else match s.freeTid, s.freeTun n.port with
      | some tid', some tun =>
        let m := { newTunnel c tun (s.tunnel tid').gen false with create := none }
        some (tid', { m with planWait := s.planWaits m })
      | _, _ => none
  | none => match s.freeTid, s.freeTun (byteAt e.payload 0) with
    | some tid, some tun =>
      let n := { newTunnel c tun (s.tunnel tid).gen false with create := none }
      let held := !n.dirs.getLsbD 1 || s.canHold n.cls
      let bound := (n.cls = 0 && s.streamBound n.clientRef.toNat) || (n.cls = 5 && s.vidBound n.clientRef.toNat)
      if held && !bound && (s.ceilingCheck n.client n.rsvOut n.rsvIn).isNone then
        some (tid, { n with planWait := s.planWaits n })
      else none
    | _, _ => none

/-- R119: one entry is applied: the tunnel with its KEY is torn down, its owner told, and the new one made, as one step. DEDUCED, log entry 88. -/
def State.planNow (s : State) (i : Nat) : State :=
  let e := s.plan.getD i {}
  match s.planTunnel e with
  | none => s.alarmOccur 21 i false
  | some (tid, n) =>
    let s := match s.planOld e with
      | some old =>
        let s := s.tunnelNotice old 0x01 .linkLost
        if old = tid then s.replaceTunnel tid n else (s.closeTunnel old).makeTunnel tid n
      | none => s.makeTunnel tid n
    if n.cls = 2 || n.cls = 3 then s.rootFollows n.port else s

/-- R119, Table 12-7: each entry applied is journalled with origin FW. -/
def State.planApply (s : State) (i : Nat) : State :=
  let e := s.plan.getD i {}
  match s.planTunnel e with
  | none => s.alarmOccur 21 i false
  | some (tid, n) =>
    let old := ((s.planOld e).map fun t => (s.tunnel t).value).getD []
    s.fwChange { kind := 0x0201, object := tid, old := digest old, new := digest n.value } (.planApply i) fun s => s.planNow i

/-- The entries with the trigger of a host port's loss, in the order of the plan. -/
def State.planTriggered (s : State) (h : Nat) : List Nat :=
  (List.range s.plan.length).filter fun i => decide ((s.plan.getD i {}).trigger = h + 1)

/-! ## Loss (R330 to R332, R335) -/

/-- R317, Table 12-7: what a slice's commands and queues would still have written is counted, and written nowhere. -/
def State.dropQueues (s : State) (h sl : Nat) : State :=
  let mine (o : Outst) : Bool := decide (o.route.slice? = some (h, sl))
  let cmds := (s.hosts.running.filter mine).length
  let held := ((s.qpsOf h sl).map fun q => (s.qp h sl q).held.length + (s.qp h sl q).aborts.length).sum
  let s := s.modHosts fun y =>
    { y with running := y.running.filter fun o => !mine o
             qps := y.qps.filter fun e => decide (e.1 / 64 ≠ sliceKey h sl) }
  s.modSlice h sl fun x => { x with staleGen := x.staleGen + BitVec.ofNat 64 (cmds + held) }

/-- Table 12-7: a tunnel of a lost slice: a PERSIST one passes to slice 0, another is kept for 1 s. -/
def State.lostTunnel (s : State) (h tid : Nat) : State :=
  let t := s.tunnel tid
  if s.dpBinding tid then s.dropBinding tid
  else if t.persist then s.setTunnel tid (if t.owner = .slice h 0 then { t with create := none } else { t.toSliceZero h with create := none })
  else s.setTunnel tid { t with tornDown := some h, create := none }

/-- R331, R332: one slice enters HOST_LOST: GEN + 1, nothing older stays in flight, nothing is written. DEDUCED, log entry 86. -/
def State.loseSlice (s : State) (h sl : Nat) : State :=
  let x := s.slice h sl
  let keeps := x.waitCmds.filter fun w => decide (w.2.route = .mgmt)
  let s := s.completeOpt (x.freezeCmd.filter fun c => decide (c.route = .mgmt)) 0x0609 .aborted 0 []
  let s := s.setSlice h sl
    { x with state := .hostLost, gen := x.gen + 1, inFlight := [], wasFrozen := decide (x.state = .frozen), waitCmds := keeps, resetCmd := none
             resetDis := false, freezeCmd := none, freezeDue := none, lostDue := some (s.after 1000000000), evt := 0, evtEn := 0, evtInfo := 0
             go := false, busy := false, done := false, refused := false, dirtyOn := false, allDirty := x.allDirty || x.dirtyOn }
  let s := (s.epsOf h sl).foldl (fun s e => (s.stopEp e .aborted 0 .disabled).setEp e {}) s
  let s := (s.chansOf h sl).foldl (fun s n => (s.stopCh n).clearCh n true) s
  let s := (s.tunnelsOf h sl).foldl (fun s tid => s.lostTunnel h tid) s
  let roots := s.rootsOf h sl
  let s := roots.foldl State.unbindRoot s
  let s := roots.foldl State.renewHub s
  let s := (s.fnsOf h sl).foldl (fun s n => (s.modFn n fun f => { f with owner := none }).releaseFn n) s
  let s := (s.timersOf h sl).foldl (fun s n => s.modXfer fun y => { y with timers := Tab.erase n y.timers }) s
  s.dropQueues h sl

/-- The slices of a host port that are not DISABLED. -/
def State.liveSlices (s : State) (h : Nat) : List Nat :=
  ((s.hosts.slices.filter fun e => decide (e.1 / 256 = h) && decide (e.2.state ≠ .disabled) && decide (e.2.state ≠ .hostLost)).map Prod.fst).map (· % 256)

/-- R335: the host port's island and configuration space as its reset leaves them. PRESUMED, log entry 4; DESIGN CHOICE, log entry 87. -/
def HostPort.afterReset (x : HostPort) (up : Bool) : HostPort :=
  { x with linkUp := up, lost := true, power := .d0, bar0 := none, bme := false, pmeEn := false, ptmEn := false, ctoMs := 50, msix := [], pba := []
           sqFifo := [], cqFifo := [], sqMap := [], cqMap := [], latch := none, alarmPend := false, jPend := false, tPend := false, owedVecs := [], reads := [], scratch := 0, siteHeld := [] }

/-- R314, R331, R332, R422: a host port is lost. DESIGN CHOICE, log entry 87. -/
def State.losePort (s : State) (h : Nat) (up : Bool) : State :=
  let waiting := ((s.liveSlices h).map fun sl => ((s.slice h sl).waitCmds.filter fun w => decide (w.2.route = .mgmt)).map fun _ => sl).flatten
  let s := (s.liveSlices h).foldl (fun s sl => s.loseSlice h sl) s
  let s := (s.flushAgent (agentHp h)).modHp h fun x => x.afterReset up
  let s := { s with ports := s.ports.map fun (e : Nat × Port) =>
    (e.1, { e.2 with pd := (if h = 0 then { e.2.pd with bind0 := none } else { e.2.pd with bind1 := none }) }) }
  let s := { s with ports := s.ports.filter fun (e : Nat × Port) => decide (e.2 ≠ ({} : Port)) }
  let none' := s.noSink
  let s := s.unbindJournal h
  let s := if (s.hp h).tOn then s.unbindTrace h else s
  let s := (s.sinkAlarm none').alarmOccur 7 h true
  let s := (s.event (evHp h 4)).loamRecord 0xF006 h 0 0
  let s := (s.planTriggered h).foldl State.planApply s
  waiting.foldl (fun s sl => s.nextWaiting h sl) s

/-- HOST_PORT_LOSS (R330 to R332, R119): link out of DL_Active, hot reset, link disable or PERST_N. DEDUCED, log entry 89. -/
def execHostPortLoss (hp : Fin 2) (s : State) : Result :=
  if (s.hp hp).lost || !s.boot.released then .next (s.modHp hp fun x => { x with linkUp := false }) else .next (s.losePort hp false)

/-- FUNCTION_LEVEL_RESET (R335): as a loss; the link stays. -/
def execFunctionLevelReset (hp : Fin 2) (s : State) : Result :=
  let s := s.event (evHp hp 5)
  if (s.hp hp).lost || !s.boot.released then .next s else .next (s.losePort hp true)

/-- HOST_LOST_TUNNEL_EXPIRY (R332): 1 s after the loss, the tunnels of the slice that nobody took over are destroyed without notice. DEDUCED, log entry 139. -/
def execHostLostTunnelExpiry (hp : Fin 2) (sl : Fin 256) (s : State) : Result :=
  let x := s.slice hp sl
  if !s.due x.lostDue then .next s
  else
    let s := s.setSlice hp sl { x with lostDue := none }
    let l := keysOf s.tunnels fun t => decide (t.owner = .slice hp sl) && decide (t.tornDown = some hp.val) && decide (t.state ≠ .free)
    .next (l.foldl (fun s tid => s.fwChange (s.teardownReq tid 5) (.close tid) fun s => s.closeOwned tid) s)

/-! ## Link and power (R334, R337, R338, Table 9-7) -/

/-- Table 13-1: rates in 0.1 GT/s, and widths. -/
def linkRates : List Nat := [25, 50, 80, 160, 320]
def linkWidths : List Nat := [1, 2, 4, 8]

/-- HOST_PORT_RETURN (R318, R334, R387): the link reaches DL_Active: slice 0 ACTIVE, holding only PERSIST tunnels, every other slice DISABLED. -/
def execHostPortReturn (hp : Fin 2) (rate : Fin 5) (width : Fin 4) (s : State) : Result :=
  let was := (s.hp hp).lost
  let s := s.modHp hp fun x => { x with linkUp := true, lost := false, rate := linkRates.getD rate.val 320, width := linkWidths.getD width.val 8 }
  let s := ((s.noteClient hp).raiseHost hp).wakeCfg (12 + hp)
  if !was then .next s
  else
    let back := keysOf s.hosts.slices fun x => decide (x.state = .hostLost)
    let s := (back.filter fun k => decide (k / 256 = hp.val) && decide (k % 256 ≠ 0)).foldl (fun s k => s.modSlice hp (k % 256) Slice.disabledNow) s
    let s := s.modSlice hp 0 fun x => { x with state := .active, lostDue := x.lostDue, wasFrozen := false }
    let s := if (s.hp (1 - hp.val)).lost then s else s.alarmEnd 7
    .next (s.event (evHp hp 4))

/-- HOST_LINK_RATE_CHANGE (R338, R382): the link trains to another rate or width. -/
def execHostLinkRateChange (hp : Fin 2) (rate : Fin 5) (width : Fin 4) (s : State) : Result :=
  if !(s.hp hp).linkUp then .next s
  else
    let s := s.modHp hp fun x => { x with rate := linkRates.getD rate.val 320, width := linkWidths.getD width.val 8 }
    .next ((s.noteClient hp).raiseHost hp)

/-- R255, Table 9-7: the vectors left pending by a power state go first on the return to D0; masked ones become pending bits. With Bus Master Enable set, pending bits of unmasked vectors are sent. DEDUCED, log entry 90. -/
def State.deliverOwed (s : State) (h : Nat) : State :=
  let x := s.hp h
  if x.power ≠ .d0 then s
  else
    let s := s.setHp h { x with owedVecs := [] }
    let s := x.owedVecs.foldl (fun s v => s.sendVec h v) s
    let y := s.hp h
    if !y.bme then s
    else
      let go := y.pba.filter fun v => !(y.msixEntry v).ctrl.getLsbD 0
      go.foldl (fun s v => s.send (.msix h v)) (s.setHp h { y with pba := y.pba.filter fun v => (y.msixEntry v).ctrl.getLsbD 0 })

/-- HOST_POWER_STATE_CHANGE (R255, R387, R330, R337, Table 9-7): the host port's power state, and what the host has set in its configuration space: Bus Master Enable, PME enable, PTM Enable, the base of BAR0, the completion timeout. DEDUCED, log entry 90. -/
def execHostPowerStateChange (hp : Fin 2) (power : Fin 3) (bme pmeEn ptmEn : Bool) (bar0 : Option (BitVec 64)) (ctoMs : Nat) (s : State) : Result :=
  if (s.hp hp).lost then .next s
  else
    let p : HpPower := match power.val with
      | 0 => .d0
      | 1 => .d3hot
      | _ => .l23
    let was := (s.hp hp).power
    let s := s.modHp hp fun x =>
      { x with power := p, bme := bme, pmeEn := pmeEn, ptmEn := ptmEn, bar0 := bar0.map fun b => b &&& ~~~(0xFFFFFF : BitVec 64)
               ctoMs := if 16 ≤ ctoMs && ctoMs ≤ 210 then ctoMs else x.ctoMs }
    let s := (s.deliverOwed hp).drainStaging (agentHp hp)
    .next (if was = .l23 && p ≠ .l23 then s.wakeCfg (12 + hp) else s)

/-! ## Host reads (R336) -/

/-- HOST_READ_COMPLETION (R316, R336): the data of a read that a slice's work issued arrives; a slice whose reads were abandoned has it discarded. At most 256 reads are outstanding at a host port (Table 13-1). DESIGN CHOICE, log entry 91. -/
def execHostReadCompletion (hp : Fin 2) (sl : Fin 256) (addr : BitVec 64) (bytes : List Byte) (s : State) : Result :=
  let st := (s.slice hp sl).state
  if st = .hostLost || st = .disabled || (s.hp hp).lost then .next s
  else .next (s.modHp hp fun x =>
    let l := x.reads ++ [{ sl := sl.val, addr := addr, bytes := bytes }]
    { x with reads := l.drop (l.length - 256) })

/-- HOST_READ_TIMEOUT (R253, R302, R309, R336): a bus error for DMA, a fetch error for a queue, a host-side transaction error for USB. -/
def execHostReadTimeout (user : ReadUser) (s : State) : Result :=
  match user with
  | .dma n program addr => if s.chRuns n then .next (s.busError n (if program then 0x12 else 0x10) addr) else .next s
  | .queue hp sl q => if (s.qp hp sl q).state = .active then .next (s.fetchError hp sl q 0 3) else .next s
  | .usb e => if (s.ep e).chain.isSome then .next (s.stopEp e .mediaError 3 .halted) else .next s

end Sys2Proof.Machine
end

