-- ==== Sys2Proof/Machine/Edge.lean ====
section
/-! DEFINITION. Sys2Proof/Machine/Edge.lean: reference clocks and timebase, Precision Time Measurement, DisplayPort inputs and Ethernet ports ("Host ports, edge interfaces and timebase", R24, R25, R339 to R351). -/

namespace Sys2Proof.Machine

/-! ## Timebase (R24, R25, R343) -/

/-- R25, R343: 500 ppm in 2^-32 ns per 10 ns tick. -/
def maxTrim : Nat := 21474836

/-- R343: what a tick adds to the steady rate while an offset is left: the total is exactly ±500 ppm. -/
def Clock.extra (k : Clock) : Int :=
  let trim := signed 32 k.trim.toNat
  if 0 < k.slewLeft then min k.slewLeft ((maxTrim : Int) - trim)
  else if k.slewLeft < 0 then max k.slewLeft (-(maxTrim : Int) - trim)
  else 0

/-- R24, R343: one 10 ns tick of the Loam clock, with trim and slew. DESIGN CHOICE, log entry 5. -/
def Clock.tick (k : Clock) : Clock :=
  let x := k.extra
  let total : Int := (k.now.toNat : Int) * 2 ^ 32 + k.frac.toNat + 10 * 2 ^ 32 + signed 32 k.trim.toNat + x
  { k with now := BitVec.ofInt 64 (total / 2 ^ 32), frac := BitVec.ofInt 32 (total % 2 ^ 32), slewLeft := k.slewLeft - x }

def infoTbSet : CmdInfo := { opcode := 0x0A01, fromM := true, fromI := true, journal := true, len := 16 }

/-- What the checks of TB_SET find (R25, R275). -/
def checksTbSet (c : Cmd) (s : State) : Checks :=
  { bad := firstBad [anyField 8 8] c.payload
    refuse := failIf s.boot.released .denied 4
    old := toLe 8 0 ++ toLe 8 s.clock.now.toNat, new := toLe 8 0 ++ toLe 8 (le c.payload 8 8) }

/-- R25, R365: the timebase is set; the delays that remain are as they were. DESIGN CHOICE, log entry 172. -/
def State.setTimebase (s : State) (v : Nat) : State :=
  let t := s.modClock fun k => { k with now := BitVec.ofNat 64 v, frac := 0 }
  t.rebaseDelays (t.tick32 - s.tick32)

/-- TB_SET (R25, R275, R365): the timebase is set, before release only. DESIGN CHOICE, log entry 172. -/
def execTbSet (c : Cmd) (s : State) : Result :=
  .next <| s.command infoTbSet c (checksTbSet c s) fun s => (s.setTimebase (le c.payload 8 8)).ok c 0x0A01 []

def infoTbSlew : CmdInfo := { opcode := 0x0A02, fromO := true, fromM := true, len := 16 }

/-- What the checks of TB_SLEW find (R343, R275). DEDUCED, log entry 45. -/
def checksTbSlew (c : Cmd) : Checks :=
  let trim := signed 32 (le c.payload 0 4)
  let left := signed 64 (le c.payload 8 8)
  { bad := firstSome [badIf (decide (maxTrim < trim.natAbs)) 0, firstBad [anyField 0 4, anyField 8 8] c.payload,
      badIf (decide (trim.natAbs = maxTrim) && decide (0 < trim * left)) 8] }

/-- TB_SLEW (R343, R275): trim and offset replace both values. -/
def execTbSlew (c : Cmd) (s : State) : Result :=
  let left := signed 64 (le c.payload 8 8)
  .next <| s.command infoTbSlew c (checksTbSlew c) fun s => (s.modClock fun k => { k with trim := BitVec.ofNat 32 (le c.payload 0 4), slewLeft := left * 2 ^ 32 }).ok c 0x0A02 []

/-- SLEW_OFFSET_REMOVED (R343): the offset is removed; the rate is the steady trim again. DEDUCED, log entry 102. -/
def execSlewOffsetRemoved (s : State) : Result :=
  .next (if s.clock.slewLeft.natAbs < 2 ^ 32 then s.modClock fun k => { k with slewLeft := 0 } else s)

def infoTbQuery : CmdInfo := { opcode := 0x0A04, fromS := true, fromM := true, fromD := true, len := 0 }

/-- What the checks of TB_QUERY find (R9, R260): it has no fields. -/
def checksTbQuery (c : Cmd) : Checks := { bad := firstBad [] c.payload }

/-- TB_QUERY (R24, R343, Table 10-8). -/
def execTbQuery (c : Cmd) (s : State) : Result :=
  .next <| s.command infoTbQuery c (checksTbQuery c) fun s =>
    s.ok c 0x0A04 (toLe 8 s.clock.now.toNat ++ toLe 4 s.clock.trim.toNat ++ toLe 1 (flag s.clock.srcB)
      ++ toLe 1 (flag s.clock.aValid + 2 * flag s.clock.bValid))

/-- FOLLOWER_INVALID (R24): a follower that missed two full values marks its stamps invalid and raises an event. -/
def execFollowerInvalid (agent : Fin 28) (s : State) : Result :=
  .next ((s.modClock fun k =>
    { k with invalidFollowers := if k.invalidFollowers.contains agent.val then k.invalidFollowers else agent.val :: k.invalidFollowers }).event 0x1C4)

/-- TIMEBASE_FULL_VALUE (R24): the next full value reloads every follower. -/
def execTimebaseFullValue (s : State) : Result := .next (s.modClock fun k => { k with invalidFollowers := [] })

/-! ## The site identifier (R458, R459) -/

/-- R458: the record of a write of GLB_SITE_ID: register values stand in OLD and NEW. -/
def State.siteRecord (s : State) (who : Option (Fin 2)) (v : BitVec 32) : JReq :=
  { origin := match who with
      | some h => 3 + h
      | none => 2
    kind := 0xF003, object := 0x34, old := toLe 4 s.siteId.toNat, new := toLe 4 v.toNat }

/-- R458: the write is refused: counted in JRNL_BUSY and shown by WR_REFUSED. -/
def State.siteRefused (s : State) (who : Option (Fin 2)) : State :=
  let s := s.modSilt fun x => { x with jrnlBusy := x.jrnlBusy + 1 }
  match who with
  | some h => s.modHp h fun x => { x with wrRefused := true }
  | none => s.modMgmt fun x => { x with wrRefused := true }

/-- R262, R264, R419, R458: the write is journalled before it takes effect; with the lock set it is journalled as refused. -/
def State.siteWrite (s : State) (who : Option (Fin 2)) (v : BitVec 32) (late : Bool) : State :=
  let r := { s.siteRecord who v with deferred := late }
  if s.lock then
    if s.journalRoom who.isNone then s.commitNow { r with new := r.old, refused := true }
    else s.modSilt fun x => { x with refusedUnlogged := x.refusedUnlogged + 1 }
  else if s.journalRoom who.isNone then { s.commitNow r with siteId := v }
  else s.siteRefused who

/-- R390, R458: during a hold a write is held, at most four for each window. -/
def State.siteHold (s : State) (who : Option (Fin 2)) (v : BitVec 32) : State :=
  match who with
  | some h => if (s.hp h).siteHeld.length < 4 then s.modHp h fun x => { x with siteHeld := x.siteHeld ++ [v] } else s.siteRefused who
  | none => if s.mgmt.siteHeld.length < 4 then s.modMgmt fun x => { x with siteHeld := x.siteHeld ++ [v] } else s.siteRefused who

/-- R458: the writes held are applied in order. -/
def State.sitesHeld (s : State) : State :=
  let s := (List.range 2).foldl (fun s h =>
    let l := (s.hp h).siteHeld
    l.foldl (fun s v => s.siteWrite (some (Fin.ofNat 2 h)) v true) (s.modHp h fun x => { x with siteHeld := [] })) s
  let l := s.mgmt.siteHeld
  l.foldl (fun s v => s.siteWrite none v true) (s.modMgmt fun x => { x with siteHeld := [] })

/-- R387, Table 15-8: a register is written by slice 0 of a host port, through BAR0, or by the management controller. -/
def State.wroteBy (s : State) (who : Option (Fin 2)) : State :=
  match who with
  | some h => s.wakeCfg (12 + h)
  | none => s

/-- GLB_SITE_ID_WRITE (R458, R459): by slice 0 of a host port, or by the management controller. -/
def execGlbSiteIdWrite (who : Option (Fin 2)) (v : BitVec 32) (s : State) : Result :=
  let s := s.wroteBy who
  .next (if s.power.hold then s.siteHold who v else s.siteWrite who v false)

/-- WR_REFUSED_CLEAR (R458). -/
def execWrRefusedClear (who : Option (Fin 2)) (s : State) : Result :=
  let s := s.wroteBy who
  .next (match who with
    | some h => s.modHp h fun x => { x with wrRefused := false }
    | none => s.modMgmt fun x => { x with wrRefused := false })

/-! ## Reference clocks (R340 to R342) -/

def Clock.valid (k : Clock) (b : Bool) : Bool := if b then k.bValid else k.aValid

/-- R341: a hitless switch to an input, counted and traced. DEDUCED, log entry 102. -/
def State.switchRef (s : State) (b : Bool) : State :=
  (s.modClock fun k => { k with srcB := b, switches := k.switches + 1 }).trace agentLoam 7 (flag b)

/-- REFCLK_LOST (R340, R341, R342): an input becomes invalid. -/
def execRefclkLost (input : Fin 2) (s : State) : Result :=
  let b := decide (input.val = 1)
  if !s.clock.valid b then .next s
  else
    let standby := decide (s.clock.srcB ≠ b)
    let s := s.modClock fun k => if b then { k with bValid := false } else { k with aValid := false }
    let s := (s.alarmOccur 3 (input + 256 * flag standby) true).event 0x1C3
    if standby then .next s
    else if s.clock.valid !b then .next (s.switchRef !b)
    else .next ((s.modClock fun k => { k with holdover := true }).alarmOccur 4 0 true)

/-- REFCLK_VALID (R340, R341, R342): an input is valid again after 100 ms; holdover ends with a switch to it. -/
def execRefclkValid (input : Fin 2) (s : State) : Result :=
  let b := decide (input.val = 1)
  if s.clock.valid b then .next s
  else
    let now := s.now
    let s := s.modClock fun k => if b then { k with bValid := true, bSince := now } else { k with aValid := true, aSince := now }
    let s := if s.clock.aValid && s.clock.bValid then s.alarmEnd 3 else s
    let s := if s.clock.valid s.clock.srcB then s else s.switchRef b
    .next (if s.clock.holdover then ((s.modClock fun k => { k with holdover := false }).alarmEnd 4).event 0x1C3 else s)

/-- PREFERRED_RETURN (R341): the preferred input has been valid for 10 s. -/
def execPreferredReturn (s : State) : Result :=
  let k := s.clock
  let b := decide (k.mode = 1)
  let since := if b then k.bSince else k.aSince
  if k.mode ≤ 1 && decide (k.srcB ≠ b) && k.valid b && decide (10000000000 ≤ (k.now - since).toNat) then .next (s.switchRef b)
  else .next s

def infoRefclkSelect : CmdInfo := { opcode := 0x0A03, fromO := true, fromM := true, fromI := true, locked := true, journal := true, len := 1 }

/-- What the checks of REFCLK_SELECT find (R275, R341). -/
def checksRefclkSelect (c : Cmd) (s : State) : Checks :=
  let v := byteAt c.payload 0
  { bad := firstBad [rangeField 0 1 0 2] c.payload
    refuse := failIf (decide (v ≤ 1) && !s.clock.valid (decide (v = 1))) .mediaError 0
    object := v, old := toLe 1 s.clock.mode, new := toLe 1 v }

/-- REFCLK_SELECT (R275, R341). -/
def execRefclkSelect (c : Cmd) (s : State) : Result :=
  let v := byteAt c.payload 0
  .next <| s.command infoRefclkSelect c (checksRefclkSelect c s) fun s => (s.modClock fun k => { k with mode := v }).ok c 0x0A03 [BitVec.ofNat 8 (flag s.clock.srcB)]

/-- PTM_DIALOGUE (R344): the results of one dialogue, PTM_SEQ last. -/
def execPtmDialogue (hp : Fin 2) (t1 master : BitVec 64) (delay : BitVec 32) (s : State) : Result :=
  let x := s.hp hp
  if x.ptmEn && x.linkUp && !s.domainOff 7 then
    .next ((s.setHp hp { x with ptmLocal := t1, ptmMaster := master, ptmDelay := delay, ptmSeq := x.ptmSeq + 1 }).event (evHp hp 6))
  else .next s

/-! ## DisplayPort inputs (R345 to R347) -/

/-- The main link of an input ends; its streams have stopped (R89). -/
def Dpi.down (d : Dpi) : Dpi :=
  let stop (x : Stream) : Stream := { x with stopped := true }
  { d with trained := false, linkRate := 0, lanes := 0, s0 := stop d.s0, s1 := stop d.s1, s2 := stop d.s2, s3 := stop d.s3 }

def infoDpiCfg : CmdInfo := { opcode := 0x0B01, fromO := true, fromM := true, fromI := true, locked := true, journal := true, len := 4 }

/-- R415: the DPI_CFG payload in force. -/
def Dpi.value (d : Dpi) (n : Nat) : List Byte := toLe 1 n ++ toLe 1 d.rate ++ toLe 1 d.streams ++ toLe 1 (flag d.enabled)

/-- What the checks of DPI_CFG find (R346). -/
def checksDpiCfg (c : Cmd) (s : State) : Checks :=
  let b := c.payload
  let n := byteAt b 0
  let d := s.dpi n
  let new : Dpi := { d with rate := byteAt b 1, streams := byteAt b 2, enabled := bitOf (byteAt b 3) 0 }
  { bad := firstBad [rangeField 0 1 0 7, rangeField 1 1 0 5, rangeField 2 1 1 4, rangeField 3 1 0 1] b
    refuse := s.needs 9
    object := n, old := d.value n, new := new.value n }

/-- DPI_CFG (R346): a change of an enabled input drives HPD low for 2 ms, and the source trains again. DEDUCED, log entry 104. -/
def execDpiCfg (c : Cmd) (s : State) : Result :=
  let b := c.payload
  let n := byteAt b 0
  let d := s.dpi n
  let new : Dpi := { d with rate := byteAt b 1, streams := byteAt b 2, enabled := bitOf (byteAt b 3) 0 }
  .next <| s.command infoDpiCfg c (checksDpiCfg c s) fun s =>
      let changed := d.enabled && decide (new.value n ≠ d.value n)
      let s := s.modDpi n fun _ =>
        if changed then { new.down with hpdDue := if new.enabled then some (s.after 2000000) else none } else new
      s.ok c 0x0B01 []

/-- DPI_HPD_PULSE_END (R346). -/
def execDpiHpdPulseEnd (dpi : Fin 8) (s : State) : Result :=
  if s.due (s.dpi dpi).hpdDue then .next (s.modDpi dpi fun d => { d with hpdDue := none }) else .next s

def infoDpiQuery : CmdInfo := { opcode := 0x0B02, fromS := true, fromM := true, fromD := true, len := 1 }

/-- What the checks of DPI_QUERY find (Table 10-8). -/
def checksDpiQuery (c : Cmd) (s : State) : Checks :=
  { bad := firstBad [rangeField 0 1 0 7] c.payload, refuse := s.needs 9 }

/-- DPI_QUERY (Table 10-8). DEDUCED, log entry 104. -/
def execDpiQuery (c : Cmd) (s : State) : Result :=
  let d := s.dpi (byteAt c.payload 0)
  .next <| s.command infoDpiQuery c (checksDpiQuery c s) fun s =>
    s.ok c 0x0B02 (toLe 1 d.linkRate ++ toLe 1 d.lanes ++ toLe 1 d.streams ++ [0] ++ toLe 4 (d.s0.mode.pixclk / 1000))

/-- DPI_LINK_CHANGE (R345, R346, R387): a source connects (0) or disconnects (1), starts training (2), has trained (3), or loses the main link (4); at most the rate that DPI_CFG allows, on 1, 2 or 4 lanes. -/
def execDpiLinkChange (dpi : Fin 8) (kind : Fin 5) (rate : Fin 6) (lanes : Fin 5) (s : State) : Result :=
  let d := s.dpi dpi
  let woken := decide (kind.val = 0) || decide (kind.val = 2)
  if !d.enabled || d.hpdDue.isSome then .next s
  else if s.domainOff 9 then .next (if woken then s.wakeCfg 17 else s)
  else if kind.val = 3 && (decide (d.rate < rate.val) || decide (lanes.val = 0) || decide (lanes.val = 3)) then .next s
  else
    let n := match kind.val with
      | 0 => { d with connected := true }
      | 1 => { d.down with connected := false }
      | 2 => { d.down with connected := true }
      | 3 => { d with connected := true, trained := true, linkRate := rate.val, lanes := lanes.val }
      | _ => d.down
    let s := (s.modDpi dpi fun _ => n).event (0x1A0 + dpi)
    .next (if woken then s.wakeCfg 17 else s)

/-! ## Ethernet ports (R348 to R351) -/

def infoNetPortCfg : CmdInfo := { opcode := 0x0A10, fromO := true, fromM := true, fromI := true, locked := true, journal := true, len := 3 }

def NetPort.value (x : NetPort) (n : Nat) : List Byte := toLe 1 n ++ toLe 1 x.rate ++ toLe 1 (flag x.fec)

/-- What the checks of NET_PORT_CFG find (R348, R381). -/
def checksNetPortCfg (c : Cmd) (s : State) : Checks :=
  let b := c.payload
  let n := byteAt b 0
  let x := s.netPort n
  let new : NetPort := { x with rate := byteAt b 1, fec := bitOf (byteAt b 2) 0 }
  { bad := firstBad [rangeField 0 1 0 3, rangeField 1 1 0 2, rangeField 2 1 0 1] b
    refuse := firstSome [s.needs 10, failIf (decide (byteAt b 1 = 2) && decide (4 ≤ s.levelOf agentNet)) .denied 4]
    object := n, old := x.value n, new := new.value n }

/-- NET_PORT_CFG (R348, R381): a change takes the link down. -/
def execNetPortCfg (c : Cmd) (s : State) : Result :=
  let b := c.payload
  let n := byteAt b 0
  let x := s.netPort n
  let new : NetPort := { x with rate := byteAt b 1, fec := bitOf (byteAt b 2) 0 }
  .next <| s.command infoNetPortCfg c (checksNetPortCfg c s) fun s =>
      let s := s.modNet n fun _ => { new with up := x.up && decide (new.value n = x.value n) }
      (if x.up && decide (new.value n ≠ x.value n) then s.event (0x1B0 + n) else s).ok c 0x0A10 []

def infoPtpCfg : CmdInfo := { opcode := 0x0A11, fromO := true, fromM := true, fromI := true, locked := true, journal := true, len := 2 }

/-- What the checks of PTP_CFG find (R351). -/
def checksPtpCfg (c : Cmd) (s : State) : Checks :=
  let n := byteAt c.payload 0
  let v := byteAt c.payload 1
  let x := s.netPort n
  { bad := firstBad [rangeField 0 1 0 3, rangeField 1 1 0 7] c.payload
    refuse := s.needs 10
    object := n, old := toLe 1 n ++ toLe 1 (flag x.ptpEvents + 2 * x.ptpEnc), new := toLe 1 n ++ toLe 1 v }

/-- PTP_CFG (R351). -/
def execPtpCfg (c : Cmd) (s : State) : Result :=
  let n := byteAt c.payload 0
  let v := byteAt c.payload 1
  .next <| s.command infoPtpCfg c (checksPtpCfg c s) fun s => (s.modNet n fun x => { x with ptpEvents := bitOf v 0, ptpEnc := bits v 2 1 }).ok c 0x0A11 []

/-- ETH_LINK_CHANGE (R348, R387, Table 15-2): the link of a port that is not off comes up or goes down; while NET is off a rise only wakes. -/
def execEthLinkChange (ep : Fin 4) (up : Bool) (s : State) : Result :=
  let x := s.netPort ep
  if x.rate = 0 || x.up = up then .next s
  else if s.domainOff 10 then .next (if up then s.wakeCfg 18 else s)
  else
    let s := (s.modNet ep fun x => { x with up := up }).event (0x1B0 + ep)
    .next (if up then s.wakeCfg 18 else s)

/-- R350: the NET tunnel that binds a VID to an Ethernet port. -/
def State.vidTunnel (s : State) (n vid : Nat) : Option Nat :=
  (s.tunnels.find? fun t => decide (t.2.state ≠ .free) && decide (t.2.cls = 5) && decide (bits t.2.clientRef.toNat 13 0 = vid + 4096 * n)).map Prod.fst

/-- R348: a MAC control frame. -/
def macControl (f : List Byte) : Bool := decide (be f 12 2 = 0x8808)

/-- ETH_FRAME_RECEIVED (R348, R349, R350): a frame, from destination address to FCS, goes whole to the tunnel of its VID, or is discarded and counted. DEDUCED, log entry 103. -/
def execEthFrameReceived (ep : Fin 4) (frame : List Byte) (s : State) : Result :=
  if s.domainOff 10 || !(s.netPort ep).up then .next s
  else if 9216 < frame.length then .next (s.modNet ep fun x => { x with oversize := x.oversize + 1 })
  else if frame.length < 64 then .next s
  else if !fcsOk frame then .next (s.modNet ep fun x => { x with fcsDrop := x.fcsDrop + 1 })
  else if macControl frame then .next (s.modNet ep fun x => { x with ctrlDrop := x.ctrlDrop + 1 })
  else match frameVid frame with
    | none => .next (s.modNet ep fun x => { x with untaggedDrop := x.untaggedDrop + 1 })
    | some v => match s.vidTunnel ep v with
      | none => .next (s.modNet ep fun x => { x with noTunnelDrop := x.noTunnelDrop + 1 })
      | some tid =>
        let cells := recordFlits 80 true (recordBytes 0 frame)
        let s := cells.dropLast.foldl (fun s p => s.clientCell tid false false p) s
        .next (match cells.getLast? with
          | some p => s.clientCell tid true false p
          | none => s)

end Sys2Proof.Machine
end

