-- ==== Sys2Proof/Machine/Power.lean ====
section
/-! DEFINITION. Sys2Proof/Machine/Power.lean: sleep states, supply monitoring and its resets, energy counters and the PMBus controller ("Power domains, performance levels and sleep", R353, R383 to R396). -/

namespace Sys2Proof.Machine

/-! ## Sleep requests (R383, R387) -/

/-- R385, Table 15-6: domains that a sleep request switches off. -/
def sleepDomains (target mask : Nat) : List Nat :=
  match target with
  | 2 => (List.range 11).filter fun d => bitOf mask d
  | 3 => List.range 11
  | _ => []

/-- Table 15-6, check 1: NAP names no CCPD, and MARL_A only with PG0 to PG3, HOST, XFER, DISP and NET. -/
def sleepFormOk (target mask : Nat) : Bool :=
  decide (target ≠ 2) || (!bitOf mask 11 && (!bitOf mask 1 || bits mask 10 3 = 255))

/-- Table 15-6, check 2. -/
def State.updating (s : State) : Bool :=
  !(decide (s.boot.phase = .idle) || decide (s.boot.phase = .staged)) || s.boot.imageJob.isSome

/-- Table 15-6, check 4: an enabled source that stands asserted: an alarm of severity 2 latched, the management mailbox in use, an EVC source with WAKE=1. DEDUCED, log entry 96. -/
def State.wakeAsserted (s : State) : Bool :=
  (s.power.wakeMask.getLsbD 15 && (s.silt.alarms.any fun e => e.2.latch && decide (e.2.severity e.1 = 2)))
    || (s.power.wakeMask.getLsbD 14 && s.mgmt.go)
    || s.cluster.srcs.any fun e => e.2.wake && (e.2.asserted || decide (e.2.state = .pending))

/-- A sleep request is refused: REQ clears and RESULT says why. -/
def State.sleepRefused (s : State) (result busy : Nat) : State :=
  s.modPower fun w => { w with req := false, phase := .steady, result := BitVec.ofNat 3 result, busyDomain := BitVec.ofNat 4 busy, wakeLatched := [] }

/-- Table 15-6, check 3: the first domain to be switched off that has a use. -/
def State.sleepBusy (s : State) : Option Nat :=
  (sleepDomains s.power.target.toNat s.power.mask.toNat).find? fun d => s.domainUsed d

/-- Table 15-6: the checks in order; on success dispatch stops. DEDUCED, log entry 96. -/
def State.sleepCheck (s : State) : State :=
  let w := s.power
  if !sleepFormOk w.target.toNat w.mask.toNat then s.sleepRefused 3 w.busyDomain.toNat
  else if s.updating then s.sleepRefused 2 w.busyDomain.toNat
  else match s.sleepBusy with
    | some d => s.sleepRefused 2 d
    | none =>
      if s.wakeAsserted then s.sleepRefused 4 w.busyDomain.toNat
      else s.modPower fun w => { w with phase := .quiescing }

/-- PM_MODE_REQ (R383, R387, Table 15-9, R461): a write of PM_MODE with REQ=1 by slice 0 of a host port, or by the management controller. DEDUCED, log entry 96. -/
def execPmModeReq (writer : Option (Fin 2)) (target : Fin 4) (mask : BitVec 12) (s : State) : Result :=
  let reaches := match writer with
    | none => true
    | some h => s.reachable h 0 && !s.domainOff 7
  let s := if reaches then s.wroteBy writer else s
  if !reaches || !s.boot.released then .next s
  else if s.power.req || s.power.sleep ≠ 0 then
    .next (if target.val = 0 then s.wakeNow 63 else s.modPower fun w => { w with refused := true })
  else
    let s := s.modPower fun w => { w with target := BitVec.ofNat 2 target.val, mask := mask, req := true }
    let s := (s.event 0x1C7).trace agentLoam 4 target
    .next (if target.val = 0 then s.modPower fun w => { w with req := false, result := 1 }
           else if s.power.hold then s.modPower fun w => { w with sleepWait := true }
           else s.sleepCheck)

/-- PM_MODE_REFUSED_CLEAR (R383). -/
def execPmModeRefusedClear (s : State) : Result := .next (s.modPower fun w => { w with refused := false })

/-! ## Entry and exit (R384 to R388, R372) -/

/-- R386, R388: exit begins. -/
def State.exitLatched (s : State) : State :=
  match s.power.wakeLatched with
  | [] => s
  | code :: _ => s.modPower fun w => { w with phase := .exiting, lastWake := BitVec.ofNat 6 (min code 63) }

/-- Table 15-7: entry has ended: domains off, EVC and Shallot state in retention when CTRL is among them, links on the idle time of DOZE. -/
def State.sleepEntered (s : State) : State :=
  let l := sleepDomains s.power.target.toNat s.power.mask.toNat
  let s := s.modPower fun w =>
    { w with sleep := w.target, phase := .steady, onBefore := w.on, gated := islands }
  let s := (l.filter fun d => s.power.on.getLsbD d).foldl State.domainDown s
  let s := if l.contains 0 then s.modCluster fun c => { c with saved := true } else s
  let s := (List.range 12).foldl (fun s p => if s.linkUp p then s.armIdle p else s) s
  s.exitLatched

/-- SLEEP_ENTRY (R383 to R385, R388, Table 15-9): the last core waits and check 3 is made again (`done` false), or entry has run to its end (`done` true). -/
def execSleepEntry (done : Bool) (s : State) : Result :=
  match s.power.phase, done with
  | .quiescing, false =>
    if !s.cluster.cores.all Core.idle then .next s
    else match s.sleepBusy with
      | some d => .next (s.sleepRefused 2 d)
      | none => .next (s.modPower fun w => { w with phase := .entering })
  | .entering, true => .next s.sleepEntered
  | _, _ => .next s

/-- R388: the EVC source of a wake that was latched during entry. -/
def wakeSource (code : Nat) : Option Nat :=
  if 64 ≤ code then some (code - 64)
  else if code < 12 then some (evPd code 0)
  else if code = 12 then some (evHp 0 4)
  else if code = 13 then some (evHp 1 4)
  else if code = 14 then some 0x1C0
  else if code = 15 then some 0x1C2
  else none

/-- SLEEP_EXIT_DONE (R372, R378, R386, R388, Table 15-9): what was in force before entry returns; the shadow is merged; a wake latched during entry is replayed; an attach that was held is acted on. -/
def execSleepExitDone (s : State) : Result :=
  if s.power.phase ≠ .exiting then .next s
  else
    let off := (List.range 11).filter fun d => s.power.onBefore.getLsbD d && !s.power.on.getLsbD d
    let latched := s.power.wakeLatched
    let shadow := s.cluster.shadow
    let s := s.modPower fun w =>
      { w with sleep := 0, phase := .steady, req := false, result := 1, replayed := !latched.isEmpty, wakeLatched := [], gated := [] }
    let s := off.foldl State.domainUp s
    let s := (sortBy (fun n : Nat => n) shadow).foldl State.event (s.modCluster fun c => { c with saved := false, shadow := [] })
    let s := (latched.filterMap wakeSource).foldl State.event s
    let s := if latched.isEmpty then s else s.event 0x1C6
    let s := ((List.range 4).filter fun g => s.power.held.getLsbD (3 + g) && s.groupAttached g).foldl State.pgWake s
    .next ((List.range 12).foldl (fun s p => if s.linkUp p then s.armIdle p else s) s)

/-- DOZE_UNGATE (R384): work arrives at a gated island. -/
def execDozeUngate (agent : Fin 28) (s : State) : Result :=
  .next (s.modPower fun w => { w with gated := w.gated.filter fun a => decide (a ≠ agent.val) })

/-! ## Brownout holds (R389 to R393) -/

/-- Table 15-10: warning level of a rail in mV, in row order; that of VCORE_IN follows the highest domain voltage in use. -/
def State.warnMv (s : State) (rail : Nat) : Nat :=
  match rail with
  | 0 => levelMv (islands.foldl (fun m a => min m (s.levelOf a)) 5) + 25
  | 1 => 760
  | 2 => 860
  | 3 => 1140
  | 4 => 1710
  | _ => 3135

/-- Table 15-10: reset level of a rail in mV. -/
def resetMv (rail : Nat) : Nat := [720, 720, 810, 1080, 1620, 2970].getD rail 2970

/-- BROWNOUT_WARN (R353, R390, R392, R393): a rail crosses below its warning level, none being below reset: a hold begins, unless one runs or LOW_SUPPLY lasts. DEDUCED, log entry 97; DESIGN CHOICE, log entry 141. -/
def execBrownoutWarn (rail : Fin 6) (mv : Nat) (s : State) : Result :=
  let w := s.power
  if !w.powered || w.resetWait || s.warnMv rail ≤ mv || mv < resetMv rail then .next s
  else if w.hold || w.lowSupply then
    .next (if w.holdRail = rail.val then s.modPower fun w => { w with holdLow := min w.holdLow mv } else s)
  else
    let s := s.modPower fun w =>
      { w with hold := true, holdAt := s.now, holdRail := rail.val, holdLow := mv
               levels := islands.foldl (fun l a => if Tab.get 0 l a < 3 then Tab.set 0 a 3 l else l) w.levels }
    .next ((s.alarmOccur 0 rail true).event 0x1C1)

/-- R386, R391: every island returns to its set level, voltage first. -/
def State.restoreLevels (s : State) : State :=
  let l := islands.filter fun a => decide (Tab.get 0 s.power.levelsSet a < s.wantedLevel a)
  (l.foldl (fun s a => s.modPower fun w => { w with jobs := w.jobs ++ [{ agent := a, level := Tab.get 0 w.levelsSet a }] }) s).commandVcore

/-- R383, R147, R390, R458: what waited for the end of a hold. -/
def State.afterHold (s : State) : State :=
  let s := s.sitesHeld.nextAuto
  if s.power.sleepWait then (s.modPower fun w => { w with sleepWait := false }).sleepCheck else s

/-- R391: the hold ends with every rail back. DEDUCED, log entry 139. -/
def State.holdReturns (s : State) (low : Nat) : State :=
  let w := s.power
  let low := min w.holdLow low
  let s := (s.modPower fun w => { w with hold := false, holdLow := low }).alarmEnd 0
  let s := s.loamRecord 0xF004 w.holdRail low ((s.now - w.holdAt).toNat / 1000)
  s.restoreLevels.afterHold

/-- R393: a rail below its reset level ends a hold or LOW_SUPPLY; what waited for the end goes on. DESIGN CHOICE, log entry 173. -/
def State.holdBroken (s : State) : State :=
  if s.power.hold || s.power.lowSupply then
    (((s.modPower fun w => { w with hold := false, lowSupply := false }).alarmEnd 0).alarmEnd 1).afterHold
  else s

/-- RAIL_RETURN (R391, R394): every rail stands above warning plus hysteresis for 100 µs: a hold ends; after a SerDes rail fell, links restart, and levels that a hold had lowered return; after a switched-domain reset, start-up runs again. DEDUCED, log entry 97; DESIGN CHOICE, log entry 98; DESIGN CHOICE, log entry 141. DESIGN CHOICE, log entry 173. -/
def execRailReturn (low : Nat) (s : State) : Result :=
  let s := if s.power.hold then s.holdReturns low else s
  let s := if s.power.serdesLost then
      let s := (List.range 12).foldl State.retrainEntered ((s.modPower fun w => { w with serdesLost := false }).alarmEnd 2)
      let s := (List.range 12).foldl (fun s p => if (s.port p).pd.dp.entered && (s.port p).pd.dp.hpd then s.dpTrain p else s) s
      if s.power.lowSupply then s else s.restoreLevels
    else s
  .next (if s.power.resetWait then (s.modPower fun w => { w with resetWait := false }).alarmEnd 2 else s)

/-- HOLD_WINDOW_EXPIRY (R392): the hold ends as LOW_SUPPLY, whose own lowest reading starts anew. DESIGN CHOICE, log entry 173. -/
def execHoldWindowExpiry (s : State) : Result :=
  let w := s.power
  if !w.hold || (s.now - w.holdAt).toNat < 1000000 * s.boot.holdWindow then .next s
  else
    let s := (s.modPower fun w => { w with hold := false, lowSupply := true, lowAt := s.now, holdLow := 65535 }).alarmEnd 0
    let s := (s.alarmOccur 1 w.holdRail true).loamRecord 0xF004 w.holdRail w.holdLow ((s.now - w.holdAt).toNat / 1000)
    .next s.afterHold

/-- LOW_SUPPLY_END (R392): every rail has stood above warning plus hysteresis for 100 ms. DESIGN CHOICE, log entry 141. -/
def execLowSupplyEnd (low : Nat) (s : State) : Result :=
  let w := s.power
  if !w.lowSupply then .next s
  else
    let s := (s.modPower fun w => { w with lowSupply := false }).alarmEnd 1
    let s := s.loamRecord 0xF005 w.holdRail (min w.holdLow low) ((s.now - w.lowAt).toNat / 1000000)
    .next s.restoreLevels

/-! ## Resets (R393, R394) -/

/-- R441: start-up runs again from the configuration image load; fuses, straps, flash and the Loam copies stay. DESIGN CHOICE, log entry 74. -/
def Boot.again (b : Boot) : Boot :=
  { stage := .candidates, recoveryStrap := b.recoveryStrap, smbAddr := b.smbAddr, keyHash := b.keyHash, serial := b.serial
    options0 := b.options0, options1 := b.options1, trim := b.trim, fuseLoaded := b.fuseLoaded, flash := b.flash
    preferred := b.preferred, selSeq := b.selSeq, selAt := b.selAt, persisted := b.persisted, holdWindow := b.holdWindow
    jrnlOffset := b.jrnlOffset, jrnlSize := b.jrnlSize, loamA := b.loamA, loamB := b.loamB
    loamActiveB := b.loamActiveB, handovers := b.handovers }

/-- Alarms whose condition outlives a switched-domain reset: supplies, clocks, Loam and the journal. -/
def keptAlarms : List Nat := [1, 2, 3, 4, 12, 13, 23, 24, 25, 26]

/-- R394, R408: row repairs, which Loam holds, outlive the reset, and the Loam memory is not reset; what was in the other memories is lost. -/
def State.memKept (s : State) : Mem :=
  { fuseMap := s.mem.fuseMap, repairsFused := s.mem.repairsFused, queued := s.mem.queued
    regions := (List.range 5).map fun i =>
      let r := s.region i
      if i = 4 then { r with copying := r.copying.map fun x => (x.1, x.2.1, x.2.2.1, x.2.2.2.1, none) }
      else { defaultRegions.getD i {} with repairs := r.repairs, used := r.used } }

/-- R394: every switched domain and CCPD reset; Loam keeps the timebase, the alarms, the journal ring and the persisted plan. DESIGN CHOICE, log entry 74; DEDUCED, log entry 99. -/
def State.domainReset (s : State) : State :=
  let none' := s.noSink
  let n : State :=
    { clock := s.clock, plan := s.plan, silt := { s.silt with deferred := [], fifos := [], fifoLoss := [] }
      boot := s.boot.again, lock := s.lock, siteId := s.siteId
      mem := s.memKept
      mgmt := { s.mgmt with go := false, busy := false, siteHeld := [] }
      hosts := { images := s.hosts.images }
      power := { powered := true, resetWait := true, energy := s.power.energy, regs := s.power.regs, serdesLost := s.power.serdesLost }
      out := s.out, freeCtr := s.freeCtr, pending := s.pending }
  let ended := (s.silt.alarms.map Prod.fst).filter fun a => !keptAlarms.contains a
  let n := n.alarmEnd 1
  (ended.foldl State.alarmEnd n).sinkAlarm none'

/-- SWITCHED_DOMAIN_RESET (R393, R394, R441): VCORE_IN, VIO18 or VIO33 is below its reset level. DEDUCED, log entry 99. -/
def execSwitchedDomainReset (rail : Fin 6) (s : State) : Result :=
  if !s.power.powered || !(rail.val = 0 || 4 ≤ rail.val) then .next s
  else .next ((s.loamRecord 0xF007 rail 0 0).domainReset.alarmOccur 2 rail true)

/-- SERDES_RAIL_LOSS (R393, R394): VSERDES_L or VSERDES_H is below its reset level: every link is lost; no domain is reset; contracts and modes stay. DESIGN CHOICE, log entry 173. -/
def execSerdesRailLoss (rail : Fin 6) (s : State) : Result :=
  if !s.power.powered || s.power.serdesLost || !(rail.val = 2 || rail.val = 3) then .next s
  else
    let s := ((s.modPower fun w => { w with serdesLost := true }).alarmOccur 2 rail true).holdBroken
    let s := (List.range 12).foldl (fun s p => if (s.port p).train.state = .failed then s else s.linkDisable p) s
    let s := (List.range 12).foldl (fun s p => if (s.port p).pd.dp.entered then s.modPd p fun d => { d with dp := { d.dp with rate := none } } else s) s
    let s := (List.range 2).foldl (fun s h =>
      if (s.hp h).lost || !s.boot.released then s.modHp h fun x => { x with linkUp := false } else s.losePort h false) s
    let s := (List.range 8).foldl (fun s n => if (s.dpi n).trained then (s.modDpi n Dpi.down).event (0x1A0 + n) else s) s
    .next ((List.range 4).foldl (fun s n => if (s.netPort n).up then (s.modNet n fun x => { x with up := false }).event (0x1B0 + n) else s) s)

/-- R20: everything is reset but what flash and fuses hold. -/
def State.coldStart (s : State) : State :=
  { State.reset with
    out := s.out, freeCtr := s.freeCtr, pending := s.pending, hosts := { images := s.hosts.images }
    mem := { fuseMap := s.mem.fuseMap }, boot := { flash := s.boot.flash, persisted := s.boot.persisted } }

/-- COLD_START (R20, R394): VAON falls below its reset level. -/
def execColdStart (s : State) : Result := .next s.coldStart

/-! ## Energy and regulators (R353, R395, R396) -/

/-- ENERGY_SAMPLE (R395, R396): energy of an interval in nJ: by agent, by tunnel and by port overhead. DESIGN CHOICE, log entry 142. -/
def execEnergySample (islands tunnels overhead : List (Nat × Nat)) (s : State) : Result :=
  let s := islands.foldl (fun s e => s.modPower fun w => { w with energy := Tab.mod 0 e.1 (· + BitVec.ofNat 64 e.2) w.energy }) s
  let s := tunnels.foldl (fun s e =>
    let t := s.tunnel e.1
    if t.state = .free then s
    else s.modPort t.port fun x => x.modTun t.tun fun u => { u with energyNj := u.energyNj + BitVec.ofNat 64 e.2 }) s
  .next (overhead.foldl (fun s e =>
    if e.1 < 12 then s.modPort e.1 fun x => { x with overheadNj := x.overheadNj + BitVec.ofNat 64 e.2 } else s) s)

/-- The fault bits of STATUS_WORD: VOUT_OV, IOUT_OC and VIN_UV. PRESUMED, log entry 100. -/
def pmbusFault (status : BitVec 16) : Bool := status &&& 0x38 ≠ 0

/-- PMBUS_POLL (R353): STATUS_WORD of a regulator, or none when the transaction is not answered. PRESUMED, log entry 100. -/
def execPmbusPoll (reg : Fin 4) (status : Option (BitVec 16)) (s : State) : Result :=
  let x := Tab.get {} s.power.regs reg
  let put (s : State) (y : Regulator) : State := s.modPower fun w => { w with regs := Tab.set {} reg.val y w.regs }
  if x.rail = 0 then .next s
  else match status with
    | none =>
      let s := put s { x with missed := min 3 (x.missed + 1) }
      .next (if x.missed = 2 then s.alarmOccur 6 reg true else s)
    | some v =>
      let s := put s { x with missed := 0, status := v }
      let regs := (List.range 4).map fun r => Tab.get {} s.power.regs r
      let s := if regs.any fun r => decide (3 ≤ r.missed) then s else s.alarmEnd 6
      let s := if pmbusFault v && !pmbusFault x.status then s.alarmOccur 5 reg true else s
      let s := if regs.any fun r => pmbusFault r.status then s else s.alarmEnd 5
      .next s.commandVcore

end Sys2Proof.Machine
end

