-- ==== Sys2Proof/Machine/Regs.lean ====
section
/-! DEFINITION. Sys2Proof/Machine/Regs.lean: the register windows: what their registers read as, writes to registers without a command of their own, the half-read latch, and the SMBus management target ("Register windows", R352, R454 to R467). -/

namespace Sys2Proof.Machine

/-! ## What registers read as -/

/-- A register: its offset and its bytes. -/
abbrev Reg := Nat × List Byte

def reg4 (off v : Nat) : Reg := (off, toLe 4 v)
def reg8 (off v : Nat) : Reg := (off, toLe 8 v)
def reg16 (off v : Nat) : Reg := (off, toLe 16 v)

/-- The register of a list that covers an offset. -/
def regAt (l : List Reg) (off : Nat) : Option Reg := l.find? fun r => decide (r.1 ≤ off) && decide (off < r.1 + r.2.length)

/-- GLB_CAP3 (R274): features; JRNL_REGION as the image's SETTINGS name one. -/
def State.cap3 (s : State) : Nat := 31 + 32 * flag (decide (s.boot.jrnlSize ≠ 0))

/-- Table 17-8, GLB_STATUS. -/
def State.glbStatus (s : State) (h : Nat) (refused : Bool) : Nat :=
  flag s.boot.released + 2 * flag s.lock + 4 * h + 8 * flag (s.hp (1 - h)).linkUp + 16 * flag s.boot.loamActiveB
    + 32 * flag (s.boot.released && s.vacantSlot.isSome) + 64 * flag (s.alarmPin 0) + 128 * flag (s.alarmPin 1) + 256 * flag (s.alarmPin 2)
    + 512 * flag refused

/-- The registers of GLOBAL as host port `h` sees them, or the management target in its view of that host port (R462). -/
def State.globalRegs (s : State) (h : Nat) (mgmt : Bool) : List Reg :=
  let x := s.hp h
  let on := (s.hosts.slices.filter fun e => decide (e.1 / 256 = h) && e.2.state.reachable).map (·.1 % 256)
  [reg4 0x00 0xC1241FE7,
   reg4 0x04 (Config.silicon.toNat + 256 * bits s.boot.options0.toNat 0 0 + 65536 * bits s.boot.running.toNat 31 16),
   reg8 0x08 s.boot.serial.toNat,
   reg4 0x10 (12 + 2 * 2 ^ 5 + 8 * 2 ^ 7 + 4 * 2 ^ 11 + 64 * 2 ^ 14 + 24 * 2 ^ 21), reg4 0x14 (8192 + 4096 * 2 ^ 14),
   reg4 0x18 (1024 + 256 * 2 ^ 11 + 2048 * 2 ^ 20), reg4 0x1C s.cap3,
   reg4 0x20 (s.glbStatus h (if mgmt then s.mgmt.wrRefused else x.wrRefused)),
   reg8 0x28 x.pasidMiss.toNat, reg4 0x30 (if mgmt then s.mgmt.badAccess else x.badAccess).toNat, reg4 0x34 s.siteId.toNat,
   reg4 0x38 (if mgmt then s.mgmt.scratch else x.scratch).toNat,
   (0x40, toLe 32 ((on.map fun n => 2 ^ n).sum))]

/-- R12, R496, Table 13-1: the identity registers that both host ports show in configuration space, by offset: vendor and device ID, revision ID with the class code, and the subsystem IDs of the image. DESIGN CHOICE, log entry 22; DEDUCED, log entry 171. -/
def State.pciIdentity (s : State) : List Reg :=
  [reg4 0x00 0xC1241FE7, reg4 0x08 (Config.silicon.toNat + 256 * 0x088000), reg4 0x2C (s.boot.subVendor.toNat + 65536 * s.boot.subId.toNat)]

/-- PM_LEVELS (R383). -/
def State.pmLevels (s : State) : Nat :=
  let l := (List.range 7).map fun k => s.levelOf ([1, 2, 3, 4, 5, 6, 7].getD k 1) * 2 ^ (3 * k)
  let j := (List.range 12).map fun n => s.levelOf (agentPort n) * 2 ^ (21 + 3 * n)
  l.sum + j.sum + 2 ^ 63 * flag s.power.hold

/-- TB_SLEW_LEFT: whole ns, saturating at ±(2^31 − 1). -/
def Clock.leftNs (k : Clock) : Int := max (-2147483647) (min 2147483647 (Int.tdiv k.slewLeft (2 ^ 32)))

/-- TB_STATUS. -/
def State.tbStatus (s : State) : Nat :=
  let k := s.clock
  flag k.srcB + 2 * flag k.aValid + 4 * flag k.bValid + 8 * flag k.holdover + 16 * k.mode + 64 * flag (decide (k.leftNs ≠ 0))
    + 128 * flag s.boot.released + 65536 * k.switches.toNat

/-- Table 13-2. -/
def HostPort.ptmRegs (x : HostPort) (base : Nat) : List Reg :=
  [reg8 base x.ptmLocal.toNat, reg8 (base + 8) x.ptmMaster.toNat, reg4 (base + 16) x.ptmDelay.toNat, reg4 (base + 20) x.ptmSeq.toNat]

/-- R429: ALARM_DETAIL of an alarm. DESIGN CHOICE, log entry 101. -/
def State.alarmDetail (s : State) (a : Nat) : Reg :=
  let x := s.alarm a
  (0x2300 + 8 * a, if a < 27 then toLe 4 (x.occur + 65536 * x.severity a + 262144 * flag x.enable + 524288 * flag x.cond) ++ toLe 4 x.object.toNat
    else toLe 8 0)

/-- R446: logical slots that run the staged version. -/
def State.newSlots (s : State) : Nat := (s.cluster.cores.filter fun c => c.newCode && c.slot.isSome).length

/-- Table 19-2: the LOAM mirror. -/
def State.mirrorRegs (s : State) : List Reg :=
  let w := s.power
  let b := s.boot
  [reg4 0x2000 (w.target.toNat + 4 * w.mask.toNat + 2 ^ 30 * flag w.refused + 2 ^ 31 * flag w.req),
   reg4 0x2004 (w.sleep.toNat + 4 * w.phase.ctorIdx + 16 * w.result.toNat + 128 * w.busyDomain.toNat + 2048 * w.lastWake.toNat + 131072 * flag w.replayed),
   reg4 0x2008 (w.on.toNat + 65536 * w.held.toNat), reg8 0x2010 s.pmLevels, reg16 0x2200 s.alarmLatches, reg16 0x2210 s.alarmAcks,
   reg8 0x2220 s.silt.alarmLast.toNat]
  ++ (List.range 32).map s.alarmDetail
  ++ [reg8 0x2400 s.clock.now.toNat, reg4 0x2408 s.clock.trim.toNat, (0x240C, toLe 4 (BitVec.ofInt 32 s.clock.leftNs).toNat), reg4 0x2410 s.tbStatus]
  ++ (s.hp 0).ptmRegs 0x2420 ++ (s.hp 1).ptmRegs 0x2440
  ++ [reg4 0x2500 (b.booted.toNat + 4 * flag b.released + 8 * flag b.recoveryStrap + 16 * b.causeA.toNat + 128 * b.causeB.toNat + 1024 * b.causeRec.toNat + 65536 * b.cmdFail),
      reg4 0x2504 b.running.toNat, reg4 0x2508 b.staged.toNat,
      reg4 0x250C (b.phase.ctorIdx + 8 * s.newSlots + 65536 * (s.cluster.moved.length % 65536)),
      reg4 0x2510 (flag b.loamActiveB + 2 * b.loamA.state.ctorIdx + 16 * b.loamB.state.ctorIdx + 65536 * b.handovers.toNat)]

/-- R429: JRNL_STATE. -/
def State.jrnlState (s : State) : Nat :=
  s.unreleased + 16384 * flag (decide (7936 ≤ s.unreleased)) + 32768 * flag s.noSink + 65536 * flag s.silt.persist.on + 131072 * flag s.silt.persistFault

/-- What both views of the SILT window share (Tables 17-8 and 19-4). -/
def State.siltShared (s : State) : List Reg :=
  [reg8 0x00 s.silt.next, (0x08, padTo 8 s.jrnlTag), reg4 0x10 s.jrnlState, reg8 0x38 s.silt.jrnlBusy.toNat, reg4 0x40 s.silt.refusedUnlogged.toNat,
   reg4 0x44 s.silt.recordsDropped.toNat, reg8 0x48 s.silt.traceLost.toNat, reg4 0x50 s.silt.drainCiBad.toNat]

/-- Table 17-8: the SILT window of a host port. -/
def State.siltHost (s : State) (h : Nat) : List Reg :=
  let x := s.hp h
  s.siltShared ++ [reg4 0x14 x.jPi, reg4 0x18 x.jCi, reg8 0x20 x.jFirst.toNat, reg4 0x28 x.tPi, reg4 0x2C x.tCi, reg4 0x30 x.siltVec.toNat]

/-- Table 19-4: the SILT window of the management target. -/
def State.siltMgmt (s : State) : List Reg :=
  s.siltShared ++ [reg8 0x18 s.silt.mgmtJ.next, reg8 0x20 s.silt.oldest, reg4 0x28 s.silt.traceMgmtPi.toNat, reg4 0x2C s.silt.traceMgmtCi.toNat]

/-- Registers at `base` given by their places from it. -/
def shift (base : Nat) (l : List Reg) : List Reg := l.map fun r => (base + r.1, r.2)

/-- Table 14-6: the registers near an offset of the SHALLOT window. -/
def State.shallotRegs (s : State) (o : Nat) : List Reg :=
  let k := s.cluster
  if o < 0x100 then
    let at' (f : Core → Bool) : Nat := (k.cores.findIdx? f).getD 15
    let faulted := ((List.range 9).map fun c => if (s.core c).state = .faulted then 2 ^ c else 0).sum
    [reg4 0 (at' (fun c => decide (c.state = .spare)) + 16 * at' (fun c => decide (c.state = .draining)) + 256 * faulted), reg4 4 k.rotations.toNat,
     reg4 0xC k.enqRefused.toNat, reg8 0x10 k.raised.toNat, reg8 0x18 k.stale.toNat, reg4 0x20 k.overdue.toNat, reg4 0x24 k.delayRefused.toNat]
  else if o < 0x340 then
    let c := (o - 0x100) / 0x40
    let x := s.core c
    shift (0x100 + 0x40 * c)
      [reg8 0 x.itemsRun.toNat, reg8 8 x.busyNs.toNat, reg8 0x10 x.irqsTaken.toNat,
       reg4 0x18 (x.state.ctorIdx + 8 * x.slot.getD 15 + 128 * (s.runLevel c - 1) + 2048 * flag x.idle), reg4 0x1C x.faults.toNat, reg8 0x20 x.lastRotate.toNat]
  else if 0x400 ≤ o && o < 0x800 then
    let p := (o - 0x400) / 0x40
    let x := s.readyList p
    shift (0x400 + 0x40 * p)
      ([reg8 0 x.itemsIn.toNat, reg4 8 (x.items.length + 65536 * x.maxDepth), reg4 0xC x.waitMax]
        ++ (List.range 8).map fun b => reg4 (0x10 + 4 * b) (x.hist.getD b 0).toNat)
  else if 0x800 ≤ o && o < 0x880 then
    let d := (o - 0x800) / 0x20
    let x := s.delayList d
    let next := (x.items.map fun i => (i.order s.tick32, i.due.toNat)).foldl (fun (m : Option (Nat × Nat)) e =>
      match m with
      | none => some e
      | some y => some (if e.1 < y.1 then e else y)) none
    shift (0x800 + 0x20 * d)
      [reg4 0 (x.items.length + 65536 * x.maxPending), reg8 8 x.expired.toNat, reg8 0x10 x.late.toNat, reg4 0x18 ((next.map Prod.snd).getD 0)]
  else if 0x1000 ≤ o && o < 0x2000 then
    let n := (o - 0x1000) / 8
    let x := s.src n
    shift (0x1000 + 8 * n)
      [reg4 0 (x.state.ctorIdx + 4 * flag x.enable + 8 * flag x.irq + 16 * flag x.level + 32 * flag x.asserted + 64 * flag x.wake + 256 * x.prio
          + 4096 * x.core.getD 15 + 65536 * x.occur), reg4 4 x.affinity.toNat]
  else []

/-- R463: MGMT_INT_STAT. -/
def State.mgmtIntStat (s : State) : Nat :=
  flag s.mgmt.done + 2 * flag (!s.mgmt.notices.isEmpty) + 4 * flag (s.silt.mgmtJ.on && decide (s.silt.mgmtJ.next < s.silt.next))
    + 8 * flag (decide (s.silt.traceMgmtCi ≠ s.silt.traceMgmtPi)) + 16 * flag s.mgmt.alarmCause

/-- R463: MGMT_INT_N is low. -/
def State.mgmtIntLow (s : State) : Bool := decide (BitVec.ofNat 5 s.mgmtIntStat &&& s.mgmt.intEn ≠ 0)

/-- R463, R464: the management mailbox and notices. -/
def State.mailboxRegs (s : State) : List Reg :=
  let m := s.mgmt
  [(0x1000, padTo 64 m.msg), (0x1040, padTo 32 m.cpl), reg4 0x1060 (flag m.go + 2 * flag m.busy + 4 * flag m.done + 8 * flag m.refused),
   reg4 0x1064 m.intEn.toNat, reg4 0x1068 s.mgmtIntStat,
   (0x1080, match m.notices with
     | n :: _ => padTo 32 (n.bytes false 0)
     | [] => padTo 32 []), reg4 0x10A0 (m.notices.length + 65536 * m.lost)]

/-- Table 19-3: the register of the Loam window that covers an address. -/
def State.loamReg (s : State) (a : Nat) : Option Reg :=
  if a < 0x800 then regAt (s.globalRegs 0 true) a
  else if a < 0x1000 then regAt (shift 0x800 (s.globalRegs 1 true)) a
  else if a < 0x1100 then regAt s.mailboxRegs a
  else if a < 0x2000 then none
  else if a < 0x10000 then regAt s.mirrorRegs a
  else if a < 0x20000 then regAt (shift 0x10000 s.siltMgmt) a
  else if a < 0x40000 then regAt (shift 0x20000 (s.shallotRegs (a - 0x20000))) a
  else if a < 0x80000 then
    let j := (a - 0x40000) / 32
    some (0x40000 + 32 * j, padTo 32 (Tab.get {} s.silt.ring j).bytes)
  else if a < 0xC0000 then
    let j := (a - 0x80000) / 32
    some (0x80000 + 32 * j, padTo 32 (Tab.get {} s.silt.traceView j).bytes)
  else if a < 0xD0000 then some (a, Tab.bytes 0 s.mgmt.buf (a - 0xC0000) 4)
  else none

/-- The four bytes at an address, of a register that covers it; 0 where none does (R456). -/
def wordOf (r : Option Reg) (a : Nat) : List Byte :=
  match r with
  | some r => padTo 4 ((r.2.drop (a - r.1)).take 4)
  | none => [0, 0, 0, 0]

/-- Table 19-3: the region of an address, by its first address. -/
def loamRegion (a : Nat) : Nat :=
  (([0, 0x800, 0x1000, 0x1100, 0x2000, 0x10000, 0x20000, 0x40000, 0x80000, 0xC0000, 0xD0000] : List Nat).filter (· ≤ a)).getLast?.getD 0

/-- R462: the address is a multiple of 4, and the bytes lie within one region. -/
def loamAccessOk (a n : Nat) : Bool := decide (a % 4 = 0) && decide (loamRegion a = loamRegion (a + n - 1)) && decide (a + n ≤ 2 ^ 32)

/-- The word at an offset of some bytes, as a register of its own at `base` and that offset. -/
def wordReg (base : Nat) (b : List Byte) (o : Nat) : Option Reg := some (base + o / 4 * 4, padTo 4 ((b.drop (o / 4 * 4)).take 4))

/-- Table 9-2: the registers of a slice page below QSTAT. -/
def Slice.pageRegs (x : Slice) : List Reg :=
  [(0x00, padTo 64 x.msg), (0x40, padTo 32 x.cpl), reg4 0x60 (flag x.go + 2 * flag x.busy + 4 * flag x.done + 8 * flag x.refused),
   reg4 0x64 (x.cfgVec + 2048 * flag x.cfgIrq), reg4 0x80 x.evt.toNat, reg4 0x84 x.evtEn.toNat, reg4 0x88 x.evtVec, reg4 0x8C x.evtInfo.toNat]

/-- Table 9-2: the register at an offset of the page of a slice, which lies at `base`; the doorbells are write only. -/
def State.pageReg (s : State) (h sl base o : Nat) : Option Reg :=
  if 0x300 ≤ o && o < 0x700 then wordReg (base + 0x300 + 16 * ((o - 0x300) / 16)) (s.qp h sl ((o - 0x300) / 16)).qstat (o % 16)
  else regAt (shift base (s.slice h sl).pageRegs) (base + o)

/-- The bytes of an entry of the MSI-X table. -/
def MsixEntry.bytes (e : MsixEntry) : List Byte := toLe 8 e.addr.toNat ++ toLe 4 e.data.toNat ++ toLe 4 e.ctrl.toNat

/-- The register of BAR0 that a slice of a host port reads at an offset (Table 19-1, Table 12-1, R232, R280); none at a reserved offset, at one that can only be written, and where the slice is refused. -/
def State.barReg (s : State) (h sl o : Nat) : Option Reg :=
  if o < 0x1000 then regAt (s.globalRegs h false) o
  else if o < 0x2000 then if o < 0x1090 then s.pageReg h sl 0x1000 (o - 0x1000) else none
  else if 0x100000 ≤ o && o < 0x200000 then
    let p := (o - 0x100000) / 0x1000
    if sl = 0 || p = sl then s.pageReg h p (0x100000 + 0x1000 * p) (o % 0x1000) else none
  else if 0x510000 ≤ o && o < 0x520000 then
    let n := (o - 0x510000) / 1024
    if (s.ch n).owner = some (h, sl) then wordReg (0x510000 + 1024 * n) (Tab.bytes 0 s.xfer.prog (1024 * n) 1024) (o % 1024) else none
  else if sl ≠ 0 then none
  else if o < 0x10000 then regAt s.mirrorRegs o
  else if o < 0x20000 then regAt (shift 0x10000 (s.siltHost h)) o
  else if o < 0x40000 then regAt (shift 0x20000 (s.shallotRegs (o - 0x20000))) o
  else if o < 0x48000 then wordReg (0x40000 + 16 * ((o - 0x40000) / 16)) ((s.hp h).msixEntry ((o - 0x40000) / 16)).bytes (o % 16)
  else if o < 0x48100 then
    let k := (o - 0x48000) / 4
    some (reg4 (0x48000 + 4 * k) ((((s.hp h).pba.filter fun n => decide (n / 32 = k)).map fun n => 2 ^ (n % 32)).sum % 2 ^ 32))
  else none

/-- Table 12-1: the offset lies in a region whose reads are refused to a slice from 1: the mirror, the SILT window, the counters, the MSI-X table and PBA, and the pages of other slices. -/
def readRefused (sl o : Nat) : Bool :=
  decide (sl ≠ 0) && ((decide (0x2000 ≤ o) && decide (o < 0x48100)) || (decide (0x100000 ≤ o) && decide (o < 0x200000) && decide ((o - 0x100000) / 0x1000 ≠ sl)))

/-! ## The half-read latch (R455) -/

/-- RW registers of 64 bits are not latched: JRNL_MGMT_CI. -/
def latches (r : Reg) : Bool := (decide (r.2.length = 8) || decide (r.2.length = 16)) && decide (r.1 ≠ 0x10018)

/-- R455: what a read of the first half of a register that latches leaves in the latch. -/
def latchOf (reg : Option Reg) (a n : Nat) : Option (Nat × List Byte) :=
  match reg with
  | some r => if latches r && decide (a = r.1) && decide (2 * n = r.2.length) then some (a + n, r.2.drop n) else none
  | none => none

/-- R454, R455: a read of 4 or 8 bytes by one requester: the bytes it returns, word by word, and its latch afterwards. The latched part is answered from the latch. DEDUCED, log entry 139. -/
def latchRead (reg : Nat → Option Reg) (latch : Option (Nat × List Byte)) (a n : Nat) : List Byte × Option (Nat × List Byte) :=
  let got := ((List.range (n / 4)).flatMap fun k => wordOf (reg (a + 4 * k)) (a + 4 * k), latchOf (reg a) a n)
  match latch with
  | some (o, b) => if a = o && n = b.length then (b, latch) else got
  | none => got

/-- R337, R334: BAR0 of a host port answers. -/
def State.barOpen (s : State) (h : Nat) : Bool :=
  s.boot.released && (s.hp h).linkUp && decide ((s.hp h).power = .d0) && !s.domainOff 7

/-- R308: an access that Table 12-1 refuses to a slice. -/
def State.accessReject (s : State) (h sl : Nat) : State := s.modSlice h sl fun x => { x with accReject := x.accReject + 1 }

/-- R454: `n` registers of 32 bits from `a` on, each as a 4-byte read returns it, in address order. -/
def State.barWords (s : State) (h sl a : Nat) : Nat → State × List Byte
  | 0 => (s, [])
  | n + 1 =>
    let r := latchRead (s.barReg h sl) (s.hp h).latch a 4
    let rest := State.barWords (s.modHp h fun x => { x with latch := r.2 }) h sl (a + 4) n
    (rest.1, r.1 ++ rest.2)

/-- R454: 1 or 2 bytes of one 32-bit register; 8 bytes aligned to 8; or up to 64 bytes aligned to 4 that do not cross a 4 KiB boundary. -/
def barReadOk (a len : Nat) : Bool :=
  (decide (1 ≤ len) && decide (len ≤ 2) && decide (a % 4 + len ≤ 4))
    || (decide (a % 4 = 0) && decide (len % 4 = 0) && decide (4 ≤ len) && decide (len ≤ 64) && decide (a % 4096 + len ≤ 4096))

/-- R308, R454, R455: one read of `len` bytes by a slice through BAR0. DEDUCED, log entry 139. -/
def State.barRead (s : State) (h : Fin 2) (sl : Fin 256) (a len : Nat) : State :=
  if readRefused sl a then (s.accessReject h sl).send (.readData (padTo len []))
  else if len = 8 && a % 8 = 0 then
    let r := latchRead (s.barReg h sl) (s.hp h).latch a 8
    (s.modHp h fun x => { x with latch := r.2 }).send (.readData r.1)
  else
    let lo := a / 4 * 4
    let r := s.barWords h sl lo ((a % 4 + len + 3) / 4)
    r.1.send (.readData ((r.2.drop (a % 4)).take len))

/-- R427, R457: a read of ALARM_LATCH through the Loam window clears the cause ALARM. -/
def State.alarmSeen (s : State) : State := s.modMgmt fun m => { m with alarmCause := false }

/-- HALF_READ_LATCH (R308, R454, R455, R457): a read of `len` bytes by a slice through BAR0, or of 4 or 8 by the management target, with what it latches. A read through BAR0 of no form of R454 returns zeros. DEDUCED, log entry 139. -/
def execHalfReadLatch (who : Option (Fin 2 × Fin 256)) (off : BitVec 32) (len : Nat) (s : State) : Result :=
  let a := off.toNat
  match who with
  | none =>
    if len ≠ 4 && len ≠ 8 then .next s
    else if !loamAccessOk a len then .next ((s.modMgmt fun m => { m with badAccess := m.badAccess + 1 }).send (.readData (padTo len [])))
    else
      let r := latchRead s.loamReg s.mgmt.latch a len
      let s := (s.modMgmt fun m => { m with latch := r.2 }).send (.readData r.1)
      .next (if a < 0x2210 && 0x2200 < a + len then s.alarmSeen else s)
  | some (h, sl) =>
    if !s.barOpen h then .next s
    else .next <| s.atSlice h sl fun s =>
      if barReadOk a len then s.barRead h sl a len else s.send (.readData (padTo (min len 64) []))

/-! ## Writes of a host (R454, R456, R308) -/

/-- R383: a write of PM_MODE without REQ: its fields, unless a request or a sleep state is in force. DEDUCED, log entry 108. -/
def State.pmModeWrite (s : State) (v : Nat) : State :=
  let s := if bitOf v 30 then s.modPower fun w => { w with refused := false } else s
  if s.power.req || s.power.sleep ≠ 0 then s.modPower fun w => { w with refused := true }
  else s.modPower fun w => { w with target := BitVec.ofNat 2 v, mask := BitVec.ofNat 12 (v / 4) }

/-- A write of a word in a slice's own page (Table 9-2): MBX_MSG, MBX_CFG, SLICE_EVT_EN, SLICE_EVT_VEC. -/
def Slice.pageWrite (x : Slice) (o v : Nat) : Slice :=
  if o < 0x40 then { x with msg := putBytes (padTo 64 x.msg) o (toLe 4 v) }
  else if o = 0x64 then { x with cfgVec := (if x.vecOk (v % 2048) then v % 2048 else x.cfgVec), cfgIrq := bitOf v 11 }
  else if o = 0x84 then { x with evtEn := BitVec.ofNat 4 v }
  else if o = 0x88 then (if x.vecOk (v % 2048) then { x with evtVec := v % 2048 } else x)
  else x

/-- A write of a word of the MSI-X table. -/
def State.msixWrite (s : State) (h o v : Nat) : State :=
  let n := o / 16
  let e := (s.hp h).msixEntry n
  let b := putBytes e.bytes (o % 16) (toLe 4 v)
  let e : MsixEntry := { addr := BitVec.ofNat 64 (le b 0 8), data := BitVec.ofNat 32 (le b 8 4), ctrl := BitVec.ofNat 32 (le b 12 4) }
  let s := s.modHp h fun x => { x with msix := Tab.set {} n e x.msix }
  let x := s.hp h
  if !e.ctrl.getLsbD 0 && x.pba.contains n && x.bme && x.power = .d0 then
    (s.setHp h { x with pba := x.pba.filter (· ≠ n) }).send (.msix h n)
  else s

/-- A word that a slice writes through BAR0 to a register without a command of its own (Table 19-1, Table 12-1). DEDUCED, log entry 107; DEDUCED, log entry 108. DEDUCED, log entry 139. -/
def State.barWord (s : State) (h sl o v : Nat) : State :=
  if o < 0x1000 then
    if o = 0x38 && sl = 0 then s.modHp h fun x => { x with scratch := BitVec.ofNat 32 v } else if sl = 0 then s else s.accessReject h sl
  else if o < 0x2000 then s.modSlice h sl fun x => if o < 0x1090 then x.pageWrite (o - 0x1000) v else x
  else if o < 0x100000 then
    if sl ≠ 0 then s.accessReject h sl
    else if o = 0x2000 then s.pmModeWrite v
    else if o = 0x10030 then
      s.modHp h fun x =>
        let vec := if v % 2048 < 64 then v % 2048 else x.siltVec.toNat % 2048
        { x with siltVec := BitVec.ofNat 14 (vec + 2048 * bits v 13 11) }
    else if 0x40000 ≤ o && o < 0x48000 then s.msixWrite h (o - 0x40000) v
    else s
  else if o < 0x200000 then
    if (o - 0x100000) / 0x1000 = sl then s.modSlice h sl fun x => x.pageWrite (o % 0x1000) v
    else if sl = 0 then s else s.accessReject h sl
  else s

/-- R454: 4 or 8 bytes aligned to their size, or up to 64 aligned to 4 within MBX_MSG. -/
def barWriteOk (sl o n : Nat) : Bool :=
  (decide (n = 4) && decide (o % 4 = 0)) || (decide (n = 8) && decide (o % 8 = 0))
    || (decide (o % 4 = 0) && decide (n % 4 = 0) && decide (1 ≤ n) && decide (n ≤ 64)
        && ((decide (0x1000 ≤ o) && decide (o + n ≤ 0x1040)) || (decide (0x100000 + 0x1000 * sl ≤ o) && decide (o + n ≤ 0x100040 + 0x1000 * sl))))

/-- The words of a write, in address order. -/
def words (b : List Byte) : List (Nat × Nat) := (List.range (b.length / 4)).map fun k => (4 * k, le b (4 * k) 4)

/-! ## The management target (R352, R462 to R465) -/

def Result.state (s : State) : Result → State
  | .next t => t
  | _ => s

/-- A word that the management controller writes into the Loam window (Table 19-3). -/
def State.loamWord (s : State) (a v : Nat) : State :=
  if a < 0x1000 then
    let o := a % 0x800
    if o = 0x34 then Result.state s (execGlbSiteIdWrite none (BitVec.ofNat 32 v) s)
    else if o = 0x38 then s.modMgmt fun m => { m with scratch := BitVec.ofNat 32 v }
    else if o = 0x20 && bitOf v 9 then s.modMgmt fun m => { m with wrRefused := false }
    else s
  else if a < 0x1040 then s.modMgmt fun m => { m with msg := putBytes (padTo 64 m.msg) (a - 0x1000) (toLe 4 v) }
  else if a = 0x1060 then
    let s := s.modMgmt fun m => { m with done := m.done && !bitOf v 2, refused := m.refused && !bitOf v 3 }
    if bitOf v 0 then Result.state s (execMgmtGo s) else s
  else if a = 0x1064 then s.modMgmt fun m => { m with intEn := BitVec.ofNat 5 v }
  else if a = 0x10A4 then if bitOf v 0 then Result.state s (execMgmtNtcPop s) else s
  else if a = 0x2000 then
    if bitOf v 31 then
      let s := if bitOf v 30 then s.modPower fun w => { w with refused := false } else s
      Result.state s (execPmModeReq none (Fin.ofNat 4 v) (BitVec.ofNat 12 (v / 4)) s)
    else s.pmModeWrite v
  else if a = 0x1002C then Result.state s (execTraceMgmtCi (BitVec.ofNat 32 v) s)
  else if a = 0x10018 then Result.state s (execJrnlMgmtCi (BitVec.ofNat 64 (s.silt.mgmtJ.next / 2 ^ 32 * 2 ^ 32 + v)) s)
  else if a = 0x1001C then Result.state s (execJrnlMgmtCi (BitVec.ofNat 64 (s.silt.mgmtJ.next % 2 ^ 32 + 2 ^ 32 * v)) s)
  else if a = 0x20008 then
    let s := if bitOf v 0 then Result.state s (execShlPeakClrLists s) else s
    if bitOf v 1 then Result.state s (execShlPeakClrDelay s) else s
  else if 0xC0000 ≤ a && a < 0xD0000 then s.modMgmt fun m => { m with buf := Tab.write 0 (a - 0xC0000) (toLe 4 v) m.buf }
  else s

/-- The words of a WRITE in order; both halves of JRNL_MGMT_CI together are one value (R465). -/
def State.loamWords (s : State) (a : Nat) (b : List Byte) : State :=
  (words b).foldl (fun s e =>
    let x := a + e.1
    if x = 0x10018 && e.1 + 8 ≤ b.length then Result.state s (execJrnlMgmtCi (BitVec.ofNat 64 (le b e.1 8)) s)
    else if x = 0x1001C && 4 ≤ e.1 then s
    else s.loamWord x e.2) s

/-- R462: a transaction that is not of the Loam window's form is counted. -/
def State.mgmtBad (s : State) : State := s.modMgmt fun m => { m with badAccess := m.badAccess + 1 }

/-- REGISTER_WRITE (R308, R454, R456, R457): a write to registers that have no command of their own, by a slice through BAR0 or by the management controller. DEDUCED, log entry 107. -/
def execRegisterWrite (who : Option (Fin 2 × Fin 256)) (off : BitVec 32) (bytes : List Byte) (s : State) : Result :=
  let a := off.toNat
  match who with
  | none => .next (if loamAccessOk a bytes.length then s.loamWords a bytes else s.mgmtBad)
  | some (h, sl) =>
    if !s.barOpen h then .next s
    else .next <| s.atPage h sl fun s =>
      if !barWriteOk sl a bytes.length then s.modHp h fun x => { x with badAccess := x.badAccess + 1 }
      else (words bytes).foldl (fun s e => s.barWord h sl (a + e.1) e.2) s

/-- SMB_WRITE (R352, R387, R462): 4 to 28 bytes in multiples of 4, with a valid PEC; a write to the mailbox is wake source 14. DESIGN CHOICE, log entry 111. -/
def execSmbWrite (addr : BitVec 32) (data : List Byte) (pec : Bool) (s : State) : Result :=
  let a := addr.toNat
  if !pec || data.length = 0 || 28 < data.length || data.length % 4 ≠ 0 then .next s
  else if !loamAccessOk a data.length then .next s.mgmtBad
  else
    let s := s.loamWords a data
    .next (if 0x1000 ≤ a && a < 0x1100 then s.wakeCfg 14 else s)

/-- ALARM_LATCH_READ (R427, R457). -/
def execAlarmLatchRead (s : State) : Result := .next s.alarmSeen

/-- R455: the words of a management read, with its latch: a word answered from the latch, and the low half of a register whose other half the read does not cover latched. -/
def State.smbWords (s : State) (a : Nat) : Nat → Nat → List Byte × Option (Nat × List Byte)
  | 0, _ => ([], s.mgmt.latch)
  | n + 1, k =>
    let x := a + 4 * k
    let rest := State.smbWords s a n (k + 1)
    let w := match s.mgmt.latch with
      | some (o, b) => if k = 0 && x = o && b.length = 4 then b else wordOf (s.loamReg x) x
      | none => wordOf (s.loamReg x) x
    let latch := if n = 0 then
        match s.mgmt.latch with
        | some (o, b) => if k = 0 && x = o && b.length = 4 then some (o, b) else latchOf (s.loamReg x) x 4
        | none => latchOf (s.loamReg x) x 4
      else rest.2
    (w ++ rest.1, latch)

/-- SMB_READ (R352, R427, R455, R462): 4 to 32 bytes in multiples of 4; zeros where the access is not of the window's form. DESIGN CHOICE, log entry 111. -/
def execSmbRead (addr : BitVec 32) (count : Nat) (s : State) : Result :=
  let a := addr.toNat
  if count = 0 || 32 < count || count % 4 ≠ 0 then .next s
  else if !loamAccessOk a count then .next (s.mgmtBad.send (.smbus (padTo count [])))
  else
    let r := s.smbWords a (count / 4) 0
    let s := (s.modMgmt fun m => { m with latch := r.2 }).send (.smbus r.1)
    .next (if a < 0x2210 && 0x2200 < a + count then s.alarmSeen else s)

/-- SMB_ALERT_RESPONSE (R352, R427): the target answers while MGMT_INT_N is low; the cause ALARM clears. DESIGN CHOICE, log entry 111. -/
def execSmbAlertResponse (s : State) : Result :=
  .next (if s.mgmtIntLow then (s.send (.smbus (toLe 1 (2 * (0x58 + s.boot.smbAddr.toNat))))).alarmSeen else s)

/-- SMB_CLOCK_LOW_TIMEOUT (R352): the target interface is reset; a transaction cut off has no effect, and the interface holds nothing else. -/
def execSmbClockLowTimeout (s : State) : Result := .next s

end Sys2Proof.Machine
end

