-- ==== Sys2Proof/Machine/Query.lean ====
section
/-! DEFINITION. Sys2Proof/Machine/Query.lean: identity, the configuration lock and the counter groups: DEV_IDENTIFY, DEV_CONFIG_LOCK, COUNTER_READ, SNAPSHOT ("Command set", R17, R18, R262, R274, R466). -/

namespace Sys2Proof.Machine

def infoDevIdentify : CmdInfo := { opcode := 0x0101, fromS := true, fromM := true, fromD := true, len := 0 }

/-- What the checks of DEV_IDENTIFY find (R9, R260): it has no fields. -/
def checksDevIdentify (c : Cmd) : Checks := { bad := firstBad [] c.payload }

/-- DEV_IDENTIFY (R12, R274, R416). DESIGN CHOICE, log entry 22. -/
def execDevIdentify (c : Cmd) (s : State) : Result :=
  .next <| s.command infoDevIdentify c (checksDevIdentify c) fun s =>
    s.ok c 0x0101 (toLe 2 0x1FE7 ++ toLe 2 0xC124 ++ [Config.silicon] ++ toLe 1 (bits s.boot.options0.toNat 0 0)
      ++ toLe 1 (bits s.boot.running.toNat 31 24) ++ toLe 1 (bits s.boot.running.toNat 23 16) ++ toLe 4 s.cap3
      ++ toLe 4 (flag s.boot.released + 2 * flag s.lock) ++ toLe 6 s.boot.serial.toNat)

def infoDevConfigLock : CmdInfo := { opcode := 0x0102, fromM := true, fromI := true, journal := true, len := 1 }

/-- What the checks of DEV_CONFIG_LOCK find (R262, R275). -/
def checksDevConfigLock (c : Cmd) (s : State) : Checks :=
  { bad := firstBad [rangeField 0 1 0xA5 0xA5] c.payload, old := [0], new := [0xA5], journalled := !s.lock }

/-- DEV_CONFIG_LOCK (R262, R275): until a cold start; already set, it completes OK and writes no entry. -/
def execDevConfigLock (c : Cmd) (s : State) : Result :=
  .next <| s.command infoDevConfigLock c (checksDevConfigLock c s) fun s => { s with lock := true }.ok c 0x0102 []

/-! ## Counter groups (R466, Table 19-5) -/

/-- R412: the counters in their order. -/
def RegionCtr.values (x : RegionCtr) : List (BitVec 64) :=
  [x.ce, x.ue, x.writeBack, x.rmw, x.scrubPages, x.scrubCe, x.scrubUe, x.repairsSoft]

/-- R412: the status fields of a region, with SPARES_FREE of the banks named. DEDUCED, log entry 109. -/
def State.regionStatus (s : State) (r : Nat) (banks : List Nat) : List (BitVec 64) :=
  let x := s.region r
  ([x.t, flag x.fly, flag x.converting, x.convAt, flag x.flipArmed] ++ banks.map fun b => 16 - Tab.get 0 x.used b).map (BitVec.ofNat 64)

/-- R412, R466: counters and status of a region in its island's snapshot group; of the Loam memory for copy A, then copy B. DEDUCED, log entry 109. -/
def State.regionCounters (s : State) (r : Nat) : List (BitVec 64) :=
  let x := s.region r
  if r = 4 then x.ctr.values ++ s.regionStatus 4 [0, 1, 2, 3] ++ x.ctrB.values ++ s.regionStatus 4 [4, 5, 6, 7]
  else x.ctr.values ++ s.regionStatus r (List.range (regionBanks r))

/-- R395: ENERGY_NJ of an island. -/
def State.energyOf (s : State) (agent : Nat) : BitVec 64 := Tab.get 0 s.power.energy agent

/-- A name with instances: the instances ascend within it. -/
def perInst {α β : Type} (l : List α) (fs : List (α → β)) : List β := (fs.map fun f => l.map f).flatten

/-- Every egress with class queues, and its queues with their classes by code. -/
def egressList : List (Nat × Nat) :=
  ((([0, 1, 3, 4, 5, 7] ++ (List.range 12).map agentPort : List Nat)).map fun a =>
    (if a = 5 then [0, 1, 3, 2, 4, 5] else List.range (egressQueues a)).map fun q => (a, q)).flatten

/-- Table 5-11: the row of an egress class queue. DEDUCED, log entry 109. -/
def queueCounters : List (EgQueue → BitVec 64) :=
  [(·.enq), (·.deq), (·.ageDrop), (·.genDrop), (·.capDrop), (·.poolDrop), (·.eccDrop), (·.poisonOut), (·.flushDrop),
   fun x => BitVec.ofNat 64 x.depth, fun x => BitVec.ofNat 64 x.peakDepth]

/-- Table 5-11: cells that no bank of the placement holds. DEDUCED, log entry 109. -/
def State.cellsFree (s : State) : Nat := ((s.banksIn .active).map fun b => 8192 - (s.bank b).fill).sum

/-- R304. -/
def chCounters : List (Ch → BitVec 64) :=
  [(·.jobs), (·.bytesRead), (·.bytesWritten), (·.retryCnt), (·.trigLost), (·.clip), (·.blocksTaken), (·.blocksShort), (·.blocksPois), (·.blockDrop)]

/-- Table 12-1, R308, R317: the counters of a slice. -/
def sliceCounters : List (Slice → BitVec 64) := [(·.dbReject), (·.accReject), (·.noticeLost), (·.staleGen)]

/-- Table 19-5: the groups of an agent. -/
def agentGroups (agent : Nat) : List Nat :=
  if agent = 2 || agent = 5 then [1, 2, 3]
  else if agent = 1 || agent = 3 || agent = 4 || (0x10 ≤ agent && agent ≤ 0x1B) then [1, 2]
  else if agent = 0 || agent = 6 || agent = 7 then [1]
  else []

/-- R134: the pools of the classes, and the reserve. -/
def poolCodes : List Nat := [0, 1, 2, 3, 4, 5, 7]

/-- Table 19-5: the values of a group in order; a slice from 1 has only its own four (R466). -/
def State.counters (s : State) (agent group : Nat) (own : Option Nat) : List (BitVec 64) :=
  match agent, group with
  | 0, _ =>
    (([0] ++ islands).map s.energyOf) ++ s.regionCounters 4 ++ [s.mem.repairsFused]
  | 1, 1 => (List.range 1024).map fun k =>
      BitVec.ofNat 64 (le (wordOf (regAt (s.shallotRegs (8 * k)) (8 * k)) (8 * k) ++ wordOf (regAt (s.shallotRegs (8 * k + 4)) (8 * k + 4)) (8 * k + 4)) 0 8)
  | 1, _ => s.regionCounters 2 ++ [s.energyOf 1]
  | 2, 1 => perInst (egressList.map fun e => s.egq e.1 e.2) queueCounters
  | 2, 2 =>
    (([0, 1, 3, 4, 5, 7] ++ (List.range 12).map agentPort : List Nat).map fun a => Tab.get 0 s.marl.stageUnderrun a)
      ++ (perInst (poolCodes.map s.pool) [fun p : Pool => BitVec.ofNat 64 p.used] ++ [BitVec.ofNat 64 s.sharedUsed])
      ++ (perInst (poolCodes.map s.pool) [fun p : Pool => BitVec.ofNat 64 p.peak] ++ [BitVec.ofNat 64 s.marl.sharedPeak])
      ++ perInst ((List.range 33).map s.bank) [fun b : Bank => b.ce, fun b => b.ue, fun b => BitVec.ofNat 64 b.fill, fun b => BitVec.ofNat 64 b.state.ctorIdx]
      ++ [s.marl.sweepRounds, s.marl.linkUe, BitVec.ofNat 64 s.cellsFree]
  | 2, _ => s.regionCounters 0 ++ [s.energyOf 2]
  | 5, 1 => perInst ((List.range 24).map s.root) [(·.schedErr)]
  | 5, 2 => perInst ((List.range 64).map s.ch) chCounters
  | 5, _ => s.regionCounters 1 ++ s.regionCounters 3 ++ [s.energyOf 5]
  | 6, _ => perInst ((List.range 32).map s.streamOf) [(·.unboundDrop), (·.sdpDrop), (·.hpdDrop)] ++ [s.energyOf 6]
  | 7, _ =>
    perInst ((List.range 4).map s.netPort) [(·.ctrlDrop), (·.oversize), (·.fcsDrop), (·.untaggedDrop), (·.noTunnelDrop), (·.vidMismatch)] ++ [s.energyOf 7]
  | a, g =>
    if a = 3 || a = 4 then
      let h := a - 3
      if g = 1 then [(s.hp h).pasidMiss, (s.hp h).badAccess.zeroExtend 64, s.energyOf a]
      else match own with
        | some sl => sliceCounters.map fun f => f (s.slice h sl)
        | none => perInst ((List.range 256).map fun sl => s.slice h sl) sliceCounters
    else
      let x := s.port (a - 16)
      if g = 1 then
        perInst [x.lane0, x.lane1, x.lane2, x.lane3] [(·.badFlit), (·.trainErr)]
          ++ [x.rx.protoErr, x.retry, x.creditOverrun, x.overheadNj, s.energyOf a]
      else perInst ((List.range 1023).map fun t => x.tun (t + 1)) [(·.protoDrop), (·.orphanDrop), (·.creditWait), (·.energyNj)]

/-- Table 5-11: the PEAK gauges clear on read. -/
def State.clearPeaks (s : State) (agent group : Nat) : State :=
  match agent, group with
  | 2, 1 => egressList.foldl (fun s e => s.modEgq e.1 e.2 fun x => { x with peakDepth := 0 }) s
  | 2, 2 => (poolCodes.foldl (fun s k => s.setPool k { s.pool k with peak := 0 }) s).modMarl fun m => { m with sharedPeak := 0 }
  | _, _ => s

/-- The power domain of an agent (Table 1-3). -/
def agentDomain (a : Nat) : Option Nat :=
  match a with
  | 0 => none
  | 1 => some 0
  | 2 => some 1
  | 3 => some 7
  | 4 => some 7
  | 5 => some 8
  | 6 => some 9
  | 7 => some 10
  | _ => some (portDomain (a - 16))

/-- R17, R18: the stamp of a capture: the timebase, or when the island's domain was switched off. DEDUCED, log entry 110. -/
def State.captureTime (s : State) (a : Nat) : Time × Bool :=
  match agentDomain a with
  | some d => if !s.power.on.getLsbD d then (Tab.get 0 s.power.offAt d, true) else (s.now, false)
  | none => (s.now, false)

/-- R466: the slice from 1 that asks. -/
def Cmd.smallSlice (c : Cmd) : Option (Nat × Nat) := c.route.slice?.filter fun e => decide (e.2 ≠ 0)

/-- R466: the values of groups go to the buffer as far as it reaches; to origin D all of them, after the completion, in units of 32 bytes. -/
def State.giveCounters (s : State) (c : Cmd) (op agent : Nat) (groups : List Nat) (more : List Byte → List Byte) : State :=
  if c.accessFailed then s.complete c op .mediaError 0 []
  else
    let all := ((groups.map fun g => s.counters agent g (c.smallSlice.map Prod.snd)).flatten.map fun v => toLe 8 v.toNat).flatten
    let t := s.captureTime agent
    let s' := groups.foldl (fun s g => s.clearPeaks agent g) s
    if c.route = .diag then
      (s'.ok c op (more (toLe 4 all.length ++ toLe 4 0 ++ toLe 8 t.1.toNat))).send (.diag (padTo ((all.length + 31) / 32 * 32) all))
    else
      let out := all.take (le c.payload 16 4)
      (s'.bufferWrite c (le c.payload 8 8) out).ok c op (more (toLe 4 out.length ++ toLe 4 0 ++ toLe 8 t.1.toNat))

def infoCounterRead : CmdInfo := { opcode := 0x0106, fromS := true, fromO := true, fromM := true, fromD := true, len := 20 }

/-- What the checks of COUNTER_READ find (R17, R18, R463, R466). -/
def checksCounterRead (c : Cmd) : Checks :=
  let b := c.payload
  let a := byteAt b 0
  let g := byteAt b 1
  { bad := orBad (firstBad [⟨0, 1, fun a => !(agentGroups a).isEmpty⟩, ⟨1, 1, fun g => (agentGroups a).contains g⟩, anyField 8 8, anyField 16 4] b)
      (badIf (bufferBad c (le b 8 8) (le b 16 4)) 8)
    owned := match c.smallSlice with
      | some (h, _) => decide (a = agentHp h) && decide (g = 2)
      | none => true }

/-- COUNTER_READ (R17, R18, R463, R466). -/
def execCounterRead (c : Cmd) (s : State) : Result :=
  let b := c.payload
  let a := byteAt b 0
  let g := byteAt b 1
  .next <| s.command infoCounterRead c (checksCounterRead c) fun s => s.giveCounters c 0x0106 a [g] id

def infoSnapshot : CmdInfo := { opcode := 0x0107, fromO := true, fromM := true, fromD := true, len := 20 }

/-- What the checks of SNAPSHOT find (R17, R18, R463, R466). -/
def checksSnapshot (c : Cmd) : Checks :=
  let b := c.payload
  { bad := orBad (firstBad [⟨0, 1, fun a => !(agentGroups a).isEmpty⟩, anyField 1 1, anyField 8 8, anyField 16 4] b)
      (badIf (bufferBad c (le b 8 8) (le b 16 4)) 8) }

/-- SNAPSHOT (R17, R18, R463, R466): every group of the agent in ascending order. -/
def execSnapshot (c : Cmd) (s : State) : Result :=
  let b := c.payload
  let a := byteAt b 0
  .next <| s.command infoSnapshot c (checksSnapshot c) fun s => s.giveCounters c 0x0107 a (agentGroups a) fun r => putBytes r 4 (toLe 1 (flag (s.captureTime a).2))

end Sys2Proof.Machine
end

