-- ==== Sys2Proof/Machine/Boot.lean ====
section
/-! DEFINITION. Sys2Proof/Machine/Boot.lean: power good, fuses, the Eceasum image, flash operations, and the Loam copies ("Start-up, live update and replacement", R407, R417, R430 to R444, R449 to R451). -/

namespace Sys2Proof.Machine

/-! ## Configuration flash (R430, R431) -/

/-- Table 18-1: base of slot A, slot B and the recovery image. -/
def slotBase (slot : Nat) : Nat :=
  match slot with
  | 0 => 0x00400000
  | 1 => 0x00800000
  | _ => 0

/-- R430: the size of the flash. DESIGN CHOICE, log entry 26. -/
def flashSize : Nat := max 0x02000000 Config.flashBytes

/-- `n` bytes of the flash; erased bytes read 0xFF. -/
def State.flashBytes (s : State) (a n : Nat) : List Byte := Tab.bytes 0xFF s.boot.flash a n

/-- R431: a 32-byte select record is valid. -/
def selectValid (r : List Byte) : Bool :=
  decide (r.take 4 = [0x53, 0x45, 0x4C, 0x52]) && decide (byteAt r 12 ≤ 1) && decide (le r 13 8 = 0) && decide (le r 21 7 = 0)
    && decide (le r 28 4 = (crc32c (r.take 28)).toNat)

/-- Table 18-1: the flash addresses at which a select record stands, as its first byte is not erased. -/
def State.selectPlaces (s : State) : List Nat :=
  (s.boot.flash.map Prod.fst).filter fun a => decide (0xC00000 ≤ a) && decide (a < 0xC20000) && decide (a % 32 = 0)

/-- R431: the valid select record with the highest SEQ: its address, SEQ and PREFERRED. DESIGN CHOICE, log entry 63. -/
def State.newestSelect (s : State) : Option (Nat × Nat × Nat) :=
  s.selectPlaces.foldl (fun best a =>
    let r := s.flashBytes a 32
    if selectValid r then
      match best with
      | some (_, q, _) => if q < le r 4 8 then some (a, le r 4 8, byteAt r 12) else best
      | none => some (a, le r 4 8, byteAt r 12)
    else best) none

/-- Table 18-5 step 3: the select records are read. With no valid record PREFERRED is A. -/
def State.readSelects (s : State) : State :=
  match s.newestSelect with
  | some (a, q, p) => s.modBoot fun b => { b with selAt := some a, selSeq := BitVec.ofNat 64 q, preferred := BitVec.ofNat 1 p }
  | none => s.modBoot fun b => { b with selAt := none, selSeq := 0, preferred := 0 }

/-- R431: the bytes of a select record. -/
def selectRecord (seq pref : Nat) : List Byte :=
  let r := [0x53, 0x45, 0x4C, 0x52] ++ toLe 8 seq ++ toLe 1 pref ++ toLe 15 0
  r ++ toLe 4 (crc32c r).toNat

/-- R431: a select record goes into the sector that does not hold the newest one, after the last record there; a full sector is erased first. DESIGN CHOICE, log entry 63. -/
def State.appendSelect (s : State) (pref : Nat) : State :=
  let sector := match s.boot.selAt with
    | some a => if a < 0xC10000 then 0xC10000 else 0xC00000
    | none => 0xC00000
  let used := (s.boot.flash.map Prod.fst).foldl (fun m a =>
    if sector ≤ a && a < sector + 65536 then max m ((a - sector) / 32 + 1) else m) 0
  let full := decide (2048 ≤ used)
  let a := if full then sector else sector + 32 * used
  let seq := s.boot.selSeq + 1
  s.modBoot fun b =>
    { b with
      flash := Tab.write 0xFF a (selectRecord seq.toNat pref) (if full then eraseRange sector 65536 b.flash else b.flash)
      selAt := some a, selSeq := seq, preferred := BitVec.ofNat 1 pref }

/-! ## The Eceasum image (R434 to R439) -/

/-- Table 18-3: IMAGE_LEN. -/
def imageLen (m : List Byte) : Nat := le m 8 4
/-- Table 18-3: FW_VERSION. -/
def imageVersion (m : List Byte) : Nat := le m 12 4
/-- Table 18-3: FW_COMPAT_MIN. -/
def imageCompat (m : List Byte) : Nat := le m 16 4

/-- Table 18-3: the section entries used: TYPE, OFFSET, LENGTH. -/
def imageSections (m : List Byte) : List (Nat × Nat × Nat) :=
  (List.range (min 6 (le m 6 2))).map fun k => (le m (32 + 16 * k) 2, le m (36 + 16 * k) 4, le m (40 + 16 * k) 4)

/-- The contents of the section of a TYPE. -/
def imageSection (m : List Byte) (typ : Nat) : Option (List Byte) :=
  ((imageSections m).find? (·.1 = typ)).map fun x => (m.drop x.2.1).take x.2.2

/-- Two sections do not overlap. -/
def sectionsApart (a b : Nat × Nat × Nat) : Bool := decide (a.2.1 + a.2.2 ≤ b.2.1) || decide (b.2.1 + b.2.2 ≤ a.2.1)

/-- Each element is in relation `r` with every later one. -/
def pairsAll {α : Type} (r : α → α → Bool) : List α → Bool
  | [] => true
  | x :: xs => xs.all (r x) && pairsAll r xs

/-- R434 to R436, second check: MAGIC, FORMAT, IMAGE_LEN, sections and reserved fields. DEDUCED, log entry 62. -/
def imageFormOk (m : List Byte) : Bool :=
  let len := imageLen m
  let secs := imageSections m
  let count (t : Nat) : Nat := (secs.filter (·.1 = t)).length
  decide (m.take 4 = [0x45, 0x43, 0x53, 0x4D]) && decide (le m 4 2 = 1) && decide (1 ≤ le m 6 2) && decide (le m 6 2 ≤ 6)
    && decide (512 ≤ len) && decide (len ≤ 4194304) && decide (len % 4 = 0) && decide (len ≤ m.length) && decide (le m 28 4 = 0)
    && ((List.range 6).all fun k =>
      if k < le m 6 2 then decide (le m (34 + 16 * k) 2 = 0) && decide (le m (44 + 16 * k) 4 = 0)
      else decide (le m (32 + 16 * k) 16 = 0))
    && (secs.all fun x => decide (1 ≤ x.1) && decide (x.1 ≤ 5) && decide (x.2.1 % 16 = 0) && decide (128 ≤ x.2.1)
      && decide (x.2.1 + x.2.2 + 256 ≤ len))
    && pairsAll (fun a b => decide (a.1 ≠ b.1) && sectionsApart a b) secs
    && decide (count 1 = 1) && (secs.all fun x => decide (x.1 ≠ 1) || decide (x.2.2 ≤ 1536 * 1024)) && decide (count 2 = 1)
    && decide (le m (len - 256 + 97) 7 = 0) && decide (le m (len - 56) 56 = 0)

/-- R435: the signature block. -/
def imageSig (m : List Byte) : List Byte := (m.drop (imageLen m - 256)).take 256

/-- R436, third check: the key's digest is ROOT_KEY_HASH, which is not all zeros. DEDUCED, log entry 62. -/
def imageKeyOk (keyHash m : List Byte) : Bool :=
  let h := padTo 48 keyHash
  h.any (· ≠ 0) && decide (sha384 ((imageSig m).take 97) = h)

/-- R435, R436, fourth check. -/
def imageSigned (m : List Byte) : Bool :=
  let g := imageSig m
  decide (byteAt g 0 = 4) && ecdsaP384 (beNat ((g.drop 1).take 48)) (beNat ((g.drop 49).take 48)) (beNat ((g.drop 104).take 48))
    (beNat ((g.drop 152).take 48)) (sha384 (m.take (imageLen m - 256)))

/-- R437: a HOME_MASK byte: 0, or 1 to 3 of its low four bits. -/
def homeOk (v : Nat) : Bool := decide (v < 15)

/-- R437: the SETTINGS section. -/
def settingsOk (p : List Byte) : Bool :=
  let off := le p 8 4
  let size := le p 12 4
  decide (p.length = 64) && decide (1 ≤ byteAt p 4) && decide (byteAt p 4 ≤ 100) && decide (le p 5 3 = 0)
    && (if off = 0 then decide (size = 0)
        else decide (off % 65536 = 0) && decide (0x01000000 ≤ off) && decide (size % 65536 = 0) && decide (1048576 ≤ size)
          && decide (size ≤ 67108864) && decide (off + size ≤ flashSize))
    && ((List.range 4).all fun r => decide (byteAt p (16 + 4 * r) ≤ 6) && decide (byteAt p (17 + 4 * r) < 128)
      && decide (byteAt p (19 + 4 * r) = 0))
    && decide (((List.range 4).filter fun r => decide (byteAt p (16 + 4 * r) = 1)).length ≤ 1)
    && ((List.range 12).all fun n => homeOk (byteAt p (32 + n))) && decide (le p 44 20 = 0)

/-- The 64-byte entries of a section. -/
def entriesOf (p : List Byte) : List Entry := (List.range (p.length / 64)).map fun i => (p.drop (64 * i)).take 64

/-- R438: the entries form complete chains, one after another; `fuel` is at least their number. DEDUCED, log entry 62. -/
def chainsOk : Nat → List Entry → Bool
  | _, [] => true
  | 0, _ => false
  | fuel + 1, es => match readQueue es with
    | .chain _ _ n _ => chainsOk fuel (es.drop n)
    | _ => false

/-- R438: the COMMANDS section. -/
def commandsOk (p : List Byte) : Bool :=
  let es := entriesOf p
  decide (p.length % 64 = 0) && decide (es.length ≤ 4096) && chainsOk es.length es

/-- R439: the entries of a PLAN section. -/
def planOf (p : List Byte) : List Plan :=
  (List.range (p.length / 128)).map fun i =>
    let e := (p.drop (128 * i)).take 128
    { key := BitVec.ofNat 16 (le e 0 2), trigger := byteAt e 2, payload := e.drop 8 }

/-- R439: the PLAN section. DEDUCED, log entry 62. -/
def planOk (p : List Byte) : Bool :=
  let es := planOf p
  decide (p.length % 128 = 0) && decide (es.length ≤ 1024) && pairsAll (fun a b : Plan => decide (a.key ≠ b.key)) es
    && ((List.range es.length).all fun i => decide (le p (128 * i + 3) 5 = 0))
    && es.all fun e => decide (e.key ≠ 0) && decide (e.trigger ≤ 2) && decide (le e.payload 10 2 = e.key.toNat)
      && decide (le e.payload 16 2 = 0) && decide (byteAt e.payload 3 = 0) && (createBad (.image none) e.payload).isNone

/-- R439: the records of a DISPLAYID section: stream number, DSC_CAP, descriptor; none for a section that does not hold whole records. -/
def displayOf : Nat → List Byte → Option (List (Nat × Bool × List Byte))
  | _, [] => some []
  | 0, _ => none
  | fuel + 1, p =>
    let n := le p 2 2
    let whole := 4 + (n + 3) / 4 * 4
    if 7 < byteAt p 0 || bits (byteAt p 1) 6 2 ≠ 0 || n = 0 || 512 < n || p.length < whole then none
    else (displayOf fuel (p.drop whole)).map fun l =>
      (4 * byteAt p 0 + bits (byteAt p 1) 1 0, bitOf (byteAt p 1) 7, (p.drop 4).take n) :: l

/-- R439: the DISPLAYID section. -/
def displayOk (p : List Byte) : Bool :=
  match displayOf (p.length / 4 + 1) p with
  | some l => pairsAll (fun a b => decide (a.1 ≠ b.1)) l
  | none => false

/-- R436, last check: the contents of the sections that are there. DEDUCED, log entry 62. -/
def imageContentsOk (m : List Byte) : Bool :=
  let good (t : Nat) (f : List Byte → Bool) : Bool := match imageSection m t with
    | some p => f p
    | none => true
  good 2 settingsOk && good 3 commandsOk && good 4 planOk && good 5 displayOk

/-- R436: the cause code of an image: the first failing check, 1 for a valid image. DEDUCED, log entry 62. -/
def imageCheck (keyHash : List Byte) (readError : Bool) (m : List Byte) : Nat :=
  if readError then 5
  else if !imageFormOk m then 2
  else if !imageKeyOk keyHash m then 3
  else if !imageSigned m then 4
  else if !imageContentsOk m then 2
  else 1

/-- The image in a slot: IMAGE_LEN bytes from its base, at least a header's. -/
def State.slotImage (s : State) (slot : Nat) : List Byte :=
  let h := s.flashBytes (slotBase slot) 128
  if 128 < imageLen h && imageLen h ≤ 4194304 then s.flashBytes (slotBase slot) (imageLen h) else h

/-! ## Power good and fuses (R407, R432, R433, R440, R479) -/

/-- POWER_GOOD (R440, R479): the straps are sampled. DEDUCED, log entry 10. -/
def execPowerGood (recovery : Bool) (smbAddr : BitVec 2) (s : State) : Result :=
  if s.power.powered then .next s
  else .next ((s.modPower fun w => { w with powered := true }).modBoot fun b =>
    { b with stage := .fuse, recoveryStrap := recovery, smbAddr := smbAddr })

/-- R407: the check of a fuse entry is good. -/
def fuseGood (e : BitVec 32) : Bool := decide (bits e.toNat 30 24 = fuseCheck (bits e.toNat 23 0))

/-- R407: a VALID entry with a good check switches in its spare row; one of a column switches in a spare column, assigned at manufacture. -/
def State.fuseRepair (s : State) (e : BitVec 32) : State :=
  let v := e.toNat
  let bank := bits v 8 3
  let spare := bits v 22 19
  let s := s.modMem fun m => { m with repairsFused := m.repairsFused + 1 }
  if bitOf v 23 then s
  else s.modRegion (bits v 2 0) fun r =>
    { r with repairs := r.repairs ++ [(bank, bits v 18 9, spare)]
             used := Tab.set 0 bank (max (Tab.get 0 r.used bank) (spare + 1)) r.used }

/-- R407: one entry at fuse load; `i` is its place. DESIGN CHOICE, log entry 61. -/
def State.fuseApply (s : State) (i : Nat) (e : BitVec 32) : State :=
  if !e.getLsbD 31 then s
  else if fuseGood e then s.fuseRepair e
  else s.alarmOccur 16 i false

/-- FUSE_LOAD_DONE (R407, R417, R431 to R433): what the fuses hold; entries burned since manufacture stand in the map of the state. The FUSE_LOAD record waits; the select records are read. DEDUCED, log entry 10; DESIGN CHOICE, log entry 61. -/
def execFuseLoadDone (keyHash : List Byte) (serial : BitVec 48) (options0 : BitVec 32) (options1 : BitVec 32) (trim : BitVec 512)
    (repairMap : List (BitVec 32)) (s : State) : Result :=
  if s.boot.stage ≠ .fuse then .next s
  else
    let map := if s.mem.fuseMap.isEmpty then repairMap.take 128 else s.mem.fuseMap
    let s := s.modMem fun m => { m with fuseMap := map }
    let s := s.modBoot fun b =>
      { b with keyHash := keyHash.take 48, serial := serial, options0 := options0, options1 := options1, trim := trim, fuseLoaded := true }
    let s := (List.range map.length).foldl (fun s i => s.fuseApply i (map.getD i 0)) s
    let s := s.record { origin := 0, kind := 0xF002, object := (map.filter fun e => e.getLsbD 31 && fuseGood e).length
                        old := toLe 4 options0.toNat, new := toLe 4 options1.toNat }
    .next (s.readSelects.modBoot fun b => { b with stage := .candidates })

/-! ## Candidates (R417, R436, R437, R440, R442) -/

/-- BOOT_STATUS: the cause of a slot. -/
def Boot.cause (b : Boot) (slot : Nat) : BitVec 3 :=
  match slot with
  | 0 => b.causeA
  | 1 => b.causeB
  | _ => b.causeRec

def Boot.setCause (b : Boot) (slot : Nat) (c : BitVec 3) : Boot :=
  match slot with
  | 0 => { b with causeA := c }
  | 1 => { b with causeB := c }
  | _ => { b with causeRec := c }

/-- R440: the candidates in order. -/
def Boot.candidates (b : Boot) : List Nat :=
  if b.recoveryStrap then [2] else [b.preferred.toNat, 1 - b.preferred.toNat, 2]

/-- R440: the next candidate not tried. -/
def Boot.candidate (b : Boot) : Option Nat := b.candidates.find? fun x => decide (b.cause x = 0)

/-- R437, Table 18-5 step 6: SETTINGS come into force. DESIGN CHOICE, log entry 74. -/
def State.applySettings (s : State) (p : List Byte) : State :=
  let regs := (List.range 4).foldl (fun t r =>
    Tab.set {} r { rail := byteAt p (16 + 4 * r), addr := byteAt p (17 + 4 * r), page := byteAt p (18 + 4 * r) } t) []
  let s := s.modBoot fun b =>
    { b with subVendor := BitVec.ofNat 16 (le p 0 2), subId := BitVec.ofNat 16 (le p 2 2), holdWindow := byteAt p 4
             jrnlOffset := le p 8 4, jrnlSize := le p 12 4 }
  let s := s.modPower fun w => { w with regs := regs }
  (List.range 12).foldl (fun s n => s.modPort n fun x =>
    { x with link := { x.link with homeMask := (if byteAt p (32 + n) = 0 then 5 else BitVec.ofNat 4 (byteAt p (32 + n))) } }) s

/-- Table 18-5 step 4: what the sections of the image taken place in memory. -/
def State.loadImage (s : State) (slot : Nat) (m : List Byte) : State :=
  let displays := ((imageSection m 5).bind fun p => displayOf (p.length / 4 + 1) p).getD []
  let s := s.modBoot fun b =>
    { b with booted := BitVec.ofNat 2 slot, running := BitVec.ofNat 32 (imageVersion m), fwSlot := some slot
             commands := entriesOf ((imageSection m 3).getD []), cmdAt := 0
             displayIds := displays.foldl (fun t e => Tab.insert e.1 e.2.2 t) []
             dscCap := (displays.filter (·.2.1)).map Prod.fst }
  ({ s with plan := planOf ((imageSection m 4).getD []) }).applySettings ((imageSection m 2).getD [])

/-- R419: the record store empties into the journal, in order, while there is room. DEDUCED, log entry 38; DEDUCED, log entry 71. -/
def State.flushRecords (s : State) : Nat → State
  | 0 => s
  | n + 1 => match s.silt.records with
    | [] => s
    | r :: rest =>
      if s.journalOpen && s.journalRoom false then
        State.flushRecords ((s.modSilt fun x => { x with records := rest }).commit r) n
      else s

/-- R417, R423: the newest persisted page of the region in force: the next JIDX, the write pointer and the TAG. -/
def State.persistedHere (s : State) : Option (Nat × Nat × List Byte) :=
  match s.boot.persisted with
  | some (off, jidx, wr, tag) => if s.boot.jrnlOffset = off && 0 < s.boot.jrnlSize then some (jidx, wr, tag) else none
  | none => none

/-- R417, Table 18-5 step 6: CHAIN_START, then the records that waited; a chain in Loam goes on without. -/
def State.chainStart (s : State) : State :=
  if s.silt.chained then s
  else
    let s := s.modSilt fun x => { x with chained := true }
    let s := match s.persistedHere with
      | some (jidx, wr, tag) =>
        (s.modSilt fun x => { x with next := jidx, oldest := jidx, tag := tag, tagOld := tag, persistWr := wr }).commit
          { origin := 6, kind := 0xF001, object := 1, old := toLe 4 0, new := toLe 4 0 }
      | none => s.commit { origin := 6, kind := 0xF001, old := toLe 4 0, new := toLe 4 0 }
    s.flushRecords 64

/-- IMAGE_VERIFIED (R436, R440, R442): the next candidate has been read and checked. DEDUCED, log entry 10. -/
def execImageVerified (readError : Bool) (s : State) : Result :=
  if s.boot.stage ≠ .candidates || s.power.resetWait then .next s
  else match s.boot.candidate with
    | none => .next (s.modBoot fun b => { b with stage := .noImage })
    | some slot =>
      let m := s.slotImage slot
      let cause := imageCheck s.boot.keyHash readError m
      let s := s.modBoot fun b => b.setCause slot (BitVec.ofNat 3 cause)
      if cause = 1 then
        .next ((s.loadImage slot m).chainStart.modBoot fun b => { b with stage := .verified })
      else if s.boot.candidate.isNone then .next (s.modBoot fun b => { b with stage := .noImage })
      else .next s

/-! ## IMAGE_WRITE and IMAGE_SELECT (R442 to R444) -/

def infoImageWrite : CmdInfo := { opcode := 0x0903, fromO := true, fromM := true, journal := true, len := 20 }

/-- What the checks of IMAGE_WRITE find (R443, R463). -/
def checksImageWrite (c : Cmd) (s : State) : Checks :=
  let p := c.payload
  let slot := byteAt p 0
  let off := le p 4 4
  let addr := le p 8 8
  let len := le p 16 4
  { bad := orBad (firstBad [rangeField 0 1 0 (if s.boot.stage = .noImage then 2 else 1),
        ⟨4, 4, fun v => decide (v % 65536 = 0) && decide (v < 4194304)⟩, anyField 8 8,
        ⟨16, 4, fun v => decide (v % 256 = 0) && decide (256 ≤ v) && decide (v ≤ 1048576) && decide (off + v ≤ 4194304)⟩] p)
      (badIf (bufferBad c addr len) 8)
    refuse := firstSome [failIf (decide (s.boot.fwSlot = some slot) || decide (s.boot.stagedSlot = some slot)) .denied 4,
      failIf s.boot.imageJob.isSome .busy 0]
    object := slot, new := p.take 20 }

/-- IMAGE_WRITE (R443, R463): the chunk is erased, programmed and read back (FLASH_OPERATION_DONE). DEDUCED, log entry 64. -/
def execImageWrite (c : Cmd) (s : State) : Result :=
  let p := c.payload
  let slot := byteAt p 0
  let off := le p 4 4
  let addr := le p 8 8
  let len := le p 16 4
  .next <| s.command infoImageWrite c (checksImageWrite c s) fun s =>
      match s.sourceBytes c addr len with
      | .err _ => s.complete c 0x0903 .mediaError 0 []
      | .ok data =>
        let s := if slot = s.boot.preferred.toNat then s.appendSelect (1 - slot) else s
        s.modBoot fun b => { b with imageJob := some { cmd := c, slot := slot, off := off, len := len, data := padTo len data } }

def infoImageSelect : CmdInfo := { opcode := 0x0904, fromO := true, fromM := true, locked := true, journal := true, len := 1 }

/-- R444: what IMAGE_SELECT checks of its command, before its slot is read. -/
def selectChecks (c : Cmd) (s : State) : Checks :=
  { bad := firstBad [rangeField 0 1 0 1] c.payload
    refuse := failIf s.boot.imageJob.isSome .busy 0
    object := byteAt c.payload 0, old := toLe 1 s.boot.preferred.toNat, new := c.payload.take 1 }

/-- R444, R442: the slot has been read: the checks of R436 and of the journal region, the select record; in NO_IMAGE start-up runs from step 3. DEDUCED, log entry 65. -/
def State.selectFinish (s : State) (c : Cmd) (good : Bool) : State :=
  let slot := byteAt c.payload 0
  let m := s.slotImage slot
  let cause := imageCheck s.boot.keyHash (!good) m
  let p := (imageSection m 2).getD []
  let moved := decide (s.boot.stage ≠ .noImage) && (decide (le p 8 4 ≠ s.boot.jrnlOffset) || decide (le p 12 4 ≠ s.boot.jrnlSize))
  s.command infoImageSelect c
    { selectChecks c s with
      refuse := firstSome [failIf (decide (cause = 5)) .mediaError 0, failIf (decide (cause ≠ 1)) .denied 4, failIf moved .denied 4] }
    fun s =>
      let s := (s.appendSelect slot).ok c 0x0904 []
      if s.boot.stage = .noImage then s.modBoot fun b => { b with stage := .candidates, causeA := 0, causeB := 0, causeRec := 0 } else s

/-- IMAGE_SELECT (R444): the slot is read (FLASH_OPERATION_DONE), then checked. A commit that waited needs no second read. DEDUCED, log entry 65. -/
def execImageSelect (c : Cmd) (s : State) : Result :=
  if c.late then .next (s.selectFinish c true)
  else
    let k := selectChecks c s
    let started := s.startCmd c infoImageSelect.opcode
    if started.waits infoImageSelect c || (firstFailure infoImageSelect c started k).isSome then .next (s.command infoImageSelect c k id)
    else .next (started.modBoot fun b => { b with imageJob := some { cmd := c, select := true, slot := byteAt c.payload 0 } })

/-- FLASH_OPERATION_DONE (R443, R444): `good` tells whether every erase, program and read succeeded and the read-back matched. What a failed chunk holds is free (DESIGN CHOICE, log entry 27). -/
def execFlashOperationDone (good : Bool) (s : State) : Result :=
  match s.boot.imageJob with
  | none => .next s
  | some j =>
    let s := s.modBoot fun b => { b with imageJob := none }
    if j.select then .next (s.selectFinish j.cmd good)
    else
      let a := slotBase j.slot + j.off
      let data := if good then j.data else padTo j.len (Config.flashRest s.freeCtr)
      let s := if good then s else s.tickFree
      let s := s.modBoot fun b =>
        { b with flash := Tab.write 0xFF a data (eraseRange a ((j.len + 65535) / 65536 * 65536) b.flash) }
      .next (if good then s.ok j.cmd 0x0903 [] else s.complete j.cmd 0x0903 .mediaError 0 [])

/-! ## Loam copies (R449 to R451) -/

def State.loam (s : State) (copyB : Bool) : Loam := if copyB then s.boot.loamB else s.boot.loamA
def State.modLoam (s : State) (copyB : Bool) (f : Loam → Loam) : State :=
  s.modBoot fun b => if copyB then { b with loamB := f b.loamB } else { b with loamA := f b.loamA }

/-- R425: at a handover the records not yet drained are lost, under one loss record. DESIGN CHOICE, log entry 69. -/
def State.traceGone (s : State) : State :=
  let recs := s.silt.trace.map Prod.snd
  if recs.isEmpty then s
  else
    let s := if s.silt.traceLoss.isNone then s.alarmOccur 26 0 true else s
    s.modSilt fun x =>
      { x with trace := [], traceView := [], traceLoss := recs.foldl (fun l r => some (Loss.add l r)) x.traceLoss
               traceLost := x.traceLost + BitVec.ofNat 64 recs.length }

/-- R451: the outputs switch to a copy; the trace buffer of the other is lost. DESIGN CHOICE, log entry 69. -/
def State.switchTo (s : State) (copyB : Bool) : State :=
  (s.modLoam copyB fun l => { l with state := .active }).traceGone.modBoot fun b =>
    { b with loamActiveB := copyB, handovers := b.handovers + 1 }

def infoLoamHandover : CmdInfo := { opcode := 0x090B, fromO := true, fromM := true, journal := true, len := 1 }

/-- What the checks of LOAM_HANDOVER find (R451). -/
def checksLoamHandover (c : Cmd) (s : State) : Checks :=
  let target := decide (byteAt c.payload 0 = 1)
  let st := (s.loam target).state
  { bad := firstBad [rangeField 0 1 0 1] c.payload
    refuse := failIf (decide (st = .failed) || decide (st = .syncing)) .busy 0
    object := byteAt c.payload 0, old := toLe 1 (flag s.boot.loamActiveB), new := c.payload.take 1 }

/-- LOAM_HANDOVER (R451). -/
def execLoamHandover (c : Cmd) (s : State) : Result :=
  let target := decide (byteAt c.payload 0 = 1)
  .next <| s.command infoLoamHandover c (checksLoamHandover c s) fun s =>
      let s := if target = s.boot.loamActiveB then s
        else (s.switchTo target).modLoam (!target) fun l => { l with state := .syncing }
      s.ok c 0x090B []

/-- LOAM_COPY_FAULT (R20, R450, Table 16-3): the copy fails; a standby takes over from an ACTIVE one. DESIGN CHOICE, log entry 68; DESIGN CHOICE, log entry 70. -/
def execLoamCopyFault (copyB : Bool) (s : State) : Result :=
  let l := s.loam copyB
  if l.state = .failed then .next s
  else
    let fails := s.now :: l.fails.filter (s.within 86400000000000)
    let wasActive := decide (l.state = .active)
    let s := s.modLoam copyB fun l =>
      { l with state := .failed, fails := fails, retryDue := if fails.length < 3 then some (s.after 10000000000) else none }
    let s := s.alarmOccur 12 (flag copyB) false
    .next (if !wasActive then s
      else if (s.loam (!copyB)).state = .standby then s.switchTo (!copyB)
      else s.alarmOccur 13 (flag copyB) false)

/-- LOAM_COPY_RETRY_EXPIRY (R450). DESIGN CHOICE, log entry 68. -/
def execLoamCopyRetryExpiry (copyB : Bool) (s : State) : Result :=
  let l := s.loam copyB
  if l.state = .failed && s.due l.retryDue then
    .next (s.modLoam copyB fun l => { l with state := .syncing, retryDue := none })
  else .next s

/-- LOAM_SYNC_DONE (R450): the whole state has come from the ACTIVE copy. -/
def execLoamSyncDone (copyB : Bool) (s : State) : Result :=
  if (s.loam copyB).state = .syncing && (s.loam (!copyB)).state = .active then .next (s.modLoam copyB fun l => { l with state := .standby })
  else .next s

end Sys2Proof.Machine
end

