-- ==== Sys2Proof/Machine/PdLink.lean ====
section
/-! DEFINITION. Sys2Proof/Machine/PdLink.lean: the shared operations of the policy engine: supplies, contracts, resets, faults, discovery and mode entry (R204 to R231). -/

namespace Sys2Proof.Machine

/-! ## Supplies and power stage (R208 to R214) -/

/-- Table 8-4: mV of a voltage code. -/
def vselMv (code : Nat) : Nat := [5000, 9000, 15000, 20000, 28000, 36000, 48000].getD code 0

/-- R209: current of one supply in units of 10 mA. -/
def Pd.offer (d : Pd) (code : Nat) : Nat :=
  min (min (if d.cfg.stageImax = 1 then 500 else 300) (if d.cable.amps5 then 500 else 300)) (d.cfg.srcPdp * 100000 / vselMv code)

/-- R209: the fixed supplies offered, by voltage code. -/
def Pd.supplies (d : Pd) (epr : Bool) : List Nat :=
  (List.range 7).filter fun c => decide (c ≤ d.cfg.stageVmax) && (decide (c < 4) || (epr && d.cfg.eprSrcEn))

/-- R209: one fixed supply as a power data object. -/
def Pd.pdo (d : Pd) (code : Nat) : Nat :=
  (if code = 0 then 2 ^ 29 + 2 ^ 26 + 2 ^ 25 + 2 ^ 23 * flag (d.cfg.eprSrcEn && d.pd3) else 0) + vselMv code / 50 * 1024 + d.offer code

/-- R209: Source_Capabilities, and as EPR_Source_Capabilities those of EPR from the eighth object on. -/
def Pd.capsBytes (d : Pd) (epr : Bool) : List Byte :=
  let spr := ((d.supplies false).filter (· < 4)).flatMap fun c => toLe 4 (d.pdo c)
  if epr then padTo 28 spr ++ ((d.supplies true).filter (4 ≤ ·)).flatMap fun c => toLe 4 (d.pdo c) else spr

/-- R210, R222: Sink_Capabilities: the 5 V supply with the Fast Role Swap current. -/
def Pd.sinkCaps (d : Pd) : List Byte :=
  toLe 4 (2 ^ 29 + 2 ^ 26 + 2 ^ 25 + 2 ^ 23 * (if d.cfg.frsEn && d.pd3 then d.cfg.frsCurrent else 0) + 100 * 1024 + d.cfg.snkCurrent * 5)

/-- R212: the pins with VCONN on the CC pin that is not used for CC, or off. -/
def Pd.withVconn (d : Pd) (on : Bool) : Pd := { d with pins := { d.pins with vconn1 := on && d.flipped, vconn2 := on && !d.flipped } }

/-- R212, R213: the source path closes at vSafe5V, and a transition to it begins. -/
def Pd.sourceOn (d : Pd) (now : Time) : Pd :=
  { d with pins := { d.pins with srcEn := true, snkEn := false, vsel := 0, disch := false }
           transit := some (5000, 0, now + BitVec.ofNat 64 250000000) }

/-- R213: the source path opens, and VBUS is discharged to vSafe0V. -/
def Pd.sourceOff (d : Pd) (now : Time) : Pd :=
  { d with pins := { d.pins with srcEn := false, disch := true }, transit := some (0, 0, now), nego := none }

/-- R216: a response is awaited for tSenderResponse. -/
def State.await (s : State) (p k : Nat) : State :=
  s.modPd p fun d => { d with awaiting := k, senderDue := some (s.after (1000000 * d.cfg.senderMs)) }

/-- The awaited response has come. -/
def Pd.answered (d : Pd) : Pd := { d with awaiting := 0, senderDue := none }

/-- R209: Source_Capabilities are sent; tTypeCSendSourceCap runs until the first answer. -/
def State.sendCaps (s : State) (p : Nat) : State :=
  let d := (s.port p).pd
  let s := (if d.epr then s.sendExt p 17 (d.capsBytes true) else s.sendPd p 0 1 1 (d.capsBytes false)).modPd p fun d =>
    { d with caps := d.caps + 1, capsDue := none }
  if d.pdSeen then s.await p 1 else s.armPd p tSendSourceCap 150

/-! ## Leaving modes and fallback (R186, R192, R223, R229) -/

/-- R186, R229: every use of the port ends: the Jayth link, DisplayPort Alternate Mode, the native root, the device functions. -/
def State.endUses (s : State) (p : Nat) : State :=
  let jayth := decide ((s.port p).pd.mode = .jayth)
  let s := (s.linkDisable p).dpEnd p
  let s := if jayth then s.modeNotice p 0x3A svidJayth 1 else s
  let s := if (s.root p).state = .poweredOff then s else (s.rootDisconnect p).rootOff p false
  (s.portDevices p).modPd p fun d => { d with mode := .none, fbCause := none, disco := .idle, ams := 0, sinkTxNg := false
                                              partnerSvids := (false, false), partnerVdo := none, idTries := 0, busyTries := 0 }

/-- Table 8-8: the swap in progress ends with a status for its command. -/
def State.endSwap (s : State) (p : Nat) (st : Status) : State :=
  let d := (s.port p).pd
  let fin (w : Option Swap) (s : State) : State := s.completeOpt (w.bind (·.cmd)) 0x0302 st 0 []
  fin d.parked (fin d.swap (s.modPd p fun d => { d with swap := none, parked := none, pins := { d.pins with frsEn := false } }))

/-- A PORT_PD_RESET that waits completes. -/
def State.endReset (s : State) (p : Nat) (st : Status) : State :=
  let c := (s.port p).pd.resetCmd
  (s.modPd p fun d => { d with resetCmd := none }).completeOpt c 0x0303 st 0 []

/-- A PORT_JAYTH_RETRY that waits completes with the mode entered. -/
def State.endRetry (s : State) (p : Nat) (st : Status) : State :=
  let d := (s.port p).pd
  (s.modPd p fun d => { d.disarm tRetryLimit with retryCmd := none }).completeOpt d.retryCmd 0x0311 st 0
    (if st = .ok then toLe 1 d.mode.ctorIdx else [])

/-- R186, R220: discovery has ended. -/
def State.discoveryEnd (s : State) (p : Nat) : State :=
  (s.modPd p fun d => { d.disarm tVdmResponse with disco := .done, sinkTxNg := false }).endRetry p .ok

/-- R182: fallback for a cause that discovery finds; a port in fallback already keeps its cause. -/
def State.toFallback (s : State) (p cause : Nat) : State :=
  let s := if (s.port p).pd.inFallback then s.nativeUses p else s.fallback p cause
  if (s.port p).pd.disco = .dpEnter then s else s.discoveryEnd p

/-- Table 8-9: the roles after a Hard Reset: those before the swap in progress, a Fast Role Swap excepted; else those that the power role gives. DEDUCED, log entry 130. -/
def Pd.resetRoles (d : Pd) : Roles :=
  match d.swap with
  | some w => if w.kind = 4 then { w.before with source := true } else w.before
  | none => { source := d.roles.source, dfp := d.roles.source, vconn := d.roles.source }

/-- R216, R223, R229: what a Hard Reset, sent or received, does before a fallback that follows from it. -/
def State.resetPort (s : State) (p : Nat) (sent : Bool) : State :=
  let d := (s.port p).pd
  let kind := match d.swap with
    | some w => w.kind
    | none => 0
  let roles := d.resetRoles
  let s := if sent then s.send (.hardReset p) else s
  let s := s.portNotice p 0x35 (toLe 1 (flag (!sent)) ++ toLe 1 kind)
  let s := (s.endSwap p .aborted).endReset p (if sent then .ok else .aborted)
  let s := s.endUses p
  s.modPd p fun d =>
    let d := { d.answered with
               roles := roles, contract := none, nego := none, epr := false, eprDue := none, timers := [], caps := 0, transit := none
               cable := {}, cableDp := false, bist := 0, chunkOut := none, chunkIn := none, pins := { d.pins with snkEn := false } }
    if roles.source then ({ d with rp := d.cfg.rpLevel } : Pd).arm tPsHardReset (s.after 30000000)
    else ((if d.pins.srcEn then d.sourceOff s.now else d).withVconn roles.vconn).arm tNoResponse (s.after 5000000000)

/-- R182, Table 7-1: without JAYTH_EN the port that has left fallback enters it again at once. -/
def State.refall (s : State) (p : Nat) : State := if (s.port p).pd.fb.jaythEn then s else s.fallback p 0

/-- R216, R182, R223, R229: a Hard Reset, sent or received. -/
def State.hardReset (s : State) (p : Nat) (sent : Bool) : State := (s.resetPort p sent).refall p

/-- What stays of a CC/PD controller when its connection ends: settings, bindings and what R214 and R217 count. -/
def Pd.unattached (d : Pd) : Pd :=
  { cfg := d.cfg, fb := d.fb, fbNow := d.fbNow, bind0 := d.bind0, bind1 := d.bind1, lockout := d.lockout, pdOff := d.pdOff
    faultTimes := d.faultTimes, errTimes := d.errTimes, vbusMv := d.vbusMv, ibusMa := d.ibusMa }

/-- R378: 10 s after the last port of a group powered on demand has detached it may go off again. -/
def State.pgIdle (s : State) (g : Nat) : State :=
  let idle := [0, 1, 2].all fun k => decide ((s.port (3 * g + k)).pd.conn = .unattached)
  if s.power.pgDemand.getLsbD g && idle then
    s.modPower fun x => { x with pgDue := Tab.insert g (s.after 10000000000) x.pgDue }
  else s

/-- R206, R219, R229: the connection ends; VBUS that the AX1224 sourced is discharged. -/
def State.disconnect (s : State) (p : Nat) : State :=
  let sourced := (s.port p).pd.pins.srcEn
  let s := (((s.endSwap p .aborted).endReset p .aborted).endRetry p .aborted).endUses p
  let s := s.modPd p fun d => if sourced then (d.unattached).sourceOff s.now else d.unattached
  s.pgIdle (p / 3)

/-- R216, R217: ErrorRecovery: PD_ERROR_RECOVERY; the third entry within 60 s ends the use of PD: PD_LADDER_END. -/
def State.errorRecovery (s : State) (p : Nat) : State :=
  let times := (s.port p).pd.errTimes.filter (s.within 60000000000) ++ [s.now]
  let s := (s.disconnect p).modPd p fun d => { d.arm tErrorRecovery (s.after 30000000) with conn := .errorRecovery, errTimes := times }
  let s := s.portNotice p 0x36 (toLe 1 times.length)
  if 3 ≤ times.length then ((s.modPd p fun d => { d with pdOff := true }).portNotice p 0x37 []).alarmOccur 20 p true else s

/-- R216: a Hard Reset for want of a response; beyond nHardResetCount, ErrorRecovery if PD has worked, else no PD. -/
def State.ladderReset (s : State) (p : Nat) : State :=
  let d := (s.port p).pd
  if d.hardResets < 2 then (s.hardReset p true).modPd p fun x => { x with hardResets := d.hardResets + 1 }
  else if d.pdSeen then s.errorRecovery p
  else (s.modPd p fun d => { d.answered with timers := [] }).toFallback p (if d.roles.dfp then 2 else 1)

/-- R214, Table 8-5: a stage fault by its row: 0 FLT_N sourcing, 1 over-current, 2 voltage, 3 window, 5 FLT_N sinking; the third within 60 s locks the source role out. -/
def State.stageFault (s : State) (p row : Nat) : State :=
  let times := (s.port p).pd.faultTimes.filter (s.within 60000000000) ++ [s.now]
  let s := s.modPd p fun d => { d with faultTimes := times }
  let s := (s.portNotice p 0x38 (toLe 1 row)).event (evPd p 3)
  let s := if 3 ≤ times.length && !(s.port p).pd.lockout then
      (s.modPd p fun d => { d with lockout := true }).alarmOccur 19 p true else s
  if row = 5 then (s.modPd p fun d => { d with pins := { d.pins with snkEn := false } }).alarmOccur 18 p false
  else
    let s := s.modPd p fun d => d.sourceOff s.now
    let s := if row ≤ 1 then
        let s := s.alarmOccur 17 p false
        if (s.root p).state = .poweredOff then s else s.rootOff p true
      else s.alarmOccur 18 p false
    let s := s.hardReset p true
    s.modPd p fun d => d.sourceOff s.now

/-! ## Soft_Reset -/

/-- After a Soft_Reset the source offers its supplies again; a sink waits for them. -/
def State.afterSoftReset (s : State) (p : Nat) : State :=
  if (s.port p).pd.roles.source then s.sendCaps p else s.armPd p tSinkWaitCap 465

/-- Table 8-8, R229: a Soft_Reset, sent or received, ends a swap; contract and modes stay. -/
def State.softReset (s : State) (p : Nat) (sent : Bool) (st : Status) : State :=
  let s := (s.endSwap p st).portNotice p 0x34 (toLe 1 (flag (!sent)))
  let s := s.modPd p fun d => { ((d.answered.disarm tSrcTransition).disarm tPsTransition).disarm tSinkRequest with nego := none, ams := 0, sinkTxNg := false }
  if sent then (s.sendPd p 0 0 13 []).await p 2 else (s.sendPd p 0 0 3 []).afterSoftReset p

/-! ## Discovery (R219, R220, R224) -/

/-- R220: under PD 3.x the source shows SinkTxNG and waits tSinkTx before a sequence. -/
def State.ams (s : State) (p k : Nat) (start : State → State) : State :=
  let d := (s.port p).pd
  if d.pd3 && d.roles.source && !d.sinkTxNg then
    (s.modPd p fun d => { d with sinkTxNg := true, ams := k }).armPd p tSinkTx 18
  else start s

/-- R219: the AX1224's own swap request goes out: PR_Swap, DR_Swap or VCONN_Swap. -/
def State.sendSwap (s : State) (p : Nat) : State :=
  match (s.port p).pd.swap with
  | some w => (s.sendPd p 0 0 (match w.kind with
      | 1 => 10
      | 2 => 9
      | 3 => 11
      | _ => 19) []).await p 1
  | none => s

/-- R224 step 1: Discover Identity on SOP', or first the VCONN_Swap that it needs (R219). -/
def State.discover (s : State) (p : Nat) : State :=
  let d := (s.port p).pd
  if d.roles.vconn then s.askVdm p .primeIdentity 1 0xFF00 0 1 []
  else if d.swap.isSome then s
  else (s.modPd p fun d => { d with swap := some { kind := 3, own := true, before := d.roles } }).sendSwap p

/-- R183, R184, R224: the port has a use for discovery: the Jayth mode, which a port in fallback no longer enters, or DisplayPort Alternate Mode. -/
def Pd.discovers (d : Pd) : Bool := if d.inFallback then d.fbNow.dpaltEn else d.fb.jaythEn || d.fb.dpaltEn

/-- R224: as DFP with a contract, the whole order begins, once for each attach and each Hard Reset. -/
def State.startDiscovery (s : State) (p : Nat) : State :=
  let d := (s.port p).pd
  if d.roles.dfp && d.contract.isSome && !d.pdOff && d.disco = .idle && d.mode ≠ .jayth && d.discovers then
    s.ams p 1 fun s => s.discover p
  else s

/-- R224 step 2: discovery on SOP begins. -/
def State.discoverSop (s : State) (p : Nat) : State := s.askVdm p .sopIdentity 0 0xFF00 0 1 []

/-- Table 8-10: a mode VDO of the terminal is valid. -/
def sopVdoOk (v : Nat) : Bool := decide (v % 8 ≠ 0) && decide (bits v 15 3 = 0) && decide (bits v 23 16 = 1) && decide (v / 2 ^ 24 = 0)

/-- Table 8-10: a mode VDO of a Jayth active cable is valid. -/
def primeVdoOk (v : Nat) : Bool :=
  decide (v % 8 < 3) && !bitOf v 7 && decide (bits v 13 8 ≤ 50) && decide (v / 2 ^ 14 = 0)

/-- The rate of a MAX_RATE code. -/
def rateOfCode (v : Nat) : Rate := if v = 0 then .j14 else if v = 1 then .j28 else .j56

/-- R226: what the mode VDO of a Jayth active cable declares. -/
def Cable.withVdo (c : Cable) (v : Nat) : Cable :=
  { c with maxRate := some (rateOfCode (v % 8)), active := true, dirAgile := bitOf v 3, fec14 := bitOf v 4, fec28 := bitOf v 5
           turnNs := 10 * bits v 13 8 }

/-- R54, R209, R211: what the SOP' identity of a cable declares: ID header and first cable VDO. DEDUCED, log entry 130. -/
def cableOf (id vdo : Nat) : Cable :=
  let active := decide (bits id 29 27 = 4)
  let passive := decide (bits id 29 27 = 3)
  let speed := vdo % 8
  let rate : Option Rate := if !passive then none else match speed with
    | 1 => some .j14
    | 2 => some .j28
    | 3 => some .j56
    | 4 => some .j56
    | _ => none
  { maxRate := rate, modal := active && bitOf id 26, amps5 := decide (bits vdo 6 5 = 2)
    epr := bitOf vdo 17 && decide (bits vdo 10 9 = 3), usb4 := (active || passive) && (decide (speed = 3) || decide (speed = 4)) }

/-- R199: the highest rate that the DisplayPort VDO of a cable declares: signalling code 2 UHBR10, 3 UHBR20, and bit 26 UHBR13.5. PRESUMED, log entry 159. -/
def dpCableRate (v : Nat) : Nat := if bits v 5 2 = 3 || bitOf v 26 then 5 else if bits v 5 2 = 2 then 4 else 0

/-- R224 step 3: Enter Mode, if both ends qualify, or fallback; a port in fallback stays there. -/
def State.settleModes (s : State) (p : Nat) : State :=
  let d := (s.port p).pd
  if d.inFallback || !d.fb.jaythEn then s.toFallback p 0
  else if !d.partnerSvids.1 || d.partnerVdo.isNone then s.toFallback p 2
  else if d.cable.maxRate.isNone then s.toFallback p 4
  else if d.cable.active then s.askVdm p .enterPrime 1 svidJayth 1 4 []
  else s.askVdm p .enterSop 0 svidJayth 1 4 []

/-- R37: what the Jayth mode needs: the DFP role, discovery that has come to Enter Mode on SOP, and a cable that qualifies. -/
def Pd.mayEnter (d : Pd) : Bool := d.roles.dfp && decide (d.disco = .enterSop) && d.cable.maxRate.isSome

/-- R37, R38, R184: the Jayth mode is entered: native use of the pairs ends, training starts. -/
def State.enterMode (s : State) (p : Nat) : State :=
  if (s.port p).train.state ≠ .disabled || !(s.port p).pd.mayEnter then s
  else
    let s := (s.dpEnd p).portDevices p
    let s := (s.rootDisconnect p).rootOff p false
    let s := s.modPd p fun d => { d with mode := .jayth, fbCause := none }
    ((s.startDetect p).modeNotice p 0x39 svidJayth 1).discoveryEnd p

/-- ENTER_MODE_ACK (R29, R37, R38): the training clock starts. -/
def execEnterModeAck (port : Fin 12) (s : State) : Result := .next (s.enterMode port.val)

/-- The step of discovery that is awaited is asked again. -/
def State.askAgain (s : State) (p : Nat) : State :=
  let d := (s.port p).pd
  match d.disco with
  | .primeIdentity => s.askVdm p .primeIdentity 1 0xFF00 0 1 []
  | .primeSvids => s.askVdm p .primeSvids 1 0xFF00 0 2 []
  | .primeModes => s.askVdm p .primeModes 1 svidJayth 0 3 []
  | .primeDpModes => s.askVdm p .primeDpModes 1 svidDp 0 3 []
  | .sopIdentity => s.discoverSop p
  | .sopSvids => s.askVdm p .sopSvids 0 0xFF00 0 2 []
  | .sopModes => s.askVdm p .sopModes 0 svidJayth 0 3 []
  | .sopDpModes => s.askVdm p .sopDpModes 0 svidDp 0 3 []
  | .enterSop => s.askVdm p .enterSop 0 svidJayth 1 4 []
  | .dpEnter => s.askVdm p .dpEnter 0 svidDp d.dp.pos 4 []
  | .dpStatus => s.askVdm p .dpStatus 0 svidDp d.dp.pos 16 (toLe 4 1)
  | .dpConfig => s.askVdm p .dpConfig 0 svidDp d.dp.pos 17 (toLe 4 (2 + 4 + 256 * 2 ^ d.dp.pin))
  | _ => s

/-- R199, R224: after the Jayth mode VDO of a cable its DisplayPort VDO, if it lists one and the port may use it; then SOP. -/
def State.primeDp (s : State) (p : Nat) : State :=
  let d := (s.port p).pd
  if d.cableDp && d.fbUse.dpaltEn then (s.modPd p fun d => { d with disco := .primeDpModes }).askAgain p else s.discoverSop p

/-- R224, Table 7-1: the step awaited is answered NAK, or not answered. DEDUCED, log entry 130. -/
def State.stepFails (s : State) (p : Nat) (silent : Bool) : State :=
  let d := (s.port p).pd
  let s := s.modPd p fun d => (d.disarm tVdmResponse).disarm tVdmEntry
  match d.disco with
  | .primeIdentity =>
    if silent && d.idTries < 19 then (s.modPd p fun d => { d with idTries := d.idTries + 1 }).askAgain p
    else (s.modPd p fun d => { d with cable := { maxRate := some .j14 } }).discoverSop p
  | .primeSvids => s.discoverSop p
  | .primeModes => s.primeDp p
  | .primeDpModes => s.discoverSop p
  | .sopIdentity => s.toFallback p 2
  | .sopSvids => s.toFallback p 2
  | .sopModes => if d.partnerSvids.2 then (s.modPd p fun d => { d with disco := .sopDpModes }).askAgain p else s.settleModes p
  | .sopDpModes => (s.modPd p fun d => { d with partnerSvids := (d.partnerSvids.1, false) }).settleModes p
  | .enterPrime => (s.modPd p fun d => { d with cable := { d.cable with maxRate := none } }).toFallback p 4
  | .enterSop => s.toFallback p 3
  | .dpEnter => s.discoveryEnd p
  | .dpStatus => (s.dpExit p).discoveryEnd p
  | .dpConfig => (s.dpExit p).discoveryEnd p
  | _ => s

/-- R199: the first UFP_D mode of a DisplayPort mode list: its index and the pin assignments C, D, E that it offers. -/
def dpModeOf (vdos : List Nat) : Option (Nat × Nat) :=
  (((List.range vdos.length).map fun i => (i + 1, vdos.getD i 0)).find? fun e => bitOf e.2 0).map fun e =>
    (e.1, bits (if bitOf e.2 6 then bits e.2 23 16 else bits e.2 15 8) 4 2)

/-- R224, R184, R199, R201: the step awaited is acknowledged with these objects. -/
def State.stepAck (s : State) (p : Nat) (objs : List Nat) : State :=
  let d := (s.port p).pd
  let s := s.modPd p fun d => { (d.disarm tVdmResponse).disarm tVdmEntry with busyTries := 0 }
  let svids := objs.flatMap fun o => [o / 65536, o % 65536]
  match d.disco with
  | .primeIdentity =>
    let c := cableOf (objs.getD 0 0) (objs.getD 3 0)
    let s := s.modPd p fun d => { d with cable := c }
    if c.modal then (s.modPd p fun d => { d with disco := .primeSvids }).askAgain p else s.discoverSop p
  | .primeSvids =>
    let s := s.modPd p fun d => { d with cableDp := svids.contains svidDp }
    if svids.contains svidJayth then (s.modPd p fun d => { d with disco := .primeModes }).askAgain p else s.primeDp p
  | .primeModes =>
    let v := objs.getD 0 0
    (s.modPd p fun d => { d with cable := if primeVdoOk v then d.cable.withVdo v else d.cable }).primeDp p
  | .primeDpModes => (s.modPd p fun d => { d with cable := { d.cable with dpRate := dpCableRate (objs.getD 0 0) } }).discoverSop p
  | .sopIdentity => (s.modPd p fun d => { d with disco := .sopSvids }).askAgain p
  | .sopSvids =>
    let j := svids.contains svidJayth
    let dp := svids.contains svidDp && d.fbUse.dpaltEn
    let s := s.modPd p fun d => { d with partnerSvids := (j, dp) }
    if j then (s.modPd p fun d => { d with disco := .sopModes }).askAgain p
    else if dp then (s.modPd p fun d => { d with disco := .sopDpModes }).askAgain p
    else s.toFallback p 2
  | .sopModes =>
    let v := objs.getD 0 0
    let s := s.modPd p fun d => { d with partnerVdo := if sopVdoOk v then some (BitVec.ofNat 32 v) else none }
    if d.partnerSvids.2 then (s.modPd p fun d => { d with disco := .sopDpModes }).askAgain p else s.settleModes p
  | .sopDpModes =>
    match dpModeOf objs with
    | some (pos, pins) => (s.modPd p fun d => { d with dp := { d.dp with pos := pos, offers := BitVec.ofNat 3 pins } }).settleModes p
    | none => (s.modPd p fun d => { d with partnerSvids := (d.partnerSvids.1, false) }).settleModes p
  | .enterPrime => s.askVdm p .enterSop 0 svidJayth 1 4 []
  | .enterSop => s.enterMode p
  | .dpEnter =>
    let s := s.modPd p fun d => { d with mode := .dp, dp := { pos := d.dp.pos, offers := d.dp.offers, entered := true }, disco := .dpStatus }
    (s.modeNotice p 0x39 svidDp d.dp.pos).askAgain p
  | .dpStatus =>
    let m := (s.streamOf d.fbNow.dpaltSrc.toNat).mode
    (s.modPd p fun d => { d with dp := { d.dp with pin := d.dpPin m, lanes := dpLanes (d.dpPin m) }, disco := .dpConfig }).askAgain p
  | .dpConfig =>
    -- R185: a root that runs at a USB 3.2 speed that the lanes left no longer carry loses its connection
    let s := if (s.port p).pd.rootSpeedOk (s.root p).speed then s else s.rootDisconnect p
    (s.discoveryEnd p).dpAutoBind p
  | _ => s

/-- R224: BUSY: asked again after tVDMBusy, up to nBusyCount times; from SOP' at Enter Mode it disqualifies the cable. -/
def State.stepBusy (s : State) (p : Nat) : State :=
  let d := (s.port p).pd
  if d.disco = .enterPrime || 5 ≤ d.busyTries then (s.modPd p fun d => { d with busyTries := 0 }).stepFails p false
  else (s.modPd p fun d => { (d.disarm tVdmResponse).disarm tVdmEntry with busyTries := d.busyTries + 1 }).armPd p tVdmBusy 50

/-! ## Contracts and swaps done -/

/-- R207, R213: a contract is in force: PD_CONTRACT; as DFP discovery follows, as UFP fallback (Table 7-1). -/
def State.contractMade (s : State) (p : Nat) (k : Nat × Nat × Bool) : State :=
  let s := s.modPd p fun d => { d.answered with contract := some k, nego := none, hardResets := 0, pdSeen := true, timers := d.timers.filter fun e => decide (e.1 = tRetryLimit) || decide (e.1 = tSourceActivity) }
  let s := s.portNotice p 0x32 (toLe 1 k.1 ++ toLe 2 k.2.1 ++ toLe 1 (flag k.2.2))
  let d := (s.port p).pd
  let s := if d.roles.source then s else s.sinkOn p
  let s := if d.roles.dfp then s.startDiscovery p else if d.mode = .none then s.fallback p 1 else s
  let d := (s.port p).pd
  if d.ams = 0 && (d.disco = .idle || d.disco = .done) && d.swap.isNone then s.modPd p fun d => { d with sinkTxNg := false } else s

/-- Table 8-8, Table 8-12: a swap has completed: PD_SWAP_DONE; R221: it also drops the AX1224's pending retry of the same swap. -/
def State.swapDone (s : State) (p : Nat) : State :=
  let d := (s.port p).pd
  match d.swap with
  | none => s
  | some w =>
    let role := match w.kind with
      | 2 => flag d.roles.dfp
      | 3 => flag d.roles.vconn
      | _ => flag d.roles.source
    let drop := decide (d.parked.map (·.kind) = some w.kind)
    let s := s.modPd p fun d => { d.answered with
      swap := none, parked := if drop then none else d.parked, sinkTxNg := false, pins := { d.pins with frsEn := false } }
    let s := (s.portNotice p 0x33 (toLe 1 w.kind ++ toLe 1 role)).completeOpt w.cmd 0x0302 .ok 0 (toLe 1 role)
    if drop then s.completeOpt (d.parked.bind (·.cmd)) 0x0302 .ok 0 (toLe 1 role) else s

/-- The data role has changed (DR_Swap): as UFP fallback for Table 7-1 row 2, or other uses of the fallback in force; as DFP a device function detaches (R197), and discovery looks for the uses of R184. DEDUCED, log entry 130. -/
def State.dataSwapped (s : State) (p : Nat) : State :=
  let s := s.modPd p fun d => { d with roles := { d.roles with dfp := !d.roles.dfp } }
  let s := s.swapDone p
  if (s.port p).pd.roles.dfp then ((s.portDevices p).modPd p fun d => { d with disco := .idle }).startDiscovery p
  else
    let s := if (s.root p).state = .poweredOff then s else (s.rootDisconnect p).rootOff p false
    (s.modPd p fun d => { d with disco := .done }).toFallback p 1

/-- VCONN changes sides. -/
def State.vconnSwapped (s : State) (p : Nat) : State :=
  let s := s.modPd p fun d => ({ d with roles := { d.roles with vconn := !d.roles.vconn } } : Pd).withVconn (!d.roles.vconn)
  let s := s.swapDone p
  if (s.port p).pd.roles.vconn then s.startDiscovery p else s

/-- A swap has been accepted, by either side (R218, R219). -/
def State.swapAccepted (s : State) (p : Nat) : State :=
  let s := s.modPd p fun d => { d.answered with swap := d.swap.map fun w => { w with phase := .accepted, retryDue := none } }
  let d := (s.port p).pd
  match d.swap with
  | none => s
  | some w => match w.kind with
    | 1 =>
      let s := s.modPd p fun d => { d with contract := none, epr := false, eprDue := none }
      if d.roles.source then s.armPd p tSrcTransition 30
      else (s.modPd p fun d => { d with pins := { d.pins with snkEn := false } }).armPd p tPsSourceOff 800
    | 2 => s.dataSwapped p
    | 3 => if d.roles.vconn then s else (s.sendPd p 0 0 6 []).vconnSwapped p
    | _ => (s.modPd p fun d => { d with contract := none, pins := { d.pins with snkEn := false } }).armPd p tPsSourceOff 800

end Sys2Proof.Machine
end

