-- ==== Sys2Proof/Machine/Pd.lean ====
section
/-! DEFINITION. Sys2Proof/Machine/Pd.lean: Type-C and Power Delivery: attach and detach, messages, timers, power-stage samples and faults, and the PORT_PD_*, PORT_FALLBACK_CFG and PORT_JAYTH_RETRY commands ("Type-C ports and power delivery", R182 to R186). -/

namespace Sys2Proof.Machine

/-! ## Attach and detach (R204 to R206) -/

/-- The port may attach in this power role: PORT_MODE (R208) and the lockout of the source role (R214). -/
def Pd.mayAttach (d : Pd) (source : Bool) : Bool :=
  if source then decide (d.cfg.portMode ≠ 2) && !d.lockout else decide (d.cfg.portMode ≠ 1)

/-- R204: a DRP port with TRY_SRC=1 that finds a source tries to become the source itself. -/
def Pd.triesSrc (d : Pd) : Bool := decide (d.cfg.portMode = 0) && d.cfg.trySrc && !d.lockout

/-- R205, Table 15-9: the attach may go on: while a sleep state lasts whose group is held off by PM_DOMAIN only if the port's wake source is enabled. -/
def State.attachHeld (s : State) (p : Nat) : Bool :=
  decide (s.power.sleep ≠ 0) && s.power.held.getLsbD (3 + p / 3) && !s.power.wakeMask.getLsbD p

/-- R205, R387: an attach is told: PORT_ATTACH and its event; it wakes the AX1224, and powers the port's group on demand. -/
def State.tellAttach (s : State) (p : Nat) (source flipped : Bool) : State :=
  let s := ((s.event (evPd p 0)).wakeCfg p)
  let s := if s.attachHeld p then s else s.pgWake (p / 3)
  s.portNotice p 0x30 (toLe 1 (flag source) ++ toLe 1 (flag source) ++ toLe 1 (flag flipped))

/-- R182, R204, R217: a port has attached in a power role: VBUS and VCONN as source, the settings that an attach latches, and a fallback whose cause is known. -/
def State.attach (s : State) (p : Nat) (source flipped : Bool) : State :=
  let s := s.modPd p fun d =>
    let d := { d.unattached with
               conn := if source then .attachedSrc else .attachedSnk, flipped := flipped, rp := d.cfg.rpLevel
               roles := { source := source, dfp := source, vconn := source } }
    if source then (d.withVconn true).sourceOn s.now else d
  let s := s.tellAttach p source flipped
  let d := (s.port p).pd
  let s := if !d.fb.jaythEn then s.fallback p 0 else if d.pdOff then s.fallback p 2 else s
  if source then s
  else if d.pdOff then s.sinkOn p
  else (s.armPd p tSinkWaitCap 465).sinkOn p

/-- R212, R433, R441: until release every CC pin is open, and no VBUS or VCONN is switched. -/
def State.ccHeld (s : State) : Bool := !s.boot.fuseLoaded || !s.boot.released

/-- CC_ATTACH (R204, R205, R182, R198): the connection begins in a power role, CC2 active if `flipped`. A source found by a DRP port with TRY_SRC=1 starts Try.SRC; there a sink found makes the port the source, and in TryWait.SNK a source found makes it the sink. Before release every CC pin is open: nothing attaches (R212, R441). DEDUCED, log entry 161. -/
def execCcAttach (port : Fin 12) (source flipped : Bool) (s : State) : Result :=
  let p := port.val
  let d := (s.port p).pd
  .next <|
    if s.ccHeld || !d.mayAttach source then s
    else match d.conn with
      | .unattached =>
        if !source && d.triesSrc then
          ((s.modPd p fun d => { d.unattached with conn := .trySrc, flipped := flipped, rp := d.cfg.rpLevel }).armPd p tDrpTry 100).armPd p tTryTimeout 600
        else s.attach p source flipped
      | .trySrc => if source then s.attach p source flipped else s
      | .tryWaitSnk => if source then s else s.attach p source flipped
      | _ => s

/-- The alarms PORT_LOCKOUT and PD_LADDER_END end when no port is in that condition. -/
def State.ladderAlarms (s : State) : State :=
  let any' (f : Pd → Bool) : Bool := (List.range 12).any fun q => f (s.port q).pd
  let s := if any' (·.lockout) then s else s.alarmEnd 19
  if any' (·.pdOff) then s else s.alarmEnd 20

/-- R214, R217: detach and PORT_PD_RESET REINIT clear the lockouts. -/
def State.clearLockouts (s : State) (p : Nat) : State :=
  (s.modPd p fun d => { d with lockout := false, pdOff := false, faultTimes := [], errTimes := [] }).ladderAlarms

/-- CC_DETACH (R206, R214, R217, R229): nothing is attached any more; the lockouts end. -/
def execCcDetach (port : Fin 12) (s : State) : Result :=
  let p := port.val
  .next <|
    match (s.port p).pd.conn with
    | .unattached => s.clearLockouts p
    | .trySrc => (s.modPd p Pd.unattached).clearLockouts p
    | .tryWaitSnk => (s.modPd p Pd.unattached).clearLockouts p
    | _ => (((s.disconnect p).wakeCfg p).portNotice p 0x31 []).clearLockouts p

/-! ## Messages (R207, R218 to R228) -/

/-- R207: an answer of Not_Supported; a 2.0 partner gets Reject, which revision 2.0 has instead. DEDUCED, log entry 133. -/
def State.notSupported (s : State) (p : Nat) : State := s.sendPd p 0 0 (if (s.port p).pd.pd3 then 16 else 4) []

/-- R207: a message not valid in the current state: Hard Reset in a power transition, else Soft_Reset. DEDUCED, log entry 134. -/
def State.protocolError (s : State) (p : Nat) : State :=
  let d := (s.port p).pd
  let moving := d.nego.isSome || (match d.swap with
    | some w => decide (w.phase ≠ .sent) && (decide (w.kind = 1) || decide (w.kind = 4))
    | none => false)
  if moving then s.hardReset p true else s.softReset p true .aborted

/-- Table 8-3: the supply at an object position of the offer, by voltage code: SPR from position 1, EPR from position 8. -/
def Pd.atPosition (d : Pd) (pos : Nat) : Option Nat :=
  let code := if 8 ≤ pos then pos - 4 else pos - 1
  if pos = 0 || (4 < pos && pos < 8) then none
  else if (d.supplies d.epr).contains code then some code else none

/-- R209, R213: a Request is accepted if it asks for an offered supply and at most its current; Accept starts tSrcTransition. -/
def State.evaluate (s : State) (p : Nat) (rdo : Nat) : State :=
  let d := (s.port p).pd
  let cur := bits rdo 19 10
  let ok := match d.atPosition (rdo / 2 ^ 28) with
    | some code => if cur ≤ d.offer code then some (code, cur, d.epr && decide (4 ≤ code)) else none
    | none => none
  let s := s.modPd p fun d => { (d.answered.disarm tSendSourceCap).disarm tNoResponse with pdSeen := true, caps := 0 }
  match ok with
  | some k => ((s.sendPd p 0 0 3 []).modPd p fun d => { d with nego := some (k.1, k.2.1, d.epr) }).armPd p tSrcTransition 30
  | none => if d.awaiting = 3 then s.hardReset p true else (s.sendPd p 0 0 4 []).modPd p fun d => { d with sinkTxNg := false }

/-- R210: the sink requests the 5 V supply, operating and maximum current SNK_CURRENT. -/
def State.askSupply (s : State) (p : Nat) : State :=
  let cur := (s.port p).pd.cfg.snkCurrent * 5
  let s := s.sendPd p 0 1 2 (toLe 4 (2 ^ 28 + 2 ^ 25 + cur * 1024 + cur))
  (s.modPd p fun d => { d with nego := some (0, cur, false) }).await p 1

/-- Table 8-7: whether a received swap is accepted. -/
def State.acceptsSwap (s : State) (p kind : Nat) : Bool :=
  let d := (s.port p).pd
  match kind with
  | 1 => d.cfg.prAccept && decide (d.cfg.portMode = 0) && !d.lockout && !d.epr
  | 2 => d.cfg.drAccept && (d.roles.dfp || !s.presented p)
  | _ => d.cfg.vconnAccept && !(d.roles.vconn && decide (d.mode = .jayth) && d.cable.active)

/-- R218, R221: a swap requested by the partner: Wait while the AX1224's own request is unanswered, a Hard Reset for DR_Swap in modal operation, else Table 8-7. -/
def State.swapRequest (s : State) (p kind : Nat) : State :=
  let d := (s.port p).pd
  let modal := decide (d.mode = .jayth) || d.dp.entered
  if kind = 2 && modal then s.hardReset p true
  else match d.swap with
    | some w =>
      if w.own && w.phase = .sent then
        if d.ams = 2 then
          -- the own request has not been sent yet: it is kept for later
          let s := s.modPd p fun d => { d.disarm tSinkTx with
            ams := 0, swap := none, parked := some { w with retryDue := some (s.after 100000000) } }
          if s.acceptsSwap p kind then
            ((s.sendPd p 0 0 3 []).modPd p fun d => { d with swap := some { kind := kind, before := d.roles } }).swapAccepted p
          else s.sendPd p 0 0 4 []
        else s.sendPd p 0 0 12 []
      else s.protocolError p
    | none =>
      if s.acceptsSwap p kind then
        ((s.sendPd p 0 0 3 []).modPd p fun d => { d with swap := some { kind := kind, before := d.roles } }).swapAccepted p
      else s.sendPd p 0 0 4 []

/-- A swap that the AX1224 asked for by itself and does not get lets discovery go on without SOP' (R219). DEDUCED, log entry 134. -/
def State.swapRefused (s : State) (p : Nat) (st : Status) : State :=
  let d := (s.port p).pd
  let auto := match d.swap with
    | some w => w.kind = 3 && w.cmd.isNone
    | none => false
  let s := (s.endSwap p st).modPd p fun d => { d.answered with sinkTxNg := d.sinkTxNg && auto }
  if auto then s.discoverSop p else s

/-- Accept. -/
def State.accepted (s : State) (p : Nat) : State :=
  let d := (s.port p).pd
  if d.awaiting = 2 then ((s.modPd p Pd.answered).endReset p .ok).afterSoftReset p
  else match d.swap with
    | some w => if w.own && w.phase = .sent && d.awaiting = 1 then s.swapAccepted p else s.protocolError p
    | none =>
      if d.nego.isSome && !d.roles.source && d.awaiting = 1 then (s.modPd p Pd.answered).armPd p tPsTransition 500
      else s.protocolError p

/-- Reject, or Not_Supported: of a swap Table 8-8, of the sink's Request nothing changes; Not_Supported also answers a VDM. -/
def State.rejected (s : State) (p : Nat) (ns : Bool) : State :=
  let d := (s.port p).pd
  let vdm := (d.timer tVdmResponse).isSome || (d.timer tVdmEntry).isSome
  match d.swap with
  | some w =>
    if w.own && w.phase = .sent && d.awaiting = 1 then
      if w.kind = 4 then s.errorRecovery p else s.swapRefused p .denied
    else s.protocolError p
  | none =>
    if d.nego.isSome && !d.roles.source && d.awaiting = 1 then s.modPd p fun d => { d.answered with nego := none }
    else if ns && vdm then s.stepFails p false
    else if ns then s else s.protocolError p

/-- Wait (R221): the request is sent again after 100 ms, at most three times. -/
def State.waited (s : State) (p : Nat) : State :=
  let d := (s.port p).pd
  match d.swap with
  | some w =>
    if w.own && w.phase = .sent && d.awaiting = 1 then
      if w.kind = 4 then s.errorRecovery p
      else if 3 ≤ w.waits then s.swapRefused p .busy
      else s.modPd p fun d => { d.answered with
        swap := none, sinkTxNg := false, parked := some { w with waits := w.waits + 1, retryDue := some (s.after 100000000) } }
    else s.protocolError p
  | none =>
    if d.nego.isSome && !d.roles.source && d.awaiting = 1 then
      (s.modPd p fun d => { d.answered with nego := none }).armPd p tSinkRequest 100
    else s.protocolError p

/-- PS_RDY: ends the sink's transition, or moves a swap on. -/
def State.psReady (s : State) (p : Nat) : State :=
  let d := (s.port p).pd
  match d.swap with
  | some w =>
    if w.phase = .sent then s.protocolError p
    else if w.kind = 3 then if d.roles.vconn then s.vconnSwapped p else s.protocolError p
    else if w.phase = .accepted && !d.roles.source then
      -- the old source has gone to vSafe0V: the AX1224 is the new source
      s.modPd p fun d =>
        let d := (d.disarm tPsSourceOff).sourceOn s.now
        { d with roles := { d.roles with source := true }, rp := d.cfg.rpLevel, swap := some { w with phase := .psRdyOld } }
    else if w.phase = .psRdyOld && !d.roles.source then
      (((s.modPd p fun d => d.disarm tPsSourceOn).swapDone p).armPd p tSinkWaitCap 465).sinkOn p
    else s.protocolError p
  | none =>
    match d.nego with
    | some k => if d.roles.source || d.awaiting ≠ 0 then s.protocolError p else (s.modPd p fun d => d.disarm tPsTransition).contractMade p k
    | none => s.protocolError p

/-- R207, Table 8-2: a control message; those of revision 3.x are not used with a 2.0 partner. -/
def State.pdControl (s : State) (p typ : Nat) : State :=
  let d := (s.port p).pd
  if 16 ≤ typ && !d.pd3 then s.notSupported p
  else match typ with
  | 1 => s
  | 3 => s.accepted p
  | 4 => s.rejected p false
  | 5 => s
  | 6 => s.psReady p
  | 7 => s.sendPd p 0 1 1 (d.capsBytes false)
  | 8 => s.sendPd p 0 1 4 d.sinkCaps
  | 9 => s.swapRequest p 2
  | 10 => s.swapRequest p 1
  | 11 => s.swapRequest p 3
  | 12 => s.waited p
  | 13 => s.softReset p false .aborted
  | 16 => s.rejected p true
  | 17 => s.sendExt p 1 (Config.pdContents p 33)
  | 18 => s.sendExt p 2 (Config.pdContents p 34)
  | 19 => s.protocolError p
  | 22 => s.sendExt p 15 (Config.pdContents p 47)
  | 23 => s.sendPd p 0 1 11 (Config.pdContents p 11)
  | 24 => s.sendPd p 0 1 12 (Config.pdContents p 12)
  | _ => s.notSupported p

/-- R211: EPR_Mode from the sink: Enter is acknowledged if the four conditions hold, else failed with its cause; Exit ends EPR. -/
def State.eprMode (s : State) (p : Nat) (o : Nat) : State :=
  let d := (s.port p).pd
  let fail (cause : Nat) : State := s.sendPd p 0 1 10 (toLe 4 (4 * 2 ^ 24 + cause * 2 ^ 16))
  match o / 2 ^ 24 with
  | 1 =>
    if !d.roles.source || d.epr then s.protocolError p
    else if !d.cfg.eprSrcEn then fail 5
    else if d.contract.map Prod.fst ≠ some 3 then fail 4
    else if !d.roles.vconn then fail 2
    else if !d.cable.epr || !d.cable.amps5 then fail 1
    else
      let s := (s.sendPd p 0 1 10 (toLe 4 (2 * 2 ^ 24))).sendPd p 0 1 10 (toLe 4 (3 * 2 ^ 24))
      ((s.modPd p fun d => { d with epr := true, eprDue := some (s.after 900000000) }).armPd p tSourceActivity 45).sendCaps p
  | 5 =>
    if !d.epr then s.protocolError p
    else if (d.contract.any fun k => decide (4 ≤ k.1)) then s.hardReset p true
    else (s.modPd p fun d => { d with epr := false, eprDue := none
                                      contract := d.contract.map fun k => (k.1, k.2.1, false) }).sendCaps p
  | _ => s.protocolError p

/-! ### Structured VDMs (R224, R225) -/

/-- R225: the answer to Discover Identity: ID Header, Cert Stat and Product VDOs. PRESUMED, log entry 132. -/
def identityVdos (p : Nat) : List Byte :=
  let xid := le (Config.pdContents p 64) 0 4
  toLe 4 (2 ^ 31 + 2 ^ 30 + 2 * 2 ^ 27 + 2 ^ 26 + 2 * 2 ^ 23 + 2 * 2 ^ 21 + svidJayth) ++ toLe 4 xid
    ++ toLe 4 (0x1224 * 65536 + Config.silicon.toNat)

/-- The command type of an answer: 1 ACK, 2 NAK. DEDUCED, log entry 133. -/
def State.answerVdm (s : State) (p sop h kind : Nat) (objs : List Byte) : State :=
  s.sendPd p sop 1 15 (toLe 4 (vdmHeader (h / 65536) (bits h 10 8) (h % 32) + 64 * kind) ++ objs)

/-- R225, R227, R203: a VDM command from the partner. -/
def State.vdmRequest (s : State) (p sop h : Nat) : State :=
  let d := (s.port p).pd
  let svid := h / 65536
  match h % 32 with
  | 1 => if svid = 0xFF00 then s.answerVdm p sop h 1 (identityVdos p) else s.answerVdm p sop h 2 []
  | 2 => if d.roles.dfp || svid ≠ 0xFF00 then s.answerVdm p sop h 2 [] else s.answerVdm p sop h 1 (toLe 4 0)
  | 5 =>
    if svid = svidDp && d.dp.entered && bits h 10 8 = d.dp.pos then (s.answerVdm p sop h 1 []).dpEnd p
    else s.answerVdm p sop h 2 []
  | 6 => if svid = svidJayth then s.protoErr p else s
  | _ => s.answerVdm p sop h 2 []

/-- The step of discovery awaited is asked on this SOP*, SVID and command. -/
def Disco.asks : Disco → Option (Nat × Nat × Nat)
  | .primeIdentity => some (1, 0xFF00, 1)
  | .primeSvids => some (1, 0xFF00, 2)
  | .primeModes => some (1, svidJayth, 3)
  | .primeDpModes => some (1, svidDp, 3)
  | .sopIdentity => some (0, 0xFF00, 1)
  | .sopSvids => some (0, 0xFF00, 2)
  | .sopModes => some (0, svidJayth, 3)
  | .sopDpModes => some (0, svidDp, 3)
  | .enterPrime => some (1, svidJayth, 4)
  | .enterSop => some (0, svidJayth, 4)
  | .dpEnter => some (0, svidDp, 4)
  | .dpStatus => some (0, svidDp, 16)
  | .dpConfig => some (0, svidDp, 17)
  | .idle => none
  | .done => none

/-- R207, R224, R225: a Vendor_Defined message: unstructured is not supported; a command is answered, an answer moves discovery on. -/
def State.pdVdm (s : State) (p sop : Nat) (objs : List Nat) : State :=
  let d := (s.port p).pd
  let h := objs.getD 0 0
  let waits := (d.timer tVdmResponse).isSome || (d.timer tVdmEntry).isSome
  if !bitOf h 15 then if sop = 0 then s.notSupported p else s
  else match bits h 7 6 with
    | 0 => if sop = 0 then s.vdmRequest p sop h else s
    | k =>
      if waits && d.disco.asks = some (sop, h / 65536, h % 32) then
        match k with
        | 1 => s.stepAck p (objs.drop 1)
        | 2 => s.stepFails p false
        | _ => s.stepBusy p
      else s

/-- R207, Table 8-2: BIST under a contract at 5 V: Carrier Mode for tBISTContMode, or Test Data until a Hard Reset; Shared Capacity Test is not supported. PRESUMED, log entry 160. -/
def State.bistIn (s : State) (p o : Nat) : State :=
  let five := ((s.port p).pd.contract.map Prod.fst) = some 0
  match o / 2 ^ 28 with
  | 5 => if five then (s.modPd p fun d => { d with bist := 1 }).armPd p tBistCont 45 else s
  | 8 => if five then s.modPd p fun d => { d with bist := 2 } else s
  | 9 => s.notSupported p
  | 10 => s.notSupported p
  | _ => s

/-- R207, Table 8-2: a data message on SOP; those of revision 3.x are not used with a 2.0 partner. -/
def State.pdData (s : State) (p typ : Nat) (objs : List Nat) : State :=
  let d := (s.port p).pd
  if 5 ≤ typ && typ ≠ 15 && !d.pd3 then s.notSupported p
  else match typ with
  | 1 =>
    if d.roles.source || d.swap.isSome then s.protocolError p
    else (s.modPd p fun d => { ((d.answered.disarm tSinkWaitCap).disarm tNoResponse).disarm tSinkRequest with pdSeen := true }).askSupply p
  | 2 => if d.roles.source && d.nego.isNone && d.swap.isNone && !d.epr then s.evaluate p (objs.getD 0 0) else s.protocolError p
  | 3 => s.bistIn p (objs.getD 0 0)
  | 4 => s
  | 6 => s
  | 9 => if d.roles.source && d.nego.isNone && d.swap.isNone && d.epr then s.evaluate p (objs.getD 0 0) else s.protocolError p
  | 10 => s.eprMode p (objs.getD 0 0)
  | 11 => s
  | 12 => s
  | 15 => s.pdVdm p 0 objs
  | _ => s.notSupported p

/-- R207, R211, Table 8-2: an extended message on SOP, whole; `body` is its data. -/
def State.pdExtended (s : State) (p typ : Nat) (body : List Byte) : State :=
  let d := (s.port p).pd
  match typ with
  | 1 => s
  | 2 => s
  | 6 => s.sendExt p 7 (Config.pdContents p 39)
  | 7 => s
  | 15 => s
  | 16 => match byteAt body 0 with
    | 1 => if d.roles.source then s.sendExt p 17 (d.capsBytes true) else s.notSupported p
    | 2 => s.sendExt p 18 (padTo 28 d.sinkCaps)
    | 3 => if d.epr then
        (s.modPd p fun d => { d with eprDue := some (s.after 900000000) }).sendExt p 16 [4, 0] else s.protocolError p
    | _ => s
  | 17 => s
  | 18 => s
  | _ => s.notSupported p

/-- R207, Table 8-6: an extended message, or a chunk of one: a chunk asked for is sent; chunks received are put together, the next one asked for. An unchunked message is not supported. PRESUMED, log entry 160. -/
def State.pdChunk (s : State) (p typ : Nat) (bytes : List Byte) : State :=
  let e := le bytes 0 2
  let size := e % 512
  let num := bits e 14 11
  let d := (s.port p).pd
  if !d.pd3 || !bitOf e 15 then s.notSupported p
  else if bitOf e 10 then
    match d.chunkOut with
    | some (t, data) =>
      if t ≠ typ || data.length ≤ 26 * num then s.protocolError p
      else
        let s := (s.modPd p fun d => d.disarm tChunkResponse).sendChunk p typ num data
        if 26 * (num + 1) < data.length then s.armPd p tChunkResponse 27 else s.modPd p fun d => { d with chunkOut := none }
    | none => s.protocolError p
  else
    let got := match d.chunkIn with
      | some (t, n, b) => if num ≠ 0 && t = typ && n = size then b else []
      | none => []
    let s := s.modPd p fun d => { d.disarm tChunkResponse with chunkIn := none }
    if got.length ≠ 26 * num then s.protocolError p
    else
      let data := got ++ (bytes.drop 2).take (min 26 (size - got.length))
      if size ≤ data.length then s.pdExtended p typ data
      else
        let s := s.modPd p fun d => { d with chunkIn := some (typ, size, data) }
        (s.sendPd p 0 2 typ (extHeader 0 (num + 1) true)).armPd p tChunkResponse 27

/-- PD_MESSAGE_RECEIVED (R207, R225): a message acknowledged on SOP, SOP' or SOP'', its two header bytes first. The level event +1 is raised and falls when the message has been handled. A port in a BIST mode handles none. -/
def execPdMessageReceived (port : Fin 12) (sop : Fin 3) (bytes : List Byte) (s : State) : Result :=
  let p := port.val
  let h := le bytes 0 2
  let typ := h % 32
  let n := bits h 14 12
  let objs := (List.range n).map fun i => le bytes (2 + 4 * i) 4
  let d := (s.port p).pd
  .next <|
    if d.pdOff || (d.conn ≠ .attachedSrc && d.conn ≠ .attachedSnk) then s
    else
      let s := (((s.level (evPd p 1) true).wakeCfg p).level (evPd p 1) false).modPd p fun d =>
        if sop.val = 0 then { d with pd3 := decide (2 ≤ bits h 7 6) } else d
      if d.bist ≠ 0 then s
      else if sop.val ≠ 0 then
        if typ = 15 && n ≠ 0 && !bitOf h 15 then s.pdVdm p sop.val objs else s
      else if bitOf h 15 then s.pdChunk p typ (bytes.drop 2)
      else if n = 0 then s.pdControl p typ
      else s.pdData p typ objs

/-- HARD_RESET_RECEIVED (R223, R229). -/
def execHardResetReceived (port : Fin 12) (s : State) : Result :=
  let p := port.val
  let d := (s.port p).pd
  .next <| if d.pdOff || (d.conn ≠ .attachedSrc && d.conn ≠ .attachedSnk) then s else s.hardReset p false

/-! ## Timers (R213 to R222) -/

/-- R208: new Source_Capabilities; a contract beyond them must be requested again within tSenderResponse. -/
def State.updateCaps (s : State) (p : Nat) : State :=
  let d := (s.port p).pd
  let beyond := match d.contract with
    | some (code, cur, _) => !(d.supplies d.epr).contains code || decide (d.offer code < cur)
    | none => false
  let s := s.sendCaps p
  if beyond then s.await p 3 else s

/-- R220: the sequence that waited for tSinkTx starts. -/
def State.amsStart (s : State) (p : Nat) : State :=
  let k := (s.port p).pd.ams
  let s := s.modPd p fun d => { d with ams := 0 }
  match k with
  | 1 => s.discover p
  | 2 => s.sendSwap p
  | 3 => s.updateCaps p
  | _ => s

/-- R213: at the end of tSrcTransition the new voltage is driven, or in a PR_Swap the source path opens. DESIGN CHOICE, log entry 131. -/
def State.transition (s : State) (p : Nat) : State :=
  s.modPd p fun d =>
    match d.nego with
    | some k =>
      { d with pins := { d.pins with vsel := k.1 }, transit := some (vselMv k.1, 0, s.after 250000000) }
    | none => if d.swap.isSome then d.sourceOff s.now else d

/-- R204: Try.SRC ends without a sink: TryWait.SNK. -/
def State.tryWait (s : State) (p : Nat) : State :=
  s.modPd p fun d => { (d.disarm tDrpTry).disarm tTryTimeout with conn := .tryWaitSnk }

/-- What the expiry of a timer does. DEDUCED, log entry 161. -/
def State.timerEnds (s : State) (p n : Nat) : State :=
  let d := (s.port p).pd
  if n = tVdmResponse || n = tVdmEntry then s.stepFails p true
  else if n = tVdmBusy then s.askAgain p
  else if n = tSendSourceCap then
    if d.caps < 50 then s.sendCaps p else s.toFallback p (if d.roles.dfp then 2 else 1)
  else if n = tSrcTransition then s.transition p
  else if n = tPsHardReset then (s.modPd p fun d => (d.sourceOff s.now).withVconn false).armPd p tSrcRecover 750
  else if n = tSrcRecover then
    if d.lockout then (s.disconnect p).portNotice p 0x31 []
    else s.modPd p fun d => (d.sourceOn s.now).withVconn d.roles.vconn
  else if n = tPsSourceOff || n = tPsSourceOn then s.errorRecovery p
  else if n = tSwapSourceStart then s.sendCaps p
  else if n = tSinkTx then s.amsStart p
  else if n = tNoResponse || n = tSinkWaitCap then s.ladderReset p
  else if n = tErrorRecovery then s.modPd p fun d => { d with conn := .unattached }
  else if n = tRetryLimit then s.endRetry p .timeout
  else if n = tPsTransition then s.hardReset p true
  else if n = tSourceActivity then
    -- Table 8-2: Ping is sent as source in EPR
    if d.epr && d.roles.source then (s.sendPd p 0 0 5 []).armPd p tSourceActivity 45 else s
  else if n = tBistCont then s.modPd p fun d => { d with bist := 0 }
  else if n = tChunkResponse then
    if d.chunkIn.isSome then (s.modPd p fun d => { d with chunkIn := none }).softReset p true .aborted
    else s.modPd p fun d => { d with chunkOut := none }
  else if n = tDrpTry then if d.conn = .trySrc && d.vbusMv < 800 then s.tryWait p else s
  else if n = tTryTimeout then if d.conn = .trySrc then s.tryWait p else s
  else if n = tSinkRequest then s.askSupply p
  else s

/-- PD_TIMER_EXPIRY (R215, Table 8-6): timer `timer` of the port expires; without effect if it does not run or is not due. -/
def execPdTimerExpiry (port : Fin 12) (timer : Nat) (s : State) : Result :=
  let p := port.val
  .next <|
    if s.due ((s.port p).pd.timer timer) then
      ((s.modPd p fun d => d.disarm timer).event (evPd p 2)).timerEnds p timer
    else s

/-- SENDER_RESPONSE_TIMEOUT (R216, R208): tSenderResponse has expired, or (`unacked`) a message was not acknowledged after nRetryCount retries: Soft_Reset; for the Soft_Reset itself, or a Request that R208 demands, Hard Reset. DEDUCED, log entry 133. -/
def execSenderResponseTimeout (port : Fin 12) (unacked : Bool) (s : State) : Result :=
  let p := port.val
  let d := (s.port p).pd
  .next <|
    if d.pdOff || (d.conn ≠ .attachedSrc && d.conn ≠ .attachedSnk) || !(unacked || s.due d.senderDue) then s
    else
      let s := s.event (evPd p 2)
      if d.awaiting = 2 then (s.endReset p .timeout).ladderReset p
      else if d.awaiting = 3 then s.hardReset p true
      else if (d.swap.any fun w => decide (w.kind = 4)) then s.errorRecovery p
      else s.softReset p true .timeout

/-- SWAP_RETRY_EXPIRY (R221): 100 ms after a Wait the AX1224 sends its own swap request again; while another swap is in progress it goes on waiting. -/
def execSwapRetryExpiry (port : Fin 12) (s : State) : Result :=
  let p := port.val
  let d := (s.port p).pd
  .next <|
    match d.parked with
    | some w =>
      if d.swap.isNone && s.due w.retryDue then
        (s.modPd p fun d => { d with parked := none, swap := some { w with retryDue := none, before := d.roles } }).ams p 2 fun s => s.sendSwap p
      else s
    | none => s

/-- EPR_KEEPALIVE_TIMEOUT (R211). -/
def execEprKeepaliveTimeout (port : Fin 12) (s : State) : Result :=
  let p := port.val
  let d := (s.port p).pd
  .next <| if d.epr && s.due d.eprDue then (s.event (evPd p 2)).hardReset p true else s

/-- FRS_SIGNAL (R222): armed as initial sink under an explicit contract: the 5 V path is enabled and FR_Swap sent. -/
def execFrsSignal (port : Fin 12) (s : State) : Result :=
  let p := port.val
  let d := (s.port p).pd
  .next <|
    if d.conn = .unattached || d.pdOff || !d.pd3 || !d.cfg.frsEn || d.roles.source || d.contract.isNone || (d.swap.any fun w => decide (w.kind = 4)) then s
    else
      let s := (s.endSwap p .aborted).modPd p fun d =>
        { d.answered with pins := { d.pins with frsEn := true, vsel := 0 }, swap := some { kind := 4, own := true, before := d.roles } }
      s.sendSwap p

/-! ## Power stage (R212 to R214) -/

/-- PSTG_FLT_LOW (R214, Table 8-5). -/
def execPstgFltLow (port : Fin 12) (s : State) : Result :=
  let p := port.val
  let d := (s.port p).pd
  .next <| if d.pins.srcEn then s.stageFault p 0 else if d.pins.snkEn then s.stageFault p 5 else s

/-- R213: a transition has ended: PS_RDY for a contract or a swap, or the first Source_Capabilities; at vSafe0V the discharge ends. -/
def State.transitEnd (s : State) (p target : Nat) : State :=
  let s := s.modPd p fun d => { d with transit := none }
  let d := (s.port p).pd
  if target = 0 then
    let s := s.modPd p fun d => { d with pins := { d.pins with disch := false } }
    match d.swap with
    | some w =>
      if w.kind = 1 && w.phase = .accepted && d.roles.source then
        let s := s.modPd p fun d => { d with roles := { d.roles with source := false }, swap := some { w with phase := .psRdyOld } }
        (s.sendPd p 0 0 6 []).armPd p tPsSourceOn 440
      else s
    | none => s
  else match d.nego with
    | some k => (s.sendPd p 0 0 6 []).contractMade p k
    | none =>
      if (d.swap.any fun w => decide (w.phase = .psRdyOld)) then ((s.sendPd p 0 0 6 []).swapDone p).armPd p tSwapSourceStart 25
      else if d.pdOff || d.roles.source = false then s
      else s.sendCaps p

/-- The samples of a transition lie within ±5 % of the new voltage, or below 0.8 V. -/
def inWindow (target mv : Nat) : Bool :=
  if target = 0 then decide (mv < 800) else decide (20 * mv ≤ 21 * target) && decide (19 * target ≤ 20 * mv)

/-- VBUS_SAMPLE (R213, R214): two consecutive samples in the window end a transition; outside one, a source under a contract is checked for over-current and for voltage. DESIGN CHOICE, log entry 131. -/
def execVbusSample (port : Fin 12) (mv : Nat) (ma : Int) (s : State) : Result :=
  let p := port.val
  let s := s.modPd p fun d => { d with vbusMv := mv, ibusMa := ma }
  let d := (s.port p).pd
  .next <|
    match d.transit with
    | some (target, n, fin) =>
      if inWindow target mv then
        if n = 0 then s.modPd p fun d => { d with transit := some (target, 1, fin) } else s.transitEnd p target
      else s.modPd p fun d => { d with transit := some (target, 0, fin) }
    | none =>
      match d.contract with
      | some (code, cur, _) =>
        if d.pins.srcEn && decide (((11 * cur : Nat) : Int) < ma) then s.stageFault p 1
        else if d.pins.srcEn && (decide (11 * vselMv code < 10 * mv) || decide (10 * mv < 9 * vselMv code)) then s.stageFault p 2
        else s
      | none => s

/-- TRANSITION_WINDOW_TIMEOUT (R213, R214): 250 ms have passed without the window. -/
def execTransitionWindowTimeout (port : Fin 12) (s : State) : Result :=
  let p := port.val
  .next <|
    match (s.port p).pd.transit with
    | some (target, _, fin) => if target ≠ 0 && s.due (some fin) then s.stageFault p 3 else s
    | none => s

/-- SOURCE_CAPS_UPDATE (R208): within 100 ms of a change to the stage's limits the source sends new Source_Capabilities. -/
def execSourceCapsUpdate (port : Fin 12) (s : State) : Result :=
  let p := port.val
  let d := (s.port p).pd
  .next <|
    if d.capsDue.isSome && d.roles.source && d.contract.isSome && d.nego.isNone && d.swap.isNone && d.ams = 0 then
      (s.modPd p fun d => { d with capsDue := none }).ams p 3 fun s => s.updateCaps p
    else s

/-! ## Commands (R183, R186, R208, R219, R230, R272) -/

/-- R415: the PD settings in force, as the PORT_PD_CFG payload bytes 8 to 22. -/
def PdCfg.bytes (v : PdCfg) : List Byte :=
  [v.portMode, flag v.trySrc, v.rpLevel, v.stageVmax, v.stageImax, v.srcPdp, flag v.eprSrcEn, flag v.snkLoad, v.snkCurrent, flag v.frsEn
   , v.frsCurrent, flag v.prAccept, flag v.vconnAccept, flag v.drAccept, v.tSenderResp].map (BitVec.ofNat 8)

/-- Table 8-3: settings from field bytes. -/
def pdCfgOf (b : List Byte) : PdCfg :=
  { portMode := byteAt b 0, trySrc := bitOf (byteAt b 1) 0, rpLevel := byteAt b 2, stageVmax := byteAt b 3, stageImax := byteAt b 4
    srcPdp := byteAt b 5, eprSrcEn := bitOf (byteAt b 6) 0, snkLoad := bitOf (byteAt b 7) 0, snkCurrent := byteAt b 8
    frsEn := bitOf (byteAt b 9) 0, frsCurrent := byteAt b 10, prAccept := bitOf (byteAt b 11) 0, vconnAccept := bitOf (byteAt b 12) 0
    drAccept := bitOf (byteAt b 13) 0, tSenderResp := byteAt b 14 }

/-- The fields whose MASK bit is set replace those in force. -/
def PdCfg.after (v : PdCfg) (m : Nat) (fields : List Byte) : PdCfg :=
  let old := v.bytes
  pdCfgOf ((List.range 15).map fun k => if bitOf m k then fields.getD k 0 else old.getD k 0)

/-- Table 8-3: lowest and highest value of each field. DEDUCED, log entry 49. -/
def pdCfgRanges : List (Nat × Nat) :=
  [(0, 2), (0, 1), (0, 2), (0, 6), (0, 1), (15, 240), (0, 1), (0, 1), (0, 60), (0, 1), (1, 3), (0, 1), (0, 1), (0, 1), (0, 6)]

def infoPortPdCfg : CmdInfo :=
  { opcode := 0x0301, fromO := true, fromM := true, fromI := true, locked := true, journal := true, len := 23 }

/-- What the checks of PORT_PD_CFG find (R208, Table 8-3). -/
def checksPortPdCfg (c : Cmd) (s : State) : Checks :=
  let b := c.payload
  let p := byteAt b 0
  let m := le b 4 2
  let v := (s.port p).pd.cfg
  let n := v.after m (b.drop 8)
  let fields := (List.range 15).map fun k =>
    (⟨8 + k, 1, fun x => !bitOf m k || (decide ((pdCfgRanges.getD k (0, 0)).1 ≤ x) && decide (x ≤ (pdCfgRanges.getD k (0, 0)).2))⟩ : Field)
  let value (v : PdCfg) : List Byte := toLe 1 p ++ [0, 0, 0] ++ toLe 2 0x7FFF ++ [0, 0] ++ v.bytes
  { bad := firstBad ([rangeField 0 1 0 11, rangeField 4 2 0 0x7FFF] ++ fields) b
    object := p, old := value v, new := value n }

/-- PORT_PD_CFG (R208, Table 8-3). -/
def execPortPdCfg (c : Cmd) (s : State) : Result :=
  let b := c.payload
  let p := byteAt b 0
  let m := le b 4 2
  let v := (s.port p).pd.cfg
  let n := v.after m (b.drop 8)
  .next <| s.command infoPortPdCfg c (checksPortPdCfg c s) fun s =>
      let s := s.modPd p fun d =>
        let source := d.roles.source && d.contract.isSome && (bitOf m 3 || bitOf m 4 || bitOf m 6)
        { d with cfg := n, capsDue := if source then some (s.after 100000000) else d.capsDue }
      s.ok c 0x0301 []

def infoPortPdSwap : CmdInfo := { opcode := 0x0302, fromO := true, fromM := true, len := 2 }

/-- What the checks of PORT_PD_SWAP find (R219, Table 8-8). DEDUCED, log entry 134. -/
def checksPortPdSwap (c : Cmd) (s : State) : Checks :=
  let p := byteAt c.payload 0
  let kind := byteAt c.payload 1
  let d := (s.port p).pd
  { bad := firstBad [rangeField 0 1 0 11, rangeField 1 1 1 3] c.payload
    refuse := firstSome [
      failIf (d.contract.isNone || d.pdOff) .denied 4,
      failIf (decide (kind = 2) && (decide (d.mode = .jayth) || d.dp.entered)) .denied 4,
      failIf (decide (kind = 1) && d.epr) .denied 4,
      failIf (d.swap.isSome || d.parked.isSome) .busy 0] }

/-- PORT_PD_SWAP (R219, Table 8-8): DENIED for DR in modal operation, for PR under EPR, and on a port without an explicit contract; it completes when the swap ends. -/
def execPortPdSwap (c : Cmd) (s : State) : Result :=
  let p := byteAt c.payload 0
  let kind := byteAt c.payload 1
  .next <| s.command infoPortPdSwap c (checksPortPdSwap c s) fun s =>
      (s.modPd p fun d => { d with swap := some { kind := kind, own := true, before := d.roles, cmd := some c } }).ams p 2 fun s => s.sendSwap p

def infoPortPdReset : CmdInfo := { opcode := 0x0303, fromO := true, fromM := true, len := 2 }

/-- What the checks of PORT_PD_RESET find (R230). DEDUCED, log entry 134. -/
def checksPortPdReset (c : Cmd) (s : State) : Checks :=
  let p := byteAt c.payload 0
  let a := byteAt c.payload 1
  let d := (s.port p).pd
  let attached := decide (d.conn = .attachedSrc) || decide (d.conn = .attachedSnk)
  { bad := firstBad [rangeField 0 1 0 11, rangeField 1 1 1 4] c.payload
    refuse := failIf (decide (a ≠ 4) && (!attached || (d.pdOff && decide (a ≠ 3)))) .denied 4 }

/-- PORT_PD_RESET (R230): SOFT, HARD, ERROR_RECOVERY, REINIT; DENIED on a port with nothing attached, REINIT excepted. -/
def execPortPdReset (c : Cmd) (s : State) : Result :=
  let p := byteAt c.payload 0
  let a := byteAt c.payload 1
  .next <| s.command infoPortPdReset c (checksPortPdReset c s) fun s =>
      let s := s.endReset p .aborted
      let wait (s : State) : State := s.modPd p fun d => { d with resetCmd := some c }
      match a with
      | 1 => (wait (s.softReset p true .aborted))
      | 2 => (wait s).hardReset p true
      | 3 => (s.errorRecovery p).ok c 0x0303 []
      | _ =>
        let s := ((s.endSwap p .aborted).clearLockouts p).modPd p fun d =>
          { d.answered with nego := none, timers := [], ams := 0, sinkTxNg := false, hardResets := 0, caps := 0, busyTries := 0, idTries := 0 }
        if (s.port p).pd.contract.isSome then wait (s.softReset p true .aborted)
        else (s.disconnect p).ok c 0x0303 []

def infoPortPdQuery : CmdInfo := { opcode := 0x0304, fromS := true, fromM := true, fromD := true, len := 1 }

/-- Table 2-3: bytes 16 to 27 of a TB. -/
def PeerId.bytes (x : PeerId) : List Byte :=
  toLe 2 x.vendor.toNat ++ toLe 2 x.product.toNat ++ toLe 1 x.rev.toNat ++ toLe 1 x.llver.toNat ++ toLe 6 x.serial.toNat

/-- What the checks of PORT_PD_QUERY find (R272, Table 10-9). -/
def checksPortPdQuery (c : Cmd) : Checks :=
  { bad := firstBad [rangeField 0 1 0 11] c.payload }

/-- PORT_PD_QUERY (R272, Table 10-9). -/
def execPortPdQuery (c : Cmd) (s : State) : Result :=
  let p := byteAt c.payload 0
  let x := s.port p
  let d := x.pd
  let k := d.contract.getD (0, 0, false)
  let flags := flag d.roles.source + 2 * flag d.roles.dfp + 4 * flag d.roles.vconn + 8 * flag d.flipped + 16 * flag d.epr
    + 32 * flag d.lockout + 64 * flag d.pdOff
  let result := toLe 1 flags ++ toLe 1 k.1 ++ toLe 2 k.2.1 ++ toLe 1 d.mode.ctorIdx ++ toLe 1 x.train.state.ctorIdx
    ++ toLe 1 x.train.rateSel.code ++ toLe 1 (x.outSet.toNat + 16 * x.exclRec.toNat) ++ toLe 4 x.train.rtt
    ++ (x.train.peer.getD {}).bytes
  .next <| s.command infoPortPdQuery c (checksPortPdQuery c) fun s => s.ok c 0x0304 result

/-- R415: the fallback settings in force. -/
def FbCfg.value (v : FbCfg) (p : Nat) : List Byte :=
  toLe 1 p ++ toLe 1 (flag v.jaythEn + 2 * flag v.hostEn + 4 * flag v.ssEn + 8 * flag v.devEn + 16 * flag v.dpaltEn + 32 * flag v.prefD)
    ++ toLe 1 v.dpaltSrc.toNat

def fbCfgOf (f src : Nat) : FbCfg :=
  { jaythEn := bitOf f 0, hostEn := bitOf f 1, ssEn := bitOf f 2, devEn := bitOf f 3, dpaltEn := bitOf f 4, prefD := bitOf f 5
    dpaltSrc := BitVec.ofNat 5 src }

def infoPortFallbackCfg : CmdInfo :=
  { opcode := 0x0310, fromO := true, fromM := true, fromI := true, locked := true, journal := true, len := 3 }

/-- What the checks of PORT_FALLBACK_CFG find (R183). -/
def checksPortFallbackCfg (c : Cmd) (s : State) : Checks :=
  let p := byteAt c.payload 0
  let n := fbCfgOf (byteAt c.payload 1) (byteAt c.payload 2)
  { bad := firstBad [rangeField 0 1 0 11, rangeField 1 1 0 63, rangeField 2 1 0 31] c.payload
    object := p, old := (s.port p).pd.fb.value p, new := n.value p }

/-- PORT_FALLBACK_CFG (R183): it applies at the next fallback entry. -/
def execPortFallbackCfg (c : Cmd) (s : State) : Result :=
  let p := byteAt c.payload 0
  let n := fbCfgOf (byteAt c.payload 1) (byteAt c.payload 2)
  .next <| s.command infoPortFallbackCfg c (checksPortFallbackCfg c s) fun s => (s.modPd p fun d => { d with fb := n }).ok c 0x0310 []

def infoPortJaythRetry : CmdInfo := { opcode := 0x0311, fromO := true, fromM := true, len := 1 }

/-- What the checks of PORT_JAYTH_RETRY find (R186, R228). DEDUCED, log entry 134. -/
def checksPortJaythRetry (c : Cmd) (s : State) : Checks :=
  let p := byteAt c.payload 0
  let d := (s.port p).pd
  { bad := firstBad [rangeField 0 1 0 11] c.payload
    refuse := firstSome [s.needs (portDomain p), failIf (decide (d.conn ≠ .attachedSrc) && decide (d.conn ≠ .attachedSnk)) .denied 4,
      failIf (!d.roles.dfp) .denied 4, failIf d.retryCmd.isSome .busy 0] }

/-- PORT_JAYTH_RETRY (R186, R228): the modes are left with Exit Mode, every use ends, and discovery runs again; the command completes when it has ended. DENIED as UFP, and with nothing attached. -/
def execPortJaythRetry (c : Cmd) (s : State) : Result :=
  let p := byteAt c.payload 0
  let d := (s.port p).pd
  .next <| s.command infoPortJaythRetry c (checksPortJaythRetry c s) fun s =>
      let s := if d.mode = .jayth then s.sendVdm p 0 svidJayth 1 5 [] else s
      let s := ((s.dpExit p).endUses p).armPd p tRetryLimit 2000
      let s := s.modPd p fun d => { (d.disarm tVdmResponse).disarm tVdmEntry with retryCmd := some c }
      let d := (s.port p).pd
      let s := s.refall p
      if d.pdOff then (s.fallback p 2).endRetry p .ok
      else if !d.fb.jaythEn && !d.fb.dpaltEn then s.endRetry p .ok
      else if d.contract.isSome then (s.modPd p fun d => { d with disco := .idle }).startDiscovery p
      else
        -- as after a fresh attach: discovery follows the contract, or the want of an answer
        let s := s.modPd p fun d => { d with disco := .idle, caps := 0 }
        if d.roles.source then s.sendCaps p else s.armPd p tSinkWaitCap 465

end Sys2Proof.Machine
end

