-- ==== Sys2Proof/Machine/Update.lean ====
section
/-! DEFINITION. Sys2Proof/Machine/Update.lean: live firmware update (R445 to R448, R453). -/

namespace Sys2Proof.Machine

/-- R446, R448: an update is in progress. -/
def State.inUpdate (s : State) : Bool := s.loadsNew || decide (s.boot.phase = .rollingBack)

/-! ## FW_STAGE (R445, R463) -/

/-- R463: from origin M, the slot that the address field names. DEDUCED, log entry 66. -/
def stageSlot (c : Cmd) : Option Nat :=
  if c.route = .mgmt then
    if le c.payload 8 8 = 2 ^ 63 then some 0 else if le c.payload 8 8 = 2 ^ 63 + 1 then some 1 else none
  else none

/-- R445: the slot that holds the same image. -/
def State.sameSlot (s : State) (m : List Byte) : Option Nat := [0, 1].find? fun k => decide (s.slotImage k = m)

def infoFwStage : CmdInfo := { opcode := 0x0901, fromO := true, fromM := true, journal := true, len := 20 }

/-- What the checks of FW_STAGE find (R445, R453, R463). DEDUCED, log entry 66. -/
def checksFwStage (c : Cmd) (s : State) : Checks :=
  let p := c.payload
  let fromM := decide (c.route = .mgmt)
  let data := match c.data with
    | .ok b => b
    | .err _ => []
  let m := match stageSlot c with
    | some k => s.slotImage k
    | none => (data.take (le p 16 4)).take (imageLen data)
  let slot := if fromM then stageSlot c else s.sameSlot m
  let job := (s.boot.imageJob.filter fun j => !j.select).map ImageJob.slot
  { bad := firstBad [⟨8, 8, fun v => !fromM || decide (v = 2 ^ 63) || decide (v = 2 ^ 63 + 1)⟩, anyField 16 4] p
    refuse := firstSome [failIf s.inUpdate .busy 0, failIf c.accessFailed .mediaError 0,
      failIf (decide (imageCheck s.boot.keyHash false m ≠ 1)) .denied 4, failIf slot.isNone .denied 4,
      failIf (job.isSome && decide (job = slot)) .denied 4, failIf (decide (s.boot.running.toNat < imageCompat m)) .denied 4]
    old := s.boot.stageValue, new := p.take 20 }

/-- FW_STAGE (R445, R453, R463): the image comes from host memory, from M from a slot; it is checked and its firmware loaded. -/
def execFwStage (c : Cmd) (s : State) : Result :=
  let p := c.payload
  let fromM := decide (c.route = .mgmt)
  let data := match c.data with
    | .ok b => b
    | .err _ => []
  let m := match stageSlot c with
    | some k => s.slotImage k
    | none => (data.take (le p 16 4)).take (imageLen data)
  let slot := if fromM then stageSlot c else s.sameSlot m
  .next <| s.command infoFwStage c (checksFwStage c s) fun s =>
      (s.modBoot fun b =>
        { b with staged := BitVec.ofNat 32 (imageVersion m), stageValue := p.take 20, stagedSlot := slot, phase := .staged }).ok
          c 0x0901 (toLe 4 (imageVersion m))

/-! ## FW_ACTIVATE and the phases (R446 to R448) -/

def infoFwActivate : CmdInfo := { opcode := 0x0902, fromO := true, fromM := true, journal := true, len := 4 }

/-- Table 18-6, phase 2: the spare starts the other code and self-tests. DESIGN CHOICE, log entry 67. -/
def State.reload (s : State) (core : Nat) (new : Bool) : State :=
  s.modCore core fun x => { x with state := .test, newCode := new }

/-- What the checks of FW_ACTIVATE find (R446). -/
def checksFwActivate (c : Cmd) (s : State) : Checks :=
  let v := le c.payload 0 4
  { bad := firstBad [anyField 0 4] c.payload
    refuse := firstSome [failIf (decide (s.boot.staged = 0) || decide (v ≠ s.boot.staged.toNat)) .denied 4,
      failIf (s.inUpdate || s.spare.isNone || s.power.req || s.boot.imageJob.isSome) .busy 0]
    old := toLe 4 s.boot.running.toNat, new := c.payload.take 4 }

/-- FW_ACTIVATE (R446): it completes at the end of the update. -/
def execFwActivate (c : Cmd) (s : State) : Result :=
  .next <| s.command infoFwActivate c (checksFwActivate c s) fun s =>
      let s := s.modBoot fun b => { b with phase := .rotatingIn, activate := some c }
      match s.spare with
      | some k => s.reload k true
      | none => s

/-- Table 18-6: phase 2 ends when four slots run the new code. -/
def State.fenceReached (s : State) : State :=
  if s.boot.phase = .rotatingIn && 4 ≤ s.newSlots then s.modBoot fun b => { b with phase := .fence } else s

/-- One rotation that brings `new` code to a slot of the other code: by the spare of that code; a spare of the other code loads it first. -/
def State.updateRotate (s : State) (new : Bool) : State :=
  match s.spare with
  | none => s
  | some sp =>
    match s.oldest fun c => c.newCode != new with
    | none => if (s.core sp).newCode = new then s else s.reload sp new
    | some out => if (s.core sp).newCode = new then s.rotate out sp else s.reload sp new

/-- UPDATE_ROTATION (R446, R448, R453): not during a hold; a rollback rotates once every class is back. -/
def execUpdateRotation (s : State) : Result :=
  if s.power.hold || !s.awake then .next s
  else match s.boot.phase with
    | .rotatingIn => .next (if 4 ≤ s.newSlots then s else s.updateRotate true).fenceReached
    | .rotatingOut => .next (s.updateRotate true).updateEnd
    | .rollingBack =>
      .next (if s.cluster.moved.isEmpty && s.cluster.paused.isNone then (s.updateRotate false).updateEnd else s)
    | _ => .next s

/-- R447 step 2: an item or handler of the class runs. -/
def State.classRuns (s : State) (cls : BitVec 16) : Bool :=
  s.cluster.cores.any fun c => (c.item.any fun it => decide (it.cls = cls)) || c.handlers.any fun h => decide ((s.src h).cls = cls)

/-- CLASS_MOVE (R447, R453): the dispatch of the next class stops; once its items have ended and the takeover routine has read its state, the class moves. `last` tells that no class is left. -/
def execClassMove (cls : BitVec 16) (last : Bool) (s : State) : Result :=
  if s.boot.phase ≠ .fence || s.power.hold then .next s
  else match s.cluster.paused with
    | none =>
      let next := match s.cluster.moved with
        | h :: _ => decide (h.toNat < cls.toNat)
        | [] => true
      .next (if next then s.modCluster fun c => { c with paused := some cls } else s)
    | some x =>
      if x ≠ cls || s.classRuns cls then .next s
      else
        let s := s.modCluster fun c => { c with paused := none, moved := cls :: c.moved }
        .next (if last then s.modBoot fun b => { b with phase := .rotatingOut } else s)

/-- UPDATE_ROLLBACK (R448, R453): a takeover routine reports failure, or no core became SPARE within 1 s of a fault; and, in a rollback, the classes return in reverse order, one at a time. -/
def execUpdateRollback (takeover : Bool) (s : State) : Result :=
  if takeover && s.boot.phase = .fence && s.cluster.paused.isSome then .next (s.startRollback 2)
  else if s.loadsNew && s.spare.isNone && s.due s.boot.spareDue then .next (s.startRollback 1)
  else if s.boot.phase ≠ .rollingBack || s.power.hold then .next s
  else match s.cluster.paused, s.cluster.moved with
    | none, h :: _ => .next (s.modCluster fun c => { c with paused := some h })
    | some x, h :: rest =>
      .next (if x = h && !s.classRuns x then s.modCluster fun c => { c with paused := none, moved := rest } else s)
    | _, [] => .next s

end Sys2Proof.Machine
end

