-- ==== Sys2Proof/Machine/Run.lean ====
section
/-! DEFINITION. Sys2Proof/Machine/Run.lean: commands run by their opcode: those that waited for the journal (R390, R419), and those of the configuration image at start-up (R438 to R440). -/

namespace Sys2Proof.Machine

/-- Table 10-2: the command of an opcode; an opcode that the table does not hold has no effect here (R267). -/
def runOpcode (op : Nat) (c : Cmd) (s : State) : Result :=
  match op with
  | 0x0101 => execDevIdentify c s
  | 0x0102 => execDevConfigLock c s
  | 0x0103 => execMarlPoolCfg c s
  | 0x0104 => execMarlQueueCfg c s
  | 0x0105 => execMarlAgeCfg c s
  | 0x0106 => execCounterRead c s
  | 0x0107 => execSnapshot c s
  | 0x0201 => execTunCreate c s
  | 0x0202 => execTunDestroy c s
  | 0x0203 => execTunModify c s
  | 0x0204 => execTunQuery c s
  | 0x0205 => execTunAdopt c s
  | 0x0206 => execTunAllotCfg c s
  | 0x0301 => execPortPdCfg c s
  | 0x0302 => execPortPdSwap c s
  | 0x0303 => execPortPdReset c s
  | 0x0304 => execPortPdQuery c s
  | 0x0305 => execPortLinkCtrl c s
  | 0x0306 => execPortNotifyBind c s
  | 0x0307 => execPortLinkCfg c s
  | 0x0310 => execPortFallbackCfg c s
  | 0x0311 => execPortJaythRetry c s
  | 0x0401 => execUsbRootBind c s
  | 0x0402 => execUsbRootCtrl c s
  | 0x0403 => execUsbSlotAlloc c s
  | 0x0404 => execUsbSlotFree c s
  | 0x0405 => execUsbEpConfig c s
  | 0x0406 => execUsbEpReset c s
  | 0x0407 => execUsbEpStop c s
  | 0x0408 => execUsbEpSetDeq c s
  | 0x0409 => execUsbRootQuery c s
  | 0x0410 => execUsbDevBind c s
  | 0x0411 => execUsbDevUnbind c s
  | 0x0412 => execUsbDevCtrl c s
  | 0x0501 => execDmaChAlloc c s
  | 0x0502 => execDmaChConfig c s
  | 0x0503 => execDmaChCtrl c s
  | 0x0504 => execDmaChFree c s
  | 0x0505 => execDmaTimerCfg c s
  | 0x0506 => execDmaChQuery c s
  | 0x0601 => execQpCreate c s
  | 0x0602 => execQpModify c s
  | 0x0603 => execQpReset c s
  | 0x0604 => execQpDestroy c s
  | 0x0605 => execQpQuery c s
  | 0x0606 => execSliceEnable c s
  | 0x0607 => execSliceReset c s
  | 0x0608 => execSliceDisable c s
  | 0x0609 => execSliceFreeze c s
  | 0x060A => execSliceSave c s
  | 0x060B => execSliceRestore c s
  | 0x060C => execSliceDirtyLog c s
  | 0x060D => execSliceQuery c s
  | 0x0701 => execPmLevel c s
  | 0x0702 => execPmDomain c s
  | 0x0703 => execPmWakeCfg c s
  | 0x0704 => execPmQuery c s
  | 0x0801 => execJrnlRead c s
  | 0x0802 => execSiltDrainBind c s
  | 0x0803 => execTraceCfg c s
  | 0x0804 => execAlarmRead c s
  | 0x0805 => execAlarmAck c s
  | 0x0806 => execAlarmCfg c s
  | 0x0807 => execJrnlPersistCfg c s
  | 0x0901 => execFwStage c s
  | 0x0902 => execFwActivate c s
  | 0x0903 => execImageWrite c s
  | 0x0904 => execImageSelect c s
  | 0x0905 => execMarlBankRetire c s
  | 0x0906 => execMarlBankReadmit c s
  | 0x0907 => execMemEccCfg c s
  | 0x0908 => execMemSoftRepair c s
  | 0x0909 => execFuseProgram c s
  | 0x090A => execMemFlipMask c s
  | 0x090B => execLoamHandover c s
  | 0x0A01 => execTbSet c s
  | 0x0A02 => execTbSlew c s
  | 0x0A03 => execRefclkSelect c s
  | 0x0A04 => execTbQuery c s
  | 0x0A10 => execNetPortCfg c s
  | 0x0A11 => execPtpCfg c s
  | 0x0B01 => execDpiCfg c s
  | 0x0B02 => execDpiQuery c s
  | 0x0B10 => execDpaltBind c s
  | 0x0B11 => execDpaltUnbind c s
  | _ => .next s

/-- The next state of an outcome; one that is none leaves the state. -/
def nextOr (r : Result) (s : State) : State :=
  match r with
  | .next t => t
  | _ => s

/-! ## Deferred commits (R390, R419) -/

/-- R419: the change that waited with its entry. DESIGN CHOICE, log entry 37. -/
def State.applyAct (s : State) : Act → State
  | .none => s
  | .level a l => (s.startLevel a l none).commandVcore
  | .teardown tid =>
    if (s.tunnel tid).state = .free then s else s.teardownNow tid
  | .revert tid => if (s.tunnel tid).state = .opening then s.freeEntry tid false else s
  | .bankRetire b => if s.mayAutoRetire b then s.retireBank b none else s
  | .bankRetired b => if (s.bank b).state = .draining then s.bankRetiredNow b else s
  | .softRepair r b row => match s.freeSpare r b with
    | some spare => s.startRepair r b row spare false none
    | none => s
  | .dispRaise tid f => if (s.tunnel tid).rsvNext < f then s else s.dispRaised tid f
  | .dpBind p src => if s.dpBindable p src then (s.dpBindNow p src .plan).1 else s
  | .planApply i => s.planNow i
  | .close tid => s.closeOwned tid

/-- R419: the change that waits can still be made; else it is not entered in the journal. -/
def State.actLives (s : State) : Act → Bool
  | .teardown tid => decide ((s.tunnel tid).state ≠ .free)
  | .revert tid => decide ((s.tunnel tid).state = .opening)
  | .bankRetire b => s.mayAutoRetire b
  | .bankRetired b => decide ((s.bank b).state = .draining)
  | .dispRaise tid f => decide (f ≤ (s.tunnel tid).rsvNext)
  | .dpBind p src => s.dpBindable p src
  | _ => true

/-- A change that can no longer be made is dropped; an automatic retire is latched again while another bank drains (R147). -/
def State.actGone (s : State) : Act → State
  | .bankRetire b => s.autoRetire b
  | _ => s

/-- JOURNAL_DEFERRED_COMMIT (R390, R419, R453): the records that wait, then, outside a hold, the first commit that waits and has room. A command that has since been aborted is gone. DEDUCED, log entry 9; DEDUCED, log entry 71. -/
def execJournalDeferredCommit (s : State) : Result :=
  let s := s.flushRecords 64
  match s.silt.deferred with
  | [] => .next s
  | d :: rest =>
    let s' := s.modSilt fun x => { x with deferred := rest }
    if s.power.hold then .next s
    else match d.cmd with
      | some (op, c) =>
        let waits := match c.route with
          | .image _ => true
          | .fw => true
          | _ => false
        if !s.isRunning c op then .next s'
        else if waits && !s.journalRoom false then .next s
        else runOpcode op { c with late := true } s'
      | none =>
        if !s.actLives d.act then .next (s'.actGone d.act)
        else if s.journalOpen && s.journalRoom false then .next ((s'.commit d.req).applyAct d.act) else .next s

/-! ## Start-up (R118, R307, R420, R438 to R441) -/

/-- R438: a command of the image is still in execution. -/
def State.imageBusy (s : State) : Bool :=
  s.hosts.running.any fun o => match o.route with
    | .image (some _) => true
    | _ => false

/-- R438: the next chain of COMMANDS runs, with origin I. DEDUCED, log entry 73. -/
def State.runChain (s : State) : State :=
  let at' := s.boot.cmdAt
  let es := (s.boot.commands.drop at').take 33
  match readQueue es with
  | .chain e irq n clean =>
    let op := entryOpcode e
    let c : Cmd := { route := .image (some at'), tag := entryTag e, irq := irq, payload := joinPayload es n }
    let s := (s.modBoot fun b => { b with cmdAt := at' + n }).startCmd c op
    if !clean || !definedOpcodes.contains op then s.complete c op .malformed 0 []
    else nextOr (runOpcode op c s) s
  | _ => s.modBoot fun b => { b with cmdAt := b.commands.length }

/-- R438: the chains run one at a time; one that has not completed holds up the rest. DEDUCED, log entry 73. -/
def State.runCommands (s : State) : Nat → State
  | 0 => s
  | n + 1 => if s.imageBusy || s.boot.commands.length ≤ s.boot.cmdAt then s else s.runChain.runCommands n

/-- R118, Table 18-5 step 9: the START entries of the plan, applied as creates. -/
def State.planStart (s : State) : State :=
  (s.plan.filter fun e => decide (e.trigger = 0)).foldl (fun s e => nextOr (execTunCreate e.cmd s) s) s

/-- Table 18-5 step 10, R307, R420: release. DESIGN CHOICE, log entry 57. -/
def State.release (s : State) : State :=
  let s := s.modBoot fun b => { b with stage := .released, released := true }
  let enable (s : State) (h : Nat) : State := s.modSlice h 0 fun x => { x with state := .active, vecFirst := 0, vecCount := 64 }
  let s := enable (enable s 0) 1
  if s.noSink then s.alarmOccur 24 0 true else s

/-- START_UP_RELEASE (R118, R307, R366, R420, R438 to R441): the firmware sets up its event sources; COMMANDS and PLAN START run, and the block is released once the last command of the image has completed. DEDUCED, log entry 10; DESIGN CHOICE, log entry 29; DEDUCED, log entry 73. -/
def execStartUpRelease (sources : List (Fin 512 × SrcCfg)) (s : State) : Result :=
  if s.boot.stage ≠ .verified then .next s
  else
    let s := sources.foldl (fun s e => s.setUpSource e.1.val e.2) s
    let s := s.runCommands s.boot.commands.length
    if s.imageBusy || s.boot.cmdAt < s.boot.commands.length then .next s
    else .next s.planStart.release

end Sys2Proof.Machine
end

