-- ==== Sys2Proof/Machine/Dispatch.lean ====
section
/-! DEFINITION. Sys2Proof/Machine/Dispatch.lean: one arm per command. -/

namespace Sys2Proof.Machine

def exec (i : Instr) (s : State) : Host.Outcome State Fault Refusal :=
  match i with
  | .devIdentify c => Sys2Proof.Machine.execDevIdentify c s
  | .devConfigLock c => Sys2Proof.Machine.execDevConfigLock c s
  | .marlPoolCfg c => Sys2Proof.Machine.execMarlPoolCfg c s
  | .marlQueueCfg c => Sys2Proof.Machine.execMarlQueueCfg c s
  | .marlAgeCfg c => Sys2Proof.Machine.execMarlAgeCfg c s
  | .counterRead c => Sys2Proof.Machine.execCounterRead c s
  | .snapshot c => Sys2Proof.Machine.execSnapshot c s
  | .tunCreate c => Sys2Proof.Machine.execTunCreate c s
  | .tunDestroy c => Sys2Proof.Machine.execTunDestroy c s
  | .tunModify c => Sys2Proof.Machine.execTunModify c s
  | .tunQuery c => Sys2Proof.Machine.execTunQuery c s
  | .tunAdopt c => Sys2Proof.Machine.execTunAdopt c s
  | .tunAllotCfg c => Sys2Proof.Machine.execTunAllotCfg c s
  | .portPdCfg c => Sys2Proof.Machine.execPortPdCfg c s
  | .portPdSwap c => Sys2Proof.Machine.execPortPdSwap c s
  | .portPdReset c => Sys2Proof.Machine.execPortPdReset c s
  | .portPdQuery c => Sys2Proof.Machine.execPortPdQuery c s
  | .portLinkCtrl c => Sys2Proof.Machine.execPortLinkCtrl c s
  | .portNotifyBind c => Sys2Proof.Machine.execPortNotifyBind c s
  | .portLinkCfg c => Sys2Proof.Machine.execPortLinkCfg c s
  | .portFallbackCfg c => Sys2Proof.Machine.execPortFallbackCfg c s
  | .portJaythRetry c => Sys2Proof.Machine.execPortJaythRetry c s
  | .usbRootBind c => Sys2Proof.Machine.execUsbRootBind c s
  | .usbRootCtrl c => Sys2Proof.Machine.execUsbRootCtrl c s
  | .usbSlotAlloc c => Sys2Proof.Machine.execUsbSlotAlloc c s
  | .usbSlotFree c => Sys2Proof.Machine.execUsbSlotFree c s
  | .usbEpConfig c => Sys2Proof.Machine.execUsbEpConfig c s
  | .usbEpReset c => Sys2Proof.Machine.execUsbEpReset c s
  | .usbEpStop c => Sys2Proof.Machine.execUsbEpStop c s
  | .usbEpSetDeq c => Sys2Proof.Machine.execUsbEpSetDeq c s
  | .usbRootQuery c => Sys2Proof.Machine.execUsbRootQuery c s
  | .usbDevBind c => Sys2Proof.Machine.execUsbDevBind c s
  | .usbDevUnbind c => Sys2Proof.Machine.execUsbDevUnbind c s
  | .usbDevCtrl c => Sys2Proof.Machine.execUsbDevCtrl c s
  | .dmaChAlloc c => Sys2Proof.Machine.execDmaChAlloc c s
  | .dmaChConfig c => Sys2Proof.Machine.execDmaChConfig c s
  | .dmaChCtrl c => Sys2Proof.Machine.execDmaChCtrl c s
  | .dmaChFree c => Sys2Proof.Machine.execDmaChFree c s
  | .dmaTimerCfg c => Sys2Proof.Machine.execDmaTimerCfg c s
  | .dmaChQuery c => Sys2Proof.Machine.execDmaChQuery c s
  | .qpCreate c => Sys2Proof.Machine.execQpCreate c s
  | .qpModify c => Sys2Proof.Machine.execQpModify c s
  | .qpReset c => Sys2Proof.Machine.execQpReset c s
  | .qpDestroy c => Sys2Proof.Machine.execQpDestroy c s
  | .qpQuery c => Sys2Proof.Machine.execQpQuery c s
  | .sliceEnable c => Sys2Proof.Machine.execSliceEnable c s
  | .sliceReset c => Sys2Proof.Machine.execSliceReset c s
  | .sliceDisable c => Sys2Proof.Machine.execSliceDisable c s
  | .sliceFreeze c => Sys2Proof.Machine.execSliceFreeze c s
  | .sliceSave c => Sys2Proof.Machine.execSliceSave c s
  | .sliceRestore c => Sys2Proof.Machine.execSliceRestore c s
  | .sliceDirtyLog c => Sys2Proof.Machine.execSliceDirtyLog c s
  | .sliceQuery c => Sys2Proof.Machine.execSliceQuery c s
  | .pmLevel c => Sys2Proof.Machine.execPmLevel c s
  | .pmDomain c => Sys2Proof.Machine.execPmDomain c s
  | .pmWakeCfg c => Sys2Proof.Machine.execPmWakeCfg c s
  | .pmQuery c => Sys2Proof.Machine.execPmQuery c s
  | .jrnlRead c => Sys2Proof.Machine.execJrnlRead c s
  | .siltDrainBind c => Sys2Proof.Machine.execSiltDrainBind c s
  | .traceCfg c => Sys2Proof.Machine.execTraceCfg c s
  | .alarmRead c => Sys2Proof.Machine.execAlarmRead c s
  | .alarmAck c => Sys2Proof.Machine.execAlarmAck c s
  | .alarmCfg c => Sys2Proof.Machine.execAlarmCfg c s
  | .jrnlPersistCfg c => Sys2Proof.Machine.execJrnlPersistCfg c s
  | .fwStage c => Sys2Proof.Machine.execFwStage c s
  | .fwActivate c => Sys2Proof.Machine.execFwActivate c s
  | .imageWrite c => Sys2Proof.Machine.execImageWrite c s
  | .imageSelect c => Sys2Proof.Machine.execImageSelect c s
  | .marlBankRetire c => Sys2Proof.Machine.execMarlBankRetire c s
  | .marlBankReadmit c => Sys2Proof.Machine.execMarlBankReadmit c s
  | .memEccCfg c => Sys2Proof.Machine.execMemEccCfg c s
  | .memSoftRepair c => Sys2Proof.Machine.execMemSoftRepair c s
  | .fuseProgram c => Sys2Proof.Machine.execFuseProgram c s
  | .memFlipMask c => Sys2Proof.Machine.execMemFlipMask c s
  | .loamHandover c => Sys2Proof.Machine.execLoamHandover c s
  | .tbSet c => Sys2Proof.Machine.execTbSet c s
  | .tbSlew c => Sys2Proof.Machine.execTbSlew c s
  | .refclkSelect c => Sys2Proof.Machine.execRefclkSelect c s
  | .tbQuery c => Sys2Proof.Machine.execTbQuery c s
  | .netPortCfg c => Sys2Proof.Machine.execNetPortCfg c s
  | .ptpCfg c => Sys2Proof.Machine.execPtpCfg c s
  | .dpiCfg c => Sys2Proof.Machine.execDpiCfg c s
  | .dpiQuery c => Sys2Proof.Machine.execDpiQuery c s
  | .dpaltBind c => Sys2Proof.Machine.execDpaltBind c s
  | .dpaltUnbind c => Sys2Proof.Machine.execDpaltUnbind c s
  | .mbxGo hp sl => Sys2Proof.Machine.execMbxGo hp sl s
  | .mbxDoneClear hp sl => Sys2Proof.Machine.execMbxDoneClear hp sl s
  | .mbxRefusedClear hp sl => Sys2Proof.Machine.execMbxRefusedClear hp sl s
  | .sqDb hp sl q v => Sys2Proof.Machine.execSqDb hp sl q v s
  | .cqDb hp sl q v => Sys2Proof.Machine.execCqDb hp sl q v s
  | .sliceEvtClear hp sl v => Sys2Proof.Machine.execSliceEvtClear hp sl v s
  | .usbEpDoorbell hp sl v view => Sys2Proof.Machine.execUsbEpDoorbell hp sl v view s
  | .dmaChDoorbell hp sl v => Sys2Proof.Machine.execDmaChDoorbell hp sl v s
  | .dmaProgramWrite hp sl off bytes => Sys2Proof.Machine.execDmaProgramWrite hp sl off bytes s
  | .pmModeReq writer target mask => Sys2Proof.Machine.execPmModeReq writer target mask s
  | .pmModeRefusedClear => Sys2Proof.Machine.execPmModeRefusedClear s
  | .mgmtGo => Sys2Proof.Machine.execMgmtGo s
  | .mgmtDoneClear => Sys2Proof.Machine.execMgmtDoneClear s
  | .mgmtRefusedClear => Sys2Proof.Machine.execMgmtRefusedClear s
  | .mgmtNtcPop => Sys2Proof.Machine.execMgmtNtcPop s
  | .jrnlRingCi hp v => Sys2Proof.Machine.execJrnlRingCi hp v s
  | .traceRingCi hp v => Sys2Proof.Machine.execTraceRingCi hp v s
  | .jrnlMgmtCi v => Sys2Proof.Machine.execJrnlMgmtCi v s
  | .traceMgmtCi v => Sys2Proof.Machine.execTraceMgmtCi v s
  | .glbSiteIdWrite who v => Sys2Proof.Machine.execGlbSiteIdWrite who v s
  | .wrRefusedClear who => Sys2Proof.Machine.execWrRefusedClear who s
  | .shlPeakClrLists => Sys2Proof.Machine.execShlPeakClrLists s
  | .shlPeakClrDelay => Sys2Proof.Machine.execShlPeakClrDelay s
  | .halfReadLatch who off len => Sys2Proof.Machine.execHalfReadLatch who off len s
  | .alarmLatchRead => Sys2Proof.Machine.execAlarmLatchRead s
  | .registerWrite who off bytes => Sys2Proof.Machine.execRegisterWrite who off bytes s
  | .smbWrite addr data pec => Sys2Proof.Machine.execSmbWrite addr data pec s
  | .smbRead addr count => Sys2Proof.Machine.execSmbRead addr count s
  | .smbAlertResponse => Sys2Proof.Machine.execSmbAlertResponse s
  | .smbClockLowTimeout => Sys2Proof.Machine.execSmbClockLowTimeout s
  | .enterModeAck port => Sys2Proof.Machine.execEnterModeAck port s
  | .tbReceived port lane payload err => Sys2Proof.Machine.execTbReceived port lane payload err s
  | .trainStateTimeout port => Sys2Proof.Machine.execTrainStateTimeout port s
  | .trainIdleEnd port => Sys2Proof.Machine.execTrainIdleEnd port s
  | .rateIdleEnd port => Sys2Proof.Machine.execRateIdleEnd port s
  | .markerReceived port lane head diff flit => Sys2Proof.Machine.execMarkerReceived port lane head diff flit s
  | .markerLossTimeout port lane => Sys2Proof.Machine.execMarkerLossTimeout port lane s
  | .codewordErrorLimit port lane => Sys2Proof.Machine.execCodewordErrorLimit port lane s
  | .linkTimeout port => Sys2Proof.Machine.execLinkTimeout port s
  | .wakeBurstReceived port => Sys2Proof.Machine.execWakeBurstReceived port s
  | .sleepIdleExpiry port => Sys2Proof.Machine.execSleepIdleExpiry port s
  | .directionWake port => Sys2Proof.Machine.execDirectionWake port s
  | .keepaliveExpiry port => Sys2Proof.Machine.execKeepaliveExpiry port s
  | .recalPeriodExpiry port lane => Sys2Proof.Machine.execRecalPeriodExpiry port lane s
  | .tempDrift port temp => Sys2Proof.Machine.execTempDrift port temp s
  | .recalRetryExpiry port => Sys2Proof.Machine.execRecalRetryExpiry port s
  | .recalDone port outErr inErr => Sys2Proof.Machine.execRecalDone port outErr inErr s
  | .flitSlot port => Sys2Proof.Machine.execFlitSlot port s
  | .dataFlitReceived port lane flit => Sys2Proof.Machine.execDataFlitReceived port lane flit s
  | .badFlit port lane => Sys2Proof.Machine.execBadFlit port lane s
  | .ackReceived port lane flit => Sys2Proof.Machine.execAckReceived port lane flit s
  | .creditReceived port lane flit => Sys2Proof.Machine.execCreditReceived port lane flit s
  | .lanemapReceived port lane flit => Sys2Proof.Machine.execLanemapReceived port lane flit s
  | .echoReceived port lane flit => Sys2Proof.Machine.execEchoReceived port lane flit s
  | .sleepReceived port lane flit => Sys2Proof.Machine.execSleepReceived port lane flit s
  | .turnDoneReceived port lane flit => Sys2Proof.Machine.execTurnDoneReceived port lane flit s
  | .backlogReceived port lane flit => Sys2Proof.Machine.execBacklogReceived port lane flit s
  | .retrainReqReceived port lane flit => Sys2Proof.Machine.execRetrainReqReceived port lane flit s
  | .laneBadReceived port lane flit => Sys2Proof.Machine.execLaneBadReceived port lane flit s
  | .nakTimerExpiry port => Sys2Proof.Machine.execNakTimerExpiry port s
  | .replayTimeout port => Sys2Proof.Machine.execReplayTimeout port s
  | .ackRepeatExpiry port => Sys2Proof.Machine.execAckRepeatExpiry port s
  | .creditRefreshExpiry port => Sys2Proof.Machine.execCreditRefreshExpiry port s
  | .creditReturn port tun => Sys2Proof.Machine.execCreditReturn port tun s
  | .timePeriodExpiry port => Sys2Proof.Machine.execTimePeriodExpiry port s
  | .turnaroundTimeout port => Sys2Proof.Machine.execTurnaroundTimeout port s
  | .laneReqResendExpiry port => Sys2Proof.Machine.execLaneReqResendExpiry port s
  | .termInfoReceived port => Sys2Proof.Machine.execTermInfoReceived port s
  | .openAckReceived port => Sys2Proof.Machine.execOpenAckReceived port s
  | .openNakReceived port => Sys2Proof.Machine.execOpenNakReceived port s
  | .closeAckReceived port => Sys2Proof.Machine.execCloseAckReceived port s
  | .allotAckReceived port => Sys2Proof.Machine.execAllotAckReceived port s
  | .tunStatusReceived port => Sys2Proof.Machine.execTunStatusReceived port s
  | .mgmtResendExpiry port xid => Sys2Proof.Machine.execMgmtResendExpiry port xid s
  | .allotCycleStart port => Sys2Proof.Machine.execAllotCycleStart port s
  | .orphanWindowExpiry port => Sys2Proof.Machine.execOrphanWindowExpiry port s
  | .dispModeChange dpi stream mode => Sys2Proof.Machine.execDispModeChange dpi stream mode s
  | .hostLostTunnelExpiry hp sl => Sys2Proof.Machine.execHostLostTunnelExpiry hp sl s
  | .cellAdmit agent flow bl poison payload => Sys2Proof.Machine.execCellAdmit agent flow bl poison payload s
  | .losslessCreditGrant agent cls => Sys2Proof.Machine.execLosslessCreditGrant agent cls s
  | .cellEgressSelect agent linkUe => Sys2Proof.Machine.execCellEgressSelect agent linkUe s
  | .sweepRound => Sys2Proof.Machine.execSweepRound s
  | .marlBankRetired bank => Sys2Proof.Machine.execMarlBankRetired bank s
  | .bankReadmitDone bank => Sys2Proof.Machine.execBankReadmitDone bank s
  | .scrubStep region upset => Sys2Proof.Machine.execScrubStep region upset s
  | .conversionStep region upset => Sys2Proof.Machine.execConversionStep region upset s
  | .writeBack region page => Sys2Proof.Machine.execWriteBack region page s
  | .fwSramUe core page fetch => Sys2Proof.Machine.execFwSramUe core page fetch s
  | .fwPageRewriteDone page good => Sys2Proof.Machine.execFwPageRewriteDone page good s
  | .softRepairDone region bank row => Sys2Proof.Machine.execSoftRepairDone region bank row s
  | .usbPrefetch root view => Sys2Proof.Machine.execUsbPrefetch root view s
  | .usbFormingTime root usb3 view => Sys2Proof.Machine.execUsbFormingTime root usb3 view s
  | .usb2ResultReceived => Sys2Proof.Machine.execUsb2ResultReceived s
  | .usb2ResultMissing root xid => Sys2Proof.Machine.execUsb2ResultMissing root xid s
  | .nativeTransactionEnd ep res dpid data view => Sys2Proof.Machine.execNativeTransactionEnd ep res dpid data view s
  | .completeSplitDue ep res dpid data view => Sys2Proof.Machine.execCompleteSplitDue ep res dpid data view s
  | .remoteWake root tport => Sys2Proof.Machine.execRemoteWake root tport s
  | .tunRootResumeWaitEnd root => Sys2Proof.Machine.execTunRootResumeWaitEnd root s
  | .rootConnect root speed => Sys2Proof.Machine.execRootConnect root speed s
  | .rootDisconnect root => Sys2Proof.Machine.execRootDisconnect root s
  | .rootResetEnd root speed => Sys2Proof.Machine.execRootResetEnd root speed s
  | .rootSuspendIdle root => Sys2Proof.Machine.execRootSuspendIdle root s
  | .rootResumeEnd root => Sys2Proof.Machine.execRootResumeEnd root s
  | .u1u2Timeout root cause => Sys2Proof.Machine.execU1u2Timeout root cause s
  | .devAttached fn => Sys2Proof.Machine.execDevAttached fn s
  | .devBusReset fn speed view => Sys2Proof.Machine.execDevBusReset fn speed view s
  | .devSetupReceived fn packet view => Sys2Proof.Machine.execDevSetupReceived fn packet view s
  | .devToken fn ep dirIn dpid data acked view => Sys2Proof.Machine.execDevToken fn ep dirIn dpid data acked view s
  | .devSuspended fn => Sys2Proof.Machine.execDevSuspended fn s
  | .devHostResume fn => Sys2Proof.Machine.execDevHostResume fn s
  | .devWakeSignalStart fn => Sys2Proof.Machine.execDevWakeSignalStart fn s
  | .devWakeTimeout fn => Sys2Proof.Machine.execDevWakeTimeout fn s
  | .devDetached fn => Sys2Proof.Machine.execDevDetached fn s
  | .dpHpdChange port kind linkOk dsc => Sys2Proof.Machine.execDpHpdChange port kind linkOk dsc s
  | .dpTrained port ok => Sys2Proof.Machine.execDpTrained port ok s
  | .ccAttach port source flipped => Sys2Proof.Machine.execCcAttach port source flipped s
  | .ccDetach port => Sys2Proof.Machine.execCcDetach port s
  | .pdMessageReceived port sop bytes => Sys2Proof.Machine.execPdMessageReceived port sop bytes s
  | .hardResetReceived port => Sys2Proof.Machine.execHardResetReceived port s
  | .pdTimerExpiry port timer => Sys2Proof.Machine.execPdTimerExpiry port timer s
  | .senderResponseTimeout port unacked => Sys2Proof.Machine.execSenderResponseTimeout port unacked s
  | .swapRetryExpiry port => Sys2Proof.Machine.execSwapRetryExpiry port s
  | .eprKeepaliveTimeout port => Sys2Proof.Machine.execEprKeepaliveTimeout port s
  | .frsSignal port => Sys2Proof.Machine.execFrsSignal port s
  | .pstgFltLow port => Sys2Proof.Machine.execPstgFltLow port s
  | .vbusSample port mv ma => Sys2Proof.Machine.execVbusSample port mv ma s
  | .transitionWindowTimeout port => Sys2Proof.Machine.execTransitionWindowTimeout port s
  | .sourceCapsUpdate port => Sys2Proof.Machine.execSourceCapsUpdate port s
  | .pgIdleOffExpiry group => Sys2Proof.Machine.execPgIdleOffExpiry group s
  | .chainDispatch hp sl q entries => Sys2Proof.Machine.execChainDispatch hp sl q entries s
  | .queueFetchError hp sl q read cause => Sys2Proof.Machine.execQueueFetchError hp sl q read cause s
  | .cqWriteError hp sl q cause => Sys2Proof.Machine.execCqWriteError hp sl q cause s
  | .completionWrite hp sl q => Sys2Proof.Machine.execCompletionWrite hp sl q s
  | .complRingStalled hp sl q => Sys2Proof.Machine.execComplRingStalled hp sl q s
  | .moderationTimerExpiry hp sl q => Sys2Proof.Machine.execModerationTimerExpiry hp sl q s
  | .noticeOverflow fifo => Sys2Proof.Machine.execNoticeOverflow fifo s
  | .qpStopDone hp sl q => Sys2Proof.Machine.execQpStopDone hp sl q s
  | .sliceQuiescent hp sl => Sys2Proof.Machine.execSliceQuiescent hp sl s
  | .sliceFreezeTimeout hp sl => Sys2Proof.Machine.execSliceFreezeTimeout hp sl s
  | .sliceResetDone hp sl => Sys2Proof.Machine.execSliceResetDone hp sl s
  | .generationDrained hp sl => Sys2Proof.Machine.execGenerationDrained hp sl s
  | .hostPortLoss hp => Sys2Proof.Machine.execHostPortLoss hp s
  | .hostPortReturn hp rate width => Sys2Proof.Machine.execHostPortReturn hp rate width s
  | .functionLevelReset hp => Sys2Proof.Machine.execFunctionLevelReset hp s
  | .hostLinkRateChange hp rate width => Sys2Proof.Machine.execHostLinkRateChange hp rate width s
  | .hostPowerStateChange hp power bme pmeEn ptmEn bar0 ctoMs => Sys2Proof.Machine.execHostPowerStateChange hp power bme pmeEn ptmEn bar0 ctoMs s
  | .hostReadTimeout user => Sys2Proof.Machine.execHostReadTimeout user s
  | .dmaJobStart ch view => Sys2Proof.Machine.execDmaJobStart ch view s
  | .dmaMove ch view fault => Sys2Proof.Machine.execDmaMove ch view fault s
  | .dmaLoop ch view fault => Sys2Proof.Machine.execDmaLoop ch view fault s
  | .dmaWait ch view fault => Sys2Proof.Machine.execDmaWait ch view fault s
  | .dmaSignal ch view fault => Sys2Proof.Machine.execDmaSignal ch view fault s
  | .dmaSetup ch view fault => Sys2Proof.Machine.execDmaSetup ch view fault s
  | .dmaEnd ch view fault => Sys2Proof.Machine.execDmaEnd ch view fault s
  | .dmaTimerExpiry timer => Sys2Proof.Machine.execDmaTimerExpiry timer s
  | .dmaWaitTimeout ch => Sys2Proof.Machine.execDmaWaitTimeout ch s
  | .dmaRetryExpiry ch view fault => Sys2Proof.Machine.execDmaRetryExpiry ch view fault s
  | .blockLanded ch => Sys2Proof.Machine.execBlockLanded ch s
  | .evcSourceAssert src rise => Sys2Proof.Machine.execEvcSourceAssert src rise s
  | .workItemDispatch ended => Sys2Proof.Machine.execWorkItemDispatch ended s
  | .evcInterruptTaken src => Sys2Proof.Machine.execEvcInterruptTaken src s
  | .evcClaim src core => Sys2Proof.Machine.execEvcClaim src core s
  | .evcComplete src => Sys2Proof.Machine.execEvcComplete src s
  | .claimOverdue src => Sys2Proof.Machine.execClaimOverdue src s
  | .directEnqueue item => Sys2Proof.Machine.execDirectEnqueue item s
  | .delayInsert list item d => Sys2Proof.Machine.execDelayInsert list item d s
  | .delayCancel list ident => Sys2Proof.Machine.execDelayCancel list ident s
  | .delayTick => Sys2Proof.Machine.execDelayTick s
  | .coreRotation => Sys2Proof.Machine.execCoreRotation s
  | .coreDrainDone core => Sys2Proof.Machine.execCoreDrainDone core s
  | .selfTestDone core pass => Sys2Proof.Machine.execSelfTestDone core pass s
  | .spareSelftestExpiry => Sys2Proof.Machine.execSpareSelftestExpiry s
  | .faultedRetestExpiry core => Sys2Proof.Machine.execFaultedRetestExpiry core s
  | .coreFault core => Sys2Proof.Machine.execCoreFault core s
  | .itemLimitOverrun core => Sys2Proof.Machine.execItemLimitOverrun core s
  | .brownoutWarn rail mv => Sys2Proof.Machine.execBrownoutWarn rail mv s
  | .railReturn low => Sys2Proof.Machine.execRailReturn low s
  | .holdWindowExpiry => Sys2Proof.Machine.execHoldWindowExpiry s
  | .lowSupplyEnd low => Sys2Proof.Machine.execLowSupplyEnd low s
  | .switchedDomainReset rail => Sys2Proof.Machine.execSwitchedDomainReset rail s
  | .serdesRailLoss rail => Sys2Proof.Machine.execSerdesRailLoss rail s
  | .coldStart => Sys2Proof.Machine.execColdStart s
  | .levelChangeDone agent => Sys2Proof.Machine.execLevelChangeDone agent s
  | .domainSequenceDone domain => Sys2Proof.Machine.execDomainSequenceDone domain s
  | .sleepEntry done => Sys2Proof.Machine.execSleepEntry done s
  | .wakeEvent src => Sys2Proof.Machine.execWakeEvent src s
  | .sleepExitDone => Sys2Proof.Machine.execSleepExitDone s
  | .dozeUngate agent => Sys2Proof.Machine.execDozeUngate agent s
  | .energySample islands tunnels overhead => Sys2Proof.Machine.execEnergySample islands tunnels overhead s
  | .pmbusPoll reg status => Sys2Proof.Machine.execPmbusPoll reg status s
  | .refclkLost input => Sys2Proof.Machine.execRefclkLost input s
  | .refclkValid input => Sys2Proof.Machine.execRefclkValid input s
  | .preferredReturn => Sys2Proof.Machine.execPreferredReturn s
  | .followerInvalid agent => Sys2Proof.Machine.execFollowerInvalid agent s
  | .ptmDialogue hp t1 master delay => Sys2Proof.Machine.execPtmDialogue hp t1 master delay s
  | .ethFrameReceived ep frame => Sys2Proof.Machine.execEthFrameReceived ep frame s
  | .dispSegment dpi stream seg flags line off frame data => Sys2Proof.Machine.execDispSegment dpi stream seg flags line off frame data s
  | .dpiHpdPulseEnd dpi => Sys2Proof.Machine.execDpiHpdPulseEnd dpi s
  | .journalDeferredCommit => Sys2Proof.Machine.execJournalDeferredCommit s
  | .journalDrain hp => Sys2Proof.Machine.execJournalDrain hp s
  | .persistPage good => Sys2Proof.Machine.execPersistPage good s
  | .traceDrain => Sys2Proof.Machine.execTraceDrain s
  | .lossRecord place => Sys2Proof.Machine.execLossRecord place s
  | .alarmVector hp => Sys2Proof.Machine.execAlarmVector hp s
  | .siltRingVector hp trace => Sys2Proof.Machine.execSiltRingVector hp trace s
  | .powerGood recovery smbAddr => Sys2Proof.Machine.execPowerGood recovery smbAddr s
  | .fuseLoadDone keyHash serial options0 options1 trim repairMap => Sys2Proof.Machine.execFuseLoadDone keyHash serial options0 options1 trim repairMap s
  | .imageVerified readError => Sys2Proof.Machine.execImageVerified readError s
  | .startUpRelease sources => Sys2Proof.Machine.execStartUpRelease sources s
  | .updateRotation => Sys2Proof.Machine.execUpdateRotation s
  | .classMove cls last => Sys2Proof.Machine.execClassMove cls last s
  | .updateRollback takeover => Sys2Proof.Machine.execUpdateRollback takeover s
  | .loamCopyFault copyB => Sys2Proof.Machine.execLoamCopyFault copyB s
  | .loamCopyRetryExpiry copyB => Sys2Proof.Machine.execLoamCopyRetryExpiry copyB s
  | .loamSyncDone copyB => Sys2Proof.Machine.execLoamSyncDone copyB s
  | .ethLinkChange ep up => Sys2Proof.Machine.execEthLinkChange ep up s
  | .dpiLinkChange dpi kind rate lanes => Sys2Proof.Machine.execDpiLinkChange dpi kind rate lanes s
  | .timebaseFullValue => Sys2Proof.Machine.execTimebaseFullValue s
  | .slewOffsetRemoved => Sys2Proof.Machine.execSlewOffsetRemoved s
  | .msixVectorUnmask hp vec => Sys2Proof.Machine.execMsixVectorUnmask hp vec s
  | .flashOperationDone good => Sys2Proof.Machine.execFlashOperationDone good s
  | .fuseBurnDone good => Sys2Proof.Machine.execFuseBurnDone good s
  | .hostReadCompletion hp sl addr bytes => Sys2Proof.Machine.execHostReadCompletion hp sl addr bytes s
  | .novideoPeriod dpi stream => Sys2Proof.Machine.execNovideoPeriod dpi stream s

end Sys2Proof.Machine
end

