-- ==== Sys2Proof/Machine/Step.lean ====
section
/-! DEFINITION. Sys2Proof/Machine/Step.lean: one step of the block: the command at the front of the queue, or, with none waiting, one tick of the Loam clock (DESIGN CHOICE, log entry 5). -/

namespace Sys2Proof.Machine

/-- A step takes the front command from the queue and runs it; with an empty queue one Loam clock tick of 10 ns passes. DESIGN CHOICE, log entry 5. -/
def step (s : State) : Host.Outcome State Fault Refusal :=
  match s.pending with
  | c :: rest => exec c { s with pending := rest }
  | [] => .next { s with clock := s.clock.tick }

/-- The command that a table word spells is put at the front of the queue. DEDUCED, log entry 10. -/
def State.withFetchWord (s : State) (nbits w : Nat) : State :=
  match decodeTableWord nbits w with
  | some c => { s with pending := c :: s.pending }
  | none => s

end Sys2Proof.Machine
end

