-- ==== Sys2Proof/Machine/PortIo.lean ====
section
/-! DEFINITION. Sys2Proof/Machine/PortIo.lean: what a port's receptacle pins carry in a state: lanes, D+ and D-, SBU1 and SBU2, CC (R29, R184, R185, R192, R195, R204, R220). -/

namespace Sys2Proof.Machine

/-- Table 7-3, R27: use of a lane's pin pair. -/
inductive LaneUse where
  | idle
  | jaythOut
  | jaythIn
  | usbOut
  | usbIn
  | dpOut
  deriving DecidableEq, Repr

/-- Table 7-3, R184, R195: use of D+ and D-; a suspended device keeps its D+ pull-up with the high-speed transceiver off. -/
inductive UsbUse where
  | off
  | host
  | device
  | suspended
  deriving DecidableEq, Repr

/-- R184, R195: SuperSpeed receiver terminations of a device function; in suspend the LFPS detector alone. -/
inductive SsRx where
  | off
  | on
  | lfps
  deriving DecidableEq, Repr

/-- Table 8-1: what the active CC pin shows: open, Rd, or Rp at a level of RP_LEVEL; a DRP port that nothing is attached to toggles. -/
inductive CcUse where
  | openCc
  | rd
  | rp (level : Nat)
  | toggle
  deriving DecidableEq, Repr

/-- The pins of one port. -/
structure PortIo where
  lanes : List LaneUse := [.idle, .idle, .idle, .idle]
  usb2 : UsbUse := .off
  ssRx : SsRx := .off
  /-- SBU1 and SBU2 carry AUX, else they are at high impedance -/
  sbuAux : Bool := false
  cc : CcUse := .openCc
  deriving DecidableEq, Repr

/-- R204, R214, R217, R220: the CC pin: under a 3.x contract Rp shows SinkTxNG (1.5 A) or SinkTxOK (3.0 A). -/
def Pd.ccUse (d : Pd) : CcUse :=
  match d.conn with
  | .errorRecovery => .openCc
  | .trySrc => .rp d.rp
  | .tryWaitSnk => .rd
  | .unattached =>
    if d.cfg.portMode = 2 || d.lockout then .rd else if d.cfg.portMode = 1 then .rp d.cfg.rpLevel else .toggle
  | _ =>
    if !d.roles.source then .rd
    else if d.contract.isSome && d.pd3 then .rp (if d.sinkTxNg then 1 else 2) else .rp d.rp

/-- R441: what port `p` shows on its CC pins; until release they are open. -/
def State.ccOf (s : State) (p : Nat) : CcUse := if s.ccHeld then .openCc else (s.port p).pd.ccUse

/-- The device function presented on a port. -/
def State.portFn (s : State) (p : Nat) : Option Fn :=
  (([0, 1].map s.fn).find? fun f => f.bound && decide (f.port = p) && decide (f.state ≠ .detached))

/-- R185, Table 7-3: lanes of a fallback use at a USB SPEED, or none: a one-pair link takes L0 and L1 with CC1 active, L2 and L3 with CC2 active, or under pin assignment D the pair that DisplayPort leaves. -/
def Pd.fallbackLanes (d : Pd) (speed : Option Nat) : List LaneUse :=
  let two := decide (speed = some 4) || decide (speed = some 6)
  let one := decide (speed = some 3) || decide (speed = some 5)
  let usb : List LaneUse := if one || two then [.usbOut, .usbIn] else [.idle, .idle]
  if d.dp.entered && 0 < d.dp.lanes && d.dp.pin ≠ 3 then [.dpOut, .dpOut, .dpOut, .dpOut]
  else
    let other : List LaneUse := if d.dp.entered && d.dp.pin = 3 then [.dpOut, .dpOut] else if two then [.usbOut, .usbIn] else [.idle, .idle]
    if d.flipped then other ++ usb else usb ++ other

/-- R29, R184, R185, R192, R195: the pins of port `p`. Outside fallback the transceiver of D+ and D- is off and SBU1 and SBU2 are at high impedance. -/
def State.portIo (s : State) (p : Nat) : PortIo :=
  let d := (s.port p).pd
  let r := s.root p
  let f := s.portFn p
  if d.mode = .jayth then
    let x := s.port p
    let out : BitVec 4 := if x.train.state = .active then x.outSet else if x.train.state = .disabled then 0 else x.train.transmits
    { lanes := (List.range 4).map fun k => if out.getLsbD k then .jaythOut else .jaythIn, cc := s.ccOf p }
  else if !d.inFallback then { cc := s.ccOf p }
  else
    let host := d.roles.dfp && d.fbNow.hostEn && decide (r.state ≠ .poweredOff)
    let live := host && decide (r.state ≠ .disconnected)
    let dev := if d.roles.dfp then none else f
    let speed := if live then some r.speed else dev.bind fun x => if x.state.live || x.state = .suspended then some x.speed else none
    let sleeping := dev.any fun x => decide (x.state = .suspended)
    { lanes := d.fallbackLanes speed
      usb2 := if host then .host else if sleeping then .suspended else if dev.isSome then .device else .off
      ssRx := if dev.isSome && d.fbNow.ssEn then (if sleeping then .lfps else .on) else .off
      sbuAux := d.dp.entered && decide (0 < d.dp.lanes), cc := s.ccOf p }

end Sys2Proof.Machine
end

