-- ==== Sys2Proof/Safety.lean ====
section
/-! DEFINITION. Sys2Proof/Safety.lean: what the statements say of a state and of a step: the canonical form of the byte memories, when a command may be carried out, and what its completion is. -/

namespace Sys2Proof.Machine

/-- Every byte memory of the block (management buffer, configuration flash, DMA in-flight buffer, endpoint buffer, DMA program memory) is in canonical form. -/
def State.memWf (s : State) : Bool :=
  Tab.wf 0 s.mgmt.buf && Tab.wf 0xFF s.boot.flash && Tab.wf 0 s.mem.dmaBuf && Tab.wf 0 s.mem.epBuf && Tab.wf 0 s.xfer.prog

/-- The tunnel table is in canonical form: one entry for each TID that differs from an entry of reset, in TID order. -/
def State.tunWf (s : State) : Bool := Tab.wf {} s.tunnels

/-- The slice table is in canonical form. -/
def State.sliceWf (s : State) : Bool := Tab.wf {} s.hosts.slices

/-- What every step keeps: the canonical forms, and one record for each of the five memory regions and the nine cores. -/
def State.wf (s : State) : Bool :=
  s.memWf && s.tunWf && s.sliceWf && decide (s.mem.regions.length = 5) && decide (s.cluster.cores.length = 9)

/-- R19, R248, R263: the command need not wait for the control plane or for an earlier command on its object, passes the checks of steps 1 to 5 and, where it writes a journal entry, the entry may be committed at once (step 6: no brownout hold, and room in the journal). -/
def State.mayCarry (s : State) (i : CmdInfo) (c : Cmd) (k : Checks) : Bool :=
  !s.waits i c && (firstFailure i c s k).isNone
    && (!(i.journal && k.journalled)
      || ((!s.power.hold || c.late) && s.journalRoom (decide (c.route.journalOrigin = 2) || decide (i.opcode = 0x0805))))

/-- R263: the state in which the effect of a command that may be carried out begins: the command counts as dispatched, and its journal entry, where it writes one, is committed. -/
def State.carried (s : State) (i : CmdInfo) (c : Cmd) (k : Checks) : State :=
  if i.journal && k.journalled then ((s.startCmd c i.opcode).commitNow (cmdEntry i c k)).markCommitted c i.opcode
  else (s.startCmd c i.opcode).markBegun c i.opcode

/-- The outcome is the next state in which the command has just completed with status OK and the result bytes `result u`; `P u` holds of the state `u` just before the completion was delivered. -/
def CompletesOk (o : Result) (i : CmdInfo) (c : Cmd) (result : State → List Byte) (P : State → Prop) : Prop :=
  ∃ u, u.isRunning c i.opcode = true ∧ o = .next ((u.endCmd c i.opcode).deliver c .ok 0 (result u)) ∧ P u

/-- A command completes whenever it may be carried out and `H` holds of it: with the result bytes that `result` gives for the state `u` just before its completion, and with `P` between the state in which its effect begins and `u`. -/
def CarriedOut (row : Cmd → Instr) (i : CmdInfo) (k : Cmd → State → Checks) (H : Cmd → State → Prop) (result : Cmd → State → State → List Byte)
    (P : Cmd → State → State → Prop) : Prop :=
  ∀ (c : Cmd) (s : State), s.mayCarry i c (k c s) = true → H c s →
    CompletesOk (exec (row c) s) i c (result c s) fun u => P c (s.carried i c (k c s)) u

/-- A command that completes later: whenever it may be carried out and `H` holds of it, its step answers a next state, and `P` holds between the state in which its effect begins and that next state. -/
def Begun (row : Cmd → Instr) (i : CmdInfo) (k : Cmd → State → Checks) (H : Cmd → State → Prop) (P : Cmd → State → State → Prop) : Prop :=
  ∀ (c : Cmd) (s : State), s.mayCarry i c (k c s) = true → H c s →
    ∃ t, exec (row c) s = .next t ∧ P c (s.carried i c (k c s)) t

/-- R263, R264: a command that does not wait, fails a check of steps 1 to 5, and of which `H` holds, has no effect but its completion with that check's status and DETAIL, delivered in the slice's present generation, and, where it writes a journal entry and failed at step 3, the entry marked refused. -/
def RefusedOnly (row : Cmd → Instr) (i : CmdInfo) (k : Cmd → State → Checks) (H : Cmd → State → Prop) : Prop :=
  ∀ (c : Cmd) (s : State) (f : Status × Nat), s.waits i c = false → firstFailure i c s (k c s) = some f → H c s →
    let u := s.startCmd c i.opcode
    let v := if i.journal && (k c s).journalled && stepThree f then u.journalRefused i c (k c s) else u
    exec (row c) s = .next ((v.endCmd c i.opcode).deliver { c with gen := s.genNow c } f.1 f.2 [])

/-- R262: with the lock set, a command marked L that comes from a slice, does not wait, and passes the checks that R263 puts before the lock, completes with DENIED, DETAIL 0x02, and has no other effect than that and its journal entry; from another origin the lock makes no difference to its checks. -/
def LockRefuses (row : Cmd → Instr) (i : CmdInfo) (k : Cmd → State → Checks) (H : Cmd → Prop) : Prop :=
  i.locked = true ∧ ∀ (c : Cmd) (s : State), s.lock = true → s.waits i c = false → H c →
    (c.route.slice?.isSome = true → i.len ≤ c.payload.length → (k c s).bad = none → s.genOk c = true → i.accepts c.route = true → (k c s).deny = none →
      let u := s.startCmd c i.opcode
      let v := if i.journal && (k c s).journalled then u.journalRefused i c (k c s) else u
      exec (row c) s = .next ((v.endCmd c i.opcode).deliver { c with gen := s.genNow c } .denied 2 []))
    ∧ (c.route.slice? = none → firstFailure i c s (k c s) = firstFailure i c { s with lock := false } (k c s))

/-- A command or event answers a next state, of which `P` holds. -/
def Gives (i : Instr) (s : State) (P : State → Prop) : Prop := ∃ t, exec i s = .next t ∧ P t

/-- R122, R125, R134: a lossy ingress finds queue, pool and bank space for one more cell of a class, and no write waits for a bank. -/
def State.roomFor (s : State) (cls agent q : Nat) : Bool :=
  s.marl.writeBuf.isEmpty &&
  decide ((s.egq agent q).depth < (s.egq agent q).qcap) && (s.takeSpace cls).isSome && (s.placeBank (s.egq agent q).recent).isSome

/-- R89: of its kind a segment is one that a frame still has: its MSA, its VBLANK, or one of two SDPs. -/
def Stream.firstOf (y : Stream) (seg : Nat) (frame : BitVec 8) : Bool :=
  decide (frame ≠ y.frame) || (!(decide (seg = 1) && y.msa) && !(decide (seg = 3) && y.vblank) && !(decide (seg = 2) && decide (2 ≤ y.sdps)))

/-- From `s` to `t` one cell, of which `P` holds, entered a queue of an egress behind the others of its flow, and no tunnel entry changed. -/
def CellIn (s t : State) (agent q flow : Nat) (P : Cell → Prop) : Prop :=
  ∃ c, (t.egq agent q).flow flow = (s.egq agent q).flow flow ++ [c] ∧ P c ∧ (t.egq agent q).enq = (s.egq agent q).enq + 1 ∧ t.tunnels = s.tunnels

/-- R280, R283: channel `n` runs a job with no MOVE under way, waits for no retry, and reads the instruction `b` at its program counter, from host memory over a host port that takes accesses; a page of program memory that holds it is without errors. -/
def State.runsInstr (s : State) (n : Nat) (v : HostView) (b : List Byte) : Prop :=
  s.chRuns n = true ∧ (s.ch n).wait ≠ .retry ∧ (s.ch n).jobOn = true ∧ (s.ch n).pc < ((s.ch n).chain.headD {}).len ∧ s.dmaInstr n (s.dmaView n v) = some b
    ∧ ((s.ch n).progDev = true → s.readPage 3 ((524288 + 1024 * n + ((s.ch n).chain.headD {}).prog.toNat + 16 * (s.ch n).pc) / 128) = .clean)
    ∧ (s.ch n).move = none ∧ ((s.ch n).progDev = false → s.chUp n = true)

/-- R280, R403: the state after the read of an instruction: one of program memory counts as a demand read of its page. -/
def State.fetched (s : State) (n : Nat) : State :=
  if (s.ch n).progDev then s.demandRead 3 ((524288 + 1024 * n + ((s.ch n).chain.headD {}).prog.toNat + 16 * (s.ch n).pc) / 128) else s

/-- The channel after an instruction that is done, no loop being open: the program counter moved on and nothing waited for. -/
def Ch.onward (x : Ch) : Ch := { x with pc := x.pc + 1, wait := .none, waitDue := none, retryN := 0, retryDue := none }

/-- The command was accepted under no condition beyond the checks of R263. -/
def Always (_ : Cmd) (_ : State) : Prop := True

end Sys2Proof.Machine
end

