-- ==== Sys2Proof/Certificates/Slice0/Obligations.lean ====
section
/-! DEFINITION. Sys2Proof/Certificates/Slice0/Obligations.lean: the statements for the provers. -/

open Sys2Proof Sys2Proof.Machine

/-- A step runs the command at the front of the queue on the state with the rest of the queue; with none waiting, one tick of the Loam clock passes (log entry 5: the model's choice). -/
def Obligations.StepRunsFrontCommand : Prop :=
  (∀ (c : Instr) (rest : List Instr) (s : State), s.pending = c :: rest → step s = exec c { s with pending := rest })
  ∧ (∀ (s : State), s.pending = [] → step s = .next { s with clock := s.clock.tick })

/-- R99, R262, R307, R354, R416, R496: what reset leaves: a state in canonical form with no command waiting, every tunnel entry FREE, every slice DISABLED, the configuration lock clear, CORE0 to CORE7 in slots 0 to 7 and CORE8 the spare, the next JIDX 0 with the genesis tag before it, power not yet good; and in every state the identity that configuration space shows. Values that the spec does not give are the model's choice (log entries 1 and 2). -/
def Obligations.ResetState : Prop :=
  State.reset.wf = true ∧ State.reset.pending = [] ∧ State.reset.lock = false ∧ State.reset.power.powered = false ∧ State.reset.boot.released = false
  ∧ (∀ tid, (State.reset.tunnel tid).state = .free) ∧ (∀ h sl, (State.reset.slice h sl).state = .disabled)
  ∧ (∀ c, c < 8 → (State.reset.core c).state = .active ∧ (State.reset.core c).slot = some c) ∧ (State.reset.core 8).state = .spare
  ∧ State.reset.silt.next = 0 ∧ State.reset.jrnlTag = State.reset.genesisTag ∧ (∀ a, (State.reset.alarm a).latch = false)
  ∧ ∀ s : State, s.pciIdentity = [(0x00, toLe 4 0xC1241FE7), (0x08, [Config.silicon, 0x00, 0x80, 0x08]), (0x2C, toLe 2 s.boot.subVendor.toNat ++ toLe 2 s.boot.subId.toNat)]

/-- Every step keeps the canonical forms of the byte memories, the tunnel table and the slice table, the five memory regions and the nine cores. The forms are the model's (log entry 3). -/
def Obligations.EveryStepKeepsWellFormedness : Prop := ∀ (s t : State), s.wf = true → step s = .next t → t.wf = true

/-- Every command and event answers a next state, from every state, and leaves the queue of waiting commands alone: none stops the block. That no command stops, and what one does that is not due, is the model's choice (log entries 6, 11 and 35). -/
def Obligations.EveryCommandAnswers : Prop := ∀ (i : Instr) (s : State), ∃ t, exec i s = .next t ∧ t.pending = s.pending

/-- R262: DEV_CONFIG_LOCK sets the lock, no command or event but a cold start clears it, and a cold start does; with it set, a command marked L is DENIED with DETAIL 0x02 when it comes from a slice, and from another origin is checked as without it; a command not marked L is checked as without it. JRNL_PERSIST_CFG, marked L, is open to no slice in the first place. -/
def Obligations.ConfigurationLock : Prop :=
  CarriedOut .devConfigLock infoDevConfigLock checksDevConfigLock Always (fun _ _ _ => []) (fun _ b u => u = { b with lock := true })
  ∧ (∀ (i : Instr) (s t : State), i ≠ .coldStart → s.lock = true → exec i s = .next t → t.lock = true)
  ∧ (∀ (s : State), Gives .coldStart s fun t => t.lock = false)
  ∧ LockRefuses .alarmCfg infoAlarmCfg checksAlarmCfg (fun _ => True)
  ∧ LockRefuses .dpiCfg infoDpiCfg checksDpiCfg (fun _ => True)
  ∧ LockRefuses .marlAgeCfg infoMarlAgeCfg checksMarlAgeCfg (fun _ => True)
  ∧ LockRefuses .marlPoolCfg infoMarlPoolCfg checksMarlPoolCfg (fun _ => True)
  ∧ LockRefuses .marlQueueCfg infoMarlQueueCfg checksMarlQueueCfg (fun _ => True)
  ∧ LockRefuses .memEccCfg infoMemEccCfg checksMemEccCfg (fun _ => True)
  ∧ LockRefuses .netPortCfg infoNetPortCfg checksNetPortCfg (fun _ => True)
  ∧ LockRefuses .pmDomain infoPmDomain checksPmDomain (fun _ => True)
  ∧ LockRefuses .pmLevel infoPmLevel checksPmLevel (fun _ => True)
  ∧ LockRefuses .pmWakeCfg infoPmWakeCfg checksPmWakeCfg (fun _ => True)
  ∧ LockRefuses .portFallbackCfg infoPortFallbackCfg checksPortFallbackCfg (fun _ => True)
  ∧ LockRefuses .portLinkCfg infoPortLinkCfg checksPortLinkCfg (fun _ => True)
  ∧ LockRefuses .portPdCfg infoPortPdCfg checksPortPdCfg (fun _ => True)
  ∧ LockRefuses .ptpCfg infoPtpCfg checksPtpCfg (fun _ => True)
  ∧ LockRefuses .refclkSelect infoRefclkSelect checksRefclkSelect (fun _ => True)
  ∧ LockRefuses .tunAllotCfg infoTunAllotCfg checksTunAllotCfg (fun _ => True)
  ∧ LockRefuses .imageSelect infoImageSelect selectChecks (fun c => c.late = false)
  ∧ infoJrnlPersistCfg.locked = true ∧ (∀ h sl q, infoJrnlPersistCfg.accepts (.mbx h sl) = false ∧ infoJrnlPersistCfg.accepts (.sq h sl q) = false)
  ∧ (∀ (i : CmdInfo) (c : Cmd) (s : State) (k : Checks), i ∈ [infoAlarmAck, infoAlarmRead, infoCounterRead, infoDevConfigLock, infoDevIdentify, infoDmaChAlloc, infoDmaChConfig, infoDmaChCtrl, 
        infoDmaChFree, infoDmaChQuery, infoDmaTimerCfg, infoDpaltBind, infoDpaltUnbind, infoDpiQuery, infoFuseProgram, infoFwActivate, 
        infoFwStage, infoImageWrite, infoJrnlRead, infoLoamHandover, infoBankReadmit, infoBankRetire, infoMemFlipMask, infoMemSoftRepair, 
        infoPmQuery, infoPortJaythRetry, infoPortLinkCtrl, infoPortNotifyBind, infoPortPdQuery, infoPortPdReset, infoPortPdSwap, 
        infoQpCreate, infoQpDestroy, infoQpModify, infoQpQuery, infoQpReset, infoSiltDrainBind, infoSliceDirtyLog, infoSliceDisable, 
        infoSliceEnable, infoSliceFreeze, infoSliceQuery, infoSliceReset, infoSliceRestore, infoSliceSave, infoSnapshot, infoTbQuery, 
        infoTbSet, infoTbSlew, infoTraceCfg, infoTunAdopt, infoTunCreate, infoTunDestroy, infoTunModify, infoTunQuery, infoUsbDevBind, 
        infoUsbDevCtrl, infoUsbDevUnbind, infoUsbEpConfig, infoUsbEpReset, infoUsbEpSetDeq, infoUsbEpStop, infoUsbRootBind, 
        infoUsbRootCtrl, infoUsbRootQuery, infoUsbSlotAlloc, infoUsbSlotFree] →
      i.locked = false ∧ firstFailure i c s k = firstFailure i c { s with lock := false } k)

/-- R263, R264, R250: the checks of a command in their order give its completion when one fails, and then the command has no other effect: the state is as before but for that completion and, for a command that writes a journal entry and failed at step 3, the entry marked refused. (TUN_MODIFY while another modify of its tunnel runs waits for it first, R271; a MEM_SOFT_REPAIR that finds no spare row also raises alarm 15, R408.) -/
def Obligations.RefusedCommandsHaveNoEffect : Prop :=
  RefusedOnly .alarmAck infoAlarmAck checksAlarmAck (fun _ _ => True)
  ∧ RefusedOnly .alarmCfg infoAlarmCfg checksAlarmCfg (fun _ _ => True)
  ∧ RefusedOnly .alarmRead infoAlarmRead (fun c _ => checksAlarmRead c) (fun _ _ => True)
  ∧ RefusedOnly .counterRead infoCounterRead (fun c _ => checksCounterRead c) (fun _ _ => True)
  ∧ RefusedOnly .devConfigLock infoDevConfigLock checksDevConfigLock (fun _ _ => True)
  ∧ RefusedOnly .devIdentify infoDevIdentify (fun c _ => checksDevIdentify c) (fun _ _ => True)
  ∧ RefusedOnly .dmaChAlloc infoDmaChAlloc checksDmaChAlloc (fun _ _ => True)
  ∧ RefusedOnly .dmaChConfig infoDmaChConfig checksDmaChConfig (fun _ _ => True)
  ∧ RefusedOnly .dmaChCtrl infoDmaChCtrl checksDmaChCtrl (fun _ _ => True)
  ∧ RefusedOnly .dmaChFree infoDmaChFree checksDmaChFree (fun _ _ => True)
  ∧ RefusedOnly .dmaChQuery infoDmaChQuery checksDmaChQuery (fun _ _ => True)
  ∧ RefusedOnly .dmaTimerCfg infoDmaTimerCfg checksDmaTimerCfg (fun _ _ => True)
  ∧ RefusedOnly .dpaltBind infoDpaltBind checksDpaltBind (fun _ _ => True)
  ∧ RefusedOnly .dpaltUnbind infoDpaltUnbind checksDpaltUnbind (fun _ _ => True)
  ∧ RefusedOnly .dpiCfg infoDpiCfg checksDpiCfg (fun _ _ => True)
  ∧ RefusedOnly .dpiQuery infoDpiQuery checksDpiQuery (fun _ _ => True)
  ∧ RefusedOnly .fuseProgram infoFuseProgram checksFuseProgram (fun _ _ => True)
  ∧ RefusedOnly .fwActivate infoFwActivate checksFwActivate (fun _ _ => True)
  ∧ RefusedOnly .fwStage infoFwStage checksFwStage (fun _ _ => True)
  ∧ RefusedOnly .imageWrite infoImageWrite checksImageWrite (fun _ _ => True)
  ∧ RefusedOnly .jrnlPersistCfg infoJrnlPersistCfg checksJrnlPersistCfg (fun _ _ => True)
  ∧ RefusedOnly .jrnlRead infoJrnlRead (fun c _ => checksJrnlRead c) (fun _ _ => True)
  ∧ RefusedOnly .loamHandover infoLoamHandover checksLoamHandover (fun _ _ => True)
  ∧ RefusedOnly .marlAgeCfg infoMarlAgeCfg checksMarlAgeCfg (fun _ _ => True)
  ∧ RefusedOnly .marlBankReadmit infoBankReadmit checksMarlBankReadmit (fun _ _ => True)
  ∧ RefusedOnly .marlBankRetire infoBankRetire checksMarlBankRetire (fun _ _ => True)
  ∧ RefusedOnly .marlPoolCfg infoMarlPoolCfg checksMarlPoolCfg (fun _ _ => True)
  ∧ RefusedOnly .marlQueueCfg infoMarlQueueCfg checksMarlQueueCfg (fun _ _ => True)
  ∧ RefusedOnly .memEccCfg infoMemEccCfg checksMemEccCfg (fun _ _ => True)
  ∧ RefusedOnly .memFlipMask infoMemFlipMask checksMemFlipMask (fun _ _ => True)
  ∧ RefusedOnly .memSoftRepair infoMemSoftRepair checksMemSoftRepair (fun c s => firstFailure infoMemSoftRepair c s (checksMemSoftRepair c s) ≠ some (.noResource, 0))
  ∧ RefusedOnly .netPortCfg infoNetPortCfg checksNetPortCfg (fun _ _ => True)
  ∧ RefusedOnly .pmDomain infoPmDomain checksPmDomain (fun _ _ => True)
  ∧ RefusedOnly .pmLevel infoPmLevel checksPmLevel (fun _ _ => True)
  ∧ RefusedOnly .pmQuery infoPmQuery (fun c _ => checksPmQuery c) (fun _ _ => True)
  ∧ RefusedOnly .pmWakeCfg infoPmWakeCfg checksPmWakeCfg (fun _ _ => True)
  ∧ RefusedOnly .portFallbackCfg infoPortFallbackCfg checksPortFallbackCfg (fun _ _ => True)
  ∧ RefusedOnly .portJaythRetry infoPortJaythRetry checksPortJaythRetry (fun _ _ => True)
  ∧ RefusedOnly .portLinkCfg infoPortLinkCfg checksPortLinkCfg (fun _ _ => True)
  ∧ RefusedOnly .portLinkCtrl infoPortLinkCtrl checksPortLinkCtrl (fun _ _ => True)
  ∧ RefusedOnly .portNotifyBind infoPortNotifyBind checksPortNotifyBind (fun _ _ => True)
  ∧ RefusedOnly .portPdCfg infoPortPdCfg checksPortPdCfg (fun _ _ => True)
  ∧ RefusedOnly .portPdQuery infoPortPdQuery (fun c _ => checksPortPdQuery c) (fun _ _ => True)
  ∧ RefusedOnly .portPdReset infoPortPdReset checksPortPdReset (fun _ _ => True)
  ∧ RefusedOnly .portPdSwap infoPortPdSwap checksPortPdSwap (fun _ _ => True)
  ∧ RefusedOnly .ptpCfg infoPtpCfg checksPtpCfg (fun _ _ => True)
  ∧ RefusedOnly .qpCreate infoQpCreate checksQpCreate (fun _ _ => True)
  ∧ RefusedOnly .qpDestroy infoQpDestroy checksQpDestroy (fun _ _ => True)
  ∧ RefusedOnly .qpModify infoQpModify checksQpModify (fun _ _ => True)
  ∧ RefusedOnly .qpQuery infoQpQuery (fun c _ => checksQpQuery c) (fun _ _ => True)
  ∧ RefusedOnly .qpReset infoQpReset checksQpReset (fun _ _ => True)
  ∧ RefusedOnly .refclkSelect infoRefclkSelect checksRefclkSelect (fun _ _ => True)
  ∧ RefusedOnly .siltDrainBind infoSiltDrainBind checksSiltDrainBind (fun _ _ => True)
  ∧ RefusedOnly .sliceDirtyLog infoSliceDirtyLog checksSliceDirtyLog (fun _ _ => True)
  ∧ RefusedOnly .sliceDisable infoSliceDisable (fun c s => checksReset c true s) (fun _ _ => True)
  ∧ RefusedOnly .sliceEnable infoSliceEnable checksSliceEnable (fun _ _ => True)
  ∧ RefusedOnly .sliceFreeze infoSliceFreeze checksSliceFreeze (fun _ _ => True)
  ∧ RefusedOnly .sliceQuery infoSliceQuery (fun c _ => checksSliceQuery c) (fun _ _ => True)
  ∧ RefusedOnly .sliceReset infoSliceReset (fun c s => checksReset c false s) (fun _ _ => True)
  ∧ RefusedOnly .sliceRestore infoSliceRestore checksSliceRestore (fun _ _ => True)
  ∧ RefusedOnly .sliceSave infoSliceSave checksSliceSave (fun _ _ => True)
  ∧ RefusedOnly .snapshot infoSnapshot (fun c _ => checksSnapshot c) (fun _ _ => True)
  ∧ RefusedOnly .tbQuery infoTbQuery (fun c _ => checksTbQuery c) (fun _ _ => True)
  ∧ RefusedOnly .tbSet infoTbSet checksTbSet (fun _ _ => True)
  ∧ RefusedOnly .tbSlew infoTbSlew (fun c _ => checksTbSlew c) (fun _ _ => True)
  ∧ RefusedOnly .traceCfg infoTraceCfg checksTraceCfg (fun _ _ => True)
  ∧ RefusedOnly .tunAdopt infoTunAdopt checksTunAdopt (fun _ _ => True)
  ∧ RefusedOnly .tunAllotCfg infoTunAllotCfg checksTunAllotCfg (fun _ _ => True)
  ∧ RefusedOnly .tunCreate infoTunCreate checksTunCreate (fun _ _ => True)
  ∧ RefusedOnly .tunDestroy infoTunDestroy checksTunDestroy (fun _ _ => True)
  ∧ RefusedOnly .tunModify infoTunModify checksTunModify (fun c s => (s.tunnel (le c.payload 0 2)).modify = none)
  ∧ RefusedOnly .tunQuery infoTunQuery checksTunQuery (fun _ _ => True)
  ∧ RefusedOnly .usbDevBind infoUsbDevBind checksUsbDevBind (fun _ _ => True)
  ∧ RefusedOnly .usbDevCtrl infoUsbDevCtrl checksUsbDevCtrl (fun _ _ => True)
  ∧ RefusedOnly .usbDevUnbind infoUsbDevUnbind checksUsbDevUnbind (fun _ _ => True)
  ∧ RefusedOnly .usbEpConfig infoUsbEpConfig checksUsbEpConfig (fun _ _ => True)
  ∧ RefusedOnly .usbEpReset infoUsbEpReset checksUsbEpReset (fun _ _ => True)
  ∧ RefusedOnly .usbEpSetDeq infoUsbEpSetDeq checksUsbEpSetDeq (fun _ _ => True)
  ∧ RefusedOnly .usbEpStop infoUsbEpStop checksUsbEpStop (fun _ _ => True)
  ∧ RefusedOnly .usbRootBind infoUsbRootBind checksUsbRootBind (fun _ _ => True)
  ∧ RefusedOnly .usbRootCtrl infoUsbRootCtrl checksUsbRootCtrl (fun _ _ => True)
  ∧ RefusedOnly .usbRootQuery infoUsbRootQuery checksUsbRootQuery (fun _ _ => True)
  ∧ RefusedOnly .usbSlotAlloc infoUsbSlotAlloc checksUsbSlotAlloc (fun _ _ => True)
  ∧ RefusedOnly .usbSlotFree infoUsbSlotFree checksUsbSlotFree (fun _ _ => True)
  ∧ RefusedOnly .imageSelect infoImageSelect selectChecks (fun c _ => c.late = false)
  ∧ (∀ (i : CmdInfo) (c : Cmd) (s : State) (k : Checks),
      (c.payload.length < i.len → firstFailure i c s k = some (.malformed, 0))
        ∧ (i.len ≤ c.payload.length → ∀ off, k.bad = some off → firstFailure i c s k = some (.malformed, min off 255))
        ∧ (i.len ≤ c.payload.length → k.bad = none → s.genOk c = false → firstFailure i c s k = some (.staleGeneration, 0))
        ∧ (i.len ≤ c.payload.length → k.bad = none → s.genOk c = true → i.accepts c.route = false → firstFailure i c s k = some (.denied, 1))
        ∧ (i.len ≤ c.payload.length → k.bad = none → s.genOk c = true → i.accepts c.route = true → k.deny = none → (i.locked = false ∨ s.lock = false) →
            k.owned = false → firstFailure i c s k = some (.denied, 3)))

/-- R416: the TAG of a journal entry is the first 8 bytes of SHA-256 over the TAG before it and bytes 0 to 23 of the entry; the tag before JIDX 0 is the genesis tag, the first 8 bytes of SHA-256 over the ASCII string VEXAD-AX1224-JOURNAL and the 6 bytes of the serial number, least significant first, as DEV_IDENTIFY returns them in result bytes 16 to 21. -/
def Obligations.JournalEntriesAreChained : Prop :=
  (∀ (s : State) (r : JReq), let t := s.commit r
      let head := r.head s.now
      let e := (Tab.get {} t.silt.ring (s.silt.next % 8192)).bytes
      head.length = 24 ∧ e = head ++ (sha256 (s.jrnlTag ++ head)).take 8 ∧ t.jrnlTag = (sha256 (s.jrnlTag ++ head)).take 8 ∧ t.silt.next = s.silt.next + 1)
  ∧ (∀ (s : State), s.silt.next = 0 → s.jrnlTag = (sha256 ([0x56, 0x45, 0x58, 0x41, 0x44, 0x2D, 0x41, 0x58, 0x31, 0x32, 0x32, 0x34, 0x2D, 0x4A, 0x4F, 0x55, 0x52, 0x4E, 0x41, 0x4C]
      ++ toLe 6 s.boot.serial.toNat)).take 8)
  ∧ (∃ first : State → List Byte, (∀ u, (first u).length = 16)
      ∧ CarriedOut .devIdentify infoDevIdentify (fun c _ => checksDevIdentify c) Always (fun _ _ u => first u ++ toLe 6 u.boot.serial.toNat) (fun _ b u => u = b))

/-- R12, R17, R274, R275: DEV_IDENTIFY, DEV_CONFIG_LOCK, COUNTER_READ and SNAPSHOT, whenever they may be carried out, complete OK with the result bytes of Table 10-8; DEV_CONFIG_LOCK sets the lock and nothing else; a capture that goes to a buffer of host software or of the management controller changes nothing but the gauges that clear on read and that buffer. -/
def Obligations.DeviceCommandsComplete : Prop :=
  CarriedOut .devIdentify infoDevIdentify (fun c _ => checksDevIdentify c) Always
    (fun _ _ u => toLe 2 0x1FE7 ++ toLe 2 0xC124 ++ [Config.silicon] ++ toLe 1 (bits u.boot.options0.toNat 0 0)
      ++ toLe 1 (bits u.boot.running.toNat 31 24) ++ toLe 1 (bits u.boot.running.toNat 23 16) ++ toLe 4 u.cap3
      ++ toLe 4 (flag u.boot.released + 2 * flag u.lock) ++ toLe 6 u.boot.serial.toNat)
    (fun _ b u => u = b)
  ∧ CarriedOut .devConfigLock infoDevConfigLock checksDevConfigLock Always (fun _ _ _ => []) (fun _ b u => u = { b with lock := true })
  ∧ CarriedOut .counterRead infoCounterRead (fun c _ => checksCounterRead c) (fun c _ => c.accessFailed = false ∧ c.route ≠ .diag)
      (fun c s _ =>
        let b := s.carried infoCounterRead c (checksCounterRead c)
        let all := ((b.counters (byteAt c.payload 0) (byteAt c.payload 1) (c.smallSlice.map Prod.snd)).map fun v => toLe 8 v.toNat).flatten
        toLe 4 (all.take (le c.payload 16 4)).length ++ toLe 4 0 ++ toLe 8 (b.captureTime (byteAt c.payload 0)).1.toNat)
      (fun _ b u => u.ports = b.ports ∧ u.tunnels = b.tunnels ∧ u.xfer = b.xfer ∧ u.power = b.power ∧ u.mem = b.mem ∧ u.silt = b.silt
        ∧ u.cluster = b.cluster ∧ u.clock = b.clock ∧ u.boot = b.boot ∧ u.lock = b.lock)
  ∧ CarriedOut .snapshot infoSnapshot (fun c _ => checksSnapshot c) (fun c _ => c.accessFailed = false ∧ c.route ≠ .diag)
      (fun c s _ =>
        let a := byteAt c.payload 0
        let b := s.carried infoSnapshot c (checksSnapshot c)
        let all := (((agentGroups a).map fun g => b.counters a g (c.smallSlice.map Prod.snd)).flatten.map fun v => toLe 8 v.toNat).flatten
        putBytes (toLe 4 (all.take (le c.payload 16 4)).length ++ toLe 4 0 ++ toLe 8 (b.captureTime a).1.toNat) 4 (toLe 1 (flag (b.captureTime a).2)))
      (fun _ b u => u.ports = b.ports ∧ u.tunnels = b.tunnels ∧ u.xfer = b.xfer ∧ u.power = b.power ∧ u.mem = b.mem ∧ u.silt = b.silt
        ∧ u.cluster = b.cluster ∧ u.clock = b.clock ∧ u.boot = b.boot ∧ u.lock = b.lock)

/-- R134, R136, R137, R139: MARL_POOL_CFG, MARL_QUEUE_CFG and MARL_AGE_CFG, whenever they may be carried out, complete OK and set the values of their payload: POOL_MIN and SHARE_MAX of the class; QCAP of the queue, or of both queues of a USB class; the age limit of the class (with 0xFF none) and the sweep round, where the payload gives one. Every other pool, queue and limit stays as it was, and so does everything outside the switch. -/
def Obligations.SwitchCommandsComplete : Prop :=
  CarriedOut .marlPoolCfg infoMarlPoolCfg checksMarlPoolCfg Always (fun _ _ u => toLe 4 u.sharedSize)
    (fun c b u =>
      let k := byteAt c.payload 0
      (u.pool k).min = le c.payload 4 4 ∧ (u.pool k).shareMax = le c.payload 8 4 ∧ (u.pool k).used = (b.pool k).used
        ∧ (∀ j, j ≠ k → u.pool j = b.pool j) ∧ u = { b with marl := { b.marl with pools := u.marl.pools } })
  ∧ CarriedOut .marlQueueCfg infoMarlQueueCfg checksMarlQueueCfg Always (fun _ _ _ => [])
    (fun c b u =>
      let a := byteAt c.payload 0
      let named := queuesNamed a (byteAt c.payload 1)
      (∀ q ∈ named, u.egq a q = { b.egq a q with qcap := le c.payload 4 4 })
        ∧ (∀ q, q ∉ named → u.egq a q = b.egq a q) ∧ u = { b with marl := { b.marl with queues := u.marl.queues } })
  ∧ CarriedOut .marlAgeCfg infoMarlAgeCfg checksMarlAgeCfg Always (fun _ _ _ => [])
    (fun c b u =>
      let k := byteAt c.payload 0
      u.marl.sweepUs = (if le c.payload 8 4 = 0 then b.marl.sweepUs else le c.payload 8 4)
        ∧ (k ≤ 6 → u.ageLimit k = le c.payload 4 4) ∧ (∀ j, j ≠ k → u.ageLimit j = b.ageLimit j)
        ∧ u = { b with marl := u.marl } ∧ u.marl.pools = b.marl.pools ∧ u.marl.queues = b.marl.queues ∧ u.marl.banks = b.marl.banks)

/-- R268, R269, R107: TUN_CREATE, whenever it may be carried out, takes the lowest free entry and the lowest free TUN of the port and leaves the entry OPENING with the values of the payload, with every other entry as it was; where TERM_INFO has arrived and the plan does not wait, TUN_OPEN goes and the TUN counts as used; a create for the plan completes OK at once with the result bytes of R269. -/
def Obligations.TunnelCreateOpensAnEntry : Prop :=
  Begun .tunCreate infoTunCreate checksTunCreate Always (fun c b t =>
    let p := c.payload
    let tid := b.freeTid.getD 0
    let tun := (b.freeTun (byteAt p 0)).getD 1
    let x := t.tunnel tid
    x.state = .opening ∧ x.port = byteAt p 0 ∧ x.tun = tun ∧ x.gen = (b.tunnel tid).gen ∧ x.cls = bits (byteAt p 2) 2 0
      ∧ x.owner = ownerNamed c.route (le p 16 2) ∧ x.rsvIn = le p 6 2
      ∧ x.rsvOut = (if bits (byteAt p 2) 2 0 = 0 then dispFlits (modeOf p) else le p 4 2) ∧ x.clientRef = BitVec.ofNat 32 (le p 12 4)
      ∧ x.notifyQ = byteAt p 3 ∧ x.notifyTag = c.tag
      ∧ (x.planWait = false → (b.port (byteAt p 0)).termInfo.isSome = true → ((t.port (byteAt p 0)).tun tun).used = true) ∧ ∀ j, j ≠ tid → t.tunnel j = b.tunnel j)
  ∧ CarriedOut .tunCreate infoTunCreate checksTunCreate (fun c _ => planRoute c.route = true) (fun _ s u => u.createResult (s.freeTid.getD 0))
    (fun _ b u => (u.tunnel (b.freeTid.getD 0)).state = .opening ∧ (u.tunnel (b.freeTid.getD 0)).create = none)

/-- R98, R105, R120, R270, R271, Table 4-9, Table 10-7: TUN_MODIFY, TUN_QUERY, TUN_ADOPT and TUN_ALLOT_CFG, whenever they may be carried out. A modify of a tunnel with none in progress sets the outbound reservation and weight and PERSIST at once; one that finds another in progress waits behind it. A query gives the entry and changes nothing. An adopt gives the plan tunnel to the owner named and keeps the rest of the entry. An allotment command writes the fields whose MASK bit is 1 and nothing else. A destroy leaves the entry CLOSING, or FREE with its generation one higher. The state codes of a query are deduced from Table 4-9 (log entry 12). -/
def Obligations.TunnelCommandsComplete : Prop :=
  Begun .tunModify infoTunModify checksTunModify (fun c s => (s.tunnel (le c.payload 0 2)).modify = none) (fun c b t =>
    let tid := le c.payload 0 2
    let n := (b.tunnel tid).modified c.payload
    (t.tunnel tid).rsvOut = n.rsvOut ∧ (t.tunnel tid).wOut = n.wOut ∧ (t.tunnel tid).persist = n.persist ∧ (t.tunnel tid).modify.isSome = true)
  ∧ (∀ (c : Cmd) (s : State) (tid : Nat), tid = le c.payload 0 2 → (s.tunnel tid).modify.isSome = true → (s.tunnel tid).state = .opened →
      (s.tunnel tid).gen = BitVec.ofNat 8 (byteAt c.payload 2) → s.waitsCtrl infoTunModify c = false → firstFailure infoTunModify c s { checksTunModify c s with refuse := none } = none →
      exec (.tunModify c) s = .next ((s.startCmd c 0x0203).modTunnel tid fun x => { x with queued := x.queued ++ [c] }))
  ∧ CarriedOut .tunQuery infoTunQuery checksTunQuery Always (fun c s _ =>
      let t := s.tunnel (le c.payload 0 2)
      toLe 2 (le c.payload 0 2) ++ toLe 1 t.port ++ toLe 2 t.tun
        ++ toLe 1 (t.cls + 8 * flag t.periodic + 16 * t.dirs.toNat + 64 * flag (decide (t.owner = .plan)) + 128 * flag t.persist)
        ++ toLe 1 t.state.ctorIdx ++ [t.gen] ++ toLe 2 t.owner.code ++ toLe 2 t.key.toNat ++ toLe 2 t.rsvOut ++ toLe 2 t.rsvIn
        ++ toLe 1 t.wOut ++ toLe 1 t.wIn ++ toLe 4 t.clientRef.toNat ++ toLe 1 t.notifyQ)
    (fun _ b u => u = b)
  ∧ CarriedOut .tunAdopt infoTunAdopt checksTunAdopt Always (fun c s _ => [(s.tunnel (le c.payload 0 2)).gen]) (fun c b u =>
    let tid := le c.payload 0 2
    u.tunnel tid = { b.tunnel tid with owner := ownerNamed c.route (le c.payload 4 2), notifyQ := byteAt c.payload 3, notifyTag := c.tag }
      ∧ (∀ j, j ≠ tid → u.tunnel j = b.tunnel j) ∧ u = { b with tunnels := u.tunnels })
  ∧ CarriedOut .tunAllotCfg infoTunAllotCfg checksTunAllotCfg Always (fun _ _ _ => []) (fun c b u =>
    let p := c.payload
    let m := byteAt p 1
    let a := (b.port (byteAt p 0)).allot
    let n := (u.port (byteAt p 0)).allot
    n.turnThresh = (if bitOf m 0 then le p 2 2 else a.turnThresh) ∧ n.turnCycles = (if bitOf m 1 then byteAt p 4 else a.turnCycles)
      ∧ n.holdCycles = (if bitOf m 2 then le p 6 2 else a.holdCycles) ∧ n.homeCycles = (if bitOf m 3 then le p 8 2 else a.homeCycles)
      ∧ n.orphanWin = (if bitOf m 4 then le p 10 2 else a.orphanWin) ∧ (u.port (byteAt p 0)) = { b.port (byteAt p 0) with allot := n }
      ∧ (∀ j, j ≠ byteAt p 0 → u.port j = b.port j) ∧ u = { b with ports := u.ports })
  ∧ Begun .tunDestroy infoTunDestroy checksTunDestroy (fun _ s => s.tunWf = true) (fun c b t =>
    let tid := le c.payload 0 2
    ((t.tunnel tid).state = .closing ∧ (t.tunnel tid).gen = (b.tunnel tid).gen ∧ (t.tunnel tid).destroy = some c)
      ∨ ((t.tunnel tid).state = .free ∧ (t.tunnel tid).gen = (b.tunnel tid).gen + 1))

/-- R44, R45, R49, R75, R231, R273, R493: PORT_LINK_CTRL, PORT_LINK_CFG and PORT_NOTIFY_BIND, whenever they may be carried out, answer the next state in which the command has completed OK. RECAL begins a lane change or defers it (on a lane that is in neither direction, with no change under way, there is none to begin); EXCLUDE sets the lane's bit in the exclusion record, and on an ACTIVE link begins the change or holds it for a cycle start; INCLUDE clears the lane's bit there and its lock; CLEAR_EQ forgets the lane's stored sets; RETRAIN goes to DETECT, or to DISABLED from FAILED. PORT_LINK_CFG writes the fields whose MASK bit is 1; MAX_RATE set ends a lowered maximum and the failure counts. A bind gives the port's notices of that host port to the queue, with the command's TAG; an unbind of that queue ends it. -/
def Obligations.LinkCommandsComplete : Prop :=
  (∀ (c : Cmd) (s : State), s.mayCarry infoPortLinkCtrl c (checksPortLinkCtrl c s) = true →
    let b := s.carried infoPortLinkCtrl c (checksPortLinkCtrl c s)
    let p := byteAt c.payload 0
    let l := byteAt c.payload 2
    ∃ u detail, exec (.portLinkCtrl c) s = .next ((u.endCmd c 0x0305).deliver c .ok 0 [BitVec.ofNat 8 detail]) ∧ u.isRunning c 0x0305 = true ∧
      match byteAt c.payload 1 with
      | 1 => detail = flag ((u.port p).lane l).recalDeferred
          ∧ ((u.port p).transit.isSome = true ∨ ((u.port p).lane l).recalDeferred = true
            ∨ ((b.port p).laneDir l = none ∧ (b.port p).transit = none ∧ u = b))
      | 2 => detail = ((b.modPort p fun x => x.laneChange 2 l).exclude p l).2
          ∧ (u.port p).exclRec = (b.port p).exclRec ||| laneBit l
          ∧ (b.linkUp p = true → (detail = 0 ∧ ∃ t, (u.port p).transit = some t ∧ t.lane = l ∧ t.kind = .exclude)
              ∨ (detail = 1 ∧ (u.port p).defExcl = some l))
      | 3 => detail = 0 ∧ (u.port p).exclRec = (b.port p).exclRec &&& ~~~(laneBit l) ∧ (u.port p).lockRec = (b.port p).lockRec &&& ~~~(laneBit l)
          ∧ (∀ j, j ≠ p → u.port j = b.port j) ∧ u = { b with ports := u.ports }
      | 4 => detail = 0 ∧ u.port p = (b.port p).modLane l (fun v => { v with sets := [] })
          ∧ (∀ j, j ≠ p → u.port j = b.port j) ∧ u = { b with ports := u.ports }
      | _ => detail = 0 ∧ (u.port p).train.state = if (b.port p).train.state = .failed then .disabled else .detect)
  ∧ (∀ (c : Cmd) (s : State), s.mayCarry infoPortLinkCfg c (checksPortLinkCfg c s) = true →
    let b := s.carried infoPortLinkCfg c (checksPortLinkCfg c s)
    let p := byteAt c.payload 0
    ∃ u : State, exec (.portLinkCfg c) s = .next ((u.endCmd c 0x0307).deliver c .ok 0 []) ∧ u.isRunning c 0x0307 = true
      ∧ (u.port p).link = (b.port p).link.after c.payload
      ∧ (bitOf (byteAt c.payload 1) 0 = true → (u.port p).train = (b.port p).train.clearCounts)
      ∧ (bitOf (byteAt c.payload 1) 0 = false → (u.port p).train = (b.port p).train)
      ∧ (∀ j, j ≠ p → u.port j = b.port j) ∧ u = { b with ports := u.ports })
  ∧ (∀ (c : Cmd) (s : State), s.mayCarry infoPortNotifyBind c (checksPortNotifyBind c s) = true →
    let b := s.carried infoPortNotifyBind c (checksPortNotifyBind c s)
    let p := byteAt c.payload 0
    let bind (s : State) (h : Nat) : Option (Nat × BitVec 16) := if h = 0 then (s.port p).pd.bind0 else (s.port p).pd.bind1
    let h := c.home.1
    ∃ u : State, exec (.portNotifyBind c) s = .next ((u.endCmd c 0x0306).deliver c .ok 0 []) ∧ u.isRunning c 0x0306 = true
      ∧ bind u h = (if bitOf (byteAt c.payload 2) 0 then some (byteAt c.payload 1, c.tag)
                    else if (bind b h).map Prod.fst = some (byteAt c.payload 1) then none else bind b h)
      ∧ (∀ g, (g = 0 ↔ h ≠ 0) → bind u g = bind b g) ∧ (∀ j, j ≠ p → u.port j = b.port j) ∧ u = { b with ports := u.ports })

/-- R208, R183, R219, R230, R186, R272: the PD and fallback commands, whenever they may be carried out. PORT_PD_CFG replaces each setting whose MASK bit is 1 by the payload's byte and keeps the others; PORT_FALLBACK_CFG sets the fallback settings, and nothing else of the port; PORT_PD_QUERY gives Table 10-9 and changes nothing; each completes OK. PORT_PD_SWAP holds the port's swap until it ends, and outside the wait of tSinkTx sends the request at once. PORT_PD_RESET sends Soft_Reset (SOFT) and awaits its Accept, goes through a Hard Reset (HARD) that ends the contract and starts tPSHardReset as source, tNoResponse as sink, enters ErrorRecovery, or detaches (REINIT without a contract). PORT_JAYTH_RETRY on a port with the Jayth mode enabled leaves every mode and waits for discovery. -/
def Obligations.PdCommandsTakeEffect : Prop :=
  CarriedOut .portPdCfg infoPortPdCfg checksPortPdCfg Always (fun _ _ _ => []) (fun c b u =>
      let p := byteAt c.payload 0
      (∀ k, k < 15 → (u.port p).pd.cfg.bytes.getD k 0 =
          if bitOf (le c.payload 4 2) k then c.payload.getD (8 + k) 0 else (b.port p).pd.cfg.bytes.getD k 0)
        ∧ (∃ due, (u.port p).pd = { (b.port p).pd with cfg := (u.port p).pd.cfg, capsDue := due })
        ∧ (∀ j, j ≠ p → u.port j = b.port j) ∧ u = { b with ports := u.ports })
  ∧ CarriedOut .portFallbackCfg infoPortFallbackCfg checksPortFallbackCfg Always (fun _ _ _ => []) (fun c b u =>
      let p := byteAt c.payload 0
      let f := byteAt c.payload 1
      u.port p = { b.port p with pd := { (b.port p).pd with fb :=
          { jaythEn := bitOf f 0, hostEn := bitOf f 1, ssEn := bitOf f 2, devEn := bitOf f 3, dpaltEn := bitOf f 4, prefD := bitOf f 5
            dpaltSrc := BitVec.ofNat 5 (byteAt c.payload 2) } } }
        ∧ (∀ j, j ≠ p → u.port j = b.port j) ∧ u = { b with ports := u.ports })
  ∧ CarriedOut .portPdQuery infoPortPdQuery (fun c _ => checksPortPdQuery c) Always (fun c s _ =>
      let x := s.port (byteAt c.payload 0)
      let d := x.pd
      let k := d.contract.getD (0, 0, false)
      toLe 1 (flag d.roles.source + 2 * flag d.roles.dfp + 4 * flag d.roles.vconn + 8 * flag d.flipped + 16 * flag d.epr
          + 32 * flag d.lockout + 64 * flag d.pdOff)
        ++ toLe 1 k.1 ++ toLe 2 k.2.1 ++ toLe 1 d.mode.ctorIdx ++ toLe 1 x.train.state.ctorIdx ++ toLe 1 x.train.rateSel.code
        ++ toLe 1 (x.outSet.toNat + 16 * x.exclRec.toNat) ++ toLe 4 x.train.rtt ++ (x.train.peer.getD {}).bytes)
      (fun _ b u => u = b)
  ∧ Begun .portPdSwap infoPortPdSwap checksPortPdSwap Always (fun c b t =>
      let p := byteAt c.payload 0
      let kind := byteAt c.payload 1
      let d := (b.port p).pd
      (t.port p).pd.swap = some { kind := kind, own := true, before := d.roles, cmd := some c }
        ∧ (t.out = if d.pd3 && d.roles.source && !d.sinkTxNg then b.out
            else .pd p 0 0 (if kind = 1 then 10 else if kind = 2 then 9 else 11) [] :: b.out)
        ∧ (∀ j, j ≠ p → t.port j = b.port j) ∧ t = { b with ports := t.ports, out := t.out })
  ∧ Begun .portPdReset infoPortPdReset checksPortPdReset Always (fun c b t =>
      let p := byteAt c.payload 0
      let d := (t.port p).pd
      match byteAt c.payload 1 with
      | 1 => (∃ o, t.out = .pd p 0 0 13 [] :: o) ∧ d.resetCmd = some c ∧ d.awaiting = 2 ∧ d.contract = (b.port p).pd.contract
      | 2 => d.contract = none ∧ d.epr = false ∧ (if d.roles.source then d.timer tPsHardReset = some (t.after 30000000) else d.timer tNoResponse = some (t.after 5000000000))
      | 3 => d.conn = .errorRecovery ∧ d.timer tErrorRecovery = some (t.after 30000000)
      | _ => (b.port p).pd.contract = none → d.conn = .unattached ∧ d.contract = none)
  ∧ Begun .portJaythRetry infoPortJaythRetry checksPortJaythRetry
      (fun c s => let d := (s.port (byteAt c.payload 0)).pd; d.fb.jaythEn = true ∧ d.pdOff = false) (fun c _ t =>
      let d := (t.port (byteAt c.payload 0)).pd
      d.retryCmd = some c ∧ d.mode = .none ∧ d.timer tRetryLimit = some (t.after 2000000000))

/-- R29, R182, R204, R205, R206, R208, R212, R214: CC_ATTACH, after release, on a port that is unattached and may take the power role, leaves it attached with the roles and the orientation of the attach, as source with the source path closed and VCONN on the CC pin not used, and with Rp at RP_LEVEL. A DRP port with TRY_SRC=1 that finds a source begins Try.SRC instead; there a sink found makes it the source, and when tTryTimeout ends it without one, TryWait.SNK; there a source found makes it the sink. An attach that may not be, changes nothing. CC_DETACH leaves the port unattached with the lockouts cleared. The Jayth mode is enabled on the port here and PD in use (else native fallback follows at once). In the Jayth mode the D+/D- transceiver is off and SBU1 and SBU2 carry nothing; an unattached DRP port toggles, a source shows Rp and a sink Rd. What CC_ATTACH does during Try.SRC is deduced (log entry 161). Until release every CC pin is open. -/
def Obligations.TypeCAttachAndDetach : Prop :=
  (∀ (port : Fin 12) (source flipped : Bool) (s : State), s.ccHeld = false → (s.port port).pd.mayAttach source = true →
      ((s.port port).pd.conn = .unattached ∧ (source = true ∨ (s.port port).pd.triesSrc = false)
        ∨ (s.port port).pd.conn = .trySrc ∧ source = true ∨ (s.port port).pd.conn = .tryWaitSnk ∧ source = false) →
      (s.port port).pd.fb.jaythEn = true → (s.port port).pd.pdOff = false →
    Gives (.ccAttach port source flipped) s fun t =>
      let d := (t.port port).pd
      d.conn = (if source then .attachedSrc else .attachedSnk) ∧ d.flipped = flipped ∧ d.roles = { source := source, dfp := source, vconn := source }
        ∧ d.pins.srcEn = source ∧ d.pins.vconn1 = (source && flipped) ∧ d.pins.vconn2 = (source && !flipped) ∧ d.mode = .none
        ∧ d.rp = d.cfg.rpLevel ∧ d.ccUse = (if source then .rp d.rp else .rd)
        ∧ d.contract = none ∧ (∀ j, j ≠ port.val → t.port j = s.port j) ∧ t.tunnels = s.tunnels ∧ t.xfer = s.xfer ∧ t.marl = s.marl)
  ∧ (∀ (port : Fin 12) (flipped : Bool) (s : State), s.ccHeld = false → (s.port port).pd.conn = .unattached →
      (s.port port).pd.mayAttach false = true → (s.port port).pd.triesSrc = true →
    Gives (.ccAttach port false flipped) s fun t =>
      let d := (t.port port).pd
      d.conn = .trySrc ∧ d.ccUse = .rp d.cfg.rpLevel ∧ d.timer tDrpTry = some (s.after 100000000) ∧ d.timer tTryTimeout = some (s.after 600000000)
        ∧ d.pins.srcEn = false ∧ (∀ j, j ≠ port.val → t.port j = s.port j) ∧ t = { s with ports := t.ports })
  ∧ (∀ (port : Fin 12) (s : State), (s.port port).pd.conn = .trySrc → s.due ((s.port port).pd.timer tTryTimeout) = true →
    Gives (.pdTimerExpiry port tTryTimeout) s fun t =>
      (t.port port).pd.conn = .tryWaitSnk ∧ (t.port port).pd.ccUse = .rd ∧ (t.port port).pd.timer tTryTimeout = none ∧ (t.port port).pd.timer tDrpTry = none)
  ∧ (∀ (port : Fin 12) (source flipped : Bool) (s : State), let d := (s.port port).pd
      s.ccHeld = true ∨ d.mayAttach source = false ∨ d.conn = .trySrc ∧ source = false ∨ d.conn = .tryWaitSnk ∧ source = true
        ∨ d.conn = .attachedSrc ∨ d.conn = .attachedSnk ∨ d.conn = .errorRecovery →
      exec (.ccAttach port source flipped) s = .next s)
  ∧ (∀ (port : Fin 12) (s : State), (s.port port).pd.conn ≠ .unattached → Gives (.ccDetach port) s fun t =>
      let d := (t.port port).pd
      d.conn = .unattached ∧ d.lockout = false ∧ d.pdOff = false ∧ d.faultTimes = [] ∧ d.errTimes = [])
  ∧ (∀ (port : Fin 12) (s : State), (s.port port).pd.conn = .unattached → Gives (.ccDetach port) s fun t =>
      (t.port port).pd = { (s.port port).pd with lockout := false, pdOff := false, faultTimes := [], errTimes := [] }
        ∧ (∀ j, j ≠ port.val → t.port j = s.port j) ∧ t.out = s.out ∧ t.tunnels = s.tunnels)
  ∧ (∀ (s : State) (p : Nat), (s.port p).pd.mode = .jayth → (s.portIo p).usb2 = .off ∧ (s.portIo p).sbuAux = false ∧ (s.portIo p).ssRx = .off)
  ∧ (∀ (s : State) (p : Nat), s.boot.released = false ∨ s.boot.fuseLoaded = false → s.ccHeld = true ∧ (s.portIo p).cc = .openCc)
  ∧ (∀ (d : Pd), d.conn = .unattached → d.cfg.portMode = 0 → d.lockout = false → d.ccUse = .toggle)

/-- R207, R209, R210, R215, R216, R221, R222: the events of Power Delivery. Get_Source_Cap is answered with Source_Capabilities; a Request for an offered supply within its current is accepted and its transition timer started, another is rejected. A Hard Reset received, and the EPR keep-alive timeout, end the contract. A timer that expires stops; the end of tSrcTransition drives the new voltage. Want of a response gives Soft_Reset. A swap answered Wait is requested again. A Fast Role Swap signal enables the 5 V path and sends FR_Swap. New Source_Capabilities go out after a change of the stage's limits, in EPR as the first chunk of 26 bytes of an extended message; a chunk that the partner asks for is sent. Under a 5 V contract BIST Carrier Mode holds for tBISTContMode, and no message is handled then; as source in EPR Ping goes every tSourceActivity (those two times, and the chunk header, are presumed, log entry 160). An event that is not due, or finds nothing to act on, has no effect (the model's choice, log entry 6). -/
def Obligations.PowerDeliveryEvents : Prop :=
  (∀ (port : Fin 12) (bytes : List Byte) (s : State), (s.port port).pd.pdOff = false →
      ((s.port port).pd.conn = .attachedSrc ∨ (s.port port).pd.conn = .attachedSnk) → le bytes 0 2 % 32 = 7 → bits (le bytes 0 2) 14 12 = 0 →
      bitOf (le bytes 0 2) 15 = false → (s.port port).pd.bist = 0 →
    Gives (.pdMessageReceived port 0 bytes) s fun t => t.out = .pd port 0 1 1 ((t.port port).pd.capsBytes false) :: s.out)
  ∧ (∀ (port : Fin 12) (bytes : List Byte) (s : State), (s.port port).pd.pdOff = false →
      ((s.port port).pd.conn = .attachedSrc ∨ (s.port port).pd.conn = .attachedSnk) → le bytes 0 2 % 32 = 2 → bits (le bytes 0 2) 14 12 ≠ 0 →
      bitOf (le bytes 0 2) 15 = false → (s.port port).pd.roles.source = true → (s.port port).pd.nego = none → (s.port port).pd.swap = none →
      (s.port port).pd.epr = false → (s.port port).pd.awaiting ≠ 3 → (s.port port).pd.bist = 0 →
    Gives (.pdMessageReceived port 0 bytes) s fun t =>
      let rdo := le bytes 2 4
      match (s.port port).pd.atPosition (rdo / 2 ^ 28) with
      | some code =>
        if bits rdo 19 10 ≤ (s.port port).pd.offer code then
          t.out = .pd port 0 0 3 [] :: s.out ∧ (t.port port).pd.nego = some (code, bits rdo 19 10, false)
            ∧ (t.port port).pd.timer tSrcTransition = some (s.after 30000000)
        else t.out = .pd port 0 0 4 [] :: s.out ∧ (t.port port).pd.nego = none
      | none => t.out = .pd port 0 0 4 [] :: s.out ∧ (t.port port).pd.nego = none)
  ∧ (∀ (port : Fin 12) (s : State), (s.port port).pd.pdOff = false →
      ((s.port port).pd.conn = .attachedSrc ∨ (s.port port).pd.conn = .attachedSnk) →
    Gives (.hardResetReceived port) s fun t => let d := (t.port port).pd
      d.contract = none ∧ d.epr = false ∧ d.roles = (s.port port).pd.resetRoles
        ∧ (if d.roles.source then d.timer tPsHardReset = some (t.after 30000000) else d.timer tNoResponse = some (t.after 5000000000)))
  ∧ (∀ (port : Fin 12) (s : State), (s.port port).pd.epr = true → s.due (s.port port).pd.eprDue = true →
    Gives (.eprKeepaliveTimeout port) s fun t => (t.port port).pd.contract = none ∧ (t.port port).pd.epr = false)
  ∧ (∀ (port : Fin 12) (n : Nat) (s : State), s.due ((s.port port).pd.timer n) = false → exec (.pdTimerExpiry port n) s = .next s)
  ∧ (∀ (port : Fin 12) (k : Nat × Nat × Bool) (s : State), s.due ((s.port port).pd.timer tSrcTransition) = true → (s.port port).pd.nego = some k →
    Gives (.pdTimerExpiry port tSrcTransition) s fun t =>
      let d := (t.port port).pd
      d.pins = { (s.port port).pd.pins with vsel := k.1 } ∧ d.transit = some (vselMv k.1, 0, s.after 250000000) ∧ d.timer tSrcTransition = none
        ∧ t.out = s.out ∧ (∀ j, j ≠ port.val → t.port j = s.port j) ∧ t.tunnels = s.tunnels)
  ∧ (∀ (port : Fin 12) (s : State), s.due ((s.port port).pd.timer tErrorRecovery) = true →
    Gives (.pdTimerExpiry port tErrorRecovery) s fun t => (t.port port).pd.conn = .unattached ∧ (t.port port).pd.timer tErrorRecovery = none)
  ∧ (∀ (port : Fin 12) (n : Nat) (s : State), (n = tPsSourceOff ∨ n = tPsSourceOn) → s.due ((s.port port).pd.timer n) = true →
    Gives (.pdTimerExpiry port n) s fun t => (t.port port).pd.conn = .errorRecovery)
  ∧ (∀ (port : Fin 12) (unacked : Bool) (s : State), (s.port port).pd.pdOff = false →
      ((s.port port).pd.conn = .attachedSrc ∨ (s.port port).pd.conn = .attachedSnk) → unacked = true ∨ s.due (s.port port).pd.senderDue = true →
      (s.port port).pd.awaiting ≠ 2 → (s.port port).pd.awaiting ≠ 3 → (∀ w, (s.port port).pd.swap = some w → w.kind ≠ 4) →
    Gives (.senderResponseTimeout port unacked) s fun t =>
      (∃ o, t.out = .pd port 0 0 13 [] :: o) ∧ (t.port port).pd.awaiting = 2 ∧ (t.port port).pd.contract = (s.port port).pd.contract)
  ∧ (∀ (port : Fin 12) (w : Swap) (s : State), (s.port port).pd.parked = some w → (s.port port).pd.swap = none → s.due w.retryDue = true →
    Gives (.swapRetryExpiry port) s fun t =>
      (t.port port).pd.parked = none ∧ (t.port port).pd.swap = some { w with retryDue := none, before := (s.port port).pd.roles }
        ∧ t = { s with ports := t.ports, out := t.out })
  ∧ (∀ (port : Fin 12) (s : State), let d := (s.port port).pd
      d.conn ≠ .unattached → d.pdOff = false → d.pd3 = true → d.cfg.frsEn = true → d.roles.source = false → d.contract.isSome = true →
      (∀ w, d.swap = some w → w.kind ≠ 4) →
    Gives (.frsSignal port) s fun t =>
      let e := (t.port port).pd
      e.pins = { d.pins with frsEn := true, vsel := 0 } ∧ e.swap = some { kind := 4, own := true, before := d.roles } ∧ e.awaiting = 1
        ∧ ∃ o, t.out = .pd port 0 0 19 [] :: o)
  ∧ (∀ (port : Fin 12) (s : State), let d := (s.port port).pd
      d.capsDue.isSome = true → d.roles.source = true → d.contract.isSome = true → d.nego = none → d.swap = none → d.ams = 0 →
      (d.pd3 = false ∨ d.sinkTxNg = true) →
    Gives (.sourceCapsUpdate port) s fun t =>
      (t.port port).pd.capsDue = none ∧ (t.port port).pd.caps = d.caps + 1
        ∧ t.out = (if d.epr then .pd port 0 2 17 (extHeader (d.capsBytes true).length 0 false ++ (d.capsBytes true).take 26)
                   else .pd port 0 1 1 (d.capsBytes false)) :: s.out
        ∧ (∀ j, j ≠ port.val → t.port j = s.port j) ∧ t = { s with ports := t.ports, out := t.out })
  ∧ (∀ (port : Fin 12) (bytes data : List Byte) (s : State), let d := (s.port port).pd
      let num := bits (le bytes 2 2) 14 11
      d.pdOff = false → (d.conn = .attachedSrc ∨ d.conn = .attachedSnk) → d.bist = 0 → bitOf (le bytes 0 2) 15 = true → 2 ≤ bits (le bytes 0 2) 7 6 →
      bitOf (le bytes 2 2) 15 = true → bitOf (le bytes 2 2) 10 = true → d.chunkOut = some (le bytes 0 2 % 32, data) → 26 * num < data.length →
    Gives (.pdMessageReceived port 0 bytes) s fun t =>
      t.out = .pd port 0 2 (le bytes 0 2 % 32) (extHeader data.length num false ++ (data.drop (26 * num)).take 26) :: s.out
        ∧ (t.port port).pd.chunkOut = (if 26 * (num + 1) < data.length then d.chunkOut else none))
  ∧ (∀ (port : Fin 12) (bytes : List Byte) (s : State), let d := (s.port port).pd
      d.pdOff = false → (d.conn = .attachedSrc ∨ d.conn = .attachedSnk) → d.bist = 0 → le bytes 0 2 % 32 = 3 → bits (le bytes 0 2) 14 12 ≠ 0 →
      bitOf (le bytes 0 2) 15 = false → le bytes 2 4 / 2 ^ 28 = 5 → d.contract.map Prod.fst = some 0 →
    Gives (.pdMessageReceived port 0 bytes) s fun t =>
      (t.port port).pd.bist = 1 ∧ (t.port port).pd.timer tBistCont = some (s.after 45000000) ∧ t.out = s.out)
  ∧ (∀ (port : Fin 12) (s : State), let d := (s.port port).pd
      d.epr = true → d.roles.source = true → s.due (d.timer tSourceActivity) = true →
    Gives (.pdTimerExpiry port tSourceActivity) s fun t =>
      t.out = .pd port 0 0 5 [] :: s.out ∧ (t.port port).pd.timer tSourceActivity = some (s.after 45000000))

/-- R213, R214: a voltage and current sample is kept; in a transition a sample in the window is the first of two, or the last, and one outside it starts the count again; at the second sample of a transition to vSafe0V the discharge ends. A fault of the power stage, an over-current or a transition that misses its 250 ms opens the source path and discharges VBUS; a fault while sinking opens the sink path. -/
def Obligations.PowerStageEvents : Prop :=
  (∀ (port : Fin 12) (mv : Nat) (ma : Int) (s : State), (s.port port).pd.transit = none → (s.port port).pd.contract = none →
    Gives (.vbusSample port mv ma) s fun t =>
      t.port port = { s.port port with pd := { (s.port port).pd with vbusMv := mv, ibusMa := ma } }
        ∧ (∀ j, j ≠ port.val → t.port j = s.port j) ∧ t = { s with ports := t.ports })
  ∧ (∀ (port : Fin 12) (mv target : Nat) (ma : Int) (fin : Time) (s : State), (s.port port).pd.transit = some (target, 0, fin) →
    Gives (.vbusSample port mv ma) s fun t =>
      t.port port = { s.port port with pd := { (s.port port).pd with
          vbusMv := mv, ibusMa := ma, transit := some (target, if inWindow target mv then 1 else 0, fin) } }
        ∧ (∀ j, j ≠ port.val → t.port j = s.port j) ∧ t = { s with ports := t.ports })
  ∧ (∀ (port : Fin 12) (mv n : Nat) (ma : Int) (fin : Time) (s : State), (s.port port).pd.transit = some (0, n + 1, fin) → mv < 800 →
      (s.port port).pd.swap = none →
    Gives (.vbusSample port mv ma) s fun t =>
      t.port port = { s.port port with pd := { (s.port port).pd with
          vbusMv := mv, ibusMa := ma, transit := none, pins := { (s.port port).pd.pins with disch := false } } }
        ∧ t = { s with ports := t.ports })
  ∧ (∀ (port : Fin 12) (mv code cur : Nat) (e : Bool) (ma : Int) (s : State), (s.port port).pd.transit = none →
      (s.port port).pd.contract = some (code, cur, e) → (s.port port).pd.pins.srcEn = true → (11 * cur : Int) < ma →
    Gives (.vbusSample port mv ma) s fun t => (t.port port).pd.pins.srcEn = false ∧ (t.port port).pd.pins.disch = true)
  ∧ (∀ (port : Fin 12) (target n : Nat) (fin : Time) (s : State), (s.port port).pd.transit = some (target, n, fin) → target ≠ 0 →
      s.due (some fin) = true →
    Gives (.transitionWindowTimeout port) s fun t => (t.port port).pd.pins.srcEn = false ∧ (t.port port).pd.pins.disch = true)
  ∧ (∀ (port : Fin 12) (s : State), (s.port port).pd.pins.srcEn = true →
    Gives (.pstgFltLow port) s fun t => (t.port port).pd.pins.srcEn = false ∧ (t.port port).pd.pins.disch = true ∧ (t.port port).pd.contract = none)
  ∧ (∀ (port : Fin 12) (s : State), (s.port port).pd.pins.srcEn = false → (s.port port).pd.pins.snkEn = true →
    Gives (.pstgFltLow port) s fun t =>
      (t.port port).pd.pins = { (s.port port).pd.pins with snkEn := false } ∧ (t.port port).pd.contract = (s.port port).pd.contract
        ∧ (t.port port).pd.faultTimes = (s.port port).pd.faultTimes.filter (s.within 60000000000) ++ [s.now])

/-- R151, R152, R166, R172, R180, R181: USB_ROOT_BIND and USB_ROOT_CTRL, whenever they may be carried out. A bind gives the root its owner, queue, bases and TUN_LEAD (20 for 0); every other root stays. Of the actions: POWER_ON leaves the root DISCONNECTED, POWER_OFF POWERED_OFF; RESET and WARM_RESET of a native root hold it RESETTING for 50 ms; SUSPEND of an enabled root begins its 3 ms; RESTART, the U1 and U2 timeouts and AUTO_SUSPEND set their fields alone; UNBIND leaves no owner. -/
def Obligations.UsbRootCommandsTakeEffect : Prop :=
  CarriedOut .usbRootBind infoUsbRootBind checksUsbRootBind Always (fun _ _ _ => []) (fun c b u =>
      let p := c.payload
      let r := byteAt p 0
      u.root r = { b.root r with owner := ownerSlice c.route (le p 3 2), notifyQ := byteAt p 1, notifyTag := 0xFFFF, autoSuspend := bitOf (byteAt p 2) 0
                                 tunLead := if le p 6 2 = 0 then 20 else le p 6 2, perBase := BitVec.ofNat 64 (le p 8 8)
                                 asyncBase := BitVec.ofNat 64 (le p 16 8), asyncNext := BitVec.ofNat 64 (le p 16 8), asyncSleep := false, prefetch := none }
        ∧ (∀ j, j ≠ r → u.root j = b.root j) ∧ u = { b with xfer := { b.xfer with roots := u.xfer.roots } })
  ∧ CarriedOut .usbRootCtrl infoUsbRootCtrl checksUsbRootCtrl
      (fun c s => byteAt c.payload 1 ∈ [1, 7, 8, 9, 10] ∨ (byteAt c.payload 1 = 5 ∧ (s.root (byteAt c.payload 0)).state = .enabled)
        ∨ (byteAt c.payload 1 = 6 ∧ (s.root (byteAt c.payload 0)).state = .suspending))
      (fun c s _ => [BitVec.ofNat 8 (s.root (byteAt c.payload 0)).speed]) (fun c b u =>
      let p := c.payload
      let r := byteAt p 0
      let x := b.root r
      u.root r = (match byteAt p 1 with
          | 1 => { x with state := .disconnected }
          | 5 => { x with state := .suspending, due := some (b.after 3000000) }
          | 6 => { x with state := .enabled, due := none }
          | 7 => { x with asyncNext := x.asyncBase }
          | 8 => { x with u1 := le p 4 2, u2 := le p 6 2 }
          | 9 => { x with autoSuspend := bitOf (byteAt p 2) 0 }
          | _ => { state := x.state, speed := x.speed, held := x.held, xid := x.xid })
        ∧ (∀ j, j ≠ r → u.root j = b.root j) ∧ u = { b with xfer := { b.xfer with roots := u.xfer.roots } })
  ∧ Begun .usbRootCtrl infoUsbRootCtrl checksUsbRootCtrl (fun c _ => byteAt c.payload 1 = 2) (fun c _ t =>
      (t.root (byteAt c.payload 0)).state = .poweredOff ∧ (t.root (byteAt c.payload 0)).outst = [] ∧ (t.root (byteAt c.payload 0)).due = none)
  ∧ Begun .usbRootCtrl infoUsbRootCtrl checksUsbRootCtrl
      (fun c _ => (byteAt c.payload 1 = 3 ∨ byteAt c.payload 1 = 4) ∧ tunnelled (byteAt c.payload 0) = false) (fun c _ t =>
      let x := t.root (byteAt c.payload 0)
      x.state = .resetting ∧ x.due = some (t.after 50000000) ∧ x.resetCmd = some c ∧ x.outst = [])

/-- R153, R154, R155, R174, R192, R272, R273: the slot and endpoint commands, whenever they may be carried out, complete OK. An allocation takes the lowest free slot, with address 0, and gives its number; a free returns it. USB_EP_CONFIG makes a host endpoint IDLE in the lowest free context, or disables one with an empty ring. USB_EP_RESET clears the toggle and sequence number of a halted endpoint and lets its ring run again; USB_EP_STOP stops the endpoint and ends its chain, and gives the consumer index; USB_EP_SET_DEQ sets that index; a query changes nothing. Every other slot and endpoint stays as it was. -/
def Obligations.UsbSlotAndEndpointCommandsComplete : Prop :=
  CarriedOut .usbSlotAlloc infoUsbSlotAlloc checksUsbSlotAlloc Always (fun _ s _ => toLe 2 (s.freeDslot.getD 0)) (fun c b u =>
      let p := c.payload
      let n := b.freeDslot.getD 0
      u.dslot n = { root := byteAt p 0, route := BitVec.ofNat 20 (le p 4 3), tport := byteAt p 2, speed := byteAt p 1, hubSlot := le p 8 2
                    hubPort := byteAt p 10, alloc := true }
        ∧ (u.dslot n).addr = 0 ∧ (b.dslot n).alloc = false ∧ (∀ j, j ≠ n → u.dslot j = b.dslot j)
        ∧ u = { b with xfer := { b.xfer with slots := u.xfer.slots } })
  ∧ CarriedOut .usbSlotFree infoUsbSlotFree checksUsbSlotFree Always (fun _ _ _ => []) (fun c b u =>
      let n := le c.payload 0 2
      u.dslot n = {} ∧ (∀ j, j ≠ n → u.dslot j = b.dslot j) ∧ u = { b with xfer := { b.xfer with slots := u.xfer.slots } })
  ∧ CarriedOut .usbEpConfig infoUsbEpConfig checksUsbEpConfig
      (fun c _ => bitOf (byteAt c.payload 2) 7 = true ∧ bitOf (le c.payload 0 2) 15 = false)
      (fun _ s _ => toLe 2 (s.freeEp.getD 0)) (fun c b u =>
      let p := c.payload
      let f := byteAt p 2
      let a := le p 12 4
      let n := b.freeEp.getD 0
      u.ep n = { owner := c.route.slice?, slot := le p 0 2, num := bits f 3 0, dirIn := bitOf f 4, typ := bits f 6 5, mps := le p 4 2
                 burst := bits (byteAt p 6) 3 0, mult := bits (byteAt p 6) 5 4, ringBase := BitVec.ofNat 64 (le p 16 8), ringLog2 := byteAt p 3
                 cq := byteAt p 7, bufBase := bits a 10 0, bufSize := bits a 21 11 + 1, state := .idle }
        ∧ b.ep n = {} ∧ (∀ j, j ≠ n → u.ep j = b.ep j) ∧ u = { b with xfer := { b.xfer with eps := u.xfer.eps } })
  ∧ CarriedOut .usbEpConfig infoUsbEpConfig checksUsbEpConfig
      (fun c s => bitOf (byteAt c.payload 2) 7 = false ∧ (s.ep (le c.payload 24 2)).chain = none ∧ (s.ep (le c.payload 24 2)).used = 0)
      (fun c _ _ => toLe 2 (le c.payload 24 2)) (fun c b u =>
      let e := le c.payload 24 2
      u.ep e = {} ∧ (∀ j, j ≠ e → u.ep j = b.ep j) ∧ u = { b with xfer := u.xfer })
  ∧ CarriedOut .usbEpReset infoUsbEpReset checksUsbEpReset Always (fun c s _ => toLe 2 (s.ep (le c.payload 0 2)).cons) (fun c b u =>
      let e := le c.payload 0 2
      let x := b.ep e
      u.ep e = { x with resetStop := false, cfgStop := false, state := if x.used = 0 then .idle else .active
                        toggle := x.toggle && decide (x.state ≠ .halted), seqnum := if x.state = .halted then 0 else x.seqnum }
        ∧ (∀ j, j ≠ e → u.ep j = b.ep j) ∧ u = { b with xfer := { b.xfer with eps := u.xfer.eps } })
  ∧ CarriedOut .usbEpStop infoUsbEpStop checksUsbEpStop Always (fun c _ u => toLe 2 (u.ep (le c.payload 0 2)).cons) (fun c b u =>
      let e := le c.payload 0 2
      (u.ep e).state = .stopped ∧ (u.ep e).chain = none ∧ (u.ep e).busy = false ∧ (u.ep e).latched = (u.ep e).cons
        ∧ ((b.ep e).chain = none → (u.ep e).cons = (b.ep e).cons) ∧ (∀ j, j ≠ e → u.ep j = b.ep j)
        ∧ ((b.ep e).chain = none → u.freeCtr = b.freeCtr) ∧ u = { b with xfer := u.xfer, hosts := u.hosts, freeCtr := u.freeCtr })
  ∧ CarriedOut .usbEpSetDeq infoUsbEpSetDeq checksUsbEpSetDeq Always (fun _ _ _ => []) (fun c b u =>
      let e := le c.payload 0 2
      (u.ep e).cons = le c.payload 2 2 ∧ (u.ep e).prod = (b.ep e).prod ∧ (u.ep e).chain = (b.ep e).chain
        ∧ ((b.ep e).state ≠ .idle → (u.ep e).state = (b.ep e).state) ∧ (∀ j, j ≠ e → u.ep j = b.ep j)
        ∧ u = { b with xfer := { b.xfer with eps := u.xfer.eps } })
  ∧ CarriedOut .usbRootQuery infoUsbRootQuery checksUsbRootQuery Always (fun c s _ =>
      let n := le c.payload 2 2
      match byteAt c.payload 1 with
      | 0 => let x := s.root (byteAt c.payload 0); toLe 1 x.state.ctorIdx ++ toLe 1 x.speed ++ toLe 1 (flag x.held)
      | 1 => let d := s.dslot n; toLe 1 d.addr ++ toLe 1 d.speed ++ toLe 1 d.tport
      | _ => let x := s.ep n
             toLe 1 x.state.ctorIdx ++ [0] ++ toLe 2 x.cons ++ toLe 2 x.prod ++ toLe 1 (flag x.toggle) ++ toLe 1 x.seqnum)
      (fun _ b u => u = b)

/-- R187, R189, R196, R197: USB_DEV_BIND, USB_DEV_UNBIND and USB_DEV_CTRL, whenever they may be carried out. A bind (on a port without the diagnostic function) takes the first free function, gives its number, and keeps the descriptor set read; an unbind frees the function, which firmware may then use to present the diagnostic function; REMOTE_WAKE is held as pending until it is answered; HALT and CLEAR_HALT set the halt feature of the endpoint, and clearing it resets its toggle and sequence number. -/
def Obligations.UsbDeviceCommandsTakeEffect : Prop :=
  CarriedOut .usbDevBind infoUsbDevBind checksUsbDevBind
      (fun c s => ∀ n, n < 2 → (s.fn n).bound = true → (s.fn n).port ≠ byteAt c.payload 0)
      (fun _ s _ => [if (s.fn 0).bound then 1 else 0]) (fun c b u =>
      let p := c.payload
      let n := if (b.fn 0).bound then 1 else 0
      (b.fn n).bound = false ∧ u.fn n = { bound := true, owner := c.route.slice?, port := byteAt p 0, notifyQ := byteAt p 1, cap := byteAt p 2
                                          desc := (u.fn n).desc, descAddr := BitVec.ofNat 64 (le p 8 8) }
        ∧ (∀ d, c.data = .ok d → (u.fn n).desc = padTo (le p 4 2) d) ∧ descSetOk (u.fn n).desc = true
        ∧ (∀ j, j ≠ n → u.fn j = b.fn j) ∧ u = { b with xfer := { b.xfer with fns := u.xfer.fns } })
  ∧ Begun .usbDevUnbind infoUsbDevUnbind checksUsbDevUnbind Always (fun c _ t =>
      t.fn (byteAt c.payload 0) = {} ∨ ∃ p, t.fn (byteAt c.payload 0) = { bound := true, diag := true, port := p, cap := 4 })
  ∧ Begun .usbDevCtrl infoUsbDevCtrl checksUsbDevCtrl (fun c _ => byteAt c.payload 1 = 1) (fun c b t =>
      let n := byteAt c.payload 0
      t.fn n = { b.fn n with wakePend := some c, wakeSig := false } ∧ (b.fn n).state = .suspended ∧ (b.fn n).wakeEn = true
        ∧ (∀ j, j ≠ n → t.fn j = b.fn j) ∧ t = { b with xfer := { b.xfer with fns := t.xfer.fns } })
  ∧ CarriedOut .usbDevCtrl infoUsbDevCtrl checksUsbDevCtrl (fun c _ => byteAt c.payload 1 ≠ 1) (fun _ _ _ => []) (fun c b u =>
      let e := le c.payload 2 2
      u.ep e = (if byteAt c.payload 1 = 2 then { b.ep e with halted := true } else { b.ep e with halted := false, toggle := false, seqnum := 0 })
        ∧ (∀ j, j ≠ e → u.ep j = b.ep j) ∧ u = { b with xfer := { b.xfer with eps := u.xfer.eps } })

/-- R189, R190, R192, R193, R195, R196, R197, Table 7-5: the bus events of a device function. It attaches on a fallback port as UFP, with the port's sink path open; a bus reset leaves it DEFAULT with address and configuration 0 at the speed of the reset; SET_ADDRESS gives it its address, and GET_CONFIGURATION is answered; a token for a halted endpoint is answered STALL, and an IN token for a chain in progress sends its next packet; suspend and resume go between the state and SUSPENDED; remote wake signals, and times out; a detach leaves it DETACHED. -/
def Obligations.DeviceFunctionEvents : Prop :=
  (∀ (n : Fin 2) (s : State), (s.fn n).bound = true → (s.fn n).state = .detached → (s.port (s.fn n).port).pd.inFallback = true →
      (s.port (s.fn n).port).pd.roles.dfp = false →
      ((s.port (s.fn n).port).pd.conn = .attachedSrc ∨ (s.port (s.fn n).port).pd.conn = .attachedSnk) → (s.port (s.fn n).port).pd.fbNow.devEn = true →
    Gives (.devAttached n) s fun t =>
      t.fn n = { s.fn n with state := .attached, desc := if (s.fn n).diag then diagDesc else (s.fn n).desc }
        ∧ (t.port (s.fn n).port).pd = (let d := (s.port (s.fn n).port).pd; { d with pins := { d.pins with snkEn := false } })
        ∧ (∀ j, j ≠ n.val → t.fn j = s.fn j) ∧ (∀ j, j ≠ (s.fn n).port → t.port j = s.port j) ∧ t.tunnels = s.tunnels ∧ t.xfer.eps = s.xfer.eps)
  ∧ (∀ (n : Fin 2) (speed : Fin 7) (view : HostView) (s : State), (s.fn n).state ≠ .detached → s.devSpeedOk (s.fn n) speed = true →
    Gives (.devBusReset n speed view) s fun t =>
      t.fn n = { s.fn n with state := .default, addr := 0, config := 0, alts := [], wakeEn := false, speed := speed, wakePend := none, wakeSig := false }
        ∧ (∀ j, j ≠ n.val → t.fn j = s.fn j) ∧ t.ports = s.ports ∧ t.tunnels = s.tunnels)
  ∧ (∀ (n : Fin 2) (a : Fin 128) (view : HostView) (s : State), (s.fn n).state = .default → a.val ≠ 0 →
    Gives (.devSetupReceived n [0, 5, BitVec.ofNat 8 a, 0, 0, 0, 0, 0] view) s fun t =>
      (t.fn n).addr = a ∧ (t.fn n).state = .address ∧ ∃ o, t.out = .dev n 0 1 [] :: o)
  ∧ (∀ (n : Fin 2) (view : HostView) (s : State), (s.fn n).state.live = true →
    Gives (.devSetupReceived n [0x80, 8, 0, 0, 0, 0, 1, 0] view) s fun t => ∃ o, t.out = .dev n 0 0 (toLe 1 (s.fn n).config) :: o)
  ∧ (∀ (n : Fin 2) (ep : Fin 16) (dirIn acked : Bool) (dpid : Fin 4) (data : List Byte) (view : HostView) (e : Nat) (s : State),
      let b := s.drainAll view
      (b.fn n).state.live = true → (b.fn n).diag = false → ep.val ≠ 0 → b.fnEp n ep dirIn = some e → (b.fn n).includes (b.ep e).address = true →
      (b.ep e).halted = true → exec (.devToken n ep dirIn dpid data acked view) s = .next (b.devSend n ep 3 []))
  ∧ (∀ (n : Fin 2) (ep : Fin 16) (dpid : Fin 4) (data bytes : List Byte) (view : HostView) (e : Nat) (c : Chain) (s : State),
      let b := s.drainAll view
      let td := c.tds.getD c.cur {}
      (b.fn n).state.live = true → (b.fn n).diag = false → ep.val ≠ 0 → b.fnEp n ep true = some e → (b.fn n).includes (b.ep e).address = true →
      (b.ep e).halted = false → (b.ep e).chain = some c → (b.ep e).num = ep.val → (b.ep e).bufSize = 0 →
      view.read (td.addr + BitVec.ofNat 64 c.off) (min (b.ep e).mps (td.len - c.off)) = some bytes →
    Gives (.devToken n ep true dpid data false view) s fun t => t = b.devSend n ep 0 bytes)
  ∧ (∀ (n : Fin 2) (s : State), (s.fn n).state.live = true → Gives (.devSuspended n) s fun t =>
      t.fn n = { s.fn n with state := .suspended, before := (s.fn n).state, suspAt := s.now } ∧ (∀ j, j ≠ n.val → t.fn j = s.fn j)
        ∧ t.ports = s.ports ∧ t.xfer.eps = s.xfer.eps)
  ∧ (∀ (n : Fin 2) (s : State), (s.fn n).state = .suspended → Gives (.devHostResume n) s fun t =>
      t.fn n = { s.fn n with state := (s.fn n).before, wakePend := none, wakeSig := false } ∧ (∀ j, j ≠ n.val → t.fn j = s.fn j)
        ∧ t.ports = s.ports ∧ t.xfer.eps = s.xfer.eps)
  ∧ (∀ (n : Fin 2) (s : State), (s.fn n).state = .suspended → (s.fn n).wakePend.isSome = true → (s.fn n).wakeSig = false →
      (3 ≤ (s.fn n).speed ∨ (s.fn n).suspAt.toNat + 5000000 ≤ s.now.toNat) → Gives (.devWakeSignalStart n) s fun t =>
      t.fn n = { s.fn n with wakeSig := true, wakeEnd := if 3 ≤ (s.fn n).speed then s.now else s.after 2000000 }
        ∧ t.out = .dev n 0 6 [] :: s.out ∧ (∀ j, j ≠ n.val → t.fn j = s.fn j) ∧ t = { s with xfer := t.xfer, out := t.out })
  ∧ (∀ (n : Fin 2) (s : State), (s.fn n).wakePend.isSome = true → (s.fn n).wakeSig = true → (s.fn n).wakeEnd.toNat + 100000000 ≤ s.now.toNat →
    Gives (.devWakeTimeout n) s fun t =>
      t.fn n = { s.fn n with wakePend := none, wakeSig := false } ∧ (∀ j, j ≠ n.val → t.fn j = s.fn j) ∧ t.ports = s.ports ∧ t.xfer.eps = s.xfer.eps)
  ∧ (∀ (n : Fin 2) (s : State), (s.fn n).state ≠ .detached → Gives (.devDetached n) s fun t =>
      t.fn n = { s.fn n with state := .detached, addr := 0, config := 0, alts := [], wakeEn := false, speed := 0, wakePend := none, wakeSig := false }
        ∧ (∀ j, j ≠ n.val → t.fn j = s.fn j) ∧ t.ports = s.ports ∧ t.tunnels = s.tunnels)

/-- R199, R200, R201, R202, R203: DisplayPort Alternate Mode. A bind, before the sink's link is up, makes a DISP tunnel entry with TUN 1 of the port for the stream, OPENING, and gives its number; an unbind frees the entry and leaves the port without a source. HPD low ends the link; HPD high starts training afresh with the sink's DSC support; a training that succeeds sets the lowest rate that fits the mode and opens the binding, and one that fails is counted. An event that is not due, or finds nothing to act on, has no effect (the model's choice, log entry 6). -/
def Obligations.DisplayPortAlternateMode : Prop :=
  CarriedOut .dpaltBind infoDpaltBind checksDpaltBind
      (fun c s => (s.port (byteAt c.payload 0)).pd.dp.rate = none ∧ (s.port (byteAt c.payload 0)).pd.dp.hpd = false)
      (fun c _ u => toLe 2 ((u.port (byteAt c.payload 0)).pd.dp.tid.getD 0)) (fun c b u =>
      let p := byteAt c.payload 0
      let src := byteAt c.payload 1
      ∃ tid, (u.port p).pd.dp = { (b.port p).pd.dp with tid := some tid, source := some src } ∧ (b.dpTid p = some tid ∨ b.freeTid = some tid)
        ∧ (let t := u.tunnel tid
           t.state = .opening ∧ t.port = p ∧ t.tun = 1 ∧ t.cls = 0 ∧ t.dirs = 1 ∧ t.owner = ownerNamed c.route 0
             ∧ t.rsvOut = dispFlits (b.streamOf src).mode ∧ t.stream = src)
        ∧ (∀ j, j ≠ tid → u.tunnel j = b.tunnel j) ∧ (∀ j, j ≠ p → u.port j = b.port j)
        ∧ u = { b with ports := u.ports, tunnels := u.tunnels })
  ∧ Begun .dpaltUnbind infoDpaltUnbind checksDpaltUnbind (fun _ s => s.tunWf = true) (fun c b t =>
      let p := byteAt c.payload 0
      (t.port p).pd.dp.tid = none ∧ (t.port p).pd.dp.source = none ∧ ∀ tid, b.dpTid p = some tid → (t.tunnel tid).state = .free)
  ∧ (∀ (port : Fin 12) (kind : Fin 3) (linkOk dsc : Bool) (s : State), (s.port port).pd.dp.entered = false →
      exec (.dpHpdChange port kind linkOk dsc) s = .next s)
  ∧ (∀ (port : Fin 12) (linkOk dsc : Bool) (s : State), (s.port port).pd.dp.entered = true → Gives (.dpHpdChange port 0 linkOk dsc) s fun t =>
      (t.port port).pd = { (s.port port).pd with dp := { (s.port port).pd.dp with hpd := false, rate := none } }
        ∧ (∀ j, j ≠ port.val → t.port j = s.port j) ∧ t.tunnels = s.tunnels)
  ∧ (∀ (port : Fin 12) (linkOk dsc : Bool) (s : State), let d := (s.port port).pd
      d.dp.entered = true → (d.dp.autoTried = true ∨ d.disco ≠ .done) → (s.dpMode port).dscLine = 0 →
      (d.dpRate (s.dpMode port) (dpLanes d.dp.pin)).isSome = true → Gives (.dpHpdChange port 1 linkOk dsc) s fun t =>
      (t.port port).pd = { d with dp := { d.dp with hpd := true, sinkDsc := dsc, fails := 0, rate := none, lanes := dpLanes d.dp.pin } }
        ∧ (∀ j, j ≠ port.val → t.port j = s.port j) ∧ t.tunnels = s.tunnels)
  ∧ (∀ (port : Fin 12) (r : Nat) (s : State), let d := (s.port port).pd
      d.dp.entered = true → d.dp.hpd = true → d.dp.rate = none → d.dpRate (s.dpMode port) d.dp.lanes = some r →
    Gives (.dpTrained port true) s fun t =>
      (t.port port).pd.dp = { d.dp with rate := some r, fails := 0 } ∧ (∀ q, q < r → dpFits (s.dpMode port) d.dp.lanes q = false)
        ∧ dpFits (s.dpMode port) d.dp.lanes r = true
        ∧ (∀ tid, s.dpTid port = some tid → t.tunnel tid = { s.tunnel tid with state := .opened } ∧ ∀ j, j ≠ tid → t.tunnel j = s.tunnel j)
        ∧ (∀ j, j ≠ port.val → t.port j = s.port j))
  ∧ (∀ (port : Fin 12) (s : State), let d := (s.port port).pd
      d.dp.entered = true → d.dp.hpd = true → d.dp.rate = none → d.dp.fails < 2 → Gives (.dpTrained port false) s fun t =>
      (t.port port).pd.dp = { d.dp with fails := d.dp.fails + 1 } ∧ (∀ j, j ≠ port.val → t.port j = s.port j) ∧ t = { s with ports := t.ports })

/-- R276, R277, R282, R296, R302, Table 11-1: the commands of the sample DMA engine, whenever they may be carried out, complete OK. An allocation makes a FREE channel STOPPED with the owner named, the lowest one when any is asked for; a configuration sets the ring, queue, program memory, trigger and retries and clears the indices; START makes it RUNNING, RESET takes it from HALTED or ERROR to STOPPED; a free returns it; a timer is set from the first instant of its series that has not passed, or is cleared; a query changes nothing. Every other channel and timer stays as it was. -/
def Obligations.DmaCommandsComplete : Prop :=
  CarriedOut .dmaChAlloc infoDmaChAlloc checksDmaChAlloc Always
      (fun c s _ => toLe 1 (if byteAt c.payload 0 = 0xFF then ((List.range 64).find? fun n => decide ((s.ch n).state = .free)).getD 0 else byteAt c.payload 0))
      (fun c b u =>
      let n := if byteAt c.payload 0 = 0xFF then ((List.range 64).find? fun n => decide ((b.ch n).state = .free)).getD 0 else byteAt c.payload 0
      (b.ch n).state = .free ∧ u.ch n = { b.ch n with state := .stopped, owner := some ((ownerSlice c.route (le c.payload 1 2)).getD (0, 0)) }
        ∧ (∀ j, j ≠ n → u.ch j = b.ch j) ∧ u = { b with xfer := { b.xfer with chans := u.xfer.chans } })
  ∧ CarriedOut .dmaChConfig infoDmaChConfig checksDmaChConfig Always (fun _ _ _ => []) (fun c b u =>
      let p := c.payload
      let n := byteAt p 0
      u.ch n = { b.ch n with configured := true, ringBase := BitVec.ofNat 64 (le p 8 8), ringLog2 := byteAt p 1, cq := byteAt p 2
                             progDev := decide (byteAt p 3 = 1), trigKind := byteAt p 4, trigNum := byteAt p 5, retries := byteAt p 6
                             cons := 0, prod := 0, chainFirst := 0 }
        ∧ (b.ch n).state = .stopped ∧ (∀ j, j ≠ n → u.ch j = b.ch j) ∧ u = { b with xfer := { b.xfer with chans := u.xfer.chans } })
  ∧ CarriedOut .dmaChCtrl infoDmaChCtrl checksDmaChCtrl (fun c _ => byteAt c.payload 1 ≠ 2)
      (fun c s _ => toLe 2 (s.ch (byteAt c.payload 0)).cons) (fun c b u =>
      let n := byteAt c.payload 0
      let x := b.ch n
      (if byteAt c.payload 1 = 1 then u.ch n = { x with state := .running, pending := if x.trigKind = 2 then x.landed.length else 0 }
        else if x.state = .halted ∨ x.state = .error then
          (u.ch n).state = .stopped ∧ (u.ch n).cons = x.chainFirst ∧ (u.ch n).haltCause = 0 ∧ (u.ch n).haltAddr = 0 ∧ (u.ch n).jobs = x.jobs
        else u.ch n = x)
        ∧ (∀ j, j ≠ n → u.ch j = b.ch j) ∧ u = { b with xfer := { b.xfer with chans := u.xfer.chans } })
  ∧ CarriedOut .dmaChFree infoDmaChFree checksDmaChFree Always (fun _ _ _ => []) (fun c b u =>
      let n := byteAt c.payload 0
      (b.ch n).state = .stopped ∧ (u.ch n).state = .free ∧ (u.ch n).owner = none ∧ (u.ch n).configured = false ∧ (u.ch n).jobs = (b.ch n).jobs
        ∧ (u.ch n).bytesWritten = (b.ch n).bytesWritten ∧ (∀ j, j ≠ n → u.ch j = b.ch j)
        ∧ u = { b with xfer := { b.xfer with chans := u.xfer.chans }, marl := { b.marl with staging := u.marl.staging } })
  ∧ CarriedOut .dmaTimerCfg infoDmaTimerCfg checksDmaTimerCfg Always (fun _ _ _ => []) (fun c b u =>
      let p := c.payload
      let n := byteAt p 0
      let t (s : State) (j : Nat) : DmaTimer := Tab.get {} s.xfer.timers j
      (if bitOf (byteAt p 1) 0 then
          (t u n).owner = c.route.slice? ∧ (t u n).enabled = true ∧ (t u n).period = le p 4 4
            ∧ (∃ k, (t u n).next = BitVec.ofNat 64 (le p 8 8 + k * le p 4 4) ∧ b.now.toNat ≤ le p 8 8 + k * le p 4 4
                ∧ ∀ m, b.now.toNat ≤ le p 8 8 + m * le p 4 4 → k ≤ m)
        else t u n = {})
        ∧ (∀ j, j ≠ n → t u j = t b j) ∧ u = { b with xfer := { b.xfer with timers := u.xfer.timers } })
  ∧ CarriedOut .dmaChQuery infoDmaChQuery checksDmaChQuery Always (fun c s _ =>
      let x := s.ch (byteAt c.payload 0)
      toLe 1 x.state.ctorIdx ++ toLe 1 0 ++ toLe 2 x.cons ++ toLe 4 x.haltCause ++ toLe 8 x.haltAddr.toNat) (fun _ b u => u = b)
  ∧ Begun .dmaChCtrl infoDmaChCtrl checksDmaChCtrl (fun c s => byteAt c.payload 1 = 2 ∧ (s.ch (byteAt c.payload 0)).state = .running) (fun c b t =>
      let n := byteAt c.payload 0
      (t.ch n).state = .stopped ∧ (t.ch n).wait = .none ∧ (t.ch n).move = none ∧ (∀ j, j ≠ n → t.ch j = b.ch j) ∧ t.tunnels = b.tunnels ∧ t.ports = b.ports)

/-- R233, R234, R246, R252, R306, R371, R387: writes to a slice's page; each is a wake source of its host port. One that reaches no slice changes nothing but PASID_MISS and the trace. GO starts the message as a command and sets BUSY, or while BUSY sets REFUSED alone; the clears clear their bit; an index doorbell of an active queue pair takes a good index and is recorded, and a bad one sets the slice's queue event and leaves the queue as it was. -/
def Obligations.SlicePageWrites : Prop :=
  (∀ (h : Fin 2) (sl : Fin 256) (s : State), s.reachable h sl = false → Gives (.mbxGo h sl) s fun t =>
      (t.hp h).pasidMiss = (s.hp h).pasidMiss + 1 ∧ t.hosts.slices = s.hosts.slices ∧ t.hosts.qps = s.hosts.qps ∧ t.ports = s.ports
        ∧ t.xfer = s.xfer ∧ t.tunnels = s.tunnels)
  ∧ (∀ (h : Fin 2) (sl : Fin 256) (s : State), (s.slice h sl).state = .active → (s.slice h sl).busy = false →
      msgFormOk (s.slice h sl).msg = true → Gives (.mbxGo h sl) s fun t =>
      let m := (s.slice h sl).msg
      t.slice h sl = { s.slice h sl with go := false, busy := true, mbxIrq := entryIrq m }
        ∧ t.isRunning { route := .mbx h sl, gen := entryGen m, tag := entryTag m, irq := entryIrq m, payload := (padTo 64 m).drop 8 } (entryOpcode m) = true
        ∧ t.hosts.qps = s.hosts.qps ∧ t = { s with hosts := t.hosts, cluster := t.cluster, power := t.power })
  ∧ (∀ (h : Fin 2) (sl : Fin 256) (s : State), s.reachable h sl = true → (s.slice h sl).busy = true → Gives (.mbxGo h sl) s fun t =>
      t = (s.wakeCfg (12 + h)).setSlice h sl { s.slice h sl with refused := true })
  ∧ (∀ (h : Fin 2) (sl : Fin 256) (s : State), s.reachable h sl = true → Gives (.mbxDoneClear h sl) s fun t =>
      t = (s.wakeCfg (12 + h)).setSlice h sl { s.slice h sl with done := false })
  ∧ (∀ (h : Fin 2) (sl : Fin 256) (s : State), s.reachable h sl = true → Gives (.mbxRefusedClear h sl) s fun t =>
      t = (s.wakeCfg (12 + h)).setSlice h sl { s.slice h sl with refused := false })
  ∧ (∀ (h : Fin 2) (sl : Fin 256) (v : BitVec 32) (s : State), s.reachable h sl = true → Gives (.sliceEvtClear h sl v) s fun t =>
      (∀ k, k < 4 → (t.slice h sl).evt.getLsbD k = ((s.slice h sl).evt.getLsbD k && !v.getLsbD k))
        ∧ t = (s.wakeCfg (12 + h)).setSlice h sl { s.slice h sl with evt := (t.slice h sl).evt })
  ∧ (∀ (h : Fin 2) (sl : Fin 256) (q : Fin 64) (v : BitVec 32) (s : State), s.reachable h sl = true → (s.qp h sl q).state = .active →
    Gives (.sqDb h sl q v) s fun t =>
      let x := s.qp h sl q
      let idx := v.toNat % 65536
      match piCause x.sqN x.sqCi x.sqPi idx with
      | none => t.qp h sl q = { x with sqPi := idx, partChain := false } ∧ t.hosts.slices = s.hosts.slices
          ∧ ((t.hp h).sqFifo.contains (sl.val, q.val) = true ∨ (t.hp h).sqMap.contains sl.val = true)
      | some _ => t.qp h sl q = x ∧ (t.slice h sl).evt.getLsbD 0 = true)
  ∧ (∀ (h : Fin 2) (sl : Fin 256) (q : Fin 64) (v : BitVec 32) (s : State), s.reachable h sl = true → (s.qp h sl q).state = .active →
    Gives (.cqDb h sl q v) s fun t =>
      let x := s.qp h sl q
      let idx := v.toNat % 65536
      match ciCause x.cqN x.cqPi x.cqCi idx with
      | none => t.qp h sl q = { x with cqCi := idx } ∧ t.hosts.slices = s.hosts.slices
          ∧ ((t.hp h).cqFifo.contains (sl.val, q.val) = true ∨ (t.hp h).cqMap.contains sl.val = true)
      | some _ => t.qp h sl q = x ∧ (t.slice h sl).evt.getLsbD 0 = true)

/-- R164, R252, R280, R281, R313: the doorbells of the engines and the program memory. A doorbell of an endpoint or channel of another slice is counted and changes no ring; one with a good index sets the producer index, and one of an idle or active endpoint with a bad index puts it in ERROR. A program write of the owner sets the bytes written, as far as they lie in the channel's own 1 KiB, and no others. -/
def Obligations.EngineDoorbells : Prop :=
  (∀ (h : Fin 2) (sl : Fin 256) (v : BitVec 32) (view : HostView) (s : State), s.reachable h sl = true → (s.slice h sl).state ≠ .resetting →
      s.domainOff 8 = false → (s.ep (v.toNat % 4096)).owner = some (h.val, sl.val) → (s.ep (v.toNat % 4096)).state ≠ .disabled →
      let x := s.ep (v.toNat % 4096)
      prodBad x.ringLog2 x.cons x.prod (v.toNat / 65536) = false → Gives (.usbEpDoorbell h sl v view) s fun t =>
      (t.ep (v.toNat % 4096)).prod = v.toNat / 65536 ∧ ∀ j, j ≠ v.toNat % 4096 → t.ep j = s.ep j)
  ∧ (∀ (h : Fin 2) (sl : Fin 256) (v : BitVec 32) (view : HostView) (s : State), s.reachable h sl = true → (s.slice h sl).state ≠ .resetting →
      s.domainOff 8 = false → (s.ep (v.toNat % 4096)).owner = some (h.val, sl.val) →
      let x := s.ep (v.toNat % 4096)
      (x.state = .idle ∨ x.state = .active) → prodBad x.ringLog2 x.cons x.prod (v.toNat / 65536) = true → Gives (.usbEpDoorbell h sl v view) s fun t =>
      (t.ep (v.toNat % 4096)).state = .error ∧ (t.ep (v.toNat % 4096)).prod = x.prod ∧ ∀ j, j ≠ v.toNat % 4096 → t.ep j = s.ep j)
  ∧ (∀ (h : Fin 2) (sl : Fin 256) (v : BitVec 32) (view : HostView) (s : State), s.reachable h sl = true →
      (s.ep (v.toNat % 4096)).owner ≠ some (h.val, sl.val) → Gives (.usbEpDoorbell h sl v view) s fun t =>
      t = (s.wakeCfg (12 + h)).setSlice h sl { s.slice h sl with dbReject := (s.slice h sl).dbReject + 1 })
  ∧ (∀ (h : Fin 2) (sl : Fin 256) (v : BitVec 32) (s : State), s.reachable h sl = true → (s.slice h sl).state ≠ .resetting →
      s.domainOff 8 = false → (s.ch (v.toNat % 64)).owner = some (h.val, sl.val) →
      let x := s.ch (v.toNat % 64)
      prodBad x.ringLog2 x.cons x.prod (v.toNat / 65536) = false → Gives (.dmaChDoorbell h sl v) s fun t =>
      t = (s.wakeCfg (12 + h)).setCh (v.toNat % 64) { x with prod := v.toNat / 65536 })
  ∧ (∀ (h : Fin 2) (sl : Fin 256) (v : BitVec 32) (s : State), s.reachable h sl = true → (s.ch (v.toNat % 64)).owner ≠ some (h.val, sl.val) →
    Gives (.dmaChDoorbell h sl v) s fun t => t = (s.wakeCfg (12 + h)).setSlice h sl { s.slice h sl with dbReject := (s.slice h sl).dbReject + 1 })
  ∧ (∀ (h : Fin 2) (sl : Fin 256) (off : Fin 65536) (bytes : List Byte) (s : State), s.reachable h sl = true → s.domainOff 8 = false →
      (s.ch (off.val / 1024)).owner = some (h.val, sl.val) → (∀ page, s.readPage 3 page ≠ .uncorrectable) →
    Gives (.dmaProgramWrite h sl off bytes) s fun t =>
      (∀ a, Tab.get 0 t.xfer.prog a =
          if off.val ≤ a ∧ a < off.val + min bytes.length (1024 - off.val % 1024) then bytes.getD (a - off.val) 0 else Tab.get 0 s.xfer.prog a)
        ∧ t.xfer = { s.xfer with prog := t.xfer.prog } ∧ t.ports = s.ports ∧ t.tunnels = s.tunnels ∧ t.hosts.qps = s.hosts.qps)

/-- R236, R247, R256, R257, R272: the queue-pair commands, whenever they may be carried out. A create makes a DISABLED pair ACTIVE with the values of the payload (weight at least 1, CR_STALL 1000 for 0); a modify writes the fields whose MASK bit is 1; a query gives QSTAT and the moderation and changes nothing; each completes OK. A reset or destroy leaves the pair STOPPING with the command held and no uncommitted chain of its SQ outstanding. -/
def Obligations.QueuePairCommandsTakeEffect : Prop :=
  CarriedOut .qpCreate infoQpCreate checksQpCreate Always (fun _ _ _ => []) (fun c b u =>
      let p := c.payload
      let h := c.home.1
      let sl := c.home.2
      let q := byteAt p 0
      (b.qp h sl q).state = .disabled
        ∧ u.qp h sl q = { state := .active, sqN := byteAt p 1, cqN := byteAt p 2, weight := max 1 (byteAt p 3), vec := le p 4 2, count := byteAt p 6
                          timer := le p 8 2, crStall := if le p 10 2 = 0 then 1000 else le p 10 2, sqBase := BitVec.ofNat 64 (le p 16 8)
                          cqBase := BitVec.ofNat 64 (le p 24 8) }
        ∧ (∀ k, k ≠ qpKey h sl q → Tab.get {} u.hosts.qps k = Tab.get {} b.hosts.qps k) ∧ u = { b with hosts := { b.hosts with qps := u.hosts.qps } })
  ∧ CarriedOut .qpModify infoQpModify checksQpModify Always (fun _ _ _ => []) (fun c b u =>
      let p := c.payload
      let h := c.home.1
      let sl := c.home.2
      let q := byteAt p 0
      let m := byteAt p 12
      let y := b.qp h sl q
      u.qp h sl q = { y with
          vec := if bitOf m 0 then le p 4 2 else y.vec, count := if bitOf m 1 then byteAt p 6 else y.count
          timer := if bitOf m 1 then le p 8 2 else y.timer, crStall := if bitOf m 2 then (if le p 10 2 = 0 then 1000 else le p 10 2) else y.crStall
          weight := if bitOf m 3 then max 1 (byteAt p 3) else y.weight }
        ∧ (∀ k, k ≠ qpKey h sl q → Tab.get {} u.hosts.qps k = Tab.get {} b.hosts.qps k) ∧ u = { b with hosts := { b.hosts with qps := u.hosts.qps } })
  ∧ CarriedOut .qpQuery infoQpQuery (fun c _ => checksQpQuery c) Always (fun c s _ =>
      let x := s.qp c.home.1 c.home.2 (byteAt c.payload 0)
      toLe 2 x.sqCi ++ toLe 2 x.sqPi ++ toLe 2 x.cqPi ++ toLe 2 x.cqCi
        ++ toLe 4 (x.state.ctorIdx + 8 * flag x.phase + 16 * min 16 x.waiting + 512 * flag x.stalled) ++ toLe 4 x.stallCount.toNat
        ++ toLe 2 x.vec ++ toLe 1 x.count ++ toLe 1 0 ++ toLe 2 x.timer) (fun _ b u => u = b)
  ∧ Begun .qpReset infoQpReset checksQpReset Always (fun c b t =>
      let h := c.home.1
      let sl := c.home.2
      let q := byteAt c.payload 0
      (t.qp h sl q).state = .stopping ∧ (t.qp h sl q).stop = .reset ∧ (t.qp h sl q).stopCmd = some (0x0603, c)
        ∧ (t.qp h sl q).sqPi = (b.qp h sl q).sqPi ∧ (∀ o ∈ t.hosts.running, o.abortable h sl q = false)
        ∧ (∀ k, k ≠ qpKey h sl q → Tab.get {} t.hosts.qps k = Tab.get {} b.hosts.qps k) ∧ t = { b with hosts := t.hosts })
  ∧ Begun .qpDestroy infoQpDestroy checksQpDestroy Always (fun c b t =>
      let h := c.home.1
      let sl := c.home.2
      let q := byteAt c.payload 0
      (t.qp h sl q).state = .stopping ∧ (t.qp h sl q).stop = .destroy ∧ (t.qp h sl q).stopCmd = some (0x0604, c)
        ∧ (∀ o ∈ t.hosts.running, o.abortable h sl q = false)
        ∧ (∀ k, k ≠ qpKey h sl q → Tab.get {} t.hosts.qps k = Tab.get {} b.hosts.qps k) ∧ t = { b with hosts := t.hosts })

/-- R236: a queue-pair create with an SQ or CQ base that is no multiple of 4 KiB, or with an SQ or CQ size n outside 4 to 15, that need not wait for its turn completes with MALFORMED and has no other effect; one that may be carried out leaves the pair with both bases multiples of 4 KiB. -/
def Obligations.QueuePairBasesAndSizes : Prop :=
  (∀ (c : Cmd) (s : State), s.waits infoQpCreate c = false →
    (le c.payload 16 8 % 4096 ≠ 0 ∨ le c.payload 24 8 % 4096 ≠ 0 ∨ byteAt c.payload 1 < 4 ∨ 15 < byteAt c.payload 1 ∨ byteAt c.payload 2 < 4 ∨ 15 < byteAt c.payload 2) →
      ∃ d, exec (.qpCreate c) s = .next (((s.startCmd c 0x0601).endCmd c 0x0601).deliver { c with gen := s.genNow c } .malformed d []))
  ∧ CarriedOut .qpCreate infoQpCreate checksQpCreate Always (fun _ _ _ => []) (fun c _ u =>
      let y := u.qp c.home.1 c.home.2 (byteAt c.payload 0)
      y.sqBase.toNat % 4096 = 0 ∧ y.cqBase.toNat % 4096 = 0 ∧ 4 ≤ y.sqN ∧ y.sqN ≤ 15 ∧ 4 ≤ y.cqN ∧ y.cqN ≤ 15)

/-- R240, R243, R245, R248, R249, R250, R253, R254, R256, R333, R464: the events of the rings. In its slice's and its own turn a queue is read: a whole chain with a defined opcode and no reserved field set is consumed and becomes an outstanding command, another completes MALFORMED, and an incomplete one waits; each chain consumed takes the turn, and out of turn nothing is read (log entry 162); a fetch or completion-write error puts the pair in ERROR and sets the slice's event; a held completion goes to host memory at the producer index with the phase of the pass; a stall, the moderation timer and a notice overflow act once; the end of a stop frees the pair or makes it ACTIVE with its SQ indices 0, and completes the command; an unmasked vector that was pending is sent. An event that is not due, or finds nothing to act on, has no effect (the model's choice, log entry 6). -/
def Obligations.RingEvents : Prop :=
  (∀ (h : Fin 2) (sl : Fin 256) (q : Fin 64) (entries : List Entry) (s : State),
      s.mayFetch h sl q = true → s.sliceTurn h sl = true → s.pairTurn h sl q = true →
    let x := s.qp h sl q
    let es := entries.take (min 33 (ringUsed x.sqN x.sqPi x.sqCi))
    let turned (t : State) : Prop :=
      t.hosts.served = sliceKey h sl ∧ (∀ k, k ≠ sliceKey h sl → Tab.get {} t.hosts.slices k = Tab.get {} s.hosts.slices k)
        ∧ t.slice h sl = { s.slice h sl with wq := q, wleft := (if (s.slice h sl).wq = q.val ∧ 0 < (s.slice h sl).wleft then (s.slice h sl).wleft else max 1 x.weight) - 1 }
    match readQueue es with
    | .wait => exec (.chainDispatch h sl q entries) s = .next (s.modQp h sl q fun y => { y with partChain := true })
    | .chain e irq n clean =>
      if clean ∧ definedOpcodes.contains (entryOpcode e) then Gives (.chainDispatch h sl q entries) s fun t =>
        (t.qp h sl q).sqCi = (x.sqCi + n) % 2 ^ (x.sqN + 1) ∧ (t.qp h sl q).slots = x.slots + 1 ∧ (t.qp h sl q).held = x.held
          ∧ t.isRunning { route := .sq h sl q, gen := entryGen e, tag := entryTag e, irq := irq
                          payload := (es.take n).flatMap fun y => (padTo 64 y).drop 8 } (entryOpcode e) = true
          ∧ turned t ∧ t = { s with hosts := t.hosts }
      else (∀ o ∈ s.hosts.running, o.route ≠ .sq h sl q) → Gives (.chainDispatch h sl q entries) s fun t =>
        (t.qp h sl q).sqCi = (x.sqCi + n) % 2 ^ (x.sqN + 1) ∧ (t.qp h sl q).slots = x.slots
          ∧ (t.qp h sl q).held = x.held ++ [{ tag := entryTag e, status := .malformed, detail := 0, gen := (s.slice h sl).gen, result := [], irq := irq }]
          ∧ t.hosts.running = s.hosts.running ∧ turned t ∧ t = { s with hosts := t.hosts }
    | .bad e n => Gives (.chainDispatch h sl q entries) s fun t =>
        (t.qp h sl q).sqCi = (x.sqCi + n) % 2 ^ (x.sqN + 1) ∧ (t.qp h sl q).slots = x.slots
          ∧ (t.qp h sl q).held = x.held ++ [{ tag := entryTag e, status := .malformed, detail := 0, gen := (s.slice h sl).gen, result := [], irq := entryIrq e }]
          ∧ t.hosts.running = s.hosts.running ∧ turned t ∧ t = { s with hosts := t.hosts })
  ∧ (∀ (h : Fin 2) (sl : Fin 256) (q : Fin 64) (entries : List Entry) (s : State),
      s.mayFetch h sl q = false ∨ s.sliceTurn h sl = false ∨ s.pairTurn h sl q = false → exec (.chainDispatch h sl q entries) s = .next s)
  ∧ (∀ (h : Fin 2) (sl : Fin 256) (q : Fin 64) (read : Nat) (cause : Fin 4) (s : State), (s.qp h sl q).state = .active →
    Gives (.queueFetchError h sl q read cause) s fun t =>
      let x := s.qp h sl q
      (t.qp h sl q).state = .error ∧ (t.qp h sl q).sqCi = (x.sqCi + min read (ringUsed x.sqN x.sqPi x.sqCi)) % 2 ^ (x.sqN + 1)
        ∧ (t.qp h sl q).held = x.held ++ [{ tag := 0xFFFF, status := .mediaError, gen := (s.slice h sl).gen }]
        ∧ (t.slice h sl).evt.getLsbD 2 = true ∧ t.ports = s.ports ∧ t.xfer = s.xfer)
  ∧ (∀ (h : Fin 2) (sl : Fin 256) (q : Fin 64) (cause : Fin 2) (s : State), (s.qp h sl q).state = .active →
    Gives (.cqWriteError h sl q cause) s fun t =>
      t.qp h sl q = { s.qp h sl q with state := .error } ∧ (t.slice h sl).evt.getLsbD 3 = true ∧ t.ports = s.ports ∧ t.xfer = s.xfer)
  ∧ (∀ (h : Fin 2) (sl : Fin 256) (q : Fin 64) (e : CqEntry) (rest : List CqEntry) (s : State), (s.qp h sl q).held = e :: rest →
      s.mayWrite h sl q = true → s.addrOk ((s.qp h sl q).cqBase + BitVec.ofNat 64 (32 * ((s.qp h sl q).cqPi % 2 ^ (s.qp h sl q).cqN))) = true →
    Gives (.completionWrite h sl q) s fun t =>
      let x := s.qp h sl q
      (t.qp h sl q).cqPi = (x.cqPi + 1) % 2 ^ (x.cqN + 1)
        ∧ (t.qp h sl q).phase = (if (t.qp h sl q).cqPi % 2 ^ x.cqN = 0 then !x.phase else x.phase)
        ∧ .hostWrite h sl (x.cqBase + BitVec.ofNat 64 (32 * (x.cqPi % 2 ^ x.cqN))) (e.bytes x.phase x.sqCi) ∈ t.out
        ∧ (x.dropped = 0 → x.aborts = [] → (t.qp h sl q).held = rest) ∧ t.ports = s.ports ∧ t.xfer = s.xfer ∧ t.tunnels = s.tunnels)
  ∧ (∀ (h : Fin 2) (sl : Fin 256) (q : Fin 64) (s : State), (s.qp h sl q).stalled = true → s.due (s.qp h sl q).stallDue = true →
    Gives (.complRingStalled h sl q) s fun t =>
      t.qp h sl q = { s.qp h sl q with stallDue := none } ∧ (t.slice h sl).evt.getLsbD 1 = true ∧ t.ports = s.ports ∧ t.xfer = s.xfer)
  ∧ (∀ (h : Fin 2) (sl : Fin 256) (q : Fin 64) (s : State), s.due (s.qp h sl q).modDue = true →
    Gives (.moderationTimerExpiry h sl q) s fun t =>
      t.qp h sl q = { s.qp h sl q with k := 0, modDue := none }
        ∧ ((s.hp h).power = .d0 → (s.hp h).bme = true → ((s.hp h).msixEntry (s.qp h sl q).vec).ctrl.getLsbD 0 = false →
            t.out = .msix h (s.qp h sl q).vec :: s.out)
        ∧ t = { s with hosts := t.hosts, out := t.out })
  ∧ (∀ (h : Fin 2) (sl : Fin 256) (q : Fin 64) (s : State), 0 < (s.qp h sl q).dropped → (s.qp h sl q).backlog < 64 →
    Gives (.noticeOverflow (.cq h sl q)) s fun t =>
      (t.qp h sl q).dropped = 0
        ∧ (t.qp h sl q).held = (s.qp h sl q).held ++ [noticeEntry 0xFFFF .ok (s.slice h sl).gen (noticeResult 8 0 0 [] (s.qp h sl q).dropped s.now)]
        ∧ t = { s with hosts := { s.hosts with qps := t.hosts.qps } })
  ∧ (∀ (s : State), 0 < s.mgmt.droppedNow → s.mgmt.notices.length < 64 → Gives (.noticeOverflow .mgmt) s fun t =>
      t = { s with mgmt := { s.mgmt with droppedNow := 0, notices := s.mgmt.notices ++ [noticeEntry 0xFFFF .ok 0 (noticeResult 8 0 0 [] s.mgmt.droppedNow s.now)] } })
  ∧ (∀ (h : Fin 2) (sl : Fin 256) (q : Fin 64) (op : Nat) (c : Cmd) (s : State), s.stopEnded h sl q = true →
      (s.qp h sl q).stop ≠ .sliceReset → (s.qp h sl q).stop ≠ .none → (s.qp h sl q).stopCmd = some (op, c) → s.isRunning c op = true →
      CompletesOk (exec (.qpStopDone h sl q) s) { opcode := op } c (fun _ => []) fun u =>
        u.qp h sl q = (if (s.qp h sl q).stop = .destroy then {}
          else { s.qp h sl q with state := .active, stop := .none, stopCmd := none, sqCi := 0, sqPi := 0 })
        ∧ (∀ k, k ≠ qpKey h sl q → Tab.get {} u.hosts.qps k = Tab.get {} s.hosts.qps k) ∧ u = { s with hosts := { s.hosts with qps := u.hosts.qps } })
  ∧ (∀ (h : Fin 2) (v : Fin 2048) (s : State), Gives (.msixVectorUnmask h v) s fun t =>
      ((t.hp h).msixEntry v).ctrl.getLsbD 0 = false ∧ (∀ j, j ≠ v.val → (t.hp h).msixEntry j = (s.hp h).msixEntry j)
        ∧ ((s.hp h).pba.contains v.val = true → (s.hp h).bme = true → (s.hp h).power = .d0 →
            t.out = .msix h v :: s.out ∧ (t.hp h).pba.contains v.val = false)
        ∧ t = { s with hosts := t.hosts, out := t.out })

/-- R310, R315, R318, R319, R322, R324, R325, R329: the slice commands, whenever they may be carried out and need not wait for a generation. An enable makes a DISABLED slice ACTIVE with the payload's PASID, vectors and limits, in a new generation; a reset or disable leaves the slice RESETTING in a new generation with the command held; a freeze makes it FREEZING for at most 10 ms; a save of a FROZEN slice writes its blob, and counts it; a restore in place makes a FROZEN slice ACTIVE; the dirty log opens an empty round, or ends; a query changes nothing. The body of a blob is a free value (log entry 24). -/
def Obligations.SliceCommandsTakeEffect : Prop :=
  CarriedOut .sliceEnable infoSliceEnable checksSliceEnable (fun c s => (s.slice c.slicePort (byteAt c.payload 0)).inFlight.length < 3)
      (fun _ _ _ => []) (fun c b u =>
      let p := c.payload
      let h := c.slicePort
      let sl := byteAt p 0
      let x := b.slice h sl
      x.state = .disabled ∧ u.slice h sl = { x with
            state := .active, gen := x.gen + 1, inFlight := x.inFlight ++ [x.gen], pasid := BitVec.ofNat 20 (le p 4 3), vecFirst := le p 8 2
            vecCount := le p 10 2, qpLim := byteAt p 12, dmaLim := byteAt p 13, tunLim := le p 14 2, epLim := le p 16 2 }
        ∧ (∀ k, k ≠ sliceKey h sl → Tab.get {} u.hosts.slices k = Tab.get {} b.hosts.slices k)
        ∧ u = { b with hosts := { b.hosts with slices := u.hosts.slices } })
  ∧ Begun .sliceReset infoSliceReset (fun c s => checksReset c false s)
      (fun c s => (s.slice c.slicePort (byteAt c.payload 0)).inFlight.length < 3 ∧ (s.slice c.slicePort (byteAt c.payload 0)).state ≠ .resetting)
      (fun c b t =>
      let h := c.slicePort
      let sl := byteAt c.payload 0
      let x := t.slice h sl
      x.state = .resetting ∧ x.gen = (b.slice h sl).gen + 1 ∧ x.resetCmd = some (0x0607, c) ∧ x.resetDis = false)
  ∧ Begun .sliceDisable infoSliceDisable (fun c s => checksReset c true s)
      (fun c s => (s.slice c.slicePort (byteAt c.payload 0)).inFlight.length < 3 ∧ (s.slice c.slicePort (byteAt c.payload 0)).state ≠ .resetting)
      (fun c b t =>
      let h := c.slicePort
      let sl := byteAt c.payload 0
      let x := t.slice h sl
      x.state = .resetting ∧ x.gen = (b.slice h sl).gen + 1 ∧ x.resetCmd = some (0x0608, c) ∧ x.resetDis = true ∧ sl ≠ 0)
  ∧ Begun .sliceFreeze infoSliceFreeze checksSliceFreeze Always (fun c b t =>
      let h := c.slicePort
      let sl := byteAt c.payload 0
      (b.slice h sl).state = .active
        ∧ t.slice h sl = { b.slice h sl with state := .freezing, freezeCmd := some c, freezeDue := some (b.after 10000000) }
        ∧ (∀ k, k ≠ sliceKey h sl → Tab.get {} t.hosts.slices k = Tab.get {} b.hosts.slices k)
        ∧ t = { b with hosts := { b.hosts with slices := t.hosts.slices } })
  ∧ Begun .sliceSave infoSliceSave checksSliceSave (fun c s =>
      (s.blob c.slicePort (byteAt c.payload 0)).length ≤ le c.payload 16 4 ∧ c.accessFailed = false
        ∧ (c.route = .mgmt ∨ (c.route.slice?.isSome = true ∧ s.addrOk (BitVec.ofNat 64 (le c.payload 8 8)) = true))) (fun c b t =>
      let h := c.slicePort
      let sl := byteAt c.payload 0
      (b.slice h sl).state = .frozen ∧ (t.slice h sl).state = .frozen ∧ (t.slice h sl).saveSeq = (b.slice h sl).saveSeq + 1
        ∧ (∀ hs ss, c.route.slice? = some (hs, ss) → .hostWrite hs ss (BitVec.ofNat 64 (le c.payload 8 8)) (b.blob h sl) ∈ t.out)
        ∧ (c.route = .mgmt → t.slice h sl = { b.slice h sl with saveSeq := (b.slice h sl).saveSeq + 1 }
            ∧ ∀ a, Tab.get 0 t.mgmt.buf a = if le c.payload 8 8 ≤ a ∧ a < le c.payload 8 8 + (b.blob h sl).length
              then (b.blob h sl).getD (a - le c.payload 8 8) 0 else Tab.get 0 b.mgmt.buf a)
        ∧ t.ports = b.ports ∧ t.tunnels = b.tunnels ∧ t.xfer = b.xfer)
  ∧ CarriedOut .sliceRestore infoSliceRestore checksSliceRestore
      (fun c s => le c.payload 16 4 = 0 ∧ (s.slice c.slicePort (byteAt c.payload 0)).go = false)
      (fun c s _ => [(s.slice c.slicePort (byteAt c.payload 0)).gen]) (fun c b u =>
      let h := c.slicePort
      let sl := byteAt c.payload 0
      (b.slice h sl).state = .frozen ∧ u.slice h sl = { b.slice h sl with state := .active, freezeCmd := none, freezeDue := none }
        ∧ (∀ k, k ≠ sliceKey h sl → Tab.get {} u.hosts.slices k = Tab.get {} b.hosts.slices k)
        ∧ u = { b with hosts := { b.hosts with slices := u.hosts.slices } })
  ∧ CarriedOut .sliceDirtyLog infoSliceDirtyLog checksSliceDirtyLog Always (fun _ _ _ => []) (fun c b u =>
      let p := c.payload
      let h := c.slicePort
      let sl := byteAt p 0
      let x := b.slice h sl
      u.slice h sl = (if bitOf (byteAt p 2) 0 then { x with
            dirtyOn := true, dirtyBase := BitVec.ofNat 64 (le p 8 8), dirtyLog2 := byteAt p 1, dirtyPos := 0, dirtyRecent := [], allDirty := false }
          else { x with dirtyOn := false })
        ∧ (∀ k, k ≠ sliceKey h sl → Tab.get {} u.hosts.slices k = Tab.get {} b.hosts.slices k)
        ∧ u = { b with hosts := { b.hosts with slices := u.hosts.slices } })
  ∧ CarriedOut .sliceQuery infoSliceQuery (fun c _ => checksSliceQuery c) Always (fun c s _ =>
      let x := s.slice c.slicePort (byteAt c.payload 0)
      [BitVec.ofNat 8 x.state.ctorIdx, x.gen] ++ toLe 2 (flag x.allDirty) ++ toLe 4 x.staleGen.toNat ++ toLe 4 x.noticeLost.toNat) (fun _ b u => u = b)

/-- R316, R318, R320, R324, Table 12-8: the ends of what a slice command begins. A quiescent FREEZING slice becomes FROZEN; one that is not within 10 ms becomes ACTIVE again. A reset whose aborts are written leaves the slice ACTIVE, or DISABLED after SLICE_DISABLE, with its events and mailbox cleared. The oldest generation in flight that has drained is forgotten. -/
def Obligations.SliceEvents : Prop :=
  (∀ (h : Fin 2) (sl : Fin 256) (s : State), (s.slice h sl).state = .freezing → s.quiescent h sl = true → (s.slice h sl).freezeCmd = none →
    Gives (.sliceQuiescent h sl) s fun t => t = s.setSlice h sl { s.slice h sl with state := .frozen, freezeCmd := none, freezeDue := none })
  ∧ (∀ (h : Fin 2) (sl : Fin 256) (c : Cmd) (s : State), (s.slice h sl).state = .freezing → s.quiescent h sl = true →
      (s.slice h sl).freezeCmd = some c → s.isRunning c 0x0609 = true →
      CompletesOk (exec (.sliceQuiescent h sl) s) infoSliceFreeze c (fun _ => [(s.slice h sl).gen]) fun u =>
        u = s.setSlice h sl { s.slice h sl with state := .frozen, freezeCmd := none, freezeDue := none })
  ∧ (∀ (h : Fin 2) (sl : Fin 256) (s : State), (s.slice h sl).state = .freezing → s.due (s.slice h sl).freezeDue = true →
    Gives (.sliceFreezeTimeout h sl) s fun t =>
      (t.slice h sl).state = .active ∧ (t.slice h sl).freezeCmd = none ∧ (t.slice h sl).freezeDue = none ∧ (t.slice h sl).gen = (s.slice h sl).gen
        ∧ t.ports = s.ports ∧ t.xfer = s.xfer ∧ t.tunnels = s.tunnels)
  ∧ (∀ (h : Fin 2) (sl : Fin 256) (s : State), s.resetEnded h sl = true → (s.slice h sl).waitCmds = [] →
    Gives (.sliceResetDone h sl) s fun t =>
      let x := t.slice h sl
      x.state = (if (s.slice h sl).resetDis then .disabled else .active) ∧ x.evt = 0 ∧ x.evtEn = 0 ∧ x.busy = false
        ∧ ((∀ op c, (s.slice h sl).resetCmd = some (op, c) → c.route ≠ .mbx h sl) → x.done = false) ∧ x.go = false ∧ x.refused = false ∧ x.gen = (s.slice h sl).gen)
  ∧ (∀ (h : Fin 2) (sl : Fin 256) (g : BitVec 8) (rest : List (BitVec 8)) (s : State), (s.slice h sl).inFlight = g :: rest →
      (s.slice h sl).state ≠ .resetting → (∀ q ∈ s.qpsOf h sl, ∀ e ∈ (s.qp h sl q).held, e.gen = g → e.kind = 3) → (s.slice h sl).waitCmds = [] →
    Gives (.generationDrained h sl) s fun t => t = s.setSlice h sl { s.slice h sl with inFlight := rest })

/-- R126, R380, R381, R387, R395: the power commands, whenever they may be carried out. PM_LEVEL sets the level of every island named (0xFF: all), lowers a faster clock at once and raises a slower one when its job ends; PM_DOMAIN on a domain that already is as asked only holds it there and completes, another begins its sequence; PM_WAKE_CFG sets the wake sources; PM_QUERY gives the domains, the sleep state and the energy of the planes. -/
def Obligations.PowerCommandsTakeEffect : Prop :=
  Begun .pmLevel infoPmLevel checksPmLevel Always (fun c b t =>
      let a := byteAt c.payload 0
      let l := byteAt c.payload 1
      (∀ i, (a = 0xFF ∧ i ∈ islands ∨ a ≠ 0xFF ∧ i = a) → Tab.get 0 t.power.levelsSet i = l ∧ t.levelOf i = max (b.levelOf i) l
          ∧ { agent := i, level := l, cmd := some c } ∈ t.power.jobs)
        ∧ (∀ i, ¬(a = 0xFF ∧ i ∈ islands ∨ a ≠ 0xFF ∧ i = a) → Tab.get 0 t.power.levelsSet i = Tab.get 0 b.power.levelsSet i ∧ t.levelOf i = b.levelOf i)
        ∧ t = { b with power := t.power, out := t.out })
  ∧ CarriedOut .pmDomain infoPmDomain checksPmDomain (fun c s =>
        (∀ q ∈ s.power.seqs, q.domain ≠ byteAt c.payload 0) ∧ s.power.on.getLsbD (byteAt c.payload 0) = decide (byteAt c.payload 1 ≠ 1))
      (fun _ _ _ => []) (fun c b u =>
      (∀ d, d < 12 → u.power.held.getLsbD d = if d = byteAt c.payload 0 then decide (byteAt c.payload 1 = 1) else b.power.held.getLsbD d)
        ∧ u.power.on = b.power.on ∧ u.power.seqs = b.power.seqs ∧ u = { b with power := u.power })
  ∧ Begun .pmDomain infoPmDomain checksPmDomain (fun c s =>
        s.power.on.getLsbD (byteAt c.payload 0) = decide (byteAt c.payload 1 = 1)) (fun c b t =>
      t.power.seqs = b.power.seqs ++ [{ domain := byteAt c.payload 0, off := decide (byteAt c.payload 1 = 1), cmd := some c }]
        ∧ (∀ d, d < 12 → t.power.held.getLsbD d = if d = byteAt c.payload 0 then decide (byteAt c.payload 1 = 1) else b.power.held.getLsbD d)
        ∧ t.power.on = b.power.on ∧ t = { b with power := t.power })
  ∧ CarriedOut .pmWakeCfg infoPmWakeCfg checksPmWakeCfg Always (fun _ _ _ => []) (fun c b u =>
      u = { b with power := { b.power with wakeMask := BitVec.ofNat 64 (le c.payload 0 8) } } ∧ le c.payload 0 8 < 2 ^ 19)
  ∧ CarriedOut .pmQuery infoPmQuery (fun c _ => checksPmQuery c) Always (fun _ s _ =>
      toLe 2 s.power.on.toNat ++ toLe 1 s.power.sleep.toNat ++ [0] ++ toLe 4 (s.planeUj (islands.filter fun a => decide (a ≠ 1)))
        ++ toLe 4 (s.planeUj [1]) ++ toLe 4 (s.planeUj [0])) (fun _ b u => u = b)

/-- R375, R376, R378, R380, R383, R384, R386, R387, R388: the ends of power sequences, and sleep. A level change that ends puts the island at its level; a sequence that ends turns exactly its domain on or off; a group powered on demand begins to go off 10 s after its last use; an enabled wake source ends the sleep state; PM_MODE refuses a second request and an ill-formed one, ends at once for RUN, and else begins to quiesce; the last core's wait begins entry, whose end puts the domains of the request off; exit brings back those that were on. An event that is not due, or finds nothing to act on, has no effect (the model's choice, log entry 6). -/
def Obligations.PowerSequencesAndSleep : Prop :=
  (∀ (a : Fin 28) (j : LevelJob) (s : State), s.power.jobs.find? (fun j => decide (j.agent = a.val)) = some j →
      ((s.power.hold = false ∧ s.power.lowSupply = false) ∨ 3 ≤ j.level) → Gives (.levelChangeDone a) s fun t =>
      t.levelOf a = j.level ∧ (∀ i, i ≠ a.val → t.levelOf i = s.levelOf i) ∧ t.power.jobs = eraseFirst (fun x => decide (x.agent = a.val)) s.power.jobs
        ∧ t.ports = s.ports ∧ t.tunnels = s.tunnels ∧ t.xfer = s.xfer)
  ∧ (∀ (d : Fin 12) (q : DomSeq) (s : State), s.power.seqs.find? (fun q => decide (q.domain = d.val)) = some q →
      ¬(q.off = true ∧ d.val = 2 ∧ s.domainUsed 2 = true) → Gives (.domainSequenceDone d) s fun t =>
      (∀ k, k < 12 → t.power.on.getLsbD k = if k = d.val then !q.off else s.power.on.getLsbD k)
        ∧ t.power.seqs = eraseFirst (fun x => decide (x.domain = d.val)) s.power.seqs)
  ∧ (∀ (g : Fin 4) (x : Nat × Time) (s : State), s.power.pgDue.find? (fun e => decide (e.1 = g.val)) = some x → s.due (some x.2) = true →
      s.power.pgDemand.getLsbD g = true → s.power.held.getLsbD (3 + g) = true → s.domainUsed (3 + g) = false → Gives (.pgIdleOffExpiry g) s fun t =>
      t.power.seqs = s.power.seqs ++ [{ domain := 3 + g, off := true }] ∧ t.power.pgDemand.getLsbD g = false ∧ t.power.on = s.power.on
        ∧ t = { s with power := t.power })
  ∧ (∀ (w : WakeSrc) (s : State), s.wakeEnabled w = true → s.power.phase = .steady → s.power.sleep ≠ 0 → Gives (.wakeEvent w) s fun t =>
      t = { s with power := { s.power with phase := .exiting, lastWake := BitVec.ofNat 6 (min w.code 63) } })
  ∧ (∀ (w : WakeSrc) (s : State), s.wakeEnabled w = false → exec (.wakeEvent w) s = .next s)
  ∧ (∀ (target : Fin 4) (mask : BitVec 12) (s : State), s.boot.released = true → (s.power.req = true ∨ s.power.sleep ≠ 0) → target.val ≠ 0 →
    Gives (.pmModeReq none target mask) s fun t => t = { s with power := { s.power with refused := true } })
  ∧ (∀ (target : Fin 4) (mask : BitVec 12) (s : State), s.boot.released = true → s.power.req = false → s.power.sleep = 0 →
    Gives (.pmModeReq none target mask) s fun t =>
      t.power.target = BitVec.ofNat 2 target ∧ t.power.mask = mask ∧ t.power.on = s.power.on ∧ t.ports = s.ports
        ∧ (target.val = 0 → t.power.req = false ∧ t.power.result = 1)
        ∧ (target.val ≠ 0 → s.power.hold = true → t.power.req = true ∧ t.power.sleepWait = true)
        ∧ (target.val ≠ 0 → s.power.hold = false → sleepFormOk target mask.toNat = false → t.power.req = false ∧ t.power.result = 3)
        ∧ (target.val ≠ 0 → s.power.hold = false → sleepFormOk target mask.toNat = true → s.updating = true → t.power.req = false ∧ t.power.result = 2)
        ∧ (target.val ≠ 0 → s.power.hold = false → sleepFormOk target mask.toNat = true → s.updating = false →
            (∀ d ∈ sleepDomains target mask.toNat, s.domainUsed d = false) → s.power.wakeMask = 0 → (∀ e ∈ s.cluster.srcs, e.2.wake = false) →
            t.power.req = true ∧ t.power.phase = .quiescing))
  ∧ (∀ (s : State), Gives .pmModeRefusedClear s fun t => t = { s with power := { s.power with refused := false } })
  ∧ (∀ (s : State), s.power.phase = .quiescing → s.cluster.cores.all Core.idle = true → s.sleepBusy = none → Gives (.sleepEntry false) s fun t =>
      t = { s with power := { s.power with phase := .entering } })
  ∧ (∀ (s : State), s.power.phase = .entering → s.power.wakeLatched = [] → Gives (.sleepEntry true) s fun t =>
      t.power.sleep = s.power.target ∧ t.power.onBefore = s.power.on
        ∧ (s.power.wakeMask = 0 → (∀ e ∈ s.cluster.srcs, e.2.wake = false) → t.power.phase = .steady)
        ∧ (∀ d, d < 12 → t.power.on.getLsbD d =
            (s.power.on.getLsbD d && !(sleepDomains s.power.target.toNat s.power.mask.toNat).contains d)))
  ∧ (∀ (s : State), s.power.phase = .exiting → Gives .sleepExitDone s fun t =>
      t.power.sleep = 0 ∧ t.power.phase = .steady ∧ t.power.req = false ∧ t.power.result = 1 ∧ t.power.gated = []
        ∧ ∀ d, d < 11 → t.power.on.getLsbD d = (s.power.on.getLsbD d || s.power.onBefore.getLsbD d))
  ∧ (∀ (a : Fin 28) (s : State), Gives (.dozeUngate a) s fun t =>
      (∀ i, t.power.gated.contains i = (s.power.gated.contains i && decide (i ≠ a.val))) ∧ t = { s with power := { s.power with gated := t.power.gated } })

/-- R353, R389, R391, R392, R394, R395, R396, R20: supplies and their resets. A rail below its warning level begins a hold, in which every island runs at P3 or slower; the return of every rail ends the hold; a hold beyond its window becomes LOW_SUPPLY, which ends in turn. A switched-domain reset keeps the timebase, the plan, the lock and the site, and runs start-up again; the loss of a SerDes rail takes every link down; a cold start keeps flash and fuses only. Energy is added to its counters; a regulator that does not answer is counted, and its status kept. -/
def Obligations.SupplyEvents : Prop :=
  (∀ (rail : Fin 6) (mv : Nat) (s : State), s.power.powered = true → s.power.resetWait = false → mv < s.warnMv rail → resetMv rail ≤ mv →
      s.power.hold = false → s.power.lowSupply = false → Gives (.brownoutWarn rail mv) s fun t =>
      t.power.hold = true ∧ t.power.holdAt = s.now ∧ t.power.holdRail = rail ∧ t.power.holdLow = mv
        ∧ (∀ a ∈ islands, t.levelOf a = max 3 (s.levelOf a)) ∧ t.ports = s.ports ∧ t.tunnels = s.tunnels ∧ t.xfer = s.xfer)
  ∧ (∀ (low : Nat) (s : State), Gives (.railReturn low) s fun t =>
      t.power.hold = false ∧ t.power.serdesLost = false ∧ t.power.resetWait = false)
  ∧ (∀ (s : State), s.power.hold = true → 1000000 * s.boot.holdWindow ≤ (s.now - s.power.holdAt).toNat → Gives .holdWindowExpiry s fun t =>
      t.power.hold = false ∧ t.power.lowSupply = true ∧ t.power.lowAt = s.now)
  ∧ (∀ (low : Nat) (s : State), s.power.lowSupply = true → Gives (.lowSupplyEnd low) s fun t =>
      t.power.lowSupply = false ∧ t.ports = s.ports ∧ t.tunnels = s.tunnels)
  ∧ (∀ (rail : Fin 6) (s : State), s.power.powered = true → (rail.val = 0 ∨ 4 ≤ rail.val) → Gives (.switchedDomainReset rail) s fun t =>
      t.clock = s.clock ∧ t.plan = s.plan ∧ t.lock = s.lock ∧ t.siteId = s.siteId ∧ t.boot.flash = s.boot.flash ∧ t.boot.stage = .candidates
        ∧ t.boot.released = false ∧ t.ports = [] ∧ t.tunnels = [] ∧ t.xfer = {} ∧ t.marl = {} ∧ t.edge = {} ∧ t.power.resetWait = true
        ∧ t.power.energy = s.power.energy ∧ t.mem.fuseMap = s.mem.fuseMap
        ∧ (∀ r, r < 5 → (t.region r).repairs = (s.region r).repairs ∧ (t.region r).used = (s.region r).used))
  ∧ (∀ (rail : Fin 6) (s : State), s.power.powered = true → s.power.serdesLost = false → (rail.val = 2 ∨ rail.val = 3) →
      (s.hp 0).lost = true → (s.hp 1).lost = true → Gives (.serdesRailLoss rail) s fun t =>
      t.power.serdesLost = true ∧ (∀ p, p < 12 → (s.port p).train.state ≠ .failed → (t.port p).train.state = .disabled)
        ∧ (∀ h, h < 2 → (t.hp h).linkUp = false) ∧ (∀ n, n < 8 → (t.dpi n).trained = false) ∧ (∀ n, n < 4 → (t.netPort n).up = false))
  ∧ (∀ (s : State), Gives .coldStart s fun t =>
      t.boot.flash = s.boot.flash ∧ t.mem.fuseMap = s.mem.fuseMap ∧ t.lock = false ∧ t.plan = [] ∧ t.ports = [] ∧ t.tunnels = [] ∧ t.silt = {}
        ∧ t.boot.stage = .off ∧ t.power = {} ∧ t.clock = {} ∧ t.pending = s.pending)
  ∧ (∀ (agents tunnels overhead : List (Nat × Nat)) (s : State), Gives (.energySample agents tunnels overhead) s fun t =>
      (∀ a, Tab.get 0 t.power.energy a = Tab.get 0 s.power.energy a + BitVec.ofNat 64 ((agents.filter fun e => decide (e.1 = a)).map Prod.snd).sum)
        ∧ (∀ p, p < 12 → (t.port p).overheadNj = (s.port p).overheadNj + BitVec.ofNat 64 ((overhead.filter fun e => decide (e.1 = p)).map Prod.snd).sum)
        ∧ t = { s with power := { s.power with energy := t.power.energy }, ports := t.ports })
  ∧ (∀ (reg : Fin 4) (s : State), (Tab.get {} s.power.regs reg).rail ≠ 0 → Gives (.pmbusPoll reg none) s fun t =>
      Tab.get {} t.power.regs reg = { Tab.get {} s.power.regs reg with missed := min 3 ((Tab.get {} s.power.regs reg).missed + 1) }
        ∧ (∀ j, j ≠ reg.val → Tab.get {} t.power.regs j = Tab.get {} s.power.regs j) ∧ t.ports = s.ports ∧ t.tunnels = s.tunnels)
  ∧ (∀ (reg : Fin 4) (v : BitVec 16) (s : State), (Tab.get {} s.power.regs reg).rail ≠ 0 → Gives (.pmbusPoll reg (some v)) s fun t =>
      (Tab.get {} t.power.regs reg).missed = 0 ∧ (Tab.get {} t.power.regs reg).status = v ∧ (Tab.get {} t.power.regs reg).rail = (Tab.get {} s.power.regs reg).rail
        ∧ t.ports = s.ports ∧ t.tunnels = s.tunnels)

/-- R418, R419, R422, R423, R424, R426, R427, R492, R494: the commands of Silt, whenever they may be carried out. JRNL_READ puts the entries from the first one still held into the management buffer and gives their number, the TAG before them and their index. SILT_DRAIN_BIND by a slice binds the host port's journal ring from the oldest entry no sink has taken, or its trace ring, or unbinds it; by the management controller its own sinks. TRACE_CFG sets the groups. ALARM_READ gives the latches; ALARM_ACK acknowledges, and clears the latch of an absent condition; ALARM_CFG sets severity and enable. JRNL_PERSIST_CFG enables or disables the flash sink. -/
def Obligations.SiltCommandsComplete : Prop :=
  CarriedOut .jrnlRead infoJrnlRead (fun c _ => checksJrnlRead c) (fun c s => c.accessFailed = false ∧ c.route = .mgmt ∧ (s.region 4).errs = [] ∧ (s.region 4).backOnce = [])
      (fun c s _ =>
        let first := max (le c.payload 0 8) s.silt.oldest
        let n := min (le c.payload 16 2) (s.silt.next - first)
        let a := if n = 0 then s.silt.next else first
        toLe 8 n ++ s.tagBefore a ++ toLe 8 a) (fun c b u =>
        let first := max (le c.payload 0 8) b.silt.oldest
        let bytes := b.journalEntries first (min (le c.payload 16 2) (b.silt.next - first))
        (∀ a, Tab.get 0 u.mgmt.buf a = if le c.payload 8 8 ≤ a ∧ a < le c.payload 8 8 + bytes.length then bytes.getD (a - le c.payload 8 8) 0
          else Tab.get 0 b.mgmt.buf a) ∧ u = { b with mgmt := { b.mgmt with buf := u.mgmt.buf } })
  ∧ CarriedOut .siltDrainBind infoSiltDrainBind checksSiltDrainBind (fun c _ => c.route.slice?.isSome = true) (fun _ _ _ => []) (fun c b u =>
      let p := c.payload
      let h := c.home.1
      let on := bitOf (byteAt p 2) 0
      let x := u.hp h
      (if byteAt p 0 = 0 then x.jOn = on ∧ x.tOn = (b.hp h).tOn
            ∧ (on = true → x.jBase = BitVec.ofNat 64 (le p 8 8) ∧ x.jLog2 = byteAt p 1 ∧ x.jPi = 0 ∧ x.jCi = 0 ∧ x.jNext = b.sinkStart)
        else x.tOn = on ∧ x.jOn = (b.hp h).jOn
            ∧ (on = true → x.tBase = BitVec.ofNat 64 (le p 8 8) ∧ x.tLog2 = byteAt p 1 ∧ x.tPi = 0 ∧ x.tCi = 0 ∧ x.tNext = b.silt.traceNext))
        ∧ (u.hp (1 - h)).jOn = (b.hp (1 - h)).jOn ∧ (u.hp (1 - h)).tOn = (b.hp (1 - h)).tOn ∧ u.silt.mgmtJ = b.silt.mgmtJ
        ∧ u.silt.ring = b.silt.ring ∧ u.ports = b.ports ∧ u.tunnels = b.tunnels)
  ∧ CarriedOut .siltDrainBind infoSiltDrainBind checksSiltDrainBind (fun c _ => c.route = .mgmt ∧ byteAt c.payload 3 = 0) (fun _ _ _ => []) (fun c b u =>
      let p := c.payload
      let on := bitOf (byteAt p 2) 0
      (if byteAt p 0 = 0 then u.silt.mgmtJ.on = on ∧ u.silt.mgmtT = b.silt.mgmtT ∧ (on = true → u.silt.mgmtJ.next = b.sinkStart)
        else u.silt.mgmtT = on ∧ u.silt.mgmtJ = b.silt.mgmtJ
            ∧ (on = true → u.silt.traceMgmtPi = BitVec.ofNat 32 b.silt.traceNext ∧ u.silt.traceMgmtCi = BitVec.ofNat 32 b.silt.traceNext))
        ∧ u.silt.ring = b.silt.ring ∧ u.ports = b.ports ∧ u.tunnels = b.tunnels)
  ∧ CarriedOut .traceCfg infoTraceCfg checksTraceCfg Always (fun _ _ _ => []) (fun c b u =>
      u = { b with silt := { b.silt with groups := BitVec.ofNat 32 (le c.payload 0 8) } } ∧ le c.payload 0 8 < 256)
  ∧ CarriedOut .alarmRead infoAlarmRead (fun c _ => checksAlarmRead c) Always (fun _ _ u => toLe 16 u.alarmLatches ++ toLe 8 u.silt.alarmLast.toNat)
      (fun c b u => u = { b with mgmt := { b.mgmt with alarmCause := b.mgmt.alarmCause && decide (c.route ≠ .mgmt) } })
  ∧ CarriedOut .alarmAck infoAlarmAck checksAlarmAck Always (fun _ _ _ => []) (fun c b u =>
      let n := byteAt c.payload 0
      u.alarm n = { b.alarm n with acked := true, latch := (b.alarm n).latch && (b.alarm n).cond } ∧ (∀ j, j ≠ n → u.alarm j = b.alarm j)
        ∧ u = { b with silt := { b.silt with alarms := u.silt.alarms } } ∧ n < 27)
  ∧ CarriedOut .alarmCfg infoAlarmCfg checksAlarmCfg Always (fun _ _ _ => []) (fun c b u =>
      let n := byteAt c.payload 0
      u.alarm n = { b.alarm n with sev := some (byteAt c.payload 1), enable := bitOf (byteAt c.payload 2) 0 } ∧ (∀ j, j ≠ n → u.alarm j = b.alarm j)
        ∧ u = { b with silt := { b.silt with alarms := u.silt.alarms } })
  ∧ CarriedOut .jrnlPersistCfg infoJrnlPersistCfg checksJrnlPersistCfg (fun c _ => c.accessFailed = false) (fun _ _ _ => []) (fun c b u =>
      let on := bitOf (byteAt c.payload 0) 0
      u.silt.persist.on = on ∧ (on = true → b.silt.persist.on = false → u.silt.persist.next = b.sinkStart ∧ u.silt.persistFault = false)
        ∧ (on = b.silt.persist.on → u.silt.persist = b.silt.persist) ∧ u.silt.ring = b.silt.ring ∧ u.ports = b.ports ∧ u.tunnels = b.tunnels)

/-- R419, R421, R423, R424, R425, R427, R429, R465: the events of Silt. A journal ring of a host takes the entries that wait and have room, in order, and a page of flash up to 8 of them; a failed page ends the flash sink. The island FIFOs empty into the trace buffer; a loss record takes room that has come. An alarm or ring vector goes out at most once per 1 ms or 100 us. A commit that waited is made. A consumer index is taken when it lies between the last one and the producer index, and else counted. -/
def Obligations.SiltEvents : Prop :=
  (∀ (h : Fin 2) (s : State), Gives (.journalDrain h) s fun t =>
      let x := s.hp h
      let n := s.drainable h
      (t.hp h).jNext = x.jNext + n ∧ t.out.length = s.out.length + n
        ∧ (∀ i, i < n → t.out[n - 1 - i]? = some (.hostWrite h 0 (x.jBase + BitVec.ofNat 64 (32 * ((x.jPi + i) % 2 ^ x.jLog2)))
            (Tab.get {} s.silt.ring ((x.jNext + i) % 8192)).bytes))
        ∧ (t.hp (1 - h.val)).jNext = (s.hp (1 - h.val)).jNext ∧ t.silt.ring = s.silt.ring ∧ t.silt.next = s.silt.next ∧ t.ports = s.ports ∧ t.tunnels = s.tunnels)
  ∧ (∀ (s : State), 8 ≤ s.persistWaiting → (s.silt.persistWr + 1) % max (s.boot.jrnlSize / 256) 1 % 256 ≠ 0 → Gives (.persistPage true) s fun t =>
      let bytes := s.journalEntries s.silt.persist.next 8
      t.silt.persist.next = s.silt.persist.next + 8 ∧ t.silt.persistWr = (s.silt.persistWr + 1) % max (s.boot.jrnlSize / 256) 1
        ∧ (∀ a, Tab.get 0xFF t.boot.flash a = if s.persistAddr ≤ a ∧ a < s.persistAddr + bytes.length then bytes.getD (a - s.persistAddr) 0xFF
            else Tab.get 0xFF s.boot.flash a) ∧ t.silt.ring = s.silt.ring ∧ t.ports = s.ports)
  ∧ (∀ (s : State), 8 ≤ s.persistWaiting → Gives (.persistPage false) s fun t =>
      t.silt.persist.on = false ∧ t.silt.persistFault = true ∧ t.boot.flash = s.boot.flash ∧ t.ports = s.ports)
  ∧ (∀ (s : State), s.hosts.hp0.tOn = false → s.hosts.hp1.tOn = false → s.silt.mgmtT = true → s.silt.traceLoss = none →
      s.silt.trace.length + (s.silt.fifos.flatMap Prod.snd).length ≤ 8192 → Gives .traceDrain s fun t =>
      t.silt.fifos = [] ∧ t.silt.traceNext = s.silt.traceNext + (s.silt.fifos.flatMap Prod.snd).length
        ∧ t.silt.traceMgmtPi = s.silt.traceMgmtPi + BitVec.ofNat 32 (s.silt.fifos.flatMap Prod.snd).length
        ∧ t.silt.traceLost = s.silt.traceLost ∧ t = { s with silt := t.silt })
  ∧ (∀ (a : Nat) (l : Loss) (s : State), s.silt.fifoLoss.find? (fun e => decide (e.1 = a)) = some (a, l) → (Tab.get [] s.silt.fifos a).length < 16 →
    Gives (.lossRecord (.fifo a)) s fun t =>
      Tab.get [] t.silt.fifos a = Tab.get [] s.silt.fifos a ++ [l.record a] ∧ t.silt.fifoLoss.find? (fun e => decide (e.1 = a)) = none
        ∧ t = { s with silt := { s.silt with fifos := t.silt.fifos, fifoLoss := t.silt.fifoLoss } })
  ∧ (∀ (h : Fin 2) (s : State), (s.hp h).alarmPend = true → (s.hp h).alarmNext.toNat ≤ s.now.toNat → Gives (.alarmVector h) s fun t =>
      (t.hp h).alarmPend = false ∧ (t.hp h).alarmNext = s.after 1000000
        ∧ ((s.hp h).power = .d0 → (s.hp h).bme = true → ((s.hp h).msixEntry (s.hp h).siltVecNum).ctrl.getLsbD 0 = false →
            t.out = .msix h (s.hp h).siltVecNum :: s.out) ∧ t = { s with hosts := t.hosts, out := t.out })
  ∧ (∀ (h : Fin 2) (s : State), (s.hp h).jPend = true → (s.hp h).jVecNext.toNat ≤ s.now.toNat → Gives (.siltRingVector h false) s fun t =>
      (t.hp h).jPend = false ∧ (t.hp h).jVecNext = s.after 100000 ∧ (t.hp h).tPend = (s.hp h).tPend ∧ t = { s with hosts := t.hosts, out := t.out })
  ∧ (∀ (h : Fin 2) (s : State), (s.hp h).tPend = true → (s.hp h).tVecNext.toNat ≤ s.now.toNat → Gives (.siltRingVector h true) s fun t =>
      (t.hp h).tPend = false ∧ (t.hp h).tVecNext = s.after 100000 ∧ (t.hp h).jPend = (s.hp h).jPend ∧ t = { s with hosts := t.hosts, out := t.out })
  ∧ (∀ (r : JReq) (rest : List Deferred) (s : State), s.silt.records = [] → s.silt.deferred = { req := r } :: rest → s.power.hold = false →
      s.silt.chained = true → s.journalRoom false = true → Gives .journalDeferredCommit s fun t =>
      t.silt.next = s.silt.next + 1 ∧ t.silt.deferred = rest ∧ ((Tab.get {} t.silt.ring (s.silt.next % 8192)).bytes).take 24 = r.head s.now)
  ∧ (∀ (h : Fin 2) (v : BitVec 32) (s : State), (s.hp h).jOn = true → Gives (.jrnlRingCi h v) s fun t =>
      let x := s.hp h
      match ciAdvance x.jLog2 x.jPi x.jCi (v.toNat % 65536) with
      | some _ => t = (s.wakeCfg (12 + h)).setHp h { x with jCi := v.toNat % 65536 }
      | none => t = { s.wakeCfg (12 + h) with silt := { s.silt with drainCiBad := s.silt.drainCiBad + 1 } })
  ∧ (∀ (h : Fin 2) (v : BitVec 32) (s : State), (s.hp h).tOn = true → Gives (.traceRingCi h v) s fun t =>
      let x := s.hp h
      match ciAdvance x.tLog2 x.tPi x.tCi (v.toNat % 65536) with
      | some _ => t = (s.wakeCfg (12 + h)).setHp h { x with tCi := v.toNat % 65536 }
      | none => t = { s.wakeCfg (12 + h) with silt := { s.silt with drainCiBad := s.silt.drainCiBad + 1 } })
  ∧ (∀ (v : BitVec 64) (s : State), s.silt.mgmtJ.on = true → Gives (.jrnlMgmtCi v) s fun t =>
      if s.silt.mgmtJ.next ≤ v.toNat ∧ v.toNat ≤ s.silt.next then t.silt.mgmtJ = { s.silt.mgmtJ with next := v.toNat } ∧ t.silt.drainCiBad = s.silt.drainCiBad
      else t = { s with silt := { s.silt with drainCiBad := s.silt.drainCiBad + 1 } })
  ∧ (∀ (v : BitVec 32) (s : State), s.silt.mgmtT = true → Gives (.traceMgmtCi v) s fun t =>
      if (v - s.silt.traceMgmtCi).toNat ≤ (s.silt.traceMgmtPi - s.silt.traceMgmtCi).toNat then
        t.silt.traceMgmtCi = v ∧ t.silt.traceMgmtPi = s.silt.traceMgmtPi ∧ t = { s with silt := { s.silt with traceMgmtCi := v, trace := t.silt.trace } }
      else t = { s with silt := { s.silt with drainCiBad := s.silt.drainCiBad + 1 } })

/-- R25, R341, R343, R346, R348, R351, R381: the commands of the edges, whenever they may be carried out, with every field they set and no other. TB_SET sets the timebase, before release only, and moves every pending DUE by the same step, so that no remaining delay changes; TB_SLEW both the trim and the offset, REFCLK_SELECT the mode; TB_QUERY and DPI_QUERY change nothing. DPI_CFG on an enabled input whose value changes ends its main link and pulls HPD low for 2 ms; NET_PORT_CFG takes the link down when the value changes. -/
def Obligations.EdgeCommandsTakeEffect : Prop :=
  CarriedOut .tbSet infoTbSet checksTbSet Always (fun _ _ _ => []) (fun c b u =>
      u.clock = { b.clock with now := BitVec.ofNat 64 (le c.payload 8 8), frac := 0 } ∧ b.boot.released = false
        ∧ (∀ d, d < 4 → u.delayList d = { b.delayList d with items := (b.delayList d).items.map fun i => { i with due := i.due + (u.tick32 - b.tick32) } })
        ∧ u = { b with clock := u.clock, cluster := { b.cluster with delay := u.cluster.delay } })
  ∧ CarriedOut .tbSlew infoTbSlew (fun c _ => checksTbSlew c) Always (fun _ _ _ => []) (fun c b u =>
      u = { b with clock := { b.clock with trim := BitVec.ofNat 32 (le c.payload 0 4), slewLeft := signed 64 (le c.payload 8 8) * 2 ^ 32 } }
        ∧ (signed 32 (le c.payload 0 4)).natAbs ≤ 21474836)
  ∧ CarriedOut .refclkSelect infoRefclkSelect checksRefclkSelect Always (fun _ s _ => [BitVec.ofNat 8 (flag s.clock.srcB)]) (fun c b u =>
      u = { b with clock := { b.clock with mode := byteAt c.payload 0 } } ∧ byteAt c.payload 0 ≤ 2
        ∧ (byteAt c.payload 0 ≤ 1 → b.clock.valid (decide (byteAt c.payload 0 = 1)) = true))
  ∧ CarriedOut .tbQuery infoTbQuery (fun c _ => checksTbQuery c) Always (fun _ s _ =>
      toLe 8 s.clock.now.toNat ++ toLe 4 s.clock.trim.toNat ++ toLe 1 (flag s.clock.srcB) ++ toLe 1 (flag s.clock.aValid + 2 * flag s.clock.bValid))
      (fun _ b u => u = b)
  ∧ CarriedOut .dpiCfg infoDpiCfg checksDpiCfg Always (fun _ _ _ => []) (fun c b u =>
      let n := byteAt c.payload 0
      let d := b.dpi n
      let x := u.dpi n
      x.rate = byteAt c.payload 1 ∧ x.streams = byteAt c.payload 2 ∧ x.enabled = bitOf (byteAt c.payload 3) 0 ∧ n < 8 ∧ b.domainOff 9 = false
        ∧ (d.enabled = true → ¬(x.rate = d.rate ∧ x.streams = d.streams ∧ x.enabled = d.enabled) →
            x.trained = false ∧ x.linkRate = 0 ∧ x.lanes = 0 ∧ x.hpdDue = if x.enabled then some (b.after 2000000) else none)
        ∧ ((d.enabled = false ∨ x.rate = d.rate ∧ x.streams = d.streams ∧ x.enabled = d.enabled) →
            x = { d with rate := x.rate, streams := x.streams, enabled := x.enabled })
        ∧ (∀ j, j ≠ n → u.dpi j = b.dpi j) ∧ u = { b with edge := { b.edge with dpis := u.edge.dpis } })
  ∧ CarriedOut .dpiQuery infoDpiQuery checksDpiQuery Always (fun c s _ =>
      let d := s.dpi (byteAt c.payload 0)
      toLe 1 d.linkRate ++ toLe 1 d.lanes ++ toLe 1 d.streams ++ [0] ++ toLe 4 (d.s0.mode.pixclk / 1000)) (fun _ b u => u = b)
  ∧ CarriedOut .netPortCfg infoNetPortCfg checksNetPortCfg (fun c s =>
        let x := s.netPort (byteAt c.payload 0)
        x.up = false ∨ x.rate = byteAt c.payload 1 ∧ x.fec = bitOf (byteAt c.payload 2) 0) (fun _ _ _ => []) (fun c b u =>
      let n := byteAt c.payload 0
      u.netPort n = { b.netPort n with rate := byteAt c.payload 1, fec := bitOf (byteAt c.payload 2) 0 } ∧ n < 4 ∧ byteAt c.payload 1 < 3
        ∧ (∀ j, j ≠ n → u.netPort j = b.netPort j) ∧ u = { b with edge := { b.edge with nets := u.edge.nets } })
  ∧ Begun .netPortCfg infoNetPortCfg checksNetPortCfg (fun c s =>
        let x := s.netPort (byteAt c.payload 0)
        x.up = true ∧ ¬(x.rate = byteAt c.payload 1 ∧ x.fec = bitOf (byteAt c.payload 2) 0)) (fun c b t =>
      let n := byteAt c.payload 0
      t.netPort n = { b.netPort n with rate := byteAt c.payload 1, fec := bitOf (byteAt c.payload 2) 0, up := false }
        ∧ (∀ j, j ≠ n → t.netPort j = b.netPort j) ∧ t.edge.dpis = b.edge.dpis ∧ t.ports = b.ports ∧ t.tunnels = b.tunnels)
  ∧ CarriedOut .ptpCfg infoPtpCfg checksPtpCfg Always (fun _ _ _ => []) (fun c b u =>
      let n := byteAt c.payload 0
      let v := byteAt c.payload 1
      u.netPort n = { b.netPort n with ptpEvents := decide (v % 2 = 1), ptpEnc := v / 2 } ∧ n < 4 ∧ v < 8
        ∧ (∀ j, j ≠ n → u.netPort j = b.netPort j) ∧ u = { b with edge := { b.edge with nets := u.edge.nets } })

/-- R24, R341, R342, R343, R344: the clocks. An offset that is removed ends the slew and leaves the trim; a lost reference becomes invalid with alarm 3, and the loss of the selected one switches to the other where that is valid and else begins holdover with alarm 4; a valid reference ends holdover and is switched to where the selected one is invalid; a preferred one is returned to after 10 s; a follower that is invalid stays so until a full value; a PTM dialogue stores its three results and counts. An event that is not due, or finds nothing to act on, has no effect (the model's choice, log entry 6). -/
def Obligations.ClockEvents : Prop :=
  (∀ (s : State), s.clock.slewLeft.natAbs < 2 ^ 32 → Gives .slewOffsetRemoved s fun t => t = { s with clock := { s.clock with slewLeft := 0 } })
  ∧ (∀ (s : State), 2 ^ 32 ≤ s.clock.slewLeft.natAbs → exec .slewOffsetRemoved s = .next s)
  ∧ (∀ (a : Fin 28) (s : State), Gives (.followerInvalid a) s fun t =>
      (∀ j, t.clock.invalidFollowers.contains j = (decide (j = a.val) || s.clock.invalidFollowers.contains j))
        ∧ t = { s with clock := { s.clock with invalidFollowers := t.clock.invalidFollowers }, cluster := t.cluster, power := t.power })
  ∧ (∀ (s : State), Gives .timebaseFullValue s fun t => t = { s with clock := { s.clock with invalidFollowers := [] } })
  ∧ (∀ (n : Fin 2) (s : State), s.clock.valid (decide (n.val = 1)) = true → Gives (.refclkLost n) s fun t =>
      let b := decide (n.val = 1)
      t.clock.valid b = false ∧ t.clock.valid (!b) = s.clock.valid (!b) ∧ (t.alarm 3).latch = true ∧ (t.alarm 3).cond = true
        ∧ t.clock.now = s.clock.now ∧ t.clock.trim = s.clock.trim ∧ t.ports = s.ports ∧ t.tunnels = s.tunnels
        ∧ (s.clock.srcB ≠ b → t.clock.srcB = s.clock.srcB ∧ t.clock.holdover = s.clock.holdover ∧ t.clock.switches = s.clock.switches)
        ∧ (s.clock.srcB = b → s.clock.valid (!b) = true →
            t.clock.srcB = !b ∧ t.clock.switches = s.clock.switches + 1 ∧ t.clock.holdover = s.clock.holdover)
        ∧ (s.clock.srcB = b → s.clock.valid (!b) = false →
            t.clock.holdover = true ∧ t.clock.srcB = b ∧ (t.alarm 4).latch = true ∧ t.clock.switches = s.clock.switches))
  ∧ (∀ (n : Fin 2) (s : State), s.clock.valid (decide (n.val = 1)) = false → Gives (.refclkValid n) s fun t =>
      let b := decide (n.val = 1)
      t.clock.valid b = true ∧ t.clock.valid (!b) = s.clock.valid (!b) ∧ t.clock.holdover = false
        ∧ t.clock.srcB = (if s.clock.srcB = b ∨ s.clock.valid (!b) = true then s.clock.srcB else b)
        ∧ (if b then t.clock.bSince else t.clock.aSince) = s.now ∧ t.ports = s.ports ∧ t.tunnels = s.tunnels)
  ∧ (∀ (n : Fin 2) (s : State), s.clock.valid (decide (n.val = 1)) = true → exec (.refclkValid n) s = .next s)
  ∧ (∀ (s : State), s.clock.mode ≤ 1 → s.clock.srcB ≠ decide (s.clock.mode = 1) → s.clock.valid (decide (s.clock.mode = 1)) = true →
      10000000000 ≤ (s.now - if s.clock.mode = 1 then s.clock.bSince else s.clock.aSince).toNat → Gives .preferredReturn s fun t =>
      t.clock = { s.clock with srcB := decide (s.clock.mode = 1), switches := s.clock.switches + 1 }
        ∧ t = { s with clock := t.clock, silt := t.silt, freeCtr := t.freeCtr })
  ∧ (∀ (h : Fin 2) (t1 master : BitVec 64) (delay : BitVec 32) (s : State), (s.hp h).ptmEn = true → (s.hp h).linkUp = true →
      s.domainOff 7 = false → Gives (.ptmDialogue h t1 master delay) s fun t =>
      t.hp h = { s.hp h with ptmLocal := t1, ptmMaster := master, ptmDelay := delay, ptmSeq := (s.hp h).ptmSeq + 1 }
        ∧ t.hp (1 - h) = s.hp (1 - h) ∧ t = { s with hosts := t.hosts, cluster := t.cluster, power := t.power })

/-- R88, R89, R90, R345, R346, R347, R387: the display edge. HPD is high again when its 2 ms have ended; connect, disconnect, training, trained and loss set the state of an enabled input as named, and raise its event; a segment of a stream with no tunnel, or with one that opens or closes, is counted in UNBOUND_DROP, a third SDP of a frame in SDP_DROP, and a second MSA or VBLANK of a frame is not sent; one with an open tunnel, room and video enters the port's DISP queue as one cell that ends its burst, the MSA with its presentation time; a stopped stream sends NOVIDEO; a mode change stores the mode and the flits it needs. -/
def Obligations.DisplayEvents : Prop :=
  (∀ (n : Fin 8) (s : State), s.due (s.dpi n).hpdDue = true → Gives (.dpiHpdPulseEnd n) s fun t =>
      t.dpi n = { s.dpi n with hpdDue := none } ∧ (∀ j, j ≠ n.val → t.dpi j = s.dpi j) ∧ t = { s with edge := { s.edge with dpis := t.edge.dpis } })
  ∧ (∀ (n : Fin 8) (kind : Fin 5) (rate : Fin 6) (lanes : Fin 5) (s : State), s.domainOff 9 = false → (s.dpi n).enabled = true →
      (s.dpi n).hpdDue = none → (kind.val = 3 → rate.val ≤ (s.dpi n).rate ∧ lanes.val ∈ [1, 2, 4]) → Gives (.dpiLinkChange n kind rate lanes) s fun t =>
      (t.dpi n).connected = (if kind.val = 1 then false else if kind.val = 4 then (s.dpi n).connected else true)
        ∧ (t.dpi n).trained = (if kind.val = 0 then (s.dpi n).trained else decide (kind.val = 3))
        ∧ (kind.val = 3 → (t.dpi n).linkRate = rate ∧ (t.dpi n).lanes = lanes)
        ∧ (kind.val ∈ [1, 2, 4] → (t.dpi n).linkRate = 0 ∧ (t.dpi n).lanes = 0 ∧ ∀ k, ((t.dpi n).stream k).stopped = true)
        ∧ (∀ j, j ≠ n.val → t.dpi j = s.dpi j) ∧ t = { s with edge := { s.edge with dpis := t.edge.dpis }, cluster := t.cluster, power := t.power })
  ∧ (∀ (n : Fin 8) (k : Fin 4) (seg flags line off : Nat) (frame : BitVec 8) (data : List Byte) (s : State), segOk seg flags line data = true →
      s.streamTunnel (4 * n.val + k.val) = none → Gives (.dispSegment n k seg flags line off frame data) s fun t =>
      (t.streamOf (4 * n.val + k.val)).unboundDrop = (s.streamOf (4 * n.val + k.val)).unboundDrop + 1 ∧ (t.streamOf (4 * n.val + k.val)).stopped = false
        ∧ t = { s with edge := { s.edge with dpis := t.edge.dpis } })
  ∧ (∀ (n : Fin 8) (k : Fin 4) (seg flags line off : Nat) (frame : BitVec 8) (data : List Byte) (tid : Nat) (s : State), segOk seg flags line data = true →
      s.streamTunnel (4 * n.val + k.val) = some tid → (s.streamOf (4 * n.val + k.val)).firstOf seg frame = true → s.hpdLow tid = false →
      ((s.tunnel tid).state = .opening ∨ (s.tunnel tid).state = .closing) →
      Gives (.dispSegment n k seg flags line off frame data) s fun t =>
      (t.streamOf (4 * n.val + k.val)).unboundDrop = (s.streamOf (4 * n.val + k.val)).unboundDrop + 1 ∧ t = { s with edge := { s.edge with dpis := t.edge.dpis } })
  ∧ (∀ (n : Fin 8) (k : Fin 4) (flags line off : Nat) (frame : BitVec 8) (data : List Byte) (tid : Nat) (s : State), segOk 2 flags line data = true →
      s.streamTunnel (4 * n.val + k.val) = some tid → frame = (s.streamOf (4 * n.val + k.val)).frame → 2 ≤ (s.streamOf (4 * n.val + k.val)).sdps →
      Gives (.dispSegment n k 2 flags line off frame data) s fun t =>
      (t.streamOf (4 * n.val + k.val)).sdpDrop = (s.streamOf (4 * n.val + k.val)).sdpDrop + 1 ∧ t = { s with edge := { s.edge with dpis := t.edge.dpis } })
  ∧ (∀ (n : Fin 8) (k : Fin 4) (seg flags line off : Nat) (frame : BitVec 8) (data : List Byte) (tid q : Nat) (s : State), segOk seg flags line data = true →
      s.streamTunnel (4 * n.val + k.val) = some tid → (s.streamOf (4 * n.val + k.val)).firstOf seg frame = true →
      s.hpdLow tid = false → (s.tunnel tid).state = .opened → (s.tunnel tid).cls = 0 →
      (s.streamOf (4 * n.val + k.val)).noVideo = false → queueOf (agentPort (s.tunnel tid).port) 0 (s.tunnel tid).periodic = some q →
      s.roomFor 0 (agentPort (s.tunnel tid).port) q = true → Gives (.dispSegment n k seg flags line off frame data) s fun t =>
      CellIn s t (agentPort (s.tunnel tid).port) q tid fun c => c.bl = true ∧ c.cls = 0 ∧ c.gen = (s.tunnel tid).gen ∧ c.poison = false
        ∧ c.payload = (if seg = 1 then segment 1 0 0 0 frame (msaData data (s.tunnel tid).presDelay) else if seg = 3 then segment 3 0 0 0 frame [0]
            else segment seg flags line off frame data))
  ∧ (∀ (n : Fin 8) (k : Fin 4) (seg flags line off : Nat) (frame : BitVec 8) (data : List Byte) (tid : Nat) (s : State), segOk seg flags line data = true →
      s.streamTunnel (4 * n.val + k.val) = some tid → seg ≠ 2 → (s.streamOf (4 * n.val + k.val)).firstOf seg frame = false →
      Gives (.dispSegment n k seg flags line off frame data) s fun t => t = { s with edge := { s.edge with dpis := t.edge.dpis } }
        ∧ (t.streamOf (4 * n.val + k.val)).unboundDrop = (s.streamOf (4 * n.val + k.val)).unboundDrop
        ∧ (t.streamOf (4 * n.val + k.val)).sdpDrop = (s.streamOf (4 * n.val + k.val)).sdpDrop)
  ∧ (∀ (n : Fin 8) (k : Fin 4) (tid q : Nat) (s : State), s.streamTunnel (4 * n.val + k.val) = some tid → s.hpdLow tid = false →
      (s.tunnel tid).state = .opened → (s.tunnel tid).cls = 0 → ((s.streamOf (4 * n.val + k.val)).stopped = true ∨ (s.streamOf (4 * n.val + k.val)).noVideo = true) →
      queueOf (agentPort (s.tunnel tid).port) 0 (s.tunnel tid).periodic = some q →
      s.roomFor 0 (agentPort (s.tunnel tid).port) q = true → Gives (.novideoPeriod n k) s fun t =>
      CellIn s t (agentPort (s.tunnel tid).port) q tid fun c => c.payload = segment 4 0 0 0 (s.streamOf (4 * n.val + k.val)).frame [0] ∧ c.bl = true)
  ∧ (∀ (n : Fin 8) (k : Fin 4) (mode : DispMode) (s : State), s.streamTunnel (4 * n.val + k.val) = none → Gives (.dispModeChange n k mode) s fun t =>
      t.streamOf (4 * n.val + k.val) = { s.streamOf (4 * n.val + k.val) with flits := dispFlits mode, mode := mode, stopped := false }
        ∧ t = { s with edge := { s.edge with dpis := t.edge.dpis } })
  ∧ (∀ (n : Fin 8) (k : Fin 4) (mode : DispMode) (tid : Nat) (s : State), s.streamTunnel (4 * n.val + k.val) = some tid → s.dpBinding tid = false →
      Gives (.dispModeChange n k mode) s fun t =>
      (t.streamOf (4 * n.val + k.val)).flits = dispFlits mode ∧ (t.streamOf (4 * n.val + k.val)).mode = mode ∧ (t.streamOf (4 * n.val + k.val)).stopped = false)
  ∧ (∀ (n : Fin 8) (k : Fin 4) (mode : DispMode) (tid r : Nat) (s : State), s.streamTunnel (4 * n.val + k.val) = some tid → s.dpBinding tid = true →
      dispFlits mode ≤ (s.tunnel tid).rsvOut → (s.port (s.tunnel tid).port).pd.dp.rate = some r →
      (s.port (s.tunnel tid).port).pd.dp.source = some (4 * n.val + k.val) → (s.port (s.tunnel tid).port).pd.dpDscOk mode = true →
      (s.tunnel tid).stream = 4 * n.val + k.val → dpFits mode (s.port (s.tunnel tid).port).pd.dp.lanes r = true →
      Gives (.dispModeChange n k mode) s fun t =>
      t.streamOf (4 * n.val + k.val) = { s.streamOf (4 * n.val + k.val) with flits := dispFlits mode, mode := mode, stopped := false, noVideo := false }
        ∧ t.tunnel tid = { s.tunnel tid with state := .opened } ∧ t.ports = s.ports)

/-- R348, R349, R350, R387: the Ethernet edge. The link of a port that is not off goes up or down as named; a frame too long, with a bad FCS, of MAC control, without a VLAN tag or of a VID that binds no tunnel is discarded and counted once; any other changes no drop counter, and one of a single cell enters the NET queue of its tunnel's port whole. -/
def Obligations.EthernetEvents : Prop :=
  (∀ (n : Fin 4) (up : Bool) (s : State), s.domainOff 10 = false → (s.netPort n).rate ≠ 0 → (s.netPort n).up ≠ up →
      Gives (.ethLinkChange n up) s fun t =>
      t.netPort n = { s.netPort n with up := up } ∧ (∀ j, j ≠ n.val → t.netPort j = s.netPort j)
        ∧ t = { s with edge := { s.edge with nets := t.edge.nets }, cluster := t.cluster, power := t.power })
  ∧ (∀ (n : Fin 4) (f : List Byte) (s : State), s.domainOff 10 = false → (s.netPort n).up = true → (9216 < f.length ∨ 64 ≤ f.length) →
      (9216 < f.length ∨ fcsOk f = false ∨ macControl f = true ∨ frameVid f = none ∨ ∃ v, frameVid f = some v ∧ s.vidTunnel n v = none) →
      Gives (.ethFrameReceived n f) s fun t =>
      t.netPort n =
          (if 9216 < f.length then { s.netPort n with oversize := (s.netPort n).oversize + 1 }
          else if fcsOk f = false then { s.netPort n with fcsDrop := (s.netPort n).fcsDrop + 1 }
          else if macControl f = true then { s.netPort n with ctrlDrop := (s.netPort n).ctrlDrop + 1 }
          else if frameVid f = none then { s.netPort n with untaggedDrop := (s.netPort n).untaggedDrop + 1 }
          else { s.netPort n with noTunnelDrop := (s.netPort n).noTunnelDrop + 1 })
        ∧ (∀ j, j ≠ n.val → t.netPort j = s.netPort j) ∧ t = { s with edge := { s.edge with nets := t.edge.nets } })
  ∧ (∀ (n : Fin 4) (f : List Byte) (v tid : Nat) (s : State), s.domainOff 10 = false → (s.netPort n).up = true → 64 ≤ f.length → f.length ≤ 9216 →
      fcsOk f = true → macControl f = false → frameVid f = some v → s.vidTunnel n v = some tid → Gives (.ethFrameReceived n f) s fun t =>
      t.edge = s.edge ∧ t.tunnels = s.tunnels
        ∧ (f.length ≤ 112 → ∀ q, (s.tunnel tid).state = .opened → queueOf (agentPort (s.tunnel tid).port) 5 (s.tunnel tid).periodic = some q →
            s.roomFor 5 (agentPort (s.tunnel tid).port) q = true →
            CellIn s t (agentPort (s.tunnel tid).port) q tid fun c => c.payload = padTo 120 (toLe 4 0 ++ recordBytes 0 f) ∧ c.bl = true ∧ c.cls = 5))

/-- R246, R373, R390, R427, R442, R457, R458, R463, R464: the registers that a write of one bit or of one value acts on. GO of the management mailbox starts its message as a command, or while BUSY sets REFUSED alone; the clears clear their bit and a pop removes the oldest notice; the peak clears zero the peaks of every list and change no count. A write of GLB_SITE_ID takes effect where its entry may be committed, is refused with the lock set or without room, and is held in a brownout hold. -/
def Obligations.MailboxAndSiteRegisters : Prop :=
  (∀ (s : State), s.mgmt.busy = false → msgFormOk s.mgmt.msg = true → s.boot.stage ≠ .noImage → Gives .mgmtGo s fun t =>
      t.mgmt = { s.mgmt with go := false, busy := true, irq := entryIrq s.mgmt.msg }
        ∧ t.isRunning { route := .mgmt, gen := entryGen s.mgmt.msg, tag := entryTag s.mgmt.msg, irq := entryIrq s.mgmt.msg, payload := (padTo 64 s.mgmt.msg).drop 8 }
            (entryOpcode s.mgmt.msg) = true
        ∧ t = { s with mgmt := t.mgmt, hosts := t.hosts, cluster := t.cluster, power := t.power })
  ∧ (∀ (s : State), s.mgmt.busy = true → Gives .mgmtGo s fun t => t = { s with mgmt := { s.mgmt with refused := true } })
  ∧ (∀ (s : State), Gives .mgmtDoneClear s fun t => t = { s with mgmt := { s.mgmt with done := false } })
  ∧ (∀ (s : State), Gives .mgmtRefusedClear s fun t => t = { s with mgmt := { s.mgmt with refused := false } })
  ∧ (∀ (s : State), Gives .mgmtNtcPop s fun t => t = { s with mgmt := { s.mgmt with notices := s.mgmt.notices.drop 1 } })
  ∧ (∀ (s : State), Gives .shlPeakClrLists s fun t =>
      (∀ p, p < 16 → t.readyList p = { s.readyList p with maxDepth := 0, waitMax := 0 }) ∧ t = { s with cluster := { s.cluster with ready := t.cluster.ready } })
  ∧ (∀ (s : State), Gives .shlPeakClrDelay s fun t =>
      (∀ d, d < 4 → t.delayList d = { s.delayList d with maxPending := 0 }) ∧ t = { s with cluster := { s.cluster with delay := t.cluster.delay } })
  ∧ (∀ (who : Option (Fin 2)) (v : BitVec 32) (s : State), s.power.hold = false → s.lock = false → s.journalRoom who.isNone = true →
      Gives (.glbSiteIdWrite who v) s fun t => t.siteId = v ∧ t.lock = false ∧ t.ports = s.ports ∧ t.tunnels = s.tunnels ∧ t.power.levels = s.power.levels ∧ t.power.on = s.power.on)
  ∧ (∀ (who : Option (Fin 2)) (v : BitVec 32) (s : State), s.power.hold = false → s.lock = true →
      Gives (.glbSiteIdWrite who v) s fun t => t.siteId = s.siteId ∧ t.lock = true
        ∧ (s.journalRoom who.isNone = false → t = { s.wroteBy who with silt := { s.silt with refusedUnlogged := s.silt.refusedUnlogged + 1 } }))
  ∧ (∀ (who : Option (Fin 2)) (v : BitVec 32) (s : State), s.power.hold = false → s.lock = false → s.journalRoom who.isNone = false →
      Gives (.glbSiteIdWrite who v) s fun t => t.siteId = s.siteId ∧ t.silt = { s.silt with jrnlBusy := s.silt.jrnlBusy + 1 }
        ∧ (match who with | some h => (t.hp h).wrRefused = true | none => t.mgmt.wrRefused = true))
  ∧ (∀ (h : Fin 2) (v : BitVec 32) (s : State), s.power.hold = true → (s.hp h).siteHeld.length < 4 → Gives (.glbSiteIdWrite (some h) v) s fun t =>
      t = (s.wakeCfg (12 + h)).setHp h { s.hp h with siteHeld := (s.hp h).siteHeld ++ [v] })
  ∧ (∀ (v : BitVec 32) (s : State), s.power.hold = true → s.mgmt.siteHeld.length < 4 → Gives (.glbSiteIdWrite none v) s fun t =>
      t = { s with mgmt := { s.mgmt with siteHeld := s.mgmt.siteHeld ++ [v] } })
  ∧ (∀ (h : Fin 2) (s : State), Gives (.wrRefusedClear (some h)) s fun t => t = (s.wakeCfg (12 + h)).setHp h { s.hp h with wrRefused := false })
  ∧ (∀ (s : State), Gives (.wrRefusedClear none) s fun t => t = { s with mgmt := { s.mgmt with wrRefused := false } })
  ∧ (∀ (s : State), Gives .alarmLatchRead s fun t => t = { s with mgmt := { s.mgmt with alarmCause := false } })

/-- R308, R352, R427, R454, R455, R456, R462: reads and writes of the register windows. A read of 4 or 8 bytes, or one of up to 64 through BAR0, gives the words of the registers at its offset, and one of 1 or 2 bytes those bytes of the 32-bit register; one of the first half of a register of 8 or 16 bytes latches the other half, which the next read of that half returns whatever the register has become; an access not of the window's form gives zeros and counts in BAD_ACCESS; a slice from 1 where Table 12-1 refuses it counts in ACC_REJECT and reads zeros; a write through BAR0 of no permitted form is counted. A write sets the word it names and no other register. An event that is not due, or finds nothing to act on, has no effect (the model's choice, log entry 6). -/
def Obligations.RegisterAccesses : Prop :=
  (∀ (off : BitVec 32) (len : Nat) (s : State), (len = 4 ∨ len = 8) → loamAccessOk off.toNat len = true → s.mgmt.latch = none →
      Gives (.halfReadLatch none off len) s fun t =>
      t.out = .readData ((List.range (len / 4)).flatMap fun k => wordOf (s.loamReg (off.toNat + 4 * k)) (off.toNat + 4 * k)) :: s.out
        ∧ (∀ r, s.loamReg off.toNat = some r → len = 4 → off.toNat = r.1 → r.2.length = 8 → r.1 ≠ 0x10018 → t.mgmt.latch = some (r.1 + 4, r.2.drop 4))
        ∧ t = { s with mgmt := { s.mgmt with latch := t.mgmt.latch, alarmCause := t.mgmt.alarmCause }, out := t.out }
        ∧ (0x2210 ≤ off.toNat ∨ off.toNat + len ≤ 0x2200 → t.mgmt.alarmCause = s.mgmt.alarmCause))
  ∧ (∀ (off : BitVec 32) (b : List Byte) (s : State), loamAccessOk off.toNat 4 = true → s.mgmt.latch = some (off.toNat, b) → b.length = 4 →
      (0x2210 ≤ off.toNat ∨ off.toNat + 4 ≤ 0x2200) → Gives (.halfReadLatch none off 4) s fun t => t = { s with out := .readData b :: s.out })
  ∧ (∀ (off : BitVec 32) (len : Nat) (s : State), (len = 4 ∨ len = 8) → loamAccessOk off.toNat len = false →
      Gives (.halfReadLatch none off len) s fun t =>
      t = { s with mgmt := { s.mgmt with badAccess := s.mgmt.badAccess + 1 }, out := .readData (List.replicate len 0) :: s.out })
  ∧ (∀ (h : Fin 2) (sl : Fin 256) (off : BitVec 32) (len : Nat) (s : State), s.barOpen h = true → barReadOk off.toNat len = true →
      s.reachable h sl = true → readRefused sl off.toNat = true → Gives (.halfReadLatch (some (h, sl)) off len) s fun t =>
      t = { s.setSlice h sl { s.slice h sl with accReject := (s.slice h sl).accReject + 1 } with out := .readData (List.replicate len 0) :: s.out })
  ∧ (∀ (h : Fin 2) (sl : Fin 256) (off : BitVec 32) (len : Nat) (s : State), s.barOpen h = true → (len = 4 ∨ len = 8) → off.toNat % len = 0 →
      s.reachable h sl = true → readRefused sl off.toNat = false → (s.hp h).latch = none →
      Gives (.halfReadLatch (some (h, sl)) off len) s fun t =>
      t.out = .readData ((List.range (len / 4)).flatMap fun k => wordOf (s.barReg h sl (off.toNat + 4 * k)) (off.toNat + 4 * k)) :: s.out
        ∧ (∀ r, s.barReg h sl off.toNat = some r → off.toNat = r.1 → r.2.length = 2 * len → r.1 ≠ 0x10018 →
            (t.hp h).latch = some (r.1 + r.2.length / 2, r.2.drop (r.2.length / 2)))
        ∧ t = { s with hosts := t.hosts, out := t.out })
  ∧ (∀ (h : Fin 2) (sl : Fin 256) (off : BitVec 32) (len : Nat) (s : State), s.barOpen h = true → (len = 1 ∨ len = 2) → off.toNat % 4 + len ≤ 4 →
      s.reachable h sl = true → readRefused sl off.toNat = false → (s.hp h).latch = none →
      Gives (.halfReadLatch (some (h, sl)) off len) s fun t =>
      t.out = .readData (((wordOf (s.barReg h sl (off.toNat / 4 * 4)) (off.toNat / 4 * 4)).drop (off.toNat % 4)).take len) :: s.out
        ∧ t = { s with hosts := t.hosts, out := t.out })
  ∧ (∀ (h : Fin 2) (sl : Fin 256) (off : BitVec 32) (len : Nat) (s : State), s.barOpen h = true → barReadOk off.toNat len = true → len ≠ 8 → 4 ≤ len →
      s.reachable h sl = true → readRefused sl off.toNat = false → (s.hp h).latch = none →
      (∀ k, k < len / 4 → latchOf (s.barReg h sl (off.toNat + 4 * k)) (off.toNat + 4 * k) 4 = none) →
      Gives (.halfReadLatch (some (h, sl)) off len) s fun t =>
      t.out = .readData ((List.range (len / 4)).flatMap fun k => wordOf (s.barReg h sl (off.toNat + 4 * k)) (off.toNat + 4 * k)) :: s.out
        ∧ t = { s with hosts := t.hosts, out := t.out })
  ∧ (∀ (v : BitVec 32) (o : BitVec 32) (s : State), (o.toNat = 0x38 ∨ o.toNat = 0x838) → Gives (.registerWrite none o (toLe 4 v.toNat)) s fun t =>
      t = { s with mgmt := { s.mgmt with scratch := v } })
  ∧ (∀ (v : BitVec 32) (s : State), Gives (.registerWrite none 0x1064 (toLe 4 v.toNat)) s fun t =>
      t = { s with mgmt := { s.mgmt with intEn := v.setWidth 5 } })
  ∧ (∀ (h : Fin 2) (v : BitVec 32) (s : State), s.barOpen h = true → s.reachable h 0 = true → Gives (.registerWrite (some (h, 0)) 0x38 (toLe 4 v.toNat)) s fun t =>
      t = (s.wakeCfg (12 + h)).setHp h { s.hp h with scratch := v })
  ∧ (∀ (h : Fin 2) (sl : Fin 256) (v o : BitVec 32) (s : State), s.barOpen h = true → s.reachable h sl = true → sl.val ≠ 0 → o.toNat % 4 = 0 → o.toNat < 0x1000 →
      Gives (.registerWrite (some (h, sl)) o (toLe 4 v.toNat)) s fun t =>
      t = (s.wakeCfg (12 + h)).setSlice h sl { s.slice h sl with accReject := (s.slice h sl).accReject + 1 })
  ∧ (∀ (h : Fin 2) (sl : Fin 256) (k : Fin 16) (v o : BitVec 32) (s : State), s.barOpen h = true → s.reachable h sl = true → o.toNat = 0x1000 + 4 * k →
      Gives (.registerWrite (some (h, sl)) o (toLe 4 v.toNat)) s fun t =>
      t = (s.wakeCfg (12 + h)).setSlice h sl { s.slice h sl with msg := putBytes (padTo 64 (s.slice h sl).msg) (4 * k) (toLe 4 v.toNat) })
  ∧ (∀ (h : Fin 2) (sl : Fin 256) (o : BitVec 32) (b : List Byte) (s : State), s.barOpen h = true → s.reachable h sl = true →
      barWriteOk sl o.toNat b.length = false → Gives (.registerWrite (some (h, sl)) o b) s fun t =>
      t = (s.wakeCfg (12 + h)).setHp h { s.hp h with badAccess := (s.hp h).badAccess + 1 })
  ∧ (∀ (a : BitVec 32) (data : List Byte) (s : State), 4 ≤ data.length → data.length ≤ 28 → data.length % 4 = 0 → 0xC0000 ≤ a.toNat →
      a.toNat + data.length ≤ 0xD0000 → a.toNat % 4 = 0 → Gives (.smbWrite a data true) s fun t =>
      (∀ k, Tab.get 0 t.mgmt.buf k = if a.toNat - 0xC0000 ≤ k ∧ k < a.toNat - 0xC0000 + data.length then data.getD (k - (a.toNat - 0xC0000)) 0 else Tab.get 0 s.mgmt.buf k)
        ∧ t = { s with mgmt := { s.mgmt with buf := t.mgmt.buf } })
  ∧ (∀ (a : BitVec 32) (data : List Byte) (pec : Bool) (s : State), (pec = false ∨ data.length = 0 ∨ 28 < data.length ∨ data.length % 4 ≠ 0) →
      exec (.smbWrite a data pec) s = .next s)
  ∧ (∀ (a : BitVec 32) (n : Nat) (s : State), 4 ≤ n → n ≤ 32 → n % 4 = 0 → loamAccessOk a.toNat n = true → s.mgmt.latch = none →
      ¬(a.toNat < 0x2210 ∧ 0x2200 < a.toNat + n) → Gives (.smbRead a n) s fun t =>
      t.out = .smbus ((List.range (n / 4)).flatMap fun k => wordOf (s.loamReg (a.toNat + 4 * k)) (a.toNat + 4 * k)) :: s.out
        ∧ t = { s with mgmt := { s.mgmt with latch := t.mgmt.latch }, out := t.out })
  ∧ (∀ (a : BitVec 32) (n : Nat) (s : State), 4 ≤ n → n ≤ 32 → n % 4 = 0 → loamAccessOk a.toNat n = true → a.toNat < 0x2210 → 0x2200 < a.toNat + n →
      Gives (.smbRead a n) s fun t => t.mgmt.alarmCause = false ∧ t.silt = s.silt)
  ∧ (∀ (s : State), s.mgmtIntLow = true → Gives .smbAlertResponse s fun t =>
      t = { s with out := .smbus (toLe 1 (2 * (0x58 + s.boot.smbAddr.toNat))) :: s.out, mgmt := { s.mgmt with alarmCause := false } })
  ∧ (∀ (s : State), s.mgmtIntLow = false → exec .smbAlertResponse s = .next s)
  ∧ (∀ (s : State), exec .smbClockLowTimeout s = .next s)

/-- R38, R39, R40, R41, R42, R45, R46, R53: training of a Jayth link. The ACK of Enter Mode starts training at DETECT; a block that is bad or of another TRAIN_ID is counted and does nothing else; the first good TB1 leads to POLL with the peer's identity noted; eight CONFIG_ACK end CONFIG in electrical idle; SYNC_GO's echo gives the round trip and a marker on each outbound lane, and one beyond 10,200 ns ends in FAILED; a state's limit, or FAIL, fails the attempt: 1 ms of idle, the third at a rate lowers the maximum, the third at J14 ends in FAILED; the end of the idle starts the next attempt under the next TRAIN_ID with TB1 on L0 and L2. An event that is not due, or finds nothing to act on, has no effect (the model's choice, log entry 6). -/
def Obligations.TrainingEvents : Prop :=
  (∀ (p : Fin 12) (s : State), (s.port p).train.state = .disabled → (s.port p).pd.mayEnter = true → Gives (.enterModeAck p) s fun t =>
      (t.port p).train.state = .detect ∧ (t.port p).train.trainId = (s.port p).train.trainId + 1 ∧ (t.port p).pd.mode = .jayth
        ∧ (t.port p).train.due = some (s.after 100000))
  ∧ (∀ (p : Fin 12) (s : State), ((s.port p).train.state ≠ .disabled ∨ (s.port p).pd.mayEnter = false) → exec (.enterModeAck p) s = .next s)
  ∧ (∀ (p : Fin 12) (l : Fin 4) (b : List Byte) (err : Fin 256) (s : State), 1 ≤ (s.port p).train.state.ctorIdx → (s.port p).train.state.ctorIdx ≤ 9 →
      (s.port p).train.idle = false → (s.port p).train.receives.getLsbD l = true → (tbGood b = false ∨ tbTrainId b ≠ (s.port p).train.trainId) →
      Gives (.tbReceived p l b err) s fun t =>
      t = s.modPort p fun x => x.modLane l fun v => { v with trainErr := v.trainErr + 1 })
  ∧ (∀ (p : Fin 12) (l : Fin 4) (b : List Byte) (err : Fin 256) (s : State), (s.port p).train.state = .detect → (s.port p).train.idle = false →
      (s.port p).train.receives.getLsbD l = true → tbGood b = true → tbTrainId b = (s.port p).train.trainId → tbType b = 0x11 → Gives (.tbReceived p l b err) s fun t =>
      (t.port p).train.state = .poll ∧ (t.port p).train.peer = some (tbPeer b) ∧ (t.port p).train.due = some (s.after 100000)
        ∧ (t.port p).train.peerRateCap = BitVec.ofNat 3 (byteAt b 4)
        ∧ Out.tb p 0 (t.tbSent p 0) ∈ t.out ∧ Out.tb p 2 (t.tbSent p 2) ∈ t.out ∧ t = { s with ports := t.ports, out := t.out })
  ∧ (∀ (p : Fin 12) (l : Fin 4) (b : List Byte) (err : Fin 256) (s : State), (s.port p).train.state = .config → (s.port p).train.idle = false →
      (s.port p).train.receives.getLsbD l = true → tbGood b = true → tbTrainId b = (s.port p).train.trainId → tbType b = 0x22 → (b.drop 5).take 2 = ((s.tbSent p l).drop 5).take 2 →
      Gives (.tbReceived p l b err) s fun t =>
      ((s.port p).train.cfgAcks < 7 → (t.port p).train.state = .config ∧ (t.port p).train.cfgAcks = (s.port p).train.cfgAcks + 1)
        ∧ (7 ≤ (s.port p).train.cfgAcks → (t.port p).train.state = .rate ∧ (t.port p).train.rateIdle = true ∧ (t.port p).train.due = some (s.after 150000))
        ∧ t = { s with ports := t.ports })
  ∧ (∀ (p : Fin 12) (l : Fin 4) (b : List Byte) (err : Fin 256) (s : State), (s.port p).train.state = .sync → (s.port p).train.idle = false →
      (s.port p).train.receives.getLsbD l = true → (s.port p).train.echoSeen = false → tbGood b = true → tbTrainId b = (s.port p).train.trainId → tbType b = 0x41 → bitOf (byteAt b 1) 0 = true →
      let rtt := (BitVec.ofNat 32 s.now.toNat - BitVec.ofNat 32 (le b 28 4) - BitVec.ofNat 32 (le b 32 4)).toNat
      Gives (.tbReceived p l b err) s fun t =>
        (rtt ≤ 10200 → (t.port p).train.rtt = rtt ∧ (t.port p).train.echoSeen = true ∧ (t.port p).train.state = .sync
            ∧ (∀ k : Fin 4, (s.port p).train.transmits.getLsbD k = true → ((t.port p).lane k).groupTx = ((s.port p).lane k).groupTx + 1
              ∧ Out.marker p k (markerBytes k ((s.port p).lane k).groupTx.toNat (s.port p).fec) ∈ t.out)
            ∧ t = { s with ports := t.ports, out := t.out })
          ∧ (10200 < rtt → (t.port p).train.state = .failed ∧ (t.port p).train.cause = .cableDelay))
  ∧ (∀ (p : Fin 12) (l : Fin 4) (b : List Byte) (err : Fin 256) (s : State), 1 ≤ (s.port p).train.state.ctorIdx → (s.port p).train.state.ctorIdx ≤ 9 →
      (s.port p).train.idle = false → (s.port p).train.receives.getLsbD l = true → tbGood b = true → tbTrainId b = (s.port p).train.trainId → tbType b = 0x51 →
      (s.port p).train.fails (s.port p).attemptRate < 2 → Gives (.tbReceived p l b err) s fun t =>
      (t.port p).train.fails (s.port p).attemptRate = (s.port p).train.fails (s.port p).attemptRate + 1 ∧ (t.port p).train.state = .detect
        ∧ (t.port p).train.idle = true ∧ (t.port p).train.due = some (s.after 1000000) ∧ (t.port p).train.lowered = (s.port p).train.lowered)
  ∧ (∀ (p : Fin 12) (s : State), s.due (s.port p).train.due = true → (s.port p).train.idle = false → Gives (.trainStateTimeout p) s fun t =>
      let r := (s.port p).attemptRate
      let n := (s.port p).train.fails r
      (n < 2 → (t.port p).train.fails r = n + 1 ∧ (t.port p).train.lowered = (s.port p).train.lowered)
        ∧ (2 ≤ n → r = .j14 → (t.port p).train.state = .failed)
        ∧ (2 ≤ n → r ≠ .j14 → (t.port p).train.lowered = some r.lower)
        ∧ (n < 2 ∨ r ≠ .j14 → (t.port p).train.state = .detect ∧ (t.port p).train.idle = true ∧ (t.port p).train.due = some (s.after 1000000)
            ∧ t = { s with ports := t.ports, silt := t.silt, freeCtr := t.freeCtr, cluster := t.cluster, power := t.power, out := t.out }))
  ∧ (∀ (p : Fin 12) (s : State), s.due (s.port p).train.due = true → (s.port p).train.idle = true → Gives (.trainIdleEnd p) s fun t =>
      (t.port p).train.state = .detect ∧ (t.port p).train.idle = false ∧ (t.port p).train.trainId = (s.port p).train.trainId + 1
        ∧ (t.port p).train.due = some (s.after 100000) ∧ (t.port p).outSet = 5 ∧ (t.port p).inSet = 10
        ∧ (∀ k : Fin 4, ((t.port p).lane k).preset = some 1) ∧ Out.tb p 0 (t.tbSent p 0) ∈ t.out ∧ Out.tb p 2 (t.tbSent p 2) ∈ t.out
        ∧ (∀ j, j ≠ p.val → t.port j = s.port j) ∧ t = { s with ports := t.ports, out := t.out })
  ∧ (∀ (p : Fin 12) (s : State), (s.port p).train.state = .rate → (s.port p).train.rateIdle = true → Gives (.rateIdleEnd p) s fun t =>
      (t.port p).train = { (s.port p).train with rateIdle := false, locked := 0 }
        ∧ (∀ k : Fin 4, ((t.port p).lane k).preset = some (initialPreset (s.port p).train.rateSel)
            ∧ (((t.port p).lane k).pre, ((t.port p).lane k).post) = presets.getD (initialPreset (s.port p).train.rateSel) (0, 0))
        ∧ (∀ k : Fin 4, (s.port p).train.transmits.getLsbD k = true → Out.tb p k (t.tbSent p k) ∈ t.out)
        ∧ (∀ j, j ≠ p.val → t.port j = s.port j) ∧ t = { s with ports := t.ports, out := t.out })

/-- R34, R41, R50, R52, R53: markers and the loss of a link. A marker that is not accepted changes nothing; in SYNC the last one that is needed makes the port ACTIVE on the lane sets of CONFIG; on an ACTIVE link it restarts the link timeout and records its group. A degraded last receive lane, and a link timeout, take the link down and retrain under the next TRAIN_ID; another degraded lane begins its recalibration, or has it deferred while a lane is in transit. The idle time queues SLEEP; work and the keep-alive interval wake a sleeping direction; a wake burst wakes the other. An event that is not due, or finds nothing to act on, has no effect (the model's choice, log entry 6). -/
def Obligations.MarkerAndSleepEvents : Prop :=
  (∀ (p : Fin 12) (l : Fin 4) (h : List Byte) (diff : Nat) (flit : Bool) (s : State), markerOk l .inb h diff = false →
      exec (.markerReceived p l h diff flit) s = .next s)
  ∧ (∀ (p : Fin 12) (l : Fin 4) (h : List Byte) (diff : Nat) (s : State), markerOk l .inb h diff = true → (s.port p).train.state = .sync →
      (s.port p).train.echoSeen = true →
      ((s.port p).train.syncMarks ||| laneBit l) &&& (~~~(s.port p).train.outNow &&& (s.port p).train.lanes) = ~~~(s.port p).train.outNow &&& (s.port p).train.lanes →
      Gives (.markerReceived p l h diff true) s fun t =>
      (t.port p).train.state = .active ∧ (t.port p).outSet = (s.port p).train.outNow &&& ~~~(s.port p).train.laneExcl
        ∧ (t.port p).inSet = ~~~(s.port p).train.outNow &&& ~~~(s.port p).train.laneExcl ∧ (t.port p).train.due = none
        ∧ (t.port p).train.failJ14 = 0 ∧ (t.port p).train.failJ28 = 0 ∧ (t.port p).train.failJ56 = 0)
  ∧ (∀ (p : Fin 12) (l : Fin 4) (h : List Byte) (diff : Nat) (flit : Bool) (s : State), markerOk l .inb h diff = true → (s.port p).train.state = .active →
      (s.port p).transit = none → Gives (.markerReceived p l h diff flit) s fun t =>
      (t.port p).rx = { (s.port p).rx with linkDue := some (s.after (100000 * (s.port p).toForce)), asleep := false }
        ∧ (t.port p).lane l = { (s.port p).lane l with groupRx := BitVec.ofNat 16 (le h 5 2), badTold := false }
        ∧ (∀ k : Fin 4, k ≠ l → (t.port p).lane k = (s.port p).lane k) ∧ (t.port p).train = (s.port p).train ∧ t = { s with ports := t.ports })
  ∧ (∀ (i : Fin 12 → Fin 4 → Instr) (p : Fin 12) (l : Fin 4) (s : State), i = .markerLossTimeout ∨ i = .codewordErrorLimit →
      (s.port p).train.state = .active → (s.port p).inSet.getLsbD l = true → (s.port p).rx.asleep = false → laneCount (s.port p).inSet = 1 →
      Gives (i p l) s fun t => (t.port p).train.state = .detect ∧ (t.port p).train.trainId = (s.port p).train.trainId + 1
        ∧ (t.port p).outSet = 5 ∧ (t.port p).inSet = 10 ∧ (t.port p).transit = none)
  ∧ (∀ (i : Fin 12 → Fin 4 → Instr) (p : Fin 12) (l : Fin 4) (s : State), i = .markerLossTimeout ∨ i = .codewordErrorLimit →
      (s.port p).train.state = .active → (s.port p).inSet.getLsbD l = true → (s.port p).outSet.getLsbD l = false → (s.port p).rx.asleep = false →
      laneCount (s.port p).inSet ≠ 1 → Gives (i p l) s fun t =>
      ((s.port p).transit = none → s.mayLeave p .inb = true →
        (t.port p).transit = some { lane := l, kind := .recal, phase := .laneReqSent, turnId := (s.port p).turnId, origDir := .inb, startAt := s.now
                                    due := some (s.after (2 * (s.port p).oneWay + 2000)) }
          ∧ (t.port p).turnId = (s.port p).turnId + 1 ∧ ((t.port p).lane l).recalDeferred = false)
        ∧ (((s.port p).transit ≠ none ∨ s.mayLeave p .inb = false) → (t.port p).transit = (s.port p).transit ∧ ((t.port p).lane l).recalDeferred = true
          ∧ (t.port p).recalRetry = some ((s.port p).recalRetry.getD (s.after 10000000000)))
        ∧ (t.port p).train = (s.port p).train)
  ∧ (∀ (p : Fin 12) (s : State), (s.port p).train.state = .active → s.due (s.port p).rx.linkDue = true → Gives (.linkTimeout p) s fun t =>
      (t.port p).train.state = .detect ∧ (t.port p).train.trainId = (s.port p).train.trainId + 1 ∧ (t.port p).outSet = 5 ∧ (t.port p).inSet = 10)
  ∧ (∀ (p : Fin 12) (s : State), (s.port p).train.state = .active → Gives (.wakeBurstReceived p) s fun t =>
      t = (s.wakeCfg p).setPort p { s.port p with rx := { (s.port p).rx with asleep := false, linkDue := some (s.after (100000 * (s.port p).toForce)) } })
  ∧ (∀ (p : Fin 12) (s : State), (s.port p).train.state = .active → (s.port p).tx.asleep = false → s.due (s.port p).tx.idleDue = true →
      (s.port p).transit = none → s.hasWork p = false → Gives (.sleepIdleExpiry p) s fun t =>
      t = s.setPort p { s.port p with tx := { (s.port p).tx with ctrl := (s.port p).tx.ctrl ++ [{ typ := 6, payload := [0x01], counts := false }] } })
  ∧ (∀ (p : Fin 12) (s : State), (s.port p).train.state = .active → (s.port p).tx.asleep = true → s.hasWork p = true → Gives (.directionWake p) s fun t =>
      (t.port p).tx.asleep = false ∧ (t.port p).tx.keepDue = none ∧ (s.port p).tx.ctrl.length < (t.port p).tx.ctrl.length
        ∧ (t.port p).train = (s.port p).train ∧ t = { s with ports := t.ports, out := t.out })
  ∧ (∀ (p : Fin 12) (s : State), (s.port p).train.state = .active → (s.port p).tx.asleep = true → s.due (s.port p).tx.keepDue = true →
      Gives (.keepaliveExpiry p) s fun t =>
      (t.port p).tx.asleep = false ∧ (t.port p).tx.keepDue = none ∧ (s.port p).tx.ctrl.length < (t.port p).tx.ctrl.length
        ∧ (t.port p).train = (s.port p).train ∧ t = { s with ports := t.ports, out := t.out })

/-- R43, R44, R49, R75: recalibration. The period of a lane begins it, or defers it while a lane is in transit or may not leave, to be tried again every 10 s; drift notes the temperature, and on a link that is up begins or defers it for each lane whose last EQ was more than 20 °C away. A bad training block of a lane out for recalibration is counted. When EQ on the lane alone ends, its sets and the temperature are kept, and the lane returns to its direction if that passed, is locked to the other if only that passed (over a cable that permits it), and is excluded if neither did. An event that is not due, or finds nothing to act on, has no effect (the model's choice, log entry 6). -/
def Obligations.RecalibrationEvents : Prop :=
  (∀ (p : Fin 12) (l : Fin 4) (d : Dir) (s : State), (s.port p).train.state = .active → s.due ((s.port p).lane l).recalDue = true →
      (s.port p).laneDir l = some d → Gives (.recalPeriodExpiry p l) s fun t =>
      ((s.port p).transit = none → s.mayLeave p d = true →
        (∃ x, (t.port p).transit = some x ∧ x.lane = l ∧ x.kind = .recal ∧ x.origDir = d ∧ x.turnId = (s.port p).turnId
            ∧ x.phase = if d = .outb then .rotationSent else .laneReqSent)
          ∧ (t.port p).turnId = (s.port p).turnId + 1 ∧ ((t.port p).lane l).recalDeferred = false)
        ∧ (((s.port p).transit ≠ none ∨ s.mayLeave p d = false) → (t.port p).transit = (s.port p).transit ∧ ((t.port p).lane l).recalDeferred = true)
        ∧ ((t.port p).lane l).recalDue = (if (s.port p).link.recalHours = 0 then none else some (s.after ((s.port p).link.recalHours * 3600000000000))))
  ∧ (∀ (p : Fin 12) (temp : Int) (s : State), (s.port p).train.state ≠ .active → Gives (.tempDrift p temp) s fun t =>
      t = s.setPort p { s.port p with temp := temp })
  ∧ (∀ (p : Fin 12) (temp : Int) (s : State), (s.port p).train.state = .active → Gives (.tempDrift p temp) s fun t =>
      (t.port p).temp = temp ∧ (∀ l : Fin 4, ((t.port p).lane l).eqTemp = ((s.port p).lane l).eqTemp)
        ∧ ((s.port p).transit.isSome = true → (t.port p).transit = (s.port p).transit
            ∧ ∀ l : Fin 4, 20 < (temp - ((s.port p).lane l).eqTemp).natAbs → (s.port p).recalAsked l = false → ((t.port p).lane l).recalDeferred = true)
        ∧ ((∀ l : Fin 4, (temp - ((s.port p).lane l).eqTemp).natAbs ≤ 20) → t = s.setPort p { s.port p with temp := temp }))
  ∧ (∀ (p : Fin 12) (l : Fin 4) (d : Dir) (s : State), (s.port p).train.state = .active → s.due (s.port p).recalRetry = true → (s.port p).transit = none →
      (∀ k : Fin 4, ((s.port p).lane k).recalDeferred = decide (k = l)) → (s.port p).laneDir l = some d → s.mayLeave p d = true →
      Gives (.recalRetryExpiry p) s fun t =>
      (∃ x, (t.port p).transit = some x ∧ x.lane = l ∧ x.kind = .recal ∧ x.origDir = d) ∧ ((t.port p).lane l).recalDeferred = false ∧ (t.port p).recalRetry = none)
  ∧ (∀ (p : Fin 12) (s : State), (s.port p).train.state = .active → s.due (s.port p).recalRetry = true → (s.port p).transit.isSome = true →
      Gives (.recalRetryExpiry p) s fun t =>
      (t.port p).transit = (s.port p).transit ∧ (∀ k : Fin 4, ((t.port p).lane k).recalDeferred = ((s.port p).lane k).recalDeferred)
        ∧ (t.port p).recalRetry = if (∃ k : Fin 4, ((s.port p).lane k).recalDeferred = true) then some (s.after 10000000000) else none)
  ∧ (∀ (p : Fin 12) (outErr inErr : Fin 256) (x : Transit) (s : State), (s.port p).transit = some x → x.phase = .eq → x.lane < 4 →
      Gives (.recalDone p outErr inErr) s fun t =>
      let agile := (s.port p).pd.cable.dirAgile
      let out := errPasses (s.port p).fec outErr && (agile || decide (x.origDir = .outb))
      let inn := errPasses (s.port p).fec inErr && (agile || decide (x.origDir = .inb))
      ((if x.origDir = .outb then out else inn) = true →
          (t.port p).transit = some { x with phase := .awaitJoin, marker := decide (x.origDir = .outb) }
            ∧ (t.port p).lockRec = (s.port p).lockRec ∧ (t.port p).exclRec = (s.port p).exclRec)
        ∧ ((if x.origDir = .outb then out else inn) = false → (if x.origDir = .outb then inn else out) = true →
          (t.port p).transit = some { x with phase := .awaitJoin, origDir := if x.origDir = .outb then .inb else .outb, marker := decide (x.origDir = .inb) }
            ∧ (t.port p).lockRec = (s.port p).lockRec ||| laneBit x.lane ∧ (t.port p).lockOut.getLsbD x.lane = decide (x.origDir = .inb))
        ∧ (out = false → inn = false → (t.port p).exclRec = (s.port p).exclRec ||| laneBit x.lane ∧ (t.port p).lockRec = (s.port p).lockRec ∧ (t.port p).transit = none)
        ∧ ((t.port p).lane x.lane).errLog2 = inErr ∧ ((t.port p).lane x.lane).eqTemp = (s.port p).temp
        ∧ (out = true → ((t.port p).lane x.lane).hasSet (s.port p).train.rateSel .outb = true)
        ∧ (inn = true → ((t.port p).lane x.lane).hasSet (s.port p).train.rateSel .inb = true))
  ∧ (∀ (p : Fin 12) (b : List Byte) (err : Fin 256) (l : Fin 4) (x : Transit) (s : State), (s.port p).train.state = .active → (s.port p).transit = some x →
      x.phase = .eq → x.lane = l.val → (tbGood b = false ∨ tbTrainId b ≠ (s.port p).train.trainId) → Gives (.tbReceived p l b err) s fun t =>
      t = s.modPort p fun y => y.modLane l fun v => { v with trainErr := v.trainErr + 1 })
  ∧ (∀ (p : Fin 12) (outErr inErr : Fin 256) (s : State), (s.port p).transit = none → exec (.recalDone p outErr inErr) s = .next s)

/-- R60, R61, R64, R68: what one slot of the outbound direction sends, on the next lane in stripe order: a control flit that waits, ahead of everything; else a flit due for resend; else the next flit of the burst in progress, which takes the next SEQ, is kept for resend and counts against its TUN's credit; a NULL flit where 2048 flits are unacknowledged or no flow has a burst. A flit goes on its lane scrambled, a marker first where the lane's group is full, from which the scrambler and the group start anew. A sleeping direction and one of a link that is not ACTIVE send nothing. An event that is not due, or finds nothing to act on, has no effect (the model's choice, log entry 6). -/
def Obligations.FlitSlotSends : Prop :=
  (∀ (p : Fin 12) (c : Ctrl) (rest : List Ctrl) (s : State), (s.port p).train.state = .active → (s.port p).tx.asleep = false → (s.port p).outSet ≠ 0 →
      (s.port p).tx.ctrl = c :: rest → c.newSet = none → c.typ ≠ 5 → Gives (.flitSlot p) s fun t =>
      t.out[1]? = some (.flit p ((lanesOf (s.port p).outSet).getD (s.port p).tx.stripe 0) (flitBytes c.typ c.payload)) ∧ (t.port p).tx.ctrl = rest
        ∧ (t.port p).tx.asleep = (decide (c.typ = 6) && decide (byteAt c.payload 0 = 1)) ∧ (t.port p).tx.seqNext = (s.port p).tx.seqNext
        ∧ t = { s with ports := t.ports, out := t.out })
  ∧ (∀ (p : Fin 12) (c : Ctrl) (rest : List Ctrl) (s : State), (s.port p).train.state = .active → (s.port p).tx.asleep = false → (s.port p).outSet ≠ 0 →
      (s.port p).tx.ctrl = c :: rest → c.newSet = none → c.typ = 5 → Gives (.flitSlot p) s fun t =>
      t.out[1]? = some (.flit p ((lanesOf (s.port p).outSet).getD (s.port p).tx.stripe 0)
          (flitBytes 5 (putBytes (padTo 120 c.payload) 8 (toLe 8 s.now.toNat)))) ∧ (t.port p).tx.ctrl = rest)
  ∧ (∀ (p : Fin 12) (c : Ctrl) (rest : List Ctrl) (m : Nat) (s : State), (s.port p).train.state = .active → (s.port p).tx.asleep = false →
      (s.port p).outSet ≠ 0 → (s.port p).tx.ctrl = c :: rest → c.newSet = some m → Gives (.flitSlot p) s fun t =>
      (t.port p).outSet = BitVec.ofNat 4 m ∧ (t.port p).tx.ctrl = rest)
  ∧ (∀ (p : Fin 12) (u : Unacked) (rest : List Unacked) (s : State), (s.port p).train.state = .active → (s.port p).tx.asleep = false → (s.port p).outSet ≠ 0 →
      (s.port p).tx.ctrl = [] → (s.port p).tx.resend = u :: rest → Gives (.flitSlot p) s fun t =>
      t.out[1]? = some (.flit p ((lanesOf (s.port p).outSet).getD (s.port p).tx.stripe 0) u.flit.bytes) ∧ (t.port p).tx.resend = rest
        ∧ (t.port p).tx.unacked = (s.port p).tx.unacked ∧ (t.port p).tx.seqNext = (s.port p).tx.seqNext ∧ t = { s with ports := t.ports, out := t.out })
  ∧ (∀ (p : Fin 12) (f : DataFlit) (rest : List DataFlit) (s : State), (s.port p).train.state = .active → (s.port p).tx.asleep = false →
      (s.port p).outSet ≠ 0 → (s.port p).tx.ctrl = [] → (s.port p).tx.resend = [] → (s.port p).tx.unacked.length < 2048 →
      (s.port p).tx.burstCells = f :: rest → Gives (.flitSlot p) s fun t =>
      let g : DataFlit := { f with seq := (s.port p).tx.seqNext }
      t.out[1]? = some (.flit p ((lanesOf (s.port p).outSet).getD (s.port p).tx.stripe 0) g.bytes) ∧ (t.port p).tx.burstCells = rest
        ∧ (t.port p).tx.seqNext = (s.port p).tx.seqNext + 1 ∧ (t.port p).tx.unacked = (s.port p).tx.unacked ++ [{ seq := g.seq, flit := g, sentAt := s.now }]
        ∧ (∀ k, ((t.port p).tun k).sent = ((s.port p).tun k).sent + if k = f.tun then 1 else 0)
        ∧ ((s.port p).tx.beBurst = false → ∀ k, k ≠ f.tun → (t.port p).tun k = (s.port p).tun k)
        ∧ t = { s with ports := t.ports, out := t.out })
  ∧ (∀ (p : Fin 12) (s : State), (s.port p).train.state = .active → (s.port p).tx.asleep = false → (s.port p).outSet ≠ 0 →
      (s.port p).tx.ctrl = [] → (s.port p).tx.resend = [] →
      (2048 ≤ (s.port p).tx.unacked.length ∨ (s.port p).tx.burstCells = [] ∧ (∀ q, q < 9 → s.servable (agentPort p) q = []) ∧ s.marl.writeBuf = []) → Gives (.flitSlot p) s fun t =>
      t.out[1]? = some (.flit p ((lanesOf (s.port p).outSet).getD (s.port p).tx.stripe 0) (flitBytes 0 []))
        ∧ (t.port p).tx.seqNext = (s.port p).tx.seqNext ∧ (t.port p).tx.unacked = (s.port p).tx.unacked ∧ t.tunnels = s.tunnels ∧ t.marl = s.marl)
  ∧ (∀ (p : Fin 12) (b : List Byte) (s : State), ((s.port p).lane 0).flitsTx < (s.port p).groupFlits →
      (s.laneFlit p 0 b).out = .line p 0 (if (s.port p).fec then none else some 1) (scramble b ((s.port p).lane 0).scram).1 :: .flit p 0 b :: s.out)
  ∧ (∀ (p : Fin 12) (l : Fin 4) (b : List Byte) (s : State), (s.port p).groupFlits ≤ ((s.port p).lane l).flitsTx →
      (s.laneFlit p l b).out = .line p l (if (s.port p).fec then none else some 1) (scramble b (laneSeed l)).1 :: .flit p l b
          :: .marker p l (markerBytes l ((s.port p).lane l).groupTx.toNat (s.port p).fec) :: s.out
        ∧ (((s.laneFlit p l b).port p).lane l).flitsTx = 1 ∧ (((s.laneFlit p l b).port p).lane l).groupTx = ((s.port p).lane l).groupTx + 1)
  ∧ (∀ (p : Fin 12) (s : State), ((s.port p).train.state ≠ .active ∨ (s.port p).tx.asleep = true ∨ (s.port p).outSet = 0) → exec (.flitSlot p) s = .next s)

/-- R59, R61, R62, R63, R66: flits received. A bad flit is counted and asks once for a resend from B. A good DATA flit with the awaited SEQ advances E, and with BL also B, which is acknowledged; of an open inbound tunnel with credit and the class's PRI its cell enters Marl; of a TUN that no entry holds it counts in PROTO_DROP. A flit that E has passed is dropped; one beyond E asks for a resend. On a link that is not ACTIVE nothing is received. An event that is not due, or finds nothing to act on, has no effect (the model's choice, log entry 6). -/
def Obligations.DataFlitsReceived : Prop :=
  (∀ (p : Fin 12) (l : Fin 4) (s : State), (s.port p).train.state = .active → (s.port p).rx.retryWait = true → Gives (.badFlit p l) s fun t =>
      t = s.modPort p fun x => x.modLane l fun v => { v with badFlit := v.badFlit + 1 })
  ∧ (∀ (p : Fin 12) (l : Fin 4) (s : State), (s.port p).train.state = .active → (s.port p).rx.retryWait = false →
      ((s.port p).rx.nakSeq = some (s.port p).rx.b → (s.port p).rx.nakRun < 7) → Gives (.badFlit p l) s fun t =>
      ((t.port p).lane l).badFlit = ((s.port p).lane l).badFlit + 1 ∧ (t.port p).rx.retryWait = true ∧ (t.port p).rx.nakSeq = some (s.port p).rx.b
        ∧ (t.port p).rx.nakDue = some (s.after (s.port p).replayNs)
        ∧ (t.port p).tx.ctrl = (s.port p).tx.ctrl ++ [{ typ := 2, payload := ackPayload (s.port p).rx (some (s.port p).rx.b) }]
        ∧ (t.port p).rx.e = (s.port p).rx.e ∧ t = { s with ports := t.ports })
  ∧ (∀ (p : Fin 12) (l : Fin 4) (s : State), (s.port p).train.state = .active → (s.port p).rx.retryWait = false →
      (s.port p).rx.nakSeq = some (s.port p).rx.b → 7 ≤ (s.port p).rx.nakRun → Gives (.badFlit p l) s fun t =>
      (t.port p).train.state = .detect ∧ (t.port p).train.trainId = (s.port p).train.trainId + 1)
  ∧ (∀ (p : Fin 12) (l : Fin 4) (b : List Byte) (tid q : Nat) (s : State), (s.port p).train.state = .active → flitGood b = true → flitType b = 1 →
      let f := parseData b
      let u := (s.port p).tun f.tun
      f.seq = (s.port p).rx.e → ((s.port p).rx.burstLen = 0 ∨ f.tun = (s.port p).rx.burstTun ∧ f.pri = (s.port p).rx.burstPri ∧ (s.port p).rx.burstLen < 16) →
      f.tun ≠ 0 → s.tidOf p f.tun = some tid → (s.tunnel tid).state = .opened → (s.tunnel tid).dirs.getLsbD 1 = true → (s.tunnel tid).cls ≠ 1 →
      f.pri = classPri (s.tunnel tid).cls (s.tunnel tid).periodic → u.granted ≠ u.recv → (u.granted - u.recv).toNat ≤ 32767 →
      (s.tunnel tid).inQueue = some q → (s.placeBank (s.egq (s.tunnel tid).client q).recent).isSome = true → s.marl.writeBuf = [] → Gives (.dataFlitReceived p l b) s fun t =>
      (t.port p).rx.e = (s.port p).rx.e + 1 ∧ (t.port p).rx.b = (if f.bl then (s.port p).rx.e + 1 else (s.port p).rx.b) ∧ (t.port p).rx.retryWait = false
        ∧ ((t.port p).tun f.tun).recv = u.recv + 1 ∧ (∀ k, k ≠ f.tun → (t.port p).tun k = (s.port p).tun k)
        ∧ (f.bl = true → (s.port p).tx.ctrl.length < (t.port p).tx.ctrl.length ∧ (t.port p).rx.ackDue = some (s.after 10000))
        ∧ CellIn s t (s.tunnel tid).client q tid fun c => c.payload = f.payload ∧ c.bl = f.bl ∧ c.poison = f.poison ∧ c.gen = (s.tunnel tid).gen
            ∧ c.cls = (s.tunnel tid).cls)
  ∧ (∀ (p : Fin 12) (l : Fin 4) (b : List Byte) (s : State), (s.port p).train.state = .active → flitGood b = true → flitType b = 1 →
      let f := parseData b
      f.seq = (s.port p).rx.e → ((s.port p).rx.burstLen = 0 ∨ f.tun = (s.port p).rx.burstTun ∧ f.pri = (s.port p).rx.burstPri ∧ (s.port p).rx.burstLen < 16) →
      f.tun ≠ 0 → s.tidOf p f.tun = none → Gives (.dataFlitReceived p l b) s fun t =>
      (t.port p).rx.e = (s.port p).rx.e + 1 ∧ ((t.port p).tun f.tun).protoDrop = ((s.port p).tun f.tun).protoDrop + 1
        ∧ ((t.port p).tun f.tun).recv = ((s.port p).tun f.tun).recv ∧ t = { s with ports := t.ports })
  ∧ (∀ (p : Fin 12) (l : Fin 4) (b : List Byte) (s : State), (s.port p).train.state = .active → flitGood b = true → flitType b = 1 →
      (parseData b).seq ≠ (s.port p).rx.e → ((s.port p).rx.e - (parseData b).seq).toNat ≤ 2048 → Gives (.dataFlitReceived p l b) s fun t =>
      t = s.setPort p { s.port p with rx := { (s.port p).rx with linkDue := some (s.after (100000 * (s.port p).toForce)) } })
  ∧ (∀ (p : Fin 12) (l : Fin 4) (b : List Byte) (s : State), (s.port p).train.state = .active → flitGood b = true → flitType b = 1 →
      (parseData b).seq ≠ (s.port p).rx.e → 2048 < ((s.port p).rx.e - (parseData b).seq).toNat → (s.port p).rx.retryWait = false →
      ((s.port p).rx.nakSeq = some (s.port p).rx.b → (s.port p).rx.nakRun < 7) → Gives (.dataFlitReceived p l b) s fun t =>
      (t.port p).rx.retryWait = true ∧ (t.port p).rx.e = (s.port p).rx.e ∧ (s.port p).tx.ctrl.length < (t.port p).tx.ctrl.length ∧ t.tunnels = s.tunnels ∧ t.marl = s.marl)
  ∧ (∀ (p : Fin 12) (l : Fin 4) (b : List Byte) (s : State), (s.port p).train.state ≠ .active →
      exec (.dataFlitReceived p l b) s = .next s ∧ exec (.badFlit p l) s = .next s ∧ exec (.ackReceived p l b) s = .next s ∧ exec (.creditReceived p l b) s = .next s)

/-- R50, R60, R65, R66, R67, R69 to R72, R75, R77, R110, R498: control flits received. An ACK removes what it acknowledges and a NAK makes everything from its SEQ due again; a CREDIT sets the credit of a TUN that is open or opening; SLEEP puts the direction to sleep; BACKLOG is kept; RETRAIN_REQ takes the link down to retrain; LANE_BAD marks its lane; TURN_DONE completes a turnaround; LANEMAP answers the change in progress; ECHO is one delay sample. One with a field out of range is counted in PROTO_ERR and does nothing else, but that the sixteenth within 1 ms retrains the link. -/
def Obligations.ControlFlitsReceived : Prop :=
  (∀ (p : Fin 12) (l : Fin 4) (b : List Byte) (s : State), (s.port p).train.state = .active → flitGood b = true → flitType b = 2 → plainHeader b = true →
      let pl := flitPayload b
      let seq := BitVec.ofNat 12 (le pl 0 2)
      let x := (s.port p).tx
      bits (byteAt pl 1) 7 4 = 1 → le pl 2 2 = 0 → zeros pl 4 119 = true → seq ≠ x.lower → (seq - x.lower).toNat ≤ (x.seqNext - 1 - x.lower).toNat →
      Gives (.ackReceived p l b) s fun t =>
      (t.port p).tx.lower = seq ∧ (t.port p).tx.unacked = x.unacked.filter (fun u => decide ((seq - x.lower).toNat < (u.seq - x.lower).toNat))
        ∧ (t.port p).tx.seqNext = x.seqNext ∧ (t.port p).tx.ctrl = x.ctrl ∧ t = { s with ports := t.ports })
  ∧ (∀ (p : Fin 12) (l : Fin 4) (b : List Byte) (s : State), (s.port p).train.state = .active → flitGood b = true → flitType b = 2 → plainHeader b = true →
      let pl := flitPayload b
      let seq := BitVec.ofNat 12 (le pl 2 2)
      let x := (s.port p).tx
      le pl 0 2 = 0 → bits (byteAt pl 3) 7 4 = 1 → zeros pl 4 119 = true → (seq - x.lower).toNat ≤ (x.seqNext - 1 - x.lower).toNat →
      (x.nakSeq = some seq → x.nakRun < 7) → Gives (.ackReceived p l b) s fun t =>
      (t.port p).tx.resend = (x.unacked.filter fun u => decide ((u.seq - seq).toNat < 2048)).map (fun u => { u with sentAt := s.now })
        ∧ (t.port p).retry = (s.port p).retry + (if (t.port p).tx.resend = [] then 0 else 1) ∧ (t.port p).tx.lower = x.lower ∧ t = { s with ports := t.ports })
  ∧ (∀ (p : Fin 12) (l : Fin 4) (b : List Byte) (s : State), (s.port p).train.state = .active → flitGood b = true → flitType b = 3 → plainHeader b = true →
      let pl := flitPayload b
      byteAt pl 0 = 1 → zeros pl 1 7 = true → le pl 8 2 < 1024 → zeros pl 12 119 = true → Gives (.creditReceived p l b) s fun t =>
      (t.port p).tun (le pl 8 2) = (if s.creditable p (le pl 8 2) then { (s.port p).tun (le pl 8 2) with credit := BitVec.ofNat 16 (le pl 10 2) }
          else (s.port p).tun (le pl 8 2))
        ∧ (∀ k, k ≠ le pl 8 2 → (t.port p).tun k = (s.port p).tun k) ∧ (t.port p).tx = (s.port p).tx ∧ t = { s with ports := t.ports })
  ∧ (∀ (p : Fin 12) (l : Fin 4) (b : List Byte) (s : State), (s.port p).train.state = .active → flitGood b = true → flitType b = 6 → plainHeader b = true →
      byteAt (flitPayload b) 0 = 1 → zeros (flitPayload b) 1 119 = true → Gives (.sleepReceived p l b) s fun t =>
      (t.port p).rx.asleep = true ∧ (t.port p).rx.e = (s.port p).rx.e ∧ t = { s with ports := t.ports })
  ∧ (∀ (p : Fin 12) (l : Fin 4) (b : List Byte) (s : State), (s.port p).train.state = .active → flitGood b = true → flitType b = 6 → plainHeader b = true →
      let pl := flitPayload b
      byteAt pl 0 = 4 → byteAt pl 1 = 0 → zeros pl 10 119 = true → Gives (.backlogReceived p l b) s fun t =>
      (t.port p).rx.backlog = some (le pl 2 2, le pl 4 3, le pl 7 3) ∧ t = { s with ports := t.ports })
  ∧ (∀ (p : Fin 12) (l : Fin 4) (b : List Byte) (s : State), (s.port p).train.state = .active → flitGood b = true → flitType b = 6 → plainHeader b = true →
      byteAt (flitPayload b) 0 = 5 → zeros (flitPayload b) 2 119 = true → Gives (.retrainReqReceived p l b) s fun t =>
      (t.port p).train.state = .detect ∧ (t.port p).train.cause = .peerRequest ∧ (t.port p).train.trainId = (s.port p).train.trainId + 1)
  ∧ (∀ (p : Fin 12) (l : Fin 4) (b : List Byte) (s : State), (s.port p).train.state = .active → flitGood b = true → flitType b = 6 → plainHeader b = true →
      let pl := flitPayload b
      byteAt pl 0 = 6 → byteAt pl 1 < 4 → 1 ≤ byteAt pl 2 → byteAt pl 2 ≤ 2 → zeros pl 3 119 = true → (s.port p).outSet.getLsbD (byteAt pl 1) = true →
      Gives (.laneBadReceived p l b) s fun t =>
      ((t.port p).lane (byteAt pl 1)).badTold = true
        ∧ (((s.port p).lane (byteAt pl 1)).badTold = true → (t.port p).transit = (s.port p).transit ∧ t = { s with ports := t.ports })
        ∧ (((s.port p).lane (byteAt pl 1)).badTold = false → (s.port p).inSet.getLsbD (byteAt pl 1) = false → (s.port p).transit.isSome = true →
            ((t.port p).lane (byteAt pl 1)).recalDeferred = true))
  ∧ (∀ (p : Fin 12) (l : Fin 4) (b : List Byte) (x : Transit) (s : State), (s.port p).train.state = .active → flitGood b = true → flitType b = 6 →
      plainHeader b = true →
      let pl := flitPayload b
      byteAt pl 0 = 3 → byteAt pl 1 < 4 → zeros pl 4 119 = true → (s.port p).transit = some x → x.kind = .turnIn → x.phase = .awaitJoin → x.lane = byteAt pl 1 →
      x.turnId = BitVec.ofNat 16 (le pl 2 2) → x.marker = true → Gives (.turnDoneReceived p l b) s fun t =>
      (t.port p).transit = none ∧ (t.port p).allot.lastToOut = some s.cycle)
  ∧ (∀ (p : Fin 12) (l : Fin 4) (b : List Byte) (x : Transit) (s : State), (s.port p).train.state = .active → flitGood b = true → flitType b = 4 →
      plainHeader b = true →
      let pl := flitPayload b
      let change := bits (byteAt pl 1) 4 2
      1 ≤ byteAt pl 0 → byteAt pl 0 ≤ 15 → byteAt pl 1 < 20 → byteAt pl 2 < 16 → byteAt pl 3 = 0 → zeros pl 7 119 = true → (s.port p).transit = some x →
      x.turnId = BitVec.ofNat 16 (le pl 4 2) → x.lane = byteAt pl 1 % 4 → (s.port p).lastMap ≠ some (x.turnId, change, x.lane) → Gives (.lanemapReceived p l b) s fun t =>
      (x.kind = .turnIn → x.phase = .laneReqSent → change = 0 → (s.port p).outSet ≠ 0 →
          (∃ y, (t.port p).transit = some y ∧ y.phase = .awaitJoin ∧ y.marker = true ∧ y.lane = x.lane) ∧ (t.port p).inSet = BitVec.ofNat 4 (byteAt pl 0)
            ∧ (s.port p).tx.ctrl.length < (t.port p).tx.ctrl.length)
        ∧ (x.kind = .turnOut → x.phase = .awaitJoin → change = 1 → x.marker = false →
          (t.port p).transit = some { x with joined := true } ∧ (t.port p).inSet = BitVec.ofNat 4 (byteAt pl 0) ∧ t = { s with ports := t.ports })
        ∧ (x.kind = .recal → x.phase = .laneReqSent → change = 2 →
          (t.port p).transit = some { x with phase := .eq, due := none, pass := .eqA } ∧ (t.port p).inSet = BitVec.ofNat 4 (byteAt pl 0) ∧ t = { s with ports := t.ports })
        ∧ (x.kind = .exclude → x.phase = .laneReqSent → change = 4 → (t.port p).transit = none ∧ (t.port p).inSet = BitVec.ofNat 4 (byteAt pl 0)))
  ∧ (∀ (p : Fin 12) (l : Fin 4) (b : List Byte) (s : State), (s.port p).train.state = .active → flitGood b = true → flitType b = 4 → plainHeader b = true →
      let pl := flitPayload b
      1 ≤ byteAt pl 0 → byteAt pl 0 ≤ 15 → byteAt pl 1 < 20 → byteAt pl 2 < 16 → byteAt pl 3 = 0 → zeros pl 7 119 = true → (s.port p).transit = none →
      (s.port p).lastMap ≠ some (BitVec.ofNat 16 (le pl 4 2), bits (byteAt pl 1) 4 2, byteAt pl 1 % 4) →
      ((s.port p).rx.protoTimes.filter (s.within 1000000)).length < 15 → Gives (.lanemapReceived p l b) s fun t =>
      (t.port p).rx.protoErr = (s.port p).rx.protoErr + 1 ∧ (t.port p).inSet = (s.port p).inSet ∧ t = { s with ports := t.ports })
  ∧ (∀ (p : Fin 12) (l : Fin 4) (b : List Byte) (s : State), (s.port p).train.state = .active → flitGood b = true → flitType b = 0 → plainHeader b = false →
      Gives (.dataFlitReceived p l b) s fun t =>
      (((s.port p).rx.protoTimes.filter (s.within 1000000)).length < 15 → (t.port p).rx.protoErr = (s.port p).rx.protoErr + 1 ∧ (t.port p).train = (s.port p).train)
        ∧ (15 ≤ ((s.port p).rx.protoTimes.filter (s.within 1000000)).length →
            (t.port p).train.state = .detect ∧ (t.port p).train.trainId = (s.port p).train.trainId + 1))
  ∧ (∀ (p : Fin 12) (l : Fin 4) (b : List Byte) (s : State), (s.port p).train.state = .active → flitGood b = true → flitType b = 5 → plainHeader b = true →
      let pl := flitPayload b
      byteAt pl 0 = 2 → (byteAt pl 1 = 0 ∨ byteAt pl 1 = 2) → zeros pl 4 7 = true → zeros pl 32 119 = true → Gives (.echoReceived p l b) s fun t =>
      (t.port p).time = ((s.port p).time.sample (((s.now.toNat : Int) - le pl 8 8 - ((le pl 24 8 : Int) - le pl 16 8)) * 8)).1
        ∧ (t.port p).tx = (s.port p).tx ∧ t = { s with ports := t.ports, silt := t.silt, freeCtr := t.freeCtr })

/-- R50, R62, R63, R64, R67, R74, R76: the timers of an ACTIVE link. The NAK timer asks again, the eighth time from one SEQ the link goes down; the replay timeout makes everything from the oldest flit due again; the latest ACK, all credits and TIME are repeated; a LANE_REQ goes again at most three times, and then the change is abandoned; a turnaround that fails becomes a recalibration of its lane. Space that is freed is granted to its TUN, first what is held for it, then as far as it is found. -/
def Obligations.LinkTimers : Prop :=
  (∀ (p : Fin 12) (s : State), (s.port p).train.state = .active → (s.port p).rx.retryWait = true → s.due (s.port p).rx.nakDue = true →
      Gives (.nakTimerExpiry p) s fun t =>
      (((s.port p).rx.nakSeq = some (s.port p).rx.b → (s.port p).rx.nakRun < 7) →
          (t.port p).rx.nakRun = (if (s.port p).rx.nakSeq = some (s.port p).rx.b then (s.port p).rx.nakRun + 1 else 1)
            ∧ (t.port p).tx.ctrl = (s.port p).tx.ctrl ++ [{ typ := 2, payload := ackPayload (s.port p).rx (some (s.port p).rx.b) }] ∧ t = { s with ports := t.ports })
        ∧ ((s.port p).rx.nakSeq = some (s.port p).rx.b → 7 ≤ (s.port p).rx.nakRun →
          (t.port p).train.state = .detect ∧ (t.port p).train.trainId = (s.port p).train.trainId + 1))
  ∧ (∀ (p : Fin 12) (u : Unacked) (rest : List Unacked) (s : State), (s.port p).train.state = .active → (s.port p).tx.unacked = u :: rest →
      u.sentAt.toNat + (s.port p).replayNs < s.now.toNat → Gives (.replayTimeout p) s fun t =>
      (t.port p).tx.resend = ((s.port p).tx.unacked.filter fun v => decide ((v.seq - u.seq).toNat < 2048)).map (fun v => { v with sentAt := s.now })
        ∧ (t.port p).retry = (s.port p).retry + 1 ∧ (t.port p).tx.ctrl = (s.port p).tx.ctrl ∧ t = { s with ports := t.ports })
  ∧ (∀ (p : Fin 12) (s : State), (s.port p).train.state = .active → s.due (s.port p).rx.ackDue = true → (s.port p).tx.asleep = false →
      (s.port p).rx.asleep = false → Gives (.ackRepeatExpiry p) s fun t =>
      (t.port p).rx = { (s.port p).rx with ackDue := some (s.after 10000) }
        ∧ (t.port p).tx.ctrl = (s.port p).tx.ctrl ++ [{ typ := 2, payload := ackPayload (s.port p).rx none, counts := false }] ∧ t = { s with ports := t.ports })
  ∧ (∀ (p : Fin 12) (s : State), (s.port p).train.state = .active → s.due (s.port p).rx.creditDue = true → Gives (.creditRefreshExpiry p) s fun t =>
      (t.port p).rx = { (s.port p).rx with creditDue := some (s.after 1000000) }
        ∧ ((s.port p).tx.asleep = true → (t.port p).tx = (s.port p).tx)
        ∧ ((s.port p).tx.asleep = false → (s.port p).tx.ctrl.length < (t.port p).tx.ctrl.length) ∧ t = { s with ports := t.ports })
  ∧ (∀ (p : Fin 12) (s : State), (s.port p).train.state = .active → Gives (.creditReturn p 0) s fun t =>
      let x := (s.port p).tun 0
      let want := 16 - ((x.granted - x.recv).toNat + s.cellsOf agentCtrl 0 (8192 + p))
      let own := min want x.held
      let got := own + (s.takeSpaces (want - own) 6).2
      (t.port p).tun 0 = { x with granted := x.granted + BitVec.ofNat 16 got, held := x.held - own, waitGrant := want - got }
        ∧ (t.port p).tx.ctrl.length = (s.port p).tx.ctrl.length + (if got = 0 then 0 else 1) ∧ t = { s with ports := t.ports, marl := t.marl })
  ∧ (∀ (p : Fin 12) (n : Fin 1024) (tid q : Nat) (s : State), (s.port p).train.state = .active → n ≠ 0 → s.tidOf p n = some tid → (s.tunnel tid).inQueue = some q →
      (s.tunnel tid).state = .opened → (s.tunnel tid).dirs.getLsbD 1 = true → Gives (.creditReturn p n) s fun t =>
      let x := (s.port p).tun n
      let want := (s.tunnel tid).window - ((x.granted - x.recv).toNat + s.cellsOf (s.tunnel tid).client q tid)
      let own := min want x.held
      let got := own + (s.takeSpaces (want - own) (s.tunnel tid).cls).2
      (t.port p).tun n = { x with granted := x.granted + BitVec.ofNat 16 got, held := x.held - own, waitGrant := want - got }
        ∧ (t.port p).tx.ctrl.length = (s.port p).tx.ctrl.length + (if got = 0 then 0 else 1) ∧ t = { s with ports := t.ports, marl := t.marl })
  ∧ (∀ (p : Fin 12) (s : State), (s.port p).train.state = .active → s.due (s.port p).time.due = true → Gives (.timePeriodExpiry p) s fun t =>
      (t.port p).time = { (s.port p).time with seq := (s.port p).time.seq + 1, due := some (s.after (1000 * (s.port p).link.timePeriod)) }
        ∧ (∃ c, (t.port p).tx.ctrl = (s.port p).tx.ctrl ++ [c] ∧ c.typ = 5 ∧ byteAt c.payload 0 = 1 ∧ le c.payload 2 2 = (s.port p).time.seq.toNat)
        ∧ t = { s with ports := t.ports })
  ∧ (∀ (p : Fin 12) (x : Transit) (s : State), (s.port p).train.state = .active → (s.port p).transit = some x → x.phase = .laneReqSent → s.due x.due = true →
      Gives (.laneReqResendExpiry p) s fun t =>
      (x.tries < 3 → (t.port p).transit = some { x with tries := x.tries + 1, due := some (s.after (2 * (s.port p).oneWay + 2000)) }
          ∧ (∃ c, (t.port p).tx.ctrl = (s.port p).tx.ctrl ++ [c] ∧ c.typ = 6 ∧ byteAt c.payload 0 = 2) ∧ t = { s with ports := t.ports })
        ∧ (3 ≤ x.tries → (t.port p).transit = none))
  ∧ (∀ (p : Fin 12) (x : Transit) (s : State), (s.port p).train.state = .active → (s.port p).transit = some x → x.phase = .awaitJoin → s.due x.due = true →
      (x.kind = .turnOut ∧ x.marker = false ∨ x.kind = .turnIn ∧ x.joined = false) → Gives (.turnaroundTimeout p) s fun t =>
      (x.kind = .turnIn → (t.port p).transit = some { x with kind := .recal, phase := .rotationSent, origDir := .outb, due := none, turnId := (s.port p).turnId })
        ∧ (x.kind = .turnOut → (t.port p).transit = some { x with kind := .recal, phase := .laneReqSent, origDir := .inb, tries := 0, turnId := (s.port p).turnId
                                                                  due := some (s.after (2 * (s.port p).oneWay + 2000)) })
        ∧ (t.port p).turnId = (s.port p).turnId + 1 ∧ (t.port p).train = (s.port p).train)

/-- R15, R94, R95, R96, R101, R105, R115: the MGMT messages of a link partner, each taken as the oldest of its port. TERM_INFO is stored; OPEN_ACK opens the tunnel that awaits it; OPEN_NAK takes a restore back to ORPHAN and frees another entry under the next generation; CLOSE_ACK frees the entry; ALLOT_ACK brings the raise of the inbound reservation whose XID it answers into effect, and changes no tunnel for another; TUN_STATUS changes no tunnel. An answer that no request awaits is counted in PROTO_ERR and changes no tunnel. -/
def Obligations.MgmtMessages : Prop :=
  (∀ (p : Fin 12) (m : MgmtMsg) (rest : List MgmtMsg) (s : State), (s.port p).mgmtRx = m :: rest → m.msg = 0x02 → Gives (.termInfoReceived p) s fun t =>
      (t.port p).termInfo = some m.body ∧ (t.port p).mgmtRx = rest ∧ (t.port p).train = (s.port p).train)
  ∧ (∀ (p : Fin 12) (m : MgmtMsg) (rest : List MgmtMsg) (a : Await) (s : State), (s.port p).mgmtRx = m :: rest → m.msg = 0x11 →
      s.awaited p m.xid 0x10 = some a → Gives (.openAckReceived p) s fun t =>
      (t.tunnel a.tid).state = .opened ∧ (t.tunnel a.tid).create = none ∧ (t.tunnel a.tid).gen = (s.tunnel a.tid).gen
        ∧ (∀ k, k ≠ a.tid → t.tunnel k = s.tunnel k) ∧ (t.port p).mgmtRx = rest)
  ∧ (∀ (p : Fin 12) (m : MgmtMsg) (rest : List MgmtMsg) (a : Await) (s : State), (s.port p).mgmtRx = m :: rest → m.msg = 0x12 →
      s.awaited p m.xid 0x10 = some a → (s.tunnel a.tid).restore = true → Gives (.openNakReceived p) s fun t =>
      t.tunnel a.tid = { s.tunnel a.tid with state := .orphan, restore := false } ∧ (∀ k, k ≠ a.tid → t.tunnel k = s.tunnel k) ∧ (t.port p).mgmtRx = rest)
  ∧ (∀ (p : Fin 12) (m : MgmtMsg) (rest : List MgmtMsg) (a : Await) (s : State), (s.port p).mgmtRx = m :: rest → m.msg = 0x12 →
      s.awaited p m.xid 0x10 = some a → (s.tunnel a.tid).restore = false → s.fwMayCommit = true → s.tunWf = true → Gives (.openNakReceived p) s fun t =>
      t.tunnel a.tid = { gen := (s.tunnel a.tid).gen + 1 } ∧ (t.port p).mgmtRx = rest)
  ∧ (∀ (p : Fin 12) (m : MgmtMsg) (rest : List MgmtMsg) (a : Await) (s : State), (s.port p).mgmtRx = m :: rest → m.msg = 0x14 →
      s.awaited p m.xid 0x13 = some a → s.tunWf = true → Gives (.closeAckReceived p) s fun t =>
      t.tunnel a.tid = { gen := (s.tunnel a.tid).gen + 1 } ∧ (t.port p).mgmtRx = rest)
  ∧ (∀ (p : Fin 12) (m : MgmtMsg) (rest : List MgmtMsg) (a : Await) (r : Modify) (s : State), (s.port p).mgmtRx = m :: rest → m.msg = 0x21 →
      s.awaited p m.xid 0x20 = some a → (s.tunnel a.tid).modify = some r → r.raiseIn = true → r.xid = a.xid → (s.tunnel a.tid).queued = [] → Gives (.allotAckReceived p) s fun t =>
      t.tunnel a.tid = { s.tunnel a.tid with rsvIn := r.rsvIn, wIn := r.wIn, modify := none } ∧ (∀ k, k ≠ a.tid → t.tunnel k = s.tunnel k)
        ∧ (t.port p).mgmtRx = rest)
  ∧ (∀ (p : Fin 12) (m : MgmtMsg) (rest : List MgmtMsg) (a : Await) (s : State), (s.port p).mgmtRx = m :: rest → m.msg = 0x21 →
      s.awaited p m.xid 0x20 = some a → (∀ r, (s.tunnel a.tid).modify = some r → r.raiseIn = false ∨ r.xid ≠ a.xid) → Gives (.allotAckReceived p) s fun t =>
      t.tunnels = s.tunnels ∧ (t.port p).mgmtRx = rest ∧ (t.port p).awaits = (s.port p).awaits.filter (fun b => b.xid ≠ m.xid))
  ∧ (∀ (p : Fin 12) (m : MgmtMsg) (rest : List MgmtMsg) (tid : Nat) (s : State), (s.port p).mgmtRx = m :: rest → m.msg = 0x30 →
      s.tidOf p (bits (le m.body 0 2) 9 0) = some tid → ((s.tunnel tid).state = .opening ∨ (s.tunnel tid).state = .opened) →
      (s.tunnel tid).gen = BitVec.ofNat 8 (byteAt m.body 2) → 1 ≤ byteAt m.body 3 → byteAt m.body 3 ≤ 4 → Gives (.tunStatusReceived p) s fun t =>
      t.tunnels = s.tunnels ∧ (t.port p).mgmtRx = rest ∧ (t.port p).tuns = (s.port p).tuns ∧ t.marl = s.marl)
  ∧ (∀ (p : Fin 12) (m : MgmtMsg) (rest : List MgmtMsg) (tid : Nat) (s : State), (s.port p).mgmtRx = m :: rest → m.msg = 0x30 →
      s.tidOf p (bits (le m.body 0 2) 9 0) = some tid → ((s.tunnel tid).state = .opening ∨ (s.tunnel tid).state = .opened) →
      ((s.tunnel tid).gen ≠ BitVec.ofNat 8 (byteAt m.body 2) ∨ byteAt m.body 3 = 0 ∨ 4 < byteAt m.body 3) → Gives (.tunStatusReceived p) s fun t =>
      let n := bits (le m.body 0 2) 9 0
      ((t.port p).tun n).protoDrop = ((s.port p).tun n).protoDrop + 1 ∧ t.tunnels = s.tunnels ∧ (t.port p).mgmtRx = rest)
  ∧ (∀ (i : Fin 12 → Instr) (n r : Nat) (p : Fin 12) (m : MgmtMsg) (rest : List MgmtMsg) (s : State),
      (i, n, r) ∈ [(Instr.openAckReceived, 0x11, 0x10), (.openNakReceived, 0x12, 0x10), (.closeAckReceived, 0x14, 0x13), (.allotAckReceived, 0x21, 0x20)] →
      (s.port p).mgmtRx = m :: rest → m.msg = n → s.awaited p m.xid r = none → ((s.port p).rx.protoTimes.filter (s.within 1000000)).length < 15 → Gives (i p) s fun t =>
      (t.port p).rx.protoErr = (s.port p).rx.protoErr + 1 ∧ t.tunnels = s.tunnels ∧ (t.port p).mgmtRx = rest)

/-- R94, R102, R105, R110, R113, R116, R332: what time does to tunnels. A request goes again after 1 ms, at most twice; then a restore goes back to ORPHAN and a create is reverted. The start of an allotment cycle is taken once: it rolls the counts of the cycle and evaluates the turn counters. An ORPHAN tunnel whose own window has passed is torn down and freed under the next generation, one within its window is left; 1 s after a host was lost its mark ends, and so does an ORPHAN tunnel of it. An event that is not due, or finds nothing to act on, has no effect (the model's choice, log entry 6). -/
def Obligations.TunnelTimers : Prop :=
  (∀ (p : Fin 12) (xid : BitVec 16) (a : Await) (s : State), (s.port p).awaits.find? (fun a => decide (a.xid = xid)) = some a → a.due.toNat ≤ s.now.toNat →
      a.tries < 2 → Gives (.mgmtResendExpiry p xid) s fun t =>
      (t.port p).awaits = (s.port p).awaits.filter (fun b => b.xid ≠ xid) ++ [{ a with tries := a.tries + 1, due := s.after 1000000 }]
        ∧ t.tunnels = s.tunnels ∧ (t.port p).train = (s.port p).train)
  ∧ (∀ (p : Fin 12) (xid : BitVec 16) (a : Await) (s : State), (s.port p).awaits.find? (fun a => decide (a.xid = xid)) = some a → a.due.toNat ≤ s.now.toNat →
      2 ≤ a.tries → a.msg.msg = 0x10 → (s.tunnel a.tid).restore = true → Gives (.mgmtResendExpiry p xid) s fun t =>
      t.tunnel a.tid = { s.tunnel a.tid with state := .orphan, restore := false } ∧ (∀ k, k ≠ a.tid → t.tunnel k = s.tunnel k)
        ∧ (t.port p).awaits = (s.port p).awaits.filter (fun b => b.xid ≠ xid))
  ∧ (∀ (p : Fin 12) (xid : BitVec 16) (a : Await) (s : State), (s.port p).awaits.find? (fun a => decide (a.xid = xid)) = some a → a.due.toNat ≤ s.now.toNat →
      2 ≤ a.tries → (a.msg.msg = 0x10 ∧ (s.tunnel a.tid).restore = false ∧ s.fwMayCommit = true ∨ a.msg.msg = 0x13) → s.tunWf = true → Gives (.mgmtResendExpiry p xid) s fun t =>
      t.tunnel a.tid = { gen := (s.tunnel a.tid).gen + 1 })
  ∧ (∀ (p : Fin 12) (s : State), (s.port p).train.state = .active → (s.port p).allot.cycle ≠ some s.cycle → Gives (.allotCycleStart p) s fun t =>
      let x := s.port p
      let v := s.turnView p
      let cIn := turnCount x.allot.turnThresh v.backIn (decide (v.sentOut + v.backOut ≤ s.ps p (laneCount x.outSet - 1))) x.allot.cIn
      let cOut := turnCount x.allot.turnThresh v.backOut (decide (v.sentIn + v.backIn ≤ s.ps p (laneCount x.inSet - 1))) x.allot.cOut
      (t.port p).allot.cycle = some s.cycle ∧ (t.port p).tx.sentCycle = 0 ∧ (t.port p).tx.mgmtSent = 0 ∧ (t.port p).rx.recvLast = x.rx.recvCycle
        ∧ (t.port p).rx.recvCycle = 0 ∧ (t.port p).rx.backlog = none
        ∧ (cIn < x.allot.turnCycles → cOut < x.allot.turnCycles → (t.port p).allot.cIn = cIn ∧ (t.port p).allot.cOut = cOut))
  ∧ (∀ (p : Fin 12) (s : State), (s.port p).allot.cycle = some s.cycle → exec (.allotCycleStart p) s = .next s)
  ∧ (∀ (p : Fin 12) (tid : Nat) (at' : Time) (s : State), s.portTunnels p .orphan = [tid] → (s.tunnel tid).port = p → (s.tunnel tid).orphanAt = some at' →
      at'.toNat + 100000000 * (s.port p).allot.orphanWin ≤ s.now.toNat → s.fwMayCommit = true → (s.tunnel tid).state = .orphan → s.tunWf = true →
      Gives (.orphanWindowExpiry p) s fun t => t.tunnel tid = { gen := (s.tunnel tid).gen + 1 })
  ∧ (∀ (p : Fin 12) (s : State), (∀ tid ∈ s.portTunnels p .orphan, s.windowOver tid = false) → exec (.orphanWindowExpiry p) s = .next s)
  ∧ (∀ (h : Fin 2) (sl : Fin 256) (s : State), s.due (s.slice h sl).lostDue = true → Gives (.hostLostTunnelExpiry h sl) s fun t =>
      let l := keysOf s.tunnels fun x => decide (x.owner = .slice h sl) && decide (x.tornDown = some h.val) && decide (x.state ≠ .free)
      (t.slice h sl).lostDue = none
        ∧ (∀ tid, l = [tid] → s.fwMayCommit = true → s.tunWf = true → s.dpBinding tid = false → (s.tunnel tid).state = .orphan → t.tunnel tid = { gen := (s.tunnel tid).gen + 1 })
        ∧ (l = [] → t = s.setSlice h sl { s.slice h sl with lostDue := none }))

/-- R121, R122, R125, R131, R133, R134, R137, R139, R142, R144, R146: Marl's own operations. A lossy client's cell enters its queue while there is room and is counted in CAP_DROP at QCAP; a lossless one enters against one crossing credit, and without one is not offered; a cell of an ORPHAN tunnel is counted. A grant sets space aside for one cell, with which a MGMT cell that waited goes, or waits itself. An egress takes the head cell, which a host port that is not in D0 stages, discards over-age and stale heads in a sweep with their counters, and loses a flow whose link entry fails. A drained bank is retired, and a readmitted one joins or becomes the spare. An event that is not due, or finds nothing to act on, has no effect (the model's choice, log entry 6). Which space a freed cell returns first is the model's choice (log entry 19). -/
def Obligations.MarlEvents : Prop :=
  (∀ (a : BitVec 8) (f q : Nat) (bl poison : Bool) (b : List Byte) (s : State), f < 8192 → (s.tunnel f).client = a.toNat → (s.tunnel f).dirs.getLsbD 0 = true →
      (a.toNat = agentDisp ∨ a.toNat = agentNet) → (s.tunnel f).state = .opened → s.domainOff 1 = false →
      queueOf (agentPort (s.tunnel f).port) (s.tunnel f).cls (s.tunnel f).periodic = some q → Gives (.cellAdmit a f bl poison b) s fun t =>
      (s.roomFor (s.tunnel f).cls (agentPort (s.tunnel f).port) q = true → CellIn s t (agentPort (s.tunnel f).port) q f fun c =>
          c.payload = padTo 120 b ∧ c.bl = bl ∧ c.poison = poison ∧ c.cls = (s.tunnel f).cls ∧ c.gen = (s.tunnel f).gen ∧ c.arrival = s.now)
        ∧ ((s.egq (agentPort (s.tunnel f).port) q).qcap ≤ (s.egq (agentPort (s.tunnel f).port) q).depth →
          t = s.setEgq (agentPort (s.tunnel f).port) q
            { s.egq (agentPort (s.tunnel f).port) q with capDrop := (s.egq (agentPort (s.tunnel f).port) q).capDrop + 1 }))
  ∧ (∀ (a : BitVec 8) (f q : Nat) (bl poison : Bool) (b : List Byte) (s : State), f < 8192 → (s.tunnel f).client = a.toNat → (s.tunnel f).dirs.getLsbD 0 = true →
      a.toNat ≠ agentDisp → a.toNat ≠ agentNet → (s.tunnel f).state = .opened → s.domainOff 1 = false →
      queueOf (agentPort (s.tunnel f).port) (s.tunnel f).cls (s.tunnel f).periodic = some q → Gives (.cellAdmit a f bl poison b) s fun t =>
      let key := a.toNat * 8 + (s.tunnel f).cls
      (Tab.get 0 s.marl.crossing key = 0 → t = s)
        ∧ (Tab.get 0 s.marl.crossing key ≠ 0 → (s.placeBank (s.egq (agentPort (s.tunnel f).port) q).recent).isSome = true → s.marl.writeBuf = [] →
          Tab.get 0 t.marl.crossing key = Tab.get 0 s.marl.crossing key - 1
            ∧ CellIn s t (agentPort (s.tunnel f).port) q f fun c => c.payload = padTo 120 b ∧ c.bl = bl ∧ c.poison = poison ∧ c.gen = (s.tunnel f).gen))
  ∧ (∀ (a : BitVec 8) (f q : Nat) (bl poison : Bool) (b : List Byte) (s : State), 16384 ≤ f → queueOf (sysEgress a.toNat f) 7 false = some q →
      Tab.get 0 s.marl.crossing (a.toNat * 8 + 7) ≠ 0 → (s.placeBank (s.egq (sysEgress a.toNat f) q).recent).isSome = true → s.marl.writeBuf = [] →
      s.domainOff 1 = false → Gives (.cellAdmit a f bl poison b) s fun t =>
      CellIn s t (sysEgress a.toNat f) q f fun c => c.sys = true ∧ c.payload = padTo 120 b ∧ c.bl = bl ∧ c.poison = poison ∧ c.cls = 7)
  ∧ (∀ (a : BitVec 8) (f q : Nat) (bl poison : Bool) (b : List Byte) (s : State), f < 8192 → (s.tunnel f).client = a.toNat → (s.tunnel f).dirs.getLsbD 0 = true →
      (s.tunnel f).state = .orphan → s.domainOff 1 = false → queueOf (agentPort (s.tunnel f).port) (s.tunnel f).cls (s.tunnel f).periodic = some q →
      Gives (.cellAdmit a f bl poison b) s fun t =>
      ((t.port (s.tunnel f).port).tun (s.tunnel f).tun).orphanDrop = ((s.port (s.tunnel f).port).tun (s.tunnel f).tun).orphanDrop + 1
        ∧ t = { s with ports := t.ports })
  ∧ (∀ (a : BitVec 8) (f : Nat) (bl poison : Bool) (b : List Byte) (s : State), (f < 8192 ∧ (s.tunnel f).client ≠ a.toNat ∨ s.domainOff 1 = true) →
      exec (.cellAdmit a f bl poison b) s = .next s)
  ∧ (∀ (a : BitVec 8) (cls : Fin 8) (s : State), a.toNat ∈ [0, 1, 3, 4, 5] → (s.takeSpace cls).isSome = true → s.domainOff 1 = false →
      (a.toNat = agentCtrl → s.cluster.mgmtOut = []) → (a.toNat = agentXfer → ∀ r, r < 24 → (s.root r).pingHeld = false) → Gives (.losslessCreditGrant a cls) s fun t =>
      (∀ k, Tab.get 0 t.marl.crossing k = if k = a.toNat * 8 + cls then Tab.get 0 s.marl.crossing k + 1 else Tab.get 0 s.marl.crossing k)
        ∧ t.marl.queues = s.marl.queues ∧ t = { s with marl := t.marl })
  ∧ (∀ (cls : Fin 8) (port : Nat) (c : Cell) (rest : List (Nat × Cell)) (s : State), s.domainOff 1 = false → (s.takeSpace cls).isSome = true →
      s.cluster.mgmtOut = (port, c) :: rest → c.cls = cls.val → Gives (.losslessCreditGrant 1 cls) s fun t =>
      t.cluster.mgmtOut = rest ∧ (∀ k, Tab.get 0 t.marl.crossing k = Tab.get 0 s.marl.crossing k)
        ∧ ((s.placeBank (s.egq (agentPort port) 8).recent).isSome = true → s.marl.writeBuf = [] →
            ∃ d, (t.egq (agentPort port) 8).flow (8192 + port) = (s.egq (agentPort port) 8).flow (8192 + port) ++ [d] ∧ d.payload = c.payload))
  ∧ (∀ (a : BitVec 8) (cls : Fin 8) (s : State), (a.toNat ∉ [0, 1, 3, 4, 5] ∨ (s.takeSpace cls).isSome = false ∨ s.domainOff 1 = true) → exec (.losslessCreditGrant a cls) s = .next s)
  ∧ (∀ (h : Fin 2) (f : Nat) (c : Cell) (rest : List Cell) (s : State), s.agentPowered (agentHp h) = true → s.pickUnit (agentHp h) = some (1, f) →
      (s.egq (agentHp h) 1).flow f = c :: rest → c.sys = true → c.cls = 7 → (s.hp h).power = .d0 → Tab.get [] s.marl.staging (agentHp h) = [] →
      (Tab.get [] s.marl.staging agentXfer).filter (fun c => decide (c.cls = 3)) = [] → s.marl.writeBuf = [] → s.overAge c = false → s.readPage 0 c.addr = .clean → c.poison = false →
      (s.egq (agentHp h) 1).discarding.contains f = false → Gives (.cellEgressSelect (BitVec.ofNat 8 (agentHp h)) false) s fun t =>
      t.out = .cell (agentHp h) c.payload :: s.out ∧ (t.egq (agentHp h) 1).flow f = rest ∧ (t.egq (agentHp h) 1).deq = (s.egq (agentHp h) 1).deq + 1
        ∧ (t.bank (c.addr / 8192)).fill = (s.bank (c.addr / 8192)).fill - 1 ∧ t = { s with marl := t.marl, out := t.out })
  ∧ (∀ (h : Fin 2) (f : Nat) (c : Cell) (rest : List Cell) (s : State), s.agentPowered (agentHp h) = true → s.pickUnit (agentHp h) = some (1, f) →
      (s.egq (agentHp h) 1).flow f = c :: rest → c.sys = true → c.cls = 7 → (s.hp h).power = .d3hot → Tab.get [] s.marl.staging (agentHp h) = [] →
      (Tab.get [] s.marl.staging agentXfer).filter (fun c => decide (c.cls = 3)) = [] → s.marl.writeBuf = [] → s.overAge c = false →
      s.readPage 0 c.addr = .clean → c.poison = false → (s.egq (agentHp h) 1).discarding.contains f = false →
      Gives (.cellEgressSelect (BitVec.ofNat 8 (agentHp h)) false) s fun t =>
      Tab.get [] t.marl.staging (agentHp h) = [c] ∧ t.out = s.out ∧ (t.egq (agentHp h) 1).flow f = rest)
  ∧ (∀ (h : Fin 2) (q f : Nat) (s : State), s.agentPowered (agentHp h) = true → s.pickUnit (agentHp h) = some (q, f) → (Tab.get [] s.marl.staging (agentHp h)).length < 16 →
      Gives (.cellEgressSelect (BitVec.ofNat 8 (agentHp h)) true) s fun t =>
      (t.egq (agentHp h) q).flow f = [] ∧ t.marl.linkUe = s.marl.linkUe + 1 ∧ (t.alarm 14).latch = true
        ∧ (t.egq (agentHp h) q).eccDrop = (s.egq (agentHp h) q).eccDrop + BitVec.ofNat 64 ((s.egq (agentHp h) q).flow f).length ∧ t.tunnels = s.tunnels)
  ∧ (∀ (k f : Nat) (x : EgQueue) (c : Cell) (s : State), s.marl.queues = [(k, x)] → x.flows = [(f, [c])] → s.marl.writeBuf = [] → Gives .sweepRound s fun t =>
      t.marl.sweepRounds = s.marl.sweepRounds + 1 ∧ t.tunnels = s.tunnels ∧ (∀ p, (t.port p).train = (s.port p).train ∧ (t.port p).tx = (s.port p).tx)
        ∧ (s.staleCell c = true → (t.egq (k / 16) (k % 16)).flow f = [] ∧ (t.egq (k / 16) (k % 16)).genDrop = x.genDrop + 1
            ∧ (t.egq (k / 16) (k % 16)).ageDrop = x.ageDrop)
        ∧ (s.staleCell c = false → s.overAge c = true → (t.egq (k / 16) (k % 16)).flow f = [] ∧ (t.egq (k / 16) (k % 16)).ageDrop = x.ageDrop + 1)
        ∧ (s.staleCell c = false → s.overAge c = false → t = { s with marl := { s.marl with sweepRounds := s.marl.sweepRounds + 1 } }))
  ∧ (∀ (b : Fin 33) (s : State), (s.bank b).state = .draining → (s.bank b).fill = 0 → s.fwMayCommit = true → Gives (.marlBankRetired b) s fun t =>
      (t.bank b).state = .retired ∧ (t.bank b).retireBy = none)
  ∧ (∀ (b : Fin 33) (s : State), ((s.bank b).state ≠ .draining ∨ (s.bank b).fill ≠ 0) → exec (.marlBankRetired b) s = .next s)
  ∧ (∀ (b : Fin 33) (c : Cmd) (s : State), (s.bank b).readmit = some c → (s.bank b).state = .retired → Gives (.bankReadmitDone b) s fun t =>
      (t.bank b).state = (if (s.banksIn .active).length < 32 then .active else .spare) ∧ (t.bank b).readmit = none ∧ (t.bank b).fill = 0
        ∧ (∀ j, j ≠ b.val → t.bank j = s.bank j)
        ∧ t.marl.sharedLost = if (s.banksIn .active).length < 32 then s.marl.sharedLost - 8192 else s.marl.sharedLost)

/-- R146, R147, R149, R401, R404, R406, R408, R410, R411: the commands of the memories, whenever they may be carried out. A retire puts an ACTIVE bank in DRAINING, for which a spare joins or shared space gives way, and the spare in RETIRED; a readmit waits for its scrub; a repair takes the next spare row and begins its copy; a new strength begins the conversion from page 0; FUSE_PROGRAM burns what waits, one entry at a time; a flip mask is armed. -/
def Obligations.MemoryCommandsTakeEffect : Prop :=
  CarriedOut .marlBankRetire infoBankRetire checksMarlBankRetire (fun c s => (s.bank (byteAt c.payload 0)).state = .spare) (fun _ _ _ => [3]) (fun c b u =>
      let n := byteAt c.payload 0
      u.bank n = { b.bank n with state := .retired } ∧ (∀ j, j ≠ n → u.bank j = b.bank j) ∧ n < 33 ∧ u = { b with marl := u.marl, cluster := u.cluster, power := u.power })
  ∧ Begun .marlBankRetire infoBankRetire checksMarlBankRetire (fun c s => (s.bank (byteAt c.payload 0)).state = .active) (fun c b t =>
      let n := byteAt c.payload 0
      t.bank n = { b.bank n with state := .draining, retireBy := some c }
        ∧ (∀ sp rest, b.banksIn .spare = sp :: rest → b.domainOff 2 = false → (t.bank sp).state = .active ∧ t.marl.sharedLost = b.marl.sharedLost)
        ∧ ((b.banksIn .spare = [] ∨ b.domainOff 2 = true) → t.marl.sharedLost = b.marl.sharedLost + 8192)
        ∧ b.banksIn .draining = [] ∧ t = { b with marl := t.marl })
  ∧ Begun .marlBankReadmit infoBankReadmit checksMarlBankReadmit Always (fun c b t =>
      let n := byteAt c.payload 0
      t = b.setBank n { b.bank n with readmit := some c } ∧ (b.bank n).state = .retired)
  ∧ CarriedOut .memEccCfg infoMemEccCfg checksMemEccCfg (fun _ s => s.mem.regions.length = 5) (fun _ _ _ => []) (fun c b u =>
      let p := c.payload
      let n := byteAt p 0
      let r := b.region n
      u.region n = (if byteAt p 1 = r.t then { r with fly := decide (byteAt p 2 = 1), period := le p 4 4 }
          else { r with fly := decide (byteAt p 2 = 1), period := le p 4 4, tOld := r.t, t := byteAt p 1, converting := true, convAt := 0 })
        ∧ (∀ j, j ≠ n → u.region j = b.region j) ∧ 1 ≤ byteAt p 1 ∧ byteAt p 1 ≤ 8
        ∧ u.marl = { b.marl with retireAuto := if n = 0 then bitOf (byteAt p 3) 0 else b.marl.retireAuto } ∧ u = { b with mem := u.mem, marl := u.marl })
  ∧ Begun .memSoftRepair infoMemSoftRepair checksMemSoftRepair (fun _ s => s.mem.regions.length = 5) (fun c b t =>
      let p := c.payload
      let n := byteAt p 0
      let bank := byteAt p 1
      let spare := Tab.get 0 (b.region n).used bank
      spare < 16 ∧ (t.region n).copying = (b.region n).copying ++ [(bank, le p 2 2, spare, bitOf (byteAt p 4) 0, some c)]
        ∧ Tab.get 0 (t.region n).used bank = spare + 1 ∧ (∀ j, j ≠ n → t.region j = b.region j) ∧ t = { b with mem := t.mem })
  ∧ CarriedOut .fuseProgram infoFuseProgram checksFuseProgram (fun _ s => s.mem.queued = []) (fun _ _ u => toLe 2 u.fuseBitsLeft) (fun _ b u => u = b)
  ∧ Begun .fuseProgram infoFuseProgram checksFuseProgram (fun _ s => s.mem.queued ≠ []) (fun c b t =>
      t = { b with mem := { b.mem with burning := some (c, b.mem.queued) } } ∧ 1710 ≤ c.vfuse ∧ c.vfuse ≤ 1890)
  ∧ CarriedOut .memFlipMask infoMemFlipMask checksMemFlipMask (fun _ s => s.mem.regions.length = 5) (fun _ _ _ => []) (fun c b u =>
      let n := byteAt c.payload 0
      u.region n = { b.region n with flip := (flipPositions c.payload).filter (fun x => x ≠ 0xFFFF), flipArmed := true }
        ∧ (∀ j, j ≠ n → u.region j = b.region j) ∧ u = { b with mem := u.mem })

/-- R401, R403, R405, R406, R408, R410: the memories' own events. A scrub of a page counts it and goes on to the next, and leaves a page that could be corrected without errors; a conversion re-encodes a page that can be read and goes on; a write-back makes its page good; an uncorrectable firmware page is counted and raises its alarm, and its rewrite makes it good; a copy that ends puts its repair into effect; a fuse entry that reads back is valid, and one that does not ends the burn. An event that is not due, or finds nothing to act on, has no effect (the model's choice, log entry 6). -/
def Obligations.MemoryEvents : Prop :=
  (∀ (n : Fin 5) (upset : List Nat) (s : State), s.mem.regions.length = 5 → (s.region n).period ≠ 0 →
      (∀ d, pageDomain n (s.region n).scrubAt = some d → s.domainOff d = false) → Gives (.scrubStep n upset) s fun t =>
      let page := (s.region n).scrubAt
      let got := (s.upsetPage n page upset).readPage n page
      (t.region n).scrubAt = (page + 1) % regionPages n ∧ (t.pageCtr n page).scrubPages = (s.pageCtr n page).scrubPages + 1
        ∧ (t.pageCtr n page).scrubCe = (s.pageCtr n page).scrubCe + (if got = .corrected then 1 else 0)
        ∧ (t.pageCtr n page).scrubUe = (s.pageCtr n page).scrubUe + (if got = .uncorrectable then 1 else 0)
        ∧ (got = .corrected → (t.region n).pageErrs page = []) ∧ (got = .clean → t.marl = s.marl ∧ t.silt = s.silt)
        ∧ t.ports = s.ports ∧ t.tunnels = s.tunnels)
  ∧ (∀ (n : Fin 5) (upset : List Nat) (s : State), (s.region n).period = 0 → exec (.scrubStep n upset) s = .next s)
  ∧ (∀ (n : Fin 5) (upset : List Nat) (s : State), s.mem.regions.length = 5 → (s.region n).converting = true → s.pageOff n (s.region n).convAt = false → Gives (.conversionStep n upset) s fun t =>
      let page := (s.region n).convAt
      let got := (s.upsetPage n page upset).readPage n page
      (page + 1 < regionPages n → (t.region n).convAt = page + 1 ∧ (t.region n).converting = true)
        ∧ (regionPages n ≤ page + 1 → (t.region n).converting = false ∧ (t.region n).convAt = 0 ∧ (t.region n).tOld = (s.region n).t)
        ∧ (got ≠ .uncorrectable → (t.region n).pageErrs page = [] ∧ t.pageCtr n page = s.pageCtr n page)
        ∧ (got = .uncorrectable → (t.pageCtr n page).ue = (s.pageCtr n page).ue + 1) ∧ (∀ j, j ≠ n.val → t.region j = s.region j) ∧ t = { s with mem := t.mem })
  ∧ (∀ (n : Fin 5) (page : Nat) (s : State), s.mem.regions.length = 5 → (s.region n).backs.contains page = true → s.pageOff n page = false → Gives (.writeBack n page) s fun t =>
      (t.region n).pageErrs page = [] ∧ (t.region n).backs.contains page = false ∧ (t.pageCtr n page).writeBack = (s.pageCtr n page).writeBack + 1
        ∧ (∀ k, k ≠ page → (t.region n).pageErrs k = (s.region n).pageErrs k) ∧ (∀ j, j ≠ n.val → t.region j = s.region j) ∧ t = { s with mem := t.mem })
  ∧ (∀ (core : Fin 9) (page : Fin 32768) (s : State), s.mem.regions.length = 5 → s.cluster.cores.length = 9 → (s.core core).item = none →
      Gives (.fwSramUe core page false) s fun t =>
      (t.region 2).ctr.ue = (s.region 2).ctr.ue + 1 ∧ (t.alarm 11).latch = true ∧ (t.alarm 11).object = BitVec.ofNat 32 page ∧ t.cluster.cores = s.cluster.cores)
  ∧ (∀ (core : Fin 9) (page : Fin 32768) (s : State), s.mem.regions.length = 5 → s.cluster.cores.length = 9 →
      ((s.core core).state = .active ∨ (s.core core).state = .draining) → s.loadsNew = false → (s.core core).newCode = false →
      Gives (.fwSramUe core page true) s fun t =>
      (t.region 2).ctr.ue = (s.region 2).ctr.ue + 1 ∧ (t.core core).state = .faulted ∧ (t.core core).item = none ∧ (t.core core).faults = (s.core core).faults + 1)
  ∧ (∀ (page : Fin 32768) (e : Nat × List Item) (s : State), s.mem.regions.length = 5 → s.mem.rewrites.find? (fun e => decide (e.1 = page.val)) = some e →
      Gives (.fwPageRewriteDone page true) s fun t =>
      (t.region 2).pageErrs page = [] ∧ t.mem.rewrites = Tab.erase page.val s.mem.rewrites ∧ t = { s with mem := t.mem, cluster := t.cluster })
  ∧ (∀ (page : Fin 32768) (e : Nat × List Item) (spare : Nat) (s : State), s.mem.regions.length = 5 →
      s.mem.rewrites.find? (fun e => decide (e.1 = page.val)) = some e → (s.region 2).repaired (pageBank 2 page) (pageRow 2 page) = false →
      s.freeSpare 2 (pageBank 2 page) = some spare → s.fwMayCommit = true → Gives (.fwPageRewriteDone page false) s fun t =>
      (t.region 2).copying = (s.region 2).copying ++ [(pageBank 2 page, pageRow 2 page, spare, false, none)] ∧ t.mem.rewrites = s.mem.rewrites)
  ∧ (∀ (n : Fin 5) (bank row spare : Nat) (perm : Bool) (cmd : Option Cmd) (s : State), s.mem.regions.length = 5 →
      (s.region n).copying.find? (fun x => decide (x.1 = bank) && decide (x.2.1 = row)) = some (bank, row, spare, perm, cmd) →
      Gives (.softRepairDone n bank row) s fun t =>
      (t.region n).repairs = (s.region n).repairs ++ [(bank, row, spare)] ∧ (t.pageCtr n (rowPage n bank row)).repairsSoft = (s.pageCtr n (rowPage n bank row)).repairsSoft + 1
        ∧ t.mem.queued = (if perm then s.mem.queued ++ [(n.val, bank, row, spare)] else s.mem.queued) ∧ (∀ j, j ≠ n.val → t.region j = s.region j))
  ∧ (∀ (c : Cmd) (e : Nat × Nat × Nat × Nat) (rest : List (Nat × Nat × Nat × Nat)) (good : Bool) (s : State), s.mem.burning = some (c, e :: rest) →
      Gives (.fuseBurnDone good) s fun t =>
      t.mem.fuseMap = s.mem.fuseMap ++ [fuseEntry e good]
        ∧ t.mem.burning = (if good && !rest.isEmpty then some (c, rest) else none)
        ∧ t.mem.repairsFused = s.mem.repairsFused + (if good then 1 else 0)
        ∧ t.mem.queued = (if good then s.mem.queued.filter (fun x => x ≠ e) else s.mem.queued))

/-- R154, R156 to R160, R165 to R168, R170, R173: the USB host engine at work, in a state without an endpoint that is being ended. A prefetch reads the cycle's chain of descriptors once; a pass over a root counts a bad descriptor as a schedule error and, with no work, puts the asynchronous walk to sleep; a result's cell leaves the staging buffer; a request without a result, and a transaction without a response, count one error, and the third halts the endpoint; NAK leaves the chain for a later visit, NRDY until ERDY, STALL halts the endpoint; a complete-split that answers NYET waits. An event that is not due, or finds nothing to act on, has no effect (the model's choice, log entry 6). -/
def Obligations.UsbEngineEvents : Prop :=
  (∀ (r : Fin 24) (v : HostView) (s : State), (∀ e ∈ s.xfer.eps, e.2.ending = none) → s.rootRuns r = true →
      let t0 := s.now.toNat + s.leadNs r false
      let n := (t0 + 25000) / 125000
      t0 < n * 125000 → (s.root r).prefetch.map (fun x => x.1) ≠ some n → Gives (.usbPrefetch r v) s fun t =>
      (t.root r).prefetch = some (match v.read ((s.root r).perBase + BitVec.ofNat 64 (8 * (n % 8192))) 8 with
          | none => (n, [], 1)
          | some b => (n, walkChain v 256 (BitVec.ofNat 64 (le b 0 8))))
        ∧ (∀ j, j ≠ r.val → t.root j = s.root j) ∧ t.xfer.eps = s.xfer.eps ∧ t = { s with xfer := t.xfer })
  ∧ (∀ (r : Fin 24) (usb3 : Bool) (v : HostView) (s : State), (∀ e ∈ s.xfer.eps, e.2.ending = none) → s.rootRuns r = true →
      let n := (s.now.toNat + s.leadNs r usb3) / 125000
      (if usb3 then (s.root r).formed3 else (s.root r).formed2) ≠ some n → (s.root r).prefetch.map (fun x => x.1) ≠ some n → s.asyncEpds v r = ([], false) →
      ((s.root r).autoSuspend = true → s.rootHasWork r = true) →
      Gives (.usbFormingTime r usb3 v) s fun t =>
      (if usb3 then (t.root r).formed3 else (t.root r).formed2) = some n ∧ (t.root r).asyncSleep = true ∧ (t.root r).asyncNext = (s.root r).asyncBase
        ∧ (t.root r).schedErr = (s.root r).schedErr ∧ t.xfer.eps = s.xfer.eps ∧ t = { s with xfer := t.xfer })
  ∧ (∀ (r : Fin 24) (v : HostView) (d : Epd) (s : State), (∀ e ∈ s.xfer.eps, e.2.ending = none) → s.rootRuns r = true →
      let n := (s.now.toNat + s.leadNs r false) / 125000
      (s.root r).formed2 ≠ some n → (s.root r).prefetch.map (fun x => x.1) ≠ some n → s.asyncEpds v r = ([d], false) → s.epdBad r d = true →
      Gives (.usbFormingTime r false v) s fun t =>
      (t.root r).schedErr = (s.root r).schedErr + 1 ∧ (t.root r).schedTold = some n ∧ ((s.root r).schedTold ≠ some n → (t.root r).schedCause = 0) ∧ (t.root r).asyncNext = d.next ∧ t.xfer.eps = s.xfer.eps)
  ∧ (∀ (r : Fin 24) (usb3 : Bool) (v : HostView) (s : State), (∀ e ∈ s.xfer.eps, e.2.ending = none) → s.rootRuns r = true →
      let n := (s.now.toNat + s.leadNs r usb3) / 125000
      (if usb3 then (s.root r).formed3 else (s.root r).formed2) ≠ some n → (s.root r).prefetch.map (fun x => x.1) ≠ some n → s.asyncEpds v r = ([], true) →
      Gives (.usbFormingTime r usb3 v) s fun t =>
      (t.root r).schedTold = some n ∧ ((s.root r).schedTold ≠ some n → (t.root r).schedCause = 1) ∧ (t.root r).schedErr = (s.root r).schedErr ∧ t.xfer.eps = s.xfer.eps)
  ∧ (∀ (r : Fin 24) (usb3 : Bool) (v : HostView) (s : State), (∀ e ∈ s.xfer.eps, e.2.ending = none) → s.rootRuns r = false → (s.root r).held = false →
      exec (.usbPrefetch r v) s = .next s ∧ exec (.usbFormingTime r usb3 v) s = .next s)
  ∧ (∀ (c : Cell) (s : State), (Tab.get [] s.marl.staging agentXfer).find? (fun c => decide (c.cls = 2)) = some c → Gives .usb2ResultReceived s fun t =>
      Tab.get [] t.marl.staging agentXfer = eraseFirst (fun c => decide (c.cls = 2)) (Tab.get [] s.marl.staging agentXfer))
  ∧ (∀ (s : State), (Tab.get [] s.marl.staging agentXfer).find? (fun c => decide (c.cls = 2)) = none → exec .usb2ResultReceived s = .next s)
  ∧ (∀ (r : Fin 24) (xid : BitVec 16) (q : UsbReq) (e : Nat) (s : State), (s.root r).outst.find? (fun q => decide (q.xid = xid)) = some q → q.ep = some e →
      (q.cycle + 2) * 125000 + (s.port (r.val - 12)).oneWay + 10000 ≤ s.now.toNat → Gives (.usb2ResultMissing r xid) s fun t =>
      ((s.ep e).errors < 2 → t.ep e = { s.ep e with errors := (s.ep e).errors + 1, busy := false, left := 0 } ∧ (∀ j, j ≠ e → t.ep j = s.ep j)
          ∧ (t.root r).outst = (s.root r).outst.filter (fun q => q.xid ≠ xid) ∧ t = { s with xfer := t.xfer })
        ∧ (2 ≤ (s.ep e).errors → (t.ep e).state = .halted ∧ (t.ep e).busy = false))
  ∧ (∀ (r : Fin 24) (xid : BitVec 16) (q : UsbReq) (s : State), (s.root r).outst.find? (fun q => decide (q.xid = xid)) = some q →
      s.now.toNat < (q.cycle + 2) * 125000 + (s.port (r.val - 12)).oneWay + 10000 → exec (.usb2ResultMissing r xid) s = .next s)
  ∧ (∀ (e : Fin 4096) (res : Fin 9) (dpid : Fin 4) (data : List Byte) (v : HostView) (r : Nat) (s : State), (s.ep e).chain.isSome = true → (s.ep e).busy = true →
      s.epRoot (s.ep e) = some r → r < 12 → (s.root r).outst.any (fun q => q.ep = some e.val) = false → s.xfer.splits = [] → Gives (.nativeTransactionEnd e res dpid data v) s fun t =>
      (res.val = 1 → t.ep e = { s.ep e with
              busy := false, errors := 0, left := 0, chain := (s.ep e).chain.map fun c => { c with cycle := some s.cycle32 }
              nrdy := s.isSs (s.ep e) && decide ((s.ep e).typ ≠ 1) } ∧ (∀ j, j ≠ e.val → t.ep j = s.ep j) ∧ t = { s with xfer := t.xfer })
        ∧ (res.val = 2 ∨ res.val = 6 → (t.ep e).state = .halted ∧ (t.ep e).busy = false)
        ∧ (res.val = 5 → (s.ep e).errors < 2 → (t.ep e).errors = (s.ep e).errors + 1 ∧ (t.ep e).busy = false
            ∧ (t.ep e).chain = (s.ep e).chain.map fun c => { c with cycle := some s.cycle32 })
        ∧ (res.val = 5 → 2 ≤ (s.ep e).errors → (t.ep e).state = .halted))
  ∧ (∀ (e : Fin 4096) (dpid : Fin 4) (data : List Byte) (v : HostView) (s : State), (s.ep e).chain.isSome = true → (s.ep e).busy = false → (s.ep e).nrdy = true →
      Gives (.nativeTransactionEnd e 0 dpid data v) s fun t =>
      t.ep e = { s.ep e with nrdy := false } ∧ (∀ j, j ≠ e.val → t.ep j = s.ep j) ∧ t = { s with xfer := t.xfer })
  ∧ (∀ (e : Fin 4096) (res : Fin 9) (dpid : Fin 4) (data : List Byte) (v : HostView) (r : Nat) (s : State), (s.ep e).busy = true →
      s.epRoot (s.ep e) = some r → 12 ≤ r → (res.val ≠ 5 ∨ s.isSs (s.ep e) = false) → exec (.nativeTransactionEnd e res dpid data v) s = .next s)
  ∧ (∀ (e : Fin 4096) (res : Fin 9) (dpid : Fin 4) (data : List Byte) (v : HostView) (x : Nat × Nat) (s : State),
      s.xfer.splits.find? (fun x => decide (x.1 = e.val)) = some x → (s.ep e).chain.isSome = true → ((s.ep e).typ = 0 ∨ (s.ep e).typ = 2) →
      Gives (.completeSplitDue e res dpid data v) s fun t =>
      (res.val = 3 → t = s)
        ∧ (res.val = 5 ∨ res.val = 8 → (s.ep e).splitErrs < 2 → (t.ep e).splitErrs = (s.ep e).splitErrs + 1 ∧ (t.ep e).busy = false
            ∧ t.xfer.splits = s.xfer.splits.filter (fun y => decide (y.1 ≠ e.val)) ∧ t = { s with xfer := t.xfer })
        ∧ (res.val = 5 ∨ res.val = 8 → 2 ≤ (s.ep e).splitErrs → (t.ep e).state = .halted)
        ∧ (res.val = 1 → (t.ep e).splitErrs = 0 ∧ (t.ep e).errors = 0 ∧ (t.ep e).left = 0 ∧ t.xfer.splits = s.xfer.splits.filter (fun y => decide (y.1 ≠ e.val))))

/-- R172, R177, R178, R180, R181: the states of a USB root. A connection on a native root takes DISCONNECTED to CONNECTED at its speed, and a disconnect back; a reset and a resume whose time has run end in ENABLED, or go on to suspend where a SUSPEND waited; 3 ms of idle suspend; a remote wake begins a resume of a suspended root and is lost in a reset; a SuperSpeed link idle for U1 or U2, or asked by its device, enters it, and activity leaves it; a PING without a crossing credit is held. An event that is not due, or finds nothing to act on, has no effect (the model's choice, log entry 6). -/
def Obligations.UsbRootEvents : Prop :=
  (∀ (r : Fin 24) (speed : Fin 7) (s : State), r.val < 12 → (s.root r).state = .disconnected → (s.port r.val).pd.rootSpeedOk speed.val = true → Gives (.rootConnect r speed) s fun t =>
      t.root r = { s.root r with state := .connected, speed := speed } ∧ (∀ j, j ≠ r.val → t.root j = s.root j))
  ∧ (∀ (r : Fin 24) (speed : Fin 7) (s : State), (12 ≤ r.val ∨ (s.root r).state ≠ .disconnected ∨ (s.port r.val).pd.rootSpeedOk speed.val = false) →
      exec (.rootConnect r speed) s = .next s)
  ∧ (∀ (r : Fin 24) (s : State), r.val < 12 → (s.root r).state ≠ .poweredOff → (s.root r).state ≠ .disconnected → Gives (.rootDisconnect r) s fun t =>
      (t.root r).state = .disconnected ∧ (t.root r).outst = [] ∧ (t.root r).resetCmd = none ∧ (t.root r).suspendWait = none ∧ (t.root r).resumeCmd = none)
  ∧ (∀ (r : Fin 24) (speed : Fin 7) (s : State), (s.root r).state = .resetting → s.due (s.root r).due = true →
      (12 ≤ r.val ∨ (s.port r.val).pd.rootSpeedOk speed.val = true) → Gives (.rootResetEnd r speed) s fun t =>
      (t.root r).state = (if (s.root r).suspendWait.isSome then .suspending else .enabled) ∧ (t.root r).speed = speed ∧ (t.root r).resetCmd = none
        ∧ (∀ j, j ≠ r.val → t.root j = s.root j) ∧ t.xfer.eps = s.xfer.eps)
  ∧ (∀ (r : Fin 24) (s : State), (s.root r).state = .suspending → s.due (s.root r).due = true → Gives (.rootSuspendIdle r) s fun t =>
      t.root r = { s.root r with state := .suspended, due := none, uState := 3 } ∧ (∀ j, j ≠ r.val → t.root j = s.root j))
  ∧ (∀ (i : Fin 24 → Instr) (r : Fin 24) (s : State), (i = .rootResumeEnd ∧ r.val < 12 ∨ i = .tunRootResumeWaitEnd ∧ 12 ≤ r.val) →
      (s.root r).state = .resuming → s.due (s.root r).due = true → Gives (i r) s fun t =>
      (t.root r).state = (if (s.root r).suspendWait.isSome then .suspending else .enabled) ∧ (t.root r).pingWait = false ∧ (t.root r).uState = 0
        ∧ (t.root r).resumeCmd = none ∧ (∀ j, j ≠ r.val → t.root j = s.root j) ∧ t.xfer.eps = s.xfer.eps)
  ∧ (∀ (r : Fin 24) (n : Fin 16) (s : State), (s.root r).state = .suspended → Gives (.remoteWake r n) s fun t =>
      (t.root r).state = .resuming ∧ (t.root r).wakeFrom = true ∧ (t.root r).pingWait = decide (12 ≤ r.val)
        ∧ (r.val < 12 ∨ Tab.get 0 s.marl.crossing (agentXfer * 8 + 2) ≠ 0 → (t.root r).due = some (s.after 30000000))
        ∧ (12 ≤ r.val → Tab.get 0 s.marl.crossing (agentXfer * 8 + 2) = 0 → (t.root r).due = none ∧ (t.root r).pingHeld = true ∧ (t.root r).outst = (s.root r).outst))
  ∧ (∀ (r : Fin 24) (n : Fin 16) (s : State), (s.root r).state = .resetting → Gives (.remoteWake r n) s fun t =>
      t.root r = { s.root r with wakeLost := true } ∧ t = { s with xfer := t.xfer })
  ∧ (∀ (r : Fin 24) (n : Fin 16) (s : State), r.val < 12 → (s.root r).state ≠ .suspended → (s.root r).state ≠ .resetting →
      exec (.remoteWake r n) s = .next s)
  ∧ (∀ (r : Fin 24) (cause : U1u2Cause) (s : State), r.val < 12 → (s.root r).state = .enabled → 3 ≤ (s.root r).speed → Gives (.u1u2Timeout r cause) s fun t =>
      t.root r = { s.root r with uState := if cause = .activity then 0 else if cause ≠ .timeout then max (s.root r).uState cause.asked else if (s.root r).uState = 0 ∧ (s.root r).u1 ≠ 0 then 1
                                           else if (s.root r).uState < 2 ∧ (s.root r).u2 ≠ 0 then 2 else (s.root r).uState }
        ∧ (∀ j, j ≠ r.val → t.root j = s.root j) ∧ t = { s with xfer := t.xfer })

/-- R253, R302, R318, R330 to R338: the host ports. A loss, and a reset of a function, make every slice of the port HOST_LOST under its next generation and reset the configuration space, the link staying with the reset; the return brings the link up at the rate and width trained, slice 0 ACTIVE and every other slice that was lost DISABLED; a rate change and a power state set what they name; a read's data is kept for its slice unless that is lost; a read that times out is a bus error of its channel or halts its endpoint. An event that is not due, or finds nothing to act on, has no effect (the model's choice, log entry 6). -/
def Obligations.HostPortEvents : Prop :=
  (∀ (h : Fin 2) (s : State), ((s.hp h).lost = true ∨ s.boot.released = false) → Gives (.hostPortLoss h) s fun t =>
      t = s.setHp h { s.hp h with linkUp := false })
  ∧ (∀ (i : Fin 2 → Instr) (h : Fin 2) (s : State), i = .hostPortLoss ∨ i = .functionLevelReset → (s.hp h).lost = false → s.boot.released = true →
      s.sliceWf = true → (∀ sl ∈ s.liveSlices h, (s.slice h sl).waitCmds = []) → Gives (i h) s fun t =>
      (t.hp h).lost = true ∧ ((t.hp h).linkUp = true ↔ i = .functionLevelReset) ∧ (t.hp h).power = .d0 ∧ (t.hp h).bme = false ∧ (t.hp h).msix = []
        ∧ (t.hp h).reads = [] ∧ (t.hp (1 - h)).linkUp = (s.hp (1 - h)).linkUp ∧ (t.alarm 7).latch = true
        ∧ (∀ sl : Fin 256, (s.slice h sl).state ≠ .disabled → (s.slice h sl).state ≠ .hostLost →
            (t.slice h sl).state = .hostLost ∧ (t.slice h sl).gen = (s.slice h sl).gen + 1 ∧ (t.slice h sl).inFlight = []))
  ∧ (∀ (h : Fin 2) (s : State), ((s.hp h).lost = true ∨ s.boot.released = false) → Gives (.functionLevelReset h) s fun t => t = { s with cluster := t.cluster, power := t.power })
  ∧ (∀ (h : Fin 2) (rate : Fin 5) (width : Fin 4) (s : State), Gives (.hostPortReturn h rate width) s fun t =>
      (t.hp h).linkUp = true ∧ (t.hp h).lost = false ∧ (t.hp h).rate = linkRates.getD rate 320 ∧ (t.hp h).width = linkWidths.getD width 8
        ∧ ((s.hp h).lost = true → (t.slice h 0).state = .active
            ∧ ∀ sl : Fin 256, sl ≠ 0 → (s.slice h sl).state = .hostLost → (t.slice h sl).state = .disabled)
        ∧ ((s.hp h).lost = false → t.hosts.slices = s.hosts.slices))
  ∧ (∀ (h : Fin 2) (rate : Fin 5) (width : Fin 4) (s : State), (s.hp h).linkUp = true → Gives (.hostLinkRateChange h rate width) s fun t =>
      (t.hp h).rate = linkRates.getD rate 320 ∧ (t.hp h).width = linkWidths.getD width 8 ∧ (t.hp h).linkUp = true ∧ t.hosts.slices = s.hosts.slices)
  ∧ (∀ (h : Fin 2) (rate : Fin 5) (width : Fin 4) (s : State), (s.hp h).linkUp = false → exec (.hostLinkRateChange h rate width) s = .next s)
  ∧ (∀ (h : Fin 2) (power : Fin 3) (bme pmeEn ptmEn : Bool) (bar0 : Option (BitVec 64)) (cto : Nat) (s : State), (s.hp h).lost = false →
      Tab.get [] s.marl.staging (agentHp h) = [] → Gives (.hostPowerStateChange h power bme pmeEn ptmEn bar0 cto) s fun t =>
      (t.hp h).power = (if power.val = 0 then .d0 else if power.val = 1 then .d3hot else .l23) ∧ (t.hp h).bme = bme ∧ (t.hp h).pmeEn = pmeEn
        ∧ (t.hp h).ptmEn = ptmEn ∧ (t.hp h).ctoMs = (if 16 ≤ cto ∧ cto ≤ 210 then cto else (s.hp h).ctoMs)
        ∧ (power.val = 0 → (t.hp h).owedVecs = []) ∧ t.hosts.slices = s.hosts.slices
        ∧ t = { s with hosts := t.hosts, out := t.out, marl := t.marl, power := t.power })
  ∧ (∀ (h : Fin 2) (sl : Fin 256) (addr : BitVec 64) (b : List Byte) (s : State), (s.slice h sl).state ≠ .hostLost → (s.slice h sl).state ≠ .disabled →
      (s.hp h).lost = false → (s.hp h).reads.length < 256 → Gives (.hostReadCompletion h sl addr b) s fun t =>
      t = s.setHp h { s.hp h with reads := (s.hp h).reads ++ [{ sl := sl, addr := addr, bytes := b }] })
  ∧ (∀ (h : Fin 2) (sl : Fin 256) (addr : BitVec 64) (b : List Byte) (s : State), ((s.slice h sl).state = .hostLost ∨ (s.slice h sl).state = .disabled ∨ (s.hp h).lost = true) →
      exec (.hostReadCompletion h sl addr b) s = .next s)
  ∧ (∀ (n : Fin 64) (program : Bool) (addr : BitVec 64) (s : State), s.chRuns n = true → Gives (.hostReadTimeout (.dma n program addr)) s fun t =>
      ((s.ch n).retryN < (s.ch n).retries → t.ch n = { s.ch n with
            wait := .retry, retryN := (s.ch n).retryN + 1, retryCnt := (s.ch n).retryCnt + 1, haltAddr := addr
            retryDue := some (s.after (1000 * 2 ^ (s.ch n).retryN)) } ∧ (∀ j, j ≠ n.val → t.ch j = s.ch j) ∧ t = { s with xfer := t.xfer })
        ∧ ((s.ch n).retries ≤ (s.ch n).retryN → (t.ch n).state = .halted ∧ (t.ch n).haltAddr = addr ∧ (t.ch n).haltCause = if program then 0x12 else 0x10))
  ∧ (∀ (e : Fin 4096) (s : State), (s.ep e).chain.isSome = true → Gives (.hostReadTimeout (.usb e)) s fun t => (t.ep e).state = .halted)
  ∧ (∀ (e : Fin 4096) (s : State), (s.ep e).chain = none → exec (.hostReadTimeout (.usb e)) s = .next s)

/-- R282 to R290, R296 to R302: the DMA engine at work. An idle channel with a whole chain at its consumer index takes a holding slot and starts the first entry, and the next entry follows an END; MOVE copies in turns of up to 4 KiB while the turn is its channel's, LOOP opens a loop, SETUP sets the conversion and resets the check, WAIT consumes triggers or waits, SIGNAL posts its entry or delivers the channel's trigger, END ends the job or the chain; a malformed instruction stops the channel in ERROR and a poisoned read halts it; a timer triggers its channels; a WAIT whose time passed halts; a retry makes its access again; a block lands. An event that is not due, or finds nothing to act on, has no effect (the model's choice, log entry 6). Where the buffer holds bytes in flight, and how a failed read reaches the row, and how turns follow each other, are the model's choice (log entries 30, 138 and 163). -/
def Obligations.DmaEngineEvents : Prop :=
  (∀ (n : Fin 64) (v : HostView) (h sl : Nat) (j : Job) (js : List Job) (s : State), s.chRuns n = true → (s.ch n).wait ≠ .retry → (s.ch n).owner = some (h, sl) →
      (s.ch n).jobOn = false → (s.ch n).chain = [] → s.slotFree h sl (s.ch n).cq = true → (s.slice h sl).state = .active → (s.hp h).writable = true →
      (s.ch n).readChain (s.dmaView n v) 32 [] = .chain (j :: js) → j.ok (s.ch n).progDev = true → (∀ k, k < 4 → j.spaces.getD k 3 ≠ 2) →
      Gives (.dmaJobStart n v) s fun t =>
      t.ch n = { s.ch n with
          chain := j :: js, chainFirst := (s.ch n).cons, chainTag := ((j :: js).getLastD {}).tag, chainIrq := ((j :: js).getLastD {}).irq
          chainGen := (s.slice h sl).gen, jobBytes := 0, retryN := 0, retryDue := none, wait := .none, regs := j.regs, spaces := j.spaces, pc := 0
          loops := [], move := none, setup := {}, acc := 0, odd := none, jobOn := true }
        ∧ (t.qp h sl (s.ch n).cq).slots = (s.qp h sl (s.ch n).cq).slots + 1 ∧ (∀ k, k ≠ n.val → t.ch k = s.ch k))
  ∧ (∀ (n : Fin 64) (v : HostView) (h sl : Nat) (j : Job) (js : List Job) (s : State), s.chRuns n = true → (s.ch n).wait ≠ .retry → (s.ch n).owner = some (h, sl) →
      (s.ch n).jobOn = false → (s.ch n).chain = j :: js → j.ok (s.ch n).progDev = true → (∀ k, k < 4 → j.spaces.getD k 3 ≠ 2) → Gives (.dmaJobStart n v) s fun t =>
      t = s.setCh n { s.ch n with regs := j.regs, spaces := j.spaces, pc := 0, loops := [], move := none, setup := {}, acc := 0, odd := none, jobOn := true })
  ∧ (∀ (n : Fin 64) (v : HostView) (o : Nat × Nat) (j : Job) (js : List Job) (s : State), s.chRuns n = true → (s.ch n).wait ≠ .retry → (s.ch n).owner = some o →
      (s.ch n).jobOn = false → (s.ch n).chain = j :: js → j.ok (s.ch n).progDev = false → Gives (.dmaJobStart n v) s fun t =>
      (t.ch n).state = .error ∧ (t.ch n).haltCause = 0x20 ∧ (t.ch n).chain = [])
  ∧ (∀ (n : Fin 64) (v : HostView) (b : List Byte) (h sl : Nat) (s : State), s.runsInstr n v b → byteAt b 0 = 1 → moveOk (s.ch n).setup b = true → (s.ch n).loops = [] →
      bitOf (byteAt b 1) 6 = true → (s.ch n).owner = some (h, sl) → (s.hp h).writable = true →
      (s.ch n).spaces.getD (bits (byteAt b 1) 3 2) 3 = 0 →
      let x := s.ch n
      let sr := bits (byteAt b 1) 1 0
      let dr := bits (byteAt b 1) 3 2
      let src := x.regs.getD sr 0 + offAt b 8
      let dst := x.regs.getD dr 0 + offAt b 12
      let count := le b 4 4
      s.dmaTurnOf n = true → count ≤ 4096 → s.addrOk dst = true → s.addrOk (dst + BitVec.ofNat 64 (count - 1)) = true →
      (x.spaces.getD sr 3 = 3 → Gives (.dmaMove n v 0) s fun t =>
        Out.hostWrite h sl dst (List.replicate count 0) ∈ t.out
          ∧ t.ch n = Ch.onward { x with
              jobBytes := x.jobBytes + count, bytesWritten := x.bytesWritten + BitVec.ofNat 64 count
              regs := (if bitOf (byteAt b 1) 5 then
                  (if bitOf (byteAt b 1) 4 then x.regs.modify sr (· + (offAt b 8 + BitVec.ofNat 64 count)) else x.regs).modify dr (· + (offAt b 12 + BitVec.ofNat 64 count))
                else if bitOf (byteAt b 1) 4 then x.regs.modify sr (· + (offAt b 8 + BitVec.ofNat 64 count)) else x.regs) }
          ∧ (∀ k, k ≠ n.val → t.ch k = s.ch k))
        ∧ (∀ data, x.spaces.getD sr 3 = 0 → s.chUp n = true → readHost (s.dmaView n v) (count / 512 + 1) src count = .ok data → ((s.fetched n).inFlight n data).2 = false → Gives (.dmaMove n v 0) s fun t =>
        Out.hostWrite h sl dst data ∈ t.out ∧ (t.ch n).pc = x.pc + 1 ∧ (t.ch n).jobBytes = x.jobBytes + count
          ∧ (t.ch n).bytesRead = x.bytesRead + BitVec.ofNat 64 count ∧ (t.ch n).bytesWritten = x.bytesWritten + BitVec.ofNat 64 count
          ∧ (t.ch n).acc = x.acc ∧ (∀ k, k ≠ n.val → t.ch k = s.ch k)))
  ∧ (∀ (n : Fin 64) (v : HostView) (b : List Byte) (h sl k : Nat) (s : State), byteAt b 0 = 1 → moveOk (s.ch n).setup b = true → bitOf (byteAt b 1) 6 = true →
      (s.ch n).owner = some (h, sl) → (s.hp h).writable = true → (s.ch n).spaces.getD (bits (byteAt b 1) 3 2) 3 = 0 → (s.ch n).spaces.getD (bits (byteAt b 1) 1 0) 3 = 3 →
      let dst := (s.ch n).regs.getD (bits (byteAt b 1) 3 2) 0 + offAt b 12
      let count := le b 4 4
      s.dmaTurnOf n = true →
      (s.runsInstr n v b → 4096 < count → s.dmaAlone n = false → s.addrOk dst = true → s.addrOk (dst + 4095) = true → Gives (.dmaMove n v 0) s fun t =>
        Out.hostWrite h sl dst (List.replicate 4096 0) ∈ t.out ∧ (t.ch n).move = some (b, 4096) ∧ (t.ch n).pc = (s.ch n).pc ∧ (t.ch n).regs = (s.ch n).regs
          ∧ (t.ch n).jobBytes = (s.ch n).jobBytes + 4096 ∧ t.xfer.dmaTurn = n.val ∧ (∀ j, j ≠ n.val → t.ch j = s.ch j))
        ∧ (s.chRuns n = true → (s.ch n).wait ≠ .retry → (s.ch n).jobOn = true → (s.ch n).pc < ((s.ch n).chain.headD {}).len → (s.ch n).move = some (b, k) →
            (s.ch n).loops = [] → k < count → count ≤ k + 4096 → s.addrOk (dst + BitVec.ofNat 64 k) = true →
            s.addrOk (dst + BitVec.ofNat 64 k + BitVec.ofNat 64 (count - k - 1)) = true → Gives (.dmaMove n v 0) s fun t =>
            Out.hostWrite h sl (dst + BitVec.ofNat 64 k) (List.replicate (count - k) 0) ∈ t.out ∧ (t.ch n).move = none ∧ (t.ch n).pc = (s.ch n).pc + 1
              ∧ (t.ch n).jobBytes = (s.ch n).jobBytes + (count - k) ∧ t.xfer.dmaTurn = n.val ∧ (∀ j, j ≠ n.val → t.ch j = s.ch j)))
  ∧ (∀ (n : Fin 64) (v : HostView) (b : List Byte) (s : State), s.runsInstr n v b → byteAt b 0 = 1 → moveOk (s.ch n).setup b = true → bitOf (byteAt b 1) 6 = true →
      (s.ch n).spaces.getD (bits (byteAt b 1) 1 0) 3 = 3 → (s.ch n).spaces.getD (bits (byteAt b 1) 3 2) 3 ≠ 1 → s.dmaTurnOf n = false →
      exec (.dmaMove n v 0) s = .next (s.fetched n))
  ∧ (∀ (n : Fin 64) (v : HostView) (b : List Byte) (s : State), s.runsInstr n v b → byteAt b 0 = 2 → 1 ≤ byteAt b 1 → byteAt b 2 < 16 → byteAt b 3 = 0 → le b 12 4 = 0 →
      (s.ch n).loops = [] → (s.ch n).pc + 1 + byteAt b 1 ≤ ((s.ch n).chain.headD {}).len → Gives (.dmaLoop n v 0) s fun t =>
      t.ch n = Ch.onward { s.ch n with loops := [((s.ch n).pc + 1, byteAt b 1, le b 4 4, byteAt b 2, BitVec.ofNat 32 (le b 8 4))] }
        ∧ (∀ k, k ≠ n.val → t.ch k = s.ch k) ∧ t = { s with xfer := t.xfer, mem := t.mem })
  ∧ (∀ (n : Fin 64) (v : HostView) (b : List Byte) (s : State), s.runsInstr n v b → byteAt b 0 = 3 → 1 ≤ byteAt b 1 → le b 2 2 = 0 → le b 8 8 = 0 →
      (s.ch n).loops = [] → (s.ch n).trigKind ≠ 2 → Gives (.dmaWait n v 0) s fun t =>
      (byteAt b 1 ≤ (s.ch n).pending → t.ch n = Ch.onward { s.ch n with pending := (s.ch n).pending - byteAt b 1 })
        ∧ ((s.ch n).pending < byteAt b 1 → (s.ch n).wait ≠ .trigger → t.ch n = { s.ch n with
              current := none, wait := .trigger, waitN := byteAt b 1, waitDue := if le b 4 4 = 0 then none else some (s.after (1000 * le b 4 4)) })
        ∧ (∀ k, k ≠ n.val → t.ch k = s.ch k) ∧ t = { s with xfer := t.xfer, mem := t.mem })
  ∧ (∀ (n : Fin 64) (v : HostView) (b : List Byte) (s : State), s.runsInstr n v b → byteAt b 0 = 4 → byteAt b 1 = 8 → byteAt b 4 < 4 → le b 5 3 = 0 → le b 8 8 = 0 →
      (s.ch n).loops = [] → Gives (.dmaSignal n v 0) s fun t =>
      (t.ch n).pc = (s.ch n).pc + 1 ∧ (∀ k, k ≠ n.val → t.ch k = if (s.ch k).configured = true ∧ (s.ch k).state ≠ .free ∧ (s.ch k).trigKind = 1 ∧ (s.ch k).trigNum = n.val
          ∧ (s.ch k).owner = (s.ch n).owner then (s.ch k).trigger else s.ch k) ∧ t = { s with xfer := t.xfer, mem := t.mem })
  ∧ (∀ (n : Fin 64) (v : HostView) (b : List Byte) (h sl : Nat) (s : State), s.runsInstr n v b → byteAt b 0 = 4 → (byteAt b 1 = 1 ∨ byteAt b 1 = 2 ∨ byteAt b 1 = 4) →
      byteAt b 4 < 4 → le b 5 3 = 0 → le b 8 8 = 0 → (s.ch n).loops = [] → (s.ch n).owner = some (h, sl) → Gives (.dmaSignal n v 0) s fun t =>
      (s.dmaSlots n = 0 → t.ch n = { s.ch n with wait := .slot } ∧ t.hosts = s.hosts)
        ∧ (s.dmaSlots n ≠ 0 → t.ch n = (s.ch n).onward ∧ ((s.ch n).chainGen = (s.slice h sl).gen → ∃ e,
            (t.qp h sl (s.ch n).cq).held = (s.qp h sl (s.ch n).cq).held ++ [e] ∧ e.kind = 2 ∧ e.irq = decide (byteAt b 1 ≠ 4) ∧ e.tag = ((s.ch n).chain.headD {}).tag
              ∧ e.result = (s.ch n).result n 1 (le b 2 2) (if byteAt b 1 = 4 then 3 else byteAt b 1) 0 s.now)))
  ∧ (∀ (n : Fin 64) (v : HostView) (b : List Byte) (s : State), s.runsInstr n v b → byteAt b 0 = 5 → setupOk b = true → (s.ch n).loops = [] → Gives (.dmaSetup n v 0) s fun t =>
      t.ch n = Ch.onward { s.ch n with setup := parseSetup b, acc := checkStart (parseSetup b).check, odd := none }
        ∧ (∀ k, k ≠ n.val → t.ch k = s.ch k) ∧ t = { s with xfer := t.xfer, mem := t.mem })
  ∧ (∀ (n : Fin 64) (v : HostView) (b : List Byte) (j : Job) (js : List Job) (s : State), s.runsInstr n v b → byteAt b 0 = 6 → byteAt b 1 < 8 → le b 2 8 = 0 → le b 10 6 = 0 →
      ((s.ch n).setup.check = 0 ∨ bitOf (byteAt b 1) 2 = false) → (s.ch n).chain = j :: js → Gives (.dmaEnd n v 0) s fun t =>
      (t.ch n).jobs = (s.ch n).jobs + 1 ∧ (t.ch n).cons = ((s.ch n).cons + 1) % (s.ch n).span ∧ (t.ch n).jobOn = false ∧ (t.ch n).chain = js
        ∧ (js ≠ [] → t.hosts = s.hosts)
        ∧ (js = [] → ∀ h sl, (s.ch n).owner = some (h, sl) → (s.ch n).chainGen = (s.slice h sl).gen → ∃ e,
            (t.qp h sl (s.ch n).cq).held = (s.qp h sl (s.ch n).cq).held ++ [e] ∧ (t.qp h sl (s.ch n).cq).slots = (s.qp h sl (s.ch n).cq).slots - 1
              ∧ e.status = .ok ∧ e.tag = (s.ch n).chainTag ∧ e.kind = 2 ∧ e.irq = (s.ch n).chainIrq))
  ∧ (∀ (i : Fin 64 → HostView → Fin 3 → Instr) (n : Fin 64) (v : HostView) (b : List Byte) (s : State),
      i = .dmaMove ∨ i = .dmaLoop ∨ i = .dmaWait ∨ i = .dmaSignal ∨ i = .dmaSetup ∨ i = .dmaEnd → s.runsInstr n v b → (byteAt b 0 = 0 ∨ 7 ≤ byteAt b 0) →
      (s.ch n).chain ≠ [] → Gives (i n v 0) s fun t =>
      (t.ch n).state = .error ∧ (t.ch n).haltCause = 0x21 ∧ (t.ch n).pc = (s.ch n).pc ∧ (t.ch n).chain = [] ∧ (t.ch n).regs = (s.ch n).regs)
  ∧ (∀ (i : Fin 64 → HostView → Fin 3 → Instr) (n : Fin 64) (v : HostView) (s : State),
      i = .dmaMove ∨ i = .dmaLoop ∨ i = .dmaWait ∨ i = .dmaSignal ∨ i = .dmaSetup ∨ i = .dmaEnd → s.chRuns n = true → (s.ch n).jobOn = true → (s.ch n).wait = .retry →
      exec (i n v 0) s = .next s ∧ Gives (i n v 1) s fun t => (t.ch n).state = .halted ∧ (t.ch n).haltCause = 0x13 ∧ (t.ch n).haltAddr = (s.ch n).haltAddr)
  ∧ (∀ (k : Fin 16) (s : State), let m := Tab.get {} s.xfer.timers k.val
      (m.enabled = true → m.next.toNat ≤ s.now.toNat → Gives (.dmaTimerExpiry k) s fun t =>
        Tab.get {} t.xfer.timers k.val = { m with next := m.next + BitVec.ofNat 64 m.period }
          ∧ (∀ n, t.ch n = if s.domainOff 8 = false ∧ (s.ch n).configured = true ∧ (s.ch n).state ≠ .free ∧ (s.ch n).trigKind = 0 ∧ (s.ch n).trigNum = k.val then (s.ch n).trigger else s.ch n)
          ∧ (s.power.wakeMask.getLsbD 16 = true → s.power.phase = .steady → s.power.sleep ≠ 0 → t.power.phase = .exiting ∧ t.power.lastWake = 16)
          ∧ t = { s with xfer := t.xfer, power := t.power })
        ∧ (m.enabled = false ∨ s.now.toNat < m.next.toNat → exec (.dmaTimerExpiry k) s = .next s))
  ∧ (∀ (n : Fin 64) (s : State), s.chRuns n = true → (s.ch n).wait = .trigger → s.due (s.ch n).waitDue = true → Gives (.dmaWaitTimeout n) s fun t =>
      (t.ch n).state = .halted ∧ (t.ch n).haltCause = 0x15 ∧ (t.ch n).wait = .none ∧ (t.ch n).pc = (s.ch n).pc)
  ∧ (∀ (n : Fin 64) (v : HostView) (s : State), s.chRuns n = true → (s.ch n).wait = .retry → s.due (s.ch n).retryDue = true → (s.ch n).jobOn = true →
      (s.ch n).pc < ((s.ch n).chain.headD {}).len → (s.ch n).progDev = false → (s.ch n).move = none → s.chUp n = true → s.dmaInstr n (s.dmaView n v) = none → (s.ch n).retryN < (s.ch n).retries →
      Gives (.dmaRetryExpiry n v 0) s fun t =>
      t.ch n = { s.ch n with wait := .retry, retryN := (s.ch n).retryN + 1, retryCnt := (s.ch n).retryCnt + 1
                             haltAddr := ((s.ch n).chain.headD {}).prog + BitVec.ofNat 64 (16 * (s.ch n).pc), retryDue := some (s.after (1000 * 2 ^ (s.ch n).retryN)) }
        ∧ (∀ k, k ≠ n.val → t.ch k = s.ch k) ∧ t = { s with xfer := t.xfer })
  ∧ (∀ (n : Fin 64) (v : HostView) (b : List Byte) (s : State), s.chRuns n = true → (s.ch n).wait = .retry → s.due (s.ch n).retryDue = true →
      let u := s.setCh n { s.ch n with retryDue := none, wait := .none }
      u.runsInstr n v b → byteAt b 0 = 1 → exec (.dmaRetryExpiry n v 0) s = exec (.dmaMove n v 0) u)
  ∧ (∀ (n : Fin 64) (v : HostView) (f : Fin 3) (s : State), ((s.ch n).wait ≠ .retry ∨ s.due (s.ch n).retryDue = false) → exec (.dmaRetryExpiry n v f) s = .next s)
  ∧ (∀ (n : Fin 64) (c : Cell) (s : State),
      (Tab.get [] s.marl.staging agentXfer).find? (fun c => decide (c.cls = 1) && decide (s.lineCh (s.lineOf c.flow) = some n.val)) = some c →
      Gives (.blockLanded n) s fun t =>
      let b := (s.ch n).landing ++ c.payload
      t.ch n = { s.ch n with landed := (s.ch n).landed ++ [(b, blockShort b, (s.ch n).landPois || c.poison)], landing := [], landPois := false
                             pending := (s.ch n).landed.length + 1 }
        ∧ (∀ k, k ≠ n.val → t.ch k = s.ch k) ∧ t = { s with xfer := t.xfer, marl := t.marl })

/-- R358 to R370: Shallot and the event controller. An assertion of an enabled idle source makes it PENDING and puts its item in the ready list of its priority; the highest list with an item to take gives the first it can of its window to a slot that may take it; an interrupt goes to the eligible core of lowest running priority, only above that; a claim returns OCCUR and clears it, neither being taken while the cores are stopped; a completion makes the source IDLE, or PENDING again; a claim of 10 ms is reported once; direct items and delay lists take items up to their stores; a tick moves due items, at most 16 a list, and in a sleep state wakes the AX1224; a cancel removes the item it names. An event that is not due, or finds nothing to act on, has no effect (the model's choice, log entry 6). -/
def Obligations.SchedulerAndEventController : Prop :=
  (∀ (n : Fin 512) (s : State), (s.src n).level = false → s.cluster.saved = false → (s.src n).state = .idle → Gives (.evcSourceAssert n true) s fun t =>
      t.src n = { s.src n with state := if (s.src n).enable then .pending else .idle, occur := satAdd 16 (s.src n).occur 1 }
        ∧ ((s.src n).enable = true → (s.src n).irq = false → (t.readyList (s.src n).prio).items = (s.readyList (s.src n).prio).items ++
            [{ cls := (s.src n).cls, prio := (s.src n).prio, affinity := (s.src n).affinity, origin := 0, source := n, tReady := s.now.setWidth 32 }])
        ∧ ((s.src n).enable = false ∨ (s.src n).irq = true → t.cluster.ready = s.cluster.ready)
        ∧ (∀ k, k ≠ n.val → t.src k = s.src k) ∧ t = { s with cluster := t.cluster, power := t.power }
        ∧ ((s.src n).wake = false → t.power = s.power)
        ∧ ((s.src n).wake = true → s.power.phase = .steady → s.power.sleep ≠ 0 → t.power.phase = .exiting))
  ∧ (∀ (n : Fin 512) (s : State), (s.src n).level = false → s.cluster.saved = true → Gives (.evcSourceAssert n true) s fun t =>
      n.val ∈ t.cluster.shadow ∧ t.cluster.srcs = s.cluster.srcs ∧ t.cluster.ready = s.cluster.ready ∧ t = { s with cluster := t.cluster, power := t.power })
  ∧ (∀ (n : Fin 512) (s : State), (s.src n).level = false → exec (.evcSourceAssert n false) s = .next s)
  ∧ (∀ (n : Fin 512) (rise : Bool) (s : State), (s.src n).level = true → Gives (.evcSourceAssert n rise) s fun t => (t.src n).asserted = rise)
  ∧ (∀ (p i k : Nat) (s : State), s.cluster.cores.length = 9 → s.awake = true → s.pick = some (p, i, k) → Gives (.workItemDispatch []) s fun t =>
      let it := (s.readyList p).items.getD i {}
      ∃ c, s.slotCore k = some c ∧ (s.core c).state = .active ∧ (s.core c).idle = true ∧ s.allows it.affinity k = true ∧ s.admits it.cls (s.core c) = true
        ∧ i < 8 ∧ i < (s.readyList p).items.length
        ∧ t.core c = { s.core c with item := some it, itemAt := s.now, itemsRun := (s.core c).itemsRun + 1 } ∧ (∀ j, j ≠ c → t.core j = s.core j)
        ∧ (t.readyList p).items = (s.readyList p).items.eraseIdx i ∧ (∀ r, r ≠ p → t.readyList r = s.readyList r)
        ∧ (∀ r, p < r → r < 16 → ∀ x ∈ (s.readyList r).items.take 8, ∀ j, j < 8 → s.canTake x j = false) ∧ t = { s with cluster := t.cluster })
  ∧ (∀ (c : Fin 9) (it : Item) (s : State), s.cluster.cores.length = 9 → s.awake = false → (s.core c).item = some it → (s.core c).handlers = [] →
      Gives (.workItemDispatch [c]) s fun t =>
      t.core c = { s.core c with item := none, busyNs := (s.core c).busyNs + (s.now - (s.core c).itemAt) } ∧ (∀ j, j ≠ c.val → t.core j = s.core j))
  ∧ (∀ (n : Fin 512) (low : Nat) (s : State), s.cluster.cores.length = 9 → s.ctrlStopped = false → (s.src n).state = .pending → (s.src n).enable = true → (s.src n).irq = true →
      s.handled n = false → ((s.irqSlots (s.src n)).map s.slotLevel).min? = some low →
      (low < (s.src n).prio + 1 → Gives (.evcInterruptTaken n) s fun t =>
        ∃ k c, k ∈ s.irqSlots (s.src n) ∧ (∀ j ∈ s.irqSlots (s.src n), s.slotLevel k ≤ s.slotLevel j) ∧ s.slotCore k = some c
          ∧ (t.core c).handlers = n.val :: (s.core c).handlers ∧ (t.core c).irqsTaken = (s.core c).irqsTaken + 1 ∧ (t.core c).item = (s.core c).item
          ∧ (∀ j, j ≠ c → t.core j = s.core j) ∧ t.src n = s.src n)
        ∧ ((s.src n).prio + 1 ≤ low → exec (.evcInterruptTaken n) s = .next s))
  ∧ (∀ (n : Fin 512) (c : Fin 9) (s : State), s.ctrlStopped = true → exec (.evcInterruptTaken n) s = .next s ∧ exec (.evcClaim n c) s = .next s)
  ∧ (∀ (n : Fin 512) (c : Fin 9) (s : State), s.ctrlStopped = false → (s.src n).state = .pending → (s.core c).serves n = true → Gives (.evcClaim n c) s fun t =>
      let stale := (s.src n).level && !(s.src n).asserted
      t.src n = { s.src n with state := .inService, core := some c.val, occur := 0, since := s.now, overdue := false }
        ∧ t.out = .claim n (s.src n).occur stale :: s.out ∧ t.cluster.stale = s.cluster.stale + (if stale then 1 else 0)
        ∧ (∀ k, k ≠ n.val → t.src k = s.src k))
  ∧ (∀ (n : Fin 512) (c : Fin 9) (s : State), ((s.src n).state ≠ .pending ∨ (s.core c).serves n = false) → exec (.evcClaim n c) s = .next s)
  ∧ (∀ (n : Fin 512) (c : Nat) (s : State), s.cluster.cores.length = 9 → c < 9 → (s.src n).level = false → (s.src n).core = some c →
      (s.core c).handlers.head? = some n.val → Gives (.evcComplete n) s fun t =>
      ((s.src n).state = .inService → (t.src n).state = .idle ∧ (t.src n).core = none ∧ (t.core c).handlers = (s.core c).handlers.drop 1)
        ∧ ((s.src n).state = .inServiceAgain → (t.src n).state = (if (s.src n).enable then .pending else .idle) ∧ (t.src n).core = none
            ∧ (t.core c).handlers = (s.core c).handlers.drop 1)
        ∧ ((s.src n).state = .idle ∨ (s.src n).state = .pending → t = s))
  ∧ (∀ (n : Fin 512) (s : State), ((s.src n).state = .inService ∨ (s.src n).state = .inServiceAgain) → (s.src n).overdue = false →
      (s.src n).since.toNat + 10000000 ≤ s.now.toNat → Gives (.claimOverdue n) s fun t =>
      t.cluster.overdue = s.cluster.overdue + 1 ∧ (n.val ≠ 0x1E2 → t.src n = { s.src n with overdue := true }))
  ∧ (∀ (n : Fin 512) (s : State), ((s.src n).overdue = true ∨ s.now.toNat < (s.src n).since.toNat + 10000000) → exec (.claimOverdue n) s = .next s)
  ∧ (∀ (it : Item) (s : State), (s.directItems < 3584 → Gives (.directEnqueue it) s fun t =>
        (t.readyList (it.prio % 16)).items = (s.readyList (it.prio % 16)).items ++ [{ it with origin := 2, prio := it.prio % 16, tReady := s.now.setWidth 32 }]
          ∧ (∀ r, r ≠ it.prio % 16 → t.readyList r = s.readyList r) ∧ t = { s with cluster := t.cluster })
      ∧ (3584 ≤ s.directItems → exec (.directEnqueue it) s = .next { s with cluster := { s.cluster with enqRefused := s.cluster.enqRefused + 1 } }))
  ∧ (∀ (d : Fin 4) (it : Item) (w : BitVec 32) (s : State), Gives (.delayInsert d it w) s fun t =>
      let x := { it with origin := 1, prio := it.prio % 16 }
      (w = 0 → (t.readyList x.prio).items = (s.readyList x.prio).items ++ [{ x with tReady := s.now.setWidth 32 }] ∧ t.cluster.delay = s.cluster.delay)
        ∧ (2 ^ 31 ≤ w.toNat ∨ w ≠ 0 ∧ 4096 ≤ s.delayPending → t = { s with cluster := { s.cluster with delayRefused := s.cluster.delayRefused + 1 } })
        ∧ (w ≠ 0 → w.toNat < 2 ^ 31 → s.delayPending < 4096 →
            (t.delayList d).items = (s.delayList d).items ++ [{ due := s.tick32 + w, ident := s.cluster.nextIdent, item := x }]
              ∧ (∀ k, k ≠ d.val → t.delayList k = s.delayList k) ∧ t.cluster.ready = s.cluster.ready))
  ∧ (∀ (s : State), (s.cluster.saved = true ∨ s.power.phase = .steady ∧ s.power.sleep ≠ 0) →
      (s.anyDue = false → exec .delayTick s = .next s)
        ∧ (s.anyDue = true → s.power.phase = .steady → s.power.sleep ≠ 0 →
            exec .delayTick s = .next { s with power := { s.power with phase := .exiting, lastWake := 63 } }))
  ∧ (∀ (s : State), s.cluster.saved = false → (s.power.phase ≠ .steady ∨ s.power.sleep = 0) → Gives .delayTick s fun t => t = { s with cluster := t.cluster } ∧ ∀ d, d < 4 →
      let l := s.delayList d
      let due := l.items.filter fun i => i.isDue s.tick32
      (due = [] → (t.delayList d).items = l.items ∧ (t.delayList d).expired = l.expired)
        ∧ (t.delayList d).expired = l.expired + BitVec.ofNat 64 (min 16 due.length)
        ∧ (due.length ≤ 16 → (∀ a ∈ l.items, ∀ b ∈ l.items, a.ident = b.ident → a = b) →
            (t.delayList d).items = l.items.filter fun i => !i.isDue s.tick32))
  ∧ (∀ (d : Fin 4) (n : Nat) (s : State), (∀ i ∈ (s.delayList d).items, i.isDue s.tick32 = false) → Gives (.delayCancel d n) s fun t =>
      (t.delayList d).items = (s.delayList d).items.filter (fun i => decide (i.ident ≠ n)) ∧ (∀ k, k ≠ d.val → t.delayList k = s.delayList k)
        ∧ t.out = .cancelled ((s.delayList d).items.any fun i => decide (i.ident = n)) :: s.out ∧ t.cluster.ready = s.cluster.ready)

/-- R354 to R358: the cores. A rotation takes the longest-serving ACTIVE core out and puts the spare in its slot; a drained core goes to TEST; a passed self-test makes it SPARE, or ACTIVE in a vacant slot, a failed one FAULTED; the spare is tested each hour and a FAULTED core again after 10 s; a fault of an ACTIVE core puts its item back at the head of its list, gives its slot to the spare and raises CORE_FAULT; a first overrun of the item limit puts the item back, a second ends it with CORE_HUNG. An event that is not due, or finds nothing to act on, has no effect (the model's choice, log entry 6). -/
def Obligations.CoreEvents : Prop :=
  (∀ (sp out : Nat) (s : State), s.cluster.cores.length = 9 → s.spare = some sp → s.oldest (fun _ => true) = some out → s.mayRotate = true →
      s.cluster.rotateAt.toNat + 86400000000000 ≤ s.now.toNat → Gives .coreRotation s fun t =>
      (s.core out).state = .active ∧ (∀ c, c < 9 → (s.core c).state = .active → (s.core out).lastRotate.toNat ≤ (s.core c).lastRotate.toNat)
        ∧ t.core out = { s.core out with state := .draining, slot := none }
        ∧ t.core sp = { s.core sp with state := .active, slot := some ((s.core out).slot.getD 0), lastRotate := s.now }
        ∧ (∀ c, c ≠ out → c ≠ sp → t.core c = s.core c) ∧ t.cluster.rotations = s.cluster.rotations + 1 ∧ t.cluster.rotateAt = s.now)
  ∧ (∀ (s : State), (s.spare = none ∨ s.mayRotate = false ∨ s.now.toNat < s.cluster.rotateAt.toNat + 86400000000000) → exec .coreRotation s = .next s)
  ∧ (∀ (c : Fin 9) (s : State), s.cluster.cores.length = 9 → (s.core c).state = .draining → Gives (.coreDrainDone c) s fun t =>
      (t.core c).state = .test ∧ (t.core c).item = none ∧ (t.core c).handlers = [] ∧ (∀ j, j ≠ c.val → t.core j = s.core j) ∧ t = { s with cluster := t.cluster })
  ∧ (∀ (c : Fin 9) (s : State), s.cluster.cores.length = 9 → (s.core c).state = .test → s.boot.phase = .idle → Gives (.selfTestDone c true) s fun t =>
      (s.vacantSlot = none → t.core c = { s.core c with state := .spare, lastTest := s.now, testFails := 0 })
        ∧ (∀ k, s.vacantSlot = some k → s.spare = none → (t.core c).state = .active ∧ (t.core c).slot = some k ∧ (t.core c).lastRotate = s.now)
        ∧ (∀ j, s.spare = none → j ≠ c.val → t.core j = s.core j))
  ∧ (∀ (c : Fin 9) (s : State), s.cluster.cores.length = 9 → (s.core c).state = .test → s.boot.phase = .idle → Gives (.selfTestDone c false) s fun t =>
      (t.core c).state = .faulted ∧ (t.core c).faults = (s.core c).faults + 1 ∧ (t.alarm 8).latch = true ∧ (t.alarm 8).object = BitVec.ofNat 32 c.val
        ∧ (∀ j, j ≠ c.val → t.core j = s.core j))
  ∧ (∀ (c : Fin 9) (pass : Bool) (s : State), (s.core c).state ≠ .test → exec (.selfTestDone c pass) s = .next s)
  ∧ (∀ (c : Nat) (s : State), s.cluster.cores.length = 9 → s.spare = some c → (s.core c).lastTest.toNat + 3600000000000 ≤ s.now.toNat →
      Gives .spareSelftestExpiry s fun t => t.core c = { s.core c with state := .test } ∧ (∀ j, j ≠ c → t.core j = s.core j) ∧ t = { s with cluster := t.cluster })
  ∧ (∀ (s : State), s.spare = none → exec .spareSelftestExpiry s = .next s)
  ∧ (∀ (c : Fin 9) (m : Time) (rest : List Time) (s : State), s.cluster.cores.length = 9 → (s.core c).state = .faulted → (s.core c).faultTimes = m :: rest →
      ((s.recentFaults c).length < 3 → m.toNat + 10000000000 ≤ s.now.toNat → Gives (.faultedRetestExpiry c) s fun t =>
        (t.core c).state = .test ∧ (∀ j, j ≠ c.val → t.core j = s.core j) ∧ t = { s with cluster := t.cluster })
        ∧ (3 ≤ (s.recentFaults c).length ∨ s.now.toNat < m.toNat + 10000000000 → exec (.faultedRetestExpiry c) s = .next s))
  ∧ (∀ (c : Fin 9) (k sp : Nat) (s : State), s.cluster.cores.length = 9 → (s.core c).state = .active → s.loadsNew = false → (s.core c).newCode = false →
      (s.core c).slot = some k → Gives (.coreFault c) s fun t =>
      (t.core c).state = .faulted ∧ (t.core c).slot = none ∧ (t.core c).item = none ∧ (t.core c).handlers = [] ∧ (t.core c).faults = (s.core c).faults + 1
        ∧ (t.alarm 8).latch = true ∧ (t.alarm 8).object = BitVec.ofNat 32 c.val
        ∧ (∀ it, (s.core c).item = some it → (t.readyList it.prio).items.head? = some it)
        ∧ (s.spare = some sp → (t.core sp).state = .active ∧ (t.core sp).slot = some k ∧ (∀ j, j ≠ c.val → j ≠ sp → t.core j = s.core j))
        ∧ (s.spare = none → (t.alarm 10).latch = true ∧ (t.alarm 10).cond = true ∧ (∀ j, j ≠ c.val → t.core j = s.core j)))
  ∧ (∀ (c : Fin 9) (s : State), (s.core c).state ≠ .active → (s.core c).state ≠ .draining → exec (.coreFault c) s = .next s)
  ∧ (∀ (c : Fin 9) (it : Item) (s : State), s.cluster.cores.length = 9 → (s.core c).item = some it → (s.core c).itemAt.toNat + 2000000 ≤ s.now.toNat →
      Gives (.itemLimitOverrun c) s fun t =>
      (t.core c).item = none
        ∧ (it.overran = false → (t.readyList it.prio).items.head? = some { it with overran := true } ∧ (t.core c).state = (s.core c).state
            ∧ (t.core c).slot = (s.core c).slot ∧ (∀ j, j ≠ c.val → t.core j = s.core j))
        ∧ (it.overran = true → (t.core c).state = .faulted ∧ (t.alarm 9).latch = true ∧ (t.alarm 9).object = BitVec.ofNat 32 c.val
            ∧ (t.core c).faults = (s.core c).faults + 1))
  ∧ (∀ (c : Fin 9) (s : State), ((s.core c).item = none ∨ s.now.toNat < (s.core c).itemAt.toNat + 2000000) → exec (.itemLimitOverrun c) s = .next s)

/-- R407, R417, R431 to R433, R436, R440 to R444, R449 to R451: start-up, the configuration flash and the Loam copies. Power good samples the straps; the fuse load takes what the fuses hold; the next candidate that passes its checks boots, and with none left the block is in NO_IMAGE; release makes slice 0 of each host port ACTIVE with its 64 vectors; IMAGE_WRITE gives up a preferred slot first and programs its chunk; IMAGE_SELECT begins with a read of its slot; a handover switches the copies, a standby takes over from a failed one, a failed one synchronizes again. An event that is not due, or finds nothing to act on, has no effect (the model's choice, log entry 6). The size of the flash and what a failed program leaves are free values (log entries 26 and 27). -/
def Obligations.StartUpAndFlash : Prop :=
  (∀ (r : Bool) (a : BitVec 2) (s : State), (s.power.powered = true → exec (.powerGood r a) s = .next s)
      ∧ (s.power.powered = false → Gives (.powerGood r a) s fun t =>
        t = { s with power := { s.power with powered := true }, boot := { s.boot with stage := .fuse, recoveryStrap := r, smbAddr := a } }))
  ∧ (∀ (k : List Byte) (sn : BitVec 48) (o0 o1 : BitVec 32) (trim : BitVec 512) (m : List (BitVec 32)) (s : State), s.boot.stage = .fuse → s.mem.fuseMap = [] →
      Gives (.fuseLoadDone k sn o0 o1 trim m) s fun t =>
      t.boot.stage = .candidates ∧ t.boot.fuseLoaded = true ∧ t.boot.keyHash = k.take 48 ∧ t.boot.serial = sn ∧ t.boot.options0 = o0 ∧ t.boot.options1 = o1
        ∧ t.boot.trim = trim ∧ t.mem.fuseMap = m.take 128 ∧ t.boot.flash = s.boot.flash
        ∧ (s.newestSelect = none → t.boot.preferred = 0) ∧ (∀ a q p, s.newestSelect = some (a, q, p) → t.boot.preferred = BitVec.ofNat 1 p)
        ∧ t.ports = s.ports ∧ t.hosts.slices = s.hosts.slices ∧ t.tunnels = s.tunnels)
  ∧ (∀ (k : List Byte) (sn : BitVec 48) (o0 o1 : BitVec 32) (trim : BitVec 512) (m : List (BitVec 32)) (s : State), s.boot.stage ≠ .fuse →
      exec (.fuseLoadDone k sn o0 o1 trim m) s = .next s)
  ∧ (∀ (e : Bool) (slot : Nat) (s : State), s.boot.stage = .candidates → s.power.resetWait = false → s.boot.candidate = some slot → Gives (.imageVerified e) s fun t =>
      let m := s.slotImage slot
      let cause := imageCheck s.boot.keyHash e m
      (cause = 1 → t.boot.stage = .verified ∧ t.boot.booted = BitVec.ofNat 2 slot ∧ t.boot.running = BitVec.ofNat 32 (imageVersion m)
          ∧ t.boot.fwSlot = some slot ∧ t.boot.commands = entriesOf ((imageSection m 3).getD []) ∧ t.boot.cmdAt = 0
          ∧ t.plan = planOf ((imageSection m 4).getD []) ∧ t.silt.chained = true)
        ∧ (cause ≠ 1 → t = { s with boot := { s.boot.setCause slot (BitVec.ofNat 3 cause) with
              stage := if (s.boot.setCause slot (BitVec.ofNat 3 cause)).candidate.isNone then .noImage else .candidates } }))
  ∧ (∀ (e : Bool) (s : State), s.boot.stage = .candidates → s.power.resetWait = false → s.boot.candidate = none →
      exec (.imageVerified e) s = .next { s with boot := { s.boot with stage := .noImage } })
  ∧ (∀ (src : List (Fin 512 × SrcCfg)) (s : State), s.boot.stage = .verified → s.imageBusy = false → s.boot.commands.length ≤ s.boot.cmdAt →
      Gives (.startUpRelease src) s fun t =>
      t.boot.stage = .released ∧ t.boot.released = true ∧ ∀ h, h < 2 → (t.slice h 0).state = .active ∧ (t.slice h 0).vecFirst = 0 ∧ (t.slice h 0).vecCount = 64)
  ∧ (∀ (src : List (Fin 512 × SrcCfg)) (s : State), (s.boot.stage ≠ .verified → exec (.startUpRelease src) s = .next s)
      ∧ (s.boot.stage = .verified → s.imageBusy = true → Gives (.startUpRelease src) s fun t => t = { s with cluster := t.cluster }))
  ∧ Begun .imageWrite infoImageWrite checksImageWrite (fun c s => ∃ data, s.sourceBytes c (le c.payload 8 8) (le c.payload 16 4) = .ok data) (fun c b t =>
      let slot := byteAt c.payload 0
      let len := le c.payload 16 4
      (∃ data, b.sourceBytes c (le c.payload 8 8) len = .ok data
          ∧ t.boot.imageJob = some { cmd := c, slot := slot, off := le c.payload 4 4, len := len, data := padTo len data })
        ∧ b.boot.fwSlot ≠ some slot ∧ b.boot.stagedSlot ≠ some slot ∧ b.boot.imageJob = none
        ∧ (slot = b.boot.preferred.toNat → t.boot.preferred = BitVec.ofNat 1 (1 - slot) ∧ t.boot.selSeq = b.boot.selSeq + 1)
        ∧ (slot ≠ b.boot.preferred.toNat → t.boot.flash = b.boot.flash ∧ t.boot.preferred = b.boot.preferred) ∧ t = { b with boot := t.boot })
  ∧ (∀ (c : Cmd) (s : State), c.late = false → (s.startCmd c 0x0904).waits infoImageSelect c = false →
      (firstFailure infoImageSelect c (s.startCmd c 0x0904) (selectChecks c s)).isNone = true → Gives (.imageSelect c) s fun t =>
      t.boot.imageJob = some { cmd := c, select := true, slot := byteAt c.payload 0 } ∧ t.isRunning c 0x0904 = true ∧ t = { s with boot := t.boot, hosts := t.hosts })
  ∧ (∀ (j : ImageJob) (s : State), s.boot.imageJob = some j → j.select = false → s.isRunning j.cmd 0x0903 = true → j.data.length = j.len →
      (Gives (.flashOperationDone true) s fun t =>
        let a := slotBase j.slot + j.off
        let u := { s with boot := { s.boot with imageJob := none, flash := t.boot.flash } }
        t.flashBytes a j.len = j.data ∧ t = (u.endCmd j.cmd 0x0903).deliver j.cmd .ok 0 []
          ∧ (∀ k, (k < a ∨ a + (j.len + 65535) / 65536 * 65536 ≤ k) → Tab.get 0xFF t.boot.flash k = Tab.get 0xFF s.boot.flash k)
          ∧ (∀ k, a + j.len ≤ k → k < a + (j.len + 65535) / 65536 * 65536 → Tab.get 0xFF t.boot.flash k = 0xFF))
        ∧ Gives (.flashOperationDone false) s fun t => t.boot.imageJob = none ∧ t.isRunning j.cmd 0x0903 = (s.endCmd j.cmd 0x0903).isRunning j.cmd 0x0903)
  ∧ (∀ (good : Bool) (s : State), s.boot.imageJob = none → exec (.flashOperationDone good) s = .next s)
  ∧ CarriedOut .loamHandover infoLoamHandover checksLoamHandover Always (fun _ _ _ => []) (fun c b u =>
      let target := decide (byteAt c.payload 0 = 1)
      (target = b.boot.loamActiveB → u = b)
        ∧ (target ≠ b.boot.loamActiveB → (u.loam target).state = .active ∧ (u.loam (!target)).state = .syncing ∧ u.boot.loamActiveB = target
            ∧ u.boot.handovers = b.boot.handovers + 1 ∧ ((b.loam target).state = .standby ∨ (b.loam target).state = .active)))
  ∧ (∀ (x : Bool) (s : State), (s.loam x).state ≠ .failed → Gives (.loamCopyFault x) s fun t =>
      (t.loam x).state = .failed ∧ (t.alarm 12).latch = true ∧ (t.alarm 12).object = BitVec.ofNat 32 (flag x)
        ∧ ((s.loam x).state ≠ .active → t.boot.loamActiveB = s.boot.loamActiveB ∧ t.loam (!x) = s.loam (!x))
        ∧ ((s.loam x).state = .active → (s.loam (!x)).state = .standby →
            (t.loam (!x)).state = .active ∧ t.boot.loamActiveB = (!x) ∧ t.boot.handovers = s.boot.handovers + 1)
        ∧ ((s.loam x).state = .active → (s.loam (!x)).state ≠ .standby → (t.alarm 13).latch = true ∧ t.loam (!x) = s.loam (!x)))
  ∧ (∀ (x : Bool) (s : State), (s.loam x).state = .failed → exec (.loamCopyFault x) s = .next s)
  ∧ (∀ (x : Bool) (s : State), ((s.loam x).state = .failed → s.due (s.loam x).retryDue = true → Gives (.loamCopyRetryExpiry x) s fun t =>
        t.loam x = { s.loam x with state := .syncing, retryDue := none } ∧ t.loam (!x) = s.loam (!x) ∧ t = { s with boot := t.boot })
      ∧ ((s.loam x).state ≠ .failed ∨ s.due (s.loam x).retryDue = false → exec (.loamCopyRetryExpiry x) s = .next s))
  ∧ (∀ (x : Bool) (s : State), ((s.loam x).state = .syncing → (s.loam (!x)).state = .active → Gives (.loamSyncDone x) s fun t =>
        t.loam x = { s.loam x with state := .standby } ∧ t.loam (!x) = s.loam (!x) ∧ t = { s with boot := t.boot })
      ∧ ((s.loam x).state ≠ .syncing ∨ (s.loam (!x)).state ≠ .active → exec (.loamSyncDone x) s = .next s))

/-- R445 to R448, R453: the live update. FW_STAGE takes a valid image that runs with the firmware in force; FW_ACTIVATE begins phase 2 with the spare; rotations put the new code into four slots, then the fence; classes move one at a time in rising order; the last rotation makes the staged version the running one; a takeover that fails, or a spare that does not come within 1 s, rolls back, and the classes return in reverse order. An event that is not due, or finds nothing to act on, has no effect (the model's choice, log entry 6). -/
def Obligations.FirmwareUpdate : Prop :=
  CarriedOut .fwStage infoFwStage checksFwStage Always (fun _ _ u => toLe 4 u.boot.staged.toNat) (fun c b u =>
      ∃ m slot, imageCheck b.boot.keyHash false m = 1 ∧ imageCompat m ≤ b.boot.running.toNat
        ∧ (c.route = .mgmt → m = b.slotImage slot) ∧ (c.route ≠ .mgmt → b.sameSlot m = some slot) ∧ b.inUpdate = false
        ∧ u = { b with boot := { b.boot with
            staged := BitVec.ofNat 32 (imageVersion m), stageValue := c.payload.take 20, stagedSlot := some slot, phase := .staged } })
  ∧ Begun .fwActivate infoFwActivate checksFwActivate (fun _ s => s.cluster.cores.length = 9) (fun c b t =>
      ∃ k, b.spare = some k ∧ b.boot.staged.toNat = le c.payload 0 4 ∧ t.core k = { b.core k with state := .test, newCode := true }
        ∧ (∀ j, j ≠ k → t.core j = b.core j)
        ∧ t = { b with boot := { b.boot with phase := .rotatingIn, activate := some c }, cluster := t.cluster })
  ∧ (∀ (sp out : Nat) (s : State), s.cluster.cores.length = 9 → s.power.hold = false → s.awake = true → s.boot.phase = .rotatingIn → s.newSlots < 4 →
      s.spare = some sp → (s.core sp).newCode = true → s.oldest (fun c => c.newCode != true) = some out → Gives .updateRotation s fun t =>
      t.core out = { s.core out with state := .draining, slot := none }
        ∧ t.core sp = { s.core sp with state := .active, slot := some ((s.core out).slot.getD 0), lastRotate := s.now }
        ∧ (∀ j, j ≠ out → j ≠ sp → t.core j = s.core j) ∧ t.boot.phase = (if 4 ≤ t.newSlots then .fence else .rotatingIn)
        ∧ t.cluster.rotations = s.cluster.rotations + 1)
  ∧ (∀ (s : State), (s.power.hold = true ∨ s.awake = false ∨ s.boot.phase = .idle ∨ s.boot.phase = .staged ∨ s.boot.phase = .fence) →
      exec .updateRotation s = .next s)
  ∧ (∀ (sp : Nat) (s : State), s.power.hold = false → s.awake = true → s.boot.phase = .rotatingOut → s.spare = some sp → (s.core sp).newCode = true →
      s.oldest (fun c => c.newCode != true) = none → s.coresSettled true = true → Gives .updateRotation s fun t =>
      t.boot.running = s.boot.staged ∧ t.boot.fwSlot = s.boot.stagedSlot ∧ t.boot.staged = 0 ∧ t.boot.stagedSlot = none ∧ t.boot.phase = .idle
        ∧ t.boot.activate = none ∧ t.cluster.moved = [] ∧ ∀ c, s.boot.activate = some c → t.isRunning c 0x0902 = (s.endCmd c 0x0902).isRunning c 0x0902)
  ∧ (∀ (cls : BitVec 16) (last : Bool) (s : State), s.boot.phase = .fence → s.power.hold = false → Gives (.classMove cls last) s fun t =>
      (s.cluster.paused = none → (∀ h rest, s.cluster.moved = h :: rest → h.toNat < cls.toNat) → t = { s with cluster := { s.cluster with paused := some cls } })
        ∧ (s.cluster.paused = some cls → s.classRuns cls = false → t.cluster.paused = none ∧ t.cluster.moved = cls :: s.cluster.moved
            ∧ t.boot.phase = (if last then .rotatingOut else .fence))
        ∧ (s.cluster.paused = some cls → s.classRuns cls = true → t = s)
        ∧ (∀ x, s.cluster.paused = some x → x ≠ cls → t = s))
  ∧ (∀ (cls : BitVec 16) (last : Bool) (s : State), (s.boot.phase ≠ .fence ∨ s.power.hold = true) → exec (.classMove cls last) s = .next s)
  ∧ (∀ (x : BitVec 16) (s : State), s.boot.phase = .fence → s.cluster.paused = some x → Gives (.updateRollback true) s fun t =>
      t.boot.phase = .rollingBack ∧ t.boot.rollDetail = 2 ∧ t.cluster.paused = none ∧ t.cluster.moved = s.cluster.moved)
  ∧ (∀ (s : State), s.loadsNew = true → s.spare = none → s.due s.boot.spareDue = true → Gives (.updateRollback false) s fun t =>
      t.boot.phase = .rollingBack ∧ t.boot.rollDetail = 1 ∧ t.cluster.paused = none ∧ t.cluster.moved = s.cluster.moved)
  ∧ (∀ (b : Bool) (h : BitVec 16) (rest : List (BitVec 16)) (s : State), s.boot.phase = .rollingBack → s.power.hold = false → s.cluster.moved = h :: rest →
      Gives (.updateRollback b) s fun t =>
      (s.cluster.paused = none → t = { s with cluster := { s.cluster with paused := some h } })
        ∧ (s.cluster.paused = some h → s.classRuns h = false → t = { s with cluster := { s.cluster with paused := none, moved := rest } }))
end

