-- ==== Sys2Proof/Laws/State.lean ====
section
/-! SUPPORT. Sys2Proof/Laws/State.lean: for each named update of the state, what each field of the state holds after it. -/

set_option Elab.async false

namespace Sys2Proof.Machine

variable (s : State)

@[simp] theorem State.setPort_clock (p : Nat) (v : Port) : (s.setPort p v).clock = s.clock := rfl
@[simp] theorem State.setPort_ports (p : Nat) (v : Port) : (s.setPort p v).ports = Tab.set {} p v s.ports := rfl
@[simp] theorem State.setPort_tunnels (p : Nat) (v : Port) : (s.setPort p v).tunnels = s.tunnels := rfl
@[simp] theorem State.setPort_plan (p : Nat) (v : Port) : (s.setPort p v).plan = s.plan := rfl
@[simp] theorem State.setPort_marl (p : Nat) (v : Port) : (s.setPort p v).marl = s.marl := rfl
@[simp] theorem State.setPort_xfer (p : Nat) (v : Port) : (s.setPort p v).xfer = s.xfer := rfl
@[simp] theorem State.setPort_hosts (p : Nat) (v : Port) : (s.setPort p v).hosts = s.hosts := rfl
@[simp] theorem State.setPort_cluster (p : Nat) (v : Port) : (s.setPort p v).cluster = s.cluster := rfl
@[simp] theorem State.setPort_power (p : Nat) (v : Port) : (s.setPort p v).power = s.power := rfl
@[simp] theorem State.setPort_mem (p : Nat) (v : Port) : (s.setPort p v).mem = s.mem := rfl
@[simp] theorem State.setPort_silt (p : Nat) (v : Port) : (s.setPort p v).silt = s.silt := rfl
@[simp] theorem State.setPort_boot (p : Nat) (v : Port) : (s.setPort p v).boot = s.boot := rfl
@[simp] theorem State.setPort_edge (p : Nat) (v : Port) : (s.setPort p v).edge = s.edge := rfl
@[simp] theorem State.setPort_mgmt (p : Nat) (v : Port) : (s.setPort p v).mgmt = s.mgmt := rfl
@[simp] theorem State.setPort_lock (p : Nat) (v : Port) : (s.setPort p v).lock = s.lock := rfl
@[simp] theorem State.setPort_siteId (p : Nat) (v : Port) : (s.setPort p v).siteId = s.siteId := rfl
@[simp] theorem State.setPort_out (p : Nat) (v : Port) : (s.setPort p v).out = s.out := rfl
@[simp] theorem State.setPort_freeCtr (p : Nat) (v : Port) : (s.setPort p v).freeCtr = s.freeCtr := rfl
@[simp] theorem State.setPort_pending (p : Nat) (v : Port) : (s.setPort p v).pending = s.pending := rfl

@[simp] theorem State.modPort_clock (p : Nat) (f : Port → Port) : (s.modPort p f).clock = s.clock := rfl
@[simp] theorem State.modPort_ports (p : Nat) (f : Port → Port) : (s.modPort p f).ports = Tab.set {} p (f (s.port p)) s.ports := rfl
@[simp] theorem State.modPort_tunnels (p : Nat) (f : Port → Port) : (s.modPort p f).tunnels = s.tunnels := rfl
@[simp] theorem State.modPort_plan (p : Nat) (f : Port → Port) : (s.modPort p f).plan = s.plan := rfl
@[simp] theorem State.modPort_marl (p : Nat) (f : Port → Port) : (s.modPort p f).marl = s.marl := rfl
@[simp] theorem State.modPort_xfer (p : Nat) (f : Port → Port) : (s.modPort p f).xfer = s.xfer := rfl
@[simp] theorem State.modPort_hosts (p : Nat) (f : Port → Port) : (s.modPort p f).hosts = s.hosts := rfl
@[simp] theorem State.modPort_cluster (p : Nat) (f : Port → Port) : (s.modPort p f).cluster = s.cluster := rfl
@[simp] theorem State.modPort_power (p : Nat) (f : Port → Port) : (s.modPort p f).power = s.power := rfl
@[simp] theorem State.modPort_mem (p : Nat) (f : Port → Port) : (s.modPort p f).mem = s.mem := rfl
@[simp] theorem State.modPort_silt (p : Nat) (f : Port → Port) : (s.modPort p f).silt = s.silt := rfl
@[simp] theorem State.modPort_boot (p : Nat) (f : Port → Port) : (s.modPort p f).boot = s.boot := rfl
@[simp] theorem State.modPort_edge (p : Nat) (f : Port → Port) : (s.modPort p f).edge = s.edge := rfl
@[simp] theorem State.modPort_mgmt (p : Nat) (f : Port → Port) : (s.modPort p f).mgmt = s.mgmt := rfl
@[simp] theorem State.modPort_lock (p : Nat) (f : Port → Port) : (s.modPort p f).lock = s.lock := rfl
@[simp] theorem State.modPort_siteId (p : Nat) (f : Port → Port) : (s.modPort p f).siteId = s.siteId := rfl
@[simp] theorem State.modPort_out (p : Nat) (f : Port → Port) : (s.modPort p f).out = s.out := rfl
@[simp] theorem State.modPort_freeCtr (p : Nat) (f : Port → Port) : (s.modPort p f).freeCtr = s.freeCtr := rfl
@[simp] theorem State.modPort_pending (p : Nat) (f : Port → Port) : (s.modPort p f).pending = s.pending := rfl

@[simp] theorem State.setTunnel_clock (p : Nat) (v : Tunnel) : (s.setTunnel p v).clock = s.clock := rfl
@[simp] theorem State.setTunnel_ports (p : Nat) (v : Tunnel) : (s.setTunnel p v).ports = s.ports := rfl
@[simp] theorem State.setTunnel_tunnels (p : Nat) (v : Tunnel) : (s.setTunnel p v).tunnels = Tab.set {} p v s.tunnels := rfl
@[simp] theorem State.setTunnel_plan (p : Nat) (v : Tunnel) : (s.setTunnel p v).plan = s.plan := rfl
@[simp] theorem State.setTunnel_marl (p : Nat) (v : Tunnel) : (s.setTunnel p v).marl = s.marl := rfl
@[simp] theorem State.setTunnel_xfer (p : Nat) (v : Tunnel) : (s.setTunnel p v).xfer = s.xfer := rfl
@[simp] theorem State.setTunnel_hosts (p : Nat) (v : Tunnel) : (s.setTunnel p v).hosts = s.hosts := rfl
@[simp] theorem State.setTunnel_cluster (p : Nat) (v : Tunnel) : (s.setTunnel p v).cluster = s.cluster := rfl
@[simp] theorem State.setTunnel_power (p : Nat) (v : Tunnel) : (s.setTunnel p v).power = s.power := rfl
@[simp] theorem State.setTunnel_mem (p : Nat) (v : Tunnel) : (s.setTunnel p v).mem = s.mem := rfl
@[simp] theorem State.setTunnel_silt (p : Nat) (v : Tunnel) : (s.setTunnel p v).silt = s.silt := rfl
@[simp] theorem State.setTunnel_boot (p : Nat) (v : Tunnel) : (s.setTunnel p v).boot = s.boot := rfl
@[simp] theorem State.setTunnel_edge (p : Nat) (v : Tunnel) : (s.setTunnel p v).edge = s.edge := rfl
@[simp] theorem State.setTunnel_mgmt (p : Nat) (v : Tunnel) : (s.setTunnel p v).mgmt = s.mgmt := rfl
@[simp] theorem State.setTunnel_lock (p : Nat) (v : Tunnel) : (s.setTunnel p v).lock = s.lock := rfl
@[simp] theorem State.setTunnel_siteId (p : Nat) (v : Tunnel) : (s.setTunnel p v).siteId = s.siteId := rfl
@[simp] theorem State.setTunnel_out (p : Nat) (v : Tunnel) : (s.setTunnel p v).out = s.out := rfl
@[simp] theorem State.setTunnel_freeCtr (p : Nat) (v : Tunnel) : (s.setTunnel p v).freeCtr = s.freeCtr := rfl
@[simp] theorem State.setTunnel_pending (p : Nat) (v : Tunnel) : (s.setTunnel p v).pending = s.pending := rfl

@[simp] theorem State.modTunnel_clock (p : Nat) (f : Tunnel → Tunnel) : (s.modTunnel p f).clock = s.clock := rfl
@[simp] theorem State.modTunnel_ports (p : Nat) (f : Tunnel → Tunnel) : (s.modTunnel p f).ports = s.ports := rfl
@[simp] theorem State.modTunnel_tunnels (p : Nat) (f : Tunnel → Tunnel) : (s.modTunnel p f).tunnels = Tab.set {} p (f (s.tunnel p)) s.tunnels := rfl
@[simp] theorem State.modTunnel_plan (p : Nat) (f : Tunnel → Tunnel) : (s.modTunnel p f).plan = s.plan := rfl
@[simp] theorem State.modTunnel_marl (p : Nat) (f : Tunnel → Tunnel) : (s.modTunnel p f).marl = s.marl := rfl
@[simp] theorem State.modTunnel_xfer (p : Nat) (f : Tunnel → Tunnel) : (s.modTunnel p f).xfer = s.xfer := rfl
@[simp] theorem State.modTunnel_hosts (p : Nat) (f : Tunnel → Tunnel) : (s.modTunnel p f).hosts = s.hosts := rfl
@[simp] theorem State.modTunnel_cluster (p : Nat) (f : Tunnel → Tunnel) : (s.modTunnel p f).cluster = s.cluster := rfl
@[simp] theorem State.modTunnel_power (p : Nat) (f : Tunnel → Tunnel) : (s.modTunnel p f).power = s.power := rfl
@[simp] theorem State.modTunnel_mem (p : Nat) (f : Tunnel → Tunnel) : (s.modTunnel p f).mem = s.mem := rfl
@[simp] theorem State.modTunnel_silt (p : Nat) (f : Tunnel → Tunnel) : (s.modTunnel p f).silt = s.silt := rfl
@[simp] theorem State.modTunnel_boot (p : Nat) (f : Tunnel → Tunnel) : (s.modTunnel p f).boot = s.boot := rfl
@[simp] theorem State.modTunnel_edge (p : Nat) (f : Tunnel → Tunnel) : (s.modTunnel p f).edge = s.edge := rfl
@[simp] theorem State.modTunnel_mgmt (p : Nat) (f : Tunnel → Tunnel) : (s.modTunnel p f).mgmt = s.mgmt := rfl
@[simp] theorem State.modTunnel_lock (p : Nat) (f : Tunnel → Tunnel) : (s.modTunnel p f).lock = s.lock := rfl
@[simp] theorem State.modTunnel_siteId (p : Nat) (f : Tunnel → Tunnel) : (s.modTunnel p f).siteId = s.siteId := rfl
@[simp] theorem State.modTunnel_out (p : Nat) (f : Tunnel → Tunnel) : (s.modTunnel p f).out = s.out := rfl
@[simp] theorem State.modTunnel_freeCtr (p : Nat) (f : Tunnel → Tunnel) : (s.modTunnel p f).freeCtr = s.freeCtr := rfl
@[simp] theorem State.modTunnel_pending (p : Nat) (f : Tunnel → Tunnel) : (s.modTunnel p f).pending = s.pending := rfl

@[simp] theorem State.modMarl_clock (f : Marl → Marl) : (s.modMarl f).clock = s.clock := rfl
@[simp] theorem State.modMarl_ports (f : Marl → Marl) : (s.modMarl f).ports = s.ports := rfl
@[simp] theorem State.modMarl_tunnels (f : Marl → Marl) : (s.modMarl f).tunnels = s.tunnels := rfl
@[simp] theorem State.modMarl_plan (f : Marl → Marl) : (s.modMarl f).plan = s.plan := rfl
@[simp] theorem State.modMarl_marl (f : Marl → Marl) : (s.modMarl f).marl = f s.marl := rfl
@[simp] theorem State.modMarl_xfer (f : Marl → Marl) : (s.modMarl f).xfer = s.xfer := rfl
@[simp] theorem State.modMarl_hosts (f : Marl → Marl) : (s.modMarl f).hosts = s.hosts := rfl
@[simp] theorem State.modMarl_cluster (f : Marl → Marl) : (s.modMarl f).cluster = s.cluster := rfl
@[simp] theorem State.modMarl_power (f : Marl → Marl) : (s.modMarl f).power = s.power := rfl
@[simp] theorem State.modMarl_mem (f : Marl → Marl) : (s.modMarl f).mem = s.mem := rfl
@[simp] theorem State.modMarl_silt (f : Marl → Marl) : (s.modMarl f).silt = s.silt := rfl
@[simp] theorem State.modMarl_boot (f : Marl → Marl) : (s.modMarl f).boot = s.boot := rfl
@[simp] theorem State.modMarl_edge (f : Marl → Marl) : (s.modMarl f).edge = s.edge := rfl
@[simp] theorem State.modMarl_mgmt (f : Marl → Marl) : (s.modMarl f).mgmt = s.mgmt := rfl
@[simp] theorem State.modMarl_lock (f : Marl → Marl) : (s.modMarl f).lock = s.lock := rfl
@[simp] theorem State.modMarl_siteId (f : Marl → Marl) : (s.modMarl f).siteId = s.siteId := rfl
@[simp] theorem State.modMarl_out (f : Marl → Marl) : (s.modMarl f).out = s.out := rfl
@[simp] theorem State.modMarl_freeCtr (f : Marl → Marl) : (s.modMarl f).freeCtr = s.freeCtr := rfl
@[simp] theorem State.modMarl_pending (f : Marl → Marl) : (s.modMarl f).pending = s.pending := rfl

@[simp] theorem State.modXfer_clock (f : Xfer → Xfer) : (s.modXfer f).clock = s.clock := rfl
@[simp] theorem State.modXfer_ports (f : Xfer → Xfer) : (s.modXfer f).ports = s.ports := rfl
@[simp] theorem State.modXfer_tunnels (f : Xfer → Xfer) : (s.modXfer f).tunnels = s.tunnels := rfl
@[simp] theorem State.modXfer_plan (f : Xfer → Xfer) : (s.modXfer f).plan = s.plan := rfl
@[simp] theorem State.modXfer_marl (f : Xfer → Xfer) : (s.modXfer f).marl = s.marl := rfl
@[simp] theorem State.modXfer_xfer (f : Xfer → Xfer) : (s.modXfer f).xfer = f s.xfer := rfl
@[simp] theorem State.modXfer_hosts (f : Xfer → Xfer) : (s.modXfer f).hosts = s.hosts := rfl
@[simp] theorem State.modXfer_cluster (f : Xfer → Xfer) : (s.modXfer f).cluster = s.cluster := rfl
@[simp] theorem State.modXfer_power (f : Xfer → Xfer) : (s.modXfer f).power = s.power := rfl
@[simp] theorem State.modXfer_mem (f : Xfer → Xfer) : (s.modXfer f).mem = s.mem := rfl
@[simp] theorem State.modXfer_silt (f : Xfer → Xfer) : (s.modXfer f).silt = s.silt := rfl
@[simp] theorem State.modXfer_boot (f : Xfer → Xfer) : (s.modXfer f).boot = s.boot := rfl
@[simp] theorem State.modXfer_edge (f : Xfer → Xfer) : (s.modXfer f).edge = s.edge := rfl
@[simp] theorem State.modXfer_mgmt (f : Xfer → Xfer) : (s.modXfer f).mgmt = s.mgmt := rfl
@[simp] theorem State.modXfer_lock (f : Xfer → Xfer) : (s.modXfer f).lock = s.lock := rfl
@[simp] theorem State.modXfer_siteId (f : Xfer → Xfer) : (s.modXfer f).siteId = s.siteId := rfl
@[simp] theorem State.modXfer_out (f : Xfer → Xfer) : (s.modXfer f).out = s.out := rfl
@[simp] theorem State.modXfer_freeCtr (f : Xfer → Xfer) : (s.modXfer f).freeCtr = s.freeCtr := rfl
@[simp] theorem State.modXfer_pending (f : Xfer → Xfer) : (s.modXfer f).pending = s.pending := rfl

@[simp] theorem State.modCluster_clock (f : Cluster → Cluster) : (s.modCluster f).clock = s.clock := rfl
@[simp] theorem State.modCluster_ports (f : Cluster → Cluster) : (s.modCluster f).ports = s.ports := rfl
@[simp] theorem State.modCluster_tunnels (f : Cluster → Cluster) : (s.modCluster f).tunnels = s.tunnels := rfl
@[simp] theorem State.modCluster_plan (f : Cluster → Cluster) : (s.modCluster f).plan = s.plan := rfl
@[simp] theorem State.modCluster_marl (f : Cluster → Cluster) : (s.modCluster f).marl = s.marl := rfl
@[simp] theorem State.modCluster_xfer (f : Cluster → Cluster) : (s.modCluster f).xfer = s.xfer := rfl
@[simp] theorem State.modCluster_hosts (f : Cluster → Cluster) : (s.modCluster f).hosts = s.hosts := rfl
@[simp] theorem State.modCluster_cluster (f : Cluster → Cluster) : (s.modCluster f).cluster = f s.cluster := rfl
@[simp] theorem State.modCluster_power (f : Cluster → Cluster) : (s.modCluster f).power = s.power := rfl
@[simp] theorem State.modCluster_mem (f : Cluster → Cluster) : (s.modCluster f).mem = s.mem := rfl
@[simp] theorem State.modCluster_silt (f : Cluster → Cluster) : (s.modCluster f).silt = s.silt := rfl
@[simp] theorem State.modCluster_boot (f : Cluster → Cluster) : (s.modCluster f).boot = s.boot := rfl
@[simp] theorem State.modCluster_edge (f : Cluster → Cluster) : (s.modCluster f).edge = s.edge := rfl
@[simp] theorem State.modCluster_mgmt (f : Cluster → Cluster) : (s.modCluster f).mgmt = s.mgmt := rfl
@[simp] theorem State.modCluster_lock (f : Cluster → Cluster) : (s.modCluster f).lock = s.lock := rfl
@[simp] theorem State.modCluster_siteId (f : Cluster → Cluster) : (s.modCluster f).siteId = s.siteId := rfl
@[simp] theorem State.modCluster_out (f : Cluster → Cluster) : (s.modCluster f).out = s.out := rfl
@[simp] theorem State.modCluster_freeCtr (f : Cluster → Cluster) : (s.modCluster f).freeCtr = s.freeCtr := rfl
@[simp] theorem State.modCluster_pending (f : Cluster → Cluster) : (s.modCluster f).pending = s.pending := rfl

@[simp] theorem State.modPower_clock (f : Power → Power) : (s.modPower f).clock = s.clock := rfl
@[simp] theorem State.modPower_ports (f : Power → Power) : (s.modPower f).ports = s.ports := rfl
@[simp] theorem State.modPower_tunnels (f : Power → Power) : (s.modPower f).tunnels = s.tunnels := rfl
@[simp] theorem State.modPower_plan (f : Power → Power) : (s.modPower f).plan = s.plan := rfl
@[simp] theorem State.modPower_marl (f : Power → Power) : (s.modPower f).marl = s.marl := rfl
@[simp] theorem State.modPower_xfer (f : Power → Power) : (s.modPower f).xfer = s.xfer := rfl
@[simp] theorem State.modPower_hosts (f : Power → Power) : (s.modPower f).hosts = s.hosts := rfl
@[simp] theorem State.modPower_cluster (f : Power → Power) : (s.modPower f).cluster = s.cluster := rfl
@[simp] theorem State.modPower_power (f : Power → Power) : (s.modPower f).power = f s.power := rfl
@[simp] theorem State.modPower_mem (f : Power → Power) : (s.modPower f).mem = s.mem := rfl
@[simp] theorem State.modPower_silt (f : Power → Power) : (s.modPower f).silt = s.silt := rfl
@[simp] theorem State.modPower_boot (f : Power → Power) : (s.modPower f).boot = s.boot := rfl
@[simp] theorem State.modPower_edge (f : Power → Power) : (s.modPower f).edge = s.edge := rfl
@[simp] theorem State.modPower_mgmt (f : Power → Power) : (s.modPower f).mgmt = s.mgmt := rfl
@[simp] theorem State.modPower_lock (f : Power → Power) : (s.modPower f).lock = s.lock := rfl
@[simp] theorem State.modPower_siteId (f : Power → Power) : (s.modPower f).siteId = s.siteId := rfl
@[simp] theorem State.modPower_out (f : Power → Power) : (s.modPower f).out = s.out := rfl
@[simp] theorem State.modPower_freeCtr (f : Power → Power) : (s.modPower f).freeCtr = s.freeCtr := rfl
@[simp] theorem State.modPower_pending (f : Power → Power) : (s.modPower f).pending = s.pending := rfl

@[simp] theorem State.modMem_clock (f : Mem → Mem) : (s.modMem f).clock = s.clock := rfl
@[simp] theorem State.modMem_ports (f : Mem → Mem) : (s.modMem f).ports = s.ports := rfl
@[simp] theorem State.modMem_tunnels (f : Mem → Mem) : (s.modMem f).tunnels = s.tunnels := rfl
@[simp] theorem State.modMem_plan (f : Mem → Mem) : (s.modMem f).plan = s.plan := rfl
@[simp] theorem State.modMem_marl (f : Mem → Mem) : (s.modMem f).marl = s.marl := rfl
@[simp] theorem State.modMem_xfer (f : Mem → Mem) : (s.modMem f).xfer = s.xfer := rfl
@[simp] theorem State.modMem_hosts (f : Mem → Mem) : (s.modMem f).hosts = s.hosts := rfl
@[simp] theorem State.modMem_cluster (f : Mem → Mem) : (s.modMem f).cluster = s.cluster := rfl
@[simp] theorem State.modMem_power (f : Mem → Mem) : (s.modMem f).power = s.power := rfl
@[simp] theorem State.modMem_mem (f : Mem → Mem) : (s.modMem f).mem = f s.mem := rfl
@[simp] theorem State.modMem_silt (f : Mem → Mem) : (s.modMem f).silt = s.silt := rfl
@[simp] theorem State.modMem_boot (f : Mem → Mem) : (s.modMem f).boot = s.boot := rfl
@[simp] theorem State.modMem_edge (f : Mem → Mem) : (s.modMem f).edge = s.edge := rfl
@[simp] theorem State.modMem_mgmt (f : Mem → Mem) : (s.modMem f).mgmt = s.mgmt := rfl
@[simp] theorem State.modMem_lock (f : Mem → Mem) : (s.modMem f).lock = s.lock := rfl
@[simp] theorem State.modMem_siteId (f : Mem → Mem) : (s.modMem f).siteId = s.siteId := rfl
@[simp] theorem State.modMem_out (f : Mem → Mem) : (s.modMem f).out = s.out := rfl
@[simp] theorem State.modMem_freeCtr (f : Mem → Mem) : (s.modMem f).freeCtr = s.freeCtr := rfl
@[simp] theorem State.modMem_pending (f : Mem → Mem) : (s.modMem f).pending = s.pending := rfl

@[simp] theorem State.modSilt_clock (f : Silt → Silt) : (s.modSilt f).clock = s.clock := rfl
@[simp] theorem State.modSilt_ports (f : Silt → Silt) : (s.modSilt f).ports = s.ports := rfl
@[simp] theorem State.modSilt_tunnels (f : Silt → Silt) : (s.modSilt f).tunnels = s.tunnels := rfl
@[simp] theorem State.modSilt_plan (f : Silt → Silt) : (s.modSilt f).plan = s.plan := rfl
@[simp] theorem State.modSilt_marl (f : Silt → Silt) : (s.modSilt f).marl = s.marl := rfl
@[simp] theorem State.modSilt_xfer (f : Silt → Silt) : (s.modSilt f).xfer = s.xfer := rfl
@[simp] theorem State.modSilt_hosts (f : Silt → Silt) : (s.modSilt f).hosts = s.hosts := rfl
@[simp] theorem State.modSilt_cluster (f : Silt → Silt) : (s.modSilt f).cluster = s.cluster := rfl
@[simp] theorem State.modSilt_power (f : Silt → Silt) : (s.modSilt f).power = s.power := rfl
@[simp] theorem State.modSilt_mem (f : Silt → Silt) : (s.modSilt f).mem = s.mem := rfl
@[simp] theorem State.modSilt_silt (f : Silt → Silt) : (s.modSilt f).silt = f s.silt := rfl
@[simp] theorem State.modSilt_boot (f : Silt → Silt) : (s.modSilt f).boot = s.boot := rfl
@[simp] theorem State.modSilt_edge (f : Silt → Silt) : (s.modSilt f).edge = s.edge := rfl
@[simp] theorem State.modSilt_mgmt (f : Silt → Silt) : (s.modSilt f).mgmt = s.mgmt := rfl
@[simp] theorem State.modSilt_lock (f : Silt → Silt) : (s.modSilt f).lock = s.lock := rfl
@[simp] theorem State.modSilt_siteId (f : Silt → Silt) : (s.modSilt f).siteId = s.siteId := rfl
@[simp] theorem State.modSilt_out (f : Silt → Silt) : (s.modSilt f).out = s.out := rfl
@[simp] theorem State.modSilt_freeCtr (f : Silt → Silt) : (s.modSilt f).freeCtr = s.freeCtr := rfl
@[simp] theorem State.modSilt_pending (f : Silt → Silt) : (s.modSilt f).pending = s.pending := rfl

@[simp] theorem State.modBoot_clock (f : Boot → Boot) : (s.modBoot f).clock = s.clock := rfl
@[simp] theorem State.modBoot_ports (f : Boot → Boot) : (s.modBoot f).ports = s.ports := rfl
@[simp] theorem State.modBoot_tunnels (f : Boot → Boot) : (s.modBoot f).tunnels = s.tunnels := rfl
@[simp] theorem State.modBoot_plan (f : Boot → Boot) : (s.modBoot f).plan = s.plan := rfl
@[simp] theorem State.modBoot_marl (f : Boot → Boot) : (s.modBoot f).marl = s.marl := rfl
@[simp] theorem State.modBoot_xfer (f : Boot → Boot) : (s.modBoot f).xfer = s.xfer := rfl
@[simp] theorem State.modBoot_hosts (f : Boot → Boot) : (s.modBoot f).hosts = s.hosts := rfl
@[simp] theorem State.modBoot_cluster (f : Boot → Boot) : (s.modBoot f).cluster = s.cluster := rfl
@[simp] theorem State.modBoot_power (f : Boot → Boot) : (s.modBoot f).power = s.power := rfl
@[simp] theorem State.modBoot_mem (f : Boot → Boot) : (s.modBoot f).mem = s.mem := rfl
@[simp] theorem State.modBoot_silt (f : Boot → Boot) : (s.modBoot f).silt = s.silt := rfl
@[simp] theorem State.modBoot_boot (f : Boot → Boot) : (s.modBoot f).boot = f s.boot := rfl
@[simp] theorem State.modBoot_edge (f : Boot → Boot) : (s.modBoot f).edge = s.edge := rfl
@[simp] theorem State.modBoot_mgmt (f : Boot → Boot) : (s.modBoot f).mgmt = s.mgmt := rfl
@[simp] theorem State.modBoot_lock (f : Boot → Boot) : (s.modBoot f).lock = s.lock := rfl
@[simp] theorem State.modBoot_siteId (f : Boot → Boot) : (s.modBoot f).siteId = s.siteId := rfl
@[simp] theorem State.modBoot_out (f : Boot → Boot) : (s.modBoot f).out = s.out := rfl
@[simp] theorem State.modBoot_freeCtr (f : Boot → Boot) : (s.modBoot f).freeCtr = s.freeCtr := rfl
@[simp] theorem State.modBoot_pending (f : Boot → Boot) : (s.modBoot f).pending = s.pending := rfl

@[simp] theorem State.modEdge_clock (f : Edge → Edge) : (s.modEdge f).clock = s.clock := rfl
@[simp] theorem State.modEdge_ports (f : Edge → Edge) : (s.modEdge f).ports = s.ports := rfl
@[simp] theorem State.modEdge_tunnels (f : Edge → Edge) : (s.modEdge f).tunnels = s.tunnels := rfl
@[simp] theorem State.modEdge_plan (f : Edge → Edge) : (s.modEdge f).plan = s.plan := rfl
@[simp] theorem State.modEdge_marl (f : Edge → Edge) : (s.modEdge f).marl = s.marl := rfl
@[simp] theorem State.modEdge_xfer (f : Edge → Edge) : (s.modEdge f).xfer = s.xfer := rfl
@[simp] theorem State.modEdge_hosts (f : Edge → Edge) : (s.modEdge f).hosts = s.hosts := rfl
@[simp] theorem State.modEdge_cluster (f : Edge → Edge) : (s.modEdge f).cluster = s.cluster := rfl
@[simp] theorem State.modEdge_power (f : Edge → Edge) : (s.modEdge f).power = s.power := rfl
@[simp] theorem State.modEdge_mem (f : Edge → Edge) : (s.modEdge f).mem = s.mem := rfl
@[simp] theorem State.modEdge_silt (f : Edge → Edge) : (s.modEdge f).silt = s.silt := rfl
@[simp] theorem State.modEdge_boot (f : Edge → Edge) : (s.modEdge f).boot = s.boot := rfl
@[simp] theorem State.modEdge_edge (f : Edge → Edge) : (s.modEdge f).edge = f s.edge := rfl
@[simp] theorem State.modEdge_mgmt (f : Edge → Edge) : (s.modEdge f).mgmt = s.mgmt := rfl
@[simp] theorem State.modEdge_lock (f : Edge → Edge) : (s.modEdge f).lock = s.lock := rfl
@[simp] theorem State.modEdge_siteId (f : Edge → Edge) : (s.modEdge f).siteId = s.siteId := rfl
@[simp] theorem State.modEdge_out (f : Edge → Edge) : (s.modEdge f).out = s.out := rfl
@[simp] theorem State.modEdge_freeCtr (f : Edge → Edge) : (s.modEdge f).freeCtr = s.freeCtr := rfl
@[simp] theorem State.modEdge_pending (f : Edge → Edge) : (s.modEdge f).pending = s.pending := rfl

@[simp] theorem State.modMgmt_clock (f : Mgmt → Mgmt) : (s.modMgmt f).clock = s.clock := rfl
@[simp] theorem State.modMgmt_ports (f : Mgmt → Mgmt) : (s.modMgmt f).ports = s.ports := rfl
@[simp] theorem State.modMgmt_tunnels (f : Mgmt → Mgmt) : (s.modMgmt f).tunnels = s.tunnels := rfl
@[simp] theorem State.modMgmt_plan (f : Mgmt → Mgmt) : (s.modMgmt f).plan = s.plan := rfl
@[simp] theorem State.modMgmt_marl (f : Mgmt → Mgmt) : (s.modMgmt f).marl = s.marl := rfl
@[simp] theorem State.modMgmt_xfer (f : Mgmt → Mgmt) : (s.modMgmt f).xfer = s.xfer := rfl
@[simp] theorem State.modMgmt_hosts (f : Mgmt → Mgmt) : (s.modMgmt f).hosts = s.hosts := rfl
@[simp] theorem State.modMgmt_cluster (f : Mgmt → Mgmt) : (s.modMgmt f).cluster = s.cluster := rfl
@[simp] theorem State.modMgmt_power (f : Mgmt → Mgmt) : (s.modMgmt f).power = s.power := rfl
@[simp] theorem State.modMgmt_mem (f : Mgmt → Mgmt) : (s.modMgmt f).mem = s.mem := rfl
@[simp] theorem State.modMgmt_silt (f : Mgmt → Mgmt) : (s.modMgmt f).silt = s.silt := rfl
@[simp] theorem State.modMgmt_boot (f : Mgmt → Mgmt) : (s.modMgmt f).boot = s.boot := rfl
@[simp] theorem State.modMgmt_edge (f : Mgmt → Mgmt) : (s.modMgmt f).edge = s.edge := rfl
@[simp] theorem State.modMgmt_mgmt (f : Mgmt → Mgmt) : (s.modMgmt f).mgmt = f s.mgmt := rfl
@[simp] theorem State.modMgmt_lock (f : Mgmt → Mgmt) : (s.modMgmt f).lock = s.lock := rfl
@[simp] theorem State.modMgmt_siteId (f : Mgmt → Mgmt) : (s.modMgmt f).siteId = s.siteId := rfl
@[simp] theorem State.modMgmt_out (f : Mgmt → Mgmt) : (s.modMgmt f).out = s.out := rfl
@[simp] theorem State.modMgmt_freeCtr (f : Mgmt → Mgmt) : (s.modMgmt f).freeCtr = s.freeCtr := rfl
@[simp] theorem State.modMgmt_pending (f : Mgmt → Mgmt) : (s.modMgmt f).pending = s.pending := rfl

@[simp] theorem State.modClock_clock (f : Clock → Clock) : (s.modClock f).clock = f s.clock := rfl
@[simp] theorem State.modClock_ports (f : Clock → Clock) : (s.modClock f).ports = s.ports := rfl
@[simp] theorem State.modClock_tunnels (f : Clock → Clock) : (s.modClock f).tunnels = s.tunnels := rfl
@[simp] theorem State.modClock_plan (f : Clock → Clock) : (s.modClock f).plan = s.plan := rfl
@[simp] theorem State.modClock_marl (f : Clock → Clock) : (s.modClock f).marl = s.marl := rfl
@[simp] theorem State.modClock_xfer (f : Clock → Clock) : (s.modClock f).xfer = s.xfer := rfl
@[simp] theorem State.modClock_hosts (f : Clock → Clock) : (s.modClock f).hosts = s.hosts := rfl
@[simp] theorem State.modClock_cluster (f : Clock → Clock) : (s.modClock f).cluster = s.cluster := rfl
@[simp] theorem State.modClock_power (f : Clock → Clock) : (s.modClock f).power = s.power := rfl
@[simp] theorem State.modClock_mem (f : Clock → Clock) : (s.modClock f).mem = s.mem := rfl
@[simp] theorem State.modClock_silt (f : Clock → Clock) : (s.modClock f).silt = s.silt := rfl
@[simp] theorem State.modClock_boot (f : Clock → Clock) : (s.modClock f).boot = s.boot := rfl
@[simp] theorem State.modClock_edge (f : Clock → Clock) : (s.modClock f).edge = s.edge := rfl
@[simp] theorem State.modClock_mgmt (f : Clock → Clock) : (s.modClock f).mgmt = s.mgmt := rfl
@[simp] theorem State.modClock_lock (f : Clock → Clock) : (s.modClock f).lock = s.lock := rfl
@[simp] theorem State.modClock_siteId (f : Clock → Clock) : (s.modClock f).siteId = s.siteId := rfl
@[simp] theorem State.modClock_out (f : Clock → Clock) : (s.modClock f).out = s.out := rfl
@[simp] theorem State.modClock_freeCtr (f : Clock → Clock) : (s.modClock f).freeCtr = s.freeCtr := rfl
@[simp] theorem State.modClock_pending (f : Clock → Clock) : (s.modClock f).pending = s.pending := rfl

@[simp] theorem State.modHosts_clock (f : Hosts → Hosts) : (s.modHosts f).clock = s.clock := rfl
@[simp] theorem State.modHosts_ports (f : Hosts → Hosts) : (s.modHosts f).ports = s.ports := rfl
@[simp] theorem State.modHosts_tunnels (f : Hosts → Hosts) : (s.modHosts f).tunnels = s.tunnels := rfl
@[simp] theorem State.modHosts_plan (f : Hosts → Hosts) : (s.modHosts f).plan = s.plan := rfl
@[simp] theorem State.modHosts_marl (f : Hosts → Hosts) : (s.modHosts f).marl = s.marl := rfl
@[simp] theorem State.modHosts_xfer (f : Hosts → Hosts) : (s.modHosts f).xfer = s.xfer := rfl
@[simp] theorem State.modHosts_hosts (f : Hosts → Hosts) : (s.modHosts f).hosts = f s.hosts := rfl
@[simp] theorem State.modHosts_cluster (f : Hosts → Hosts) : (s.modHosts f).cluster = s.cluster := rfl
@[simp] theorem State.modHosts_power (f : Hosts → Hosts) : (s.modHosts f).power = s.power := rfl
@[simp] theorem State.modHosts_mem (f : Hosts → Hosts) : (s.modHosts f).mem = s.mem := rfl
@[simp] theorem State.modHosts_silt (f : Hosts → Hosts) : (s.modHosts f).silt = s.silt := rfl
@[simp] theorem State.modHosts_boot (f : Hosts → Hosts) : (s.modHosts f).boot = s.boot := rfl
@[simp] theorem State.modHosts_edge (f : Hosts → Hosts) : (s.modHosts f).edge = s.edge := rfl
@[simp] theorem State.modHosts_mgmt (f : Hosts → Hosts) : (s.modHosts f).mgmt = s.mgmt := rfl
@[simp] theorem State.modHosts_lock (f : Hosts → Hosts) : (s.modHosts f).lock = s.lock := rfl
@[simp] theorem State.modHosts_siteId (f : Hosts → Hosts) : (s.modHosts f).siteId = s.siteId := rfl
@[simp] theorem State.modHosts_out (f : Hosts → Hosts) : (s.modHosts f).out = s.out := rfl
@[simp] theorem State.modHosts_freeCtr (f : Hosts → Hosts) : (s.modHosts f).freeCtr = s.freeCtr := rfl
@[simp] theorem State.modHosts_pending (f : Hosts → Hosts) : (s.modHosts f).pending = s.pending := rfl

@[simp] theorem State.setSlice_clock (h sl : Nat) (v : Slice) : (s.setSlice h sl v).clock = s.clock := rfl
@[simp] theorem State.setSlice_ports (h sl : Nat) (v : Slice) : (s.setSlice h sl v).ports = s.ports := rfl
@[simp] theorem State.setSlice_tunnels (h sl : Nat) (v : Slice) : (s.setSlice h sl v).tunnels = s.tunnels := rfl
@[simp] theorem State.setSlice_plan (h sl : Nat) (v : Slice) : (s.setSlice h sl v).plan = s.plan := rfl
@[simp] theorem State.setSlice_marl (h sl : Nat) (v : Slice) : (s.setSlice h sl v).marl = s.marl := rfl
@[simp] theorem State.setSlice_xfer (h sl : Nat) (v : Slice) : (s.setSlice h sl v).xfer = s.xfer := rfl
@[simp] theorem State.setSlice_cluster (h sl : Nat) (v : Slice) : (s.setSlice h sl v).cluster = s.cluster := rfl
@[simp] theorem State.setSlice_power (h sl : Nat) (v : Slice) : (s.setSlice h sl v).power = s.power := rfl
@[simp] theorem State.setSlice_mem (h sl : Nat) (v : Slice) : (s.setSlice h sl v).mem = s.mem := rfl
@[simp] theorem State.setSlice_silt (h sl : Nat) (v : Slice) : (s.setSlice h sl v).silt = s.silt := rfl
@[simp] theorem State.setSlice_boot (h sl : Nat) (v : Slice) : (s.setSlice h sl v).boot = s.boot := rfl
@[simp] theorem State.setSlice_edge (h sl : Nat) (v : Slice) : (s.setSlice h sl v).edge = s.edge := rfl
@[simp] theorem State.setSlice_mgmt (h sl : Nat) (v : Slice) : (s.setSlice h sl v).mgmt = s.mgmt := rfl
@[simp] theorem State.setSlice_lock (h sl : Nat) (v : Slice) : (s.setSlice h sl v).lock = s.lock := rfl
@[simp] theorem State.setSlice_siteId (h sl : Nat) (v : Slice) : (s.setSlice h sl v).siteId = s.siteId := rfl
@[simp] theorem State.setSlice_out (h sl : Nat) (v : Slice) : (s.setSlice h sl v).out = s.out := rfl
@[simp] theorem State.setSlice_freeCtr (h sl : Nat) (v : Slice) : (s.setSlice h sl v).freeCtr = s.freeCtr := rfl
@[simp] theorem State.setSlice_pending (h sl : Nat) (v : Slice) : (s.setSlice h sl v).pending = s.pending := rfl

@[simp] theorem State.modSlice_clock (h sl : Nat) (f : Slice → Slice) : (s.modSlice h sl f).clock = s.clock := rfl
@[simp] theorem State.modSlice_ports (h sl : Nat) (f : Slice → Slice) : (s.modSlice h sl f).ports = s.ports := rfl
@[simp] theorem State.modSlice_tunnels (h sl : Nat) (f : Slice → Slice) : (s.modSlice h sl f).tunnels = s.tunnels := rfl
@[simp] theorem State.modSlice_plan (h sl : Nat) (f : Slice → Slice) : (s.modSlice h sl f).plan = s.plan := rfl
@[simp] theorem State.modSlice_marl (h sl : Nat) (f : Slice → Slice) : (s.modSlice h sl f).marl = s.marl := rfl
@[simp] theorem State.modSlice_xfer (h sl : Nat) (f : Slice → Slice) : (s.modSlice h sl f).xfer = s.xfer := rfl
@[simp] theorem State.modSlice_cluster (h sl : Nat) (f : Slice → Slice) : (s.modSlice h sl f).cluster = s.cluster := rfl
@[simp] theorem State.modSlice_power (h sl : Nat) (f : Slice → Slice) : (s.modSlice h sl f).power = s.power := rfl
@[simp] theorem State.modSlice_mem (h sl : Nat) (f : Slice → Slice) : (s.modSlice h sl f).mem = s.mem := rfl
@[simp] theorem State.modSlice_silt (h sl : Nat) (f : Slice → Slice) : (s.modSlice h sl f).silt = s.silt := rfl
@[simp] theorem State.modSlice_boot (h sl : Nat) (f : Slice → Slice) : (s.modSlice h sl f).boot = s.boot := rfl
@[simp] theorem State.modSlice_edge (h sl : Nat) (f : Slice → Slice) : (s.modSlice h sl f).edge = s.edge := rfl
@[simp] theorem State.modSlice_mgmt (h sl : Nat) (f : Slice → Slice) : (s.modSlice h sl f).mgmt = s.mgmt := rfl
@[simp] theorem State.modSlice_lock (h sl : Nat) (f : Slice → Slice) : (s.modSlice h sl f).lock = s.lock := rfl
@[simp] theorem State.modSlice_siteId (h sl : Nat) (f : Slice → Slice) : (s.modSlice h sl f).siteId = s.siteId := rfl
@[simp] theorem State.modSlice_out (h sl : Nat) (f : Slice → Slice) : (s.modSlice h sl f).out = s.out := rfl
@[simp] theorem State.modSlice_freeCtr (h sl : Nat) (f : Slice → Slice) : (s.modSlice h sl f).freeCtr = s.freeCtr := rfl
@[simp] theorem State.modSlice_pending (h sl : Nat) (f : Slice → Slice) : (s.modSlice h sl f).pending = s.pending := rfl

@[simp] theorem State.setQp_clock (h sl q : Nat) (v : Qp) : (s.setQp h sl q v).clock = s.clock := rfl
@[simp] theorem State.setQp_ports (h sl q : Nat) (v : Qp) : (s.setQp h sl q v).ports = s.ports := rfl
@[simp] theorem State.setQp_tunnels (h sl q : Nat) (v : Qp) : (s.setQp h sl q v).tunnels = s.tunnels := rfl
@[simp] theorem State.setQp_plan (h sl q : Nat) (v : Qp) : (s.setQp h sl q v).plan = s.plan := rfl
@[simp] theorem State.setQp_marl (h sl q : Nat) (v : Qp) : (s.setQp h sl q v).marl = s.marl := rfl
@[simp] theorem State.setQp_xfer (h sl q : Nat) (v : Qp) : (s.setQp h sl q v).xfer = s.xfer := rfl
@[simp] theorem State.setQp_cluster (h sl q : Nat) (v : Qp) : (s.setQp h sl q v).cluster = s.cluster := rfl
@[simp] theorem State.setQp_power (h sl q : Nat) (v : Qp) : (s.setQp h sl q v).power = s.power := rfl
@[simp] theorem State.setQp_mem (h sl q : Nat) (v : Qp) : (s.setQp h sl q v).mem = s.mem := rfl
@[simp] theorem State.setQp_silt (h sl q : Nat) (v : Qp) : (s.setQp h sl q v).silt = s.silt := rfl
@[simp] theorem State.setQp_boot (h sl q : Nat) (v : Qp) : (s.setQp h sl q v).boot = s.boot := rfl
@[simp] theorem State.setQp_edge (h sl q : Nat) (v : Qp) : (s.setQp h sl q v).edge = s.edge := rfl
@[simp] theorem State.setQp_mgmt (h sl q : Nat) (v : Qp) : (s.setQp h sl q v).mgmt = s.mgmt := rfl
@[simp] theorem State.setQp_lock (h sl q : Nat) (v : Qp) : (s.setQp h sl q v).lock = s.lock := rfl
@[simp] theorem State.setQp_siteId (h sl q : Nat) (v : Qp) : (s.setQp h sl q v).siteId = s.siteId := rfl
@[simp] theorem State.setQp_out (h sl q : Nat) (v : Qp) : (s.setQp h sl q v).out = s.out := rfl
@[simp] theorem State.setQp_freeCtr (h sl q : Nat) (v : Qp) : (s.setQp h sl q v).freeCtr = s.freeCtr := rfl
@[simp] theorem State.setQp_pending (h sl q : Nat) (v : Qp) : (s.setQp h sl q v).pending = s.pending := rfl

@[simp] theorem State.modQp_clock (h sl q : Nat) (f : Qp → Qp) : (s.modQp h sl q f).clock = s.clock := rfl
@[simp] theorem State.modQp_ports (h sl q : Nat) (f : Qp → Qp) : (s.modQp h sl q f).ports = s.ports := rfl
@[simp] theorem State.modQp_tunnels (h sl q : Nat) (f : Qp → Qp) : (s.modQp h sl q f).tunnels = s.tunnels := rfl
@[simp] theorem State.modQp_plan (h sl q : Nat) (f : Qp → Qp) : (s.modQp h sl q f).plan = s.plan := rfl
@[simp] theorem State.modQp_marl (h sl q : Nat) (f : Qp → Qp) : (s.modQp h sl q f).marl = s.marl := rfl
@[simp] theorem State.modQp_xfer (h sl q : Nat) (f : Qp → Qp) : (s.modQp h sl q f).xfer = s.xfer := rfl
@[simp] theorem State.modQp_cluster (h sl q : Nat) (f : Qp → Qp) : (s.modQp h sl q f).cluster = s.cluster := rfl
@[simp] theorem State.modQp_power (h sl q : Nat) (f : Qp → Qp) : (s.modQp h sl q f).power = s.power := rfl
@[simp] theorem State.modQp_mem (h sl q : Nat) (f : Qp → Qp) : (s.modQp h sl q f).mem = s.mem := rfl
@[simp] theorem State.modQp_silt (h sl q : Nat) (f : Qp → Qp) : (s.modQp h sl q f).silt = s.silt := rfl
@[simp] theorem State.modQp_boot (h sl q : Nat) (f : Qp → Qp) : (s.modQp h sl q f).boot = s.boot := rfl
@[simp] theorem State.modQp_edge (h sl q : Nat) (f : Qp → Qp) : (s.modQp h sl q f).edge = s.edge := rfl
@[simp] theorem State.modQp_mgmt (h sl q : Nat) (f : Qp → Qp) : (s.modQp h sl q f).mgmt = s.mgmt := rfl
@[simp] theorem State.modQp_lock (h sl q : Nat) (f : Qp → Qp) : (s.modQp h sl q f).lock = s.lock := rfl
@[simp] theorem State.modQp_siteId (h sl q : Nat) (f : Qp → Qp) : (s.modQp h sl q f).siteId = s.siteId := rfl
@[simp] theorem State.modQp_out (h sl q : Nat) (f : Qp → Qp) : (s.modQp h sl q f).out = s.out := rfl
@[simp] theorem State.modQp_freeCtr (h sl q : Nat) (f : Qp → Qp) : (s.modQp h sl q f).freeCtr = s.freeCtr := rfl
@[simp] theorem State.modQp_pending (h sl q : Nat) (f : Qp → Qp) : (s.modQp h sl q f).pending = s.pending := rfl

@[simp] theorem State.setRoot_clock (r : Nat) (v : Root) : (s.setRoot r v).clock = s.clock := rfl
@[simp] theorem State.setRoot_ports (r : Nat) (v : Root) : (s.setRoot r v).ports = s.ports := rfl
@[simp] theorem State.setRoot_tunnels (r : Nat) (v : Root) : (s.setRoot r v).tunnels = s.tunnels := rfl
@[simp] theorem State.setRoot_plan (r : Nat) (v : Root) : (s.setRoot r v).plan = s.plan := rfl
@[simp] theorem State.setRoot_marl (r : Nat) (v : Root) : (s.setRoot r v).marl = s.marl := rfl
@[simp] theorem State.setRoot_hosts (r : Nat) (v : Root) : (s.setRoot r v).hosts = s.hosts := rfl
@[simp] theorem State.setRoot_cluster (r : Nat) (v : Root) : (s.setRoot r v).cluster = s.cluster := rfl
@[simp] theorem State.setRoot_power (r : Nat) (v : Root) : (s.setRoot r v).power = s.power := rfl
@[simp] theorem State.setRoot_mem (r : Nat) (v : Root) : (s.setRoot r v).mem = s.mem := rfl
@[simp] theorem State.setRoot_silt (r : Nat) (v : Root) : (s.setRoot r v).silt = s.silt := rfl
@[simp] theorem State.setRoot_boot (r : Nat) (v : Root) : (s.setRoot r v).boot = s.boot := rfl
@[simp] theorem State.setRoot_edge (r : Nat) (v : Root) : (s.setRoot r v).edge = s.edge := rfl
@[simp] theorem State.setRoot_mgmt (r : Nat) (v : Root) : (s.setRoot r v).mgmt = s.mgmt := rfl
@[simp] theorem State.setRoot_lock (r : Nat) (v : Root) : (s.setRoot r v).lock = s.lock := rfl
@[simp] theorem State.setRoot_siteId (r : Nat) (v : Root) : (s.setRoot r v).siteId = s.siteId := rfl
@[simp] theorem State.setRoot_out (r : Nat) (v : Root) : (s.setRoot r v).out = s.out := rfl
@[simp] theorem State.setRoot_freeCtr (r : Nat) (v : Root) : (s.setRoot r v).freeCtr = s.freeCtr := rfl
@[simp] theorem State.setRoot_pending (r : Nat) (v : Root) : (s.setRoot r v).pending = s.pending := rfl

@[simp] theorem State.modRoot_clock (r : Nat) (f : Root → Root) : (s.modRoot r f).clock = s.clock := rfl
@[simp] theorem State.modRoot_ports (r : Nat) (f : Root → Root) : (s.modRoot r f).ports = s.ports := rfl
@[simp] theorem State.modRoot_tunnels (r : Nat) (f : Root → Root) : (s.modRoot r f).tunnels = s.tunnels := rfl
@[simp] theorem State.modRoot_plan (r : Nat) (f : Root → Root) : (s.modRoot r f).plan = s.plan := rfl
@[simp] theorem State.modRoot_marl (r : Nat) (f : Root → Root) : (s.modRoot r f).marl = s.marl := rfl
@[simp] theorem State.modRoot_hosts (r : Nat) (f : Root → Root) : (s.modRoot r f).hosts = s.hosts := rfl
@[simp] theorem State.modRoot_cluster (r : Nat) (f : Root → Root) : (s.modRoot r f).cluster = s.cluster := rfl
@[simp] theorem State.modRoot_power (r : Nat) (f : Root → Root) : (s.modRoot r f).power = s.power := rfl
@[simp] theorem State.modRoot_mem (r : Nat) (f : Root → Root) : (s.modRoot r f).mem = s.mem := rfl
@[simp] theorem State.modRoot_silt (r : Nat) (f : Root → Root) : (s.modRoot r f).silt = s.silt := rfl
@[simp] theorem State.modRoot_boot (r : Nat) (f : Root → Root) : (s.modRoot r f).boot = s.boot := rfl
@[simp] theorem State.modRoot_edge (r : Nat) (f : Root → Root) : (s.modRoot r f).edge = s.edge := rfl
@[simp] theorem State.modRoot_mgmt (r : Nat) (f : Root → Root) : (s.modRoot r f).mgmt = s.mgmt := rfl
@[simp] theorem State.modRoot_lock (r : Nat) (f : Root → Root) : (s.modRoot r f).lock = s.lock := rfl
@[simp] theorem State.modRoot_siteId (r : Nat) (f : Root → Root) : (s.modRoot r f).siteId = s.siteId := rfl
@[simp] theorem State.modRoot_out (r : Nat) (f : Root → Root) : (s.modRoot r f).out = s.out := rfl
@[simp] theorem State.modRoot_freeCtr (r : Nat) (f : Root → Root) : (s.modRoot r f).freeCtr = s.freeCtr := rfl
@[simp] theorem State.modRoot_pending (r : Nat) (f : Root → Root) : (s.modRoot r f).pending = s.pending := rfl

@[simp] theorem State.setEp_clock (r : Nat) (v : Ep) : (s.setEp r v).clock = s.clock := rfl
@[simp] theorem State.setEp_ports (r : Nat) (v : Ep) : (s.setEp r v).ports = s.ports := rfl
@[simp] theorem State.setEp_tunnels (r : Nat) (v : Ep) : (s.setEp r v).tunnels = s.tunnels := rfl
@[simp] theorem State.setEp_plan (r : Nat) (v : Ep) : (s.setEp r v).plan = s.plan := rfl
@[simp] theorem State.setEp_marl (r : Nat) (v : Ep) : (s.setEp r v).marl = s.marl := rfl
@[simp] theorem State.setEp_hosts (r : Nat) (v : Ep) : (s.setEp r v).hosts = s.hosts := rfl
@[simp] theorem State.setEp_cluster (r : Nat) (v : Ep) : (s.setEp r v).cluster = s.cluster := rfl
@[simp] theorem State.setEp_power (r : Nat) (v : Ep) : (s.setEp r v).power = s.power := rfl
@[simp] theorem State.setEp_mem (r : Nat) (v : Ep) : (s.setEp r v).mem = s.mem := rfl
@[simp] theorem State.setEp_silt (r : Nat) (v : Ep) : (s.setEp r v).silt = s.silt := rfl
@[simp] theorem State.setEp_boot (r : Nat) (v : Ep) : (s.setEp r v).boot = s.boot := rfl
@[simp] theorem State.setEp_edge (r : Nat) (v : Ep) : (s.setEp r v).edge = s.edge := rfl
@[simp] theorem State.setEp_mgmt (r : Nat) (v : Ep) : (s.setEp r v).mgmt = s.mgmt := rfl
@[simp] theorem State.setEp_lock (r : Nat) (v : Ep) : (s.setEp r v).lock = s.lock := rfl
@[simp] theorem State.setEp_siteId (r : Nat) (v : Ep) : (s.setEp r v).siteId = s.siteId := rfl
@[simp] theorem State.setEp_out (r : Nat) (v : Ep) : (s.setEp r v).out = s.out := rfl
@[simp] theorem State.setEp_freeCtr (r : Nat) (v : Ep) : (s.setEp r v).freeCtr = s.freeCtr := rfl
@[simp] theorem State.setEp_pending (r : Nat) (v : Ep) : (s.setEp r v).pending = s.pending := rfl

@[simp] theorem State.modEp_clock (r : Nat) (f : Ep → Ep) : (s.modEp r f).clock = s.clock := rfl
@[simp] theorem State.modEp_ports (r : Nat) (f : Ep → Ep) : (s.modEp r f).ports = s.ports := rfl
@[simp] theorem State.modEp_tunnels (r : Nat) (f : Ep → Ep) : (s.modEp r f).tunnels = s.tunnels := rfl
@[simp] theorem State.modEp_plan (r : Nat) (f : Ep → Ep) : (s.modEp r f).plan = s.plan := rfl
@[simp] theorem State.modEp_marl (r : Nat) (f : Ep → Ep) : (s.modEp r f).marl = s.marl := rfl
@[simp] theorem State.modEp_hosts (r : Nat) (f : Ep → Ep) : (s.modEp r f).hosts = s.hosts := rfl
@[simp] theorem State.modEp_cluster (r : Nat) (f : Ep → Ep) : (s.modEp r f).cluster = s.cluster := rfl
@[simp] theorem State.modEp_power (r : Nat) (f : Ep → Ep) : (s.modEp r f).power = s.power := rfl
@[simp] theorem State.modEp_mem (r : Nat) (f : Ep → Ep) : (s.modEp r f).mem = s.mem := rfl
@[simp] theorem State.modEp_silt (r : Nat) (f : Ep → Ep) : (s.modEp r f).silt = s.silt := rfl
@[simp] theorem State.modEp_boot (r : Nat) (f : Ep → Ep) : (s.modEp r f).boot = s.boot := rfl
@[simp] theorem State.modEp_edge (r : Nat) (f : Ep → Ep) : (s.modEp r f).edge = s.edge := rfl
@[simp] theorem State.modEp_mgmt (r : Nat) (f : Ep → Ep) : (s.modEp r f).mgmt = s.mgmt := rfl
@[simp] theorem State.modEp_lock (r : Nat) (f : Ep → Ep) : (s.modEp r f).lock = s.lock := rfl
@[simp] theorem State.modEp_siteId (r : Nat) (f : Ep → Ep) : (s.modEp r f).siteId = s.siteId := rfl
@[simp] theorem State.modEp_out (r : Nat) (f : Ep → Ep) : (s.modEp r f).out = s.out := rfl
@[simp] theorem State.modEp_freeCtr (r : Nat) (f : Ep → Ep) : (s.modEp r f).freeCtr = s.freeCtr := rfl
@[simp] theorem State.modEp_pending (r : Nat) (f : Ep → Ep) : (s.modEp r f).pending = s.pending := rfl

@[simp] theorem State.setDslot_clock (r : Nat) (v : Slot) : (s.setDslot r v).clock = s.clock := rfl
@[simp] theorem State.setDslot_ports (r : Nat) (v : Slot) : (s.setDslot r v).ports = s.ports := rfl
@[simp] theorem State.setDslot_tunnels (r : Nat) (v : Slot) : (s.setDslot r v).tunnels = s.tunnels := rfl
@[simp] theorem State.setDslot_plan (r : Nat) (v : Slot) : (s.setDslot r v).plan = s.plan := rfl
@[simp] theorem State.setDslot_marl (r : Nat) (v : Slot) : (s.setDslot r v).marl = s.marl := rfl
@[simp] theorem State.setDslot_hosts (r : Nat) (v : Slot) : (s.setDslot r v).hosts = s.hosts := rfl
@[simp] theorem State.setDslot_cluster (r : Nat) (v : Slot) : (s.setDslot r v).cluster = s.cluster := rfl
@[simp] theorem State.setDslot_power (r : Nat) (v : Slot) : (s.setDslot r v).power = s.power := rfl
@[simp] theorem State.setDslot_mem (r : Nat) (v : Slot) : (s.setDslot r v).mem = s.mem := rfl
@[simp] theorem State.setDslot_silt (r : Nat) (v : Slot) : (s.setDslot r v).silt = s.silt := rfl
@[simp] theorem State.setDslot_boot (r : Nat) (v : Slot) : (s.setDslot r v).boot = s.boot := rfl
@[simp] theorem State.setDslot_edge (r : Nat) (v : Slot) : (s.setDslot r v).edge = s.edge := rfl
@[simp] theorem State.setDslot_mgmt (r : Nat) (v : Slot) : (s.setDslot r v).mgmt = s.mgmt := rfl
@[simp] theorem State.setDslot_lock (r : Nat) (v : Slot) : (s.setDslot r v).lock = s.lock := rfl
@[simp] theorem State.setDslot_siteId (r : Nat) (v : Slot) : (s.setDslot r v).siteId = s.siteId := rfl
@[simp] theorem State.setDslot_out (r : Nat) (v : Slot) : (s.setDslot r v).out = s.out := rfl
@[simp] theorem State.setDslot_freeCtr (r : Nat) (v : Slot) : (s.setDslot r v).freeCtr = s.freeCtr := rfl
@[simp] theorem State.setDslot_pending (r : Nat) (v : Slot) : (s.setDslot r v).pending = s.pending := rfl

@[simp] theorem State.setFn_clock (r : Nat) (v : Fn) : (s.setFn r v).clock = s.clock := rfl
@[simp] theorem State.setFn_ports (r : Nat) (v : Fn) : (s.setFn r v).ports = s.ports := rfl
@[simp] theorem State.setFn_tunnels (r : Nat) (v : Fn) : (s.setFn r v).tunnels = s.tunnels := rfl
@[simp] theorem State.setFn_plan (r : Nat) (v : Fn) : (s.setFn r v).plan = s.plan := rfl
@[simp] theorem State.setFn_marl (r : Nat) (v : Fn) : (s.setFn r v).marl = s.marl := rfl
@[simp] theorem State.setFn_hosts (r : Nat) (v : Fn) : (s.setFn r v).hosts = s.hosts := rfl
@[simp] theorem State.setFn_cluster (r : Nat) (v : Fn) : (s.setFn r v).cluster = s.cluster := rfl
@[simp] theorem State.setFn_power (r : Nat) (v : Fn) : (s.setFn r v).power = s.power := rfl
@[simp] theorem State.setFn_mem (r : Nat) (v : Fn) : (s.setFn r v).mem = s.mem := rfl
@[simp] theorem State.setFn_silt (r : Nat) (v : Fn) : (s.setFn r v).silt = s.silt := rfl
@[simp] theorem State.setFn_boot (r : Nat) (v : Fn) : (s.setFn r v).boot = s.boot := rfl
@[simp] theorem State.setFn_edge (r : Nat) (v : Fn) : (s.setFn r v).edge = s.edge := rfl
@[simp] theorem State.setFn_mgmt (r : Nat) (v : Fn) : (s.setFn r v).mgmt = s.mgmt := rfl
@[simp] theorem State.setFn_lock (r : Nat) (v : Fn) : (s.setFn r v).lock = s.lock := rfl
@[simp] theorem State.setFn_siteId (r : Nat) (v : Fn) : (s.setFn r v).siteId = s.siteId := rfl
@[simp] theorem State.setFn_out (r : Nat) (v : Fn) : (s.setFn r v).out = s.out := rfl
@[simp] theorem State.setFn_freeCtr (r : Nat) (v : Fn) : (s.setFn r v).freeCtr = s.freeCtr := rfl
@[simp] theorem State.setFn_pending (r : Nat) (v : Fn) : (s.setFn r v).pending = s.pending := rfl

@[simp] theorem State.modFn_clock (r : Nat) (f : Fn → Fn) : (s.modFn r f).clock = s.clock := rfl
@[simp] theorem State.modFn_ports (r : Nat) (f : Fn → Fn) : (s.modFn r f).ports = s.ports := rfl
@[simp] theorem State.modFn_tunnels (r : Nat) (f : Fn → Fn) : (s.modFn r f).tunnels = s.tunnels := rfl
@[simp] theorem State.modFn_plan (r : Nat) (f : Fn → Fn) : (s.modFn r f).plan = s.plan := rfl
@[simp] theorem State.modFn_marl (r : Nat) (f : Fn → Fn) : (s.modFn r f).marl = s.marl := rfl
@[simp] theorem State.modFn_hosts (r : Nat) (f : Fn → Fn) : (s.modFn r f).hosts = s.hosts := rfl
@[simp] theorem State.modFn_cluster (r : Nat) (f : Fn → Fn) : (s.modFn r f).cluster = s.cluster := rfl
@[simp] theorem State.modFn_power (r : Nat) (f : Fn → Fn) : (s.modFn r f).power = s.power := rfl
@[simp] theorem State.modFn_mem (r : Nat) (f : Fn → Fn) : (s.modFn r f).mem = s.mem := rfl
@[simp] theorem State.modFn_silt (r : Nat) (f : Fn → Fn) : (s.modFn r f).silt = s.silt := rfl
@[simp] theorem State.modFn_boot (r : Nat) (f : Fn → Fn) : (s.modFn r f).boot = s.boot := rfl
@[simp] theorem State.modFn_edge (r : Nat) (f : Fn → Fn) : (s.modFn r f).edge = s.edge := rfl
@[simp] theorem State.modFn_mgmt (r : Nat) (f : Fn → Fn) : (s.modFn r f).mgmt = s.mgmt := rfl
@[simp] theorem State.modFn_lock (r : Nat) (f : Fn → Fn) : (s.modFn r f).lock = s.lock := rfl
@[simp] theorem State.modFn_siteId (r : Nat) (f : Fn → Fn) : (s.modFn r f).siteId = s.siteId := rfl
@[simp] theorem State.modFn_out (r : Nat) (f : Fn → Fn) : (s.modFn r f).out = s.out := rfl
@[simp] theorem State.modFn_freeCtr (r : Nat) (f : Fn → Fn) : (s.modFn r f).freeCtr = s.freeCtr := rfl
@[simp] theorem State.modFn_pending (r : Nat) (f : Fn → Fn) : (s.modFn r f).pending = s.pending := rfl

@[simp] theorem State.setCh_clock (r : Nat) (v : Ch) : (s.setCh r v).clock = s.clock := rfl
@[simp] theorem State.setCh_ports (r : Nat) (v : Ch) : (s.setCh r v).ports = s.ports := rfl
@[simp] theorem State.setCh_tunnels (r : Nat) (v : Ch) : (s.setCh r v).tunnels = s.tunnels := rfl
@[simp] theorem State.setCh_plan (r : Nat) (v : Ch) : (s.setCh r v).plan = s.plan := rfl
@[simp] theorem State.setCh_marl (r : Nat) (v : Ch) : (s.setCh r v).marl = s.marl := rfl
@[simp] theorem State.setCh_hosts (r : Nat) (v : Ch) : (s.setCh r v).hosts = s.hosts := rfl
@[simp] theorem State.setCh_cluster (r : Nat) (v : Ch) : (s.setCh r v).cluster = s.cluster := rfl
@[simp] theorem State.setCh_power (r : Nat) (v : Ch) : (s.setCh r v).power = s.power := rfl
@[simp] theorem State.setCh_mem (r : Nat) (v : Ch) : (s.setCh r v).mem = s.mem := rfl
@[simp] theorem State.setCh_silt (r : Nat) (v : Ch) : (s.setCh r v).silt = s.silt := rfl
@[simp] theorem State.setCh_boot (r : Nat) (v : Ch) : (s.setCh r v).boot = s.boot := rfl
@[simp] theorem State.setCh_edge (r : Nat) (v : Ch) : (s.setCh r v).edge = s.edge := rfl
@[simp] theorem State.setCh_mgmt (r : Nat) (v : Ch) : (s.setCh r v).mgmt = s.mgmt := rfl
@[simp] theorem State.setCh_lock (r : Nat) (v : Ch) : (s.setCh r v).lock = s.lock := rfl
@[simp] theorem State.setCh_siteId (r : Nat) (v : Ch) : (s.setCh r v).siteId = s.siteId := rfl
@[simp] theorem State.setCh_out (r : Nat) (v : Ch) : (s.setCh r v).out = s.out := rfl
@[simp] theorem State.setCh_freeCtr (r : Nat) (v : Ch) : (s.setCh r v).freeCtr = s.freeCtr := rfl
@[simp] theorem State.setCh_pending (r : Nat) (v : Ch) : (s.setCh r v).pending = s.pending := rfl

@[simp] theorem State.modCh_clock (r : Nat) (f : Ch → Ch) : (s.modCh r f).clock = s.clock := rfl
@[simp] theorem State.modCh_ports (r : Nat) (f : Ch → Ch) : (s.modCh r f).ports = s.ports := rfl
@[simp] theorem State.modCh_tunnels (r : Nat) (f : Ch → Ch) : (s.modCh r f).tunnels = s.tunnels := rfl
@[simp] theorem State.modCh_plan (r : Nat) (f : Ch → Ch) : (s.modCh r f).plan = s.plan := rfl
@[simp] theorem State.modCh_marl (r : Nat) (f : Ch → Ch) : (s.modCh r f).marl = s.marl := rfl
@[simp] theorem State.modCh_hosts (r : Nat) (f : Ch → Ch) : (s.modCh r f).hosts = s.hosts := rfl
@[simp] theorem State.modCh_cluster (r : Nat) (f : Ch → Ch) : (s.modCh r f).cluster = s.cluster := rfl
@[simp] theorem State.modCh_power (r : Nat) (f : Ch → Ch) : (s.modCh r f).power = s.power := rfl
@[simp] theorem State.modCh_mem (r : Nat) (f : Ch → Ch) : (s.modCh r f).mem = s.mem := rfl
@[simp] theorem State.modCh_silt (r : Nat) (f : Ch → Ch) : (s.modCh r f).silt = s.silt := rfl
@[simp] theorem State.modCh_boot (r : Nat) (f : Ch → Ch) : (s.modCh r f).boot = s.boot := rfl
@[simp] theorem State.modCh_edge (r : Nat) (f : Ch → Ch) : (s.modCh r f).edge = s.edge := rfl
@[simp] theorem State.modCh_mgmt (r : Nat) (f : Ch → Ch) : (s.modCh r f).mgmt = s.mgmt := rfl
@[simp] theorem State.modCh_lock (r : Nat) (f : Ch → Ch) : (s.modCh r f).lock = s.lock := rfl
@[simp] theorem State.modCh_siteId (r : Nat) (f : Ch → Ch) : (s.modCh r f).siteId = s.siteId := rfl
@[simp] theorem State.modCh_out (r : Nat) (f : Ch → Ch) : (s.modCh r f).out = s.out := rfl
@[simp] theorem State.modCh_freeCtr (r : Nat) (f : Ch → Ch) : (s.modCh r f).freeCtr = s.freeCtr := rfl
@[simp] theorem State.modCh_pending (r : Nat) (f : Ch → Ch) : (s.modCh r f).pending = s.pending := rfl

@[simp] theorem State.modCore_clock (c : Nat) (f : Core → Core) : (s.modCore c f).clock = s.clock := rfl
@[simp] theorem State.modCore_ports (c : Nat) (f : Core → Core) : (s.modCore c f).ports = s.ports := rfl
@[simp] theorem State.modCore_tunnels (c : Nat) (f : Core → Core) : (s.modCore c f).tunnels = s.tunnels := rfl
@[simp] theorem State.modCore_plan (c : Nat) (f : Core → Core) : (s.modCore c f).plan = s.plan := rfl
@[simp] theorem State.modCore_marl (c : Nat) (f : Core → Core) : (s.modCore c f).marl = s.marl := rfl
@[simp] theorem State.modCore_xfer (c : Nat) (f : Core → Core) : (s.modCore c f).xfer = s.xfer := rfl
@[simp] theorem State.modCore_hosts (c : Nat) (f : Core → Core) : (s.modCore c f).hosts = s.hosts := rfl
@[simp] theorem State.modCore_power (c : Nat) (f : Core → Core) : (s.modCore c f).power = s.power := rfl
@[simp] theorem State.modCore_mem (c : Nat) (f : Core → Core) : (s.modCore c f).mem = s.mem := rfl
@[simp] theorem State.modCore_silt (c : Nat) (f : Core → Core) : (s.modCore c f).silt = s.silt := rfl
@[simp] theorem State.modCore_boot (c : Nat) (f : Core → Core) : (s.modCore c f).boot = s.boot := rfl
@[simp] theorem State.modCore_edge (c : Nat) (f : Core → Core) : (s.modCore c f).edge = s.edge := rfl
@[simp] theorem State.modCore_mgmt (c : Nat) (f : Core → Core) : (s.modCore c f).mgmt = s.mgmt := rfl
@[simp] theorem State.modCore_lock (c : Nat) (f : Core → Core) : (s.modCore c f).lock = s.lock := rfl
@[simp] theorem State.modCore_siteId (c : Nat) (f : Core → Core) : (s.modCore c f).siteId = s.siteId := rfl
@[simp] theorem State.modCore_out (c : Nat) (f : Core → Core) : (s.modCore c f).out = s.out := rfl
@[simp] theorem State.modCore_freeCtr (c : Nat) (f : Core → Core) : (s.modCore c f).freeCtr = s.freeCtr := rfl
@[simp] theorem State.modCore_pending (c : Nat) (f : Core → Core) : (s.modCore c f).pending = s.pending := rfl

@[simp] theorem State.setReady_clock (p : Nat) (v : ReadyList) : (s.setReady p v).clock = s.clock := rfl
@[simp] theorem State.setReady_ports (p : Nat) (v : ReadyList) : (s.setReady p v).ports = s.ports := rfl
@[simp] theorem State.setReady_tunnels (p : Nat) (v : ReadyList) : (s.setReady p v).tunnels = s.tunnels := rfl
@[simp] theorem State.setReady_plan (p : Nat) (v : ReadyList) : (s.setReady p v).plan = s.plan := rfl
@[simp] theorem State.setReady_marl (p : Nat) (v : ReadyList) : (s.setReady p v).marl = s.marl := rfl
@[simp] theorem State.setReady_xfer (p : Nat) (v : ReadyList) : (s.setReady p v).xfer = s.xfer := rfl
@[simp] theorem State.setReady_hosts (p : Nat) (v : ReadyList) : (s.setReady p v).hosts = s.hosts := rfl
@[simp] theorem State.setReady_power (p : Nat) (v : ReadyList) : (s.setReady p v).power = s.power := rfl
@[simp] theorem State.setReady_mem (p : Nat) (v : ReadyList) : (s.setReady p v).mem = s.mem := rfl
@[simp] theorem State.setReady_silt (p : Nat) (v : ReadyList) : (s.setReady p v).silt = s.silt := rfl
@[simp] theorem State.setReady_boot (p : Nat) (v : ReadyList) : (s.setReady p v).boot = s.boot := rfl
@[simp] theorem State.setReady_edge (p : Nat) (v : ReadyList) : (s.setReady p v).edge = s.edge := rfl
@[simp] theorem State.setReady_mgmt (p : Nat) (v : ReadyList) : (s.setReady p v).mgmt = s.mgmt := rfl
@[simp] theorem State.setReady_lock (p : Nat) (v : ReadyList) : (s.setReady p v).lock = s.lock := rfl
@[simp] theorem State.setReady_siteId (p : Nat) (v : ReadyList) : (s.setReady p v).siteId = s.siteId := rfl
@[simp] theorem State.setReady_out (p : Nat) (v : ReadyList) : (s.setReady p v).out = s.out := rfl
@[simp] theorem State.setReady_freeCtr (p : Nat) (v : ReadyList) : (s.setReady p v).freeCtr = s.freeCtr := rfl
@[simp] theorem State.setReady_pending (p : Nat) (v : ReadyList) : (s.setReady p v).pending = s.pending := rfl

@[simp] theorem State.setDelay_clock (d : Nat) (v : DelayList) : (s.setDelay d v).clock = s.clock := rfl
@[simp] theorem State.setDelay_ports (d : Nat) (v : DelayList) : (s.setDelay d v).ports = s.ports := rfl
@[simp] theorem State.setDelay_tunnels (d : Nat) (v : DelayList) : (s.setDelay d v).tunnels = s.tunnels := rfl
@[simp] theorem State.setDelay_plan (d : Nat) (v : DelayList) : (s.setDelay d v).plan = s.plan := rfl
@[simp] theorem State.setDelay_marl (d : Nat) (v : DelayList) : (s.setDelay d v).marl = s.marl := rfl
@[simp] theorem State.setDelay_xfer (d : Nat) (v : DelayList) : (s.setDelay d v).xfer = s.xfer := rfl
@[simp] theorem State.setDelay_hosts (d : Nat) (v : DelayList) : (s.setDelay d v).hosts = s.hosts := rfl
@[simp] theorem State.setDelay_power (d : Nat) (v : DelayList) : (s.setDelay d v).power = s.power := rfl
@[simp] theorem State.setDelay_mem (d : Nat) (v : DelayList) : (s.setDelay d v).mem = s.mem := rfl
@[simp] theorem State.setDelay_silt (d : Nat) (v : DelayList) : (s.setDelay d v).silt = s.silt := rfl
@[simp] theorem State.setDelay_boot (d : Nat) (v : DelayList) : (s.setDelay d v).boot = s.boot := rfl
@[simp] theorem State.setDelay_edge (d : Nat) (v : DelayList) : (s.setDelay d v).edge = s.edge := rfl
@[simp] theorem State.setDelay_mgmt (d : Nat) (v : DelayList) : (s.setDelay d v).mgmt = s.mgmt := rfl
@[simp] theorem State.setDelay_lock (d : Nat) (v : DelayList) : (s.setDelay d v).lock = s.lock := rfl
@[simp] theorem State.setDelay_siteId (d : Nat) (v : DelayList) : (s.setDelay d v).siteId = s.siteId := rfl
@[simp] theorem State.setDelay_out (d : Nat) (v : DelayList) : (s.setDelay d v).out = s.out := rfl
@[simp] theorem State.setDelay_freeCtr (d : Nat) (v : DelayList) : (s.setDelay d v).freeCtr = s.freeCtr := rfl
@[simp] theorem State.setDelay_pending (d : Nat) (v : DelayList) : (s.setDelay d v).pending = s.pending := rfl

@[simp] theorem State.setSrc_clock (n : Nat) (v : Src) : (s.setSrc n v).clock = s.clock := rfl
@[simp] theorem State.setSrc_ports (n : Nat) (v : Src) : (s.setSrc n v).ports = s.ports := rfl
@[simp] theorem State.setSrc_tunnels (n : Nat) (v : Src) : (s.setSrc n v).tunnels = s.tunnels := rfl
@[simp] theorem State.setSrc_plan (n : Nat) (v : Src) : (s.setSrc n v).plan = s.plan := rfl
@[simp] theorem State.setSrc_marl (n : Nat) (v : Src) : (s.setSrc n v).marl = s.marl := rfl
@[simp] theorem State.setSrc_xfer (n : Nat) (v : Src) : (s.setSrc n v).xfer = s.xfer := rfl
@[simp] theorem State.setSrc_hosts (n : Nat) (v : Src) : (s.setSrc n v).hosts = s.hosts := rfl
@[simp] theorem State.setSrc_power (n : Nat) (v : Src) : (s.setSrc n v).power = s.power := rfl
@[simp] theorem State.setSrc_mem (n : Nat) (v : Src) : (s.setSrc n v).mem = s.mem := rfl
@[simp] theorem State.setSrc_silt (n : Nat) (v : Src) : (s.setSrc n v).silt = s.silt := rfl
@[simp] theorem State.setSrc_boot (n : Nat) (v : Src) : (s.setSrc n v).boot = s.boot := rfl
@[simp] theorem State.setSrc_edge (n : Nat) (v : Src) : (s.setSrc n v).edge = s.edge := rfl
@[simp] theorem State.setSrc_mgmt (n : Nat) (v : Src) : (s.setSrc n v).mgmt = s.mgmt := rfl
@[simp] theorem State.setSrc_lock (n : Nat) (v : Src) : (s.setSrc n v).lock = s.lock := rfl
@[simp] theorem State.setSrc_siteId (n : Nat) (v : Src) : (s.setSrc n v).siteId = s.siteId := rfl
@[simp] theorem State.setSrc_out (n : Nat) (v : Src) : (s.setSrc n v).out = s.out := rfl
@[simp] theorem State.setSrc_freeCtr (n : Nat) (v : Src) : (s.setSrc n v).freeCtr = s.freeCtr := rfl
@[simp] theorem State.setSrc_pending (n : Nat) (v : Src) : (s.setSrc n v).pending = s.pending := rfl

@[simp] theorem State.modRegion_clock (r : Nat) (f : Region → Region) : (s.modRegion r f).clock = s.clock := rfl
@[simp] theorem State.modRegion_ports (r : Nat) (f : Region → Region) : (s.modRegion r f).ports = s.ports := rfl
@[simp] theorem State.modRegion_tunnels (r : Nat) (f : Region → Region) : (s.modRegion r f).tunnels = s.tunnels := rfl
@[simp] theorem State.modRegion_plan (r : Nat) (f : Region → Region) : (s.modRegion r f).plan = s.plan := rfl
@[simp] theorem State.modRegion_marl (r : Nat) (f : Region → Region) : (s.modRegion r f).marl = s.marl := rfl
@[simp] theorem State.modRegion_xfer (r : Nat) (f : Region → Region) : (s.modRegion r f).xfer = s.xfer := rfl
@[simp] theorem State.modRegion_hosts (r : Nat) (f : Region → Region) : (s.modRegion r f).hosts = s.hosts := rfl
@[simp] theorem State.modRegion_cluster (r : Nat) (f : Region → Region) : (s.modRegion r f).cluster = s.cluster := rfl
@[simp] theorem State.modRegion_power (r : Nat) (f : Region → Region) : (s.modRegion r f).power = s.power := rfl
@[simp] theorem State.modRegion_silt (r : Nat) (f : Region → Region) : (s.modRegion r f).silt = s.silt := rfl
@[simp] theorem State.modRegion_boot (r : Nat) (f : Region → Region) : (s.modRegion r f).boot = s.boot := rfl
@[simp] theorem State.modRegion_edge (r : Nat) (f : Region → Region) : (s.modRegion r f).edge = s.edge := rfl
@[simp] theorem State.modRegion_mgmt (r : Nat) (f : Region → Region) : (s.modRegion r f).mgmt = s.mgmt := rfl
@[simp] theorem State.modRegion_lock (r : Nat) (f : Region → Region) : (s.modRegion r f).lock = s.lock := rfl
@[simp] theorem State.modRegion_siteId (r : Nat) (f : Region → Region) : (s.modRegion r f).siteId = s.siteId := rfl
@[simp] theorem State.modRegion_out (r : Nat) (f : Region → Region) : (s.modRegion r f).out = s.out := rfl
@[simp] theorem State.modRegion_freeCtr (r : Nat) (f : Region → Region) : (s.modRegion r f).freeCtr = s.freeCtr := rfl
@[simp] theorem State.modRegion_pending (r : Nat) (f : Region → Region) : (s.modRegion r f).pending = s.pending := rfl

@[simp] theorem State.setAlarm_clock (a : Nat) (v : Alarm) : (s.setAlarm a v).clock = s.clock := rfl
@[simp] theorem State.setAlarm_ports (a : Nat) (v : Alarm) : (s.setAlarm a v).ports = s.ports := rfl
@[simp] theorem State.setAlarm_tunnels (a : Nat) (v : Alarm) : (s.setAlarm a v).tunnels = s.tunnels := rfl
@[simp] theorem State.setAlarm_plan (a : Nat) (v : Alarm) : (s.setAlarm a v).plan = s.plan := rfl
@[simp] theorem State.setAlarm_marl (a : Nat) (v : Alarm) : (s.setAlarm a v).marl = s.marl := rfl
@[simp] theorem State.setAlarm_xfer (a : Nat) (v : Alarm) : (s.setAlarm a v).xfer = s.xfer := rfl
@[simp] theorem State.setAlarm_hosts (a : Nat) (v : Alarm) : (s.setAlarm a v).hosts = s.hosts := rfl
@[simp] theorem State.setAlarm_cluster (a : Nat) (v : Alarm) : (s.setAlarm a v).cluster = s.cluster := rfl
@[simp] theorem State.setAlarm_power (a : Nat) (v : Alarm) : (s.setAlarm a v).power = s.power := rfl
@[simp] theorem State.setAlarm_mem (a : Nat) (v : Alarm) : (s.setAlarm a v).mem = s.mem := rfl
@[simp] theorem State.setAlarm_boot (a : Nat) (v : Alarm) : (s.setAlarm a v).boot = s.boot := rfl
@[simp] theorem State.setAlarm_edge (a : Nat) (v : Alarm) : (s.setAlarm a v).edge = s.edge := rfl
@[simp] theorem State.setAlarm_mgmt (a : Nat) (v : Alarm) : (s.setAlarm a v).mgmt = s.mgmt := rfl
@[simp] theorem State.setAlarm_lock (a : Nat) (v : Alarm) : (s.setAlarm a v).lock = s.lock := rfl
@[simp] theorem State.setAlarm_siteId (a : Nat) (v : Alarm) : (s.setAlarm a v).siteId = s.siteId := rfl
@[simp] theorem State.setAlarm_out (a : Nat) (v : Alarm) : (s.setAlarm a v).out = s.out := rfl
@[simp] theorem State.setAlarm_freeCtr (a : Nat) (v : Alarm) : (s.setAlarm a v).freeCtr = s.freeCtr := rfl
@[simp] theorem State.setAlarm_pending (a : Nat) (v : Alarm) : (s.setAlarm a v).pending = s.pending := rfl

@[simp] theorem State.modNet_clock (n : Nat) (f : NetPort → NetPort) : (s.modNet n f).clock = s.clock := rfl
@[simp] theorem State.modNet_ports (n : Nat) (f : NetPort → NetPort) : (s.modNet n f).ports = s.ports := rfl
@[simp] theorem State.modNet_tunnels (n : Nat) (f : NetPort → NetPort) : (s.modNet n f).tunnels = s.tunnels := rfl
@[simp] theorem State.modNet_plan (n : Nat) (f : NetPort → NetPort) : (s.modNet n f).plan = s.plan := rfl
@[simp] theorem State.modNet_marl (n : Nat) (f : NetPort → NetPort) : (s.modNet n f).marl = s.marl := rfl
@[simp] theorem State.modNet_xfer (n : Nat) (f : NetPort → NetPort) : (s.modNet n f).xfer = s.xfer := rfl
@[simp] theorem State.modNet_hosts (n : Nat) (f : NetPort → NetPort) : (s.modNet n f).hosts = s.hosts := rfl
@[simp] theorem State.modNet_cluster (n : Nat) (f : NetPort → NetPort) : (s.modNet n f).cluster = s.cluster := rfl
@[simp] theorem State.modNet_power (n : Nat) (f : NetPort → NetPort) : (s.modNet n f).power = s.power := rfl
@[simp] theorem State.modNet_mem (n : Nat) (f : NetPort → NetPort) : (s.modNet n f).mem = s.mem := rfl
@[simp] theorem State.modNet_silt (n : Nat) (f : NetPort → NetPort) : (s.modNet n f).silt = s.silt := rfl
@[simp] theorem State.modNet_boot (n : Nat) (f : NetPort → NetPort) : (s.modNet n f).boot = s.boot := rfl
@[simp] theorem State.modNet_mgmt (n : Nat) (f : NetPort → NetPort) : (s.modNet n f).mgmt = s.mgmt := rfl
@[simp] theorem State.modNet_lock (n : Nat) (f : NetPort → NetPort) : (s.modNet n f).lock = s.lock := rfl
@[simp] theorem State.modNet_siteId (n : Nat) (f : NetPort → NetPort) : (s.modNet n f).siteId = s.siteId := rfl
@[simp] theorem State.modNet_out (n : Nat) (f : NetPort → NetPort) : (s.modNet n f).out = s.out := rfl
@[simp] theorem State.modNet_freeCtr (n : Nat) (f : NetPort → NetPort) : (s.modNet n f).freeCtr = s.freeCtr := rfl
@[simp] theorem State.modNet_pending (n : Nat) (f : NetPort → NetPort) : (s.modNet n f).pending = s.pending := rfl

@[simp] theorem State.modDpi_clock (n : Nat) (f : Dpi → Dpi) : (s.modDpi n f).clock = s.clock := rfl
@[simp] theorem State.modDpi_ports (n : Nat) (f : Dpi → Dpi) : (s.modDpi n f).ports = s.ports := rfl
@[simp] theorem State.modDpi_tunnels (n : Nat) (f : Dpi → Dpi) : (s.modDpi n f).tunnels = s.tunnels := rfl
@[simp] theorem State.modDpi_plan (n : Nat) (f : Dpi → Dpi) : (s.modDpi n f).plan = s.plan := rfl
@[simp] theorem State.modDpi_marl (n : Nat) (f : Dpi → Dpi) : (s.modDpi n f).marl = s.marl := rfl
@[simp] theorem State.modDpi_xfer (n : Nat) (f : Dpi → Dpi) : (s.modDpi n f).xfer = s.xfer := rfl
@[simp] theorem State.modDpi_hosts (n : Nat) (f : Dpi → Dpi) : (s.modDpi n f).hosts = s.hosts := rfl
@[simp] theorem State.modDpi_cluster (n : Nat) (f : Dpi → Dpi) : (s.modDpi n f).cluster = s.cluster := rfl
@[simp] theorem State.modDpi_power (n : Nat) (f : Dpi → Dpi) : (s.modDpi n f).power = s.power := rfl
@[simp] theorem State.modDpi_mem (n : Nat) (f : Dpi → Dpi) : (s.modDpi n f).mem = s.mem := rfl
@[simp] theorem State.modDpi_silt (n : Nat) (f : Dpi → Dpi) : (s.modDpi n f).silt = s.silt := rfl
@[simp] theorem State.modDpi_boot (n : Nat) (f : Dpi → Dpi) : (s.modDpi n f).boot = s.boot := rfl
@[simp] theorem State.modDpi_mgmt (n : Nat) (f : Dpi → Dpi) : (s.modDpi n f).mgmt = s.mgmt := rfl
@[simp] theorem State.modDpi_lock (n : Nat) (f : Dpi → Dpi) : (s.modDpi n f).lock = s.lock := rfl
@[simp] theorem State.modDpi_siteId (n : Nat) (f : Dpi → Dpi) : (s.modDpi n f).siteId = s.siteId := rfl
@[simp] theorem State.modDpi_out (n : Nat) (f : Dpi → Dpi) : (s.modDpi n f).out = s.out := rfl
@[simp] theorem State.modDpi_freeCtr (n : Nat) (f : Dpi → Dpi) : (s.modDpi n f).freeCtr = s.freeCtr := rfl
@[simp] theorem State.modDpi_pending (n : Nat) (f : Dpi → Dpi) : (s.modDpi n f).pending = s.pending := rfl

@[simp] theorem State.send_clock (o : Out) : (s.send o).clock = s.clock := rfl
@[simp] theorem State.send_ports (o : Out) : (s.send o).ports = s.ports := rfl
@[simp] theorem State.send_tunnels (o : Out) : (s.send o).tunnels = s.tunnels := rfl
@[simp] theorem State.send_plan (o : Out) : (s.send o).plan = s.plan := rfl
@[simp] theorem State.send_marl (o : Out) : (s.send o).marl = s.marl := rfl
@[simp] theorem State.send_xfer (o : Out) : (s.send o).xfer = s.xfer := rfl
@[simp] theorem State.send_hosts (o : Out) : (s.send o).hosts = s.hosts := rfl
@[simp] theorem State.send_cluster (o : Out) : (s.send o).cluster = s.cluster := rfl
@[simp] theorem State.send_power (o : Out) : (s.send o).power = s.power := rfl
@[simp] theorem State.send_mem (o : Out) : (s.send o).mem = s.mem := rfl
@[simp] theorem State.send_silt (o : Out) : (s.send o).silt = s.silt := rfl
@[simp] theorem State.send_boot (o : Out) : (s.send o).boot = s.boot := rfl
@[simp] theorem State.send_edge (o : Out) : (s.send o).edge = s.edge := rfl
@[simp] theorem State.send_mgmt (o : Out) : (s.send o).mgmt = s.mgmt := rfl
@[simp] theorem State.send_lock (o : Out) : (s.send o).lock = s.lock := rfl
@[simp] theorem State.send_siteId (o : Out) : (s.send o).siteId = s.siteId := rfl
@[simp] theorem State.send_out (o : Out) : (s.send o).out = o :: s.out := rfl
@[simp] theorem State.send_freeCtr (o : Out) : (s.send o).freeCtr = s.freeCtr := rfl
@[simp] theorem State.send_pending (o : Out) : (s.send o).pending = s.pending := rfl

@[simp] theorem State.tickFree_clock : s.tickFree.clock = s.clock := rfl
@[simp] theorem State.tickFree_ports : s.tickFree.ports = s.ports := rfl
@[simp] theorem State.tickFree_tunnels : s.tickFree.tunnels = s.tunnels := rfl
@[simp] theorem State.tickFree_plan : s.tickFree.plan = s.plan := rfl
@[simp] theorem State.tickFree_marl : s.tickFree.marl = s.marl := rfl
@[simp] theorem State.tickFree_xfer : s.tickFree.xfer = s.xfer := rfl
@[simp] theorem State.tickFree_hosts : s.tickFree.hosts = s.hosts := rfl
@[simp] theorem State.tickFree_cluster : s.tickFree.cluster = s.cluster := rfl
@[simp] theorem State.tickFree_power : s.tickFree.power = s.power := rfl
@[simp] theorem State.tickFree_mem : s.tickFree.mem = s.mem := rfl
@[simp] theorem State.tickFree_silt : s.tickFree.silt = s.silt := rfl
@[simp] theorem State.tickFree_boot : s.tickFree.boot = s.boot := rfl
@[simp] theorem State.tickFree_edge : s.tickFree.edge = s.edge := rfl
@[simp] theorem State.tickFree_mgmt : s.tickFree.mgmt = s.mgmt := rfl
@[simp] theorem State.tickFree_lock : s.tickFree.lock = s.lock := rfl
@[simp] theorem State.tickFree_siteId : s.tickFree.siteId = s.siteId := rfl
@[simp] theorem State.tickFree_out : s.tickFree.out = s.out := rfl
@[simp] theorem State.tickFree_freeCtr : s.tickFree.freeCtr = s.freeCtr + 1 := rfl
@[simp] theorem State.tickFree_pending : s.tickFree.pending = s.pending := rfl

@[simp] theorem State.setHp_clock (h : Nat) (v : HostPort) : (s.setHp h v).clock = s.clock := by
  unfold State.setHp; split <;> rfl
@[simp] theorem State.modHp_clock (h : Nat) (f : HostPort → HostPort) : (s.modHp h f).clock = s.clock := by
  unfold State.modHp; simp
@[simp] theorem State.setHp_ports (h : Nat) (v : HostPort) : (s.setHp h v).ports = s.ports := by
  unfold State.setHp; split <;> rfl
@[simp] theorem State.modHp_ports (h : Nat) (f : HostPort → HostPort) : (s.modHp h f).ports = s.ports := by
  unfold State.modHp; simp
@[simp] theorem State.setHp_tunnels (h : Nat) (v : HostPort) : (s.setHp h v).tunnels = s.tunnels := by
  unfold State.setHp; split <;> rfl
@[simp] theorem State.modHp_tunnels (h : Nat) (f : HostPort → HostPort) : (s.modHp h f).tunnels = s.tunnels := by
  unfold State.modHp; simp
@[simp] theorem State.setHp_plan (h : Nat) (v : HostPort) : (s.setHp h v).plan = s.plan := by
  unfold State.setHp; split <;> rfl
@[simp] theorem State.modHp_plan (h : Nat) (f : HostPort → HostPort) : (s.modHp h f).plan = s.plan := by
  unfold State.modHp; simp
@[simp] theorem State.setHp_marl (h : Nat) (v : HostPort) : (s.setHp h v).marl = s.marl := by
  unfold State.setHp; split <;> rfl
@[simp] theorem State.modHp_marl (h : Nat) (f : HostPort → HostPort) : (s.modHp h f).marl = s.marl := by
  unfold State.modHp; simp
@[simp] theorem State.setHp_xfer (h : Nat) (v : HostPort) : (s.setHp h v).xfer = s.xfer := by
  unfold State.setHp; split <;> rfl
@[simp] theorem State.modHp_xfer (h : Nat) (f : HostPort → HostPort) : (s.modHp h f).xfer = s.xfer := by
  unfold State.modHp; simp
@[simp] theorem State.setHp_cluster (h : Nat) (v : HostPort) : (s.setHp h v).cluster = s.cluster := by
  unfold State.setHp; split <;> rfl
@[simp] theorem State.modHp_cluster (h : Nat) (f : HostPort → HostPort) : (s.modHp h f).cluster = s.cluster := by
  unfold State.modHp; simp
@[simp] theorem State.setHp_power (h : Nat) (v : HostPort) : (s.setHp h v).power = s.power := by
  unfold State.setHp; split <;> rfl
@[simp] theorem State.modHp_power (h : Nat) (f : HostPort → HostPort) : (s.modHp h f).power = s.power := by
  unfold State.modHp; simp
@[simp] theorem State.setHp_mem (h : Nat) (v : HostPort) : (s.setHp h v).mem = s.mem := by
  unfold State.setHp; split <;> rfl
@[simp] theorem State.modHp_mem (h : Nat) (f : HostPort → HostPort) : (s.modHp h f).mem = s.mem := by
  unfold State.modHp; simp
@[simp] theorem State.setHp_silt (h : Nat) (v : HostPort) : (s.setHp h v).silt = s.silt := by
  unfold State.setHp; split <;> rfl
@[simp] theorem State.modHp_silt (h : Nat) (f : HostPort → HostPort) : (s.modHp h f).silt = s.silt := by
  unfold State.modHp; simp
@[simp] theorem State.setHp_boot (h : Nat) (v : HostPort) : (s.setHp h v).boot = s.boot := by
  unfold State.setHp; split <;> rfl
@[simp] theorem State.modHp_boot (h : Nat) (f : HostPort → HostPort) : (s.modHp h f).boot = s.boot := by
  unfold State.modHp; simp
@[simp] theorem State.setHp_edge (h : Nat) (v : HostPort) : (s.setHp h v).edge = s.edge := by
  unfold State.setHp; split <;> rfl
@[simp] theorem State.modHp_edge (h : Nat) (f : HostPort → HostPort) : (s.modHp h f).edge = s.edge := by
  unfold State.modHp; simp
@[simp] theorem State.setHp_mgmt (h : Nat) (v : HostPort) : (s.setHp h v).mgmt = s.mgmt := by
  unfold State.setHp; split <;> rfl
@[simp] theorem State.modHp_mgmt (h : Nat) (f : HostPort → HostPort) : (s.modHp h f).mgmt = s.mgmt := by
  unfold State.modHp; simp
@[simp] theorem State.setHp_lock (h : Nat) (v : HostPort) : (s.setHp h v).lock = s.lock := by
  unfold State.setHp; split <;> rfl
@[simp] theorem State.modHp_lock (h : Nat) (f : HostPort → HostPort) : (s.modHp h f).lock = s.lock := by
  unfold State.modHp; simp
@[simp] theorem State.setHp_siteId (h : Nat) (v : HostPort) : (s.setHp h v).siteId = s.siteId := by
  unfold State.setHp; split <;> rfl
@[simp] theorem State.modHp_siteId (h : Nat) (f : HostPort → HostPort) : (s.modHp h f).siteId = s.siteId := by
  unfold State.modHp; simp
@[simp] theorem State.setHp_out (h : Nat) (v : HostPort) : (s.setHp h v).out = s.out := by
  unfold State.setHp; split <;> rfl
@[simp] theorem State.modHp_out (h : Nat) (f : HostPort → HostPort) : (s.modHp h f).out = s.out := by
  unfold State.modHp; simp
@[simp] theorem State.setHp_freeCtr (h : Nat) (v : HostPort) : (s.setHp h v).freeCtr = s.freeCtr := by
  unfold State.setHp; split <;> rfl
@[simp] theorem State.modHp_freeCtr (h : Nat) (f : HostPort → HostPort) : (s.modHp h f).freeCtr = s.freeCtr := by
  unfold State.modHp; simp
@[simp] theorem State.setHp_pending (h : Nat) (v : HostPort) : (s.setHp h v).pending = s.pending := by
  unfold State.setHp; split <;> rfl
@[simp] theorem State.modHp_pending (h : Nat) (f : HostPort → HostPort) : (s.modHp h f).pending = s.pending := by
  unfold State.modHp; simp

end Sys2Proof.Machine
end

