-- ==== Sys2Proof/Laws/Tab.lean ====
section
/-! SUPPORT. Sys2Proof/Laws/Tab.lean: reading a sparse table after a write, and that every table operation keeps the canonical form. -/

namespace Sys2Proof.Machine

variable {α : Type}

theorem Tab.get_erase (d : α) (k q : Nat) (t : List (Nat × α)) :
    Tab.get d (Tab.erase k t) q = if q = k then d else Tab.get d t q := by
  induction t with
  | nil => simp [Tab.erase, Tab.get]
  | cons e t ih =>
    obtain ⟨k', v⟩ := e
    by_cases h : k = k'
    · subst h; by_cases hq : q = k <;> simp_all [Tab.erase, Tab.get]
    · by_cases hq : q = k'
      · subst hq; simp [Tab.erase, Tab.get, h, Ne.symm h]
      · simp_all [Tab.erase, Tab.get]

theorem Tab.get_insert (d : α) (k q : Nat) (v : α) (t : List (Nat × α)) :
    Tab.get d (Tab.insert k v t) q = if q = k then v else Tab.get d t q := by
  induction t with
  | nil => simp [Tab.insert, Tab.get]
  | cons e t ih =>
    obtain ⟨k', v'⟩ := e
    unfold Tab.insert
    split
    · simp [Tab.get]
    · split
      · rename_i h; subst h; by_cases hq : q = k <;> simp [Tab.get, hq]
      · by_cases hq : q = k' <;> simp_all [Tab.get]
        intro h; subst h; contradiction

/-- A table reads what was written last. -/
@[simp] theorem Tab.get_set [DecidableEq α] (d : α) (k q : Nat) (v : α) (t : List (Nat × α)) :
    Tab.get d (Tab.set d k v t) q = if q = k then v else Tab.get d t q := by
  unfold Tab.set
  split
  · rename_i h; rw [Tab.get_erase, h]
  · rw [Tab.get_insert]

theorem Tab.above_trans {j k : Nat} (h : j < k) (t : List (Nat × α)) (a : Tab.above k t = true) : Tab.above j t = true := by
  induction t with
  | nil => rfl
  | cons e t ih => simp [Tab.above] at a ⊢; exact ⟨by omega, ih a.2⟩

theorem Tab.above_erase (j k : Nat) (t : List (Nat × α)) (a : Tab.above j t = true) : Tab.above j (Tab.erase k t) = true := by
  induction t with
  | nil => rfl
  | cons e t ih =>
    simp [Tab.above] at a
    unfold Tab.erase
    split
    · exact ih a.2
    · simp [Tab.above, a.1, ih a.2]

theorem Tab.above_insert (j k : Nat) (v : α) (t : List (Nat × α)) (h : j < k) (a : Tab.above j t = true) :
    Tab.above j (Tab.insert k v t) = true := by
  induction t with
  | nil => simp [Tab.insert, Tab.above, h]
  | cons e t ih =>
    simp [Tab.above] at a
    unfold Tab.insert
    split
    · simp [Tab.above, a, h]
    · split
      · simp [Tab.above, a, h]
      · simp [Tab.above, a.1, ih a.2]

theorem Tab.wf_erase [DecidableEq α] (d : α) (k : Nat) (t : List (Nat × α)) (w : Tab.wf d t = true) :
    Tab.wf d (Tab.erase k t) = true := by
  induction t with
  | nil => rfl
  | cons e t ih =>
    simp only [Tab.wf, Bool.and_eq_true] at w
    unfold Tab.erase
    split
    · exact ih w.2
    · simp only [Tab.wf, Bool.and_eq_true]; exact ⟨⟨w.1.1, Tab.above_erase _ _ _ w.1.2⟩, ih w.2⟩

theorem Tab.wf_insert [DecidableEq α] (d : α) (k : Nat) (v : α) (t : List (Nat × α)) (hv : v ≠ d) (w : Tab.wf d t = true) :
    Tab.wf d (Tab.insert k v t) = true := by
  induction t with
  | nil => simp [Tab.insert, Tab.wf, Tab.above, hv]
  | cons e t ih =>
    obtain ⟨k', v'⟩ := e
    simp only [Tab.wf, Bool.and_eq_true, decide_eq_true_eq] at w
    unfold Tab.insert
    split
    · rename_i h; simp [Tab.wf, Tab.above, hv, h, w.1.1, w.1.2, w.2, Tab.above_trans h t w.1.2]
    · split
      · rename_i h; subst h; simp [Tab.wf, hv, w.1.2, w.2]
      · have h : k' < k := by omega
        simp [Tab.wf, w.1.1, ih w.2, Tab.above_insert k' k v t h w.1.2]

/-- A write keeps the canonical form. -/
theorem Tab.wf_set [DecidableEq α] (d : α) (k : Nat) (v : α) (t : List (Nat × α)) (w : Tab.wf d t = true) :
    Tab.wf d (Tab.set d k v t) = true := by
  unfold Tab.set
  split
  · exact Tab.wf_erase d k t w
  · exact Tab.wf_insert d k v t ‹_› w

/-- A write of bytes keeps the canonical form of a byte memory. -/
theorem Tab.wf_write (d : Byte) (bs : List Byte) (a : Nat) (t : List (Nat × Byte)) (w : Tab.wf d t = true) :
    Tab.wf d (Tab.write d a bs t) = true := by
  induction bs generalizing a t with
  | nil => exact w
  | cons b bs ih => exact ih (a + 1) _ (Tab.wf_set d a b t w)

/-- A byte memory after a write: the bytes written, and every other byte as before. -/
theorem Tab.get_write (d : Byte) (bs : List Byte) (a q : Nat) (t : List (Nat × Byte)) :
    Tab.get d (Tab.write d a bs t) q = if a ≤ q ∧ q < a + bs.length then bs.getD (q - a) d else Tab.get d t q := by
  induction bs generalizing a t with
  | nil => simp [Tab.write]
  | cons b bs ih =>
    rw [Tab.write, ih, Tab.get_set]
    by_cases h : q = a
    · subst h; simp
    · by_cases h1 : a + 1 ≤ q ∧ q < a + 1 + bs.length
      · have : a ≤ q ∧ q < a + (b :: bs).length := by simp; omega
        rw [if_pos h1, if_pos this]
        have e : q - a = (q - (a + 1)) + 1 := by omega
        rw [e]; simp
      · have : ¬ (a ≤ q ∧ q < a + (b :: bs).length) := by simp; omega
        rw [if_neg h1, if_neg this, if_neg h]

/-- Reading `n` bytes is reading each one. -/
theorem Tab.bytes_eq (d : Byte) (t : List (Nat × Byte)) (a n : Nat) : Tab.bytes d t a n = (List.range n).map fun i => Tab.get d t (a + i) := by
  induction n generalizing a with
  | zero => rfl
  | succ n ih =>
    rw [Tab.bytes, ih, List.range_succ_eq_map, List.map_cons, List.map_map]
    simp only [Nat.add_zero, List.cons.injEq, true_and]
    refine List.map_congr_left fun i _ => ?_
    simp only [Function.comp_apply]
    congr 1
    omega

/-- The first bytes written to a byte memory are read back. -/
theorem Tab.bytes_write (d : Byte) (bs : List Byte) (a n : Nat) (t : List (Nat × Byte)) (h : n ≤ bs.length) :
    Tab.bytes d (Tab.write d a bs t) a n = bs.take n := by
  rw [Tab.bytes_eq]
  refine List.ext_getElem (by simp; omega) fun i h1 h2 => ?_
  simp only [List.length_map, List.length_range] at h1
  simp only [List.getElem_map, List.getElem_range, Tab.get_write, List.getElem_take]
  rw [if_pos ⟨by omega, by omega⟩]
  simp only [Nat.add_sub_cancel_left]
  rw [List.getD_eq_getElem?_getD, List.getElem?_eq_getElem (by omega)]
  rfl

/-- A number laid out in `n` bytes has `n` bytes. -/
@[simp] theorem toLe_length : ∀ (n v : Nat), (toLe n v).length = n
  | 0, _ => rfl
  | n + 1, v => by rw [toLe, List.length_cons, toLe_length n]

end Sys2Proof.Machine
end

