-- ==== Sys2Proof/Laws/Ops.lean ====
section
/-! SUPPORT. Sys2Proof/Laws/Ops.lean: for each shared operation of Ops.lean, the parts of the state that it leaves alone: field by field for the simplifier, and stated once as an equation of states (`_frame`). An operation that may wake the block changes PHASE, the last wake and the wakes latched (R387, R388), and only during a sleep or a change into or out of one. -/

set_option linter.unusedTactic false
set_option linter.unreachableTactic false
set_option Elab.async false

namespace Sys2Proof.Machine

variable (s : State)

/-- Two states with equal fields are equal. -/
theorem State.eq_of_fields {t u : State}
    (clock : t.clock = u.clock := by simp)
    (ports : t.ports = u.ports := by simp)
    (tunnels : t.tunnels = u.tunnels := by simp)
    (plan : t.plan = u.plan := by simp)
    (marl : t.marl = u.marl := by simp)
    (xfer : t.xfer = u.xfer := by simp)
    (hosts : t.hosts = u.hosts := by simp)
    (cluster : t.cluster = u.cluster := by simp)
    (power : t.power = u.power := by simp)
    (mem : t.mem = u.mem := by simp)
    (silt : t.silt = u.silt := by simp)
    (boot : t.boot = u.boot := by simp)
    (edge : t.edge = u.edge := by simp)
    (mgmt : t.mgmt = u.mgmt := by simp)
    (lock : t.lock = u.lock := by simp)
    (siteId : t.siteId = u.siteId := by simp)
    (out : t.out = u.out := by simp)
    (freeCtr : t.freeCtr = u.freeCtr := by simp)
    (pending : t.pending = u.pending := by simp) :
    t = u := by
  cases t; cases u; simp_all

@[simp] theorem State.trace_clock (a g o : Nat) : (s.trace a g o).clock = s.clock := by
  unfold State.trace; repeat' (first | rfl | (simp; done) | split | (simp only []; split))
@[simp] theorem State.trace_ports (a g o : Nat) : (s.trace a g o).ports = s.ports := by
  unfold State.trace; repeat' (first | rfl | (simp; done) | split | (simp only []; split))
@[simp] theorem State.trace_tunnels (a g o : Nat) : (s.trace a g o).tunnels = s.tunnels := by
  unfold State.trace; repeat' (first | rfl | (simp; done) | split | (simp only []; split))
@[simp] theorem State.trace_plan (a g o : Nat) : (s.trace a g o).plan = s.plan := by
  unfold State.trace; repeat' (first | rfl | (simp; done) | split | (simp only []; split))
@[simp] theorem State.trace_marl (a g o : Nat) : (s.trace a g o).marl = s.marl := by
  unfold State.trace; repeat' (first | rfl | (simp; done) | split | (simp only []; split))
@[simp] theorem State.trace_xfer (a g o : Nat) : (s.trace a g o).xfer = s.xfer := by
  unfold State.trace; repeat' (first | rfl | (simp; done) | split | (simp only []; split))
@[simp] theorem State.trace_hosts (a g o : Nat) : (s.trace a g o).hosts = s.hosts := by
  unfold State.trace; repeat' (first | rfl | (simp; done) | split | (simp only []; split))
@[simp] theorem State.trace_cluster (a g o : Nat) : (s.trace a g o).cluster = s.cluster := by
  unfold State.trace; repeat' (first | rfl | (simp; done) | split | (simp only []; split))
@[simp] theorem State.trace_power (a g o : Nat) : (s.trace a g o).power = s.power := by
  unfold State.trace; repeat' (first | rfl | (simp; done) | split | (simp only []; split))
@[simp] theorem State.trace_mem (a g o : Nat) : (s.trace a g o).mem = s.mem := by
  unfold State.trace; repeat' (first | rfl | (simp; done) | split | (simp only []; split))
@[simp] theorem State.trace_boot (a g o : Nat) : (s.trace a g o).boot = s.boot := by
  unfold State.trace; repeat' (first | rfl | (simp; done) | split | (simp only []; split))
@[simp] theorem State.trace_edge (a g o : Nat) : (s.trace a g o).edge = s.edge := by
  unfold State.trace; repeat' (first | rfl | (simp; done) | split | (simp only []; split))
@[simp] theorem State.trace_mgmt (a g o : Nat) : (s.trace a g o).mgmt = s.mgmt := by
  unfold State.trace; repeat' (first | rfl | (simp; done) | split | (simp only []; split))
@[simp] theorem State.trace_lock (a g o : Nat) : (s.trace a g o).lock = s.lock := by
  unfold State.trace; repeat' (first | rfl | (simp; done) | split | (simp only []; split))
@[simp] theorem State.trace_siteId (a g o : Nat) : (s.trace a g o).siteId = s.siteId := by
  unfold State.trace; repeat' (first | rfl | (simp; done) | split | (simp only []; split))
@[simp] theorem State.trace_out (a g o : Nat) : (s.trace a g o).out = s.out := by
  unfold State.trace; repeat' (first | rfl | (simp; done) | split | (simp only []; split))
@[simp] theorem State.trace_pending (a g o : Nat) : (s.trace a g o).pending = s.pending := by
  unfold State.trace; repeat' (first | rfl | (simp; done) | split | (simp only []; split))
theorem State.trace_frame (a g o : Nat) :
    (s.trace a g o) = { s with silt := (s.trace a g o).silt, freeCtr := (s.trace a g o).freeCtr } :=
  State.eq_of_fields

@[simp] theorem State.enqueue_clock (it : Item) : (s.enqueue it).clock = s.clock := by
  unfold State.enqueue; repeat' (first | rfl | (simp; done) | split | (simp only []; split))
@[simp] theorem State.enqueue_ports (it : Item) : (s.enqueue it).ports = s.ports := by
  unfold State.enqueue; repeat' (first | rfl | (simp; done) | split | (simp only []; split))
@[simp] theorem State.enqueue_tunnels (it : Item) : (s.enqueue it).tunnels = s.tunnels := by
  unfold State.enqueue; repeat' (first | rfl | (simp; done) | split | (simp only []; split))
@[simp] theorem State.enqueue_plan (it : Item) : (s.enqueue it).plan = s.plan := by
  unfold State.enqueue; repeat' (first | rfl | (simp; done) | split | (simp only []; split))
@[simp] theorem State.enqueue_marl (it : Item) : (s.enqueue it).marl = s.marl := by
  unfold State.enqueue; repeat' (first | rfl | (simp; done) | split | (simp only []; split))
@[simp] theorem State.enqueue_xfer (it : Item) : (s.enqueue it).xfer = s.xfer := by
  unfold State.enqueue; repeat' (first | rfl | (simp; done) | split | (simp only []; split))
@[simp] theorem State.enqueue_hosts (it : Item) : (s.enqueue it).hosts = s.hosts := by
  unfold State.enqueue; repeat' (first | rfl | (simp; done) | split | (simp only []; split))
@[simp] theorem State.enqueue_power (it : Item) : (s.enqueue it).power = s.power := by
  unfold State.enqueue; repeat' (first | rfl | (simp; done) | split | (simp only []; split))
@[simp] theorem State.enqueue_mem (it : Item) : (s.enqueue it).mem = s.mem := by
  unfold State.enqueue; repeat' (first | rfl | (simp; done) | split | (simp only []; split))
@[simp] theorem State.enqueue_silt (it : Item) : (s.enqueue it).silt = s.silt := by
  unfold State.enqueue; repeat' (first | rfl | (simp; done) | split | (simp only []; split))
@[simp] theorem State.enqueue_boot (it : Item) : (s.enqueue it).boot = s.boot := by
  unfold State.enqueue; repeat' (first | rfl | (simp; done) | split | (simp only []; split))
@[simp] theorem State.enqueue_edge (it : Item) : (s.enqueue it).edge = s.edge := by
  unfold State.enqueue; repeat' (first | rfl | (simp; done) | split | (simp only []; split))
@[simp] theorem State.enqueue_mgmt (it : Item) : (s.enqueue it).mgmt = s.mgmt := by
  unfold State.enqueue; repeat' (first | rfl | (simp; done) | split | (simp only []; split))
@[simp] theorem State.enqueue_lock (it : Item) : (s.enqueue it).lock = s.lock := by
  unfold State.enqueue; repeat' (first | rfl | (simp; done) | split | (simp only []; split))
@[simp] theorem State.enqueue_siteId (it : Item) : (s.enqueue it).siteId = s.siteId := by
  unfold State.enqueue; repeat' (first | rfl | (simp; done) | split | (simp only []; split))
@[simp] theorem State.enqueue_out (it : Item) : (s.enqueue it).out = s.out := by
  unfold State.enqueue; repeat' (first | rfl | (simp; done) | split | (simp only []; split))
@[simp] theorem State.enqueue_freeCtr (it : Item) : (s.enqueue it).freeCtr = s.freeCtr := by
  unfold State.enqueue; repeat' (first | rfl | (simp; done) | split | (simp only []; split))
@[simp] theorem State.enqueue_pending (it : Item) : (s.enqueue it).pending = s.pending := by
  unfold State.enqueue; repeat' (first | rfl | (simp; done) | split | (simp only []; split))
theorem State.enqueue_frame (it : Item) :
    (s.enqueue it) = { s with cluster := (s.enqueue it).cluster } :=
  State.eq_of_fields

@[simp] theorem State.raiseSrc_clock (n : Nat) (x : Src) : (s.raiseSrc n x).clock = s.clock := by
  unfold State.raiseSrc; repeat' (first | rfl | (simp; done) | split | (simp only []; split))
@[simp] theorem State.raiseSrc_ports (n : Nat) (x : Src) : (s.raiseSrc n x).ports = s.ports := by
  unfold State.raiseSrc; repeat' (first | rfl | (simp; done) | split | (simp only []; split))
@[simp] theorem State.raiseSrc_tunnels (n : Nat) (x : Src) : (s.raiseSrc n x).tunnels = s.tunnels := by
  unfold State.raiseSrc; repeat' (first | rfl | (simp; done) | split | (simp only []; split))
@[simp] theorem State.raiseSrc_plan (n : Nat) (x : Src) : (s.raiseSrc n x).plan = s.plan := by
  unfold State.raiseSrc; repeat' (first | rfl | (simp; done) | split | (simp only []; split))
@[simp] theorem State.raiseSrc_marl (n : Nat) (x : Src) : (s.raiseSrc n x).marl = s.marl := by
  unfold State.raiseSrc; repeat' (first | rfl | (simp; done) | split | (simp only []; split))
@[simp] theorem State.raiseSrc_xfer (n : Nat) (x : Src) : (s.raiseSrc n x).xfer = s.xfer := by
  unfold State.raiseSrc; repeat' (first | rfl | (simp; done) | split | (simp only []; split))
@[simp] theorem State.raiseSrc_hosts (n : Nat) (x : Src) : (s.raiseSrc n x).hosts = s.hosts := by
  unfold State.raiseSrc; repeat' (first | rfl | (simp; done) | split | (simp only []; split))
@[simp] theorem State.raiseSrc_power (n : Nat) (x : Src) : (s.raiseSrc n x).power = s.power := by
  unfold State.raiseSrc; repeat' (first | rfl | (simp; done) | split | (simp only []; split))
@[simp] theorem State.raiseSrc_mem (n : Nat) (x : Src) : (s.raiseSrc n x).mem = s.mem := by
  unfold State.raiseSrc; repeat' (first | rfl | (simp; done) | split | (simp only []; split))
@[simp] theorem State.raiseSrc_silt (n : Nat) (x : Src) : (s.raiseSrc n x).silt = s.silt := by
  unfold State.raiseSrc; repeat' (first | rfl | (simp; done) | split | (simp only []; split))
@[simp] theorem State.raiseSrc_boot (n : Nat) (x : Src) : (s.raiseSrc n x).boot = s.boot := by
  unfold State.raiseSrc; repeat' (first | rfl | (simp; done) | split | (simp only []; split))
@[simp] theorem State.raiseSrc_edge (n : Nat) (x : Src) : (s.raiseSrc n x).edge = s.edge := by
  unfold State.raiseSrc; repeat' (first | rfl | (simp; done) | split | (simp only []; split))
@[simp] theorem State.raiseSrc_mgmt (n : Nat) (x : Src) : (s.raiseSrc n x).mgmt = s.mgmt := by
  unfold State.raiseSrc; repeat' (first | rfl | (simp; done) | split | (simp only []; split))
@[simp] theorem State.raiseSrc_lock (n : Nat) (x : Src) : (s.raiseSrc n x).lock = s.lock := by
  unfold State.raiseSrc; repeat' (first | rfl | (simp; done) | split | (simp only []; split))
@[simp] theorem State.raiseSrc_siteId (n : Nat) (x : Src) : (s.raiseSrc n x).siteId = s.siteId := by
  unfold State.raiseSrc; repeat' (first | rfl | (simp; done) | split | (simp only []; split))
@[simp] theorem State.raiseSrc_out (n : Nat) (x : Src) : (s.raiseSrc n x).out = s.out := by
  unfold State.raiseSrc; repeat' (first | rfl | (simp; done) | split | (simp only []; split))
@[simp] theorem State.raiseSrc_freeCtr (n : Nat) (x : Src) : (s.raiseSrc n x).freeCtr = s.freeCtr := by
  unfold State.raiseSrc; repeat' (first | rfl | (simp; done) | split | (simp only []; split))
@[simp] theorem State.raiseSrc_pending (n : Nat) (x : Src) : (s.raiseSrc n x).pending = s.pending := by
  unfold State.raiseSrc; repeat' (first | rfl | (simp; done) | split | (simp only []; split))
theorem State.raiseSrc_frame (n : Nat) (x : Src) :
    (s.raiseSrc n x) = { s with cluster := (s.raiseSrc n x).cluster } :=
  State.eq_of_fields

@[simp] theorem State.wakeNow_clock (code : Nat) : (s.wakeNow code).clock = s.clock := by
  unfold State.wakeNow; repeat' (first | rfl | (simp; done) | split | (simp only []; split))
@[simp] theorem State.wakeNow_ports (code : Nat) : (s.wakeNow code).ports = s.ports := by
  unfold State.wakeNow; repeat' (first | rfl | (simp; done) | split | (simp only []; split))
@[simp] theorem State.wakeNow_tunnels (code : Nat) : (s.wakeNow code).tunnels = s.tunnels := by
  unfold State.wakeNow; repeat' (first | rfl | (simp; done) | split | (simp only []; split))
@[simp] theorem State.wakeNow_plan (code : Nat) : (s.wakeNow code).plan = s.plan := by
  unfold State.wakeNow; repeat' (first | rfl | (simp; done) | split | (simp only []; split))
@[simp] theorem State.wakeNow_marl (code : Nat) : (s.wakeNow code).marl = s.marl := by
  unfold State.wakeNow; repeat' (first | rfl | (simp; done) | split | (simp only []; split))
@[simp] theorem State.wakeNow_xfer (code : Nat) : (s.wakeNow code).xfer = s.xfer := by
  unfold State.wakeNow; repeat' (first | rfl | (simp; done) | split | (simp only []; split))
@[simp] theorem State.wakeNow_hosts (code : Nat) : (s.wakeNow code).hosts = s.hosts := by
  unfold State.wakeNow; repeat' (first | rfl | (simp; done) | split | (simp only []; split))
@[simp] theorem State.wakeNow_cluster (code : Nat) : (s.wakeNow code).cluster = s.cluster := by
  unfold State.wakeNow; repeat' (first | rfl | (simp; done) | split | (simp only []; split))
@[simp] theorem State.wakeNow_mem (code : Nat) : (s.wakeNow code).mem = s.mem := by
  unfold State.wakeNow; repeat' (first | rfl | (simp; done) | split | (simp only []; split))
@[simp] theorem State.wakeNow_silt (code : Nat) : (s.wakeNow code).silt = s.silt := by
  unfold State.wakeNow; repeat' (first | rfl | (simp; done) | split | (simp only []; split))
@[simp] theorem State.wakeNow_boot (code : Nat) : (s.wakeNow code).boot = s.boot := by
  unfold State.wakeNow; repeat' (first | rfl | (simp; done) | split | (simp only []; split))
@[simp] theorem State.wakeNow_edge (code : Nat) : (s.wakeNow code).edge = s.edge := by
  unfold State.wakeNow; repeat' (first | rfl | (simp; done) | split | (simp only []; split))
@[simp] theorem State.wakeNow_mgmt (code : Nat) : (s.wakeNow code).mgmt = s.mgmt := by
  unfold State.wakeNow; repeat' (first | rfl | (simp; done) | split | (simp only []; split))
@[simp] theorem State.wakeNow_lock (code : Nat) : (s.wakeNow code).lock = s.lock := by
  unfold State.wakeNow; repeat' (first | rfl | (simp; done) | split | (simp only []; split))
@[simp] theorem State.wakeNow_siteId (code : Nat) : (s.wakeNow code).siteId = s.siteId := by
  unfold State.wakeNow; repeat' (first | rfl | (simp; done) | split | (simp only []; split))
@[simp] theorem State.wakeNow_out (code : Nat) : (s.wakeNow code).out = s.out := by
  unfold State.wakeNow; repeat' (first | rfl | (simp; done) | split | (simp only []; split))
@[simp] theorem State.wakeNow_freeCtr (code : Nat) : (s.wakeNow code).freeCtr = s.freeCtr := by
  unfold State.wakeNow; repeat' (first | rfl | (simp; done) | split | (simp only []; split))
@[simp] theorem State.wakeNow_pending (code : Nat) : (s.wakeNow code).pending = s.pending := by
  unfold State.wakeNow; repeat' (first | rfl | (simp; done) | split | (simp only []; split))
theorem State.wakeNow_frame (code : Nat) :
    (s.wakeNow code) = { s with power := (s.wakeNow code).power } :=
  State.eq_of_fields
@[simp] theorem State.wakeNow_power_on (code : Nat) : (s.wakeNow code).power.on = s.power.on := by
  unfold State.wakeNow; repeat' (first | rfl | (simp; done) | split | (simp only []; split))
@[simp] theorem State.wakeNow_power_hold (code : Nat) : (s.wakeNow code).power.hold = s.power.hold := by
  unfold State.wakeNow; repeat' (first | rfl | (simp; done) | split | (simp only []; split))
@[simp] theorem State.wakeNow_power_seqs (code : Nat) : (s.wakeNow code).power.seqs = s.power.seqs := by
  unfold State.wakeNow; repeat' (first | rfl | (simp; done) | split | (simp only []; split))
@[simp] theorem State.wakeNow_power_powered (code : Nat) : (s.wakeNow code).power.powered = s.power.powered := by
  unfold State.wakeNow; repeat' (first | rfl | (simp; done) | split | (simp only []; split))
@[simp] theorem State.wakeNow_power_sleep (code : Nat) : (s.wakeNow code).power.sleep = s.power.sleep := by
  unfold State.wakeNow; repeat' (first | rfl | (simp; done) | split | (simp only []; split))
@[simp] theorem State.wakeNow_power_levels (code : Nat) : (s.wakeNow code).power.levels = s.power.levels := by
  unfold State.wakeNow; repeat' (first | rfl | (simp; done) | split | (simp only []; split))
@[simp] theorem State.wakeNow_power (code : Nat) (st : s.power.phase = .steady) (aw : s.power.sleep = 0) : (s.wakeNow code).power = s.power := by
  unfold State.wakeNow; repeat' (first | rfl | (simp [st, aw]; done) | split | (simp only []; split))

@[simp] theorem State.wakeCfg_clock (b : Nat) : (s.wakeCfg b).clock = s.clock := by
  unfold State.wakeCfg; repeat' (first | rfl | (simp; done) | split | (simp only []; split))
@[simp] theorem State.wakeCfg_ports (b : Nat) : (s.wakeCfg b).ports = s.ports := by
  unfold State.wakeCfg; repeat' (first | rfl | (simp; done) | split | (simp only []; split))
@[simp] theorem State.wakeCfg_tunnels (b : Nat) : (s.wakeCfg b).tunnels = s.tunnels := by
  unfold State.wakeCfg; repeat' (first | rfl | (simp; done) | split | (simp only []; split))
@[simp] theorem State.wakeCfg_plan (b : Nat) : (s.wakeCfg b).plan = s.plan := by
  unfold State.wakeCfg; repeat' (first | rfl | (simp; done) | split | (simp only []; split))
@[simp] theorem State.wakeCfg_marl (b : Nat) : (s.wakeCfg b).marl = s.marl := by
  unfold State.wakeCfg; repeat' (first | rfl | (simp; done) | split | (simp only []; split))
@[simp] theorem State.wakeCfg_xfer (b : Nat) : (s.wakeCfg b).xfer = s.xfer := by
  unfold State.wakeCfg; repeat' (first | rfl | (simp; done) | split | (simp only []; split))
@[simp] theorem State.wakeCfg_hosts (b : Nat) : (s.wakeCfg b).hosts = s.hosts := by
  unfold State.wakeCfg; repeat' (first | rfl | (simp; done) | split | (simp only []; split))
@[simp] theorem State.wakeCfg_cluster (b : Nat) : (s.wakeCfg b).cluster = s.cluster := by
  unfold State.wakeCfg; repeat' (first | rfl | (simp; done) | split | (simp only []; split))
@[simp] theorem State.wakeCfg_mem (b : Nat) : (s.wakeCfg b).mem = s.mem := by
  unfold State.wakeCfg; repeat' (first | rfl | (simp; done) | split | (simp only []; split))
@[simp] theorem State.wakeCfg_silt (b : Nat) : (s.wakeCfg b).silt = s.silt := by
  unfold State.wakeCfg; repeat' (first | rfl | (simp; done) | split | (simp only []; split))
@[simp] theorem State.wakeCfg_boot (b : Nat) : (s.wakeCfg b).boot = s.boot := by
  unfold State.wakeCfg; repeat' (first | rfl | (simp; done) | split | (simp only []; split))
@[simp] theorem State.wakeCfg_edge (b : Nat) : (s.wakeCfg b).edge = s.edge := by
  unfold State.wakeCfg; repeat' (first | rfl | (simp; done) | split | (simp only []; split))
@[simp] theorem State.wakeCfg_mgmt (b : Nat) : (s.wakeCfg b).mgmt = s.mgmt := by
  unfold State.wakeCfg; repeat' (first | rfl | (simp; done) | split | (simp only []; split))
@[simp] theorem State.wakeCfg_lock (b : Nat) : (s.wakeCfg b).lock = s.lock := by
  unfold State.wakeCfg; repeat' (first | rfl | (simp; done) | split | (simp only []; split))
@[simp] theorem State.wakeCfg_siteId (b : Nat) : (s.wakeCfg b).siteId = s.siteId := by
  unfold State.wakeCfg; repeat' (first | rfl | (simp; done) | split | (simp only []; split))
@[simp] theorem State.wakeCfg_out (b : Nat) : (s.wakeCfg b).out = s.out := by
  unfold State.wakeCfg; repeat' (first | rfl | (simp; done) | split | (simp only []; split))
@[simp] theorem State.wakeCfg_freeCtr (b : Nat) : (s.wakeCfg b).freeCtr = s.freeCtr := by
  unfold State.wakeCfg; repeat' (first | rfl | (simp; done) | split | (simp only []; split))
@[simp] theorem State.wakeCfg_pending (b : Nat) : (s.wakeCfg b).pending = s.pending := by
  unfold State.wakeCfg; repeat' (first | rfl | (simp; done) | split | (simp only []; split))
theorem State.wakeCfg_frame (b : Nat) :
    (s.wakeCfg b) = { s with power := (s.wakeCfg b).power } :=
  State.eq_of_fields
@[simp] theorem State.wakeCfg_power_on (b : Nat) : (s.wakeCfg b).power.on = s.power.on := by
  unfold State.wakeCfg; repeat' (first | rfl | (simp; done) | split | (simp only []; split))
@[simp] theorem State.wakeCfg_power_hold (b : Nat) : (s.wakeCfg b).power.hold = s.power.hold := by
  unfold State.wakeCfg; repeat' (first | rfl | (simp; done) | split | (simp only []; split))
@[simp] theorem State.wakeCfg_power_seqs (b : Nat) : (s.wakeCfg b).power.seqs = s.power.seqs := by
  unfold State.wakeCfg; repeat' (first | rfl | (simp; done) | split | (simp only []; split))
@[simp] theorem State.wakeCfg_power_powered (b : Nat) : (s.wakeCfg b).power.powered = s.power.powered := by
  unfold State.wakeCfg; repeat' (first | rfl | (simp; done) | split | (simp only []; split))
@[simp] theorem State.wakeCfg_power_sleep (b : Nat) : (s.wakeCfg b).power.sleep = s.power.sleep := by
  unfold State.wakeCfg; repeat' (first | rfl | (simp; done) | split | (simp only []; split))
@[simp] theorem State.wakeCfg_power_levels (b : Nat) : (s.wakeCfg b).power.levels = s.power.levels := by
  unfold State.wakeCfg; repeat' (first | rfl | (simp; done) | split | (simp only []; split))
@[simp] theorem State.wakeCfg_power (b : Nat) (st : s.power.phase = .steady) (aw : s.power.sleep = 0) : (s.wakeCfg b).power = s.power := by
  unfold State.wakeCfg; repeat' (first | rfl | (simp [st, aw]; done) | split | (simp only []; split))

@[simp] theorem State.event_clock (n : Nat) : (s.event n).clock = s.clock := by
  unfold State.event; repeat' (first | rfl | (simp; done) | split | (simp only []; split))
@[simp] theorem State.event_ports (n : Nat) : (s.event n).ports = s.ports := by
  unfold State.event; repeat' (first | rfl | (simp; done) | split | (simp only []; split))
@[simp] theorem State.event_tunnels (n : Nat) : (s.event n).tunnels = s.tunnels := by
  unfold State.event; repeat' (first | rfl | (simp; done) | split | (simp only []; split))
@[simp] theorem State.event_plan (n : Nat) : (s.event n).plan = s.plan := by
  unfold State.event; repeat' (first | rfl | (simp; done) | split | (simp only []; split))
@[simp] theorem State.event_marl (n : Nat) : (s.event n).marl = s.marl := by
  unfold State.event; repeat' (first | rfl | (simp; done) | split | (simp only []; split))
@[simp] theorem State.event_xfer (n : Nat) : (s.event n).xfer = s.xfer := by
  unfold State.event; repeat' (first | rfl | (simp; done) | split | (simp only []; split))
@[simp] theorem State.event_hosts (n : Nat) : (s.event n).hosts = s.hosts := by
  unfold State.event; repeat' (first | rfl | (simp; done) | split | (simp only []; split))
@[simp] theorem State.event_mem (n : Nat) : (s.event n).mem = s.mem := by
  unfold State.event; repeat' (first | rfl | (simp; done) | split | (simp only []; split))
@[simp] theorem State.event_silt (n : Nat) : (s.event n).silt = s.silt := by
  unfold State.event; repeat' (first | rfl | (simp; done) | split | (simp only []; split))
@[simp] theorem State.event_boot (n : Nat) : (s.event n).boot = s.boot := by
  unfold State.event; repeat' (first | rfl | (simp; done) | split | (simp only []; split))
@[simp] theorem State.event_edge (n : Nat) : (s.event n).edge = s.edge := by
  unfold State.event; repeat' (first | rfl | (simp; done) | split | (simp only []; split))
@[simp] theorem State.event_mgmt (n : Nat) : (s.event n).mgmt = s.mgmt := by
  unfold State.event; repeat' (first | rfl | (simp; done) | split | (simp only []; split))
@[simp] theorem State.event_lock (n : Nat) : (s.event n).lock = s.lock := by
  unfold State.event; repeat' (first | rfl | (simp; done) | split | (simp only []; split))
@[simp] theorem State.event_siteId (n : Nat) : (s.event n).siteId = s.siteId := by
  unfold State.event; repeat' (first | rfl | (simp; done) | split | (simp only []; split))
@[simp] theorem State.event_out (n : Nat) : (s.event n).out = s.out := by
  unfold State.event; repeat' (first | rfl | (simp; done) | split | (simp only []; split))
@[simp] theorem State.event_freeCtr (n : Nat) : (s.event n).freeCtr = s.freeCtr := by
  unfold State.event; repeat' (first | rfl | (simp; done) | split | (simp only []; split))
@[simp] theorem State.event_pending (n : Nat) : (s.event n).pending = s.pending := by
  unfold State.event; repeat' (first | rfl | (simp; done) | split | (simp only []; split))
theorem State.event_frame (n : Nat) :
    (s.event n) = { s with cluster := (s.event n).cluster, power := (s.event n).power } :=
  State.eq_of_fields
@[simp] theorem State.event_power_on (n : Nat) : (s.event n).power.on = s.power.on := by
  unfold State.event; repeat' (first | rfl | (simp; done) | split | (simp only []; split))
@[simp] theorem State.event_power_hold (n : Nat) : (s.event n).power.hold = s.power.hold := by
  unfold State.event; repeat' (first | rfl | (simp; done) | split | (simp only []; split))
@[simp] theorem State.event_power_seqs (n : Nat) : (s.event n).power.seqs = s.power.seqs := by
  unfold State.event; repeat' (first | rfl | (simp; done) | split | (simp only []; split))
@[simp] theorem State.event_power_powered (n : Nat) : (s.event n).power.powered = s.power.powered := by
  unfold State.event; repeat' (first | rfl | (simp; done) | split | (simp only []; split))
@[simp] theorem State.event_power_sleep (n : Nat) : (s.event n).power.sleep = s.power.sleep := by
  unfold State.event; repeat' (first | rfl | (simp; done) | split | (simp only []; split))
@[simp] theorem State.event_power_levels (n : Nat) : (s.event n).power.levels = s.power.levels := by
  unfold State.event; repeat' (first | rfl | (simp; done) | split | (simp only []; split))
@[simp] theorem State.event_power (n : Nat) (st : s.power.phase = .steady) (aw : s.power.sleep = 0) : (s.event n).power = s.power := by
  unfold State.event; repeat' (first | rfl | (simp [st, aw]; done) | split | (simp only []; split))

@[simp] theorem State.level_clock (n : Nat) (b : Bool) : (s.level n b).clock = s.clock := by
  unfold State.level; repeat' (first | rfl | (simp; done) | split | (simp only []; split))
@[simp] theorem State.level_ports (n : Nat) (b : Bool) : (s.level n b).ports = s.ports := by
  unfold State.level; repeat' (first | rfl | (simp; done) | split | (simp only []; split))
@[simp] theorem State.level_tunnels (n : Nat) (b : Bool) : (s.level n b).tunnels = s.tunnels := by
  unfold State.level; repeat' (first | rfl | (simp; done) | split | (simp only []; split))
@[simp] theorem State.level_plan (n : Nat) (b : Bool) : (s.level n b).plan = s.plan := by
  unfold State.level; repeat' (first | rfl | (simp; done) | split | (simp only []; split))
@[simp] theorem State.level_marl (n : Nat) (b : Bool) : (s.level n b).marl = s.marl := by
  unfold State.level; repeat' (first | rfl | (simp; done) | split | (simp only []; split))
@[simp] theorem State.level_xfer (n : Nat) (b : Bool) : (s.level n b).xfer = s.xfer := by
  unfold State.level; repeat' (first | rfl | (simp; done) | split | (simp only []; split))
@[simp] theorem State.level_hosts (n : Nat) (b : Bool) : (s.level n b).hosts = s.hosts := by
  unfold State.level; repeat' (first | rfl | (simp; done) | split | (simp only []; split))
@[simp] theorem State.level_mem (n : Nat) (b : Bool) : (s.level n b).mem = s.mem := by
  unfold State.level; repeat' (first | rfl | (simp; done) | split | (simp only []; split))
@[simp] theorem State.level_silt (n : Nat) (b : Bool) : (s.level n b).silt = s.silt := by
  unfold State.level; repeat' (first | rfl | (simp; done) | split | (simp only []; split))
@[simp] theorem State.level_boot (n : Nat) (b : Bool) : (s.level n b).boot = s.boot := by
  unfold State.level; repeat' (first | rfl | (simp; done) | split | (simp only []; split))
@[simp] theorem State.level_edge (n : Nat) (b : Bool) : (s.level n b).edge = s.edge := by
  unfold State.level; repeat' (first | rfl | (simp; done) | split | (simp only []; split))
@[simp] theorem State.level_mgmt (n : Nat) (b : Bool) : (s.level n b).mgmt = s.mgmt := by
  unfold State.level; repeat' (first | rfl | (simp; done) | split | (simp only []; split))
@[simp] theorem State.level_lock (n : Nat) (b : Bool) : (s.level n b).lock = s.lock := by
  unfold State.level; repeat' (first | rfl | (simp; done) | split | (simp only []; split))
@[simp] theorem State.level_siteId (n : Nat) (b : Bool) : (s.level n b).siteId = s.siteId := by
  unfold State.level; repeat' (first | rfl | (simp; done) | split | (simp only []; split))
@[simp] theorem State.level_out (n : Nat) (b : Bool) : (s.level n b).out = s.out := by
  unfold State.level; repeat' (first | rfl | (simp; done) | split | (simp only []; split))
@[simp] theorem State.level_freeCtr (n : Nat) (b : Bool) : (s.level n b).freeCtr = s.freeCtr := by
  unfold State.level; repeat' (first | rfl | (simp; done) | split | (simp only []; split))
@[simp] theorem State.level_pending (n : Nat) (b : Bool) : (s.level n b).pending = s.pending := by
  unfold State.level; repeat' (first | rfl | (simp; done) | split | (simp only []; split))
theorem State.level_frame (n : Nat) (b : Bool) :
    (s.level n b) = { s with cluster := (s.level n b).cluster, power := (s.level n b).power } :=
  State.eq_of_fields
@[simp] theorem State.level_power_on (n : Nat) (b : Bool) : (s.level n b).power.on = s.power.on := by
  unfold State.level; repeat' (first | rfl | (simp; done) | split | (simp only []; split))
@[simp] theorem State.level_power_hold (n : Nat) (b : Bool) : (s.level n b).power.hold = s.power.hold := by
  unfold State.level; repeat' (first | rfl | (simp; done) | split | (simp only []; split))
@[simp] theorem State.level_power_seqs (n : Nat) (b : Bool) : (s.level n b).power.seqs = s.power.seqs := by
  unfold State.level; repeat' (first | rfl | (simp; done) | split | (simp only []; split))
@[simp] theorem State.level_power_powered (n : Nat) (b : Bool) : (s.level n b).power.powered = s.power.powered := by
  unfold State.level; repeat' (first | rfl | (simp; done) | split | (simp only []; split))
@[simp] theorem State.level_power_sleep (n : Nat) (b : Bool) : (s.level n b).power.sleep = s.power.sleep := by
  unfold State.level; repeat' (first | rfl | (simp; done) | split | (simp only []; split))
@[simp] theorem State.level_power_levels (n : Nat) (b : Bool) : (s.level n b).power.levels = s.power.levels := by
  unfold State.level; repeat' (first | rfl | (simp; done) | split | (simp only []; split))
@[simp] theorem State.level_power (n : Nat) (b : Bool) (st : s.power.phase = .steady) (aw : s.power.sleep = 0) : (s.level n b).power = s.power := by
  unfold State.level; repeat' (first | rfl | (simp [st, aw]; done) | split | (simp only []; split))

@[simp] theorem State.alarmOccur_clock (a o : Nat) (c : Bool) : (s.alarmOccur a o c).clock = s.clock := by
  unfold State.alarmOccur; repeat' (first | rfl | (simp; done) | split | (simp only []; split))
@[simp] theorem State.alarmOccur_ports (a o : Nat) (c : Bool) : (s.alarmOccur a o c).ports = s.ports := by
  unfold State.alarmOccur; repeat' (first | rfl | (simp; done) | split | (simp only []; split))
@[simp] theorem State.alarmOccur_tunnels (a o : Nat) (c : Bool) : (s.alarmOccur a o c).tunnels = s.tunnels := by
  unfold State.alarmOccur; repeat' (first | rfl | (simp; done) | split | (simp only []; split))
@[simp] theorem State.alarmOccur_plan (a o : Nat) (c : Bool) : (s.alarmOccur a o c).plan = s.plan := by
  unfold State.alarmOccur; repeat' (first | rfl | (simp; done) | split | (simp only []; split))
@[simp] theorem State.alarmOccur_marl (a o : Nat) (c : Bool) : (s.alarmOccur a o c).marl = s.marl := by
  unfold State.alarmOccur; repeat' (first | rfl | (simp; done) | split | (simp only []; split))
@[simp] theorem State.alarmOccur_xfer (a o : Nat) (c : Bool) : (s.alarmOccur a o c).xfer = s.xfer := by
  unfold State.alarmOccur; repeat' (first | rfl | (simp; done) | split | (simp only []; split))
@[simp] theorem State.alarmOccur_mem (a o : Nat) (c : Bool) : (s.alarmOccur a o c).mem = s.mem := by
  unfold State.alarmOccur; repeat' (first | rfl | (simp; done) | split | (simp only []; split))
@[simp] theorem State.alarmOccur_boot (a o : Nat) (c : Bool) : (s.alarmOccur a o c).boot = s.boot := by
  unfold State.alarmOccur; repeat' (first | rfl | (simp; done) | split | (simp only []; split))
@[simp] theorem State.alarmOccur_edge (a o : Nat) (c : Bool) : (s.alarmOccur a o c).edge = s.edge := by
  unfold State.alarmOccur; repeat' (first | rfl | (simp; done) | split | (simp only []; split))
@[simp] theorem State.alarmOccur_lock (a o : Nat) (c : Bool) : (s.alarmOccur a o c).lock = s.lock := by
  unfold State.alarmOccur; repeat' (first | rfl | (simp; done) | split | (simp only []; split))
@[simp] theorem State.alarmOccur_siteId (a o : Nat) (c : Bool) : (s.alarmOccur a o c).siteId = s.siteId := by
  unfold State.alarmOccur; repeat' (first | rfl | (simp; done) | split | (simp only []; split))
@[simp] theorem State.alarmOccur_out (a o : Nat) (c : Bool) : (s.alarmOccur a o c).out = s.out := by
  unfold State.alarmOccur; repeat' (first | rfl | (simp; done) | split | (simp only []; split))
@[simp] theorem State.alarmOccur_freeCtr (a o : Nat) (c : Bool) : (s.alarmOccur a o c).freeCtr = s.freeCtr := by
  unfold State.alarmOccur; repeat' (first | rfl | (simp; done) | split | (simp only []; split))
@[simp] theorem State.alarmOccur_pending (a o : Nat) (c : Bool) : (s.alarmOccur a o c).pending = s.pending := by
  unfold State.alarmOccur; repeat' (first | rfl | (simp; done) | split | (simp only []; split))
theorem State.alarmOccur_frame (a o : Nat) (c : Bool) :
    (s.alarmOccur a o c) = { s with hosts := (s.alarmOccur a o c).hosts, cluster := (s.alarmOccur a o c).cluster, power := (s.alarmOccur a o c).power, silt := (s.alarmOccur a o c).silt, mgmt := (s.alarmOccur a o c).mgmt } :=
  State.eq_of_fields
@[simp] theorem State.alarmOccur_power_on (a o : Nat) (c : Bool) : (s.alarmOccur a o c).power.on = s.power.on := by
  unfold State.alarmOccur; repeat' (first | rfl | (simp; done) | split | (simp only []; split))
@[simp] theorem State.alarmOccur_power_hold (a o : Nat) (c : Bool) : (s.alarmOccur a o c).power.hold = s.power.hold := by
  unfold State.alarmOccur; repeat' (first | rfl | (simp; done) | split | (simp only []; split))
@[simp] theorem State.alarmOccur_power_seqs (a o : Nat) (c : Bool) : (s.alarmOccur a o c).power.seqs = s.power.seqs := by
  unfold State.alarmOccur; repeat' (first | rfl | (simp; done) | split | (simp only []; split))
@[simp] theorem State.alarmOccur_power_powered (a o : Nat) (c : Bool) : (s.alarmOccur a o c).power.powered = s.power.powered := by
  unfold State.alarmOccur; repeat' (first | rfl | (simp; done) | split | (simp only []; split))
@[simp] theorem State.alarmOccur_power_sleep (a o : Nat) (c : Bool) : (s.alarmOccur a o c).power.sleep = s.power.sleep := by
  unfold State.alarmOccur; repeat' (first | rfl | (simp; done) | split | (simp only []; split))
@[simp] theorem State.alarmOccur_power_levels (a o : Nat) (c : Bool) : (s.alarmOccur a o c).power.levels = s.power.levels := by
  unfold State.alarmOccur; repeat' (first | rfl | (simp; done) | split | (simp only []; split))
@[simp] theorem State.alarmOccur_power (a o : Nat) (c : Bool) (st : s.power.phase = .steady) (aw : s.power.sleep = 0) : (s.alarmOccur a o c).power = s.power := by
  unfold State.alarmOccur; repeat' (first | rfl | (simp [st, aw]; done) | split | (simp only []; split))

@[simp] theorem State.alarmEnd_clock (a : Nat) : (s.alarmEnd a).clock = s.clock := by
  unfold State.alarmEnd; repeat' (first | rfl | (simp; done) | split | (simp only []; split))
@[simp] theorem State.alarmEnd_ports (a : Nat) : (s.alarmEnd a).ports = s.ports := by
  unfold State.alarmEnd; repeat' (first | rfl | (simp; done) | split | (simp only []; split))
@[simp] theorem State.alarmEnd_tunnels (a : Nat) : (s.alarmEnd a).tunnels = s.tunnels := by
  unfold State.alarmEnd; repeat' (first | rfl | (simp; done) | split | (simp only []; split))
@[simp] theorem State.alarmEnd_plan (a : Nat) : (s.alarmEnd a).plan = s.plan := by
  unfold State.alarmEnd; repeat' (first | rfl | (simp; done) | split | (simp only []; split))
@[simp] theorem State.alarmEnd_marl (a : Nat) : (s.alarmEnd a).marl = s.marl := by
  unfold State.alarmEnd; repeat' (first | rfl | (simp; done) | split | (simp only []; split))
@[simp] theorem State.alarmEnd_xfer (a : Nat) : (s.alarmEnd a).xfer = s.xfer := by
  unfold State.alarmEnd; repeat' (first | rfl | (simp; done) | split | (simp only []; split))
@[simp] theorem State.alarmEnd_hosts (a : Nat) : (s.alarmEnd a).hosts = s.hosts := by
  unfold State.alarmEnd; repeat' (first | rfl | (simp; done) | split | (simp only []; split))
@[simp] theorem State.alarmEnd_cluster (a : Nat) : (s.alarmEnd a).cluster = s.cluster := by
  unfold State.alarmEnd; repeat' (first | rfl | (simp; done) | split | (simp only []; split))
@[simp] theorem State.alarmEnd_power (a : Nat) : (s.alarmEnd a).power = s.power := by
  unfold State.alarmEnd; repeat' (first | rfl | (simp; done) | split | (simp only []; split))
@[simp] theorem State.alarmEnd_mem (a : Nat) : (s.alarmEnd a).mem = s.mem := by
  unfold State.alarmEnd; repeat' (first | rfl | (simp; done) | split | (simp only []; split))
@[simp] theorem State.alarmEnd_boot (a : Nat) : (s.alarmEnd a).boot = s.boot := by
  unfold State.alarmEnd; repeat' (first | rfl | (simp; done) | split | (simp only []; split))
@[simp] theorem State.alarmEnd_edge (a : Nat) : (s.alarmEnd a).edge = s.edge := by
  unfold State.alarmEnd; repeat' (first | rfl | (simp; done) | split | (simp only []; split))
@[simp] theorem State.alarmEnd_mgmt (a : Nat) : (s.alarmEnd a).mgmt = s.mgmt := by
  unfold State.alarmEnd; repeat' (first | rfl | (simp; done) | split | (simp only []; split))
@[simp] theorem State.alarmEnd_lock (a : Nat) : (s.alarmEnd a).lock = s.lock := by
  unfold State.alarmEnd; repeat' (first | rfl | (simp; done) | split | (simp only []; split))
@[simp] theorem State.alarmEnd_siteId (a : Nat) : (s.alarmEnd a).siteId = s.siteId := by
  unfold State.alarmEnd; repeat' (first | rfl | (simp; done) | split | (simp only []; split))
@[simp] theorem State.alarmEnd_out (a : Nat) : (s.alarmEnd a).out = s.out := by
  unfold State.alarmEnd; repeat' (first | rfl | (simp; done) | split | (simp only []; split))
@[simp] theorem State.alarmEnd_freeCtr (a : Nat) : (s.alarmEnd a).freeCtr = s.freeCtr := by
  unfold State.alarmEnd; repeat' (first | rfl | (simp; done) | split | (simp only []; split))
@[simp] theorem State.alarmEnd_pending (a : Nat) : (s.alarmEnd a).pending = s.pending := by
  unfold State.alarmEnd; repeat' (first | rfl | (simp; done) | split | (simp only []; split))
theorem State.alarmEnd_frame (a : Nat) :
    (s.alarmEnd a) = { s with silt := (s.alarmEnd a).silt } :=
  State.eq_of_fields

@[simp] theorem State.journalAlarm_clock : s.journalAlarm.clock = s.clock := by
  unfold State.journalAlarm; repeat' (first | rfl | (simp; done) | split | (simp only []; split))
@[simp] theorem State.journalAlarm_ports : s.journalAlarm.ports = s.ports := by
  unfold State.journalAlarm; repeat' (first | rfl | (simp; done) | split | (simp only []; split))
@[simp] theorem State.journalAlarm_tunnels : s.journalAlarm.tunnels = s.tunnels := by
  unfold State.journalAlarm; repeat' (first | rfl | (simp; done) | split | (simp only []; split))
@[simp] theorem State.journalAlarm_plan : s.journalAlarm.plan = s.plan := by
  unfold State.journalAlarm; repeat' (first | rfl | (simp; done) | split | (simp only []; split))
@[simp] theorem State.journalAlarm_marl : s.journalAlarm.marl = s.marl := by
  unfold State.journalAlarm; repeat' (first | rfl | (simp; done) | split | (simp only []; split))
@[simp] theorem State.journalAlarm_xfer : s.journalAlarm.xfer = s.xfer := by
  unfold State.journalAlarm; repeat' (first | rfl | (simp; done) | split | (simp only []; split))
@[simp] theorem State.journalAlarm_mem : s.journalAlarm.mem = s.mem := by
  unfold State.journalAlarm; repeat' (first | rfl | (simp; done) | split | (simp only []; split))
@[simp] theorem State.journalAlarm_boot : s.journalAlarm.boot = s.boot := by
  unfold State.journalAlarm; repeat' (first | rfl | (simp; done) | split | (simp only []; split))
@[simp] theorem State.journalAlarm_edge : s.journalAlarm.edge = s.edge := by
  unfold State.journalAlarm; repeat' (first | rfl | (simp; done) | split | (simp only []; split))
@[simp] theorem State.journalAlarm_lock : s.journalAlarm.lock = s.lock := by
  unfold State.journalAlarm; repeat' (first | rfl | (simp; done) | split | (simp only []; split))
@[simp] theorem State.journalAlarm_siteId : s.journalAlarm.siteId = s.siteId := by
  unfold State.journalAlarm; repeat' (first | rfl | (simp; done) | split | (simp only []; split))
@[simp] theorem State.journalAlarm_out : s.journalAlarm.out = s.out := by
  unfold State.journalAlarm; repeat' (first | rfl | (simp; done) | split | (simp only []; split))
@[simp] theorem State.journalAlarm_freeCtr : s.journalAlarm.freeCtr = s.freeCtr := by
  unfold State.journalAlarm; repeat' (first | rfl | (simp; done) | split | (simp only []; split))
@[simp] theorem State.journalAlarm_pending : s.journalAlarm.pending = s.pending := by
  unfold State.journalAlarm; repeat' (first | rfl | (simp; done) | split | (simp only []; split))
theorem State.journalAlarm_frame :
    s.journalAlarm = { s with hosts := s.journalAlarm.hosts, cluster := s.journalAlarm.cluster, power := s.journalAlarm.power, silt := s.journalAlarm.silt, mgmt := s.journalAlarm.mgmt } :=
  State.eq_of_fields
@[simp] theorem State.journalAlarm_power_on : s.journalAlarm.power.on = s.power.on := by
  unfold State.journalAlarm; repeat' (first | rfl | (simp; done) | split | (simp only []; split))
@[simp] theorem State.journalAlarm_power_hold : s.journalAlarm.power.hold = s.power.hold := by
  unfold State.journalAlarm; repeat' (first | rfl | (simp; done) | split | (simp only []; split))
@[simp] theorem State.journalAlarm_power_seqs : s.journalAlarm.power.seqs = s.power.seqs := by
  unfold State.journalAlarm; repeat' (first | rfl | (simp; done) | split | (simp only []; split))
@[simp] theorem State.journalAlarm_power_powered : s.journalAlarm.power.powered = s.power.powered := by
  unfold State.journalAlarm; repeat' (first | rfl | (simp; done) | split | (simp only []; split))
@[simp] theorem State.journalAlarm_power_sleep : s.journalAlarm.power.sleep = s.power.sleep := by
  unfold State.journalAlarm; repeat' (first | rfl | (simp; done) | split | (simp only []; split))
@[simp] theorem State.journalAlarm_power_levels : s.journalAlarm.power.levels = s.power.levels := by
  unfold State.journalAlarm; repeat' (first | rfl | (simp; done) | split | (simp only []; split))
@[simp] theorem State.journalAlarm_power (st : s.power.phase = .steady) (aw : s.power.sleep = 0) : s.journalAlarm.power = s.power := by
  unfold State.journalAlarm; repeat' (first | rfl | (simp [st, aw]; done) | split | (simp only []; split))

@[simp] theorem State.commit_clock (r : JReq) : (s.commit r).clock = s.clock := by
  unfold State.commit; repeat' (first | rfl | (simp; done) | split | (simp only []; split))
@[simp] theorem State.commit_ports (r : JReq) : (s.commit r).ports = s.ports := by
  unfold State.commit; repeat' (first | rfl | (simp; done) | split | (simp only []; split))
@[simp] theorem State.commit_tunnels (r : JReq) : (s.commit r).tunnels = s.tunnels := by
  unfold State.commit; repeat' (first | rfl | (simp; done) | split | (simp only []; split))
@[simp] theorem State.commit_plan (r : JReq) : (s.commit r).plan = s.plan := by
  unfold State.commit; repeat' (first | rfl | (simp; done) | split | (simp only []; split))
@[simp] theorem State.commit_marl (r : JReq) : (s.commit r).marl = s.marl := by
  unfold State.commit; repeat' (first | rfl | (simp; done) | split | (simp only []; split))
@[simp] theorem State.commit_xfer (r : JReq) : (s.commit r).xfer = s.xfer := by
  unfold State.commit; repeat' (first | rfl | (simp; done) | split | (simp only []; split))
@[simp] theorem State.commit_mem (r : JReq) : (s.commit r).mem = s.mem := by
  unfold State.commit; repeat' (first | rfl | (simp; done) | split | (simp only []; split))
@[simp] theorem State.commit_boot (r : JReq) : (s.commit r).boot = s.boot := by
  unfold State.commit; repeat' (first | rfl | (simp; done) | split | (simp only []; split))
@[simp] theorem State.commit_edge (r : JReq) : (s.commit r).edge = s.edge := by
  unfold State.commit; repeat' (first | rfl | (simp; done) | split | (simp only []; split))
@[simp] theorem State.commit_lock (r : JReq) : (s.commit r).lock = s.lock := by
  unfold State.commit; repeat' (first | rfl | (simp; done) | split | (simp only []; split))
@[simp] theorem State.commit_siteId (r : JReq) : (s.commit r).siteId = s.siteId := by
  unfold State.commit; repeat' (first | rfl | (simp; done) | split | (simp only []; split))
@[simp] theorem State.commit_out (r : JReq) : (s.commit r).out = s.out := by
  unfold State.commit; repeat' (first | rfl | (simp; done) | split | (simp only []; split))
@[simp] theorem State.commit_freeCtr (r : JReq) : (s.commit r).freeCtr = s.freeCtr := by
  unfold State.commit; repeat' (first | rfl | (simp; done) | split | (simp only []; split))
@[simp] theorem State.commit_pending (r : JReq) : (s.commit r).pending = s.pending := by
  unfold State.commit; repeat' (first | rfl | (simp; done) | split | (simp only []; split))
theorem State.commit_frame (r : JReq) :
    (s.commit r) = { s with hosts := (s.commit r).hosts, cluster := (s.commit r).cluster, power := (s.commit r).power, silt := (s.commit r).silt, mgmt := (s.commit r).mgmt } :=
  State.eq_of_fields
@[simp] theorem State.commit_power_on (r : JReq) : (s.commit r).power.on = s.power.on := by
  unfold State.commit; repeat' (first | rfl | (simp; done) | split | (simp only []; split))
@[simp] theorem State.commit_power_hold (r : JReq) : (s.commit r).power.hold = s.power.hold := by
  unfold State.commit; repeat' (first | rfl | (simp; done) | split | (simp only []; split))
@[simp] theorem State.commit_power_seqs (r : JReq) : (s.commit r).power.seqs = s.power.seqs := by
  unfold State.commit; repeat' (first | rfl | (simp; done) | split | (simp only []; split))
@[simp] theorem State.commit_power_powered (r : JReq) : (s.commit r).power.powered = s.power.powered := by
  unfold State.commit; repeat' (first | rfl | (simp; done) | split | (simp only []; split))
@[simp] theorem State.commit_power_sleep (r : JReq) : (s.commit r).power.sleep = s.power.sleep := by
  unfold State.commit; repeat' (first | rfl | (simp; done) | split | (simp only []; split))
@[simp] theorem State.commit_power_levels (r : JReq) : (s.commit r).power.levels = s.power.levels := by
  unfold State.commit; repeat' (first | rfl | (simp; done) | split | (simp only []; split))
@[simp] theorem State.commit_power (r : JReq) (st : s.power.phase = .steady) (aw : s.power.sleep = 0) : (s.commit r).power = s.power := by
  unfold State.commit; repeat' (first | rfl | (simp [st, aw]; done) | split | (simp only []; split))

@[simp] theorem State.commitNow_clock (r : JReq) : (s.commitNow r).clock = s.clock := by
  unfold State.commitNow; repeat' (first | rfl | (simp; done) | split | (simp only []; split))
@[simp] theorem State.commitNow_ports (r : JReq) : (s.commitNow r).ports = s.ports := by
  unfold State.commitNow; repeat' (first | rfl | (simp; done) | split | (simp only []; split))
@[simp] theorem State.commitNow_tunnels (r : JReq) : (s.commitNow r).tunnels = s.tunnels := by
  unfold State.commitNow; repeat' (first | rfl | (simp; done) | split | (simp only []; split))
@[simp] theorem State.commitNow_plan (r : JReq) : (s.commitNow r).plan = s.plan := by
  unfold State.commitNow; repeat' (first | rfl | (simp; done) | split | (simp only []; split))
@[simp] theorem State.commitNow_marl (r : JReq) : (s.commitNow r).marl = s.marl := by
  unfold State.commitNow; repeat' (first | rfl | (simp; done) | split | (simp only []; split))
@[simp] theorem State.commitNow_xfer (r : JReq) : (s.commitNow r).xfer = s.xfer := by
  unfold State.commitNow; repeat' (first | rfl | (simp; done) | split | (simp only []; split))
@[simp] theorem State.commitNow_mem (r : JReq) : (s.commitNow r).mem = s.mem := by
  unfold State.commitNow; repeat' (first | rfl | (simp; done) | split | (simp only []; split))
@[simp] theorem State.commitNow_boot (r : JReq) : (s.commitNow r).boot = s.boot := by
  unfold State.commitNow; repeat' (first | rfl | (simp; done) | split | (simp only []; split))
@[simp] theorem State.commitNow_edge (r : JReq) : (s.commitNow r).edge = s.edge := by
  unfold State.commitNow; repeat' (first | rfl | (simp; done) | split | (simp only []; split))
@[simp] theorem State.commitNow_lock (r : JReq) : (s.commitNow r).lock = s.lock := by
  unfold State.commitNow; repeat' (first | rfl | (simp; done) | split | (simp only []; split))
@[simp] theorem State.commitNow_siteId (r : JReq) : (s.commitNow r).siteId = s.siteId := by
  unfold State.commitNow; repeat' (first | rfl | (simp; done) | split | (simp only []; split))
@[simp] theorem State.commitNow_out (r : JReq) : (s.commitNow r).out = s.out := by
  unfold State.commitNow; repeat' (first | rfl | (simp; done) | split | (simp only []; split))
@[simp] theorem State.commitNow_freeCtr (r : JReq) : (s.commitNow r).freeCtr = s.freeCtr := by
  unfold State.commitNow; repeat' (first | rfl | (simp; done) | split | (simp only []; split))
@[simp] theorem State.commitNow_pending (r : JReq) : (s.commitNow r).pending = s.pending := by
  unfold State.commitNow; repeat' (first | rfl | (simp; done) | split | (simp only []; split))
theorem State.commitNow_frame (r : JReq) :
    (s.commitNow r) = { s with hosts := (s.commitNow r).hosts, cluster := (s.commitNow r).cluster, power := (s.commitNow r).power, silt := (s.commitNow r).silt, mgmt := (s.commitNow r).mgmt } :=
  State.eq_of_fields
@[simp] theorem State.commitNow_power_on (r : JReq) : (s.commitNow r).power.on = s.power.on := by
  unfold State.commitNow; repeat' (first | rfl | (simp; done) | split | (simp only []; split))
@[simp] theorem State.commitNow_power_hold (r : JReq) : (s.commitNow r).power.hold = s.power.hold := by
  unfold State.commitNow; repeat' (first | rfl | (simp; done) | split | (simp only []; split))
@[simp] theorem State.commitNow_power_seqs (r : JReq) : (s.commitNow r).power.seqs = s.power.seqs := by
  unfold State.commitNow; repeat' (first | rfl | (simp; done) | split | (simp only []; split))
@[simp] theorem State.commitNow_power_powered (r : JReq) : (s.commitNow r).power.powered = s.power.powered := by
  unfold State.commitNow; repeat' (first | rfl | (simp; done) | split | (simp only []; split))
@[simp] theorem State.commitNow_power_sleep (r : JReq) : (s.commitNow r).power.sleep = s.power.sleep := by
  unfold State.commitNow; repeat' (first | rfl | (simp; done) | split | (simp only []; split))
@[simp] theorem State.commitNow_power_levels (r : JReq) : (s.commitNow r).power.levels = s.power.levels := by
  unfold State.commitNow; repeat' (first | rfl | (simp; done) | split | (simp only []; split))
@[simp] theorem State.commitNow_power (r : JReq) (st : s.power.phase = .steady) (aw : s.power.sleep = 0) : (s.commitNow r).power = s.power := by
  unfold State.commitNow; repeat' (first | rfl | (simp [st, aw]; done) | split | (simp only []; split))

@[simp] theorem State.record_clock (r : JReq) : (s.record r).clock = s.clock := by
  unfold State.record; repeat' (first | rfl | (simp; done) | split | (simp only []; split))
@[simp] theorem State.record_ports (r : JReq) : (s.record r).ports = s.ports := by
  unfold State.record; repeat' (first | rfl | (simp; done) | split | (simp only []; split))
@[simp] theorem State.record_tunnels (r : JReq) : (s.record r).tunnels = s.tunnels := by
  unfold State.record; repeat' (first | rfl | (simp; done) | split | (simp only []; split))
@[simp] theorem State.record_plan (r : JReq) : (s.record r).plan = s.plan := by
  unfold State.record; repeat' (first | rfl | (simp; done) | split | (simp only []; split))
@[simp] theorem State.record_marl (r : JReq) : (s.record r).marl = s.marl := by
  unfold State.record; repeat' (first | rfl | (simp; done) | split | (simp only []; split))
@[simp] theorem State.record_xfer (r : JReq) : (s.record r).xfer = s.xfer := by
  unfold State.record; repeat' (first | rfl | (simp; done) | split | (simp only []; split))
@[simp] theorem State.record_mem (r : JReq) : (s.record r).mem = s.mem := by
  unfold State.record; repeat' (first | rfl | (simp; done) | split | (simp only []; split))
@[simp] theorem State.record_boot (r : JReq) : (s.record r).boot = s.boot := by
  unfold State.record; repeat' (first | rfl | (simp; done) | split | (simp only []; split))
@[simp] theorem State.record_edge (r : JReq) : (s.record r).edge = s.edge := by
  unfold State.record; repeat' (first | rfl | (simp; done) | split | (simp only []; split))
@[simp] theorem State.record_lock (r : JReq) : (s.record r).lock = s.lock := by
  unfold State.record; repeat' (first | rfl | (simp; done) | split | (simp only []; split))
@[simp] theorem State.record_siteId (r : JReq) : (s.record r).siteId = s.siteId := by
  unfold State.record; repeat' (first | rfl | (simp; done) | split | (simp only []; split))
@[simp] theorem State.record_out (r : JReq) : (s.record r).out = s.out := by
  unfold State.record; repeat' (first | rfl | (simp; done) | split | (simp only []; split))
@[simp] theorem State.record_freeCtr (r : JReq) : (s.record r).freeCtr = s.freeCtr := by
  unfold State.record; repeat' (first | rfl | (simp; done) | split | (simp only []; split))
@[simp] theorem State.record_pending (r : JReq) : (s.record r).pending = s.pending := by
  unfold State.record; repeat' (first | rfl | (simp; done) | split | (simp only []; split))
theorem State.record_frame (r : JReq) :
    (s.record r) = { s with hosts := (s.record r).hosts, cluster := (s.record r).cluster, power := (s.record r).power, silt := (s.record r).silt, mgmt := (s.record r).mgmt } :=
  State.eq_of_fields
@[simp] theorem State.record_power_on (r : JReq) : (s.record r).power.on = s.power.on := by
  unfold State.record; repeat' (first | rfl | (simp; done) | split | (simp only []; split))
@[simp] theorem State.record_power_hold (r : JReq) : (s.record r).power.hold = s.power.hold := by
  unfold State.record; repeat' (first | rfl | (simp; done) | split | (simp only []; split))
@[simp] theorem State.record_power_seqs (r : JReq) : (s.record r).power.seqs = s.power.seqs := by
  unfold State.record; repeat' (first | rfl | (simp; done) | split | (simp only []; split))
@[simp] theorem State.record_power_powered (r : JReq) : (s.record r).power.powered = s.power.powered := by
  unfold State.record; repeat' (first | rfl | (simp; done) | split | (simp only []; split))
@[simp] theorem State.record_power_sleep (r : JReq) : (s.record r).power.sleep = s.power.sleep := by
  unfold State.record; repeat' (first | rfl | (simp; done) | split | (simp only []; split))
@[simp] theorem State.record_power_levels (r : JReq) : (s.record r).power.levels = s.power.levels := by
  unfold State.record; repeat' (first | rfl | (simp; done) | split | (simp only []; split))
@[simp] theorem State.record_power (r : JReq) (st : s.power.phase = .steady) (aw : s.power.sleep = 0) : (s.record r).power = s.power := by
  unfold State.record; repeat' (first | rfl | (simp [st, aw]; done) | split | (simp only []; split))

@[simp] theorem State.loamRecord_clock (k o a b : Nat) : (s.loamRecord k o a b).clock = s.clock := by
  unfold State.loamRecord; repeat' (first | rfl | (simp; done) | split | (simp only []; split))
@[simp] theorem State.loamRecord_ports (k o a b : Nat) : (s.loamRecord k o a b).ports = s.ports := by
  unfold State.loamRecord; repeat' (first | rfl | (simp; done) | split | (simp only []; split))
@[simp] theorem State.loamRecord_tunnels (k o a b : Nat) : (s.loamRecord k o a b).tunnels = s.tunnels := by
  unfold State.loamRecord; repeat' (first | rfl | (simp; done) | split | (simp only []; split))
@[simp] theorem State.loamRecord_plan (k o a b : Nat) : (s.loamRecord k o a b).plan = s.plan := by
  unfold State.loamRecord; repeat' (first | rfl | (simp; done) | split | (simp only []; split))
@[simp] theorem State.loamRecord_marl (k o a b : Nat) : (s.loamRecord k o a b).marl = s.marl := by
  unfold State.loamRecord; repeat' (first | rfl | (simp; done) | split | (simp only []; split))
@[simp] theorem State.loamRecord_xfer (k o a b : Nat) : (s.loamRecord k o a b).xfer = s.xfer := by
  unfold State.loamRecord; repeat' (first | rfl | (simp; done) | split | (simp only []; split))
@[simp] theorem State.loamRecord_mem (k o a b : Nat) : (s.loamRecord k o a b).mem = s.mem := by
  unfold State.loamRecord; repeat' (first | rfl | (simp; done) | split | (simp only []; split))
@[simp] theorem State.loamRecord_boot (k o a b : Nat) : (s.loamRecord k o a b).boot = s.boot := by
  unfold State.loamRecord; repeat' (first | rfl | (simp; done) | split | (simp only []; split))
@[simp] theorem State.loamRecord_edge (k o a b : Nat) : (s.loamRecord k o a b).edge = s.edge := by
  unfold State.loamRecord; repeat' (first | rfl | (simp; done) | split | (simp only []; split))
@[simp] theorem State.loamRecord_lock (k o a b : Nat) : (s.loamRecord k o a b).lock = s.lock := by
  unfold State.loamRecord; repeat' (first | rfl | (simp; done) | split | (simp only []; split))
@[simp] theorem State.loamRecord_siteId (k o a b : Nat) : (s.loamRecord k o a b).siteId = s.siteId := by
  unfold State.loamRecord; repeat' (first | rfl | (simp; done) | split | (simp only []; split))
@[simp] theorem State.loamRecord_out (k o a b : Nat) : (s.loamRecord k o a b).out = s.out := by
  unfold State.loamRecord; repeat' (first | rfl | (simp; done) | split | (simp only []; split))
@[simp] theorem State.loamRecord_freeCtr (k o a b : Nat) : (s.loamRecord k o a b).freeCtr = s.freeCtr := by
  unfold State.loamRecord; repeat' (first | rfl | (simp; done) | split | (simp only []; split))
@[simp] theorem State.loamRecord_pending (k o a b : Nat) : (s.loamRecord k o a b).pending = s.pending := by
  unfold State.loamRecord; repeat' (first | rfl | (simp; done) | split | (simp only []; split))
theorem State.loamRecord_frame (k o a b : Nat) :
    (s.loamRecord k o a b) = { s with hosts := (s.loamRecord k o a b).hosts, cluster := (s.loamRecord k o a b).cluster, power := (s.loamRecord k o a b).power, silt := (s.loamRecord k o a b).silt, mgmt := (s.loamRecord k o a b).mgmt } :=
  State.eq_of_fields
@[simp] theorem State.loamRecord_power_on (k o a b : Nat) : (s.loamRecord k o a b).power.on = s.power.on := by
  unfold State.loamRecord; repeat' (first | rfl | (simp; done) | split | (simp only []; split))
@[simp] theorem State.loamRecord_power_hold (k o a b : Nat) : (s.loamRecord k o a b).power.hold = s.power.hold := by
  unfold State.loamRecord; repeat' (first | rfl | (simp; done) | split | (simp only []; split))
@[simp] theorem State.loamRecord_power_seqs (k o a b : Nat) : (s.loamRecord k o a b).power.seqs = s.power.seqs := by
  unfold State.loamRecord; repeat' (first | rfl | (simp; done) | split | (simp only []; split))
@[simp] theorem State.loamRecord_power_powered (k o a b : Nat) : (s.loamRecord k o a b).power.powered = s.power.powered := by
  unfold State.loamRecord; repeat' (first | rfl | (simp; done) | split | (simp only []; split))
@[simp] theorem State.loamRecord_power_sleep (k o a b : Nat) : (s.loamRecord k o a b).power.sleep = s.power.sleep := by
  unfold State.loamRecord; repeat' (first | rfl | (simp; done) | split | (simp only []; split))
@[simp] theorem State.loamRecord_power_levels (k o a b : Nat) : (s.loamRecord k o a b).power.levels = s.power.levels := by
  unfold State.loamRecord; repeat' (first | rfl | (simp; done) | split | (simp only []; split))
@[simp] theorem State.loamRecord_power (k o a b : Nat) (st : s.power.phase = .steady) (aw : s.power.sleep = 0) : (s.loamRecord k o a b).power = s.power := by
  unfold State.loamRecord; repeat' (first | rfl | (simp [st, aw]; done) | split | (simp only []; split))

@[simp] theorem State.sendVec_clock (h v : Nat) : (s.sendVec h v).clock = s.clock := by
  unfold State.sendVec; repeat' (first | rfl | (simp; done) | split | (simp only []; split))
@[simp] theorem State.sendVec_ports (h v : Nat) : (s.sendVec h v).ports = s.ports := by
  unfold State.sendVec; repeat' (first | rfl | (simp; done) | split | (simp only []; split))
@[simp] theorem State.sendVec_tunnels (h v : Nat) : (s.sendVec h v).tunnels = s.tunnels := by
  unfold State.sendVec; repeat' (first | rfl | (simp; done) | split | (simp only []; split))
@[simp] theorem State.sendVec_plan (h v : Nat) : (s.sendVec h v).plan = s.plan := by
  unfold State.sendVec; repeat' (first | rfl | (simp; done) | split | (simp only []; split))
@[simp] theorem State.sendVec_marl (h v : Nat) : (s.sendVec h v).marl = s.marl := by
  unfold State.sendVec; repeat' (first | rfl | (simp; done) | split | (simp only []; split))
@[simp] theorem State.sendVec_xfer (h v : Nat) : (s.sendVec h v).xfer = s.xfer := by
  unfold State.sendVec; repeat' (first | rfl | (simp; done) | split | (simp only []; split))
@[simp] theorem State.sendVec_cluster (h v : Nat) : (s.sendVec h v).cluster = s.cluster := by
  unfold State.sendVec; repeat' (first | rfl | (simp; done) | split | (simp only []; split))
@[simp] theorem State.sendVec_power (h v : Nat) : (s.sendVec h v).power = s.power := by
  unfold State.sendVec; repeat' (first | rfl | (simp; done) | split | (simp only []; split))
@[simp] theorem State.sendVec_mem (h v : Nat) : (s.sendVec h v).mem = s.mem := by
  unfold State.sendVec; repeat' (first | rfl | (simp; done) | split | (simp only []; split))
@[simp] theorem State.sendVec_silt (h v : Nat) : (s.sendVec h v).silt = s.silt := by
  unfold State.sendVec; repeat' (first | rfl | (simp; done) | split | (simp only []; split))
@[simp] theorem State.sendVec_boot (h v : Nat) : (s.sendVec h v).boot = s.boot := by
  unfold State.sendVec; repeat' (first | rfl | (simp; done) | split | (simp only []; split))
@[simp] theorem State.sendVec_edge (h v : Nat) : (s.sendVec h v).edge = s.edge := by
  unfold State.sendVec; repeat' (first | rfl | (simp; done) | split | (simp only []; split))
@[simp] theorem State.sendVec_mgmt (h v : Nat) : (s.sendVec h v).mgmt = s.mgmt := by
  unfold State.sendVec; repeat' (first | rfl | (simp; done) | split | (simp only []; split))
@[simp] theorem State.sendVec_lock (h v : Nat) : (s.sendVec h v).lock = s.lock := by
  unfold State.sendVec; repeat' (first | rfl | (simp; done) | split | (simp only []; split))
@[simp] theorem State.sendVec_siteId (h v : Nat) : (s.sendVec h v).siteId = s.siteId := by
  unfold State.sendVec; repeat' (first | rfl | (simp; done) | split | (simp only []; split))
@[simp] theorem State.sendVec_freeCtr (h v : Nat) : (s.sendVec h v).freeCtr = s.freeCtr := by
  unfold State.sendVec; repeat' (first | rfl | (simp; done) | split | (simp only []; split))
@[simp] theorem State.sendVec_pending (h v : Nat) : (s.sendVec h v).pending = s.pending := by
  unfold State.sendVec; repeat' (first | rfl | (simp; done) | split | (simp only []; split))
theorem State.sendVec_frame (h v : Nat) :
    (s.sendVec h v) = { s with hosts := (s.sendVec h v).hosts, out := (s.sendVec h v).out } :=
  State.eq_of_fields

@[simp] theorem State.sliceEvent_clock (h sl b q c : Nat) : (s.sliceEvent h sl b q c).clock = s.clock := by
  unfold State.sliceEvent; repeat' (first | rfl | (simp; done) | split | (simp only []; split))
@[simp] theorem State.sliceEvent_ports (h sl b q c : Nat) : (s.sliceEvent h sl b q c).ports = s.ports := by
  unfold State.sliceEvent; repeat' (first | rfl | (simp; done) | split | (simp only []; split))
@[simp] theorem State.sliceEvent_tunnels (h sl b q c : Nat) : (s.sliceEvent h sl b q c).tunnels = s.tunnels := by
  unfold State.sliceEvent; repeat' (first | rfl | (simp; done) | split | (simp only []; split))
@[simp] theorem State.sliceEvent_plan (h sl b q c : Nat) : (s.sliceEvent h sl b q c).plan = s.plan := by
  unfold State.sliceEvent; repeat' (first | rfl | (simp; done) | split | (simp only []; split))
@[simp] theorem State.sliceEvent_marl (h sl b q c : Nat) : (s.sliceEvent h sl b q c).marl = s.marl := by
  unfold State.sliceEvent; repeat' (first | rfl | (simp; done) | split | (simp only []; split))
@[simp] theorem State.sliceEvent_xfer (h sl b q c : Nat) : (s.sliceEvent h sl b q c).xfer = s.xfer := by
  unfold State.sliceEvent; repeat' (first | rfl | (simp; done) | split | (simp only []; split))
@[simp] theorem State.sliceEvent_mem (h sl b q c : Nat) : (s.sliceEvent h sl b q c).mem = s.mem := by
  unfold State.sliceEvent; repeat' (first | rfl | (simp; done) | split | (simp only []; split))
@[simp] theorem State.sliceEvent_boot (h sl b q c : Nat) : (s.sliceEvent h sl b q c).boot = s.boot := by
  unfold State.sliceEvent; repeat' (first | rfl | (simp; done) | split | (simp only []; split))
@[simp] theorem State.sliceEvent_edge (h sl b q c : Nat) : (s.sliceEvent h sl b q c).edge = s.edge := by
  unfold State.sliceEvent; repeat' (first | rfl | (simp; done) | split | (simp only []; split))
@[simp] theorem State.sliceEvent_mgmt (h sl b q c : Nat) : (s.sliceEvent h sl b q c).mgmt = s.mgmt := by
  unfold State.sliceEvent; repeat' (first | rfl | (simp; done) | split | (simp only []; split))
@[simp] theorem State.sliceEvent_lock (h sl b q c : Nat) : (s.sliceEvent h sl b q c).lock = s.lock := by
  unfold State.sliceEvent; repeat' (first | rfl | (simp; done) | split | (simp only []; split))
@[simp] theorem State.sliceEvent_siteId (h sl b q c : Nat) : (s.sliceEvent h sl b q c).siteId = s.siteId := by
  unfold State.sliceEvent; repeat' (first | rfl | (simp; done) | split | (simp only []; split))
@[simp] theorem State.sliceEvent_pending (h sl b q c : Nat) : (s.sliceEvent h sl b q c).pending = s.pending := by
  unfold State.sliceEvent; repeat' (first | rfl | (simp; done) | split | (simp only []; split))
theorem State.sliceEvent_frame (h sl b q c : Nat) :
    (s.sliceEvent h sl b q c) = { s with hosts := (s.sliceEvent h sl b q c).hosts, cluster := (s.sliceEvent h sl b q c).cluster, power := (s.sliceEvent h sl b q c).power, silt := (s.sliceEvent h sl b q c).silt, out := (s.sliceEvent h sl b q c).out, freeCtr := (s.sliceEvent h sl b q c).freeCtr } :=
  State.eq_of_fields
@[simp] theorem State.sliceEvent_power_on (h sl b q c : Nat) : (s.sliceEvent h sl b q c).power.on = s.power.on := by
  unfold State.sliceEvent; repeat' (first | rfl | (simp; done) | split | (simp only []; split))
@[simp] theorem State.sliceEvent_power_hold (h sl b q c : Nat) : (s.sliceEvent h sl b q c).power.hold = s.power.hold := by
  unfold State.sliceEvent; repeat' (first | rfl | (simp; done) | split | (simp only []; split))
@[simp] theorem State.sliceEvent_power_seqs (h sl b q c : Nat) : (s.sliceEvent h sl b q c).power.seqs = s.power.seqs := by
  unfold State.sliceEvent; repeat' (first | rfl | (simp; done) | split | (simp only []; split))
@[simp] theorem State.sliceEvent_power_powered (h sl b q c : Nat) : (s.sliceEvent h sl b q c).power.powered = s.power.powered := by
  unfold State.sliceEvent; repeat' (first | rfl | (simp; done) | split | (simp only []; split))
@[simp] theorem State.sliceEvent_power_sleep (h sl b q c : Nat) : (s.sliceEvent h sl b q c).power.sleep = s.power.sleep := by
  unfold State.sliceEvent; repeat' (first | rfl | (simp; done) | split | (simp only []; split))
@[simp] theorem State.sliceEvent_power_levels (h sl b q c : Nat) : (s.sliceEvent h sl b q c).power.levels = s.power.levels := by
  unfold State.sliceEvent; repeat' (first | rfl | (simp; done) | split | (simp only []; split))
@[simp] theorem State.sliceEvent_power (h sl b q c : Nat) (st : s.power.phase = .steady) (aw : s.power.sleep = 0) : (s.sliceEvent h sl b q c).power = s.power := by
  unfold State.sliceEvent; repeat' (first | rfl | (simp [st, aw]; done) | split | (simp only []; split))

@[simp] theorem State.notice_clock (h sl q : Nat) (g : BitVec 16) (st : Status) (r : List Byte) : (s.notice h sl q g st r).clock = s.clock := by
  unfold State.notice; repeat' (first | rfl | (simp; done) | split | (simp only []; split))
@[simp] theorem State.notice_ports (h sl q : Nat) (g : BitVec 16) (st : Status) (r : List Byte) : (s.notice h sl q g st r).ports = s.ports := by
  unfold State.notice; repeat' (first | rfl | (simp; done) | split | (simp only []; split))
@[simp] theorem State.notice_tunnels (h sl q : Nat) (g : BitVec 16) (st : Status) (r : List Byte) : (s.notice h sl q g st r).tunnels = s.tunnels := by
  unfold State.notice; repeat' (first | rfl | (simp; done) | split | (simp only []; split))
@[simp] theorem State.notice_plan (h sl q : Nat) (g : BitVec 16) (st : Status) (r : List Byte) : (s.notice h sl q g st r).plan = s.plan := by
  unfold State.notice; repeat' (first | rfl | (simp; done) | split | (simp only []; split))
@[simp] theorem State.notice_marl (h sl q : Nat) (g : BitVec 16) (st : Status) (r : List Byte) : (s.notice h sl q g st r).marl = s.marl := by
  unfold State.notice; repeat' (first | rfl | (simp; done) | split | (simp only []; split))
@[simp] theorem State.notice_xfer (h sl q : Nat) (g : BitVec 16) (st : Status) (r : List Byte) : (s.notice h sl q g st r).xfer = s.xfer := by
  unfold State.notice; repeat' (first | rfl | (simp; done) | split | (simp only []; split))
@[simp] theorem State.notice_cluster (h sl q : Nat) (g : BitVec 16) (st : Status) (r : List Byte) : (s.notice h sl q g st r).cluster = s.cluster := by
  unfold State.notice; repeat' (first | rfl | (simp; done) | split | (simp only []; split))
@[simp] theorem State.notice_power (h sl q : Nat) (g : BitVec 16) (st : Status) (r : List Byte) : (s.notice h sl q g st r).power = s.power := by
  unfold State.notice; repeat' (first | rfl | (simp; done) | split | (simp only []; split))
@[simp] theorem State.notice_mem (h sl q : Nat) (g : BitVec 16) (st : Status) (r : List Byte) : (s.notice h sl q g st r).mem = s.mem := by
  unfold State.notice; repeat' (first | rfl | (simp; done) | split | (simp only []; split))
@[simp] theorem State.notice_silt (h sl q : Nat) (g : BitVec 16) (st : Status) (r : List Byte) : (s.notice h sl q g st r).silt = s.silt := by
  unfold State.notice; repeat' (first | rfl | (simp; done) | split | (simp only []; split))
@[simp] theorem State.notice_boot (h sl q : Nat) (g : BitVec 16) (st : Status) (r : List Byte) : (s.notice h sl q g st r).boot = s.boot := by
  unfold State.notice; repeat' (first | rfl | (simp; done) | split | (simp only []; split))
@[simp] theorem State.notice_edge (h sl q : Nat) (g : BitVec 16) (st : Status) (r : List Byte) : (s.notice h sl q g st r).edge = s.edge := by
  unfold State.notice; repeat' (first | rfl | (simp; done) | split | (simp only []; split))
@[simp] theorem State.notice_mgmt (h sl q : Nat) (g : BitVec 16) (st : Status) (r : List Byte) : (s.notice h sl q g st r).mgmt = s.mgmt := by
  unfold State.notice; repeat' (first | rfl | (simp; done) | split | (simp only []; split))
@[simp] theorem State.notice_lock (h sl q : Nat) (g : BitVec 16) (st : Status) (r : List Byte) : (s.notice h sl q g st r).lock = s.lock := by
  unfold State.notice; repeat' (first | rfl | (simp; done) | split | (simp only []; split))
@[simp] theorem State.notice_siteId (h sl q : Nat) (g : BitVec 16) (st : Status) (r : List Byte) : (s.notice h sl q g st r).siteId = s.siteId := by
  unfold State.notice; repeat' (first | rfl | (simp; done) | split | (simp only []; split))
@[simp] theorem State.notice_out (h sl q : Nat) (g : BitVec 16) (st : Status) (r : List Byte) : (s.notice h sl q g st r).out = s.out := by
  unfold State.notice; repeat' (first | rfl | (simp; done) | split | (simp only []; split))
@[simp] theorem State.notice_freeCtr (h sl q : Nat) (g : BitVec 16) (st : Status) (r : List Byte) : (s.notice h sl q g st r).freeCtr = s.freeCtr := by
  unfold State.notice; repeat' (first | rfl | (simp; done) | split | (simp only []; split))
@[simp] theorem State.notice_pending (h sl q : Nat) (g : BitVec 16) (st : Status) (r : List Byte) : (s.notice h sl q g st r).pending = s.pending := by
  unfold State.notice; repeat' (first | rfl | (simp; done) | split | (simp only []; split))
theorem State.notice_frame (h sl q : Nat) (g : BitVec 16) (st : Status) (r : List Byte) :
    (s.notice h sl q g st r) = { s with hosts := (s.notice h sl q g st r).hosts } :=
  State.eq_of_fields

@[simp] theorem State.mgmtNotice_clock (st : Status) (r : List Byte) : (s.mgmtNotice st r).clock = s.clock := by
  unfold State.mgmtNotice; repeat' (first | rfl | (simp; done) | split | (simp only []; split))
@[simp] theorem State.mgmtNotice_ports (st : Status) (r : List Byte) : (s.mgmtNotice st r).ports = s.ports := by
  unfold State.mgmtNotice; repeat' (first | rfl | (simp; done) | split | (simp only []; split))
@[simp] theorem State.mgmtNotice_tunnels (st : Status) (r : List Byte) : (s.mgmtNotice st r).tunnels = s.tunnels := by
  unfold State.mgmtNotice; repeat' (first | rfl | (simp; done) | split | (simp only []; split))
@[simp] theorem State.mgmtNotice_plan (st : Status) (r : List Byte) : (s.mgmtNotice st r).plan = s.plan := by
  unfold State.mgmtNotice; repeat' (first | rfl | (simp; done) | split | (simp only []; split))
@[simp] theorem State.mgmtNotice_marl (st : Status) (r : List Byte) : (s.mgmtNotice st r).marl = s.marl := by
  unfold State.mgmtNotice; repeat' (first | rfl | (simp; done) | split | (simp only []; split))
@[simp] theorem State.mgmtNotice_xfer (st : Status) (r : List Byte) : (s.mgmtNotice st r).xfer = s.xfer := by
  unfold State.mgmtNotice; repeat' (first | rfl | (simp; done) | split | (simp only []; split))
@[simp] theorem State.mgmtNotice_hosts (st : Status) (r : List Byte) : (s.mgmtNotice st r).hosts = s.hosts := by
  unfold State.mgmtNotice; repeat' (first | rfl | (simp; done) | split | (simp only []; split))
@[simp] theorem State.mgmtNotice_cluster (st : Status) (r : List Byte) : (s.mgmtNotice st r).cluster = s.cluster := by
  unfold State.mgmtNotice; repeat' (first | rfl | (simp; done) | split | (simp only []; split))
@[simp] theorem State.mgmtNotice_power (st : Status) (r : List Byte) : (s.mgmtNotice st r).power = s.power := by
  unfold State.mgmtNotice; repeat' (first | rfl | (simp; done) | split | (simp only []; split))
@[simp] theorem State.mgmtNotice_mem (st : Status) (r : List Byte) : (s.mgmtNotice st r).mem = s.mem := by
  unfold State.mgmtNotice; repeat' (first | rfl | (simp; done) | split | (simp only []; split))
@[simp] theorem State.mgmtNotice_silt (st : Status) (r : List Byte) : (s.mgmtNotice st r).silt = s.silt := by
  unfold State.mgmtNotice; repeat' (first | rfl | (simp; done) | split | (simp only []; split))
@[simp] theorem State.mgmtNotice_boot (st : Status) (r : List Byte) : (s.mgmtNotice st r).boot = s.boot := by
  unfold State.mgmtNotice; repeat' (first | rfl | (simp; done) | split | (simp only []; split))
@[simp] theorem State.mgmtNotice_edge (st : Status) (r : List Byte) : (s.mgmtNotice st r).edge = s.edge := by
  unfold State.mgmtNotice; repeat' (first | rfl | (simp; done) | split | (simp only []; split))
@[simp] theorem State.mgmtNotice_lock (st : Status) (r : List Byte) : (s.mgmtNotice st r).lock = s.lock := by
  unfold State.mgmtNotice; repeat' (first | rfl | (simp; done) | split | (simp only []; split))
@[simp] theorem State.mgmtNotice_siteId (st : Status) (r : List Byte) : (s.mgmtNotice st r).siteId = s.siteId := by
  unfold State.mgmtNotice; repeat' (first | rfl | (simp; done) | split | (simp only []; split))
@[simp] theorem State.mgmtNotice_out (st : Status) (r : List Byte) : (s.mgmtNotice st r).out = s.out := by
  unfold State.mgmtNotice; repeat' (first | rfl | (simp; done) | split | (simp only []; split))
@[simp] theorem State.mgmtNotice_freeCtr (st : Status) (r : List Byte) : (s.mgmtNotice st r).freeCtr = s.freeCtr := by
  unfold State.mgmtNotice; repeat' (first | rfl | (simp; done) | split | (simp only []; split))
@[simp] theorem State.mgmtNotice_pending (st : Status) (r : List Byte) : (s.mgmtNotice st r).pending = s.pending := by
  unfold State.mgmtNotice; repeat' (first | rfl | (simp; done) | split | (simp only []; split))
theorem State.mgmtNotice_frame (st : Status) (r : List Byte) :
    (s.mgmtNotice st r) = { s with mgmt := (s.mgmtNotice st r).mgmt } :=
  State.eq_of_fields

@[simp] theorem State.noticeOwner_clock (o : Owner) (q : Nat) (g : BitVec 16) (st : Status) (r : List Byte) : (s.noticeOwner o q g st r).clock = s.clock := by
  unfold State.noticeOwner; repeat' (first | rfl | (simp; done) | split | (simp only []; split))
@[simp] theorem State.noticeOwner_ports (o : Owner) (q : Nat) (g : BitVec 16) (st : Status) (r : List Byte) : (s.noticeOwner o q g st r).ports = s.ports := by
  unfold State.noticeOwner; repeat' (first | rfl | (simp; done) | split | (simp only []; split))
@[simp] theorem State.noticeOwner_tunnels (o : Owner) (q : Nat) (g : BitVec 16) (st : Status) (r : List Byte) : (s.noticeOwner o q g st r).tunnels = s.tunnels := by
  unfold State.noticeOwner; repeat' (first | rfl | (simp; done) | split | (simp only []; split))
@[simp] theorem State.noticeOwner_plan (o : Owner) (q : Nat) (g : BitVec 16) (st : Status) (r : List Byte) : (s.noticeOwner o q g st r).plan = s.plan := by
  unfold State.noticeOwner; repeat' (first | rfl | (simp; done) | split | (simp only []; split))
@[simp] theorem State.noticeOwner_marl (o : Owner) (q : Nat) (g : BitVec 16) (st : Status) (r : List Byte) : (s.noticeOwner o q g st r).marl = s.marl := by
  unfold State.noticeOwner; repeat' (first | rfl | (simp; done) | split | (simp only []; split))
@[simp] theorem State.noticeOwner_xfer (o : Owner) (q : Nat) (g : BitVec 16) (st : Status) (r : List Byte) : (s.noticeOwner o q g st r).xfer = s.xfer := by
  unfold State.noticeOwner; repeat' (first | rfl | (simp; done) | split | (simp only []; split))
@[simp] theorem State.noticeOwner_cluster (o : Owner) (q : Nat) (g : BitVec 16) (st : Status) (r : List Byte) : (s.noticeOwner o q g st r).cluster = s.cluster := by
  unfold State.noticeOwner; repeat' (first | rfl | (simp; done) | split | (simp only []; split))
@[simp] theorem State.noticeOwner_power (o : Owner) (q : Nat) (g : BitVec 16) (st : Status) (r : List Byte) : (s.noticeOwner o q g st r).power = s.power := by
  unfold State.noticeOwner; repeat' (first | rfl | (simp; done) | split | (simp only []; split))
@[simp] theorem State.noticeOwner_mem (o : Owner) (q : Nat) (g : BitVec 16) (st : Status) (r : List Byte) : (s.noticeOwner o q g st r).mem = s.mem := by
  unfold State.noticeOwner; repeat' (first | rfl | (simp; done) | split | (simp only []; split))
@[simp] theorem State.noticeOwner_silt (o : Owner) (q : Nat) (g : BitVec 16) (st : Status) (r : List Byte) : (s.noticeOwner o q g st r).silt = s.silt := by
  unfold State.noticeOwner; repeat' (first | rfl | (simp; done) | split | (simp only []; split))
@[simp] theorem State.noticeOwner_boot (o : Owner) (q : Nat) (g : BitVec 16) (st : Status) (r : List Byte) : (s.noticeOwner o q g st r).boot = s.boot := by
  unfold State.noticeOwner; repeat' (first | rfl | (simp; done) | split | (simp only []; split))
@[simp] theorem State.noticeOwner_edge (o : Owner) (q : Nat) (g : BitVec 16) (st : Status) (r : List Byte) : (s.noticeOwner o q g st r).edge = s.edge := by
  unfold State.noticeOwner; repeat' (first | rfl | (simp; done) | split | (simp only []; split))
@[simp] theorem State.noticeOwner_lock (o : Owner) (q : Nat) (g : BitVec 16) (st : Status) (r : List Byte) : (s.noticeOwner o q g st r).lock = s.lock := by
  unfold State.noticeOwner; repeat' (first | rfl | (simp; done) | split | (simp only []; split))
@[simp] theorem State.noticeOwner_siteId (o : Owner) (q : Nat) (g : BitVec 16) (st : Status) (r : List Byte) : (s.noticeOwner o q g st r).siteId = s.siteId := by
  unfold State.noticeOwner; repeat' (first | rfl | (simp; done) | split | (simp only []; split))
@[simp] theorem State.noticeOwner_out (o : Owner) (q : Nat) (g : BitVec 16) (st : Status) (r : List Byte) : (s.noticeOwner o q g st r).out = s.out := by
  unfold State.noticeOwner; repeat' (first | rfl | (simp; done) | split | (simp only []; split))
@[simp] theorem State.noticeOwner_freeCtr (o : Owner) (q : Nat) (g : BitVec 16) (st : Status) (r : List Byte) : (s.noticeOwner o q g st r).freeCtr = s.freeCtr := by
  unfold State.noticeOwner; repeat' (first | rfl | (simp; done) | split | (simp only []; split))
@[simp] theorem State.noticeOwner_pending (o : Owner) (q : Nat) (g : BitVec 16) (st : Status) (r : List Byte) : (s.noticeOwner o q g st r).pending = s.pending := by
  unfold State.noticeOwner; repeat' (first | rfl | (simp; done) | split | (simp only []; split))
theorem State.noticeOwner_frame (o : Owner) (q : Nat) (g : BitVec 16) (st : Status) (r : List Byte) :
    (s.noticeOwner o q g st r) = { s with hosts := (s.noticeOwner o q g st r).hosts, mgmt := (s.noticeOwner o q g st r).mgmt } :=
  State.eq_of_fields

@[simp] theorem State.logPage_clock (h sl p : Nat) : (s.logPage h sl p).clock = s.clock := by
  unfold State.logPage; repeat' (first | rfl | (simp; done) | split | (simp only []; split))
@[simp] theorem State.logPage_ports (h sl p : Nat) : (s.logPage h sl p).ports = s.ports := by
  unfold State.logPage; repeat' (first | rfl | (simp; done) | split | (simp only []; split))
@[simp] theorem State.logPage_tunnels (h sl p : Nat) : (s.logPage h sl p).tunnels = s.tunnels := by
  unfold State.logPage; repeat' (first | rfl | (simp; done) | split | (simp only []; split))
@[simp] theorem State.logPage_plan (h sl p : Nat) : (s.logPage h sl p).plan = s.plan := by
  unfold State.logPage; repeat' (first | rfl | (simp; done) | split | (simp only []; split))
@[simp] theorem State.logPage_marl (h sl p : Nat) : (s.logPage h sl p).marl = s.marl := by
  unfold State.logPage; repeat' (first | rfl | (simp; done) | split | (simp only []; split))
@[simp] theorem State.logPage_xfer (h sl p : Nat) : (s.logPage h sl p).xfer = s.xfer := by
  unfold State.logPage; repeat' (first | rfl | (simp; done) | split | (simp only []; split))
@[simp] theorem State.logPage_cluster (h sl p : Nat) : (s.logPage h sl p).cluster = s.cluster := by
  unfold State.logPage; repeat' (first | rfl | (simp; done) | split | (simp only []; split))
@[simp] theorem State.logPage_power (h sl p : Nat) : (s.logPage h sl p).power = s.power := by
  unfold State.logPage; repeat' (first | rfl | (simp; done) | split | (simp only []; split))
@[simp] theorem State.logPage_mem (h sl p : Nat) : (s.logPage h sl p).mem = s.mem := by
  unfold State.logPage; repeat' (first | rfl | (simp; done) | split | (simp only []; split))
@[simp] theorem State.logPage_silt (h sl p : Nat) : (s.logPage h sl p).silt = s.silt := by
  unfold State.logPage; repeat' (first | rfl | (simp; done) | split | (simp only []; split))
@[simp] theorem State.logPage_boot (h sl p : Nat) : (s.logPage h sl p).boot = s.boot := by
  unfold State.logPage; repeat' (first | rfl | (simp; done) | split | (simp only []; split))
@[simp] theorem State.logPage_edge (h sl p : Nat) : (s.logPage h sl p).edge = s.edge := by
  unfold State.logPage; repeat' (first | rfl | (simp; done) | split | (simp only []; split))
@[simp] theorem State.logPage_mgmt (h sl p : Nat) : (s.logPage h sl p).mgmt = s.mgmt := by
  unfold State.logPage; repeat' (first | rfl | (simp; done) | split | (simp only []; split))
@[simp] theorem State.logPage_lock (h sl p : Nat) : (s.logPage h sl p).lock = s.lock := by
  unfold State.logPage; repeat' (first | rfl | (simp; done) | split | (simp only []; split))
@[simp] theorem State.logPage_siteId (h sl p : Nat) : (s.logPage h sl p).siteId = s.siteId := by
  unfold State.logPage; repeat' (first | rfl | (simp; done) | split | (simp only []; split))
@[simp] theorem State.logPage_freeCtr (h sl p : Nat) : (s.logPage h sl p).freeCtr = s.freeCtr := by
  unfold State.logPage; repeat' (first | rfl | (simp; done) | split | (simp only []; split))
@[simp] theorem State.logPage_pending (h sl p : Nat) : (s.logPage h sl p).pending = s.pending := by
  unfold State.logPage; repeat' (first | rfl | (simp; done) | split | (simp only []; split))
theorem State.logPage_frame (h sl p : Nat) :
    (s.logPage h sl p) = { s with hosts := (s.logPage h sl p).hosts, out := (s.logPage h sl p).out } :=
  State.eq_of_fields

@[simp] theorem State.hostWrite_clock (h sl : Nat) (a : BitVec 64) (b : List Byte) : (s.hostWrite h sl a b).clock = s.clock := by
  have key : ∀ (l : List Nat) (q : Nat) (u : State), (l.foldl (fun s k => s.logPage h sl (q + k)) u).clock = u.clock := by
    intro l q; induction l with
    | nil => intro u; rfl
    | cons x l ih => intro u; simp [ih]
  unfold State.hostWrite; simp only []; split
  · simp
  · rw [key]; simp
@[simp] theorem State.hostWrite_ports (h sl : Nat) (a : BitVec 64) (b : List Byte) : (s.hostWrite h sl a b).ports = s.ports := by
  have key : ∀ (l : List Nat) (q : Nat) (u : State), (l.foldl (fun s k => s.logPage h sl (q + k)) u).ports = u.ports := by
    intro l q; induction l with
    | nil => intro u; rfl
    | cons x l ih => intro u; simp [ih]
  unfold State.hostWrite; simp only []; split
  · simp
  · rw [key]; simp
@[simp] theorem State.hostWrite_tunnels (h sl : Nat) (a : BitVec 64) (b : List Byte) : (s.hostWrite h sl a b).tunnels = s.tunnels := by
  have key : ∀ (l : List Nat) (q : Nat) (u : State), (l.foldl (fun s k => s.logPage h sl (q + k)) u).tunnels = u.tunnels := by
    intro l q; induction l with
    | nil => intro u; rfl
    | cons x l ih => intro u; simp [ih]
  unfold State.hostWrite; simp only []; split
  · simp
  · rw [key]; simp
@[simp] theorem State.hostWrite_plan (h sl : Nat) (a : BitVec 64) (b : List Byte) : (s.hostWrite h sl a b).plan = s.plan := by
  have key : ∀ (l : List Nat) (q : Nat) (u : State), (l.foldl (fun s k => s.logPage h sl (q + k)) u).plan = u.plan := by
    intro l q; induction l with
    | nil => intro u; rfl
    | cons x l ih => intro u; simp [ih]
  unfold State.hostWrite; simp only []; split
  · simp
  · rw [key]; simp
@[simp] theorem State.hostWrite_marl (h sl : Nat) (a : BitVec 64) (b : List Byte) : (s.hostWrite h sl a b).marl = s.marl := by
  have key : ∀ (l : List Nat) (q : Nat) (u : State), (l.foldl (fun s k => s.logPage h sl (q + k)) u).marl = u.marl := by
    intro l q; induction l with
    | nil => intro u; rfl
    | cons x l ih => intro u; simp [ih]
  unfold State.hostWrite; simp only []; split
  · simp
  · rw [key]; simp
@[simp] theorem State.hostWrite_xfer (h sl : Nat) (a : BitVec 64) (b : List Byte) : (s.hostWrite h sl a b).xfer = s.xfer := by
  have key : ∀ (l : List Nat) (q : Nat) (u : State), (l.foldl (fun s k => s.logPage h sl (q + k)) u).xfer = u.xfer := by
    intro l q; induction l with
    | nil => intro u; rfl
    | cons x l ih => intro u; simp [ih]
  unfold State.hostWrite; simp only []; split
  · simp
  · rw [key]; simp
@[simp] theorem State.hostWrite_cluster (h sl : Nat) (a : BitVec 64) (b : List Byte) : (s.hostWrite h sl a b).cluster = s.cluster := by
  have key : ∀ (l : List Nat) (q : Nat) (u : State), (l.foldl (fun s k => s.logPage h sl (q + k)) u).cluster = u.cluster := by
    intro l q; induction l with
    | nil => intro u; rfl
    | cons x l ih => intro u; simp [ih]
  unfold State.hostWrite; simp only []; split
  · simp
  · rw [key]; simp
@[simp] theorem State.hostWrite_power (h sl : Nat) (a : BitVec 64) (b : List Byte) : (s.hostWrite h sl a b).power = s.power := by
  have key : ∀ (l : List Nat) (q : Nat) (u : State), (l.foldl (fun s k => s.logPage h sl (q + k)) u).power = u.power := by
    intro l q; induction l with
    | nil => intro u; rfl
    | cons x l ih => intro u; simp [ih]
  unfold State.hostWrite; simp only []; split
  · simp
  · rw [key]; simp
@[simp] theorem State.hostWrite_mem (h sl : Nat) (a : BitVec 64) (b : List Byte) : (s.hostWrite h sl a b).mem = s.mem := by
  have key : ∀ (l : List Nat) (q : Nat) (u : State), (l.foldl (fun s k => s.logPage h sl (q + k)) u).mem = u.mem := by
    intro l q; induction l with
    | nil => intro u; rfl
    | cons x l ih => intro u; simp [ih]
  unfold State.hostWrite; simp only []; split
  · simp
  · rw [key]; simp
@[simp] theorem State.hostWrite_silt (h sl : Nat) (a : BitVec 64) (b : List Byte) : (s.hostWrite h sl a b).silt = s.silt := by
  have key : ∀ (l : List Nat) (q : Nat) (u : State), (l.foldl (fun s k => s.logPage h sl (q + k)) u).silt = u.silt := by
    intro l q; induction l with
    | nil => intro u; rfl
    | cons x l ih => intro u; simp [ih]
  unfold State.hostWrite; simp only []; split
  · simp
  · rw [key]; simp
@[simp] theorem State.hostWrite_boot (h sl : Nat) (a : BitVec 64) (b : List Byte) : (s.hostWrite h sl a b).boot = s.boot := by
  have key : ∀ (l : List Nat) (q : Nat) (u : State), (l.foldl (fun s k => s.logPage h sl (q + k)) u).boot = u.boot := by
    intro l q; induction l with
    | nil => intro u; rfl
    | cons x l ih => intro u; simp [ih]
  unfold State.hostWrite; simp only []; split
  · simp
  · rw [key]; simp
@[simp] theorem State.hostWrite_edge (h sl : Nat) (a : BitVec 64) (b : List Byte) : (s.hostWrite h sl a b).edge = s.edge := by
  have key : ∀ (l : List Nat) (q : Nat) (u : State), (l.foldl (fun s k => s.logPage h sl (q + k)) u).edge = u.edge := by
    intro l q; induction l with
    | nil => intro u; rfl
    | cons x l ih => intro u; simp [ih]
  unfold State.hostWrite; simp only []; split
  · simp
  · rw [key]; simp
@[simp] theorem State.hostWrite_mgmt (h sl : Nat) (a : BitVec 64) (b : List Byte) : (s.hostWrite h sl a b).mgmt = s.mgmt := by
  have key : ∀ (l : List Nat) (q : Nat) (u : State), (l.foldl (fun s k => s.logPage h sl (q + k)) u).mgmt = u.mgmt := by
    intro l q; induction l with
    | nil => intro u; rfl
    | cons x l ih => intro u; simp [ih]
  unfold State.hostWrite; simp only []; split
  · simp
  · rw [key]; simp
@[simp] theorem State.hostWrite_lock (h sl : Nat) (a : BitVec 64) (b : List Byte) : (s.hostWrite h sl a b).lock = s.lock := by
  have key : ∀ (l : List Nat) (q : Nat) (u : State), (l.foldl (fun s k => s.logPage h sl (q + k)) u).lock = u.lock := by
    intro l q; induction l with
    | nil => intro u; rfl
    | cons x l ih => intro u; simp [ih]
  unfold State.hostWrite; simp only []; split
  · simp
  · rw [key]; simp
@[simp] theorem State.hostWrite_siteId (h sl : Nat) (a : BitVec 64) (b : List Byte) : (s.hostWrite h sl a b).siteId = s.siteId := by
  have key : ∀ (l : List Nat) (q : Nat) (u : State), (l.foldl (fun s k => s.logPage h sl (q + k)) u).siteId = u.siteId := by
    intro l q; induction l with
    | nil => intro u; rfl
    | cons x l ih => intro u; simp [ih]
  unfold State.hostWrite; simp only []; split
  · simp
  · rw [key]; simp
@[simp] theorem State.hostWrite_freeCtr (h sl : Nat) (a : BitVec 64) (b : List Byte) : (s.hostWrite h sl a b).freeCtr = s.freeCtr := by
  have key : ∀ (l : List Nat) (q : Nat) (u : State), (l.foldl (fun s k => s.logPage h sl (q + k)) u).freeCtr = u.freeCtr := by
    intro l q; induction l with
    | nil => intro u; rfl
    | cons x l ih => intro u; simp [ih]
  unfold State.hostWrite; simp only []; split
  · simp
  · rw [key]; simp
@[simp] theorem State.hostWrite_pending (h sl : Nat) (a : BitVec 64) (b : List Byte) : (s.hostWrite h sl a b).pending = s.pending := by
  have key : ∀ (l : List Nat) (q : Nat) (u : State), (l.foldl (fun s k => s.logPage h sl (q + k)) u).pending = u.pending := by
    intro l q; induction l with
    | nil => intro u; rfl
    | cons x l ih => intro u; simp [ih]
  unfold State.hostWrite; simp only []; split
  · simp
  · rw [key]; simp
theorem State.hostWrite_frame (h sl : Nat) (a : BitVec 64) (b : List Byte) :
    (s.hostWrite h sl a b) = { s with hosts := (s.hostWrite h sl a b).hosts, out := (s.hostWrite h sl a b).out } :=
  State.eq_of_fields

@[simp] theorem State.startCmd_clock (c : Cmd) (op : Nat) : (s.startCmd c op).clock = s.clock := by
  unfold State.startCmd; repeat' (first | rfl | (simp; done) | split | (simp only []; split))
@[simp] theorem State.startCmd_ports (c : Cmd) (op : Nat) : (s.startCmd c op).ports = s.ports := by
  unfold State.startCmd; repeat' (first | rfl | (simp; done) | split | (simp only []; split))
@[simp] theorem State.startCmd_tunnels (c : Cmd) (op : Nat) : (s.startCmd c op).tunnels = s.tunnels := by
  unfold State.startCmd; repeat' (first | rfl | (simp; done) | split | (simp only []; split))
@[simp] theorem State.startCmd_plan (c : Cmd) (op : Nat) : (s.startCmd c op).plan = s.plan := by
  unfold State.startCmd; repeat' (first | rfl | (simp; done) | split | (simp only []; split))
@[simp] theorem State.startCmd_marl (c : Cmd) (op : Nat) : (s.startCmd c op).marl = s.marl := by
  unfold State.startCmd; repeat' (first | rfl | (simp; done) | split | (simp only []; split))
@[simp] theorem State.startCmd_xfer (c : Cmd) (op : Nat) : (s.startCmd c op).xfer = s.xfer := by
  unfold State.startCmd; repeat' (first | rfl | (simp; done) | split | (simp only []; split))
@[simp] theorem State.startCmd_cluster (c : Cmd) (op : Nat) : (s.startCmd c op).cluster = s.cluster := by
  unfold State.startCmd; repeat' (first | rfl | (simp; done) | split | (simp only []; split))
@[simp] theorem State.startCmd_power (c : Cmd) (op : Nat) : (s.startCmd c op).power = s.power := by
  unfold State.startCmd; repeat' (first | rfl | (simp; done) | split | (simp only []; split))
@[simp] theorem State.startCmd_mem (c : Cmd) (op : Nat) : (s.startCmd c op).mem = s.mem := by
  unfold State.startCmd; repeat' (first | rfl | (simp; done) | split | (simp only []; split))
@[simp] theorem State.startCmd_silt (c : Cmd) (op : Nat) : (s.startCmd c op).silt = s.silt := by
  unfold State.startCmd; repeat' (first | rfl | (simp; done) | split | (simp only []; split))
@[simp] theorem State.startCmd_boot (c : Cmd) (op : Nat) : (s.startCmd c op).boot = s.boot := by
  unfold State.startCmd; repeat' (first | rfl | (simp; done) | split | (simp only []; split))
@[simp] theorem State.startCmd_edge (c : Cmd) (op : Nat) : (s.startCmd c op).edge = s.edge := by
  unfold State.startCmd; repeat' (first | rfl | (simp; done) | split | (simp only []; split))
@[simp] theorem State.startCmd_mgmt (c : Cmd) (op : Nat) : (s.startCmd c op).mgmt = s.mgmt := by
  unfold State.startCmd; repeat' (first | rfl | (simp; done) | split | (simp only []; split))
@[simp] theorem State.startCmd_lock (c : Cmd) (op : Nat) : (s.startCmd c op).lock = s.lock := by
  unfold State.startCmd; repeat' (first | rfl | (simp; done) | split | (simp only []; split))
@[simp] theorem State.startCmd_siteId (c : Cmd) (op : Nat) : (s.startCmd c op).siteId = s.siteId := by
  unfold State.startCmd; repeat' (first | rfl | (simp; done) | split | (simp only []; split))
@[simp] theorem State.startCmd_out (c : Cmd) (op : Nat) : (s.startCmd c op).out = s.out := by
  unfold State.startCmd; repeat' (first | rfl | (simp; done) | split | (simp only []; split))
@[simp] theorem State.startCmd_freeCtr (c : Cmd) (op : Nat) : (s.startCmd c op).freeCtr = s.freeCtr := by
  unfold State.startCmd; repeat' (first | rfl | (simp; done) | split | (simp only []; split))
@[simp] theorem State.startCmd_pending (c : Cmd) (op : Nat) : (s.startCmd c op).pending = s.pending := by
  unfold State.startCmd; repeat' (first | rfl | (simp; done) | split | (simp only []; split))
theorem State.startCmd_frame (c : Cmd) (op : Nat) :
    (s.startCmd c op) = { s with hosts := (s.startCmd c op).hosts } :=
  State.eq_of_fields

@[simp] theorem State.endCmd_clock (c : Cmd) (op : Nat) : (s.endCmd c op).clock = s.clock := by
  unfold State.endCmd; repeat' (first | rfl | (simp; done) | split | (simp only []; split))
@[simp] theorem State.endCmd_ports (c : Cmd) (op : Nat) : (s.endCmd c op).ports = s.ports := by
  unfold State.endCmd; repeat' (first | rfl | (simp; done) | split | (simp only []; split))
@[simp] theorem State.endCmd_tunnels (c : Cmd) (op : Nat) : (s.endCmd c op).tunnels = s.tunnels := by
  unfold State.endCmd; repeat' (first | rfl | (simp; done) | split | (simp only []; split))
@[simp] theorem State.endCmd_plan (c : Cmd) (op : Nat) : (s.endCmd c op).plan = s.plan := by
  unfold State.endCmd; repeat' (first | rfl | (simp; done) | split | (simp only []; split))
@[simp] theorem State.endCmd_marl (c : Cmd) (op : Nat) : (s.endCmd c op).marl = s.marl := by
  unfold State.endCmd; repeat' (first | rfl | (simp; done) | split | (simp only []; split))
@[simp] theorem State.endCmd_xfer (c : Cmd) (op : Nat) : (s.endCmd c op).xfer = s.xfer := by
  unfold State.endCmd; repeat' (first | rfl | (simp; done) | split | (simp only []; split))
@[simp] theorem State.endCmd_cluster (c : Cmd) (op : Nat) : (s.endCmd c op).cluster = s.cluster := by
  unfold State.endCmd; repeat' (first | rfl | (simp; done) | split | (simp only []; split))
@[simp] theorem State.endCmd_power (c : Cmd) (op : Nat) : (s.endCmd c op).power = s.power := by
  unfold State.endCmd; repeat' (first | rfl | (simp; done) | split | (simp only []; split))
@[simp] theorem State.endCmd_mem (c : Cmd) (op : Nat) : (s.endCmd c op).mem = s.mem := by
  unfold State.endCmd; repeat' (first | rfl | (simp; done) | split | (simp only []; split))
@[simp] theorem State.endCmd_silt (c : Cmd) (op : Nat) : (s.endCmd c op).silt = s.silt := by
  unfold State.endCmd; repeat' (first | rfl | (simp; done) | split | (simp only []; split))
@[simp] theorem State.endCmd_boot (c : Cmd) (op : Nat) : (s.endCmd c op).boot = s.boot := by
  unfold State.endCmd; repeat' (first | rfl | (simp; done) | split | (simp only []; split))
@[simp] theorem State.endCmd_edge (c : Cmd) (op : Nat) : (s.endCmd c op).edge = s.edge := by
  unfold State.endCmd; repeat' (first | rfl | (simp; done) | split | (simp only []; split))
@[simp] theorem State.endCmd_mgmt (c : Cmd) (op : Nat) : (s.endCmd c op).mgmt = s.mgmt := by
  unfold State.endCmd; repeat' (first | rfl | (simp; done) | split | (simp only []; split))
@[simp] theorem State.endCmd_lock (c : Cmd) (op : Nat) : (s.endCmd c op).lock = s.lock := by
  unfold State.endCmd; repeat' (first | rfl | (simp; done) | split | (simp only []; split))
@[simp] theorem State.endCmd_siteId (c : Cmd) (op : Nat) : (s.endCmd c op).siteId = s.siteId := by
  unfold State.endCmd; repeat' (first | rfl | (simp; done) | split | (simp only []; split))
@[simp] theorem State.endCmd_out (c : Cmd) (op : Nat) : (s.endCmd c op).out = s.out := by
  unfold State.endCmd; repeat' (first | rfl | (simp; done) | split | (simp only []; split))
@[simp] theorem State.endCmd_freeCtr (c : Cmd) (op : Nat) : (s.endCmd c op).freeCtr = s.freeCtr := by
  unfold State.endCmd; repeat' (first | rfl | (simp; done) | split | (simp only []; split))
@[simp] theorem State.endCmd_pending (c : Cmd) (op : Nat) : (s.endCmd c op).pending = s.pending := by
  unfold State.endCmd; repeat' (first | rfl | (simp; done) | split | (simp only []; split))
theorem State.endCmd_frame (c : Cmd) (op : Nat) :
    (s.endCmd c op) = { s with hosts := (s.endCmd c op).hosts } :=
  State.eq_of_fields

@[simp] theorem State.markCommitted_clock (c : Cmd) (op : Nat) : (s.markCommitted c op).clock = s.clock := by
  unfold State.markCommitted; repeat' (first | rfl | (simp; done) | split | (simp only []; split))
@[simp] theorem State.markCommitted_ports (c : Cmd) (op : Nat) : (s.markCommitted c op).ports = s.ports := by
  unfold State.markCommitted; repeat' (first | rfl | (simp; done) | split | (simp only []; split))
@[simp] theorem State.markCommitted_tunnels (c : Cmd) (op : Nat) : (s.markCommitted c op).tunnels = s.tunnels := by
  unfold State.markCommitted; repeat' (first | rfl | (simp; done) | split | (simp only []; split))
@[simp] theorem State.markCommitted_plan (c : Cmd) (op : Nat) : (s.markCommitted c op).plan = s.plan := by
  unfold State.markCommitted; repeat' (first | rfl | (simp; done) | split | (simp only []; split))
@[simp] theorem State.markCommitted_marl (c : Cmd) (op : Nat) : (s.markCommitted c op).marl = s.marl := by
  unfold State.markCommitted; repeat' (first | rfl | (simp; done) | split | (simp only []; split))
@[simp] theorem State.markCommitted_xfer (c : Cmd) (op : Nat) : (s.markCommitted c op).xfer = s.xfer := by
  unfold State.markCommitted; repeat' (first | rfl | (simp; done) | split | (simp only []; split))
@[simp] theorem State.markCommitted_cluster (c : Cmd) (op : Nat) : (s.markCommitted c op).cluster = s.cluster := by
  unfold State.markCommitted; repeat' (first | rfl | (simp; done) | split | (simp only []; split))
@[simp] theorem State.markCommitted_power (c : Cmd) (op : Nat) : (s.markCommitted c op).power = s.power := by
  unfold State.markCommitted; repeat' (first | rfl | (simp; done) | split | (simp only []; split))
@[simp] theorem State.markCommitted_mem (c : Cmd) (op : Nat) : (s.markCommitted c op).mem = s.mem := by
  unfold State.markCommitted; repeat' (first | rfl | (simp; done) | split | (simp only []; split))
@[simp] theorem State.markCommitted_silt (c : Cmd) (op : Nat) : (s.markCommitted c op).silt = s.silt := by
  unfold State.markCommitted; repeat' (first | rfl | (simp; done) | split | (simp only []; split))
@[simp] theorem State.markCommitted_boot (c : Cmd) (op : Nat) : (s.markCommitted c op).boot = s.boot := by
  unfold State.markCommitted; repeat' (first | rfl | (simp; done) | split | (simp only []; split))
@[simp] theorem State.markCommitted_edge (c : Cmd) (op : Nat) : (s.markCommitted c op).edge = s.edge := by
  unfold State.markCommitted; repeat' (first | rfl | (simp; done) | split | (simp only []; split))
@[simp] theorem State.markCommitted_mgmt (c : Cmd) (op : Nat) : (s.markCommitted c op).mgmt = s.mgmt := by
  unfold State.markCommitted; repeat' (first | rfl | (simp; done) | split | (simp only []; split))
@[simp] theorem State.markCommitted_lock (c : Cmd) (op : Nat) : (s.markCommitted c op).lock = s.lock := by
  unfold State.markCommitted; repeat' (first | rfl | (simp; done) | split | (simp only []; split))
@[simp] theorem State.markCommitted_siteId (c : Cmd) (op : Nat) : (s.markCommitted c op).siteId = s.siteId := by
  unfold State.markCommitted; repeat' (first | rfl | (simp; done) | split | (simp only []; split))
@[simp] theorem State.markCommitted_out (c : Cmd) (op : Nat) : (s.markCommitted c op).out = s.out := by
  unfold State.markCommitted; repeat' (first | rfl | (simp; done) | split | (simp only []; split))
@[simp] theorem State.markCommitted_freeCtr (c : Cmd) (op : Nat) : (s.markCommitted c op).freeCtr = s.freeCtr := by
  unfold State.markCommitted; repeat' (first | rfl | (simp; done) | split | (simp only []; split))
@[simp] theorem State.markCommitted_pending (c : Cmd) (op : Nat) : (s.markCommitted c op).pending = s.pending := by
  unfold State.markCommitted; repeat' (first | rfl | (simp; done) | split | (simp only []; split))
theorem State.markCommitted_frame (c : Cmd) (op : Nat) :
    (s.markCommitted c op) = { s with hosts := (s.markCommitted c op).hosts } :=
  State.eq_of_fields

@[simp] theorem State.markBegun_clock (c : Cmd) (op : Nat) : (s.markBegun c op).clock = s.clock := by
  unfold State.markBegun; repeat' (first | rfl | (simp; done) | split | (simp only []; split))
@[simp] theorem State.markBegun_ports (c : Cmd) (op : Nat) : (s.markBegun c op).ports = s.ports := by
  unfold State.markBegun; repeat' (first | rfl | (simp; done) | split | (simp only []; split))
@[simp] theorem State.markBegun_tunnels (c : Cmd) (op : Nat) : (s.markBegun c op).tunnels = s.tunnels := by
  unfold State.markBegun; repeat' (first | rfl | (simp; done) | split | (simp only []; split))
@[simp] theorem State.markBegun_plan (c : Cmd) (op : Nat) : (s.markBegun c op).plan = s.plan := by
  unfold State.markBegun; repeat' (first | rfl | (simp; done) | split | (simp only []; split))
@[simp] theorem State.markBegun_marl (c : Cmd) (op : Nat) : (s.markBegun c op).marl = s.marl := by
  unfold State.markBegun; repeat' (first | rfl | (simp; done) | split | (simp only []; split))
@[simp] theorem State.markBegun_xfer (c : Cmd) (op : Nat) : (s.markBegun c op).xfer = s.xfer := by
  unfold State.markBegun; repeat' (first | rfl | (simp; done) | split | (simp only []; split))
@[simp] theorem State.markBegun_cluster (c : Cmd) (op : Nat) : (s.markBegun c op).cluster = s.cluster := by
  unfold State.markBegun; repeat' (first | rfl | (simp; done) | split | (simp only []; split))
@[simp] theorem State.markBegun_power (c : Cmd) (op : Nat) : (s.markBegun c op).power = s.power := by
  unfold State.markBegun; repeat' (first | rfl | (simp; done) | split | (simp only []; split))
@[simp] theorem State.markBegun_mem (c : Cmd) (op : Nat) : (s.markBegun c op).mem = s.mem := by
  unfold State.markBegun; repeat' (first | rfl | (simp; done) | split | (simp only []; split))
@[simp] theorem State.markBegun_silt (c : Cmd) (op : Nat) : (s.markBegun c op).silt = s.silt := by
  unfold State.markBegun; repeat' (first | rfl | (simp; done) | split | (simp only []; split))
@[simp] theorem State.markBegun_boot (c : Cmd) (op : Nat) : (s.markBegun c op).boot = s.boot := by
  unfold State.markBegun; repeat' (first | rfl | (simp; done) | split | (simp only []; split))
@[simp] theorem State.markBegun_edge (c : Cmd) (op : Nat) : (s.markBegun c op).edge = s.edge := by
  unfold State.markBegun; repeat' (first | rfl | (simp; done) | split | (simp only []; split))
@[simp] theorem State.markBegun_mgmt (c : Cmd) (op : Nat) : (s.markBegun c op).mgmt = s.mgmt := by
  unfold State.markBegun; repeat' (first | rfl | (simp; done) | split | (simp only []; split))
@[simp] theorem State.markBegun_lock (c : Cmd) (op : Nat) : (s.markBegun c op).lock = s.lock := by
  unfold State.markBegun; repeat' (first | rfl | (simp; done) | split | (simp only []; split))
@[simp] theorem State.markBegun_siteId (c : Cmd) (op : Nat) : (s.markBegun c op).siteId = s.siteId := by
  unfold State.markBegun; repeat' (first | rfl | (simp; done) | split | (simp only []; split))
@[simp] theorem State.markBegun_out (c : Cmd) (op : Nat) : (s.markBegun c op).out = s.out := by
  unfold State.markBegun; repeat' (first | rfl | (simp; done) | split | (simp only []; split))
@[simp] theorem State.markBegun_freeCtr (c : Cmd) (op : Nat) : (s.markBegun c op).freeCtr = s.freeCtr := by
  unfold State.markBegun; repeat' (first | rfl | (simp; done) | split | (simp only []; split))
@[simp] theorem State.markBegun_pending (c : Cmd) (op : Nat) : (s.markBegun c op).pending = s.pending := by
  unfold State.markBegun; repeat' (first | rfl | (simp; done) | split | (simp only []; split))
theorem State.markBegun_frame (c : Cmd) (op : Nat) :
    (s.markBegun c op) = { s with hosts := (s.markBegun c op).hosts } :=
  State.eq_of_fields

@[simp] theorem State.deliver_clock (c : Cmd) (st : Status) (d : Nat) (r : List Byte) : (s.deliver c st d r).clock = s.clock := by
  unfold State.deliver; repeat' (first | rfl | (simp; done) | split | (simp only []; split))
@[simp] theorem State.deliver_ports (c : Cmd) (st : Status) (d : Nat) (r : List Byte) : (s.deliver c st d r).ports = s.ports := by
  unfold State.deliver; repeat' (first | rfl | (simp; done) | split | (simp only []; split))
@[simp] theorem State.deliver_tunnels (c : Cmd) (st : Status) (d : Nat) (r : List Byte) : (s.deliver c st d r).tunnels = s.tunnels := by
  unfold State.deliver; repeat' (first | rfl | (simp; done) | split | (simp only []; split))
@[simp] theorem State.deliver_plan (c : Cmd) (st : Status) (d : Nat) (r : List Byte) : (s.deliver c st d r).plan = s.plan := by
  unfold State.deliver; repeat' (first | rfl | (simp; done) | split | (simp only []; split))
@[simp] theorem State.deliver_marl (c : Cmd) (st : Status) (d : Nat) (r : List Byte) : (s.deliver c st d r).marl = s.marl := by
  unfold State.deliver; repeat' (first | rfl | (simp; done) | split | (simp only []; split))
@[simp] theorem State.deliver_xfer (c : Cmd) (st : Status) (d : Nat) (r : List Byte) : (s.deliver c st d r).xfer = s.xfer := by
  unfold State.deliver; repeat' (first | rfl | (simp; done) | split | (simp only []; split))
@[simp] theorem State.deliver_cluster (c : Cmd) (st : Status) (d : Nat) (r : List Byte) : (s.deliver c st d r).cluster = s.cluster := by
  unfold State.deliver; repeat' (first | rfl | (simp; done) | split | (simp only []; split))
@[simp] theorem State.deliver_power (c : Cmd) (st : Status) (d : Nat) (r : List Byte) : (s.deliver c st d r).power = s.power := by
  unfold State.deliver; repeat' (first | rfl | (simp; done) | split | (simp only []; split))
@[simp] theorem State.deliver_mem (c : Cmd) (st : Status) (d : Nat) (r : List Byte) : (s.deliver c st d r).mem = s.mem := by
  unfold State.deliver; repeat' (first | rfl | (simp; done) | split | (simp only []; split))
@[simp] theorem State.deliver_edge (c : Cmd) (st : Status) (d : Nat) (r : List Byte) : (s.deliver c st d r).edge = s.edge := by
  unfold State.deliver; repeat' (first | rfl | (simp; done) | split | (simp only []; split))
@[simp] theorem State.deliver_lock (c : Cmd) (st : Status) (d : Nat) (r : List Byte) : (s.deliver c st d r).lock = s.lock := by
  unfold State.deliver; repeat' (first | rfl | (simp; done) | split | (simp only []; split))
@[simp] theorem State.deliver_siteId (c : Cmd) (st : Status) (d : Nat) (r : List Byte) : (s.deliver c st d r).siteId = s.siteId := by
  unfold State.deliver; repeat' (first | rfl | (simp; done) | split | (simp only []; split))
@[simp] theorem State.deliver_pending (c : Cmd) (st : Status) (d : Nat) (r : List Byte) : (s.deliver c st d r).pending = s.pending := by
  unfold State.deliver; repeat' (first | rfl | (simp; done) | split | (simp only []; split))
theorem State.deliver_frame (c : Cmd) (st : Status) (d : Nat) (r : List Byte) :
    (s.deliver c st d r) = { s with hosts := (s.deliver c st d r).hosts, silt := (s.deliver c st d r).silt, boot := (s.deliver c st d r).boot, mgmt := (s.deliver c st d r).mgmt, out := (s.deliver c st d r).out, freeCtr := (s.deliver c st d r).freeCtr } :=
  State.eq_of_fields

@[simp] theorem State.complete_clock (c : Cmd) (op : Nat) (st : Status) (d : Nat) (r : List Byte) : (s.complete c op st d r).clock = s.clock := by
  unfold State.complete; repeat' (first | rfl | (simp; done) | split | (simp only []; split))
@[simp] theorem State.complete_ports (c : Cmd) (op : Nat) (st : Status) (d : Nat) (r : List Byte) : (s.complete c op st d r).ports = s.ports := by
  unfold State.complete; repeat' (first | rfl | (simp; done) | split | (simp only []; split))
@[simp] theorem State.complete_tunnels (c : Cmd) (op : Nat) (st : Status) (d : Nat) (r : List Byte) : (s.complete c op st d r).tunnels = s.tunnels := by
  unfold State.complete; repeat' (first | rfl | (simp; done) | split | (simp only []; split))
@[simp] theorem State.complete_plan (c : Cmd) (op : Nat) (st : Status) (d : Nat) (r : List Byte) : (s.complete c op st d r).plan = s.plan := by
  unfold State.complete; repeat' (first | rfl | (simp; done) | split | (simp only []; split))
@[simp] theorem State.complete_marl (c : Cmd) (op : Nat) (st : Status) (d : Nat) (r : List Byte) : (s.complete c op st d r).marl = s.marl := by
  unfold State.complete; repeat' (first | rfl | (simp; done) | split | (simp only []; split))
@[simp] theorem State.complete_xfer (c : Cmd) (op : Nat) (st : Status) (d : Nat) (r : List Byte) : (s.complete c op st d r).xfer = s.xfer := by
  unfold State.complete; repeat' (first | rfl | (simp; done) | split | (simp only []; split))
@[simp] theorem State.complete_cluster (c : Cmd) (op : Nat) (st : Status) (d : Nat) (r : List Byte) : (s.complete c op st d r).cluster = s.cluster := by
  unfold State.complete; repeat' (first | rfl | (simp; done) | split | (simp only []; split))
@[simp] theorem State.complete_power (c : Cmd) (op : Nat) (st : Status) (d : Nat) (r : List Byte) : (s.complete c op st d r).power = s.power := by
  unfold State.complete; repeat' (first | rfl | (simp; done) | split | (simp only []; split))
@[simp] theorem State.complete_mem (c : Cmd) (op : Nat) (st : Status) (d : Nat) (r : List Byte) : (s.complete c op st d r).mem = s.mem := by
  unfold State.complete; repeat' (first | rfl | (simp; done) | split | (simp only []; split))
@[simp] theorem State.complete_edge (c : Cmd) (op : Nat) (st : Status) (d : Nat) (r : List Byte) : (s.complete c op st d r).edge = s.edge := by
  unfold State.complete; repeat' (first | rfl | (simp; done) | split | (simp only []; split))
@[simp] theorem State.complete_lock (c : Cmd) (op : Nat) (st : Status) (d : Nat) (r : List Byte) : (s.complete c op st d r).lock = s.lock := by
  unfold State.complete; repeat' (first | rfl | (simp; done) | split | (simp only []; split))
@[simp] theorem State.complete_siteId (c : Cmd) (op : Nat) (st : Status) (d : Nat) (r : List Byte) : (s.complete c op st d r).siteId = s.siteId := by
  unfold State.complete; repeat' (first | rfl | (simp; done) | split | (simp only []; split))
@[simp] theorem State.complete_pending (c : Cmd) (op : Nat) (st : Status) (d : Nat) (r : List Byte) : (s.complete c op st d r).pending = s.pending := by
  unfold State.complete; repeat' (first | rfl | (simp; done) | split | (simp only []; split))
theorem State.complete_frame (c : Cmd) (op : Nat) (st : Status) (d : Nat) (r : List Byte) :
    (s.complete c op st d r) = { s with hosts := (s.complete c op st d r).hosts, silt := (s.complete c op st d r).silt, boot := (s.complete c op st d r).boot, mgmt := (s.complete c op st d r).mgmt, out := (s.complete c op st d r).out, freeCtr := (s.complete c op st d r).freeCtr } :=
  State.eq_of_fields

@[simp] theorem State.completeOpt_clock (c : Option Cmd) (op : Nat) (st : Status) (d : Nat) (r : List Byte) : (s.completeOpt c op st d r).clock = s.clock := by
  unfold State.completeOpt; repeat' (first | rfl | (simp; done) | split | (simp only []; split))
@[simp] theorem State.completeOpt_ports (c : Option Cmd) (op : Nat) (st : Status) (d : Nat) (r : List Byte) : (s.completeOpt c op st d r).ports = s.ports := by
  unfold State.completeOpt; repeat' (first | rfl | (simp; done) | split | (simp only []; split))
@[simp] theorem State.completeOpt_tunnels (c : Option Cmd) (op : Nat) (st : Status) (d : Nat) (r : List Byte) : (s.completeOpt c op st d r).tunnels = s.tunnels := by
  unfold State.completeOpt; repeat' (first | rfl | (simp; done) | split | (simp only []; split))
@[simp] theorem State.completeOpt_plan (c : Option Cmd) (op : Nat) (st : Status) (d : Nat) (r : List Byte) : (s.completeOpt c op st d r).plan = s.plan := by
  unfold State.completeOpt; repeat' (first | rfl | (simp; done) | split | (simp only []; split))
@[simp] theorem State.completeOpt_marl (c : Option Cmd) (op : Nat) (st : Status) (d : Nat) (r : List Byte) : (s.completeOpt c op st d r).marl = s.marl := by
  unfold State.completeOpt; repeat' (first | rfl | (simp; done) | split | (simp only []; split))
@[simp] theorem State.completeOpt_xfer (c : Option Cmd) (op : Nat) (st : Status) (d : Nat) (r : List Byte) : (s.completeOpt c op st d r).xfer = s.xfer := by
  unfold State.completeOpt; repeat' (first | rfl | (simp; done) | split | (simp only []; split))
@[simp] theorem State.completeOpt_cluster (c : Option Cmd) (op : Nat) (st : Status) (d : Nat) (r : List Byte) : (s.completeOpt c op st d r).cluster = s.cluster := by
  unfold State.completeOpt; repeat' (first | rfl | (simp; done) | split | (simp only []; split))
@[simp] theorem State.completeOpt_power (c : Option Cmd) (op : Nat) (st : Status) (d : Nat) (r : List Byte) : (s.completeOpt c op st d r).power = s.power := by
  unfold State.completeOpt; repeat' (first | rfl | (simp; done) | split | (simp only []; split))
@[simp] theorem State.completeOpt_mem (c : Option Cmd) (op : Nat) (st : Status) (d : Nat) (r : List Byte) : (s.completeOpt c op st d r).mem = s.mem := by
  unfold State.completeOpt; repeat' (first | rfl | (simp; done) | split | (simp only []; split))
@[simp] theorem State.completeOpt_edge (c : Option Cmd) (op : Nat) (st : Status) (d : Nat) (r : List Byte) : (s.completeOpt c op st d r).edge = s.edge := by
  unfold State.completeOpt; repeat' (first | rfl | (simp; done) | split | (simp only []; split))
@[simp] theorem State.completeOpt_lock (c : Option Cmd) (op : Nat) (st : Status) (d : Nat) (r : List Byte) : (s.completeOpt c op st d r).lock = s.lock := by
  unfold State.completeOpt; repeat' (first | rfl | (simp; done) | split | (simp only []; split))
@[simp] theorem State.completeOpt_siteId (c : Option Cmd) (op : Nat) (st : Status) (d : Nat) (r : List Byte) : (s.completeOpt c op st d r).siteId = s.siteId := by
  unfold State.completeOpt; repeat' (first | rfl | (simp; done) | split | (simp only []; split))
@[simp] theorem State.completeOpt_pending (c : Option Cmd) (op : Nat) (st : Status) (d : Nat) (r : List Byte) : (s.completeOpt c op st d r).pending = s.pending := by
  unfold State.completeOpt; repeat' (first | rfl | (simp; done) | split | (simp only []; split))
theorem State.completeOpt_frame (c : Option Cmd) (op : Nat) (st : Status) (d : Nat) (r : List Byte) :
    (s.completeOpt c op st d r) = { s with hosts := (s.completeOpt c op st d r).hosts, silt := (s.completeOpt c op st d r).silt, boot := (s.completeOpt c op st d r).boot, mgmt := (s.completeOpt c op st d r).mgmt, out := (s.completeOpt c op st d r).out, freeCtr := (s.completeOpt c op st d r).freeCtr } :=
  State.eq_of_fields

@[simp] theorem State.ok_clock (c : Cmd) (op : Nat) (r : List Byte) : (s.ok c op r).clock = s.clock := by
  unfold State.ok; repeat' (first | rfl | (simp; done) | split | (simp only []; split))
@[simp] theorem State.ok_ports (c : Cmd) (op : Nat) (r : List Byte) : (s.ok c op r).ports = s.ports := by
  unfold State.ok; repeat' (first | rfl | (simp; done) | split | (simp only []; split))
@[simp] theorem State.ok_tunnels (c : Cmd) (op : Nat) (r : List Byte) : (s.ok c op r).tunnels = s.tunnels := by
  unfold State.ok; repeat' (first | rfl | (simp; done) | split | (simp only []; split))
@[simp] theorem State.ok_plan (c : Cmd) (op : Nat) (r : List Byte) : (s.ok c op r).plan = s.plan := by
  unfold State.ok; repeat' (first | rfl | (simp; done) | split | (simp only []; split))
@[simp] theorem State.ok_marl (c : Cmd) (op : Nat) (r : List Byte) : (s.ok c op r).marl = s.marl := by
  unfold State.ok; repeat' (first | rfl | (simp; done) | split | (simp only []; split))
@[simp] theorem State.ok_xfer (c : Cmd) (op : Nat) (r : List Byte) : (s.ok c op r).xfer = s.xfer := by
  unfold State.ok; repeat' (first | rfl | (simp; done) | split | (simp only []; split))
@[simp] theorem State.ok_cluster (c : Cmd) (op : Nat) (r : List Byte) : (s.ok c op r).cluster = s.cluster := by
  unfold State.ok; repeat' (first | rfl | (simp; done) | split | (simp only []; split))
@[simp] theorem State.ok_power (c : Cmd) (op : Nat) (r : List Byte) : (s.ok c op r).power = s.power := by
  unfold State.ok; repeat' (first | rfl | (simp; done) | split | (simp only []; split))
@[simp] theorem State.ok_mem (c : Cmd) (op : Nat) (r : List Byte) : (s.ok c op r).mem = s.mem := by
  unfold State.ok; repeat' (first | rfl | (simp; done) | split | (simp only []; split))
@[simp] theorem State.ok_edge (c : Cmd) (op : Nat) (r : List Byte) : (s.ok c op r).edge = s.edge := by
  unfold State.ok; repeat' (first | rfl | (simp; done) | split | (simp only []; split))
@[simp] theorem State.ok_lock (c : Cmd) (op : Nat) (r : List Byte) : (s.ok c op r).lock = s.lock := by
  unfold State.ok; repeat' (first | rfl | (simp; done) | split | (simp only []; split))
@[simp] theorem State.ok_siteId (c : Cmd) (op : Nat) (r : List Byte) : (s.ok c op r).siteId = s.siteId := by
  unfold State.ok; repeat' (first | rfl | (simp; done) | split | (simp only []; split))
@[simp] theorem State.ok_pending (c : Cmd) (op : Nat) (r : List Byte) : (s.ok c op r).pending = s.pending := by
  unfold State.ok; repeat' (first | rfl | (simp; done) | split | (simp only []; split))
theorem State.ok_frame (c : Cmd) (op : Nat) (r : List Byte) :
    (s.ok c op r) = { s with hosts := (s.ok c op r).hosts, silt := (s.ok c op r).silt, boot := (s.ok c op r).boot, mgmt := (s.ok c op r).mgmt, out := (s.ok c op r).out, freeCtr := (s.ok c op r).freeCtr } :=
  State.eq_of_fields

@[simp] theorem State.journalRefused_clock (i : CmdInfo) (c : Cmd) (k : Checks) : (s.journalRefused i c k).clock = s.clock := by
  unfold State.journalRefused; repeat' (first | rfl | (simp; done) | split | (simp only []; split))
@[simp] theorem State.journalRefused_ports (i : CmdInfo) (c : Cmd) (k : Checks) : (s.journalRefused i c k).ports = s.ports := by
  unfold State.journalRefused; repeat' (first | rfl | (simp; done) | split | (simp only []; split))
@[simp] theorem State.journalRefused_tunnels (i : CmdInfo) (c : Cmd) (k : Checks) : (s.journalRefused i c k).tunnels = s.tunnels := by
  unfold State.journalRefused; repeat' (first | rfl | (simp; done) | split | (simp only []; split))
@[simp] theorem State.journalRefused_plan (i : CmdInfo) (c : Cmd) (k : Checks) : (s.journalRefused i c k).plan = s.plan := by
  unfold State.journalRefused; repeat' (first | rfl | (simp; done) | split | (simp only []; split))
@[simp] theorem State.journalRefused_marl (i : CmdInfo) (c : Cmd) (k : Checks) : (s.journalRefused i c k).marl = s.marl := by
  unfold State.journalRefused; repeat' (first | rfl | (simp; done) | split | (simp only []; split))
@[simp] theorem State.journalRefused_xfer (i : CmdInfo) (c : Cmd) (k : Checks) : (s.journalRefused i c k).xfer = s.xfer := by
  unfold State.journalRefused; repeat' (first | rfl | (simp; done) | split | (simp only []; split))
@[simp] theorem State.journalRefused_mem (i : CmdInfo) (c : Cmd) (k : Checks) : (s.journalRefused i c k).mem = s.mem := by
  unfold State.journalRefused; repeat' (first | rfl | (simp; done) | split | (simp only []; split))
@[simp] theorem State.journalRefused_boot (i : CmdInfo) (c : Cmd) (k : Checks) : (s.journalRefused i c k).boot = s.boot := by
  unfold State.journalRefused; repeat' (first | rfl | (simp; done) | split | (simp only []; split))
@[simp] theorem State.journalRefused_edge (i : CmdInfo) (c : Cmd) (k : Checks) : (s.journalRefused i c k).edge = s.edge := by
  unfold State.journalRefused; repeat' (first | rfl | (simp; done) | split | (simp only []; split))
@[simp] theorem State.journalRefused_lock (i : CmdInfo) (c : Cmd) (k : Checks) : (s.journalRefused i c k).lock = s.lock := by
  unfold State.journalRefused; repeat' (first | rfl | (simp; done) | split | (simp only []; split))
@[simp] theorem State.journalRefused_siteId (i : CmdInfo) (c : Cmd) (k : Checks) : (s.journalRefused i c k).siteId = s.siteId := by
  unfold State.journalRefused; repeat' (first | rfl | (simp; done) | split | (simp only []; split))
@[simp] theorem State.journalRefused_out (i : CmdInfo) (c : Cmd) (k : Checks) : (s.journalRefused i c k).out = s.out := by
  unfold State.journalRefused; repeat' (first | rfl | (simp; done) | split | (simp only []; split))
@[simp] theorem State.journalRefused_freeCtr (i : CmdInfo) (c : Cmd) (k : Checks) : (s.journalRefused i c k).freeCtr = s.freeCtr := by
  unfold State.journalRefused; repeat' (first | rfl | (simp; done) | split | (simp only []; split))
@[simp] theorem State.journalRefused_pending (i : CmdInfo) (c : Cmd) (k : Checks) : (s.journalRefused i c k).pending = s.pending := by
  unfold State.journalRefused; repeat' (first | rfl | (simp; done) | split | (simp only []; split))
theorem State.journalRefused_frame (i : CmdInfo) (c : Cmd) (k : Checks) :
    (s.journalRefused i c k) = { s with hosts := (s.journalRefused i c k).hosts, cluster := (s.journalRefused i c k).cluster, power := (s.journalRefused i c k).power, silt := (s.journalRefused i c k).silt, mgmt := (s.journalRefused i c k).mgmt } :=
  State.eq_of_fields
@[simp] theorem State.journalRefused_power_on (i : CmdInfo) (c : Cmd) (k : Checks) : (s.journalRefused i c k).power.on = s.power.on := by
  unfold State.journalRefused; repeat' (first | rfl | (simp; done) | split | (simp only []; split))
@[simp] theorem State.journalRefused_power_hold (i : CmdInfo) (c : Cmd) (k : Checks) : (s.journalRefused i c k).power.hold = s.power.hold := by
  unfold State.journalRefused; repeat' (first | rfl | (simp; done) | split | (simp only []; split))
@[simp] theorem State.journalRefused_power_seqs (i : CmdInfo) (c : Cmd) (k : Checks) : (s.journalRefused i c k).power.seqs = s.power.seqs := by
  unfold State.journalRefused; repeat' (first | rfl | (simp; done) | split | (simp only []; split))
@[simp] theorem State.journalRefused_power_powered (i : CmdInfo) (c : Cmd) (k : Checks) : (s.journalRefused i c k).power.powered = s.power.powered := by
  unfold State.journalRefused; repeat' (first | rfl | (simp; done) | split | (simp only []; split))
@[simp] theorem State.journalRefused_power_sleep (i : CmdInfo) (c : Cmd) (k : Checks) : (s.journalRefused i c k).power.sleep = s.power.sleep := by
  unfold State.journalRefused; repeat' (first | rfl | (simp; done) | split | (simp only []; split))
@[simp] theorem State.journalRefused_power_levels (i : CmdInfo) (c : Cmd) (k : Checks) : (s.journalRefused i c k).power.levels = s.power.levels := by
  unfold State.journalRefused; repeat' (first | rfl | (simp; done) | split | (simp only []; split))
@[simp] theorem State.journalRefused_power (i : CmdInfo) (c : Cmd) (k : Checks) (st : s.power.phase = .steady) (aw : s.power.sleep = 0) : (s.journalRefused i c k).power = s.power := by
  unfold State.journalRefused; repeat' (first | rfl | (simp [st, aw]; done) | split | (simp only []; split))

@[simp] theorem State.bufferWrite_clock (c : Cmd) (a : Nat) (b : List Byte) : (s.bufferWrite c a b).clock = s.clock := by
  unfold State.bufferWrite; repeat' (first | rfl | (simp; done) | split | (simp only []; split))
@[simp] theorem State.bufferWrite_ports (c : Cmd) (a : Nat) (b : List Byte) : (s.bufferWrite c a b).ports = s.ports := by
  unfold State.bufferWrite; repeat' (first | rfl | (simp; done) | split | (simp only []; split))
@[simp] theorem State.bufferWrite_tunnels (c : Cmd) (a : Nat) (b : List Byte) : (s.bufferWrite c a b).tunnels = s.tunnels := by
  unfold State.bufferWrite; repeat' (first | rfl | (simp; done) | split | (simp only []; split))
@[simp] theorem State.bufferWrite_plan (c : Cmd) (a : Nat) (b : List Byte) : (s.bufferWrite c a b).plan = s.plan := by
  unfold State.bufferWrite; repeat' (first | rfl | (simp; done) | split | (simp only []; split))
@[simp] theorem State.bufferWrite_marl (c : Cmd) (a : Nat) (b : List Byte) : (s.bufferWrite c a b).marl = s.marl := by
  unfold State.bufferWrite; repeat' (first | rfl | (simp; done) | split | (simp only []; split))
@[simp] theorem State.bufferWrite_xfer (c : Cmd) (a : Nat) (b : List Byte) : (s.bufferWrite c a b).xfer = s.xfer := by
  unfold State.bufferWrite; repeat' (first | rfl | (simp; done) | split | (simp only []; split))
@[simp] theorem State.bufferWrite_cluster (c : Cmd) (a : Nat) (b : List Byte) : (s.bufferWrite c a b).cluster = s.cluster := by
  unfold State.bufferWrite; repeat' (first | rfl | (simp; done) | split | (simp only []; split))
@[simp] theorem State.bufferWrite_power (c : Cmd) (a : Nat) (b : List Byte) : (s.bufferWrite c a b).power = s.power := by
  unfold State.bufferWrite; repeat' (first | rfl | (simp; done) | split | (simp only []; split))
@[simp] theorem State.bufferWrite_mem (c : Cmd) (a : Nat) (b : List Byte) : (s.bufferWrite c a b).mem = s.mem := by
  unfold State.bufferWrite; repeat' (first | rfl | (simp; done) | split | (simp only []; split))
@[simp] theorem State.bufferWrite_silt (c : Cmd) (a : Nat) (b : List Byte) : (s.bufferWrite c a b).silt = s.silt := by
  unfold State.bufferWrite; repeat' (first | rfl | (simp; done) | split | (simp only []; split))
@[simp] theorem State.bufferWrite_boot (c : Cmd) (a : Nat) (b : List Byte) : (s.bufferWrite c a b).boot = s.boot := by
  unfold State.bufferWrite; repeat' (first | rfl | (simp; done) | split | (simp only []; split))
@[simp] theorem State.bufferWrite_edge (c : Cmd) (a : Nat) (b : List Byte) : (s.bufferWrite c a b).edge = s.edge := by
  unfold State.bufferWrite; repeat' (first | rfl | (simp; done) | split | (simp only []; split))
@[simp] theorem State.bufferWrite_lock (c : Cmd) (a : Nat) (b : List Byte) : (s.bufferWrite c a b).lock = s.lock := by
  unfold State.bufferWrite; repeat' (first | rfl | (simp; done) | split | (simp only []; split))
@[simp] theorem State.bufferWrite_siteId (c : Cmd) (a : Nat) (b : List Byte) : (s.bufferWrite c a b).siteId = s.siteId := by
  unfold State.bufferWrite; repeat' (first | rfl | (simp; done) | split | (simp only []; split))
@[simp] theorem State.bufferWrite_freeCtr (c : Cmd) (a : Nat) (b : List Byte) : (s.bufferWrite c a b).freeCtr = s.freeCtr := by
  unfold State.bufferWrite; repeat' (first | rfl | (simp; done) | split | (simp only []; split))
@[simp] theorem State.bufferWrite_pending (c : Cmd) (a : Nat) (b : List Byte) : (s.bufferWrite c a b).pending = s.pending := by
  unfold State.bufferWrite; repeat' (first | rfl | (simp; done) | split | (simp only []; split))
theorem State.bufferWrite_frame (c : Cmd) (a : Nat) (b : List Byte) :
    (s.bufferWrite c a b) = { s with hosts := (s.bufferWrite c a b).hosts, mgmt := (s.bufferWrite c a b).mgmt, out := (s.bufferWrite c a b).out } :=
  State.eq_of_fields

end Sys2Proof.Machine
end

