-- ==== Sys2Proof/Laws/Command.lean ====
section
/-! SUPPORT. Sys2Proof/Laws/Command.lean: what the command skeleton of R263 does with a command that may be carried out, and what the state holds when its effect begins. -/

set_option linter.unusedTactic false
set_option linter.unreachableTactic false
set_option Elab.async false

namespace Sys2Proof.Machine

variable (s : State)

/-! ## The parts of the host state that recording leaves alone -/

@[simp] theorem State.modHp_hosts_slices (h : Nat) (f : HostPort → HostPort) : (s.modHp h f).hosts.slices = s.hosts.slices := by
  unfold State.modHp State.setHp; split <;> rfl
@[simp] theorem State.alarmOccur_hosts_slices (a o : Nat) (c : Bool) : (s.alarmOccur a o c).hosts.slices = s.hosts.slices := by
  unfold State.alarmOccur; repeat' (first | rfl | (simp; done) | split | (simp only []; split))
@[simp] theorem State.journalAlarm_hosts_slices : (s.journalAlarm).hosts.slices = s.hosts.slices := by
  unfold State.journalAlarm; repeat' (first | rfl | (simp; done) | split | (simp only []; split))
@[simp] theorem State.commit_hosts_slices (r : JReq) : (s.commit r).hosts.slices = s.hosts.slices := by
  unfold State.commit; repeat' (first | rfl | (simp; done) | split | (simp only []; split))
@[simp] theorem State.commitNow_hosts_slices (r : JReq) : (s.commitNow r).hosts.slices = s.hosts.slices := by
  unfold State.commitNow; repeat' (first | rfl | (simp; done) | split | (simp only []; split))
@[simp] theorem State.startCmd_hosts_slices (c : Cmd) (op : Nat) : (s.startCmd c op).hosts.slices = s.hosts.slices := by
  unfold State.startCmd; repeat' (first | rfl | split)
@[simp] theorem State.endCmd_hosts_slices (c : Cmd) (op : Nat) : (s.endCmd c op).hosts.slices = s.hosts.slices := by
  unfold State.endCmd; repeat' (first | rfl | split)
@[simp] theorem State.markCommitted_hosts_slices (c : Cmd) (op : Nat) : (s.markCommitted c op).hosts.slices = s.hosts.slices := by
  unfold State.markCommitted; repeat' (first | rfl | split)
@[simp] theorem State.markBegun_hosts_slices (c : Cmd) (op : Nat) : (s.markBegun c op).hosts.slices = s.hosts.slices := by
  unfold State.markBegun; repeat' (first | rfl | split)

@[simp] theorem State.modHp_hosts_qps (h : Nat) (f : HostPort → HostPort) : (s.modHp h f).hosts.qps = s.hosts.qps := by
  unfold State.modHp State.setHp; split <;> rfl
@[simp] theorem State.alarmOccur_hosts_qps (a o : Nat) (c : Bool) : (s.alarmOccur a o c).hosts.qps = s.hosts.qps := by
  unfold State.alarmOccur; repeat' (first | rfl | (simp; done) | split | (simp only []; split))
@[simp] theorem State.journalAlarm_hosts_qps : (s.journalAlarm).hosts.qps = s.hosts.qps := by
  unfold State.journalAlarm; repeat' (first | rfl | (simp; done) | split | (simp only []; split))
@[simp] theorem State.commit_hosts_qps (r : JReq) : (s.commit r).hosts.qps = s.hosts.qps := by
  unfold State.commit; repeat' (first | rfl | (simp; done) | split | (simp only []; split))
@[simp] theorem State.commitNow_hosts_qps (r : JReq) : (s.commitNow r).hosts.qps = s.hosts.qps := by
  unfold State.commitNow; repeat' (first | rfl | (simp; done) | split | (simp only []; split))
@[simp] theorem State.startCmd_hosts_qps (c : Cmd) (op : Nat) : (s.startCmd c op).hosts.qps = s.hosts.qps := by
  unfold State.startCmd; repeat' (first | rfl | split)
@[simp] theorem State.endCmd_hosts_qps (c : Cmd) (op : Nat) : (s.endCmd c op).hosts.qps = s.hosts.qps := by
  unfold State.endCmd; repeat' (first | rfl | split)
@[simp] theorem State.markCommitted_hosts_qps (c : Cmd) (op : Nat) : (s.markCommitted c op).hosts.qps = s.hosts.qps := by
  unfold State.markCommitted; repeat' (first | rfl | split)
@[simp] theorem State.markBegun_hosts_qps (c : Cmd) (op : Nat) : (s.markBegun c op).hosts.qps = s.hosts.qps := by
  unfold State.markBegun; repeat' (first | rfl | split)

@[simp] theorem State.modHp_hosts_images (h : Nat) (f : HostPort → HostPort) : (s.modHp h f).hosts.images = s.hosts.images := by
  unfold State.modHp State.setHp; split <;> rfl
@[simp] theorem State.alarmOccur_hosts_images (a o : Nat) (c : Bool) : (s.alarmOccur a o c).hosts.images = s.hosts.images := by
  unfold State.alarmOccur; repeat' (first | rfl | (simp; done) | split | (simp only []; split))
@[simp] theorem State.journalAlarm_hosts_images : (s.journalAlarm).hosts.images = s.hosts.images := by
  unfold State.journalAlarm; repeat' (first | rfl | (simp; done) | split | (simp only []; split))
@[simp] theorem State.commit_hosts_images (r : JReq) : (s.commit r).hosts.images = s.hosts.images := by
  unfold State.commit; repeat' (first | rfl | (simp; done) | split | (simp only []; split))
@[simp] theorem State.commitNow_hosts_images (r : JReq) : (s.commitNow r).hosts.images = s.hosts.images := by
  unfold State.commitNow; repeat' (first | rfl | (simp; done) | split | (simp only []; split))
@[simp] theorem State.startCmd_hosts_images (c : Cmd) (op : Nat) : (s.startCmd c op).hosts.images = s.hosts.images := by
  unfold State.startCmd; repeat' (first | rfl | split)
@[simp] theorem State.endCmd_hosts_images (c : Cmd) (op : Nat) : (s.endCmd c op).hosts.images = s.hosts.images := by
  unfold State.endCmd; repeat' (first | rfl | split)
@[simp] theorem State.markCommitted_hosts_images (c : Cmd) (op : Nat) : (s.markCommitted c op).hosts.images = s.hosts.images := by
  unfold State.markCommitted; repeat' (first | rfl | split)
@[simp] theorem State.markBegun_hosts_images (c : Cmd) (op : Nat) : (s.markBegun c op).hosts.images = s.hosts.images := by
  unfold State.markBegun; repeat' (first | rfl | split)

@[simp] theorem State.modHp_hosts_running (h : Nat) (f : HostPort → HostPort) : (s.modHp h f).hosts.running = s.hosts.running := by
  unfold State.modHp State.setHp; split <;> rfl
@[simp] theorem State.alarmOccur_hosts_running (a o : Nat) (c : Bool) : (s.alarmOccur a o c).hosts.running = s.hosts.running := by
  unfold State.alarmOccur; repeat' (first | rfl | (simp; done) | split | (simp only []; split))
@[simp] theorem State.journalAlarm_hosts_running : (s.journalAlarm).hosts.running = s.hosts.running := by
  unfold State.journalAlarm; repeat' (first | rfl | (simp; done) | split | (simp only []; split))
@[simp] theorem State.commit_hosts_running (r : JReq) : (s.commit r).hosts.running = s.hosts.running := by
  unfold State.commit; repeat' (first | rfl | (simp; done) | split | (simp only []; split))
@[simp] theorem State.commitNow_hosts_running (r : JReq) : (s.commitNow r).hosts.running = s.hosts.running := by
  unfold State.commitNow; repeat' (first | rfl | (simp; done) | split | (simp only []; split))

@[simp] theorem State.startCmd_hosts_hp0 (c : Cmd) (op : Nat) : (s.startCmd c op).hosts.hp0 = s.hosts.hp0 := by
  unfold State.startCmd; repeat' (first | rfl | split)
@[simp] theorem State.endCmd_hosts_hp0 (c : Cmd) (op : Nat) : (s.endCmd c op).hosts.hp0 = s.hosts.hp0 := by
  unfold State.endCmd; repeat' (first | rfl | split)
@[simp] theorem State.markCommitted_hosts_hp0 (c : Cmd) (op : Nat) : (s.markCommitted c op).hosts.hp0 = s.hosts.hp0 := by
  unfold State.markCommitted; repeat' (first | rfl | split)
@[simp] theorem State.markBegun_hosts_hp0 (c : Cmd) (op : Nat) : (s.markBegun c op).hosts.hp0 = s.hosts.hp0 := by
  unfold State.markBegun; repeat' (first | rfl | split)
@[simp] theorem State.startCmd_hosts_hp1 (c : Cmd) (op : Nat) : (s.startCmd c op).hosts.hp1 = s.hosts.hp1 := by
  unfold State.startCmd; repeat' (first | rfl | split)
@[simp] theorem State.endCmd_hosts_hp1 (c : Cmd) (op : Nat) : (s.endCmd c op).hosts.hp1 = s.hosts.hp1 := by
  unfold State.endCmd; repeat' (first | rfl | split)
@[simp] theorem State.markCommitted_hosts_hp1 (c : Cmd) (op : Nat) : (s.markCommitted c op).hosts.hp1 = s.hosts.hp1 := by
  unfold State.markCommitted; repeat' (first | rfl | split)
@[simp] theorem State.markBegun_hosts_hp1 (c : Cmd) (op : Nat) : (s.markBegun c op).hosts.hp1 = s.hosts.hp1 := by
  unfold State.markBegun; repeat' (first | rfl | split)

/-! ## Commands dispatched and not completed (R248) -/

theorem Outst.is_started (c : Cmd) (op : Nat) :
    ({ route := c.route, opcode := op, tag := c.tag, gen := c.gen, irq := c.irq } : Outst).is c op = true := by
  simp [Outst.is]

@[simp] theorem State.isRunning_startCmd (c : Cmd) (op : Nat) : (s.startCmd c op).isRunning c op = true := by
  unfold State.startCmd
  split
  · assumption
  · simp [State.isRunning, Outst.is]

theorem State.isRunning_congr {s t : State} (h : t.hosts.running = s.hosts.running) (c : Cmd) (op : Nat) :
    t.isRunning c op = s.isRunning c op := by
  simp [State.isRunning, h]

@[simp] theorem State.isRunning_commitNow (r : JReq) (c : Cmd) (op : Nat) : (s.commitNow r).isRunning c op = s.isRunning c op :=
  State.isRunning_congr (by simp) c op

@[simp] theorem State.isRunning_markCommitted (d c : Cmd) (o op : Nat) : (s.markCommitted d o).isRunning c op = s.isRunning c op := by
  simp only [State.isRunning, State.markCommitted, State.modHosts, List.any_map]
  congr 1; funext x
  simp only [Function.comp]
  split <;> simp [Outst.is]

@[simp] theorem State.isRunning_markBegun (d c : Cmd) (o op : Nat) : (s.markBegun d o).isRunning c op = s.isRunning c op := by
  simp only [State.isRunning, State.markBegun, State.modHosts, List.any_map]
  congr 1; funext x
  simp only [Function.comp]
  split <;> simp [Outst.is]

@[simp] theorem State.isRunning_setPort (p : Nat) (v : Port) (k : Cmd) (op : Nat) : (s.setPort p v).isRunning k op = s.isRunning k op :=
  State.isRunning_congr (by first | rfl | simp) k op
@[simp] theorem State.isRunning_modPort (p : Nat) (f : Port → Port) (k : Cmd) (op : Nat) : (s.modPort p f).isRunning k op = s.isRunning k op :=
  State.isRunning_congr (by first | rfl | simp) k op
@[simp] theorem State.isRunning_setTunnel (p : Nat) (v : Tunnel) (k : Cmd) (op : Nat) : (s.setTunnel p v).isRunning k op = s.isRunning k op :=
  State.isRunning_congr (by first | rfl | simp) k op
@[simp] theorem State.isRunning_modTunnel (p : Nat) (f : Tunnel → Tunnel) (k : Cmd) (op : Nat) : (s.modTunnel p f).isRunning k op = s.isRunning k op :=
  State.isRunning_congr (by first | rfl | simp) k op
@[simp] theorem State.isRunning_modMarl (f : Marl → Marl) (k : Cmd) (op : Nat) : (s.modMarl f).isRunning k op = s.isRunning k op :=
  State.isRunning_congr (by first | rfl | simp) k op
@[simp] theorem State.isRunning_modXfer (f : Xfer → Xfer) (k : Cmd) (op : Nat) : (s.modXfer f).isRunning k op = s.isRunning k op :=
  State.isRunning_congr (by first | rfl | simp) k op
@[simp] theorem State.isRunning_modCluster (f : Cluster → Cluster) (k : Cmd) (op : Nat) : (s.modCluster f).isRunning k op = s.isRunning k op :=
  State.isRunning_congr (by first | rfl | simp) k op
@[simp] theorem State.isRunning_modPower (f : Power → Power) (k : Cmd) (op : Nat) : (s.modPower f).isRunning k op = s.isRunning k op :=
  State.isRunning_congr (by first | rfl | simp) k op
@[simp] theorem State.isRunning_modMem (f : Mem → Mem) (k : Cmd) (op : Nat) : (s.modMem f).isRunning k op = s.isRunning k op :=
  State.isRunning_congr (by first | rfl | simp) k op
@[simp] theorem State.isRunning_modSilt (f : Silt → Silt) (k : Cmd) (op : Nat) : (s.modSilt f).isRunning k op = s.isRunning k op :=
  State.isRunning_congr (by first | rfl | simp) k op
@[simp] theorem State.isRunning_modBoot (f : Boot → Boot) (k : Cmd) (op : Nat) : (s.modBoot f).isRunning k op = s.isRunning k op :=
  State.isRunning_congr (by first | rfl | simp) k op
@[simp] theorem State.isRunning_modEdge (f : Edge → Edge) (k : Cmd) (op : Nat) : (s.modEdge f).isRunning k op = s.isRunning k op :=
  State.isRunning_congr (by first | rfl | simp) k op
@[simp] theorem State.isRunning_modMgmt (f : Mgmt → Mgmt) (k : Cmd) (op : Nat) : (s.modMgmt f).isRunning k op = s.isRunning k op :=
  State.isRunning_congr (by first | rfl | simp) k op
@[simp] theorem State.isRunning_modClock (f : Clock → Clock) (k : Cmd) (op : Nat) : (s.modClock f).isRunning k op = s.isRunning k op :=
  State.isRunning_congr (by first | rfl | simp) k op
@[simp] theorem State.isRunning_setSlice (h sl : Nat) (v : Slice) (k : Cmd) (op : Nat) : (s.setSlice h sl v).isRunning k op = s.isRunning k op :=
  State.isRunning_congr (by first | rfl | simp) k op
@[simp] theorem State.isRunning_modSlice (h sl : Nat) (f : Slice → Slice) (k : Cmd) (op : Nat) : (s.modSlice h sl f).isRunning k op = s.isRunning k op :=
  State.isRunning_congr (by first | rfl | simp) k op
@[simp] theorem State.isRunning_setQp (h sl q : Nat) (v : Qp) (k : Cmd) (op : Nat) : (s.setQp h sl q v).isRunning k op = s.isRunning k op :=
  State.isRunning_congr (by first | rfl | simp) k op
@[simp] theorem State.isRunning_modQp (h sl q : Nat) (f : Qp → Qp) (k : Cmd) (op : Nat) : (s.modQp h sl q f).isRunning k op = s.isRunning k op :=
  State.isRunning_congr (by first | rfl | simp) k op
@[simp] theorem State.isRunning_setRoot (r : Nat) (v : Root) (k : Cmd) (op : Nat) : (s.setRoot r v).isRunning k op = s.isRunning k op :=
  State.isRunning_congr (by first | rfl | simp) k op
@[simp] theorem State.isRunning_modRoot (r : Nat) (f : Root → Root) (k : Cmd) (op : Nat) : (s.modRoot r f).isRunning k op = s.isRunning k op :=
  State.isRunning_congr (by first | rfl | simp) k op
@[simp] theorem State.isRunning_setEp (r : Nat) (v : Ep) (k : Cmd) (op : Nat) : (s.setEp r v).isRunning k op = s.isRunning k op :=
  State.isRunning_congr (by first | rfl | simp) k op
@[simp] theorem State.isRunning_modEp (r : Nat) (f : Ep → Ep) (k : Cmd) (op : Nat) : (s.modEp r f).isRunning k op = s.isRunning k op :=
  State.isRunning_congr (by first | rfl | simp) k op
@[simp] theorem State.isRunning_setDslot (r : Nat) (v : Slot) (k : Cmd) (op : Nat) : (s.setDslot r v).isRunning k op = s.isRunning k op :=
  State.isRunning_congr (by first | rfl | simp) k op
@[simp] theorem State.isRunning_setFn (r : Nat) (v : Fn) (k : Cmd) (op : Nat) : (s.setFn r v).isRunning k op = s.isRunning k op :=
  State.isRunning_congr (by first | rfl | simp) k op
@[simp] theorem State.isRunning_modFn (r : Nat) (f : Fn → Fn) (k : Cmd) (op : Nat) : (s.modFn r f).isRunning k op = s.isRunning k op :=
  State.isRunning_congr (by first | rfl | simp) k op
@[simp] theorem State.isRunning_setCh (r : Nat) (v : Ch) (k : Cmd) (op : Nat) : (s.setCh r v).isRunning k op = s.isRunning k op :=
  State.isRunning_congr (by first | rfl | simp) k op
@[simp] theorem State.isRunning_modCh (r : Nat) (f : Ch → Ch) (k : Cmd) (op : Nat) : (s.modCh r f).isRunning k op = s.isRunning k op :=
  State.isRunning_congr (by first | rfl | simp) k op
@[simp] theorem State.isRunning_modCore (c : Nat) (f : Core → Core) (k : Cmd) (op : Nat) : (s.modCore c f).isRunning k op = s.isRunning k op :=
  State.isRunning_congr (by first | rfl | simp) k op
@[simp] theorem State.isRunning_setReady (p : Nat) (v : ReadyList) (k : Cmd) (op : Nat) : (s.setReady p v).isRunning k op = s.isRunning k op :=
  State.isRunning_congr (by first | rfl | simp) k op
@[simp] theorem State.isRunning_setSrc (n : Nat) (v : Src) (k : Cmd) (op : Nat) : (s.setSrc n v).isRunning k op = s.isRunning k op :=
  State.isRunning_congr (by first | rfl | simp) k op
@[simp] theorem State.isRunning_modRegion (r : Nat) (f : Region → Region) (k : Cmd) (op : Nat) : (s.modRegion r f).isRunning k op = s.isRunning k op :=
  State.isRunning_congr (by first | rfl | simp) k op
@[simp] theorem State.isRunning_setAlarm (a : Nat) (v : Alarm) (k : Cmd) (op : Nat) : (s.setAlarm a v).isRunning k op = s.isRunning k op :=
  State.isRunning_congr (by first | rfl | simp) k op
@[simp] theorem State.isRunning_modNet (n : Nat) (f : NetPort → NetPort) (k : Cmd) (op : Nat) : (s.modNet n f).isRunning k op = s.isRunning k op :=
  State.isRunning_congr (by first | rfl | simp) k op
@[simp] theorem State.isRunning_modDpi (n : Nat) (f : Dpi → Dpi) (k : Cmd) (op : Nat) : (s.modDpi n f).isRunning k op = s.isRunning k op :=
  State.isRunning_congr (by first | rfl | simp) k op
@[simp] theorem State.isRunning_event (n : Nat) (k : Cmd) (op : Nat) : (s.event n).isRunning k op = s.isRunning k op :=
  State.isRunning_congr (by first | rfl | simp) k op
@[simp] theorem State.isRunning_trace (a g o : Nat) (k : Cmd) (op : Nat) : (s.trace a g o).isRunning k op = s.isRunning k op :=
  State.isRunning_congr (by first | rfl | simp) k op
@[simp] theorem State.isRunning_mgmtNotice (st : Status) (r : List Byte) (k : Cmd) (op : Nat) : (s.mgmtNotice st r).isRunning k op = s.isRunning k op :=
  State.isRunning_congr (by first | rfl | simp) k op
@[simp] theorem State.isRunning_alarmOccur (a o : Nat) (b : Bool) (k : Cmd) (op : Nat) : (s.alarmOccur a o b).isRunning k op = s.isRunning k op :=
  State.isRunning_congr (by first | rfl | simp) k op
@[simp] theorem State.isRunning_alarmEnd (a : Nat) (k : Cmd) (op : Nat) : (s.alarmEnd a).isRunning k op = s.isRunning k op :=
  State.isRunning_congr (by first | rfl | simp) k op
@[simp] theorem State.isRunning_send (o : Out) (k : Cmd) (op : Nat) : (s.send o).isRunning k op = s.isRunning k op :=
  State.isRunning_congr (by first | rfl | simp) k op
@[simp] theorem State.isRunning_tickFree (k : Cmd) (op : Nat) : (s.tickFree).isRunning k op = s.isRunning k op :=
  State.isRunning_congr (by first | rfl | simp) k op

/-! ## A command that may be carried out (R263) -/

variable (i : CmdInfo) (c : Cmd) (k : Checks)

@[simp] theorem State.startCmd_slice (op h sl : Nat) : (s.startCmd c op).slice h sl = s.slice h sl := by
  unfold State.slice; rw [State.startCmd_hosts_slices]

theorem firstFailure_startCmd (op : Nat) : firstFailure i c (s.startCmd c op) k = firstFailure i c s k := by
  have g : (s.startCmd c op).genOk c = s.genOk c := by
    unfold State.genOk
    split
    · rw [State.startCmd_slice]
    · rfl
  unfold firstFailure
  rw [g, State.startCmd_lock]

theorem journalRoom_startCmd (op : Nat) (b : Bool) : (s.startCmd c op).journalRoom b = s.journalRoom b := by
  simp [State.journalRoom, State.journalOpen, State.unreleased, State.sinkNexts]

/-- R19, R248: being dispatched changes nothing of what a command waits for. -/
theorem State.waits_startCmd : (s.startCmd c i.opcode).waits i c = s.waits i c := by
  have a : (s.startCmd c i.opcode).waitsCtrl i c = s.waitsCtrl i c := by
    simp [State.waitsCtrl, State.ctrlStopped]
  have b : (s.startCmd c i.opcode).waitsTurn c i.opcode = s.waitsTurn c i.opcode := by
    unfold State.startCmd
    split
    · rfl
    · next h =>
      have w : ∀ (l : List Outst) (x : Outst), x.is c i.opcode = true → l.any (·.is c i.opcode) = false →
          (l ++ [x]).takeWhile (fun o => !o.is c i.opcode) = l.takeWhile (fun o => !o.is c i.opcode) := by
        intro l x hx
        induction l with
        | nil => simp [hx]
        | cons y l ih => intro hl; simp only [List.any_cons, Bool.or_eq_false_iff] at hl; simp [hl.1, ih hl.2]
      simp only [State.waitsTurn, State.modHosts]
      rw [w _ _ (by simp [Outst.is]) (by simpa [State.isRunning] using h)]
  simp [State.waits, a, b]

/-- R263: a command that passes the checks and may commit its entry has its effect, in the state that dispatch and journal leave. -/
theorem State.command_of_mayCarry {s : State} {i : CmdInfo} {c : Cmd} {k : Checks} (h : s.mayCarry i c k = true) (e : State → State) :
    s.command i c k e = e (s.carried i c k) := by
  simp only [State.mayCarry, Bool.and_eq_true] at h
  have hf : firstFailure i c s k = none := by simpa using h.1.2
  have hw : s.waits i c = false := by simpa using h.1.1
  unfold State.command State.carried
  simp only [State.waits_startCmd, hw, firstFailure_startCmd, hf]
  cases hj : (i.journal && k.journalled)
  · simp
  · have h2 := h.2
    simp only [hj, Bool.not_true, Bool.false_or, Bool.and_eq_true] at h2
    simp only [journalRoom_startCmd, h2.2, State.startCmd_power, Bool.not_true, Bool.false_eq_true, if_false, if_true]
    have hh : (s.power.hold && !c.late) = false := by
      have := h2.1
      cases hp : s.power.hold <;> cases hl : c.late <;> simp_all
    simp [hh]

@[simp] theorem State.carried_isRunning : (s.carried i c k).isRunning c i.opcode = true := by
  unfold State.carried; split <;> simp

@[simp] theorem State.carried_hosts_slices : (s.carried i c k).hosts.slices = s.hosts.slices := by
  unfold State.carried; split <;> simp
@[simp] theorem State.carried_hosts_qps : (s.carried i c k).hosts.qps = s.hosts.qps := by
  unfold State.carried; split <;> simp
@[simp] theorem State.carried_hosts_images : (s.carried i c k).hosts.images = s.hosts.images := by
  unfold State.carried; split <;> simp

@[simp] theorem State.carried_clock : (s.carried i c k).clock = s.clock := by
  unfold State.carried; split <;> simp
@[simp] theorem State.carried_ports : (s.carried i c k).ports = s.ports := by
  unfold State.carried; split <;> simp
@[simp] theorem State.carried_tunnels : (s.carried i c k).tunnels = s.tunnels := by
  unfold State.carried; split <;> simp
@[simp] theorem State.carried_plan : (s.carried i c k).plan = s.plan := by
  unfold State.carried; split <;> simp
@[simp] theorem State.carried_marl : (s.carried i c k).marl = s.marl := by
  unfold State.carried; split <;> simp
@[simp] theorem State.carried_xfer : (s.carried i c k).xfer = s.xfer := by
  unfold State.carried; split <;> simp
@[simp] theorem State.carried_power (st : s.power.phase = .steady) (aw : s.power.sleep = 0) : (s.carried i c k).power = s.power := by
  unfold State.carried; split <;> simp [st, aw]
@[simp] theorem State.carried_power_on : (s.carried i c k).power.on = s.power.on := by
  unfold State.carried; split <;> simp
@[simp] theorem State.carried_power_seqs : (s.carried i c k).power.seqs = s.power.seqs := by
  unfold State.carried; split <;> simp
@[simp] theorem State.carried_power_hold : (s.carried i c k).power.hold = s.power.hold := by
  unfold State.carried; split <;> simp
@[simp] theorem State.carried_power_levels : (s.carried i c k).power.levels = s.power.levels := by
  unfold State.carried; split <;> simp
@[simp] theorem State.carried_mem : (s.carried i c k).mem = s.mem := by
  unfold State.carried; split <;> simp
@[simp] theorem State.carried_boot : (s.carried i c k).boot = s.boot := by
  unfold State.carried; split <;> simp
@[simp] theorem State.carried_edge : (s.carried i c k).edge = s.edge := by
  unfold State.carried; split <;> simp
@[simp] theorem State.carried_lock : (s.carried i c k).lock = s.lock := by
  unfold State.carried; split <;> simp
@[simp] theorem State.carried_siteId : (s.carried i c k).siteId = s.siteId := by
  unfold State.carried; split <;> simp
@[simp] theorem State.carried_out : (s.carried i c k).out = s.out := by
  unfold State.carried; split <;> simp
@[simp] theorem State.carried_freeCtr : (s.carried i c k).freeCtr = s.freeCtr := by
  unfold State.carried; split <;> simp
@[simp] theorem State.carried_pending : (s.carried i c k).pending = s.pending := by
  unfold State.carried; split <;> simp
@[simp] theorem State.carried_port (p : Nat) : (s.carried i c k).port p = s.port p := by
  simp [State.port]
@[simp] theorem State.carried_tunnel (p : Nat) : (s.carried i c k).tunnel p = s.tunnel p := by
  simp [State.tunnel]
@[simp] theorem State.carried_root (p : Nat) : (s.carried i c k).root p = s.root p := by
  simp [State.root]
@[simp] theorem State.carried_ep (p : Nat) : (s.carried i c k).ep p = s.ep p := by
  simp [State.ep]
@[simp] theorem State.carried_fn (p : Nat) : (s.carried i c k).fn p = s.fn p := by
  simp [State.fn]
@[simp] theorem State.carried_ch (p : Nat) : (s.carried i c k).ch p = s.ch p := by
  simp [State.ch]
@[simp] theorem State.carried_dslot (p : Nat) : (s.carried i c k).dslot p = s.dslot p := by
  simp [State.dslot]
@[simp] theorem State.carried_region (p : Nat) : (s.carried i c k).region p = s.region p := by
  simp [State.region]
@[simp] theorem State.carried_netPort (p : Nat) : (s.carried i c k).netPort p = s.netPort p := by
  simp [State.netPort]
@[simp] theorem State.carried_dpi (p : Nat) : (s.carried i c k).dpi p = s.dpi p := by
  simp [State.dpi]
@[simp] theorem State.carried_slice (h sl : Nat) : (s.carried i c k).slice h sl = s.slice h sl := by
  simp [State.slice]
@[simp] theorem State.carried_qp (h sl q : Nat) : (s.carried i c k).qp h sl q = s.qp h sl q := by
  simp [State.qp]

/-- `ok` of a command that is still outstanding is its delivery. -/
theorem State.ok_of_isRunning {s : State} {c : Cmd} {op : Nat} (h : s.isRunning c op = true) (r : List Byte) :
    s.ok c op r = (s.endCmd c op).deliver c .ok 0 r := by
  simp [State.ok, State.complete, h]

/-! ## Reading a table of the state after a write -/

@[simp] theorem State.port_setPort (i j : Nat) (v : Port) : (s.setPort i v).port j = if j = i then v else s.port j := by
  simp [State.port, State.setPort]
@[simp] theorem State.port_modPort (i j : Nat) (f : Port → Port) : (s.modPort i f).port j = if j = i then f (s.port i) else s.port j := by
  simp [State.modPort]
@[simp] theorem State.tunnel_setTunnel (i j : Nat) (v : Tunnel) : (s.setTunnel i v).tunnel j = if j = i then v else s.tunnel j := by
  simp [State.tunnel, State.setTunnel]
@[simp] theorem State.tunnel_modTunnel (i j : Nat) (f : Tunnel → Tunnel) : (s.modTunnel i f).tunnel j = if j = i then f (s.tunnel i) else s.tunnel j := by
  simp [State.modTunnel]
@[simp] theorem State.root_setRoot (i j : Nat) (v : Root) : (s.setRoot i v).root j = if j = i then v else s.root j := by
  simp [State.root, State.setRoot, State.modXfer]
@[simp] theorem State.root_modRoot (i j : Nat) (f : Root → Root) : (s.modRoot i f).root j = if j = i then f (s.root i) else s.root j := by
  simp [State.modRoot]
@[simp] theorem State.ep_setEp (i j : Nat) (v : Ep) : (s.setEp i v).ep j = if j = i then v else s.ep j := by
  simp [State.ep, State.setEp, State.modXfer]
@[simp] theorem State.ep_modEp (i j : Nat) (f : Ep → Ep) : (s.modEp i f).ep j = if j = i then f (s.ep i) else s.ep j := by
  simp [State.modEp]
@[simp] theorem State.fn_setFn (i j : Nat) (v : Fn) : (s.setFn i v).fn j = if j = i then v else s.fn j := by
  simp [State.fn, State.setFn, State.modXfer]
@[simp] theorem State.fn_modFn (i j : Nat) (f : Fn → Fn) : (s.modFn i f).fn j = if j = i then f (s.fn i) else s.fn j := by
  simp [State.modFn]
@[simp] theorem State.ch_setCh (i j : Nat) (v : Ch) : (s.setCh i v).ch j = if j = i then v else s.ch j := by
  simp [State.ch, State.setCh, State.modXfer]
@[simp] theorem State.ch_modCh (i j : Nat) (f : Ch → Ch) : (s.modCh i f).ch j = if j = i then f (s.ch i) else s.ch j := by
  simp [State.modCh]
@[simp] theorem State.dslot_setDslot (i j : Nat) (v : Slot) : (s.setDslot i v).dslot j = if j = i then v else s.dslot j := by
  simp [State.dslot, State.setDslot, State.modXfer]
@[simp] theorem State.netPort_modNet (i j : Nat) (f : NetPort → NetPort) : (s.modNet i f).netPort j = if j = i then f (s.netPort i) else s.netPort j := by
  simp [State.netPort, State.modNet, State.modEdge]
@[simp] theorem State.dpi_modDpi (i j : Nat) (f : Dpi → Dpi) : (s.modDpi i f).dpi j = if j = i then f (s.dpi i) else s.dpi j := by
  simp [State.dpi, State.modDpi, State.modEdge]
@[simp] theorem State.alarm_setAlarm (i j : Nat) (v : Alarm) : (s.setAlarm i v).alarm j = if j = i then v else s.alarm j := by
  simp [State.alarm, State.setAlarm, State.modSilt]
@[simp] theorem State.src_setSrc (i j : Nat) (v : Src) : (s.setSrc i v).src j = if j = i then v else s.src j := by
  simp [State.src, State.setSrc, State.modCluster]

/-- Slices of the two host ports have different places in the table. -/
theorem sliceKey_inj {h h' sl sl' : Nat} (a : sl < 256) (b : sl' < 256) (e : sliceKey h sl = sliceKey h' sl') : h = h' ∧ sl = sl' := by
  unfold sliceKey at e; omega

@[simp] theorem State.slice_setSlice_self (h sl : Nat) (v : Slice) : (s.setSlice h sl v).slice h sl = v := by
  simp [State.slice, State.setSlice, State.modHosts]
theorem State.slice_setSlice_ne (h sl h' sl' : Nat) (v : Slice) (n : sliceKey h' sl' ≠ sliceKey h sl) :
    (s.setSlice h sl v).slice h' sl' = s.slice h' sl' := by
  simp [State.slice, State.setSlice, State.modHosts, n]
@[simp] theorem State.slice_modSlice_self (h sl : Nat) (f : Slice → Slice) : (s.modSlice h sl f).slice h sl = f (s.slice h sl) := by
  simp [State.modSlice]
@[simp] theorem State.qp_setQp_self (h sl q : Nat) (v : Qp) : (s.setQp h sl q v).qp h sl q = v := by
  simp [State.qp, State.setQp, State.modHosts]
@[simp] theorem State.qp_modQp_self (h sl q : Nat) (f : Qp → Qp) : (s.modQp h sl q f).qp h sl q = f (s.qp h sl q) := by
  simp [State.modQp]

end Sys2Proof.Machine
end

