-- ==== Sys2Proof/WellFormed.lean ====
section
/-! DEFINITION. Sys2Proof/WellFormed.lean: the commands whose operands have the sizes the spec gives them. The meanings are total on all operands; a sender sends well-formed commands only. -/

namespace Sys2Proof

open Sys2Proof.Machine

/-- At most `n` bytes. -/
def sized (n : Nat) (p : List Byte) : Bool := decide (p.length ≤ n)

/-- R238, R246, R250: the payload of a chain has at most 32 times 56 bytes, that of a mailbox message at most 56; a command is not sent as one that waited for the journal. -/
def Machine.Cmd.wf (c : Cmd) : Bool :=
  !c.late && match c.route with
    | .mbx _ _ => sized 56 c.payload
    | .mgmt => sized 56 c.payload
    | _ => sized 1792 c.payload

/-- R239: a read of a queue gives at most 33 entries of 64 bytes. -/
def entriesOk (l : List Entry) : Bool := decide (l.length ≤ 33) && l.all fun e => decide (e.length = 64)

/-- R398: positions of a page's codeword of 1112 bits. -/
def positions (l : List Nat) : Bool := l.all fun x => decide (x < 1112)

/-- Table 1-3: agent IDs of islands. -/
def agentsOk (l : List (Nat × Nat)) : Bool := l.all fun e => decide (e.1 < 28)

/-- R98: tunnel numbers. -/
def tidsOk (l : List (Nat × Nat)) : Bool := l.all fun e => decide (e.1 < 8192)

/-- Port numbers. -/
def portsOk (l : List (Nat × Nat)) : Bool := l.all fun e => decide (e.1 < 12)

/-- Every operand has a size and a range that the spec allows. -/
def Instr.wf (i : Instr) : Bool :=
  match i with
  | .devIdentify c => c.wf
  | .devConfigLock c => c.wf
  | .marlPoolCfg c => c.wf
  | .marlQueueCfg c => c.wf
  | .marlAgeCfg c => c.wf
  | .counterRead c => c.wf
  | .snapshot c => c.wf
  | .tunCreate c => c.wf
  | .tunDestroy c => c.wf
  | .tunModify c => c.wf
  | .tunQuery c => c.wf
  | .tunAdopt c => c.wf
  | .tunAllotCfg c => c.wf
  | .portPdCfg c => c.wf
  | .portPdSwap c => c.wf
  | .portPdReset c => c.wf
  | .portPdQuery c => c.wf
  | .portLinkCtrl c => c.wf
  | .portNotifyBind c => c.wf
  | .portLinkCfg c => c.wf
  | .portFallbackCfg c => c.wf
  | .portJaythRetry c => c.wf
  | .usbRootBind c => c.wf
  | .usbRootCtrl c => c.wf
  | .usbSlotAlloc c => c.wf
  | .usbSlotFree c => c.wf
  | .usbEpConfig c => c.wf
  | .usbEpReset c => c.wf
  | .usbEpStop c => c.wf
  | .usbEpSetDeq c => c.wf
  | .usbRootQuery c => c.wf
  | .usbDevBind c => c.wf
  | .usbDevUnbind c => c.wf
  | .usbDevCtrl c => c.wf
  | .dmaChAlloc c => c.wf
  | .dmaChConfig c => c.wf
  | .dmaChCtrl c => c.wf
  | .dmaChFree c => c.wf
  | .dmaTimerCfg c => c.wf
  | .dmaChQuery c => c.wf
  | .qpCreate c => c.wf
  | .qpModify c => c.wf
  | .qpReset c => c.wf
  | .qpDestroy c => c.wf
  | .qpQuery c => c.wf
  | .sliceEnable c => c.wf
  | .sliceReset c => c.wf
  | .sliceDisable c => c.wf
  | .sliceFreeze c => c.wf
  | .sliceSave c => c.wf
  | .sliceRestore c => c.wf
  | .sliceDirtyLog c => c.wf
  | .sliceQuery c => c.wf
  | .pmLevel c => c.wf
  | .pmDomain c => c.wf
  | .pmWakeCfg c => c.wf
  | .pmQuery c => c.wf
  | .jrnlRead c => c.wf
  | .siltDrainBind c => c.wf
  | .traceCfg c => c.wf
  | .alarmRead c => c.wf
  | .alarmAck c => c.wf
  | .alarmCfg c => c.wf
  | .jrnlPersistCfg c => c.wf
  | .fwStage c => c.wf
  | .fwActivate c => c.wf
  | .imageWrite c => c.wf
  | .imageSelect c => c.wf
  | .marlBankRetire c => c.wf
  | .marlBankReadmit c => c.wf
  | .memEccCfg c => c.wf
  | .memSoftRepair c => c.wf
  | .fuseProgram c => c.wf
  | .memFlipMask c => c.wf
  | .loamHandover c => c.wf
  | .tbSet c => c.wf
  | .tbSlew c => c.wf
  | .refclkSelect c => c.wf
  | .tbQuery c => c.wf
  | .netPortCfg c => c.wf
  | .ptpCfg c => c.wf
  | .dpiCfg c => c.wf
  | .dpiQuery c => c.wf
  | .dpaltBind c => c.wf
  | .dpaltUnbind c => c.wf
  | .mbxGo _ _ => true
  | .mbxDoneClear _ _ => true
  | .mbxRefusedClear _ _ => true
  | .sqDb _ _ _ _ => true
  | .cqDb _ _ _ _ => true
  | .sliceEvtClear _ _ _ => true
  | .usbEpDoorbell _ _ _ _ => true
  | .dmaChDoorbell _ _ _ => true
  | .dmaProgramWrite _ _ _ bytes => sized 1024 bytes
  | .pmModeReq _ _ _ => true
  | .pmModeRefusedClear => true
  | .mgmtGo => true
  | .mgmtDoneClear => true
  | .mgmtRefusedClear => true
  | .mgmtNtcPop => true
  | .jrnlRingCi _ _ => true
  | .traceRingCi _ _ => true
  | .jrnlMgmtCi _ => true
  | .traceMgmtCi _ => true
  | .glbSiteIdWrite _ _ => true
  | .wrRefusedClear _ => true
  | .shlPeakClrLists => true
  | .shlPeakClrDelay => true
  | .halfReadLatch _ _ len => decide (len ≤ 64)
  | .alarmLatchRead => true
  | .registerWrite _ _ bytes => sized 64 bytes
  | .smbWrite _ data _ => sized 28 data
  | .smbRead _ count => decide (count ≤ 32)
  | .smbAlertResponse => true
  | .smbClockLowTimeout => true
  | .enterModeAck _ => true
  | .tbReceived _ _ payload _ => sized 128 payload
  | .trainStateTimeout _ => true
  | .trainIdleEnd _ => true
  | .rateIdleEnd _ => true
  | .markerReceived _ _ head _ _ => sized 14 head
  | .markerLossTimeout _ _ => true
  | .codewordErrorLimit _ _ => true
  | .linkTimeout _ => true
  | .wakeBurstReceived _ => true
  | .sleepIdleExpiry _ => true
  | .directionWake _ => true
  | .keepaliveExpiry _ => true
  | .recalPeriodExpiry _ _ => true
  | .tempDrift _ _ => true
  | .recalRetryExpiry _ => true
  | .recalDone _ _ _ => true
  | .flitSlot _ => true
  | .dataFlitReceived _ _ flit => sized 128 flit
  | .badFlit _ _ => true
  | .ackReceived _ _ flit => sized 128 flit
  | .creditReceived _ _ flit => sized 128 flit
  | .lanemapReceived _ _ flit => sized 128 flit
  | .echoReceived _ _ flit => sized 128 flit
  | .sleepReceived _ _ flit => sized 128 flit
  | .turnDoneReceived _ _ flit => sized 128 flit
  | .backlogReceived _ _ flit => sized 128 flit
  | .retrainReqReceived _ _ flit => sized 128 flit
  | .laneBadReceived _ _ flit => sized 128 flit
  | .nakTimerExpiry _ => true
  | .replayTimeout _ => true
  | .ackRepeatExpiry _ => true
  | .creditRefreshExpiry _ => true
  | .creditReturn _ _ => true
  | .timePeriodExpiry _ => true
  | .turnaroundTimeout _ => true
  | .laneReqResendExpiry _ => true
  | .termInfoReceived _ => true
  | .openAckReceived _ => true
  | .openNakReceived _ => true
  | .closeAckReceived _ => true
  | .allotAckReceived _ => true
  | .tunStatusReceived _ => true
  | .mgmtResendExpiry _ _ => true
  | .allotCycleStart _ => true
  | .orphanWindowExpiry _ => true
  | .dispModeChange _ _ _ => true
  | .hostLostTunnelExpiry _ _ => true
  | .cellAdmit _ _ _ _ payload => sized 120 payload
  | .losslessCreditGrant _ _ => true
  | .cellEgressSelect _ _ => true
  | .sweepRound => true
  | .marlBankRetired _ => true
  | .bankReadmitDone _ => true
  | .scrubStep _ upset => positions upset
  | .conversionStep _ upset => positions upset
  | .writeBack _ page => decide (page < 524288)
  | .fwSramUe _ _ _ => true
  | .fwPageRewriteDone _ _ => true
  | .softRepairDone _ bank row => decide (bank < 64) && decide (row < 1024)
  | .usbPrefetch _ _ => true
  | .usbFormingTime _ _ _ => true
  | .usb2ResultReceived => true
  | .usb2ResultMissing _ _ => true
  | .nativeTransactionEnd _ _ _ _ _ => true
  | .completeSplitDue _ _ _ _ _ => true
  | .remoteWake _ _ => true
  | .tunRootResumeWaitEnd _ => true
  | .rootConnect _ _ => true
  | .rootDisconnect _ => true
  | .rootResetEnd _ _ => true
  | .rootSuspendIdle _ => true
  | .rootResumeEnd _ => true
  | .u1u2Timeout _ _ => true
  | .devAttached _ => true
  | .devBusReset _ _ _ => true
  | .devSetupReceived _ packet _ => decide (packet.length = 8)
  | .devToken _ _ _ _ data _ _ => sized 1024 data
  | .devSuspended _ => true
  | .devHostResume _ => true
  | .devWakeSignalStart _ => true
  | .devWakeTimeout _ => true
  | .devDetached _ => true
  | .dpHpdChange _ _ _ _ => true
  | .dpTrained _ _ => true
  | .ccAttach _ _ _ => true
  | .ccDetach _ => true
  | .pdMessageReceived _ _ bytes => sized 32 bytes
  | .hardResetReceived _ => true
  | .pdTimerExpiry _ timer => decide (timer < 64)
  | .senderResponseTimeout _ _ => true
  | .swapRetryExpiry _ => true
  | .eprKeepaliveTimeout _ => true
  | .frsSignal _ => true
  | .pstgFltLow _ => true
  | .vbusSample _ _ _ => true
  | .transitionWindowTimeout _ => true
  | .sourceCapsUpdate _ => true
  | .pgIdleOffExpiry _ => true
  | .chainDispatch _ _ _ entries => entriesOk entries
  | .queueFetchError _ _ _ read _ => decide (read ≤ 32)
  | .cqWriteError _ _ _ _ => true
  | .completionWrite _ _ _ => true
  | .complRingStalled _ _ _ => true
  | .moderationTimerExpiry _ _ _ => true
  | .noticeOverflow _ => true
  | .qpStopDone _ _ _ => true
  | .sliceQuiescent _ _ => true
  | .sliceFreezeTimeout _ _ => true
  | .sliceResetDone _ _ => true
  | .generationDrained _ _ => true
  | .hostPortLoss _ => true
  | .hostPortReturn _ _ _ => true
  | .functionLevelReset _ => true
  | .hostLinkRateChange _ _ _ => true
  | .hostPowerStateChange _ _ _ _ _ _ _ => true
  | .hostReadTimeout _ => true
  | .dmaJobStart _ _ => true
  | .dmaMove _ _ _ => true
  | .dmaLoop _ _ _ => true
  | .dmaWait _ _ _ => true
  | .dmaSignal _ _ _ => true
  | .dmaSetup _ _ _ => true
  | .dmaEnd _ _ _ => true
  | .dmaTimerExpiry _ => true
  | .dmaWaitTimeout _ => true
  | .dmaRetryExpiry _ _ _ => true
  | .blockLanded _ => true
  | .evcSourceAssert _ _ => true
  | .workItemDispatch _ => true
  | .evcInterruptTaken _ => true
  | .evcClaim _ _ => true
  | .evcComplete _ => true
  | .claimOverdue _ => true
  | .directEnqueue item => decide (item.prio < 16)
  | .delayInsert _ item _ => decide (item.prio < 16)
  | .delayCancel _ _ => true
  | .delayTick => true
  | .coreRotation => true
  | .coreDrainDone _ => true
  | .selfTestDone _ _ => true
  | .spareSelftestExpiry => true
  | .faultedRetestExpiry _ => true
  | .coreFault _ => true
  | .itemLimitOverrun _ => true
  | .brownoutWarn _ _ => true
  | .railReturn _ => true
  | .holdWindowExpiry => true
  | .lowSupplyEnd _ => true
  | .switchedDomainReset _ => true
  | .serdesRailLoss _ => true
  | .coldStart => true
  | .levelChangeDone _ => true
  | .domainSequenceDone _ => true
  | .sleepEntry _ => true
  | .wakeEvent _ => true
  | .sleepExitDone => true
  | .dozeUngate _ => true
  | .energySample islands tunnels overhead => agentsOk islands && tidsOk tunnels && portsOk overhead
  | .pmbusPoll _ _ => true
  | .refclkLost _ => true
  | .refclkValid _ => true
  | .preferredReturn => true
  | .followerInvalid _ => true
  | .ptmDialogue _ _ _ _ => true
  | .ethFrameReceived _ frame => sized 65536 frame
  | .dispSegment _ _ seg flags line off _ data => decide (seg < 256) && decide (flags < 256) && decide (line < 65536) && decide (off < 65536) && sized 112 data
  | .dpiHpdPulseEnd _ => true
  | .journalDeferredCommit => true
  | .journalDrain _ => true
  | .persistPage _ => true
  | .traceDrain => true
  | .lossRecord place => match place with
    | .fifo agent => decide (agent < 256)
    | _ => true
  | .alarmVector _ => true
  | .siltRingVector _ _ => true
  | .powerGood _ _ => true
  | .fuseLoadDone keyHash _ _ _ _ repairMap => sized 48 keyHash && decide (repairMap.length ≤ 128)
  | .imageVerified _ => true
  | .startUpRelease _ => true
  | .updateRotation => true
  | .classMove _ _ => true
  | .updateRollback _ => true
  | .loamCopyFault _ => true
  | .loamCopyRetryExpiry _ => true
  | .loamSyncDone _ => true
  | .ethLinkChange _ _ => true
  | .dpiLinkChange _ _ _ _ => true
  | .timebaseFullValue => true
  | .slewOffsetRemoved => true
  | .msixVectorUnmask _ _ => true
  | .flashOperationDone _ => true
  | .fuseBurnDone _ => true
  | .hostReadCompletion _ _ _ bytes => sized 512 bytes
  | .novideoPeriod _ _ => true

end Sys2Proof
end

