-- ==== Sys2Proof/Tests/Slice0.lean ====
section
/-! SUPPORT. Sys2Proof/Tests/Slice0.lean: states and operands that meet the hypotheses of the obligations, clause by clause; ill-formed terms that WellFormed refuses; a few results worked out in the spec. -/

section

set_option Elab.async false
set_option linter.unusedVariables false
set_option linter.unusedTactic false
set_option linter.unreachableTactic false

open Sys2Proof Sys2Proof.Machine
namespace Sys2Proof.Tests

/-- A released block, its journal open, slice 0 of both host ports ACTIVE with a link. -/
def up : State :=
  { State.reset with
    boot := { State.reset.boot with stage := .released, released := true, fuseLoaded := true }, power := { State.reset.power with powered := true }
    silt := { State.reset.silt with chained := true }
    hosts := { State.reset.hosts with
      slices := [(sliceKey 0 0, { state := .active, vecCount := 64 }), (sliceKey 1 0, { state := .active, vecCount := 64 })]
      hp0 := { State.reset.hosts.hp0 with linkUp := true, lost := false, power := .d0, bme := true }
      hp1 := { State.reset.hosts.hp1 with linkUp := true, lost := false, power := .d0, bme := true } } }
/-- `up` at `ns` nanoseconds. -/
def upAt (ns : Nat) : State := { up with clock := { up.clock with now := BitVec.ofNat 64 ns } }

/-- `up` with DMA channel 0 as given, and CQ 0 of slice 0 in use. -/
def withCh (x : Ch) : State := (up.setCh 0 x).setQp 0 0 0 { state := .active }
/-- A RUNNING channel of slice 0 in a job of 4 instructions in host memory at 0. -/
def runCh : Ch := { state := .running, owner := some (0, 0), configured := true, jobOn := true, chain := [{ len := 4, first := true, last := true }] }
/-- A 16-byte instruction that host memory holds at 0. -/
def instrAt (b : List Byte) : HostView := [(0, padTo 16 b)]
/-- A VLAN frame of VID 5 whose FCS is right. -/
def vidFrame : List Byte :=
  let f := padTo 12 [] ++ [0x81, 0, 0, 5] ++ padTo 44 [8, 0]
  f ++ frameFcs f
/-- A training block with these first bytes and a right CRC. -/
def tb (h : List Byte) : List Byte :=
  let b := padTo 124 h
  b ++ toLe 4 (crc32 b).toNat

theorem padTo_length (n : Nat) (p : List Byte) : (padTo n p).length = n := by simp [padTo]
/-- The check field after 124 bytes is the CRC of those bytes. -/
theorem crc_field (b : List Byte) (n : b.length = 124) :
    (crc32 ((b ++ toLe 4 (crc32 b).toNat).take 124)).toNat = le (b ++ toLe 4 (crc32 b).toNat) 124 4 := by
  have t : (b ++ toLe 4 (crc32 b).toNat).take 124 = b := List.take_left' n
  have g (k : Nat) : byteAt (b ++ toLe 4 (crc32 b).toNat) (124 + k) = byteAt (toLe 4 (crc32 b).toNat) k := by
    unfold byteAt
    rw [List.getD_eq_getElem?_getD, List.getElem?_append_right (by omega), n, Nat.add_sub_cancel_left, List.getD_eq_getElem?_getD]
  have m := (crc32 b).isLt
  rw [t, le, le, le, le, le, g 0, g 1, g 2, g 3]
  simp only [byteAt, toLe, List.getD_cons_zero, List.getD_cons_succ, BitVec.toNat_ofNat]
  omega
theorem flit_good (h : Nat) (p : List Byte) (hd : (hchk (le (flitBytes h p) 0 4 % 2 ^ 29) == le (flitBytes h p) 0 4 / 2 ^ 29) = true) :
    flitGood (flitBytes h p) = true := by
  have n : (toLe 4 (h + 2 ^ 29 * hchk h) ++ padTo 120 p).length = 124 := by rw [List.length_append, toLe_length, padTo_length]
  have c := crc_field _ n
  unfold flitGood
  rw [beq_iff_eq] at hd
  have l : (flitBytes h p).length = 128 := by unfold flitBytes; rw [List.length_append, n, toLe_length]
  simp only [l, hd, decide_true, Bool.true_and]
  exact decide_eq_true c
theorem tb_good (h : List Byte)
    (r : (tbTypes.contains (byteAt (tb h) 0) && decide (bits (byteAt (tb h) 1) 7 6 = 0) && !bitOf (byteAt (tb h) 4) 7
      && decide (bits (byteAt (tb h) 5) 7 5 = 0) && decide (bits (byteAt (tb h) 8) 7 5 = 0) && decide (bits (byteAt (tb h) 9) 7 6 = 0)
      && decide (bits (byteAt (tb h) 10) 7 6 = 0) && decide (bits (byteAt (tb h) 12) 7 5 = 0) && zeros (tb h) 13 15 && zeros (tb h) 36 123) = true) :
    tbGood (tb h) = true := by
  have c := crc_field _ (padTo_length 124 h)
  have l : (tb h).length = 128 := by unfold tb; rw [List.length_append, padTo_length, toLe_length]
  have c' : decide ((crc32 ((tb h).take 124)).toNat = le (tb h) 124 4) = true := decide_eq_true c
  unfold tbGood
  simp only [l, c', decide_true, Bool.true_and]
  exact r

/-- A configuration image of 512 bytes, FIRMWARE of 16 bytes and SETTINGS of 64 (HOLD_WINDOW 10 ms), version 1, signed outside the model with the P-384 key whose secret is 1 (its public key is the base point) and the nonce 1. -/
def image : List Byte :=
  padTo 144 (padTo 28 ([0x45, 0x43, 0x53, 0x4D] ++ toLe 2 1 ++ toLe 2 2 ++ toLe 4 512 ++ toLe 4 1) ++ toLe 4 0 ++ toLe 4 1 ++ toLe 4 128 ++ toLe 4 16 ++ toLe 4 0
    ++ toLe 4 2 ++ toLe 4 144 ++ toLe 4 64) ++ padTo 112 [0, 0, 0, 0, 10]
  ++ padTo 256 (padTo 104 ([4] ++ toBe 48 0xaa87ca22be8b05378eb1c71ef320ad746e1d3b628ba79b9859f741e082542a385502f25dbf55296c3a545e3872760ab7
    ++ toBe 48 0x3617de4a96262c6f5d9e98bf9292dc29f8f41dbd289a147ce9da3113b5f0b8c00a60b1ce1d7e819d7a431d7c90ea0e5f)
    ++ toBe 48 0xaa87ca22be8b05378eb1c71ef320ad746e1d3b628ba79b9859f741e082542a385502f25dbf55296c3a545e3872760ab7
    ++ toBe 48 0xf00775806edb15c36ea9610e1cc61313cf0f9bd52312a4fe81ec13fbdc713cadadb26a91feccc8e8d97f65d648ed025c)
/-- ROOT_KEY_HASH of that key. -/
def imageKey : List Byte := toBe 48 0x8c4f262412b7f9ed867606705a130de5212fd048fbaf8c3842f4a240f4b45ba0c90f82194ccdda3ed89c96b0afe1d51d
/-- A flash with the image in slot A. -/
def imageFlash : List (Nat × Byte) := Tab.write 0xFF 0x400000 image []
/-- `up` with the image in slot A, and booted from slot B. -/
def withImage : State :=
  { up with boot := { up.boot with keyHash := imageKey, flash := imageFlash, booted := 1, fwSlot := some 1 } }

theorem image_valid : imageCheck imageKey false image = 1 := by decide +kernel
theorem image_length : image.length = 512 := by decide +kernel
theorem slot_image (s : State) (e : s.boot.flash = imageFlash) : s.slotImage 0 = image := by
  have l := image_length
  have k : slotBase 0 = 0x400000 := by simp [slotBase]
  have h : s.flashBytes (slotBase 0) 128 = image.take 128 := by
    rw [State.flashBytes, e, k, imageFlash, Tab.bytes_write _ _ _ _ _ (by omega)]
  have g : s.flashBytes (slotBase 0) 512 = image := by
    rw [State.flashBytes, e, k, imageFlash, Tab.bytes_write _ _ _ _ _ (by omega), List.take_of_length_le (by omega)]
  have n : imageLen (image.take 128) = 512 := by decide +kernel
  simp [State.slotImage, h, n, g]
theorem withImage_slot : withImage.slotImage 0 = image := slot_image _ (by simp [withImage])
/-- `withImage` before its candidates have been read. -/
def withCandidate : State := { withImage with boot := { withImage.boot with stage := .candidates } }
theorem withCandidate_slot : withCandidate.slotImage 0 = image := slot_image _ (by simp [withCandidate, withImage])
/-- FW_STAGE from the management controller, naming slot A. -/
def stageCmd : Cmd := { route := .mgmt, payload := toLe 8 0 ++ toLe 8 (2 ^ 63) ++ toLe 4 512 }
theorem stage_may_be_carried : withImage.mayCarry infoFwStage stageCmd (checksFwStage stageCmd withImage) = true := by
  have a : stageSlot stageCmd = some 0 := by decide +kernel
  have b : (checksFwStage stageCmd withImage).refuse = none := by
    unfold checksFwStage
    simp only [a, withImage_slot, show withImage.boot.keyHash = imageKey from rfl, image_valid]
    decide +kernel
  have e : (checksFwStage stageCmd withImage).bad = none := by unfold checksFwStage; decide +kernel
  unfold State.mayCarry firstFailure
  simp only [b, e]
  decide +kernel

/-- The command runs, and `P` holds of the next state. -/
def runs (s : State) (f : State → Result) (P : State → Bool) : Bool :=
  match f s with
  | .next t => P t
  | _ => false

/-! ## WellFormed refuses each kind of ill-formed operand -/

theorem test_wf_payload_mailbox : (Instr.devIdentify { route := .mbx 0 0, payload := List.replicate 57 0 }).wf = false := by decide +kernel
theorem test_wf_payload_management : (Instr.devIdentify { route := .mgmt, payload := List.replicate 57 0 }).wf = false := by decide +kernel
theorem test_wf_payload_chain : (Instr.tunCreate { route := .sq 0 0 0, payload := List.replicate 1793 0 }).wf = false := by decide +kernel
theorem test_wf_late : (Instr.tunCreate { route := .mbx 0 0, late := true }).wf = false := by decide +kernel
theorem test_wf_entries : (Instr.chainDispatch 0 0 0 [[]]).wf = false ∧ (Instr.chainDispatch 0 0 0 (List.replicate 34 (List.replicate 64 0))).wf = false := by decide +kernel
theorem test_wf_fetch_error : (Instr.queueFetchError 0 0 0 33 0).wf = false := by decide +kernel
theorem test_wf_lengths : (Instr.dmaProgramWrite 0 0 0 (List.replicate 1025 0)).wf = false ∧ (Instr.registerWrite none 0 (List.replicate 65 0)).wf = false ∧ (Instr.halfReadLatch none 0 65).wf = false
    ∧ (Instr.smbWrite 0 (List.replicate 29 0) true).wf = false ∧ (Instr.smbRead 0 33).wf = false := by decide +kernel
theorem test_wf_link : (Instr.tbReceived 0 0 (List.replicate 129 0) 0).wf = false ∧ (Instr.markerReceived 0 0 (List.replicate 15 0) 0 true).wf = false
    ∧ (Instr.dataFlitReceived 0 0 (List.replicate 129 0)).wf = false ∧ (Instr.ackReceived 0 0 (List.replicate 129 0)).wf = false := by decide +kernel
theorem test_wf_cell : (Instr.cellAdmit 7 0 true false (List.replicate 121 0)).wf = false := by decide +kernel
theorem test_wf_pages : (Instr.scrubStep 0 [1112]).wf = false ∧ (Instr.writeBack 0 524288).wf = false ∧ (Instr.softRepairDone 0 64 0).wf = false := by decide +kernel
theorem test_wf_usb : (Instr.devSetupReceived 0 [0] []).wf = false ∧ (Instr.devToken 0 1 false 0 (List.replicate 1025 0) true []).wf = false := by decide +kernel
theorem test_wf_pd : (Instr.pdMessageReceived 0 0 (List.replicate 33 0)).wf = false ∧ (Instr.pdTimerExpiry 0 64).wf = false := by decide +kernel
theorem test_wf_items : (Instr.directEnqueue { prio := 16 }).wf = false := by decide +kernel
theorem test_wf_energy : (Instr.energySample [(28, 1)] [] []).wf = false ∧ (Instr.energySample [] [(8192, 1)] []).wf = false ∧ (Instr.energySample [] [] [(12, 1)]).wf = false := by
  decide +kernel
theorem test_wf_segment : (Instr.dispSegment 0 0 0 0 0 0 0 (List.replicate 113 0)).wf = false ∧ (Instr.dispSegment 0 0 256 0 0 0 0 []).wf = false := by decide +kernel
theorem test_wf_loss : (Instr.lossRecord (.fifo 256)).wf = false := by decide +kernel
theorem test_wf_host_read : (Instr.hostReadCompletion 0 0 0 (List.replicate 513 0)).wf = false := by decide +kernel
theorem test_wf_accepts : (Instr.devIdentify { route := .mbx 0 0 }).wf = true ∧ (Instr.coldStart).wf = true := by decide +kernel

/-! ## Results of the spec's worked examples and of published check values -/

/-- 04, the example of R90: a 3840 × 2160 display needs 2197 flits in a cycle. -/
theorem test_display_flits : dispFlits { htotal := 3920, hact := 3840, pixclk := 522614400, bpp := 30 } = 2197 := by decide +kernel
/-- 04, Table 4-14: PS(2) and PS(1) of J0 at J56. -/
theorem test_plannable_j56 : plannable .j56 true 2 = 12304 ∧ plannable .j56 true 1 = 6152 := by decide +kernel
/-- 04, the example of cabinet 1: PS(2) at J28 with FEC is 6150, and a block of 2 sets of 48 channels of 20 bits takes 3 flits. -/
theorem test_sample_block : plannable .j28 true 2 = 6150 ∧ blockFlits 2 48 0 = 3 := by decide +kernel
/-- 04: the DISP ceiling at P0 is 47,600 flits in a cycle. -/
theorem test_disp_ceiling : up.ceiling agentDisp = some 47600 := by decide +kernel
/-- 10, Table 10-11: the create of DPI0 stream 1 takes 2197 flits outbound, as TUN 3 after TUN 1 and TUN 2. -/
theorem test_display_create :
    let s := ((up.modPort 0 fun x => { x with
        train := { x.train with state := .active, rateSel := .j56, fecSel := true }, outSet := 5, inSet := 10, tuns := [(1, { used := true }), (2, { used := true })] })
      |>.setTunnel 0 { port := 0, tun := 1, cls := 0, dirs := 1, state := .opened, owner := .slice 0 0, rsvOut := 2197 })
      |>.setTunnel 1 { port := 0, tun := 2, cls := 2, periodic := true, dirs := 3, state := .opened, owner := .slice 0 0, rsvOut := 2, rsvIn := 2 }
    let c : Cmd := { route := .mbx 0 0, payload := padTo 120 ([0, 0, 0x10, 2] ++ toLe 8 0 ++ toLe 4 8 ++ toLe 8 0 ++ toLe 2 3920 ++ toLe 2 3840 ++ toLe 2 2160
      ++ toLe 2 2222 ++ toLe 5 522614400 ++ [30]) }
    runs s (execTunCreate c) fun t => (t.tunnel 2).state = .opening ∧ (t.tunnel 2).tun = 3 ∧ (t.tunnel 2).rsvOut = 2197 ∧ (t.tunnel 2).gen = 0 := by
  decide +kernel
/-- 10, the example's later request: 8000 flits beside 4396 exceed 12,304; NO_BANDWIDTH with DETAIL 0x10. -/
theorem test_lane_rule :
    let s := (up.modPort 0 fun x => { x with train := { x.train with state := .active, rateSel := .j56, fecSel := true }, outSet := 5, inSet := 10 }).setTunnel 0
      { port := 0, tun := 1, cls := 2, dirs := 3, state := .opened, owner := .slice 0 0, rsvOut := 4396, rsvIn := 2 }
    let c : Cmd := { route := .mbx 0 0, payload := padTo 120 ([0, 0, 0x34, 2] ++ toLe 2 8000 ++ toLe 18 0) }
    firstFailure infoTunCreate c s (checksTunCreate c s) = some (.noBandwidth, 0x10) := by decide +kernel
/-- 16, Table 16-5: with t = 4 the checker corrects 4 inverted positions and reports 5; a page uses positions 0 to 1068. -/
theorem test_bch : decodePage 0 4 [3, 517, 900, 1030] = .corrected ∧ decodePage 0 4 [3, 517, 900, 1030, 1068] = .uncorrectable ∧ usedPositions 4 = 1069 := by
  decide +kernel
/-- The published check values of CRC-32 and CRC-32C, over the digits 1 to 9. -/
theorem test_crc : crc32 [0x31, 0x32, 0x33, 0x34, 0x35, 0x36, 0x37, 0x38, 0x39] = 0xCBF43926 ∧ crc32c [0x31, 0x32, 0x33, 0x34, 0x35, 0x36, 0x37, 0x38, 0x39] = 0xE3069283 := by
  decide +kernel
/-- FIPS 180-4: SHA-256 of "abc". -/
theorem test_sha256 : sha256 [0x61, 0x62, 0x63] = toBe 32 0xba7816bf8f01cfea414140de5dae2223b00361a396177a9cb410ff61f20015ad := by decide +kernel
/-- FIPS 180-4: SHA-384 of "abc". -/
theorem test_sha384 : sha384 [0x61, 0x62, 0x63]
    = toBe 48 0xcb00753f45a35e8bb5a03d699ac65007272c32ab0eded1631a8b605a43ff5bed8086072ba1e7cc2358baeca134c825a7 := by decide +kernel
/-- R195: bit 6 of byte 7 of a configuration descriptor, and nothing else of it, is set. -/
theorem test_self_powered : selfPowered [9, 2, 32, 0, 1, 1, 0, 0x80, 50, 9, 4] = [9, 2, 32, 0, 1, 1, 0, 0xC0, 50, 9, 4] ∧ selfPowered [18, 1, 0, 2, 0, 0, 0, 64] = [18, 1, 0, 2, 0, 0, 0, 64] := by
  decide +kernel

/-! ## The hypotheses of the obligations can be met

One theorem per obligation that has hypotheses: for each clause, in the order of the clauses, values that meet all the clause's hypotheses together. -/

/-- Obligations.StepRunsFrontCommand. -/
theorem hypotheses_met_StepRunsFrontCommand :
    (∃ (c : Instr) (rest : List Instr) (s : State), s.pending = c :: rest)
    ∧ (∃ (s : State), s.pending = []) :=
  ⟨⟨(.coldStart : Instr), ([] : List Instr), ({ up with pending := [.coldStart] } : State), by rfl⟩,
   ⟨(up : State), by decide +kernel⟩⟩

/-- Obligations.EveryStepKeepsWellFormedness. -/
theorem hypotheses_met_EveryStepKeepsWellFormedness :
    (∃ (s t : State), s.wf = true ∧ step s = .next t) :=
  ⟨(up : State), ({ up with clock := up.clock.tick } : State), by exact ⟨by decide +kernel, rfl⟩⟩

/-- Obligations.ConfigurationLock. -/
theorem hypotheses_met_ConfigurationLock :
    (∃ (c : Cmd) (s : State), s.mayCarry infoDevConfigLock c (checksDevConfigLock c s) = true)
    ∧ (∃ (i : Instr) (s t : State), i ≠ .coldStart ∧ s.lock = true)
    ∧ (∃ (c : Cmd) (s : State), s.lock = true ∧ c.route.slice?.isSome = true ∧ infoAlarmCfg.len ≤ c.payload.length ∧ (checksAlarmCfg c s).bad = none ∧ s.genOk c = true ∧ infoAlarmCfg.accepts c.route = true ∧ (checksAlarmCfg c s).deny = none)
    ∧ (∃ (c : Cmd) (s : State), s.lock = true ∧ c.route.slice?.isSome = true ∧ infoDpiCfg.len ≤ c.payload.length ∧ (checksDpiCfg c s).bad = none ∧ s.genOk c = true ∧ infoDpiCfg.accepts c.route = true ∧ (checksDpiCfg c s).deny = none)
    ∧ (∃ (c : Cmd) (s : State), s.lock = true ∧ c.route.slice?.isSome = true ∧ infoMarlAgeCfg.len ≤ c.payload.length ∧ (checksMarlAgeCfg c s).bad = none ∧ s.genOk c = true ∧ infoMarlAgeCfg.accepts c.route = true ∧ (checksMarlAgeCfg c s).deny = none)
    ∧ (∃ (c : Cmd) (s : State), s.lock = true ∧ c.route.slice?.isSome = true ∧ infoMarlPoolCfg.len ≤ c.payload.length ∧ (checksMarlPoolCfg c s).bad = none ∧ s.genOk c = true ∧ infoMarlPoolCfg.accepts c.route = true ∧ (checksMarlPoolCfg c s).deny = none)
    ∧ (∃ (c : Cmd) (s : State), s.lock = true ∧ c.route.slice?.isSome = true ∧ infoMarlQueueCfg.len ≤ c.payload.length ∧ (checksMarlQueueCfg c s).bad = none ∧ s.genOk c = true ∧ infoMarlQueueCfg.accepts c.route = true ∧ (checksMarlQueueCfg c s).deny = none)
    ∧ (∃ (c : Cmd) (s : State), s.lock = true ∧ c.route.slice?.isSome = true ∧ infoMemEccCfg.len ≤ c.payload.length ∧ (checksMemEccCfg c s).bad = none ∧ s.genOk c = true ∧ infoMemEccCfg.accepts c.route = true ∧ (checksMemEccCfg c s).deny = none)
    ∧ (∃ (c : Cmd) (s : State), s.lock = true ∧ c.route.slice?.isSome = true ∧ infoNetPortCfg.len ≤ c.payload.length ∧ (checksNetPortCfg c s).bad = none ∧ s.genOk c = true ∧ infoNetPortCfg.accepts c.route = true ∧ (checksNetPortCfg c s).deny = none)
    ∧ (∃ (c : Cmd) (s : State), s.lock = true ∧ c.route.slice?.isSome = true ∧ infoPmDomain.len ≤ c.payload.length ∧ (checksPmDomain c s).bad = none ∧ s.genOk c = true ∧ infoPmDomain.accepts c.route = true ∧ (checksPmDomain c s).deny = none)
    ∧ (∃ (c : Cmd) (s : State), s.lock = true ∧ c.route.slice?.isSome = true ∧ infoPmLevel.len ≤ c.payload.length ∧ (checksPmLevel c s).bad = none ∧ s.genOk c = true ∧ infoPmLevel.accepts c.route = true ∧ (checksPmLevel c s).deny = none)
    ∧ (∃ (c : Cmd) (s : State), s.lock = true ∧ c.route.slice?.isSome = true ∧ infoPmWakeCfg.len ≤ c.payload.length ∧ (checksPmWakeCfg c s).bad = none ∧ s.genOk c = true ∧ infoPmWakeCfg.accepts c.route = true ∧ (checksPmWakeCfg c s).deny = none)
    ∧ (∃ (c : Cmd) (s : State), s.lock = true ∧ c.route.slice?.isSome = true ∧ infoPortFallbackCfg.len ≤ c.payload.length ∧ (checksPortFallbackCfg c s).bad = none ∧ s.genOk c = true ∧ infoPortFallbackCfg.accepts c.route = true ∧ (checksPortFallbackCfg c s).deny = none)
    ∧ (∃ (c : Cmd) (s : State), s.lock = true ∧ c.route.slice?.isSome = true ∧ infoPortLinkCfg.len ≤ c.payload.length ∧ (checksPortLinkCfg c s).bad = none ∧ s.genOk c = true ∧ infoPortLinkCfg.accepts c.route = true ∧ (checksPortLinkCfg c s).deny = none)
    ∧ (∃ (c : Cmd) (s : State), s.lock = true ∧ c.route.slice?.isSome = true ∧ infoPortPdCfg.len ≤ c.payload.length ∧ (checksPortPdCfg c s).bad = none ∧ s.genOk c = true ∧ infoPortPdCfg.accepts c.route = true ∧ (checksPortPdCfg c s).deny = none)
    ∧ (∃ (c : Cmd) (s : State), s.lock = true ∧ c.route.slice?.isSome = true ∧ infoPtpCfg.len ≤ c.payload.length ∧ (checksPtpCfg c s).bad = none ∧ s.genOk c = true ∧ infoPtpCfg.accepts c.route = true ∧ (checksPtpCfg c s).deny = none)
    ∧ (∃ (c : Cmd) (s : State), s.lock = true ∧ c.route.slice?.isSome = true ∧ infoRefclkSelect.len ≤ c.payload.length ∧ (checksRefclkSelect c s).bad = none ∧ s.genOk c = true ∧ infoRefclkSelect.accepts c.route = true ∧ (checksRefclkSelect c s).deny = none)
    ∧ (∃ (c : Cmd) (s : State), s.lock = true ∧ c.route.slice?.isSome = true ∧ infoTunAllotCfg.len ≤ c.payload.length ∧ (checksTunAllotCfg c s).bad = none ∧ s.genOk c = true ∧ infoTunAllotCfg.accepts c.route = true ∧ (checksTunAllotCfg c s).deny = none)
    ∧ (∃ (c : Cmd) (s : State), s.lock = true ∧ (c.late = false) ∧ c.route.slice?.isSome = true ∧ infoImageSelect.len ≤ c.payload.length ∧ (selectChecks c s).bad = none ∧ s.genOk c = true ∧ infoImageSelect.accepts c.route = true ∧ (selectChecks c s).deny = none)
    ∧ (∃ (i : CmdInfo) (c : Cmd) (s : State) (k : Checks), i ∈ [infoAlarmAck, infoAlarmRead, infoCounterRead, infoDevConfigLock, infoDevIdentify, infoDmaChAlloc, infoDmaChConfig, infoDmaChCtrl, 
      infoDmaChFree, infoDmaChQuery, infoDmaTimerCfg, infoDpaltBind, infoDpaltUnbind, infoDpiQuery, infoFuseProgram, infoFwActivate, 
      infoFwStage, infoImageWrite, infoJrnlRead, infoLoamHandover, infoBankReadmit, infoBankRetire, infoMemFlipMask, infoMemSoftRepair, 
      infoPmQuery, infoPortJaythRetry, infoPortLinkCtrl, infoPortNotifyBind, infoPortPdQuery, infoPortPdReset, infoPortPdSwap, 
      infoQpCreate, infoQpDestroy, infoQpModify, infoQpQuery, infoQpReset, infoSiltDrainBind, infoSliceDirtyLog, infoSliceDisable, 
      infoSliceEnable, infoSliceFreeze, infoSliceQuery, infoSliceReset, infoSliceRestore, infoSliceSave, infoSnapshot, infoTbQuery, 
      infoTbSet, infoTbSlew, infoTraceCfg, infoTunAdopt, infoTunCreate, infoTunDestroy, infoTunModify, infoTunQuery, infoUsbDevBind, 
      infoUsbDevCtrl, infoUsbDevUnbind, infoUsbEpConfig, infoUsbEpReset, infoUsbEpSetDeq, infoUsbEpStop, infoUsbRootBind, 
      infoUsbRootCtrl, infoUsbRootQuery, infoUsbSlotAlloc, infoUsbSlotFree]) :=
  ⟨⟨({ route := .mgmt, payload := padTo 1 [0xA5] } : Cmd), (up : State), by decide +kernel⟩,
   ⟨(.devIdentify { route := .mbx 0 0 } : Instr), ({ up with lock := true } : State), (match execDevIdentify { route := .mbx 0 0 } { up with lock := true } with | .next t => t | _ => up : State), by refine ⟨?_, by decide +kernel⟩; intro h; cases h⟩,
   ⟨({ route := .mbx 0 0, payload := padTo 3 [] } : Cmd), ({ up with lock := true } : State), by decide +kernel⟩,
   ⟨({ route := .mbx 0 0, payload := padTo 4 [0, 0, 1, 0] } : Cmd), ({ up with lock := true } : State), by decide +kernel⟩,
   ⟨({ route := .mbx 0 0, payload := padTo 12 [0, 0, 0, 0, 1] } : Cmd), ({ up with lock := true } : State), by decide +kernel⟩,
   ⟨({ route := .mbx 0 0, payload := padTo 12 [] } : Cmd), ({ up with lock := true } : State), by decide +kernel⟩,
   ⟨({ route := .mbx 0 0, payload := padTo 8 [0x10, 0, 0, 0, 64] } : Cmd), ({ up with lock := true } : State), by decide +kernel⟩,
   ⟨({ route := .mbx 0 0, payload := padTo 8 [0, 1] } : Cmd), ({ up with lock := true } : State), by decide +kernel⟩,
   ⟨({ route := .mbx 0 0, payload := padTo 3 [] } : Cmd), ({ up with lock := true } : State), by decide +kernel⟩,
   ⟨({ route := .mbx 0 0, payload := padTo 2 [8, 1] } : Cmd), ({ up with lock := true } : State), by decide +kernel⟩,
   ⟨({ route := .mbx 0 0, payload := padTo 2 [0xFF, 5] } : Cmd), ({ up with lock := true } : State), by decide +kernel⟩,
   ⟨({ route := .mbx 0 0, payload := padTo 8 [] } : Cmd), ({ up with lock := true } : State), by decide +kernel⟩,
   ⟨({ route := .mbx 0 0, payload := padTo 3 [] } : Cmd), ({ up with lock := true } : State), by decide +kernel⟩,
   ⟨({ route := .mbx 0 0, payload := padTo 16 [] } : Cmd), ({ up with lock := true } : State), by decide +kernel⟩,
   ⟨({ route := .mbx 0 0, payload := padTo 23 [] } : Cmd), ({ up with lock := true } : State), by decide +kernel⟩,
   ⟨({ route := .mbx 0 0, payload := padTo 2 [] } : Cmd), ({ up with lock := true } : State), by decide +kernel⟩,
   ⟨({ route := .mbx 0 0, payload := padTo 1 [2] } : Cmd), ({ up with lock := true } : State), by decide +kernel⟩,
   ⟨({ route := .mbx 0 0, payload := padTo 12 [] } : Cmd), ({ up with lock := true } : State), by decide +kernel⟩,
   ⟨({ route := .mbx 0 0, payload := padTo 1 [0] } : Cmd), ({ up with lock := true } : State), by decide +kernel⟩,
   ⟨(infoPmQuery : CmdInfo), ({ route := .mbx 0 0 } : Cmd), (up : State), ({} : Checks), by simp⟩⟩

/-- Obligations.RefusedCommandsHaveNoEffect, part 1. -/
theorem hypotheses_met_RefusedCommandsHaveNoEffect_1 :
    (∃ (c : Cmd) (s : State) (f : Status × Nat), firstFailure infoAlarmAck c s (checksAlarmAck c s) = some f)
    ∧ (∃ (c : Cmd) (s : State) (f : Status × Nat), firstFailure infoAlarmCfg c s (checksAlarmCfg c s) = some f)
    ∧ (∃ (c : Cmd) (s : State) (f : Status × Nat), firstFailure infoAlarmRead c s ((checksAlarmRead c)) = some f)
    ∧ (∃ (c : Cmd) (s : State) (f : Status × Nat), firstFailure infoCounterRead c s ((checksCounterRead c)) = some f)
    ∧ (∃ (c : Cmd) (s : State) (f : Status × Nat), firstFailure infoDevConfigLock c s (checksDevConfigLock c s) = some f)
    ∧ (∃ (c : Cmd) (s : State) (f : Status × Nat), firstFailure infoDevIdentify c s ((checksDevIdentify c)) = some f)
    ∧ (∃ (c : Cmd) (s : State) (f : Status × Nat), firstFailure infoDmaChAlloc c s (checksDmaChAlloc c s) = some f)
    ∧ (∃ (c : Cmd) (s : State) (f : Status × Nat), firstFailure infoDmaChConfig c s (checksDmaChConfig c s) = some f)
    ∧ (∃ (c : Cmd) (s : State) (f : Status × Nat), firstFailure infoDmaChCtrl c s (checksDmaChCtrl c s) = some f)
    ∧ (∃ (c : Cmd) (s : State) (f : Status × Nat), firstFailure infoDmaChFree c s (checksDmaChFree c s) = some f)
    ∧ (∃ (c : Cmd) (s : State) (f : Status × Nat), firstFailure infoDmaChQuery c s (checksDmaChQuery c s) = some f)
    ∧ (∃ (c : Cmd) (s : State) (f : Status × Nat), firstFailure infoDmaTimerCfg c s (checksDmaTimerCfg c s) = some f)
    ∧ (∃ (c : Cmd) (s : State) (f : Status × Nat), firstFailure infoDpaltBind c s (checksDpaltBind c s) = some f)
    ∧ (∃ (c : Cmd) (s : State) (f : Status × Nat), firstFailure infoDpaltUnbind c s (checksDpaltUnbind c s) = some f)
    ∧ (∃ (c : Cmd) (s : State) (f : Status × Nat), firstFailure infoDpiCfg c s (checksDpiCfg c s) = some f)
    ∧ (∃ (c : Cmd) (s : State) (f : Status × Nat), firstFailure infoDpiQuery c s (checksDpiQuery c s) = some f)
    ∧ (∃ (c : Cmd) (s : State) (f : Status × Nat), firstFailure infoFuseProgram c s (checksFuseProgram c s) = some f)
    ∧ (∃ (c : Cmd) (s : State) (f : Status × Nat), firstFailure infoFwActivate c s (checksFwActivate c s) = some f)
    ∧ (∃ (c : Cmd) (s : State) (f : Status × Nat), firstFailure infoFwStage c s (checksFwStage c s) = some f)
    ∧ (∃ (c : Cmd) (s : State) (f : Status × Nat), firstFailure infoImageWrite c s (checksImageWrite c s) = some f)
    ∧ (∃ (c : Cmd) (s : State) (f : Status × Nat), firstFailure infoJrnlPersistCfg c s (checksJrnlPersistCfg c s) = some f)
    ∧ (∃ (c : Cmd) (s : State) (f : Status × Nat), firstFailure infoJrnlRead c s ((checksJrnlRead c)) = some f)
    ∧ (∃ (c : Cmd) (s : State) (f : Status × Nat), firstFailure infoLoamHandover c s (checksLoamHandover c s) = some f)
    ∧ (∃ (c : Cmd) (s : State) (f : Status × Nat), firstFailure infoMarlAgeCfg c s (checksMarlAgeCfg c s) = some f)
    ∧ (∃ (c : Cmd) (s : State) (f : Status × Nat), firstFailure infoBankReadmit c s (checksMarlBankReadmit c s) = some f)
    ∧ (∃ (c : Cmd) (s : State) (f : Status × Nat), firstFailure infoBankRetire c s (checksMarlBankRetire c s) = some f)
    ∧ (∃ (c : Cmd) (s : State) (f : Status × Nat), firstFailure infoMarlPoolCfg c s (checksMarlPoolCfg c s) = some f)
    ∧ (∃ (c : Cmd) (s : State) (f : Status × Nat), firstFailure infoMarlQueueCfg c s (checksMarlQueueCfg c s) = some f)
    ∧ (∃ (c : Cmd) (s : State) (f : Status × Nat), firstFailure infoMemEccCfg c s (checksMemEccCfg c s) = some f)
    ∧ (∃ (c : Cmd) (s : State) (f : Status × Nat), firstFailure infoMemFlipMask c s (checksMemFlipMask c s) = some f)
    ∧ (∃ (c : Cmd) (s : State) (f : Status × Nat), firstFailure infoMemSoftRepair c s (checksMemSoftRepair c s) = some f ∧ (firstFailure infoMemSoftRepair c s (checksMemSoftRepair c s) ≠ some (.noResource, 0)))
    ∧ (∃ (c : Cmd) (s : State) (f : Status × Nat), firstFailure infoNetPortCfg c s (checksNetPortCfg c s) = some f)
    ∧ (∃ (c : Cmd) (s : State) (f : Status × Nat), firstFailure infoPmDomain c s (checksPmDomain c s) = some f)
    ∧ (∃ (c : Cmd) (s : State) (f : Status × Nat), firstFailure infoPmLevel c s (checksPmLevel c s) = some f)
    ∧ (∃ (c : Cmd) (s : State) (f : Status × Nat), firstFailure infoPmQuery c s ((checksPmQuery c)) = some f)
    ∧ (∃ (c : Cmd) (s : State) (f : Status × Nat), firstFailure infoPmWakeCfg c s (checksPmWakeCfg c s) = some f)
    ∧ (∃ (c : Cmd) (s : State) (f : Status × Nat), firstFailure infoPortFallbackCfg c s (checksPortFallbackCfg c s) = some f)
    ∧ (∃ (c : Cmd) (s : State) (f : Status × Nat), firstFailure infoPortJaythRetry c s (checksPortJaythRetry c s) = some f)
    ∧ (∃ (c : Cmd) (s : State) (f : Status × Nat), firstFailure infoPortLinkCfg c s (checksPortLinkCfg c s) = some f)
    ∧ (∃ (c : Cmd) (s : State) (f : Status × Nat), firstFailure infoPortLinkCtrl c s (checksPortLinkCtrl c s) = some f) :=
  ⟨⟨({ route := .mgmt } : Cmd), (up : State), ((.malformed, 0) : Status × Nat), by decide +kernel⟩,
   ⟨({ route := .mgmt } : Cmd), (up : State), ((.malformed, 0) : Status × Nat), by decide +kernel⟩,
   ⟨({} : Cmd), (up : State), ((.denied, 1) : Status × Nat), by decide +kernel⟩,
   ⟨({ route := .mgmt } : Cmd), (up : State), ((.malformed, 0) : Status × Nat), by decide +kernel⟩,
   ⟨({ route := .mgmt } : Cmd), (up : State), ((.malformed, 0) : Status × Nat), by decide +kernel⟩,
   ⟨({} : Cmd), (up : State), ((.denied, 1) : Status × Nat), by decide +kernel⟩,
   ⟨({ route := .mgmt } : Cmd), (up : State), ((.malformed, 0) : Status × Nat), by decide +kernel⟩,
   ⟨({ route := .mgmt } : Cmd), (up : State), ((.malformed, 0) : Status × Nat), by decide +kernel⟩,
   ⟨({ route := .mgmt } : Cmd), (up : State), ((.malformed, 0) : Status × Nat), by decide +kernel⟩,
   ⟨({ route := .mgmt } : Cmd), (up : State), ((.malformed, 0) : Status × Nat), by decide +kernel⟩,
   ⟨({ route := .mgmt } : Cmd), (up : State), ((.malformed, 0) : Status × Nat), by decide +kernel⟩,
   ⟨({ route := .mgmt } : Cmd), (up : State), ((.malformed, 0) : Status × Nat), by decide +kernel⟩,
   ⟨({ route := .mgmt } : Cmd), (up : State), ((.malformed, 0) : Status × Nat), by decide +kernel⟩,
   ⟨({ route := .mgmt } : Cmd), (up : State), ((.malformed, 0) : Status × Nat), by decide +kernel⟩,
   ⟨({ route := .mgmt } : Cmd), (up : State), ((.malformed, 0) : Status × Nat), by decide +kernel⟩,
   ⟨({ route := .mgmt } : Cmd), (up : State), ((.malformed, 0) : Status × Nat), by decide +kernel⟩,
   ⟨({ route := .mgmt } : Cmd), (up : State), ((.malformed, 0) : Status × Nat), by decide +kernel⟩,
   ⟨({ route := .mgmt } : Cmd), (up : State), ((.malformed, 0) : Status × Nat), by decide +kernel⟩,
   ⟨({ route := .mgmt } : Cmd), (up : State), ((.malformed, 0) : Status × Nat), by decide +kernel⟩,
   ⟨({ route := .mgmt } : Cmd), (up : State), ((.malformed, 0) : Status × Nat), by decide +kernel⟩,
   ⟨({ route := .mgmt } : Cmd), (up : State), ((.malformed, 0) : Status × Nat), by decide +kernel⟩,
   ⟨({ route := .mgmt } : Cmd), (up : State), ((.malformed, 0) : Status × Nat), by decide +kernel⟩,
   ⟨({ route := .mgmt } : Cmd), (up : State), ((.malformed, 0) : Status × Nat), by decide +kernel⟩,
   ⟨({ route := .mgmt } : Cmd), (up : State), ((.malformed, 0) : Status × Nat), by decide +kernel⟩,
   ⟨({ route := .mgmt } : Cmd), (up : State), ((.malformed, 0) : Status × Nat), by decide +kernel⟩,
   ⟨({ route := .mgmt } : Cmd), (up : State), ((.malformed, 0) : Status × Nat), by decide +kernel⟩,
   ⟨({ route := .mgmt } : Cmd), (up : State), ((.malformed, 0) : Status × Nat), by decide +kernel⟩,
   ⟨({ route := .mgmt } : Cmd), (up : State), ((.malformed, 0) : Status × Nat), by decide +kernel⟩,
   ⟨({ route := .mgmt } : Cmd), (up : State), ((.malformed, 0) : Status × Nat), by decide +kernel⟩,
   ⟨({ route := .mgmt } : Cmd), (up : State), ((.malformed, 0) : Status × Nat), by decide +kernel⟩,
   ⟨({ route := .mgmt } : Cmd), (up : State), ((.malformed, 0) : Status × Nat), by decide +kernel⟩,
   ⟨({ route := .mgmt } : Cmd), (up : State), ((.malformed, 0) : Status × Nat), by decide +kernel⟩,
   ⟨({ route := .mgmt } : Cmd), (up : State), ((.malformed, 0) : Status × Nat), by decide +kernel⟩,
   ⟨({ route := .mgmt } : Cmd), (up : State), ((.malformed, 0) : Status × Nat), by decide +kernel⟩,
   ⟨({} : Cmd), (up : State), ((.denied, 1) : Status × Nat), by decide +kernel⟩,
   ⟨({ route := .mgmt } : Cmd), (up : State), ((.malformed, 0) : Status × Nat), by decide +kernel⟩,
   ⟨({ route := .mgmt } : Cmd), (up : State), ((.malformed, 0) : Status × Nat), by decide +kernel⟩,
   ⟨({ route := .mgmt } : Cmd), (up : State), ((.malformed, 0) : Status × Nat), by decide +kernel⟩,
   ⟨({ route := .mgmt } : Cmd), (up : State), ((.malformed, 0) : Status × Nat), by decide +kernel⟩,
   ⟨({ route := .mgmt } : Cmd), (up : State), ((.malformed, 0) : Status × Nat), by decide +kernel⟩⟩

/-- Obligations.RefusedCommandsHaveNoEffect, part 2. -/
theorem hypotheses_met_RefusedCommandsHaveNoEffect_2 :
    (∃ (c : Cmd) (s : State) (f : Status × Nat), firstFailure infoPortNotifyBind c s (checksPortNotifyBind c s) = some f)
    ∧ (∃ (c : Cmd) (s : State) (f : Status × Nat), firstFailure infoPortPdCfg c s (checksPortPdCfg c s) = some f)
    ∧ (∃ (c : Cmd) (s : State) (f : Status × Nat), firstFailure infoPortPdQuery c s ((checksPortPdQuery c)) = some f)
    ∧ (∃ (c : Cmd) (s : State) (f : Status × Nat), firstFailure infoPortPdReset c s (checksPortPdReset c s) = some f)
    ∧ (∃ (c : Cmd) (s : State) (f : Status × Nat), firstFailure infoPortPdSwap c s (checksPortPdSwap c s) = some f)
    ∧ (∃ (c : Cmd) (s : State) (f : Status × Nat), firstFailure infoPtpCfg c s (checksPtpCfg c s) = some f)
    ∧ (∃ (c : Cmd) (s : State) (f : Status × Nat), firstFailure infoQpCreate c s (checksQpCreate c s) = some f)
    ∧ (∃ (c : Cmd) (s : State) (f : Status × Nat), firstFailure infoQpDestroy c s (checksQpDestroy c s) = some f)
    ∧ (∃ (c : Cmd) (s : State) (f : Status × Nat), firstFailure infoQpModify c s (checksQpModify c s) = some f)
    ∧ (∃ (c : Cmd) (s : State) (f : Status × Nat), firstFailure infoQpQuery c s ((checksQpQuery c)) = some f)
    ∧ (∃ (c : Cmd) (s : State) (f : Status × Nat), firstFailure infoQpReset c s (checksQpReset c s) = some f)
    ∧ (∃ (c : Cmd) (s : State) (f : Status × Nat), firstFailure infoRefclkSelect c s (checksRefclkSelect c s) = some f)
    ∧ (∃ (c : Cmd) (s : State) (f : Status × Nat), firstFailure infoSiltDrainBind c s (checksSiltDrainBind c s) = some f)
    ∧ (∃ (c : Cmd) (s : State) (f : Status × Nat), firstFailure infoSliceDirtyLog c s (checksSliceDirtyLog c s) = some f)
    ∧ (∃ (c : Cmd) (s : State) (f : Status × Nat), firstFailure infoSliceDisable c s ((checksReset c true s)) = some f)
    ∧ (∃ (c : Cmd) (s : State) (f : Status × Nat), firstFailure infoSliceEnable c s (checksSliceEnable c s) = some f)
    ∧ (∃ (c : Cmd) (s : State) (f : Status × Nat), firstFailure infoSliceFreeze c s (checksSliceFreeze c s) = some f)
    ∧ (∃ (c : Cmd) (s : State) (f : Status × Nat), firstFailure infoSliceQuery c s ((checksSliceQuery c)) = some f)
    ∧ (∃ (c : Cmd) (s : State) (f : Status × Nat), firstFailure infoSliceReset c s ((checksReset c false s)) = some f)
    ∧ (∃ (c : Cmd) (s : State) (f : Status × Nat), firstFailure infoSliceRestore c s (checksSliceRestore c s) = some f)
    ∧ (∃ (c : Cmd) (s : State) (f : Status × Nat), firstFailure infoSliceSave c s (checksSliceSave c s) = some f)
    ∧ (∃ (c : Cmd) (s : State) (f : Status × Nat), firstFailure infoSnapshot c s ((checksSnapshot c)) = some f)
    ∧ (∃ (c : Cmd) (s : State) (f : Status × Nat), firstFailure infoTbQuery c s ((checksTbQuery c)) = some f)
    ∧ (∃ (c : Cmd) (s : State) (f : Status × Nat), firstFailure infoTbSet c s (checksTbSet c s) = some f)
    ∧ (∃ (c : Cmd) (s : State) (f : Status × Nat), firstFailure infoTbSlew c s ((checksTbSlew c)) = some f)
    ∧ (∃ (c : Cmd) (s : State) (f : Status × Nat), firstFailure infoTraceCfg c s (checksTraceCfg c s) = some f)
    ∧ (∃ (c : Cmd) (s : State) (f : Status × Nat), firstFailure infoTunAdopt c s (checksTunAdopt c s) = some f)
    ∧ (∃ (c : Cmd) (s : State) (f : Status × Nat), firstFailure infoTunAllotCfg c s (checksTunAllotCfg c s) = some f)
    ∧ (∃ (c : Cmd) (s : State) (f : Status × Nat), firstFailure infoTunCreate c s (checksTunCreate c s) = some f)
    ∧ (∃ (c : Cmd) (s : State) (f : Status × Nat), firstFailure infoTunDestroy c s (checksTunDestroy c s) = some f)
    ∧ (∃ (c : Cmd) (s : State) (f : Status × Nat), firstFailure infoTunModify c s (checksTunModify c s) = some f ∧ ((s.tunnel (le c.payload 0 2)).modify = none))
    ∧ (∃ (c : Cmd) (s : State) (f : Status × Nat), firstFailure infoTunQuery c s (checksTunQuery c s) = some f)
    ∧ (∃ (c : Cmd) (s : State) (f : Status × Nat), firstFailure infoUsbDevBind c s (checksUsbDevBind c s) = some f)
    ∧ (∃ (c : Cmd) (s : State) (f : Status × Nat), firstFailure infoUsbDevCtrl c s (checksUsbDevCtrl c s) = some f)
    ∧ (∃ (c : Cmd) (s : State) (f : Status × Nat), firstFailure infoUsbDevUnbind c s (checksUsbDevUnbind c s) = some f)
    ∧ (∃ (c : Cmd) (s : State) (f : Status × Nat), firstFailure infoUsbEpConfig c s (checksUsbEpConfig c s) = some f)
    ∧ (∃ (c : Cmd) (s : State) (f : Status × Nat), firstFailure infoUsbEpReset c s (checksUsbEpReset c s) = some f)
    ∧ (∃ (c : Cmd) (s : State) (f : Status × Nat), firstFailure infoUsbEpSetDeq c s (checksUsbEpSetDeq c s) = some f)
    ∧ (∃ (c : Cmd) (s : State) (f : Status × Nat), firstFailure infoUsbEpStop c s (checksUsbEpStop c s) = some f)
    ∧ (∃ (c : Cmd) (s : State) (f : Status × Nat), firstFailure infoUsbRootBind c s (checksUsbRootBind c s) = some f) :=
  ⟨⟨({ route := .mgmt } : Cmd), (up : State), ((.malformed, 0) : Status × Nat), by decide +kernel⟩,
   ⟨({ route := .mgmt } : Cmd), (up : State), ((.malformed, 0) : Status × Nat), by decide +kernel⟩,
   ⟨({ route := .mgmt } : Cmd), (up : State), ((.malformed, 0) : Status × Nat), by decide +kernel⟩,
   ⟨({ route := .mgmt } : Cmd), (up : State), ((.malformed, 0) : Status × Nat), by decide +kernel⟩,
   ⟨({ route := .mgmt } : Cmd), (up : State), ((.malformed, 0) : Status × Nat), by decide +kernel⟩,
   ⟨({ route := .mgmt } : Cmd), (up : State), ((.malformed, 0) : Status × Nat), by decide +kernel⟩,
   ⟨({ route := .mgmt } : Cmd), (up : State), ((.malformed, 0) : Status × Nat), by decide +kernel⟩,
   ⟨({ route := .mgmt } : Cmd), (up : State), ((.malformed, 0) : Status × Nat), by decide +kernel⟩,
   ⟨({ route := .mgmt } : Cmd), (up : State), ((.malformed, 0) : Status × Nat), by decide +kernel⟩,
   ⟨({ route := .mgmt } : Cmd), (up : State), ((.malformed, 0) : Status × Nat), by decide +kernel⟩,
   ⟨({ route := .mgmt } : Cmd), (up : State), ((.malformed, 0) : Status × Nat), by decide +kernel⟩,
   ⟨({ route := .mgmt } : Cmd), (up : State), ((.malformed, 0) : Status × Nat), by decide +kernel⟩,
   ⟨({ route := .mgmt } : Cmd), (up : State), ((.malformed, 0) : Status × Nat), by decide +kernel⟩,
   ⟨({ route := .mgmt } : Cmd), (up : State), ((.malformed, 0) : Status × Nat), by decide +kernel⟩,
   ⟨({ route := .mgmt } : Cmd), (up : State), ((.malformed, 0) : Status × Nat), by decide +kernel⟩,
   ⟨({ route := .mgmt } : Cmd), (up : State), ((.malformed, 0) : Status × Nat), by decide +kernel⟩,
   ⟨({ route := .mgmt } : Cmd), (up : State), ((.malformed, 0) : Status × Nat), by decide +kernel⟩,
   ⟨({ route := .mgmt } : Cmd), (up : State), ((.malformed, 0) : Status × Nat), by decide +kernel⟩,
   ⟨({ route := .mgmt } : Cmd), (up : State), ((.malformed, 0) : Status × Nat), by decide +kernel⟩,
   ⟨({ route := .mgmt } : Cmd), (up : State), ((.malformed, 0) : Status × Nat), by decide +kernel⟩,
   ⟨({ route := .mgmt } : Cmd), (up : State), ((.malformed, 0) : Status × Nat), by decide +kernel⟩,
   ⟨({ route := .mgmt } : Cmd), (up : State), ((.malformed, 0) : Status × Nat), by decide +kernel⟩,
   ⟨({} : Cmd), (up : State), ((.denied, 1) : Status × Nat), by decide +kernel⟩,
   ⟨({ route := .mgmt } : Cmd), (up : State), ((.malformed, 0) : Status × Nat), by decide +kernel⟩,
   ⟨({ route := .mgmt } : Cmd), (up : State), ((.malformed, 0) : Status × Nat), by decide +kernel⟩,
   ⟨({ route := .mgmt } : Cmd), (up : State), ((.malformed, 0) : Status × Nat), by decide +kernel⟩,
   ⟨({ route := .mgmt } : Cmd), (up : State), ((.malformed, 0) : Status × Nat), by decide +kernel⟩,
   ⟨({ route := .mgmt } : Cmd), (up : State), ((.malformed, 0) : Status × Nat), by decide +kernel⟩,
   ⟨({ route := .mgmt } : Cmd), (up : State), ((.malformed, 0) : Status × Nat), by decide +kernel⟩,
   ⟨({ route := .mgmt } : Cmd), (up : State), ((.malformed, 0) : Status × Nat), by decide +kernel⟩,
   ⟨({ route := .mgmt } : Cmd), (up : State), ((.malformed, 0) : Status × Nat), by decide +kernel⟩,
   ⟨({ route := .mgmt } : Cmd), (up : State), ((.malformed, 0) : Status × Nat), by decide +kernel⟩,
   ⟨({ route := .mgmt } : Cmd), (up : State), ((.malformed, 0) : Status × Nat), by decide +kernel⟩,
   ⟨({ route := .mgmt } : Cmd), (up : State), ((.malformed, 0) : Status × Nat), by decide +kernel⟩,
   ⟨({ route := .mgmt } : Cmd), (up : State), ((.malformed, 0) : Status × Nat), by decide +kernel⟩,
   ⟨({ route := .mgmt } : Cmd), (up : State), ((.malformed, 0) : Status × Nat), by decide +kernel⟩,
   ⟨({ route := .mgmt } : Cmd), (up : State), ((.malformed, 0) : Status × Nat), by decide +kernel⟩,
   ⟨({ route := .mgmt } : Cmd), (up : State), ((.malformed, 0) : Status × Nat), by decide +kernel⟩,
   ⟨({ route := .mgmt } : Cmd), (up : State), ((.malformed, 0) : Status × Nat), by decide +kernel⟩,
   ⟨({ route := .mgmt } : Cmd), (up : State), ((.malformed, 0) : Status × Nat), by decide +kernel⟩⟩

/-- Obligations.RefusedCommandsHaveNoEffect, part 3. -/
theorem hypotheses_met_RefusedCommandsHaveNoEffect_3 :
    (∃ (c : Cmd) (s : State) (f : Status × Nat), firstFailure infoUsbRootCtrl c s (checksUsbRootCtrl c s) = some f)
    ∧ (∃ (c : Cmd) (s : State) (f : Status × Nat), firstFailure infoUsbRootQuery c s (checksUsbRootQuery c s) = some f)
    ∧ (∃ (c : Cmd) (s : State) (f : Status × Nat), firstFailure infoUsbSlotAlloc c s (checksUsbSlotAlloc c s) = some f)
    ∧ (∃ (c : Cmd) (s : State) (f : Status × Nat), firstFailure infoUsbSlotFree c s (checksUsbSlotFree c s) = some f)
    ∧ (∃ (c : Cmd) (s : State) (f : Status × Nat), firstFailure infoImageSelect c s (selectChecks c s) = some f ∧ (c.late = false)) :=
  ⟨⟨({ route := .mgmt } : Cmd), (up : State), ((.malformed, 0) : Status × Nat), by decide +kernel⟩,
   ⟨({ route := .mgmt } : Cmd), (up : State), ((.malformed, 0) : Status × Nat), by decide +kernel⟩,
   ⟨({ route := .mgmt } : Cmd), (up : State), ((.malformed, 0) : Status × Nat), by decide +kernel⟩,
   ⟨({ route := .mgmt } : Cmd), (up : State), ((.malformed, 0) : Status × Nat), by decide +kernel⟩,
   ⟨({ route := .mgmt } : Cmd), (up : State), ((.malformed, 0) : Status × Nat), by decide +kernel⟩⟩

/-- Obligations.JournalEntriesAreChained. -/
theorem hypotheses_met_JournalEntriesAreChained :
    (∃ (s : State), s.silt.next = 0)
    ∧ (∃ (c : Cmd) (s : State), s.mayCarry infoDevIdentify c (checksDevIdentify c) = true) :=
  ⟨⟨(up : State), by decide +kernel⟩,
   ⟨({ route := .mbx 0 0 } : Cmd), (up : State), by decide +kernel⟩⟩

/-- Obligations.DeviceCommandsComplete. -/
theorem hypotheses_met_DeviceCommandsComplete :
    (∃ (c : Cmd) (s : State), s.mayCarry infoDevIdentify c ((checksDevIdentify c)) = true)
    ∧ (∃ (c : Cmd) (s : State), s.mayCarry infoDevConfigLock c (checksDevConfigLock c s) = true)
    ∧ (∃ (c : Cmd) (s : State), s.mayCarry infoCounterRead c ((checksCounterRead c)) = true ∧ (c.accessFailed = false ∧ c.route ≠ .diag))
    ∧ (∃ (c : Cmd) (s : State), s.mayCarry infoSnapshot c ((checksSnapshot c)) = true ∧ (c.accessFailed = false ∧ c.route ≠ .diag)) :=
  ⟨⟨({ route := .mbx 0 0 } : Cmd), (up : State), by decide +kernel⟩,
   ⟨({ route := .mgmt, payload := padTo 1 [0xA5] } : Cmd), (up : State), by decide +kernel⟩,
   ⟨({ route := .mbx 0 0, payload := padTo 20 [3, 2] } : Cmd), (up : State), by decide +kernel⟩,
   ⟨({ route := .mbx 0 0, payload := padTo 20 [] } : Cmd), (up : State), by decide +kernel⟩⟩

/-- Obligations.SwitchCommandsComplete. -/
theorem hypotheses_met_SwitchCommandsComplete :
    (∃ (c : Cmd) (s : State), s.mayCarry infoMarlPoolCfg c (checksMarlPoolCfg c s) = true)
    ∧ (∃ (c : Cmd) (s : State), s.mayCarry infoMarlQueueCfg c (checksMarlQueueCfg c s) = true)
    ∧ (∃ (c : Cmd) (s : State), s.mayCarry infoMarlAgeCfg c (checksMarlAgeCfg c s) = true) :=
  ⟨⟨({ route := .mbx 0 0, payload := padTo 12 [] } : Cmd), (up : State), by decide +kernel⟩,
   ⟨({ route := .mbx 0 0, payload := padTo 8 [0x10, 0, 0, 0, 64] } : Cmd), (up : State), by decide +kernel⟩,
   ⟨({ route := .mbx 0 0, payload := padTo 12 [0, 0, 0, 0, 1] } : Cmd), (up : State), by decide +kernel⟩⟩

/-- Obligations.TunnelCreateOpensAnEntry. -/
theorem hypotheses_met_TunnelCreateOpensAnEntry :
    (∃ (c : Cmd) (s : State), s.mayCarry infoTunCreate c (checksTunCreate c s) = true)
    ∧ (∃ (c : Cmd) (s : State), s.mayCarry infoTunCreate c (checksTunCreate c s) = true ∧ (planRoute c.route = true)) :=
  ⟨⟨({ route := .mbx 0 0, payload := padTo 16 [0, 0, 0x33, 0, 0, 0, 0, 0, 0, 0, 0, 0, 12] ++ toLe 104 0 } : Cmd), (up.modPort 0 fun x => { x with train := { x.train with state := .active } } : State), by decide +kernel⟩,
   ⟨({ route := .fw, payload := padTo 16 [0, 0, 0x33, 0, 0, 0, 0, 0, 0, 0, 0, 0, 12] ++ toLe 104 0 } : Cmd), (up.modPort 0 fun x => { x with train := { x.train with state := .active } } : State), by decide +kernel⟩⟩

/-- Obligations.TunnelCommandsComplete. -/
theorem hypotheses_met_TunnelCommandsComplete :
    (∃ (c : Cmd) (s : State), s.mayCarry infoTunModify c (checksTunModify c s) = true ∧ ((s.tunnel (le c.payload 0 2)).modify = none))
    ∧ (∃ (c : Cmd) (s : State) (tid : Nat), tid = le c.payload 0 2 ∧ (s.tunnel tid).modify.isSome = true ∧ (s.tunnel tid).state = .opened ∧ (s.tunnel tid).gen = BitVec.ofNat 8 (byteAt c.payload 2) ∧ s.waitsCtrl infoTunModify c = false ∧ firstFailure infoTunModify c s { checksTunModify c s with refuse := none } = none)
    ∧ (∃ (c : Cmd) (s : State), s.mayCarry infoTunQuery c (checksTunQuery c s) = true)
    ∧ (∃ (c : Cmd) (s : State), s.mayCarry infoTunAdopt c (checksTunAdopt c s) = true)
    ∧ (∃ (c : Cmd) (s : State), s.mayCarry infoTunAllotCfg c (checksTunAllotCfg c s) = true)
    ∧ (∃ (c : Cmd) (s : State), s.mayCarry infoTunDestroy c (checksTunDestroy c s) = true ∧ (s.tunWf = true)) :=
  ⟨⟨({ route := .mbx 0 0, payload := padTo 11 [] } : Cmd), (up.setTunnel 0 { state := .opened, owner := .slice 0 0, cls := 2, dirs := 3, rsvOut := 1, rsvIn := 1 } : State), by decide +kernel⟩,
   ⟨({ route := .mbx 0 0, payload := padTo 11 [] } : Cmd), (up.setTunnel 0 { state := .opened, owner := .slice 0 0, cls := 2, dirs := 3, rsvOut := 1, rsvIn := 1, modify := some {} } : State), (0 : Nat), by decide +kernel⟩,
   ⟨({ route := .mbx 0 0, payload := padTo 2 [] } : Cmd), (up : State), by decide +kernel⟩,
   ⟨({ route := .mbx 0 0, payload := padTo 6 [] } : Cmd), (up.setTunnel 0 { state := .opened, owner := .plan } : State), by decide +kernel⟩,
   ⟨({ route := .mbx 0 0, payload := padTo 12 [] } : Cmd), (up : State), by decide +kernel⟩,
   ⟨({ route := .mbx 0 0, payload := padTo 3 [] } : Cmd), (up.setTunnel 0 { state := .opened, owner := .slice 0 0, cls := 2, dirs := 3, rsvOut := 1, rsvIn := 1 } : State), by decide +kernel⟩⟩

/-- Obligations.LinkCommandsComplete. -/
theorem hypotheses_met_LinkCommandsComplete :
    (∃ (c : Cmd) (s : State), s.mayCarry infoPortLinkCtrl c (checksPortLinkCtrl c s) = true)
    ∧ (∃ (c : Cmd) (s : State), s.mayCarry infoPortLinkCtrl c (checksPortLinkCtrl c s) = true)
    ∧ (∃ (c : Cmd) (s : State), s.mayCarry infoPortLinkCtrl c (checksPortLinkCtrl c s) = true)
    ∧ (∃ (c : Cmd) (s : State), s.mayCarry infoPortLinkCtrl c (checksPortLinkCtrl c s) = true)
    ∧ (∃ (c : Cmd) (s : State), s.mayCarry infoPortLinkCtrl c (checksPortLinkCtrl c s) = true)
    ∧ (∃ (c : Cmd) (s : State), s.mayCarry infoPortLinkCtrl c (checksPortLinkCtrl c s) = true)
    ∧ (∃ (c : Cmd) (s : State), s.mayCarry infoPortLinkCtrl c (checksPortLinkCtrl c s) = true)
    ∧ (∃ (c : Cmd) (s : State), s.mayCarry infoPortLinkCfg c (checksPortLinkCfg c s) = true)
    ∧ (∃ (c : Cmd) (s : State), s.mayCarry infoPortLinkCfg c (checksPortLinkCfg c s) = true)
    ∧ (∃ (c : Cmd) (s : State), s.mayCarry infoPortLinkCfg c (checksPortLinkCfg c s) = true)
    ∧ (∃ (c : Cmd) (s : State), s.mayCarry infoPortNotifyBind c (checksPortNotifyBind c s) = true) :=
  ⟨⟨({ route := .mbx 0 0, payload := padTo 3 [0, 1, 0] } : Cmd), (up.modPort 0 fun x => { x with train := { x.train with state := .active }, outSet := 3, inSet := 12 } : State), by decide +kernel⟩,
   ⟨({ route := .mbx 0 0, payload := padTo 3 [0, 1, 3] } : Cmd), (up.modPort 0 fun x => { x with train := { x.train with state := .active }, outSet := 3, inSet := 12 } : State), by decide +kernel⟩,
   ⟨({ route := .mbx 0 0, payload := padTo 3 [0, 2, 0] } : Cmd), (up.modPort 0 fun x => { x with train := { x.train with state := .active }, outSet := 3, inSet := 12 } : State), by decide +kernel⟩,
   ⟨({ route := .mbx 0 0, payload := padTo 3 [0, 3, 0] } : Cmd), (up.modPort 0 fun x => { x with train := { x.train with state := .active }, outSet := 3, inSet := 12 } : State), by decide +kernel⟩,
   ⟨({ route := .mbx 0 0, payload := padTo 3 [0, 4, 0] } : Cmd), (up.modPort 0 fun x => { x with train := { x.train with state := .active }, outSet := 3, inSet := 12 } : State), by decide +kernel⟩,
   ⟨({ route := .mbx 0 0, payload := padTo 3 [0, 5, 0] } : Cmd), (up.modPort 0 fun x => { x with train := { x.train with state := .active }, outSet := 3, inSet := 12 } : State), by decide +kernel⟩,
   ⟨({ route := .mbx 0 0, payload := padTo 3 [0, 5, 0] } : Cmd), (up.modPort 0 fun x => { x with train := { x.train with state := .failed } } : State), by decide +kernel⟩,
   ⟨({ route := .mbx 0 0, payload := padTo 16 [] } : Cmd), (up : State), by decide +kernel⟩,
   ⟨({ route := .mbx 0 0, payload := padTo 16 [0, 1, 0, 0] } : Cmd), (up : State), by decide +kernel⟩,
   ⟨({ route := .mbx 0 0, payload := padTo 16 [0, 0, 0, 0] } : Cmd), (up : State), by decide +kernel⟩,
   ⟨({ route := .mbx 0 0, payload := padTo 3 [] } : Cmd), (up : State), by decide +kernel⟩⟩

/-- Obligations.PdCommandsTakeEffect. -/
theorem hypotheses_met_PdCommandsTakeEffect :
    (∃ (c : Cmd) (s : State), s.mayCarry infoPortPdCfg c (checksPortPdCfg c s) = true)
    ∧ (∃ (c : Cmd) (s : State), s.mayCarry infoPortFallbackCfg c (checksPortFallbackCfg c s) = true)
    ∧ (∃ (c : Cmd) (s : State), s.mayCarry infoPortPdQuery c ((checksPortPdQuery c)) = true)
    ∧ (∃ (c : Cmd) (s : State), s.mayCarry infoPortPdSwap c (checksPortPdSwap c s) = true)
    ∧ (∃ (c : Cmd) (s : State), s.mayCarry infoPortPdReset c (checksPortPdReset c s) = true)
    ∧ (∃ (c : Cmd) (s : State), s.mayCarry infoPortPdReset c (checksPortPdReset c s) = true)
    ∧ (∃ (c : Cmd) (s : State), s.mayCarry infoPortPdReset c (checksPortPdReset c s) = true)
    ∧ (∃ (c : Cmd) (s : State), s.mayCarry infoPortPdReset c (checksPortPdReset c s) = true)
    ∧ (∃ (c : Cmd) (s : State), s.mayCarry infoPortJaythRetry c (checksPortJaythRetry c s) = true ∧ (let d := (s.port (byteAt c.payload 0)).pd; d.fb.jaythEn = true ∧ d.pdOff = false)) :=
  ⟨⟨({ route := .mbx 0 0, payload := padTo 23 [] } : Cmd), (up : State), by decide +kernel⟩,
   ⟨({ route := .mbx 0 0, payload := padTo 3 [] } : Cmd), (up : State), by decide +kernel⟩,
   ⟨({ route := .mbx 0 0, payload := padTo 1 [] } : Cmd), (up : State), by decide +kernel⟩,
   ⟨({ route := .mbx 0 0, payload := padTo 2 [0, 3] } : Cmd), (up.modPd 0 fun d => { d with contract := some (1, 100, false) } : State), by decide +kernel⟩,
   ⟨({ route := .mbx 0 0, payload := padTo 2 [0, 1] } : Cmd), (up.modPd 0 fun d => { d with conn := .attachedSrc, contract := some (1, 100, false) } : State), by decide +kernel⟩,
   ⟨({ route := .mbx 0 0, payload := padTo 2 [0, 2] } : Cmd), (up.modPd 0 fun d => { d with conn := .attachedSrc, contract := some (1, 100, false) } : State), by decide +kernel⟩,
   ⟨({ route := .mbx 0 0, payload := padTo 2 [0, 3] } : Cmd), (up.modPd 0 fun d => { d with conn := .attachedSrc, contract := some (1, 100, false) } : State), by decide +kernel⟩,
   ⟨({ route := .mbx 0 0, payload := padTo 2 [0, 4] } : Cmd), (up : State), by decide +kernel⟩,
   ⟨({ route := .mbx 0 0, payload := padTo 1 [0] } : Cmd), (up.modPd 0 fun d => { d with conn := .attachedSrc, roles := { d.roles with dfp := true }, fb := { d.fb with jaythEn := true } } : State), by decide +kernel⟩⟩

/-- Obligations.TypeCAttachAndDetach. -/
theorem hypotheses_met_TypeCAttachAndDetach :
    (∃ (port : Fin 12) (source flipped : Bool) (s : State), s.ccHeld = false ∧ (s.port port).pd.mayAttach source = true ∧ ((s.port port).pd.conn = .unattached ∧ (source = true ∨ (s.port port).pd.triesSrc = false)
      ∨ (s.port port).pd.conn = .trySrc ∧ source = true ∨ (s.port port).pd.conn = .tryWaitSnk ∧ source = false) ∧ (s.port port).pd.fb.jaythEn = true ∧ (s.port port).pd.pdOff = false)
    ∧ (∃ (port : Fin 12) (source flipped : Bool) (s : State), s.ccHeld = false ∧ (s.port port).pd.mayAttach source = true ∧ ((s.port port).pd.conn = .unattached ∧ (source = true ∨ (s.port port).pd.triesSrc = false)
      ∨ (s.port port).pd.conn = .trySrc ∧ source = true ∨ (s.port port).pd.conn = .tryWaitSnk ∧ source = false) ∧ (s.port port).pd.fb.jaythEn = true ∧ (s.port port).pd.pdOff = false)
    ∧ (∃ (port : Fin 12) (source flipped : Bool) (s : State), s.ccHeld = false ∧ (s.port port).pd.mayAttach source = true ∧ ((s.port port).pd.conn = .unattached ∧ (source = true ∨ (s.port port).pd.triesSrc = false)
      ∨ (s.port port).pd.conn = .trySrc ∧ source = true ∨ (s.port port).pd.conn = .tryWaitSnk ∧ source = false) ∧ (s.port port).pd.fb.jaythEn = true ∧ (s.port port).pd.pdOff = false)
    ∧ (∃ (port : Fin 12) (source flipped : Bool) (s : State), s.ccHeld = false ∧ (s.port port).pd.mayAttach source = true ∧ ((s.port port).pd.conn = .unattached ∧ (source = true ∨ (s.port port).pd.triesSrc = false)
      ∨ (s.port port).pd.conn = .trySrc ∧ source = true ∨ (s.port port).pd.conn = .tryWaitSnk ∧ source = false) ∧ (s.port port).pd.fb.jaythEn = true ∧ (s.port port).pd.pdOff = false)
    ∧ (∃ (port : Fin 12) (flipped : Bool) (s : State), s.ccHeld = false ∧ (s.port port).pd.conn = .unattached ∧ (s.port port).pd.mayAttach false = true ∧ (s.port port).pd.triesSrc = true)
    ∧ (∃ (port : Fin 12) (s : State), (s.port port).pd.conn = .trySrc ∧ s.due ((s.port port).pd.timer tTryTimeout) = true)
    ∧ (∃ (port : Fin 12) (source flipped : Bool) (s : State), let d := (s.port port).pd
      (s.ccHeld = true ∨ d.mayAttach source = false ∨ d.conn = .trySrc ∧ source = false ∨ d.conn = .tryWaitSnk ∧ source = true
      ∨ d.conn = .attachedSrc ∨ d.conn = .attachedSnk ∨ d.conn = .errorRecovery))
    ∧ (∃ (port : Fin 12) (source flipped : Bool) (s : State), let d := (s.port port).pd
      (s.ccHeld = true ∨ d.mayAttach source = false ∨ d.conn = .trySrc ∧ source = false ∨ d.conn = .tryWaitSnk ∧ source = true
      ∨ d.conn = .attachedSrc ∨ d.conn = .attachedSnk ∨ d.conn = .errorRecovery))
    ∧ (∃ (port : Fin 12) (source flipped : Bool) (s : State), let d := (s.port port).pd
      (s.ccHeld = true ∨ d.mayAttach source = false ∨ d.conn = .trySrc ∧ source = false ∨ d.conn = .tryWaitSnk ∧ source = true
      ∨ d.conn = .attachedSrc ∨ d.conn = .attachedSnk ∨ d.conn = .errorRecovery))
    ∧ (∃ (port : Fin 12) (source flipped : Bool) (s : State), let d := (s.port port).pd
      (s.ccHeld = true ∨ d.mayAttach source = false ∨ d.conn = .trySrc ∧ source = false ∨ d.conn = .tryWaitSnk ∧ source = true
      ∨ d.conn = .attachedSrc ∨ d.conn = .attachedSnk ∨ d.conn = .errorRecovery))
    ∧ (∃ (port : Fin 12) (source flipped : Bool) (s : State), let d := (s.port port).pd
      (s.ccHeld = true ∨ d.mayAttach source = false ∨ d.conn = .trySrc ∧ source = false ∨ d.conn = .tryWaitSnk ∧ source = true
      ∨ d.conn = .attachedSrc ∨ d.conn = .attachedSnk ∨ d.conn = .errorRecovery))
    ∧ (∃ (port : Fin 12) (source flipped : Bool) (s : State), let d := (s.port port).pd
      (s.ccHeld = true ∨ d.mayAttach source = false ∨ d.conn = .trySrc ∧ source = false ∨ d.conn = .tryWaitSnk ∧ source = true
      ∨ d.conn = .attachedSrc ∨ d.conn = .attachedSnk ∨ d.conn = .errorRecovery))
    ∧ (∃ (port : Fin 12) (source flipped : Bool) (s : State), let d := (s.port port).pd
      (s.ccHeld = true ∨ d.mayAttach source = false ∨ d.conn = .trySrc ∧ source = false ∨ d.conn = .tryWaitSnk ∧ source = true
      ∨ d.conn = .attachedSrc ∨ d.conn = .attachedSnk ∨ d.conn = .errorRecovery))
    ∧ (∃ (port : Fin 12) (s : State), (s.port port).pd.conn ≠ .unattached)
    ∧ (∃ (port : Fin 12) (s : State), (s.port port).pd.conn = .unattached)
    ∧ (∃ (s : State) (p : Nat), (s.port p).pd.mode = .jayth)
    ∧ (∃ (s : State) (p : Nat), (s.boot.released = false ∨ s.boot.fuseLoaded = false))
    ∧ (∃ (d : Pd), d.conn = .unattached ∧ d.cfg.portMode = 0 ∧ d.lockout = false) :=
  ⟨⟨(0 : Fin 12), (true : Bool), (false : Bool), (up.modPd 0 fun d => { d with fb := { d.fb with jaythEn := true }, cfg := { d.cfg with portMode := 1 } } : State), by decide +kernel⟩,
   ⟨(0 : Fin 12), (false : Bool), (false : Bool), (up.modPd 0 fun d => { d with fb := { d.fb with jaythEn := true }, cfg := { d.cfg with portMode := 2 } } : State), by decide +kernel⟩,
   ⟨(0 : Fin 12), (true : Bool), (false : Bool), (up.modPd 0 fun d => { d with conn := .trySrc, fb := { d.fb with jaythEn := true } } : State), by decide +kernel⟩,
   ⟨(0 : Fin 12), (false : Bool), (false : Bool), (up.modPd 0 fun d => { d with conn := .tryWaitSnk, fb := { d.fb with jaythEn := true } } : State), by decide +kernel⟩,
   ⟨(0 : Fin 12), (false : Bool), (up.modPd 0 fun d => { d with cfg := { d.cfg with portMode := 0, trySrc := true } } : State), by decide +kernel⟩,
   ⟨(0 : Fin 12), ((upAt 2000).modPd 0 fun d => { d with conn := .trySrc, timers := [(tTryTimeout, 1000)] } : State), by decide +kernel⟩,
   ⟨(0 : Fin 12), (false : Bool), (false : Bool), ({ up with boot := { up.boot with fuseLoaded := false } } : State), by dsimp only; decide +kernel⟩,
   ⟨(0 : Fin 12), (true : Bool), (false : Bool), (up.modPd 0 fun d => { d with cfg := { d.cfg with portMode := 2 } } : State), by dsimp only; decide +kernel⟩,
   ⟨(0 : Fin 12), (false : Bool), (false : Bool), (up.modPd 0 fun d => { d with conn := .trySrc } : State), by dsimp only; decide +kernel⟩,
   ⟨(0 : Fin 12), (true : Bool), (false : Bool), (up.modPd 0 fun d => { d with conn := .tryWaitSnk } : State), by dsimp only; decide +kernel⟩,
   ⟨(0 : Fin 12), (false : Bool), (false : Bool), (up.modPd 0 fun d => { d with conn := .attachedSrc } : State), by dsimp only; decide +kernel⟩,
   ⟨(0 : Fin 12), (false : Bool), (false : Bool), (up.modPd 0 fun d => { d with conn := .attachedSnk } : State), by dsimp only; decide +kernel⟩,
   ⟨(0 : Fin 12), (false : Bool), (false : Bool), (up.modPd 0 fun d => { d with conn := .errorRecovery } : State), by dsimp only; decide +kernel⟩,
   ⟨(0 : Fin 12), (up.modPd 0 fun d => { d with conn := .attachedSnk } : State), by decide +kernel⟩,
   ⟨(0 : Fin 12), (up : State), by decide +kernel⟩,
   ⟨(up.modPd 0 fun d => { d with mode := .jayth } : State), (0 : Nat), by decide +kernel⟩,
   ⟨({ up with boot := { up.boot with fuseLoaded := false } } : State), (0 : Nat), by decide +kernel⟩,
   ⟨({} : Pd), by decide +kernel⟩⟩

/-- Obligations.PowerDeliveryEvents. -/
theorem hypotheses_met_PowerDeliveryEvents :
    (∃ (port : Fin 12) (bytes : List Byte) (s : State), (s.port port).pd.pdOff = false ∧ ((s.port port).pd.conn = .attachedSrc ∨ (s.port port).pd.conn = .attachedSnk) ∧ le bytes 0 2 % 32 = 7 ∧ bits (le bytes 0 2) 14 12 = 0 ∧ bitOf (le bytes 0 2) 15 = false ∧ (s.port port).pd.bist = 0)
    ∧ (∃ (port : Fin 12) (bytes : List Byte) (s : State), (s.port port).pd.pdOff = false ∧ ((s.port port).pd.conn = .attachedSrc ∨ (s.port port).pd.conn = .attachedSnk) ∧ le bytes 0 2 % 32 = 2 ∧ bits (le bytes 0 2) 14 12 ≠ 0 ∧ bitOf (le bytes 0 2) 15 = false ∧ (s.port port).pd.roles.source = true ∧ (s.port port).pd.nego = none ∧ (s.port port).pd.swap = none ∧ (s.port port).pd.epr = false ∧ (s.port port).pd.awaiting ≠ 3 ∧ (s.port port).pd.bist = 0)
    ∧ (∃ (port : Fin 12) (bytes : List Byte) (s : State), (s.port port).pd.pdOff = false ∧ ((s.port port).pd.conn = .attachedSrc ∨ (s.port port).pd.conn = .attachedSnk) ∧ le bytes 0 2 % 32 = 2 ∧ bits (le bytes 0 2) 14 12 ≠ 0 ∧ bitOf (le bytes 0 2) 15 = false ∧ (s.port port).pd.roles.source = true ∧ (s.port port).pd.nego = none ∧ (s.port port).pd.swap = none ∧ (s.port port).pd.epr = false ∧ (s.port port).pd.awaiting ≠ 3 ∧ (s.port port).pd.bist = 0)
    ∧ (∃ (port : Fin 12) (bytes : List Byte) (s : State), (s.port port).pd.pdOff = false ∧ ((s.port port).pd.conn = .attachedSrc ∨ (s.port port).pd.conn = .attachedSnk) ∧ le bytes 0 2 % 32 = 2 ∧ bits (le bytes 0 2) 14 12 ≠ 0 ∧ bitOf (le bytes 0 2) 15 = false ∧ (s.port port).pd.roles.source = true ∧ (s.port port).pd.nego = none ∧ (s.port port).pd.swap = none ∧ (s.port port).pd.epr = false ∧ (s.port port).pd.awaiting ≠ 3 ∧ (s.port port).pd.bist = 0)
    ∧ (∃ (port : Fin 12) (s : State), (s.port port).pd.pdOff = false ∧ ((s.port port).pd.conn = .attachedSrc ∨ (s.port port).pd.conn = .attachedSnk))
    ∧ (∃ (port : Fin 12) (s : State), (s.port port).pd.pdOff = false ∧ ((s.port port).pd.conn = .attachedSrc ∨ (s.port port).pd.conn = .attachedSnk))
    ∧ (∃ (port : Fin 12) (s : State), (s.port port).pd.epr = true ∧ s.due (s.port port).pd.eprDue = true)
    ∧ (∃ (port : Fin 12) (n : Nat) (s : State), s.due ((s.port port).pd.timer n) = false)
    ∧ (∃ (port : Fin 12) (k : Nat × Nat × Bool) (s : State), s.due ((s.port port).pd.timer tSrcTransition) = true ∧ (s.port port).pd.nego = some k)
    ∧ (∃ (port : Fin 12) (s : State), s.due ((s.port port).pd.timer tErrorRecovery) = true)
    ∧ (∃ (port : Fin 12) (n : Nat) (s : State), (n = tPsSourceOff ∨ n = tPsSourceOn) ∧ s.due ((s.port port).pd.timer n) = true)
    ∧ (∃ (port : Fin 12) (n : Nat) (s : State), (n = tPsSourceOff ∨ n = tPsSourceOn) ∧ s.due ((s.port port).pd.timer n) = true)
    ∧ (∃ (port : Fin 12) (unacked : Bool) (s : State), (s.port port).pd.pdOff = false ∧ ((s.port port).pd.conn = .attachedSrc ∨ (s.port port).pd.conn = .attachedSnk) ∧ (unacked = true ∨ s.due (s.port port).pd.senderDue = true) ∧ (s.port port).pd.awaiting ≠ 2 ∧ (s.port port).pd.awaiting ≠ 3 ∧ (∀ w, (s.port port).pd.swap = some w → w.kind ≠ 4))
    ∧ (∃ (port : Fin 12) (unacked : Bool) (s : State), (s.port port).pd.pdOff = false ∧ ((s.port port).pd.conn = .attachedSrc ∨ (s.port port).pd.conn = .attachedSnk) ∧ (unacked = true ∨ s.due (s.port port).pd.senderDue = true) ∧ (s.port port).pd.awaiting ≠ 2 ∧ (s.port port).pd.awaiting ≠ 3 ∧ (∀ w, (s.port port).pd.swap = some w → w.kind ≠ 4))
    ∧ (∃ (port : Fin 12) (w : Swap) (s : State), (s.port port).pd.parked = some w ∧ (s.port port).pd.swap = none ∧ s.due w.retryDue = true)
    ∧ (∃ (port : Fin 12) (s : State), let d := (s.port port).pd
      d.conn ≠ .unattached ∧ d.pdOff = false ∧ d.pd3 = true ∧ d.cfg.frsEn = true ∧ d.roles.source = false ∧ d.contract.isSome = true ∧ (∀ w, d.swap = some w → w.kind ≠ 4))
    ∧ (∃ (port : Fin 12) (s : State), let d := (s.port port).pd
      d.capsDue.isSome = true ∧ d.roles.source = true ∧ d.contract.isSome = true ∧ d.nego = none ∧ d.swap = none ∧ d.ams = 0 ∧ (d.pd3 = false ∨ d.sinkTxNg = true))
    ∧ (∃ (port : Fin 12) (s : State), let d := (s.port port).pd
      d.capsDue.isSome = true ∧ d.roles.source = true ∧ d.contract.isSome = true ∧ d.nego = none ∧ d.swap = none ∧ d.ams = 0 ∧ (d.pd3 = false ∨ d.sinkTxNg = true))
    ∧ (∃ (port : Fin 12) (s : State), let d := (s.port port).pd
      d.capsDue.isSome = true ∧ d.roles.source = true ∧ d.contract.isSome = true ∧ d.nego = none ∧ d.swap = none ∧ d.ams = 0 ∧ (d.pd3 = false ∨ d.sinkTxNg = true))
    ∧ (∃ (port : Fin 12) (bytes data : List Byte) (s : State), let d := (s.port port).pd
      let num := bits (le bytes 2 2) 14 11
      d.pdOff = false ∧ (d.conn = .attachedSrc ∨ d.conn = .attachedSnk) ∧ d.bist = 0 ∧ bitOf (le bytes 0 2) 15 = true ∧ 2 ≤ bits (le bytes 0 2) 7 6 ∧ bitOf (le bytes 2 2) 15 = true ∧ bitOf (le bytes 2 2) 10 = true ∧ d.chunkOut = some (le bytes 0 2 % 32, data) ∧ 26 * num < data.length)
    ∧ (∃ (port : Fin 12) (bytes : List Byte) (s : State), let d := (s.port port).pd
      d.pdOff = false ∧ (d.conn = .attachedSrc ∨ d.conn = .attachedSnk) ∧ d.bist = 0 ∧ le bytes 0 2 % 32 = 3 ∧ bits (le bytes 0 2) 14 12 ≠ 0 ∧ bitOf (le bytes 0 2) 15 = false ∧ le bytes 2 4 / 2 ^ 28 = 5 ∧ d.contract.map Prod.fst = some 0)
    ∧ (∃ (port : Fin 12) (s : State), let d := (s.port port).pd
      d.epr = true ∧ d.roles.source = true ∧ s.due (d.timer tSourceActivity) = true) :=
  ⟨⟨(0 : Fin 12), (toLe 2 7 : List Byte), (up.modPd 0 fun d => { d with conn := .attachedSrc, roles := { d.roles with source := true } } : State), by decide +kernel⟩,
   ⟨(0 : Fin 12), (toLe 2 (2 + 2 ^ 12) ++ toLe 4 (2 ^ 28 + 1024 * 50) : List Byte), (up.modPd 0 fun d => { d with conn := .attachedSrc, roles := { d.roles with source := true } } : State), by decide +kernel⟩,
   ⟨(0 : Fin 12), (toLe 2 (2 + 2 ^ 12) ++ toLe 4 (2 ^ 28 + 1024 * 1000) : List Byte), (up.modPd 0 fun d => { d with conn := .attachedSrc, roles := { d.roles with source := true } } : State), by decide +kernel⟩,
   ⟨(0 : Fin 12), (toLe 2 (2 + 2 ^ 12) ++ toLe 4 0 : List Byte), (up.modPd 0 fun d => { d with conn := .attachedSrc, roles := { d.roles with source := true } } : State), by decide +kernel⟩,
   ⟨(0 : Fin 12), (up.modPd 0 fun d => { d with conn := .attachedSrc, roles := { d.roles with source := true } } : State), by decide +kernel⟩,
   ⟨(0 : Fin 12), (up.modPd 0 fun d => { d with conn := .attachedSnk } : State), by decide +kernel⟩,
   ⟨(0 : Fin 12), ((upAt 2000).modPd 0 fun d => { d with epr := true, eprDue := some 1000 } : State), by decide +kernel⟩,
   ⟨(0 : Fin 12), (tSrcTransition : Nat), (up : State), by decide +kernel⟩,
   ⟨(0 : Fin 12), ((5, 50, false) : Nat × Nat × Bool), ((upAt 2000).modPd 0 fun d => { d with timers := [(tSrcTransition, 1000)], nego := some (5, 50, false) } : State), by decide +kernel⟩,
   ⟨(0 : Fin 12), ((upAt 2000).modPd 0 fun d => { d with conn := .errorRecovery, timers := [(tErrorRecovery, 1000)] } : State), by decide +kernel⟩,
   ⟨(0 : Fin 12), (tPsSourceOff : Nat), ((upAt 2000).modPd 0 fun d => { d with conn := .attachedSrc, timers := [(tPsSourceOff, 1000)] } : State), by decide +kernel⟩,
   ⟨(0 : Fin 12), (tPsSourceOn : Nat), ((upAt 2000).modPd 0 fun d => { d with conn := .attachedSrc, timers := [(tPsSourceOn, 1000)] } : State), by decide +kernel⟩,
   ⟨(0 : Fin 12), (true : Bool), (up.modPd 0 fun d => { d with conn := .attachedSnk } : State), by decide +kernel⟩,
   ⟨(0 : Fin 12), (false : Bool), ((upAt 2000).modPd 0 fun d => { d with conn := .attachedSnk, senderDue := some 1000 } : State), by decide +kernel⟩,
   ⟨(0 : Fin 12), ({ kind := 2, own := true, retryDue := some 1000 } : Swap), ((upAt 2000).modPd 0 fun d => { d with conn := .attachedSnk, parked := some { kind := 2, own := true, retryDue := some 1000 } } : State), by decide +kernel⟩,
   ⟨(0 : Fin 12), (up.modPd 0 fun d => { d with conn := .attachedSnk, cfg := { d.cfg with frsEn := true }, contract := some (1, 100, false) } : State), by decide +kernel⟩,
   ⟨(0 : Fin 12), (up.modPd 0 fun d => { d with conn := .attachedSrc, roles := { d.roles with source := true }, capsDue := some 0, contract := some (1, 100, false), sinkTxNg := true } : State), by dsimp only; decide +kernel⟩,
   ⟨(0 : Fin 12), (up.modPd 0 fun d => { d with conn := .attachedSrc, roles := { d.roles with source := true }, capsDue := some 0, contract := some (1, 100, false), pd3 := false } : State), by dsimp only; decide +kernel⟩,
   ⟨(0 : Fin 12), (up.modPd 0 fun d => { d with conn := .attachedSrc, roles := { d.roles with source := true }, capsDue := some 0, contract := some (1, 100, true), sinkTxNg := true, epr := true } : State), by dsimp only; decide +kernel⟩,
   ⟨(0 : Fin 12), (toLe 2 (0x8080 + 17) ++ toLe 2 0x8C00 : List Byte), (List.replicate 30 1 : List Byte), (up.modPd 0 fun d => { d with conn := .attachedSrc, chunkOut := some (17, List.replicate 30 1) } : State), by dsimp only; decide +kernel⟩,
   ⟨(0 : Fin 12), (toLe 2 0x1003 ++ toLe 4 0x50000000 : List Byte), (up.modPd 0 fun d => { d with conn := .attachedSnk, contract := some (0, 100, false) } : State), by dsimp only; decide +kernel⟩,
   ⟨(0 : Fin 12), ((upAt 2000).modPd 0 fun d => { d with conn := .attachedSrc, epr := true, roles := { d.roles with source := true }, timers := [(tSourceActivity, 1000)] } : State), by dsimp only; decide +kernel⟩⟩

/-- Obligations.PowerStageEvents. -/
theorem hypotheses_met_PowerStageEvents :
    (∃ (port : Fin 12) (mv : Nat) (ma : Int) (s : State), (s.port port).pd.transit = none ∧ (s.port port).pd.contract = none)
    ∧ (∃ (port : Fin 12) (mv target : Nat) (ma : Int) (fin : Time) (s : State), (s.port port).pd.transit = some (target, 0, fin))
    ∧ (∃ (port : Fin 12) (mv target : Nat) (ma : Int) (fin : Time) (s : State), (s.port port).pd.transit = some (target, 0, fin))
    ∧ (∃ (port : Fin 12) (mv n : Nat) (ma : Int) (fin : Time) (s : State), (s.port port).pd.transit = some (0, n + 1, fin) ∧ mv < 800 ∧ (s.port port).pd.swap = none)
    ∧ (∃ (port : Fin 12) (mv code cur : Nat) (e : Bool) (ma : Int) (s : State), (s.port port).pd.transit = none ∧ (s.port port).pd.contract = some (code, cur, e) ∧ (s.port port).pd.pins.srcEn = true ∧ (11 * cur : Int) < ma)
    ∧ (∃ (port : Fin 12) (target n : Nat) (fin : Time) (s : State), (s.port port).pd.transit = some (target, n, fin) ∧ target ≠ 0 ∧ s.due (some fin) = true)
    ∧ (∃ (port : Fin 12) (s : State), (s.port port).pd.pins.srcEn = true)
    ∧ (∃ (port : Fin 12) (s : State), (s.port port).pd.pins.srcEn = false ∧ (s.port port).pd.pins.snkEn = true) :=
  ⟨⟨(0 : Fin 12), (5000 : Nat), (0 : Int), (up : State), by decide +kernel⟩,
   ⟨(0 : Fin 12), (5000 : Nat), (5000 : Nat), (0 : Int), (9000 : Time), (up.modPd 0 fun d => { d with transit := some (5000, 0, 9000) } : State), by decide +kernel⟩,
   ⟨(0 : Fin 12), (9000 : Nat), (5000 : Nat), (0 : Int), (9000 : Time), (up.modPd 0 fun d => { d with transit := some (5000, 0, 9000) } : State), by decide +kernel⟩,
   ⟨(0 : Fin 12), (100 : Nat), (0 : Nat), (0 : Int), (9000 : Time), (up.modPd 0 fun d => { d with transit := some (0, 1, 9000) } : State), by decide +kernel⟩,
   ⟨(0 : Fin 12), (5000 : Nat), (1 : Nat), (100 : Nat), (false : Bool), (1101 : Int), (up.modPd 0 fun d => { d with contract := some (1, 100, false), pins := { d.pins with srcEn := true } } : State), by decide +kernel⟩,
   ⟨(0 : Fin 12), (5000 : Nat), (0 : Nat), (1000 : Time), ((upAt 2000).modPd 0 fun d => { d with transit := some (5000, 0, 1000) } : State), by decide +kernel⟩,
   ⟨(0 : Fin 12), (up.modPd 0 fun d => { d with pins := { d.pins with srcEn := true } } : State), by decide +kernel⟩,
   ⟨(0 : Fin 12), (up.modPd 0 fun d => { d with pins := { d.pins with snkEn := true } } : State), by decide +kernel⟩⟩

/-- Obligations.UsbRootCommandsTakeEffect. -/
theorem hypotheses_met_UsbRootCommandsTakeEffect :
    (∃ (c : Cmd) (s : State), s.mayCarry infoUsbRootBind c (checksUsbRootBind c s) = true)
    ∧ (∃ (c : Cmd) (s : State), s.mayCarry infoUsbRootCtrl c (checksUsbRootCtrl c s) = true ∧ (byteAt c.payload 1 ∈ [1, 7, 8, 9, 10] ∨ (byteAt c.payload 1 = 5 ∧ (s.root (byteAt c.payload 0)).state = .enabled)
      ∨ (byteAt c.payload 1 = 6 ∧ (s.root (byteAt c.payload 0)).state = .suspending)))
    ∧ (∃ (c : Cmd) (s : State), s.mayCarry infoUsbRootCtrl c (checksUsbRootCtrl c s) = true ∧ (byteAt c.payload 1 ∈ [1, 7, 8, 9, 10] ∨ (byteAt c.payload 1 = 5 ∧ (s.root (byteAt c.payload 0)).state = .enabled)
      ∨ (byteAt c.payload 1 = 6 ∧ (s.root (byteAt c.payload 0)).state = .suspending)))
    ∧ (∃ (c : Cmd) (s : State), s.mayCarry infoUsbRootCtrl c (checksUsbRootCtrl c s) = true ∧ (byteAt c.payload 1 ∈ [1, 7, 8, 9, 10] ∨ (byteAt c.payload 1 = 5 ∧ (s.root (byteAt c.payload 0)).state = .enabled)
      ∨ (byteAt c.payload 1 = 6 ∧ (s.root (byteAt c.payload 0)).state = .suspending)))
    ∧ (∃ (c : Cmd) (s : State), s.mayCarry infoUsbRootCtrl c (checksUsbRootCtrl c s) = true ∧ (byteAt c.payload 1 ∈ [1, 7, 8, 9, 10] ∨ (byteAt c.payload 1 = 5 ∧ (s.root (byteAt c.payload 0)).state = .enabled)
      ∨ (byteAt c.payload 1 = 6 ∧ (s.root (byteAt c.payload 0)).state = .suspending)))
    ∧ (∃ (c : Cmd) (s : State), s.mayCarry infoUsbRootCtrl c (checksUsbRootCtrl c s) = true ∧ (byteAt c.payload 1 ∈ [1, 7, 8, 9, 10] ∨ (byteAt c.payload 1 = 5 ∧ (s.root (byteAt c.payload 0)).state = .enabled)
      ∨ (byteAt c.payload 1 = 6 ∧ (s.root (byteAt c.payload 0)).state = .suspending)))
    ∧ (∃ (c : Cmd) (s : State), s.mayCarry infoUsbRootCtrl c (checksUsbRootCtrl c s) = true ∧ (byteAt c.payload 1 ∈ [1, 7, 8, 9, 10] ∨ (byteAt c.payload 1 = 5 ∧ (s.root (byteAt c.payload 0)).state = .enabled)
      ∨ (byteAt c.payload 1 = 6 ∧ (s.root (byteAt c.payload 0)).state = .suspending)))
    ∧ (∃ (c : Cmd) (s : State), s.mayCarry infoUsbRootCtrl c (checksUsbRootCtrl c s) = true ∧ (byteAt c.payload 1 ∈ [1, 7, 8, 9, 10] ∨ (byteAt c.payload 1 = 5 ∧ (s.root (byteAt c.payload 0)).state = .enabled)
      ∨ (byteAt c.payload 1 = 6 ∧ (s.root (byteAt c.payload 0)).state = .suspending)))
    ∧ (∃ (c : Cmd) (s : State), s.mayCarry infoUsbRootCtrl c (checksUsbRootCtrl c s) = true ∧ (byteAt c.payload 1 = 2))
    ∧ (∃ (c : Cmd) (s : State), s.mayCarry infoUsbRootCtrl c (checksUsbRootCtrl c s) = true ∧ ((byteAt c.payload 1 = 3 ∨ byteAt c.payload 1 = 4) ∧ tunnelled (byteAt c.payload 0) = false))
    ∧ (∃ (c : Cmd) (s : State), s.mayCarry infoUsbRootCtrl c (checksUsbRootCtrl c s) = true ∧ ((byteAt c.payload 1 = 3 ∨ byteAt c.payload 1 = 4) ∧ tunnelled (byteAt c.payload 0) = false)) :=
  ⟨⟨({ route := .mbx 0 0, payload := padTo 24 [] } : Cmd), (up : State), by decide +kernel⟩,
   ⟨({ route := .mbx 0 0, payload := padTo 8 [0, 1] } : Cmd), ((up.setRoot 0 { owner := some (0, 0), state := .poweredOff }).modPd 0 fun d => { d with mode := .fallback, conn := .attachedSrc, roles := { d.roles with dfp := true, source := true }, fb := { d.fb with hostEn := true }, fbNow := { d.fbNow with hostEn := true }, contract := some (1, 100, false) } : State), by decide +kernel⟩,
   ⟨({ route := .mbx 0 0, payload := padTo 8 [0, 5] } : Cmd), (up.setRoot 0 { owner := some (0, 0), state := .enabled } : State), by decide +kernel⟩,
   ⟨({ route := .mbx 0 0, payload := padTo 8 [0, 6] } : Cmd), (up.setRoot 0 { owner := some (0, 0), state := .suspending } : State), by decide +kernel⟩,
   ⟨({ route := .mbx 0 0, payload := padTo 8 [0, 7] } : Cmd), (up.setRoot 0 { owner := some (0, 0), state := .enabled } : State), by decide +kernel⟩,
   ⟨({ route := .mbx 0 0, payload := padTo 8 [0, 8] } : Cmd), (up.setRoot 0 { owner := some (0, 0), state := .enabled } : State), by decide +kernel⟩,
   ⟨({ route := .mbx 0 0, payload := padTo 8 [0, 9] } : Cmd), (up.setRoot 0 { owner := some (0, 0), state := .enabled } : State), by decide +kernel⟩,
   ⟨({ route := .mbx 0 0, payload := padTo 8 [0, 10] } : Cmd), (up.setRoot 0 { owner := some (0, 0), state := .poweredOff } : State), by decide +kernel⟩,
   ⟨({ route := .mbx 0 0, payload := padTo 8 [0, 2] } : Cmd), (up.setRoot 0 { owner := some (0, 0), state := .enabled } : State), by decide +kernel⟩,
   ⟨({ route := .mbx 0 0, payload := padTo 8 [0, 3] } : Cmd), (up.setRoot 0 { owner := some (0, 0), state := .connected } : State), by decide +kernel⟩,
   ⟨({ route := .mbx 0 0, payload := padTo 8 [0, 4] } : Cmd), (up.setRoot 0 { owner := some (0, 0), state := .connected } : State), by decide +kernel⟩⟩

/-- Obligations.UsbSlotAndEndpointCommandsComplete. -/
theorem hypotheses_met_UsbSlotAndEndpointCommandsComplete :
    (∃ (c : Cmd) (s : State), s.mayCarry infoUsbSlotAlloc c (checksUsbSlotAlloc c s) = true)
    ∧ (∃ (c : Cmd) (s : State), s.mayCarry infoUsbSlotFree c (checksUsbSlotFree c s) = true)
    ∧ (∃ (c : Cmd) (s : State), s.mayCarry infoUsbEpConfig c (checksUsbEpConfig c s) = true ∧ (bitOf (byteAt c.payload 2) 7 = true ∧ bitOf (le c.payload 0 2) 15 = false))
    ∧ (∃ (c : Cmd) (s : State), s.mayCarry infoUsbEpConfig c (checksUsbEpConfig c s) = true ∧ (bitOf (byteAt c.payload 2) 7 = false ∧ (s.ep (le c.payload 24 2)).chain = none ∧ (s.ep (le c.payload 24 2)).used = 0))
    ∧ (∃ (c : Cmd) (s : State), s.mayCarry infoUsbEpReset c (checksUsbEpReset c s) = true)
    ∧ (∃ (c : Cmd) (s : State), s.mayCarry infoUsbEpStop c (checksUsbEpStop c s) = true)
    ∧ (∃ (c : Cmd) (s : State), s.mayCarry infoUsbEpSetDeq c (checksUsbEpSetDeq c s) = true)
    ∧ (∃ (c : Cmd) (s : State), s.mayCarry infoUsbRootQuery c (checksUsbRootQuery c s) = true) :=
  ⟨⟨({ route := .mbx 0 0, payload := padTo 11 [0] } : Cmd), (up.setRoot 0 { owner := some (0, 0), state := .enabled } : State), by decide +kernel⟩,
   ⟨({ route := .mbx 0 0, payload := padTo 2 [0] } : Cmd), ((up.setRoot 0 { owner := some (0, 0), state := .enabled }).setDslot 0 { root := 0, alloc := true } : State), by decide +kernel⟩,
   ⟨({ route := .mbx 0 0, payload := toLe 2 0 ++ [0xC0, 4] ++ toLe 2 64 ++ toLe 6 0 ++ toLe 4 0x80000000 ++ toLe 8 0 ++ toLe 2 0xFFFF } : Cmd), ((up.setRoot 0 { owner := some (0, 0), state := .enabled }).setDslot 0 { root := 0, alloc := true } : State), by decide +kernel⟩,
   ⟨({ route := .mbx 0 0, payload := toLe 2 0 ++ [0x40, 4] ++ toLe 2 64 ++ toLe 6 0 ++ toLe 4 0x80000000 ++ toLe 8 0 ++ toLe 2 0 } : Cmd), (up.setEp 0 { owner := some (0, 0), state := .stopped, ringLog2 := 4 } : State), by decide +kernel⟩,
   ⟨({ route := .mbx 0 0, payload := padTo 2 [] } : Cmd), (up.setEp 0 { owner := some (0, 0), state := .stopped, ringLog2 := 4 } : State), by decide +kernel⟩,
   ⟨({ route := .mbx 0 0, payload := padTo 2 [] } : Cmd), (up.setEp 0 { owner := some (0, 0), state := .active, ringLog2 := 4 } : State), by decide +kernel⟩,
   ⟨({ route := .mbx 0 0, payload := padTo 4 [] } : Cmd), (up.setEp 0 { owner := some (0, 0), state := .stopped, ringLog2 := 4 } : State), by decide +kernel⟩,
   ⟨({ route := .mbx 0 0, payload := padTo 4 [0] } : Cmd), (up.setRoot 0 { owner := some (0, 0), state := .enabled } : State), by decide +kernel⟩⟩

/-- Obligations.UsbDeviceCommandsTakeEffect. -/
theorem hypotheses_met_UsbDeviceCommandsTakeEffect :
    (∃ (c : Cmd) (s : State), s.mayCarry infoUsbDevBind c (checksUsbDevBind c s) = true ∧ (∀ n, n < 2 → (s.fn n).bound = true → (s.fn n).port ≠ byteAt c.payload 0))
    ∧ (∃ (c : Cmd) (s : State), s.mayCarry infoUsbDevUnbind c (checksUsbDevUnbind c s) = true)
    ∧ (∃ (c : Cmd) (s : State), s.mayCarry infoUsbDevCtrl c (checksUsbDevCtrl c s) = true ∧ (byteAt c.payload 1 = 1))
    ∧ (∃ (c : Cmd) (s : State), s.mayCarry infoUsbDevCtrl c (checksUsbDevCtrl c s) = true ∧ (byteAt c.payload 1 ≠ 1))
    ∧ (∃ (c : Cmd) (s : State), s.mayCarry infoUsbDevCtrl c (checksUsbDevCtrl c s) = true ∧ (byteAt c.payload 1 ≠ 1)) :=
  ⟨⟨({ route := .mbx 0 0, payload := padTo 16 [0, 0, 0, 0, 27], data := .ok [18, 1, 0, 2, 0, 0, 0, 64, 0, 0, 0, 0, 0, 0, 0, 0, 0, 1, 9, 2, 9, 0, 0, 1, 0, 0, 50] } : Cmd), (up : State), by decide +kernel⟩,
   ⟨({ route := .mbx 0 0, payload := padTo 1 [0] } : Cmd), (up.setFn 0 { bound := true, owner := some (0, 0), state := .suspended, wakeEn := true } : State), by decide +kernel⟩,
   ⟨({ route := .mbx 0 0, payload := padTo 4 [0, 1] } : Cmd), (up.setFn 0 { bound := true, owner := some (0, 0), state := .suspended, wakeEn := true } : State), by decide +kernel⟩,
   ⟨({ route := .mbx 0 0, payload := padTo 4 [0, 2] } : Cmd), ((up.setFn 0 { bound := true, owner := some (0, 0), state := .configured, desc := diagDesc, config := 1 }).setEp 0 { owner := some (0, 0), slot := 0x8000, num := 1, dirIn := true, typ := 2, mps := 64, state := .active, ringLog2 := 4 } : State), by decide +kernel⟩,
   ⟨({ route := .mbx 0 0, payload := padTo 4 [0, 3] } : Cmd), ((up.setFn 0 { bound := true, owner := some (0, 0), state := .configured, desc := diagDesc, config := 1 }).setEp 0 { owner := some (0, 0), slot := 0x8000, num := 1, dirIn := true, typ := 2, mps := 64, state := .active, ringLog2 := 4 } : State), by decide +kernel⟩⟩

/-- Obligations.DeviceFunctionEvents. -/
theorem hypotheses_met_DeviceFunctionEvents :
    (∃ (n : Fin 2) (s : State), (s.fn n).bound = true ∧ (s.fn n).state = .detached ∧ (s.port (s.fn n).port).pd.inFallback = true ∧ (s.port (s.fn n).port).pd.roles.dfp = false ∧ ((s.port (s.fn n).port).pd.conn = .attachedSrc ∨ (s.port (s.fn n).port).pd.conn = .attachedSnk) ∧ (s.port (s.fn n).port).pd.fbNow.devEn = true)
    ∧ (∃ (n : Fin 2) (speed : Fin 7) (view : HostView) (s : State), (s.fn n).state ≠ .detached ∧ s.devSpeedOk (s.fn n) speed = true)
    ∧ (∃ (n : Fin 2) (speed : Fin 7) (view : HostView) (s : State), (s.fn n).state ≠ .detached ∧ s.devSpeedOk (s.fn n) speed = true)
    ∧ (∃ (n : Fin 2) (a : Fin 128) (view : HostView) (s : State), (s.fn n).state = .default ∧ a.val ≠ 0)
    ∧ (∃ (n : Fin 2) (view : HostView) (s : State), (s.fn n).state.live = true)
    ∧ (∃ (n : Fin 2) (ep : Fin 16) (dirIn acked : Bool) (dpid : Fin 4) (data : List Byte) (view : HostView) (e : Nat) (s : State), let b := s.drainAll view
      (b.fn n).state.live = true ∧ (b.fn n).diag = false ∧ ep.val ≠ 0 ∧ b.fnEp n ep dirIn = some e ∧ (b.fn n).includes (b.ep e).address = true ∧ (b.ep e).halted = true)
    ∧ (∃ (n : Fin 2) (ep : Fin 16) (dpid : Fin 4) (data bytes : List Byte) (view : HostView) (e : Nat) (c : Chain) (s : State), let b := s.drainAll view
      let td := c.tds.getD c.cur {}
      (b.fn n).state.live = true ∧ (b.fn n).diag = false ∧ ep.val ≠ 0 ∧ b.fnEp n ep true = some e ∧ (b.fn n).includes (b.ep e).address = true ∧ (b.ep e).halted = false ∧ (b.ep e).chain = some c ∧ (b.ep e).num = ep.val ∧ (b.ep e).bufSize = 0 ∧ view.read (td.addr + BitVec.ofNat 64 c.off) (min (b.ep e).mps (td.len - c.off)) = some bytes)
    ∧ (∃ (n : Fin 2) (s : State), (s.fn n).state.live = true)
    ∧ (∃ (n : Fin 2) (s : State), (s.fn n).state = .suspended)
    ∧ (∃ (n : Fin 2) (s : State), (s.fn n).state = .suspended ∧ (s.fn n).wakePend.isSome = true ∧ (s.fn n).wakeSig = false ∧ (3 ≤ (s.fn n).speed ∨ (s.fn n).suspAt.toNat + 5000000 ≤ s.now.toNat))
    ∧ (∃ (n : Fin 2) (s : State), (s.fn n).state = .suspended ∧ (s.fn n).wakePend.isSome = true ∧ (s.fn n).wakeSig = false ∧ (3 ≤ (s.fn n).speed ∨ (s.fn n).suspAt.toNat + 5000000 ≤ s.now.toNat))
    ∧ (∃ (n : Fin 2) (s : State), (s.fn n).wakePend.isSome = true ∧ (s.fn n).wakeSig = true ∧ (s.fn n).wakeEnd.toNat + 100000000 ≤ s.now.toNat)
    ∧ (∃ (n : Fin 2) (s : State), (s.fn n).state ≠ .detached) :=
  ⟨⟨(0 : Fin 2), ((up.setFn 0 { bound := true, owner := some (0, 0), state := .detached, desc := diagDesc }).modPd 0 fun d => { d with mode := .fallback, conn := .attachedSnk, fbNow := { d.fbNow with devEn := true } } : State), by decide +kernel⟩,
   ⟨(0 : Fin 2), (0 : Fin 7), ([] : HostView), (up.setFn 0 { bound := true, owner := some (0, 0), state := .attached, desc := diagDesc } : State), by decide +kernel⟩,
   ⟨(0 : Fin 2), (3 : Fin 7), ([] : HostView), ((up.setFn 0 { bound := true, owner := some (0, 0), state := .attached, desc := diagDesc, cap := 1 }).modPd 0 fun d => { d with fbNow := { d.fbNow with ssEn := true } } : State), by decide +kernel⟩,
   ⟨(0 : Fin 2), (5 : Fin 128), ([] : HostView), (up.setFn 0 { bound := true, owner := some (0, 0), state := .default, desc := diagDesc } : State), by decide +kernel⟩,
   ⟨(0 : Fin 2), ([] : HostView), (up.setFn 0 { bound := true, owner := some (0, 0), state := .address, desc := diagDesc } : State), by decide +kernel⟩,
   ⟨(0 : Fin 2), (1 : Fin 16), (true : Bool), (false : Bool), (0 : Fin 4), ([] : List Byte), ([] : HostView), (0 : Nat), ((up.setFn 0 { bound := true, owner := some (0, 0), state := .configured, desc := diagDesc, config := 1 }).setEp 0 { owner := some (0, 0), slot := 0x8000, num := 1, dirIn := true, typ := 2, mps := 64, state := .active, ringLog2 := 4 , halted := true } : State), by dsimp only; decide +kernel⟩,
   ⟨(0 : Fin 2), (1 : Fin 16), (0 : Fin 4), ([] : List Byte), (List.replicate 8 0 : List Byte), ([(0, List.replicate 8 0)] : HostView), (0 : Nat), ({ tds := [{ len := 8 }] } : Chain), ((up.setFn 0 { bound := true, owner := some (0, 0), state := .configured, desc := diagDesc, config := 1 }).setEp 0 { owner := some (0, 0), slot := 0x8000, num := 1, dirIn := true, typ := 2, mps := 64, state := .active, ringLog2 := 4 , chain := some { tds := [{ len := 8 }] } } : State), by dsimp only; decide +kernel⟩,
   ⟨(0 : Fin 2), (up.setFn 0 { bound := true, owner := some (0, 0), state := .configured, desc := diagDesc } : State), by decide +kernel⟩,
   ⟨(0 : Fin 2), (up.setFn 0 { bound := true, owner := some (0, 0), state := .suspended, desc := diagDesc, before := .address } : State), by decide +kernel⟩,
   ⟨(0 : Fin 2), (up.setFn 0 { bound := true, owner := some (0, 0), state := .suspended, desc := diagDesc, speed := 3, wakePend := some {} } : State), by decide +kernel⟩,
   ⟨(0 : Fin 2), (((upAt 6000000).setFn 0 { bound := true, owner := some (0, 0), state := .suspended, desc := diagDesc, speed := 0, wakePend := some {} }) : State), by decide +kernel⟩,
   ⟨(0 : Fin 2), (((upAt 200000000).setFn 0 { bound := true, owner := some (0, 0), state := .suspended, desc := diagDesc, wakeSig := true, wakeEnd := 1000, wakePend := some {} }) : State), by decide +kernel⟩,
   ⟨(0 : Fin 2), (up.setFn 0 { bound := true, owner := some (0, 0), state := .attached, desc := diagDesc } : State), by decide +kernel⟩⟩

/-- Obligations.DisplayPortAlternateMode. -/
theorem hypotheses_met_DisplayPortAlternateMode :
    (∃ (c : Cmd) (s : State), s.mayCarry infoDpaltBind c (checksDpaltBind c s) = true ∧ ((s.port (byteAt c.payload 0)).pd.dp.rate = none ∧ (s.port (byteAt c.payload 0)).pd.dp.hpd = false))
    ∧ (∃ (c : Cmd) (s : State), s.mayCarry infoDpaltUnbind c (checksDpaltUnbind c s) = true ∧ (s.tunWf = true))
    ∧ (∃ (port : Fin 12) (kind : Fin 3) (linkOk dsc : Bool) (s : State), (s.port port).pd.dp.entered = false)
    ∧ (∃ (port : Fin 12) (linkOk dsc : Bool) (s : State), (s.port port).pd.dp.entered = true)
    ∧ (∃ (port : Fin 12) (linkOk dsc : Bool) (s : State), let d := (s.port port).pd
      d.dp.entered = true ∧ (d.dp.autoTried = true ∨ d.disco ≠ .done) ∧ (s.dpMode port).dscLine = 0 ∧ (d.dpRate (s.dpMode port) (dpLanes d.dp.pin)).isSome = true)
    ∧ (∃ (port : Fin 12) (r : Nat) (s : State), let d := (s.port port).pd
      d.dp.entered = true ∧ d.dp.hpd = true ∧ d.dp.rate = none ∧ d.dpRate (s.dpMode port) d.dp.lanes = some r)
    ∧ (∃ (port : Fin 12) (s : State), let d := (s.port port).pd
      d.dp.entered = true ∧ d.dp.hpd = true ∧ d.dp.rate = none ∧ d.dp.fails < 2) :=
  ⟨⟨({ route := .mbx 0 0, payload := padTo 2 [0, 0] } : Cmd), (up.modPd 0 fun d => { d with dp := { d.dp with entered := true } } : State), by decide +kernel⟩,
   ⟨({ route := .mbx 0 0, payload := padTo 1 [0] } : Cmd), ((up.modPd 0 fun d => { d with dp := { d.dp with entered := true, tid := some 0, source := some 0 } }).setTunnel 0 ({ port := 0, tun := 1, cls := 0, state := .opened, owner := .slice 0 0 } : Tunnel) : State), by decide +kernel⟩,
   ⟨(0 : Fin 12), (0 : Fin 3), (false : Bool), (false : Bool), (up : State), by decide +kernel⟩,
   ⟨(0 : Fin 12), (false : Bool), (false : Bool), (up.modPd 0 fun d => { d with dp := { d.dp with entered := true, hpd := true } } : State), by decide +kernel⟩,
   ⟨(0 : Fin 12), (false : Bool), (false : Bool), (up.modPd 0 fun d => { d with dp := { d.dp with entered := true, pin := 2 } } : State), by dsimp only; decide +kernel⟩,
   ⟨(0 : Fin 12), (0 : Nat), (up.modPd 0 fun d => { d with dp := { d.dp with entered := true, hpd := true, lanes := 4 } } : State), by dsimp only; decide +kernel⟩,
   ⟨(0 : Fin 12), (up.modPd 0 fun d => { d with dp := { d.dp with entered := true, hpd := true } } : State), by dsimp only; decide +kernel⟩⟩

/-- Obligations.DmaCommandsComplete. -/
theorem hypotheses_met_DmaCommandsComplete :
    (∃ (c : Cmd) (s : State), s.mayCarry infoDmaChAlloc c (checksDmaChAlloc c s) = true)
    ∧ (∃ (c : Cmd) (s : State), s.mayCarry infoDmaChConfig c (checksDmaChConfig c s) = true)
    ∧ (∃ (c : Cmd) (s : State), s.mayCarry infoDmaChCtrl c (checksDmaChCtrl c s) = true ∧ (byteAt c.payload 1 ≠ 2))
    ∧ (∃ (c : Cmd) (s : State), s.mayCarry infoDmaChFree c (checksDmaChFree c s) = true)
    ∧ (∃ (c : Cmd) (s : State), s.mayCarry infoDmaTimerCfg c (checksDmaTimerCfg c s) = true)
    ∧ (∃ (c : Cmd) (s : State), s.mayCarry infoDmaChQuery c (checksDmaChQuery c s) = true)
    ∧ (∃ (c : Cmd) (s : State), s.mayCarry infoDmaChCtrl c (checksDmaChCtrl c s) = true ∧ (byteAt c.payload 1 = 2 ∧ (s.ch (byteAt c.payload 0)).state = .running)) :=
  ⟨⟨({ route := .mbx 0 0, payload := padTo 3 [] } : Cmd), (up : State), by decide +kernel⟩,
   ⟨({ route := .mbx 0 0, payload := padTo 16 [0, 4, 0, 0, 0] } : Cmd), (up.setCh 0 { state := .stopped, owner := some (0, 0) } : State), by decide +kernel⟩,
   ⟨({ route := .mbx 0 0, payload := padTo 2 [0, 1] } : Cmd), (up.setCh 0 { state := .stopped, owner := some (0, 0), configured := true } : State), by decide +kernel⟩,
   ⟨({ route := .mbx 0 0, payload := padTo 1 [0] } : Cmd), (up.setCh 0 { state := .stopped, owner := some (0, 0) } : State), by decide +kernel⟩,
   ⟨({ route := .mbx 0 0, payload := padTo 16 [] } : Cmd), (up : State), by decide +kernel⟩,
   ⟨({ route := .mbx 0 0, payload := padTo 1 [0] } : Cmd), (up.setCh 0 { state := .stopped, owner := some (0, 0) } : State), by decide +kernel⟩,
   ⟨({ route := .mbx 0 0, payload := padTo 2 [0, 2] } : Cmd), (up.setCh 0 { state := .running, owner := some (0, 0), configured := true, jobOn := true, chain := [{ len := 4, first := true, last := true }] } : State), by decide +kernel⟩⟩

/-- Obligations.SlicePageWrites. -/
theorem hypotheses_met_SlicePageWrites :
    (∃ (h : Fin 2) (sl : Fin 256) (s : State), s.reachable h sl = false)
    ∧ (∃ (h : Fin 2) (sl : Fin 256) (s : State), (s.slice h sl).state = .active ∧ (s.slice h sl).busy = false ∧ msgFormOk (s.slice h sl).msg = true)
    ∧ (∃ (h : Fin 2) (sl : Fin 256) (s : State), s.reachable h sl = true ∧ (s.slice h sl).busy = true)
    ∧ (∃ (h : Fin 2) (sl : Fin 256) (s : State), s.reachable h sl = true)
    ∧ (∃ (h : Fin 2) (sl : Fin 256) (s : State), s.reachable h sl = true)
    ∧ (∃ (h : Fin 2) (sl : Fin 256) (v : BitVec 32) (s : State), s.reachable h sl = true)
    ∧ (∃ (h : Fin 2) (sl : Fin 256) (q : Fin 64) (v : BitVec 32) (s : State), s.reachable h sl = true ∧ (s.qp h sl q).state = .active)
    ∧ (∃ (h : Fin 2) (sl : Fin 256) (q : Fin 64) (v : BitVec 32) (s : State), s.reachable h sl = true ∧ (s.qp h sl q).state = .active)
    ∧ (∃ (h : Fin 2) (sl : Fin 256) (q : Fin 64) (v : BitVec 32) (s : State), s.reachable h sl = true ∧ (s.qp h sl q).state = .active)
    ∧ (∃ (h : Fin 2) (sl : Fin 256) (q : Fin 64) (v : BitVec 32) (s : State), s.reachable h sl = true ∧ (s.qp h sl q).state = .active)
    ∧ (∃ (h : Fin 2) (sl : Fin 256) (q : Fin 64) (v : BitVec 32) (s : State), s.reachable h sl = true ∧ (s.qp h sl q).state = .active)
    ∧ (∃ (h : Fin 2) (sl : Fin 256) (q : Fin 64) (v : BitVec 32) (s : State), s.reachable h sl = true ∧ (s.qp h sl q).state = .active)
    ∧ (∃ (h : Fin 2) (sl : Fin 256) (q : Fin 64) (v : BitVec 32) (s : State), s.reachable h sl = true ∧ (s.qp h sl q).state = .active)
    ∧ (∃ (h : Fin 2) (sl : Fin 256) (q : Fin 64) (v : BitVec 32) (s : State), s.reachable h sl = true ∧ (s.qp h sl q).state = .active) :=
  ⟨⟨(0 : Fin 2), (1 : Fin 256), (up : State), by decide +kernel⟩,
   ⟨(0 : Fin 2), (0 : Fin 256), (up.modSlice 0 0 fun y => { y with msg := [3, 1, 3] } : State), by decide +kernel⟩,
   ⟨(0 : Fin 2), (0 : Fin 256), (up.modSlice 0 0 fun y => { y with busy := true } : State), by decide +kernel⟩,
   ⟨(0 : Fin 2), (0 : Fin 256), (up : State), by decide +kernel⟩,
   ⟨(0 : Fin 2), (0 : Fin 256), (up : State), by decide +kernel⟩,
   ⟨(0 : Fin 2), (0 : Fin 256), (1 : BitVec 32), (up.modSlice 0 0 fun y => { y with evt := 3 } : State), by decide +kernel⟩,
   ⟨(0 : Fin 2), (0 : Fin 256), (0 : Fin 64), (1 : BitVec 32), (up.setQp 0 0 0 { state := .active, sqN := 4, cqN := 4 } : State), by decide +kernel⟩,
   ⟨(0 : Fin 2), (0 : Fin 256), (0 : Fin 64), (16 : BitVec 32), (up.setQp 0 0 0 { state := .active, sqN := 4, cqN := 4 } : State), by decide +kernel⟩,
   ⟨(0 : Fin 2), (0 : Fin 256), (0 : Fin 64), (17 : BitVec 32), (up.setQp 0 0 0 { state := .active, sqN := 4, cqN := 4 } : State), by decide +kernel⟩,
   ⟨(0 : Fin 2), (0 : Fin 256), (0 : Fin 64), (40 : BitVec 32), (up.setQp 0 0 0 { state := .active, sqN := 4, cqN := 4 } : State), by decide +kernel⟩,
   ⟨(0 : Fin 2), (0 : Fin 256), (0 : Fin 64), (2 : BitVec 32), (up.setQp 0 0 0 { state := .active, sqN := 4, cqN := 4, cqPi := 2 } : State), by decide +kernel⟩,
   ⟨(0 : Fin 2), (0 : Fin 256), (0 : Fin 64), (0 : BitVec 32), (up.setQp 0 0 0 { state := .active, sqN := 4, cqN := 4, cqPi := 2 } : State), by decide +kernel⟩,
   ⟨(0 : Fin 2), (0 : Fin 256), (0 : Fin 64), (3 : BitVec 32), (up.setQp 0 0 0 { state := .active, sqN := 4, cqN := 4, cqPi := 2 } : State), by decide +kernel⟩,
   ⟨(0 : Fin 2), (0 : Fin 256), (0 : Fin 64), (40 : BitVec 32), (up.setQp 0 0 0 { state := .active, sqN := 4, cqN := 4, cqPi := 2 } : State), by decide +kernel⟩⟩

/-- Obligations.EngineDoorbells. -/
theorem hypotheses_met_EngineDoorbells :
    (∃ (h : Fin 2) (sl : Fin 256) (v : BitVec 32) (view : HostView) (s : State), s.reachable h sl = true ∧ (s.slice h sl).state ≠ .resetting ∧ s.domainOff 8 = false ∧ (s.ep (v.toNat % 4096)).owner = some (h.val, sl.val) ∧ (s.ep (v.toNat % 4096)).state ≠ .disabled ∧ let x := s.ep (v.toNat % 4096)
      prodBad x.ringLog2 x.cons x.prod (v.toNat / 65536) = false)
    ∧ (∃ (h : Fin 2) (sl : Fin 256) (v : BitVec 32) (view : HostView) (s : State), s.reachable h sl = true ∧ (s.slice h sl).state ≠ .resetting ∧ s.domainOff 8 = false ∧ (s.ep (v.toNat % 4096)).owner = some (h.val, sl.val) ∧ (s.ep (v.toNat % 4096)).state ≠ .disabled ∧ let x := s.ep (v.toNat % 4096)
      prodBad x.ringLog2 x.cons x.prod (v.toNat / 65536) = false)
    ∧ (∃ (h : Fin 2) (sl : Fin 256) (v : BitVec 32) (view : HostView) (s : State), s.reachable h sl = true ∧ (s.slice h sl).state ≠ .resetting ∧ s.domainOff 8 = false ∧ (s.ep (v.toNat % 4096)).owner = some (h.val, sl.val) ∧ (s.ep (v.toNat % 4096)).state ≠ .disabled ∧ let x := s.ep (v.toNat % 4096)
      prodBad x.ringLog2 x.cons x.prod (v.toNat / 65536) = false)
    ∧ (∃ (h : Fin 2) (sl : Fin 256) (v : BitVec 32) (view : HostView) (s : State), s.reachable h sl = true ∧ (s.slice h sl).state ≠ .resetting ∧ s.domainOff 8 = false ∧ (s.ep (v.toNat % 4096)).owner = some (h.val, sl.val) ∧ let x := s.ep (v.toNat % 4096)
      (x.state = .idle ∨ x.state = .active) ∧ prodBad x.ringLog2 x.cons x.prod (v.toNat / 65536) = true)
    ∧ (∃ (h : Fin 2) (sl : Fin 256) (v : BitVec 32) (view : HostView) (s : State), s.reachable h sl = true ∧ (s.slice h sl).state ≠ .resetting ∧ s.domainOff 8 = false ∧ (s.ep (v.toNat % 4096)).owner = some (h.val, sl.val) ∧ let x := s.ep (v.toNat % 4096)
      (x.state = .idle ∨ x.state = .active) ∧ prodBad x.ringLog2 x.cons x.prod (v.toNat / 65536) = true)
    ∧ (∃ (h : Fin 2) (sl : Fin 256) (v : BitVec 32) (view : HostView) (s : State), s.reachable h sl = true ∧ (s.ep (v.toNat % 4096)).owner ≠ some (h.val, sl.val))
    ∧ (∃ (h : Fin 2) (sl : Fin 256) (v : BitVec 32) (s : State), s.reachable h sl = true ∧ (s.slice h sl).state ≠ .resetting ∧ s.domainOff 8 = false ∧ (s.ch (v.toNat % 64)).owner = some (h.val, sl.val) ∧ let x := s.ch (v.toNat % 64)
      prodBad x.ringLog2 x.cons x.prod (v.toNat / 65536) = false)
    ∧ (∃ (h : Fin 2) (sl : Fin 256) (v : BitVec 32) (s : State), s.reachable h sl = true ∧ (s.slice h sl).state ≠ .resetting ∧ s.domainOff 8 = false ∧ (s.ch (v.toNat % 64)).owner = some (h.val, sl.val) ∧ let x := s.ch (v.toNat % 64)
      prodBad x.ringLog2 x.cons x.prod (v.toNat / 65536) = false)
    ∧ (∃ (h : Fin 2) (sl : Fin 256) (v : BitVec 32) (s : State), s.reachable h sl = true ∧ (s.ch (v.toNat % 64)).owner ≠ some (h.val, sl.val))
    ∧ (∃ (h : Fin 2) (sl : Fin 256) (off : Fin 65536) (bytes : List Byte) (s : State), s.reachable h sl = true ∧ s.domainOff 8 = false ∧ (s.ch (off.val / 1024)).owner = some (h.val, sl.val) ∧ (∀ page, s.readPage 3 page ≠ .uncorrectable)) :=
  ⟨⟨(0 : Fin 2), (0 : Fin 256), (65536 : BitVec 32), ([] : HostView), (up.setEp 0 { owner := some (0, 0), ringLog2 := 4, state := .idle } : State), by dsimp only; decide +kernel⟩,
   ⟨(0 : Fin 2), (0 : Fin 256), (1048576 : BitVec 32), ([] : HostView), (up.setEp 0 { owner := some (0, 0), ringLog2 := 4, state := .active } : State), by dsimp only; decide +kernel⟩,
   ⟨(0 : Fin 2), (0 : Fin 256), (65536 : BitVec 32), ([] : HostView), (up.setEp 0 { owner := some (0, 0), ringLog2 := 4, state := .halted } : State), by dsimp only; decide +kernel⟩,
   ⟨(0 : Fin 2), (0 : Fin 256), (1114112 : BitVec 32), ([] : HostView), (up.setEp 0 { owner := some (0, 0), ringLog2 := 4, state := .idle } : State), by dsimp only; decide +kernel⟩,
   ⟨(0 : Fin 2), (0 : Fin 256), (1114112 : BitVec 32), ([] : HostView), (up.setEp 0 { owner := some (0, 0), ringLog2 := 4, state := .active } : State), by dsimp only; decide +kernel⟩,
   ⟨(0 : Fin 2), (0 : Fin 256), (65536 : BitVec 32), ([] : HostView), (up : State), by decide +kernel⟩,
   ⟨(0 : Fin 2), (0 : Fin 256), (65536 : BitVec 32), (up.setCh 0 { owner := some (0, 0), ringLog2 := 4, state := .stopped } : State), by dsimp only; decide +kernel⟩,
   ⟨(0 : Fin 2), (0 : Fin 256), (1048576 : BitVec 32), (up.setCh 0 { owner := some (0, 0), ringLog2 := 4, state := .stopped } : State), by dsimp only; decide +kernel⟩,
   ⟨(0 : Fin 2), (0 : Fin 256), (65536 : BitVec 32), (up : State), by decide +kernel⟩,
   ⟨(0 : Fin 2), (0 : Fin 256), (1023 : Fin 65536), ([1, 2] : List Byte), (up.setCh 0 { owner := some (0, 0), state := .stopped } : State), by refine ⟨by decide +kernel, by decide +kernel, by decide +kernel, ?_⟩; intro page; rw [show up.setCh 0 { owner := some (0, 0), state := .stopped } = up.setCh 0 { owner := some (0, 0), state := .stopped } from rfl]; unfold State.readPage; rw [show ((up.setCh 0 { owner := some (0, 0), state := .stopped }).region 3).pageErrs page = [] from rfl]; unfold decodePage; exact fun h => nomatch h⟩⟩

/-- Obligations.QueuePairCommandsTakeEffect. -/
theorem hypotheses_met_QueuePairCommandsTakeEffect :
    (∃ (c : Cmd) (s : State), s.mayCarry infoQpCreate c (checksQpCreate c s) = true)
    ∧ (∃ (c : Cmd) (s : State), s.mayCarry infoQpModify c (checksQpModify c s) = true)
    ∧ (∃ (c : Cmd) (s : State), s.mayCarry infoQpQuery c ((checksQpQuery c)) = true)
    ∧ (∃ (c : Cmd) (s : State), s.mayCarry infoQpReset c (checksQpReset c s) = true)
    ∧ (∃ (c : Cmd) (s : State), s.mayCarry infoQpDestroy c (checksQpDestroy c s) = true) :=
  ⟨⟨({ route := .mbx 0 0, payload := padTo 32 [1, 4, 4] } : Cmd), (up : State), by decide +kernel⟩,
   ⟨({ route := .mbx 0 0, payload := padTo 13 [0] } : Cmd), (up.setQp 0 0 0 { state := .active } : State), by decide +kernel⟩,
   ⟨({ route := .mbx 0 0, payload := padTo 1 [] } : Cmd), (up : State), by decide +kernel⟩,
   ⟨({ route := .mbx 0 0, payload := padTo 1 [0] } : Cmd), (up.setQp 0 0 0 { state := .active } : State), by decide +kernel⟩,
   ⟨({ route := .mbx 0 0, payload := padTo 1 [0] } : Cmd), (up.setQp 0 0 0 { state := .active } : State), by decide +kernel⟩⟩

/-- Obligations.QueuePairBasesAndSizes. -/
theorem hypotheses_met_QueuePairBasesAndSizes :
    (∃ (c : Cmd) (s : State), s.waits infoQpCreate c = false ∧ (le c.payload 16 8 % 4096 ≠ 0 ∨ le c.payload 24 8 % 4096 ≠ 0 ∨ byteAt c.payload 1 < 4 ∨ 15 < byteAt c.payload 1 ∨ byteAt c.payload 2 < 4 ∨ 15 < byteAt c.payload 2))
    ∧ (∃ (c : Cmd) (s : State), s.waits infoQpCreate c = false ∧ (le c.payload 16 8 % 4096 ≠ 0 ∨ le c.payload 24 8 % 4096 ≠ 0 ∨ byteAt c.payload 1 < 4 ∨ 15 < byteAt c.payload 1 ∨ byteAt c.payload 2 < 4 ∨ 15 < byteAt c.payload 2))
    ∧ (∃ (c : Cmd) (s : State), s.waits infoQpCreate c = false ∧ (le c.payload 16 8 % 4096 ≠ 0 ∨ le c.payload 24 8 % 4096 ≠ 0 ∨ byteAt c.payload 1 < 4 ∨ 15 < byteAt c.payload 1 ∨ byteAt c.payload 2 < 4 ∨ 15 < byteAt c.payload 2))
    ∧ (∃ (c : Cmd) (s : State), s.waits infoQpCreate c = false ∧ (le c.payload 16 8 % 4096 ≠ 0 ∨ le c.payload 24 8 % 4096 ≠ 0 ∨ byteAt c.payload 1 < 4 ∨ 15 < byteAt c.payload 1 ∨ byteAt c.payload 2 < 4 ∨ 15 < byteAt c.payload 2))
    ∧ (∃ (c : Cmd) (s : State), s.waits infoQpCreate c = false ∧ (le c.payload 16 8 % 4096 ≠ 0 ∨ le c.payload 24 8 % 4096 ≠ 0 ∨ byteAt c.payload 1 < 4 ∨ 15 < byteAt c.payload 1 ∨ byteAt c.payload 2 < 4 ∨ 15 < byteAt c.payload 2))
    ∧ (∃ (c : Cmd) (s : State), s.waits infoQpCreate c = false ∧ (le c.payload 16 8 % 4096 ≠ 0 ∨ le c.payload 24 8 % 4096 ≠ 0 ∨ byteAt c.payload 1 < 4 ∨ 15 < byteAt c.payload 1 ∨ byteAt c.payload 2 < 4 ∨ 15 < byteAt c.payload 2))
    ∧ (∃ (c : Cmd) (s : State), s.mayCarry infoQpCreate c (checksQpCreate c s) = true) :=
  ⟨⟨({ route := .mbx 0 0, payload := [1, 4, 4, 0, 0, 0, 0, 0, 0, 0, 0, 0, 0, 0, 0, 0, 1, 0, 0, 0, 0, 0, 0, 0, 0, 0, 0, 0, 0, 0, 0, 0] } : Cmd), (up : State), by decide +kernel⟩,
   ⟨({ route := .mbx 0 0, payload := [1, 4, 4, 0, 0, 0, 0, 0, 0, 0, 0, 0, 0, 0, 0, 0, 0, 0, 0, 0, 0, 0, 0, 0, 0, 8, 0, 0, 0, 0, 0, 0] } : Cmd), (up : State), by decide +kernel⟩,
   ⟨({ route := .mbx 0 0, payload := [1, 3, 4, 0, 0, 0, 0, 0, 0, 0, 0, 0, 0, 0, 0, 0, 0, 0, 0, 0, 0, 0, 0, 0, 0, 0, 0, 0, 0, 0, 0, 0] } : Cmd), (up : State), by decide +kernel⟩,
   ⟨({ route := .mbx 0 0, payload := [1, 16, 4, 0, 0, 0, 0, 0, 0, 0, 0, 0, 0, 0, 0, 0, 0, 0, 0, 0, 0, 0, 0, 0, 0, 0, 0, 0, 0, 0, 0, 0] } : Cmd), (up : State), by decide +kernel⟩,
   ⟨({ route := .mbx 0 0, payload := [1, 4, 3, 0, 0, 0, 0, 0, 0, 0, 0, 0, 0, 0, 0, 0, 0, 0, 0, 0, 0, 0, 0, 0, 0, 0, 0, 0, 0, 0, 0, 0] } : Cmd), (up : State), by decide +kernel⟩,
   ⟨({ route := .mbx 0 0, payload := [1, 4, 16, 0, 0, 0, 0, 0, 0, 0, 0, 0, 0, 0, 0, 0, 0, 0, 0, 0, 0, 0, 0, 0, 0, 0, 0, 0, 0, 0, 0, 0] } : Cmd), (up : State), by decide +kernel⟩,
   ⟨({ route := .mbx 0 0, payload := padTo 32 [1, 4, 4] } : Cmd), (up : State), by decide +kernel⟩⟩

/-- Obligations.RingEvents. -/
theorem hypotheses_met_RingEvents :
    (∃ (h : Fin 2) (sl : Fin 256) (q : Fin 64) (entries : List Entry) (s : State), (s.mayFetch h sl q = false ∨ s.sliceTurn h sl = false ∨ s.pairTurn h sl q = false))
    ∧ (∃ (h : Fin 2) (sl : Fin 256) (q : Fin 64) (read : Nat) (cause : Fin 4) (s : State), (s.qp h sl q).state = .active)
    ∧ (∃ (h : Fin 2) (sl : Fin 256) (q : Fin 64) (cause : Fin 2) (s : State), (s.qp h sl q).state = .active)
    ∧ (∃ (h : Fin 2) (sl : Fin 256) (q : Fin 64) (e : CqEntry) (rest : List CqEntry) (s : State), (s.qp h sl q).held = e :: rest ∧ s.mayWrite h sl q = true ∧ s.addrOk ((s.qp h sl q).cqBase + BitVec.ofNat 64 (32 * ((s.qp h sl q).cqPi % 2 ^ (s.qp h sl q).cqN))) = true)
    ∧ (∃ (h : Fin 2) (sl : Fin 256) (q : Fin 64) (s : State), (s.qp h sl q).stalled = true ∧ s.due (s.qp h sl q).stallDue = true)
    ∧ (∃ (h : Fin 2) (sl : Fin 256) (q : Fin 64) (s : State), s.due (s.qp h sl q).modDue = true)
    ∧ (∃ (h : Fin 2) (sl : Fin 256) (q : Fin 64) (s : State), 0 < (s.qp h sl q).dropped ∧ (s.qp h sl q).backlog < 64)
    ∧ (∃ (s : State), 0 < s.mgmt.droppedNow ∧ s.mgmt.notices.length < 64)
    ∧ (∃ (h : Fin 2) (sl : Fin 256) (q : Fin 64) (op : Nat) (c : Cmd) (s : State), s.stopEnded h sl q = true ∧ (s.qp h sl q).stop ≠ .sliceReset ∧ (s.qp h sl q).stop ≠ .none ∧ (s.qp h sl q).stopCmd = some (op, c) ∧ s.isRunning c op = true)
    ∧ (∃ (h : Fin 2) (sl : Fin 256) (q : Fin 64) (op : Nat) (c : Cmd) (s : State), s.stopEnded h sl q = true ∧ (s.qp h sl q).stop ≠ .sliceReset ∧ (s.qp h sl q).stop ≠ .none ∧ (s.qp h sl q).stopCmd = some (op, c) ∧ s.isRunning c op = true)
    ∧ (∃ (h : Fin 2) (v : Fin 2048) (s : State), (s.hp h).bme = true)
    ∧ (∃ (h : Fin 2) (sl : Fin 256) (q : Fin 64) (entries : List Entry) (s : State), s.mayFetch h sl q = true ∧ s.sliceTurn h sl = true ∧ s.pairTurn h sl q = true ∧ readQueue (entries.take (min 33 (ringUsed (s.qp h sl q).sqN (s.qp h sl q).sqPi (s.qp h sl q).sqCi))) = .wait)
    ∧ (∃ (h : Fin 2) (sl : Fin 256) (q : Fin 64) (entries : List Entry) (s : State) (e : Entry) (irq : Bool) (n : Nat) (clean : Bool), s.mayFetch h sl q = true ∧ s.sliceTurn h sl = true ∧ s.pairTurn h sl q = true ∧ readQueue (entries.take (min 33 (ringUsed (s.qp h sl q).sqN (s.qp h sl q).sqPi (s.qp h sl q).sqCi))) = .chain e irq n clean ∧ clean = true ∧ definedOpcodes.contains (entryOpcode e) = true)
    ∧ (∃ (h : Fin 2) (sl : Fin 256) (q : Fin 64) (entries : List Entry) (s : State) (e : Entry) (n : Nat), s.mayFetch h sl q = true ∧ s.sliceTurn h sl = true ∧ s.pairTurn h sl q = true ∧ readQueue (entries.take (min 33 (ringUsed (s.qp h sl q).sqN (s.qp h sl q).sqPi (s.qp h sl q).sqCi))) = .bad e n) :=
  ⟨⟨(0 : Fin 2), (0 : Fin 256), (0 : Fin 64), ([] : List Entry), (up : State), by decide +kernel⟩,
   ⟨(0 : Fin 2), (0 : Fin 256), (0 : Fin 64), (1 : Nat), (0 : Fin 4), (up.setQp 0 0 0 { state := .active, sqN := 4, cqN := 4, sqPi := 1 } : State), by decide +kernel⟩,
   ⟨(0 : Fin 2), (0 : Fin 256), (0 : Fin 64), (0 : Fin 2), (up.setQp 0 0 0 { state := .active, sqN := 4, cqN := 4 } : State), by decide +kernel⟩,
   ⟨(0 : Fin 2), (0 : Fin 256), (0 : Fin 64), ({} : CqEntry), ([] : List CqEntry), (up.setQp 0 0 0 { state := .active, sqN := 4, cqN := 4, held := [{}] } : State), by decide +kernel⟩,
   ⟨(0 : Fin 2), (0 : Fin 256), (0 : Fin 64), ((upAt 2000).setQp 0 0 0 { state := .active, stalled := true, stallDue := some 1000 } : State), by decide +kernel⟩,
   ⟨(0 : Fin 2), (0 : Fin 256), (0 : Fin 64), ((upAt 2000).setQp 0 0 0 { state := .active, modDue := some 1000 } : State), by decide +kernel⟩,
   ⟨(0 : Fin 2), (0 : Fin 256), (0 : Fin 64), (up.setQp 0 0 0 { state := .active, sqN := 4, cqN := 4, dropped := 2 } : State), by decide +kernel⟩,
   ⟨({ up with mgmt := { up.mgmt with droppedNow := 2 } } : State), by decide +kernel⟩,
   ⟨(0 : Fin 2), (0 : Fin 256), (0 : Fin 64), (0x0103 : Nat), ({ route := .mbx 0 0 } : Cmd), ((up.startCmd { route := .mbx 0 0 } 0x0103).setQp 0 0 0 { state := .stopping, stop := .reset, stopCmd := some (0x0103, { route := .mbx 0 0 }) } : State), by decide +kernel⟩,
   ⟨(0 : Fin 2), (0 : Fin 256), (0 : Fin 64), (0x0103 : Nat), ({ route := .mbx 0 0 } : Cmd), ((up.startCmd { route := .mbx 0 0 } 0x0103).setQp 0 0 0 { state := .stopping, stop := .destroy, stopCmd := some (0x0103, { route := .mbx 0 0 }) } : State), by decide +kernel⟩,
   ⟨(0 : Fin 2), (5 : Fin 2048), (up : State), by decide +kernel⟩,
   ⟨0, 0, 0, [padTo 64 [3, 1, 1]], up.setQp 0 0 0 { state := .active, sqN := 4, cqN := 4, sqPi := 1 }, by decide +kernel⟩,
   ⟨0, 0, 0, [padTo 64 [3, 1, 3]], up.setQp 0 0 0 { state := .active, sqN := 4, cqN := 4, sqPi := 1 }, padTo 64 [3, 1, 3], false, 1, true, by decide +kernel⟩,
   ⟨0, 0, 0, [padTo 64 [3, 1, 2]], up.setQp 0 0 0 { state := .active, sqN := 4, cqN := 4, sqPi := 1 }, padTo 64 [3, 1, 2], 1, by decide +kernel⟩⟩

/-- Obligations.SliceCommandsTakeEffect. -/
theorem hypotheses_met_SliceCommandsTakeEffect :
    (∃ (c : Cmd) (s : State), s.mayCarry infoSliceEnable c (checksSliceEnable c s) = true ∧ ((s.slice c.slicePort (byteAt c.payload 0)).inFlight.length < 3))
    ∧ (∃ (c : Cmd) (s : State), s.mayCarry infoSliceReset c ((checksReset c false s)) = true ∧ ((s.slice c.slicePort (byteAt c.payload 0)).inFlight.length < 3 ∧ (s.slice c.slicePort (byteAt c.payload 0)).state ≠ .resetting))
    ∧ (∃ (c : Cmd) (s : State), s.mayCarry infoSliceDisable c ((checksReset c true s)) = true ∧ ((s.slice c.slicePort (byteAt c.payload 0)).inFlight.length < 3 ∧ (s.slice c.slicePort (byteAt c.payload 0)).state ≠ .resetting))
    ∧ (∃ (c : Cmd) (s : State), s.mayCarry infoSliceFreeze c (checksSliceFreeze c s) = true)
    ∧ (∃ (c : Cmd) (s : State), s.mayCarry infoSliceSave c (checksSliceSave c s) = true ∧ ((fun c s =>
      (s.blob c.slicePort (byteAt c.payload 0)).length ≤ le c.payload 16 4 ∧ c.accessFailed = false
      ∧ (c.route = .mgmt ∨ (c.route.slice?.isSome = true ∧ s.addrOk (BitVec.ofNat 64 (le c.payload 8 8)) = true))) c s))
    ∧ (∃ (c : Cmd) (s : State), s.mayCarry infoSliceRestore c (checksSliceRestore c s) = true ∧ (le c.payload 16 4 = 0 ∧ (s.slice c.slicePort (byteAt c.payload 0)).go = false))
    ∧ (∃ (c : Cmd) (s : State), s.mayCarry infoSliceDirtyLog c (checksSliceDirtyLog c s) = true)
    ∧ (∃ (c : Cmd) (s : State), s.mayCarry infoSliceQuery c ((checksSliceQuery c)) = true) :=
  ⟨⟨({ route := .mbx 0 0, payload := padTo 18 [1, 0, 0, 0, 1, 0, 0, 0, 64, 0, 1] } : Cmd), (up : State), by decide +kernel⟩,
   ⟨({ route := .mbx 0 0, payload := padTo 1 [] } : Cmd), (up : State), by decide +kernel⟩,
   ⟨({ route := .mbx 0 0, payload := padTo 1 [1] } : Cmd), (up.setSlice 0 1 { state := .active, vecFirst := 64, vecCount := 1 } : State), by decide +kernel⟩,
   ⟨({ route := .mbx 0 0, payload := padTo 4 [1] } : Cmd), (up.setSlice 0 1 { state := .active, vecFirst := 64, vecCount := 1 } : State), by decide +kernel⟩,
   ⟨({ route := .mbx 0 0, payload := toLe 8 1 ++ toLe 8 0 ++ toLe 4 524288 } : Cmd), (up.setSlice 0 1 { state := .frozen, vecFirst := 64, vecCount := 1 } : State), by 
    refine ⟨by decide +kernel, ?_, by decide +kernel, Or.inr (by decide +kernel)⟩
    refine Nat.le_trans (m := 524288) ?_ (by decide +kernel)
    unfold State.blob State.blobHead
    simp only [List.length_append, toLe_length, List.length_cons, List.length_nil, List.length_take]
    omega⟩,
   ⟨({ route := .mbx 0 0, payload := padTo 20 [1] } : Cmd), (up.setSlice 0 1 { state := .frozen, vecFirst := 64, vecCount := 1 } : State), by decide +kernel⟩,
   ⟨({ route := .mbx 0 0, payload := padTo 16 [] } : Cmd), (up : State), by decide +kernel⟩,
   ⟨({ route := .mbx 0 0, payload := padTo 4 [] } : Cmd), (up : State), by decide +kernel⟩⟩

/-- Obligations.SliceEvents. -/
theorem hypotheses_met_SliceEvents :
    (∃ (h : Fin 2) (sl : Fin 256) (s : State), (s.slice h sl).state = .freezing ∧ s.quiescent h sl = true ∧ (s.slice h sl).freezeCmd = none)
    ∧ (∃ (h : Fin 2) (sl : Fin 256) (c : Cmd) (s : State), (s.slice h sl).state = .freezing ∧ s.quiescent h sl = true ∧ (s.slice h sl).freezeCmd = some c ∧ s.isRunning c 0x0609 = true)
    ∧ (∃ (h : Fin 2) (sl : Fin 256) (s : State), (s.slice h sl).state = .freezing ∧ s.due (s.slice h sl).freezeDue = true)
    ∧ (∃ (h : Fin 2) (sl : Fin 256) (s : State), s.resetEnded h sl = true ∧ (s.slice h sl).waitCmds = [])
    ∧ (∃ (h : Fin 2) (sl : Fin 256) (g : BitVec 8) (rest : List (BitVec 8)) (s : State), (s.slice h sl).inFlight = g :: rest ∧ (s.slice h sl).state ≠ .resetting ∧ (∀ q ∈ s.qpsOf h sl, ∀ e ∈ (s.qp h sl q).held, e.gen = g → e.kind = 3) ∧ (s.slice h sl).waitCmds = []) :=
  ⟨⟨(0 : Fin 2), (1 : Fin 256), (up.setSlice 0 1 { state := .freezing } : State), by decide +kernel⟩,
   ⟨(0 : Fin 2), (1 : Fin 256), ({ route := .mbx 0 0, gen := 1 } : Cmd), ((up.startCmd { route := .mbx 0 0, gen := 1 } 0x0609).setSlice 0 1 { state := .freezing, freezeCmd := some { route := .mbx 0 0, gen := 1 } } : State), by decide +kernel⟩,
   ⟨(0 : Fin 2), (1 : Fin 256), ((upAt 5000).setSlice 0 1 { state := .freezing, freezeDue := some 4000 } : State), by decide +kernel⟩,
   ⟨(0 : Fin 2), (1 : Fin 256), (up.setSlice 0 1 { state := .resetting } : State), by decide +kernel⟩,
   ⟨(0 : Fin 2), (1 : Fin 256), (1 : BitVec 8), ([] : List (BitVec 8)), (up.setSlice 0 1 { state := .active, gen := 2, inFlight := [1] } : State), by decide +kernel⟩⟩

/-- Obligations.PowerCommandsTakeEffect. -/
theorem hypotheses_met_PowerCommandsTakeEffect :
    (∃ (c : Cmd) (s : State), s.mayCarry infoPmLevel c (checksPmLevel c s) = true)
    ∧ (∃ (c : Cmd) (s : State), s.mayCarry infoPmLevel c (checksPmLevel c s) = true)
    ∧ (∃ (c : Cmd) (s : State), s.mayCarry infoPmDomain c (checksPmDomain c s) = true ∧ ((fun c s =>
      (∀ q ∈ s.power.seqs, q.domain ≠ byteAt c.payload 0) ∧ s.power.on.getLsbD (byteAt c.payload 0) = decide (byteAt c.payload 1 ≠ 1)) c s))
    ∧ (∃ (c : Cmd) (s : State), s.mayCarry infoPmDomain c (checksPmDomain c s) = true ∧ ((fun c s =>
      (∀ q ∈ s.power.seqs, q.domain ≠ byteAt c.payload 0) ∧ s.power.on.getLsbD (byteAt c.payload 0) = decide (byteAt c.payload 1 ≠ 1)) c s))
    ∧ (∃ (c : Cmd) (s : State), s.mayCarry infoPmDomain c (checksPmDomain c s) = true ∧ (fun c s =>
      s.power.on.getLsbD (byteAt c.payload 0) = decide (byteAt c.payload 1 = 1)) c s)
    ∧ (∃ (c : Cmd) (s : State), s.mayCarry infoPmDomain c (checksPmDomain c s) = true ∧ (fun c s =>
      s.power.on.getLsbD (byteAt c.payload 0) = decide (byteAt c.payload 1 = 1)) c s)
    ∧ (∃ (c : Cmd) (s : State), s.mayCarry infoPmWakeCfg c (checksPmWakeCfg c s) = true)
    ∧ (∃ (c : Cmd) (s : State), s.mayCarry infoPmQuery c ((checksPmQuery c)) = true) :=
  ⟨⟨({ route := .mbx 0 0, payload := padTo 2 [0xFF, 2] } : Cmd), (up : State), by decide +kernel⟩,
   ⟨({ route := .mbx 0 0, payload := padTo 2 [7, 3] } : Cmd), (up : State), by decide +kernel⟩,
   ⟨({ route := .mbx 0 0, payload := padTo 2 [8, 0] } : Cmd), (up : State), by decide +kernel⟩,
   ⟨({ route := .mbx 0 0, payload := padTo 2 [8, 1] } : Cmd), ({ up with power := { up.power with on := 0 } } : State), by decide +kernel⟩,
   ⟨({ route := .mbx 0 0, payload := padTo 2 [8, 1] } : Cmd), (up : State), by decide +kernel⟩,
   ⟨({ route := .mbx 0 0, payload := padTo 2 [8, 0] } : Cmd), ({ up with power := { up.power with on := 0 } } : State), by decide +kernel⟩,
   ⟨({ route := .mbx 0 0, payload := padTo 8 [] } : Cmd), (up : State), by decide +kernel⟩,
   ⟨({ route := .mbx 0 0 } : Cmd), (up : State), by decide +kernel⟩⟩

/-- Obligations.PowerSequencesAndSleep. -/
theorem hypotheses_met_PowerSequencesAndSleep :
    (∃ (a : Fin 28) (j : LevelJob) (s : State), s.power.jobs.find? (fun j => decide (j.agent = a.val)) = some j ∧ ((s.power.hold = false ∧ s.power.lowSupply = false) ∨ 3 ≤ j.level))
    ∧ (∃ (a : Fin 28) (j : LevelJob) (s : State), s.power.jobs.find? (fun j => decide (j.agent = a.val)) = some j ∧ ((s.power.hold = false ∧ s.power.lowSupply = false) ∨ 3 ≤ j.level))
    ∧ (∃ (d : Fin 12) (q : DomSeq) (s : State), s.power.seqs.find? (fun q => decide (q.domain = d.val)) = some q ∧ ¬(q.off = true ∧ d.val = 2 ∧ s.domainUsed 2 = true))
    ∧ (∃ (d : Fin 12) (q : DomSeq) (s : State), s.power.seqs.find? (fun q => decide (q.domain = d.val)) = some q ∧ ¬(q.off = true ∧ d.val = 2 ∧ s.domainUsed 2 = true))
    ∧ (∃ (d : Fin 12) (q : DomSeq) (s : State), s.power.seqs.find? (fun q => decide (q.domain = d.val)) = some q ∧ ¬(q.off = true ∧ d.val = 2 ∧ s.domainUsed 2 = true))
    ∧ (∃ (g : Fin 4) (x : Nat × Time) (s : State), s.power.pgDue.find? (fun e => decide (e.1 = g.val)) = some x ∧ s.due (some x.2) = true ∧ s.power.pgDemand.getLsbD g = true ∧ s.power.held.getLsbD (3 + g) = true ∧ s.domainUsed (3 + g) = false)
    ∧ (∃ (w : WakeSrc) (s : State), s.wakeEnabled w = true ∧ s.power.phase = .steady ∧ s.power.sleep ≠ 0)
    ∧ (∃ (w : WakeSrc) (s : State), s.wakeEnabled w = true ∧ s.power.phase = .steady ∧ s.power.sleep ≠ 0)
    ∧ (∃ (w : WakeSrc) (s : State), s.wakeEnabled w = false)
    ∧ (∃ (target : Fin 4) (mask : BitVec 12) (s : State), s.boot.released = true ∧ (s.power.req = true ∨ s.power.sleep ≠ 0) ∧ target.val ≠ 0)
    ∧ (∃ (target : Fin 4) (mask : BitVec 12) (s : State), s.boot.released = true ∧ s.power.req = false ∧ s.power.sleep = 0)
    ∧ (∃ (target : Fin 4) (mask : BitVec 12) (s : State), s.boot.released = true ∧ s.power.req = false ∧ s.power.sleep = 0)
    ∧ (∃ (target : Fin 4) (mask : BitVec 12) (s : State), s.boot.released = true ∧ s.power.req = false ∧ s.power.sleep = 0)
    ∧ (∃ (target : Fin 4) (mask : BitVec 12) (s : State), s.boot.released = true ∧ s.power.req = false ∧ s.power.sleep = 0)
    ∧ (∃ (s : State), s.power.refused = true)
    ∧ (∃ (s : State), s.power.phase = .quiescing ∧ s.cluster.cores.all Core.idle = true ∧ s.sleepBusy = none)
    ∧ (∃ (s : State), s.power.phase = .entering ∧ s.power.wakeLatched = [])
    ∧ (∃ (s : State), s.power.phase = .exiting)
    ∧ (∃ (a : Fin 28) (s : State), s.power.gated.contains a.val = true) :=
  ⟨⟨(0 : Fin 28), ({ agent := 0, level := 4 } : LevelJob), ({ up with power := { up.power with jobs := [{ agent := 0, level := 4 }] } } : State), by decide +kernel⟩,
   ⟨(0 : Fin 28), ({ agent := 0, level := 3 } : LevelJob), ({ up with power := { up.power with hold := true, jobs := [{ agent := 0, level := 3 }] } } : State), by decide +kernel⟩,
   ⟨(8 : Fin 12), ({ domain := 8, off := true } : DomSeq), ({ up with power := { up.power with seqs := [{ domain := 8, off := true }] } } : State), by decide +kernel⟩,
   ⟨(8 : Fin 12), ({ domain := 8, off := false } : DomSeq), ({ up with power := { up.power with on := 0, seqs := [{ domain := 8 }] } } : State), by decide +kernel⟩,
   ⟨(2 : Fin 12), ({ domain := 2, off := true } : DomSeq), ({ up with power := { up.power with seqs := [{ domain := 2, off := true }] } } : State), by decide +kernel⟩,
   ⟨(1 : Fin 4), ((1, 1000) : Nat × Time), ({ (upAt 2000) with power := { (upAt 2000).power with pgDue := [(1, 1000)], pgDemand := 2, held := 16 } } : State), by decide +kernel⟩,
   ⟨(.cfg 0 : WakeSrc), ({ up with power := { up.power with sleep := 2 } } : State), by decide +kernel⟩,
   ⟨(.cfg 18 : WakeSrc), ({ up with power := { up.power with sleep := 1, wakeMask := BitVec.allOnes 64 } } : State), by decide +kernel⟩,
   ⟨(.cfg 60 : WakeSrc), (up : State), by decide +kernel⟩,
   ⟨(1 : Fin 4), (0 : BitVec 12), ({ up with power := { up.power with req := true } } : State), by decide +kernel⟩,
   ⟨(1 : Fin 4), (0 : BitVec 12), (up : State), by decide +kernel⟩,
   ⟨(0 : Fin 4), (0 : BitVec 12), (up : State), by decide +kernel⟩,
   ⟨(2 : Fin 4), (0x100 : BitVec 12), (up : State), by decide +kernel⟩,
   ⟨(3 : Fin 4), (0 : BitVec 12), (up : State), by decide +kernel⟩,
   ⟨({ up with power := { up.power with refused := true } } : State), by decide +kernel⟩,
   ⟨({ up with power := { up.power with phase := .quiescing, target := 1 } } : State), by decide +kernel⟩,
   ⟨({ up with power := { up.power with phase := .entering, target := 2 } } : State), by decide +kernel⟩,
   ⟨({ up with power := { up.power with phase := .exiting } } : State), by decide +kernel⟩,
   ⟨(3 : Fin 28), ({ up with power := { up.power with gated := [3] } } : State), by decide +kernel⟩⟩

/-- Obligations.SupplyEvents. -/
theorem hypotheses_met_SupplyEvents :
    (∃ (rail : Fin 6) (mv : Nat) (s : State), s.power.powered = true ∧ s.power.resetWait = false ∧ mv < s.warnMv rail ∧ resetMv rail ≤ mv ∧ s.power.hold = false ∧ s.power.lowSupply = false)
    ∧ (∃ (rail : Fin 6) (mv : Nat) (s : State), s.power.powered = true ∧ s.power.resetWait = false ∧ mv < s.warnMv rail ∧ resetMv rail ≤ mv ∧ s.power.hold = false ∧ s.power.lowSupply = false)
    ∧ (∃ (rail : Fin 6) (mv : Nat) (s : State), s.power.powered = true ∧ s.power.resetWait = false ∧ mv < s.warnMv rail ∧ resetMv rail ≤ mv ∧ s.power.hold = false ∧ s.power.lowSupply = false)
    ∧ (∃ (low : Nat) (s : State), s.power.hold = true)
    ∧ (∃ (s : State), s.power.hold = true ∧ 1000000 * s.boot.holdWindow ≤ (s.now - s.power.holdAt).toNat)
    ∧ (∃ (low : Nat) (s : State), s.power.lowSupply = true)
    ∧ (∃ (rail : Fin 6) (s : State), s.power.powered = true ∧ (rail.val = 0 ∨ 4 ≤ rail.val))
    ∧ (∃ (rail : Fin 6) (s : State), s.power.powered = true ∧ (rail.val = 0 ∨ 4 ≤ rail.val))
    ∧ (∃ (rail : Fin 6) (s : State), s.power.powered = true ∧ (rail.val = 0 ∨ 4 ≤ rail.val))
    ∧ (∃ (rail : Fin 6) (s : State), s.power.powered = true ∧ s.power.serdesLost = false ∧ (rail.val = 2 ∨ rail.val = 3) ∧ (s.hp 0).lost = true ∧ (s.hp 1).lost = true)
    ∧ (∃ (rail : Fin 6) (s : State), s.power.powered = true ∧ s.power.serdesLost = false ∧ (rail.val = 2 ∨ rail.val = 3) ∧ (s.hp 0).lost = true ∧ (s.hp 1).lost = true)
    ∧ (∃ (s : State), s.lock = true)
    ∧ (∃ (agents tunnels overhead : List (Nat × Nat)) (s : State), 0 < agents.length)
    ∧ (∃ (reg : Fin 4) (s : State), (Tab.get {} s.power.regs reg).rail ≠ 0)
    ∧ (∃ (reg : Fin 4) (v : BitVec 16) (s : State), (Tab.get {} s.power.regs reg).rail ≠ 0)
    ∧ (∃ (reg : Fin 4) (v : BitVec 16) (s : State), (Tab.get {} s.power.regs reg).rail ≠ 0)
    ∧ (∃ (reg : Fin 4) (v : BitVec 16) (s : State), (Tab.get {} s.power.regs reg).rail ≠ 0) :=
  ⟨⟨(0 : Fin 6), (740 : Nat), (up : State), by decide +kernel⟩,
   ⟨(1 : Fin 6), (740 : Nat), (up : State), by decide +kernel⟩,
   ⟨(5 : Fin 6), (3000 : Nat), (up : State), by decide +kernel⟩,
   ⟨(700 : Nat), ({ up with power := { up.power with hold := true } } : State), by decide +kernel⟩,
   ⟨({ (upAt 100000000) with power := { (upAt 100000000).power with hold := true } } : State), by decide +kernel⟩,
   ⟨(700 : Nat), ({ up with power := { up.power with lowSupply := true } } : State), by decide +kernel⟩,
   ⟨(0 : Fin 6), (up : State), by decide +kernel⟩,
   ⟨(4 : Fin 6), (up : State), by decide +kernel⟩,
   ⟨(5 : Fin 6), (up : State), by decide +kernel⟩,
   ⟨(2 : Fin 6), ({ up with hosts := { up.hosts with hp0 := { up.hosts.hp0 with lost := true }, hp1 := { up.hosts.hp1 with lost := true } } } : State), by decide +kernel⟩,
   ⟨(3 : Fin 6), ({ up with hosts := { up.hosts with hp0 := { up.hosts.hp0 with lost := true }, hp1 := { up.hosts.hp1 with lost := true } } } : State), by decide +kernel⟩,
   ⟨({ up with lock := true } : State), by decide +kernel⟩,
   ⟨([(1, 5)] : List (Nat × Nat)), ([] : List (Nat × Nat)), ([] : List (Nat × Nat)), (up : State), by decide +kernel⟩,
   ⟨(0 : Fin 4), ({ up with power := { up.power with regs := [(0, { rail := 1 })] } } : State), by decide +kernel⟩,
   ⟨(0 : Fin 4), (0 : BitVec 16), ({ up with power := { up.power with regs := [(0, { rail := 1 })] } } : State), by decide +kernel⟩,
   ⟨(0 : Fin 4), (8 : BitVec 16), ({ up with power := { up.power with regs := [(0, { rail := 1 })] } } : State), by decide +kernel⟩,
   ⟨(0 : Fin 4), (0x38 : BitVec 16), ({ up with power := { up.power with regs := [(0, { rail := 1 })] } } : State), by decide +kernel⟩⟩

/-- Obligations.SiltCommandsComplete. -/
theorem hypotheses_met_SiltCommandsComplete :
    (∃ (c : Cmd) (s : State), s.mayCarry infoJrnlRead c ((checksJrnlRead c)) = true ∧ (c.accessFailed = false ∧ c.route = .mgmt ∧ (s.region 4).errs = [] ∧ (s.region 4).backOnce = []))
    ∧ (∃ (c : Cmd) (s : State), s.mayCarry infoSiltDrainBind c (checksSiltDrainBind c s) = true ∧ (c.route.slice?.isSome = true))
    ∧ (∃ (c : Cmd) (s : State), s.mayCarry infoSiltDrainBind c (checksSiltDrainBind c s) = true ∧ (c.route = .mgmt ∧ byteAt c.payload 3 = 0))
    ∧ (∃ (c : Cmd) (s : State), s.mayCarry infoSiltDrainBind c (checksSiltDrainBind c s) = true ∧ (c.route = .mgmt ∧ byteAt c.payload 3 = 0))
    ∧ (∃ (c : Cmd) (s : State), s.mayCarry infoTraceCfg c (checksTraceCfg c s) = true)
    ∧ (∃ (c : Cmd) (s : State), s.mayCarry infoAlarmRead c ((checksAlarmRead c)) = true)
    ∧ (∃ (c : Cmd) (s : State), s.mayCarry infoAlarmAck c (checksAlarmAck c s) = true)
    ∧ (∃ (c : Cmd) (s : State), s.mayCarry infoAlarmCfg c (checksAlarmCfg c s) = true)
    ∧ (∃ (c : Cmd) (s : State), s.mayCarry infoJrnlPersistCfg c (checksJrnlPersistCfg c s) = true ∧ (c.accessFailed = false)) :=
  ⟨⟨({ route := .mgmt, payload := padTo 18 [] } : Cmd), (up : State), by decide +kernel⟩,
   ⟨({ route := .mbx 0 0, payload := padTo 16 [] } : Cmd), (up : State), by decide +kernel⟩,
   ⟨({ route := .mgmt, payload := toLe 2 0 ++ [0, 0] ++ toLe 12 0 } : Cmd), (up : State), by decide +kernel⟩,
   ⟨({ route := .mgmt, payload := toLe 2 0 ++ [1, 0] ++ toLe 12 0 } : Cmd), (up : State), by decide +kernel⟩,
   ⟨({ route := .mbx 0 0, payload := padTo 8 [] } : Cmd), (up : State), by decide +kernel⟩,
   ⟨({ route := .mbx 0 0 } : Cmd), (up : State), by decide +kernel⟩,
   ⟨({ route := .mbx 0 0, payload := padTo 1 [] } : Cmd), (up : State), by decide +kernel⟩,
   ⟨({ route := .mbx 0 0, payload := padTo 3 [] } : Cmd), (up : State), by decide +kernel⟩,
   ⟨({ route := .mgmt, payload := padTo 1 [] } : Cmd), (up : State), by decide +kernel⟩⟩

/-- Obligations.SiltEvents. -/
theorem hypotheses_met_SiltEvents :
    (∃ (h : Fin 2) (s : State), 0 < (s.hp h).jNext ∧ (s.hp h).jOn = true)
    ∧ (∃ (s : State), 8 ≤ s.persistWaiting ∧ (s.silt.persistWr + 1) % max (s.boot.jrnlSize / 256) 1 % 256 ≠ 0)
    ∧ (∃ (s : State), 8 ≤ s.persistWaiting)
    ∧ (∃ (s : State), s.hosts.hp0.tOn = false ∧ s.hosts.hp1.tOn = false ∧ s.silt.mgmtT = true ∧ s.silt.traceLoss = none ∧ s.silt.trace.length + (s.silt.fifos.flatMap Prod.snd).length ≤ 8192)
    ∧ (∃ (a : Nat) (l : Loss) (s : State), s.silt.fifoLoss.find? (fun e => decide (e.1 = a)) = some (a, l) ∧ (Tab.get [] s.silt.fifos a).length < 16)
    ∧ (∃ (h : Fin 2) (s : State), (s.hp h).alarmPend = true ∧ (s.hp h).alarmNext.toNat ≤ s.now.toNat)
    ∧ (∃ (h : Fin 2) (s : State), (s.hp h).jPend = true ∧ (s.hp h).jVecNext.toNat ≤ s.now.toNat)
    ∧ (∃ (h : Fin 2) (s : State), (s.hp h).tPend = true ∧ (s.hp h).tVecNext.toNat ≤ s.now.toNat)
    ∧ (∃ (r : JReq) (rest : List Deferred) (s : State), s.silt.records = [] ∧ s.silt.deferred = { req := r } :: rest ∧ s.power.hold = false ∧ s.silt.chained = true ∧ s.journalRoom false = true)
    ∧ (∃ (h : Fin 2) (v : BitVec 32) (s : State), (s.hp h).jOn = true)
    ∧ (∃ (h : Fin 2) (v : BitVec 32) (s : State), (s.hp h).tOn = true)
    ∧ (∃ (v : BitVec 64) (s : State), s.silt.mgmtJ.on = true)
    ∧ (∃ (v : BitVec 32) (s : State), s.silt.mgmtT = true) :=
  ⟨⟨(0 : Fin 2), ({ up with hosts := { up.hosts with hp0 := { up.hosts.hp0 with jOn := true, jNext := 1 } } } : State), by decide +kernel⟩,
   ⟨({ up with silt := { up.silt with next := 9, persist := { up.silt.persist with on := true } }, boot := { up.boot with jrnlSize := 65536 } } : State), by decide +kernel⟩,
   ⟨({ up with silt := { up.silt with next := 9, persist := { up.silt.persist with on := true } } } : State), by decide +kernel⟩,
   ⟨({ up with silt := { up.silt with mgmtT := true, fifos := [(1, [{}])] } } : State), by decide +kernel⟩,
   ⟨(1 : Nat), ({ count := 2 } : Loss), ({ up with silt := { up.silt with fifoLoss := [(1, { count := 2 })] } } : State), by decide +kernel⟩,
   ⟨(0 : Fin 2), ({ up with hosts := { up.hosts with hp0 := { up.hosts.hp0 with alarmPend := true } } } : State), by decide +kernel⟩,
   ⟨(0 : Fin 2), ({ up with hosts := { up.hosts with hp0 := { up.hosts.hp0 with jPend := true } } } : State), by decide +kernel⟩,
   ⟨(0 : Fin 2), ({ up with hosts := { up.hosts with hp0 := { up.hosts.hp0 with tPend := true } } } : State), by decide +kernel⟩,
   ⟨({ kind := 0x0202 } : JReq), ([] : List Deferred), ({ up with silt := { up.silt with deferred := [{ req := { kind := 0x0202 } }] } } : State), by decide +kernel⟩,
   ⟨(0 : Fin 2), (0 : BitVec 32), ({ up with hosts := { up.hosts with hp0 := { up.hosts.hp0 with jOn := true, jNext := 1 } } } : State), by decide +kernel⟩,
   ⟨(0 : Fin 2), (0 : BitVec 32), ({ up with hosts := { up.hosts with hp0 := { up.hosts.hp0 with tOn := true } } } : State), by decide +kernel⟩,
   ⟨(0 : BitVec 64), ({ up with silt := { up.silt with mgmtJ := { up.silt.mgmtJ with on := true } } } : State), by decide +kernel⟩,
   ⟨(0 : BitVec 32), ({ up with silt := { up.silt with mgmtT := true } } : State), by decide +kernel⟩⟩

/-- Obligations.EdgeCommandsTakeEffect. -/
theorem hypotheses_met_EdgeCommandsTakeEffect :
    (∃ (c : Cmd) (s : State), s.mayCarry infoTbSet c (checksTbSet c s) = true)
    ∧ (∃ (c : Cmd) (s : State), s.mayCarry infoTbSlew c ((checksTbSlew c)) = true)
    ∧ (∃ (c : Cmd) (s : State), s.mayCarry infoRefclkSelect c (checksRefclkSelect c s) = true)
    ∧ (∃ (c : Cmd) (s : State), s.mayCarry infoTbQuery c ((checksTbQuery c)) = true)
    ∧ (∃ (c : Cmd) (s : State), s.mayCarry infoDpiCfg c (checksDpiCfg c s) = true)
    ∧ (∃ (c : Cmd) (s : State), s.mayCarry infoDpiQuery c (checksDpiQuery c s) = true)
    ∧ (∃ (c : Cmd) (s : State), s.mayCarry infoNetPortCfg c (checksNetPortCfg c s) = true ∧ ((fun c s =>
      let x := s.netPort (byteAt c.payload 0)
      x.up = false ∨ x.rate = byteAt c.payload 1 ∧ x.fec = bitOf (byteAt c.payload 2) 0) c s))
    ∧ (∃ (c : Cmd) (s : State), s.mayCarry infoNetPortCfg c (checksNetPortCfg c s) = true ∧ (fun c s =>
      let x := s.netPort (byteAt c.payload 0)
      x.up = true ∧ ¬(x.rate = byteAt c.payload 1 ∧ x.fec = bitOf (byteAt c.payload 2) 0)) c s)
    ∧ (∃ (c : Cmd) (s : State), s.mayCarry infoPtpCfg c (checksPtpCfg c s) = true) :=
  ⟨⟨({ route := .mgmt, payload := padTo 16 [] } : Cmd), (State.reset : State), by decide +kernel⟩,
   ⟨({ route := .mbx 0 0, payload := padTo 16 [] } : Cmd), (up : State), by decide +kernel⟩,
   ⟨({ route := .mbx 0 0, payload := padTo 1 [2] } : Cmd), (up : State), by decide +kernel⟩,
   ⟨({ route := .mbx 0 0 } : Cmd), (up : State), by decide +kernel⟩,
   ⟨({ route := .mbx 0 0, payload := padTo 4 [0, 0, 1, 0] } : Cmd), (up : State), by decide +kernel⟩,
   ⟨({ route := .mbx 0 0, payload := padTo 1 [] } : Cmd), (up : State), by decide +kernel⟩,
   ⟨({ route := .mbx 0 0, payload := padTo 3 [] } : Cmd), (up : State), by decide +kernel⟩,
   ⟨({ route := .mbx 0 0, payload := padTo 3 [0, 2, 0] } : Cmd), (up.modNet 0 fun d => { d with rate := 1, up := true } : State), by decide +kernel⟩,
   ⟨({ route := .mbx 0 0, payload := padTo 2 [] } : Cmd), (up : State), by decide +kernel⟩⟩

/-- Obligations.ClockEvents. -/
theorem hypotheses_met_ClockEvents :
    (∃ (s : State), s.clock.slewLeft.natAbs < 2 ^ 32)
    ∧ (∃ (s : State), s.clock.slewLeft.natAbs < 2 ^ 32)
    ∧ (∃ (s : State), 2 ^ 32 ≤ s.clock.slewLeft.natAbs)
    ∧ (∃ (a : Fin 28) (s : State), s.clock.invalidFollowers = [])
    ∧ (∃ (s : State), s.clock.invalidFollowers ≠ [])
    ∧ (∃ (n : Fin 2) (s : State), s.clock.valid (decide (n.val = 1)) = true)
    ∧ (∃ (n : Fin 2) (s : State), s.clock.valid (decide (n.val = 1)) = true)
    ∧ (∃ (n : Fin 2) (s : State), s.clock.valid (decide (n.val = 1)) = false)
    ∧ (∃ (n : Fin 2) (s : State), s.clock.valid (decide (n.val = 1)) = false)
    ∧ (∃ (n : Fin 2) (s : State), s.clock.valid (decide (n.val = 1)) = true)
    ∧ (∃ (n : Fin 2) (s : State), s.clock.valid (decide (n.val = 1)) = true)
    ∧ (∃ (s : State), s.clock.mode ≤ 1 ∧ s.clock.srcB ≠ decide (s.clock.mode = 1) ∧ s.clock.valid (decide (s.clock.mode = 1)) = true ∧ 10000000000 ≤ (s.now - if s.clock.mode = 1 then s.clock.bSince else s.clock.aSince).toNat)
    ∧ (∃ (s : State), s.clock.mode ≤ 1 ∧ s.clock.srcB ≠ decide (s.clock.mode = 1) ∧ s.clock.valid (decide (s.clock.mode = 1)) = true ∧ 10000000000 ≤ (s.now - if s.clock.mode = 1 then s.clock.bSince else s.clock.aSince).toNat)
    ∧ (∃ (h : Fin 2) (t1 master : BitVec 64) (delay : BitVec 32) (s : State), (s.hp h).ptmEn = true ∧ (s.hp h).linkUp = true ∧ s.domainOff 7 = false) :=
  ⟨⟨({ up with clock := { up.clock with slewLeft := 5 } } : State), by decide +kernel⟩,
   ⟨({ up with clock := { up.clock with slewLeft := -5 } } : State), by decide +kernel⟩,
   ⟨({ up with clock := { up.clock with slewLeft := 2 ^ 32 } } : State), by decide +kernel⟩,
   ⟨(3 : Fin 28), (up : State), by decide +kernel⟩,
   ⟨({ up with clock := { up.clock with invalidFollowers := [3] } } : State), by decide +kernel⟩,
   ⟨(0 : Fin 2), ({ up with clock := { up.clock with aValid := true } } : State), by decide +kernel⟩,
   ⟨(1 : Fin 2), ({ up with clock := { up.clock with bValid := true } } : State), by decide +kernel⟩,
   ⟨(0 : Fin 2), (up : State), by decide +kernel⟩,
   ⟨(1 : Fin 2), (up : State), by decide +kernel⟩,
   ⟨(0 : Fin 2), ({ up with clock := { up.clock with aValid := true } } : State), by decide +kernel⟩,
   ⟨(1 : Fin 2), ({ up with clock := { up.clock with bValid := true } } : State), by decide +kernel⟩,
   ⟨({ (upAt 20000000000) with clock := { (upAt 20000000000).clock with mode := 1, bValid := true } } : State), by decide +kernel⟩,
   ⟨({ (upAt 20000000000) with clock := { (upAt 20000000000).clock with mode := 0, srcB := true, aValid := true } } : State), by decide +kernel⟩,
   ⟨(0 : Fin 2), (5 : BitVec 64), (6 : BitVec 64), (7 : BitVec 32), ({ up with hosts := { up.hosts with hp0 := { up.hosts.hp0 with ptmEn := true } } } : State), by decide +kernel⟩⟩

/-- Obligations.DisplayEvents. -/
theorem hypotheses_met_DisplayEvents :
    (∃ (n : Fin 8) (s : State), s.due (s.dpi n).hpdDue = true)
    ∧ (∃ (n : Fin 8) (kind : Fin 5) (rate : Fin 6) (lanes : Fin 5) (s : State), s.domainOff 9 = false ∧ (s.dpi n).enabled = true ∧ (s.dpi n).hpdDue = none ∧ (kind.val = 3 → rate.val ≤ (s.dpi n).rate ∧ lanes.val ∈ [1, 2, 4]))
    ∧ (∃ (n : Fin 8) (kind : Fin 5) (rate : Fin 6) (lanes : Fin 5) (s : State), s.domainOff 9 = false ∧ (s.dpi n).enabled = true ∧ (s.dpi n).hpdDue = none ∧ (kind.val = 3 → rate.val ≤ (s.dpi n).rate ∧ lanes.val ∈ [1, 2, 4]))
    ∧ (∃ (n : Fin 8) (kind : Fin 5) (rate : Fin 6) (lanes : Fin 5) (s : State), s.domainOff 9 = false ∧ (s.dpi n).enabled = true ∧ (s.dpi n).hpdDue = none ∧ (kind.val = 3 → rate.val ≤ (s.dpi n).rate ∧ lanes.val ∈ [1, 2, 4]))
    ∧ (∃ (n : Fin 8) (kind : Fin 5) (rate : Fin 6) (lanes : Fin 5) (s : State), s.domainOff 9 = false ∧ (s.dpi n).enabled = true ∧ (s.dpi n).hpdDue = none ∧ (kind.val = 3 → rate.val ≤ (s.dpi n).rate ∧ lanes.val ∈ [1, 2, 4]))
    ∧ (∃ (n : Fin 8) (kind : Fin 5) (rate : Fin 6) (lanes : Fin 5) (s : State), s.domainOff 9 = false ∧ (s.dpi n).enabled = true ∧ (s.dpi n).hpdDue = none ∧ (kind.val = 3 → rate.val ≤ (s.dpi n).rate ∧ lanes.val ∈ [1, 2, 4]))
    ∧ (∃ (n : Fin 8) (k : Fin 4) (seg flags line off : Nat) (frame : BitVec 8) (data : List Byte) (s : State), segOk seg flags line data = true ∧ s.streamTunnel (4 * n.val + k.val) = none)
    ∧ (∃ (n : Fin 8) (k : Fin 4) (seg flags line off : Nat) (frame : BitVec 8) (data : List Byte) (tid : Nat) (s : State), segOk seg flags line data = true ∧ s.streamTunnel (4 * n.val + k.val) = some tid ∧ (s.streamOf (4 * n.val + k.val)).firstOf seg frame = true ∧ s.hpdLow tid = false ∧ ((s.tunnel tid).state = .opening ∨ (s.tunnel tid).state = .closing))
    ∧ (∃ (n : Fin 8) (k : Fin 4) (seg flags line off : Nat) (frame : BitVec 8) (data : List Byte) (tid : Nat) (s : State), segOk seg flags line data = true ∧ s.streamTunnel (4 * n.val + k.val) = some tid ∧ (s.streamOf (4 * n.val + k.val)).firstOf seg frame = true ∧ s.hpdLow tid = false ∧ ((s.tunnel tid).state = .opening ∨ (s.tunnel tid).state = .closing))
    ∧ (∃ (n : Fin 8) (k : Fin 4) (flags line off : Nat) (frame : BitVec 8) (data : List Byte) (tid : Nat) (s : State), segOk 2 flags line data = true ∧ s.streamTunnel (4 * n.val + k.val) = some tid ∧ frame = (s.streamOf (4 * n.val + k.val)).frame ∧ 2 ≤ (s.streamOf (4 * n.val + k.val)).sdps)
    ∧ (∃ (n : Fin 8) (k : Fin 4) (seg flags line off : Nat) (frame : BitVec 8) (data : List Byte) (tid q : Nat) (s : State), segOk seg flags line data = true ∧ s.streamTunnel (4 * n.val + k.val) = some tid ∧ (s.streamOf (4 * n.val + k.val)).firstOf seg frame = true ∧ s.hpdLow tid = false ∧ (s.tunnel tid).state = .opened ∧ (s.tunnel tid).cls = 0 ∧ (s.streamOf (4 * n.val + k.val)).noVideo = false ∧ queueOf (agentPort (s.tunnel tid).port) 0 (s.tunnel tid).periodic = some q ∧ s.roomFor 0 (agentPort (s.tunnel tid).port) q = true)
    ∧ (∃ (n : Fin 8) (k : Fin 4) (seg flags line off : Nat) (frame : BitVec 8) (data : List Byte) (tid q : Nat) (s : State), segOk seg flags line data = true ∧ s.streamTunnel (4 * n.val + k.val) = some tid ∧ (s.streamOf (4 * n.val + k.val)).firstOf seg frame = true ∧ s.hpdLow tid = false ∧ (s.tunnel tid).state = .opened ∧ (s.tunnel tid).cls = 0 ∧ (s.streamOf (4 * n.val + k.val)).noVideo = false ∧ queueOf (agentPort (s.tunnel tid).port) 0 (s.tunnel tid).periodic = some q ∧ s.roomFor 0 (agentPort (s.tunnel tid).port) q = true)
    ∧ (∃ (n : Fin 8) (k : Fin 4) (seg flags line off : Nat) (frame : BitVec 8) (data : List Byte) (tid : Nat) (s : State), segOk seg flags line data = true ∧ s.streamTunnel (4 * n.val + k.val) = some tid ∧ seg ≠ 2 ∧ (s.streamOf (4 * n.val + k.val)).firstOf seg frame = false)
    ∧ (∃ (n : Fin 8) (k : Fin 4) (seg flags line off : Nat) (frame : BitVec 8) (data : List Byte) (tid : Nat) (s : State), segOk seg flags line data = true ∧ s.streamTunnel (4 * n.val + k.val) = some tid ∧ seg ≠ 2 ∧ (s.streamOf (4 * n.val + k.val)).firstOf seg frame = false)
    ∧ (∃ (n : Fin 8) (k : Fin 4) (tid q : Nat) (s : State), s.streamTunnel (4 * n.val + k.val) = some tid ∧ s.hpdLow tid = false ∧ (s.tunnel tid).state = .opened ∧ (s.tunnel tid).cls = 0 ∧ ((s.streamOf (4 * n.val + k.val)).stopped = true ∨ (s.streamOf (4 * n.val + k.val)).noVideo = true) ∧ queueOf (agentPort (s.tunnel tid).port) 0 (s.tunnel tid).periodic = some q ∧ s.roomFor 0 (agentPort (s.tunnel tid).port) q = true)
    ∧ (∃ (n : Fin 8) (k : Fin 4) (mode : DispMode) (s : State), s.streamTunnel (4 * n.val + k.val) = none)
    ∧ (∃ (n : Fin 8) (k : Fin 4) (mode : DispMode) (tid : Nat) (s : State), s.streamTunnel (4 * n.val + k.val) = some tid ∧ s.dpBinding tid = false)
    ∧ (∃ (n : Fin 8) (k : Fin 4) (mode : DispMode) (tid r : Nat) (s : State), s.streamTunnel (4 * n.val + k.val) = some tid ∧ s.dpBinding tid = true ∧ dispFlits mode ≤ (s.tunnel tid).rsvOut ∧ (s.port (s.tunnel tid).port).pd.dp.rate = some r ∧ (s.port (s.tunnel tid).port).pd.dp.source = some (4 * n.val + k.val) ∧ (s.port (s.tunnel tid).port).pd.dpDscOk mode = true ∧ (s.tunnel tid).stream = 4 * n.val + k.val ∧ dpFits mode (s.port (s.tunnel tid).port).pd.dp.lanes r = true) :=
  ⟨⟨(0 : Fin 8), ((upAt 2000).modDpi 0 fun d => { d with hpdDue := some 1000 } : State), by decide +kernel⟩,
   ⟨(0 : Fin 8), (0 : Fin 5), (1 : Fin 6), (2 : Fin 5), (up.modDpi 0 fun d => { d with enabled := true, rate := 2, connected := true, trained := true } : State), by refine ⟨by decide +kernel, by decide +kernel, by decide +kernel, fun _ => by decide +kernel⟩⟩,
   ⟨(0 : Fin 8), (1 : Fin 5), (1 : Fin 6), (2 : Fin 5), (up.modDpi 0 fun d => { d with enabled := true, rate := 2, connected := true, trained := true } : State), by refine ⟨by decide +kernel, by decide +kernel, by decide +kernel, fun _ => by decide +kernel⟩⟩,
   ⟨(0 : Fin 8), (2 : Fin 5), (1 : Fin 6), (2 : Fin 5), (up.modDpi 0 fun d => { d with enabled := true, rate := 2, connected := true, trained := true } : State), by refine ⟨by decide +kernel, by decide +kernel, by decide +kernel, fun _ => by decide +kernel⟩⟩,
   ⟨(0 : Fin 8), (3 : Fin 5), (1 : Fin 6), (2 : Fin 5), (up.modDpi 0 fun d => { d with enabled := true, rate := 2, connected := true, trained := true } : State), by refine ⟨by decide +kernel, by decide +kernel, by decide +kernel, fun _ => by decide +kernel⟩⟩,
   ⟨(0 : Fin 8), (4 : Fin 5), (1 : Fin 6), (2 : Fin 5), (up.modDpi 0 fun d => { d with enabled := true, rate := 2, connected := true, trained := true } : State), by refine ⟨by decide +kernel, by decide +kernel, by decide +kernel, fun _ => by decide +kernel⟩⟩,
   ⟨(0 : Fin 8), (0 : Fin 4), (0 : Nat), (0 : Nat), (0 : Nat), (0 : Nat), (1 : BitVec 8), ([1, 2] : List Byte), (up : State), by decide +kernel⟩,
   ⟨(0 : Fin 8), (0 : Fin 4), (0 : Nat), (0 : Nat), (0 : Nat), (0 : Nat), (1 : BitVec 8), ([1, 2] : List Byte), (0 : Nat), ((up).setTunnel 0 ({ port := 0, tun := 1, cls := 0, dirs := 1, state := .opening, owner := .slice 0 0, rsvOut := 100 } : Tunnel) : State), by decide +kernel⟩,
   ⟨(0 : Fin 8), (0 : Fin 4), (0 : Nat), (0 : Nat), (0 : Nat), (0 : Nat), (1 : BitVec 8), ([1, 2] : List Byte), (0 : Nat), ((up).setTunnel 0 ({ port := 0, tun := 1, cls := 0, dirs := 1, state := .closing, owner := .slice 0 0, rsvOut := 100 } : Tunnel) : State), by decide +kernel⟩,
   ⟨(0 : Fin 8), (0 : Fin 4), (0 : Nat), (0 : Nat), (0 : Nat), (1 : BitVec 8), ([1, 2] : List Byte), (0 : Nat), ((up.modStream 0 fun y => { y with frame := 1, sdps := 2 }).setTunnel 0 ({ port := 0, tun := 1, cls := 0, dirs := 1, state := .opened, owner := .slice 0 0, rsvOut := 100 } : Tunnel) : State), by decide +kernel⟩,
   ⟨(0 : Fin 8), (0 : Fin 4), (0 : Nat), (0 : Nat), (0 : Nat), (0 : Nat), (1 : BitVec 8), ([1, 2] : List Byte), (0 : Nat), (0 : Nat), ((up).setTunnel 0 ({ port := 0, tun := 1, cls := 0, dirs := 1, state := .opened, owner := .slice 0 0, rsvOut := 100 } : Tunnel) : State), by decide +kernel⟩,
   ⟨(0 : Fin 8), (0 : Fin 4), (2 : Nat), (0 : Nat), (0 : Nat), (0 : Nat), (1 : BitVec 8), ([1, 2] : List Byte), (0 : Nat), (0 : Nat), ((up).setTunnel 0 ({ port := 0, tun := 1, cls := 0, dirs := 1, state := .opened, owner := .slice 0 0, rsvOut := 100 } : Tunnel) : State), by decide +kernel⟩,
   ⟨(0 : Fin 8), (0 : Fin 4), (1 : Nat), (0 : Nat), (0 : Nat), (0 : Nat), (1 : BitVec 8), ([1, 2] : List Byte), (0 : Nat), (((up).modStream 0 fun y => { y with frame := 1, msa := true }).setTunnel 0 ({ port := 0, tun := 1, cls := 0, dirs := 1, state := .opened, owner := .slice 0 0, rsvOut := 100 } : Tunnel) : State), by decide +kernel⟩,
   ⟨(0 : Fin 8), (0 : Fin 4), (3 : Nat), (0 : Nat), (0 : Nat), (0 : Nat), (1 : BitVec 8), ([1, 2] : List Byte), (0 : Nat), (((up).modStream 0 fun y => { y with frame := 1, vblank := true }).setTunnel 0 ({ port := 0, tun := 1, cls := 0, dirs := 1, state := .opened, owner := .slice 0 0, rsvOut := 100 } : Tunnel) : State), by decide +kernel⟩,
   ⟨(0 : Fin 8), (0 : Fin 4), (0 : Nat), (0 : Nat), ((up.modStream 0 fun y => { y with stopped := true }).setTunnel 0 ({ port := 0, tun := 1, cls := 0, dirs := 1, state := .opened, owner := .slice 0 0, rsvOut := 100 } : Tunnel) : State), by decide +kernel⟩,
   ⟨(0 : Fin 8), (0 : Fin 4), ({} : DispMode), (up : State), by decide +kernel⟩,
   ⟨(0 : Fin 8), (0 : Fin 4), ({ } : DispMode), (0 : Nat), ((up).setTunnel 0 ({ port := 0, tun := 1, cls := 0, dirs := 1, state := .opened, owner := .slice 0 0, rsvOut := 100 } : Tunnel) : State), by decide +kernel⟩,
   ⟨(0 : Fin 8), (0 : Fin 4), ({ } : DispMode), (0 : Nat), (1 : Nat), ((up.modPd 0 fun d => { d with dp := { d.dp with entered := true, tid := some 0, source := some 0, hpd := true, lanes := 4, rate := some 1 } }).setTunnel 0 ({ port := 0, tun := 1, cls := 0, dirs := 1, state := .opened, owner := .slice 0 0, rsvOut := 100 } : Tunnel) : State), by decide +kernel⟩⟩

/-- Obligations.EthernetEvents. -/
theorem hypotheses_met_EthernetEvents :
    (∃ (n : Fin 4) (up : Bool) (s : State), s.domainOff 10 = false ∧ (s.netPort n).rate ≠ 0 ∧ (s.netPort n).up ≠ up)
    ∧ (∃ (n : Fin 4) (up : Bool) (s : State), s.domainOff 10 = false ∧ (s.netPort n).rate ≠ 0 ∧ (s.netPort n).up ≠ up)
    ∧ (∃ (n : Fin 4) (f : List Byte) (s : State), s.domainOff 10 = false ∧ (s.netPort n).up = true ∧ (9216 < f.length ∨ 64 ≤ f.length) ∧ (9216 < f.length ∨ fcsOk f = false ∨ macControl f = true ∨ frameVid f = none ∨ ∃ v, frameVid f = some v ∧ s.vidTunnel n v = none))
    ∧ (∃ (n : Fin 4) (f : List Byte) (s : State), s.domainOff 10 = false ∧ (s.netPort n).up = true ∧ (9216 < f.length ∨ 64 ≤ f.length) ∧ (9216 < f.length ∨ fcsOk f = false ∨ macControl f = true ∨ frameVid f = none ∨ ∃ v, frameVid f = some v ∧ s.vidTunnel n v = none))
    ∧ (∃ (n : Fin 4) (f : List Byte) (s : State), s.domainOff 10 = false ∧ (s.netPort n).up = true ∧ (9216 < f.length ∨ 64 ≤ f.length) ∧ (9216 < f.length ∨ fcsOk f = false ∨ macControl f = true ∨ frameVid f = none ∨ ∃ v, frameVid f = some v ∧ s.vidTunnel n v = none))
    ∧ (∃ (n : Fin 4) (f : List Byte) (s : State), s.domainOff 10 = false ∧ (s.netPort n).up = true ∧ (9216 < f.length ∨ 64 ≤ f.length) ∧ (9216 < f.length ∨ fcsOk f = false ∨ macControl f = true ∨ frameVid f = none ∨ ∃ v, frameVid f = some v ∧ s.vidTunnel n v = none))
    ∧ (∃ (n : Fin 4) (f : List Byte) (s : State), s.domainOff 10 = false ∧ (s.netPort n).up = true ∧ (9216 < f.length ∨ 64 ≤ f.length) ∧ (9216 < f.length ∨ fcsOk f = false ∨ macControl f = true ∨ frameVid f = none ∨ ∃ v, frameVid f = some v ∧ s.vidTunnel n v = none))
    ∧ (∃ (n : Fin 4) (f : List Byte) (v tid : Nat) (s : State), s.domainOff 10 = false ∧ (s.netPort n).up = true ∧ 64 ≤ f.length ∧ f.length ≤ 9216 ∧ fcsOk f = true ∧ macControl f = false ∧ frameVid f = some v ∧ s.vidTunnel n v = some tid) :=
  ⟨⟨(0 : Fin 4), (true : Bool), (up.modNet 0 fun d => { d with rate := 1 } : State), by decide +kernel⟩,
   ⟨(0 : Fin 4), (false : Bool), (up.modNet 0 fun d => { d with rate := 1, up := true } : State), by decide +kernel⟩,
   ⟨(0 : Fin 4), (List.replicate 9217 0 : List Byte), (up.modNet 0 fun d => { d with rate := 1, up := true } : State), by refine ⟨by decide +kernel, by decide +kernel, by decide +kernel, Or.inl (by decide +kernel)⟩⟩,
   ⟨(0 : Fin 4), (List.replicate 64 0 : List Byte), (up.modNet 0 fun d => { d with rate := 1, up := true } : State), by refine ⟨by decide +kernel, by decide +kernel, by decide +kernel, Or.inr (Or.inl (by decide +kernel))⟩⟩,
   ⟨(0 : Fin 4), ((padTo 12 [] ++ [0x88, 8] ++ padTo 46 [] ++ frameFcs (padTo 12 [] ++ [0x88, 8] ++ padTo 46 [])) : List Byte), (up.modNet 0 fun d => { d with rate := 1, up := true } : State), by refine ⟨by decide +kernel, by decide +kernel, by decide +kernel, Or.inr (Or.inr (Or.inl (by decide +kernel)))⟩⟩,
   ⟨(0 : Fin 4), ((padTo 60 [] ++ frameFcs (padTo 60 [])) : List Byte), (up.modNet 0 fun d => { d with rate := 1, up := true } : State), by refine ⟨by decide +kernel, by decide +kernel, by decide +kernel, Or.inr (Or.inr (Or.inr (Or.inl (by decide +kernel))))⟩⟩,
   ⟨(0 : Fin 4), (vidFrame : List Byte), (up.modNet 0 fun d => { d with rate := 1, up := true } : State), by refine ⟨by decide +kernel, by decide +kernel, by decide +kernel, Or.inr (Or.inr (Or.inr (Or.inr ⟨5, by decide +kernel⟩)))⟩⟩,
   ⟨(0 : Fin 4), (vidFrame : List Byte), (5 : Nat), (0 : Nat), ((up.modNet 0 fun d => { d with rate := 1, up := true }).setTunnel 0 ({ port := 0, tun := 1, cls := 5, dirs := 3, state := .opened, owner := .slice 0 0, clientRef := 5 } : Tunnel) : State), by decide +kernel⟩⟩

/-- Obligations.MailboxAndSiteRegisters. -/
theorem hypotheses_met_MailboxAndSiteRegisters :
    (∃ (s : State), s.mgmt.busy = false ∧ msgFormOk s.mgmt.msg = true ∧ s.boot.stage ≠ .noImage)
    ∧ (∃ (s : State), s.mgmt.busy = true)
    ∧ (∃ (s : State), s.mgmt.done = true)
    ∧ (∃ (s : State), s.mgmt.refused = true)
    ∧ (∃ (s : State), 0 < s.mgmt.notices.length)
    ∧ (∃ (s : State), s.lock = false)
    ∧ (∃ (s : State), s.lock = false)
    ∧ (∃ (who : Option (Fin 2)) (v : BitVec 32) (s : State), s.power.hold = false ∧ s.lock = false ∧ s.journalRoom who.isNone = true)
    ∧ (∃ (who : Option (Fin 2)) (v : BitVec 32) (s : State), s.power.hold = false ∧ s.lock = false ∧ s.journalRoom who.isNone = true)
    ∧ (∃ (who : Option (Fin 2)) (v : BitVec 32) (s : State), s.power.hold = false ∧ s.lock = true)
    ∧ (∃ (who : Option (Fin 2)) (v : BitVec 32) (s : State), s.power.hold = false ∧ s.lock = true)
    ∧ (∃ (who : Option (Fin 2)) (v : BitVec 32) (s : State), s.power.hold = false ∧ s.lock = false ∧ s.journalRoom who.isNone = false)
    ∧ (∃ (who : Option (Fin 2)) (v : BitVec 32) (s : State), s.power.hold = false ∧ s.lock = false ∧ s.journalRoom who.isNone = false)
    ∧ (∃ (h : Fin 2) (v : BitVec 32) (s : State), s.power.hold = true ∧ (s.hp h).siteHeld.length < 4)
    ∧ (∃ (v : BitVec 32) (s : State), s.power.hold = true ∧ s.mgmt.siteHeld.length < 4)
    ∧ (∃ (h : Fin 2) (s : State), (s.hp h).wrRefused = true)
    ∧ (∃ (s : State), s.mgmt.wrRefused = true)
    ∧ (∃ (s : State), s.mgmt.alarmCause = true) :=
  ⟨⟨({ up with mgmt := { up.mgmt with msg := [3, 1, 3] } } : State), by decide +kernel⟩,
   ⟨({ up with mgmt := { up.mgmt with busy := true } } : State), by decide +kernel⟩,
   ⟨({ up with mgmt := { up.mgmt with done := true } } : State), by decide +kernel⟩,
   ⟨({ up with mgmt := { up.mgmt with refused := true } } : State), by decide +kernel⟩,
   ⟨({ up with mgmt := { up.mgmt with notices := [{}] } } : State), by decide +kernel⟩,
   ⟨(up : State), by decide +kernel⟩,
   ⟨(up : State), by decide +kernel⟩,
   ⟨(none : Option (Fin 2)), (5 : BitVec 32), (up : State), by decide +kernel⟩,
   ⟨(some 0 : Option (Fin 2)), (5 : BitVec 32), (up : State), by decide +kernel⟩,
   ⟨(none : Option (Fin 2)), (5 : BitVec 32), ({ up with lock := true } : State), by decide +kernel⟩,
   ⟨(some 0 : Option (Fin 2)), (5 : BitVec 32), ({ up with lock := true } : State), by decide +kernel⟩,
   ⟨(none : Option (Fin 2)), (5 : BitVec 32), ({ up with silt := { up.silt with next := 9000, mgmtJ := { up.silt.mgmtJ with on := true } } } : State), by decide +kernel⟩,
   ⟨(some 0 : Option (Fin 2)), (5 : BitVec 32), ({ up with silt := { up.silt with next := 9000, mgmtJ := { up.silt.mgmtJ with on := true } } } : State), by decide +kernel⟩,
   ⟨(0 : Fin 2), (5 : BitVec 32), ({ up with power := { up.power with hold := true } } : State), by decide +kernel⟩,
   ⟨(5 : BitVec 32), ({ up with power := { up.power with hold := true } } : State), by decide +kernel⟩,
   ⟨(0 : Fin 2), ({ up with hosts := { up.hosts with hp0 := { up.hosts.hp0 with wrRefused := true } } } : State), by decide +kernel⟩,
   ⟨({ up with mgmt := { up.mgmt with wrRefused := true } } : State), by decide +kernel⟩,
   ⟨({ up with mgmt := { up.mgmt with alarmCause := true } } : State), by decide +kernel⟩⟩

/-- Obligations.RegisterAccesses. -/
theorem hypotheses_met_RegisterAccesses :
    (∃ (off : BitVec 32) (len : Nat) (s : State), (len = 4 ∨ len = 8) ∧ loamAccessOk off.toNat len = true ∧ s.mgmt.latch = none)
    ∧ (∃ (off : BitVec 32) (len : Nat) (s : State), (len = 4 ∨ len = 8) ∧ loamAccessOk off.toNat len = true ∧ s.mgmt.latch = none)
    ∧ (∃ (off : BitVec 32) (b : List Byte) (s : State), loamAccessOk off.toNat 4 = true ∧ s.mgmt.latch = some (off.toNat, b) ∧ b.length = 4 ∧ (0x2210 ≤ off.toNat ∨ off.toNat + 4 ≤ 0x2200))
    ∧ (∃ (off : BitVec 32) (len : Nat) (s : State), (len = 4 ∨ len = 8) ∧ loamAccessOk off.toNat len = false)
    ∧ (∃ (off : BitVec 32) (len : Nat) (s : State), (len = 4 ∨ len = 8) ∧ loamAccessOk off.toNat len = false)
    ∧ (∃ (h : Fin 2) (sl : Fin 256) (off : BitVec 32) (len : Nat) (s : State), s.barOpen h = true ∧ barReadOk off.toNat len = true ∧ s.reachable h sl = true ∧ readRefused sl off.toNat = true)
    ∧ (∃ (h : Fin 2) (sl : Fin 256) (off : BitVec 32) (len : Nat) (s : State), s.barOpen h = true ∧ barReadOk off.toNat len = true ∧ s.reachable h sl = true ∧ readRefused sl off.toNat = true)
    ∧ (∃ (h : Fin 2) (sl : Fin 256) (off : BitVec 32) (len : Nat) (s : State), s.barOpen h = true ∧ (len = 4 ∨ len = 8) ∧ off.toNat % len = 0 ∧ s.reachable h sl = true ∧ readRefused sl off.toNat = false ∧ (s.hp h).latch = none)
    ∧ (∃ (h : Fin 2) (sl : Fin 256) (off : BitVec 32) (len : Nat) (s : State), s.barOpen h = true ∧ (len = 4 ∨ len = 8) ∧ off.toNat % len = 0 ∧ s.reachable h sl = true ∧ readRefused sl off.toNat = false ∧ (s.hp h).latch = none)
    ∧ (∃ (h : Fin 2) (sl : Fin 256) (off : BitVec 32) (len : Nat) (s : State), s.barOpen h = true ∧ (len = 1 ∨ len = 2) ∧ off.toNat % 4 + len ≤ 4 ∧ s.reachable h sl = true ∧ readRefused sl off.toNat = false ∧ (s.hp h).latch = none)
    ∧ (∃ (h : Fin 2) (sl : Fin 256) (off : BitVec 32) (len : Nat) (s : State), s.barOpen h = true ∧ (len = 1 ∨ len = 2) ∧ off.toNat % 4 + len ≤ 4 ∧ s.reachable h sl = true ∧ readRefused sl off.toNat = false ∧ (s.hp h).latch = none)
    ∧ (∃ (h : Fin 2) (sl : Fin 256) (off : BitVec 32) (len : Nat) (s : State), s.barOpen h = true ∧ barReadOk off.toNat len = true ∧ len ≠ 8 ∧ 4 ≤ len ∧ s.reachable h sl = true ∧ readRefused sl off.toNat = false ∧ (s.hp h).latch = none ∧ (∀ k, k < len / 4 → latchOf (s.barReg h sl (off.toNat + 4 * k)) (off.toNat + 4 * k) 4 = none))
    ∧ (∃ (h : Fin 2) (sl : Fin 256) (off : BitVec 32) (len : Nat) (s : State), s.barOpen h = true ∧ barReadOk off.toNat len = true ∧ len ≠ 8 ∧ 4 ≤ len ∧ s.reachable h sl = true ∧ readRefused sl off.toNat = false ∧ (s.hp h).latch = none ∧ (∀ k, k < len / 4 → latchOf (s.barReg h sl (off.toNat + 4 * k)) (off.toNat + 4 * k) 4 = none))
    ∧ (∃ (v : BitVec 32) (o : BitVec 32) (s : State), (o.toNat = 0x38 ∨ o.toNat = 0x838))
    ∧ (∃ (v : BitVec 32) (o : BitVec 32) (s : State), (o.toNat = 0x38 ∨ o.toNat = 0x838))
    ∧ (∃ (v : BitVec 32) (s : State), s.lock = false)
    ∧ (∃ (h : Fin 2) (v : BitVec 32) (s : State), s.barOpen h = true ∧ s.reachable h 0 = true)
    ∧ (∃ (h : Fin 2) (sl : Fin 256) (v o : BitVec 32) (s : State), s.barOpen h = true ∧ s.reachable h sl = true ∧ sl.val ≠ 0 ∧ o.toNat % 4 = 0 ∧ o.toNat < 0x1000)
    ∧ (∃ (h : Fin 2) (sl : Fin 256) (k : Fin 16) (v o : BitVec 32) (s : State), s.barOpen h = true ∧ s.reachable h sl = true ∧ o.toNat = 0x1000 + 4 * k)
    ∧ (∃ (h : Fin 2) (sl : Fin 256) (o : BitVec 32) (b : List Byte) (s : State), s.barOpen h = true ∧ s.reachable h sl = true ∧ barWriteOk sl o.toNat b.length = false)
    ∧ (∃ (h : Fin 2) (sl : Fin 256) (o : BitVec 32) (b : List Byte) (s : State), s.barOpen h = true ∧ s.reachable h sl = true ∧ barWriteOk sl o.toNat b.length = false)
    ∧ (∃ (a : BitVec 32) (data : List Byte) (s : State), 4 ≤ data.length ∧ data.length ≤ 28 ∧ data.length % 4 = 0 ∧ 0xC0000 ≤ a.toNat ∧ a.toNat + data.length ≤ 0xD0000 ∧ a.toNat % 4 = 0)
    ∧ (∃ (a : BitVec 32) (data : List Byte) (s : State), 4 ≤ data.length ∧ data.length ≤ 28 ∧ data.length % 4 = 0 ∧ 0xC0000 ≤ a.toNat ∧ a.toNat + data.length ≤ 0xD0000 ∧ a.toNat % 4 = 0)
    ∧ (∃ (a : BitVec 32) (data : List Byte) (pec : Bool) (s : State), (pec = false ∨ data.length = 0 ∨ 28 < data.length ∨ data.length % 4 ≠ 0))
    ∧ (∃ (a : BitVec 32) (data : List Byte) (pec : Bool) (s : State), (pec = false ∨ data.length = 0 ∨ 28 < data.length ∨ data.length % 4 ≠ 0))
    ∧ (∃ (a : BitVec 32) (data : List Byte) (pec : Bool) (s : State), (pec = false ∨ data.length = 0 ∨ 28 < data.length ∨ data.length % 4 ≠ 0))
    ∧ (∃ (a : BitVec 32) (data : List Byte) (pec : Bool) (s : State), (pec = false ∨ data.length = 0 ∨ 28 < data.length ∨ data.length % 4 ≠ 0))
    ∧ (∃ (a : BitVec 32) (n : Nat) (s : State), 4 ≤ n ∧ n ≤ 32 ∧ n % 4 = 0 ∧ loamAccessOk a.toNat n = true ∧ s.mgmt.latch = none ∧ ¬(a.toNat < 0x2210 ∧ 0x2200 < a.toNat + n))
    ∧ (∃ (a : BitVec 32) (n : Nat) (s : State), 4 ≤ n ∧ n ≤ 32 ∧ n % 4 = 0 ∧ loamAccessOk a.toNat n = true ∧ s.mgmt.latch = none ∧ ¬(a.toNat < 0x2210 ∧ 0x2200 < a.toNat + n))
    ∧ (∃ (a : BitVec 32) (n : Nat) (s : State), 4 ≤ n ∧ n ≤ 32 ∧ n % 4 = 0 ∧ loamAccessOk a.toNat n = true ∧ s.mgmt.latch = none ∧ ¬(a.toNat < 0x2210 ∧ 0x2200 < a.toNat + n))
    ∧ (∃ (a : BitVec 32) (n : Nat) (s : State), 4 ≤ n ∧ n ≤ 32 ∧ n % 4 = 0 ∧ loamAccessOk a.toNat n = true ∧ a.toNat < 0x2210 ∧ 0x2200 < a.toNat + n)
    ∧ (∃ (a : BitVec 32) (n : Nat) (s : State), 4 ≤ n ∧ n ≤ 32 ∧ n % 4 = 0 ∧ loamAccessOk a.toNat n = true ∧ a.toNat < 0x2210 ∧ 0x2200 < a.toNat + n)
    ∧ (∃ (s : State), s.mgmtIntLow = true)
    ∧ (∃ (s : State), s.mgmtIntLow = false)
    ∧ (∃ (s : State), s.lock = false) :=
  ⟨⟨(0x38 : BitVec 32), (4 : Nat), (up : State), by decide +kernel⟩,
   ⟨(0x1068 : BitVec 32), (8 : Nat), (up : State), by decide +kernel⟩,
   ⟨(0x14 : BitVec 32), ([1, 2, 3, 4] : List Byte), ({ up with mgmt := { up.mgmt with latch := some (0x14, [1, 2, 3, 4]) } } : State), by decide +kernel⟩,
   ⟨(0x2 : BitVec 32), (4 : Nat), (up : State), by decide +kernel⟩,
   ⟨(0x7FC : BitVec 32), (8 : Nat), (up : State), by decide +kernel⟩,
   ⟨(0 : Fin 2), (1 : Fin 256), (0x2000 : BitVec 32), (4 : Nat), (up.setSlice 0 1 { state := .active } : State), by decide +kernel⟩,
   ⟨(0 : Fin 2), (1 : Fin 256), (0x100000 : BitVec 32), (64 : Nat), (up.setSlice 0 1 { state := .active } : State), by decide +kernel⟩,
   ⟨(0 : Fin 2), (0 : Fin 256), (0x38 : BitVec 32), (4 : Nat), (up : State), by decide +kernel⟩,
   ⟨(0 : Fin 2), (1 : Fin 256), (0x38 : BitVec 32), (8 : Nat), (up.setSlice 0 1 { state := .active } : State), by decide +kernel⟩,
   ⟨(0 : Fin 2), (0 : Fin 256), (0x38 : BitVec 32), (1 : Nat), (up : State), by decide +kernel⟩,
   ⟨(0 : Fin 2), (0 : Fin 256), (0x3A : BitVec 32), (2 : Nat), (up : State), by decide +kernel⟩,
   ⟨(0 : Fin 2), (0 : Fin 256), (0x38 : BitVec 32), (4 : Nat), (up : State), by decide +kernel⟩,
   ⟨(0 : Fin 2), (0 : Fin 256), (0x1000 : BitVec 32), (64 : Nat), (up : State), by decide +kernel⟩,
   ⟨(7 : BitVec 32), (0x38 : BitVec 32), (up : State), by decide +kernel⟩,
   ⟨(7 : BitVec 32), (0x838 : BitVec 32), (up : State), by decide +kernel⟩,
   ⟨(7 : BitVec 32), (up : State), by decide +kernel⟩,
   ⟨(0 : Fin 2), (7 : BitVec 32), (up : State), by decide +kernel⟩,
   ⟨(0 : Fin 2), (1 : Fin 256), (7 : BitVec 32), (0x38 : BitVec 32), (up.setSlice 0 1 { state := .active } : State), by decide +kernel⟩,
   ⟨(0 : Fin 2), (0 : Fin 256), (15 : Fin 16), (7 : BitVec 32), (0x103C : BitVec 32), (up : State), by decide +kernel⟩,
   ⟨(0 : Fin 2), (0 : Fin 256), (0x3A : BitVec 32), ([1, 2] : List Byte), (up : State), by decide +kernel⟩,
   ⟨(0 : Fin 2), (0 : Fin 256), (0x38 : BitVec 32), (List.replicate 12 1 : List Byte), (up : State), by decide +kernel⟩,
   ⟨(0xC0000 : BitVec 32), ([1, 2, 3, 4] : List Byte), (up : State), by decide +kernel⟩,
   ⟨(0xCFFE4 : BitVec 32), (List.replicate 28 1 : List Byte), (up : State), by decide +kernel⟩,
   ⟨(0xC0000 : BitVec 32), ([1, 2, 3, 4] : List Byte), (false : Bool), (up : State), by decide +kernel⟩,
   ⟨(0xC0000 : BitVec 32), ([1, 2, 3] : List Byte), (true : Bool), (up : State), by decide +kernel⟩,
   ⟨(0xC0000 : BitVec 32), ([] : List Byte), (true : Bool), (up : State), by decide +kernel⟩,
   ⟨(0xC0000 : BitVec 32), (List.replicate 32 1 : List Byte), (true : Bool), (up : State), by decide +kernel⟩,
   ⟨(0x38 : BitVec 32), (4 : Nat), (up : State), by decide +kernel⟩,
   ⟨(0x2210 : BitVec 32), (32 : Nat), (up : State), by decide +kernel⟩,
   ⟨(0x21F0 : BitVec 32), (16 : Nat), (up : State), by decide +kernel⟩,
   ⟨(0x2200 : BitVec 32), (4 : Nat), (up : State), by decide +kernel⟩,
   ⟨(0x220C : BitVec 32), (4 : Nat), (up : State), by decide +kernel⟩,
   ⟨({ up with mgmt := { up.mgmt with alarmCause := true, intEn := 31 } } : State), by decide +kernel⟩,
   ⟨(up : State), by decide +kernel⟩,
   ⟨(up : State), by decide +kernel⟩⟩

/-- Obligations.TrainingEvents. -/
theorem hypotheses_met_TrainingEvents :
    (∃ (p : Fin 12) (s : State), (s.port p).train.state = .disabled ∧ (s.port p).pd.mayEnter = true)
    ∧ (∃ (p : Fin 12) (s : State), ((s.port p).train.state ≠ .disabled ∨ (s.port p).pd.mayEnter = false))
    ∧ (∃ (p : Fin 12) (l : Fin 4) (b : List Byte) (err : Fin 256) (s : State), 1 ≤ (s.port p).train.state.ctorIdx ∧ (s.port p).train.state.ctorIdx ≤ 9 ∧ (s.port p).train.idle = false ∧ (s.port p).train.receives.getLsbD l = true ∧ (tbGood b = false ∨ tbTrainId b ≠ (s.port p).train.trainId))
    ∧ (∃ (p : Fin 12) (l : Fin 4) (b : List Byte) (err : Fin 256) (s : State), 1 ≤ (s.port p).train.state.ctorIdx ∧ (s.port p).train.state.ctorIdx ≤ 9 ∧ (s.port p).train.idle = false ∧ (s.port p).train.receives.getLsbD l = true ∧ (tbGood b = false ∨ tbTrainId b ≠ (s.port p).train.trainId))
    ∧ (∃ (p : Fin 12) (l : Fin 4) (b : List Byte) (err : Fin 256) (s : State), (s.port p).train.state = .detect ∧ (s.port p).train.idle = false ∧ (s.port p).train.receives.getLsbD l = true ∧ tbGood b = true ∧ tbTrainId b = (s.port p).train.trainId ∧ tbType b = 0x11)
    ∧ (∃ (p : Fin 12) (l : Fin 4) (b : List Byte) (err : Fin 256) (s : State), (s.port p).train.state = .config ∧ (s.port p).train.idle = false ∧ (s.port p).train.receives.getLsbD l = true ∧ tbGood b = true ∧ tbTrainId b = (s.port p).train.trainId ∧ tbType b = 0x22 ∧ (b.drop 5).take 2 = ((s.tbSent p l).drop 5).take 2)
    ∧ (∃ (p : Fin 12) (l : Fin 4) (b : List Byte) (err : Fin 256) (s : State), (s.port p).train.state = .config ∧ (s.port p).train.idle = false ∧ (s.port p).train.receives.getLsbD l = true ∧ tbGood b = true ∧ tbTrainId b = (s.port p).train.trainId ∧ tbType b = 0x22 ∧ (b.drop 5).take 2 = ((s.tbSent p l).drop 5).take 2)
    ∧ (∃ (p : Fin 12) (l : Fin 4) (b : List Byte) (err : Fin 256) (s : State), (s.port p).train.state = .sync ∧ (s.port p).train.idle = false ∧ (s.port p).train.receives.getLsbD l = true ∧ (s.port p).train.echoSeen = false ∧ tbGood b = true ∧ tbTrainId b = (s.port p).train.trainId ∧ tbType b = 0x41 ∧ bitOf (byteAt b 1) 0 = true)
    ∧ (∃ (p : Fin 12) (l : Fin 4) (b : List Byte) (err : Fin 256) (s : State), (s.port p).train.state = .sync ∧ (s.port p).train.idle = false ∧ (s.port p).train.receives.getLsbD l = true ∧ (s.port p).train.echoSeen = false ∧ tbGood b = true ∧ tbTrainId b = (s.port p).train.trainId ∧ tbType b = 0x41 ∧ bitOf (byteAt b 1) 0 = true)
    ∧ (∃ (p : Fin 12) (l : Fin 4) (b : List Byte) (err : Fin 256) (s : State), 1 ≤ (s.port p).train.state.ctorIdx ∧ (s.port p).train.state.ctorIdx ≤ 9 ∧ (s.port p).train.idle = false ∧ (s.port p).train.receives.getLsbD l = true ∧ tbGood b = true ∧ tbTrainId b = (s.port p).train.trainId ∧ tbType b = 0x51 ∧ (s.port p).train.fails (s.port p).attemptRate < 2)
    ∧ (∃ (p : Fin 12) (s : State), s.due (s.port p).train.due = true ∧ (s.port p).train.idle = false)
    ∧ (∃ (p : Fin 12) (s : State), s.due (s.port p).train.due = true ∧ (s.port p).train.idle = false)
    ∧ (∃ (p : Fin 12) (s : State), s.due (s.port p).train.due = true ∧ (s.port p).train.idle = false)
    ∧ (∃ (p : Fin 12) (s : State), s.due (s.port p).train.due = true ∧ (s.port p).train.idle = true)
    ∧ (∃ (p : Fin 12) (s : State), (s.port p).train.state = .rate ∧ (s.port p).train.rateIdle = true) :=
  ⟨⟨(0 : Fin 12), (up.modPd 0 fun d => { d with disco := .enterSop, roles := { d.roles with dfp := true }, cable := { d.cable with maxRate := some .j56 } } : State), by decide +kernel⟩,
   ⟨(0 : Fin 12), (up.modPort 0 fun x => { x with train := { x.train with state := .detect } } : State), by decide +kernel⟩,
   ⟨(0 : Fin 12), (1 : Fin 4), ([] : List Byte), (0 : Fin 256), (up.modPort 0 fun x => { x with train := { x.train with state := .poll } } : State), by decide +kernel⟩,
   ⟨(0 : Fin 12), (1 : Fin 4), (tb ([0x12, 0] ++ toLe 2 (7)) : List Byte), (0 : Fin 256), (up.modPort 0 fun x => { x with train := { x.train with state := .poll } } : State), by refine ⟨by decide +kernel, by decide +kernel, by decide +kernel, by decide +kernel, Or.inr (by decide +kernel)⟩⟩,
   ⟨(0 : Fin 12), (1 : Fin 4), (tb ([0x11, 0] ++ toLe 2 (0) ++ [7]) : List Byte), (0 : Fin 256), (up.modPort 0 fun x => { x with train := { x.train with state := .detect } } : State), by (try dsimp only); (repeat' with_reducible refine And.intro ?_ ?_) <;> first | with_reducible exact flit_good _ _ (by decide +kernel) | with_reducible exact tb_good _ (by decide +kernel) | decide +kernel | (intro h; cases h; done) | (right; decide +kernel; done) | exact fun h => nomatch h⟩,
   ⟨(0 : Fin 12), (1 : Fin 4), (tb ([0x22, 0] ++ toLe 2 0 ++ [0] ++ (((up.modPort 0 fun x => { x with train := { x.train with state := .config } } : State).tbSent 0 1).drop 5).take 2) : List Byte), (0 : Fin 256), (up.modPort 0 fun x => { x with train := { x.train with state := .config } } : State), by (try dsimp only); (repeat' with_reducible refine And.intro ?_ ?_) <;> first | with_reducible exact flit_good _ _ (by decide +kernel) | with_reducible exact tb_good _ (by decide +kernel) | decide +kernel | (intro h; cases h; done) | (right; decide +kernel; done) | exact fun h => nomatch h⟩,
   ⟨(0 : Fin 12), (1 : Fin 4), (tb ([0x22, 0] ++ toLe 2 0 ++ [0] ++ (((up.modPort 0 fun x => { x with train := { x.train with state := .config, cfgAcks := 7 } } : State).tbSent 0 1).drop 5).take 2) : List Byte), (0 : Fin 256), (up.modPort 0 fun x => { x with train := { x.train with state := .config, cfgAcks := 7 } } : State), by (try dsimp only); (repeat' with_reducible refine And.intro ?_ ?_) <;> first | with_reducible exact flit_good _ _ (by decide +kernel) | with_reducible exact tb_good _ (by decide +kernel) | decide +kernel | (intro h; cases h; done) | (right; decide +kernel; done) | exact fun h => nomatch h⟩,
   ⟨(0 : Fin 12), (1 : Fin 4), (tb ([0x41, 1] ++ toLe 2 (0) ++ padTo 24 [] ++ toLe 4 1000) : List Byte), (0 : Fin 256), ((upAt 9000).modPort 0 fun x => { x with train := { x.train with state := .sync } } : State), by (try dsimp only); (repeat' with_reducible refine And.intro ?_ ?_) <;> first | with_reducible exact flit_good _ _ (by decide +kernel) | with_reducible exact tb_good _ (by decide +kernel) | decide +kernel | (intro h; cases h; done) | (right; decide +kernel; done) | exact fun h => nomatch h⟩,
   ⟨(0 : Fin 12), (1 : Fin 4), (tb ([0x41, 1] ++ toLe 2 (0) ++ padTo 24 [] ++ toLe 4 1000) : List Byte), (0 : Fin 256), ((upAt 90000).modPort 0 fun x => { x with train := { x.train with state := .sync } } : State), by (try dsimp only); (repeat' with_reducible refine And.intro ?_ ?_) <;> first | with_reducible exact flit_good _ _ (by decide +kernel) | with_reducible exact tb_good _ (by decide +kernel) | decide +kernel | (intro h; cases h; done) | (right; decide +kernel; done) | exact fun h => nomatch h⟩,
   ⟨(0 : Fin 12), (1 : Fin 4), (tb ([0x51, 0] ++ toLe 2 (0)) : List Byte), (0 : Fin 256), (up.modPort 0 fun x => { x with train := { x.train with state := .eqA } } : State), by (try dsimp only); (repeat' with_reducible refine And.intro ?_ ?_) <;> first | with_reducible exact flit_good _ _ (by decide +kernel) | with_reducible exact tb_good _ (by decide +kernel) | decide +kernel | (intro h; cases h; done) | (right; decide +kernel; done) | exact fun h => nomatch h⟩,
   ⟨(0 : Fin 12), ((upAt 2000).modPort 0 fun x => { x with train := { x.train with state := .eqA, due := some 1000 } } : State), by decide +kernel⟩,
   ⟨(0 : Fin 12), ((upAt 2000).modPort 0 fun x => { x with train := { x.train with state := .eqA, failJ14 := 2, due := some 1000 } } : State), by decide +kernel⟩,
   ⟨(0 : Fin 12), ((upAt 2000).modPort 0 fun x => { x with train := { x.train with state := .eqA, rateSel := .j28, failJ28 := 2, due := some 1000 } } : State), by decide +kernel⟩,
   ⟨(0 : Fin 12), ((upAt 2000).modPort 0 fun x => { x with train := { x.train with state := .detect, idle := true, due := some 1000 } } : State), by decide +kernel⟩,
   ⟨(0 : Fin 12), (up.modPort 0 fun x => { x with train := { x.train with state := .rate, rateIdle := true } } : State), by decide +kernel⟩⟩

/-- Obligations.MarkerAndSleepEvents. -/
theorem hypotheses_met_MarkerAndSleepEvents :
    (∃ (p : Fin 12) (l : Fin 4) (h : List Byte) (diff : Nat) (flit : Bool) (s : State), markerOk l .inb h diff = false)
    ∧ (∃ (p : Fin 12) (l : Fin 4) (h : List Byte) (diff : Nat) (flit : Bool) (s : State), markerOk l .inb h diff = false)
    ∧ (∃ (p : Fin 12) (l : Fin 4) (h : List Byte) (diff : Nat) (s : State), markerOk l .inb h diff = true ∧ (s.port p).train.state = .sync ∧ (s.port p).train.echoSeen = true ∧ ((s.port p).train.syncMarks ||| laneBit l) &&& (~~~(s.port p).train.outNow &&& (s.port p).train.lanes) = ~~~(s.port p).train.outNow &&& (s.port p).train.lanes)
    ∧ (∃ (p : Fin 12) (l : Fin 4) (h : List Byte) (diff : Nat) (flit : Bool) (s : State), markerOk l .inb h diff = true ∧ (s.port p).train.state = .active ∧ (s.port p).transit = none)
    ∧ (∃ (i : Fin 12 → Fin 4 → Instr) (p : Fin 12) (l : Fin 4) (s : State), (i = .markerLossTimeout ∨ i = .codewordErrorLimit) ∧ (s.port p).train.state = .active ∧ (s.port p).inSet.getLsbD l = true ∧ (s.port p).rx.asleep = false ∧ laneCount (s.port p).inSet = 1)
    ∧ (∃ (i : Fin 12 → Fin 4 → Instr) (p : Fin 12) (l : Fin 4) (s : State), (i = .markerLossTimeout ∨ i = .codewordErrorLimit) ∧ (s.port p).train.state = .active ∧ (s.port p).inSet.getLsbD l = true ∧ (s.port p).rx.asleep = false ∧ laneCount (s.port p).inSet = 1)
    ∧ (∃ (i : Fin 12 → Fin 4 → Instr) (p : Fin 12) (l : Fin 4) (s : State), (i = .markerLossTimeout ∨ i = .codewordErrorLimit) ∧ (s.port p).train.state = .active ∧ (s.port p).inSet.getLsbD l = true ∧ (s.port p).outSet.getLsbD l = false ∧ (s.port p).rx.asleep = false ∧ laneCount (s.port p).inSet ≠ 1)
    ∧ (∃ (i : Fin 12 → Fin 4 → Instr) (p : Fin 12) (l : Fin 4) (s : State), (i = .markerLossTimeout ∨ i = .codewordErrorLimit) ∧ (s.port p).train.state = .active ∧ (s.port p).inSet.getLsbD l = true ∧ (s.port p).outSet.getLsbD l = false ∧ (s.port p).rx.asleep = false ∧ laneCount (s.port p).inSet ≠ 1)
    ∧ (∃ (p : Fin 12) (s : State), (s.port p).train.state = .active ∧ s.due (s.port p).rx.linkDue = true)
    ∧ (∃ (p : Fin 12) (s : State), (s.port p).train.state = .active)
    ∧ (∃ (p : Fin 12) (s : State), (s.port p).train.state = .active ∧ (s.port p).tx.asleep = false ∧ s.due (s.port p).tx.idleDue = true ∧ (s.port p).transit = none ∧ s.hasWork p = false)
    ∧ (∃ (p : Fin 12) (s : State), (s.port p).train.state = .active ∧ (s.port p).tx.asleep = true ∧ s.hasWork p = true)
    ∧ (∃ (p : Fin 12) (s : State), (s.port p).train.state = .active ∧ (s.port p).tx.asleep = true ∧ s.due (s.port p).tx.keepDue = true) :=
  ⟨⟨(0 : Fin 12), (0 : Fin 4), ([] : List Byte), (0 : Nat), (false : Bool), (up : State), by decide +kernel⟩,
   ⟨(0 : Fin 12), (0 : Fin 4), (markerHead 0 .inb true 0 : List Byte), (9 : Nat), (false : Bool), (up : State), by decide +kernel⟩,
   ⟨(0 : Fin 12), (0 : Fin 4), (markerHead 0 .inb true 0 : List Byte), (8 : Nat), (up.modPort 0 fun x => { x with train := { x.train with state := .sync, echoSeen := true, outNow := 14 } } : State), by decide +kernel⟩,
   ⟨(0 : Fin 12), (0 : Fin 4), (markerHead 0 .inb true 0 : List Byte), (0 : Nat), (false : Bool), (up.modPort 0 fun x => { x with train := { x.train with state := .active }, outSet := 5, inSet := 10 } : State), by decide +kernel⟩,
   ⟨.markerLossTimeout, (0 : Fin 12), (1 : Fin 4), (up.modPort 0 fun x => { x with train := { x.train with state := .active }, outSet := 13, inSet := 2 } : State), by exact ⟨Or.inl rfl, by decide +kernel⟩⟩,
   ⟨.codewordErrorLimit, (0 : Fin 12), (1 : Fin 4), (up.modPort 0 fun x => { x with train := { x.train with state := .active }, outSet := 13, inSet := 2 } : State), by exact ⟨Or.inr rfl, by decide +kernel⟩⟩,
   ⟨.markerLossTimeout, (0 : Fin 12), (1 : Fin 4), (up.modPort 0 fun x => { x with train := { x.train with state := .active }, outSet := 5, inSet := 10 } : State), by exact ⟨Or.inl rfl, by decide +kernel⟩⟩,
   ⟨.codewordErrorLimit, (0 : Fin 12), (1 : Fin 4), (up.modPort 0 fun x => { x with train := { x.train with state := .active }, outSet := 5, inSet := 10 } : State), by exact ⟨Or.inr rfl, by decide +kernel⟩⟩,
   ⟨(0 : Fin 12), ((upAt 2000).modPort 0 fun x => { x with train := { x.train with state := .active }, outSet := 5, inSet := 10, rx := { x.rx with linkDue := some 1000 } } : State), by decide +kernel⟩,
   ⟨(0 : Fin 12), (up.modPort 0 fun x => { x with train := { x.train with state := .active }, outSet := 5, inSet := 10, rx := { x.rx with asleep := true } } : State), by decide +kernel⟩,
   ⟨(0 : Fin 12), ((upAt 2000).modPort 0 fun x => { x with train := { x.train with state := .active }, outSet := 5, inSet := 10, tx := { x.tx with idleDue := some 1000 } } : State), by decide +kernel⟩,
   ⟨(0 : Fin 12), (up.modPort 0 fun x => { x with train := { x.train with state := .active }, outSet := 5, inSet := 10, tx := { x.tx with asleep := true, ctrl := [{}] } } : State), by decide +kernel⟩,
   ⟨(0 : Fin 12), ((upAt 2000).modPort 0 fun x => { x with train := { x.train with state := .active }, outSet := 5, inSet := 10, tx := { x.tx with asleep := true, keepDue := some 1000 } } : State), by decide +kernel⟩⟩

/-- Obligations.RecalibrationEvents. -/
theorem hypotheses_met_RecalibrationEvents :
    (∃ (p : Fin 12) (l : Fin 4) (d : Dir) (s : State), (s.port p).train.state = .active ∧ s.due ((s.port p).lane l).recalDue = true ∧ (s.port p).laneDir l = some d)
    ∧ (∃ (p : Fin 12) (l : Fin 4) (d : Dir) (s : State), (s.port p).train.state = .active ∧ s.due ((s.port p).lane l).recalDue = true ∧ (s.port p).laneDir l = some d)
    ∧ (∃ (p : Fin 12) (temp : Int) (s : State), (s.port p).train.state ≠ .active)
    ∧ (∃ (p : Fin 12) (temp : Int) (s : State), (s.port p).train.state = .active)
    ∧ (∃ (p : Fin 12) (temp : Int) (s : State), (s.port p).train.state = .active)
    ∧ (∃ (p : Fin 12) (temp : Int) (s : State), (s.port p).train.state = .active)
    ∧ (∃ (p : Fin 12) (temp : Int) (s : State), (s.port p).train.state = .active)
    ∧ (∃ (p : Fin 12) (l : Fin 4) (d : Dir) (s : State), (s.port p).train.state = .active ∧ s.due (s.port p).recalRetry = true ∧ (s.port p).transit = none ∧ (∀ k : Fin 4, ((s.port p).lane k).recalDeferred = decide (k = l)) ∧ (s.port p).laneDir l = some d ∧ s.mayLeave p d = true)
    ∧ (∃ (p : Fin 12) (s : State), (s.port p).train.state = .active ∧ s.due (s.port p).recalRetry = true ∧ (s.port p).transit.isSome = true)
    ∧ (∃ (p : Fin 12) (outErr inErr : Fin 256) (x : Transit) (s : State), (s.port p).transit = some x ∧ x.phase = .eq ∧ x.lane < 4)
    ∧ (∃ (p : Fin 12) (outErr inErr : Fin 256) (x : Transit) (s : State), (s.port p).transit = some x ∧ x.phase = .eq ∧ x.lane < 4)
    ∧ (∃ (p : Fin 12) (outErr inErr : Fin 256) (x : Transit) (s : State), (s.port p).transit = some x ∧ x.phase = .eq ∧ x.lane < 4)
    ∧ (∃ (p : Fin 12) (outErr inErr : Fin 256) (x : Transit) (s : State), (s.port p).transit = some x ∧ x.phase = .eq ∧ x.lane < 4)
    ∧ (∃ (p : Fin 12) (outErr inErr : Fin 256) (x : Transit) (s : State), (s.port p).transit = some x ∧ x.phase = .eq ∧ x.lane < 4)
    ∧ (∃ (p : Fin 12) (outErr inErr : Fin 256) (x : Transit) (s : State), (s.port p).transit = some x ∧ x.phase = .eq ∧ x.lane < 4)
    ∧ (∃ (p : Fin 12) (outErr inErr : Fin 256) (x : Transit) (s : State), (s.port p).transit = some x ∧ x.phase = .eq ∧ x.lane < 4)
    ∧ (∃ (p : Fin 12) (outErr inErr : Fin 256) (x : Transit) (s : State), (s.port p).transit = some x ∧ x.phase = .eq ∧ x.lane < 4)
    ∧ (∃ (p : Fin 12) (b : List Byte) (err : Fin 256) (l : Fin 4) (x : Transit) (s : State), (s.port p).train.state = .active ∧ (s.port p).transit = some x ∧ x.phase = .eq ∧ x.lane = l.val ∧ (tbGood b = false ∨ tbTrainId b ≠ (s.port p).train.trainId))
    ∧ (∃ (p : Fin 12) (outErr inErr : Fin 256) (s : State), (s.port p).transit = none) :=
  ⟨⟨(0 : Fin 12), (0 : Fin 4), (.outb : Dir), ((upAt 2000).modPort 0 fun x => { x with train := { x.train with state := .active }, outSet := 5, inSet := 10, lane0 := { x.lane0 with recalDue := some 1000 } } : State), by decide +kernel⟩,
   ⟨(0 : Fin 12), (0 : Fin 4), (.outb : Dir), ((upAt 2000).modPort 0 fun x => { x with train := { x.train with state := .active }, outSet := 5, inSet := 10, lane0 := { x.lane0 with recalDue := some 1000 }, transit := some { lane := 1 } } : State), by decide +kernel⟩,
   ⟨(0 : Fin 12), (30 : Int), (up : State), by decide +kernel⟩,
   ⟨(0 : Fin 12), (30 : Int), (up.modPort 0 fun x => { x with train := { x.train with state := .active }, outSet := 5, inSet := 10 } : State), by decide +kernel⟩,
   ⟨(0 : Fin 12), (30 : Int), (up.modPort 0 fun x => { x with train := { x.train with state := .active }, outSet := 5, inSet := 10, transit := some { lane := 1 } } : State), by decide +kernel⟩,
   ⟨(0 : Fin 12), (0 : Int), (up.modPort 0 fun x => { x with train := { x.train with state := .active }, outSet := 5, inSet := 10 } : State), by decide +kernel⟩,
   ⟨(0 : Fin 12), (0 : Int), (up.modPort 0 fun x => { x with train := { x.train with state := .active }, outSet := 5, inSet := 10, transit := some { lane := 1 } } : State), by decide +kernel⟩,
   ⟨(0 : Fin 12), (0 : Fin 4), (.outb : Dir), ((upAt 2000).modPort 0 fun x => { x with train := { x.train with state := .active }, outSet := 5, inSet := 10, recalRetry := some 1000, lane0 := { x.lane0 with recalDeferred := true } } : State), by decide +kernel⟩,
   ⟨(0 : Fin 12), ((upAt 2000).modPort 0 fun x => { x with train := { x.train with state := .active }, outSet := 5, inSet := 10, recalRetry := some 1000, transit := some { lane := 1 } } : State), by decide +kernel⟩,
   ⟨(0 : Fin 12), (0 : Fin 256), (0 : Fin 256), ({ lane := 1, origDir := .outb } : Transit), (up.modPort 0 fun x => { x with train := { x.train with state := .active }, outSet := 5, inSet := 10, transit := some { lane := 1, origDir := .outb } } : State), by decide +kernel⟩,
   ⟨(0 : Fin 12), (0 : Fin 256), (0 : Fin 256), ({ lane := 1, origDir := .inb } : Transit), (up.modPort 0 fun x => { x with train := { x.train with state := .active }, outSet := 5, inSet := 10, transit := some { lane := 1, origDir := .inb } } : State), by decide +kernel⟩,
   ⟨(0 : Fin 12), (0 : Fin 256), (255 : Fin 256), ({ lane := 1, origDir := .outb } : Transit), (up.modPort 0 fun x => { x with train := { x.train with state := .active }, outSet := 5, inSet := 10, transit := some { lane := 1, origDir := .outb } } : State), by decide +kernel⟩,
   ⟨(0 : Fin 12), (0 : Fin 256), (255 : Fin 256), ({ lane := 1, origDir := .inb } : Transit), (up.modPort 0 fun x => { x with train := { x.train with state := .active }, outSet := 5, inSet := 10, transit := some { lane := 1, origDir := .inb } } : State), by decide +kernel⟩,
   ⟨(0 : Fin 12), (255 : Fin 256), (0 : Fin 256), ({ lane := 1, origDir := .outb } : Transit), (up.modPort 0 fun x => { x with train := { x.train with state := .active }, outSet := 5, inSet := 10, transit := some { lane := 1, origDir := .outb } } : State), by decide +kernel⟩,
   ⟨(0 : Fin 12), (255 : Fin 256), (0 : Fin 256), ({ lane := 1, origDir := .inb } : Transit), (up.modPort 0 fun x => { x with train := { x.train with state := .active }, outSet := 5, inSet := 10, transit := some { lane := 1, origDir := .inb } } : State), by decide +kernel⟩,
   ⟨(0 : Fin 12), (255 : Fin 256), (255 : Fin 256), ({ lane := 1, origDir := .outb } : Transit), (up.modPort 0 fun x => { x with train := { x.train with state := .active }, outSet := 5, inSet := 10, transit := some { lane := 1, origDir := .outb } } : State), by decide +kernel⟩,
   ⟨(0 : Fin 12), (255 : Fin 256), (255 : Fin 256), ({ lane := 1, origDir := .inb } : Transit), (up.modPort 0 fun x => { x with train := { x.train with state := .active }, outSet := 5, inSet := 10, transit := some { lane := 1, origDir := .inb } } : State), by decide +kernel⟩,
   ⟨(0 : Fin 12), ([] : List Byte), (0 : Fin 256), (1 : Fin 4), ({ lane := 1 } : Transit), (up.modPort 0 fun x => { x with train := { x.train with state := .active }, outSet := 5, inSet := 10, transit := some { lane := 1 } } : State), by decide +kernel⟩,
   ⟨(0 : Fin 12), (0 : Fin 256), (0 : Fin 256), (up : State), by decide +kernel⟩⟩

/-- Obligations.FlitSlotSends. -/
theorem hypotheses_met_FlitSlotSends :
    (∃ (p : Fin 12) (c : Ctrl) (rest : List Ctrl) (s : State), (s.port p).train.state = .active ∧ (s.port p).tx.asleep = false ∧ (s.port p).outSet ≠ 0 ∧ (s.port p).tx.ctrl = c :: rest ∧ c.newSet = none ∧ c.typ ≠ 5)
    ∧ (∃ (p : Fin 12) (c : Ctrl) (rest : List Ctrl) (s : State), (s.port p).train.state = .active ∧ (s.port p).tx.asleep = false ∧ (s.port p).outSet ≠ 0 ∧ (s.port p).tx.ctrl = c :: rest ∧ c.newSet = none ∧ c.typ = 5)
    ∧ (∃ (p : Fin 12) (c : Ctrl) (rest : List Ctrl) (m : Nat) (s : State), (s.port p).train.state = .active ∧ (s.port p).tx.asleep = false ∧ (s.port p).outSet ≠ 0 ∧ (s.port p).tx.ctrl = c :: rest ∧ c.newSet = some m)
    ∧ (∃ (p : Fin 12) (u : Unacked) (rest : List Unacked) (s : State), (s.port p).train.state = .active ∧ (s.port p).tx.asleep = false ∧ (s.port p).outSet ≠ 0 ∧ (s.port p).tx.ctrl = [] ∧ (s.port p).tx.resend = u :: rest)
    ∧ (∃ (p : Fin 12) (f : DataFlit) (rest : List DataFlit) (s : State), (s.port p).train.state = .active ∧ (s.port p).tx.asleep = false ∧ (s.port p).outSet ≠ 0 ∧ (s.port p).tx.ctrl = [] ∧ (s.port p).tx.resend = [] ∧ (s.port p).tx.unacked.length < 2048 ∧ (s.port p).tx.burstCells = f :: rest)
    ∧ (∃ (p : Fin 12) (s : State), (s.port p).train.state = .active ∧ (s.port p).tx.asleep = false ∧ (s.port p).outSet ≠ 0 ∧ (s.port p).tx.ctrl = [] ∧ (s.port p).tx.resend = [] ∧ (2048 ≤ (s.port p).tx.unacked.length ∨ (s.port p).tx.burstCells = [] ∧ (∀ q, q < 9 → s.servable (agentPort p) q = []) ∧ s.marl.writeBuf = []))
    ∧ (∃ (p : Fin 12) (s : State), (s.port p).train.state = .active ∧ (s.port p).tx.asleep = false ∧ (s.port p).outSet ≠ 0 ∧ (s.port p).tx.ctrl = [] ∧ (s.port p).tx.resend = [] ∧ (2048 ≤ (s.port p).tx.unacked.length ∨ (s.port p).tx.burstCells = [] ∧ (∀ q, q < 9 → s.servable (agentPort p) q = []) ∧ s.marl.writeBuf = []))
    ∧ (∃ (p : Fin 12) (b : List Byte) (s : State), ((s.port p).lane 0).flitsTx < (s.port p).groupFlits)
    ∧ (∃ (p : Fin 12) (l : Fin 4) (b : List Byte) (s : State), (s.port p).groupFlits ≤ ((s.port p).lane l).flitsTx)
    ∧ (∃ (p : Fin 12) (s : State), ((s.port p).train.state ≠ .active ∨ (s.port p).tx.asleep = true ∨ (s.port p).outSet = 0))
    ∧ (∃ (p : Fin 12) (s : State), ((s.port p).train.state ≠ .active ∨ (s.port p).tx.asleep = true ∨ (s.port p).outSet = 0))
    ∧ (∃ (p : Fin 12) (s : State), ((s.port p).train.state ≠ .active ∨ (s.port p).tx.asleep = true ∨ (s.port p).outSet = 0)) :=
  ⟨⟨(0 : Fin 12), ({} : Ctrl), ([] : List Ctrl), (up.modPort 0 fun x => { x with train := { x.train with state := .active }, outSet := 5, inSet := 10, tx := { x.tx with ctrl := [{}] } } : State), by decide +kernel⟩,
   ⟨(0 : Fin 12), ({ typ := 5 } : Ctrl), ([] : List Ctrl), (up.modPort 0 fun x => { x with train := { x.train with state := .active }, outSet := 5, inSet := 10, tx := { x.tx with ctrl := [{ typ := 5 }] } } : State), by decide +kernel⟩,
   ⟨(0 : Fin 12), ({ typ := 4, newSet := some 1 } : Ctrl), ([] : List Ctrl), (1 : Nat), (up.modPort 0 fun x => { x with train := { x.train with state := .active }, outSet := 5, inSet := 10, tx := { x.tx with ctrl := [{ typ := 4, newSet := some 1 }] } } : State), by decide +kernel⟩,
   ⟨(0 : Fin 12), ({} : Unacked), ([] : List Unacked), (up.modPort 0 fun x => { x with train := { x.train with state := .active }, outSet := 5, inSet := 10, tx := { x.tx with resend := [{}] } } : State), by decide +kernel⟩,
   ⟨(0 : Fin 12), ({ tun := 1 } : DataFlit), ([] : List DataFlit), (up.modPort 0 fun x => { x with train := { x.train with state := .active }, outSet := 5, inSet := 10, tx := { x.tx with burstCells := [{ tun := 1 }] } } : State), by decide +kernel⟩,
   ⟨(0 : Fin 12), (up.modPort 0 fun x => { x with train := { x.train with state := .active }, outSet := 5, inSet := 10 } : State), by refine ⟨by decide +kernel, by decide +kernel, by decide +kernel, by decide +kernel, by decide +kernel, Or.inr ⟨by decide +kernel, ?_, by decide +kernel⟩⟩; intro q hq; rfl⟩,
   ⟨(0 : Fin 12), (up.modPort 0 fun x => { x with train := { x.train with state := .active }, outSet := 5, inSet := 10, tx := { x.tx with unacked := List.replicate 2048 {} } } : State), by exact ⟨by decide +kernel, by decide +kernel, by decide +kernel, by decide +kernel, by decide +kernel, Or.inl (by decide +kernel)⟩⟩,
   ⟨(0 : Fin 12), ([] : List Byte), (up : State), by decide +kernel⟩,
   ⟨(0 : Fin 12), (0 : Fin 4), ([] : List Byte), (up.modPort 0 fun x => { x with lane0 := { x.lane0 with flitsTx := 5140 } } : State), by decide +kernel⟩,
   ⟨(0 : Fin 12), (up : State), by decide +kernel⟩,
   ⟨(0 : Fin 12), (up.modPort 0 fun x => { x with train := { x.train with state := .active }, outSet := 5, inSet := 10, tx := { x.tx with asleep := true } } : State), by decide +kernel⟩,
   ⟨(0 : Fin 12), (up.modPort 0 fun x => { x with train := { x.train with state := .active }, outSet := 0 } : State), by decide +kernel⟩⟩

/-- Obligations.DataFlitsReceived. -/
theorem hypotheses_met_DataFlitsReceived :
    (∃ (p : Fin 12) (l : Fin 4) (s : State), (s.port p).train.state = .active ∧ (s.port p).rx.retryWait = true)
    ∧ (∃ (p : Fin 12) (l : Fin 4) (s : State), (s.port p).train.state = .active ∧ (s.port p).rx.retryWait = false ∧ ((s.port p).rx.nakSeq = some (s.port p).rx.b → (s.port p).rx.nakRun < 7))
    ∧ (∃ (p : Fin 12) (l : Fin 4) (s : State), (s.port p).train.state = .active ∧ (s.port p).rx.retryWait = false ∧ (s.port p).rx.nakSeq = some (s.port p).rx.b ∧ 7 ≤ (s.port p).rx.nakRun)
    ∧ (∃ (p : Fin 12) (l : Fin 4) (b : List Byte) (tid q : Nat) (s : State), (s.port p).train.state = .active ∧ flitGood b = true ∧ flitType b = 1 ∧ let f := parseData b
      let u := (s.port p).tun f.tun
      f.seq = (s.port p).rx.e ∧ ((s.port p).rx.burstLen = 0 ∨ f.tun = (s.port p).rx.burstTun ∧ f.pri = (s.port p).rx.burstPri ∧ (s.port p).rx.burstLen < 16) ∧ f.tun ≠ 0 ∧ s.tidOf p f.tun = some tid ∧ (s.tunnel tid).state = .opened ∧ (s.tunnel tid).dirs.getLsbD 1 = true ∧ (s.tunnel tid).cls ≠ 1 ∧ f.pri = classPri (s.tunnel tid).cls (s.tunnel tid).periodic ∧ u.granted ≠ u.recv ∧ (u.granted - u.recv).toNat ≤ 32767 ∧ (s.tunnel tid).inQueue = some q ∧ (s.placeBank (s.egq (s.tunnel tid).client q).recent).isSome = true ∧ s.marl.writeBuf = [])
    ∧ (∃ (p : Fin 12) (l : Fin 4) (b : List Byte) (s : State), (s.port p).train.state = .active ∧ flitGood b = true ∧ flitType b = 1 ∧ let f := parseData b
      f.seq = (s.port p).rx.e ∧ ((s.port p).rx.burstLen = 0 ∨ f.tun = (s.port p).rx.burstTun ∧ f.pri = (s.port p).rx.burstPri ∧ (s.port p).rx.burstLen < 16) ∧ f.tun ≠ 0 ∧ s.tidOf p f.tun = none)
    ∧ (∃ (p : Fin 12) (l : Fin 4) (b : List Byte) (s : State), (s.port p).train.state = .active ∧ flitGood b = true ∧ flitType b = 1 ∧ (parseData b).seq ≠ (s.port p).rx.e ∧ ((s.port p).rx.e - (parseData b).seq).toNat ≤ 2048)
    ∧ (∃ (p : Fin 12) (l : Fin 4) (b : List Byte) (s : State), (s.port p).train.state = .active ∧ flitGood b = true ∧ flitType b = 1 ∧ (parseData b).seq ≠ (s.port p).rx.e ∧ 2048 < ((s.port p).rx.e - (parseData b).seq).toNat ∧ (s.port p).rx.retryWait = false ∧ ((s.port p).rx.nakSeq = some (s.port p).rx.b → (s.port p).rx.nakRun < 7))
    ∧ (∃ (p : Fin 12) (l : Fin 4) (b : List Byte) (s : State), (s.port p).train.state ≠ .active) :=
  ⟨⟨(0 : Fin 12), (0 : Fin 4), (up.modPort 0 fun x => { x with train := { x.train with state := .active }, outSet := 5, inSet := 10, rx := { x.rx with retryWait := true } } : State), by decide +kernel⟩,
   ⟨(0 : Fin 12), (0 : Fin 4), (up.modPort 0 fun x => { x with train := { x.train with state := .active }, outSet := 5, inSet := 10 } : State), by (try dsimp only); (repeat' with_reducible refine And.intro ?_ ?_) <;> first | with_reducible exact flit_good _ _ (by decide +kernel) | with_reducible exact tb_good _ (by decide +kernel) | decide +kernel | (intro h; cases h; done) | (right; decide +kernel; done) | exact fun h => nomatch h⟩,
   ⟨(0 : Fin 12), (0 : Fin 4), (up.modPort 0 fun x => { x with train := { x.train with state := .active }, outSet := 5, inSet := 10, rx := { x.rx with nakSeq := some 0, nakRun := 7 } } : State), by decide +kernel⟩,
   ⟨(0 : Fin 12), (0 : Fin 4), (flitBytes (1 + 16 * 1 + 64 * 1 + 2 ^ 16 * 0) [] : List Byte), (0 : Nat), (3 : Nat), ((up.modPort 0 fun x => { x with train := { x.train with state := .active }, outSet := 5, inSet := 10, tuns := [(1, { granted := 4, used := true })] }).setTunnel 0 { port := 0, tun := 1, cls := 2, dirs := 3, state := .opened, owner := .slice 0 0, clientRef := 3 } : State), by dsimp only; refine ⟨by decide +kernel, flit_good _ _ (by decide +kernel), by decide +kernel, by decide +kernel, Or.inl (by decide +kernel), by decide +kernel⟩⟩,
   ⟨(0 : Fin 12), (0 : Fin 4), (flitBytes (1 + 16 * 1 + 64 * 1 + 2 ^ 16 * 0) [] : List Byte), (up.modPort 0 fun x => { x with train := { x.train with state := .active }, outSet := 5, inSet := 10 } : State), by dsimp only; refine ⟨by decide +kernel, flit_good _ _ (by decide +kernel), by decide +kernel, by decide +kernel, Or.inl (by decide +kernel), by decide +kernel⟩⟩,
   ⟨(0 : Fin 12), (0 : Fin 4), (flitBytes (1 + 16 * 1 + 64 * 1 + 2 ^ 16 * 4000) [] : List Byte), (up.modPort 0 fun x => { x with train := { x.train with state := .active }, outSet := 5, inSet := 10 } : State), by (try dsimp only); (repeat' with_reducible refine And.intro ?_ ?_) <;> first | with_reducible exact flit_good _ _ (by decide +kernel) | with_reducible exact tb_good _ (by decide +kernel) | decide +kernel | (intro h; cases h; done) | (right; decide +kernel; done) | exact fun h => nomatch h⟩,
   ⟨(0 : Fin 12), (0 : Fin 4), (flitBytes (1 + 16 * 1 + 64 * 1 + 2 ^ 16 * 5) [] : List Byte), (up.modPort 0 fun x => { x with train := { x.train with state := .active }, outSet := 5, inSet := 10 } : State), by (try dsimp only); (repeat' with_reducible refine And.intro ?_ ?_) <;> first | with_reducible exact flit_good _ _ (by decide +kernel) | with_reducible exact tb_good _ (by decide +kernel) | decide +kernel | (intro h; cases h; done) | (right; decide +kernel; done) | exact fun h => nomatch h⟩,
   ⟨(0 : Fin 12), (0 : Fin 4), ([] : List Byte), (up : State), by decide +kernel⟩⟩

/-- Obligations.ControlFlitsReceived. -/
theorem hypotheses_met_ControlFlitsReceived :
    (∃ (p : Fin 12) (l : Fin 4) (b : List Byte) (s : State), (s.port p).train.state = .active ∧ flitGood b = true ∧ flitType b = 2 ∧ plainHeader b = true ∧ let pl := flitPayload b
      let seq := BitVec.ofNat 12 (le pl 0 2)
      let x := (s.port p).tx
      bits (byteAt pl 1) 7 4 = 1 ∧ le pl 2 2 = 0 ∧ zeros pl 4 119 = true ∧ seq ≠ x.lower ∧ (seq - x.lower).toNat ≤ (x.seqNext - 1 - x.lower).toNat)
    ∧ (∃ (p : Fin 12) (l : Fin 4) (b : List Byte) (s : State), (s.port p).train.state = .active ∧ flitGood b = true ∧ flitType b = 2 ∧ plainHeader b = true ∧ let pl := flitPayload b
      let seq := BitVec.ofNat 12 (le pl 2 2)
      let x := (s.port p).tx
      le pl 0 2 = 0 ∧ bits (byteAt pl 3) 7 4 = 1 ∧ zeros pl 4 119 = true ∧ (seq - x.lower).toNat ≤ (x.seqNext - 1 - x.lower).toNat ∧ (x.nakSeq = some seq → x.nakRun < 7))
    ∧ (∃ (p : Fin 12) (l : Fin 4) (b : List Byte) (s : State), (s.port p).train.state = .active ∧ flitGood b = true ∧ flitType b = 3 ∧ plainHeader b = true ∧ let pl := flitPayload b
      byteAt pl 0 = 1 ∧ zeros pl 1 7 = true ∧ le pl 8 2 < 1024 ∧ zeros pl 12 119 = true)
    ∧ (∃ (p : Fin 12) (l : Fin 4) (b : List Byte) (s : State), (s.port p).train.state = .active ∧ flitGood b = true ∧ flitType b = 6 ∧ plainHeader b = true ∧ byteAt (flitPayload b) 0 = 1 ∧ zeros (flitPayload b) 1 119 = true)
    ∧ (∃ (p : Fin 12) (l : Fin 4) (b : List Byte) (s : State), (s.port p).train.state = .active ∧ flitGood b = true ∧ flitType b = 6 ∧ plainHeader b = true ∧ let pl := flitPayload b
      byteAt pl 0 = 4 ∧ byteAt pl 1 = 0 ∧ zeros pl 10 119 = true)
    ∧ (∃ (p : Fin 12) (l : Fin 4) (b : List Byte) (s : State), (s.port p).train.state = .active ∧ flitGood b = true ∧ flitType b = 6 ∧ plainHeader b = true ∧ byteAt (flitPayload b) 0 = 5 ∧ zeros (flitPayload b) 2 119 = true)
    ∧ (∃ (p : Fin 12) (l : Fin 4) (b : List Byte) (s : State), (s.port p).train.state = .active ∧ flitGood b = true ∧ flitType b = 6 ∧ plainHeader b = true ∧ let pl := flitPayload b
      byteAt pl 0 = 6 ∧ byteAt pl 1 < 4 ∧ 1 ≤ byteAt pl 2 ∧ byteAt pl 2 ≤ 2 ∧ zeros pl 3 119 = true ∧ (s.port p).outSet.getLsbD (byteAt pl 1) = true)
    ∧ (∃ (p : Fin 12) (l : Fin 4) (b : List Byte) (x : Transit) (s : State), (s.port p).train.state = .active ∧ flitGood b = true ∧ flitType b = 6 ∧ plainHeader b = true ∧ let pl := flitPayload b
      byteAt pl 0 = 3 ∧ byteAt pl 1 < 4 ∧ zeros pl 4 119 = true ∧ (s.port p).transit = some x ∧ x.kind = .turnIn ∧ x.phase = .awaitJoin ∧ x.lane = byteAt pl 1 ∧ x.turnId = BitVec.ofNat 16 (le pl 2 2) ∧ x.marker = true)
    ∧ (∃ (p : Fin 12) (l : Fin 4) (b : List Byte) (x : Transit) (s : State), (s.port p).train.state = .active ∧ flitGood b = true ∧ flitType b = 4 ∧ plainHeader b = true ∧ let pl := flitPayload b
      let change := bits (byteAt pl 1) 4 2
      1 ≤ byteAt pl 0 ∧ byteAt pl 0 ≤ 15 ∧ byteAt pl 1 < 20 ∧ byteAt pl 2 < 16 ∧ byteAt pl 3 = 0 ∧ zeros pl 7 119 = true ∧ (s.port p).transit = some x ∧ x.turnId = BitVec.ofNat 16 (le pl 4 2) ∧ x.lane = byteAt pl 1 % 4 ∧ (s.port p).lastMap ≠ some (x.turnId, change, x.lane))
    ∧ (∃ (p : Fin 12) (l : Fin 4) (b : List Byte) (x : Transit) (s : State), (s.port p).train.state = .active ∧ flitGood b = true ∧ flitType b = 4 ∧ plainHeader b = true ∧ let pl := flitPayload b
      let change := bits (byteAt pl 1) 4 2
      1 ≤ byteAt pl 0 ∧ byteAt pl 0 ≤ 15 ∧ byteAt pl 1 < 20 ∧ byteAt pl 2 < 16 ∧ byteAt pl 3 = 0 ∧ zeros pl 7 119 = true ∧ (s.port p).transit = some x ∧ x.turnId = BitVec.ofNat 16 (le pl 4 2) ∧ x.lane = byteAt pl 1 % 4 ∧ (s.port p).lastMap ≠ some (x.turnId, change, x.lane))
    ∧ (∃ (p : Fin 12) (l : Fin 4) (b : List Byte) (x : Transit) (s : State), (s.port p).train.state = .active ∧ flitGood b = true ∧ flitType b = 4 ∧ plainHeader b = true ∧ let pl := flitPayload b
      let change := bits (byteAt pl 1) 4 2
      1 ≤ byteAt pl 0 ∧ byteAt pl 0 ≤ 15 ∧ byteAt pl 1 < 20 ∧ byteAt pl 2 < 16 ∧ byteAt pl 3 = 0 ∧ zeros pl 7 119 = true ∧ (s.port p).transit = some x ∧ x.turnId = BitVec.ofNat 16 (le pl 4 2) ∧ x.lane = byteAt pl 1 % 4 ∧ (s.port p).lastMap ≠ some (x.turnId, change, x.lane))
    ∧ (∃ (p : Fin 12) (l : Fin 4) (b : List Byte) (s : State), (s.port p).train.state = .active ∧ flitGood b = true ∧ flitType b = 4 ∧ plainHeader b = true ∧ let pl := flitPayload b
      1 ≤ byteAt pl 0 ∧ byteAt pl 0 ≤ 15 ∧ byteAt pl 1 < 20 ∧ byteAt pl 2 < 16 ∧ byteAt pl 3 = 0 ∧ zeros pl 7 119 = true ∧ (s.port p).transit = none ∧ (s.port p).lastMap ≠ some (BitVec.ofNat 16 (le pl 4 2), bits (byteAt pl 1) 4 2, byteAt pl 1 % 4) ∧ ((s.port p).rx.protoTimes.filter (s.within 1000000)).length < 15)
    ∧ (∃ (p : Fin 12) (l : Fin 4) (b : List Byte) (s : State), (s.port p).train.state = .active ∧ flitGood b = true ∧ flitType b = 0 ∧ plainHeader b = false)
    ∧ (∃ (p : Fin 12) (l : Fin 4) (b : List Byte) (s : State), (s.port p).train.state = .active ∧ flitGood b = true ∧ flitType b = 5 ∧ plainHeader b = true ∧ let pl := flitPayload b
      byteAt pl 0 = 2 ∧ (byteAt pl 1 = 0 ∨ byteAt pl 1 = 2) ∧ zeros pl 4 7 = true ∧ zeros pl 32 119 = true)
    ∧ (∃ (p : Fin 12) (l : Fin 4) (b : List Byte) (s : State), (s.port p).train.state = .active ∧ flitGood b = true ∧ flitType b = 5 ∧ plainHeader b = true ∧ let pl := flitPayload b
      byteAt pl 0 = 2 ∧ (byteAt pl 1 = 0 ∨ byteAt pl 1 = 2) ∧ zeros pl 4 7 = true ∧ zeros pl 32 119 = true) :=
  ⟨⟨(0 : Fin 12), (0 : Fin 4), (flitBytes 2 (toLe 2 (2 + 4096) ++ toLe 2 0) : List Byte), (up.modPort 0 fun x => { x with train := { x.train with state := .active }, outSet := 5, inSet := 10, tx := { x.tx with seqNext := 5, lower := 1, unacked := [{ seq := 2 }, { seq := 3 }, { seq := 4 }] } } : State), by (try dsimp only); (repeat' with_reducible refine And.intro ?_ ?_) <;> first | with_reducible exact flit_good _ _ (by decide +kernel) | with_reducible exact tb_good _ (by decide +kernel) | decide +kernel | (intro h; cases h; done) | (right; decide +kernel; done) | exact fun h => nomatch h⟩,
   ⟨(0 : Fin 12), (0 : Fin 4), (flitBytes 2 (toLe 2 0 ++ toLe 2 (3 + 4096)) : List Byte), (up.modPort 0 fun x => { x with train := { x.train with state := .active }, outSet := 5, inSet := 10, tx := { x.tx with seqNext := 5, lower := 1, unacked := [{ seq := 2 }, { seq := 3 }, { seq := 4 }] } } : State), by (try dsimp only); (repeat' with_reducible refine And.intro ?_ ?_) <;> first | with_reducible exact flit_good _ _ (by decide +kernel) | with_reducible exact tb_good _ (by decide +kernel) | decide +kernel | (intro h; cases h; done) | (right; decide +kernel; done) | exact fun h => nomatch h⟩,
   ⟨(0 : Fin 12), (0 : Fin 4), (flitBytes 3 (toLe 8 1 ++ toLe 2 1 ++ toLe 2 7) : List Byte), (up.modPort 0 fun x => { x with train := { x.train with state := .active }, outSet := 5, inSet := 10, tuns := [(1, { used := true })] } : State), by (try dsimp only); (repeat' with_reducible refine And.intro ?_ ?_) <;> first | with_reducible exact flit_good _ _ (by decide +kernel) | with_reducible exact tb_good _ (by decide +kernel) | decide +kernel | (intro h; cases h; done) | (right; decide +kernel; done) | exact fun h => nomatch h⟩,
   ⟨(0 : Fin 12), (0 : Fin 4), (flitBytes 6 ([1]) : List Byte), (up.modPort 0 fun x => { x with train := { x.train with state := .active }, outSet := 5, inSet := 10 } : State), by (try dsimp only); (repeat' with_reducible refine And.intro ?_ ?_) <;> first | with_reducible exact flit_good _ _ (by decide +kernel) | with_reducible exact tb_good _ (by decide +kernel) | decide +kernel | (intro h; cases h; done) | (right; decide +kernel; done) | exact fun h => nomatch h⟩,
   ⟨(0 : Fin 12), (0 : Fin 4), (flitBytes 6 ([4, 0, 1, 0, 2, 0, 3, 0]) : List Byte), (up.modPort 0 fun x => { x with train := { x.train with state := .active }, outSet := 5, inSet := 10 } : State), by (try dsimp only); (repeat' with_reducible refine And.intro ?_ ?_) <;> first | with_reducible exact flit_good _ _ (by decide +kernel) | with_reducible exact tb_good _ (by decide +kernel) | decide +kernel | (intro h; cases h; done) | (right; decide +kernel; done) | exact fun h => nomatch h⟩,
   ⟨(0 : Fin 12), (0 : Fin 4), (flitBytes 6 ([5, 1]) : List Byte), (up.modPort 0 fun x => { x with train := { x.train with state := .active }, outSet := 5, inSet := 10 } : State), by (try dsimp only); (repeat' with_reducible refine And.intro ?_ ?_) <;> first | with_reducible exact flit_good _ _ (by decide +kernel) | with_reducible exact tb_good _ (by decide +kernel) | decide +kernel | (intro h; cases h; done) | (right; decide +kernel; done) | exact fun h => nomatch h⟩,
   ⟨(0 : Fin 12), (0 : Fin 4), (flitBytes 6 ([6, 0, 1]) : List Byte), (up.modPort 0 fun x => { x with train := { x.train with state := .active }, outSet := 5, inSet := 10 } : State), by (try dsimp only); (repeat' with_reducible refine And.intro ?_ ?_) <;> first | with_reducible exact flit_good _ _ (by decide +kernel) | with_reducible exact tb_good _ (by decide +kernel) | decide +kernel | (intro h; cases h; done) | (right; decide +kernel; done) | exact fun h => nomatch h⟩,
   ⟨(0 : Fin 12), (0 : Fin 4), (flitBytes 6 ([3, 1, 9, 0]) : List Byte), ({ lane := 1, kind := .turnIn, phase := .awaitJoin, turnId := 9, marker := true } : Transit), (up.modPort 0 fun x => { x with train := { x.train with state := .active }, outSet := 5, inSet := 10, transit := some { lane := 1, kind := .turnIn, phase := .awaitJoin, turnId := 9, marker := true } } : State), by (try dsimp only); (repeat' with_reducible refine And.intro ?_ ?_) <;> first | with_reducible exact flit_good _ _ (by decide +kernel) | with_reducible exact tb_good _ (by decide +kernel) | decide +kernel | (intro h; cases h; done) | (right; decide +kernel; done) | exact fun h => nomatch h⟩,
   ⟨(0 : Fin 12), (0 : Fin 4), (flitBytes 4 ([5, 1, 0, 0, 9, 0]) : List Byte), ({ lane := 1, kind := .turnIn, phase := .laneReqSent, turnId := 9 } : Transit), (up.modPort 0 fun x => { x with train := { x.train with state := .active }, outSet := 5, inSet := 10, transit := some { lane := 1, kind := .turnIn, phase := .laneReqSent, turnId := 9 } } : State), by (try dsimp only); (repeat' with_reducible refine And.intro ?_ ?_) <;> first | with_reducible exact flit_good _ _ (by decide +kernel) | with_reducible exact tb_good _ (by decide +kernel) | decide +kernel | (intro h; cases h; done) | (right; decide +kernel; done) | exact fun h => nomatch h⟩,
   ⟨(0 : Fin 12), (0 : Fin 4), (flitBytes 4 ([5, 1, 0, 0, 9, 0]) : List Byte), ({ lane := 1, kind := .recal, phase := .laneReqSent, turnId := 9 } : Transit), (up.modPort 0 fun x => { x with train := { x.train with state := .active }, outSet := 5, inSet := 10, transit := some { lane := 1, kind := .recal, phase := .laneReqSent, turnId := 9 } } : State), by (try dsimp only); (repeat' with_reducible refine And.intro ?_ ?_) <;> first | with_reducible exact flit_good _ _ (by decide +kernel) | with_reducible exact tb_good _ (by decide +kernel) | decide +kernel | (intro h; cases h; done) | (right; decide +kernel; done) | exact fun h => nomatch h⟩,
   ⟨(0 : Fin 12), (0 : Fin 4), (flitBytes 4 ([5, 1, 0, 0, 9, 0]) : List Byte), ({ lane := 1, kind := .recal, phase := .awaitJoin, turnId := 9 } : Transit), (up.modPort 0 fun x => { x with train := { x.train with state := .active }, outSet := 5, inSet := 10, transit := some { lane := 1, kind := .recal, phase := .awaitJoin, turnId := 9 } } : State), by (try dsimp only); (repeat' with_reducible refine And.intro ?_ ?_) <;> first | with_reducible exact flit_good _ _ (by decide +kernel) | with_reducible exact tb_good _ (by decide +kernel) | decide +kernel | (intro h; cases h; done) | (right; decide +kernel; done) | exact fun h => nomatch h⟩,
   ⟨(0 : Fin 12), (0 : Fin 4), (flitBytes 4 ([5, 1, 0, 0, 9, 0]) : List Byte), (up.modPort 0 fun x => { x with train := { x.train with state := .active }, outSet := 5, inSet := 10 } : State), by (try dsimp only); (repeat' with_reducible refine And.intro ?_ ?_) <;> first | with_reducible exact flit_good _ _ (by decide +kernel) | with_reducible exact tb_good _ (by decide +kernel) | decide +kernel | (intro h; cases h; done) | (right; decide +kernel; done) | exact fun h => nomatch h⟩,
   ⟨(0 : Fin 12), (0 : Fin 4), (flitBytes 8 [] : List Byte), (up.modPort 0 fun x => { x with train := { x.train with state := .active }, outSet := 5, inSet := 10 } : State), by (try dsimp only); (repeat' with_reducible refine And.intro ?_ ?_) <;> first | with_reducible exact flit_good _ _ (by decide +kernel) | with_reducible exact tb_good _ (by decide +kernel) | decide +kernel | (intro h; cases h; done) | (right; decide +kernel; done) | exact fun h => nomatch h⟩,
   ⟨(0 : Fin 12), (0 : Fin 4), (flitBytes 5 ([2, 0, 7, 0]) : List Byte), (up.modPort 0 fun x => { x with train := { x.train with state := .active }, outSet := 5, inSet := 10 } : State), by dsimp only; exact ⟨by decide +kernel, flit_good _ _ (by decide +kernel), by decide +kernel, by decide +kernel, by decide +kernel, Or.inl (by decide +kernel), by decide +kernel⟩⟩,
   ⟨(0 : Fin 12), (0 : Fin 4), (flitBytes 5 ([2, 2, 7, 0]) : List Byte), (up.modPort 0 fun x => { x with train := { x.train with state := .active }, outSet := 5, inSet := 10 } : State), by dsimp only; exact ⟨by decide +kernel, flit_good _ _ (by decide +kernel), by decide +kernel, by decide +kernel, by decide +kernel, Or.inr (by decide +kernel), by decide +kernel⟩⟩⟩

/-- Obligations.LinkTimers. -/
theorem hypotheses_met_LinkTimers :
    (∃ (p : Fin 12) (s : State), (s.port p).train.state = .active ∧ (s.port p).rx.retryWait = true ∧ s.due (s.port p).rx.nakDue = true)
    ∧ (∃ (p : Fin 12) (s : State), (s.port p).train.state = .active ∧ (s.port p).rx.retryWait = true ∧ s.due (s.port p).rx.nakDue = true)
    ∧ (∃ (p : Fin 12) (u : Unacked) (rest : List Unacked) (s : State), (s.port p).train.state = .active ∧ (s.port p).tx.unacked = u :: rest ∧ u.sentAt.toNat + (s.port p).replayNs < s.now.toNat)
    ∧ (∃ (p : Fin 12) (s : State), (s.port p).train.state = .active ∧ s.due (s.port p).rx.ackDue = true ∧ (s.port p).tx.asleep = false ∧ (s.port p).rx.asleep = false)
    ∧ (∃ (p : Fin 12) (s : State), (s.port p).train.state = .active ∧ s.due (s.port p).rx.creditDue = true)
    ∧ (∃ (p : Fin 12) (s : State), (s.port p).train.state = .active)
    ∧ (∃ (p : Fin 12) (n : Fin 1024) (tid q : Nat) (s : State), (s.port p).train.state = .active ∧ n ≠ 0 ∧ s.tidOf p n = some tid ∧ (s.tunnel tid).inQueue = some q ∧ (s.tunnel tid).state = .opened ∧ (s.tunnel tid).dirs.getLsbD 1 = true)
    ∧ (∃ (p : Fin 12) (s : State), (s.port p).train.state = .active ∧ s.due (s.port p).time.due = true)
    ∧ (∃ (p : Fin 12) (x : Transit) (s : State), (s.port p).train.state = .active ∧ (s.port p).transit = some x ∧ x.phase = .laneReqSent ∧ s.due x.due = true)
    ∧ (∃ (p : Fin 12) (x : Transit) (s : State), (s.port p).train.state = .active ∧ (s.port p).transit = some x ∧ x.phase = .laneReqSent ∧ s.due x.due = true)
    ∧ (∃ (p : Fin 12) (x : Transit) (s : State), (s.port p).train.state = .active ∧ (s.port p).transit = some x ∧ x.phase = .awaitJoin ∧ s.due x.due = true ∧ (x.kind = .turnOut ∧ x.marker = false ∨ x.kind = .turnIn ∧ x.joined = false))
    ∧ (∃ (p : Fin 12) (x : Transit) (s : State), (s.port p).train.state = .active ∧ (s.port p).transit = some x ∧ x.phase = .awaitJoin ∧ s.due x.due = true ∧ (x.kind = .turnOut ∧ x.marker = false ∨ x.kind = .turnIn ∧ x.joined = false)) :=
  ⟨⟨(0 : Fin 12), ((upAt 2000).modPort 0 fun x => { x with train := { x.train with state := .active }, outSet := 5, inSet := 10, rx := { x.rx with retryWait := true, nakDue := some 1000 } } : State), by decide +kernel⟩,
   ⟨(0 : Fin 12), ((upAt 2000).modPort 0 fun x => { x with train := { x.train with state := .active }, outSet := 5, inSet := 10, rx := { x.rx with retryWait := true, nakDue := some 1000, nakSeq := some 0, nakRun := 7 } } : State), by decide +kernel⟩,
   ⟨(0 : Fin 12), ({ seq := 2 } : Unacked), ([] : List Unacked), ((upAt 9000).modPort 0 fun x => { x with train := { x.train with state := .active }, outSet := 5, inSet := 10, tx := { x.tx with unacked := [{ seq := 2 }], seqNext := 3 } } : State), by decide +kernel⟩,
   ⟨(0 : Fin 12), ((upAt 2000).modPort 0 fun x => { x with train := { x.train with state := .active }, outSet := 5, inSet := 10, rx := { x.rx with ackDue := some 1000 } } : State), by decide +kernel⟩,
   ⟨(0 : Fin 12), ((upAt 2000).modPort 0 fun x => { x with train := { x.train with state := .active }, outSet := 5, inSet := 10, rx := { x.rx with creditDue := some 1000 } } : State), by decide +kernel⟩,
   ⟨(0 : Fin 12), (up.modPort 0 fun x => { x with train := { x.train with state := .active }, outSet := 5, inSet := 10 } : State), by decide +kernel⟩,
   ⟨(0 : Fin 12), (1 : Fin 1024), (0 : Nat), (3 : Nat), ((up.modPort 0 fun x => { x with train := { x.train with state := .active }, outSet := 5, inSet := 10, tuns := [(1, { granted := 4, used := true })] }).setTunnel 0 { port := 0, tun := 1, cls := 2, dirs := 3, state := .opened, owner := .slice 0 0, clientRef := 3 } : State), by decide +kernel⟩,
   ⟨(0 : Fin 12), ((upAt 2000).modPort 0 fun x => { x with train := { x.train with state := .active }, outSet := 5, inSet := 10, time := { x.time with due := some 1000 } } : State), by decide +kernel⟩,
   ⟨(0 : Fin 12), ({ lane := 1, phase := .laneReqSent, due := some 1000, tries := 0 } : Transit), ((upAt 2000).modPort 0 fun x => { x with train := { x.train with state := .active }, outSet := 5, inSet := 10, transit := some { lane := 1, phase := .laneReqSent, due := some 1000, tries := 0 } } : State), by decide +kernel⟩,
   ⟨(0 : Fin 12), ({ lane := 1, phase := .laneReqSent, due := some 1000, tries := 3 } : Transit), ((upAt 2000).modPort 0 fun x => { x with train := { x.train with state := .active }, outSet := 5, inSet := 10, transit := some { lane := 1, phase := .laneReqSent, due := some 1000, tries := 3 } } : State), by decide +kernel⟩,
   ⟨(0 : Fin 12), ({ lane := 1, kind := .turnIn, phase := .awaitJoin, due := some 1000 } : Transit), ((upAt 2000).modPort 0 fun x => { x with train := { x.train with state := .active }, outSet := 5, inSet := 10, transit := some { lane := 1, kind := .turnIn, phase := .awaitJoin, due := some 1000 } } : State), by decide +kernel⟩,
   ⟨(0 : Fin 12), ({ lane := 1, kind := .turnOut, phase := .awaitJoin, due := some 1000 } : Transit), ((upAt 2000).modPort 0 fun x => { x with train := { x.train with state := .active }, outSet := 5, inSet := 10, transit := some { lane := 1, kind := .turnOut, phase := .awaitJoin, due := some 1000 } } : State), by decide +kernel⟩⟩

/-- Obligations.MgmtMessages. -/
theorem hypotheses_met_MgmtMessages :
    (∃ (p : Fin 12) (m : MgmtMsg) (rest : List MgmtMsg) (s : State), (s.port p).mgmtRx = m :: rest ∧ m.msg = 0x02)
    ∧ (∃ (p : Fin 12) (m : MgmtMsg) (rest : List MgmtMsg) (a : Await) (s : State), (s.port p).mgmtRx = m :: rest ∧ m.msg = 0x11 ∧ s.awaited p m.xid 0x10 = some a)
    ∧ (∃ (p : Fin 12) (m : MgmtMsg) (rest : List MgmtMsg) (a : Await) (s : State), (s.port p).mgmtRx = m :: rest ∧ m.msg = 0x12 ∧ s.awaited p m.xid 0x10 = some a ∧ (s.tunnel a.tid).restore = true)
    ∧ (∃ (p : Fin 12) (m : MgmtMsg) (rest : List MgmtMsg) (a : Await) (s : State), (s.port p).mgmtRx = m :: rest ∧ m.msg = 0x12 ∧ s.awaited p m.xid 0x10 = some a ∧ (s.tunnel a.tid).restore = false ∧ s.fwMayCommit = true ∧ s.tunWf = true)
    ∧ (∃ (p : Fin 12) (m : MgmtMsg) (rest : List MgmtMsg) (a : Await) (s : State), (s.port p).mgmtRx = m :: rest ∧ m.msg = 0x14 ∧ s.awaited p m.xid 0x13 = some a ∧ s.tunWf = true)
    ∧ (∃ (p : Fin 12) (m : MgmtMsg) (rest : List MgmtMsg) (a : Await) (r : Modify) (s : State), (s.port p).mgmtRx = m :: rest ∧ m.msg = 0x21 ∧ s.awaited p m.xid 0x20 = some a ∧ (s.tunnel a.tid).modify = some r ∧ r.raiseIn = true ∧ r.xid = a.xid ∧ (s.tunnel a.tid).queued = [])
    ∧ (∃ (p : Fin 12) (m : MgmtMsg) (rest : List MgmtMsg) (a : Await) (s : State), (s.port p).mgmtRx = m :: rest ∧ m.msg = 0x21 ∧ s.awaited p m.xid 0x20 = some a ∧ (∀ r, (s.tunnel a.tid).modify = some r → r.raiseIn = false ∨ r.xid ≠ a.xid))
    ∧ (∃ (p : Fin 12) (m : MgmtMsg) (rest : List MgmtMsg) (a : Await) (s : State), (s.port p).mgmtRx = m :: rest ∧ m.msg = 0x21 ∧ s.awaited p m.xid 0x20 = some a ∧ (∀ r, (s.tunnel a.tid).modify = some r → r.raiseIn = false ∨ r.xid ≠ a.xid))
    ∧ (∃ (p : Fin 12) (m : MgmtMsg) (rest : List MgmtMsg) (tid : Nat) (s : State), (s.port p).mgmtRx = m :: rest ∧ m.msg = 0x30 ∧ s.tidOf p (bits (le m.body 0 2) 9 0) = some tid ∧ ((s.tunnel tid).state = .opening ∨ (s.tunnel tid).state = .opened) ∧ (s.tunnel tid).gen = BitVec.ofNat 8 (byteAt m.body 2) ∧ 1 ≤ byteAt m.body 3 ∧ byteAt m.body 3 ≤ 4)
    ∧ (∃ (p : Fin 12) (m : MgmtMsg) (rest : List MgmtMsg) (tid : Nat) (s : State), (s.port p).mgmtRx = m :: rest ∧ m.msg = 0x30 ∧ s.tidOf p (bits (le m.body 0 2) 9 0) = some tid ∧ ((s.tunnel tid).state = .opening ∨ (s.tunnel tid).state = .opened) ∧ (s.tunnel tid).gen = BitVec.ofNat 8 (byteAt m.body 2) ∧ 1 ≤ byteAt m.body 3 ∧ byteAt m.body 3 ≤ 4)
    ∧ (∃ (p : Fin 12) (m : MgmtMsg) (rest : List MgmtMsg) (tid : Nat) (s : State), (s.port p).mgmtRx = m :: rest ∧ m.msg = 0x30 ∧ s.tidOf p (bits (le m.body 0 2) 9 0) = some tid ∧ ((s.tunnel tid).state = .opening ∨ (s.tunnel tid).state = .opened) ∧ (s.tunnel tid).gen = BitVec.ofNat 8 (byteAt m.body 2) ∧ 1 ≤ byteAt m.body 3 ∧ byteAt m.body 3 ≤ 4)
    ∧ (∃ (p : Fin 12) (m : MgmtMsg) (rest : List MgmtMsg) (tid : Nat) (s : State), (s.port p).mgmtRx = m :: rest ∧ m.msg = 0x30 ∧ s.tidOf p (bits (le m.body 0 2) 9 0) = some tid ∧ ((s.tunnel tid).state = .opening ∨ (s.tunnel tid).state = .opened) ∧ (s.tunnel tid).gen = BitVec.ofNat 8 (byteAt m.body 2) ∧ 1 ≤ byteAt m.body 3 ∧ byteAt m.body 3 ≤ 4)
    ∧ (∃ (p : Fin 12) (m : MgmtMsg) (rest : List MgmtMsg) (tid : Nat) (s : State), (s.port p).mgmtRx = m :: rest ∧ m.msg = 0x30 ∧ s.tidOf p (bits (le m.body 0 2) 9 0) = some tid ∧ ((s.tunnel tid).state = .opening ∨ (s.tunnel tid).state = .opened) ∧ ((s.tunnel tid).gen ≠ BitVec.ofNat 8 (byteAt m.body 2) ∨ byteAt m.body 3 = 0 ∨ 4 < byteAt m.body 3))
    ∧ (∃ (p : Fin 12) (m : MgmtMsg) (rest : List MgmtMsg) (tid : Nat) (s : State), (s.port p).mgmtRx = m :: rest ∧ m.msg = 0x30 ∧ s.tidOf p (bits (le m.body 0 2) 9 0) = some tid ∧ ((s.tunnel tid).state = .opening ∨ (s.tunnel tid).state = .opened) ∧ ((s.tunnel tid).gen ≠ BitVec.ofNat 8 (byteAt m.body 2) ∨ byteAt m.body 3 = 0 ∨ 4 < byteAt m.body 3))
    ∧ (∃ (p : Fin 12) (m : MgmtMsg) (rest : List MgmtMsg) (tid : Nat) (s : State), (s.port p).mgmtRx = m :: rest ∧ m.msg = 0x30 ∧ s.tidOf p (bits (le m.body 0 2) 9 0) = some tid ∧ ((s.tunnel tid).state = .opening ∨ (s.tunnel tid).state = .opened) ∧ ((s.tunnel tid).gen ≠ BitVec.ofNat 8 (byteAt m.body 2) ∨ byteAt m.body 3 = 0 ∨ 4 < byteAt m.body 3))
    ∧ (∃ (i : Fin 12 → Instr) (n r : Nat) (p : Fin 12) (m : MgmtMsg) (rest : List MgmtMsg) (s : State), (i, n, r) ∈ [(Instr.openAckReceived, 0x11, 0x10), (.openNakReceived, 0x12, 0x10), (.closeAckReceived, 0x14, 0x13), (.allotAckReceived, 0x21, 0x20)] ∧ (s.port p).mgmtRx = m :: rest ∧ m.msg = n ∧ s.awaited p m.xid r = none ∧ ((s.port p).rx.protoTimes.filter (s.within 1000000)).length < 15)
    ∧ (∃ (i : Fin 12 → Instr) (n r : Nat) (p : Fin 12) (m : MgmtMsg) (rest : List MgmtMsg) (s : State), (i, n, r) ∈ [(Instr.openAckReceived, 0x11, 0x10), (.openNakReceived, 0x12, 0x10), (.closeAckReceived, 0x14, 0x13), (.allotAckReceived, 0x21, 0x20)] ∧ (s.port p).mgmtRx = m :: rest ∧ m.msg = n ∧ s.awaited p m.xid r = none ∧ ((s.port p).rx.protoTimes.filter (s.within 1000000)).length < 15)
    ∧ (∃ (i : Fin 12 → Instr) (n r : Nat) (p : Fin 12) (m : MgmtMsg) (rest : List MgmtMsg) (s : State), (i, n, r) ∈ [(Instr.openAckReceived, 0x11, 0x10), (.openNakReceived, 0x12, 0x10), (.closeAckReceived, 0x14, 0x13), (.allotAckReceived, 0x21, 0x20)] ∧ (s.port p).mgmtRx = m :: rest ∧ m.msg = n ∧ s.awaited p m.xid r = none ∧ ((s.port p).rx.protoTimes.filter (s.within 1000000)).length < 15)
    ∧ (∃ (i : Fin 12 → Instr) (n r : Nat) (p : Fin 12) (m : MgmtMsg) (rest : List MgmtMsg) (s : State), (i, n, r) ∈ [(Instr.openAckReceived, 0x11, 0x10), (.openNakReceived, 0x12, 0x10), (.closeAckReceived, 0x14, 0x13), (.allotAckReceived, 0x21, 0x20)] ∧ (s.port p).mgmtRx = m :: rest ∧ m.msg = n ∧ s.awaited p m.xid r = none ∧ ((s.port p).rx.protoTimes.filter (s.within 1000000)).length < 15) :=
  ⟨⟨(0 : Fin 12), ({ msg := 0x02, xid := 1, body := [] } : MgmtMsg), ([] : List MgmtMsg), ((up.modPort 0 fun x => { x with mgmtRx := [{ msg := 0x02, xid := 1, body := [] }], awaits := [] }).setTunnel 0 { port := 0, tun := 1, cls := 2, dirs := 3, owner := .slice 0 0, clientRef := 3 } : State), by decide +kernel⟩,
   ⟨(0 : Fin 12), ({ msg := 0x11, xid := 1, body := [] } : MgmtMsg), ([] : List MgmtMsg), ({ xid := 1, msg := { msg := 0x10 }, tid := 0 } : Await), ((up.modPort 0 fun x => { x with mgmtRx := [{ msg := 0x11, xid := 1, body := [] }], awaits := [{ xid := 1, msg := { msg := 0x10 }, tid := 0 }] }).setTunnel 0 { port := 0, tun := 1, cls := 2, dirs := 3, owner := .slice 0 0, clientRef := 3, state := .opening } : State), by decide +kernel⟩,
   ⟨(0 : Fin 12), ({ msg := 0x12, xid := 1, body := [] } : MgmtMsg), ([] : List MgmtMsg), ({ xid := 1, msg := { msg := 0x10 }, tid := 0 } : Await), ((up.modPort 0 fun x => { x with mgmtRx := [{ msg := 0x12, xid := 1, body := [] }], awaits := [{ xid := 1, msg := { msg := 0x10 }, tid := 0 }] }).setTunnel 0 { port := 0, tun := 1, cls := 2, dirs := 3, owner := .slice 0 0, clientRef := 3, state := .opening, restore := true } : State), by decide +kernel⟩,
   ⟨(0 : Fin 12), ({ msg := 0x12, xid := 1, body := [] } : MgmtMsg), ([] : List MgmtMsg), ({ xid := 1, msg := { msg := 0x10 }, tid := 0 } : Await), ((up.modPort 0 fun x => { x with mgmtRx := [{ msg := 0x12, xid := 1, body := [] }], awaits := [{ xid := 1, msg := { msg := 0x10 }, tid := 0 }] }).setTunnel 0 { port := 0, tun := 1, cls := 2, dirs := 3, owner := .slice 0 0, clientRef := 3, state := .opening } : State), by decide +kernel⟩,
   ⟨(0 : Fin 12), ({ msg := 0x14, xid := 1, body := [] } : MgmtMsg), ([] : List MgmtMsg), ({ xid := 1, msg := { msg := 0x13 }, tid := 0 } : Await), ((up.modPort 0 fun x => { x with mgmtRx := [{ msg := 0x14, xid := 1, body := [] }], awaits := [{ xid := 1, msg := { msg := 0x13 }, tid := 0 }] }).setTunnel 0 { port := 0, tun := 1, cls := 2, dirs := 3, owner := .slice 0 0, clientRef := 3, state := .closing } : State), by decide +kernel⟩,
   ⟨(0 : Fin 12), ({ msg := 0x21, xid := 1, body := [] } : MgmtMsg), ([] : List MgmtMsg), ({ xid := 1, msg := { msg := 0x20 }, tid := 0 } : Await), ({ raiseIn := true, xid := 1 } : Modify), ((up.modPort 0 fun x => { x with mgmtRx := [{ msg := 0x21, xid := 1, body := [] }], awaits := [{ xid := 1, msg := { msg := 0x20 }, tid := 0 }] }).setTunnel 0 { port := 0, tun := 1, cls := 2, dirs := 3, owner := .slice 0 0, clientRef := 3, state := .opened, modify := some { raiseIn := true, xid := 1 } } : State), by decide +kernel⟩,
   ⟨(0 : Fin 12), ({ msg := 0x21, xid := 1, body := [] } : MgmtMsg), ([] : List MgmtMsg), ({ xid := 1, msg := { msg := 0x20 }, tid := 0 } : Await), ((up.modPort 0 fun x => { x with mgmtRx := [{ msg := 0x21, xid := 1, body := [] }], awaits := [{ xid := 1, msg := { msg := 0x20 }, tid := 0 }] }).setTunnel 0 { port := 0, tun := 1, cls := 2, dirs := 3, owner := .slice 0 0, clientRef := 3, state := .opened } : State), by refine ⟨by decide +kernel, by decide +kernel, by decide +kernel, ?_⟩; intro r h; cases h⟩,
   ⟨(0 : Fin 12), ({ msg := 0x21, xid := 1, body := [] } : MgmtMsg), ([] : List MgmtMsg), ({ xid := 1, msg := { msg := 0x20 }, tid := 0 } : Await), ((up.modPort 0 fun x => { x with mgmtRx := [{ msg := 0x21, xid := 1, body := [] }], awaits := [{ xid := 1, msg := { msg := 0x20 }, tid := 0 }] }).setTunnel 0 { port := 0, tun := 1, cls := 2, dirs := 3, owner := .slice 0 0, clientRef := 3, state := .opened, modify := some { raiseIn := true, xid := 2 } } : State), by refine ⟨by decide +kernel, by decide +kernel, by decide +kernel, ?_⟩; intro r h; cases h; exact Or.inr (by decide +kernel)⟩,
   ⟨(0 : Fin 12), ({ msg := 0x30, xid := 1, body := [1, 0, 0, 1] } : MgmtMsg), ([] : List MgmtMsg), (0 : Nat), ((up.modPort 0 fun x => { x with mgmtRx := [{ msg := 0x30, xid := 1, body := [1, 0, 0, 1] }], awaits := [] }).setTunnel 0 { port := 0, tun := 1, cls := 2, dirs := 3, owner := .slice 0 0, clientRef := 3, state := .opened } : State), by decide +kernel⟩,
   ⟨(0 : Fin 12), ({ msg := 0x30, xid := 1, body := [1, 0, 0, 2] } : MgmtMsg), ([] : List MgmtMsg), (0 : Nat), ((up.modPort 0 fun x => { x with mgmtRx := [{ msg := 0x30, xid := 1, body := [1, 0, 0, 2] }], awaits := [] }).setTunnel 0 { port := 0, tun := 1, cls := 2, dirs := 3, owner := .slice 0 0, clientRef := 3, state := .opened } : State), by decide +kernel⟩,
   ⟨(0 : Fin 12), ({ msg := 0x30, xid := 1, body := [1, 0, 0, 3] } : MgmtMsg), ([] : List MgmtMsg), (0 : Nat), ((up.modPort 0 fun x => { x with mgmtRx := [{ msg := 0x30, xid := 1, body := [1, 0, 0, 3] }], awaits := [] }).setTunnel 0 { port := 0, tun := 1, cls := 2, dirs := 3, owner := .slice 0 0, clientRef := 3, state := .opened } : State), by decide +kernel⟩,
   ⟨(0 : Fin 12), ({ msg := 0x30, xid := 1, body := [1, 0, 0, 4] } : MgmtMsg), ([] : List MgmtMsg), (0 : Nat), ((up.modPort 0 fun x => { x with mgmtRx := [{ msg := 0x30, xid := 1, body := [1, 0, 0, 4] }], awaits := [] }).setTunnel 0 { port := 0, tun := 1, cls := 2, dirs := 3, owner := .slice 0 0, clientRef := 3, state := .opened } : State), by decide +kernel⟩,
   ⟨(0 : Fin 12), ({ msg := 0x30, xid := 1, body := [1, 0, 7, 1] } : MgmtMsg), ([] : List MgmtMsg), (0 : Nat), ((up.modPort 0 fun x => { x with mgmtRx := [{ msg := 0x30, xid := 1, body := [1, 0, 7, 1] }], awaits := [] }).setTunnel 0 { port := 0, tun := 1, cls := 2, dirs := 3, owner := .slice 0 0, clientRef := 3, state := .opened } : State), by decide +kernel⟩,
   ⟨(0 : Fin 12), ({ msg := 0x30, xid := 1, body := [1, 0, 0, 0] } : MgmtMsg), ([] : List MgmtMsg), (0 : Nat), ((up.modPort 0 fun x => { x with mgmtRx := [{ msg := 0x30, xid := 1, body := [1, 0, 0, 0] }], awaits := [] }).setTunnel 0 { port := 0, tun := 1, cls := 2, dirs := 3, owner := .slice 0 0, clientRef := 3, state := .opened } : State), by decide +kernel⟩,
   ⟨(0 : Fin 12), ({ msg := 0x30, xid := 1, body := [1, 0, 0, 5] } : MgmtMsg), ([] : List MgmtMsg), (0 : Nat), ((up.modPort 0 fun x => { x with mgmtRx := [{ msg := 0x30, xid := 1, body := [1, 0, 0, 5] }], awaits := [] }).setTunnel 0 { port := 0, tun := 1, cls := 2, dirs := 3, owner := .slice 0 0, clientRef := 3, state := .opened } : State), by decide +kernel⟩,
   ⟨Instr.openAckReceived, (0x11 : Nat), (0x10 : Nat), (0 : Fin 12), ({ msg := 0x11, xid := 1, body := [] } : MgmtMsg), ([] : List MgmtMsg), ((up.modPort 0 fun x => { x with mgmtRx := [{ msg := 0x11, xid := 1, body := [] }], awaits := [] }).setTunnel 0 { port := 0, tun := 1, cls := 2, dirs := 3, owner := .slice 0 0, clientRef := 3 } : State), by refine ⟨by simp, by decide +kernel⟩⟩,
   ⟨Instr.openNakReceived, (0x12 : Nat), (0x10 : Nat), (0 : Fin 12), ({ msg := 0x12, xid := 1, body := [] } : MgmtMsg), ([] : List MgmtMsg), ((up.modPort 0 fun x => { x with mgmtRx := [{ msg := 0x12, xid := 1, body := [] }], awaits := [] }).setTunnel 0 { port := 0, tun := 1, cls := 2, dirs := 3, owner := .slice 0 0, clientRef := 3 } : State), by refine ⟨by simp, by decide +kernel⟩⟩,
   ⟨Instr.closeAckReceived, (0x14 : Nat), (0x13 : Nat), (0 : Fin 12), ({ msg := 0x14, xid := 1, body := [] } : MgmtMsg), ([] : List MgmtMsg), ((up.modPort 0 fun x => { x with mgmtRx := [{ msg := 0x14, xid := 1, body := [] }], awaits := [] }).setTunnel 0 { port := 0, tun := 1, cls := 2, dirs := 3, owner := .slice 0 0, clientRef := 3 } : State), by refine ⟨by simp, by decide +kernel⟩⟩,
   ⟨Instr.allotAckReceived, (0x21 : Nat), (0x20 : Nat), (0 : Fin 12), ({ msg := 0x21, xid := 1, body := [] } : MgmtMsg), ([] : List MgmtMsg), ((up.modPort 0 fun x => { x with mgmtRx := [{ msg := 0x21, xid := 1, body := [] }], awaits := [] }).setTunnel 0 { port := 0, tun := 1, cls := 2, dirs := 3, owner := .slice 0 0, clientRef := 3 } : State), by refine ⟨by simp, by decide +kernel⟩⟩⟩

/-- Obligations.TunnelTimers. -/
theorem hypotheses_met_TunnelTimers :
    (∃ (p : Fin 12) (xid : BitVec 16) (a : Await) (s : State), (s.port p).awaits.find? (fun a => decide (a.xid = xid)) = some a ∧ a.due.toNat ≤ s.now.toNat ∧ a.tries < 2)
    ∧ (∃ (p : Fin 12) (xid : BitVec 16) (a : Await) (s : State), (s.port p).awaits.find? (fun a => decide (a.xid = xid)) = some a ∧ a.due.toNat ≤ s.now.toNat ∧ 2 ≤ a.tries ∧ a.msg.msg = 0x10 ∧ (s.tunnel a.tid).restore = true)
    ∧ (∃ (p : Fin 12) (xid : BitVec 16) (a : Await) (s : State), (s.port p).awaits.find? (fun a => decide (a.xid = xid)) = some a ∧ a.due.toNat ≤ s.now.toNat ∧ 2 ≤ a.tries ∧ (a.msg.msg = 0x10 ∧ (s.tunnel a.tid).restore = false ∧ s.fwMayCommit = true ∨ a.msg.msg = 0x13) ∧ s.tunWf = true)
    ∧ (∃ (p : Fin 12) (xid : BitVec 16) (a : Await) (s : State), (s.port p).awaits.find? (fun a => decide (a.xid = xid)) = some a ∧ a.due.toNat ≤ s.now.toNat ∧ 2 ≤ a.tries ∧ (a.msg.msg = 0x10 ∧ (s.tunnel a.tid).restore = false ∧ s.fwMayCommit = true ∨ a.msg.msg = 0x13) ∧ s.tunWf = true)
    ∧ (∃ (p : Fin 12) (s : State), (s.port p).train.state = .active ∧ (s.port p).allot.cycle ≠ some s.cycle)
    ∧ (∃ (p : Fin 12) (s : State), (s.port p).allot.cycle = some s.cycle)
    ∧ (∃ (p : Fin 12) (tid : Nat) (at' : Time) (s : State), s.portTunnels p .orphan = [tid] ∧ (s.tunnel tid).port = p ∧ (s.tunnel tid).orphanAt = some at' ∧ at'.toNat + 100000000 * (s.port p).allot.orphanWin ≤ s.now.toNat ∧ s.fwMayCommit = true ∧ (s.tunnel tid).state = .orphan ∧ s.tunWf = true)
    ∧ (∃ (p : Fin 12) (s : State), (∀ tid ∈ s.portTunnels p .orphan, s.windowOver tid = false))
    ∧ (∃ (p : Fin 12) (s : State), (∀ tid ∈ s.portTunnels p .orphan, s.windowOver tid = false))
    ∧ (∃ (h : Fin 2) (sl : Fin 256) (s : State), s.due (s.slice h sl).lostDue = true) :=
  ⟨⟨(0 : Fin 12), (1 : BitVec 16), ({ xid := 1, msg := { msg := 0x10 }, tid := 0, tries := 1, due := 1000 } : Await), (((upAt 2000).modPort 0 fun x => { x with awaits := [{ xid := 1, msg := { msg := 0x10 }, tid := 0, tries := 1, due := 1000 }] }).setTunnel 0 { port := 0, tun := 1, cls := 2, dirs := 3, owner := .slice 0 0, clientRef := 3, state := .opening } : State), by decide +kernel⟩,
   ⟨(0 : Fin 12), (1 : BitVec 16), ({ xid := 1, msg := { msg := 0x10 }, tid := 0, tries := 2, due := 1000 } : Await), (((upAt 2000).modPort 0 fun x => { x with awaits := [{ xid := 1, msg := { msg := 0x10 }, tid := 0, tries := 2, due := 1000 }] }).setTunnel 0 { port := 0, tun := 1, cls := 2, dirs := 3, owner := .slice 0 0, clientRef := 3, state := .opening, restore := true } : State), by decide +kernel⟩,
   ⟨(0 : Fin 12), (1 : BitVec 16), ({ xid := 1, msg := { msg := 0x10 }, tid := 0, tries := 2, due := 1000 } : Await), (((upAt 2000).modPort 0 fun x => { x with awaits := [{ xid := 1, msg := { msg := 0x10 }, tid := 0, tries := 2, due := 1000 }] }).setTunnel 0 { port := 0, tun := 1, cls := 2, dirs := 3, owner := .slice 0 0, clientRef := 3, state := .opening } : State), by decide +kernel⟩,
   ⟨(0 : Fin 12), (1 : BitVec 16), ({ xid := 1, msg := { msg := 0x13 }, tid := 0, tries := 2, due := 1000 } : Await), (((upAt 2000).modPort 0 fun x => { x with awaits := [{ xid := 1, msg := { msg := 0x13 }, tid := 0, tries := 2, due := 1000 }] }).setTunnel 0 { port := 0, tun := 1, cls := 2, dirs := 3, owner := .slice 0 0, clientRef := 3, state := .closing } : State), by decide +kernel⟩,
   ⟨(0 : Fin 12), (up.modPort 0 fun x => { x with train := { x.train with state := .active }, outSet := 5, inSet := 10 } : State), by decide +kernel⟩,
   ⟨(0 : Fin 12), (up.modPort 0 fun x => { x with allot := { x.allot with cycle := some 0 } } : State), by decide +kernel⟩,
   ⟨(0 : Fin 12), (0 : Nat), (0 : Time), ((upAt 9000000000).setTunnel 0 { port := 0, tun := 1, cls := 2, dirs := 3, state := .orphan, owner := .slice 0 0, clientRef := 3, orphanAt := some 0 } : State), by decide +kernel⟩,
   ⟨(0 : Fin 12), (up : State), by decide +kernel⟩,
   ⟨(0 : Fin 12), ((upAt 9000000000).setTunnel 0 { port := 0, tun := 1, cls := 2, dirs := 3, state := .orphan, owner := .slice 0 0, clientRef := 3, orphanAt := some 9000000000 } : State), by decide +kernel⟩,
   ⟨(0 : Fin 2), (1 : Fin 256), ((upAt 2000).setSlice 0 1 { state := .hostLost, lostDue := some 1000 } : State), by decide +kernel⟩⟩

/-- Obligations.MarlEvents. -/
theorem hypotheses_met_MarlEvents :
    (∃ (a : BitVec 8) (f q : Nat) (bl poison : Bool) (b : List Byte) (s : State), f < 8192 ∧ (s.tunnel f).client = a.toNat ∧ (s.tunnel f).dirs.getLsbD 0 = true ∧ (a.toNat = agentDisp ∨ a.toNat = agentNet) ∧ (s.tunnel f).state = .opened ∧ s.domainOff 1 = false ∧ queueOf (agentPort (s.tunnel f).port) (s.tunnel f).cls (s.tunnel f).periodic = some q)
    ∧ (∃ (a : BitVec 8) (f q : Nat) (bl poison : Bool) (b : List Byte) (s : State), f < 8192 ∧ (s.tunnel f).client = a.toNat ∧ (s.tunnel f).dirs.getLsbD 0 = true ∧ (a.toNat = agentDisp ∨ a.toNat = agentNet) ∧ (s.tunnel f).state = .opened ∧ s.domainOff 1 = false ∧ queueOf (agentPort (s.tunnel f).port) (s.tunnel f).cls (s.tunnel f).periodic = some q)
    ∧ (∃ (a : BitVec 8) (f q : Nat) (bl poison : Bool) (b : List Byte) (s : State), f < 8192 ∧ (s.tunnel f).client = a.toNat ∧ (s.tunnel f).dirs.getLsbD 0 = true ∧ a.toNat ≠ agentDisp ∧ a.toNat ≠ agentNet ∧ (s.tunnel f).state = .opened ∧ s.domainOff 1 = false ∧ queueOf (agentPort (s.tunnel f).port) (s.tunnel f).cls (s.tunnel f).periodic = some q)
    ∧ (∃ (a : BitVec 8) (f q : Nat) (bl poison : Bool) (b : List Byte) (s : State), f < 8192 ∧ (s.tunnel f).client = a.toNat ∧ (s.tunnel f).dirs.getLsbD 0 = true ∧ a.toNat ≠ agentDisp ∧ a.toNat ≠ agentNet ∧ (s.tunnel f).state = .opened ∧ s.domainOff 1 = false ∧ queueOf (agentPort (s.tunnel f).port) (s.tunnel f).cls (s.tunnel f).periodic = some q)
    ∧ (∃ (a : BitVec 8) (f q : Nat) (bl poison : Bool) (b : List Byte) (s : State), 16384 ≤ f ∧ queueOf (sysEgress a.toNat f) 7 false = some q ∧ Tab.get 0 s.marl.crossing (a.toNat * 8 + 7) ≠ 0 ∧ (s.placeBank (s.egq (sysEgress a.toNat f) q).recent).isSome = true ∧ s.marl.writeBuf = [] ∧ s.domainOff 1 = false)
    ∧ (∃ (a : BitVec 8) (f q : Nat) (bl poison : Bool) (b : List Byte) (s : State), f < 8192 ∧ (s.tunnel f).client = a.toNat ∧ (s.tunnel f).dirs.getLsbD 0 = true ∧ (s.tunnel f).state = .orphan ∧ s.domainOff 1 = false ∧ queueOf (agentPort (s.tunnel f).port) (s.tunnel f).cls (s.tunnel f).periodic = some q)
    ∧ (∃ (a : BitVec 8) (f : Nat) (bl poison : Bool) (b : List Byte) (s : State), (f < 8192 ∧ (s.tunnel f).client ≠ a.toNat ∨ s.domainOff 1 = true))
    ∧ (∃ (a : BitVec 8) (cls : Fin 8) (s : State), a.toNat ∈ [0, 1, 3, 4, 5] ∧ (s.takeSpace cls).isSome = true ∧ s.domainOff 1 = false ∧ (a.toNat = agentCtrl → s.cluster.mgmtOut = []) ∧ (a.toNat = agentXfer → ∀ r, r < 24 → (s.root r).pingHeld = false))
    ∧ (∃ (a : BitVec 8) (cls : Fin 8) (s : State), a.toNat ∈ [0, 1, 3, 4, 5] ∧ (s.takeSpace cls).isSome = true ∧ s.domainOff 1 = false ∧ (a.toNat = agentCtrl → s.cluster.mgmtOut = []) ∧ (a.toNat = agentXfer → ∀ r, r < 24 → (s.root r).pingHeld = false))
    ∧ (∃ (a : BitVec 8) (cls : Fin 8) (s : State), a.toNat ∈ [0, 1, 3, 4, 5] ∧ (s.takeSpace cls).isSome = true ∧ s.domainOff 1 = false ∧ (a.toNat = agentCtrl → s.cluster.mgmtOut = []) ∧ (a.toNat = agentXfer → ∀ r, r < 24 → (s.root r).pingHeld = false))
    ∧ (∃ (a : BitVec 8) (cls : Fin 8) (s : State), a.toNat ∈ [0, 1, 3, 4, 5] ∧ (s.takeSpace cls).isSome = true ∧ s.domainOff 1 = false ∧ (a.toNat = agentCtrl → s.cluster.mgmtOut = []) ∧ (a.toNat = agentXfer → ∀ r, r < 24 → (s.root r).pingHeld = false))
    ∧ (∃ (a : BitVec 8) (cls : Fin 8) (s : State), a.toNat ∈ [0, 1, 3, 4, 5] ∧ (s.takeSpace cls).isSome = true ∧ s.domainOff 1 = false ∧ (a.toNat = agentCtrl → s.cluster.mgmtOut = []) ∧ (a.toNat = agentXfer → ∀ r, r < 24 → (s.root r).pingHeld = false))
    ∧ (∃ (cls : Fin 8) (port : Nat) (c : Cell) (rest : List (Nat × Cell)) (s : State), s.domainOff 1 = false ∧ (s.takeSpace cls).isSome = true ∧ s.cluster.mgmtOut = (port, c) :: rest ∧ c.cls = cls.val)
    ∧ (∃ (a : BitVec 8) (cls : Fin 8) (s : State), (a.toNat ∉ [0, 1, 3, 4, 5] ∨ (s.takeSpace cls).isSome = false ∨ s.domainOff 1 = true))
    ∧ (∃ (h : Fin 2) (f : Nat) (c : Cell) (rest : List Cell) (s : State), s.agentPowered (agentHp h) = true ∧ s.pickUnit (agentHp h) = some (1, f) ∧ (s.egq (agentHp h) 1).flow f = c :: rest ∧ c.sys = true ∧ c.cls = 7 ∧ (s.hp h).power = .d0 ∧ Tab.get [] s.marl.staging (agentHp h) = [] ∧ (Tab.get [] s.marl.staging agentXfer).filter (fun c => decide (c.cls = 3)) = [] ∧ s.marl.writeBuf = [] ∧ s.overAge c = false ∧ s.readPage 0 c.addr = .clean ∧ c.poison = false ∧ (s.egq (agentHp h) 1).discarding.contains f = false)
    ∧ (∃ (h : Fin 2) (f : Nat) (c : Cell) (rest : List Cell) (s : State), s.agentPowered (agentHp h) = true ∧ s.pickUnit (agentHp h) = some (1, f) ∧ (s.egq (agentHp h) 1).flow f = c :: rest ∧ c.sys = true ∧ c.cls = 7 ∧ (s.hp h).power = .d3hot ∧ Tab.get [] s.marl.staging (agentHp h) = [] ∧ (Tab.get [] s.marl.staging agentXfer).filter (fun c => decide (c.cls = 3)) = [] ∧ s.marl.writeBuf = [] ∧ s.overAge c = false ∧ s.readPage 0 c.addr = .clean ∧ c.poison = false ∧ (s.egq (agentHp h) 1).discarding.contains f = false)
    ∧ (∃ (h : Fin 2) (q f : Nat) (s : State), s.agentPowered (agentHp h) = true ∧ s.pickUnit (agentHp h) = some (q, f) ∧ (Tab.get [] s.marl.staging (agentHp h)).length < 16)
    ∧ (∃ (k f : Nat) (x : EgQueue) (c : Cell) (s : State), s.marl.queues = [(k, x)] ∧ x.flows = [(f, [c])] ∧ s.marl.writeBuf = [])
    ∧ (∃ (b : Fin 33) (s : State), (s.bank b).state = .draining ∧ (s.bank b).fill = 0 ∧ s.fwMayCommit = true)
    ∧ (∃ (b : Fin 33) (s : State), ((s.bank b).state ≠ .draining ∨ (s.bank b).fill ≠ 0))
    ∧ (∃ (b : Fin 33) (s : State), ((s.bank b).state ≠ .draining ∨ (s.bank b).fill ≠ 0))
    ∧ (∃ (b : Fin 33) (c : Cmd) (s : State), (s.bank b).readmit = some c ∧ (s.bank b).state = .retired) :=
  ⟨⟨(agentDisp : BitVec 8), (0 : Nat), (0 : Nat), (false : Bool), (false : Bool), ([1] : List Byte), ((up).setTunnel 0 { port := 0, tun := 1, cls := 0, dirs := 3, state := .opened, owner := .slice 0 0, clientRef := 0 } : State), by decide +kernel⟩,
   ⟨(agentNet : BitVec 8), (0 : Nat), (7 : Nat), (false : Bool), (false : Bool), ([1] : List Byte), ((up).setTunnel 0 { port := 0, tun := 1, cls := 5, dirs := 3, state := .opened, owner := .slice 0 0, clientRef := 5 } : State), by decide +kernel⟩,
   ⟨(agentXfer : BitVec 8), (0 : Nat), (3 : Nat), (false : Bool), (false : Bool), ([1] : List Byte), (({ up with marl := { up.marl with crossing := [(agentXfer * 8 + 3, 2)] } }).setTunnel 0 { port := 0, tun := 1, cls := 2, dirs := 3, state := .opened, owner := .slice 0 0, clientRef := 3 } : State), by decide +kernel⟩,
   ⟨(agentXfer : BitVec 8), (0 : Nat), (3 : Nat), (false : Bool), (false : Bool), ([1] : List Byte), ((up).setTunnel 0 { port := 0, tun := 1, cls := 2, dirs := 3, state := .opened, owner := .slice 0 0, clientRef := 3 } : State), by decide +kernel⟩,
   ⟨(agentXfer : BitVec 8), (16384 : Nat), ((queueOf (agentHp 0) 7 false).getD 0 : Nat), (false : Bool), (false : Bool), ([1] : List Byte), ({ up with marl := { up.marl with crossing := [(agentXfer * 8 + 7, 2)] } } : State), by decide +kernel⟩,
   ⟨(agentXfer : BitVec 8), (0 : Nat), (3 : Nat), (false : Bool), (false : Bool), ([1] : List Byte), ((up).setTunnel 0 { port := 0, tun := 1, cls := 2, dirs := 3, owner := .slice 0 0, clientRef := 3, state := .orphan } : State), by decide +kernel⟩,
   ⟨(agentNet : BitVec 8), (0 : Nat), (false : Bool), (false : Bool), ([1] : List Byte), ((up).setTunnel 0 { port := 0, tun := 1, cls := 0, dirs := 3, state := .opened, owner := .slice 0 0, clientRef := 0 } : State), by decide +kernel⟩,
   ⟨(0 : BitVec 8), (2 : Fin 8), (up : State), by decide +kernel⟩,
   ⟨(1 : BitVec 8), (2 : Fin 8), (up : State), by decide +kernel⟩,
   ⟨(3 : BitVec 8), (2 : Fin 8), (up : State), by decide +kernel⟩,
   ⟨(4 : BitVec 8), (2 : Fin 8), (up : State), by decide +kernel⟩,
   ⟨(5 : BitVec 8), (2 : Fin 8), (up : State), by decide +kernel⟩,
   ⟨(6 : Fin 8), (0 : Nat), ({ cls := 6 } : Cell), ([] : List (Nat × Cell)), ({ up with cluster := { up.cluster with mgmtOut := [(0, { cls := 6 })] } } : State), by decide +kernel⟩,
   ⟨(7 : BitVec 8), (2 : Fin 8), (up : State), by decide +kernel⟩,
   ⟨(0 : Fin 2), (5 : Nat), ({ addr := 0, flow := 5, sys := true, cls := 7, payload := [1], bl := true } : Cell), ([] : List Cell), ({ up with marl := { up.marl with queues := [(agentHp 0 * 16 + 1, { flows := [(5, [{ addr := 0, flow := 5, sys := true, cls := 7, payload := [1], bl := true }])] })] } } : State), by decide +kernel⟩,
   ⟨(0 : Fin 2), (5 : Nat), ({ addr := 0, flow := 5, sys := true, cls := 7, payload := [1], bl := true } : Cell), ([] : List Cell), ({ ({ up with marl := { up.marl with queues := [(agentHp 0 * 16 + 1, { flows := [(5, [{ addr := 0, flow := 5, sys := true, cls := 7, payload := [1], bl := true }])] })] } } : State) with hosts := { ({ up with marl := { up.marl with queues := [(agentHp 0 * 16 + 1, { flows := [(5, [{ addr := 0, flow := 5, sys := true, cls := 7, payload := [1], bl := true }])] })] } } : State).hosts with hp0 := { ({ up with marl := { up.marl with queues := [(agentHp 0 * 16 + 1, { flows := [(5, [{ addr := 0, flow := 5, sys := true, cls := 7, payload := [1], bl := true }])] })] } } : State).hosts.hp0 with power := .d3hot } } } : State), by decide +kernel⟩,
   ⟨(0 : Fin 2), (1 : Nat), (5 : Nat), ({ up with marl := { up.marl with queues := [(agentHp 0 * 16 + 1, { flows := [(5, [{ addr := 0, flow := 5, sys := true, cls := 7, payload := [1], bl := true }])] })] } } : State), by decide +kernel⟩,
   ⟨(5 : Nat), (5 : Nat), ({ flows := [(5, [{ addr := 0, flow := 5, sys := true, cls := 7, payload := [1], bl := true }])] } : EgQueue), ({ addr := 0, flow := 5, sys := true, cls := 7, payload := [1], bl := true } : Cell), ({ up with marl := { up.marl with queues := [(5, { flows := [(5, [{ addr := 0, flow := 5, sys := true, cls := 7, payload := [1], bl := true }])] })] } } : State), by decide +kernel⟩,
   ⟨(3 : Fin 33), (up.setBank 3 { state := .draining } : State), by decide +kernel⟩,
   ⟨(3 : Fin 33), (up : State), by decide +kernel⟩,
   ⟨(3 : Fin 33), (up.setBank 3 { state := .draining, fill := 1 } : State), by decide +kernel⟩,
   ⟨(3 : Fin 33), ({ route := .mbx 0 0 } : Cmd), (up.setBank 3 { state := .retired, readmit := some { route := .mbx 0 0 } } : State), by decide +kernel⟩⟩

/-- Obligations.MemoryCommandsTakeEffect. -/
theorem hypotheses_met_MemoryCommandsTakeEffect :
    (∃ (c : Cmd) (s : State), s.mayCarry infoBankRetire c (checksMarlBankRetire c s) = true ∧ ((s.bank (byteAt c.payload 0)).state = .spare))
    ∧ (∃ (c : Cmd) (s : State), s.mayCarry infoBankRetire c (checksMarlBankRetire c s) = true ∧ ((s.bank (byteAt c.payload 0)).state = .active))
    ∧ (∃ (c : Cmd) (s : State), s.mayCarry infoBankReadmit c (checksMarlBankReadmit c s) = true)
    ∧ (∃ (c : Cmd) (s : State), s.mayCarry infoMemEccCfg c (checksMemEccCfg c s) = true ∧ (s.mem.regions.length = 5))
    ∧ (∃ (c : Cmd) (s : State), s.mayCarry infoMemSoftRepair c (checksMemSoftRepair c s) = true ∧ (s.mem.regions.length = 5))
    ∧ (∃ (c : Cmd) (s : State), s.mayCarry infoFuseProgram c (checksFuseProgram c s) = true ∧ (s.mem.queued = []))
    ∧ (∃ (c : Cmd) (s : State), s.mayCarry infoFuseProgram c (checksFuseProgram c s) = true ∧ (s.mem.queued ≠ []))
    ∧ (∃ (c : Cmd) (s : State), s.mayCarry infoMemFlipMask c (checksMemFlipMask c s) = true ∧ (s.mem.regions.length = 5)) :=
  ⟨⟨({ route := .mbx 0 0, payload := padTo 1 [32] } : Cmd), (up : State), by decide +kernel⟩,
   ⟨({ route := .mbx 0 0, payload := padTo 1 [0] } : Cmd), (up.setBank 0 { state := .active } : State), by decide +kernel⟩,
   ⟨({ route := .mbx 0 0, payload := padTo 1 [0] } : Cmd), (up.setBank 0 { state := .retired } : State), by decide +kernel⟩,
   ⟨({ route := .mbx 0 0, payload := padTo 8 [0, 1] } : Cmd), (up : State), by decide +kernel⟩,
   ⟨({ route := .mbx 0 0, payload := padTo 5 [] } : Cmd), (up : State), by decide +kernel⟩,
   ⟨({ route := .mgmt, payload := padTo 1 [1], vfuse := 1710 } : Cmd), (up : State), by decide +kernel⟩,
   ⟨({ route := .mgmt, payload := padTo 1 [1], vfuse := 1710 } : Cmd), ({ up with mem := { up.mem with queued := [(0, 0, 0, 0)] } } : State), by decide +kernel⟩,
   ⟨({ route := .mgmt, payload := padTo 26 [] } : Cmd), (up : State), by decide +kernel⟩⟩

/-- Obligations.MemoryEvents. -/
theorem hypotheses_met_MemoryEvents :
    (∃ (n : Fin 5) (upset : List Nat) (s : State), s.mem.regions.length = 5 ∧ (s.region n).period ≠ 0 ∧ (∀ d, pageDomain n (s.region n).scrubAt = some d → s.domainOff d = false))
    ∧ (∃ (n : Fin 5) (upset : List Nat) (s : State), s.mem.regions.length = 5 ∧ (s.region n).period ≠ 0 ∧ (∀ d, pageDomain n (s.region n).scrubAt = some d → s.domainOff d = false))
    ∧ (∃ (n : Fin 5) (upset : List Nat) (s : State), s.mem.regions.length = 5 ∧ (s.region n).period ≠ 0 ∧ (∀ d, pageDomain n (s.region n).scrubAt = some d → s.domainOff d = false))
    ∧ (∃ (n : Fin 5) (upset : List Nat) (s : State), s.mem.regions.length = 5 ∧ (s.region n).period ≠ 0 ∧ (∀ d, pageDomain n (s.region n).scrubAt = some d → s.domainOff d = false))
    ∧ (∃ (n : Fin 5) (upset : List Nat) (s : State), s.mem.regions.length = 5 ∧ (s.region n).period ≠ 0 ∧ (∀ d, pageDomain n (s.region n).scrubAt = some d → s.domainOff d = false))
    ∧ (∃ (n : Fin 5) (upset : List Nat) (s : State), (s.region n).period = 0)
    ∧ (∃ (n : Fin 5) (upset : List Nat) (s : State), s.mem.regions.length = 5 ∧ (s.region n).converting = true ∧ s.pageOff n (s.region n).convAt = false)
    ∧ (∃ (n : Fin 5) (page : Nat) (s : State), s.mem.regions.length = 5 ∧ (s.region n).backs.contains page = true ∧ s.pageOff n page = false)
    ∧ (∃ (core : Fin 9) (page : Fin 32768) (s : State), s.mem.regions.length = 5 ∧ s.cluster.cores.length = 9 ∧ (s.core core).item = none)
    ∧ (∃ (core : Fin 9) (page : Fin 32768) (s : State), s.mem.regions.length = 5 ∧ s.cluster.cores.length = 9 ∧ ((s.core core).state = .active ∨ (s.core core).state = .draining) ∧ s.loadsNew = false ∧ (s.core core).newCode = false)
    ∧ (∃ (page : Fin 32768) (e : Nat × List Item) (s : State), s.mem.regions.length = 5 ∧ s.mem.rewrites.find? (fun e => decide (e.1 = page.val)) = some e)
    ∧ (∃ (page : Fin 32768) (e : Nat × List Item) (spare : Nat) (s : State), s.mem.regions.length = 5 ∧ s.mem.rewrites.find? (fun e => decide (e.1 = page.val)) = some e ∧ (s.region 2).repaired (pageBank 2 page) (pageRow 2 page) = false ∧ s.freeSpare 2 (pageBank 2 page) = some spare ∧ s.fwMayCommit = true)
    ∧ (∃ (n : Fin 5) (bank row spare : Nat) (perm : Bool) (cmd : Option Cmd) (s : State), s.mem.regions.length = 5 ∧ (s.region n).copying.find? (fun x => decide (x.1 = bank) && decide (x.2.1 = row)) = some (bank, row, spare, perm, cmd))
    ∧ (∃ (n : Fin 5) (bank row spare : Nat) (perm : Bool) (cmd : Option Cmd) (s : State), s.mem.regions.length = 5 ∧ (s.region n).copying.find? (fun x => decide (x.1 = bank) && decide (x.2.1 = row)) = some (bank, row, spare, perm, cmd))
    ∧ (∃ (c : Cmd) (e : Nat × Nat × Nat × Nat) (rest : List (Nat × Nat × Nat × Nat)) (good : Bool) (s : State), s.mem.burning = some (c, e :: rest))
    ∧ (∃ (c : Cmd) (e : Nat × Nat × Nat × Nat) (rest : List (Nat × Nat × Nat × Nat)) (good : Bool) (s : State), s.mem.burning = some (c, e :: rest))
    ∧ (∃ (c : Cmd) (e : Nat × Nat × Nat × Nat) (rest : List (Nat × Nat × Nat × Nat)) (good : Bool) (s : State), s.mem.burning = some (c, e :: rest))
    ∧ (∃ (c : Cmd) (e : Nat × Nat × Nat × Nat) (rest : List (Nat × Nat × Nat × Nat)) (good : Bool) (s : State), s.mem.burning = some (c, e :: rest)) :=
  ⟨⟨(0 : Fin 5), ([] : List Nat), (up : State), by refine ⟨by decide +kernel, by decide +kernel, ?_⟩; intro d h; cases h; decide +kernel⟩,
   ⟨(1 : Fin 5), ([] : List Nat), (up : State), by refine ⟨by decide +kernel, by decide +kernel, ?_⟩; intro d h; cases h; decide +kernel⟩,
   ⟨(2 : Fin 5), ([] : List Nat), (up : State), by refine ⟨by decide +kernel, by decide +kernel, ?_⟩; intro d h; cases h; decide +kernel⟩,
   ⟨(3 : Fin 5), ([] : List Nat), (up : State), by refine ⟨by decide +kernel, by decide +kernel, ?_⟩; intro d h; cases h; decide +kernel⟩,
   ⟨(4 : Fin 5), ([] : List Nat), (up : State), by refine ⟨by decide +kernel, by decide +kernel, ?_⟩; intro d h; cases h⟩,
   ⟨(0 : Fin 5), ([] : List Nat), (up.modRegion 0 fun y => { y with period := 0 } : State), by decide +kernel⟩,
   ⟨(0 : Fin 5), ([] : List Nat), (up.modRegion 0 fun y => { y with converting := true, convAt := 3 } : State), by decide +kernel⟩,
   ⟨(0 : Fin 5), (5 : Nat), (up.modRegion 0 fun y => { y with backs := [5] } : State), by decide +kernel⟩,
   ⟨(0 : Fin 9), (3 : Fin 32768), (up : State), by decide +kernel⟩,
   ⟨(0 : Fin 9), (3 : Fin 32768), (up : State), by decide +kernel⟩,
   ⟨(3 : Fin 32768), ((3, []) : Nat × List Item), ({ up with mem := { up.mem with rewrites := [(3, [])] } } : State), by decide +kernel⟩,
   ⟨(3 : Fin 32768), ((3, []) : Nat × List Item), (0 : Nat), ({ up with mem := { up.mem with rewrites := [(3, [])] } } : State), by decide +kernel⟩,
   ⟨(2 : Fin 5), (0 : Nat), (1 : Nat), (0 : Nat), (false : Bool), (none : Option Cmd), (up.modRegion 2 fun y => { y with copying := [(0, 1, 0, false, none)] } : State), by decide +kernel⟩,
   ⟨(2 : Fin 5), (0 : Nat), (1 : Nat), (0 : Nat), (true : Bool), (none : Option Cmd), (up.modRegion 2 fun y => { y with copying := [(0, 1, 0, true, none)] } : State), by decide +kernel⟩,
   ⟨({ route := .mgmt } : Cmd), ((0, 0, 0, 0) : Nat × Nat × Nat × Nat), ([] : List (Nat × Nat × Nat × Nat)), (true : Bool), ({ up with mem := { up.mem with burning := some ({ route := .mgmt }, (0, 0, 0, 0) :: []) } } : State), by decide +kernel⟩,
   ⟨({ route := .mgmt } : Cmd), ((0, 0, 0, 0) : Nat × Nat × Nat × Nat), ([] : List (Nat × Nat × Nat × Nat)), (false : Bool), ({ up with mem := { up.mem with burning := some ({ route := .mgmt }, (0, 0, 0, 0) :: []) } } : State), by decide +kernel⟩,
   ⟨({ route := .mgmt } : Cmd), ((0, 0, 0, 0) : Nat × Nat × Nat × Nat), ([(0, 0, 1, 0)] : List (Nat × Nat × Nat × Nat)), (true : Bool), ({ up with mem := { up.mem with burning := some ({ route := .mgmt }, (0, 0, 0, 0) :: [(0, 0, 1, 0)]) } } : State), by decide +kernel⟩,
   ⟨({ route := .mgmt } : Cmd), ((0, 0, 0, 0) : Nat × Nat × Nat × Nat), ([(0, 0, 1, 0)] : List (Nat × Nat × Nat × Nat)), (false : Bool), ({ up with mem := { up.mem with burning := some ({ route := .mgmt }, (0, 0, 0, 0) :: [(0, 0, 1, 0)]) } } : State), by decide +kernel⟩⟩

/-- Obligations.UsbEngineEvents. -/
theorem hypotheses_met_UsbEngineEvents :
    (∃ (r : Fin 24) (v : HostView) (s : State), (∀ e ∈ s.xfer.eps, e.2.ending = none) ∧ s.rootRuns r = true ∧ let t0 := s.now.toNat + s.leadNs r false
      let n := (t0 + 25000) / 125000
      t0 < n * 125000 ∧ (s.root r).prefetch.map (fun x => x.1) ≠ some n)
    ∧ (∃ (r : Fin 24) (usb3 : Bool) (v : HostView) (s : State), (∀ e ∈ s.xfer.eps, e.2.ending = none) ∧ s.rootRuns r = true ∧ let n := (s.now.toNat + s.leadNs r usb3) / 125000
      (if usb3 then (s.root r).formed3 else (s.root r).formed2) ≠ some n ∧ (s.root r).prefetch.map (fun x => x.1) ≠ some n ∧ s.asyncEpds v r = ([], false) ∧ ((s.root r).autoSuspend = true → s.rootHasWork r = true))
    ∧ (∃ (r : Fin 24) (usb3 : Bool) (v : HostView) (s : State), (∀ e ∈ s.xfer.eps, e.2.ending = none) ∧ s.rootRuns r = true ∧ let n := (s.now.toNat + s.leadNs r usb3) / 125000
      (if usb3 then (s.root r).formed3 else (s.root r).formed2) ≠ some n ∧ (s.root r).prefetch.map (fun x => x.1) ≠ some n ∧ s.asyncEpds v r = ([], false) ∧ ((s.root r).autoSuspend = true → s.rootHasWork r = true))
    ∧ (∃ (r : Fin 24) (v : HostView) (d : Epd) (s : State), (∀ e ∈ s.xfer.eps, e.2.ending = none) ∧ s.rootRuns r = true ∧ let n := (s.now.toNat + s.leadNs r false) / 125000
      (s.root r).formed2 ≠ some n ∧ (s.root r).prefetch.map (fun x => x.1) ≠ some n ∧ s.asyncEpds v r = ([d], false) ∧ s.epdBad r d = true)
    ∧ (∃ (r : Fin 24) (usb3 : Bool) (v : HostView) (s : State), (∀ e ∈ s.xfer.eps, e.2.ending = none) ∧ s.rootRuns r = true ∧ let n := (s.now.toNat + s.leadNs r usb3) / 125000
      (if usb3 then (s.root r).formed3 else (s.root r).formed2) ≠ some n ∧ (s.root r).prefetch.map (fun x => x.1) ≠ some n ∧ s.asyncEpds v r = ([], true))
    ∧ (∃ (r : Fin 24) (usb3 : Bool) (v : HostView) (s : State), (∀ e ∈ s.xfer.eps, e.2.ending = none) ∧ s.rootRuns r = false ∧ (s.root r).held = false)
    ∧ (∃ (c : Cell) (s : State), (Tab.get [] s.marl.staging agentXfer).find? (fun c => decide (c.cls = 2)) = some c)
    ∧ (∃ (s : State), (Tab.get [] s.marl.staging agentXfer).find? (fun c => decide (c.cls = 2)) = none)
    ∧ (∃ (r : Fin 24) (xid : BitVec 16) (q : UsbReq) (e : Nat) (s : State), (s.root r).outst.find? (fun q => decide (q.xid = xid)) = some q ∧ q.ep = some e ∧ (q.cycle + 2) * 125000 + (s.port (r.val - 12)).oneWay + 10000 ≤ s.now.toNat)
    ∧ (∃ (r : Fin 24) (xid : BitVec 16) (q : UsbReq) (s : State), (s.root r).outst.find? (fun q => decide (q.xid = xid)) = some q ∧ s.now.toNat < (q.cycle + 2) * 125000 + (s.port (r.val - 12)).oneWay + 10000)
    ∧ (∃ (e : Fin 4096) (res : Fin 9) (dpid : Fin 4) (data : List Byte) (v : HostView) (r : Nat) (s : State), (s.ep e).chain.isSome = true ∧ (s.ep e).busy = true ∧ s.epRoot (s.ep e) = some r ∧ r < 12 ∧ (s.root r).outst.any (fun q => q.ep = some e.val) = false ∧ s.xfer.splits = [])
    ∧ (∃ (e : Fin 4096) (res : Fin 9) (dpid : Fin 4) (data : List Byte) (v : HostView) (r : Nat) (s : State), (s.ep e).chain.isSome = true ∧ (s.ep e).busy = true ∧ s.epRoot (s.ep e) = some r ∧ r < 12 ∧ (s.root r).outst.any (fun q => q.ep = some e.val) = false ∧ s.xfer.splits = [])
    ∧ (∃ (e : Fin 4096) (res : Fin 9) (dpid : Fin 4) (data : List Byte) (v : HostView) (r : Nat) (s : State), (s.ep e).chain.isSome = true ∧ (s.ep e).busy = true ∧ s.epRoot (s.ep e) = some r ∧ r < 12 ∧ (s.root r).outst.any (fun q => q.ep = some e.val) = false ∧ s.xfer.splits = [])
    ∧ (∃ (e : Fin 4096) (res : Fin 9) (dpid : Fin 4) (data : List Byte) (v : HostView) (r : Nat) (s : State), (s.ep e).chain.isSome = true ∧ (s.ep e).busy = true ∧ s.epRoot (s.ep e) = some r ∧ r < 12 ∧ (s.root r).outst.any (fun q => q.ep = some e.val) = false ∧ s.xfer.splits = [])
    ∧ (∃ (e : Fin 4096) (res : Fin 9) (dpid : Fin 4) (data : List Byte) (v : HostView) (r : Nat) (s : State), (s.ep e).chain.isSome = true ∧ (s.ep e).busy = true ∧ s.epRoot (s.ep e) = some r ∧ r < 12 ∧ (s.root r).outst.any (fun q => q.ep = some e.val) = false ∧ s.xfer.splits = [])
    ∧ (∃ (e : Fin 4096) (res : Fin 9) (dpid : Fin 4) (data : List Byte) (v : HostView) (r : Nat) (s : State), (s.ep e).chain.isSome = true ∧ (s.ep e).busy = true ∧ s.epRoot (s.ep e) = some r ∧ r < 12 ∧ (s.root r).outst.any (fun q => q.ep = some e.val) = false ∧ s.xfer.splits = [])
    ∧ (∃ (e : Fin 4096) (res : Fin 9) (dpid : Fin 4) (data : List Byte) (v : HostView) (r : Nat) (s : State), (s.ep e).chain.isSome = true ∧ (s.ep e).busy = true ∧ s.epRoot (s.ep e) = some r ∧ r < 12 ∧ (s.root r).outst.any (fun q => q.ep = some e.val) = false ∧ s.xfer.splits = [])
    ∧ (∃ (e : Fin 4096) (res : Fin 9) (dpid : Fin 4) (data : List Byte) (v : HostView) (r : Nat) (s : State), (s.ep e).chain.isSome = true ∧ (s.ep e).busy = true ∧ s.epRoot (s.ep e) = some r ∧ r < 12 ∧ (s.root r).outst.any (fun q => q.ep = some e.val) = false ∧ s.xfer.splits = [])
    ∧ (∃ (e : Fin 4096) (res : Fin 9) (dpid : Fin 4) (data : List Byte) (v : HostView) (r : Nat) (s : State), (s.ep e).chain.isSome = true ∧ (s.ep e).busy = true ∧ s.epRoot (s.ep e) = some r ∧ r < 12 ∧ (s.root r).outst.any (fun q => q.ep = some e.val) = false ∧ s.xfer.splits = [])
    ∧ (∃ (e : Fin 4096) (res : Fin 9) (dpid : Fin 4) (data : List Byte) (v : HostView) (r : Nat) (s : State), (s.ep e).chain.isSome = true ∧ (s.ep e).busy = true ∧ s.epRoot (s.ep e) = some r ∧ r < 12 ∧ (s.root r).outst.any (fun q => q.ep = some e.val) = false ∧ s.xfer.splits = [])
    ∧ (∃ (e : Fin 4096) (res : Fin 9) (dpid : Fin 4) (data : List Byte) (v : HostView) (r : Nat) (s : State), (s.ep e).chain.isSome = true ∧ (s.ep e).busy = true ∧ s.epRoot (s.ep e) = some r ∧ r < 12 ∧ (s.root r).outst.any (fun q => q.ep = some e.val) = false ∧ s.xfer.splits = [])
    ∧ (∃ (e : Fin 4096) (dpid : Fin 4) (data : List Byte) (v : HostView) (s : State), (s.ep e).chain.isSome = true ∧ (s.ep e).busy = false ∧ (s.ep e).nrdy = true)
    ∧ (∃ (e : Fin 4096) (res : Fin 9) (dpid : Fin 4) (data : List Byte) (v : HostView) (r : Nat) (s : State), (s.ep e).busy = true ∧ s.epRoot (s.ep e) = some r ∧ 12 ≤ r ∧ (res.val ≠ 5 ∨ s.isSs (s.ep e) = false))
    ∧ (∃ (e : Fin 4096) (res : Fin 9) (dpid : Fin 4) (data : List Byte) (v : HostView) (r : Nat) (s : State), (s.ep e).busy = true ∧ s.epRoot (s.ep e) = some r ∧ 12 ≤ r ∧ (res.val ≠ 5 ∨ s.isSs (s.ep e) = false))
    ∧ (∃ (e : Fin 4096) (res : Fin 9) (dpid : Fin 4) (data : List Byte) (v : HostView) (x : Nat × Nat) (s : State), s.xfer.splits.find? (fun x => decide (x.1 = e.val)) = some x ∧ (s.ep e).chain.isSome = true ∧ ((s.ep e).typ = 0 ∨ (s.ep e).typ = 2))
    ∧ (∃ (e : Fin 4096) (res : Fin 9) (dpid : Fin 4) (data : List Byte) (v : HostView) (x : Nat × Nat) (s : State), s.xfer.splits.find? (fun x => decide (x.1 = e.val)) = some x ∧ (s.ep e).chain.isSome = true ∧ ((s.ep e).typ = 0 ∨ (s.ep e).typ = 2))
    ∧ (∃ (e : Fin 4096) (res : Fin 9) (dpid : Fin 4) (data : List Byte) (v : HostView) (x : Nat × Nat) (s : State), s.xfer.splits.find? (fun x => decide (x.1 = e.val)) = some x ∧ (s.ep e).chain.isSome = true ∧ ((s.ep e).typ = 0 ∨ (s.ep e).typ = 2))
    ∧ (∃ (e : Fin 4096) (res : Fin 9) (dpid : Fin 4) (data : List Byte) (v : HostView) (x : Nat × Nat) (s : State), s.xfer.splits.find? (fun x => decide (x.1 = e.val)) = some x ∧ (s.ep e).chain.isSome = true ∧ ((s.ep e).typ = 0 ∨ (s.ep e).typ = 2))
    ∧ (∃ (e : Fin 4096) (res : Fin 9) (dpid : Fin 4) (data : List Byte) (v : HostView) (x : Nat × Nat) (s : State), s.xfer.splits.find? (fun x => decide (x.1 = e.val)) = some x ∧ (s.ep e).chain.isSome = true ∧ ((s.ep e).typ = 0 ∨ (s.ep e).typ = 2))
    ∧ (∃ (e : Fin 4096) (res : Fin 9) (dpid : Fin 4) (data : List Byte) (v : HostView) (x : Nat × Nat) (s : State), s.xfer.splits.find? (fun x => decide (x.1 = e.val)) = some x ∧ (s.ep e).chain.isSome = true ∧ ((s.ep e).typ = 0 ∨ (s.ep e).typ = 2))
    ∧ (∃ (e : Fin 4096) (res : Fin 9) (dpid : Fin 4) (data : List Byte) (v : HostView) (x : Nat × Nat) (s : State), s.xfer.splits.find? (fun x => decide (x.1 = e.val)) = some x ∧ (s.ep e).chain.isSome = true ∧ ((s.ep e).typ = 0 ∨ (s.ep e).typ = 2))
    ∧ (∃ (e : Fin 4096) (res : Fin 9) (dpid : Fin 4) (data : List Byte) (v : HostView) (x : Nat × Nat) (s : State), s.xfer.splits.find? (fun x => decide (x.1 = e.val)) = some x ∧ (s.ep e).chain.isSome = true ∧ ((s.ep e).typ = 0 ∨ (s.ep e).typ = 2))
    ∧ (∃ (e : Fin 4096) (res : Fin 9) (dpid : Fin 4) (data : List Byte) (v : HostView) (x : Nat × Nat) (s : State), s.xfer.splits.find? (fun x => decide (x.1 = e.val)) = some x ∧ (s.ep e).chain.isSome = true ∧ ((s.ep e).typ = 0 ∨ (s.ep e).typ = 2)) :=
  ⟨⟨(0 : Fin 24), ([] : HostView), ((upAt 110000).setRoot 0 { owner := some (0, 0), state := .enabled } : State), by dsimp only; refine ⟨?_, by decide +kernel⟩; intro e h; cases h⟩,
   ⟨(0 : Fin 24), (false : Bool), ([] : HostView), (up.setRoot 0 { owner := some (0, 0), state := .enabled } : State), by dsimp only; refine ⟨?_, by decide +kernel⟩; intro e h; cases h⟩,
   ⟨(12 : Fin 24), (true : Bool), ([] : HostView), ((up.setRoot 12 { owner := some (0, 0), state := .enabled }).setTunnel 0 { port := 0, tun := 1, cls := 2, dirs := 3, state := .opened, owner := .slice 0 0, clientRef := 3 } : State), by dsimp only; refine ⟨?_, by decide +kernel⟩; intro e h; cases h⟩,
   ⟨(0 : Fin 24), ([(64, padTo 64 (toLe 8 1 ++ toLe 2 7))] : HostView), ((State.asyncEpds (up.setRoot 0 { owner := some (0, 0), state := .enabled, asyncBase := 64, asyncNext := 64 }) [(64, padTo 64 (toLe 8 1 ++ toLe 2 7))] 0).1.headD {} : Epd), (up.setRoot 0 { owner := some (0, 0), state := .enabled, asyncBase := 64, asyncNext := 64 } : State), by dsimp only; refine ⟨?_, by decide +kernel⟩; intro e h; cases h⟩,
   ⟨(0 : Fin 24), (false : Bool), ([] : HostView), (up.setRoot 0 { owner := some (0, 0), state := .enabled, asyncBase := 64, asyncNext := 64 } : State), by dsimp only; refine ⟨?_, by decide +kernel⟩; intro e h; cases h⟩,
   ⟨(0 : Fin 24), (false : Bool), ([] : HostView), (up : State), by refine ⟨?_, by decide +kernel⟩; intro e h; cases h⟩,
   ⟨({ cls := 2, flow := 5 } : Cell), ({ up with marl := { up.marl with staging := [(agentXfer, [{ cls := 2, flow := 5 }])] } } : State), by decide +kernel⟩,
   ⟨(up : State), by decide +kernel⟩,
   ⟨(12 : Fin 24), (1 : BitVec 16), ({ xid := 1, ep := some 0 } : UsbReq), (0 : Nat), (((upAt 9000000).setRoot 12 { owner := some (0, 0), state := .enabled, outst := [{ xid := 1, ep := some 0 }] }).setEp 0 { owner := some (0, 0), state := .active } : State), by decide +kernel⟩,
   ⟨(12 : Fin 24), (1 : BitVec 16), ({ xid := 1, ep := some 0 } : UsbReq), (up.setRoot 12 { owner := some (0, 0), state := .enabled, outst := [{ xid := 1, ep := some 0 }] } : State), by decide +kernel⟩,
   ⟨(0 : Fin 4096), (0 : Fin 9), (0 : Fin 4), ([] : List Byte), ([] : HostView), (0 : Nat), ((((up.setRoot 0 { owner := some (0, 0), state := .enabled }).setDslot 0 { root := 0, alloc := true }).setEp 0 { owner := some (0, 0), state := .active, busy := true, mps := 64, chain := some { tds := [{ len := 8 }] } }) : State), by decide +kernel⟩,
   ⟨(0 : Fin 4096), (1 : Fin 9), (0 : Fin 4), ([] : List Byte), ([] : HostView), (0 : Nat), ((((up.setRoot 0 { owner := some (0, 0), state := .enabled }).setDslot 0 { root := 0, alloc := true }).setEp 0 { owner := some (0, 0), state := .active, busy := true, mps := 64, chain := some { tds := [{ len := 8 }] } }) : State), by decide +kernel⟩,
   ⟨(0 : Fin 4096), (2 : Fin 9), (0 : Fin 4), ([] : List Byte), ([] : HostView), (0 : Nat), ((((up.setRoot 0 { owner := some (0, 0), state := .enabled }).setDslot 0 { root := 0, alloc := true }).setEp 0 { owner := some (0, 0), state := .active, busy := true, mps := 64, chain := some { tds := [{ len := 8 }] } }) : State), by decide +kernel⟩,
   ⟨(0 : Fin 4096), (3 : Fin 9), (0 : Fin 4), ([] : List Byte), ([] : HostView), (0 : Nat), ((((up.setRoot 0 { owner := some (0, 0), state := .enabled }).setDslot 0 { root := 0, alloc := true }).setEp 0 { owner := some (0, 0), state := .active, busy := true, mps := 64, chain := some { tds := [{ len := 8 }] } }) : State), by decide +kernel⟩,
   ⟨(0 : Fin 4096), (4 : Fin 9), (0 : Fin 4), ([] : List Byte), ([] : HostView), (0 : Nat), ((((up.setRoot 0 { owner := some (0, 0), state := .enabled }).setDslot 0 { root := 0, alloc := true }).setEp 0 { owner := some (0, 0), state := .active, busy := true, mps := 64, chain := some { tds := [{ len := 8 }] } }) : State), by decide +kernel⟩,
   ⟨(0 : Fin 4096), (5 : Fin 9), (0 : Fin 4), ([] : List Byte), ([] : HostView), (0 : Nat), ((((up.setRoot 0 { owner := some (0, 0), state := .enabled }).setDslot 0 { root := 0, alloc := true }).setEp 0 { owner := some (0, 0), state := .active, busy := true, mps := 64, chain := some { tds := [{ len := 8 }] } }) : State), by decide +kernel⟩,
   ⟨(0 : Fin 4096), (6 : Fin 9), (0 : Fin 4), ([] : List Byte), ([] : HostView), (0 : Nat), ((((up.setRoot 0 { owner := some (0, 0), state := .enabled }).setDslot 0 { root := 0, alloc := true }).setEp 0 { owner := some (0, 0), state := .active, busy := true, mps := 64, chain := some { tds := [{ len := 8 }] } }) : State), by decide +kernel⟩,
   ⟨(0 : Fin 4096), (7 : Fin 9), (0 : Fin 4), ([] : List Byte), ([] : HostView), (0 : Nat), ((((up.setRoot 0 { owner := some (0, 0), state := .enabled }).setDslot 0 { root := 0, alloc := true }).setEp 0 { owner := some (0, 0), state := .active, busy := true, mps := 64, chain := some { tds := [{ len := 8 }] } }) : State), by decide +kernel⟩,
   ⟨(0 : Fin 4096), (8 : Fin 9), (0 : Fin 4), ([] : List Byte), ([] : HostView), (0 : Nat), ((((up.setRoot 0 { owner := some (0, 0), state := .enabled }).setDslot 0 { root := 0, alloc := true }).setEp 0 { owner := some (0, 0), state := .active, busy := true, mps := 64, chain := some { tds := [{ len := 8 }] } }) : State), by decide +kernel⟩,
   ⟨(0 : Fin 4096), (1 : Fin 9), (0 : Fin 4), ([] : List Byte), ([] : HostView), (0 : Nat), ((((up.setRoot 0 { owner := some (0, 0), state := .enabled }).setDslot 0 { root := 0, alloc := true, speed := 3 }).setEp 0 { owner := some (0, 0), state := .active, mps := 1024, chain := some { tds := [{ len := 8 }] }, busy := true, typ := 2 }) : State), by decide +kernel⟩,
   ⟨(0 : Fin 4096), (5 : Fin 9), (0 : Fin 4), ([] : List Byte), ([] : HostView), (0 : Nat), ((((up.setRoot 0 { owner := some (0, 0), state := .enabled }).setDslot 0 { root := 0, alloc := true, speed := 3 }).setEp 0 { owner := some (0, 0), state := .active, mps := 1024, chain := some { tds := [{ len := 8 }] }, busy := true, typ := 2 }) : State), by decide +kernel⟩,
   ⟨(0 : Fin 4096), (0 : Fin 4), ([] : List Byte), ([] : HostView), ((((up.setRoot 0 { owner := some (0, 0), state := .enabled }).setDslot 0 { root := 0, alloc := true, speed := 3 }).setEp 0 { owner := some (0, 0), state := .active, mps := 1024, chain := some { tds := [{ len := 8 }] }, nrdy := true, typ := 2 }) : State), by decide +kernel⟩,
   ⟨(0 : Fin 4096), (1 : Fin 9), (0 : Fin 4), ([] : List Byte), ([] : HostView), (12 : Nat), ((((up.setRoot 12 { owner := some (0, 0), state := .enabled }).setDslot 0 { root := 12, alloc := true, speed := 3 }).setEp 0 { owner := some (0, 0), state := .active, mps := 1024, chain := some { tds := [{ len := 8 }] }, busy := true, typ := 2 }) : State), by decide +kernel⟩,
   ⟨(0 : Fin 4096), (5 : Fin 9), (0 : Fin 4), ([] : List Byte), ([] : HostView), (12 : Nat), ((((up.setRoot 12 { owner := some (0, 0), state := .enabled }).setDslot 0 { root := 12, alloc := true, speed := 2 }).setEp 0 { owner := some (0, 0), state := .active, mps := 1024, chain := some { tds := [{ len := 8 }] }, busy := true, typ := 2 }) : State), by decide +kernel⟩,
   ⟨(0 : Fin 4096), (0 : Fin 9), (0 : Fin 4), ([] : List Byte), ([] : HostView), ((0, 1) : Nat × Nat), ({ (((up.setRoot 0 { owner := some (0, 0), state := .enabled }).setDslot 0 { root := 0, alloc := true }).setEp 0 { owner := some (0, 0), state := .active, busy := true, typ := 2, mps := 64, chain := some { tds := [{ len := 8 }] } }) with xfer := { (((up.setRoot 0 { owner := some (0, 0), state := .enabled }).setDslot 0 { root := 0, alloc := true }).setEp 0 { owner := some (0, 0), state := .active, busy := true, typ := 2, mps := 64, chain := some { tds := [{ len := 8 }] } }).xfer with splits := [(0, 1)] } } : State), by decide +kernel⟩,
   ⟨(0 : Fin 4096), (1 : Fin 9), (0 : Fin 4), ([] : List Byte), ([] : HostView), ((0, 1) : Nat × Nat), ({ (((up.setRoot 0 { owner := some (0, 0), state := .enabled }).setDslot 0 { root := 0, alloc := true }).setEp 0 { owner := some (0, 0), state := .active, busy := true, typ := 2, mps := 64, chain := some { tds := [{ len := 8 }] } }) with xfer := { (((up.setRoot 0 { owner := some (0, 0), state := .enabled }).setDslot 0 { root := 0, alloc := true }).setEp 0 { owner := some (0, 0), state := .active, busy := true, typ := 2, mps := 64, chain := some { tds := [{ len := 8 }] } }).xfer with splits := [(0, 1)] } } : State), by decide +kernel⟩,
   ⟨(0 : Fin 4096), (2 : Fin 9), (0 : Fin 4), ([] : List Byte), ([] : HostView), ((0, 1) : Nat × Nat), ({ (((up.setRoot 0 { owner := some (0, 0), state := .enabled }).setDslot 0 { root := 0, alloc := true }).setEp 0 { owner := some (0, 0), state := .active, busy := true, typ := 2, mps := 64, chain := some { tds := [{ len := 8 }] } }) with xfer := { (((up.setRoot 0 { owner := some (0, 0), state := .enabled }).setDslot 0 { root := 0, alloc := true }).setEp 0 { owner := some (0, 0), state := .active, busy := true, typ := 2, mps := 64, chain := some { tds := [{ len := 8 }] } }).xfer with splits := [(0, 1)] } } : State), by decide +kernel⟩,
   ⟨(0 : Fin 4096), (3 : Fin 9), (0 : Fin 4), ([] : List Byte), ([] : HostView), ((0, 1) : Nat × Nat), ({ (((up.setRoot 0 { owner := some (0, 0), state := .enabled }).setDslot 0 { root := 0, alloc := true }).setEp 0 { owner := some (0, 0), state := .active, busy := true, typ := 2, mps := 64, chain := some { tds := [{ len := 8 }] } }) with xfer := { (((up.setRoot 0 { owner := some (0, 0), state := .enabled }).setDslot 0 { root := 0, alloc := true }).setEp 0 { owner := some (0, 0), state := .active, busy := true, typ := 2, mps := 64, chain := some { tds := [{ len := 8 }] } }).xfer with splits := [(0, 1)] } } : State), by decide +kernel⟩,
   ⟨(0 : Fin 4096), (4 : Fin 9), (0 : Fin 4), ([] : List Byte), ([] : HostView), ((0, 1) : Nat × Nat), ({ (((up.setRoot 0 { owner := some (0, 0), state := .enabled }).setDslot 0 { root := 0, alloc := true }).setEp 0 { owner := some (0, 0), state := .active, busy := true, typ := 2, mps := 64, chain := some { tds := [{ len := 8 }] } }) with xfer := { (((up.setRoot 0 { owner := some (0, 0), state := .enabled }).setDslot 0 { root := 0, alloc := true }).setEp 0 { owner := some (0, 0), state := .active, busy := true, typ := 2, mps := 64, chain := some { tds := [{ len := 8 }] } }).xfer with splits := [(0, 1)] } } : State), by decide +kernel⟩,
   ⟨(0 : Fin 4096), (5 : Fin 9), (0 : Fin 4), ([] : List Byte), ([] : HostView), ((0, 1) : Nat × Nat), ({ (((up.setRoot 0 { owner := some (0, 0), state := .enabled }).setDslot 0 { root := 0, alloc := true }).setEp 0 { owner := some (0, 0), state := .active, busy := true, typ := 2, mps := 64, chain := some { tds := [{ len := 8 }] } }) with xfer := { (((up.setRoot 0 { owner := some (0, 0), state := .enabled }).setDslot 0 { root := 0, alloc := true }).setEp 0 { owner := some (0, 0), state := .active, busy := true, typ := 2, mps := 64, chain := some { tds := [{ len := 8 }] } }).xfer with splits := [(0, 1)] } } : State), by decide +kernel⟩,
   ⟨(0 : Fin 4096), (6 : Fin 9), (0 : Fin 4), ([] : List Byte), ([] : HostView), ((0, 1) : Nat × Nat), ({ (((up.setRoot 0 { owner := some (0, 0), state := .enabled }).setDslot 0 { root := 0, alloc := true }).setEp 0 { owner := some (0, 0), state := .active, busy := true, typ := 2, mps := 64, chain := some { tds := [{ len := 8 }] } }) with xfer := { (((up.setRoot 0 { owner := some (0, 0), state := .enabled }).setDslot 0 { root := 0, alloc := true }).setEp 0 { owner := some (0, 0), state := .active, busy := true, typ := 2, mps := 64, chain := some { tds := [{ len := 8 }] } }).xfer with splits := [(0, 1)] } } : State), by decide +kernel⟩,
   ⟨(0 : Fin 4096), (7 : Fin 9), (0 : Fin 4), ([] : List Byte), ([] : HostView), ((0, 1) : Nat × Nat), ({ (((up.setRoot 0 { owner := some (0, 0), state := .enabled }).setDslot 0 { root := 0, alloc := true }).setEp 0 { owner := some (0, 0), state := .active, busy := true, typ := 2, mps := 64, chain := some { tds := [{ len := 8 }] } }) with xfer := { (((up.setRoot 0 { owner := some (0, 0), state := .enabled }).setDslot 0 { root := 0, alloc := true }).setEp 0 { owner := some (0, 0), state := .active, busy := true, typ := 2, mps := 64, chain := some { tds := [{ len := 8 }] } }).xfer with splits := [(0, 1)] } } : State), by decide +kernel⟩,
   ⟨(0 : Fin 4096), (8 : Fin 9), (0 : Fin 4), ([] : List Byte), ([] : HostView), ((0, 1) : Nat × Nat), ({ (((up.setRoot 0 { owner := some (0, 0), state := .enabled }).setDslot 0 { root := 0, alloc := true }).setEp 0 { owner := some (0, 0), state := .active, busy := true, typ := 2, mps := 64, chain := some { tds := [{ len := 8 }] } }) with xfer := { (((up.setRoot 0 { owner := some (0, 0), state := .enabled }).setDslot 0 { root := 0, alloc := true }).setEp 0 { owner := some (0, 0), state := .active, busy := true, typ := 2, mps := 64, chain := some { tds := [{ len := 8 }] } }).xfer with splits := [(0, 1)] } } : State), by decide +kernel⟩⟩

/-- Obligations.UsbRootEvents. -/
theorem hypotheses_met_UsbRootEvents :
    (∃ (r : Fin 24) (speed : Fin 7) (s : State), r.val < 12 ∧ (s.root r).state = .disconnected ∧ (s.port r.val).pd.rootSpeedOk speed.val = true)
    ∧ (∃ (r : Fin 24) (speed : Fin 7) (s : State), r.val < 12 ∧ (s.root r).state = .disconnected ∧ (s.port r.val).pd.rootSpeedOk speed.val = true)
    ∧ (∃ (r : Fin 24) (speed : Fin 7) (s : State), r.val < 12 ∧ (s.root r).state = .disconnected ∧ (s.port r.val).pd.rootSpeedOk speed.val = true)
    ∧ (∃ (r : Fin 24) (speed : Fin 7) (s : State), (12 ≤ r.val ∨ (s.root r).state ≠ .disconnected ∨ (s.port r.val).pd.rootSpeedOk speed.val = false))
    ∧ (∃ (r : Fin 24) (speed : Fin 7) (s : State), (12 ≤ r.val ∨ (s.root r).state ≠ .disconnected ∨ (s.port r.val).pd.rootSpeedOk speed.val = false))
    ∧ (∃ (r : Fin 24) (speed : Fin 7) (s : State), (12 ≤ r.val ∨ (s.root r).state ≠ .disconnected ∨ (s.port r.val).pd.rootSpeedOk speed.val = false))
    ∧ (∃ (r : Fin 24) (s : State), r.val < 12 ∧ (s.root r).state ≠ .poweredOff ∧ (s.root r).state ≠ .disconnected)
    ∧ (∃ (r : Fin 24) (speed : Fin 7) (s : State), (s.root r).state = .resetting ∧ s.due (s.root r).due = true ∧ (12 ≤ r.val ∨ (s.port r.val).pd.rootSpeedOk speed.val = true))
    ∧ (∃ (r : Fin 24) (speed : Fin 7) (s : State), (s.root r).state = .resetting ∧ s.due (s.root r).due = true ∧ (12 ≤ r.val ∨ (s.port r.val).pd.rootSpeedOk speed.val = true))
    ∧ (∃ (r : Fin 24) (s : State), (s.root r).state = .suspending ∧ s.due (s.root r).due = true)
    ∧ (∃ (i : Fin 24 → Instr) (r : Fin 24) (s : State), (i = .rootResumeEnd ∧ r.val < 12 ∨ i = .tunRootResumeWaitEnd ∧ 12 ≤ r.val) ∧ (s.root r).state = .resuming ∧ s.due (s.root r).due = true)
    ∧ (∃ (i : Fin 24 → Instr) (r : Fin 24) (s : State), (i = .rootResumeEnd ∧ r.val < 12 ∨ i = .tunRootResumeWaitEnd ∧ 12 ≤ r.val) ∧ (s.root r).state = .resuming ∧ s.due (s.root r).due = true)
    ∧ (∃ (r : Fin 24) (n : Fin 16) (s : State), (s.root r).state = .suspended)
    ∧ (∃ (r : Fin 24) (n : Fin 16) (s : State), (s.root r).state = .suspended)
    ∧ (∃ (r : Fin 24) (n : Fin 16) (s : State), (s.root r).state = .suspended)
    ∧ (∃ (r : Fin 24) (n : Fin 16) (s : State), (s.root r).state = .resetting)
    ∧ (∃ (r : Fin 24) (n : Fin 16) (s : State), r.val < 12 ∧ (s.root r).state ≠ .suspended ∧ (s.root r).state ≠ .resetting)
    ∧ (∃ (r : Fin 24) (cause : U1u2Cause) (s : State), r.val < 12 ∧ (s.root r).state = .enabled ∧ 3 ≤ (s.root r).speed)
    ∧ (∃ (r : Fin 24) (cause : U1u2Cause) (s : State), r.val < 12 ∧ (s.root r).state = .enabled ∧ 3 ≤ (s.root r).speed)
    ∧ (∃ (r : Fin 24) (cause : U1u2Cause) (s : State), r.val < 12 ∧ (s.root r).state = .enabled ∧ 3 ≤ (s.root r).speed)
    ∧ (∃ (r : Fin 24) (cause : U1u2Cause) (s : State), r.val < 12 ∧ (s.root r).state = .enabled ∧ 3 ≤ (s.root r).speed)
    ∧ (∃ (r : Fin 24) (cause : U1u2Cause) (s : State), r.val < 12 ∧ (s.root r).state = .enabled ∧ 3 ≤ (s.root r).speed)
    ∧ (∃ (r : Fin 24) (cause : U1u2Cause) (s : State), r.val < 12 ∧ (s.root r).state = .enabled ∧ 3 ≤ (s.root r).speed)
    ∧ (∃ (r : Fin 24) (cause : U1u2Cause) (s : State), r.val < 12 ∧ (s.root r).state = .enabled ∧ 3 ≤ (s.root r).speed)
    ∧ (∃ (r : Fin 24) (cause : U1u2Cause) (s : State), r.val < 12 ∧ (s.root r).state = .enabled ∧ 3 ≤ (s.root r).speed)
    ∧ (∃ (r : Fin 24) (cause : U1u2Cause) (s : State), r.val < 12 ∧ (s.root r).state = .enabled ∧ 3 ≤ (s.root r).speed)
    ∧ (∃ (r : Fin 24) (cause : U1u2Cause) (s : State), r.val < 12 ∧ (s.root r).state = .enabled ∧ 3 ≤ (s.root r).speed)
    ∧ (∃ (r : Fin 24) (cause : U1u2Cause) (s : State), r.val < 12 ∧ (s.root r).state = .enabled ∧ 3 ≤ (s.root r).speed)
    ∧ (∃ (r : Fin 24) (cause : U1u2Cause) (s : State), r.val < 12 ∧ (s.root r).state = .enabled ∧ 3 ≤ (s.root r).speed) :=
  ⟨⟨(0 : Fin 24), (0 : Fin 7), (up.setRoot 0 { owner := some (0, 0), state := .disconnected } : State), by decide +kernel⟩,
   ⟨(0 : Fin 24), (3 : Fin 7), (up.setRoot 0 { owner := some (0, 0), state := .disconnected } : State), by decide +kernel⟩,
   ⟨(0 : Fin 24), (6 : Fin 7), (up.setRoot 0 { owner := some (0, 0), state := .disconnected } : State), by decide +kernel⟩,
   ⟨(0 : Fin 24), (0 : Fin 7), (up.setRoot 0 { owner := some (0, 0), state := .enabled } : State), by decide +kernel⟩,
   ⟨(12 : Fin 24), (0 : Fin 7), (up.setRoot 12 { owner := some (0, 0), state := .disconnected } : State), by decide +kernel⟩,
   ⟨(0 : Fin 24), (3 : Fin 7), ((up.setRoot 0 { owner := some (0, 0), state := .disconnected }).modPd 0 fun d => { d with fbNow := { d.fbNow with ssEn := false } } : State), by decide +kernel⟩,
   ⟨(0 : Fin 24), (up.setRoot 0 { owner := some (0, 0), state := .enabled } : State), by decide +kernel⟩,
   ⟨(0 : Fin 24), (2 : Fin 7), ((upAt 2000).setRoot 0 { owner := some (0, 0), state := .resetting, due := some 1000 } : State), by decide +kernel⟩,
   ⟨(0 : Fin 24), (2 : Fin 7), ((upAt 2000).setRoot 0 { owner := some (0, 0), state := .resetting, due := some 1000, resetCmd := some { route := .mbx 0 0 } } : State), by decide +kernel⟩,
   ⟨(0 : Fin 24), ((upAt 2000).setRoot 0 { owner := some (0, 0), state := .suspending, due := some 1000 } : State), by decide +kernel⟩,
   ⟨.rootResumeEnd, (0 : Fin 24), ((upAt 2000).setRoot 0 { owner := some (0, 0), state := .resuming, due := some 1000 } : State), by refine ⟨Or.inl ⟨rfl, by decide +kernel⟩, by decide +kernel⟩⟩,
   ⟨.tunRootResumeWaitEnd, (12 : Fin 24), ((upAt 2000).setRoot 12 { owner := some (0, 0), state := .resuming, due := some 1000 } : State), by refine ⟨Or.inr ⟨rfl, by decide +kernel⟩, by decide +kernel⟩⟩,
   ⟨(0 : Fin 24), (0 : Fin 16), (up.setRoot 0 { owner := some (0, 0), state := .suspended } : State), by decide +kernel⟩,
   ⟨(12 : Fin 24), (0 : Fin 16), (up.setRoot 12 { owner := some (0, 0), state := .suspended } : State), by decide +kernel⟩,
   ⟨(12 : Fin 24), (0 : Fin 16), ({ up with marl := { up.marl with crossing := [(agentXfer * 8 + 2, 1)] } }.setRoot 12 { owner := some (0, 0), state := .suspended } : State), by decide +kernel⟩,
   ⟨(0 : Fin 24), (0 : Fin 16), (up.setRoot 0 { owner := some (0, 0), state := .resetting } : State), by decide +kernel⟩,
   ⟨(0 : Fin 24), (0 : Fin 16), (up.setRoot 0 { owner := some (0, 0), state := .enabled } : State), by decide +kernel⟩,
   ⟨(0 : Fin 24), (.timeout : U1u2Cause), (up.setRoot 0 { owner := some (0, 0), state := .enabled, speed := 3 } : State), by decide +kernel⟩,
   ⟨(0 : Fin 24), (.timeout : U1u2Cause), (up.setRoot 0 { owner := some (0, 0), state := .enabled, speed := 3, u1 := 1 } : State), by decide +kernel⟩,
   ⟨(0 : Fin 24), (.timeout : U1u2Cause), (up.setRoot 0 { owner := some (0, 0), state := .enabled, speed := 3, u1 := 1, u2 := 1, uState := 1 } : State), by decide +kernel⟩,
   ⟨(0 : Fin 24), (.askU1 : U1u2Cause), (up.setRoot 0 { owner := some (0, 0), state := .enabled, speed := 3 } : State), by decide +kernel⟩,
   ⟨(0 : Fin 24), (.askU1 : U1u2Cause), (up.setRoot 0 { owner := some (0, 0), state := .enabled, speed := 3, u1 := 1 } : State), by decide +kernel⟩,
   ⟨(0 : Fin 24), (.askU1 : U1u2Cause), (up.setRoot 0 { owner := some (0, 0), state := .enabled, speed := 3, u1 := 1, u2 := 1, uState := 1 } : State), by decide +kernel⟩,
   ⟨(0 : Fin 24), (.askU2 : U1u2Cause), (up.setRoot 0 { owner := some (0, 0), state := .enabled, speed := 3 } : State), by decide +kernel⟩,
   ⟨(0 : Fin 24), (.askU2 : U1u2Cause), (up.setRoot 0 { owner := some (0, 0), state := .enabled, speed := 3, u1 := 1 } : State), by decide +kernel⟩,
   ⟨(0 : Fin 24), (.askU2 : U1u2Cause), (up.setRoot 0 { owner := some (0, 0), state := .enabled, speed := 3, u1 := 1, u2 := 1, uState := 1 } : State), by decide +kernel⟩,
   ⟨(0 : Fin 24), (.activity : U1u2Cause), (up.setRoot 0 { owner := some (0, 0), state := .enabled, speed := 3 } : State), by decide +kernel⟩,
   ⟨(0 : Fin 24), (.activity : U1u2Cause), (up.setRoot 0 { owner := some (0, 0), state := .enabled, speed := 3, u1 := 1 } : State), by decide +kernel⟩,
   ⟨(0 : Fin 24), (.activity : U1u2Cause), (up.setRoot 0 { owner := some (0, 0), state := .enabled, speed := 3, u1 := 1, u2 := 1, uState := 1 } : State), by decide +kernel⟩⟩

/-- Obligations.HostPortEvents. -/
theorem hypotheses_met_HostPortEvents :
    (∃ (h : Fin 2) (s : State), ((s.hp h).lost = true ∨ s.boot.released = false))
    ∧ (∃ (h : Fin 2) (s : State), ((s.hp h).lost = true ∨ s.boot.released = false))
    ∧ (∃ (i : Fin 2 → Instr) (h : Fin 2) (s : State), (i = .hostPortLoss ∨ i = .functionLevelReset) ∧ (s.hp h).lost = false ∧ s.boot.released = true ∧ s.sliceWf = true ∧ (∀ sl ∈ s.liveSlices h, (s.slice h sl).waitCmds = []))
    ∧ (∃ (i : Fin 2 → Instr) (h : Fin 2) (s : State), (i = .hostPortLoss ∨ i = .functionLevelReset) ∧ (s.hp h).lost = false ∧ s.boot.released = true ∧ s.sliceWf = true ∧ (∀ sl ∈ s.liveSlices h, (s.slice h sl).waitCmds = []))
    ∧ (∃ (h : Fin 2) (s : State), ((s.hp h).lost = true ∨ s.boot.released = false))
    ∧ (∃ (h : Fin 2) (s : State), ((s.hp h).lost = true ∨ s.boot.released = false))
    ∧ (∃ (h : Fin 2) (rate : Fin 5) (width : Fin 4) (s : State), (s.hp h).lost = true)
    ∧ (∃ (h : Fin 2) (rate : Fin 5) (width : Fin 4) (s : State), (s.hp h).linkUp = true)
    ∧ (∃ (h : Fin 2) (rate : Fin 5) (width : Fin 4) (s : State), (s.hp h).linkUp = false)
    ∧ (∃ (h : Fin 2) (power : Fin 3) (bme pmeEn ptmEn : Bool) (bar0 : Option (BitVec 64)) (cto : Nat) (s : State), (s.hp h).lost = false ∧ Tab.get [] s.marl.staging (agentHp h) = [])
    ∧ (∃ (h : Fin 2) (power : Fin 3) (bme pmeEn ptmEn : Bool) (bar0 : Option (BitVec 64)) (cto : Nat) (s : State), (s.hp h).lost = false ∧ Tab.get [] s.marl.staging (agentHp h) = [])
    ∧ (∃ (h : Fin 2) (power : Fin 3) (bme pmeEn ptmEn : Bool) (bar0 : Option (BitVec 64)) (cto : Nat) (s : State), (s.hp h).lost = false ∧ Tab.get [] s.marl.staging (agentHp h) = [])
    ∧ (∃ (h : Fin 2) (sl : Fin 256) (addr : BitVec 64) (b : List Byte) (s : State), (s.slice h sl).state ≠ .hostLost ∧ (s.slice h sl).state ≠ .disabled ∧ (s.hp h).lost = false ∧ (s.hp h).reads.length < 256)
    ∧ (∃ (h : Fin 2) (sl : Fin 256) (addr : BitVec 64) (b : List Byte) (s : State), ((s.slice h sl).state = .hostLost ∨ (s.slice h sl).state = .disabled ∨ (s.hp h).lost = true))
    ∧ (∃ (h : Fin 2) (sl : Fin 256) (addr : BitVec 64) (b : List Byte) (s : State), ((s.slice h sl).state = .hostLost ∨ (s.slice h sl).state = .disabled ∨ (s.hp h).lost = true))
    ∧ (∃ (h : Fin 2) (sl : Fin 256) (addr : BitVec 64) (b : List Byte) (s : State), ((s.slice h sl).state = .hostLost ∨ (s.slice h sl).state = .disabled ∨ (s.hp h).lost = true))
    ∧ (∃ (n : Fin 64) (program : Bool) (addr : BitVec 64) (s : State), s.chRuns n = true)
    ∧ (∃ (n : Fin 64) (program : Bool) (addr : BitVec 64) (s : State), s.chRuns n = true)
    ∧ (∃ (e : Fin 4096) (s : State), (s.ep e).chain.isSome = true)
    ∧ (∃ (e : Fin 4096) (s : State), (s.ep e).chain = none) :=
  ⟨⟨(0 : Fin 2), ({ up with hosts := { up.hosts with hp0 := { up.hosts.hp0 with lost := true } } } : State), by decide +kernel⟩,
   ⟨(0 : Fin 2), (State.reset : State), by decide +kernel⟩,
   ⟨.hostPortLoss, (0 : Fin 2), (up : State), by refine ⟨Or.inl rfl, by decide +kernel, by decide +kernel, by decide +kernel, ?_⟩; have hl : up.liveSlices 0 = [0] := (by decide +kernel); intro sl h; rw [show up.liveSlices ((0 : Fin 2) : Nat) = [0] from hl] at h; cases h with | head => decide +kernel | tail _ h => cases h⟩,
   ⟨.functionLevelReset, (0 : Fin 2), (up : State), by refine ⟨Or.inr rfl, by decide +kernel, by decide +kernel, by decide +kernel, ?_⟩; have hl : up.liveSlices 0 = [0] := (by decide +kernel); intro sl h; rw [show up.liveSlices ((0 : Fin 2) : Nat) = [0] from hl] at h; cases h with | head => decide +kernel | tail _ h => cases h⟩,
   ⟨(0 : Fin 2), ({ up with hosts := { up.hosts with hp0 := { up.hosts.hp0 with lost := true } } } : State), by decide +kernel⟩,
   ⟨(0 : Fin 2), (State.reset : State), by decide +kernel⟩,
   ⟨(0 : Fin 2), (2 : Fin 5), (1 : Fin 4), ({ up with hosts := { up.hosts with hp0 := { up.hosts.hp0 with lost := true } } } : State), by decide +kernel⟩,
   ⟨(0 : Fin 2), (2 : Fin 5), (1 : Fin 4), (up : State), by decide +kernel⟩,
   ⟨(0 : Fin 2), (0 : Fin 5), (0 : Fin 4), (State.reset : State), by decide +kernel⟩,
   ⟨(0 : Fin 2), (0 : Fin 3), (true : Bool), (false : Bool), (false : Bool), (none : Option (BitVec 64)), (50 : Nat), (up : State), by decide +kernel⟩,
   ⟨(0 : Fin 2), (1 : Fin 3), (true : Bool), (false : Bool), (false : Bool), (none : Option (BitVec 64)), (50 : Nat), (up : State), by decide +kernel⟩,
   ⟨(0 : Fin 2), (2 : Fin 3), (true : Bool), (false : Bool), (false : Bool), (none : Option (BitVec 64)), (50 : Nat), (up : State), by decide +kernel⟩,
   ⟨(0 : Fin 2), (0 : Fin 256), (0 : BitVec 64), ([1] : List Byte), (up : State), by decide +kernel⟩,
   ⟨(0 : Fin 2), (0 : Fin 256), (0 : BitVec 64), ([] : List Byte), ({ up with hosts := { up.hosts with hp0 := { up.hosts.hp0 with lost := true } } } : State), by decide +kernel⟩,
   ⟨(0 : Fin 2), (9 : Fin 256), (0 : BitVec 64), ([] : List Byte), (up : State), by decide +kernel⟩,
   ⟨(0 : Fin 2), (9 : Fin 256), (0 : BitVec 64), ([] : List Byte), (up.setSlice 0 9 { state := .hostLost } : State), by decide +kernel⟩,
   ⟨(0 : Fin 64), (true : Bool), (0 : BitVec 64), (withCh runCh : State), by decide +kernel⟩,
   ⟨(0 : Fin 64), (false : Bool), (0 : BitVec 64), (withCh runCh : State), by decide +kernel⟩,
   ⟨(0 : Fin 4096), (up.setEp 0 { owner := some (0, 0), state := .active, chain := some {} } : State), by decide +kernel⟩,
   ⟨(0 : Fin 4096), (up : State), by decide +kernel⟩⟩

/-- Obligations.DmaEngineEvents. -/
theorem hypotheses_met_DmaEngineEvents :
    (∃ (n : Fin 64) (v : HostView) (h sl : Nat) (j : Job) (js : List Job) (s : State), s.chRuns n = true ∧ (s.ch n).wait ≠ .retry ∧ (s.ch n).owner = some (h, sl) ∧ (s.ch n).jobOn = false ∧ (s.ch n).chain = [] ∧ s.slotFree h sl (s.ch n).cq = true ∧ (s.slice h sl).state = .active ∧ (s.hp h).writable = true ∧ (s.ch n).readChain (s.dmaView n v) 32 [] = .chain (j :: js) ∧ j.ok (s.ch n).progDev = true ∧ (∀ k, k < 4 → j.spaces.getD k 3 ≠ 2))
    ∧ (∃ (n : Fin 64) (v : HostView) (h sl : Nat) (j : Job) (js : List Job) (s : State), s.chRuns n = true ∧ (s.ch n).wait ≠ .retry ∧ (s.ch n).owner = some (h, sl) ∧ (s.ch n).jobOn = false ∧ (s.ch n).chain = j :: js ∧ j.ok (s.ch n).progDev = true ∧ (∀ k, k < 4 → j.spaces.getD k 3 ≠ 2))
    ∧ (∃ (n : Fin 64) (v : HostView) (o : Nat × Nat) (j : Job) (js : List Job) (s : State), s.chRuns n = true ∧ (s.ch n).wait ≠ .retry ∧ (s.ch n).owner = some o ∧ (s.ch n).jobOn = false ∧ (s.ch n).chain = j :: js ∧ j.ok (s.ch n).progDev = false)
    ∧ (∃ (n : Fin 64) (v : HostView) (b : List Byte) (h sl : Nat) (s : State), s.runsInstr n v b ∧ byteAt b 0 = 1 ∧ moveOk (s.ch n).setup b = true ∧ (s.ch n).loops = [] ∧ bitOf (byteAt b 1) 6 = true ∧ (s.ch n).owner = some (h, sl) ∧ (s.hp h).writable = true ∧ (s.ch n).spaces.getD (bits (byteAt b 1) 3 2) 3 = 0 ∧ let x := s.ch n
      let sr := bits (byteAt b 1) 1 0
      let dr := bits (byteAt b 1) 3 2
      let src := x.regs.getD sr 0 + offAt b 8
      let dst := x.regs.getD dr 0 + offAt b 12
      let count := le b 4 4
      s.dmaTurnOf n = true ∧ count ≤ 4096 ∧ s.addrOk dst = true ∧ s.addrOk (dst + BitVec.ofNat 64 (count - 1)) = true ∧ (s.ch n).spaces.getD 0 3 = 3)
    ∧ (∃ (n : Fin 64) (v : HostView) (b : List Byte) (h sl : Nat) (s : State), s.runsInstr n v b ∧ byteAt b 0 = 1 ∧ moveOk (s.ch n).setup b = true ∧ (s.ch n).loops = [] ∧ bitOf (byteAt b 1) 6 = true ∧ (s.ch n).owner = some (h, sl) ∧ (s.hp h).writable = true ∧ (s.ch n).spaces.getD (bits (byteAt b 1) 3 2) 3 = 0 ∧ let x := s.ch n
      let sr := bits (byteAt b 1) 1 0
      let dr := bits (byteAt b 1) 3 2
      let src := x.regs.getD sr 0 + offAt b 8
      let dst := x.regs.getD dr 0 + offAt b 12
      let count := le b 4 4
      s.dmaTurnOf n = true ∧ count ≤ 4096 ∧ s.addrOk dst = true ∧ s.addrOk (dst + BitVec.ofNat 64 (count - 1)) = true ∧ (s.ch n).spaces.getD 0 3 = 0 ∧ readHost (s.dmaView n v) 1 0 8 = .ok [1, 0x44, 0, 0, 8, 0, 0, 0] ∧ ((s.fetched n).inFlight n [1, 0x44, 0, 0, 8, 0, 0, 0]).2 = false)
    ∧ (∃ (n : Fin 64) (v : HostView) (b : List Byte) (h sl k : Nat) (s : State), byteAt b 0 = 1 ∧ moveOk (s.ch n).setup b = true ∧ bitOf (byteAt b 1) 6 = true ∧ (s.ch n).owner = some (h, sl) ∧ (s.hp h).writable = true ∧ (s.ch n).spaces.getD (bits (byteAt b 1) 3 2) 3 = 0 ∧ (s.ch n).spaces.getD (bits (byteAt b 1) 1 0) 3 = 3 ∧ let dst := (s.ch n).regs.getD (bits (byteAt b 1) 3 2) 0 + offAt b 12
      let count := le b 4 4
      s.dmaTurnOf n = true ∧ s.runsInstr n v b ∧ 4096 < count ∧ s.dmaAlone n = false ∧ s.addrOk dst = true ∧ s.addrOk (dst + 4095) = true)
    ∧ (∃ (n : Fin 64) (v : HostView) (b : List Byte) (h sl k : Nat) (s : State), byteAt b 0 = 1 ∧ moveOk (s.ch n).setup b = true ∧ bitOf (byteAt b 1) 6 = true ∧ (s.ch n).owner = some (h, sl) ∧ (s.hp h).writable = true ∧ (s.ch n).spaces.getD (bits (byteAt b 1) 3 2) 3 = 0 ∧ (s.ch n).spaces.getD (bits (byteAt b 1) 1 0) 3 = 3 ∧ let dst := (s.ch n).regs.getD (bits (byteAt b 1) 3 2) 0 + offAt b 12
      let count := le b 4 4
      s.dmaTurnOf n = true ∧ s.chRuns n = true ∧ (s.ch n).wait ≠ .retry ∧ (s.ch n).jobOn = true ∧ (s.ch n).pc < ((s.ch n).chain.headD {}).len ∧ (s.ch n).move = some (b, k) ∧ (s.ch n).loops = [] ∧ k < count ∧ count ≤ k + 4096 ∧ s.addrOk (dst + BitVec.ofNat 64 k) = true ∧ s.addrOk (dst + BitVec.ofNat 64 k + BitVec.ofNat 64 (count - k - 1)) = true)
    ∧ (∃ (n : Fin 64) (v : HostView) (b : List Byte) (s : State), s.runsInstr n v b ∧ byteAt b 0 = 1 ∧ moveOk (s.ch n).setup b = true ∧ bitOf (byteAt b 1) 6 = true ∧ (s.ch n).spaces.getD (bits (byteAt b 1) 1 0) 3 = 3 ∧ (s.ch n).spaces.getD (bits (byteAt b 1) 3 2) 3 ≠ 1 ∧ s.dmaTurnOf n = false)
    ∧ (∃ (n : Fin 64) (v : HostView) (b : List Byte) (s : State), s.runsInstr n v b ∧ byteAt b 0 = 2 ∧ 1 ≤ byteAt b 1 ∧ byteAt b 2 < 16 ∧ byteAt b 3 = 0 ∧ le b 12 4 = 0 ∧ (s.ch n).loops = [] ∧ (s.ch n).pc + 1 + byteAt b 1 ≤ ((s.ch n).chain.headD {}).len)
    ∧ (∃ (n : Fin 64) (v : HostView) (b : List Byte) (s : State), s.runsInstr n v b ∧ byteAt b 0 = 3 ∧ 1 ≤ byteAt b 1 ∧ le b 2 2 = 0 ∧ le b 8 8 = 0 ∧ (s.ch n).loops = [] ∧ (s.ch n).trigKind ≠ 2 ∧ byteAt b 1 ≤ (s.ch n).pending)
    ∧ (∃ (n : Fin 64) (v : HostView) (b : List Byte) (s : State), s.runsInstr n v b ∧ byteAt b 0 = 3 ∧ 1 ≤ byteAt b 1 ∧ le b 2 2 = 0 ∧ le b 8 8 = 0 ∧ (s.ch n).loops = [] ∧ (s.ch n).trigKind ≠ 2 ∧ (s.ch n).pending < byteAt b 1 ∧ (s.ch n).wait ≠ .trigger)
    ∧ (∃ (n : Fin 64) (v : HostView) (b : List Byte) (s : State), s.runsInstr n v b ∧ byteAt b 0 = 4 ∧ byteAt b 1 = 8 ∧ byteAt b 4 < 4 ∧ le b 5 3 = 0 ∧ le b 8 8 = 0 ∧ (s.ch n).loops = [])
    ∧ (∃ (n : Fin 64) (v : HostView) (b : List Byte) (h sl : Nat) (s : State), s.runsInstr n v b ∧ byteAt b 0 = 4 ∧ (byteAt b 1 = 1 ∨ byteAt b 1 = 2 ∨ byteAt b 1 = 4) ∧ byteAt b 4 < 4 ∧ le b 5 3 = 0 ∧ le b 8 8 = 0 ∧ (s.ch n).loops = [] ∧ (s.ch n).owner = some (h, sl) ∧ s.dmaSlots n ≠ 0 ∧ (s.ch n).chainGen = (s.slice h sl).gen)
    ∧ (∃ (n : Fin 64) (v : HostView) (b : List Byte) (h sl : Nat) (s : State), s.runsInstr n v b ∧ byteAt b 0 = 4 ∧ (byteAt b 1 = 1 ∨ byteAt b 1 = 2 ∨ byteAt b 1 = 4) ∧ byteAt b 4 < 4 ∧ le b 5 3 = 0 ∧ le b 8 8 = 0 ∧ (s.ch n).loops = [] ∧ (s.ch n).owner = some (h, sl) ∧ s.dmaSlots n = 0)
    ∧ (∃ (n : Fin 64) (v : HostView) (b : List Byte) (s : State), s.runsInstr n v b ∧ byteAt b 0 = 5 ∧ setupOk b = true ∧ (s.ch n).loops = [])
    ∧ (∃ (n : Fin 64) (v : HostView) (b : List Byte) (j : Job) (js : List Job) (s : State), s.runsInstr n v b ∧ byteAt b 0 = 6 ∧ byteAt b 1 < 8 ∧ le b 2 8 = 0 ∧ le b 10 6 = 0 ∧ ((s.ch n).setup.check = 0 ∨ bitOf (byteAt b 1) 2 = false) ∧ (s.ch n).chain = j :: js)
    ∧ (∃ (n : Fin 64) (v : HostView) (b : List Byte) (j : Job) (js : List Job) (s : State), s.runsInstr n v b ∧ byteAt b 0 = 6 ∧ byteAt b 1 < 8 ∧ le b 2 8 = 0 ∧ le b 10 6 = 0 ∧ ((s.ch n).setup.check = 0 ∨ bitOf (byteAt b 1) 2 = false) ∧ (s.ch n).chain = j :: js ∧ js ≠ [])
    ∧ (∃ (i : Fin 64 → HostView → Fin 3 → Instr) (n : Fin 64) (v : HostView) (b : List Byte) (s : State), (i = .dmaMove ∨ i = .dmaLoop ∨ i = .dmaWait ∨ i = .dmaSignal ∨ i = .dmaSetup ∨ i = .dmaEnd) ∧ s.runsInstr n v b ∧ (byteAt b 0 = 0 ∨ 7 ≤ byteAt b 0) ∧ (s.ch n).chain ≠ [])
    ∧ (∃ (i : Fin 64 → HostView → Fin 3 → Instr) (n : Fin 64) (v : HostView) (s : State), (i = .dmaMove ∨ i = .dmaLoop ∨ i = .dmaWait ∨ i = .dmaSignal ∨ i = .dmaSetup ∨ i = .dmaEnd) ∧ s.chRuns n = true ∧ (s.ch n).jobOn = true ∧ (s.ch n).wait = .retry)
    ∧ (∃ (k : Fin 16) (s : State), let m := Tab.get {} s.xfer.timers k.val
      m.enabled = true ∧ m.next.toNat ≤ s.now.toNat)
    ∧ (∃ (k : Fin 16) (s : State), let m := Tab.get {} s.xfer.timers k.val
      m.enabled = true ∧ m.next.toNat ≤ s.now.toNat ∧ s.power.wakeMask.getLsbD 16 = true ∧ s.power.phase = .steady ∧ s.power.sleep ≠ 0)
    ∧ (∃ (k : Fin 16) (s : State), let m := Tab.get {} s.xfer.timers k.val
      m.enabled = false)
    ∧ (∃ (n : Fin 64) (s : State), s.chRuns n = true ∧ (s.ch n).wait = .trigger ∧ s.due (s.ch n).waitDue = true)
    ∧ (∃ (n : Fin 64) (v : HostView) (s : State), s.chRuns n = true ∧ (s.ch n).wait = .retry ∧ s.due (s.ch n).retryDue = true ∧ (s.ch n).jobOn = true ∧ (s.ch n).pc < ((s.ch n).chain.headD {}).len ∧ (s.ch n).progDev = false ∧ (s.ch n).move = none ∧ s.chUp n = true ∧ s.dmaInstr n (s.dmaView n v) = none ∧ (s.ch n).retryN < (s.ch n).retries)
    ∧ (∃ (n : Fin 64) (v : HostView) (b : List Byte) (s : State), s.chRuns n = true ∧ (s.ch n).wait = .retry ∧ s.due (s.ch n).retryDue = true ∧ let u := s.setCh n { s.ch n with retryDue := none, wait := .none }
      u.runsInstr n v b ∧ byteAt b 0 = 1)
    ∧ (∃ (n : Fin 64) (v : HostView) (f : Fin 3) (s : State), ((s.ch n).wait ≠ .retry ∨ s.due (s.ch n).retryDue = false))
    ∧ (∃ (n : Fin 64) (c : Cell) (s : State), (Tab.get [] s.marl.staging agentXfer).find? (fun c => decide (c.cls = 1) && decide (s.lineCh (s.lineOf c.flow) = some n.val)) = some c) :=
  ⟨⟨(0 : Fin 64), ([(0, toLe 8 0x1000 ++ toLe 2 4 ++ toLe 2 7 ++ toLe 1 3 ++ toLe 1 255 ++ toLe 50 0)] : HostView), (0 : Nat), (0 : Nat), (parseJob (toLe 8 0x1000 ++ toLe 2 4 ++ toLe 2 7 ++ toLe 1 3 ++ toLe 1 255 ++ toLe 50 0) : Job), ([] : List Job), (withCh { runCh with jobOn := false, chain := [], ringLog2 := 2, prod := 1 } : State), by decide +kernel⟩,
   ⟨(0 : Fin 64), ([] : HostView), (0 : Nat), (0 : Nat), ({ prog := 0x1000, len := 4, first := true, last := true } : Job), ([] : List Job), (withCh { runCh with jobOn := false, chain := [{ prog := 0x1000, len := 4, first := true, last := true }] } : State), by decide +kernel⟩,
   ⟨(0 : Fin 64), ([] : HostView), ((0, 0) : Nat × Nat), ({ len := 0 } : Job), ([] : List Job), (withCh { runCh with jobOn := false, chain := [{ len := 0 }] } : State), by decide +kernel⟩,
   ⟨(0 : Fin 64), (instrAt [1, 0x44, 0, 0, 8] : HostView), (padTo 16 [1, 0x44, 0, 0, 8] : List Byte), (0 : Nat), (0 : Nat), (withCh { runCh with spaces := [3, 0, 3, 3], regs := [0, 0x2000, 0, 0] } : State), by unfold State.runsInstr; dsimp only; decide +kernel⟩,
   ⟨(0 : Fin 64), ([(0, padTo 16 [1, 0x44, 0, 0, 8])] : HostView), (padTo 16 [1, 0x44, 0, 0, 8] : List Byte), (0 : Nat), (0 : Nat), (withCh { runCh with spaces := [0, 0, 3, 3], regs := [0, 0x2000, 0, 0] } : State), by unfold State.runsInstr; dsimp only; decide +kernel⟩,
   ⟨(0 : Fin 64), ([(0, padTo 16 [1, 0x44, 0, 0, 0x88, 0x13])] : HostView), (padTo 16 [1, 0x44, 0, 0, 0x88, 0x13] : List Byte), (0 : Nat), (0 : Nat), (0 : Nat), ((withCh { runCh with spaces := [3, 0, 3, 3], regs := [0, 0x2000, 0, 0] }).setCh 1 runCh : State), by unfold State.runsInstr; (try dsimp only); decide +kernel⟩,
   ⟨(0 : Fin 64), ([] : HostView), (padTo 16 [1, 0x44, 0, 0, 0x88, 0x13] : List Byte), (0 : Nat), (0 : Nat), (4096 : Nat), (withCh { runCh with spaces := [3, 0, 3, 3], regs := [0, 0x2000, 0, 0], move := some (padTo 16 [1, 0x44, 0, 0, 0x88, 0x13], 4096) } : State), by dsimp only; decide +kernel⟩,
   ⟨(0 : Fin 64), ([(0, padTo 16 [1, 0x44, 0, 0, 0x88, 0x13])] : HostView), (padTo 16 [1, 0x44, 0, 0, 0x88, 0x13] : List Byte), (((withCh { runCh with spaces := [3, 0, 3, 3], regs := [0, 0x2000, 0, 0] }).setCh 1 { runCh with spaces := [3, 0, 3, 3], regs := [0, 0x2000, 0, 0], move := some (padTo 16 [1, 0x44, 0, 0, 0x88, 0x13], 4096) }).modXfer fun y => { y with dmaTurn := 0 } : State), by unfold State.runsInstr; (try dsimp only); decide +kernel⟩,
   ⟨(0 : Fin 64), (instrAt [2, 3, 15, 0, 2] : HostView), (padTo 16 [2, 3, 15, 0, 2] : List Byte), (withCh runCh : State), by unfold State.runsInstr; decide +kernel⟩,
   ⟨(0 : Fin 64), (instrAt [3, 1] : HostView), (padTo 16 [3, 1] : List Byte), (withCh { runCh with pending := 1 } : State), by unfold State.runsInstr; decide +kernel⟩,
   ⟨(0 : Fin 64), (instrAt [3, 1] : HostView), (padTo 16 [3, 1] : List Byte), (withCh runCh : State), by unfold State.runsInstr; decide +kernel⟩,
   ⟨(0 : Fin 64), (instrAt [4, 8] : HostView), (padTo 16 [4, 8] : List Byte), (withCh runCh : State), by unfold State.runsInstr; decide +kernel⟩,
   ⟨(0 : Fin 64), (instrAt [4, 4] : HostView), (padTo 16 [4, 4] : List Byte), (0 : Nat), (0 : Nat), (withCh runCh : State), by unfold State.runsInstr; decide +kernel⟩,
   ⟨(0 : Fin 64), (instrAt [4, 1] : HostView), (padTo 16 [4, 1] : List Byte), (0 : Nat), (0 : Nat), (up.setCh 0 runCh : State), by unfold State.runsInstr; decide +kernel⟩,
   ⟨(0 : Fin 64), (instrAt [5] : HostView), (padTo 16 [5] : List Byte), (withCh runCh : State), by unfold State.runsInstr; decide +kernel⟩,
   ⟨(0 : Fin 64), (instrAt [6] : HostView), (padTo 16 [6] : List Byte), ({ len := 4, first := true, last := true } : Job), ([] : List Job), (withCh runCh : State), by unfold State.runsInstr; decide +kernel⟩,
   ⟨(0 : Fin 64), ([(0x1000, padTo 16 [6])] : HostView), (padTo 16 [6] : List Byte), ({ prog := 0x1000, len := 4, first := true, last := true } : Job), ([{ len := 1 }] : List Job), (withCh { runCh with chain := [{ prog := 0x1000, len := 4, first := true, last := true }, { len := 1 }] } : State), by unfold State.runsInstr; decide +kernel⟩,
   ⟨.dmaMove, (0 : Fin 64), (instrAt [7] : HostView), (padTo 16 [7] : List Byte), (withCh runCh : State), by unfold State.runsInstr; exact ⟨Or.inl rfl, by decide +kernel⟩⟩,
   ⟨.dmaMove, (0 : Fin 64), ([] : HostView), (withCh { runCh with wait := .retry } : State), by exact ⟨Or.inl rfl, by decide +kernel⟩⟩,
   ⟨(0 : Fin 16), (up.modXfer fun x => { x with timers := [(0, { enabled := true, period := 1000 })] } : State), by dsimp only; decide +kernel⟩,
   ⟨(0 : Fin 16), ({ (up.modXfer fun x => { x with timers := [(0, { enabled := true, period := 1000 })] } : State) with power := { (up.modXfer fun x => { x with timers := [(0, { enabled := true, period := 1000 })] } : State).power with wakeMask := 0x10000, sleep := 1 } } : State), by dsimp only; decide +kernel⟩,
   ⟨(0 : Fin 16), (up : State), by dsimp only; decide +kernel⟩,
   ⟨(0 : Fin 64), (withCh { runCh with wait := .trigger, waitDue := some 0 } : State), by decide +kernel⟩,
   ⟨(0 : Fin 64), ([] : HostView), (withCh { runCh with wait := .retry, retryDue := some 0 } : State), by decide +kernel⟩,
   ⟨(0 : Fin 64), (instrAt [1] : HostView), (padTo 16 [1] : List Byte), (withCh { runCh with wait := .retry, retryDue := some 0 } : State), by unfold State.runsInstr; dsimp only; decide +kernel⟩,
   ⟨(0 : Fin 64), ([] : HostView), (0 : Fin 3), (up : State), by decide +kernel⟩,
   ⟨(0 : Fin 64), ({ cls := 1 } : Cell), (({ up with marl := { up.marl with staging := [(agentXfer, [{ cls := 1 }])] } }).setCh 0 { runCh with trigKind := 2 } : State), by decide +kernel⟩⟩

/-- Obligations.SchedulerAndEventController. -/
theorem hypotheses_met_SchedulerAndEventController :
    (∃ (n : Fin 512) (s : State), (s.src n).level = false ∧ s.cluster.saved = false ∧ (s.src n).state = .idle ∧ (s.src n).enable = true ∧ (s.src n).irq = false)
    ∧ (∃ (n : Fin 512) (s : State), (s.src n).level = false ∧ s.cluster.saved = false ∧ (s.src n).state = .idle ∧ (s.src n).enable = false)
    ∧ (∃ (n : Fin 512) (s : State), (s.src n).level = false ∧ s.cluster.saved = false ∧ (s.src n).state = .idle ∧ (s.src n).wake = true ∧ s.power.phase = .steady ∧ s.power.sleep ≠ 0)
    ∧ (∃ (n : Fin 512) (s : State), (s.src n).level = false ∧ s.cluster.saved = true)
    ∧ (∃ (n : Fin 512) (s : State), (s.src n).level = false)
    ∧ (∃ (n : Fin 512) (rise : Bool) (s : State), (s.src n).level = true)
    ∧ (∃ (p i k : Nat) (s : State), s.cluster.cores.length = 9 ∧ s.awake = true ∧ s.pick = some (p, i, k))
    ∧ (∃ (c : Fin 9) (it : Item) (s : State), s.cluster.cores.length = 9 ∧ s.awake = false ∧ (s.core c).item = some it ∧ (s.core c).handlers = [])
    ∧ (∃ (n : Fin 512) (low : Nat) (s : State), s.cluster.cores.length = 9 ∧ s.ctrlStopped = false ∧ (s.src n).state = .pending ∧ (s.src n).enable = true ∧ (s.src n).irq = true ∧ s.handled n = false ∧ ((s.irqSlots (s.src n)).map s.slotLevel).min? = some low ∧ low < (s.src n).prio + 1)
    ∧ (∃ (n : Fin 512) (low : Nat) (s : State), s.cluster.cores.length = 9 ∧ s.ctrlStopped = false ∧ (s.src n).state = .pending ∧ (s.src n).enable = true ∧ (s.src n).irq = true ∧ s.handled n = false ∧ ((s.irqSlots (s.src n)).map s.slotLevel).min? = some low ∧ (s.src n).prio + 1 ≤ low)
    ∧ (∃ (n : Fin 512) (c : Fin 9) (s : State), s.ctrlStopped = true)
    ∧ (∃ (n : Fin 512) (c : Fin 9) (s : State), s.ctrlStopped = false ∧ (s.src n).state = .pending ∧ (s.core c).serves n = true)
    ∧ (∃ (n : Fin 512) (c : Fin 9) (s : State), ((s.src n).state ≠ .pending ∨ (s.core c).serves n = false))
    ∧ (∃ (n : Fin 512) (c : Nat) (s : State), s.cluster.cores.length = 9 ∧ c < 9 ∧ (s.src n).level = false ∧ (s.src n).core = some c ∧ (s.core c).handlers.head? = some n.val ∧ (s.src n).state = .inService)
    ∧ (∃ (n : Fin 512) (c : Nat) (s : State), s.cluster.cores.length = 9 ∧ c < 9 ∧ (s.src n).level = false ∧ (s.src n).core = some c ∧ (s.core c).handlers.head? = some n.val ∧ (s.src n).state = .inServiceAgain)
    ∧ (∃ (n : Fin 512) (s : State), ((s.src n).state = .inService ∨ (s.src n).state = .inServiceAgain) ∧ (s.src n).overdue = false ∧ (s.src n).since.toNat + 10000000 ≤ s.now.toNat)
    ∧ (∃ (n : Fin 512) (s : State), ((s.src n).overdue = true ∨ s.now.toNat < (s.src n).since.toNat + 10000000))
    ∧ (∃ (it : Item) (s : State), s.directItems < 3584)
    ∧ (∃ (d : Fin 4) (it : Item) (w : BitVec 32) (s : State), w = 0)
    ∧ (∃ (d : Fin 4) (it : Item) (w : BitVec 32) (s : State), 2 ^ 31 ≤ w.toNat)
    ∧ (∃ (d : Fin 4) (it : Item) (w : BitVec 32) (s : State), w ≠ 0 ∧ w.toNat < 2 ^ 31 ∧ s.delayPending < 4096)
    ∧ (∃ (s : State), (s.cluster.saved = true ∨ s.power.phase = .steady ∧ s.power.sleep ≠ 0) ∧ s.anyDue = false)
    ∧ (∃ (s : State), (s.cluster.saved = true ∨ s.power.phase = .steady ∧ s.power.sleep ≠ 0) ∧ s.anyDue = true ∧ s.power.phase = .steady ∧ s.power.sleep ≠ 0)
    ∧ (∃ (s : State), s.cluster.saved = false ∧ (s.power.phase ≠ .steady ∨ s.power.sleep = 0))
    ∧ (∃ (d : Fin 4) (n : Nat) (s : State), (∀ i ∈ (s.delayList d).items, i.isDue s.tick32 = false)) :=
  ⟨⟨(0 : Fin 512), (up.setSrc 0 { enable := true, prio := 5 } : State), by decide +kernel⟩,
   ⟨(0 : Fin 512), (up : State), by decide +kernel⟩,
   ⟨(0 : Fin 512), ({ (up.setSrc 0 { enable := true, wake := true } : State) with power := { (up.setSrc 0 { enable := true, wake := true } : State).power with sleep := 1 } } : State), by decide +kernel⟩,
   ⟨(0 : Fin 512), ({ up with cluster := { up.cluster with saved := true } } : State), by decide +kernel⟩,
   ⟨(0 : Fin 512), (up : State), by decide +kernel⟩,
   ⟨(0 : Fin 512), (false : Bool), (up.setSrc 0 { level := true } : State), by decide +kernel⟩,
   ⟨(3 : Nat), (0 : Nat), (0 : Nat), (up.enqueue { prio := 3, affinity := 255 } : State), by decide +kernel⟩,
   ⟨(0 : Fin 9), ({ prio := 3, affinity := 255 } : Item), (State.reset.modCore 0 fun x => { x with item := some { prio := 3, affinity := 255 } } : State), by decide +kernel⟩,
   ⟨(0 : Fin 512), (0 : Nat), (up.setSrc 0 { enable := true, irq := true, state := .pending, affinity := 3 } : State), by decide +kernel⟩,
   ⟨(0 : Fin 512), (10 : Nat), ((up.setSrc 0 { enable := true, irq := true, state := .pending, affinity := 1, prio := 2 }).modCore 0 fun x => { x with item := some { prio := 9 } } : State), by decide +kernel⟩,
   ⟨(0 : Fin 512), (0 : Fin 9), ({ up with power := { up.power with sleep := 1 } } : State), by decide +kernel⟩,
   ⟨(0 : Fin 512), (0 : Fin 9), ((up.setSrc 0 { state := .pending }).modCore 0 fun x => { x with handlers := [0] } : State), by decide +kernel⟩,
   ⟨(0 : Fin 512), (0 : Fin 9), (up : State), by decide +kernel⟩,
   ⟨(0 : Fin 512), (0 : Nat), ((up.setSrc 0 { state := .inService, core := some 0 }).modCore 0 fun x => { x with handlers := [0] } : State), by decide +kernel⟩,
   ⟨(0 : Fin 512), (0 : Nat), ((up.setSrc 0 { state := .inServiceAgain, core := some 0 }).modCore 0 fun x => { x with handlers := [0] } : State), by decide +kernel⟩,
   ⟨(0 : Fin 512), ((upAt 10000000).setSrc 0 { state := .inService } : State), by decide +kernel⟩,
   ⟨(0 : Fin 512), (up : State), by decide +kernel⟩,
   ⟨({} : Item), (up : State), by decide +kernel⟩,
   ⟨(0 : Fin 4), ({} : Item), (0 : BitVec 32), (up : State), by decide +kernel⟩,
   ⟨(0 : Fin 4), ({} : Item), (BitVec.ofNat 32 (2 ^ 31) : BitVec 32), (up : State), by decide +kernel⟩,
   ⟨(0 : Fin 4), ({} : Item), (BitVec.ofNat 32 (2 ^ 31 - 1) : BitVec 32), (up : State), by decide +kernel⟩,
   ⟨({ up with cluster := { up.cluster with saved := true } } : State), by decide +kernel⟩,
   ⟨(({ up with power := { up.power with sleep := 1 } } : State).setDelay 0 { items := [{ due := 0, ident := 7 }] } : State), by decide +kernel⟩,
   ⟨(up : State), by decide +kernel⟩,
   ⟨(0 : Fin 4), (7 : Nat), (up.setDelay 0 { items := [{ due := 9, ident := 7 }] } : State), by decide +kernel⟩⟩

/-- Obligations.CoreEvents. -/
theorem hypotheses_met_CoreEvents :
    (∃ (sp out : Nat) (s : State), s.cluster.cores.length = 9 ∧ s.spare = some sp ∧ s.oldest (fun _ => true) = some out ∧ s.mayRotate = true ∧ s.cluster.rotateAt.toNat + 86400000000000 ≤ s.now.toNat)
    ∧ (∃ (s : State), (s.spare = none ∨ s.mayRotate = false ∨ s.now.toNat < s.cluster.rotateAt.toNat + 86400000000000))
    ∧ (∃ (c : Fin 9) (s : State), s.cluster.cores.length = 9 ∧ (s.core c).state = .draining)
    ∧ (∃ (c : Fin 9) (s : State), s.cluster.cores.length = 9 ∧ (s.core c).state = .test ∧ s.boot.phase = .idle ∧ s.vacantSlot = none)
    ∧ (∃ (c : Fin 9) (s : State), s.cluster.cores.length = 9 ∧ (s.core c).state = .test ∧ s.boot.phase = .idle ∧ s.vacantSlot = some 0 ∧ s.spare = none)
    ∧ (∃ (c : Fin 9) (s : State), s.cluster.cores.length = 9 ∧ (s.core c).state = .test ∧ s.boot.phase = .idle)
    ∧ (∃ (c : Fin 9) (pass : Bool) (s : State), (s.core c).state ≠ .test)
    ∧ (∃ (c : Nat) (s : State), s.cluster.cores.length = 9 ∧ s.spare = some c ∧ (s.core c).lastTest.toNat + 3600000000000 ≤ s.now.toNat)
    ∧ (∃ (s : State), s.spare = none)
    ∧ (∃ (c : Fin 9) (m : Time) (rest : List Time) (s : State), s.cluster.cores.length = 9 ∧ (s.core c).state = .faulted ∧ (s.core c).faultTimes = m :: rest ∧ (s.recentFaults c).length < 3 ∧ m.toNat + 10000000000 ≤ s.now.toNat)
    ∧ (∃ (c : Fin 9) (m : Time) (rest : List Time) (s : State), s.cluster.cores.length = 9 ∧ (s.core c).state = .faulted ∧ (s.core c).faultTimes = m :: rest ∧ 3 ≤ (s.recentFaults c).length)
    ∧ (∃ (c : Fin 9) (k sp : Nat) (s : State), s.cluster.cores.length = 9 ∧ (s.core c).state = .active ∧ s.loadsNew = false ∧ (s.core c).newCode = false ∧ (s.core c).slot = some k ∧ s.spare = some sp)
    ∧ (∃ (c : Fin 9) (k sp : Nat) (s : State), s.cluster.cores.length = 9 ∧ (s.core c).state = .active ∧ s.loadsNew = false ∧ (s.core c).newCode = false ∧ (s.core c).slot = some k ∧ s.spare = none)
    ∧ (∃ (c : Fin 9) (s : State), (s.core c).state ≠ .active ∧ (s.core c).state ≠ .draining)
    ∧ (∃ (c : Fin 9) (it : Item) (s : State), s.cluster.cores.length = 9 ∧ (s.core c).item = some it ∧ (s.core c).itemAt.toNat + 2000000 ≤ s.now.toNat ∧ it.overran = false)
    ∧ (∃ (c : Fin 9) (it : Item) (s : State), s.cluster.cores.length = 9 ∧ (s.core c).item = some it ∧ (s.core c).itemAt.toNat + 2000000 ≤ s.now.toNat ∧ it.overran = true)
    ∧ (∃ (c : Fin 9) (s : State), ((s.core c).item = none ∨ s.now.toNat < (s.core c).itemAt.toNat + 2000000)) :=
  ⟨⟨(8 : Nat), (0 : Nat), (upAt 86400000000000 : State), by decide +kernel⟩,
   ⟨(up : State), by decide +kernel⟩,
   ⟨(0 : Fin 9), (up.modCore 0 fun x => { x with state := .draining, slot := none } : State), by decide +kernel⟩,
   ⟨(8 : Fin 9), (up.modCore 8 fun x => { x with state := .test } : State), by decide +kernel⟩,
   ⟨(0 : Fin 9), ((up.modCore 0 fun x => { x with state := .test, slot := none }).modCore 8 fun x => { x with state := .faulted } : State), by decide +kernel⟩,
   ⟨(8 : Fin 9), (up.modCore 8 fun x => { x with state := .test } : State), by decide +kernel⟩,
   ⟨(0 : Fin 9), (false : Bool), (up : State), by decide +kernel⟩,
   ⟨(8 : Nat), (upAt 3600000000000 : State), by decide +kernel⟩,
   ⟨(up.modCore 8 fun x => { x with state := .test } : State), by decide +kernel⟩,
   ⟨(0 : Fin 9), (0 : Time), ([] : List Time), ((upAt 10000000000).modCore 0 fun x => { x with state := .faulted, faultTimes := [0] } : State), by decide +kernel⟩,
   ⟨(0 : Fin 9), (0 : Time), ([0, 0] : List Time), ((upAt 10000000000).modCore 0 fun x => { x with state := .faulted, faultTimes := [0, 0, 0] } : State), by decide +kernel⟩,
   ⟨(0 : Fin 9), (0 : Nat), (8 : Nat), (up.modCore 0 fun x => { x with item := some { prio := 3, affinity := 255 } } : State), by decide +kernel⟩,
   ⟨(0 : Fin 9), (0 : Nat), (0 : Nat), (up.modCore 8 fun x => { x with state := .test } : State), by decide +kernel⟩,
   ⟨(8 : Fin 9), (up : State), by decide +kernel⟩,
   ⟨(0 : Fin 9), ({ prio := 3, affinity := 255 } : Item), ((upAt 2000000).modCore 0 fun x => { x with item := some { prio := 3, affinity := 255 } } : State), by decide +kernel⟩,
   ⟨(0 : Fin 9), ({ overran := true } : Item), ((upAt 2000000).modCore 0 fun x => { x with item := some { overran := true } } : State), by decide +kernel⟩,
   ⟨(0 : Fin 9), (up : State), by decide +kernel⟩⟩

/-- Obligations.StartUpAndFlash. -/
theorem hypotheses_met_StartUpAndFlash :
    (∃ (r : Bool) (a : BitVec 2) (s : State), s.power.powered = true)
    ∧ (∃ (r : Bool) (a : BitVec 2) (s : State), s.power.powered = false)
    ∧ (∃ (k : List Byte) (sn : BitVec 48) (o0 o1 : BitVec 32) (trim : BitVec 512) (m : List (BitVec 32)) (s : State), s.boot.stage = .fuse ∧ s.mem.fuseMap = [])
    ∧ (∃ (k : List Byte) (sn : BitVec 48) (o0 o1 : BitVec 32) (trim : BitVec 512) (m : List (BitVec 32)) (s : State), s.boot.stage ≠ .fuse)
    ∧ (∃ (e : Bool) (slot : Nat) (s : State), s.boot.stage = .candidates ∧ s.power.resetWait = false ∧ s.boot.candidate = some slot ∧ imageCheck s.boot.keyHash e (s.slotImage slot) = 1)
    ∧ (∃ (e : Bool) (slot : Nat) (s : State), s.boot.stage = .candidates ∧ s.power.resetWait = false ∧ s.boot.candidate = some slot ∧ imageCheck s.boot.keyHash e (s.slotImage slot) ≠ 1)
    ∧ (∃ (e : Bool) (s : State), s.boot.stage = .candidates ∧ s.power.resetWait = false ∧ s.boot.candidate = none)
    ∧ (∃ (src : List (Fin 512 × SrcCfg)) (s : State), s.boot.stage = .verified ∧ s.imageBusy = false ∧ s.boot.commands.length ≤ s.boot.cmdAt)
    ∧ (∃ (src : List (Fin 512 × SrcCfg)) (s : State), s.boot.stage ≠ .verified)
    ∧ (∃ (src : List (Fin 512 × SrcCfg)) (s : State), s.boot.stage = .verified ∧ s.imageBusy = true)
    ∧ (∃ (c : Cmd) (s : State), s.mayCarry infoImageWrite c (checksImageWrite c s) = true ∧ (∃ data, s.sourceBytes c (le c.payload 8 8) (le c.payload 16 4) = .ok data))
    ∧ (∃ (c : Cmd) (s : State), c.late = false ∧ (s.startCmd c 0x0904).waits infoImageSelect c = false ∧ (firstFailure infoImageSelect c (s.startCmd c 0x0904) (selectChecks c s)).isNone = true)
    ∧ (∃ (j : ImageJob) (s : State), s.boot.imageJob = some j ∧ j.select = false ∧ s.isRunning j.cmd 0x0903 = true ∧ j.data.length = j.len)
    ∧ (∃ (good : Bool) (s : State), s.boot.imageJob = none)
    ∧ (∃ (c : Cmd) (s : State), s.mayCarry infoLoamHandover c (checksLoamHandover c s) = true)
    ∧ (∃ (x : Bool) (s : State), (s.loam x).state ≠ .failed ∧ (s.loam x).state = .active ∧ (s.loam (!x)).state = .standby)
    ∧ (∃ (x : Bool) (s : State), (s.loam x).state ≠ .failed ∧ (s.loam x).state ≠ .active)
    ∧ (∃ (x : Bool) (s : State), (s.loam x).state ≠ .failed ∧ (s.loam x).state = .active ∧ (s.loam (!x)).state ≠ .standby)
    ∧ (∃ (x : Bool) (s : State), (s.loam x).state = .failed)
    ∧ (∃ (x : Bool) (s : State), (s.loam x).state = .failed ∧ s.due (s.loam x).retryDue = true)
    ∧ (∃ (x : Bool) (s : State), (s.loam x).state ≠ .failed)
    ∧ (∃ (x : Bool) (s : State), (s.loam x).state = .syncing ∧ (s.loam (!x)).state = .active)
    ∧ (∃ (x : Bool) (s : State), (s.loam x).state ≠ .syncing) :=
  ⟨⟨(false : Bool), (0 : BitVec 2), (up : State), by decide +kernel⟩,
   ⟨(false : Bool), (0 : BitVec 2), (State.reset : State), by decide +kernel⟩,
   ⟨([] : List Byte), (0 : BitVec 48), (0 : BitVec 32), (0 : BitVec 32), (0 : BitVec 512), ([] : List (BitVec 32)), ({ State.reset with boot := { State.reset.boot with stage := .fuse } } : State), by decide +kernel⟩,
   ⟨([] : List Byte), (0 : BitVec 48), (0 : BitVec 32), (0 : BitVec 32), (0 : BitVec 512), ([] : List (BitVec 32)), (up : State), by decide +kernel⟩,
   ⟨(false : Bool), (0 : Nat), (withCandidate : State), by exact ⟨rfl, rfl, by decide +kernel, by rw [withCandidate_slot]; exact image_valid⟩⟩,
   ⟨(false : Bool), (0 : Nat), ({ up with boot := { up.boot with stage := .candidates } } : State), by decide +kernel⟩,
   ⟨(false : Bool), ({ up with boot := { up.boot with stage := .candidates, causeA := 2, causeB := 3, causeRec := 4 } } : State), by decide +kernel⟩,
   ⟨([] : List (Fin 512 × SrcCfg)), ({ up with boot := { up.boot with stage := .verified } } : State), by decide +kernel⟩,
   ⟨([] : List (Fin 512 × SrcCfg)), (up : State), by decide +kernel⟩,
   ⟨([] : List (Fin 512 × SrcCfg)), ({ { up with boot := { up.boot with stage := .verified } } with hosts := { up.hosts with running := [{ route := .image (some 0), opcode := 0x0102 }] } } : State), by decide +kernel⟩,
   ⟨({ route := .mbx 0 0, payload := toLe 1 1 ++ toLe 3 0 ++ toLe 4 0 ++ toLe 8 0x1000 ++ toLe 4 256 } : Cmd), (up : State), by exact ⟨by decide +kernel, ⟨[], rfl⟩⟩⟩,
   ⟨({ route := .mbx 0 0, payload := [0] } : Cmd), (up : State), by decide +kernel⟩,
   ⟨({ data := [1, 2], len := 2 } : ImageJob), (({ up with boot := { up.boot with imageJob := some { data := [1, 2], len := 2 } } }).startCmd {} 0x0903 : State), by decide +kernel⟩,
   ⟨(false : Bool), (up : State), by decide +kernel⟩,
   ⟨({ route := .mbx 0 0, payload := [1] } : Cmd), ({ up with boot := { up.boot with loamB := { state := .standby } } } : State), by decide +kernel⟩,
   ⟨(false : Bool), ({ up with boot := { up.boot with loamB := { state := .standby } } } : State), by decide +kernel⟩,
   ⟨(true : Bool), ({ up with boot := { up.boot with loamB := { state := .standby } } } : State), by decide +kernel⟩,
   ⟨(false : Bool), ({ up with boot := { up.boot with loamB := { state := .failed } } } : State), by decide +kernel⟩,
   ⟨(false : Bool), ({ up with boot := { up.boot with loamA := { state := .failed } } } : State), by decide +kernel⟩,
   ⟨(false : Bool), ({ up with boot := { up.boot with loamA := { state := .failed, retryDue := some 0 } } } : State), by decide +kernel⟩,
   ⟨(false : Bool), (up : State), by decide +kernel⟩,
   ⟨(true : Bool), ({ up with boot := { up.boot with loamB := { state := .syncing } } } : State), by decide +kernel⟩,
   ⟨(false : Bool), (up : State), by decide +kernel⟩⟩

/-- Obligations.FirmwareUpdate. -/
theorem hypotheses_met_FirmwareUpdate :
    (∃ (c : Cmd) (s : State), s.mayCarry infoFwStage c (checksFwStage c s) = true)
    ∧ (∃ (c : Cmd) (s : State), s.mayCarry infoFwActivate c (checksFwActivate c s) = true ∧ (s.cluster.cores.length = 9))
    ∧ (∃ (sp out : Nat) (s : State), s.cluster.cores.length = 9 ∧ s.power.hold = false ∧ s.awake = true ∧ s.boot.phase = .rotatingIn ∧ s.newSlots < 4 ∧ s.spare = some sp ∧ (s.core sp).newCode = true ∧ s.oldest (fun c => c.newCode != true) = some out)
    ∧ (∃ (s : State), (s.power.hold = true ∨ s.awake = false ∨ s.boot.phase = .idle ∨ s.boot.phase = .staged ∨ s.boot.phase = .fence))
    ∧ (∃ (sp : Nat) (s : State), s.power.hold = false ∧ s.awake = true ∧ s.boot.phase = .rotatingOut ∧ s.spare = some sp ∧ (s.core sp).newCode = true ∧ s.oldest (fun c => c.newCode != true) = none ∧ s.coresSettled true = true)
    ∧ (∃ (cls : BitVec 16) (last : Bool) (s : State), s.boot.phase = .fence ∧ s.power.hold = false ∧ s.cluster.paused = none)
    ∧ (∃ (cls : BitVec 16) (last : Bool) (s : State), s.boot.phase = .fence ∧ s.power.hold = false ∧ s.cluster.paused = some cls ∧ s.classRuns cls = false)
    ∧ (∃ (cls : BitVec 16) (last : Bool) (s : State), s.boot.phase = .fence ∧ s.power.hold = false ∧ s.cluster.paused = some cls ∧ s.classRuns cls = true)
    ∧ (∃ (cls : BitVec 16) (last : Bool) (s : State), s.boot.phase = .fence ∧ s.power.hold = false ∧ s.cluster.paused = some 1 ∧ (1 : BitVec 16) ≠ cls)
    ∧ (∃ (cls : BitVec 16) (last : Bool) (s : State), (s.boot.phase ≠ .fence ∨ s.power.hold = true))
    ∧ (∃ (x : BitVec 16) (s : State), s.boot.phase = .fence ∧ s.cluster.paused = some x)
    ∧ (∃ (s : State), s.loadsNew = true ∧ s.spare = none ∧ s.due s.boot.spareDue = true)
    ∧ (∃ (b : Bool) (h : BitVec 16) (rest : List (BitVec 16)) (s : State), s.boot.phase = .rollingBack ∧ s.power.hold = false ∧ s.cluster.moved = h :: rest ∧ s.cluster.paused = none)
    ∧ (∃ (b : Bool) (h : BitVec 16) (rest : List (BitVec 16)) (s : State), s.boot.phase = .rollingBack ∧ s.power.hold = false ∧ s.cluster.moved = h :: rest ∧ s.cluster.paused = some h ∧ s.classRuns h = false) :=
  ⟨⟨(stageCmd : Cmd), (withImage : State), by exact stage_may_be_carried⟩,
   ⟨({ route := .mbx 0 0, payload := toLe 4 7 } : Cmd), ({ up with boot := { up.boot with staged := 7, phase := .staged } } : State), by decide +kernel⟩,
   ⟨(8 : Nat), (0 : Nat), (({ up with boot := { up.boot with phase := .rotatingIn } }).modCore 8 fun x => { x with newCode := true } : State), by decide +kernel⟩,
   ⟨(up : State), by decide +kernel⟩,
   ⟨(8 : Nat), ({ up with boot := { up.boot with phase := .rotatingOut, staged := 7 }, cluster := { up.cluster with cores := up.cluster.cores.map fun x => { x with newCode := true } } } : State), by decide +kernel⟩,
   ⟨(0 : BitVec 16), (false : Bool), ({ up with boot := { up.boot with phase := .fence } } : State), by decide +kernel⟩,
   ⟨(0 : BitVec 16), (false : Bool), ({ { up with boot := { up.boot with phase := .fence } } with cluster := { up.cluster with paused := some 0 } } : State), by decide +kernel⟩,
   ⟨(0 : BitVec 16), (false : Bool), (({ { up with boot := { up.boot with phase := .fence } } with cluster := { up.cluster with paused := some 0 } }).modCore 0 fun x => { x with item := some {} } : State), by decide +kernel⟩,
   ⟨(0 : BitVec 16), (false : Bool), ({ { up with boot := { up.boot with phase := .fence } } with cluster := { up.cluster with paused := some 1 } } : State), by decide +kernel⟩,
   ⟨(0 : BitVec 16), (false : Bool), (up : State), by decide +kernel⟩,
   ⟨(0 : BitVec 16), ({ { up with boot := { up.boot with phase := .fence } } with cluster := { up.cluster with paused := some 0 } } : State), by decide +kernel⟩,
   ⟨(({ up with boot := { up.boot with phase := .rotatingIn, spareDue := some 0 } } : State).modCore 8 fun x => { x with state := .faulted } : State), by decide +kernel⟩,
   ⟨(false : Bool), (0 : BitVec 16), ([] : List (BitVec 16)), ({ { up with boot := { up.boot with phase := .rollingBack } } with cluster := { up.cluster with moved := [0] } } : State), by decide +kernel⟩,
   ⟨(false : Bool), (0 : BitVec 16), ([] : List (BitVec 16)), ({ { up with boot := { up.boot with phase := .rollingBack } } with cluster := { up.cluster with moved := [0], paused := some 0 } } : State), by decide +kernel⟩⟩

end Sys2Proof.Tests

end
end

section
/-! PROOFS. DEV_IDENTIFY, DEV_CONFIG_LOCK, COUNTER_READ and SNAPSHOT: how a command that may be carried out completes OK, and what a counter capture leaves alone. -/

namespace Sys2Proof.Machine

/-! ## A command that completes at once -/

/-- R263: the outcome of a command that may be carried out is the outcome of its effect. -/
theorem completesOk_command {s : State} {i : CmdInfo} {c : Cmd} {k : Checks} (h : s.mayCarry i c k = true) {e : State → State}
    {r : State → List Byte} {P : State → Prop} (he : CompletesOk (.next (e (s.carried i c k))) i c r P) :
    CompletesOk (.next (s.command i c k e)) i c r P := by
  rwa [State.command_of_mayCarry h]

/-- An outstanding command that answers OK completes OK. -/
theorem completesOk_of_eq_ok {o : Result} {u : State} {i : CmdInfo} {c : Cmd} {r : State → List Byte} {P : State → Prop}
    (run : u.isRunning c i.opcode = true) (ho : o = .next (u.ok c i.opcode (r u))) (hP : P u) : CompletesOk o i c r P :=
  ⟨u, run, by rw [ho, State.ok_of_isRunning run], hP⟩

@[simp] theorem State.isRunning_setLock (s : State) (l : Bool) (c : Cmd) (op : Nat) : { s with lock := l }.isRunning c op = s.isRunning c op := rfl

theorem CompletesOk.imp {o : Result} {i : CmdInfo} {c : Cmd} {r : State → List Byte} {P Q : State → Prop}
    (h : CompletesOk o i c r P) (hPQ : ∀ u, P u → Q u) : CompletesOk o i c r Q := by
  obtain ⟨u, run, ho, hu⟩ := h
  exact ⟨u, run, ho, hPQ u hu⟩

/-! ## Clearing the gauges that clear on read (R466) -/

/-- Updates of the switch alone, one after another, are an update of the switch alone. -/
theorem State.foldl_marl_frame {α : Type} {f : State → α → State} (hf : ∀ s x, f s x = { s with marl := (f s x).marl }) (l : List α) :
    ∀ s : State, l.foldl f s = { s with marl := (l.foldl f s).marl } := by
  induction l with
  | nil => intro s; rfl
  | cons x l ih =>
    intro s
    calc l.foldl f (f s x) = { f s x with marl := (l.foldl f (f s x)).marl } := ih (f s x)
      _ = { s with marl := (l.foldl f (f s x)).marl } := by rw [hf s x]

/-- Table 5-11: clearing the PEAK gauges of a group changes the switch alone. -/
theorem State.clearPeaks_frame (s : State) (a g : Nat) : s.clearPeaks a g = { s with marl := (s.clearPeaks a g).marl } := by
  unfold State.clearPeaks
  split
  · exact State.foldl_marl_frame (fun _ _ => rfl) _ s
  · have pools := State.foldl_marl_frame (f := fun s k => s.setPool k { s.pool k with peak := 0 }) (fun _ _ => rfl) poolCodes s
    rw [pools]; rfl
  · rfl

/-! ## The buffer of a command (R463, R466) -/

@[simp] theorem State.logPage_hosts_running (s : State) (h sl p : Nat) : (s.logPage h sl p).hosts.running = s.hosts.running := by
  simp only [State.logPage]
  split_ifs <;> rfl

@[simp] theorem State.hostWrite_hosts_running (s : State) (h sl : Nat) (a : BitVec 64) (b : List Byte) :
    (s.hostWrite h sl a b).hosts.running = s.hosts.running := by
  have pages : ∀ (l : List Nat) (q : Nat) (u : State), (l.foldl (fun s k => s.logPage h sl (q + k)) u).hosts.running = u.hosts.running := by
    intro l q
    induction l with
    | nil => intro u; rfl
    | cons x l ih => intro u; simp [ih]
  simp only [State.hostWrite]
  split
  · rfl
  · rw [pages]; rfl

@[simp] theorem State.bufferWrite_hosts_running (s : State) (c : Cmd) (a : Nat) (b : List Byte) :
    (s.bufferWrite c a b).hosts.running = s.hosts.running := by
  unfold State.bufferWrite
  split
  · rfl
  · rfl
  · split
    · exact s.hostWrite_hosts_running ..
    · rfl

/-! ## Counter captures (R17, R18, R466) -/

/-- R466: what a capture leaves: nothing changed but the gauges of the switch and the buffer, of host software or of the management controller. -/
def State.capturedFrom (u b : State) : Prop := u = { b with marl := u.marl, hosts := u.hosts, mgmt := u.mgmt, out := u.out }

theorem State.capturedFrom_fields {u b : State} (h : u.capturedFrom b) :
    u.ports = b.ports ∧ u.tunnels = b.tunnels ∧ u.xfer = b.xfer ∧ u.power = b.power ∧ u.mem = b.mem ∧ u.silt = b.silt
      ∧ u.cluster = b.cluster ∧ u.clock = b.clock ∧ u.boot = b.boot ∧ u.lock = b.lock := by
  unfold State.capturedFrom at h
  rw [h]
  exact ⟨rfl, rfl, rfl, rfl, rfl, rfl, rfl, rfl, rfl, rfl⟩

/-- The values of groups of an agent as bytes, in the order of the groups. -/
def State.captureBytes (s : State) (c : Cmd) (a : Nat) (gs : List Nat) : List Byte :=
  ((gs.map fun g => s.counters a g (c.smallSlice.map Prod.snd)).flatten.map fun v => toLe 8 v.toNat).flatten

/-- Table 10-8: the result bytes of a capture: the bytes written, and its stamp. -/
def State.captureResult (s : State) (c : Cmd) (a : Nat) (gs : List Nat) : List Byte :=
  toLe 4 ((s.captureBytes c a gs).take (le c.payload 16 4)).length ++ toLe 4 0 ++ toLe 8 (s.captureTime a).1.toNat

/-- R466: a capture whose buffer can be written, by another origin than D, completes OK with the bytes it wrote and the stamp of the state it captured. -/
theorem State.giveCounters_completesOk {s : State} {i : CmdInfo} {c : Cmd} (run : s.isRunning c i.opcode = true)
    (acc : c.accessFailed = false) (origin : c.route ≠ .diag) (a : Nat) (gs : List Nat) (more : List Byte → List Byte) :
    CompletesOk (.next (s.giveCounters c i.opcode a gs more)) i c (fun _ => more (s.captureResult c a gs)) (fun u => u.capturedFrom s) := by
  have cleared := State.foldl_marl_frame (fun s g => s.clearPeaks_frame a g) gs s
  have given : s.giveCounters c i.opcode a gs more
      = ((gs.foldl (fun s g => s.clearPeaks a g) s).bufferWrite c (le c.payload 8 8) ((s.captureBytes c a gs).take (le c.payload 16 4))).ok
          c i.opcode (more (s.captureResult c a gs)) := by
    simp [State.giveCounters, acc, origin, State.captureResult, State.captureBytes]
  rw [given]
  refine completesOk_of_eq_ok ?_ rfl ?_
  · rw [State.isRunning_congr (State.bufferWrite_hosts_running ..), cleared]
    exact run
  · rw [cleared]
    unfold State.capturedFrom
    rw [State.bufferWrite_frame]

theorem exec_devIdentify (c : Cmd) (s : State) : exec (.devIdentify c) s = execDevIdentify c s := rfl
theorem exec_devConfigLock (c : Cmd) (s : State) : exec (.devConfigLock c) s = execDevConfigLock c s := rfl
theorem exec_counterRead (c : Cmd) (s : State) : exec (.counterRead c) s = execCounterRead c s := rfl
theorem exec_snapshot (c : Cmd) (s : State) : exec (.snapshot c) s = execSnapshot c s := rfl

/-- Settles O8: each of the four commands answers OK in the state its effect leaves; for the two captures that state is the one captured but for gauges and buffer. -/
theorem deviceCommandsComplete : Obligations.DeviceCommandsComplete := by
  refine ⟨?identify, ?configLock, ?counterRead, ?snapshot⟩
  case identify =>
    intro c s h _
    rw [exec_devIdentify]
    exact completesOk_command h (completesOk_of_eq_ok (s.carried_isRunning ..) rfl rfl)
  case configLock =>
    intro c s h _
    have run := s.carried_isRunning infoDevConfigLock c (checksDevConfigLock c s)
    rw [exec_devConfigLock]
    exact completesOk_command h (completesOk_of_eq_ok ((State.isRunning_setLock ..).trans run) rfl rfl)
  case counterRead =>
    intro c s h ⟨acc, origin⟩
    have given := State.giveCounters_completesOk (s.carried_isRunning infoCounterRead c (checksCounterRead c)) acc origin
      (byteAt c.payload 0) [byteAt c.payload 1] id
    simp only [State.captureResult, State.captureBytes, List.map_singleton, List.flatten_singleton, id_eq] at given
    rw [exec_counterRead]
    exact completesOk_command h (given.imp fun _ => State.capturedFrom_fields)
  case snapshot =>
    intro c s h ⟨acc, origin⟩
    have given := State.giveCounters_completesOk (s.carried_isRunning infoSnapshot c (checksSnapshot c)) acc origin
      (byteAt c.payload 0) (agentGroups (byteAt c.payload 0))
      fun r => putBytes r 4 (toLe 1 (flag ((s.carried infoSnapshot c (checksSnapshot c)).captureTime (byteAt c.payload 0)).2))
    rw [exec_snapshot]
    exact completesOk_command h (given.imp fun _ => State.capturedFrom_fields)

end Sys2Proof.Machine
end

section
/-! PROOFS. The clock events: slews, followers, loss and return of the reference clocks, PTM dialogues (R24, R341 to R344). -/

namespace Sys2Proof.Machine

/-- An instruction whose outcome is known gives what holds of that state. -/
theorem Gives.of_eq {i : Instr} {s t : State} {P : State → Prop} (h : exec i s = .next t) (hP : P t) : Gives i s P := ⟨t, h, hP⟩

/-! ## What an occurrence of an alarm does to the alarms (R426) -/

theorem State.alarm_congr {s t : State} (h : t.silt.alarms = s.silt.alarms) (j : Nat) : t.alarm j = s.alarm j := by
  simp only [State.alarm, h]

@[simp] theorem State.alarm_trace (s : State) (a g o j : Nat) : (s.trace a g o).alarm j = s.alarm j := by
  refine State.alarm_congr ?_ j
  simp only [State.trace]
  split_ifs <;> rfl

@[simp] theorem State.alarm_event (s : State) (n j : Nat) : (s.event n).alarm j = s.alarm j := State.alarm_congr (by simp) j

@[simp] theorem State.alarm_modClock (s : State) (f : Clock → Clock) (j : Nat) : (s.modClock f).alarm j = s.alarm j := rfl

/-- R426: an alarm that occurs is latched and carries its condition; no other alarm changes. -/
@[simp] theorem State.alarm_alarmOccur (s : State) (a o : Nat) (c : Bool) (j : Nat) :
    (s.alarmOccur a o c).alarm j = if j = a then
      { s.alarm a with latch := true, acked := false, occur := satAdd 16 (s.alarm a).occur 1, object := BitVec.ofNat 32 o, cond := c }
    else s.alarm j := by
  rw [← State.alarm_setAlarm]
  refine State.alarm_congr ?_ j
  simp only [State.alarmOccur]
  split_ifs <;> simp

/-! ## Switching between the reference clocks (R341) -/

@[simp] theorem State.switchRef_clock (s : State) (b : Bool) :
    (s.switchRef b).clock = { s.clock with srcB := b, switches := s.clock.switches + 1 } := by
  simp [State.switchRef]

@[simp] theorem State.alarm_switchRef (s : State) (b : Bool) (j : Nat) : (s.switchRef b).alarm j = s.alarm j := by
  simp [State.switchRef]

/-- A switch changes the clock and is traced. -/
theorem State.switchRef_frame (s : State) (b : Bool) :
    s.switchRef b = { s with clock := (s.switchRef b).clock, silt := (s.switchRef b).silt, freeCtr := (s.switchRef b).freeCtr } := by
  unfold State.switchRef
  rw [State.trace_frame]
  rfl

@[simp] theorem State.switchRef_ports (s : State) (b : Bool) : (s.switchRef b).ports = s.ports := by rw [State.switchRef_frame]
@[simp] theorem State.switchRef_tunnels (s : State) (b : Bool) : (s.switchRef b).tunnels = s.tunnels := by rw [State.switchRef_frame]

/-- R340: the clock with an input marked valid or not. -/
def Clock.setValid (k : Clock) (b v : Bool) : Clock := if b then { k with bValid := v } else { k with aValid := v }

/-- R340: the clock with an input valid since an instant. -/
def Clock.validSince (k : Clock) (b : Bool) (t : Time) : Clock := if b then { k with bValid := true, bSince := t } else { k with aValid := true, aSince := t }

/-- Marking an input valid or invalid leaves the validity of the other, and the rest of the clock, alone. -/
theorem Clock.setValid_fields (k : Clock) (b v : Bool) :
    (k.setValid b v).valid b = v ∧ (k.setValid b v).valid (!b) = k.valid (!b) ∧ (k.setValid b v).now = k.now ∧ (k.setValid b v).trim = k.trim
      ∧ (k.setValid b v).srcB = k.srcB ∧ (k.setValid b v).holdover = k.holdover ∧ (k.setValid b v).switches = k.switches := by
  cases b <;> exact ⟨rfl, rfl, rfl, rfl, rfl, rfl, rfl⟩

theorem Clock.validSince_fields (k : Clock) (b : Bool) (t : Time) :
    (k.validSince b t).valid b = true ∧ (k.validSince b t).valid (!b) = k.valid (!b) ∧ (k.validSince b t).srcB = k.srcB
      ∧ (k.validSince b t).holdover = k.holdover ∧ (if b then (k.validSince b t).bSince else (k.validSince b t).aSince) = t := by
  cases b <;> exact ⟨rfl, rfl, rfl, rfl, rfl⟩

/-! ## Slews and followers (R24, R343) -/

theorem exec_slewOffsetRemoved (s : State) : exec .slewOffsetRemoved s = execSlewOffsetRemoved s := rfl

/-- R343: with less than 1 ns left the slew ends; the trim stays. -/
theorem slewOffsetRemoved_ends {s : State} (h : s.clock.slewLeft.natAbs < 2 ^ 32) :
    exec .slewOffsetRemoved s = .next { s with clock := { s.clock with slewLeft := 0 } } := by
  rw [exec_slewOffsetRemoved, execSlewOffsetRemoved, if_pos h]
  rfl

theorem slewOffsetRemoved_not_due {s : State} (h : 2 ^ 32 ≤ s.clock.slewLeft.natAbs) : exec .slewOffsetRemoved s = .next s := by
  rw [exec_slewOffsetRemoved, execSlewOffsetRemoved, if_neg (Nat.not_lt.mpr h)]

/-- Adding an agent to the invalid followers, once. -/
theorem contains_addOnce (l : List Nat) (a j : Nat) :
    (if l.contains a then l else a :: l).contains j = (decide (j = a) || l.contains j) := by
  split_ifs with h
  · by_cases e : j = a <;> simp_all
  · simp

/-- R24: a follower that is invalid is among the invalid ones, which else stay as they were, and its event is raised. -/
theorem followerInvalid_gives (a : Fin 28) (s : State) : Gives (.followerInvalid a) s fun t =>
    (∀ j, t.clock.invalidFollowers.contains j = (decide (j = a.val) || s.clock.invalidFollowers.contains j))
      ∧ t = { s with clock := { s.clock with invalidFollowers := t.clock.invalidFollowers }, cluster := t.cluster, power := t.power } := by
  refine Gives.of_eq (show _ = execFollowerInvalid a s from rfl) ⟨fun j => ?_, ?_⟩
  · rw [State.event_clock]
    exact contains_addOnce ..
  · rw [State.event_frame]
    rfl

/-! ## Loss of a reference clock (R340 to R342) -/

/-- R340: an input marked invalid, with alarm 3 and its event. -/
def State.refMarkedLost (s : State) (n : Fin 2) (b : Bool) : State :=
  ((s.modClock (·.setValid b false)).alarmOccur 3 (n + 256 * flag (decide (s.clock.srcB ≠ b))) true).event 0x1C3

theorem exec_refclkLost {n : Fin 2} {s : State} {b : Bool} (hb : decide (n.val = 1) = b) (h : s.clock.valid b = true) :
    exec (.refclkLost n) s = .next (if s.clock.srcB ≠ b then s.refMarkedLost n b
      else if s.clock.valid !b then (s.refMarkedLost n b).switchRef !b
      else ((s.refMarkedLost n b).modClock fun k => { k with holdover := true }).alarmOccur 4 0 true) := by
  have other : (s.refMarkedLost n b).clock.valid (!b) = s.clock.valid (!b) := by
    simp [State.refMarkedLost, State.modClock, Clock.setValid_fields]
  rw [← other]
  show execRefclkLost n s = _
  simp only [execRefclkLost, hb, h, Bool.not_true, Bool.false_eq_true, if_false, decide_eq_true_eq, apply_ite Host.Outcome.next]
  rfl

/-- An input marked invalid: the clock changes in that alone, alarm 3 is latched with its condition. -/
theorem State.refMarkedLost_fields (s : State) (n : Fin 2) (b : Bool) :
    (s.refMarkedLost n b).clock = s.clock.setValid b false ∧ (s.refMarkedLost n b).ports = s.ports ∧ (s.refMarkedLost n b).tunnels = s.tunnels
      ∧ ((s.refMarkedLost n b).alarm 3).latch = true ∧ ((s.refMarkedLost n b).alarm 3).cond = true := by
  simp [State.refMarkedLost, State.modClock]

/-- R340 to R342: the loss of a reference: of the standby, of the selected one with the other valid (a switch), and with the other invalid (holdover). -/
theorem refclkLost_gives (n : Fin 2) {s : State} (h : s.clock.valid (decide (n.val = 1)) = true) : Gives (.refclkLost n) s fun t =>
    let b := decide (n.val = 1)
    t.clock.valid b = false ∧ t.clock.valid (!b) = s.clock.valid (!b) ∧ (t.alarm 3).latch = true ∧ (t.alarm 3).cond = true
      ∧ t.clock.now = s.clock.now ∧ t.clock.trim = s.clock.trim ∧ t.ports = s.ports ∧ t.tunnels = s.tunnels
      ∧ (s.clock.srcB ≠ b → t.clock.srcB = s.clock.srcB ∧ t.clock.holdover = s.clock.holdover ∧ t.clock.switches = s.clock.switches)
      ∧ (s.clock.srcB = b → s.clock.valid (!b) = true →
          t.clock.srcB = !b ∧ t.clock.switches = s.clock.switches + 1 ∧ t.clock.holdover = s.clock.holdover)
      ∧ (s.clock.srcB = b → s.clock.valid (!b) = false →
          t.clock.holdover = true ∧ t.clock.srcB = b ∧ (t.alarm 4).latch = true ∧ t.clock.switches = s.clock.switches) := by
  refine Gives.of_eq (exec_refclkLost rfl h) ?_
  generalize decide (n.val = 1) = b
  obtain ⟨clock, ports, tunnels, latch, cond⟩ := s.refMarkedLost_fields n b
  obtain ⟨own, other, now, trim, src, hold, switches⟩ := s.clock.setValid_fields b false
  rw [← clock] at own other now trim src hold switches
  split_ifs with standby valid
  · -- the standby is lost
    simp_all
  · -- the selected one is lost, the other is switched to
    simp_all [Clock.valid]
  · -- none is left: holdover
    simp_all [Clock.valid]

/-! ## Return of a reference clock (R340 to R342) -/

/-- R340: an input marked valid since now; alarm 3 ends where both are. -/
def State.refMarkedValid (s : State) (b : Bool) : State :=
  let u := s.modClock (·.validSince b s.now)
  if u.clock.aValid && u.clock.bValid then u.alarmEnd 3 else u

/-- R341, R342: a valid reference is switched to where the selected one is not valid. -/
def State.refSelected (s : State) (b : Bool) : State :=
  if (s.refMarkedValid b).clock.valid (s.refMarkedValid b).clock.srcB then s.refMarkedValid b else (s.refMarkedValid b).switchRef b

theorem exec_refclkValid {n : Fin 2} {s : State} {b : Bool} (hb : decide (n.val = 1) = b) (h : s.clock.valid b = false) :
    exec (.refclkValid n) s = .next (if (s.refSelected b).clock.holdover
      then (((s.refSelected b).modClock fun k => { k with holdover := false }).alarmEnd 4).event 0x1C3 else s.refSelected b) := by
  show execRefclkValid n s = _
  simp only [execRefclkValid, hb, h, Bool.false_eq_true, if_false]
  rfl

theorem exec_refclkValid_already {n : Fin 2} {s : State} (h : s.clock.valid (decide (n.val = 1)) = true) : exec (.refclkValid n) s = .next s :=
  if_pos h

/-- An input marked valid: the clock changes in that alone. -/
theorem State.refMarkedValid_fields (s : State) (b : Bool) :
    (s.refMarkedValid b).clock = s.clock.validSince b s.now ∧ (s.refMarkedValid b).ports = s.ports ∧ (s.refMarkedValid b).tunnels = s.tunnels := by
  simp only [State.refMarkedValid]
  split_ifs <;> simp [State.modClock]

/-- With input `b` valid, the selected input is valid if it is `b` or the other one is valid. -/
theorem Clock.validSince_srcB (k : Clock) (b : Bool) (t : Time) :
    (k.validSince b t).valid (k.validSince b t).srcB = true ↔ k.srcB = b ∨ k.valid (!b) = true := by
  obtain ⟨own, other, src, -, -⟩ := k.validSince_fields b t
  rw [src, ← other]
  by_cases e : k.srcB = b
  · simp [e, own]
  · have n : k.srcB = !b := Bool.eq_not_of_ne e
    simp [n]

/-- The selected input is kept where it is valid, else the input that is valid again is selected; ports and tunnels stay. -/
theorem State.refSelected_fields (s : State) (b : Bool) :
    let k := (s.refSelected b).clock
    k.valid b = true ∧ k.valid (!b) = s.clock.valid (!b) ∧ k.srcB = (if s.clock.srcB = b ∨ s.clock.valid (!b) = true then s.clock.srcB else b)
      ∧ (if b then k.bSince else k.aSince) = s.now ∧ (s.refSelected b).ports = s.ports ∧ (s.refSelected b).tunnels = s.tunnels := by
  obtain ⟨clock, ports, tunnels⟩ := s.refMarkedValid_fields b
  obtain ⟨own, other, src, -, since⟩ := s.clock.validSince_fields b s.now
  unfold State.refSelected
  rw [clock]
  by_cases e : s.clock.srcB = b ∨ s.clock.valid (!b) = true
  · rw [if_pos ((s.clock.validSince_srcB b s.now).mpr e), if_pos e, clock]
    exact ⟨own, other, src, since, ports, tunnels⟩
  · rw [if_neg (mt (s.clock.validSince_srcB b s.now).mp e), if_neg e, State.switchRef_clock, clock, State.switchRef_ports, State.switchRef_tunnels]
    exact ⟨own, other, rfl, since, ports, tunnels⟩

/-- R340 to R342: a reference is valid again. -/
theorem refclkValid_gives (n : Fin 2) {s : State} (h : s.clock.valid (decide (n.val = 1)) = false) : Gives (.refclkValid n) s fun t =>
    let b := decide (n.val = 1)
    t.clock.valid b = true ∧ t.clock.valid (!b) = s.clock.valid (!b) ∧ t.clock.holdover = false
      ∧ t.clock.srcB = (if s.clock.srcB = b ∨ s.clock.valid (!b) = true then s.clock.srcB else b)
      ∧ (if b then t.clock.bSince else t.clock.aSince) = s.now ∧ t.ports = s.ports ∧ t.tunnels = s.tunnels := by
  refine Gives.of_eq (exec_refclkValid rfl h) ?_
  generalize decide (n.val = 1) = b
  obtain ⟨own, other, src, since, ports, tunnels⟩ := s.refSelected_fields b
  split_ifs with hold
  · simp_all [State.modClock, Clock.valid]
  · simp_all

/-! ## The preferred reference and PTM (R341, R344) -/

/-- R341: the preferred input, valid for 10 s and not selected, is switched to. -/
theorem exec_preferredReturn {s : State} (mode : s.clock.mode ≤ 1) (src : s.clock.srcB ≠ decide (s.clock.mode = 1))
    (valid : s.clock.valid (decide (s.clock.mode = 1)) = true)
    (long : 10000000000 ≤ (s.now - if s.clock.mode = 1 then s.clock.bSince else s.clock.aSince).toNat) :
    exec .preferredReturn s = .next (s.switchRef (decide (s.clock.mode = 1))) := by
  refine if_pos ?_
  simp only [mode, src, valid, ne_eq, not_false_eq_true, decide_true, Bool.and_self, Bool.true_and, decide_eq_true_eq]
  exact long

theorem exec_ptmDialogue {h : Fin 2} {s : State} (t1 master : BitVec 64) (delay : BitVec 32) (en : (s.hp h).ptmEn = true)
    (up : (s.hp h).linkUp = true) (on : s.domainOff 7 = false) :
    exec (.ptmDialogue h t1 master delay) s = .next
      ((s.setHp h { s.hp h with ptmLocal := t1, ptmMaster := master, ptmDelay := delay, ptmSeq := (s.hp h).ptmSeq + 1 }).event (evHp h 6)) :=
  if_pos (by simp [en, up, on])

@[simp] theorem State.hp_setHp_self (s : State) (h : Nat) (v : HostPort) : (s.setHp h v).hp h = v := by
  unfold State.setHp State.hp
  split_ifs <;> rfl

@[simp] theorem State.hp_setHp_other (s : State) (h : Fin 2) (v : HostPort) : (s.setHp h v).hp (1 - h) = s.hp (1 - h) := by
  fin_cases h <;> rfl

theorem State.setHp_frame (s : State) (h : Nat) (v : HostPort) : s.setHp h v = { s with hosts := (s.setHp h v).hosts } :=
  State.eq_of_fields

@[simp] theorem State.hp_event (s : State) (n h : Nat) : (s.event n).hp h = s.hp h := by
  simp [State.hp]

/-- R344: a dialogue of a port changes that port's results and raises its event. -/
theorem ptmDialogue_gives (h : Fin 2) (t1 master : BitVec 64) (delay : BitVec 32) {s : State} (en : (s.hp h).ptmEn = true)
    (up : (s.hp h).linkUp = true) (on : s.domainOff 7 = false) : Gives (.ptmDialogue h t1 master delay) s fun t =>
    t.hp h = { s.hp h with ptmLocal := t1, ptmMaster := master, ptmDelay := delay, ptmSeq := (s.hp h).ptmSeq + 1 }
      ∧ t.hp (1 - h) = s.hp (1 - h) ∧ t = { s with hosts := t.hosts, cluster := t.cluster, power := t.power } := by
  refine Gives.of_eq (exec_ptmDialogue t1 master delay en up on) ⟨?_, ?_, ?_⟩
  · simp
  · simp
  · rw [State.event_frame, State.setHp_frame]

/-- Settles O36: each event has the outcome that its lemma above gives. -/
theorem clockEvents : Obligations.ClockEvents := by
  refine ⟨?slewEnds, ?slewGoesOn, ?invalid, ?fullValue, ?lost, ?valid, ?already, ?preferred, ?ptm⟩
  case slewEnds => exact fun s h => Gives.of_eq (slewOffsetRemoved_ends h) rfl
  case slewGoesOn => exact fun s h => slewOffsetRemoved_not_due h
  case invalid => exact followerInvalid_gives
  case fullValue => exact fun s => ⟨_, rfl, rfl⟩
  case lost => exact fun n s h => refclkLost_gives n h
  case valid => exact fun n s h => refclkValid_gives n h
  case already => exact fun n s h => exec_refclkValid_already h
  case preferred =>
    intro s mode src valid long
    exact Gives.of_eq (exec_preferredReturn mode src valid long) ⟨State.switchRef_clock .., State.switchRef_frame ..⟩
  case ptm => exact fun h t1 master delay s en up on => ptmDialogue_gives h t1 master delay en up on

end Sys2Proof.Machine
end

section
/-! PROOFS. DPI_CFG on an enabled input (R346): the model compares payload bytes, the statement the stored numbers. They differ on a state that stores a rate of more than one byte, which refutes O35. -/

namespace Sys2Proof.Machine

/-- R346: the configuration of an input that a DPI_CFG payload names, over the input as it stands. -/
def Dpi.configured (d : Dpi) (b : List Byte) : Dpi := { d with rate := byteAt b 1, streams := byteAt b 2, enabled := bitOf (byteAt b 3) 0 }

@[simp] theorem State.dpi_ok (s : State) (c : Cmd) (op : Nat) (r : List Byte) (n : Nat) : (s.ok c op r).dpi n = s.dpi n := by
  simp [State.dpi]

/-- R346, R415: a DPI_CFG whose payload is byte for byte the one in force leaves the main link of the input alone. -/
theorem exec_dpiCfg_of_value_eq {c : Cmd} {s t : State} (h : s.mayCarry infoDpiCfg c (checksDpiCfg c s) = true)
    (same : ((s.dpi (byteAt c.payload 0)).configured c.payload).value (byteAt c.payload 0) = (s.dpi (byteAt c.payload 0)).value (byteAt c.payload 0))
    (ht : exec (.dpiCfg c) s = .next t) : t.dpi (byteAt c.payload 0) = (s.dpi (byteAt c.payload 0)).configured c.payload := by
  change execDpiCfg c s = _ at ht
  rw [execDpiCfg, State.command_of_mayCarry h] at ht
  injection ht with ht
  unfold Dpi.configured at same ⊢
  rw [← ht, State.dpi_ok, State.dpi_modDpi, if_pos rfl]
  simp only [same, ne_eq, not_true_eq_false, decide_false, Bool.and_false, Bool.false_eq_true, if_false]

/-- A completion leaves the DisplayPort inputs alone. -/
theorem State.dpi_completion (u : State) (c d : Cmd) (op n : Nat) (st : Status) (k : Nat) (r : List Byte) :
    ((u.endCmd c op).deliver d st k r).dpi n = u.dpi n := by
  simp [State.dpi]

/-- Input 0 enabled and trained, with a stored rate of 256, whose byte is that of rate 0. -/
def wideRate : State := State.reset.modDpi 0 fun _ => { enabled := true, rate := 256, trained := true }

/-- DPI_CFG of input 0 with rate 0, one stream, enabled. -/
def dpiRateZero : Cmd := { route := .mgmt, payload := [0, 0, 1, 1] }

theorem dpiRateZero_mayCarry : wideRate.mayCarry infoDpiCfg dpiRateZero (checksDpiCfg dpiRateZero wideRate) = true := by decide +kernel

/-- Refutes O35: where an enabled input stores rate 256, a DPI_CFG of rate 0 changes the stored rate, but the payload bytes in force are the same, so the main link stays trained. The statement ranges over every state; DPI_CFG itself stores no rate above 5. -/
theorem not_edgeCommandsTakeEffect : ¬ Obligations.EdgeCommandsTakeEffect := by
  rintro ⟨-, -, -, -, dpiCfg, -⟩
  obtain ⟨u, -, ran, rate, -, -, -, -, retrains, -⟩ := dpiCfg dpiRateZero wideRate dpiRateZero_mayCarry trivial
  have stays := exec_dpiCfg_of_value_eq dpiRateZero_mayCarry (by decide) ran
  rw [State.dpi_completion] at stays
  have changed : (u.dpi 0).rate ≠ 256 := by rw [show (u.dpi 0).rate = 0 from rate]; decide
  rw [State.carried_dpi] at retrains
  have ended : (u.dpi 0).trained = false := (retrains rfl fun e => changed e.1).1
  have trained : (u.dpi 0).trained = true := congrArg Dpi.trained stays
  rw [ended] at trained
  contradiction

end Sys2Proof.Machine
end

section
/-! PROOFS. What MGMT messages do to ports and tunnels: the shared operations behind them, and what each leaves alone (R15, R94 to R101, R115). -/

namespace Sys2Proof.Machine

/-! ## What traffic leaves alone -/

/-- R93, R94: every port keeps the messages it has received, its TERM_INFO and its training. -/
def State.RxKept (s t : State) : Prop :=
  ∀ p, (t.port p).mgmtRx = (s.port p).mgmtRx ∧ (t.port p).termInfo = (s.port p).termInfo ∧ (t.port p).train = (s.port p).train

theorem State.RxKept.refl (s : State) : s.RxKept s := fun _ => ⟨rfl, rfl, rfl⟩

theorem State.RxKept.trans {s t u : State} (h : s.RxKept t) (g : t.RxKept u) : s.RxKept u := fun p =>
  ⟨(g p).1.trans (h p).1, (g p).2.1.trans (h p).2.1, (g p).2.2.trans (h p).2.2⟩

theorem State.RxKept.of_ports {s t : State} (h : t.ports = s.ports) : s.RxKept t := fun p => by
  simp only [State.port, h, and_self]

/-- An update of a port that leaves its messages, TERM_INFO and training alone. -/
theorem State.RxKept.modPort (s : State) (p : Nat) {f : Port → Port}
    (hf : ∀ x, (f x).mgmtRx = x.mgmtRx ∧ (f x).termInfo = x.termInfo ∧ (f x).train = x.train) :
    s.RxKept (s.modPort p f) := fun q => by
  rw [State.port_modPort]
  split_ifs with e
  · rw [e]
    exact hf _
  · exact ⟨rfl, rfl, rfl⟩

/-- Every tunnel is as it was, and the ports as `RxKept` says. -/
structure State.LinksKept (s t : State) : Prop where
  tunnels : t.tunnels = s.tunnels
  rx : s.RxKept t

namespace State.LinksKept

theorem refl (s : State) : s.LinksKept s := ⟨rfl, .refl s⟩

theorem trans {s t u : State} (h : s.LinksKept t) (g : t.LinksKept u) : s.LinksKept u := ⟨g.tunnels.trans h.tunnels, h.rx.trans g.rx⟩

/-- A step that changes no port and no tunnel. -/
theorem of_eq {s t : State} (ports : t.ports = s.ports) (tunnels : t.tunnels = s.tunnels) : s.LinksKept t := ⟨tunnels, .of_ports ports⟩

theorem ite {s t u : State} {p : Prop} [Decidable p] (ht : s.LinksKept t) (hu : s.LinksKept u) : s.LinksKept (if p then t else u) := by
  split_ifs <;> assumption

theorem foldl {α : Type} {f : State → α → State} (hf : ∀ (s : State) (x : α), s.LinksKept (f s x)) (l : List α) :
    ∀ s : State, s.LinksKept (l.foldl f s) := by
  induction l with
  | nil => exact refl
  | cons x l ih => exact fun s => (hf s x).trans (ih (f s x))

end State.LinksKept

theorem State.LinksKept.tunnel {s t : State} (h : s.LinksKept t) (k : Nat) : t.tunnel k = s.tunnel k := by
  simp only [State.tunnel, h.tunnels]

/-! ## Marl: space, placement and admission (R121, R125, R133, R134) -/

theorem State.takeSpace_linksKept {s t : State} {cls : Nat} (h : s.takeSpace cls = some t) : s.LinksKept t := by
  simp only [State.takeSpace] at h
  split_ifs at h
  all_goals
    cases h
    exact .of_eq rfl rfl

theorem State.takeSpaces_linksKept (n cls : Nat) : ∀ s : State, s.LinksKept (State.takeSpaces n cls s).1 := by
  induction n with
  | zero => exact LinksKept.refl
  | succ n ih =>
    intro s
    unfold State.takeSpaces
    split
    case h_1 t h => exact (State.takeSpace_linksKept h).trans (ih t)
    case h_2 => exact .refl s

theorem State.freeSpace_linksKept (s : State) (cls : Nat) : s.LinksKept (s.freeSpace cls) := .ite (.of_eq rfl rfl) (.of_eq rfl rfl)

theorem State.freeSpaces_linksKept (n cls : Nat) : ∀ s : State, s.LinksKept (State.freeSpaces n cls s) := by
  induction n with
  | zero => exact LinksKept.refl
  | succ n ih => exact fun s => (s.freeSpace_linksKept cls).trans (ih (s.freeSpace cls))

theorem State.modMarl_linksKept (s : State) (f : Marl → Marl) : s.LinksKept (s.modMarl f) := .of_eq rfl rfl

theorem State.writeCell_linksKept (s : State) (agent q flow b : Nat) (c : Cell) : s.LinksKept (s.writeCell agent q flow b c) := .of_eq rfl rfl

theorem State.writesGoOn_linksKept (n : Nat) : ∀ s : State, s.LinksKept (State.writesGoOn n s) := by
  induction n with
  | zero => exact LinksKept.refl
  | succ n ih =>
    intro s
    unfold State.writesGoOn
    split
    · exact .refl s
    · split
      · exact .refl s
      · exact ((s.modMarl_linksKept _).trans (State.writeCell_linksKept ..)).trans (ih _)

theorem State.enqueueCell_linksKept (s : State) (agent q flow : Nat) (c : Cell) : s.LinksKept (s.enqueueCell agent q flow c) := by
  simp only [State.enqueueCell]
  split
  · exact s.writeCell_linksKept ..
  · exact (s.modMarl_linksKept _).trans (State.writesGoOn_linksKept ..)

theorem State.admitMgmt_linksKept (s : State) (p : Nat) (c : Cell) : s.LinksKept (s.admitMgmt p c) := by
  have waits : s.LinksKept (s.modCluster fun x => { x with mgmtOut := x.mgmtOut ++ [(p, c)] }) := .of_eq rfl rfl
  simp only [State.admitMgmt, State.admitLossless]
  refine .ite waits (.ite (.ite (.refl s) ((s.modMarl_linksKept _).trans (State.enqueueCell_linksKept ..))) ?_)
  split
  case h_1 t h => exact (State.takeSpace_linksKept h).trans (t.enqueueCell_linksKept ..)
  case h_2 => exact waits

/-! ## Completions and notices -/

theorem State.completeOpt_linksKept (s : State) (c : Option Cmd) (op : Nat) (st : Status) (d : Nat) (r : List Byte) :
    s.LinksKept (s.completeOpt c op st d r) := .of_eq (by simp) (by simp)

theorem State.tunnelNotice_linksKept (s : State) (tid code : Nat) (st : Status) : s.LinksKept (s.tunnelNotice tid code st) :=
  .of_eq (State.noticeOwner_ports ..) (State.noticeOwner_tunnels ..)

/-! ## Roots of the USB host engine (R150, R165, R174, R179) -/

theorem State.modXfer_linksKept (s : State) (f : Xfer → Xfer) : s.LinksKept (s.modXfer f) := .of_eq rfl rfl

theorem State.modRoot_linksKept (s : State) (r : Nat) (f : Root → Root) : s.LinksKept (s.modRoot r f) := .of_eq rfl rfl

theorem State.modEp_linksKept (s : State) (e : Nat) (f : Ep → Ep) : s.LinksKept (s.modEp e f) := .of_eq rfl rfl

theorem State.dropRequests_linksKept (s : State) (e : Nat) : s.LinksKept (s.dropRequests e) := .of_eq rfl rfl

theorem State.enginePost_linksKept (s : State) (h sl q : Nat) (e : CqEntry) (slot : Bool) : s.LinksKept (s.enginePost h sl q e slot) :=
  .ite (.of_eq rfl rfl) (.of_eq rfl rfl)

theorem State.endChain_linksKept (s : State) (e : Nat) (st : Status) (x : Nat) (short : Bool) : s.LinksKept (s.endChain e st x short) := by
  simp only [State.endChain]
  split
  · refine LinksKept.trans (.trans ?_ (State.modXfer_linksKept ..)) (State.enginePost_linksKept ..)
    exact .ite (.of_eq rfl rfl) (.refl s)
  · exact .refl s

theorem State.stopEp_linksKept (s : State) (e : Nat) (st : Status) (x : Nat) (dst : EpState) : s.LinksKept (s.stopEp e st x dst) := by
  unfold State.stopEp
  exact ((s.dropRequests_linksKept e).trans (State.endChain_linksKept ..)).trans (State.modEp_linksKept ..)

theorem State.disableEp_linksKept (s : State) (e : Nat) (st : Status) (g : BitVec 8) : s.LinksKept (s.disableEp e st g) :=
  (s.stopEp_linksKept e st 0 .disabled).trans (.ite (State.modXfer_linksKept ..) (State.modXfer_linksKept ..))

theorem State.usbError_linksKept (s : State) (e : Nat) : s.LinksKept (s.usbError e) :=
  .ite (s.stopEp_linksKept ..) (s.modXfer_linksKept _)

theorem State.rootNotice_linksKept (s : State) (r code tport : Nat) : s.LinksKept (s.rootNotice r code tport) := by
  simp only [State.rootNotice]
  split <;> exact .of_eq (by simp) (by simp)

/-- A root is changed, and a notice of it posted. -/
theorem State.rootTold_linksKept (s : State) (r code : Nat) (f : Root → Root) : s.LinksKept ((s.modRoot r f).rootNotice r code 0) :=
  (s.modRoot_linksKept r f).trans (State.rootNotice_linksKept ..)

theorem State.endRootCmds_linksKept (s : State) (r : Nat) (st : Status) : s.LinksKept (s.endRootCmds r st) :=
  .of_eq (by simp [State.endRootCmds]) (by simp [State.endRootCmds])

theorem State.loseRequests_linksKept (s : State) (r : Nat) : s.LinksKept (s.loseRequests r) := by
  unfold State.loseRequests
  exact (s.modRoot_linksKept r _).trans (LinksKept.foldl State.usbError_linksKept _ _)

theorem State.rootHeld_linksKept (s : State) (r : Nat) : s.LinksKept (s.rootHeld r) :=
  .ite (.refl s) ((s.loseRequests_linksKept r).trans (State.rootTold_linksKept ..))

theorem State.rootRestored_linksKept (s : State) (r : Nat) : s.LinksKept (s.rootRestored r) := by
  simp only [State.rootRestored]
  refine LinksKept.trans (t := if (s.root r).held then (s.modRoot r fun x => { x with held := false }).rootNotice r 0x19 0 else s) ?_ ?_
  · exact .ite (State.rootTold_linksKept ..) (.refl s)
  · exact .ite (State.rootTold_linksKept ..) (.refl _)

theorem State.rootGone_linksKept (s : State) (r : Nat) : s.LinksKept (s.rootGone r) := by
  have disabled := LinksKept.foldl (f := fun s e => s.disableEp e .linkLost (match (s.ep e).owner with
    | some (h, sl) => (s.slice h sl).gen
    | none => 0)) (fun u e => u.disableEp_linksKept e _ _) (s.rootEps r) s
  refine .ite (s.modRoot_linksKept r _) ?_
  exact ((disabled.trans (State.modXfer_linksKept ..)).trans (State.endRootCmds_linksKept ..)).trans (State.rootTold_linksKept ..)

theorem State.rootFollows_linksKept (s : State) (p : Nat) : s.LinksKept (s.rootFollows p) :=
  .ite (s.rootGone_linksKept _) (.ite (s.rootHeld_linksKept _) (.ite (.refl s) (s.rootRestored_linksKept _)))

/-! ## Credit and requests of a port (R66, R84, R94, R95, R135) -/

theorem State.modPort_linksKept (s : State) (p : Nat) {f : Port → Port}
    (hf : ∀ x, (f x).mgmtRx = x.mgmtRx ∧ (f x).termInfo = x.termInfo ∧ (f x).train = x.train := by exact fun _ => ⟨rfl, rfl, rfl⟩) :
    s.LinksKept (s.modPort p f) := ⟨rfl, .modPort s p hf⟩

theorem State.request_linksKept (s : State) (p msg tid : Nat) (body : List Byte) : s.LinksKept (s.request p msg tid body) :=
  (s.modPort_linksKept p).trans (State.admitMgmt_linksKept ..)

theorem State.sendOpen_linksKept (s : State) (tid : Nat) : s.LinksKept (s.sendOpen tid) :=
  (s.modPort_linksKept _).trans (State.request_linksKept ..)

theorem State.dropAwaits_linksKept (s : State) (p tid : Nat) : s.LinksKept (s.dropAwaits p tid) := s.modPort_linksKept p

theorem State.releaseTun_linksKept (s : State) (p tun cls keep : Nat) : s.LinksKept (s.releaseTun p tun cls keep) := by
  unfold State.releaseTun
  exact (State.freeSpaces_linksKept _ cls s).trans (State.modPort_linksKept _ p)

theorem State.grant_linksKept (s : State) (p tun cls window queued : Nat) : s.LinksKept (s.grant p tun cls window queued) := by
  simp only [State.grant]
  refine LinksKept.ite ?_ ?_
  · exact (State.takeSpaces_linksKept _ cls s).trans (State.modPort_linksKept _ p)
  · exact ((State.takeSpaces_linksKept _ cls s).trans (State.modPort_linksKept _ p)).trans (State.modPort_linksKept _ p)

theorem State.grantTun_linksKept (s : State) (p tun : Nat) : s.LinksKept (s.grantTun p tun) := by
  refine .ite (s.grant_linksKept ..) ?_
  split
  · simp only
    split
    · exact .ite (s.grant_linksKept ..) (.refl s)
    · exact .refl s
  · exact .refl s

/-! ## Restores and waiting plan tunnels (R115, R118) -/

theorem State.setTunnel_rxKept (s : State) (tid : Nat) (v : Tunnel) : s.RxKept (s.setTunnel tid v) := .of_ports rfl

/-- The ports as `RxKept` says, and the canonical form of the tunnel table; every tunnel but those of `l` as it was. -/
structure State.OnlyTunnels (l : List Nat) (s t : State) : Prop where
  rx : s.RxKept t
  tunnel : ∀ k, k ∉ l → t.tunnel k = s.tunnel k
  wf : s.tunWf = true → t.tunWf = true

namespace State.OnlyTunnels

theorem refl (l : List Nat) (s : State) : State.OnlyTunnels l s s := ⟨.refl s, fun _ _ => rfl, id⟩

theorem trans {l : List Nat} {s t u : State} (h : State.OnlyTunnels l s t) (g : State.OnlyTunnels l t u) : State.OnlyTunnels l s u :=
  ⟨h.rx.trans g.rx, fun k n => (g.tunnel k n).trans (h.tunnel k n), fun w => g.wf (h.wf w)⟩

theorem of_linksKept {s t : State} (l : List Nat) (h : s.LinksKept t) : State.OnlyTunnels l s t :=
  ⟨h.rx, fun k _ => h.tunnel k, fun w => by rw [State.tunWf, h.tunnels]; exact w⟩

theorem setTunnel (s : State) {l : List Nat} {tid : Nat} (m : tid ∈ l) (v : Tunnel) : State.OnlyTunnels l s (s.setTunnel tid v) where
  rx := s.setTunnel_rxKept tid v
  tunnel k n := by
    have other : k ≠ tid := fun e => n (e ▸ m)
    rw [State.tunnel_setTunnel, if_neg other]
  wf := Tab.wf_set ({} : Tunnel) tid v s.tunnels

theorem foldl {f : State → Nat → State} (hf : ∀ s x, State.OnlyTunnels [x] s (f s x)) (l : List Nat) :
    ∀ s : State, State.OnlyTunnels l s (l.foldl f s) := by
  induction l with
  | nil => exact refl []
  | cons x l ih =>
    intro s
    have first : State.OnlyTunnels (x :: l) s (f s x) :=
      ⟨(hf s x).rx, fun k n => (hf s x).tunnel k fun m => n (List.mem_cons.mpr (.inl (List.mem_singleton.mp m))), (hf s x).wf⟩
    exact first.trans ⟨(ih _).rx, fun k n => (ih _).tunnel k fun m => n (List.mem_cons_of_mem x m), (ih _).wf⟩

end State.OnlyTunnels

theorem State.restoreOne_onlyTunnels (s : State) (tid : Nat) : State.OnlyTunnels [tid] s (s.restoreOne tid) := by
  have own : tid ∈ [tid] := List.mem_singleton_self tid
  simp only [State.restoreOne]
  split_ifs
  · exact (OnlyTunnels.setTunnel s own _).trans (.of_linksKept _ (State.sendOpen_linksKept ..))
  · exact .refl _ s
  · exact (OnlyTunnels.of_linksKept _ (s.tunnelNotice_linksKept tid 0x03 .ok)).trans (.setTunnel _ own _)

theorem State.planRefused_onlyTunnels (s : State) (tid : Nat) : State.OnlyTunnels [tid] s (s.planRefused tid) := by
  simp only [State.planRefused]
  split_ifs
  · exact .refl _ s
  · refine (OnlyTunnels.setTunnel s (List.mem_singleton_self tid) { s.tunnel tid with planTold := true }).trans (.of_linksKept _ ?_)
    exact .of_eq ((State.alarmOccur_ports ..).trans (State.record_ports ..)) ((State.alarmOccur_tunnels ..).trans (State.record_tunnels ..))

theorem State.planOne_onlyTunnels (s : State) (tid : Nat) : State.OnlyTunnels [tid] s (s.planOne tid) := by
  simp only [State.planOne]
  split_ifs
  · exact (OnlyTunnels.setTunnel s (List.mem_singleton_self tid) _).trans (.of_linksKept _ (State.sendOpen_linksKept ..))
  · exact s.planRefused_onlyTunnels tid

theorem Tab.lt_of_above {α : Type} {v : α} {j k : Nat} {t : List (Nat × α)} (a : Tab.above j t = true) (m : (k, v) ∈ t) : j < k := by
  induction t with
  | nil => cases m
  | cons e t ih =>
    simp only [Tab.above, Bool.and_eq_true, decide_eq_true_eq] at a
    obtain rfl | m := List.mem_cons.mp m
    · exact a.1
    · exact ih a.2 m

/-- In a table of canonical form an entry listed is the one read. -/
theorem Tab.get_of_mem {α : Type} [DecidableEq α] {d v : α} {k : Nat} {t : List (Nat × α)} (w : Tab.wf d t = true) (m : (k, v) ∈ t) :
    Tab.get d t k = v := by
  induction t with
  | nil => cases m
  | cons e t ih =>
    simp only [Tab.wf, Bool.and_eq_true] at w
    obtain ⟨⟨-, above⟩, rest⟩ := w
    obtain rfl | m := List.mem_cons.mp m
    · exact if_pos rfl
    · exact (if_neg (Nat.ne_of_gt (Tab.lt_of_above above m))).trans (ih rest m)

/-- A tunnel that a port lists in a state is in that state. -/
theorem State.state_of_mem_portTunnels {s : State} {p tid : Nat} {st : TunState} (w : s.tunWf = true) (m : tid ∈ s.portTunnels p st) :
    (s.tunnel tid).state = st := by
  simp only [State.portTunnels, List.mem_map, List.mem_filter, Bool.and_eq_true, decide_eq_true_eq] at m
  obtain ⟨⟨k, v⟩, ⟨listed, -, state⟩, rfl⟩ := m
  rw [← state]
  exact congrArg Tunnel.state (Tab.get_of_mem w listed)

theorem State.mem_portTunnels_of_mem_restoreOrder {s : State} {p tid : Nat} (m : tid ∈ s.restoreOrder p) : tid ∈ s.portTunnels p .orphan := by
  simp only [State.restoreOrder, List.mem_append, List.mem_filter] at m
  exact m.elim And.left And.left

/-- R115, R118: what the retries of a port do to a tunnel that is FREE: nothing. -/
theorem State.retryTunnels_keeps (s : State) (p : Nat) :
    s.RxKept (s.retryTunnels p) ∧ ∀ tid, s.tunWf = true → (s.tunnel tid).state = .free → (s.retryTunnels p).tunnel tid = s.tunnel tid := by
  have restored := OnlyTunnels.foldl State.restoreOne_onlyTunnels (s.restoreOrder p) s
  have planned := OnlyTunnels.foldl State.planOne_onlyTunnels
    (((((s.restoreOrder p).foldl State.restoreOne s).portTunnels p .opening).filter fun t =>
      (((s.restoreOrder p).foldl State.restoreOne s).tunnel t).planWait)) ((s.restoreOrder p).foldl State.restoreOne s)
  simp only [State.retryTunnels]
  split_ifs
  · refine ⟨restored.rx.trans planned.rx, fun tid w free => ?_⟩
    have kept := restored.tunnel tid fun m => by
      have := State.state_of_mem_portTunnels w (State.mem_portTunnels_of_mem_restoreOrder m)
      rw [free] at this
      contradiction
    refine (planned.tunnel tid fun m => ?_).trans kept
    have := State.state_of_mem_portTunnels (restored.wf w) (List.mem_of_mem_filter m)
    rw [kept, free] at this
    contradiction
  · exact ⟨.refl s, fun _ _ _ => rfl⟩

/-! ## A change of the firmware may still be committed (R419) -/

/-- What R419 asks of a change of the firmware, its records and its sinks, is as it was. -/
structure State.CommitsAlike (s t : State) : Prop where
  hold : t.power.hold = s.power.hold
  chained : t.silt.chained = s.silt.chained
  records : t.silt.records = s.silt.records
  deferred : t.silt.deferred = s.silt.deferred
  next : t.silt.next = s.silt.next
  sinks : t.sinkNexts = s.sinkNexts

namespace State.CommitsAlike

theorem refl (s : State) : s.CommitsAlike s := ⟨rfl, rfl, rfl, rfl, rfl, rfl⟩

theorem trans {s t u : State} (h : s.CommitsAlike t) (g : t.CommitsAlike u) : s.CommitsAlike u :=
  ⟨g.hold.trans h.hold, g.chained.trans h.chained, g.records.trans h.records, g.deferred.trans h.deferred, g.next.trans h.next, g.sinks.trans h.sinks⟩

theorem ite {s t u : State} {p : Prop} [Decidable p] (ht : s.CommitsAlike t) (hu : s.CommitsAlike u) : s.CommitsAlike (if p then t else u) := by
  split_ifs <;> assumption

/-- A step that changes neither the hold, nor the journal, nor a host port. -/
theorem of_eq {s t : State} (hold : t.power.hold = s.power.hold) (silt : t.silt = s.silt) (hp0 : t.hosts.hp0 = s.hosts.hp0) (hp1 : t.hosts.hp1 = s.hosts.hp1) :
    s.CommitsAlike t := by
  refine ⟨hold, ?_, ?_, ?_, ?_, ?_⟩ <;> simp only [State.sinkNexts, silt, hp0, hp1]

theorem fwMayCommit {s t : State} (h : s.CommitsAlike t) : t.fwMayCommit = s.fwMayCommit := by
  have unreleased : t.unreleased = s.unreleased := by
    unfold State.unreleased
    rw [h.sinks, h.next]
  unfold State.fwMayCommit State.journalRoom State.journalOpen
  rw [unreleased, h.hold, h.chained, h.records, h.deferred]

end State.CommitsAlike

theorem State.trace_commitsAlike (s : State) (a g o : Nat) : s.CommitsAlike (s.trace a g o) := by
  simp only [State.trace]
  split_ifs <;> exact ⟨rfl, rfl, rfl, rfl, rfl, rfl⟩

/-- A host port that keeps its journal sink. -/
theorem State.setHp_commitsAlike (s : State) (h : Nat) {v : HostPort} (on : v.jOn = (s.hp h).jOn) (next : v.jNext = (s.hp h).jNext) :
    s.CommitsAlike (s.setHp h v) := by
  refine ⟨by simp, by simp, by simp, by simp, by simp, ?_⟩
  unfold State.hp at on next
  unfold State.setHp
  split_ifs at on next ⊢ <;> simp only [State.sinkNexts, on, next]

theorem State.send_commitsAlike (s : State) (o : Out) : s.CommitsAlike (s.send o) := .of_eq rfl rfl rfl rfl

theorem State.sendVec_commitsAlike (s : State) (h v : Nat) : s.CommitsAlike (s.sendVec h v) := by
  unfold State.sendVec
  refine .ite ?_ (.ite ?_ ?_)
  · refine .ite (.trans ?_ (State.send_commitsAlike _ _)) ?_ <;> exact s.setHp_commitsAlike h rfl rfl
  · exact s.setHp_commitsAlike h rfl rfl
  · exact s.send_commitsAlike _

theorem State.setSlice_commitsAlike (s : State) (h sl : Nat) (v : Slice) : s.CommitsAlike (s.setSlice h sl v) := .of_eq rfl rfl rfl rfl

theorem State.modBoot_commitsAlike (s : State) (f : Boot → Boot) : s.CommitsAlike (s.modBoot f) := .of_eq rfl rfl rfl rfl

theorem State.endCmd_commitsAlike (s : State) (c : Cmd) (op : Nat) : s.CommitsAlike (s.endCmd c op) := .of_eq rfl rfl rfl rfl

theorem State.modTunnel_commitsAlike (s : State) (tid : Nat) (f : Tunnel → Tunnel) : s.CommitsAlike (s.modTunnel tid f) := .of_eq rfl rfl rfl rfl

/-- R246, R249: a completion delivered by any route touches no journal entry and no journal sink. -/
theorem State.deliver_commitsAlike (s : State) (c : Cmd) (st : Status) (d : Nat) (r : List Byte) : s.CommitsAlike (s.deliver c st d r) := by
  unfold State.deliver
  split
  · exact .ite (.trans (s.setSlice_commitsAlike ..) (State.sendVec_commitsAlike _ _ _)) (s.setSlice_commitsAlike ..)
  · exact .ite (.of_eq rfl rfl rfl rfl) (s.setSlice_commitsAlike ..)
  · exact .of_eq rfl rfl rfl rfl
  · exact .refl s
  · exact .ite (.refl s) (.trans (s.modBoot_commitsAlike _) (State.trace_commitsAlike _ _ _ _))
  · exact .refl s
  · exact s.send_commitsAlike _

theorem State.completeOpt_commitsAlike (s : State) (c : Option Cmd) (op : Nat) (st : Status) (d : Nat) (r : List Byte) :
    s.CommitsAlike (s.completeOpt c op st d r) := by
  cases c with
  | none => exact .refl s
  | some c => exact .ite ((s.endCmd_commitsAlike c op).trans (State.deliver_commitsAlike ..)) (.refl s)

/-! ## Entries freed (R94, R101) -/

/-- R101: the space and the requests of a tunnel are released. -/
def State.entryReleased (s : State) (tid : Nat) (closed : Bool) : State :=
  let t := s.tunnel tid
  ((s.dropAwaits t.port tid).releaseTun t.port t.tun t.cls 0).modPort t.port fun p =>
    p.modTun t.tun fun x => { x with used := x.used && !closed }

/-- R101: after that release the entry is FREE under the next generation. -/
def State.entryFreed (s : State) (tid : Nat) (closed : Bool) : State :=
  (s.entryReleased tid closed).setTunnel tid { gen := (s.tunnel tid).gen + 1 }

theorem State.entryReleased_linksKept (s : State) (tid : Nat) (closed : Bool) : s.LinksKept (s.entryReleased tid closed) := by
  unfold State.entryReleased
  exact ((s.dropAwaits_linksKept _ _).trans (State.releaseTun_linksKept _ _ _ _ _)).trans (State.modPort_linksKept _ _)

/-- What follows an entry that is freed: retries on its port, and its root. -/
theorem State.freeEntry_eq (s : State) (tid : Nat) (closed : Bool) :
    s.freeEntry tid closed = if (s.tunnel tid).cls = 2 || (s.tunnel tid).cls = 3
      then ((s.entryFreed tid closed).retryTunnels (s.tunnel tid).port).rootFollows (s.tunnel tid).port
      else (s.entryFreed tid closed).retryTunnels (s.tunnel tid).port := rfl

theorem State.entryFreed_keeps (s : State) (tid : Nat) (closed : Bool) :
    s.RxKept (s.entryFreed tid closed) ∧ (s.tunWf = true → (s.entryFreed tid closed).tunWf = true)
      ∧ (s.entryFreed tid closed).tunnel tid = { gen := (s.tunnel tid).gen + 1 } := by
  have released := s.entryReleased_linksKept tid closed
  refine ⟨released.rx.trans (State.setTunnel_rxKept _ _ _), fun w => Tab.wf_set ({} : Tunnel) _ _ _ ?_, ?_⟩
  · rw [released.tunnels]
    exact w
  · rw [State.entryFreed, State.tunnel_setTunnel, if_pos rfl]

/-- R101: a freed entry is FREE under the next generation, and the ports keep what they have received. -/
theorem State.freeEntry_keeps (s : State) (tid : Nat) (closed : Bool) :
    s.RxKept (s.freeEntry tid closed) ∧ (s.tunWf = true → (s.freeEntry tid closed).tunnel tid = { gen := (s.tunnel tid).gen + 1 }) := by
  obtain ⟨rx, wf, freed⟩ := s.entryFreed_keeps tid closed
  obtain ⟨retryRx, retried⟩ := (s.entryFreed tid closed).retryTunnels_keeps (s.tunnel tid).port
  have followed : ((s.entryFreed tid closed).retryTunnels (s.tunnel tid).port).LinksKept (s.freeEntry tid closed) := by
    rw [State.freeEntry_eq]
    exact .ite (State.rootFollows_linksKept ..) (.refl _)
  refine ⟨(rx.trans retryRx).trans followed.rx, fun w => ?_⟩
  rw [followed.tunnel, retried tid (wf w) (by rw [freed]), freed]

/-- R101: a close that is done frees its entry. -/
theorem State.closeDone_keeps (s : State) (tid : Nat) (closed : Bool) :
    s.RxKept (s.closeDone tid closed) ∧ (s.tunWf = true → (s.closeDone tid closed).tunnel tid = { gen := (s.tunnel tid).gen + 1 }) := by
  have told := s.completeOpt_linksKept (s.tunnel tid).destroy 0x0202 .ok 0 [(s.tunnel tid).gen + 1]
  obtain ⟨rx, tunnel⟩ := State.freeEntry_keeps (s.completeOpt (s.tunnel tid).destroy 0x0202 .ok 0 [(s.tunnel tid).gen + 1]) tid closed
  rw [told.tunnel] at tunnel
  exact ⟨told.rx.trans rx, fun w => tunnel (by rw [State.tunWf, told.tunnels]; exact w)⟩

/-- R94, R101: a create that is reverted, where its journal entry may be committed, frees its entry. -/
theorem State.revertCreate_keeps (s : State) (tid : Nat) (st : Status) (d : Nat) (may : s.fwMayCommit = true) :
    s.RxKept (s.revertCreate tid st d) ∧ (s.tunWf = true → (s.revertCreate tid st d).tunnel tid = { gen := (s.tunnel tid).gen + 1 }) := by
  let u := s.completeOpt (s.tunnel tid).create 0x0201 st d []
  let v := u.modTunnel tid fun x => { x with create := none }
  let w := v.commit (v.teardownReq tid 7)
  have told : s.LinksKept u := s.completeOpt_linksKept ..
  have alike : s.CommitsAlike v := (s.completeOpt_commitsAlike _ _ _ _ _).trans (u.modTunnel_commitsAlike tid _)
  have freed : s.revertCreate tid st d = w.freeEntry tid false := if_pos (alike.fwMayCommit.trans may)
  have committed : v.LinksKept w := .of_eq (State.commit_ports ..) (State.commit_tunnels ..)
  have gen : (w.tunnel tid).gen = (s.tunnel tid).gen := by
    rw [committed.tunnel, State.tunnel_modTunnel, if_pos rfl]
    change (u.tunnel tid).gen = _
    rw [told.tunnel]
  obtain ⟨rx, tunnel⟩ := w.freeEntry_keeps tid false
  rw [gen] at tunnel
  rw [freed]
  refine ⟨((told.rx.trans (u.setTunnel_rxKept _ _)).trans committed.rx).trans rx, fun wf => tunnel ?_⟩
  rw [State.tunWf, committed.tunnels]
  exact Tab.wf_set _ _ _ _ (by rw [told.tunnels]; exact wf)

end Sys2Proof.Machine
end

section
/-! PROOFS. The MGMT messages of a link partner: TERM_INFO, the answers to an open, a close and an allotment, and TUN_STATUS (R15, R94 to R96, R101, R105, R115). -/

namespace Sys2Proof.Machine

/-! ## Taking a message, and the request it answers (R95) -/

/-- The oldest message of a port is taken, `rest` being those behind it. -/
def State.msgTaken (s : State) (p : Nat) (rest : List MgmtMsg) : State :=
  let u := s.modPort p fun x => { x with mgmtRx := rest }
  if rest.isEmpty then u.level (evPort p 9) false else u

/-- R95: that message, of XID `xid`, ends its request. -/
def State.msgAnswered (s : State) (p : Nat) (rest : List MgmtMsg) (xid : BitVec 16) : State :=
  (s.msgTaken p rest).modPort p fun x => { x with awaits := x.awaits.filter (·.xid ≠ xid) }

theorem State.takeMsg_of_head {s : State} {p : Nat} {m : MgmtMsg} {rest : List MgmtMsg} (h : (s.port p).mgmtRx = m :: rest)
    {n : Nat} (named : m.msg = n) (f : MgmtMsg → State → State) : s.takeMsg p n f = f m (s.msgTaken p rest) := by
  simp only [State.takeMsg, h, named, ne_eq, not_true_eq_false, if_false]
  rfl

/-- Taking a message changes the messages of its port, and by its event source the cluster and the wake. -/
theorem State.msgTaken_frame (s : State) (p : Nat) (rest : List MgmtMsg) :
    s.msgTaken p rest = { s with ports := (s.modPort p fun x => { x with mgmtRx := rest }).ports, cluster := (s.msgTaken p rest).cluster, power := (s.msgTaken p rest).power } := by
  simp only [State.msgTaken]
  split_ifs
  · rw [State.level_frame]
    rfl
  · rfl

@[simp] theorem State.port_msgTaken (s : State) (p : Nat) (rest : List MgmtMsg) (q : Nat) :
    (s.msgTaken p rest).port q = if q = p then { s.port p with mgmtRx := rest } else s.port q := by
  rw [State.msgTaken_frame]
  exact State.port_modPort s p q fun x => { x with mgmtRx := rest }

@[simp] theorem State.msgTaken_tunnels (s : State) (p : Nat) (rest : List MgmtMsg) : (s.msgTaken p rest).tunnels = s.tunnels := by
  rw [State.msgTaken_frame]
@[simp] theorem State.msgTaken_marl (s : State) (p : Nat) (rest : List MgmtMsg) : (s.msgTaken p rest).marl = s.marl := by
  rw [State.msgTaken_frame]
@[simp] theorem State.msgTaken_clock (s : State) (p : Nat) (rest : List MgmtMsg) : (s.msgTaken p rest).clock = s.clock := by
  rw [State.msgTaken_frame]

theorem State.msgTaken_commitsAlike (s : State) (p : Nat) (rest : List MgmtMsg) : s.CommitsAlike (s.msgTaken p rest) :=
  .of_eq (by simp only [State.msgTaken]; split_ifs <;> simp) (by rw [State.msgTaken_frame]) (by rw [State.msgTaken_frame]) (by rw [State.msgTaken_frame])

@[simp] theorem State.awaited_msgTaken (s : State) (p : Nat) (rest : List MgmtMsg) (xid : BitVec 16) (n : Nat) :
    (s.msgTaken p rest).awaited p xid n = s.awaited p xid n := by
  simp [State.awaited]

@[simp] theorem State.tidOf_msgTaken (s : State) (p : Nat) (rest : List MgmtMsg) (q n : Nat) : (s.msgTaken p rest).tidOf q n = s.tidOf q n := by
  simp [State.tidOf]

@[simp] theorem State.tunnel_msgTaken (s : State) (p : Nat) (rest : List MgmtMsg) (k : Nat) : (s.msgTaken p rest).tunnel k = s.tunnel k := by
  simp [State.tunnel]

/-- A message that answers a request: what it does is done in the state that message and request have left. -/
theorem State.takeAnswer_of_head {s : State} {p : Nat} {m : MgmtMsg} {rest : List MgmtMsg} {a : Await} (h : (s.port p).mgmtRx = m :: rest)
    {n req : Nat} (named : m.msg = n) (awaited : s.awaited p m.xid req = some a) (f : MgmtMsg → Await → State → State) :
    s.takeMsg p n (fun m u => u.answer p m req (f m)) = f m a (s.msgAnswered p rest m.xid) := by
  rw [State.takeMsg_of_head h named, State.answer, State.awaited_msgTaken, awaited]
  rfl

theorem State.takeAnswer_of_none {s : State} {p : Nat} {m : MgmtMsg} {rest : List MgmtMsg} (h : (s.port p).mgmtRx = m :: rest)
    {n req : Nat} (named : m.msg = n) (awaited : s.awaited p m.xid req = none) (f : MgmtMsg → Await → State → State) :
    s.takeMsg p n (fun m u => u.answer p m req (f m)) = (s.msgTaken p rest).badProto p := by
  rw [State.takeMsg_of_head h named, State.answer, State.awaited_msgTaken, awaited]

/-- What a message and its request have left: the tunnels as they were, the port with one message and one request less. -/
theorem State.msgAnswered_fields (s : State) (p : Nat) (rest : List MgmtMsg) (xid : BitVec 16) :
    (s.msgAnswered p rest xid).tunnels = s.tunnels ∧ ((s.msgAnswered p rest xid).port p).mgmtRx = rest
      ∧ ((s.msgAnswered p rest xid).port p).awaits = (s.port p).awaits.filter (fun b => b.xid ≠ xid) := by
  simp [State.msgAnswered]

theorem State.tunnel_msgAnswered (s : State) (p : Nat) (rest : List MgmtMsg) (xid : BitVec 16) (k : Nat) :
    (s.msgAnswered p rest xid).tunnel k = s.tunnel k := by
  simp [State.msgAnswered, State.tunnel]

theorem State.msgAnswered_commitsAlike (s : State) (p : Nat) (rest : List MgmtMsg) (xid : BitVec 16) : s.CommitsAlike (s.msgAnswered p rest xid) :=
  (s.msgTaken_commitsAlike p rest).trans (.of_eq rfl rfl rfl rfl)

/-! ## TERM_INFO, OPEN_ACK and OPEN_NAK (R94, R101, R115) -/

/-- R94, R115: TERM_INFO is stored before the tunnels that waited for it are tried, and those leave it. -/
theorem termInfoReceived_gives {p : Fin 12} {m : MgmtMsg} {rest : List MgmtMsg} {s : State} (h : (s.port p).mgmtRx = m :: rest) (named : m.msg = 0x02) :
    Gives (.termInfoReceived p) s fun t =>
      (t.port p).termInfo = some m.body ∧ (t.port p).mgmtRx = rest ∧ (t.port p).train = (s.port p).train := by
  refine Gives.of_eq (congrArg Host.Outcome.next (State.takeMsg_of_head h named _)) ?_
  generalize hu : (s.msgTaken p rest).modPort p (fun x => { x with termInfo := some m.body }) = u
  have own : u.port p = { s.port p with mgmtRx := rest, termInfo := some m.body } := by simp [← hu]
  have kept : ∀ l : List Nat, let v := l.foldl State.sendOpen (u.retryTunnels p)
      (v.port p).termInfo = some m.body ∧ (v.port p).mgmtRx = rest ∧ (v.port p).train = (s.port p).train := by
    intro l
    obtain ⟨mgmtRx, termInfo, train⟩ := ((u.retryTunnels_keeps p).1.trans (State.LinksKept.foldl State.sendOpen_linksKept l _).rx) p
    rw [own] at mgmtRx termInfo train
    exact ⟨termInfo, mgmtRx, train⟩
  exact kept _

/-- The entry of a tunnel that its terminal has opened. -/
def Tunnel.nowOpen (t : Tunnel) : Tunnel := { t with state := .opened, restore := false, create := none, orphanAt := none }

/-- R101: of the tunnels an open changes the one opened, and no received message. -/
theorem State.opened_linksKept (s : State) (tid : Nat) : (s.setTunnel tid (s.tunnel tid).nowOpen).LinksKept (s.opened tid) := by
  unfold State.opened
  refine .trans (.trans (.trans (.ite ?_ (.refl _)) (State.completeOpt_linksKept _ _ _ _ _ _)) (.ite ?_ (.refl _))) (.ite ?_ (.refl _))
  · exact State.grantTun_linksKept ..
  · exact State.tunnelNotice_linksKept ..
  · exact State.rootFollows_linksKept ..

theorem exec_openAckReceived (p : Fin 12) (s : State) : exec (.openAckReceived p) s =
    .next (s.takeMsg p 0x11 fun m u => u.answer p m 0x10 fun a v => v.opened a.tid) := rfl
theorem exec_openNakReceived (p : Fin 12) (s : State) : exec (.openNakReceived p) s =
    .next (s.takeMsg p 0x12 fun m u => u.answer p m 0x10 fun a v =>
      if (v.tunnel a.tid).restore then v.setTunnel a.tid { v.tunnel a.tid with state := .orphan, restore := false }
      else v.revertCreate a.tid (nakStatus (byteAt m.body 3)).1 (nakStatus (byteAt m.body 3)).2) := rfl
theorem exec_closeAckReceived (p : Fin 12) (s : State) : exec (.closeAckReceived p) s =
    .next (s.takeMsg p 0x14 fun m u => u.answer p m 0x13 fun a v => v.closeDone a.tid true) := rfl
theorem exec_allotAckReceived (p : Fin 12) (s : State) : exec (.allotAckReceived p) s =
    .next (s.takeMsg p 0x21 fun m u => u.answer p m 0x20 fun a v => v.raiseDone a) := rfl

section
variable {p : Fin 12} {m : MgmtMsg} {rest : List MgmtMsg} {a : Await} {s : State}

theorem openAckReceived_gives (h : (s.port p).mgmtRx = m :: rest) (named : m.msg = 0x11) (awaited : s.awaited p m.xid 0x10 = some a) :
    Gives (.openAckReceived p) s fun t =>
      (t.tunnel a.tid).state = .opened ∧ (t.tunnel a.tid).create = none ∧ (t.tunnel a.tid).gen = (s.tunnel a.tid).gen
        ∧ (∀ k, k ≠ a.tid → t.tunnel k = s.tunnel k) ∧ (t.port p).mgmtRx = rest := by
  have ran := (exec_openAckReceived p s).trans (congrArg Host.Outcome.next (State.takeAnswer_of_head h named awaited _))
  refine Gives.of_eq ran ?_
  have opened := (s.msgAnswered p rest m.xid).opened_linksKept a.tid
  obtain ⟨-, mgmtRx, -⟩ := s.msgAnswered_fields p rest m.xid
  have own : ((s.msgAnswered p rest m.xid).opened a.tid).tunnel a.tid = (s.tunnel a.tid).nowOpen := by
    rw [opened.tunnel, State.tunnel_setTunnel, if_pos rfl, State.tunnel_msgAnswered]
  rw [own]
  refine ⟨rfl, rfl, rfl, fun k other => ?_, (opened.rx p).1.trans mgmtRx⟩
  rw [opened.tunnel, State.tunnel_setTunnel, if_neg other, State.tunnel_msgAnswered]

/-- R94, R115: a restore that is refused goes back to ORPHAN. -/
theorem openNakReceived_restore (h : (s.port p).mgmtRx = m :: rest) (named : m.msg = 0x12) (awaited : s.awaited p m.xid 0x10 = some a)
    (restore : (s.tunnel a.tid).restore = true) : Gives (.openNakReceived p) s fun t =>
      t.tunnel a.tid = { s.tunnel a.tid with state := .orphan, restore := false } ∧ (∀ k, k ≠ a.tid → t.tunnel k = s.tunnel k)
        ∧ (t.port p).mgmtRx = rest := by
  have ran := (exec_openNakReceived p s).trans (congrArg Host.Outcome.next (State.takeAnswer_of_head h named awaited _))
  obtain ⟨-, mgmtRx, -⟩ := s.msgAnswered_fields p rest m.xid
  rw [State.tunnel_msgAnswered, if_pos restore] at ran
  refine Gives.of_eq ran ⟨?_, fun k other => ?_, mgmtRx⟩
  · rw [State.tunnel_setTunnel, if_pos rfl]
  · rw [State.tunnel_setTunnel, if_neg other, State.tunnel_msgAnswered]

/-- R94, R101: another create that is refused frees its entry. -/
theorem openNakReceived_create (h : (s.port p).mgmtRx = m :: rest) (named : m.msg = 0x12) (awaited : s.awaited p m.xid 0x10 = some a)
    (create : (s.tunnel a.tid).restore = false) (may : s.fwMayCommit = true) (wf : s.tunWf = true) : Gives (.openNakReceived p) s fun t =>
      t.tunnel a.tid = { gen := (s.tunnel a.tid).gen + 1 } ∧ (t.port p).mgmtRx = rest := by
  have ran := (exec_openNakReceived p s).trans (congrArg Host.Outcome.next (State.takeAnswer_of_head h named awaited _))
  obtain ⟨tunnels, mgmtRx, -⟩ := s.msgAnswered_fields p rest m.xid
  rw [State.tunnel_msgAnswered, if_neg (by rw [create]; decide)] at ran
  obtain ⟨rx, freed⟩ := (s.msgAnswered p rest m.xid).revertCreate_keeps a.tid (nakStatus (byteAt m.body 3)).1 (nakStatus (byteAt m.body 3)).2
    ((s.msgAnswered_commitsAlike p rest m.xid).fwMayCommit.trans may)
  rw [State.tunnel_msgAnswered] at freed
  exact Gives.of_eq ran ⟨freed (by rw [State.tunWf, tunnels]; exact wf), (rx p).1.trans mgmtRx⟩

/-! ## CLOSE_ACK and ALLOT_ACK (R15, R95, R105) -/

theorem closeAckReceived_gives (h : (s.port p).mgmtRx = m :: rest) (named : m.msg = 0x14) (awaited : s.awaited p m.xid 0x13 = some a)
    (wf : s.tunWf = true) : Gives (.closeAckReceived p) s fun t =>
      t.tunnel a.tid = { gen := (s.tunnel a.tid).gen + 1 } ∧ (t.port p).mgmtRx = rest := by
  have ran := (exec_closeAckReceived p s).trans (congrArg Host.Outcome.next (State.takeAnswer_of_head h named awaited _))
  obtain ⟨tunnels, mgmtRx, -⟩ := s.msgAnswered_fields p rest m.xid
  obtain ⟨rx, freed⟩ := (s.msgAnswered p rest m.xid).closeDone_keeps a.tid true
  rw [State.tunnel_msgAnswered] at freed
  exact Gives.of_eq ran ⟨freed (by rw [State.tunWf, tunnels]; exact wf), (rx p).1.trans mgmtRx⟩

/-- R105, R270: the raise that an ALLOT_IN carried takes effect, where no other modify waits behind it. -/
theorem State.raiseDone_linksKept {r : Modify} (modify : (s.tunnel a.tid).modify = some r) (raise : r.raiseIn = true) (xid : r.xid = a.xid)
    (queued : (s.tunnel a.tid).queued = []) :
    (s.setTunnel a.tid { s.tunnel a.tid with rsvIn := r.rsvIn, wIn := r.wIn, modify := none }).LinksKept (s.raiseDone a) := by
  generalize hu : s.setTunnel a.tid { s.tunnel a.tid with rsvIn := r.rsvIn, wIn := r.wIn, modify := none } = u
  have done : u.LinksKept ((u.grantTun (s.tunnel a.tid).port (s.tunnel a.tid).tun).completeOpt r.cmd 0x0203 .ok 0
      (toLe 2 (s.tunnel a.tid).rsvOut ++ toLe 2 r.rsvIn)) := (u.grantTun_linksKept ..).trans (State.completeOpt_linksKept ..)
  have none : (u.tunnel a.tid).queued = [] := by rw [← hu, State.tunnel_setTunnel, if_pos rfl]; exact queued
  simp only [State.raiseDone, modify, raise, xid, decide_true, Bool.and_self, if_true, hu, State.nextModify, done.tunnel, none]
  exact done

theorem State.raiseDone_of_other (other : ∀ r, (s.tunnel a.tid).modify = some r → r.raiseIn = false ∨ r.xid ≠ a.xid) : s.raiseDone a = s := by
  simp only [State.raiseDone]
  split
  case h_1 r modify =>
    refine if_neg ?_
    simpa [imp_iff_not_or] using other r modify
  case h_2 => rfl

theorem allotAckReceived_raise {r : Modify} (h : (s.port p).mgmtRx = m :: rest) (named : m.msg = 0x21) (awaited : s.awaited p m.xid 0x20 = some a)
    (modify : (s.tunnel a.tid).modify = some r) (raise : r.raiseIn = true) (xid : r.xid = a.xid) (queued : (s.tunnel a.tid).queued = []) :
    Gives (.allotAckReceived p) s fun t =>
      t.tunnel a.tid = { s.tunnel a.tid with rsvIn := r.rsvIn, wIn := r.wIn, modify := none } ∧ (∀ k, k ≠ a.tid → t.tunnel k = s.tunnel k)
        ∧ (t.port p).mgmtRx = rest := by
  have ran := (exec_allotAckReceived p s).trans (congrArg Host.Outcome.next (State.takeAnswer_of_head h named awaited _))
  obtain ⟨-, mgmtRx, -⟩ := s.msgAnswered_fields p rest m.xid
  rw [← s.tunnel_msgAnswered p rest m.xid] at modify queued
  have done := State.raiseDone_linksKept modify raise xid queued
  refine Gives.of_eq ran ⟨?_, fun k other => ?_, (done.rx p).1.trans mgmtRx⟩
  · rw [done.tunnel, State.tunnel_setTunnel, if_pos rfl, State.tunnel_msgAnswered]
  · rw [done.tunnel, State.tunnel_setTunnel, if_neg other, State.tunnel_msgAnswered]

theorem allotAckReceived_other (h : (s.port p).mgmtRx = m :: rest) (named : m.msg = 0x21) (awaited : s.awaited p m.xid 0x20 = some a)
    (other : ∀ r, (s.tunnel a.tid).modify = some r → r.raiseIn = false ∨ r.xid ≠ a.xid) : Gives (.allotAckReceived p) s fun t =>
      t.tunnels = s.tunnels ∧ (t.port p).mgmtRx = rest ∧ (t.port p).awaits = (s.port p).awaits.filter (fun b => b.xid ≠ m.xid) := by
  have ran := (exec_allotAckReceived p s).trans (congrArg Host.Outcome.next (State.takeAnswer_of_head h named awaited _))
  rw [State.raiseDone_of_other (by rw [State.tunnel_msgAnswered]; exact other)] at ran
  exact Gives.of_eq ran (s.msgAnswered_fields p rest m.xid)

/-! ## TUN_STATUS, and answers that nothing awaits (R95, R96) -/

/-- R96: TUN_STATUS of a tunnel that is OPENING or OPEN: a notice and a trace event, or, with another generation or an unknown code, a count in PROTO_DROP. -/
theorem exec_tunStatusReceived {tid : Nat} (h : (s.port p).mgmtRx = m :: rest) (named : m.msg = 0x30)
    (found : s.tidOf p (bits (le m.body 0 2) 9 0) = some tid) (live : (s.tunnel tid).state = .opening ∨ (s.tunnel tid).state = .opened) :
    exec (.tunStatusReceived p) s = .next
      (if (s.tunnel tid).gen ≠ BitVec.ofNat 8 (byteAt m.body 2) || byteAt m.body 3 = 0 || 4 < byteAt m.body 3
        then (s.msgTaken p rest).protoDrop p (bits (le m.body 0 2) 9 0)
        else ((s.msgTaken p rest).tunnelNotice tid (3 + byteAt m.body 3) .ok).trace (agentPort p) 0 tid) := by
  have live' : ¬ ((s.tunnel tid).state ≠ .opening ∧ (s.tunnel tid).state ≠ .opened) := fun n => live.elim n.1 n.2
  refine (congrArg Host.Outcome.next (State.takeMsg_of_head h named _)).trans ?_
  simp [found, live']

theorem tunStatusReceived_told {tid : Nat} (h : (s.port p).mgmtRx = m :: rest) (named : m.msg = 0x30)
    (found : s.tidOf p (bits (le m.body 0 2) 9 0) = some tid) (live : (s.tunnel tid).state = .opening ∨ (s.tunnel tid).state = .opened)
    (gen : (s.tunnel tid).gen = BitVec.ofNat 8 (byteAt m.body 2)) (low : 1 ≤ byteAt m.body 3) (high : byteAt m.body 3 ≤ 4) :
    Gives (.tunStatusReceived p) s fun t =>
      t.tunnels = s.tunnels ∧ (t.port p).mgmtRx = rest ∧ (t.port p).tuns = (s.port p).tuns ∧ t.marl = s.marl := by
  have ran := exec_tunStatusReceived h named found live
  rw [if_neg (by simp [gen]; omega)] at ran
  refine Gives.of_eq ran ?_
  generalize ht : ((s.msgTaken p rest).tunnelNotice tid (3 + byteAt m.body 3) .ok).trace (agentPort p) 0 tid = t
  have ports : t.ports = (s.msgTaken p rest).ports := by simp [← ht, State.tunnelNotice]
  have own : t.port p = { s.port p with mgmtRx := rest } := by
    rw [State.port, ports]
    exact (s.port_msgTaken p rest p).trans (if_pos rfl)
  exact ⟨by simp [← ht, State.tunnelNotice], by rw [own], by rw [own], by simp [← ht, State.tunnelNotice]⟩

theorem tunStatusReceived_dropped {tid : Nat} (h : (s.port p).mgmtRx = m :: rest) (named : m.msg = 0x30)
    (found : s.tidOf p (bits (le m.body 0 2) 9 0) = some tid) (live : (s.tunnel tid).state = .opening ∨ (s.tunnel tid).state = .opened)
    (bad : (s.tunnel tid).gen ≠ BitVec.ofNat 8 (byteAt m.body 2) ∨ byteAt m.body 3 = 0 ∨ 4 < byteAt m.body 3) :
    Gives (.tunStatusReceived p) s fun t =>
      let n := bits (le m.body 0 2) 9 0
      ((t.port p).tun n).protoDrop = ((s.port p).tun n).protoDrop + 1 ∧ t.tunnels = s.tunnels ∧ (t.port p).mgmtRx = rest := by
  have ran := exec_tunStatusReceived h named found live
  rw [if_pos (by simpa [or_assoc] using bad)] at ran
  refine Gives.of_eq ran ?_
  simp [State.protoDrop, Port.modTun, Port.setTun, Port.tun]

/-- R65, R95: with fewer than 15 errors in the last 1 ms, one more is counted in PROTO_ERR and nothing else comes of it. -/
theorem State.badProto_of_few (s : State) (p : Nat) (few : ((s.port p).rx.protoTimes.filter (s.within 1000000)).length < 15) :
    s.badProto p = s.protoErr p := by
  refine if_neg ?_
  have short : ((s.protoErr p).port p).rx.protoTimes.length < 16 := by
    simp [State.protoErr]
    omega
  simp only [Bool.and_eq_true, decide_eq_true_eq, not_and]
  omega

/-- R95: an answer that no request awaits is counted in PROTO_ERR and changes no tunnel. -/
theorem unawaited_gives {i : Instr} {n r : Nat} {f : MgmtMsg → Await → State → State} (h : (s.port p).mgmtRx = m :: rest)
    (named : m.msg = n) (none : s.awaited p m.xid r = none) (few : ((s.port p).rx.protoTimes.filter (s.within 1000000)).length < 15)
    (takes : exec i s = .next (s.takeMsg p n fun m u => u.answer p m r (f m))) : Gives i s fun t =>
      (t.port p).rx.protoErr = (s.port p).rx.protoErr + 1 ∧ t.tunnels = s.tunnels ∧ (t.port p).mgmtRx = rest := by
  have same : (s.msgTaken p rest).within 1000000 = s.within 1000000 := by
    funext t
    simp [State.within, State.now]
  rw [State.takeAnswer_of_none h named none, State.badProto_of_few _ _ (by simpa [same] using few)] at takes
  refine Gives.of_eq takes ?_
  simp [State.protoErr]

end

/-- Settles O48: each message has the outcome that its lemma above gives. -/
theorem mgmtMessages : Obligations.MgmtMessages := by
  refine ⟨?termInfo, ?openAck, ?nakRestore, ?nakCreate, ?closeAck, ?raise, ?otherModify, ?statusTold, ?statusDropped, ?unawaited⟩
  case termInfo => exact fun p m rest s h named => termInfoReceived_gives h named
  case openAck => exact fun p m rest a s h named awaited => openAckReceived_gives h named awaited
  case nakRestore => exact fun p m rest a s h named awaited restore => openNakReceived_restore h named awaited restore
  case nakCreate => exact fun p m rest a s h named awaited create may wf => openNakReceived_create h named awaited create may wf
  case closeAck => exact fun p m rest a s h named awaited wf => closeAckReceived_gives h named awaited wf
  case raise => exact fun p m rest a r s h named awaited modify raise xid queued => allotAckReceived_raise h named awaited modify raise xid queued
  case otherModify => exact fun p m rest a s h named awaited other => allotAckReceived_other h named awaited other
  case statusTold => exact fun p m rest tid s h named found live gen low high => tunStatusReceived_told h named found live gen low high
  case statusDropped => exact fun p m rest tid s h named found live bad => tunStatusReceived_dropped h named found live bad
  case unawaited =>
    intro i n r p m rest s answers h named none few
    simp only [List.mem_cons, Prod.mk.injEq, List.not_mem_nil, or_false] at answers
    obtain ⟨rfl, rfl, rfl⟩ | ⟨rfl, rfl, rfl⟩ | ⟨rfl, rfl, rfl⟩ | ⟨rfl, rfl, rfl⟩ := answers
    · exact unawaited_gives h named none few (exec_openAckReceived p s)
    · exact unawaited_gives h named none few (exec_openNakReceived p s)
    · exact unawaited_gives h named none few (exec_closeAckReceived p s)
    · exact unawaited_gives h named none few (exec_allotAckReceived p s)

end Sys2Proof.Machine
end

section
/-! PROOFS. What an event on one port leaves alone. -/

namespace Sys2Proof.Machine

theorem State.port_congr {s t : State} (h : t.ports = s.ports) (q : Nat) : t.port q = s.port q := by
  simp only [State.port, h]

/-- From `s` to `t` nothing but port `p`, and what was sent, has changed. -/
structure State.OnPort (p : Nat) (s t : State) : Prop where
  rest : { t with ports := s.ports, out := s.out } = s
  other : ∀ j, j ≠ p → t.port j = s.port j

namespace State.OnPort

theorem refl (p : Nat) (s : State) : State.OnPort p s s := ⟨rfl, fun _ _ => rfl⟩

theorem trans {p : Nat} {s t u : State} (h : State.OnPort p s t) (g : State.OnPort p t u) : State.OnPort p s u :=
  ⟨(congrArg (fun v : State => { v with ports := s.ports, out := s.out }) g.rest).trans h.rest, fun j n => (g.other j n).trans (h.other j n)⟩

theorem modPort (p : Nat) (s : State) (f : Port → Port) : State.OnPort p s (s.modPort p f) :=
  ⟨rfl, fun j n => (s.port_modPort p j f).trans (if_neg n)⟩

theorem modPd (p : Nat) (s : State) (f : Pd → Pd) : State.OnPort p s (s.modPd p f) := modPort p s fun x => { x with pd := f x.pd }

theorem armPd (p : Nat) (s : State) (n ms : Nat) : State.OnPort p s (s.armPd p n ms) := modPd p s fun d => d.arm n (s.after (1000000 * ms))

theorem setPort (p : Nat) (s : State) (x : Port) : State.OnPort p s (s.setPort p x) :=
  ⟨rfl, fun j n => (s.port_setPort p j x).trans (if_neg n)⟩

theorem send (p : Nat) (s : State) (o : Out) : State.OnPort p s (s.send o) := ⟨rfl, fun _ _ => rfl⟩

theorem ite {p : Nat} {s t u : State} {c : Prop} [Decidable c] (ht : State.OnPort p s t) (hu : State.OnPort p s u) :
    State.OnPort p s (if c then t else u) := by
  split_ifs <;> assumption

theorem foldl {α : Type} {p : Nat} {f : State → α → State} (hf : ∀ (s : State) (x : α), State.OnPort p s (f s x)) (l : List α) :
    ∀ s : State, State.OnPort p s (l.foldl f s) := by
  induction l with
  | nil => exact refl p
  | cons x l ih => exact fun s => (hf s x).trans (ih (f s x))

theorem frame {p : Nat} {s t : State} (h : State.OnPort p s t) : t = { s with ports := t.ports, out := t.out } :=
  congrArg (fun v : State => { v with ports := t.ports, out := t.out }) h.rest

/-- Where nothing was sent either. -/
theorem portsOnly {p : Nat} {s t : State} (h : State.OnPort p s t) (out : t.out = s.out) : t = { s with ports := t.ports } := by
  have frame := h.frame
  rw [out] at frame
  exact frame

theorem clock {p : Nat} {s t : State} (h : State.OnPort p s t) : t.clock = s.clock := (congrArg State.clock h.rest :)

theorem boot {p : Nat} {s t : State} (h : State.OnPort p s t) : t.boot = s.boot := (congrArg State.boot h.rest :)

theorem tunnels {p : Nat} {s t : State} (h : State.OnPort p s t) : t.tunnels = s.tunnels := (congrArg State.tunnels h.rest :)

theorem power {p : Nat} {s t : State} (h : State.OnPort p s t) : t.power = s.power := (congrArg State.power h.rest :)

end State.OnPort

end Sys2Proof.Machine
end

section
/-! PROOFS. CC_ATTACH and CC_DETACH (R204 to R206, R214): what telling of an attach leaves alone, the controller as an attach leaves it, Try.SRC, and the pins (R29, R441). -/

namespace Sys2Proof.Machine

/-! ## Telling of an attach (R205, R231) -/

theorem State.portNotice_frame (s : State) (p code : Nat) (detail : List Byte) :
    s.portNotice p code detail = { s with hosts := (s.portNotice p code detail).hosts, mgmt := (s.portNotice p code detail).mgmt
                                          silt := (s.portNotice p code detail).silt, freeCtr := (s.portNotice p code detail).freeCtr } := by
  simp only [State.portNotice]
  split <;> split <;> exact State.eq_of_fields

@[simp] theorem State.portNotice_clock (s : State) (p code : Nat) (d : List Byte) : (s.portNotice p code d).clock = s.clock := by
  rw [State.portNotice_frame]
@[simp] theorem State.portNotice_ports (s : State) (p code : Nat) (d : List Byte) : (s.portNotice p code d).ports = s.ports := by
  rw [State.portNotice_frame]
@[simp] theorem State.portNotice_tunnels (s : State) (p code : Nat) (d : List Byte) : (s.portNotice p code d).tunnels = s.tunnels := by
  rw [State.portNotice_frame]
@[simp] theorem State.portNotice_xfer (s : State) (p code : Nat) (d : List Byte) : (s.portNotice p code d).xfer = s.xfer := by
  rw [State.portNotice_frame]
@[simp] theorem State.portNotice_marl (s : State) (p code : Nat) (d : List Byte) : (s.portNotice p code d).marl = s.marl := by
  rw [State.portNotice_frame]

theorem State.pgWake_frame (s : State) (g : Nat) : s.pgWake g = { s with power := (s.pgWake g).power } := by
  simp only [State.pgWake]
  split_ifs <;> rfl

/-- R205: an attach is told without a change to a port, a tunnel, a client or Marl. -/
theorem State.tellAttach_frame (s : State) (p : Nat) (source flipped : Bool) :
    (s.tellAttach p source flipped).ports = s.ports ∧ (s.tellAttach p source flipped).tunnels = s.tunnels
      ∧ (s.tellAttach p source flipped).xfer = s.xfer ∧ (s.tellAttach p source flipped).marl = s.marl
      ∧ (s.tellAttach p source flipped).clock = s.clock := by
  simp only [State.tellAttach]
  split_ifs
  · simp
  · rw [State.pgWake_frame]
    simp

/-! ## Attach (R204, R205, R212, R213) -/

/-- R204, R212: the controller after an attach in a power role: settings latched, and as source VBUS and VCONN on. -/
def Pd.attachedAs (d : Pd) (source flipped : Bool) (now : Time) : Pd :=
  let d := { d.unattached with
             conn := if source then .attachedSrc else .attachedSnk, flipped := flipped, rp := d.cfg.rpLevel
             roles := { source := source, dfp := source, vconn := source } }
  if source then (d.withVconn true).sourceOn now else d

theorem Pd.attachedAs_fb (d : Pd) (source flipped : Bool) (now : Time) :
    (d.attachedAs source flipped now).fb = d.fb ∧ (d.attachedAs source flipped now).pdOff = d.pdOff := by
  cases source <;> exact ⟨rfl, rfl⟩

/-- The attach as far as its port is told of. -/
def State.attachTold (s : State) (p : Nat) (source flipped : Bool) : State :=
  (s.modPd p fun d => d.attachedAs source flipped s.now).tellAttach p source flipped

theorem State.attachTold_frame (s : State) (p : Nat) (source flipped : Bool) :
    ((s.attachTold p source flipped).port p).pd = (s.port p).pd.attachedAs source flipped s.now
      ∧ (∀ j, j ≠ p → (s.attachTold p source flipped).port j = s.port j) ∧ (s.attachTold p source flipped).tunnels = s.tunnels
      ∧ (s.attachTold p source flipped).xfer = s.xfer ∧ (s.attachTold p source flipped).marl = s.marl := by
  obtain ⟨ports, tunnels, xfer, marl, -⟩ :=
    (s.modPd p fun d => d.attachedAs source flipped s.now).tellAttach_frame p source flipped
  refine ⟨?_, fun j other => ?_, tunnels, xfer, marl⟩
  · rw [State.attachTold, State.port_congr ports, State.modPd, State.port_modPort, if_pos rfl]
  · rw [State.attachTold, State.port_congr ports, State.modPd, State.port_modPort, if_neg other]

/-- R182, R205, R210: with the Jayth mode enabled and PD in use no fallback follows an attach; a sink waits for Source_Capabilities. -/
theorem State.attach_eq (s : State) (p : Nat) (source flipped : Bool) (jayth : (s.port p).pd.fb.jaythEn = true)
    (pd : (s.port p).pd.pdOff = false) : s.attach p source flipped = if source then s.attachTold p source flipped
      else ((s.attachTold p source flipped).armPd p tSinkWaitCap 465).sinkOn p := by
  obtain ⟨own, -⟩ := s.attachTold_frame p source flipped
  obtain ⟨fb, pdOff⟩ := (s.port p).pd.attachedAs_fb source flipped s.now
  have jayth' : ((s.attachTold p source flipped).port p).pd.fb.jaythEn = true := by rw [own, fb, jayth]
  have pd' : ((s.attachTold p source flipped).port p).pd.pdOff = false := by rw [own, pdOff, pd]
  change (let u := s.attachTold p source flipped
    let v := if !(u.port p).pd.fb.jaythEn then u.fallback p 0 else if (u.port p).pd.pdOff then u.fallback p 2 else u
    if source then v else if (u.port p).pd.pdOff then v.sinkOn p else (v.armPd p tSinkWaitCap 465).sinkOn p) = _
  simp [jayth', pd']

/-- R210: what a sink that waits for Source_Capabilities changes: its timers, and the sink path. -/
theorem State.OnPort.sinkOn (p : Nat) (s : State) : State.OnPort p s (s.sinkOn p) := by
  unfold State.sinkOn
  exact State.OnPort.modPd ..

theorem State.waitsForCaps_frame (u : State) (p : Nat) : (∃ due on, (((u.armPd p tSinkWaitCap 465).sinkOn p).port p).pd =
        { (u.port p).pd.arm tSinkWaitCap due with pins := { (u.port p).pd.pins with snkEn := on } })
      ∧ State.OnPort p u ((u.armPd p tSinkWaitCap 465).sinkOn p) := by
  refine ⟨?_, (OnPort.armPd ..).trans (OnPort.sinkOn ..)⟩
  simp only [State.sinkOn, State.armPd]
  generalize u.after _ = due
  let on := (u.port p).pd.cfg.snkLoad && !(u.modPd p fun d => d.arm tSinkWaitCap due).presented p && !(u.port p).pd.pins.srcEn
  refine ⟨due, on, ?_⟩
  simp only [State.modPd, State.port_modPort, if_true]
  rfl

theorem exec_ccAttach (port : Fin 12) (source flipped : Bool) (s : State) : exec (.ccAttach port source flipped) s = .next
    (if s.ccHeld || !(s.port port).pd.mayAttach source then s
     else match (s.port port).pd.conn with
      | .unattached =>
        if !source && (s.port port).pd.triesSrc then
          ((s.modPd port fun d => { d.unattached with conn := .trySrc, flipped := flipped, rp := d.cfg.rpLevel }).armPd port tDrpTry 100).armPd port tTryTimeout 600
        else s.attach port source flipped
      | .trySrc => if source then s.attach port source flipped else s
      | .tryWaitSnk => if source then s else s.attach port source flipped
      | _ => s) := rfl

section
variable {port : Fin 12} {source flipped : Bool} {s : State}

/-- R204: where CC_ATTACH leaves a port attached. -/
theorem exec_ccAttach_attaches (held : s.ccHeld = false) (may : (s.port port).pd.mayAttach source = true)
    (at' : (s.port port).pd.conn = .unattached ∧ (source = true ∨ (s.port port).pd.triesSrc = false)
      ∨ (s.port port).pd.conn = .trySrc ∧ source = true ∨ (s.port port).pd.conn = .tryWaitSnk ∧ source = false) :
    exec (.ccAttach port source flipped) s = .next (s.attach port source flipped) := by
  rw [exec_ccAttach, held, may]
  obtain ⟨conn, rfl | tries⟩ | ⟨conn, rfl⟩ | ⟨conn, rfl⟩ := at'
  · simp [conn]
  · simp [conn, tries]
  · simp [conn]
  · simp [conn]

theorem ccAttach_attached (held : s.ccHeld = false) (may : (s.port port).pd.mayAttach source = true)
    (at' : (s.port port).pd.conn = .unattached ∧ (source = true ∨ (s.port port).pd.triesSrc = false)
      ∨ (s.port port).pd.conn = .trySrc ∧ source = true ∨ (s.port port).pd.conn = .tryWaitSnk ∧ source = false)
    (jayth : (s.port port).pd.fb.jaythEn = true) (pd : (s.port port).pd.pdOff = false) :
    Gives (.ccAttach port source flipped) s fun t =>
      let d := (t.port port).pd
      d.conn = (if source then .attachedSrc else .attachedSnk) ∧ d.flipped = flipped ∧ d.roles = { source := source, dfp := source, vconn := source }
        ∧ d.pins.srcEn = source ∧ d.pins.vconn1 = (source && flipped) ∧ d.pins.vconn2 = (source && !flipped) ∧ d.mode = .none
        ∧ d.rp = d.cfg.rpLevel ∧ d.ccUse = (if source then .rp d.rp else .rd)
        ∧ d.contract = none ∧ (∀ j, j ≠ port.val → t.port j = s.port j) ∧ t.tunnels = s.tunnels ∧ t.xfer = s.xfer ∧ t.marl = s.marl := by
  refine Gives.of_eq ((exec_ccAttach_attaches held may at').trans (congrArg Host.Outcome.next (s.attach_eq port source flipped jayth pd))) ?_
  obtain ⟨own, other, tunnels, xfer, marl⟩ := s.attachTold_frame port source flipped
  generalize s.attachTold port source flipped = u at *
  cases source with
  | true =>
    rw [if_pos rfl]
    dsimp only
    rw [own]
    exact ⟨rfl, rfl, rfl, rfl, rfl, rfl, rfl, rfl, rfl, rfl, other, tunnels, xfer, marl⟩
  | false =>
    rw [if_neg Bool.false_ne_true]
    obtain ⟨⟨due, on, waits⟩, onPort⟩ := u.waitsForCaps_frame port
    generalize (u.armPd port tSinkWaitCap 465).sinkOn port = t at *
    dsimp only
    rw [waits, own, onPort.frame]
    exact ⟨rfl, rfl, rfl, rfl, rfl, rfl, rfl, rfl, rfl, rfl, fun j n => (onPort.other j n).trans (other j n), tunnels, xfer, marl⟩

/-! ## Try.SRC and TryWait.SNK (R204) -/

/-- A timer that is stopped does not run; another runs on. -/
@[simp] theorem Pd.timer_disarm (d : Pd) (n k : Nat) : (d.disarm n).timer k = if k = n then none else d.timer k := by
  simp only [Pd.timer, Pd.disarm, List.find?_filter]
  split_ifs with e
  · simp [e]
  · congr 2
    funext x
    by_cases h : x.1 = k <;> simp [h, e]

/-- A timer that is started runs until its instant; another runs on. -/
@[simp] theorem Pd.timer_arm (d : Pd) (n k : Nat) (due : Time) : (d.arm n due).timer k = if k = n then some due else d.timer k := by
  have stopped := d.timer_disarm n k
  simp only [Pd.timer, Pd.disarm] at stopped
  simp only [Pd.timer, Pd.arm, List.find?_append]
  split_ifs at stopped ⊢ with e
  · rw [Option.map_eq_none_iff.mp stopped]
    simp [e]
  · rw [List.find?_singleton, if_neg (by simpa using Ne.symm e), Option.or_none, stopped]

theorem State.modPd_out (s : State) (p : Nat) (f : Pd → Pd) : (s.modPd p f).out = s.out := rfl

/-- R204: the controller in Try.SRC: Rp at RP_LEVEL, with tDRPTry and tTryTimeout running. -/
def Pd.trying (d : Pd) (flipped : Bool) (drpTry timeout : Time) : Pd :=
  (({ d.unattached with conn := .trySrc, flipped := flipped, rp := d.cfg.rpLevel } : Pd).arm tDrpTry drpTry).arm tTryTimeout timeout

/-- R204: Try.SRC begins. -/
def State.trySrc (s : State) (p : Nat) (flipped : Bool) : State :=
  ((s.modPd p fun d => { d.unattached with conn := .trySrc, flipped := flipped, rp := d.cfg.rpLevel }).armPd p tDrpTry 100).armPd p tTryTimeout 600

theorem State.trySrc_frame (s : State) (p : Nat) (flipped : Bool) :
    ((s.trySrc p flipped).port p).pd = (s.port p).pd.trying flipped (s.after 100000000) (s.after 600000000)
      ∧ State.OnPort p s (s.trySrc p flipped) := by
  refine ⟨?_, ((OnPort.modPd ..).trans (OnPort.armPd ..)).trans (OnPort.armPd ..)⟩
  simp only [State.trySrc, State.armPd, State.modPd, State.port_modPort, if_true]
  rfl

theorem ccAttach_tries (held : s.ccHeld = false) (conn : (s.port port).pd.conn = .unattached)
    (may : (s.port port).pd.mayAttach false = true) (tries : (s.port port).pd.triesSrc = true) :
    Gives (.ccAttach port false flipped) s fun t =>
      let d := (t.port port).pd
      d.conn = .trySrc ∧ d.ccUse = .rp d.cfg.rpLevel ∧ d.timer tDrpTry = some (s.after 100000000) ∧ d.timer tTryTimeout = some (s.after 600000000)
        ∧ d.pins.srcEn = false ∧ (∀ j, j ≠ port.val → t.port j = s.port j) ∧ t = { s with ports := t.ports } := by
  have ran : exec (.ccAttach port false flipped) s = .next (s.trySrc port flipped) := by
    rw [exec_ccAttach, held, may, conn, tries]
    rfl
  refine Gives.of_eq ran ?_
  obtain ⟨own, onPort⟩ := s.trySrc_frame port flipped
  have out : (s.trySrc port flipped).out = s.out := by simp only [State.trySrc, State.armPd, State.modPd_out]
  generalize s.trySrc port flipped = t at *
  dsimp only
  rw [own]
  refine ⟨rfl, rfl, ?_, ?_, rfl, onPort.other, onPort.portsOnly out⟩
  · simp [Pd.trying, tDrpTry, tTryTimeout]
  · simp [Pd.trying]

theorem State.port_event (s : State) (n q : Nat) : (s.event n).port q = s.port q := State.port_congr (s.event_ports n) q

theorem State.port_tryWait (u : State) (p : Nat) : ((u.tryWait p).port p).pd =
    { ((u.port p).pd.disarm tDrpTry).disarm tTryTimeout with conn := .tryWaitSnk } := by
  simp only [State.tryWait, State.modPd, State.port_modPort, if_true]

theorem tryTimeout_waits (conn : (s.port port).pd.conn = .trySrc) (due : s.due ((s.port port).pd.timer tTryTimeout) = true) :
    Gives (.pdTimerExpiry port tTryTimeout) s fun t =>
      (t.port port).pd.conn = .tryWaitSnk ∧ (t.port port).pd.ccUse = .rd ∧ (t.port port).pd.timer tTryTimeout = none
        ∧ (t.port port).pd.timer tDrpTry = none := by
  let u := (s.modPd port fun d => d.disarm tTryTimeout).event (evPd port 2)
  have trySrc : (u.port port).pd.conn = .trySrc := by
    rw [State.port_event, State.modPd, State.port_modPort, if_pos rfl]
    exact conn
  have ends : u.timerEnds port tTryTimeout = u.tryWait port := if_pos trySrc
  have ran : exec (.pdTimerExpiry port tTryTimeout) s = .next (u.tryWait port) := by
    change Host.Outcome.next (if s.due _ then u.timerEnds port tTryTimeout else s) = _
    rw [if_pos due, ends]
  refine Gives.of_eq ran ?_
  have waits := u.port_tryWait port
  generalize u.tryWait port = t at waits
  rw [waits]
  refine ⟨rfl, rfl, ?_, ?_⟩
  · exact (Pd.timer_disarm _ tTryTimeout tTryTimeout).trans (if_pos rfl)
  · exact (Pd.timer_disarm _ tTryTimeout tDrpTry).trans ((Pd.timer_disarm _ tDrpTry tDrpTry).trans (if_pos rfl))

/-- R204, R212, R214, R441: an attach that may not be. -/
theorem exec_ccAttach_refused (no : s.ccHeld = true ∨ (s.port port).pd.mayAttach source = false ∨ (s.port port).pd.conn = .trySrc ∧ source = false
      ∨ (s.port port).pd.conn = .tryWaitSnk ∧ source = true ∨ (s.port port).pd.conn = .attachedSrc ∨ (s.port port).pd.conn = .attachedSnk
      ∨ (s.port port).pd.conn = .errorRecovery) : exec (.ccAttach port source flipped) s = .next s := by
  rw [exec_ccAttach]
  obtain held | may | ⟨conn, rfl⟩ | ⟨conn, rfl⟩ | conn | conn | conn := no
  · rw [held, Bool.true_or, if_pos rfl]
  · rw [may, Bool.not_false, Bool.or_true, if_pos rfl]
  all_goals simp only [conn, Bool.false_eq_true, if_false, if_true, ite_self]

/-! ## Detach (R206, R214, R217) -/

/-- R214, R217: alarms 19 and 20 end, or not. -/
theorem State.ladderAlarms_frame (s : State) : s.ladderAlarms = { s with silt := s.ladderAlarms.silt } := by
  simp only [State.ladderAlarms]
  split_ifs <;> rfl

/-- R214, R217: what the end of the lockouts leaves of a controller. -/
def Pd.unlocked (d : Pd) : Pd := { d with lockout := false, pdOff := false, faultTimes := [], errTimes := [] }

theorem State.clearLockouts_frame (s : State) (p : Nat) :
    (s.clearLockouts p).ports = (s.modPd p Pd.unlocked).ports ∧ (s.clearLockouts p).out = s.out ∧ (s.clearLockouts p).tunnels = s.tunnels := by
  have frame : s.clearLockouts p = { s.modPd p Pd.unlocked with silt := (s.clearLockouts p).silt } := State.ladderAlarms_frame _
  rw [frame]
  exact ⟨rfl, rfl, rfl⟩

theorem State.port_clearLockouts (s : State) (p q : Nat) :
    (s.clearLockouts p).port q = if q = p then { s.port p with pd := (s.port p).pd.unlocked } else s.port q := by
  rw [State.port_congr (s.clearLockouts_frame p).1, State.modPd, State.port_modPort]

theorem State.pgIdle_ports (s : State) (g : Nat) : (s.pgIdle g).ports = s.ports := by
  simp only [State.pgIdle]
  split_ifs <;> rfl

/-- R206: whatever its uses were, a port that is disconnected is unattached. -/
theorem State.disconnect_conn (s : State) (p : Nat) : ((s.disconnect p).port p).pd.conn = .unattached := by
  unfold State.disconnect
  rw [State.port_congr (State.pgIdle_ports ..), State.modPd, State.port_modPort, if_pos rfl]
  dsimp only
  split_ifs <;> rfl

theorem ccDetach_attached (conn : (s.port port).pd.conn ≠ .unattached) : Gives (.ccDetach port) s fun t =>
      let d := (t.port port).pd
      d.conn = .unattached ∧ d.lockout = false ∧ d.pdOff = false ∧ d.faultTimes = [] ∧ d.errTimes = [] := by
  have cleared : ∀ u : State, exec (.ccDetach port) s = .next (u.clearLockouts port) → (u.port port).pd.conn = .unattached →
      Gives (.ccDetach port) s fun t =>
        let d := (t.port port).pd
        d.conn = .unattached ∧ d.lockout = false ∧ d.pdOff = false ∧ d.faultTimes = [] ∧ d.errTimes = [] := by
    intro u ran gone
    have own : ((u.clearLockouts port).port port).pd = (u.port port).pd.unlocked := by rw [State.port_clearLockouts, if_pos rfl]
    exact Gives.of_eq ran ⟨(congrArg Pd.conn own).trans gone, congrArg Pd.lockout own, congrArg Pd.pdOff own, congrArg Pd.faultTimes own,
      congrArg Pd.errTimes own⟩
  have trying : (s.port port).pd.conn = .trySrc ∨ (s.port port).pd.conn = .tryWaitSnk →
      exec (.ccDetach port) s = .next ((s.modPd port Pd.unattached).clearLockouts port) := by
    rintro (h | h) <;> (change execCcDetach port s = _; simp only [execCcDetach, h])
  have attached : (s.port port).pd.conn ≠ .trySrc → (s.port port).pd.conn ≠ .tryWaitSnk →
      exec (.ccDetach port) s = .next ((((s.disconnect port).wakeCfg port).portNotice port 0x31 []).clearLockouts port) := by
    intro h g
    change execCcDetach port s = _
    simp only [execCcDetach]
  by_cases h : (s.port port).pd.conn = .trySrc ∨ (s.port port).pd.conn = .tryWaitSnk
  · refine cleared _ (trying h) ?_
    rw [State.modPd, State.port_modPort, if_pos rfl]
    rfl
  · rw [not_or] at h
    refine cleared _ (attached h.1 h.2) ?_
    rw [State.port_congr ((State.portNotice_ports ..).trans (State.wakeCfg_ports ..))]
    exact s.disconnect_conn port

theorem ccDetach_unattached (conn : (s.port port).pd.conn = .unattached) : Gives (.ccDetach port) s fun t =>
      (t.port port).pd = { (s.port port).pd with lockout := false, pdOff := false, faultTimes := [], errTimes := [] }
        ∧ (∀ j, j ≠ port.val → t.port j = s.port j) ∧ t.out = s.out ∧ t.tunnels = s.tunnels := by
  have ran : exec (.ccDetach port) s = .next (s.clearLockouts port) := by
    change execCcDetach port s = _
    simp only [execCcDetach, conn]
  obtain ⟨-, out, tunnels⟩ := s.clearLockouts_frame port
  refine Gives.of_eq ran ⟨?_, fun j other => ?_, out, tunnels⟩
  · rw [State.port_clearLockouts, if_pos rfl]
    rfl
  · rw [State.port_clearLockouts, if_neg other]

end

/-! ## Pins (R29, R204, R208, R441) -/

theorem State.portIo_of_jayth {s : State} {p : Nat} (h : (s.port p).pd.mode = .jayth) :
    (s.portIo p).usb2 = .off ∧ (s.portIo p).sbuAux = false ∧ (s.portIo p).ssRx = .off := by
  simp only [State.portIo, if_pos h, and_self]

/-- Whatever use a port is in, its CC pin is that of `ccOf`. -/
theorem State.portIo_cc (s : State) (p : Nat) : (s.portIo p).cc = s.ccOf p := by
  simp only [State.portIo, apply_ite PortIo.cc, ite_self]

theorem State.ccHeld_of_unreleased {s : State} (h : s.boot.released = false ∨ s.boot.fuseLoaded = false) : s.ccHeld = true := by
  obtain h | h := h <;> simp [State.ccHeld, h]

theorem Pd.ccUse_toggle {d : Pd} (conn : d.conn = .unattached) (mode : d.cfg.portMode = 0) (lockout : d.lockout = false) : d.ccUse = .toggle := by
  simp [Pd.ccUse, conn, mode, lockout]

/-- Settles O14: each clause is what its lemma above gives. -/
theorem typeCAttachAndDetach : Obligations.TypeCAttachAndDetach := by
  refine ⟨?attached, ?tries, ?tryTimeout, ?refused, ?detach, ?idle, ?jayth, ?unreleased, ?toggle⟩
  case attached => exact fun port source flipped s held may at' jayth pd => ccAttach_attached held may at' jayth pd
  case tries => exact fun port flipped s held conn may tries => ccAttach_tries held conn may tries
  case tryTimeout => exact fun port s conn due => tryTimeout_waits conn due
  case refused => exact fun port source flipped s no => exec_ccAttach_refused no
  case detach => exact fun port s conn => ccDetach_attached conn
  case idle => exact fun port s conn => ccDetach_unattached conn
  case jayth => exact fun s p mode => State.portIo_of_jayth mode
  case unreleased =>
    intro s p h
    have held := State.ccHeld_of_unreleased h
    exact ⟨held, by rw [State.portIo_cc, State.ccOf, held, if_pos rfl]⟩
  case toggle => exact fun d conn mode lockout => Pd.ccUse_toggle conn mode lockout

end Sys2Proof.Machine
end

section
/-! PROOFS. The lanes of a port (R27): one lane changed, every lane changed, and the lanes of a set. -/

namespace Sys2Proof.Machine

theorem State.port_modPort_same (s : State) (p : Nat) (f : Port → Port) : (s.modPort p f).port p = f (s.port p) :=
  (s.port_modPort p p f).trans (if_pos rfl)

theorem State.port_setPort_same (s : State) (p : Nat) (x : Port) : (s.setPort p x).port p = x := (s.port_setPort p p x).trans (if_pos rfl)

/-! ## One lane changed -/

section
variable (x : Port) (l : Nat) (f : Lane → Lane)

theorem Port.modLane_frame : x.modLane l f = { x with lane0 := (x.modLane l f).lane0, lane1 := (x.modLane l f).lane1
                                                      lane2 := (x.modLane l f).lane2, lane3 := (x.modLane l f).lane3 } := by
  unfold Port.modLane Port.setLane
  split <;> rfl

@[simp] theorem Port.modLane_train : (x.modLane l f).train = x.train := by rw [Port.modLane_frame]
@[simp] theorem Port.modLane_transit : (x.modLane l f).transit = x.transit := by rw [Port.modLane_frame]
@[simp] theorem Port.modLane_turnId : (x.modLane l f).turnId = x.turnId := by rw [Port.modLane_frame]
@[simp] theorem Port.modLane_outSet : (x.modLane l f).outSet = x.outSet := by rw [Port.modLane_frame]
@[simp] theorem Port.modLane_inSet : (x.modLane l f).inSet = x.inSet := by rw [Port.modLane_frame]
@[simp] theorem Port.modLane_exclRec : (x.modLane l f).exclRec = x.exclRec := by rw [Port.modLane_frame]
@[simp] theorem Port.modLane_lockRec : (x.modLane l f).lockRec = x.lockRec := by rw [Port.modLane_frame]
@[simp] theorem Port.modLane_lockOut : (x.modLane l f).lockOut = x.lockOut := by rw [Port.modLane_frame]
@[simp] theorem Port.modLane_recalRetry : (x.modLane l f).recalRetry = x.recalRetry := by rw [Port.modLane_frame]
@[simp] theorem Port.modLane_temp : (x.modLane l f).temp = x.temp := by rw [Port.modLane_frame]
@[simp] theorem Port.modLane_link : (x.modLane l f).link = x.link := by rw [Port.modLane_frame]
@[simp] theorem Port.modLane_tx : (x.modLane l f).tx = x.tx := by rw [Port.modLane_frame]
@[simp] theorem Port.modLane_rx : (x.modLane l f).rx = x.rx := by rw [Port.modLane_frame]
@[simp] theorem Port.modLane_pd : (x.modLane l f).pd = x.pd := by rw [Port.modLane_frame]

variable {l}

/-- The lane changed is `f` of what it was; the others are as they were. -/
theorem Port.lane_modLane {k : Nat} (hl : l < 4) (hk : k < 4) : (x.modLane l f).lane k = if k = l then f (x.lane l) else x.lane k := by
  interval_cases l <;> interval_cases k <;> rfl

theorem Port.lane_modLane_same (hl : l < 4) : (x.modLane l f).lane l = f (x.lane l) := (x.lane_modLane f hl hl).trans (if_pos rfl)

theorem Port.lane_modLane_other {k : Nat} (hl : l < 4) (hk : k < 4) (n : k ≠ l) : (x.modLane l f).lane k = x.lane k :=
  (x.lane_modLane f hl hk).trans (if_neg n)

/-- A field of the lanes that the change leaves alone. -/
theorem Port.modLane_keeps {α : Type} {g : Lane → α} (hf : ∀ v, g (f v) = g v) (l k : Nat) : g ((x.modLane l f).lane k) = g (x.lane k) := by
  rcases l with _ | _ | _ | l <;> rcases k with _ | _ | _ | k <;> simp [Port.modLane, Port.setLane, Port.lane, hf]

end

/-! ## Every lane changed -/

theorem Port.lane_mapLanes (x : Port) (f : Lane → Lane) (k : Nat) : (x.mapLanes f).lane k = f (x.lane k) := by
  rcases k with _ | _ | _ | k <;> rfl

/-! ## The lanes of a set -/

theorem mem_lanesOf {m : BitVec 4} {l : Nat} : l ∈ lanesOf m ↔ m.getLsbD l = true := by
  simp only [lanesOf, List.mem_filter, List.mem_range, and_iff_right_iff_imp]
  exact BitVec.lt_of_getLsbD

theorem lt_of_mem_lanesOf {m : BitVec 4} {l : Nat} (h : l ∈ lanesOf m) : l < 4 := List.mem_range.mp (List.mem_of_mem_filter h)

theorem nodup_lanesOf (m : BitVec 4) : (lanesOf m).Nodup := List.nodup_range.filter _

end Sys2Proof.Machine
end

section
/-! PROOFS. What traffic and tunnels leave of the lanes and the training of every port: Marl, notices, roots, credit, MGMT messages, restores, teardown and link down (R84 to R118, R165 to R180). -/

namespace Sys2Proof.Machine

/-! ## The line of a port -/

/-- A lane without the marker group and the scrambler of its transmitter. -/
def Lane.settings (v : Lane) : Lane := { v with groupTx := 0, flitsTx := 0, scram := 0 }

/-- The line of a port: what is neither its TUNs and MGMT messages, nor its controller, nor what it is about to send. -/
def Port.line (x : Port) : Port :=
  { x with lane0 := x.lane0.settings, lane1 := x.lane1.settings, lane2 := x.lane2.settings, lane3 := x.lane3.settings
           tuns := [], mgmtRx := [], awaits := [], xid := 0, termInfo := none, pd := {}, tx := {} }

theorem Port.lane_line (x : Port) (k : Nat) : x.line.lane k = (x.lane k).settings := by
  rcases k with _ | _ | _ | k <;> rfl

/-- The time, and the line of every port, are as they were. -/
structure State.LinesKept (s t : State) : Prop where
  clock : t.clock = s.clock
  line : ∀ p, (t.port p).line = (s.port p).line

namespace State.LinesKept

theorem refl (s : State) : s.LinesKept s := ⟨rfl, fun _ => rfl⟩

theorem trans {s t u : State} (h : s.LinesKept t) (g : t.LinesKept u) : s.LinesKept u :=
  ⟨g.clock.trans h.clock, fun p => (g.line p).trans (h.line p)⟩

/-- A step that changes neither the time nor a port. -/
theorem of_eq {s t : State} (clock : t.clock = s.clock) (ports : t.ports = s.ports) : s.LinesKept t :=
  ⟨clock, fun p => congrArg Port.line (State.port_congr ports p)⟩

theorem ite {s t u : State} {p : Prop} [Decidable p] (ht : s.LinesKept t) (hu : s.LinesKept u) : s.LinesKept (if p then t else u) := by
  split_ifs <;> assumption

theorem foldl {α : Type} {f : State → α → State} (hf : ∀ (s : State) (x : α), s.LinesKept (f s x)) (l : List α) :
    ∀ s : State, s.LinesKept (l.foldl f s) := by
  induction l with
  | nil => exact refl
  | cons x l ih => exact fun s => (hf s x).trans (ih (f s x))

theorem modPort (s : State) (p : Nat) {f : Port → Port} (hf : ∀ x, (f x).line = x.line := by exact fun _ => rfl) : s.LinesKept (s.modPort p f) := by
  refine ⟨rfl, fun q => ?_⟩
  rw [State.port_modPort]
  split_ifs with e
  · rw [e, hf]
  · rfl

theorem modPd (s : State) (p : Nat) (f : Pd → Pd) : s.LinesKept (s.modPd p f) := modPort s p

section
variable {s t : State} (h : s.LinesKept t) (p : Nat)
include h

theorem after (n : Nat) : t.after n = s.after n := by simp only [State.after, State.now, h.clock]
theorem train : (t.port p).train = (s.port p).train := (congrArg Port.train (h.line p) :)
theorem transit : (t.port p).transit = (s.port p).transit := (congrArg Port.transit (h.line p) :)
theorem turnId : (t.port p).turnId = (s.port p).turnId := (congrArg Port.turnId (h.line p) :)
theorem outSet : (t.port p).outSet = (s.port p).outSet := (congrArg Port.outSet (h.line p) :)
theorem inSet : (t.port p).inSet = (s.port p).inSet := (congrArg Port.inSet (h.line p) :)
theorem exclRec : (t.port p).exclRec = (s.port p).exclRec := (congrArg Port.exclRec (h.line p) :)
theorem lockRec : (t.port p).lockRec = (s.port p).lockRec := (congrArg Port.lockRec (h.line p) :)
theorem lockOut : (t.port p).lockOut = (s.port p).lockOut := (congrArg Port.lockOut (h.line p) :)
theorem recalRetry : (t.port p).recalRetry = (s.port p).recalRetry := (congrArg Port.recalRetry (h.line p) :)
theorem link : (t.port p).link = (s.port p).link := (congrArg Port.link (h.line p) :)
theorem temp : (t.port p).temp = (s.port p).temp := (congrArg Port.temp (h.line p) :)
theorem allot : (t.port p).allot = (s.port p).allot := (congrArg Port.allot (h.line p) :)
theorem rx : (t.port p).rx = (s.port p).rx := (congrArg Port.rx (h.line p) :)

theorem settings (k : Nat) : ((t.port p).lane k).settings = ((s.port p).lane k).settings := by
  rw [← Port.lane_line, h.line, Port.lane_line]

/-- A field of the lanes that is none of the marker group and the scrambler. -/
theorem lane {α : Type} {g : Lane → α} (hg : ∀ v, g v = g v.settings) (k : Nat) : g ((t.port p).lane k) = g ((s.port p).lane k) := by
  rw [hg, h.settings, ← hg]

end

end State.LinesKept

/-! ## Marl (R121, R125, R133, R134) -/

theorem State.modMarl_linesKept (s : State) (f : Marl → Marl) : s.LinesKept (s.modMarl f) := .of_eq rfl rfl

theorem State.takeSpace_linesKept {s t : State} {cls : Nat} (h : s.takeSpace cls = some t) : s.LinesKept t := by
  simp only [State.takeSpace] at h
  split_ifs at h
  all_goals
    cases h
    exact .of_eq rfl rfl

theorem State.takeSpaces_linesKept (n cls : Nat) : ∀ s : State, s.LinesKept (State.takeSpaces n cls s).1 := by
  induction n with
  | zero => exact LinesKept.refl
  | succ n ih =>
    intro s
    unfold State.takeSpaces
    split
    case h_1 t h => exact (State.takeSpace_linesKept h).trans (ih t)
    case h_2 => exact .refl s

theorem State.freeSpace_linesKept (s : State) (cls : Nat) : s.LinesKept (s.freeSpace cls) := .ite (.of_eq rfl rfl) (.of_eq rfl rfl)

theorem State.freeSpaces_linesKept (n cls : Nat) : ∀ s : State, s.LinesKept (State.freeSpaces n cls s) := by
  induction n with
  | zero => exact LinesKept.refl
  | succ n ih => exact fun s => (s.freeSpace_linesKept cls).trans (ih (s.freeSpace cls))

theorem State.writeCell_linesKept (s : State) (agent q flow b : Nat) (c : Cell) : s.LinesKept (s.writeCell agent q flow b c) := .of_eq rfl rfl

theorem State.writesGoOn_linesKept (n : Nat) : ∀ s : State, s.LinesKept (State.writesGoOn n s) := by
  induction n with
  | zero => exact LinesKept.refl
  | succ n ih =>
    intro s
    unfold State.writesGoOn
    split
    · exact .refl s
    · split
      · exact .refl s
      · exact ((s.modMarl_linesKept _).trans (State.writeCell_linesKept ..)).trans (ih _)

theorem State.enqueueCell_linesKept (s : State) (agent q flow : Nat) (c : Cell) : s.LinesKept (s.enqueueCell agent q flow c) := by
  simp only [State.enqueueCell]
  split
  · exact s.writeCell_linesKept ..
  · exact (s.modMarl_linesKept _).trans (State.writesGoOn_linesKept ..)

theorem State.queueMgmt_linesKept (s : State) (p : Nat) (m : MgmtMsg) : s.LinesKept (s.queueMgmt p m) := by
  have waits (c : Cell) : s.LinesKept (s.modCluster fun x => { x with mgmtOut := x.mgmtOut ++ [(p, c)] }) := .of_eq rfl rfl
  simp only [State.queueMgmt, State.admitMgmt, State.admitLossless]
  refine .ite (waits _) (.ite (.ite (.refl s) ((s.modMarl_linesKept _).trans (State.enqueueCell_linesKept ..))) ?_)
  split
  case h_1 t h => exact (State.takeSpace_linesKept h).trans (t.enqueueCell_linesKept ..)
  case h_2 => exact waits _

/-! ## Completions, notices and the journal -/

theorem State.trace_linesKept (s : State) (a g o : Nat) : s.LinesKept (s.trace a g o) := .of_eq (by simp) (by simp)
theorem State.event_linesKept (s : State) (n : Nat) : s.LinesKept (s.event n) := .of_eq (by simp) (by simp)
theorem State.commit_linesKept (s : State) (r : JReq) : s.LinesKept (s.commit r) := .of_eq (by simp) (by simp)

theorem State.completeOpt_linesKept (s : State) (c : Option Cmd) (op : Nat) (st : Status) (d : Nat) (r : List Byte) :
    s.LinesKept (s.completeOpt c op st d r) := .of_eq (by simp) (by simp)

theorem State.complete_linesKept (s : State) (c : Cmd) (op : Nat) (st : Status) (d : Nat) (r : List Byte) :
    s.LinesKept (s.complete c op st d r) := .of_eq (by simp) (by simp)

theorem State.tunnelNotice_linesKept (s : State) (tid code : Nat) (st : Status) : s.LinesKept (s.tunnelNotice tid code st) :=
  .of_eq (State.noticeOwner_clock ..) (State.noticeOwner_ports ..)

/-- R419: a change of the firmware, whether it is made now or waits. -/
theorem State.fwChange_linesKept (s : State) (r : JReq) (a : Act) {f : State → State} (hf : ∀ u : State, u.LinesKept (f u)) :
    s.LinesKept (s.fwChange r a f) :=
  .ite ((s.commit_linesKept r).trans (hf _)) (.ite (.refl s) (.of_eq rfl rfl))

/-! ## Roots of the USB host engine (R150, R165, R174, R179) -/

theorem State.modXfer_linesKept (s : State) (f : Xfer → Xfer) : s.LinesKept (s.modXfer f) := .of_eq rfl rfl

theorem State.modEp_linesKept (s : State) (e : Nat) (f : Ep → Ep) : s.LinesKept (s.modEp e f) := .of_eq rfl rfl

theorem State.dropRequests_linesKept (s : State) (e : Nat) : s.LinesKept (s.dropRequests e) := .of_eq rfl rfl

theorem State.modRoot_linesKept (s : State) (r : Nat) (f : Root → Root) : s.LinesKept (s.modRoot r f) := .of_eq rfl rfl

theorem State.enginePost_linesKept (s : State) (h sl q : Nat) (e : CqEntry) (slot : Bool) : s.LinesKept (s.enginePost h sl q e slot) :=
  .ite (.of_eq rfl rfl) (.of_eq rfl rfl)

theorem State.endChain_linesKept (s : State) (e : Nat) (st : Status) (x : Nat) (short : Bool) : s.LinesKept (s.endChain e st x short) := by
  simp only [State.endChain]
  split
  · refine LinesKept.trans (.trans ?_ (State.modXfer_linesKept ..)) (State.enginePost_linesKept ..)
    exact .ite (.of_eq rfl rfl) (.refl s)
  · exact .refl s

theorem State.stopEp_linesKept (s : State) (e : Nat) (st : Status) (x : Nat) (dst : EpState) : s.LinesKept (s.stopEp e st x dst) := by
  unfold State.stopEp
  exact ((s.dropRequests_linesKept e).trans (State.endChain_linesKept ..)).trans (State.modEp_linesKept ..)

theorem State.disableEp_linesKept (s : State) (e : Nat) (st : Status) (g : BitVec 8) : s.LinesKept (s.disableEp e st g) :=
  (s.stopEp_linesKept e st 0 .disabled).trans (.ite (State.modXfer_linesKept ..) (State.modXfer_linesKept ..))

theorem State.usbError_linesKept (s : State) (e : Nat) : s.LinesKept (s.usbError e) := .ite (s.stopEp_linesKept ..) (s.modXfer_linesKept _)

theorem State.rootNotice_linesKept (s : State) (r code tport : Nat) : s.LinesKept (s.rootNotice r code tport) := by
  simp only [State.rootNotice]
  split <;> exact .of_eq (by simp) (by simp)

/-- A root is changed, and a notice of it posted. -/
theorem State.rootTold_linesKept (s : State) (r code : Nat) (f : Root → Root) : s.LinesKept ((s.modRoot r f).rootNotice r code 0) :=
  (s.modRoot_linesKept r f).trans (State.rootNotice_linesKept ..)

theorem State.endRootCmds_linesKept (s : State) (r : Nat) (st : Status) : s.LinesKept (s.endRootCmds r st) :=
  .of_eq (by simp [State.endRootCmds]) (by simp [State.endRootCmds])

theorem State.stopRoot_linesKept (s : State) (r : Nat) (st : Status) (x : Nat) : s.LinesKept (s.stopRoot r st x) := by
  unfold State.stopRoot
  exact (LinesKept.foldl (f := fun s e => s.stopEp e st x .stopped) (fun u e => u.stopEp_linesKept e st x .stopped) _ s).trans (State.modRoot_linesKept ..)

theorem State.rootDisconnect_linesKept (s : State) (r : Nat) : s.LinesKept (s.rootDisconnect r) :=
  .ite (.refl s) (((s.stopRoot_linesKept r _ _).trans (State.endRootCmds_linesKept ..)).trans (State.rootTold_linesKept ..))

theorem State.rootOff_linesKept (s : State) (r : Nat) : s.LinesKept (s.rootOff r false) := by
  simp only [State.rootOff, Bool.false_eq_true, if_false]
  exact ((s.stopRoot_linesKept r _ _).trans (State.endRootCmds_linesKept ..)).trans (State.modRoot_linesKept ..)

theorem State.rootHeld_linesKept (s : State) (r : Nat) : s.LinesKept (s.rootHeld r) := by
  have lost : s.LinesKept (s.loseRequests r) := by
    unfold State.loseRequests
    exact (s.modRoot_linesKept r _).trans (LinesKept.foldl State.usbError_linesKept _ _)
  exact .ite (.refl s) (lost.trans (State.rootTold_linesKept ..))

theorem State.rootRestored_linesKept (s : State) (r : Nat) : s.LinesKept (s.rootRestored r) := by
  simp only [State.rootRestored]
  refine LinesKept.trans (t := if (s.root r).held then (s.modRoot r fun x => { x with held := false }).rootNotice r 0x19 0 else s) ?_ ?_
  · exact .ite (State.rootTold_linesKept ..) (.refl s)
  · exact .ite (State.rootTold_linesKept ..) (.refl _)

theorem State.rootGone_linesKept (s : State) (r : Nat) : s.LinesKept (s.rootGone r) := by
  have disabled := LinesKept.foldl (f := fun s e => s.disableEp e .linkLost (match (s.ep e).owner with
    | some (h, sl) => (s.slice h sl).gen
    | none => 0)) (fun u e => u.disableEp_linesKept e _ _) (s.rootEps r) s
  refine .ite (s.modRoot_linesKept r _) ?_
  exact ((disabled.trans (State.modXfer_linesKept ..)).trans (State.endRootCmds_linesKept ..)).trans (State.rootTold_linesKept ..)

theorem State.rootFollows_linesKept (s : State) (p : Nat) : s.LinesKept (s.rootFollows p) :=
  .ite (s.rootGone_linesKept _) (.ite (s.rootHeld_linesKept _) (.ite (.refl s) (s.rootRestored_linesKept _)))

/-! ## Credit and requests of a port (R66, R84, R94, R95, R135) -/

theorem State.setTunnel_linesKept (s : State) (tid : Nat) (v : Tunnel) : s.LinesKept (s.setTunnel tid v) := .of_eq rfl rfl

theorem State.modTunnel_linesKept (s : State) (tid : Nat) (f : Tunnel → Tunnel) : s.LinesKept (s.modTunnel tid f) := .of_eq rfl rfl

theorem State.pushCtrl_linesKept (s : State) (p : Nat) (c : Ctrl) : s.LinesKept (s.pushCtrl p c) := .modPort s p

theorem State.request_linesKept (s : State) (p msg tid : Nat) (body : List Byte) : s.LinesKept (s.request p msg tid body) :=
  (LinesKept.modPort s p).trans (State.queueMgmt_linesKept ..)

theorem State.sendOpen_linesKept (s : State) (tid : Nat) : s.LinesKept (s.sendOpen tid) :=
  (LinesKept.modPort s _).trans (State.request_linesKept ..)

theorem State.dropAwaits_linesKept (s : State) (p tid : Nat) : s.LinesKept (s.dropAwaits p tid) := .modPort s p

theorem State.releaseTun_linesKept (s : State) (p tun cls keep : Nat) : s.LinesKept (s.releaseTun p tun cls keep) := by
  unfold State.releaseTun
  exact (State.freeSpaces_linesKept _ cls s).trans (LinesKept.modPort _ p)

theorem State.grant_linesKept (s : State) (p tun cls window queued : Nat) : s.LinesKept (s.grant p tun cls window queued) := by
  simp only [State.grant]
  refine LinesKept.ite ?_ ?_
  · exact (State.takeSpaces_linesKept _ cls s).trans (LinesKept.modPort _ p)
  · exact ((State.takeSpaces_linesKept _ cls s).trans (LinesKept.modPort _ p)).trans (State.pushCtrl_linesKept ..)

/-! ## Restores and waiting plan tunnels (R115, R118) -/

theorem State.restoreOne_linesKept (s : State) (tid : Nat) : s.LinesKept (s.restoreOne tid) := by
  simp only [State.restoreOne]
  refine .ite ((s.setTunnel_linesKept tid _).trans (State.sendOpen_linesKept ..)) (.ite (.refl s) ?_)
  exact (s.tunnelNotice_linesKept tid _ _).trans (State.modTunnel_linesKept ..)

theorem State.planRefused_linesKept (s : State) (tid : Nat) : s.LinesKept (s.planRefused tid) :=
  .ite (.refl s) ((s.modTunnel_linesKept tid _).trans
    (.of_eq ((State.alarmOccur_clock ..).trans (State.record_clock ..)) ((State.alarmOccur_ports ..).trans (State.record_ports ..))))

theorem State.planOne_linesKept (s : State) (tid : Nat) : s.LinesKept (s.planOne tid) :=
  .ite ((s.setTunnel_linesKept tid _).trans (State.sendOpen_linesKept ..)) (s.planRefused_linesKept tid)

theorem State.retryTunnels_linesKept (s : State) (p : Nat) : s.LinesKept (s.retryTunnels p) := by
  simp only [State.retryTunnels]
  exact .ite ((LinesKept.foldl State.restoreOne_linesKept _ s).trans (LinesKept.foldl State.planOne_linesKept _ _)) (.refl s)

/-! ## Teardown and link down (R101, R113) -/

theorem State.freeEntry_linesKept (s : State) (tid : Nat) (closed : Bool) : s.LinesKept (s.freeEntry tid closed) := by
  have released : s.LinesKept (s.entryReleased tid closed) := by
    unfold State.entryReleased
    exact ((s.dropAwaits_linesKept _ _).trans (State.releaseTun_linesKept ..)).trans (LinesKept.modPort _ _)
  have retried := (released.trans (State.setTunnel_linesKept _ tid { gen := (s.tunnel tid).gen + 1 })).trans
    (State.retryTunnels_linesKept _ (s.tunnel tid).port)
  rw [State.freeEntry_eq]
  exact .ite (retried.trans (State.rootFollows_linesKept ..)) retried

theorem State.endModify_linesKept (s : State) (tid : Nat) (st : Status) (d : Nat) : s.LinesKept (s.endModify tid st d) := by
  simp only [State.endModify]
  split
  · exact (s.completeOpt_linesKept _ _ _ _ _).trans (State.modTunnel_linesKept ..)
  · exact s.modTunnel_linesKept ..

theorem State.failQueued_linesKept (s : State) (tid : Nat) (st : Status) (d : Nat) : s.LinesKept (s.failQueued tid st d) := by
  unfold State.failQueued
  exact (LinesKept.foldl (f := fun s c => s.complete c 0x0203 st d []) (fun u c => u.complete_linesKept c _ _ _ _) _ s).trans
    (State.modTunnel_linesKept ..)

theorem State.undoModify_linesKept (s : State) (tid : Nat) (st : Status) : s.LinesKept (s.undoModify tid st) := by
  simp only [State.undoModify]
  split
  · exact (s.setTunnel_linesKept tid _).trans (State.endModify_linesKept ..)
  · exact .refl s

theorem State.teardownNow_linesKept (s : State) (tid : Nat) : s.LinesKept (s.teardownNow tid) := by
  unfold State.teardownNow
  exact (((s.tunnelNotice_linesKept tid _ _).trans (State.endModify_linesKept ..)).trans (State.failQueued_linesKept ..)).trans
    (State.freeEntry_linesKept ..)

theorem State.teardown_linesKept (s : State) (tid origin : Nat) : s.LinesKept (s.teardown tid origin) :=
  .ite (.refl s) (s.fwChange_linesKept _ _ fun u => u.teardownNow_linesKept tid)

theorem State.teardowns_linesKept (l : List Nat) (origin : Nat) (s : State) : s.LinesKept (l.foldl (fun s t => s.teardown t origin) s) :=
  LinesKept.foldl (fun u t => u.teardown_linesKept t origin) l s

theorem State.revertCreate_linesKept (s : State) (tid : Nat) (st : Status) (d : Nat) : s.LinesKept (s.revertCreate tid st d) :=
  ((s.completeOpt_linesKept _ _ _ _ _).trans (State.modTunnel_linesKept ..)).trans
    (State.fwChange_linesKept _ _ _ fun u => u.freeEntry_linesKept tid false)

theorem State.closeDone_linesKept (s : State) (tid : Nat) (closed : Bool) : s.LinesKept (s.closeDone tid closed) :=
  (s.completeOpt_linesKept _ _ _ _ _).trans (State.freeEntry_linesKept ..)

theorem State.tunnelLinkDown_linesKept (s : State) (tid : Nat) : s.LinesKept (s.tunnelLinkDown tid) := by
  simp only [State.tunnelLinkDown]
  split
  · exact ((((s.undoModify_linesKept tid _).trans (State.failQueued_linesKept ..)).trans (State.releaseTun_linesKept ..)).trans
      (State.modTunnel_linesKept ..)).trans (State.tunnelNotice_linesKept ..)
  · exact .ite (.refl s) (.ite (s.modTunnel_linesKept ..) (.ite (s.revertCreate_linesKept ..) (s.teardown_linesKept ..)))
  · exact s.closeDone_linesKept tid false
  · exact .refl s

theorem State.tunnelsLinkDown_linesKept (s : State) (p : Nat) : s.LinesKept (s.tunnelsLinkDown p) := by
  have level (u : State) (n : Nat) (b : Bool) : u.LinesKept (u.level n b) := .of_eq (by simp) (by simp)
  have held (u : State) (c : Prop) [Decidable c] : u.LinesKept (if c then u.rootHeld (12 + p) else u) := .ite (u.rootHeld_linesKept _) (.refl u)
  simp only [State.tunnelsLinkDown]
  refine (((((LinesKept.modPort s p).trans (level _ _ _)).trans (State.releaseTun_linesKept ..)).trans
    (LinesKept.foldl State.tunnelLinkDown_linesKept _ _)).trans (LinesKept.modPort _ p)).trans ((LinesKept.modPort _ p).trans (.ite (.refl _) ?_))
  exact .ite ((held _ _).trans (State.teardowns_linesKept ..)) (held _ _)

end Sys2Proof.Machine
end

section
/-! PROOFS. What a port sends on its lanes: training blocks, markers, wake bursts and control flits; what that leaves alone, and what has gone out (R34, R39, R50, R67, R69). -/

namespace Sys2Proof.Machine

theorem Port.line_modLane (x : Port) (l : Nat) {f : Lane → Lane} (hf : ∀ v, (f v).settings = v.settings) : (x.modLane l f).line = x.line := by
  unfold Port.modLane Port.setLane Port.line
  split <;> simp only [hf, Port.lane]

theorem State.send_linesKept (s : State) (o : Out) : s.LinesKept (s.send o) := .of_eq rfl rfl

theorem State.port_send (s : State) (o : Out) (q : Nat) : (s.send o).port q = s.port q := rfl

theorem State.LinesKept.modLane (s : State) (p l : Nat) {f : Lane → Lane} (hf : ∀ v, (f v).settings = v.settings := by exact fun _ => rfl) :
    s.LinesKept (s.modPort p fun x => x.modLane l f) := .modPort s p fun x => x.line_modLane l hf

/-! ## Training blocks (R39) -/

/-- R39: a training block carries the line of the port, the time and the serial number, and nothing else of the state. -/
theorem State.tbBytes_congr {s t : State} (h : s.LinesKept t) (boot : t.boot = s.boot) (p l : Nat) (o : TbOut) :
    t.tbBytes p l o = s.tbBytes p l o := by
  have sets (k : Nat) : ((t.port p).lane k).sets = ((s.port p).lane k).sets := h.lane p (g := Lane.sets) (fun _ => rfl) k
  have stored : (t.port p).storedOk = (s.port p).storedOk := by simp only [Port.storedOk, h.train, h.exclRec, sets]
  have coef : ((t.port p).lane l).coefBytes o.req = ((s.port p).lane l).coefBytes o.req :=
    h.lane p (g := fun v => v.coefBytes o.req) (fun _ => rfl) l
  have err : ((t.port p).lane l).errLog2 = ((s.port p).lane l).errLog2 := h.lane p (g := Lane.errLog2) (fun _ => rfl) l
  simp only [State.tbBytes, State.now, h.train, h.link, h.clock, stored, coef, err, boot]

theorem State.tbSent_congr {s t : State} (h : s.LinesKept t) (boot : t.boot = s.boot) (p l : Nat) : t.tbSent p l = s.tbSent p l := by
  simp only [State.tbSent, h.train, State.tbBytes_congr h boot]

/-- R39: a training block goes on one lane. -/
def State.sendTbOn (s : State) (p : Nat) (o : Nat → TbOut) (l : Nat) : State :=
  (s.send (.tb p l (s.tbBytes p l (o l)))).modPort p fun x => x.modLane l fun v => { v with scram := laneSeed l }

theorem State.sendTb_eq (s : State) (p : Nat) (m : BitVec 4) (o : Nat → TbOut) : s.sendTb p m o = (lanesOf m).foldl (fun s l => s.sendTbOn p o l) s := rfl

theorem State.OnPort.sendTbOn (p : Nat) (s : State) (o : Nat → TbOut) (l : Nat) : State.OnPort p s (s.sendTbOn p o l) :=
  (State.OnPort.send p s _).trans (State.OnPort.modPort ..)

theorem State.sendTbOn_linesKept (s : State) (p : Nat) (o : Nat → TbOut) (l : Nat) : s.LinesKept (s.sendTbOn p o l) :=
  (s.send_linesKept _).trans (LinesKept.modLane _ p l)

theorem State.OnPort.sendTb (p : Nat) (s : State) (m : BitVec 4) (o : Nat → TbOut) : State.OnPort p s (s.sendTb p m o) :=
  State.OnPort.foldl (fun u l => State.OnPort.sendTbOn p u o l) _ s

theorem State.sendTb_linesKept (s : State) (p : Nat) (m : BitVec 4) (o : Nat → TbOut) : s.LinesKept (s.sendTb p m o) :=
  LinesKept.foldl (fun u l => u.sendTbOn_linesKept p o l) _ s

/-- R39: the blocks that have gone out, the newest first. -/
theorem State.sendTb_out (s : State) (p : Nat) (m : BitVec 4) (o : Nat → TbOut) :
    (s.sendTb p m o).out = ((lanesOf m).map fun l => Out.tb p l (s.tbBytes p l (o l))).reverse ++ s.out := by
  rw [State.sendTb_eq]
  induction lanesOf m generalizing s with
  | nil => rfl
  | cons l ls ih =>
    have same (k : Nat) : (s.sendTbOn p o l).tbBytes p k (o k) = s.tbBytes p k (o k) :=
      State.tbBytes_congr (s.sendTbOn_linesKept p o l) (State.OnPort.sendTbOn p s o l).boot p k (o k)
    have first : (s.sendTbOn p o l).out = .tb p l (s.tbBytes p l (o l)) :: s.out := rfl
    simp only [List.foldl_cons, ih, same, first, List.map_cons, List.reverse_cons, List.append_assoc, List.singleton_append]

theorem State.OnPort.announce (p : Nat) (s : State) : State.OnPort p s (s.announce p) := State.OnPort.sendTb ..

theorem State.announce_linesKept (s : State) (p : Nat) : s.LinesKept (s.announce p) := s.sendTb_linesKept ..

/-- R41: the block of the present state has gone on each lane that the state sends on. -/
theorem State.announce_sends (s : State) (p : Nat) {l : Nat} (on : (s.port p).train.transmits.getLsbD l = true) :
    Out.tb p l ((s.announce p).tbSent p l) ∈ (s.announce p).out := by
  rw [State.tbSent_congr (s.announce_linesKept p) (State.OnPort.announce p s).boot, State.announce, State.sendTb_out]
  refine List.mem_append_left _ (List.mem_reverse.mpr (List.mem_map.mpr ⟨l, mem_lanesOf.mpr on, rfl⟩))

/-! ## Markers (R34) -/

theorem State.OnPort.sendMarker (p : Nat) (s : State) (l : Nat) : State.OnPort p s (s.sendMarker p l) := by
  unfold State.sendMarker
  exact (State.OnPort.send p s _).trans (State.OnPort.modPort ..)

theorem State.sendMarker_linesKept (s : State) (p l : Nat) : s.LinesKept (s.sendMarker p l) := by
  unfold State.sendMarker
  exact (s.send_linesKept _).trans (LinesKept.modLane _ p l)

/-- R34: a marker on each lane of a list. -/
def State.sendMarkers (s : State) (p : Nat) (ls : List Nat) : State := ls.foldl (fun s l => s.sendMarker p l) s

theorem State.sendMarkers_cons (s : State) (p l : Nat) (ls : List Nat) : s.sendMarkers p (l :: ls) = (s.sendMarker p l).sendMarkers p ls := rfl

theorem State.OnPort.sendMarkers (p : Nat) (s : State) (ls : List Nat) : State.OnPort p s (s.sendMarkers p ls) :=
  State.OnPort.foldl (fun u l => State.OnPort.sendMarker p u l) ls s

theorem State.sendMarkers_linesKept (s : State) (p : Nat) (ls : List Nat) : s.LinesKept (s.sendMarkers p ls) :=
  LinesKept.foldl (fun u l => u.sendMarker_linesKept p l) ls s

theorem State.sendMarkers_tx (s : State) (p : Nat) (ls : List Nat) : ((s.sendMarkers p ls).port p).tx = (s.port p).tx := by
  induction ls generalizing s with
  | nil => rfl
  | cons l ls ih =>
    have first : ((s.sendMarker p l).port p).tx = (s.port p).tx := by
      unfold State.sendMarker
      rw [State.port_modPort_same, Port.modLane_tx]
      rfl
    exact (ih _).trans first

/-- R34: on each of several lanes one marker goes, with the group counter as it was, which then counts on. -/
theorem State.sendMarkers_sends (p k : Nat) : ∀ (ls : List Nat) (s : State), ls.Nodup → (∀ l ∈ ls, l < 4) →
    s.out ⊆ (s.sendMarkers p ls).out ∧ (k ∈ ls → (((s.sendMarkers p ls).port p).lane k).groupTx = ((s.port p).lane k).groupTx + 1
      ∧ Out.marker p k (markerBytes k ((s.port p).lane k).groupTx.toNat (s.port p).fec) ∈ (s.sendMarkers p ls).out) ∧
    (k < 4 → k ∉ ls → (((s.sendMarkers p ls).port p).lane k) = (s.port p).lane k) := by
  intro ls
  induction ls with
  | nil => exact fun s _ _ => ⟨List.Subset.refl _, fun m => absurd m (List.not_mem_nil), fun _ _ => rfl⟩
  | cons l ls ih =>
    intro s nodup small
    obtain ⟨fresh, nodup⟩ := List.nodup_cons.mp nodup
    have hl : l < 4 := small l List.mem_cons_self
    obtain ⟨outs, sent, kept⟩ := ih (s.sendMarker p l) nodup fun j m => small j (List.mem_cons_of_mem l m)
    have goes : (s.sendMarker p l).out = .marker p l (markerBytes l ((s.port p).lane l).groupTx.toNat (s.port p).fec) :: s.out := rfl
    have own : ((s.sendMarker p l).port p).lane l = { (s.port p).lane l with groupTx := ((s.port p).lane l).groupTx + 1, flitsTx := 0, scram := laneSeed l } := by
      unfold State.sendMarker
      rw [State.port_modPort_same, Port.lane_modLane_same _ _ hl]
      rfl
    have others {j : Nat} (hj : j < 4) (n : j ≠ l) : ((s.sendMarker p l).port p).lane j = (s.port p).lane j := by
      unfold State.sendMarker
      rw [State.port_modPort_same, Port.lane_modLane_other _ _ hl hj n]
      rfl
    have fec : ((s.sendMarker p l).port p).fec = (s.port p).fec := by
      simp only [Port.fec, (s.sendMarker_linesKept p l).train]
    rw [goes] at outs
    rw [State.sendMarkers_cons]
    refine ⟨fun o m => outs (List.mem_cons_of_mem _ m), fun m => ?_, fun hk n => ?_⟩
    · obtain rfl | m := List.mem_cons.mp m
      · exact ⟨(congrArg Lane.groupTx (kept hl fresh)).trans (congrArg Lane.groupTx own), outs List.mem_cons_self⟩
      · have hk := small k (List.mem_cons_of_mem l m)
        have n : k ≠ l := fun e => fresh (e ▸ m)
        rw [others hk n, fec] at sent
        exact sent m
    · obtain ⟨n, m⟩ := not_or.mp (List.mem_cons.not.mp n)
      exact (kept hk m).trans (others hk n)

/-! ## Control flits (R50, R67, R69, R72) -/

theorem State.OnPort.pushCtrl (p : Nat) (s : State) (c : Ctrl) : State.OnPort p s (s.pushCtrl p c) := State.OnPort.modPort p s _

theorem State.port_pushCtrl (s : State) (p : Nat) (c : Ctrl) :
    (s.pushCtrl p c).port p = { s.port p with tx := { (s.port p).tx with ctrl := (s.port p).tx.ctrl ++ [c] } } := s.port_modPort_same p _

/-- A flit for each of a list. -/
theorem State.port_pushCtrls {α : Type} (p : Nat) (c : α → Ctrl) (l : List α) : ∀ s : State, (l.foldl (fun s a => s.pushCtrl p (c a)) s).port p =
    { s.port p with tx := { (s.port p).tx with ctrl := (s.port p).tx.ctrl ++ l.map c } } := by
  induction l with
  | nil => exact fun s => by simp
  | cons a l ih =>
    intro s
    rw [List.foldl_cons, ih, State.port_pushCtrl]
    simp

theorem State.OnPort.creditAll (p : Nat) (s : State) : State.OnPort p s (s.creditAll p) :=
  State.OnPort.foldl (fun u _ => State.OnPort.pushCtrl p u _) _ s

theorem State.creditAll_linesKept (s : State) (p : Nat) : s.LinesKept (s.creditAll p) :=
  LinesKept.foldl (fun u _ => u.pushCtrl_linesKept p _) _ s

/-- R67: the credits take at least one flit, that of TUN 0. -/
theorem State.port_creditAll (s : State) (p : Nat) : ∃ cs : List Ctrl, cs ≠ [] ∧
    (s.creditAll p).port p = { s.port p with tx := { (s.port p).tx with ctrl := (s.port p).tx.ctrl ++ cs } } := by
  refine ⟨_, ?_, State.port_pushCtrls p _ _ s⟩
  simp only [ne_eq, List.map_eq_nil_iff, List.range_eq_nil, List.map_cons, List.length_cons]
  omega

theorem State.OnPort.armIdle (p : Nat) (s : State) : State.OnPort p s (s.armIdle p) := by
  unfold State.armIdle
  exact State.OnPort.modPort ..

theorem State.armIdle_linesKept (s : State) (p : Nat) : s.LinesKept (s.armIdle p) := by
  unfold State.armIdle
  exact .modPort s p

theorem State.armIdle_tx (s : State) (p : Nat) :
    ((s.armIdle p).port p).tx = { (s.port p).tx with idleDue := (s.idleNs p).map s.after } := by
  unfold State.armIdle
  rw [State.port_modPort_same]

/-! ## Waking (R50) -/

/-- R50: the outbound direction is awake, and its wake bursts and markers have gone. -/
def State.wokenOut (s : State) (p : Nat) : State :=
  ((s.modPort p fun x => { x with tx := { x.tx with asleep := false, keepDue := none } }).send
    (.wakeBurst p (s.port p).outSet.toNat 200)).sendMarkers p (lanesOf (s.port p).outSet)

theorem State.wakeOut_eq (s : State) (p : Nat) : s.wakeOut p = if !(s.port p).tx.asleep || !s.linkUp p then s
    else ((s.wokenOut p).creditAll p).armIdle p := rfl

theorem State.OnPort.wakeOut (p : Nat) (s : State) : State.OnPort p s (s.wakeOut p) := by
  have woken : State.OnPort p s (s.wokenOut p) := by
    unfold State.wokenOut
    exact ((State.OnPort.modPort p s _).trans (State.OnPort.send ..)).trans (State.OnPort.sendMarkers ..)
  rw [State.wakeOut_eq]
  exact .ite (.refl p s) ((woken.trans (State.OnPort.creditAll ..)).trans (State.OnPort.armIdle ..))

theorem State.wakeOut_linesKept (s : State) (p : Nat) : s.LinesKept (s.wakeOut p) := by
  have woken : s.LinesKept (s.wokenOut p) := by
    unfold State.wokenOut
    exact ((LinesKept.modPort s p).trans (State.send_linesKept ..)).trans (State.sendMarkers_linesKept ..)
  rw [State.wakeOut_eq]
  exact .ite (.refl s) ((woken.trans (State.creditAll_linesKept ..)).trans (State.armIdle_linesKept ..))

/-- R50, R67: a direction that wakes no longer waits to keep alive, and its credits wait to be sent. -/
theorem State.wakeOut_wakes {s : State} {p : Nat} (asleep : (s.port p).tx.asleep = true) (up : s.linkUp p = true) :
    ((s.wakeOut p).port p).tx.asleep = false ∧ ((s.wakeOut p).port p).tx.keepDue = none
      ∧ (s.port p).tx.ctrl.length < ((s.wakeOut p).port p).tx.ctrl.length := by
  have woken : ((s.wokenOut p).port p).tx = { (s.port p).tx with asleep := false, keepDue := none } := by
    unfold State.wokenOut
    rw [State.sendMarkers_tx, State.port_send, State.port_modPort_same]
  obtain ⟨cs, some', credits⟩ := (s.wokenOut p).port_creditAll p
  have wakes : s.wakeOut p = ((s.wokenOut p).creditAll p).armIdle p := by
    rw [State.wakeOut_eq, asleep, up]
    exact if_neg Bool.false_ne_true
  rw [wakes, State.armIdle_tx, credits, woken]
  refine ⟨rfl, rfl, ?_⟩
  rw [List.length_append]
  exact Nat.lt_add_of_pos_right (List.length_pos_iff.mpr some')

/-! ## Lane changes (R69, R71, R72) -/

theorem State.OnPort.rotate' (p : Nat) (s : State) (m l c e : Nat) : State.OnPort p s (s.rotate' p m l c e) := State.OnPort.modPort ..

theorem State.rotate'_linesKept (s : State) (p m l c e : Nat) : s.LinesKept (s.rotate' p m l c e) := .modPort s p

/-- R69: a rotation puts one copy for each lane of its set before what waits. -/
theorem State.rotate'_ctrl (s : State) (p m l c e : Nat) :
    ((s.rotate' p m l c e).port p).tx.ctrl.length = laneCount (s.port p).outSet + (s.port p).tx.ctrl.length := by
  unfold State.rotate'
  rw [State.port_modPort_same, List.length_append, List.length_map, List.length_range]

theorem State.OnPort.laneReq (p : Nat) (s : State) (l a : Nat) : State.OnPort p s (s.laneReq p l a) := State.OnPort.pushCtrl ..

theorem State.laneReq_linesKept (s : State) (p l a : Nat) : s.LinesKept (s.laneReq p l a) := s.pushCtrl_linesKept p _

theorem State.OnPort.joinOut (p : Nat) (s : State) (l c n : Nat) : State.OnPort p s (s.joinOut p l c n) :=
  ((State.OnPort.send p s _).trans (State.OnPort.sendMarker ..)).trans (State.OnPort.rotate' ..)

theorem State.joinOut_linesKept (s : State) (p l c n : Nat) : s.LinesKept (s.joinOut p l c n) :=
  ((s.send_linesKept _).trans (State.sendMarker_linesKept ..)).trans (State.rotate'_linesKept ..)

end Sys2Proof.Machine
end

section
/-! PROOFS. Training states entered, training begun at DETECT, and an ACTIVE link lost with a retrain (R38, R45, R52, R53, R70). -/

namespace Sys2Proof.Machine

theorem State.linkUp_iff {s : State} {p : Nat} : s.linkUp p = true ↔ (s.port p).train.state = .active := decide_eq_true_iff

theorem State.linkUp_false_iff {s : State} {p : Nat} : s.linkUp p = false ↔ (s.port p).train.state ≠ .active := decide_eq_false_iff_not

theorem State.port_modTrain (s : State) (p : Nat) (f : Train → Train) :
    (s.modTrain p f).port p = { s.port p with train := f (s.port p).train } := s.port_modPort_same p _

theorem State.OnPort.modTrain (p : Nat) (s : State) (f : Train → Train) : State.OnPort p s (s.modTrain p f) := State.OnPort.modPort p s _

theorem State.port_trace (s : State) (a g o q : Nat) : (s.trace a g o).port q = s.port q := State.port_congr (s.trace_ports a g o) q

/-! ## A state entered -/

/-- A port whose training has entered a state with this limit. -/
def Port.entered (x : Port) (st : TrainState) (due : Time) : Port :=
  ({ x with train := { x.train with state := st, due := some due, locked := 0, rateIdle := false, idle := false } }).mapLanes fun l => { l with eqReqs := 0 }

theorem State.enter_eq (s : State) (p : Nat) (st : TrainState) :
    s.enter p st = s.modPort p fun x => x.entered st (s.after (1000 * stateLimit st)) := rfl

theorem State.OnPort.enter (p : Nat) (s : State) (st : TrainState) : State.OnPort p s (s.enter p st) := by
  rw [State.enter_eq]
  exact State.OnPort.modPort ..

theorem State.port_enter (s : State) (p : Nat) (st : TrainState) :
    (s.enter p st).port p = (s.port p).entered st (s.after (1000 * stateLimit st)) := by
  rw [State.enter_eq, State.port_modPort_same]

/-! ## Training begins at DETECT (R38, R45) -/

/-- R45: a port whose training starts anew: the next TRAIN_ID, the home lane sets and the initial preset of J14. -/
def Port.restarted (x : Port) : Port :=
  ({ x with
    outSet := 5, inSet := 10, transit := none
    train := { x.train with trainId := x.train.trainId + 1, rateSel := .j14, fecSel := false, precodeSel := false, useStored := false
                            tb2Since := none, cfgAcks := 0, rxTags := 0, peer := none, doneA := 0, doneB := 0, failOut := 0, failIn := 0
                            syncMarks := 0, echoSeen := false, maxNow := x.maxRate } }).mapLanes fun l =>
    { l with tb1Good := 0, pre := 0, post := -6, preset := some 1, reject := false }

theorem State.startDetect_eq (s : State) (p : Nat) : s.startDetect p = ((s.enter p .detect).modPort p Port.restarted).announce p := rfl

theorem State.OnPort.startDetect (p : Nat) (s : State) : State.OnPort p s (s.startDetect p) := by
  rw [State.startDetect_eq]
  exact ((State.OnPort.enter ..).trans (State.OnPort.modPort ..)).trans (State.OnPort.announce ..)

/-- What training leaves of a port that it starts on at DETECT. -/
structure Port.Detecting (x y : Port) (due : Time) : Prop where
  state : y.train.state = .detect
  trainId : y.train.trainId = x.train.trainId + 1
  cause : y.train.cause = x.train.cause
  idle : y.train.idle = false
  due : y.train.due = some due
  outSet : y.outSet = 5
  inSet : y.inSet = 10
  transit : y.transit = none
  preset : ∀ k, (y.lane k).preset = some 1
  badTold : ∀ k, (y.lane k).badTold = (x.lane k).badTold

theorem State.startDetect_detecting (s : State) (p : Nat) : (s.port p).Detecting ((s.startDetect p).port p) (s.after 100000) := by
  have before : ((s.enter p .detect).modPort p Port.restarted).port p = ((s.port p).entered .detect (s.after (1000 * stateLimit .detect))).restarted := by
    rw [State.port_modPort_same, State.port_enter]
  have kept := ((s.enter p .detect).modPort p Port.restarted).announce_linesKept p
  rw [← State.startDetect_eq] at kept
  have lane {α : Type} (g : Lane → α) (hg : ∀ v, g v = g v.settings) (k : Nat) : g (((s.startDetect p).port p).lane k) =
      g (({ ((s.port p).lane k) with eqReqs := 0, tb1Good := 0, pre := 0, post := -6, preset := some 1, reject := false } : Lane)) := by
    rw [kept.lane p hg, before, Port.restarted, Port.lane_mapLanes]
    have entered : ((s.port p).entered .detect (s.after (1000 * stateLimit .detect))).lane k = { (s.port p).lane k with eqReqs := 0 } :=
      Port.lane_mapLanes ..
    exact congrArg (fun v : Lane => g { v with tb1Good := 0, pre := 0, post := -6, preset := some 1, reject := false }) entered
  have train := (kept.train p).trans (congrArg Port.train before)
  constructor
  case state => rw [train]; rfl
  case trainId => rw [train]; rfl
  case cause => rw [train]; rfl
  case idle => rw [train]; rfl
  case due => rw [train]; rfl
  case outSet => rw [kept.outSet, before]; rfl
  case inSet => rw [kept.inSet, before]; rfl
  case transit => rw [kept.transit, before]; rfl
  case preset => exact lane Lane.preset fun _ => rfl
  case badTold => exact lane Lane.badTold fun _ => rfl

/-- TB1 goes on L0 and L2. -/
theorem State.startDetect_sends (s : State) (p : Nat) : Out.tb p 0 ((s.startDetect p).tbSent p 0) ∈ (s.startDetect p).out
    ∧ Out.tb p 2 ((s.startDetect p).tbSent p 2) ∈ (s.startDetect p).out := by
  have detect : (((s.enter p .detect).modPort p Port.restarted).port p).train.transmits = 5 := by
    rw [State.port_modPort_same, State.port_enter]
    rfl
  rw [State.startDetect_eq]
  exact ⟨State.announce_sends _ p (by rw [detect]; rfl), State.announce_sends _ p (by rw [detect]; rfl)⟩

/-! ## An ACTIVE link is lost (R52, R53, R70, R113) -/

/-- A port whose ACTIVE link has gone down. -/
def Port.wentDown (x : Port) : Port :=
  { x with transit := none, recalRetry := none, defExcl := none, tx := {}, rx := { protoErr := x.rx.protoErr }
           time := { x.time with due := none, samples := [], pdValid := false, forming := false }
           train := { x.train with state := .detect, cause := .none } }

theorem State.linkLost_line {s : State} {p : Nat} (up : s.linkUp p = true) : ((s.linkLost p).port p).line = (s.port p).wentDown.line := by
  have down : ((s.modPort p fun x => { x with transit := none, recalRetry := none, defExcl := none, tx := {}, rx := { protoErr := x.rx.protoErr }
                                              time := { x.time with due := none, samples := [], pdValid := false, forming := false } }).modTrain p
      fun t => { t with state := .detect, cause := .none }).port p = (s.port p).wentDown := by
    rw [State.port_modTrain, State.port_modPort_same]
    rfl
  simp only [State.linkLost, up, if_true]
  refine ((State.tunnelsLinkDown_linesKept _ p).line p).trans ?_
  rw [State.port_trace, State.port_event, down]

/-- R52, R70: a link that retrains is at DETECT under the next TRAIN_ID, its cause noted and its lane change abandoned. -/
theorem State.retrainFor_detecting {s : State} {p : Nat} (up : s.linkUp p = true) (c : LinkCause) :
    ∃ due, Port.Detecting { s.port p with train := { (s.port p).train with cause := c } } ((s.retrainFor p c).port p) due := by
  have lost := State.linkLost_line up
  have ran : s.retrainFor p c = ((s.linkLost p).modTrain p fun t => { t with cause := c }).startDetect p := if_pos up
  have d := State.startDetect_detecting ((s.linkLost p).modTrain p fun t => { t with cause := c }) p
  rw [← ran, State.port_modTrain] at d
  have train : ((s.linkLost p).port p).train = (s.port p).wentDown.train := (congrArg Port.train lost :)
  refine ⟨_, d.state, ?_, d.cause, d.idle, d.due, d.outSet, d.inSet, d.transit, d.preset, fun k => ?_⟩
  · rw [d.trainId, train]
    rfl
  · have settings : (((s.linkLost p).port p).lane k).settings = ((s.port p).wentDown.lane k).settings := by
      rw [← Port.lane_line, lost, Port.lane_line]
    exact (d.badTold k).trans (congrArg Lane.badTold settings :)

/-! ## A lane change has ended (R69, R74) -/

theorem State.settled_linesKept (s : State) (p : Nat) : (s.modPort p fun x => { x with transit := none }).LinesKept (s.settled p) :=
  State.retryTunnels_linesKept ..

theorem State.settled_transit (s : State) (p : Nat) : ((s.settled p).port p).transit = none := by
  rw [(s.settled_linesKept p).transit, State.port_modPort_same]

end Sys2Proof.Machine
end

section
/-! PROOFS. The timers of an ACTIVE link: NAKs, resends, repeated ACKs, credits and TIME, credit granted, and lane changes that are not answered (R62 to R64, R67, R74, R76). -/

namespace Sys2Proof.Machine

/-! ## Nothing but ports -/

/-- From `s` to `t` no more than ports has changed. -/
def State.PortsOnly (s t : State) : Prop := t = { s with ports := t.ports }

namespace State.PortsOnly

theorem refl (s : State) : State.PortsOnly s s := rfl

theorem trans {s t u : State} (h : State.PortsOnly s t) (g : State.PortsOnly t u) : State.PortsOnly s u :=
  Eq.trans g (congrArg (fun v : State => { v with ports := u.ports }) h)

theorem modPort (s : State) (p : Nat) (f : Port → Port) : State.PortsOnly s (s.modPort p f) := rfl

theorem pushCtrl (s : State) (p : Nat) (c : Ctrl) : State.PortsOnly s (s.pushCtrl p c) := modPort s p _

theorem foldl {α : Type} {f : State → α → State} (hf : ∀ (s : State) (x : α), State.PortsOnly s (f s x)) (l : List α) :
    ∀ s : State, State.PortsOnly s (l.foldl f s) := by
  induction l with
  | nil => exact refl
  | cons x l ih => exact fun s => (hf s x).trans (ih (f s x))

theorem creditAll (s : State) (p : Nat) : State.PortsOnly s (s.creditAll p) := foldl (fun u _ => pushCtrl u p _) _ s

end State.PortsOnly

/-! ## Retry (R62 to R64) -/

/-- R63: the receiver of a link that has asked again from B for the `run`-th time. -/
def RxState.asking (r : RxState) (due : Time) (run : Nat) : RxState :=
  { r with retryWait := true, nakDue := some due, nakSeq := some r.b, nakRun := run }

/-- R63: how often B has been asked for, with this time. -/
def RxState.run (r : RxState) : Nat := if r.nakSeq = some r.b then r.nakRun + 1 else 1

theorem State.sendNak_eq (s : State) (p : Nat) : s.sendNak p =
    let u := s.modPort p fun x => { x with rx := (s.port p).rx.asking (s.after (s.port p).replayNs) (s.port p).rx.run }
    if 8 ≤ (s.port p).rx.run then u.linkRetrain p
    else u.pushCtrl p { typ := 2, payload := ackPayload (s.port p).rx (some (s.port p).rx.b) } := rfl

theorem State.sendNak_asks {s : State} {p : Nat} (few : (s.port p).rx.nakSeq = some (s.port p).rx.b → (s.port p).rx.nakRun < 7) :
    (s.sendNak p).port p = { s.port p with rx := (s.port p).rx.asking (s.after (s.port p).replayNs) (s.port p).rx.run
                                           tx := { (s.port p).tx with ctrl := (s.port p).tx.ctrl ++
                                             [{ typ := 2, payload := ackPayload (s.port p).rx (some (s.port p).rx.b) }] } }
      ∧ State.PortsOnly s (s.sendNak p) := by
  have run : ¬ 8 ≤ (s.port p).rx.run := by
    unfold RxState.run
    split_ifs with again
    · have := few again
      omega
    · omega
  rw [State.sendNak_eq]
  simp only [if_neg run]
  refine ⟨?_, (PortsOnly.modPort s p _).trans (PortsOnly.pushCtrl ..)⟩
  rw [State.port_pushCtrl, State.port_modPort_same]

/-- R65: the eighth NAK from one SEQ is retry exhaustion. -/
theorem State.sendNak_exhausts {s : State} {p : Nat} (up : s.linkUp p = true) (again : (s.port p).rx.nakSeq = some (s.port p).rx.b)
    (many : 7 ≤ (s.port p).rx.nakRun) :
    ((s.sendNak p).port p).train.state = .detect ∧ ((s.sendNak p).port p).train.trainId = (s.port p).train.trainId + 1 := by
  have run : 8 ≤ (s.port p).rx.run := by
    unfold RxState.run
    rw [if_pos again]
    omega
  rw [State.sendNak_eq]
  simp only [if_pos run]
  generalize (s.port p).rx.asking _ _ = rx
  have asked : (s.modPort p fun x => { x with rx := rx }).port p = { s.port p with rx := rx } := State.port_modPort_same ..
  have up' : (s.modPort p fun x => { x with rx := rx }).linkUp p = true := by
    rw [State.linkUp, asked]
    exact up
  obtain ⟨due, d⟩ := State.retrainFor_detecting up' .none
  refine ⟨d.state, d.trainId.trans ?_⟩
  rw [asked]

/-- R64: the flits from `seq` on that are unacknowledged, as sent now. -/
def TxState.again (x : TxState) (seq : BitVec 12) (now : Time) : List Unacked :=
  (x.unacked.filter fun u => decide ((u.seq - seq).toNat < 2048)).map fun u => { u with sentAt := now }

theorem State.port_resendFrom (s : State) (p : Nat) (seq : BitVec 12) : (s.resendFrom p seq).port p =
    { s.port p with
      retry := if ((s.port p).tx.again seq s.now).isEmpty then (s.port p).retry else (s.port p).retry + 1
      tx := { (s.port p).tx with resend := (s.port p).tx.again seq s.now
                                 unacked := (s.port p).tx.unacked.filter (fun u => !decide ((u.seq - seq).toNat < 2048)) ++ (s.port p).tx.again seq s.now } } :=
  s.port_modPort_same p _

theorem State.PortsOnly.resendFrom (s : State) (p : Nat) (seq : BitVec 12) : State.PortsOnly s (s.resendFrom p seq) := by
  unfold State.resendFrom
  exact State.PortsOnly.modPort ..

theorem State.sendAck_acks (s : State) (p : Nat) (counts : Bool) :
    (s.sendAck p counts).port p = { s.port p with rx := { (s.port p).rx with ackDue := some (s.after 10000) }
                                                  tx := { (s.port p).tx with ctrl := (s.port p).tx.ctrl ++
                                                    [{ typ := 2, payload := ackPayload (s.port p).rx none, counts := counts }] } }
      ∧ State.PortsOnly s (s.sendAck p counts) := by
  unfold State.sendAck
  refine ⟨?_, (PortsOnly.modPort s p _).trans (PortsOnly.pushCtrl ..)⟩
  rw [State.port_pushCtrl, State.port_modPort_same]
  rfl

section
variable {p : Fin 12} {s : State}

theorem exec_nakTimerExpiry (active : (s.port p).train.state = .active) (wait : (s.port p).rx.retryWait = true)
    (due : s.due (s.port p).rx.nakDue = true) : exec (.nakTimerExpiry p) s = .next (s.sendNak p) :=
  if_pos (by rw [State.linkUp_iff.mpr active, wait, due]; rfl)

theorem nakTimerExpiry_gives (active : (s.port p).train.state = .active) (wait : (s.port p).rx.retryWait = true)
    (due : s.due (s.port p).rx.nakDue = true) : Gives (.nakTimerExpiry p) s fun t =>
      (((s.port p).rx.nakSeq = some (s.port p).rx.b → (s.port p).rx.nakRun < 7) →
          (t.port p).rx.nakRun = (if (s.port p).rx.nakSeq = some (s.port p).rx.b then (s.port p).rx.nakRun + 1 else 1)
            ∧ (t.port p).tx.ctrl = (s.port p).tx.ctrl ++ [{ typ := 2, payload := ackPayload (s.port p).rx (some (s.port p).rx.b) }] ∧ t = { s with ports := t.ports })
        ∧ ((s.port p).rx.nakSeq = some (s.port p).rx.b → 7 ≤ (s.port p).rx.nakRun →
          (t.port p).train.state = .detect ∧ (t.port p).train.trainId = (s.port p).train.trainId + 1) := by
  refine Gives.of_eq (exec_nakTimerExpiry active wait due) ⟨fun few => ?_, State.sendNak_exhausts (State.linkUp_iff.mpr active)⟩
  obtain ⟨own, only⟩ := State.sendNak_asks few
  generalize s.sendNak p = t at *
  rw [own]
  exact ⟨rfl, rfl, only⟩

theorem replayTimeout_gives {u : Unacked} {rest : List Unacked} (active : (s.port p).train.state = .active) (oldest : (s.port p).tx.unacked = u :: rest)
    (late : u.sentAt.toNat + (s.port p).replayNs < s.now.toNat) : Gives (.replayTimeout p) s fun t =>
      (t.port p).tx.resend = ((s.port p).tx.unacked.filter fun v => decide ((v.seq - u.seq).toNat < 2048)).map (fun v => { v with sentAt := s.now })
        ∧ (t.port p).retry = (s.port p).retry + 1 ∧ (t.port p).tx.ctrl = (s.port p).tx.ctrl ∧ t = { s with ports := t.ports } := by
  have ran : exec (.replayTimeout p) s = .next (s.resendFrom p u.seq) := by
    change execReplayTimeout p s = _
    simp only [execReplayTimeout, oldest, State.linkUp_iff.mpr active, decide_eq_true late, Bool.and_self, if_true]
  have some' : ((s.port p).tx.again u.seq s.now).isEmpty = false := by
    have own : (u.seq - u.seq).toNat < 2048 := by simp
    rw [TxState.again, oldest, List.filter_cons, decide_eq_true own]
    rfl
  have own := s.port_resendFrom p u.seq
  rw [some'] at own
  refine Gives.of_eq ran ?_
  have only := State.PortsOnly.resendFrom s p u.seq
  generalize s.resendFrom p u.seq = t at *
  rw [own]
  exact ⟨rfl, rfl, rfl, only⟩

theorem ackRepeatExpiry_gives (active : (s.port p).train.state = .active) (due : s.due (s.port p).rx.ackDue = true)
    (out : (s.port p).tx.asleep = false) (inn : (s.port p).rx.asleep = false) : Gives (.ackRepeatExpiry p) s fun t =>
      (t.port p).rx = { (s.port p).rx with ackDue := some (s.after 10000) }
        ∧ (t.port p).tx.ctrl = (s.port p).tx.ctrl ++ [{ typ := 2, payload := ackPayload (s.port p).rx none, counts := false }] ∧ t = { s with ports := t.ports } := by
  have ran : exec (.ackRepeatExpiry p) s = .next (s.sendAck p false) := if_pos (by rw [State.linkUp_iff.mpr active, due, out, inn]; rfl)
  refine Gives.of_eq ran ?_
  obtain ⟨own, only⟩ := s.sendAck_acks p false
  generalize s.sendAck p false = t at *
  rw [own]
  exact ⟨rfl, rfl, only⟩

/-! ## Credit (R66, R67, R84, R135) -/

theorem creditRefreshExpiry_gives (active : (s.port p).train.state = .active) (due : s.due (s.port p).rx.creditDue = true) :
    Gives (.creditRefreshExpiry p) s fun t =>
      (t.port p).rx = { (s.port p).rx with creditDue := some (s.after 1000000) }
        ∧ ((s.port p).tx.asleep = true → (t.port p).tx = (s.port p).tx)
        ∧ ((s.port p).tx.asleep = false → (s.port p).tx.ctrl.length < (t.port p).tx.ctrl.length) ∧ t = { s with ports := t.ports } := by
  let u := s.modPort p fun x => { x with rx := { x.rx with creditDue := some (s.after 1000000) } }
  have own : u.port p = { s.port p with rx := { (s.port p).rx with creditDue := some (s.after 1000000) } } := State.port_modPort_same ..
  have only : State.PortsOnly s u := State.PortsOnly.modPort ..
  have ran : exec (.creditRefreshExpiry p) s = .next (if (u.port p).tx.asleep then u else u.creditAll p) :=
    if_pos (by rw [State.linkUp_iff.mpr active, due]; rfl)
  generalize u = u at *
  refine Gives.of_eq ran ?_
  cases asleep : (s.port p).tx.asleep with
  | true =>
    have asleep' : (u.port p).tx.asleep = true := by rw [own]; exact asleep
    rw [if_pos asleep', own]
    exact ⟨rfl, fun _ => rfl, Bool.noConfusion, only⟩
  | false =>
    have awake : ¬ (u.port p).tx.asleep = true := by rw [own]; simpa using asleep
    rw [if_neg awake]
    obtain ⟨cs, some', credits⟩ := u.port_creditAll p
    rw [credits, own]
    refine ⟨rfl, Bool.noConfusion, fun _ => ?_, only.trans (State.PortsOnly.creditAll ..)⟩
    rw [List.length_append]
    exact Nat.lt_add_of_pos_right (List.length_pos_iff.mpr some')

/-- R66, R134: space found for a TUN is taken from Marl only. -/
theorem State.takeSpaces_frame (n cls : Nat) : ∀ s : State, (State.takeSpaces n cls s).1 = { s with marl := (State.takeSpaces n cls s).1.marl } := by
  have one {s t : State} (h : s.takeSpace cls = some t) : t = { s with marl := t.marl } := by
    simp only [State.takeSpace] at h
    split_ifs at h <;> cases h <;> rfl
  induction n with
  | zero => exact fun _ => rfl
  | succ n ih =>
    intro s
    unfold State.takeSpaces
    split
    case h_1 t h => exact (ih t).trans (congrArg (fun v : State => { v with marl := (State.takeSpaces n cls t).1.marl }) (one h))
    case h_2 => rfl

/-- R66, R67: the credit of a TUN after space for `want` cells was looked for, of which `own` were held for it. -/
def Tun.grantedTo (x : Tun) (own found want : Nat) : Tun :=
  { x with granted := x.granted + BitVec.ofNat 16 (own + found), held := x.held - own, waitGrant := want - own - found }

theorem Tun.grantedTo_eq (x : Tun) (own found want : Nat) : x.grantedTo own found want =
    { x with granted := x.granted + BitVec.ofNat 16 (own + found), held := x.held - own, waitGrant := want - (own + found) } := by
  rw [Tun.grantedTo, Nat.sub_sub]

/-- R66, R67: the credit of a TUN takes this value, and is sent where some of it is new. -/
def State.credited (u : State) (p n : Nat) (x : Tun) (got : Nat) : State :=
  let v := u.modPort p fun y => y.setTun n x
  if got = 0 then v else v.pushCtrl p (creditFlit [(n, x.granted)] true)

theorem State.credited_credits (u : State) (p n : Nat) (x : Tun) (got : Nat) :
    ((u.credited p n x got).port p).tun n = x
      ∧ ((u.credited p n x got).port p).tx.ctrl.length = (u.port p).tx.ctrl.length + (if got = 0 then 0 else 1)
      ∧ State.PortsOnly u (u.credited p n x got) := by
  have port : (u.modPort p fun y => y.setTun n x).port p = (u.port p).setTun n x := State.port_modPort_same ..
  have tun : ((u.modPort p fun y => y.setTun n x).port p).tun n = x := by
    rw [port, Port.tun, Port.setTun, Tab.get_set, if_pos rfl]
  have tx : ((u.modPort p fun y => y.setTun n x).port p).tx = (u.port p).tx := by rw [port]; rfl
  have only : State.PortsOnly u (u.modPort p fun y => y.setTun n x) := State.PortsOnly.modPort ..
  unfold State.credited
  generalize (u.modPort p fun y => y.setTun n x) = v at *
  split_ifs
  · exact ⟨tun, by rw [tx]; rfl, only⟩
  · refine ⟨?_, ?_, only.trans (PortsOnly.pushCtrl ..)⟩
    · rw [State.port_pushCtrl]
      exact tun
    · rw [State.port_pushCtrl, tx, List.length_append]
      rfl

/-- R66, R67, R135: what a grant to a TUN changes. -/
theorem State.grant_grants (s : State) (p n cls window queued : Nat) :
    let x := (s.port p).tun n
    let want := window - ((x.granted - x.recv).toNat + queued)
    let own := min want x.held
    let got := own + (s.takeSpaces (want - own) cls).2
    let t := s.grant p n cls window queued
    (t.port p).tun n = { x with granted := x.granted + BitVec.ofNat 16 got, held := x.held - own, waitGrant := want - got }
      ∧ (t.port p).tx.ctrl.length = (s.port p).tx.ctrl.length + (if got = 0 then 0 else 1) ∧ t = { s with ports := t.ports, marl := t.marl } := by
  intro x want own
  let found := (s.takeSpaces (want - own) cls).2
  have ran : s.grant p n cls window queued = (State.takeSpaces (want - own) cls s).1.credited p n (x.grantedTo own found want) (own + found) := rfl
  have taken := State.takeSpaces_frame (want - own) cls s
  have credits := (State.takeSpaces (want - own) cls s).1.credited_credits p n (x.grantedTo own found want) (own + found)
  rw [← ran] at credits
  generalize (State.takeSpaces (want - own) cls s).1 = u at taken credits
  obtain ⟨tun, ctrl, only⟩ := credits
  have port : u.port p = s.port p := State.port_congr (congrArg State.ports taken :) p
  rw [port] at ctrl
  refine ⟨tun.trans (x.grantedTo_eq own found want), ctrl, ?_⟩
  generalize s.grant p n cls window queued = t at only
  have marl : t.marl = u.marl := (congrArg State.marl only :)
  rw [marl]
  exact Eq.trans only (congrArg (fun a : State => { a with ports := t.ports }) taken)

theorem creditReturn_zero_gives (active : (s.port p).train.state = .active) : Gives (.creditReturn p 0) s fun t =>
      let x := (s.port p).tun 0
      let want := 16 - ((x.granted - x.recv).toNat + s.cellsOf agentCtrl 0 (8192 + p))
      let own := min want x.held
      let got := own + (s.takeSpaces (want - own) 6).2
      (t.port p).tun 0 = { x with granted := x.granted + BitVec.ofNat 16 got, held := x.held - own, waitGrant := want - got }
        ∧ (t.port p).tx.ctrl.length = (s.port p).tx.ctrl.length + (if got = 0 then 0 else 1) ∧ t = { s with ports := t.ports, marl := t.marl } := by
  have ran : exec (.creditReturn p 0) s = .next (s.grant p 0 6 16 (s.cellsOf agentCtrl 0 (8192 + p))) := if_pos (State.linkUp_iff.mpr active)
  exact Gives.of_eq ran (s.grant_grants p 0 6 16 (s.cellsOf agentCtrl 0 (8192 + p)))

theorem creditReturn_gives {n : Fin 1024} {tid q : Nat} (active : (s.port p).train.state = .active) (tun : n ≠ 0) (named : s.tidOf p n = some tid)
    (queue : (s.tunnel tid).inQueue = some q) (opened : (s.tunnel tid).state = .opened) (inn : (s.tunnel tid).dirs.getLsbD 1 = true) :
    Gives (.creditReturn p n) s fun t =>
      let x := (s.port p).tun n
      let want := (s.tunnel tid).window - ((x.granted - x.recv).toNat + s.cellsOf (s.tunnel tid).client q tid)
      let own := min want x.held
      let got := own + (s.takeSpaces (want - own) (s.tunnel tid).cls).2
      (t.port p).tun n = { x with granted := x.granted + BitVec.ofNat 16 got, held := x.held - own, waitGrant := want - got }
        ∧ (t.port p).tx.ctrl.length = (s.port p).tx.ctrl.length + (if got = 0 then 0 else 1) ∧ t = { s with ports := t.ports, marl := t.marl } := by
  have nonzero : n.val ≠ 0 := fun e => tun (Fin.ext e)
  have ran : exec (.creditReturn p n) s = .next (s.grant p n (s.tunnel tid).cls (s.tunnel tid).window (s.cellsOf (s.tunnel tid).client q tid)) := by
    refine (if_pos (State.linkUp_iff.mpr active)).trans (congrArg Host.Outcome.next ?_)
    simp only [State.grantTun, if_neg nonzero, named, queue, opened, inn, decide_true, Bool.and_self, if_true]
  exact Gives.of_eq ran (s.grant_grants p n (s.tunnel tid).cls (s.tunnel tid).window (s.cellsOf (s.tunnel tid).client q tid))

/-! ## TIME (R76) -/

/-- R10: a 16-bit number is read as it was written. -/
theorem le_toLe_two (a b : Byte) (n : BitVec 16) (l : List Byte) : le (a :: b :: (toLe 2 n.toNat ++ l)) 2 2 = n.toNat := by
  simp only [toLe, le, byteAt, List.cons_append, List.getD_cons_succ, List.getD_cons_zero, BitVec.toNat_ofNat]
  omega

theorem timePeriodExpiry_gives (active : (s.port p).train.state = .active) (due : s.due (s.port p).time.due = true) :
    Gives (.timePeriodExpiry p) s fun t =>
      (t.port p).time = { (s.port p).time with seq := (s.port p).time.seq + 1, due := some (s.after (1000 * (s.port p).link.timePeriod)) }
        ∧ (∃ c, (t.port p).tx.ctrl = (s.port p).tx.ctrl ++ [c] ∧ c.typ = 5 ∧ byteAt c.payload 0 = 1 ∧ le c.payload 2 2 = (s.port p).time.seq.toNat)
        ∧ t = { s with ports := t.ports } := by
  let time : TimeMsg := { (s.port p).time with seq := (s.port p).time.seq + 1, due := some (s.after (1000 * (s.port p).link.timePeriod)) }
  let body := [0x01, BitVec.ofNat 8 (1 + 4 * flag (s.port p).time.pdValid)] ++ toLe 2 (s.port p).time.seq.toNat ++ toLe 28 0
    ++ toLe 4 (s.port p).time.pathDelay
  let u := s.modPort p fun x => { x with time := time }
  have ran : exec (.timePeriodExpiry p) s = .next (u.pushCtrl p { typ := 5, payload := body }) :=
    if_pos (by rw [State.linkUp_iff.mpr active, due]; rfl)
  have own : u.port p = { s.port p with time := time } := State.port_modPort_same ..
  have only : State.PortsOnly s u := State.PortsOnly.modPort ..
  have seq : le body 2 2 = (s.port p).time.seq.toNat := by
    simp only [body, List.cons_append, List.nil_append, List.append_assoc]
    exact le_toLe_two ..
  refine Gives.of_eq ran ?_
  generalize u = u at *
  rw [State.port_pushCtrl, own]
  exact ⟨rfl, ⟨_, rfl, rfl, rfl, seq⟩, only.trans (State.PortsOnly.pushCtrl ..)⟩

/-! ## Lane changes that are not answered (R74) -/

theorem laneReqResendExpiry_gives {x : Transit} (active : (s.port p).train.state = .active) (transit : (s.port p).transit = some x)
    (phase : x.phase = .laneReqSent) (due : s.due x.due = true) : Gives (.laneReqResendExpiry p) s fun t =>
      (x.tries < 3 → (t.port p).transit = some { x with tries := x.tries + 1, due := some (s.after (2 * (s.port p).oneWay + 2000)) }
          ∧ (∃ c, (t.port p).tx.ctrl = (s.port p).tx.ctrl ++ [c] ∧ c.typ = 6 ∧ byteAt c.payload 0 = 2) ∧ t = { s with ports := t.ports })
        ∧ (3 ≤ x.tries → (t.port p).transit = none) := by
  have up := State.linkUp_iff.mpr active
  let asked : Transit := { x with tries := x.tries + 1, due := some (s.after (2 * (s.port p).oneWay + 2000)) }
  let action := match x.kind with
    | .recal => 1
    | .exclude => 2
    | _ => 0
  let u := s.modPort p fun y => { y with transit := some { x with tries := x.tries + 1, due := some (s.after (2 * y.oneWay + 2000)) } }
  let v := (s.event (evPort p 4)).trace (agentPort p) 1 p
  have ran : exec (.laneReqResendExpiry p) s = .next (if x.tries < 3 then u.laneReq p x.lane action else v.settled p) := by
    change execLaneReqResendExpiry p s = _
    simp only [execLaneReqResendExpiry, transit]
    refine (if_pos (by simp [up, phase, due])).trans ?_
    split_ifs <;> rfl
  have own : u.port p = { s.port p with transit := some asked } := State.port_modPort_same ..
  have only : State.PortsOnly s u := State.PortsOnly.modPort ..
  refine Gives.of_eq ran ⟨fun few => ?_, fun many => ?_⟩
  · rw [if_pos few]
    generalize u = u at *
    unfold State.laneReq
    rw [State.port_pushCtrl, own]
    exact ⟨rfl, ⟨_, rfl, rfl, rfl⟩, only.trans (State.PortsOnly.pushCtrl ..)⟩
  · rw [if_neg (Nat.not_lt.mpr many), State.settled_transit]

/-- R74: the lane change that takes the place of a turnaround that has failed: the recalibration of its lane, from its new sender's set. -/
def Port.turnFailed (y : Port) (x : Transit) (due : Time) : Transit :=
  if x.kind = .turnIn then { x with kind := .recal, phase := .rotationSent, origDir := .outb, due := none, turnId := y.turnId }
  else { x with kind := .recal, phase := .laneReqSent, origDir := .inb, tries := 0, due := some due, turnId := y.turnId }

theorem State.turnFails_fails (s : State) (p : Nat) (x : Transit) :
    ((s.turnFails p x).port p).transit = some ((s.port p).turnFailed x (s.after (2 * (s.port p).oneWay + 2000)))
      ∧ ((s.turnFails p x).port p).turnId = (s.port p).turnId + 1 ∧ ((s.turnFails p x).port p).train = (s.port p).train := by
  let u := (s.event (evPort p 4)).trace (agentPort p) 1 p
  have told : u.port p = s.port p := (State.port_trace ..).trans (s.port_event _ p)
  have clock : ∀ n, u.after n = s.after n := fun n => by simp [State.after, State.now, u]
  let v := u.modPort p fun y => ({ y with turnId := y.turnId + 1 }).modLane x.lane fun w => { w with eqReqs := 0 }
  have next : v.port p = ({ s.port p with turnId := (s.port p).turnId + 1 } : Port).modLane x.lane fun w => { w with eqReqs := 0 } := by
    rw [State.port_modPort_same, told]
  have oneWay : (v.port p).oneWay = (s.port p).oneWay := by simp only [next, Port.oneWay, Port.modLane_train]
  have changed {w : State} {y : Transit} {f : Port → Port} (hf : f (v.port p) = { v.port p with transit := some y }) (h : (v.modPort p f).LinesKept w) :
      (w.port p).transit = some y ∧ (w.port p).turnId = (s.port p).turnId + 1 ∧ (w.port p).train = (s.port p).train := by
    rw [h.transit, h.turnId, h.train, State.port_modPort_same, hf, next]
    exact ⟨rfl, Port.modLane_turnId .., Port.modLane_train ..⟩
  by_cases kind : x.kind = .turnIn
  · let recal : Transit := { x with kind := .recal, phase := .rotationSent, origDir := .outb, due := none, turnId := (u.port p).turnId }
    have ran : s.turnFails p x = (v.modPort p fun y => { y with transit := some recal }).rotate' p
        (((u.port p).outSet &&& ~~~(laneBit x.lane)).toNat) x.lane 2 0 := if_pos kind
    have meant : recal = (s.port p).turnFailed x (s.after (2 * (s.port p).oneWay + 2000)) := by
      rw [Port.turnFailed, if_pos kind, ← told]
    rw [ran, ← meant]
    exact changed rfl (State.rotate'_linesKept ..)
  · let recal (y : Port) : Transit :=
      { x with kind := .recal, phase := .laneReqSent, origDir := .inb, tries := 0, due := some (v.after (2 * y.oneWay + 2000)), turnId := (u.port p).turnId }
    have ran : s.turnFails p x = (v.modPort p fun y => { y with transit := some (recal y) }).laneReq p x.lane 1 := if_neg kind
    have meant : recal (v.port p) = (s.port p).turnFailed x (s.after (2 * (s.port p).oneWay + 2000)) := by
      rw [Port.turnFailed, if_neg kind, ← told, ← clock, told, ← oneWay, ← told]
      rfl
    rw [ran, ← meant]
    exact changed rfl (State.laneReq_linesKept ..)

theorem turnaroundTimeout_gives {x : Transit} (active : (s.port p).train.state = .active) (transit : (s.port p).transit = some x)
    (phase : x.phase = .awaitJoin) (due : s.due x.due = true) (late : x.kind = .turnOut ∧ x.marker = false ∨ x.kind = .turnIn ∧ x.joined = false) :
    Gives (.turnaroundTimeout p) s fun t =>
      (x.kind = .turnIn → (t.port p).transit = some { x with kind := .recal, phase := .rotationSent, origDir := .outb, due := none, turnId := (s.port p).turnId })
        ∧ (x.kind = .turnOut → (t.port p).transit = some { x with kind := .recal, phase := .laneReqSent, origDir := .inb, tries := 0, turnId := (s.port p).turnId
                                                                  due := some (s.after (2 * (s.port p).oneWay + 2000)) })
        ∧ (t.port p).turnId = (s.port p).turnId + 1 ∧ (t.port p).train = (s.port p).train := by
  have up := State.linkUp_iff.mpr active
  have ran : exec (.turnaroundTimeout p) s = .next (s.turnFails p x) := by
    change execTurnaroundTimeout p s = _
    simp only [execTurnaroundTimeout, transit]
    refine if_pos ?_
    obtain ⟨kind, waits⟩ | ⟨kind, waits⟩ := late <;> simp [up, phase, due, kind, waits]
  obtain ⟨change, turnId, train⟩ := s.turnFails_fails p x
  refine Gives.of_eq ran ⟨fun kind => ?_, fun kind => ?_, turnId, train⟩
  · rw [change, Port.turnFailed, if_pos kind]
  · rw [change, Port.turnFailed, if_neg (by rw [kind]; exact TransitKind.noConfusion)]

end

/-- Settles O47: each clause is what its lemma above gives. -/
theorem linkTimers : Obligations.LinkTimers := by
  refine ⟨?nak, ?replay, ?ack, ?credit, ?zero, ?tun, ?time, ?laneReq, ?turn⟩
  case nak => exact fun p s active wait due => nakTimerExpiry_gives active wait due
  case replay => exact fun p u rest s active oldest late => replayTimeout_gives active oldest late
  case ack => exact fun p s active due out inn => ackRepeatExpiry_gives active due out inn
  case credit => exact fun p s active due => creditRefreshExpiry_gives active due
  case zero => exact fun p s active => creditReturn_zero_gives active
  case tun => exact fun p n tid q s active tun named queue opened inn => creditReturn_gives active tun named queue opened inn
  case time => exact fun p s active due => timePeriodExpiry_gives active due
  case laneReq => exact fun p x s active transit phase due => laneReqResendExpiry_gives active transit phase due
  case turn => exact fun p x s active transit phase due late => turnaroundTimeout_gives active transit phase due late

end Sys2Proof.Machine
end

section
/-! PROOFS. A recalibration of a lane begun or deferred (R49, R75), and a lane that has joined its set (R69, R74). -/

namespace Sys2Proof.Machine

/-! ## The line of a port after a change of one lane -/

theorem Port.modLane_modLane (x : Port) (l : Nat) (f g : Lane → Lane) : (x.modLane l f).modLane l g = x.modLane l fun v => g (f v) := by
  rcases l with _ | _ | _ | l <;> rfl

/-- A change of a lane, whatever its marker group and scrambler are. -/
theorem Port.line_modLane_line (x : Port) (l : Nat) {f : Lane → Lane} (hf : ∀ v, (f v.settings).settings = (f v).settings) :
    (x.line.modLane l f).line = (x.modLane l f).line := by
  rcases l with _ | _ | _ | l <;> simp only [Port.modLane, Port.setLane, Port.lane, Port.line, hf] <;> rfl

/-- A field of the lanes that is none of the marker group and the scrambler, on a line that is known. -/
theorem Port.lane_of_line {x y : Port} (h : x.line = y.line) {α : Type} {g : Lane → α} (hg : ∀ v, g v = g v.settings) (k : Nat) :
    g (x.lane k) = g (y.lane k) := by
  rw [hg, ← Port.lane_line, h, Port.lane_line, ← hg]

/-! ## A lane change begins (R71, R72, R74, R75) -/

/-- A port on which a change of a lane has begun. -/
def Port.changing (x : Port) (t : Transit) : Port := ({ x with transit := some t, turnId := x.turnId + 1 }).modLane t.lane fun v => { v with eqReqs := 0 }

theorem Port.line_changing {x y : Port} (h : x.line = y.line) (t : Transit) : (x.changing t).line = (y.changing t).line := by
  have one (z : Port) : (z.changing t).line = (({ z.line with transit := some t, turnId := z.line.turnId + 1 }).modLane t.lane fun v => { v with eqReqs := 0 }).line :=
    (Port.line_modLane_line { z with transit := some t, turnId := z.turnId + 1 } t.lane fun _ => rfl).symm
  rw [one, one, h]

/-- R74, R75: the change that begins on a lane in direction `d`. -/
def State.changeOf (s : State) (p lane : Nat) (kind : TransitKind) (d : Dir) : Transit :=
  { lane := lane, kind := kind, phase := if d = .outb then .rotationSent else .laneReqSent, turnId := (s.port p).turnId, origDir := d, startAt := s.now
    due := if d = .outb then none else some (s.after (2 * (s.port p).oneWay + 2000)) }

theorem State.beginChange_line (s : State) (p lane : Nat) (kind : TransitKind) (d : Dir) :
    ((s.beginChange p lane kind d).port p).line = ((s.port p).changing (s.changeOf p lane kind d)).line := by
  let u := s.setPort p ((s.port p).changing (s.changeOf p lane kind d))
  have own : u.port p = (s.port p).changing (s.changeOf p lane kind d) := State.port_setPort_same ..
  have asked (b : Prop) [Decidable b] (m c e a : Nat) : u.LinesKept (if b then u.rotate' p m lane c e else u.laneReq p lane a) :=
    .ite (State.rotate'_linesKept ..) (State.laneReq_linesKept ..)
  rw [← own]
  exact (asked ..).line p

/-- R106: whether a lane may leave rests on the lane sets and the training of the port, and on the tunnels. -/
theorem State.mayLeave_congr {s t : State} {p : Nat} (out : (t.port p).outSet = (s.port p).outSet) (inn : (t.port p).inSet = (s.port p).inSet)
    (train : (t.port p).train = (s.port p).train) (tunnels : t.tunnels = s.tunnels) (d : Dir) : t.mayLeave p d = s.mayLeave p d := by
  have lanes : (t.port p).lanesIn d = (s.port p).lanesIn d := by
    cases d
    · exact out
    · exact inn
  simp only [State.mayLeave, State.laneSum, State.rsvSum, State.ps, State.linkUp, Port.fec, lanes, train, tunnels]
  rfl

/-! ## Recalibration (R49, R75) -/

theorem State.LinesKept.changeOf {s t : State} (h : s.LinesKept t) (p lane : Nat) (kind : TransitKind) (d : Dir) :
    t.changeOf p lane kind d = s.changeOf p lane kind d := by
  simp only [State.changeOf, Port.oneWay, h.turnId, h.train, h.after]
  simp only [State.now, h.clock]

/-- A port on which the recalibration of a lane has begun. -/
def Port.recalBegun (x : Port) (t : Transit) : Port := (x.modLane t.lane fun v => { v with recalDeferred := false }).changing t

theorem State.recalibrate_begins {s : State} {p lane : Nat} {d : Dir} (dir : (s.port p).laneDir lane = some d) (still : (s.port p).transit = none)
    (may : s.mayLeave p d = true) :
    ((s.recalibrate p lane).port p).line = ((s.port p).recalBegun (s.changeOf p lane .recal d)).line := by
  let u := s.modPort p fun x => x.modLane lane fun l => { l with recalDeferred := false }
  have own : u.port p = (s.port p).modLane lane fun l => { l with recalDeferred := false } := State.port_modPort_same ..
  have change : u.changeOf p lane .recal d = s.changeOf p lane .recal d := by
    simp only [State.changeOf, own, Port.oneWay, Port.modLane_turnId, Port.modLane_train]
    rfl
  have begins {v : State} (h : u.LinesKept v) :
      ((v.beginChange p lane .recal d).port p).line = ((s.port p).recalBegun (s.changeOf p lane .recal d)).line := by
    rw [State.beginChange_line, h.changeOf, change, Port.line_changing (h.line p), own]
    rfl
  have ran : s.recalibrate p lane = (if d = .outb then u.wakeOut p else u).beginChange p lane .recal d := by
    simp only [State.recalibrate, dir, still, may]
    rfl
  rw [ran]
  exact begins (.ite (u.wakeOut_linesKept p) (.refl u))

/-- R49: a port that has deferred the recalibration of a lane. -/
def Port.recalPut (x : Port) (lane : Nat) (retry : Time) : Port :=
  ({ x with recalRetry := some (x.recalRetry.getD retry) }).modLane lane fun l => { l with recalDeferred := true }

theorem State.port_deferRecal (s : State) (p lane : Nat) : (s.deferRecal p lane).port p = (s.port p).recalPut lane (s.after 10000000000) := by
  unfold State.deferRecal
  rw [State.port_trace, State.port_event, State.port_modPort_same]
  rfl

theorem State.recalibrate_defers {s : State} {p lane : Nat} {d : Dir} (dir : (s.port p).laneDir lane = some d)
    (no : (s.port p).transit ≠ none ∨ s.mayLeave p d = false) : s.recalibrate p lane = s.deferRecal p lane := by
  simp only [State.recalibrate, dir]
  refine if_pos ?_
  obtain some' | may := no
  · simp [Option.isSome_iff_ne_none.mpr some']
  · simp [may]

theorem State.recalibrate_begun {s : State} {p lane : Nat} {d : Dir} (small : lane < 4) (dir : (s.port p).laneDir lane = some d)
    (still : (s.port p).transit = none) (may : s.mayLeave p d = true) :
    ((s.recalibrate p lane).port p).transit = some (s.changeOf p lane .recal d) ∧ ((s.recalibrate p lane).port p).turnId = (s.port p).turnId + 1
      ∧ (((s.recalibrate p lane).port p).lane lane).recalDeferred = false ∧ ((s.recalibrate p lane).port p).train = (s.port p).train := by
  have line := State.recalibrate_begins dir still may
  have lane' := Port.lane_of_line line (g := Lane.recalDeferred) (fun _ => rfl) lane
  refine ⟨(congrArg Port.transit line :).trans ?_, (congrArg Port.turnId line :).trans ?_, lane'.trans ?_, (congrArg Port.train line :).trans ?_⟩
  · exact Port.modLane_transit ..
  · exact (Port.modLane_turnId ..).trans (congrArg (· + 1) (Port.modLane_turnId ..))
  · refine (Port.modLane_keeps (g := Lane.recalDeferred) _ (fun v => { v with eqReqs := 0 }) (fun _ => rfl) _ lane).trans ?_
    exact congrArg Lane.recalDeferred (Port.lane_modLane_same (s.port p) _ small)
  · exact (Port.modLane_train ..).trans (Port.modLane_train ..)

theorem State.recalibrate_put {s : State} {p lane : Nat} {d : Dir} (small : lane < 4) (dir : (s.port p).laneDir lane = some d)
    (no : (s.port p).transit ≠ none ∨ s.mayLeave p d = false) :
    ((s.recalibrate p lane).port p).transit = (s.port p).transit ∧ (((s.recalibrate p lane).port p).lane lane).recalDeferred = true
      ∧ ((s.recalibrate p lane).port p).recalRetry = some ((s.port p).recalRetry.getD (s.after 10000000000))
      ∧ ((s.recalibrate p lane).port p).train = (s.port p).train := by
  rw [State.recalibrate_defers dir no, State.port_deferRecal]
  unfold Port.recalPut
  rw [Port.modLane_transit, Port.lane_modLane_same _ _ small, Port.modLane_recalRetry, Port.modLane_train]
  exact ⟨rfl, rfl, rfl, rfl⟩

/-- R49: while a lane is in transit, any recalibration is deferred. -/
theorem State.recalibrate_in_transit {s : State} {p : Nat} (some' : (s.port p).transit.isSome = true) (lane : Nat) :
    s.recalibrate p lane = s.deferRecal p lane := by
  simp only [State.recalibrate, some', Bool.true_or, if_true]
  split <;> rfl

theorem State.recalibrate_nowhere {s : State} {p lane : Nat} (dir : (s.port p).laneDir lane = none) (still : (s.port p).transit = none) :
    s.recalibrate p lane = s := by
  simp only [State.recalibrate, dir, still]
  rfl

/-- R49: a recalibration begins, is deferred, or has no lane to act on. -/
theorem State.recalibrate_cases (s : State) (p lane : Nat) :
    (∃ d, ((s.recalibrate p lane).port p).line = ((s.port p).recalBegun (s.changeOf p lane .recal d)).line)
      ∨ (s.recalibrate p lane).port p = (s.port p).recalPut lane (s.after 10000000000) ∨ s.recalibrate p lane = s := by
  by_cases still : (s.port p).transit = none
  · cases dir : (s.port p).laneDir lane with
    | none => exact .inr (.inr (State.recalibrate_nowhere dir still))
    | some d =>
      cases may : s.mayLeave p d with
      | true => exact .inl ⟨d, State.recalibrate_begins dir still may⟩
      | false => exact .inr (.inl ((congrArg (State.port · p) (State.recalibrate_defers dir (.inr may))).trans (s.port_deferRecal p lane)))
  · refine .inr (.inl ((congrArg (State.port · p) ?_).trans (s.port_deferRecal p lane)))
    exact State.recalibrate_in_transit (Option.isSome_iff_ne_none.mpr still) lane

/-- A field of the lanes that a recalibration leaves alone, whether it begins or not. -/
theorem State.recalibrate_lane {α : Type} {g : Lane → α} (hg : ∀ v, g v = g v.settings) (asked : ∀ v b, g { v with recalDeferred := b } = g v)
    (reqs : ∀ v, g { v with eqReqs := 0 } = g v) (s : State) (p lane k : Nat) : g (((s.recalibrate p lane).port p).lane k) = g ((s.port p).lane k) := by
  obtain ⟨d, begun⟩ | put | same := s.recalibrate_cases p lane
  · rw [Port.lane_of_line begun hg]
    exact (Port.modLane_keeps _ _ reqs ..).trans (Port.modLane_keeps _ _ (asked · false) ..)
  · rw [put]
    exact Port.modLane_keeps _ _ (asked · true) ..
  · rw [same]

/-- A field of a port that neither a lane change that begins nor a deferral touches. -/
theorem State.recalibrate_port {α : Type} {g : Port → α} (line : ∀ x, g x = g x.line) (lane : ∀ x l f, g (x.modLane l f) = g x)
    (changed : ∀ x t, g (x.changing t) = g x) (put : ∀ (x : Port) r, g { x with recalRetry := r } = g x) (s : State) (p l : Nat) :
    g ((s.recalibrate p l).port p) = g (s.port p) := by
  obtain ⟨d, begun⟩ | deferred | same := s.recalibrate_cases p l
  · rw [line, begun, ← line]
    exact (changed ..).trans (lane ..)
  · rw [deferred]
    exact (lane ..).trans (put ..)
  · rw [same]

theorem State.recalibrate_train (s : State) (p l : Nat) : ((s.recalibrate p l).port p).train = (s.port p).train :=
  s.recalibrate_port (fun _ => rfl) (fun _ _ _ => Port.modLane_train ..) (fun _ _ => Port.modLane_train ..) (fun _ _ => rfl) p l

theorem State.recalibrate_temp (s : State) (p l : Nat) : ((s.recalibrate p l).port p).temp = (s.port p).temp :=
  s.recalibrate_port (fun _ => rfl) (fun _ _ _ => Port.modLane_temp ..) (fun _ _ => Port.modLane_temp ..) (fun _ _ => rfl) p l

/-! ## Recalibrations asked for one after the other (R49) -/

/-- R49: the recalibration of each lane of a list begins, or is deferred. -/
def State.recalibrates (s : State) (p : Nat) (ls : List Nat) : State := ls.foldl (fun s l => s.recalibrate p l) s

theorem State.recalibrates_temp (p : Nat) (ls : List Nat) : ∀ s : State, ((s.recalibrates p ls).port p).temp = (s.port p).temp := by
  induction ls with
  | nil => exact fun _ => rfl
  | cons l ls ih => exact fun s => (ih _).trans (s.recalibrate_temp p l)

theorem State.recalibrates_eqTemp (p k : Nat) (ls : List Nat) : ∀ s : State,
    (((s.recalibrates p ls).port p).lane k).eqTemp = ((s.port p).lane k).eqTemp := by
  induction ls with
  | nil => exact fun _ => rfl
  | cons l ls ih =>
    exact fun s => (ih _).trans (State.recalibrate_lane (g := Lane.eqTemp) (fun _ => rfl) (fun _ _ => rfl) (fun _ => rfl) s p l k)

/-- R49: while a lane is in transit each of them is deferred, the first starting the 10 s of the retry where they do not run. -/
theorem State.recalibrates_in_transit (p : Nat) : ∀ (ls : List Nat) (s : State), (∀ l ∈ ls, l < 4) → (s.port p).transit.isSome = true →
    ((s.recalibrates p ls).port p).transit = (s.port p).transit
      ∧ (∀ k, k < 4 → (((s.recalibrates p ls).port p).lane k).recalDeferred = (decide (k ∈ ls) || ((s.port p).lane k).recalDeferred))
      ∧ ((s.recalibrates p ls).port p).recalRetry = if ls = [] then (s.port p).recalRetry else some ((s.port p).recalRetry.getD (s.after 10000000000)) := by
  intro ls
  induction ls with
  | nil => exact fun s _ _ => ⟨rfl, fun k _ => by simp [State.recalibrates], rfl⟩
  | cons l ls ih =>
    intro s small transit
    have hl : l < 4 := small l List.mem_cons_self
    have own : (s.recalibrate p l).port p = (s.port p).recalPut l (s.after 10000000000) := by
      rw [State.recalibrate_in_transit transit, State.port_deferRecal]
    have after : (s.recalibrate p l).after 10000000000 = s.after 10000000000 := by
      rw [State.recalibrate_in_transit transit]
      simp [State.after, State.now, State.deferRecal]
    have first : ((s.recalibrate p l).port p).transit = (s.port p).transit := by rw [own, Port.recalPut, Port.modLane_transit]
    have retry : ((s.recalibrate p l).port p).recalRetry = some ((s.port p).recalRetry.getD (s.after 10000000000)) := by
      rw [own, Port.recalPut, Port.modLane_recalRetry]
    obtain ⟨still, deferred, runs⟩ := ih (s.recalibrate p l) (fun k m => small k (List.mem_cons_of_mem l m)) (by rw [first]; exact transit)
    refine ⟨still.trans first, fun k hk => (deferred k hk).trans ?_, runs.trans ?_⟩
    · rw [own, Port.recalPut, Port.lane_modLane _ _ hl hk]
      by_cases e : k = l
      · simp [e]
      · rw [if_neg e]
        simp only [List.mem_cons, e, false_or]
        rfl
    · rw [retry, after]
      simp

/-! ## The lane in transit has joined (R69, R74) -/

theorem State.joinDone_joins {s : State} {p : Nat} {t : Transit} (transit : (s.port p).transit = some t) (joined : t.joined = true) (marker : t.marker = true) :
    ((s.joinDone p).port p).transit = none
      ∧ ((s.joinDone p).port p).allot = { (s.port p).allot with lastToIn := if t.kind = .turnOut then some s.cycle else (s.port p).allot.lastToIn
                                                                lastToOut := if t.kind = .turnIn then some s.cycle else (s.port p).allot.lastToOut } := by
  let allot (x : Port) : Allot := { x.allot with lastToIn := if t.kind = .turnOut then some s.cycle else x.allot.lastToIn
                                                 lastToOut := if t.kind = .turnIn then some s.cycle else x.allot.lastToOut }
  let u := s.modPort p fun x => { x with allot := allot x }
  have own : u.port p = { s.port p with allot := allot (s.port p) } := State.port_modPort_same ..
  have traced : ((if t.kind = .recal then u else u.trace (agentPort p) 1 p).port p).allot = allot (s.port p) := by
    split_ifs
    · rw [own]
    · rw [State.port_trace, own]
  have ran : s.joinDone p = (if t.kind = .recal then u else u.trace (agentPort p) 1 p).settled p := by
    simp only [State.joinDone, transit, joined, marker]
    rfl
  rw [ran]
  refine ⟨State.settled_transit .., ?_⟩
  rw [(State.settled_linesKept _ p).allot, State.port_modPort_same]
  exact traced

theorem State.joinDone_waits {s : State} {p : Nat} (waits : ∀ t, (s.port p).transit = some t → t.joined = false ∨ t.marker = false) : s.joinDone p = s := by
  unfold State.joinDone
  split
  next t transit =>
    refine if_neg ?_
    obtain no | no := waits t transit <;> simp [no]
  next => rfl

end Sys2Proof.Machine
end

section
/-! PROOFS. Control flits received on an ACTIVE link: ACK, CREDIT, the LM flits, LANEMAP, ECHO, and those with a field out of range (R50, R60, R65 to R67, R69 to R77, R498). -/

namespace Sys2Proof.Machine

/-! ## A flit received (R59, R60) -/

/-- R59: a port whose link timeout has started anew. -/
def Port.heard (x : Port) (due : Time) : Port := { x with rx := { x.rx with linkDue := some due } }

theorem State.port_alive (s : State) (p : Nat) : (s.alive p).port p = (s.port p).heard (s.after (100000 * (s.port p).toForce)) := by
  unfold State.alive
  rw [State.port_modPort_same]
  rfl

theorem State.PortsOnly.alive (s : State) (p : Nat) : State.PortsOnly s (s.alive p) := by
  unfold State.alive
  exact State.PortsOnly.modPort ..

section
variable {p l : Nat} {b : List Byte} {s : State}

theorem State.flitIn_of_good (active : (s.port p).train.state = .active) (good : flitGood b = true) (f : State → State) :
    s.flitIn p l b f = f (s.alive p) := by
  simp only [State.flitIn, State.linkUp_iff.mpr active, good, Bool.not_true, Bool.false_eq_true, if_false]

/-- R60: a control flit whose fields are in range is used. -/
theorem State.ctrlIn_of_ok (active : (s.port p).train.state = .active) (good : flitGood b = true) (plain : plainHeader b = true) {typ : Nat} {sub : Option Nat}
    {ok : List Byte → Bool} {f : List Byte → State → State} (typed : flitType b = typ) {pl : List Byte} (payload : flitPayload b = pl)
    (named : sub.any (· ≠ byteAt pl 0) = false) (fields : ok pl = true) : s.ctrlIn p l b typ sub ok f = f pl (s.alive p) := by
  subst payload
  unfold State.ctrlIn
  rw [State.flitIn_of_good active good]
  simp only [typed, named, plain, fields, Bool.not_true, Bool.or_false, ne_eq, not_true_eq_false, decide_false, Bool.false_eq_true, if_false]

end

/-! ## A degraded lane (Table 2-7) -/

/-- Table 2-7: a lane is degraded, and told as such. -/
def State.degradedTold (s : State) (p : Nat) : State := (s.event (evPort p 3)).trace (agentPort p) 0 p

theorem State.port_degradedTold (s : State) (p q : Nat) : (s.degradedTold p).port q = s.port q :=
  (State.port_trace ..).trans (s.port_event _ q)

theorem State.degraded_eq (s : State) (p lane : Nat) : s.degraded p lane =
    if (s.port p).inSet.getLsbD lane && laneCount (s.port p).inSet = 1 then (s.degradedTold p).linkRetrain p
    else (s.degradedTold p).recalibrate p lane := by
  rw [← s.port_degradedTold p p]
  rfl

/-- R498: whether LANE_BAD was handled for a lane is not changed by what it leads to. -/
theorem State.degraded_badTold {s : State} {p : Nat} (up : s.linkUp p = true) (lane k : Nat) :
    (((s.degraded p lane).port p).lane k).badTold = ((s.port p).lane k).badTold := by
  have told := s.port_degradedTold p p
  rw [State.degraded_eq]
  split_ifs
  · obtain ⟨due, d⟩ := State.retrainFor_detecting (s := s.degradedTold p) (p := p) (by rw [State.linkUp, told]; exact up) .none
    exact (d.badTold k).trans (by rw [told]; rfl)
  · exact (State.recalibrate_lane (g := Lane.badTold) (fun _ => rfl) (fun _ _ => rfl) (fun _ => rfl) _ p lane k).trans (by rw [told])

theorem State.degraded_defers {s : State} {p lane : Nat} (small : lane < 4) (inn : (s.port p).inSet.getLsbD lane = false)
    (transit : (s.port p).transit.isSome = true) : (((s.degraded p lane).port p).lane lane).recalDeferred = true := by
  have told := s.port_degradedTold p p
  rw [State.degraded_eq, inn, if_neg (by simp), State.recalibrate_in_transit (by rw [told]; exact transit), State.port_deferRecal, Port.recalPut,
    Port.lane_modLane_same _ _ small]

/-! ## ACK (R64, R65) -/

/-- A number whose bits 7 to 4 hold 1 has bit 4 set and the three above it clear. -/
theorem bits_of_nibble {v : Nat} (h : bits v 7 4 = 1) : bits v 7 5 = 0 ∧ bitOf v 4 = true := by
  simp only [bits, bitOf, Nat.testBit_eq_decide_div_mod_eq, decide_eq_true_eq] at h ⊢
  omega

theorem byteAt_of_le_two {pl : List Byte} {n : Nat} (h : le pl n 2 = 0) : byteAt pl (n + 1) = 0 := by
  simp only [le] at h
  omega

/-- R65: what an ACK of the flits up to `seq` leaves to be sent. -/
def TxState.acked (x : TxState) (seq : BitVec 12) : TxState :=
  let live (u : Unacked) : Bool := decide ((seq - x.lower).toNat < (u.seq - x.lower).toNat)
  { x with lower := seq, unacked := x.unacked.filter live, resend := x.resend.filter live, nakRun := 0, nakSeq := none }

theorem State.ackSeq_acks {s : State} {p : Nat} {seq : BitVec 12} (new : seq ≠ (s.port p).tx.lower)
    (sent : (seq - (s.port p).tx.lower).toNat ≤ ((s.port p).tx.seqNext - 1 - (s.port p).tx.lower).toNat) :
    (s.ackSeq p seq).port p = { s.port p with tx := (s.port p).tx.acked seq } ∧ State.PortsOnly s (s.ackSeq p seq) := by
  have some' : (seq - (s.port p).tx.lower).toNat ≠ 0 := by
    intro e
    have zero : seq - (s.port p).tx.lower = 0#12 := BitVec.eq_of_toNat_eq e
    exact new (by simpa [BitVec.sub_eq_iff_eq_add] using zero)
  simp only [State.ackSeq, if_neg some', if_neg (Nat.not_lt.mpr sent)]
  refine ⟨?_, PortsOnly.modPort ..⟩
  rw [State.port_modPort_same]
  rfl

/-- R64, R65: a NAK from a SEQ that is unacknowledged, or the lower edge, before the eighth. -/
theorem State.nakIn_resends {s : State} {p : Nat} {seq : BitVec 12}
    (sent : (seq - (s.port p).tx.lower).toNat ≤ ((s.port p).tx.seqNext - 1 - (s.port p).tx.lower).toNat)
    (few : (s.port p).tx.nakSeq = some seq → (s.port p).tx.nakRun < 7) :
    let again := (s.port p).tx.again seq s.now
    ((s.nakIn p seq).port p).tx.resend = again ∧ ((s.nakIn p seq).port p).retry = (if again.isEmpty then (s.port p).retry else (s.port p).retry + 1)
      ∧ ((s.nakIn p seq).port p).tx.lower = (s.port p).tx.lower ∧ State.PortsOnly s (s.nakIn p seq) := by
  intro again
  let run := if (s.port p).tx.nakSeq = some seq then (s.port p).tx.nakRun + 1 else 1
  have short : ¬ 8 ≤ run := by
    simp only [run]
    split_ifs with same
    · have := few same
      omega
    · omega
  let u := s.modPort p fun x => { x with tx := { x.tx with nakSeq := some seq, nakRun := run } }
  have own : u.port p = { s.port p with tx := { (s.port p).tx with nakSeq := some seq, nakRun := run } } := State.port_modPort_same ..
  have only : State.PortsOnly s u := PortsOnly.modPort ..
  have now : u.now = s.now := rfl
  have ran : s.nakIn p seq = u.resendFrom p seq := by
    have inside : (seq - (s.port p).tx.lower).toNat ≠ ((s.port p).tx.seqNext - 1 - (s.port p).tx.lower).toNat + 1 := by omega
    simp only [State.nakIn, if_neg inside, if_neg (Nat.not_lt.mpr sent)]
    exact if_neg short
  rw [ran]
  generalize u = u at *
  have resent := u.port_resendFrom p seq
  have kept := only.trans (PortsOnly.resendFrom u p seq)
  generalize u.resendFrom p seq = t at *
  rw [resent, own, now]
  exact ⟨rfl, rfl, rfl, kept⟩

section
variable {p : Fin 12} {l : Fin 4} {b : List Byte} {s : State} (active : (s.port p).train.state = .active) (good : flitGood b = true)
  (plain : plainHeader b = true)
include active good plain

theorem ackReceived_acks (typed : flitType b = 2) :
    let pl := flitPayload b
    let seq := BitVec.ofNat 12 (le pl 0 2)
    let x := (s.port p).tx
    bits (byteAt pl 1) 7 4 = 1 → le pl 2 2 = 0 → zeros pl 4 119 = true → seq ≠ x.lower → (seq - x.lower).toNat ≤ (x.seqNext - 1 - x.lower).toNat →
    Gives (.ackReceived p l b) s fun t =>
      (t.port p).tx.lower = seq ∧ (t.port p).tx.unacked = x.unacked.filter (fun u => decide ((seq - x.lower).toNat < (u.seq - x.lower).toNat))
        ∧ (t.port p).tx.seqNext = x.seqNext ∧ (t.port p).tx.ctrl = x.ctrl ∧ t = { s with ports := t.ports } := by
  intro pl seq x ack nak rest new sent
  have payload : flitPayload b = pl := rfl
  clear_value pl
  obtain ⟨high, valid⟩ := bits_of_nibble ack
  have none' : byteAt pl 3 = 0 := byteAt_of_le_two nak
  have ran : exec (.ackReceived p l b) s = .next ((s.alive p).ackSeq p seq) := by
    refine (congrArg Host.Outcome.next (State.ctrlIn_of_ok active good plain typed payload rfl ?_)).trans ?_
    · simp only [high, none', rest]
      rfl
    · simp only [valid, none', if_true]
      rfl
  refine Gives.of_eq ran ?_
  have heard := s.port_alive p
  have only := State.PortsOnly.alive s p
  generalize s.alive p = u at *
  have tx : (u.port p).tx = x := by rw [heard]; rfl
  obtain ⟨own, acks⟩ := State.ackSeq_acks (s := u) (p := p) (seq := seq) (by rwa [tx]) (by rwa [tx])
  generalize u.ackSeq p seq = t at *
  rw [own, tx]
  exact ⟨rfl, rfl, rfl, rfl, only.trans acks⟩

theorem ackReceived_naks (typed : flitType b = 2) :
    let pl := flitPayload b
    let seq := BitVec.ofNat 12 (le pl 2 2)
    let x := (s.port p).tx
    le pl 0 2 = 0 → bits (byteAt pl 3) 7 4 = 1 → zeros pl 4 119 = true → (seq - x.lower).toNat ≤ (x.seqNext - 1 - x.lower).toNat →
    (x.nakSeq = some seq → x.nakRun < 7) → Gives (.ackReceived p l b) s fun t =>
      (t.port p).tx.resend = (x.unacked.filter fun u => decide ((u.seq - seq).toNat < 2048)).map (fun u => { u with sentAt := s.now })
        ∧ (t.port p).retry = (s.port p).retry + (if (t.port p).tx.resend = [] then 0 else 1) ∧ (t.port p).tx.lower = x.lower ∧ t = { s with ports := t.ports } := by
  intro pl seq x ack nak rest sent few
  have payload : flitPayload b = pl := rfl
  clear_value pl
  obtain ⟨high, valid⟩ := bits_of_nibble nak
  have none' : byteAt pl 1 = 0 := byteAt_of_le_two ack
  have heard := s.port_alive p
  have up : (s.alive p).linkUp p = true := by
    rw [State.linkUp_iff, heard]
    exact active
  have ran : exec (.ackReceived p l b) s = .next ((s.alive p).nakIn p seq) := by
    refine (congrArg Host.Outcome.next (State.ctrlIn_of_ok active good plain typed payload rfl ?_)).trans ?_
    · simp only [high, none', rest]
      rfl
    · have clear : bitOf 0 4 = false := rfl
      simp only [valid, none', clear, up, Bool.and_self, Bool.false_eq_true, if_false, if_true]
      rfl
  refine Gives.of_eq ran ?_
  have only := State.PortsOnly.alive s p
  have now : (s.alive p).now = s.now := rfl
  generalize s.alive p = u at *
  have tx : (u.port p).tx = x := by rw [heard]; rfl
  have retry : (u.port p).retry = (s.port p).retry := by rw [heard]; rfl
  obtain ⟨resend, counted, lower, kept⟩ := State.nakIn_resends (s := u) (p := p) (seq := seq) (by rwa [tx]) (by rwa [tx])
  generalize u.nakIn p seq = t at *
  rw [tx, now] at resend counted
  rw [tx] at lower
  rw [counted, resend, retry]
  refine ⟨rfl, ?_, lower, only.trans kept⟩
  cases x.again seq s.now with
  | nil => simp
  | cons a as => simp

/-! ## CREDIT (R66) -/

theorem creditReceived_gives (typed : flitType b = 3) :
    let pl := flitPayload b
    byteAt pl 0 = 1 → zeros pl 1 7 = true → le pl 8 2 < 1024 → zeros pl 12 119 = true → Gives (.creditReceived p l b) s fun t =>
      (t.port p).tun (le pl 8 2) = (if s.creditable p (le pl 8 2) then { (s.port p).tun (le pl 8 2) with credit := BitVec.ofNat 16 (le pl 10 2) }
          else (s.port p).tun (le pl 8 2))
        ∧ (∀ k, k ≠ le pl 8 2 → (t.port p).tun k = (s.port p).tun k) ∧ (t.port p).tx = (s.port p).tx ∧ t = { s with ports := t.ports } := by
  intro pl one head named rest
  have payload : flitPayload b = pl := rfl
  clear_value pl
  let u := s.alive p
  let v := u.modPort p fun x => x.modTun (le pl 8 2) fun t => { t with credit := BitVec.ofNat 16 (le pl 10 2) }
  have ran : exec (.creditReceived p l b) s = .next (if s.creditable p (le pl 8 2) then v else u) := by
    refine (congrArg Host.Outcome.next (State.ctrlIn_of_ok active good plain typed payload rfl ?_)).trans ?_
    · have single : List.range 1 = [0] := rfl
      simp [one, head, rest, named, single]
    · simp only [one]
      rfl
  have only : State.PortsOnly s u := State.PortsOnly.alive s p
  have heard : u.port p = (s.port p).heard (s.after (100000 * (s.port p).toForce)) := s.port_alive p
  have given : v.port p = (u.port p).modTun (le pl 8 2) fun t => { t with credit := BitVec.ofNat 16 (le pl 10 2) } := State.port_modPort_same ..
  refine Gives.of_eq ran ?_
  split_ifs with creditable
  · have kept : State.PortsOnly s v := only.trans (State.PortsOnly.modPort ..)
    generalize v = v at *
    rw [given, heard]
    refine ⟨?_, fun k other => ?_, rfl, kept⟩
    · exact (Tab.get_set ..).trans (if_pos rfl)
    · exact (Tab.get_set ..).trans (if_neg other)
  · generalize u = u at *
    rw [heard]
    exact ⟨rfl, fun _ _ => rfl, rfl, only⟩

/-! ## SLEEP, BACKLOG, RETRAIN_REQ (R50, R70) -/

theorem sleepReceived_gives (typed : flitType b = 6) (sub : byteAt (flitPayload b) 0 = 1) (rest : zeros (flitPayload b) 1 119 = true) :
    Gives (.sleepReceived p l b) s fun t =>
      (t.port p).rx.asleep = true ∧ (t.port p).rx.e = (s.port p).rx.e ∧ t = { s with ports := t.ports } := by
  let v := (s.alive p).modPort p fun x => { x with rx := { x.rx with asleep := true } }
  have ran : exec (.sleepReceived p l b) s = .next v :=
    congrArg Host.Outcome.next (State.ctrlIn_of_ok active good plain typed rfl (by simp [sub]) rest)
  have own : v.port p = { (s.alive p).port p with rx := { ((s.alive p).port p).rx with asleep := true } } := State.port_modPort_same ..
  have only : State.PortsOnly s v := (State.PortsOnly.alive s p).trans (State.PortsOnly.modPort ..)
  refine Gives.of_eq ran ?_
  generalize v = v at *
  rw [own, State.port_alive]
  exact ⟨rfl, rfl, only⟩

theorem backlogReceived_gives (typed : flitType b = 6) :
    let pl := flitPayload b
    byteAt pl 0 = 4 → byteAt pl 1 = 0 → zeros pl 10 119 = true → Gives (.backlogReceived p l b) s fun t =>
      (t.port p).rx.backlog = some (le pl 2 2, le pl 4 3, le pl 7 3) ∧ t = { s with ports := t.ports } := by
  intro pl sub one rest
  have payload : flitPayload b = pl := rfl
  clear_value pl
  let v := (s.alive p).modPort p fun x => { x with rx := { x.rx with backlog := some (le pl 2 2, le pl 4 3, le pl 7 3) } }
  have ran : exec (.backlogReceived p l b) s = .next v := by
    refine congrArg Host.Outcome.next (State.ctrlIn_of_ok active good plain typed payload (by simpa using sub.symm) ?_)
    have single : List.range 1 = [0] := rfl
    simpa [zeros, single, one] using rest
  have own : v.port p = { (s.alive p).port p with rx := { ((s.alive p).port p).rx with backlog := some (le pl 2 2, le pl 4 3, le pl 7 3) } } :=
    State.port_modPort_same ..
  have only : State.PortsOnly s v := (State.PortsOnly.alive s p).trans (State.PortsOnly.modPort ..)
  refine Gives.of_eq ran ?_
  generalize v = v at *
  rw [own]
  exact ⟨rfl, only⟩

theorem retrainReqReceived_gives (typed : flitType b = 6) (sub : byteAt (flitPayload b) 0 = 5) (rest : zeros (flitPayload b) 2 119 = true) :
    Gives (.retrainReqReceived p l b) s fun t =>
      (t.port p).train.state = .detect ∧ (t.port p).train.cause = .peerRequest ∧ (t.port p).train.trainId = (s.port p).train.trainId + 1 := by
  have ran : exec (.retrainReqReceived p l b) s = .next ((s.alive p).retrainFor p .peerRequest) :=
    congrArg Host.Outcome.next (State.ctrlIn_of_ok active good plain typed rfl (by simp [sub]) rest)
  have heard := s.port_alive p
  have up : (s.alive p).linkUp p = true := by
    rw [State.linkUp_iff, heard]
    exact active
  obtain ⟨due, d⟩ := State.retrainFor_detecting up .peerRequest
  refine Gives.of_eq ran ⟨d.state, d.cause, d.trainId.trans ?_⟩
  rw [heard]
  rfl

/-! ## LANE_BAD (R498) -/

theorem laneBadReceived_gives (typed : flitType b = 6) :
    let pl := flitPayload b
    byteAt pl 0 = 6 → byteAt pl 1 < 4 → 1 ≤ byteAt pl 2 → byteAt pl 2 ≤ 2 → zeros pl 3 119 = true → (s.port p).outSet.getLsbD (byteAt pl 1) = true →
    Gives (.laneBadReceived p l b) s fun t =>
      ((t.port p).lane (byteAt pl 1)).badTold = true
        ∧ (((s.port p).lane (byteAt pl 1)).badTold = true → (t.port p).transit = (s.port p).transit ∧ t = { s with ports := t.ports })
        ∧ (((s.port p).lane (byteAt pl 1)).badTold = false → (s.port p).inSet.getLsbD (byteAt pl 1) = false → (s.port p).transit.isSome = true →
            ((t.port p).lane (byteAt pl 1)).recalDeferred = true) := by
  intro pl sub small cause cause' rest out
  have payload : flitPayload b = pl := rfl
  clear_value pl
  have heard := s.port_alive p
  have only := State.PortsOnly.alive s p
  have ran : exec (.laneBadReceived p l b) s = .next (if (s.port p).outSet.getLsbD (byteAt pl 1) && !((s.port p).lane (byteAt pl 1)).badTold then
      ((s.alive p).modPort p fun x => x.modLane (byteAt pl 1) fun v => { v with badTold := true }).degraded p (byteAt pl 1) else s.alive p) := by
    refine (congrArg Host.Outcome.next (State.ctrlIn_of_ok active good plain typed payload (by simpa using sub.symm) ?_)).trans ?_
    · simp [small, cause, cause', rest]
    · simp only [heard]
      rfl
  generalize s.alive p = u at *
  refine Gives.of_eq ran ?_
  rw [out]
  cases told : ((s.port p).lane (byteAt pl 1)).badTold with
  | true =>
    have same : ((u.port p).lane (byteAt pl 1)) = (s.port p).lane (byteAt pl 1) := by rw [heard]; rfl
    simp only [Bool.not_true, Bool.and_false, Bool.false_eq_true, if_false]
    refine ⟨by rw [same, told], fun _ => ⟨by rw [heard]; rfl, only⟩, Bool.noConfusion⟩
  | false =>
    let v := u.modPort p fun x => x.modLane (byteAt pl 1) fun v => { v with badTold := true }
    have own : v.port p = (u.port p).modLane (byteAt pl 1) fun v => { v with badTold := true } := State.port_modPort_same ..
    have marked : ((v.port p).lane (byteAt pl 1)).badTold = true := by rw [own, Port.lane_modLane_same _ _ small]
    have up : v.linkUp p = true := by
      rw [State.linkUp_iff, own, Port.modLane_train, heard]
      exact active
    simp only [Bool.not_false, Bool.and_self, if_true]
    refine ⟨(State.degraded_badTold up _ _).trans marked, Bool.noConfusion, fun _ inn transit => ?_⟩
    have inn' : (v.port p).inSet.getLsbD (byteAt pl 1) = false := by rw [own, Port.modLane_inSet, heard]; exact inn
    have transit' : (v.port p).transit.isSome = true := by rw [own, Port.modLane_transit, heard]; exact transit
    exact State.degraded_defers small inn' transit'

/-! ## TURN_DONE and LANEMAP (R69, R71, R72, R75) -/

theorem turnDoneReceived_gives {x : Transit} (typed : flitType b = 6) :
    let pl := flitPayload b
    byteAt pl 0 = 3 → byteAt pl 1 < 4 → zeros pl 4 119 = true → (s.port p).transit = some x → x.kind = .turnIn → x.phase = .awaitJoin → x.lane = byteAt pl 1 →
    x.turnId = BitVec.ofNat 16 (le pl 2 2) → x.marker = true → Gives (.turnDoneReceived p l b) s fun t =>
      (t.port p).transit = none ∧ (t.port p).allot.lastToOut = some s.cycle := by
  intro pl sub small rest transit kind phase lane turnId marker
  have payload : flitPayload b = pl := rfl
  clear_value pl
  let v := (s.alive p).modPort p fun y => { y with transit := some { x with joined := true } }
  have heard := s.port_alive p
  have transit' : ((s.alive p).port p).transit = some x := by rw [heard]; exact transit
  have ran : exec (.turnDoneReceived p l b) s = .next (v.joinDone p) := by
    refine (congrArg Host.Outcome.next (State.ctrlIn_of_ok active good plain typed payload (by simpa using sub.symm) ?_)).trans ?_
    · simp [small, rest]
    · simp only [transit']
      exact congrArg Host.Outcome.next (if_pos (by simp [kind, phase, lane, turnId]))
  have own : v.port p = { (s.alive p).port p with transit := some { x with joined := true } } := State.port_modPort_same ..
  have cycle : v.cycle = s.cycle := rfl
  generalize v = v at *
  obtain ⟨none', allot⟩ := State.joinDone_joins (s := v) (p := p) (t := { x with joined := true }) (by rw [own]) rfl marker
  refine Gives.of_eq ran ⟨none', ?_⟩
  rw [allot, ← cycle]
  exact if_pos kind

end

/-- R69: a port on which the LANEMAP of the terminal has been acted on. -/
def Port.mapped (x : Port) (set : Nat) (m : BitVec 16 × Nat × Nat) (t : Transit) : Port :=
  { x with inSet := BitVec.ofNat 4 set, lastMap := some m, transit := some t }

theorem State.port_mapped {s : State} {p : Nat} {x : Transit} (transit : (s.port p).transit = some x) (set : Nat) (tid : BitVec 16) (change : Nat)
    (f : Transit → Transit) : (s.mapped p set tid change f).port p = (s.port p).mapped set (tid, change, x.lane) (f x) := by
  unfold State.mapped
  rw [State.port_modPort_same, transit]
  rfl

theorem State.PortsOnly.mapped (s : State) (p set : Nat) (tid : BitVec 16) (change : Nat) (f : Transit → Transit) :
    State.PortsOnly s (s.mapped p set tid change f) := by
  unfold State.mapped
  exact State.PortsOnly.modPort ..

theorem State.port_tickFree (s : State) (q : Nat) : s.tickFree.port q = s.port q := rfl

/-- R47, R72: the lane that the AX1224 takes over changes nothing of the change in progress, and its rotation waits to be sent. -/
theorem State.takeLane_takes (s : State) (p l : Nat) :
    ((s.takeLane p l).port p).transit = (s.port p).transit ∧ ((s.takeLane p l).port p).inSet = (s.port p).inSet
      ∧ ((s.takeLane p l).port p).tx.ctrl.length = laneCount (s.port p).outSet + (s.port p).tx.ctrl.length := by
  let f (v : Lane) : Lane := (v.save (s.port p).train.rateSel .inb (Config.rxState s.freeCtr)).load (s.port p).train.rateSel .outb
  have turned : (s.turnSets p l .inb).port p = (s.port p).modLane l f := by
    unfold State.turnSets
    rw [State.port_tickFree, State.port_modPort_same]
    rfl
  have marked (u : State) (n : Nat) : (((u.send (.wakeBurst p (laneBit l).toNat n)).sendMarker p l).port p).tx = (u.port p).tx :=
    State.sendMarkers_tx (u.send (.wakeBurst p (laneBit l).toNat n)) p [l]
  have out (u : State) (n : Nat) : (((u.send (.wakeBurst p (laneBit l).toNat n)).sendMarker p l).port p).outSet = (u.port p).outSet :=
    (State.sendMarker_linesKept _ p l).outSet p
  unfold State.takeLane
  refine ⟨?_, ?_, ?_⟩
  · rw [(State.joinOut_linesKept ..).transit, turned, Port.modLane_transit]
  · rw [(State.joinOut_linesKept ..).inSet, turned, Port.modLane_inSet]
  · unfold State.joinOut
    rw [State.rotate'_ctrl, out, marked, turned, Port.modLane_outSet, Port.modLane_tx]

theorem laneCount_pos {m : BitVec 4} (h : m ≠ 0) : 0 < laneCount m := by
  revert m
  decide

section
variable {p : Fin 12} {l : Fin 4} {b pl : List Byte} {s : State}

/-- R69: a LANEMAP whose fields are in range. -/
theorem lanemap_ok (some' : 1 ≤ byteAt pl 0) (set : byteAt pl 0 ≤ 15) (lane : byteAt pl 1 < 20) (copy : byteAt pl 2 < 16) (ext : byteAt pl 3 = 0)
    (rest : zeros pl 7 119 = true) :
    (decide (1 ≤ byteAt pl 0) && decide (byteAt pl 0 ≤ 15) && decide (byteAt pl 1 < 20) && decide (byteAt pl 2 < 16) && zeros pl 3 3 && zeros pl 7 119) = true := by
  have single : List.range 1 = [0] := rfl
  have third : zeros pl 3 3 = true := by simp [zeros, single, ext]
  simp [some', set, lane, copy, third, rest]

/-- R69: what a LANEMAP that answers the change in progress does to it. -/
def State.answered (u : State) (p : Nat) (t : Transit) (set change : Nat) : State :=
  match t.kind, t.phase, change with
  | .turnIn, .laneReqSent, 0 =>
    (u.mapped p set t.turnId 0 fun t => { t with phase := .awaitJoin, marker := true, due := some ((u.port p).turnDue u.now) }).takeLane p t.lane
  | .turnOut, .awaitJoin, 1 => (u.mapped p set t.turnId 1 fun t => { t with joined := true }).joinDone p
  | .recal, .laneReqSent, 2 => u.mapped p set t.turnId 2 fun t => { t with phase := .eq, due := none, pass := .eqA }
  | .recal, .awaitJoin, 3 => (u.mapped p set t.turnId 3 fun t => { t with joined := true }).joinDone p
  | .exclude, .laneReqSent, 4 => (u.mapped p set t.turnId 4 id).settled p
  | _, _, _ => u.badProto p

theorem exec_lanemapReceived {x : Transit} (active : (s.port p).train.state = .active) (good : flitGood b = true) (plain : plainHeader b = true)
    (typed : flitType b = 4) (payload : flitPayload b = pl) (some' : 1 ≤ byteAt pl 0) (set : byteAt pl 0 ≤ 15) (small : byteAt pl 1 < 20)
    (copy : byteAt pl 2 < 16) (ext : byteAt pl 3 = 0) (rest : zeros pl 7 119 = true) (transit : (s.port p).transit = some x)
    (turnId : x.turnId = BitVec.ofNat 16 (le pl 4 2)) (lane : x.lane = byteAt pl 1 % 4)
    (new : (s.port p).lastMap ≠ some (x.turnId, bits (byteAt pl 1) 4 2, x.lane)) :
    exec (.lanemapReceived p l b) s = .next ((s.alive p).answered p x (byteAt pl 0) (bits (byteAt pl 1) 4 2)) := by
  have heard := s.port_alive p
  have transit' : ((s.alive p).port p).transit = some x := by rw [heard]; exact transit
  have new' : ((s.alive p).port p).lastMap ≠ some (BitVec.ofNat 16 (le pl 4 2), bits (byteAt pl 1) 4 2, byteAt pl 1 % 4) := by
    rw [heard, ← turnId, ← lane]
    exact new
  refine (congrArg Host.Outcome.next (State.ctrlIn_of_ok active good plain typed payload rfl (lanemap_ok some' set small copy ext rest))).trans ?_
  simp only [if_neg new', transit', turnId, lane, ne_eq, not_true_eq_false, decide_false, Bool.or_self, Bool.false_eq_true, if_false]
  simp only [← turnId, ← lane]
  rfl

theorem lanemapReceived_answers {x : Transit} (active : (s.port p).train.state = .active) (good : flitGood b = true) (plain : plainHeader b = true)
    (typed : flitType b = 4) :
    let pl := flitPayload b
    let change := bits (byteAt pl 1) 4 2
    1 ≤ byteAt pl 0 → byteAt pl 0 ≤ 15 → byteAt pl 1 < 20 → byteAt pl 2 < 16 → byteAt pl 3 = 0 → zeros pl 7 119 = true → (s.port p).transit = some x →
    x.turnId = BitVec.ofNat 16 (le pl 4 2) → x.lane = byteAt pl 1 % 4 → (s.port p).lastMap ≠ some (x.turnId, change, x.lane) → Gives (.lanemapReceived p l b) s fun t =>
      (x.kind = .turnIn → x.phase = .laneReqSent → change = 0 → (s.port p).outSet ≠ 0 →
          (∃ y, (t.port p).transit = some y ∧ y.phase = .awaitJoin ∧ y.marker = true ∧ y.lane = x.lane) ∧ (t.port p).inSet = BitVec.ofNat 4 (byteAt pl 0)
            ∧ (s.port p).tx.ctrl.length < (t.port p).tx.ctrl.length)
        ∧ (x.kind = .turnOut → x.phase = .awaitJoin → change = 1 → x.marker = false →
          (t.port p).transit = some { x with joined := true } ∧ (t.port p).inSet = BitVec.ofNat 4 (byteAt pl 0) ∧ t = { s with ports := t.ports })
        ∧ (x.kind = .recal → x.phase = .laneReqSent → change = 2 →
          (t.port p).transit = some { x with phase := .eq, due := none, pass := .eqA } ∧ (t.port p).inSet = BitVec.ofNat 4 (byteAt pl 0) ∧ t = { s with ports := t.ports })
        ∧ (x.kind = .exclude → x.phase = .laneReqSent → change = 4 → (t.port p).transit = none ∧ (t.port p).inSet = BitVec.ofNat 4 (byteAt pl 0)) := by
  intro pl change some' set small copy ext rest transit turnId lane new
  have payload : flitPayload b = pl := rfl
  clear_value pl
  refine Gives.of_eq (exec_lanemapReceived active good plain typed payload some' set small copy ext rest transit turnId lane new) ?_
  have heard := s.port_alive p
  have only := State.PortsOnly.alive s p
  generalize s.alive p = u at *
  have transit' : (u.port p).transit = some x := by rw [heard]; exact transit
  have mapped (m : Nat) (f : Transit → Transit) := State.port_mapped transit' (byteAt pl 0) x.turnId m f
  refine ⟨fun kind phase change' out => ?_, fun kind phase change' marker => ?_, fun kind phase change' => ?_, fun kind phase change' => ?_⟩
  · have ran : u.answered p x (byteAt pl 0) (bits (byteAt pl 1) 4 2) = (u.mapped p (byteAt pl 0) x.turnId 0 fun t =>
        { t with phase := .awaitJoin, marker := true, due := some ((u.port p).turnDue u.now) }).takeLane p x.lane := by
      rw [show bits (byteAt pl 1) 4 2 = 0 from change']
      simp only [State.answered, kind, phase]
    rw [ran]
    have own := mapped 0 fun t => { t with phase := .awaitJoin, marker := true, due := some ((u.port p).turnDue u.now) }
    generalize u.mapped p _ _ _ _ = v at own
    obtain ⟨kept, inn, ctrl⟩ := v.takeLane_takes p x.lane
    rw [kept, inn, ctrl, own, heard]
    exact ⟨⟨_, rfl, rfl, rfl, rfl⟩, rfl, Nat.lt_add_of_pos_left (laneCount_pos out)⟩
  · have own := mapped 1 fun t => { t with joined := true }
    have kept := only.trans (State.PortsOnly.mapped u p (byteAt pl 0) x.turnId 1 fun t => { t with joined := true })
    have ran : u.answered p x (byteAt pl 0) (bits (byteAt pl 1) 4 2) = (u.mapped p (byteAt pl 0) x.turnId 1 fun t => { t with joined := true }).joinDone p := by
      rw [show bits (byteAt pl 1) 4 2 = 1 from change']
      simp only [State.answered, kind, phase]
    rw [ran]
    generalize u.mapped p _ _ _ _ = v at own kept
    have waits : v.joinDone p = v := State.joinDone_waits fun t h => by
      rw [own] at h
      obtain rfl : ({ x with joined := true } : Transit) = t := Option.some.inj h
      exact .inr marker
    rw [waits, own]
    exact ⟨rfl, rfl, kept⟩
  · have own := mapped 2 fun t => { t with phase := .eq, due := none, pass := .eqA }
    have kept := only.trans (State.PortsOnly.mapped u p (byteAt pl 0) x.turnId 2 fun t => { t with phase := .eq, due := none, pass := .eqA })
    have ran : u.answered p x (byteAt pl 0) (bits (byteAt pl 1) 4 2)
        = u.mapped p (byteAt pl 0) x.turnId 2 fun t => { t with phase := .eq, due := none, pass := .eqA } := by
      rw [show bits (byteAt pl 1) 4 2 = 2 from change']
      simp only [State.answered, kind, phase]
    rw [ran]
    generalize u.mapped p _ _ _ _ = v at own kept
    rw [own]
    exact ⟨rfl, rfl, kept⟩
  · have own := mapped 4 id
    have ran : u.answered p x (byteAt pl 0) (bits (byteAt pl 1) 4 2) = (u.mapped p (byteAt pl 0) x.turnId 4 id).settled p := by
      rw [show bits (byteAt pl 1) 4 2 = 4 from change']
      simp only [State.answered, kind, phase]
    rw [ran]
    refine ⟨State.settled_transit .., ?_⟩
    rw [(State.settled_linesKept _ p).inSet, State.port_modPort_same, own]
    rfl

/-! ## PROTO_ERR (R60, R65) -/

/-- R65: one error more, with fewer than 15 in the last 1 ms. -/
theorem State.badProto_counts {s : State} {p : Nat} (few : ((s.port p).rx.protoTimes.filter (s.within 1000000)).length < 15) :
    ∃ times, (s.badProto p).port p = { s.port p with rx := { (s.port p).rx with protoErr := (s.port p).rx.protoErr + 1, protoTimes := times } }
      ∧ State.PortsOnly s (s.badProto p) := by
  rw [State.badProto_of_few s p few]
  unfold State.protoErr
  exact ⟨_, State.port_modPort_same .., State.PortsOnly.modPort ..⟩

/-- R65: the sixteenth error within 1 ms retrains the link. -/
theorem State.badProto_exhausts {s : State} {p : Nat} (up : s.linkUp p = true)
    (many : 15 ≤ ((s.port p).rx.protoTimes.filter (s.within 1000000)).length) :
    ((s.badProto p).port p).train.state = .detect ∧ ((s.badProto p).port p).train.trainId = (s.port p).train.trainId + 1 := by
  let u := ((s.protoErr p).event (evPort p 11)).modPort p fun x => { x with rx := { x.rx with protoTimes := [] } }
  have train : (u.port p).train = (s.port p).train := by
    refine (congrArg Port.train (State.port_modPort_same _ p _)).trans ?_
    change (((s.protoErr p).event (evPort p 11)).port p).train = _
    rw [State.port_event, State.protoErr, State.port_modPort_same]
  have full : 16 ≤ ((s.protoErr p).port p).rx.protoTimes.length ∧ (s.protoErr p).linkUp p = true := by
    simp only [State.linkUp_iff] at up ⊢
    simp only [State.protoErr, State.port_modPort_same, List.length_drop, List.length_append, List.length_singleton]
    exact ⟨by omega, up⟩
  have ran : s.badProto p = u.retrainFor p .none := if_pos (by rw [decide_eq_true full.1, full.2]; rfl)
  obtain ⟨due, d⟩ := State.retrainFor_detecting (s := u) (p := p) (by rw [State.linkUp, train]; exact up) .none
  rw [ran]
  exact ⟨d.state, d.trainId.trans (by rw [train])⟩

theorem lanemapReceived_unasked (active : (s.port p).train.state = .active) (good : flitGood b = true) (plain : plainHeader b = true)
    (typed : flitType b = 4) :
    let pl := flitPayload b
    1 ≤ byteAt pl 0 → byteAt pl 0 ≤ 15 → byteAt pl 1 < 20 → byteAt pl 2 < 16 → byteAt pl 3 = 0 → zeros pl 7 119 = true → (s.port p).transit = none →
    (s.port p).lastMap ≠ some (BitVec.ofNat 16 (le pl 4 2), bits (byteAt pl 1) 4 2, byteAt pl 1 % 4) →
    ((s.port p).rx.protoTimes.filter (s.within 1000000)).length < 15 → Gives (.lanemapReceived p l b) s fun t =>
      (t.port p).rx.protoErr = (s.port p).rx.protoErr + 1 ∧ (t.port p).inSet = (s.port p).inSet ∧ t = { s with ports := t.ports } := by
  intro pl some' set small copy ext rest transit new few
  have payload : flitPayload b = pl := rfl
  clear_value pl
  have heard := s.port_alive p
  have only := State.PortsOnly.alive s p
  have ran : exec (.lanemapReceived p l b) s = .next ((s.alive p).badProto p) := by
    refine (congrArg Host.Outcome.next (State.ctrlIn_of_ok active good plain typed payload rfl (lanemap_ok some' set small copy ext rest))).trans ?_
    have new' : ((s.alive p).port p).lastMap ≠ some (BitVec.ofNat 16 (le pl 4 2), bits (byteAt pl 1) 4 2, byteAt pl 1 % 4) := by
      rw [heard]
      exact new
    have transit' : ((s.alive p).port p).transit = none := by rw [heard]; exact transit
    simp only [if_neg new', transit']
  have few' : (((s.alive p).port p).rx.protoTimes.filter ((s.alive p).within 1000000)).length < 15 := by rw [heard]; exact few
  refine Gives.of_eq ran ?_
  generalize s.alive p = u at *
  obtain ⟨times, own, kept⟩ := State.badProto_counts few'
  rw [own, heard]
  exact ⟨rfl, rfl, only.trans kept⟩

theorem nullFlit_gives (active : (s.port p).train.state = .active) (good : flitGood b = true) (typed : flitType b = 0) (plain : plainHeader b = false) :
    Gives (.dataFlitReceived p l b) s fun t =>
      (((s.port p).rx.protoTimes.filter (s.within 1000000)).length < 15 → (t.port p).rx.protoErr = (s.port p).rx.protoErr + 1 ∧ (t.port p).train = (s.port p).train)
        ∧ (15 ≤ ((s.port p).rx.protoTimes.filter (s.within 1000000)).length →
            (t.port p).train.state = .detect ∧ (t.port p).train.trainId = (s.port p).train.trainId + 1) := by
  have heard := s.port_alive p
  have ran : exec (.dataFlitReceived p l b) s = .next ((s.alive p).badProto p) := by
    refine (congrArg Host.Outcome.next (State.flitIn_of_good active good _)).trans ?_
    simp only [typed, plain, Bool.false_eq_true, if_false]
  have within : (s.alive p).within 1000000 = s.within 1000000 := rfl
  refine Gives.of_eq ran ⟨fun few => ?_, fun many => ?_⟩
  · obtain ⟨times, own, -⟩ := State.badProto_counts (s := s.alive p) (p := p) (by rw [heard]; exact few)
    rw [own, heard]
    exact ⟨rfl, rfl⟩
  · obtain ⟨state, trainId⟩ := State.badProto_exhausts (s := s.alive p) (p := p) (by rw [State.linkUp_iff, heard]; exact active)
      (by rw [heard]; exact many)
    rw [heard] at trainId
    exact ⟨state, trainId⟩

/-! ## ECHO (R77) -/

theorem echoReceived_gives (active : (s.port p).train.state = .active) (good : flitGood b = true) (plain : plainHeader b = true)
    (typed : flitType b = 5) :
    let pl := flitPayload b
    byteAt pl 0 = 2 → (byteAt pl 1 = 0 ∨ byteAt pl 1 = 2) → zeros pl 4 7 = true → zeros pl 32 119 = true → Gives (.echoReceived p l b) s fun t =>
      (t.port p).time = ((s.port p).time.sample (((s.now.toNat : Int) - le pl 8 8 - ((le pl 24 8 : Int) - le pl 16 8)) * 8)).1
        ∧ (t.port p).tx = (s.port p).tx ∧ t = { s with ports := t.ports, silt := t.silt, freeCtr := t.freeCtr } := by
  intro pl sub flags low high
  have payload : flitPayload b = pl := rfl
  clear_value pl
  let r := (s.port p).time.sample (((s.now.toNat : Int) - le pl 8 8 - ((le pl 24 8 : Int) - le pl 16 8)) * 8)
  let v := (s.alive p).modPort p fun x => { x with time := r.1 }
  have heard := s.port_alive p
  have ran : exec (.echoReceived p l b) s = .next (if r.2 then v.trace (agentPort p) 0 p else v) := by
    refine (congrArg Host.Outcome.next (State.ctrlIn_of_ok active good plain typed payload (by simpa using sub.symm) ?_)).trans ?_
    · obtain one | one := flags <;> simp [one, low, high]
    · simp only [heard]
      rfl
  have own : v.port p = { (s.alive p).port p with time := r.1 } := State.port_modPort_same ..
  have only : State.PortsOnly s v := (State.PortsOnly.alive s p).trans (State.PortsOnly.modPort ..)
  have sampled : (v.port p).time = r.1 ∧ (v.port p).tx = (s.port p).tx := by
    rw [own, heard]
    exact ⟨rfl, rfl⟩
  refine Gives.of_eq ran ?_
  generalize v = v at *
  split_ifs
  · rw [State.port_trace]
    refine ⟨sampled.1, sampled.2, ?_⟩
    have frame := v.trace_frame (agentPort p) 0 p
    have ports : (v.trace (agentPort p) 0 p).ports = v.ports := v.trace_ports ..
    generalize v.trace (agentPort p) 0 p = w at *
    rw [ports]
    exact frame.trans (congrArg (fun a : State => { a with silt := w.silt, freeCtr := w.freeCtr }) only)
  · refine ⟨sampled.1, sampled.2, ?_⟩
    have silt : v.silt = s.silt := (congrArg State.silt only :)
    have free : v.freeCtr = s.freeCtr := (congrArg State.freeCtr only :)
    rw [silt, free]
    exact only

end

/-- Settles O46: each clause is what its lemma above gives. -/
theorem controlFlitsReceived : Obligations.ControlFlitsReceived := by
  refine ⟨?ack, ?nak, ?credit, ?sleep, ?backlog, ?retrain, ?laneBad, ?turnDone, ?lanemap, ?unasked, ?null, ?echo⟩
  case ack => exact fun p l b s active good typed plain => ackReceived_acks active good plain typed
  case nak => exact fun p l b s active good typed plain => ackReceived_naks active good plain typed
  case credit => exact fun p l b s active good typed plain => creditReceived_gives active good plain typed
  case sleep => exact fun p l b s active good typed plain sub rest => sleepReceived_gives active good plain typed sub rest
  case backlog => exact fun p l b s active good typed plain => backlogReceived_gives active good plain typed
  case retrain => exact fun p l b s active good typed plain sub rest => retrainReqReceived_gives active good plain typed sub rest
  case laneBad => exact fun p l b s active good typed plain => laneBadReceived_gives active good plain typed
  case turnDone => exact fun p l b x s active good typed plain => turnDoneReceived_gives active good plain typed
  case lanemap => exact fun p l b x s active good typed plain => lanemapReceived_answers active good plain typed
  case unasked => exact fun p l b s active good typed plain => lanemapReceived_unasked active good plain typed
  case null => exact fun p l b s active good typed plain => nullFlit_gives active good typed plain
  case echo => exact fun p l b s active good typed plain => echoReceived_gives active good plain typed

end Sys2Proof.Machine
end

section
/-! PROOFS. Markers received, the loss of a link, and the sleep of its directions (R34, R41, R50, R52, R53). -/

namespace Sys2Proof.Machine

/-! ## A link comes up (R41) -/

/-- R41: a port as it enters ACTIVE, but for what its tunnels and requests then change. -/
def Port.activated (x : Port) (now : Nat → Time) : Port :=
  { x with
    train := { x.train.clearCounts with state := .active, due := none, held := x.train.peer, lowered := x.train.lowered }
    outSet := x.train.outNow &&& ~~~x.train.laneExcl, inSet := ~~~x.train.outNow &&& ~~~x.train.laneExcl
    keepForce := x.link.keepAlive, toForce := x.link.linkTimeout
    tx := { idleDue := if x.link.sleepIdle = 0 then none else some (now (1000 * x.link.sleepIdle)) }
    rx := { protoErr := x.rx.protoErr, linkDue := some (now (100000 * x.link.linkTimeout)), creditDue := some (now 1000000) }
    time := { due := some (now (1000 * x.link.timePeriod)), pathDelay := x.train.rtt * 8 }
    allot := { x.allot with cOut := 0, cIn := 0, lastToOut := none, lastToIn := none, homeRun := 0 }
    restoring := false }

/-- R115: the peer is the unit that the port held tunnels for, or it held for none. -/
def Port.sameHeld (x : Port) : Bool :=
  match x.train.held, x.train.peer with
  | some a, some b => sameUnit a b
  | _, _ => true

/-- R41, R47: the port is ACTIVE, and told as such. -/
def State.linkUpTold (s : State) (p : Nat) : State :=
  (((s.setPort p ((s.port p).activated s.after)).armRecal p).event (evPort p 0)).trace (agentPort p) 0 p

/-- R115: the ORPHAN tunnels of another unit are torn down. -/
def State.linkUpKept (s : State) (p : Nat) : State :=
  if (s.port p).sameHeld then s.linkUpTold p else ((s.linkUpTold p).portTunnels p .orphan).foldl (fun s t => s.teardown t 7) (s.linkUpTold p)

theorem State.linkUpNow_eq (s : State) (p : Nat) : ∃ restore, s.linkUpNow p =
    ((((s.linkUpKept p).modPort p fun y => { y with restoring := restore }).sendHubInfo p restore).grant p 0 6 16 0) := by
  refine ⟨(s.port p).sameHeld && !((s.linkUpTold p).portTunnels p .orphan).isEmpty, ?_⟩
  unfold State.linkUpNow State.linkUpKept State.linkUpTold Port.sameHeld
  rfl

theorem State.sendHubInfo_linesKept (s : State) (p : Nat) (restore : Bool) : s.LinesKept (s.sendHubInfo p restore) := by
  unfold State.sendHubInfo
  exact (LinesKept.modPort s p).trans (State.queueMgmt_linesKept ..)

theorem State.linkUpNow_active (s : State) (p : Nat) :
    ((s.linkUpNow p).port p).train = ((s.port p).activated s.after).train ∧ ((s.linkUpNow p).port p).outSet = ((s.port p).activated s.after).outSet
      ∧ ((s.linkUpNow p).port p).inSet = ((s.port p).activated s.after).inSet := by
  obtain ⟨restore, ran⟩ := s.linkUpNow_eq p
  have told : ∃ f, (s.linkUpTold p).port p = ((s.port p).activated s.after).mapLanes f := by
    unfold State.linkUpTold
    rw [State.port_trace, State.port_event]
    unfold State.armRecal
    rw [State.port_modPort_same, State.port_setPort_same]
    exact ⟨_, rfl⟩
  obtain ⟨f, told⟩ := told
  have kept : (s.linkUpTold p).LinesKept (s.linkUpKept p) := .ite (.refl _) (State.teardowns_linesKept ..)
  have sent := (State.sendHubInfo_linesKept ((s.linkUpKept p).modPort p fun y => { y with restoring := restore }) p restore).trans
    (State.grant_linesKept _ p 0 6 16 0)
  rw [← ran] at sent
  rw [sent.train, sent.outSet, sent.inSet, State.port_modPort_same]
  dsimp only
  rw [kept.train, kept.outSet, kept.inSet, told]
  exact ⟨rfl, rfl, rfl⟩

/-! ## Markers (R34, R41) -/

section
variable {p : Fin 12} {l : Fin 4} {h : List Byte} {diff : Nat} {flit : Bool} {s : State}

theorem exec_markerReceived_refused (bad : markerOk l .inb h diff = false) : exec (.markerReceived p l h diff flit) s = .next s :=
  if_pos (by rw [bad]; rfl)

/-- R34, R41: a port in SYNC on which a marker was accepted. -/
def Port.synced (x : Port) (l : Nat) (group : BitVec 16) : Port :=
  ({ x with train := { x.train with syncMarks := x.train.syncMarks ||| laneBit l } }).modLane l fun v => { v with groupRx := group }

theorem markerReceived_activates (ok : markerOk l .inb h diff = true) (sync : (s.port p).train.state = .sync) (echo : (s.port p).train.echoSeen = true)
    (last : ((s.port p).train.syncMarks ||| laneBit l) &&& (~~~(s.port p).train.outNow &&& (s.port p).train.lanes)
      = ~~~(s.port p).train.outNow &&& (s.port p).train.lanes) : Gives (.markerReceived p l h diff true) s fun t =>
      (t.port p).train.state = .active ∧ (t.port p).outSet = (s.port p).train.outNow &&& ~~~(s.port p).train.laneExcl
        ∧ (t.port p).inSet = ~~~(s.port p).train.outNow &&& ~~~(s.port p).train.laneExcl ∧ (t.port p).train.due = none
        ∧ (t.port p).train.failJ14 = 0 ∧ (t.port p).train.failJ28 = 0 ∧ (t.port p).train.failJ56 = 0 := by
  let u := s.modPort p fun x => x.synced l (BitVec.ofNat 16 (le h 5 2))
  have own : u.port p = (s.port p).synced l (BitVec.ofNat 16 (le h 5 2)) := State.port_modPort_same ..
  have train : (u.port p).train = { (s.port p).train with syncMarks := (s.port p).train.syncMarks ||| laneBit l } := by
    rw [own, Port.synced, Port.modLane_train]
  have ran : exec (.markerReceived p l h diff true) s = .next (u.linkUpNow p) := by
    have all : (u.port p).train.syncMarks &&& (~~~(s.port p).train.outNow &&& (s.port p).train.lanes) = ~~~(s.port p).train.outNow &&& (s.port p).train.lanes := by
      rw [train]
      exact last
    change execMarkerReceived p l h diff true s = _
    simp only [execMarkerReceived, ok, sync, echo, Bool.not_true, Bool.or_self, Bool.false_eq_true, if_false, if_true]
    exact if_pos all
  obtain ⟨active, out, inn⟩ := u.linkUpNow_active p
  generalize u.linkUpNow p = t at *
  refine Gives.of_eq ran ?_
  rw [active, out, inn]
  simp only [Port.activated, Train.clearCounts, train, and_self]

/-- R34, R52: a port of an ACTIVE link with no lane in transit, on which a marker was accepted. -/
def Port.marked (x : Port) (l : Nat) (group : BitVec 16) (due : Time) : Port :=
  ({ x with rx := { x.rx with linkDue := some due, asleep := false } }).modLane l fun v => { v with groupRx := group, badTold := false }

theorem markerReceived_gives (ok : markerOk l .inb h diff = true) (active : (s.port p).train.state = .active) (still : (s.port p).transit = none) :
    Gives (.markerReceived p l h diff flit) s fun t =>
      (t.port p).rx = { (s.port p).rx with linkDue := some (s.after (100000 * (s.port p).toForce)), asleep := false }
        ∧ (t.port p).lane l = { (s.port p).lane l with groupRx := BitVec.ofNat 16 (le h 5 2), badTold := false }
        ∧ (∀ k : Fin 4, k ≠ l → (t.port p).lane k = (s.port p).lane k) ∧ (t.port p).train = (s.port p).train ∧ t = { s with ports := t.ports } := by
  let u := (s.alive p).modPort p fun (x : Port) =>
    { x with transit := x.transit.map fun (t : Transit) => if t.lane = l then { t with marker := true } else t
             rx := { x.rx with asleep := false } }.modLane l fun v => { v with groupRx := BitVec.ofNat 16 (le h 5 2), badTold := false }
  have only : State.PortsOnly s u := (State.PortsOnly.alive s p).trans (State.PortsOnly.modPort ..)
  have own : u.port p = (s.port p).marked l (BitVec.ofNat 16 (le h 5 2)) (s.after (100000 * (s.port p).toForce)) := by
    have none' : ((s.port p).heard (s.after (100000 * (s.port p).toForce))).transit = none := still
    refine (State.port_modPort_same _ p _).trans ?_
    simp only [State.port_alive, none', Option.map_none]
    rw [← none']
    rfl
  have ran : exec (.markerReceived p l h diff flit) s = .next (u.joinDone p) := by
    change execMarkerReceived p l h diff flit s = _
    simp only [execMarkerReceived, ok, active, Bool.not_true, Bool.false_eq_true, if_false, reduceCtorEq, if_true]
    rfl
  generalize u = u at *
  have waits : u.joinDone p = u := State.joinDone_waits fun t transit => by
    rw [own, Port.marked, Port.modLane_transit] at transit
    cases still.symm.trans transit
  refine Gives.of_eq ran ?_
  rw [waits, own, Port.marked, Port.modLane_rx, Port.modLane_train, Port.lane_modLane_same _ _ l.isLt]
  refine ⟨rfl, rfl, fun k other => ?_, rfl, only⟩
  exact Port.lane_modLane_other _ _ l.isLt k.isLt fun e => other (Fin.ext e)

end

/-! ## Degraded lanes and the link timeout (R52, R53, Table 2-7) -/

theorem State.degradedTold_same (s : State) (p : Nat) : (s.degradedTold p).tunnels = s.tunnels ∧ (s.degradedTold p).clock = s.clock := by
  simp [State.degradedTold]

section
variable {i : Fin 12 → Fin 4 → Instr} {p : Fin 12} {l : Fin 4} {s : State}

theorem exec_degrades (which : i = .markerLossTimeout ∨ i = .codewordErrorLimit) (active : (s.port p).train.state = .active)
    (inn : (s.port p).inSet.getLsbD l = true) (awake : (s.port p).rx.asleep = false) : exec (i p l) s = .next (s.degraded p l) := by
  have up := State.linkUp_iff.mpr active
  obtain rfl | rfl := which
  · exact if_pos (by rw [up, inn, awake]; rfl)
  · exact if_pos (by rw [up, inn]; rfl)

theorem degrades_last (which : i = .markerLossTimeout ∨ i = .codewordErrorLimit) (active : (s.port p).train.state = .active)
    (inn : (s.port p).inSet.getLsbD l = true) (awake : (s.port p).rx.asleep = false) (last : laneCount (s.port p).inSet = 1) :
    Gives (i p l) s fun t => (t.port p).train.state = .detect ∧ (t.port p).train.trainId = (s.port p).train.trainId + 1
        ∧ (t.port p).outSet = 5 ∧ (t.port p).inSet = 10 ∧ (t.port p).transit = none := by
  have told := s.port_degradedTold p p
  obtain ⟨due, d⟩ := State.retrainFor_detecting (s := s.degradedTold p) (p := p) (by rw [State.linkUp_iff, told]; exact active) .none
  refine Gives.of_eq (exec_degrades which active inn awake) ?_
  rw [State.degraded_eq, inn, last, if_pos (by rfl)]
  refine ⟨d.state, d.trainId.trans ?_, d.outSet, d.inSet, d.transit⟩
  rw [told]

theorem degrades_recalibrates (which : i = .markerLossTimeout ∨ i = .codewordErrorLimit) (active : (s.port p).train.state = .active)
    (inn : (s.port p).inSet.getLsbD l = true) (out : (s.port p).outSet.getLsbD l = false) (awake : (s.port p).rx.asleep = false)
    (more : laneCount (s.port p).inSet ≠ 1) : Gives (i p l) s fun t =>
      ((s.port p).transit = none → s.mayLeave p .inb = true →
        (t.port p).transit = some { lane := l, kind := .recal, phase := .laneReqSent, turnId := (s.port p).turnId, origDir := .inb, startAt := s.now
                                    due := some (s.after (2 * (s.port p).oneWay + 2000)) }
          ∧ (t.port p).turnId = (s.port p).turnId + 1 ∧ ((t.port p).lane l).recalDeferred = false)
        ∧ (((s.port p).transit ≠ none ∨ s.mayLeave p .inb = false) → (t.port p).transit = (s.port p).transit ∧ ((t.port p).lane l).recalDeferred = true
          ∧ (t.port p).recalRetry = some ((s.port p).recalRetry.getD (s.after 10000000000)))
        ∧ (t.port p).train = (s.port p).train := by
  obtain ⟨tunnels, clock⟩ := s.degradedTold_same p
  have told := s.port_degradedTold p p
  have may := State.mayLeave_congr (congrArg Port.outSet told) (congrArg Port.inSet told) (congrArg Port.train told) tunnels .inb
  have after (n : Nat) : (s.degradedTold p).after n = s.after n := by simp only [State.after, State.now, clock]
  have now : (s.degradedTold p).now = s.now := by simp only [State.now, clock]
  have dir : ((s.degradedTold p).port p).laneDir l = some .inb := by
    rw [told, Port.laneDir, out, inn]
    rfl
  refine Gives.of_eq (exec_degrades which active inn awake) ?_
  rw [State.degraded_eq, decide_eq_false more, Bool.and_false, if_neg Bool.false_ne_true]
  generalize s.degradedTold p = u at *
  rw [← told, ← may, ← after, ← after, ← now]
  refine ⟨fun still may => ?_, fun no => ?_, ?_⟩
  · obtain ⟨transit, turnId, deferred, -⟩ := State.recalibrate_begun l.isLt dir still may
    exact ⟨transit, turnId, deferred⟩
  · obtain ⟨transit, deferred, retry, -⟩ := State.recalibrate_put l.isLt dir no
    exact ⟨transit, deferred, retry⟩
  · exact u.recalibrate_train p l

theorem linkTimeout_gives (active : (s.port p).train.state = .active) (due : s.due (s.port p).rx.linkDue = true) : Gives (.linkTimeout p) s fun t =>
      (t.port p).train.state = .detect ∧ (t.port p).train.trainId = (s.port p).train.trainId + 1 ∧ (t.port p).outSet = 5 ∧ (t.port p).inSet = 10 := by
  have up := State.linkUp_iff.mpr active
  have ran : exec (.linkTimeout p) s = .next (s.retrainFor p .none) := if_pos (by rw [up, due]; rfl)
  obtain ⟨_, d⟩ := State.retrainFor_detecting up .none
  exact Gives.of_eq ran ⟨d.state, d.trainId, d.outSet, d.inSet⟩

end

/-! ## Sleep and wake (R50, R387) -/

theorem Tab.erase_insert {α : Type} (k : Nat) (v : α) (t : List (Nat × α)) : Tab.erase k (Tab.insert k v t) = Tab.erase k t := by
  induction t with
  | nil => exact if_pos rfl
  | cons e t ih =>
    simp only [Tab.insert]
    split_ifs with below same
    · exact if_pos rfl
    · simp only [Tab.erase, same, if_true]
    · simp only [Tab.erase, if_neg same, ih]

theorem Tab.insert_insert {α : Type} (k : Nat) (v w : α) (t : List (Nat × α)) : Tab.insert k w (Tab.insert k v t) = Tab.insert k w t := by
  induction t with
  | nil => simp [Tab.insert]
  | cons e t ih =>
    simp only [Tab.insert]
    split_ifs with below same
    · simp [Tab.insert]
    · simp [Tab.insert]
    · simp only [Tab.insert, if_neg below, if_neg same, ih]

/-- The second of two values written at a key is what counts, if the first was listed. -/
theorem Tab.set_set {α : Type} [DecidableEq α] {d v : α} (listed : v ≠ d) (k : Nat) (w : α) (t : List (Nat × α)) :
    Tab.set d k w (Tab.set d k v t) = Tab.set d k w t := by
  simp only [Tab.set, if_neg listed]
  split_ifs
  · exact Tab.erase_insert k v t
  · exact Tab.insert_insert k v w t

theorem State.wakeNow_setPort (s : State) (b p : Nat) (x : Port) : (s.setPort p x).wakeNow b = (s.wakeNow b).setPort p x := by
  unfold State.wakeNow
  rw [State.setPort_power]
  cases s.power.phase with
  | steady =>
    dsimp only
    split_ifs <;> rfl
  | _ => rfl

theorem State.wakeCfg_setPort (s : State) (b p : Nat) (x : Port) : (s.setPort p x).wakeCfg b = (s.wakeCfg b).setPort p x := by
  unfold State.wakeCfg
  rw [State.setPort_power, State.wakeNow_setPort]
  split_ifs <;> rfl

section
variable {p : Fin 12} {s : State}

theorem wakeBurstReceived_gives (active : (s.port p).train.state = .active) : Gives (.wakeBurstReceived p) s fun t =>
      t = (s.wakeCfg p).setPort p { s.port p with rx := { (s.port p).rx with asleep := false, linkDue := some (s.after (100000 * (s.port p).toForce)) } } := by
  let x : Port := { s.port p with rx := { (s.port p).rx with asleep := false } }
  let y : Port := { s.port p with rx := { (s.port p).rx with asleep := false, linkDue := some (s.after (100000 * (s.port p).toForce)) } }
  have listed : x ≠ {} := fun e => by
    have state : (s.port p).train.state = .disabled := congrArg (fun z : Port => z.train.state) e
    rw [active] at state
    contradiction
  have own : (s.setPort p x).port p = x := State.port_setPort_same ..
  have once : (s.setPort p x).alive p = s.setPort p y := by
    have both : (s.setPort p x).alive p = (s.setPort p x).setPort p (x.heard ((s.setPort p x).after (100000 * x.toForce))) := by
      simp only [State.alive, State.modPort, own]
      rfl
    rw [both]
    exact congrArg (fun l => { s with ports := l }) (Tab.set_set listed p y s.ports)
  have ran : exec (.wakeBurstReceived p) s = .next (((s.setPort p x).alive p).wakeCfg p) := if_pos (State.linkUp_iff.mpr active)
  refine Gives.of_eq ran ?_
  rw [once, State.wakeCfg_setPort]

theorem sleepIdleExpiry_gives (active : (s.port p).train.state = .active) (awake : (s.port p).tx.asleep = false) (due : s.due (s.port p).tx.idleDue = true)
    (still : (s.port p).transit = none) (idle : s.hasWork p = false) : Gives (.sleepIdleExpiry p) s fun t =>
      t = s.setPort p { s.port p with tx := { (s.port p).tx with ctrl := (s.port p).tx.ctrl ++ [{ typ := 6, payload := [0x01], counts := false }] } } :=
  Gives.of_eq (if_pos (by rw [State.linkUp_iff.mpr active, awake, due, still, idle]; rfl)) rfl

/-- R50: what a direction that wakes gives. -/
theorem wakeOut_gives {i : Instr} (active : (s.port p).train.state = .active) (asleep : (s.port p).tx.asleep = true) (ran : exec i s = .next (s.wakeOut p)) :
    Gives i s fun t => (t.port p).tx.asleep = false ∧ (t.port p).tx.keepDue = none ∧ (s.port p).tx.ctrl.length < (t.port p).tx.ctrl.length
        ∧ (t.port p).train = (s.port p).train ∧ t = { s with ports := t.ports, out := t.out } := by
  obtain ⟨awake, keep, more⟩ := State.wakeOut_wakes asleep (State.linkUp_iff.mpr active)
  exact Gives.of_eq ran ⟨awake, keep, more, (s.wakeOut_linesKept p).train p, (State.OnPort.wakeOut p s).frame⟩


end

/-- Settles O42: each clause is what its lemma above gives. -/
theorem markerAndSleepEvents : Obligations.MarkerAndSleepEvents := by
  refine ⟨?refused, ?sync, ?marker, ?last, ?degraded, ?timeout, ?burst, ?sleep, ?wake, ?keepalive⟩
  case refused => exact fun p l h diff flit s bad => exec_markerReceived_refused bad
  case sync => exact fun p l h diff s ok sync echo last => markerReceived_activates ok sync echo last
  case marker => exact fun p l h diff flit s ok active still => markerReceived_gives ok active still
  case last => exact fun i p l s which active inn awake last => degrades_last which active inn awake last
  case degraded => exact fun i p l s which active inn out awake more => degrades_recalibrates which active inn out awake more
  case timeout => exact fun p s active due => linkTimeout_gives active due
  case burst => exact fun p s active => wakeBurstReceived_gives active
  case sleep => exact fun p s active awake due still idle => sleepIdleExpiry_gives active awake due still idle
  case wake => exact fun p s active asleep work => wakeOut_gives active asleep (if_pos (by rw [asleep, work]; rfl))
  case keepalive => exact fun p s active asleep due => wakeOut_gives active asleep (if_pos (by rw [asleep, due]; rfl))

end Sys2Proof.Machine
end

section
/-! PROOFS. Recalibration of lanes: the period, the drift of temperature, the retries, and the end of EQ on a lane alone (R43, R44, R47, R49, R75). -/

namespace Sys2Proof.Machine

/-! ## Recalibrations asked for (R49) -/

section
variable {p : Fin 12} {l : Fin 4} {s : State}

theorem recalPeriodExpiry_gives {d : Dir} (active : (s.port p).train.state = .active) (due : s.due ((s.port p).lane l).recalDue = true)
    (dir : (s.port p).laneDir l = some d) : Gives (.recalPeriodExpiry p l) s fun t =>
      ((s.port p).transit = none → s.mayLeave p d = true →
        (∃ x, (t.port p).transit = some x ∧ x.lane = l ∧ x.kind = .recal ∧ x.origDir = d ∧ x.turnId = (s.port p).turnId
            ∧ x.phase = if d = .outb then .rotationSent else .laneReqSent)
          ∧ (t.port p).turnId = (s.port p).turnId + 1 ∧ ((t.port p).lane l).recalDeferred = false)
        ∧ (((s.port p).transit ≠ none ∨ s.mayLeave p d = false) → (t.port p).transit = (s.port p).transit ∧ ((t.port p).lane l).recalDeferred = true)
        ∧ ((t.port p).lane l).recalDue = (if (s.port p).link.recalHours = 0 then none else some (s.after ((s.port p).link.recalHours * 3600000000000))) := by
  let next := if (s.port p).link.recalHours = 0 then none else some (s.after ((s.port p).link.recalHours * 3600000000000))
  let u := s.modPort p fun x => x.modLane l fun v => { v with recalDue := next }
  have own : u.port p = (s.port p).modLane l fun v => { v with recalDue := next } := State.port_modPort_same ..
  have ran : exec (.recalPeriodExpiry p l) s = .next (u.recalibrate p l) := if_pos (by rw [State.linkUp_iff.mpr active, due]; rfl)
  have transit : (u.port p).transit = (s.port p).transit := by rw [own, Port.modLane_transit]
  have turnId : (u.port p).turnId = (s.port p).turnId := by rw [own, Port.modLane_turnId]
  have out : (u.port p).outSet = (s.port p).outSet := by rw [own, Port.modLane_outSet]
  have inn : (u.port p).inSet = (s.port p).inSet := by rw [own, Port.modLane_inSet]
  have train : (u.port p).train = (s.port p).train := by rw [own, Port.modLane_train]
  have tunnels : u.tunnels = s.tunnels := rfl
  have may := State.mayLeave_congr out inn train tunnels d
  have dir' : (u.port p).laneDir l = some d := by rw [Port.laneDir, out, inn]; exact dir
  have period : ((u.port p).lane l).recalDue = next := by rw [own, Port.lane_modLane_same _ _ l.isLt]
  generalize u = u at *
  refine Gives.of_eq ran ⟨fun still leaves => ?_, fun no => ?_, ?_⟩
  · obtain ⟨change, turned, deferred, -⟩ := State.recalibrate_begun l.isLt dir' (transit.trans still) (may.trans leaves)
    exact ⟨⟨_, change, rfl, rfl, rfl, turnId, rfl⟩, by rw [turned, turnId], deferred⟩
  · rw [← transit, ← may] at no
    obtain ⟨still, deferred, -⟩ := State.recalibrate_put l.isLt dir' no
    exact ⟨still.trans transit, deferred⟩
  · exact (State.recalibrate_lane (g := Lane.recalDue) (fun _ => rfl) (fun _ _ => rfl) (fun _ => rfl) u p l l).trans period

/-! ## The drift of temperature (R49) -/

/-- R49: the lanes whose last EQ was more than 20 °C away, and that no recalibration was asked for. -/
def Port.farLanes (x : Port) (temp : Int) : List Nat :=
  (List.range 4).filter fun l => decide (20 < (temp - (x.lane l).eqTemp).natAbs) && !x.recalAsked l

theorem exec_tempDrift (temp : Int) (s : State) : exec (.tempDrift p temp) s = .next
    (if !(s.setPort p { s.port p with temp := temp }).linkUp p then s.setPort p { s.port p with temp := temp }
     else (s.setPort p { s.port p with temp := temp }).recalibrates p (((s.setPort p { s.port p with temp := temp }).port p).farLanes temp)) :=
  (apply_ite Host.Outcome.next ..).symm

theorem tempDrift_down {temp : Int} (down : (s.port p).train.state ≠ .active) : Gives (.tempDrift p temp) s fun t =>
      t = s.setPort p { s.port p with temp := temp } := by
  have off : (s.setPort p { s.port p with temp := temp }).linkUp p = false := by
    rw [State.linkUp_false_iff, State.port_setPort_same]
    exact down
  exact Gives.of_eq (exec_tempDrift temp s) (if_pos (by rw [off]; rfl))

theorem tempDrift_up {temp : Int} (active : (s.port p).train.state = .active) : Gives (.tempDrift p temp) s fun t =>
      (t.port p).temp = temp ∧ (∀ l : Fin 4, ((t.port p).lane l).eqTemp = ((s.port p).lane l).eqTemp)
        ∧ ((s.port p).transit.isSome = true → (t.port p).transit = (s.port p).transit
            ∧ ∀ l : Fin 4, 20 < (temp - ((s.port p).lane l).eqTemp).natAbs → (s.port p).recalAsked l = false → ((t.port p).lane l).recalDeferred = true)
        ∧ ((∀ l : Fin 4, (temp - ((s.port p).lane l).eqTemp).natAbs ≤ 20) → t = s.setPort p { s.port p with temp := temp }) := by
  let u := s.setPort p { s.port p with temp := temp }
  have own : u.port p = { s.port p with temp := temp } := State.port_setPort_same ..
  have up : u.linkUp p = true := by
    rw [State.linkUp_iff, own]
    exact active
  have far : (u.port p).farLanes temp = (s.port p).farLanes temp := by rw [own]; rfl
  have ran : exec (.tempDrift p temp) s = .next (u.recalibrates p ((s.port p).farLanes temp)) := by
    rw [exec_tempDrift, ← far]
    exact congrArg Host.Outcome.next (if_neg (by rw [up]; exact Bool.false_ne_true))
  refine Gives.of_eq ran ⟨?_, fun l => ?_, fun transit => ?_, fun near => ?_⟩
  · rw [State.recalibrates_temp, own]
  · rw [State.recalibrates_eqTemp, own]
    rfl
  · have small : ∀ k ∈ (s.port p).farLanes temp, k < 4 := fun k m => List.mem_range.mp (List.mem_of_mem_filter m)
    obtain ⟨still, deferred, -⟩ := State.recalibrates_in_transit p _ u small (by rw [own]; exact transit)
    refine ⟨still.trans (by rw [own]), fun l away unasked => (deferred l l.isLt).trans ?_⟩
    have listed : l.val ∈ (s.port p).farLanes temp :=
      List.mem_filter.mpr ⟨List.mem_range.mpr l.isLt, by rw [decide_eq_true away, unasked]; rfl⟩
    rw [decide_eq_true listed, Bool.true_or]
  · have none' : (s.port p).farLanes temp = [] := by
      refine List.filter_eq_nil_iff.mpr fun k m => ?_
      have close := near ⟨k, List.mem_range.mp m⟩
      simp only [decide_eq_false (Nat.not_lt.mpr close), Bool.false_and, Bool.false_eq_true, not_false_eq_true]
    rw [none']
    rfl

/-! ## The retries (R49) -/

theorem Port.recalBegun_recalRetry (x : Port) (t : Transit) : (x.recalBegun t).line.recalRetry = x.recalRetry := by
  simp [Port.line, Port.recalBegun, Port.changing]

/-- R49: the lanes whose recalibration is deferred. -/
def Port.deferredLanes (x : Port) : List Nat := (List.range 4).filter fun k => (x.lane k).recalDeferred

theorem exec_recalRetryExpiry (active : (s.port p).train.state = .active) (due : s.due (s.port p).recalRetry = true) : exec (.recalRetryExpiry p) s =
    .next ((s.setPort p { s.port p with recalRetry := none }).recalibrates p ((s.setPort p { s.port p with recalRetry := none }).port p).deferredLanes) :=
  if_pos (by rw [State.linkUp_iff.mpr active, due]; rfl)

theorem recalRetryExpiry_begins {d : Dir} (active : (s.port p).train.state = .active) (due : s.due (s.port p).recalRetry = true)
    (still : (s.port p).transit = none) (only : ∀ k : Fin 4, ((s.port p).lane k).recalDeferred = decide (k = l)) (dir : (s.port p).laneDir l = some d)
    (may : s.mayLeave p d = true) : Gives (.recalRetryExpiry p) s fun t =>
      (∃ x, (t.port p).transit = some x ∧ x.lane = l ∧ x.kind = .recal ∧ x.origDir = d) ∧ ((t.port p).lane l).recalDeferred = false ∧ (t.port p).recalRetry = none := by
  let u := s.setPort p { s.port p with recalRetry := none }
  have own : u.port p = { s.port p with recalRetry := none } := State.port_setPort_same ..
  have one : (u.port p).deferredLanes = [l.val] := by
    have same : ∀ k ∈ List.range 4, ((u.port p).lane k).recalDeferred = decide (k = l.val) := fun k m => by
      rw [own]
      exact (only ⟨k, List.mem_range.mp m⟩).trans (decide_eq_decide.mpr (Fin.ext_iff))
    have single : ∀ l : Fin 4, (List.range 4).filter (fun k => decide (k = l.val)) = [l.val] := by decide
    rw [Port.deferredLanes, List.filter_congr same, single]
  have ran : exec (.recalRetryExpiry p) s = .next (u.recalibrate p l) := by
    rw [exec_recalRetryExpiry active due, one]
    rfl
  have transit : (u.port p).transit = none := by rw [own]; exact still
  have dir' : (u.port p).laneDir l = some d := by rw [own]; exact dir
  have may' : u.mayLeave p d = true := by
    have tunnels : u.tunnels = s.tunnels := rfl
    rw [State.mayLeave_congr (by rw [own]) (by rw [own]) (by rw [own]) tunnels d]
    exact may
  have none' : (u.port p).recalRetry = none := by rw [own]
  generalize u = u at *
  obtain ⟨change, -, deferred, -⟩ := State.recalibrate_begun l.isLt dir' transit may'
  have line := State.recalibrate_begins dir' transit may'
  refine Gives.of_eq ran ⟨⟨_, change, rfl, rfl, rfl⟩, deferred, ?_⟩
  exact ((congrArg Port.recalRetry line :).trans (Port.recalBegun_recalRetry ..)).trans none'

theorem recalRetryExpiry_in_transit (active : (s.port p).train.state = .active) (due : s.due (s.port p).recalRetry = true)
    (transit : (s.port p).transit.isSome = true) : Gives (.recalRetryExpiry p) s fun t =>
      (t.port p).transit = (s.port p).transit ∧ (∀ k : Fin 4, ((t.port p).lane k).recalDeferred = ((s.port p).lane k).recalDeferred)
        ∧ (t.port p).recalRetry = if (∃ k : Fin 4, ((s.port p).lane k).recalDeferred = true) then some (s.after 10000000000) else none := by
  let u := s.setPort p { s.port p with recalRetry := none }
  have own : u.port p = { s.port p with recalRetry := none } := State.port_setPort_same ..
  have after : u.after 10000000000 = s.after 10000000000 := rfl
  have listed (k : Nat) : k ∈ (u.port p).deferredLanes ↔ k < 4 ∧ ((s.port p).lane k).recalDeferred = true := by
    rw [own, Port.deferredLanes, List.mem_filter, List.mem_range]
    rfl
  obtain ⟨still, deferred, runs⟩ := State.recalibrates_in_transit p (u.port p).deferredLanes u (fun k m => ((listed k).mp m).1) (by rw [own]; exact transit)
  refine Gives.of_eq (exec_recalRetryExpiry active due) ⟨still.trans (by rw [own]), fun k => (deferred k k.isLt).trans ?_, runs.trans ?_⟩
  · have same : ((u.port p).lane k).recalDeferred = ((s.port p).lane k).recalDeferred := by rw [own]; rfl
    rw [same]
    cases h : ((s.port p).lane k).recalDeferred with
    | true => exact Bool.or_true _
    | false =>
      rw [Bool.or_false, decide_eq_false_iff_not, listed, h]
      exact fun no => Bool.false_ne_true no.2
  · have none' : (u.port p).recalRetry = none := by rw [own]
    have some' : (u.port p).deferredLanes ≠ [] ↔ ∃ k : Fin 4, ((s.port p).lane k).recalDeferred = true := by
      refine ⟨fun some' => ?_, fun ⟨k, h⟩ => List.ne_nil_of_mem ((listed k).mpr ⟨k.isLt, h⟩)⟩
      obtain ⟨k, m⟩ := List.exists_mem_of_ne_nil _ some'
      obtain ⟨hk, h⟩ := (listed k).mp m
      exact ⟨⟨k, hk⟩, h⟩
    rw [none', after, ← ite_not]
    exact if_congr some' rfl rfl

end

/-! ## EQ on a lane alone has ended (R43, R44, R47, R75) -/

/-- What a lane keeps of its last EQ: the estimate, the temperature and the sets. -/
def Lane.outcome (v : Lane) : Nat × Int × List EqSet := (v.errLog2, v.eqTemp, v.sets)

theorem Lane.outcome_load (v : Lane) (r : Rate) (d : Dir) : (v.load r d).outcome = v.outcome := by
  unfold Lane.load
  split
  · split_ifs <;> rfl
  · rfl

theorem Lane.hasSet_of_outcome {v w : Lane} (h : v.outcome = w.outcome) (r : Rate) (d : Dir) : v.hasSet r d = w.hasSet r d := by
  have sets : v.sets = w.sets := congrArg (fun o => o.2.2) h
  simp only [Lane.hasSet, sets]

theorem Lane.hasSet_putSet (v : Lane) (e : EqSet) : (v.putSet e).hasSet e.rate e.dir = true := by simp [Lane.hasSet, Lane.putSet]

theorem Lane.hasSet_save (v : Lane) (r : Rate) (d : Dir) (rx : BitVec 64) : (v.save r d rx).hasSet r d = true := by
  cases d
  · exact Lane.hasSet_putSet v { rate := r, dir := .outb, pre := v.pre, post := v.post }
  · exact Lane.hasSet_putSet v { rate := r, dir := .inb, rx := rx }

/-- A set of one direction is not lost to one of the other. -/
theorem Lane.hasSet_save_other {v : Lane} {r : Rate} (h : v.hasSet r .outb = true) (rx : BitVec 64) : (v.save r .inb rx).hasSet r .outb = true := by
  simp only [Lane.hasSet, List.any_eq_true, Bool.and_eq_true, decide_eq_true_eq] at h
  obtain ⟨e, m, rate, dir⟩ := h
  have kept : e ∈ (v.save r .inb rx).sets :=
    List.mem_append_left _ (List.mem_filter.mpr ⟨m, by simp [dir]⟩)
  simp only [Lane.hasSet, List.any_eq_true, Bool.and_eq_true, decide_eq_true_eq]
  exact ⟨e, kept, rate, dir⟩

/-- R43, R47: a lane whose EQ has ended: the sets of the directions that passed are stored. -/
def Lane.equalised (v : Lane) (r : Rate) (out inn : Bool) (rx : BitVec 64) (err : Nat) : Lane :=
  let v := if out then v.save r .outb 0 else v
  let v := if inn then v.save r .inb rx else v
  { v with errLog2 := err }

theorem Lane.eqTemp_save (v : Lane) (r : Rate) (d : Dir) (rx : BitVec 64) : (v.save r d rx).eqTemp = v.eqTemp := by
  cases d <;> rfl

theorem Lane.equalised_keeps (v : Lane) (r : Rate) (out inn : Bool) (rx : BitVec 64) (err : Nat) :
    (v.equalised r out inn rx err).errLog2 = err ∧ (v.equalised r out inn rx err).eqTemp = v.eqTemp
      ∧ (out = true → (v.equalised r out inn rx err).hasSet r .outb = true) ∧ (inn = true → (v.equalised r out inn rx err).hasSet r .inb = true) := by
  refine ⟨rfl, ?_, fun h => ?_, fun h => ?_⟩
  · change (if inn then Lane.save _ r .inb rx else _).eqTemp = _
    split_ifs <;> simp only [Lane.eqTemp_save]
  · subst h
    change (if inn then (v.save r .outb 0).save r .inb rx else v.save r .outb 0).hasSet r .outb = true
    split_ifs
    · exact Lane.hasSet_save_other (v.hasSet_save r .outb 0) rx
    · exact v.hasSet_save r .outb 0
  · subst h
    exact Lane.hasSet_save _ r .inb rx

/-- R47, R49: EQ on the lane of a change has ended, and what it gave is stored. -/
def State.eqStored (s : State) (p l : Nat) (out inn : Bool) (err : Nat) : State :=
  ((s.eqNoted p fun k => decide (k = l)).tickFree).modPort p fun x => x.modLane l fun v =>
    v.equalised x.train.rateSel out inn (Config.rxState s.freeCtr) err

/-- R49: a port on which the end of an EQ of a lane is noted. -/
def Port.noted (x : Port) (l : Nat) (due : Option Time) : Port :=
  let upd (k : Nat) (v : Lane) : Lane := if k = l then { v with eqTemp := x.temp, recalDue := due } else v
  { x with lane0 := upd 0 x.lane0, lane1 := upd 1 x.lane1, lane2 := upd 2 x.lane2, lane3 := upd 3 x.lane3 }

theorem State.port_eqStored (s : State) (p l : Nat) (out inn : Bool) (err : Nat) : ∃ due, (s.eqStored p l out inn err).port p =
    ((s.port p).noted l due).modLane l fun v => v.equalised (s.port p).train.rateSel out inn (Config.rxState s.freeCtr) err := by
  refine ⟨if (s.port p).link.recalHours = 0 then none else some (s.after ((s.port p).link.recalHours * 3600000000000)), ?_⟩
  have noted : ((s.eqNoted p fun k => decide (k = l)).tickFree).port p =
      (s.port p).noted l (if (s.port p).link.recalHours = 0 then none else some (s.after ((s.port p).link.recalHours * 3600000000000))) := by
    rw [State.port_tickFree]
    unfold State.eqNoted
    rw [State.port_modPort_same]
    simp only [Port.noted, decide_eq_true_eq]
  unfold State.eqStored
  rw [State.port_modPort_same, noted]
  rfl

/-- R43, R47, R49: what a lane keeps of an EQ that has ended. -/
def Lane.EqKept (v : Lane) (r : Rate) (out inn : Bool) (err : Nat) (temp : Int) : Prop :=
  v.errLog2 = err ∧ v.eqTemp = temp ∧ (out = true → v.hasSet r .outb = true) ∧ (inn = true → v.hasSet r .inb = true)

theorem Lane.EqKept.congr {v w : Lane} {r : Rate} {out inn : Bool} {err : Nat} {temp : Int} (h : v.EqKept r out inn err temp)
    (same : w.outcome = v.outcome) : w.EqKept r out inn err temp := by
  obtain ⟨errs, temps, outs, inns⟩ := h
  refine ⟨(congrArg Prod.fst same).trans errs, (congrArg (fun o => o.2.1) same).trans temps, fun h => ?_, fun h => ?_⟩
  · rw [Lane.hasSet_of_outcome same, outs h]
  · rw [Lane.hasSet_of_outcome same, inns h]

/-- What the end of an EQ leaves of its port. -/
theorem State.eqStored_keeps (s : State) (p : Nat) {l : Nat} (small : l < 4) (out inn : Bool) (err : Nat) :
    ((s.eqStored p l out inn err).port p).transit = (s.port p).transit ∧ ((s.eqStored p l out inn err).port p).lockRec = (s.port p).lockRec
      ∧ ((s.eqStored p l out inn err).port p).lockOut = (s.port p).lockOut ∧ ((s.eqStored p l out inn err).port p).exclRec = (s.port p).exclRec
      ∧ (((s.eqStored p l out inn err).port p).lane l).EqKept (s.port p).train.rateSel out inn err (s.port p).temp := by
  obtain ⟨due, own⟩ := s.port_eqStored p l out inn err
  have noted : (((s.port p).noted l due).lane l).eqTemp = (s.port p).temp := by
    unfold Port.noted
    interval_cases l <;> rfl
  rw [own]
  simp only [Port.modLane_transit, Port.modLane_lockRec, Port.modLane_lockOut, Port.modLane_exclRec, Port.lane_modLane_same _ _ small]
  refine ⟨rfl, rfl, rfl, rfl, ?_⟩
  obtain ⟨errs, temps, outs, inns⟩ := (((s.port p).noted l due).lane l).equalised_keeps (s.port p).train.rateSel out inn (Config.rxState s.freeCtr) err
  exact ⟨errs, temps.trans noted, outs, inns⟩

/-- R75: what a lane that comes back leaves of its port. -/
theorem State.comeBack_keeps {s : State} {p : Nat} {t : Transit} (transit : (s.port p).transit = some t) (l : Nat) (d : Dir) :
    ((s.comeBack p l d).port p).transit = some { t with phase := .awaitJoin, origDir := d, marker := decide (d = .outb) }
      ∧ ((s.comeBack p l d).port p).lockRec = (s.port p).lockRec ∧ ((s.comeBack p l d).port p).lockOut = (s.port p).lockOut
      ∧ ((s.comeBack p l d).port p).exclRec = (s.port p).exclRec
      ∧ ∀ k, (((s.comeBack p l d).port p).lane k).outcome = ((s.port p).lane k).outcome := by
  let u := s.modPort p fun (x : Port) =>
    ({ x with transit := x.transit.map fun (t : Transit) => { t with phase := .awaitJoin, origDir := d, marker := decide (d = Dir.outb) } }).modLane l fun v =>
      v.load x.train.rateSel d
  have own : u.port p = ({ s.port p with transit := some { t with phase := .awaitJoin, origDir := d, marker := decide (d = Dir.outb) } } : Port).modLane l
      fun v => v.load (s.port p).train.rateSel d := by
    rw [State.port_modPort_same, transit]
    rfl
  have kept : u.LinesKept (s.comeBack p l d) := .ite (u.joinOut_linesKept ..) (.refl u)
  generalize s.comeBack p l d = w at *
  rw [kept.transit, kept.lockRec, kept.lockOut, kept.exclRec, own]
  simp only [Port.modLane_transit, Port.modLane_lockRec, Port.modLane_lockOut, Port.modLane_exclRec, true_and]
  intro k
  rw [kept.lane p (g := Lane.outcome) (fun _ => rfl), own]
  exact Port.modLane_keeps _ _ (fun v => v.outcome_load ..) l k

/-- R43, R55: a direction passed EQ: its estimate passes, and over a cable of fixed direction it is the one that the lane left. -/
def Port.eqPassed (x : Port) (t : Transit) (d : Dir) (err : Nat) : Bool := errPasses x.fec err && (x.pd.cable.dirAgile || decide (t.origDir = d))

/-- R44: a lane is locked to direction `d`, and told as such. -/
def State.laneLocked (s : State) (p l : Nat) (d : Dir) : State :=
  ((s.modPort p fun x => { x with lockRec := x.lockRec ||| laneBit l
                                  lockOut := if d = .outb then x.lockOut ||| laneBit l else x.lockOut &&& ~~~(laneBit l) }).event (evPort p 2)).trace
    (agentPort p) 0 p

/-- R44: a lane is excluded, and told as such; its change ends. -/
def State.laneExcluded (s : State) (p l : Nat) : State :=
  (((s.modPort p fun x => { x with exclRec := x.exclRec ||| laneBit l }).event (evPort p 2)).trace (agentPort p) 0 p).settled p

theorem State.port_laneLocked (s : State) (p l : Nat) (d : Dir) : (s.laneLocked p l d).port p =
    { s.port p with lockRec := (s.port p).lockRec ||| laneBit l
                    lockOut := if d = .outb then (s.port p).lockOut ||| laneBit l else (s.port p).lockOut &&& ~~~(laneBit l) } := by
  unfold State.laneLocked
  rw [State.port_trace, State.port_event, State.port_modPort_same]

theorem State.laneExcluded_keeps (s : State) (p l : Nat) : ((s.laneExcluded p l).port p).transit = none
    ∧ ((s.laneExcluded p l).port p).exclRec = (s.port p).exclRec ||| laneBit l ∧ ((s.laneExcluded p l).port p).lockRec = (s.port p).lockRec
    ∧ ∀ k, (((s.laneExcluded p l).port p).lane k).outcome = ((s.port p).lane k).outcome := by
  let u := ((s.modPort p fun x => { x with exclRec := x.exclRec ||| laneBit l }).event (evPort p 2)).trace (agentPort p) 0 p
  have told : u.port p = { s.port p with exclRec := (s.port p).exclRec ||| laneBit l } := by
    rw [State.port_trace, State.port_event, State.port_modPort_same]
  have ended : (u.modPort p fun x => { x with transit := none }).port p = { s.port p with exclRec := (s.port p).exclRec ||| laneBit l, transit := none } := by
    rw [State.port_modPort_same, told]
  have kept : (u.modPort p fun x => { x with transit := none }).LinesKept (s.laneExcluded p l) := u.settled_linesKept p
  refine ⟨u.settled_transit p, ?_, ?_, fun k => ?_⟩
  · rw [kept.exclRec, ended]
  · rw [kept.lockRec, ended]
  · rw [kept.lane p (g := Lane.outcome) (fun _ => rfl), ended]
    rfl

theorem lockOut_locked {m : BitVec 4} {l : Nat} (small : l < 4) (d : Dir) :
    (if (if d = .outb then Dir.inb else .outb) = .outb then m ||| laneBit l else m &&& ~~~(laneBit l)).getLsbD l = decide (d = .inb) := by
  revert m
  interval_cases l <;> cases d <;> decide

theorem other_eq_outb (d : Dir) : decide ((if d = .outb then Dir.inb else .outb) = .outb) = decide (d = .inb) := by
  cases d <;> rfl

/-- R44, R75: where the lane of a change goes when its EQ has ended: back to the direction it left, to the other alone, or nowhere. -/
def State.eqResolved (u : State) (p : Nat) (x : Transit) (left other : Bool) : State :=
  let od : Dir := if x.origDir = .outb then .inb else .outb
  if left then u.comeBack p x.lane x.origDir
  else if other then (u.laneLocked p x.lane od).comeBack p x.lane od
  else u.laneExcluded p x.lane

theorem State.eqResolved_left (u : State) (p : Nat) (x : Transit) (other : Bool) : u.eqResolved p x true other = u.comeBack p x.lane x.origDir := rfl

theorem State.eqResolved_other (u : State) (p : Nat) (x : Transit) : u.eqResolved p x false true =
    (u.laneLocked p x.lane (if x.origDir = .outb then .inb else .outb)).comeBack p x.lane (if x.origDir = .outb then .inb else .outb) := rfl

theorem State.eqResolved_neither (u : State) (p : Nat) (x : Transit) : u.eqResolved p x false false = u.laneExcluded p x.lane := rfl

section
variable {u : State} {p : Nat} {x : Transit} (transit : (u.port p).transit = some x)
include transit

theorem State.eqResolved_returns (other : Bool) :
    ((u.eqResolved p x true other).port p).transit = some { x with phase := .awaitJoin, marker := decide (x.origDir = .outb) }
      ∧ ((u.eqResolved p x true other).port p).lockRec = (u.port p).lockRec ∧ ((u.eqResolved p x true other).port p).exclRec = (u.port p).exclRec := by
  obtain ⟨back, lockRec, -, exclRec, -⟩ := State.comeBack_keeps transit x.lane x.origDir
  rw [u.eqResolved_left]
  exact ⟨back, lockRec, exclRec⟩

theorem State.eqResolved_locks (small : x.lane < 4) :
    ((u.eqResolved p x false true).port p).transit =
        some { x with phase := .awaitJoin, origDir := if x.origDir = .outb then .inb else .outb, marker := decide (x.origDir = .inb) }
      ∧ ((u.eqResolved p x false true).port p).lockRec = (u.port p).lockRec ||| laneBit x.lane
      ∧ ((u.eqResolved p x false true).port p).lockOut.getLsbD x.lane = decide (x.origDir = .inb) := by
  let od : Dir := if x.origDir = .outb then .inb else .outb
  have own := u.port_laneLocked p x.lane od
  have ran : u.eqResolved p x false true = (u.laneLocked p x.lane od).comeBack p x.lane od := u.eqResolved_other p x
  obtain ⟨back, lockRec, lockOut, -, -⟩ := State.comeBack_keeps (s := u.laneLocked p x.lane od) (p := p) (t := x) (by rw [own]; exact transit) x.lane od
  have marker : decide (od = .outb) = decide (x.origDir = .inb) := other_eq_outb x.origDir
  rw [ran, lockRec, lockOut, own]
  exact ⟨back.trans (by rw [marker]), rfl, lockOut_locked small x.origDir⟩

theorem State.eqResolved_outcome (left other : Bool) (k : Nat) :
    (((u.eqResolved p x left other).port p).lane k).outcome = ((u.port p).lane k).outcome := by
  have back (d : Dir) : (((u.comeBack p x.lane d).port p).lane k).outcome = ((u.port p).lane k).outcome := by
    obtain ⟨-, -, -, -, outcome⟩ := State.comeBack_keeps transit x.lane d
    exact outcome k
  have locked (d : Dir) : (((u.laneLocked p x.lane d).port p).lane k).outcome = ((u.port p).lane k).outcome := by
    rw [u.port_laneLocked]
    rfl
  have locks (d : Dir) : ((((u.laneLocked p x.lane d).comeBack p x.lane d).port p).lane k).outcome = (((u.laneLocked p x.lane d).port p).lane k).outcome := by
    obtain ⟨-, -, -, -, outcome⟩ :=
      State.comeBack_keeps (s := u.laneLocked p x.lane d) (p := p) (t := x) (by rw [u.port_laneLocked]; exact transit) x.lane d
    exact outcome k
  obtain ⟨-, -, -, excluded⟩ := u.laneExcluded_keeps p x.lane
  cases left with
  | true => rw [u.eqResolved_left, back]
  | false =>
    cases other with
    | true => rw [u.eqResolved_other, locks, locked]
    | false => rw [u.eqResolved_neither, excluded]

end

section
variable {p : Fin 12} {outErr inErr : Fin 256} {x : Transit} {s : State}

theorem exec_recalDone (transit : (s.port p).transit = some x) (phase : x.phase = .eq) : exec (.recalDone p outErr inErr) s = .next
    (let out := (s.port p).eqPassed x .outb outErr
     let inn := (s.port p).eqPassed x .inb inErr
     (s.eqStored p x.lane out inn inErr).eqResolved p x (if x.origDir = .outb then out else inn) (if x.origDir = .outb then inn else out)) := by
  change execRecalDone p outErr inErr s = _
  simp only [execRecalDone, transit, phase, ne_eq, not_true_eq_false, if_false]
  exact ((apply_ite Host.Outcome.next ..).trans (if_congr Iff.rfl rfl (apply_ite Host.Outcome.next ..))).symm

theorem recalDone_gives (transit : (s.port p).transit = some x) (phase : x.phase = .eq) (small : x.lane < 4) : Gives (.recalDone p outErr inErr) s fun t =>
      let agile := (s.port p).pd.cable.dirAgile
      let out := errPasses (s.port p).fec outErr && (agile || decide (x.origDir = .outb))
      let inn := errPasses (s.port p).fec inErr && (agile || decide (x.origDir = .inb))
      ((if x.origDir = .outb then out else inn) = true →
          (t.port p).transit = some { x with phase := .awaitJoin, marker := decide (x.origDir = .outb) }
            ∧ (t.port p).lockRec = (s.port p).lockRec ∧ (t.port p).exclRec = (s.port p).exclRec)
        ∧ ((if x.origDir = .outb then out else inn) = false → (if x.origDir = .outb then inn else out) = true →
          (t.port p).transit = some { x with phase := .awaitJoin, origDir := if x.origDir = .outb then .inb else .outb, marker := decide (x.origDir = .inb) }
            ∧ (t.port p).lockRec = (s.port p).lockRec ||| laneBit x.lane ∧ (t.port p).lockOut.getLsbD x.lane = decide (x.origDir = .inb))
        ∧ (out = false → inn = false → (t.port p).exclRec = (s.port p).exclRec ||| laneBit x.lane ∧ (t.port p).lockRec = (s.port p).lockRec ∧ (t.port p).transit = none)
        ∧ ((t.port p).lane x.lane).errLog2 = inErr ∧ ((t.port p).lane x.lane).eqTemp = (s.port p).temp
        ∧ (out = true → ((t.port p).lane x.lane).hasSet (s.port p).train.rateSel .outb = true)
        ∧ (inn = true → ((t.port p).lane x.lane).hasSet (s.port p).train.rateSel .inb = true) := by
  let out := (s.port p).eqPassed x .outb outErr
  let inn := (s.port p).eqPassed x .inb inErr
  let left := if x.origDir = .outb then out else inn
  let other := if x.origDir = .outb then inn else out
  have ran : exec (.recalDone p outErr inErr) s = .next ((s.eqStored p x.lane out inn inErr).eqResolved p x left other) := exec_recalDone transit phase
  obtain ⟨transit', lockRec, -, exclRec, eqKept⟩ := s.eqStored_keeps p small out inn inErr
  rw [transit] at transit'
  generalize s.eqStored p x.lane out inn inErr = u at *
  obtain ⟨errs, temps, outs, inns⟩ := eqKept.congr (State.eqResolved_outcome transit' left other x.lane)
  refine Gives.of_eq ran ⟨fun passed => ?_, fun failed passed => ?_, fun noOut noIn => ?_, errs, temps, outs, inns⟩
  · rw [show left = true from passed, ← lockRec, ← exclRec]
    exact State.eqResolved_returns transit' other
  · rw [show left = false from failed, show other = true from passed, ← lockRec]
    exact State.eqResolved_locks transit' small
  · have neither : left = false ∧ other = false := by
      simp only [left, other, show out = false from noOut, show inn = false from noIn, ite_self, and_self]
    rw [neither.1, neither.2, ← lockRec, ← exclRec, u.eqResolved_neither]
    obtain ⟨gone, excluded, unlocked, -⟩ := u.laneExcluded_keeps p x.lane
    exact ⟨excluded, unlocked, gone⟩

/-! ## Bad training blocks (R39, R75) -/

theorem tbReceived_bad {l : Fin 4} {b : List Byte} {err : Fin 256} (active : (s.port p).train.state = .active) (transit : (s.port p).transit = some x)
    (phase : x.phase = .eq) (lane : x.lane = l.val) (bad : tbGood b = false ∨ tbTrainId b ≠ (s.port p).train.trainId) : Gives (.tbReceived p l b err) s fun t =>
      t = s.modPort p fun y => y.modLane l fun v => { v with trainErr := v.trainErr + 1 } := by
  have recal : (s.recalLane p).filter (fun y => decide (y.lane = l.val)) = some x := by
    simp [State.recalLane, State.linkUp_iff.mpr active, transit, phase, lane]
  have refused : (!tbGood b || decide (tbTrainId b ≠ (s.port p).train.trainId)) = true := by
    obtain h | h := bad <;> simp [h]
  have ran : exec (.tbReceived p l b err) s = .next (s.modPort p fun y => y.modLane l fun v => { v with trainErr := v.trainErr + 1 }) := by
    change execTbReceived p l b err s = _
    simp only [execTbReceived, recal, Option.isNone_some, Bool.and_false, Bool.false_eq_true, if_false]
    exact if_pos refused
  exact Gives.of_eq ran rfl

end

/-- Settles O43: each clause is what its lemma above gives. -/
theorem recalibrationEvents : Obligations.RecalibrationEvents := by
  refine ⟨?period, ?down, ?up, ?retry, ?deferred, ?done, ?block, ?idle⟩
  case period => exact fun p l d s active due dir => recalPeriodExpiry_gives active due dir
  case down => exact fun p temp s down => tempDrift_down down
  case up => exact fun p temp s active => tempDrift_up active
  case retry => exact fun p l d s active due still only dir may => recalRetryExpiry_begins active due still only dir may
  case deferred => exact fun p s active due transit => recalRetryExpiry_in_transit active due transit
  case done => exact fun p outErr inErr x s transit phase small => recalDone_gives transit phase small
  case block => exact fun p b err l x s active transit phase lane bad => tbReceived_bad active transit phase lane bad
  case idle =>
    intro p outErr inErr s still
    change execRecalDone p outErr inErr s = _
    simp only [execRecalDone, still]

end Sys2Proof.Machine
end

section
/-! PROOFS. What native use, its end and the entry to fallback leave of the lines: DisplayPort, device functions, VDMs and notices (R182 to R187, R198, R199, R228, R231). -/

namespace Sys2Proof.Machine

theorem State.portNotice_linesKept (s : State) (p code : Nat) (d : List Byte) : s.LinesKept (s.portNotice p code d) :=
  .of_eq (s.portNotice_clock ..) (s.portNotice_ports ..)

theorem State.modeNotice_linesKept (s : State) (p code svid pos : Nat) : s.LinesKept (s.modeNotice p code svid pos) :=
  s.portNotice_linesKept ..

/-! ## The end of native use (R184, R192, R198, R199) -/

theorem State.dpEnd_linesKept (s : State) (p : Nat) : s.LinesKept (s.dpEnd p) := by
  have torn : s.LinesKept (match s.dpTid p with
      | some tid => s.teardown tid 5
      | none => s) := by
    split
    · exact s.teardown_linesKept ..
    · exact .refl s
  simp only [State.dpEnd]
  exact .ite (((torn.trans (LinesKept.modPd _ p _)).trans (State.portNotice_linesKept ..)).trans (State.modeNotice_linesKept ..)) (.refl s)

theorem State.setFn_linesKept (s : State) (n : Nat) (f : Fn) : s.LinesKept (s.setFn n f) := .of_eq rfl rfl

theorem State.presentDiag_linesKept (s : State) (p : Nat) : s.LinesKept (s.presentDiag p) := by
  simp only [State.presentDiag]
  split
  · exact .ite (.refl s) (s.setFn_linesKept ..)
  · exact .refl s

theorem State.presentDiags_linesKept (s : State) (skip : Nat) : s.LinesKept (s.presentDiags skip) := by
  unfold State.presentDiags
  exact LinesKept.foldl (fun u p => .ite (u.presentDiag_linesKept p) (.refl u)) _ s

theorem State.devNotice_linesKept (s : State) (n code : Nat) (d : List Byte) : s.LinesKept (s.devNotice n code d) := by
  simp only [State.devNotice]
  split <;> exact .of_eq (by simp) (by simp)

theorem State.endWake_linesKept (s : State) (n : Nat) (st : Status) : s.LinesKept (s.endWake n st) :=
  (s.setFn_linesKept ..).trans (State.completeOpt_linesKept ..)

theorem State.devDetach_linesKept (s : State) (n : Nat) : s.LinesKept (s.devDetach n) := by
  unfold State.devDetach
  refine .ite (.refl s) ((((s.endWake_linesKept n _).trans (LinesKept.foldl ?_ _ _)).trans (State.setFn_linesKept ..)).trans (State.devNotice_linesKept ..))
  exact fun u e => (u.stopEp_linesKept e _ _ _).trans (State.modEp_linesKept ..)

theorem State.portDevices_linesKept (s : State) (p : Nat) : s.LinesKept (s.portDevices p) := by
  unfold State.portDevices
  refine LinesKept.foldl (fun u n => ?_) _ s
  have released := ((u.devDetach_linesKept n).trans (State.setFn_linesKept _ n {})).trans (State.presentDiags_linesKept _ p)
  exact .ite (.ite released (u.devDetach_linesKept n)) (.refl u)

theorem State.discoveryEnd_linesKept (s : State) (p : Nat) : s.LinesKept (s.discoveryEnd p) := by
  unfold State.discoveryEnd State.endRetry
  exact ((LinesKept.modPd s p _).trans (LinesKept.modPd _ p _)).trans (State.completeOpt_linesKept ..)

/-! ## The entry to fallback (R182, R184, R228) -/

theorem State.askVdm_linesKept (s : State) (p : Nat) (step : Disco) (sop svid pos cmd : Nat) (objs : List Byte) :
    s.LinesKept (s.askVdm p step sop svid pos cmd objs) := by
  have asked : s.LinesKept ((s.sendVdm p sop svid pos cmd objs).modPd p fun d => { d with disco := step }) := (s.send_linesKept _).trans (LinesKept.modPd _ p _)
  unfold State.askVdm
  exact .ite (asked.trans (LinesKept.modPd _ p _)) (asked.trans (LinesKept.modPd _ p _))

theorem State.nativeUses_linesKept (s : State) (p : Nat) : s.LinesKept (s.nativeUses p) := by
  simp only [State.nativeUses]
  exact .ite (.ite (s.askVdm_linesKept ..) (.refl s)) (.ite (s.presentDiag_linesKept p) (.refl s))

theorem State.fallback_linesKept (s : State) (p cause : Nat) : s.LinesKept (s.fallback p cause) := by
  have orphans (u : State) : u.LinesKept (if cause = 2 then u.notJayth p else u) := .ite (u.teardowns_linesKept _ 7) (.refl u)
  unfold State.fallback
  exact (((LinesKept.modPd s p _).trans (orphans _)).trans (State.trace_linesKept ..)).trans (State.nativeUses_linesKept ..)

theorem State.sendExitJayth_linesKept (s : State) (p : Nat) : s.LinesKept (s.sendExitJayth p) :=
  (s.send_linesKept _).trans (State.modeNotice_linesKept ..)

end Sys2Proof.Machine
end

section
/-! PROOFS. The training of a Jayth link: its start, its training blocks, the time limits of its states, and its idles (R38 to R46, R53). -/

namespace Sys2Proof.Machine

/-! ## Training starts (R37, R38) -/

/-- A field of a port that no change of a lane touches is not touched by training blocks. -/
theorem State.sendTb_port {α : Type} {g : Port → α} (lane : ∀ x l f, g (x.modLane l f) = g x) (s : State) (p : Nat) (m : BitVec 4) (o : Nat → TbOut) :
    g ((s.sendTb p m o).port p) = g (s.port p) := by
  rw [State.sendTb_eq]
  induction lanesOf m generalizing s with
  | nil => rfl
  | cons l ls ih =>
    refine (ih _).trans ?_
    unfold State.sendTbOn
    rw [State.port_modPort_same, lane, State.port_send]

theorem State.startDetect_pd (s : State) (p : Nat) : ((s.startDetect p).port p).pd = (s.port p).pd := by
  rw [State.startDetect_eq, State.announce, State.sendTb_port (g := Port.pd) (fun x l f => x.modLane_pd l f), State.port_modPort_same, State.port_enter]
  rfl

theorem State.discoveryEnd_mode (s : State) (p : Nat) : ((s.discoveryEnd p).port p).pd.mode = (s.port p).pd.mode := by
  unfold State.discoveryEnd State.endRetry
  rw [State.port_congr (State.completeOpt_ports ..)]
  simp only [State.modPd, State.port_modPort_same]
  rfl

/-- R37, R184: the native uses of a port have ended, and it is in the Jayth mode. -/
def State.inJayth (s : State) (p : Nat) : State :=
  ((((s.dpEnd p).portDevices p).rootDisconnect p).rootOff p false).modPd p fun d => { d with mode := .jayth, fbCause := none }

theorem State.inJayth_linesKept (s : State) (p : Nat) : s.LinesKept (s.inJayth p) := by
  unfold State.inJayth
  exact ((((s.dpEnd_linesKept p).trans (State.portDevices_linesKept ..)).trans (State.rootDisconnect_linesKept ..)).trans (State.rootOff_linesKept ..)).trans
    (LinesKept.modPd _ p _)

theorem State.inJayth_mode (s : State) (p : Nat) : ((s.inJayth p).port p).pd.mode = .jayth := by
  unfold State.inJayth State.modPd
  rw [State.port_modPort_same]

theorem State.enterMode_eq (s : State) (p : Nat) : s.enterMode p = if (s.port p).train.state ≠ .disabled || !(s.port p).pd.mayEnter then s
    else (((s.inJayth p).startDetect p).modeNotice p 0x39 svidJayth 1).discoveryEnd p := by
  unfold State.enterMode State.inJayth
  rfl

section
variable {p : Fin 12} {s : State}

theorem exec_enterModeAck_refused (no : (s.port p).train.state ≠ .disabled ∨ (s.port p).pd.mayEnter = false) : exec (.enterModeAck p) s = .next s := by
  have stays : s.enterMode p = s := by
    rw [State.enterMode_eq]
    refine if_pos ?_
    obtain h | h := no <;> simp [h]
  exact congrArg Host.Outcome.next stays

theorem enterModeAck_gives (disabled : (s.port p).train.state = .disabled) (may : (s.port p).pd.mayEnter = true) : Gives (.enterModeAck p) s fun t =>
      (t.port p).train.state = .detect ∧ (t.port p).train.trainId = (s.port p).train.trainId + 1 ∧ (t.port p).pd.mode = .jayth
        ∧ (t.port p).train.due = some (s.after 100000) := by
  have ran : exec (.enterModeAck p) s = .next ((((s.inJayth p).startDetect p).modeNotice p 0x39 svidJayth 1).discoveryEnd p) := by
    refine congrArg Host.Outcome.next ((s.enterMode_eq p).trans (if_neg ?_))
    simp [disabled, may]
  have native := s.inJayth_linesKept p
  have mode := s.inJayth_mode p
  generalize s.inJayth p = u at *
  have told := (State.modeNotice_linesKept (u.startDetect p) p 0x39 svidJayth 1).trans (State.discoveryEnd_linesKept _ p)
  have notice : ((u.startDetect p).modeNotice p 0x39 svidJayth 1).port p = (u.startDetect p).port p := State.port_congr (State.portNotice_ports ..) p
  have d := u.startDetect_detecting p
  refine Gives.of_eq ran ?_
  rw [told.train, State.discoveryEnd_mode, notice, State.startDetect_pd, d.state, d.trainId, d.due, native.train, native.after]
  exact ⟨rfl, rfl, mode, rfl⟩

/-! ## Training blocks (R39, R41, R42) -/

variable {l : Fin 4} {b : List Byte} {err : Fin 256}

/-- R39: the port takes training blocks on the lane. -/
def Train.takes (t : Train) (l : Nat) : Prop := (1 ≤ t.state.ctorIdx ∧ t.state.ctorIdx ≤ 9) ∧ t.idle = false ∧ t.receives.getLsbD l = true

theorem exec_tbReceived (takes : (s.port p).train.takes l) : exec (.tbReceived p l b err) s =
    if !tbGood b || tbTrainId b ≠ (s.port p).train.trainId then
      .next (s.modPort p fun x => x.modLane l fun v => { v with trainErr := v.trainErr + 1 })
    else if tbType b = 0x51 then .next (s.attemptFails p false) else .next (s.tbStep p l b err) := by
  obtain ⟨⟨low, high⟩, idle, receives⟩ := takes
  have down : s.linkUp p = false := by
    rw [State.linkUp_false_iff]
    intro active
    rw [active] at high
    exact absurd high (by decide)
  have recal : s.recalLane p = none := by simp [State.recalLane, down]
  change execTbReceived p l b err s = _
  simp only [execTbReceived, recal, low, high, idle, receives]
  rfl

theorem tbReceived_counts (takes : (s.port p).train.takes l) (bad : tbGood b = false ∨ tbTrainId b ≠ (s.port p).train.trainId) :
    Gives (.tbReceived p l b err) s fun t => t = s.modPort p fun x => x.modLane l fun v => { v with trainErr := v.trainErr + 1 } := by
  refine Gives.of_eq ((exec_tbReceived takes).trans (if_pos ?_)) rfl
  obtain h | h := bad <;> simp [h]

/-- R39, R41: a good block of the present attempt other than FAIL. -/
theorem exec_tbReceived_good (takes : (s.port p).train.takes l) (good : tbGood b = true) (named : tbTrainId b = (s.port p).train.trainId)
    (typ : tbType b ≠ 0x51) : exec (.tbReceived p l b err) s = .next (s.tbStep p l b err) := by
  rw [exec_tbReceived takes, if_neg (by simp [good, named]), if_neg typ]

/-! ## DETECT (R41) -/

theorem State.OnPort.notePeer (p : Nat) (s : State) (b : List Byte) : State.OnPort p s (s.notePeer p b) := by
  unfold State.notePeer
  exact State.OnPort.modPort ..

theorem State.notePeer_train (s : State) (p : Nat) (b : List Byte) :
    ((s.notePeer p b).port p).train.peer = some (tbPeer b) ∧ ((s.notePeer p b).port p).train.peerRateCap = BitVec.ofNat 3 (byteAt b 4) := by
  unfold State.notePeer
  rw [State.port_modPort_same]
  dsimp only
  split_ifs <;> exact ⟨rfl, rfl⟩

/-- R41: the first TB1 is noted: the peer, one good block of its lane, and its tag. -/
def State.tb1Noted (s : State) (p l : Nat) (b : List Byte) (tag : BitVec 8) : State :=
  ((s.notePeer p b).modPort p fun x => x.modLane l fun v => { v with tb1Good := v.tb1Good + 1 }).modTrain p fun t => { t with rxTags := t.rxTags ||| tag }

theorem State.OnPort.tb1Noted (p : Nat) (s : State) (l : Nat) (b : List Byte) (tag : BitVec 8) : State.OnPort p s (s.tb1Noted p l b tag) :=
  ((State.OnPort.notePeer ..).trans (State.OnPort.modPort ..)).trans (State.OnPort.modTrain ..)

theorem State.tb1Noted_train (s : State) (p l : Nat) (b : List Byte) (tag : BitVec 8) :
    ((s.tb1Noted p l b tag).port p).train.peer = some (tbPeer b) ∧ ((s.tb1Noted p l b tag).port p).train.peerRateCap = BitVec.ofNat 3 (byteAt b 4) := by
  unfold State.tb1Noted
  rw [State.port_modTrain, State.port_modPort_same, Port.modLane_train]
  exact s.notePeer_train p b

/-- R41: POLL is entered, the lanes that are locked staying so, and TB1 goes on. -/
def State.polling (s : State) (p : Nat) : State := ((s.enter p .poll).modTrain p fun t => { t with locked := (s.port p).train.locked }).announce p

theorem State.polling_polls (s : State) (p : Nat) :
    ((s.polling p).port p).train = { (s.port p).train with state := .poll, due := some (s.after 100000), rateIdle := false, idle := false }
      ∧ Out.tb p 0 ((s.polling p).tbSent p 0) ∈ (s.polling p).out ∧ Out.tb p 2 ((s.polling p).tbSent p 2) ∈ (s.polling p).out
      ∧ State.OnPort p s (s.polling p) := by
  have train : (((s.enter p .poll).modTrain p fun t => { t with locked := (s.port p).train.locked }).port p).train =
      { (s.port p).train with state := .poll, due := some (s.after 100000), rateIdle := false, idle := false } := by
    rw [State.port_modTrain, State.port_enter]
    rfl
  have onPort : State.OnPort p s ((s.enter p .poll).modTrain p fun t => { t with locked := (s.port p).train.locked }) :=
    (State.OnPort.enter p s .poll).trans (State.OnPort.modTrain ..)
  unfold State.polling
  generalize (s.enter p .poll).modTrain p _ = w at *
  have sends (k : Nat) (on : (5 : BitVec 4).getLsbD k = true) : Out.tb p k ((w.announce p).tbSent p k) ∈ (w.announce p).out := by
    refine w.announce_sends p ?_
    rw [train]
    exact on
  exact ⟨((w.announce_linesKept p).train p).trans train, sends 0 rfl, sends 2 rfl, onPort.trans (State.OnPort.announce ..)⟩

theorem tbReceived_detects (detect : (s.port p).train.state = .detect) (idle : (s.port p).train.idle = false)
    (receives : (s.port p).train.receives.getLsbD l = true) (good : tbGood b = true) (named : tbTrainId b = (s.port p).train.trainId) (typ : tbType b = 0x11) :
    Gives (.tbReceived p l b err) s fun t =>
      (t.port p).train.state = .poll ∧ (t.port p).train.peer = some (tbPeer b) ∧ (t.port p).train.due = some (s.after 100000)
        ∧ (t.port p).train.peerRateCap = BitVec.ofNat 3 (byteAt b 4)
        ∧ Out.tb p 0 (t.tbSent p 0) ∈ t.out ∧ Out.tb p 2 (t.tbSent p 2) ∈ t.out ∧ t = { s with ports := t.ports, out := t.out } := by
  let u := s.modTrain p fun t => { t with locked := t.locked ||| laneBit l }
  let tag : BitVec 8 := BitVec.ofNat 8 (bits (byteAt b 1) 5 4 * 2 ^ (2 * l.val))
  let v := u.tb1Noted p l b tag
  have takes : (s.port p).train.takes l := ⟨by rw [detect]; decide, idle, receives⟩
  have step : s.tbStep p l b err = v.polling p := by
    simp only [State.tbStep, detect, typ]
    rfl
  have ran : exec (.tbReceived p l b err) s = .next (v.polling p) := by
    rw [exec_tbReceived_good takes good named (by rw [typ]; decide), step]
  have noted : (v.port p).train.peer = some (tbPeer b) ∧ (v.port p).train.peerRateCap = BitVec.ofNat 3 (byteAt b 4) := u.tb1Noted_train p l b tag
  have before : State.OnPort p s v := (State.OnPort.modTrain p s _).trans (State.OnPort.tb1Noted ..)
  have after : v.after 100000 = s.after 100000 := by simp only [State.after, State.now, before.clock]
  obtain ⟨train, tb0, tb2, onPort⟩ := v.polling_polls p
  generalize v.polling p = w at *
  generalize v = v at *
  refine Gives.of_eq ran ?_
  rw [train]
  exact ⟨rfl, noted.1, congrArg some after, noted.2, tb0, tb2, (before.trans onPort).frame⟩

/-! ## CONFIG (R42) -/

/-- R39: what is sent does not tell which lanes are locked. -/
theorem State.tbSent_modTrain_locked (s : State) (p k : Nat) (m : BitVec 4) :
    (s.modTrain p fun t => { t with locked := t.locked ||| m }).tbSent p k = s.tbSent p k := by
  simp only [State.tbSent, State.tbBytes, State.port_modTrain]
  rfl

theorem tbReceived_configures (config : (s.port p).train.state = .config) (idle : (s.port p).train.idle = false)
    (receives : (s.port p).train.receives.getLsbD l = true) (good : tbGood b = true) (named : tbTrainId b = (s.port p).train.trainId) (typ : tbType b = 0x22)
    (echo : (b.drop 5).take 2 = ((s.tbSent p l).drop 5).take 2) : Gives (.tbReceived p l b err) s fun t =>
      ((s.port p).train.cfgAcks < 7 → (t.port p).train.state = .config ∧ (t.port p).train.cfgAcks = (s.port p).train.cfgAcks + 1)
        ∧ (7 ≤ (s.port p).train.cfgAcks → (t.port p).train.state = .rate ∧ (t.port p).train.rateIdle = true ∧ (t.port p).train.due = some (s.after 150000))
        ∧ t = { s with ports := t.ports } := by
  let u := s.modTrain p fun t => { t with locked := t.locked ||| laneBit l }
  let v := u.modTrain p fun t => { t with cfgAcks := t.cfgAcks + 1 }
  let w := (v.enter p .rate).modTrain p fun t => { t with rateIdle := true }
  have takes : (s.port p).train.takes l := ⟨by rw [config]; decide, idle, receives⟩
  have train : (v.port p).train = { (s.port p).train with locked := (s.port p).train.locked ||| laneBit l, cfgAcks := (s.port p).train.cfgAcks + 1 } := by
    simp only [v, u, State.port_modTrain]
  have step : s.tbStep p l b err = if 8 ≤ (s.port p).train.cfgAcks + 1 then w else v := by
    have acks : (v.port p).train.cfgAcks = (s.port p).train.cfgAcks + 1 := by rw [train]
    rw [← acks]
    have match' : (b.drop 5).take 2 = ((u.tbSent p l).drop 5).take 2 := by rw [State.tbSent_modTrain_locked]; exact echo
    simp only [State.tbStep, config]
    exact if_pos (by rw [typ]; simpa using match')
  have ran : exec (.tbReceived p l b err) s = .next (if 8 ≤ (s.port p).train.cfgAcks + 1 then w else v) := by
    rw [exec_tbReceived_good takes good named (by rw [typ]; decide), step]
  have only : State.PortsOnly s v := (State.PortsOnly.modPort s p _).trans (State.PortsOnly.modPort ..)
  have only' : State.PortsOnly v w := by
    simp only [w, State.enter_eq]
    exact (State.PortsOnly.modPort ..).trans (State.PortsOnly.modPort ..)
  have rate : (w.port p).train = { ((v.port p).entered .rate (v.after (1000 * stateLimit .rate))).train with rateIdle := true } := by
    simp only [w, State.port_modTrain, State.port_enter]
  have after : v.after (1000 * stateLimit .rate) = s.after 150000 := rfl
  rw [after] at rate
  generalize w = w at *
  generalize v = v at *
  refine Gives.of_eq ran ⟨fun few => ?_, fun many => ?_, ?_⟩
  · rw [if_neg (by omega), train]
    exact ⟨config, rfl⟩
  · rw [if_pos (by omega), rate]
    exact ⟨rfl, rfl, rfl⟩
  · split_ifs
    · exact only.trans only'
    · exact only

end

/-! ## Attempts that fail (R45, R46, R53) -/

/-- From `s` to `t` no more than ports, what was sent, the trace and the event controller has changed. -/
def State.LinkOnly (s t : State) : Prop :=
  t = { s with ports := t.ports, silt := t.silt, freeCtr := t.freeCtr, cluster := t.cluster, power := t.power, out := t.out }

namespace State.LinkOnly

theorem trans {s t u : State} (h : State.LinkOnly s t) (g : State.LinkOnly t u) : State.LinkOnly s u :=
  Eq.trans g (congrArg (fun v : State => { v with ports := u.ports, silt := u.silt, freeCtr := u.freeCtr, cluster := u.cluster, power := u.power, out := u.out }) h)

theorem modTrain (s : State) (p : Nat) (f : Train → Train) : State.LinkOnly s (s.modTrain p f) := rfl

theorem onPort {s t : State} {p : Nat} (h : State.OnPort p s t) : State.LinkOnly s t :=
  (congrArg (fun v : State => { v with ports := t.ports, silt := t.silt, freeCtr := t.freeCtr, cluster := t.cluster, power := t.power, out := t.out }) h.rest :)

theorem trace (s : State) (a g o : Nat) : State.LinkOnly s (s.trace a g o) := State.eq_of_fields

theorem event (s : State) (n : Nat) : State.LinkOnly s (s.event n) := State.eq_of_fields

end State.LinkOnly

theorem Train.fails_addFail (t : Train) (r : Rate) : (t.addFail r).fails r = t.fails r + 1 := by
  cases r <;> rfl

theorem Train.lowered_addFail (t : Train) (r : Rate) : (t.addFail r).lowered = t.lowered := by
  cases r <;> rfl

/-- R45: training in the 1 ms of electrical idle that follows an attempt that failed. -/
def Train.idling (t : Train) (due : Time) : Train := { t with state := .detect, idle := true, due := some due }

theorem Train.fails_idling (t : Train) (due : Time) (r : Rate) : (t.idling due).fails r = t.fails r := by
  cases r <;> rfl

/-- R45: a failure is counted, and told to the terminal where `tell` says so. -/
def State.failNoted (s : State) (p : Nat) (tell : Bool) : State :=
  ((if tell then s.sendTb p (s.port p).train.transmits fun l => { typ := 0x51, target := l } else s).modTrain p fun t =>
    t.addFail (s.port p).attemptRate).trace (agentPort p) 0 p

theorem State.attemptFails_eq (s : State) (p : Nat) (tell : Bool) : s.attemptFails p tell =
    let r := (s.port p).attemptRate
    let v := s.failNoted p tell
    if 3 ≤ (v.port p).train.fails r then
      if r = .j14 then v.trainFailed p .none
      else (v.modTrain p fun t => { t with lowered := some r.lower, state := .detect, idle := true, due := some (v.after 1000000) }).event (evPort p 6)
    else v.modTrain p fun t => t.idling (v.after 1000000) := by
  unfold State.attemptFails State.failNoted
  rfl

theorem State.failNoted_notes (s : State) (p : Nat) (tell : Bool) :
    ((s.failNoted p tell).port p).train = (s.port p).train.addFail (s.port p).attemptRate ∧ (s.failNoted p tell).clock = s.clock
      ∧ State.LinkOnly s (s.failNoted p tell) := by
  have told (b : Bool) : State.OnPort p s (if b then s.sendTb p (s.port p).train.transmits fun l => { typ := 0x51, target := l } else s) :=
    .ite (State.OnPort.sendTb ..) (.refl p s)
  have line (b : Bool) : s.LinesKept (if b then s.sendTb p (s.port p).train.transmits fun l => { typ := 0x51, target := l } else s) :=
    .ite (s.sendTb_linesKept ..) (.refl s)
  unfold State.failNoted
  refine ⟨?_, ?_, ?_⟩
  · rw [State.port_trace, State.port_modTrain, (line tell).train]
  · rw [State.trace_clock]
    exact (told tell).clock
  · exact ((LinkOnly.onPort (told tell)).trans (LinkOnly.modTrain ..)).trans (LinkOnly.trace ..)

/-- R45, R46, R53, R228: training that has ended in FAILED. -/
theorem State.trainFailed_train (s : State) (p : Nat) (cause : LinkCause) : ((s.trainFailed p cause).port p).train =
    { (s.port p).train with state := .failed, due := none, idle := false, rateIdle := false, cause := cause } := by
  unfold State.trainFailed
  rw [(State.fallback_linesKept ..).train, (State.sendExitJayth_linesKept ..).train, State.port_trace, State.port_event, State.port_modTrain]

section
variable (s : State) (p : Nat) (tell : Bool)

/-- R45: the first and the second failure at a rate. -/
theorem State.attemptFails_few (few : (s.port p).train.fails (s.port p).attemptRate < 2) :
    ((s.attemptFails p tell).port p).train = ((s.port p).train.addFail (s.port p).attemptRate).idling (s.after 1000000)
      ∧ State.LinkOnly s (s.attemptFails p tell) := by
  obtain ⟨train, clock, only⟩ := s.failNoted_notes p tell
  rw [State.attemptFails_eq]
  generalize s.failNoted p tell = v at *
  have after : v.after 1000000 = s.after 1000000 := by simp only [State.after, State.now, clock]
  have count : ¬ 3 ≤ (v.port p).train.fails (s.port p).attemptRate := by
    rw [train, Train.fails_addFail]
    omega
  simp only [if_neg count]
  refine ⟨?_, only.trans (LinkOnly.modTrain ..)⟩
  rw [State.port_modTrain, train, after]

/-- R45: the third at a rate above J14. -/
theorem State.attemptFails_lowers (many : 2 ≤ (s.port p).train.fails (s.port p).attemptRate) (high : (s.port p).attemptRate ≠ .j14) :
    ((s.attemptFails p tell).port p).train =
        { ((s.port p).train.addFail (s.port p).attemptRate).idling (s.after 1000000) with lowered := some (s.port p).attemptRate.lower }
      ∧ State.LinkOnly s (s.attemptFails p tell) := by
  obtain ⟨train, clock, only⟩ := s.failNoted_notes p tell
  rw [State.attemptFails_eq]
  generalize s.failNoted p tell = v at *
  have after : v.after 1000000 = s.after 1000000 := by simp only [State.after, State.now, clock]
  have count : 3 ≤ (v.port p).train.fails (s.port p).attemptRate := by
    rw [train, Train.fails_addFail]
    omega
  simp only [if_pos count, if_neg high]
  refine ⟨?_, (only.trans (LinkOnly.modTrain ..)).trans (LinkOnly.event ..)⟩
  rw [State.port_event, State.port_modTrain, train, after]
  rfl

/-- R45, R46: the third at J14. -/
theorem State.attemptFails_ends (many : 2 ≤ (s.port p).train.fails (s.port p).attemptRate) (low : (s.port p).attemptRate = .j14) :
    ((s.attemptFails p tell).port p).train.state = .failed := by
  obtain ⟨train, -, -⟩ := s.failNoted_notes p tell
  rw [State.attemptFails_eq]
  generalize s.failNoted p tell = v at *
  have count : 3 ≤ (v.port p).train.fails (s.port p).attemptRate := by
    rw [train, Train.fails_addFail]
    omega
  simp only [if_pos count, if_pos low, State.trainFailed_train]

end

end Sys2Proof.Machine
end

section
/-! PROOFS. Training of a Jayth link, from SYNC to the ends of its idles, and the events of training (R38 to R46, R53). -/

namespace Sys2Proof.Machine

section
variable {p : Fin 12} {l : Fin 4} {b : List Byte} {err : Fin 256} {s : State}

/-! ## SYNC (R46) -/

/-- What a marker is made of is not touched by training that keeps its lanes, its rate and its FEC. -/
theorem State.modTrain_keepsLine (s : State) (p : Nat) (f : Train → Train) (hf : ∀ t, (f t).transmits = t.transmits) (hr : ∀ t, (f t).rateSel = t.rateSel)
    (hc : ∀ t, (f t).fecSel = t.fecSel) : ((s.modTrain p f).port p).train.transmits = (s.port p).train.transmits
      ∧ ((s.modTrain p f).port p).fec = (s.port p).fec ∧ ∀ k, ((s.modTrain p f).port p).lane k = (s.port p).lane k := by
  rw [State.port_modTrain]
  refine ⟨hf _, ?_, fun k => rfl⟩
  simp only [Port.fec, hr, hc]

/-- R46: the round trip is noted, and operating framing begins with a marker on each outbound lane. -/
def State.framed (s : State) (p rtt : Nat) : State :=
  (s.modTrain p fun t => { t with rtt := rtt, echoSeen := true }).sendMarkers p (lanesOf (s.port p).train.transmits)

theorem State.syncEcho_eq (s : State) (p : Nat) (b : List Byte) : s.syncEcho p b =
    let rtt := (BitVec.ofNat 32 s.now.toNat - BitVec.ofNat 32 (le b 28 4) - BitVec.ofNat 32 (le b 32 4)).toNat
    if (s.port p).train.echoSeen then s else if 10200 < rtt then s.trainFailed p .cableDelay else s.framed p rtt := by
  have on (rtt : Nat) : ((s.modTrain p fun t => { t with rtt := rtt, echoSeen := true }).port p).train.transmits = (s.port p).train.transmits := by
    rw [State.port_modTrain]
    rfl
  simp only [State.syncEcho, State.framed, State.sendMarkers, on]

theorem State.framed_markers (s : State) (p rtt : Nat) (k : Nat) (on : (s.port p).train.transmits.getLsbD k = true) :
    (((s.framed p rtt).port p).lane k).groupTx = ((s.port p).lane k).groupTx + 1
      ∧ Out.marker p k (markerBytes k ((s.port p).lane k).groupTx.toNat (s.port p).fec) ∈ (s.framed p rtt).out := by
  obtain ⟨-, fec, lanes⟩ := s.modTrain_keepsLine p (fun t => { t with rtt := rtt, echoSeen := true }) (fun _ => rfl) (fun _ => rfl) (fun _ => rfl)
  obtain ⟨-, sent, -⟩ := State.sendMarkers_sends p k _ (s.modTrain p fun t => { t with rtt := rtt, echoSeen := true })
    (nodup_lanesOf (s.port p).train.transmits) fun _ h => lt_of_mem_lanesOf h
  rw [fec, lanes] at sent
  exact sent (mem_lanesOf.mpr on)

theorem State.framed_train (s : State) (p rtt : Nat) : ((s.framed p rtt).port p).train = { (s.port p).train with rtt := rtt, echoSeen := true } := by
  unfold State.framed
  rw [(State.sendMarkers_linesKept ..).train, State.port_modTrain]

theorem State.OnPort.framed (p : Nat) (s : State) (rtt : Nat) : State.OnPort p s (s.framed p rtt) :=
  (State.OnPort.modTrain ..).trans (State.OnPort.sendMarkers ..)

theorem tbReceived_syncs (sync : (s.port p).train.state = .sync) (idle : (s.port p).train.idle = false)
    (receives : (s.port p).train.receives.getLsbD l = true) (first : (s.port p).train.echoSeen = false) (good : tbGood b = true)
    (named : tbTrainId b = (s.port p).train.trainId) (typ : tbType b = 0x41) (echo : bitOf (byteAt b 1) 0 = true) :
    let rtt := (BitVec.ofNat 32 s.now.toNat - BitVec.ofNat 32 (le b 28 4) - BitVec.ofNat 32 (le b 32 4)).toNat
    Gives (.tbReceived p l b err) s fun t =>
      (rtt ≤ 10200 → (t.port p).train.rtt = rtt ∧ (t.port p).train.echoSeen = true ∧ (t.port p).train.state = .sync
          ∧ (∀ k : Fin 4, (s.port p).train.transmits.getLsbD k = true → ((t.port p).lane k).groupTx = ((s.port p).lane k).groupTx + 1
            ∧ Out.marker p k (markerBytes k ((s.port p).lane k).groupTx.toNat (s.port p).fec) ∈ t.out)
          ∧ t = { s with ports := t.ports, out := t.out })
        ∧ (10200 < rtt → (t.port p).train.state = .failed ∧ (t.port p).train.cause = .cableDelay) := by
  intro rtt
  let u := s.modTrain p fun t => { t with locked := t.locked ||| laneBit l }
  have takes : (s.port p).train.takes l := ⟨by rw [sync]; decide, idle, receives⟩
  have train : (u.port p).train = { (s.port p).train with locked := (s.port p).train.locked ||| laneBit l } := by
    simp only [u, State.port_modTrain]
  have unseen : (u.port p).train.echoSeen = false := by rw [train]; exact first
  have step : s.tbStep p l b err = u.syncEcho p b := by
    simp only [State.tbStep, sync]
    exact if_pos (by simp [typ, echo])
  have ran : exec (.tbReceived p l b err) s = .next (if 10200 < rtt then u.trainFailed p .cableDelay else u.framed p rtt) := by
    rw [exec_tbReceived_good takes good named (by rw [typ]; decide), step, State.syncEcho_eq]
    simp only [unseen, Bool.false_eq_true, if_false]
    rfl
  obtain ⟨transmits, fec, lanes⟩ := s.modTrain_keepsLine p (fun t => { t with locked := t.locked ||| laneBit l }) (fun _ => rfl) (fun _ => rfl) (fun _ => rfl)
  have before : State.OnPort p s u := State.OnPort.modTrain ..
  change (u.port p).train.transmits = _ at transmits
  change (u.port p).fec = _ at fec
  change ∀ k, (u.port p).lane k = _ at lanes
  generalize u = u at *
  refine Gives.of_eq ran ⟨fun near => ?_, fun far => ?_⟩
  · rw [if_neg (by omega)]
    rw [State.framed_train, train]
    refine ⟨rfl, rfl, sync, fun k on => ?_, (before.trans (State.OnPort.framed ..)).frame⟩
    have sent := u.framed_markers p rtt k (by rw [transmits]; exact on)
    rw [lanes, fec] at sent
    exact sent
  · rw [if_pos far, State.trainFailed_train]
    exact ⟨rfl, rfl⟩

/-! ## Attempts that fail (R45) -/

theorem tbReceived_fails (takes : (s.port p).train.takes l) (good : tbGood b = true) (named : tbTrainId b = (s.port p).train.trainId) (typ : tbType b = 0x51)
    (few : (s.port p).train.fails (s.port p).attemptRate < 2) : Gives (.tbReceived p l b err) s fun t =>
      (t.port p).train.fails (s.port p).attemptRate = (s.port p).train.fails (s.port p).attemptRate + 1 ∧ (t.port p).train.state = .detect
        ∧ (t.port p).train.idle = true ∧ (t.port p).train.due = some (s.after 1000000) ∧ (t.port p).train.lowered = (s.port p).train.lowered := by
  have ran : exec (.tbReceived p l b err) s = .next (s.attemptFails p false) := by
    rw [exec_tbReceived takes, if_neg (by simp [good, named]), if_pos typ]
  refine Gives.of_eq ran ?_
  rw [(s.attemptFails_few p false few).1, Train.fails_idling, Train.fails_addFail]
  exact ⟨rfl, rfl, rfl, rfl, Train.lowered_addFail ..⟩

theorem trainStateTimeout_gives (due : s.due (s.port p).train.due = true) (idle : (s.port p).train.idle = false) : Gives (.trainStateTimeout p) s fun t =>
      let r := (s.port p).attemptRate
      let n := (s.port p).train.fails r
      (n < 2 → (t.port p).train.fails r = n + 1 ∧ (t.port p).train.lowered = (s.port p).train.lowered)
        ∧ (2 ≤ n → r = .j14 → (t.port p).train.state = .failed)
        ∧ (2 ≤ n → r ≠ .j14 → (t.port p).train.lowered = some r.lower)
        ∧ (n < 2 ∨ r ≠ .j14 → (t.port p).train.state = .detect ∧ (t.port p).train.idle = true ∧ (t.port p).train.due = some (s.after 1000000)
            ∧ t = { s with ports := t.ports, silt := t.silt, freeCtr := t.freeCtr, cluster := t.cluster, power := t.power, out := t.out }) := by
  have ran : exec (.trainStateTimeout p) s = .next (s.attemptFails p true) := if_pos (by simp [due, idle])
  refine Gives.of_eq ran ⟨fun few => ?_, fun many low => s.attemptFails_ends p true many low, fun many high => ?_, fun again => ?_⟩
  · rw [(s.attemptFails_few p true few).1, Train.fails_idling, Train.fails_addFail]
    exact ⟨rfl, Train.lowered_addFail ..⟩
  · rw [(s.attemptFails_lowers p true many high).1]
  · obtain few | many := Nat.lt_or_ge ((s.port p).train.fails (s.port p).attemptRate) 2
    · obtain ⟨train, only⟩ := s.attemptFails_few p true few
      rw [train]
      exact ⟨rfl, rfl, rfl, only⟩
    · obtain ⟨train, only⟩ := s.attemptFails_lowers p true many (again.resolve_left (by omega))
      rw [train]
      exact ⟨rfl, rfl, rfl, only⟩

/-! ## The idles end (R40, R45) -/

theorem trainIdleEnd_gives (due : s.due (s.port p).train.due = true) (idle : (s.port p).train.idle = true) : Gives (.trainIdleEnd p) s fun t =>
      (t.port p).train.state = .detect ∧ (t.port p).train.idle = false ∧ (t.port p).train.trainId = (s.port p).train.trainId + 1
        ∧ (t.port p).train.due = some (s.after 100000) ∧ (t.port p).outSet = 5 ∧ (t.port p).inSet = 10
        ∧ (∀ k : Fin 4, ((t.port p).lane k).preset = some 1) ∧ Out.tb p 0 (t.tbSent p 0) ∈ t.out ∧ Out.tb p 2 (t.tbSent p 2) ∈ t.out
        ∧ (∀ j, j ≠ p.val → t.port j = s.port j) ∧ t = { s with ports := t.ports, out := t.out } := by
  have ran : exec (.trainIdleEnd p) s = .next (s.startDetect p) := if_pos (by simp [due, idle])
  have d := s.startDetect_detecting p
  obtain ⟨tb0, tb2⟩ := s.startDetect_sends p
  have onPort := State.OnPort.startDetect p s
  exact Gives.of_eq ran ⟨d.state, d.idle, d.trainId, d.due, d.outSet, d.inSet, fun k => d.preset k, tb0, tb2, onPort.other, onPort.frame⟩

/-- R40: a transmitter at the initial preset of a rate. -/
def Lane.presetFor (v : Lane) (r : Rate) : Lane :=
  { v with pre := (presets.getD (initialPreset r) (0, 0)).1, post := (presets.getD (initialPreset r) (0, 0)).2, preset := some (initialPreset r), reject := false }

theorem State.presetLanes_all (s : State) (p : Nat) : s.presetLanes p 15 = s.modPort p fun x => x.mapLanes fun v => v.presetFor x.train.rateSel := rfl

/-- R40, Table 2-5: the idle of RATE is over, and every transmitter is at the initial preset. -/
def State.rateSet (s : State) (p : Nat) : State := (s.modTrain p fun t => { t with rateIdle := false, locked := 0 }).presetLanes p 15

theorem State.rateSet_port (s : State) (p : Nat) : ((s.rateSet p).port p).train = { (s.port p).train with rateIdle := false, locked := 0 }
    ∧ (∀ k, ((s.rateSet p).port p).lane k = ((s.port p).lane k).presetFor (s.port p).train.rateSel) ∧ State.OnPort p s (s.rateSet p) := by
  unfold State.rateSet
  rw [State.presetLanes_all, State.port_modPort_same, State.port_modTrain]
  exact ⟨rfl, fun k => Port.lane_mapLanes .., (State.OnPort.modTrain ..).trans (State.OnPort.modPort ..)⟩

theorem rateIdleEnd_gives (rate : (s.port p).train.state = .rate) (idle : (s.port p).train.rateIdle = true) : Gives (.rateIdleEnd p) s fun t =>
      (t.port p).train = { (s.port p).train with rateIdle := false, locked := 0 }
        ∧ (∀ k : Fin 4, ((t.port p).lane k).preset = some (initialPreset (s.port p).train.rateSel)
            ∧ (((t.port p).lane k).pre, ((t.port p).lane k).post) = presets.getD (initialPreset (s.port p).train.rateSel) (0, 0))
        ∧ (∀ k : Fin 4, (s.port p).train.transmits.getLsbD k = true → Out.tb p k (t.tbSent p k) ∈ t.out)
        ∧ (∀ j, j ≠ p.val → t.port j = s.port j) ∧ t = { s with ports := t.ports, out := t.out } := by
  have ran : exec (.rateIdleEnd p) s = .next ((s.rateSet p).announce p) := if_pos (by simp [rate, idle])
  obtain ⟨train, lanes, before⟩ := s.rateSet_port p
  generalize s.rateSet p = u at *
  have kept := u.announce_linesKept p
  have onPort := before.trans (State.OnPort.announce p u)
  refine Gives.of_eq ran ⟨(kept.train p).trans train, fun k => ?_, fun k on => u.announce_sends p ?_, onPort.other, onPort.frame⟩
  · rw [kept.lane p (g := Lane.preset) (fun _ => rfl), kept.lane p (g := Lane.pre) (fun _ => rfl), kept.lane p (g := Lane.post) (fun _ => rfl), lanes]
    exact ⟨rfl, rfl⟩
  · rw [train]
    exact on

end

/-- Settles O41: each clause is what its lemma above gives. -/
theorem trainingEvents : Obligations.TrainingEvents := by
  unfold Obligations.TrainingEvents
  refine ⟨?ack, ?refused, ?counts, ?detects, ?configures, ?syncs, ?fails, ?timeout, ?idleEnd, ?rateIdleEnd⟩
  case ack => exact fun _ _ disabled may => enterModeAck_gives disabled may
  case refused => exact fun _ _ no => exec_enterModeAck_refused no
  case counts => exact fun _ _ _ _ _ low high idle receives bad => tbReceived_counts ⟨⟨low, high⟩, idle, receives⟩ bad
  case detects => exact fun _ _ _ _ _ detect idle receives good named typ => tbReceived_detects detect idle receives good named typ
  case configures => exact fun _ _ _ _ _ config idle receives good named typ echo => tbReceived_configures config idle receives good named typ echo
  case syncs => exact fun _ _ _ _ _ sync idle receives first good named typ echo => tbReceived_syncs sync idle receives first good named typ echo
  case fails => exact fun _ _ _ _ _ low high idle receives good named typ few => tbReceived_fails ⟨⟨low, high⟩, idle, receives⟩ good named typ few
  case timeout => exact fun _ _ due idle => trainStateTimeout_gives due idle
  case idleEnd => exact fun _ _ due idle => trainIdleEnd_gives due idle
  case rateIdleEnd => exact fun _ _ rate idle => rateIdleEnd_gives rate idle

end Sys2Proof.Machine
end

section
/-! PROOFS. Slots of the outbound direction: a flit on its lane, scrambled, and what sending it leaves alone (R33 to R35, R57, R64, R68). -/

namespace Sys2Proof.Machine

/-! ## What a slot touches -/

/-- The sender without its place in the stripe and its idle time. -/
def TxState.queues (x : TxState) : TxState := { x with stripe := 0, idleDue := none }

/-- A port without its lanes, its place in the stripe and its idle time. -/
def Port.offSlot (x : Port) : Port := { x with lane0 := {}, lane1 := {}, lane2 := {}, lane3 := {}, tx := x.tx.queues }

/-- From `s` to `t` no more than the lanes of port `p`, its place in the stripe, its idle time, and what was sent, has changed. -/
structure State.OnLanes (p : Nat) (s t : State) : Prop where
  onPort : State.OnPort p s t
  own : (t.port p).offSlot = (s.port p).offSlot

theorem Port.offSlot_modLane (x : Port) (l : Nat) (f : Lane → Lane) : (x.modLane l f).offSlot = x.offSlot := by
  rw [Port.modLane_frame]
  rfl

namespace State.OnLanes

theorem refl (p : Nat) (s : State) : State.OnLanes p s s := ⟨.refl p s, rfl⟩

theorem trans {p : Nat} {s t u : State} (h : State.OnLanes p s t) (g : State.OnLanes p t u) : State.OnLanes p s u :=
  ⟨h.onPort.trans g.onPort, g.own.trans h.own⟩

theorem send (p : Nat) (s : State) (o : Out) : State.OnLanes p s (s.send o) := ⟨.send p s o, rfl⟩

theorem modPort (p : Nat) (s : State) {f : Port → Port} (hf : ∀ x, (f x).offSlot = x.offSlot := by exact fun _ => rfl) :
    State.OnLanes p s (s.modPort p f) := ⟨.modPort p s f, by rw [State.port_modPort_same, hf]⟩

theorem modLane (p : Nat) (s : State) (l : Nat) (f : Lane → Lane) : State.OnLanes p s (s.modPort p fun x => x.modLane l f) :=
  modPort p s fun x => x.offSlot_modLane l f

theorem sendMarker (p : Nat) (s : State) (l : Nat) : State.OnLanes p s (s.sendMarker p l) := by
  unfold State.sendMarker
  exact (send p s _).trans (modLane ..)

theorem armIdle (p : Nat) (s : State) : State.OnLanes p s (s.armIdle p) := by
  unfold State.armIdle
  exact modPort p s

section
variable {p : Nat} {s t : State} (h : State.OnLanes p s t)
include h

theorem outSet : (t.port p).outSet = (s.port p).outSet := (congrArg Port.outSet h.own :)
theorem ctrl : (t.port p).tx.ctrl = (s.port p).tx.ctrl := (congrArg (fun x : Port => x.tx.ctrl) h.own :)
theorem resend : (t.port p).tx.resend = (s.port p).tx.resend := (congrArg (fun x : Port => x.tx.resend) h.own :)
theorem unacked : (t.port p).tx.unacked = (s.port p).tx.unacked := (congrArg (fun x : Port => x.tx.unacked) h.own :)
theorem seqNext : (t.port p).tx.seqNext = (s.port p).tx.seqNext := (congrArg (fun x : Port => x.tx.seqNext) h.own :)
theorem asleep : (t.port p).tx.asleep = (s.port p).tx.asleep := (congrArg (fun x : Port => x.tx.asleep) h.own :)

end

end State.OnLanes

theorem State.OnPort.marl {p : Nat} {s t : State} (h : State.OnPort p s t) : t.marl = s.marl := (congrArg State.marl h.rest :)

/-! ## One flit on a lane (R33 to R35) -/

/-- R34: the group of a lane has room for a flit, after a marker where it was full. -/
def State.inGroup (s : State) (p l : Nat) : State :=
  if (s.port p).groupFlits ≤ ((s.port p).lane l).flitsTx then s.sendMarker p l else s

theorem State.inGroup_onLanes (s : State) (p l : Nat) : State.OnLanes p s (s.inGroup p l) := by
  unfold State.inGroup
  split_ifs
  · exact .sendMarker p s l
  · exact .refl p s

/-- R35: a flit on a lane whose group has room is scrambled, and moves the scrambler and the group on. -/
def State.flitOn (s : State) (p l : Nat) (b : List Byte) : State :=
  ((s.modPort p fun x => x.modLane l fun v => { v with flitsTx := v.flitsTx + 1, scram := (scramble b ((s.port p).lane l).scram).2 }).send
    (.flit p l b)).send (.line p l (if (s.port p).fec then none else some 1) (scramble b ((s.port p).lane l).scram).1)

theorem State.laneFlit_eq (s : State) (p l : Nat) (b : List Byte) : s.laneFlit p l b = (s.inGroup p l).flitOn p l b := rfl

theorem State.flitOn_out (s : State) (p l : Nat) (b : List Byte) : (s.flitOn p l b).out =
    .line p l (if (s.port p).fec then none else some 1) (scramble b ((s.port p).lane l).scram).1 :: .flit p l b :: s.out := rfl

theorem State.OnLanes.flitOn (p : Nat) (s : State) (l : Nat) (b : List Byte) : State.OnLanes p s (s.flitOn p l b) := by
  unfold State.flitOn
  exact ((State.OnLanes.modLane p s l _).trans (State.OnLanes.send ..)).trans (State.OnLanes.send ..)

theorem State.OnLanes.laneFlit (p : Nat) (s : State) (l : Nat) (b : List Byte) : State.OnLanes p s (s.laneFlit p l b) := by
  rw [State.laneFlit_eq]
  exact (s.inGroup_onLanes p l).trans (State.OnLanes.flitOn ..)

/-- R35: within a group the scrambler of the lane goes on. -/
theorem State.laneFlit_in_group {s : State} {p l : Nat} (room : ((s.port p).lane l).flitsTx < (s.port p).groupFlits) (b : List Byte) :
    (s.laneFlit p l b).out = .line p l (if (s.port p).fec then none else some 1) (scramble b ((s.port p).lane l).scram).1 :: .flit p l b :: s.out := by
  have same : s.inGroup p l = s := if_neg (Nat.not_le.mpr room)
  rw [State.laneFlit_eq, same, State.flitOn_out]

/-- R34, R35: a marker begins the next group, and the scrambler starts from the seed of the lane. -/
theorem State.laneFlit_new_group {s : State} {p l : Nat} (small : l < 4) (full : (s.port p).groupFlits ≤ ((s.port p).lane l).flitsTx) (b : List Byte) :
    (s.laneFlit p l b).out = .line p l (if (s.port p).fec then none else some 1) (scramble b (laneSeed l)).1 :: .flit p l b
          :: .marker p l (markerBytes l ((s.port p).lane l).groupTx.toNat (s.port p).fec) :: s.out
      ∧ (((s.laneFlit p l b).port p).lane l).flitsTx = 1 ∧ (((s.laneFlit p l b).port p).lane l).groupTx = ((s.port p).lane l).groupTx + 1 := by
  have marked : s.inGroup p l = s.sendMarker p l := if_pos full
  have goes : (s.sendMarker p l).out = .marker p l (markerBytes l ((s.port p).lane l).groupTx.toNat (s.port p).fec) :: s.out := rfl
  have fec : ((s.sendMarker p l).port p).fec = (s.port p).fec := by simp only [Port.fec, (s.sendMarker_linesKept p l).train]
  have lane : ((s.sendMarker p l).port p).lane l = { (s.port p).lane l with groupTx := ((s.port p).lane l).groupTx + 1, flitsTx := 0, scram := laneSeed l } := by
    unfold State.sendMarker
    rw [State.port_modPort_same, Port.lane_modLane_same _ _ small]
    rfl
  rw [State.laneFlit_eq, marked, State.flitOn_out, goes, fec]
  generalize s.sendMarker p l = u at *
  have own : ((u.flitOn p l b).port p).lane l =
      { (u.port p).lane l with flitsTx := ((u.port p).lane l).flitsTx + 1, scram := (scramble b ((u.port p).lane l).scram).2 } := by
    unfold State.flitOn
    rw [State.port_send, State.port_send, State.port_modPort_same, Port.lane_modLane_same _ _ small]
  rw [own, lane]
  exact ⟨rfl, rfl, rfl⟩

/-! ## The next lane in stripe order (R68) -/

/-- R68: the lane of the next flit. -/
def Port.nextLane (x : Port) : Nat := (lanesOf x.outSet).getD x.tx.stripe 0

/-- R68: the place in the stripe of the flit after it. -/
def Port.striped (x : Port) : Port := { x with tx := { x.tx with stripe := if x.tx.stripe + 1 < laneCount x.outSet then x.tx.stripe + 1 else 0 } }

theorem State.putFlit_eq (s : State) (p : Nat) (b : List Byte) : s.putFlit p b = (s.modPort p Port.striped).laneFlit p (s.port p).nextLane b := rfl

theorem State.OnLanes.putFlit (p : Nat) (s : State) (b : List Byte) : State.OnLanes p s (s.putFlit p b) := by
  rw [State.putFlit_eq]
  exact (State.OnLanes.modPort p s).trans (State.OnLanes.laneFlit ..)

/-- The flit last sent, but for its line bits, is the one put. -/
theorem State.putFlit_out (s : State) (p : Nat) (b : List Byte) : (s.putFlit p b).out[1]? = some (.flit p (s.port p).nextLane b) := rfl

/-- R50, R68: a flit that counts is sent on the next lane, and the idle time starts anew. -/
def State.putCounted (s : State) (p : Nat) (b : List Byte) : State := (s.putFlit p b).armIdle p

theorem State.OnLanes.putCounted (p : Nat) (s : State) (b : List Byte) : State.OnLanes p s (s.putCounted p b) :=
  (State.OnLanes.putFlit p s b).trans (State.OnLanes.armIdle ..)

theorem State.putCounted_out (s : State) (p : Nat) (b : List Byte) : (s.putCounted p b).out[1]? = some (.flit p (s.port p).nextLane b) := rfl

end Sys2Proof.Machine
end

section
/-! PROOFS. Control flits sent in a slot, and what the last copy of a rotation leaves of the lane set and of the control flits that wait (R50, R60, R69, R76). -/

namespace Sys2Proof.Machine

/-! ## The ports that MGMT messages leave alone (R93, R133, R134) -/

theorem State.takeSpace_ports {s t : State} {cls : Nat} (h : s.takeSpace cls = some t) : t.ports = s.ports := by
  simp only [State.takeSpace] at h
  split_ifs at h
  all_goals
    cases h
    rfl

theorem State.writeCell_ports (s : State) (agent q flow b : Nat) (c : Cell) : (s.writeCell agent q flow b c).ports = s.ports := rfl

theorem State.writesGoOn_ports (n : Nat) : ∀ s : State, (State.writesGoOn n s).ports = s.ports := by
  induction n with
  | zero => exact fun _ => rfl
  | succ n ih =>
    intro s
    unfold State.writesGoOn
    split
    · rfl
    · split
      · rfl
      · exact ih _

theorem State.enqueueCell_ports (s : State) (agent q flow : Nat) (c : Cell) : (s.enqueueCell agent q flow c).ports = s.ports := by
  simp only [State.enqueueCell]
  split
  · rfl
  · exact State.writesGoOn_ports _ _

theorem State.queueMgmt_ports (s : State) (p : Nat) (m : MgmtMsg) : (s.queueMgmt p m).ports = s.ports := by
  simp only [State.queueMgmt, State.admitMgmt, State.admitLossless]
  split
  · rfl
  · split
    · exact State.enqueueCell_ports ..
    · split
      case h_1 t h => exact (t.enqueueCell_ports ..).trans (State.takeSpace_ports h)
      case h_2 => rfl

/-! ## The lane set and the control flits of a port -/

/-- Port `p` keeps its outbound lanes and the control flits that wait. -/
def State.CtrlKept (p : Nat) (s t : State) : Prop := (t.port p).outSet = (s.port p).outSet ∧ (t.port p).tx.ctrl = (s.port p).tx.ctrl

namespace State.CtrlKept

theorem refl (p : Nat) (s : State) : State.CtrlKept p s s := ⟨rfl, rfl⟩

theorem trans {p : Nat} {s t u : State} (h : State.CtrlKept p s t) (g : State.CtrlKept p t u) : State.CtrlKept p s u :=
  ⟨g.1.trans h.1, g.2.trans h.2⟩

theorem of_ports (p : Nat) {s t : State} (h : t.ports = s.ports) : State.CtrlKept p s t := by
  rw [State.CtrlKept, State.port_congr h]
  exact ⟨rfl, rfl⟩

theorem of_onLanes {p : Nat} {s t : State} (h : State.OnLanes p s t) : State.CtrlKept p s t := ⟨h.outSet, h.ctrl⟩

theorem ite {p : Nat} {s t u : State} {c : Prop} [Decidable c] (ht : State.CtrlKept p s t) (hu : State.CtrlKept p s u) :
    State.CtrlKept p s (if c then t else u) := by
  split_ifs <;> assumption

theorem foldl {α : Type} {p : Nat} {f : State → α → State} (hf : ∀ (s : State) (x : α), State.CtrlKept p s (f s x)) (l : List α) :
    ∀ s : State, State.CtrlKept p s (l.foldl f s) := by
  induction l with
  | nil => exact refl p
  | cons x l ih => exact fun s => (hf s x).trans (ih (f s x))

theorem modPort (p : Nat) (s : State) (q : Nat) {f : Port → Port} (hf : ∀ x, (f x).outSet = x.outSet ∧ (f x).tx.ctrl = x.tx.ctrl := by exact fun _ => ⟨rfl, rfl⟩) :
    State.CtrlKept p s (s.modPort q f) := by
  rw [State.CtrlKept, State.port_modPort]
  split_ifs with e
  · rw [e]
    exact hf _
  · exact ⟨rfl, rfl⟩

theorem modLane (p : Nat) (s : State) (q l : Nat) (f : Port → Lane → Lane) : State.CtrlKept p s (s.modPort q fun x => x.modLane l (f x)) :=
  modPort p s q fun x => ⟨x.modLane_outSet l _, by rw [Port.modLane_tx]⟩

end State.CtrlKept

/-! ## Restores and waiting plan tunnels (R115, R118) -/

theorem State.sendOpen_ctrlKept (p : Nat) (s : State) (tid : Nat) : State.CtrlKept p s (s.sendOpen tid) :=
  ((CtrlKept.modPort p s _).trans (CtrlKept.modPort p _ _)).trans (.of_ports p (State.queueMgmt_ports ..))

theorem State.reopened_ctrlKept (p : Nat) (s : State) (tid : Nat) (v : Tunnel) : State.CtrlKept p s ((s.setTunnel tid v).sendOpen tid) :=
  (CtrlKept.of_ports p (s.setTunnel_ports tid v)).trans (State.sendOpen_ctrlKept ..)

theorem State.restoreOne_ctrlKept (p : Nat) (s : State) (tid : Nat) : State.CtrlKept p s (s.restoreOne tid) :=
  .ite (s.reopened_ctrlKept p tid _) (.ite (.refl p s) (.of_ports p ((State.modTunnel_ports ..).trans (State.noticeOwner_ports ..))))

theorem State.planRefused_ctrlKept (p : Nat) (s : State) (tid : Nat) : State.CtrlKept p s (s.planRefused tid) :=
  .ite (.refl p s) (.of_ports p ((State.alarmOccur_ports ..).trans ((State.record_ports ..).trans (State.modTunnel_ports ..))))

theorem State.planOne_ctrlKept (p : Nat) (s : State) (tid : Nat) : State.CtrlKept p s (s.planOne tid) :=
  .ite (s.reopened_ctrlKept p tid _) (s.planRefused_ctrlKept p tid)

theorem State.retryTunnels_ctrlKept (p : Nat) (s : State) (q : Nat) : State.CtrlKept p s (s.retryTunnels q) := by
  simp only [State.retryTunnels]
  exact .ite ((CtrlKept.foldl (State.restoreOne_ctrlKept p) _ s).trans (CtrlKept.foldl (State.planOne_ctrlKept p) _ _)) (.refl p s)

/-! ## The new lane set takes effect (R69, R71, R74, R75) -/

theorem State.settled_ctrlKept (s : State) (p : Nat) : State.CtrlKept p s (s.settled p) :=
  (CtrlKept.modPort p s p).trans (State.retryTunnels_ctrlKept ..)

theorem State.joinDone_ctrlKept (s : State) (p : Nat) : State.CtrlKept p s (s.joinDone p) := by
  have traced (u : State) (t : Transit) : State.CtrlKept p u (if t.kind = .recal then u else u.trace (agentPort p) 1 p) :=
    .ite (.refl p u) (.of_ports p (State.trace_ports ..))
  simp only [State.joinDone]
  split
  · exact .ite (((CtrlKept.modPort p s p).trans (traced _ _)).trans (State.settled_ctrlKept ..)) (.refl p s)
  · exact .refl p s

theorem State.sendTb_ctrlKept (s : State) (p : Nat) (m : BitVec 4) (o : Nat → TbOut) : State.CtrlKept p s (s.sendTb p m o) :=
  CtrlKept.foldl (fun u l => (CtrlKept.of_ports p (u.send_ports _)).trans (CtrlKept.modLane p _ p l _)) (lanesOf m) s

theorem State.turnSets_ctrlKept (s : State) (p l : Nat) (d : Dir) : State.CtrlKept p s (s.turnSets p l d) := by
  unfold State.turnSets
  exact (CtrlKept.modLane p s p l _).trans (.of_ports p (State.tickFree_ports _))

theorem State.fillLane_ctrlKept (s : State) (p l : Nat) : State.CtrlKept p s (s.fillLane p l) :=
  .ite (CtrlKept.foldl (fun u _ => .of_onLanes (.laneFlit p u l _)) _ s) (.refl p s)

/-- R69: the lanes that leave have filled their codewords, and the new set has taken effect. -/
def State.rotated (s : State) (p m : Nat) : State :=
  ((lanesOf ((s.port p).outSet &&& ~~~(BitVec.ofNat 4 m))).foldl (fun s l => s.fillLane p l) s).modPort p fun x =>
    { x with outSet := BitVec.ofNat 4 m, tx := { x.tx with stripe := 0 } }

theorem State.rotated_outSet (s : State) (p m : Nat) : ((s.rotated p m).port p).outSet = BitVec.ofNat 4 m := by
  rw [State.rotated, State.port_modPort_same]

theorem State.rotated_ctrl (s : State) (p m : Nat) : ((s.rotated p m).port p).tx.ctrl = (s.port p).tx.ctrl := by
  rw [State.rotated, State.port_modPort_same]
  exact (CtrlKept.foldl (fun u l => u.fillLane_ctrlKept p l) _ s).2

/-- R69: the lane change goes on under the new set. -/
theorem State.rotationDone_ctrlKept (s : State) (p m : Nat) : State.CtrlKept p (s.rotated p m) (s.rotationDone p m) := by
  unfold State.rotationDone
  extract_lets filled turned transit
  have same : s.rotated p m = turned := rfl
  rw [same]
  clear_value turned
  split
  · exact .refl p turned
  · next t _ =>
    extract_lets noted
    have kept : State.CtrlKept p turned noted := CtrlKept.modLane p turned p t.lane fun _ v => { v with badTold := false }
    have put (x : Transit) (u : State) : State.CtrlKept p u (transit x u) := CtrlKept.modPort p u p
    clear_value noted transit
    refine kept.trans ?_
    split
    · exact (put _ _).trans (State.turnSets_ctrlKept ..)
    · exact ((put _ _).trans (CtrlKept.modPort p _ p)).trans (State.sendTb_ctrlKept ..)
    · exact State.settled_ctrlKept ..
    · exact (put _ _).trans (State.joinDone_ctrlKept ..)
    · exact .refl p _

/-- R69: after the last copy of a rotation the new set is in force, and what waits goes on waiting. -/
theorem State.rotationDone_sets (s : State) (p m : Nat) :
    ((s.rotationDone p m).port p).outSet = BitVec.ofNat 4 m ∧ ((s.rotationDone p m).port p).tx.ctrl = (s.port p).tx.ctrl := by
  obtain ⟨outSet, ctrl⟩ := s.rotationDone_ctrlKept p m
  exact ⟨outSet.trans (s.rotated_outSet p m), ctrl.trans (s.rotated_ctrl p m)⟩

/-! ## A control flit is sent (R50, R60, R76) -/

/-- R60, R76: a control flit as bytes; a TIME carries its stamp. -/
def Ctrl.bytes (c : Ctrl) (now : Time) : List Byte :=
  flitBytes c.typ (if c.typ = 5 then putBytes (padTo 120 c.payload) 8 (toLe 8 now.toNat) else c.payload)

/-- R50: a SLEEP that puts the direction to sleep. -/
def Ctrl.sleeps (c : Ctrl) : Bool := decide (c.typ = 6) && decide (byteAt c.payload 0 = 1)

/-- R50, R60: a control flit has gone; one that counts starts the idle time anew. -/
def State.ctrlGone (s : State) (p : Nat) (c : Ctrl) : State :=
  if c.counts then s.putCounted p (c.bytes s.now) else s.putFlit p (c.bytes s.now)

/-- R50: the direction sleeps after a SLEEP. -/
def State.sleptAfter (s : State) (p : Nat) (c : Ctrl) : State :=
  if c.sleeps then s.modPort p fun x => { x with tx := { x.tx with asleep := true, keepDue := some (s.after (1000 * (s.port p).keepForce)) } } else s

theorem State.putCtrl_plain {c : Ctrl} (plain : c.newSet = none) (s : State) (p : Nat) : s.putCtrl p c = (s.ctrlGone p c).sleptAfter p c := by
  simp only [State.putCtrl, plain]
  rfl

theorem State.putCtrl_last {c : Ctrl} {m : Nat} (last : c.newSet = some m) (s : State) (p : Nat) :
    s.putCtrl p c = ((s.ctrlGone p c).rotationDone p m).sleptAfter p c := by
  simp only [State.putCtrl, last]
  rfl

theorem State.ctrlGone_onLanes (s : State) (p : Nat) (c : Ctrl) : State.OnLanes p s (s.ctrlGone p c) := by
  unfold State.ctrlGone
  split_ifs
  · exact .putCounted ..
  · exact .putFlit ..

theorem State.ctrlGone_out (s : State) (p : Nat) (c : Ctrl) : (s.ctrlGone p c).out[1]? = some (.flit p (s.port p).nextLane (c.bytes s.now)) := by
  unfold State.ctrlGone
  split_ifs
  · exact s.putCounted_out ..
  · exact s.putFlit_out ..

theorem State.sleptAfter_out (s : State) (p : Nat) (c : Ctrl) : (s.sleptAfter p c).out = s.out := by
  unfold State.sleptAfter
  split_ifs <;> rfl

theorem State.OnPort.sleptAfter (p : Nat) (s : State) (c : Ctrl) : State.OnPort p s (s.sleptAfter p c) := .ite (.modPort p s _) (.refl p s)

/-- R50: a SLEEP changes no more than that the direction sleeps, and until when. -/
theorem State.port_sleptAfter (s : State) (p : Nat) (c : Ctrl) : ∃ due, (s.sleptAfter p c).port p =
    { s.port p with tx := { (s.port p).tx with asleep := (s.port p).tx.asleep || c.sleeps, keepDue := due } } := by
  unfold State.sleptAfter
  cases c.sleeps with
  | true => exact ⟨_, by simp only [if_true, State.port_modPort_same, Bool.or_true]; rfl⟩
  | false => exact ⟨(s.port p).tx.keepDue, by simp only [Bool.false_eq_true, if_false, Bool.or_false]⟩

end Sys2Proof.Machine
end

section
/-! PROOFS. FLIT_SLOT: control flits, resends, the burst in progress and NULL flits on the next lane in stripe order (R60, R61, R64, R66, R68, R84, R104). -/

namespace Sys2Proof.Machine

/-! ## Credit of the TUNs, and a DATA flit for the first time (R61, R64, R66, R84) -/

theorem Port.tun_modTun (x : Port) (n k : Nat) (f : Tun → Tun) : (x.modTun n f).tun k = if k = n then f (x.tun n) else x.tun k := Tab.get_set ..

/-- From `s` to `t` no more than the CREDIT_WAIT counts of port `p` has changed. -/
structure State.WaitsOnly (p : Nat) (s t : State) : Prop where
  onPort : State.OnPort p s t
  own : { t.port p with tuns := [] } = { s.port p with tuns := [] }
  sent : ∀ k, ((t.port p).tun k).sent = ((s.port p).tun k).sent

/-- R84: a reserved tunnel waits for credit. -/
def Port.waits (x : Port) (n : Nat) : Port := x.modTun n fun t => { t with creditWait := t.creditWait + 1 }

theorem State.WaitsOnly.modPort (p : Nat) (s : State) (n : Nat) : State.WaitsOnly p s (s.modPort p fun x => x.waits n) := by
  refine ⟨.modPort p s _, ?_, fun k => ?_⟩
  · rw [State.port_modPort_same]
    rfl
  · rw [State.port_modPort_same, Port.waits, Port.tun_modTun]
    split_ifs with e
    · rw [e]
    · rfl

theorem State.WaitsOnly.foldl (p : Nat) (l : List Ready) : ∀ s : State, State.WaitsOnly p s (l.foldl (fun s r => s.modPort p fun x => x.waits r.tun) s) := by
  induction l with
  | nil => exact fun s => ⟨.refl p s, rfl, fun _ => rfl⟩
  | cons r l ih =>
    intro s
    have first := State.WaitsOnly.modPort p s r.tun
    have rest := ih (s.modPort p fun x => x.waits r.tun)
    exact ⟨first.onPort.trans rest.onPort, rest.own.trans first.own, fun k => (rest.sent k).trans (first.sent k)⟩

theorem State.creditWaits_waitsOnly (s : State) (p : Nat) : State.WaitsOnly p s (s.creditWaits p) := by
  unfold State.creditWaits
  split_ifs
  · exact State.WaitsOnly.foldl p _ s
  · exact ⟨.refl p s, rfl, fun _ => rfl⟩

/-- R61, R64, R66: a port that sends a DATA flit takes the next SEQ for it, keeps it for resend and counts it against the credit of its TUN. -/
def Port.numbered (x : Port) (f : DataFlit) (rest : List DataFlit) (now : Time) : Port :=
  ({ x with tx := { x.tx with seqNext := x.tx.seqNext + 1, burstCells := rest, sentCycle := x.tx.sentCycle + 1
                              unacked := x.tx.unacked ++ [{ seq := x.tx.seqNext, flit := { f with seq := x.tx.seqNext }, sentAt := now }] } } : Port).modTun f.tun
    fun t => { t with sent := t.sent + 1 }

theorem Port.tun_numbered (x : Port) (f : DataFlit) (rest : List DataFlit) (now : Time) (k : Nat) :
    (x.numbered f rest now).tun k = if k = f.tun then { x.tun f.tun with sent := (x.tun f.tun).sent + 1 } else x.tun k := Port.tun_modTun ..

theorem State.putData_eq (s : State) (p : Nat) (f : DataFlit) (rest : List DataFlit) : s.putData p f rest =
    (s.setPort p ((s.port p).numbered f rest s.now)).putCounted p ({ f with seq := (s.port p).tx.seqNext } : DataFlit).bytes := by
  unfold State.putData Port.numbered
  rfl

/-- A DATA flit goes on the next lane, and the port is as `numbered` leaves it, but for what a slot touches. -/
theorem State.putData_sends (s : State) (p : Nat) (f : DataFlit) (rest : List DataFlit) :
    (s.putData p f rest).out[1]? = some (.flit p (s.port p).nextLane ({ f with seq := (s.port p).tx.seqNext } : DataFlit).bytes)
      ∧ ((s.putData p f rest).port p).offSlot = ((s.port p).numbered f rest s.now).offSlot ∧ State.OnPort p s (s.putData p f rest) := by
  have put := State.OnLanes.putCounted p (s.setPort p ((s.port p).numbered f rest s.now)) ({ f with seq := (s.port p).tx.seqNext } : DataFlit).bytes
  have own := put.own
  rw [State.port_setPort_same] at own
  rw [State.putData_eq]
  refine ⟨?_, own, (State.OnPort.setPort p s _).trans put.onPort⟩
  rw [State.putCounted_out, State.port_setPort_same]
  rfl

/-! ## No burst (R104) -/

theorem flatten_map_range_of_nil {α : Type} {n : Nat} {g : Nat → List α} (h : ∀ q, q < n → g q = []) : ((List.range n).map g).flatten = [] := by
  simpa using h

theorem State.bursts_of_none {s : State} {p : Nat} (none' : ∀ q, q < 9 → s.servable (agentPort p) q = []) : s.bursts p = [] := by
  unfold State.bursts
  exact flatten_map_range_of_nil fun q small => by rw [none' q small]; rfl

/-- R104: without a burst the scheduler has gone on to best-effort service, and selects none. -/
theorem State.selectBurst_of_none {s : State} {p : Nat} (none' : ∀ q, q < 9 → s.servable (agentPort p) q = []) :
    s.selectBurst p = (s.modPort p fun x => { x with tx := { x.tx with beBurst := true } }, none) := by
  unfold State.selectBurst
  rw [State.bursts_of_none none']
  rfl

theorem State.stageBurst_of_none {s : State} {p : Nat} (none' : ∀ q, q < 9 → s.servable (agentPort p) q = []) :
    s.stageBurst p = s.modPort p fun x => { x with tx := { x.tx with beBurst := true } } := by
  have idle : ((List.range 9).map fun q => (s.servable (agentPort p) q).map fun f => (q, f)).flatten = [] :=
    flatten_map_range_of_nil fun q small => by rw [none' q small]; rfl
  simp only [State.stageBurst, idle, List.foldl_nil, State.selectBurst_of_none none']

/-! ## Which flit takes the slot (R61, R64, R68) -/

section
variable {p : Fin 12} {s : State}

/-- R64: the oldest of the flits due for resend is sent. -/
def State.resent (s : State) (p : Nat) (u : Unacked) (rest : List Unacked) : State :=
  (s.modPort p fun x => { x with tx := { x.tx with resend := rest } }).putCounted p u.flit.bytes

/-- R60: the first of the control flits that wait has been taken. -/
def State.ctrlTaken (s : State) (p : Nat) (rest : List Ctrl) : State := s.modPort p fun x => { x with tx := { x.tx with ctrl := rest } }

theorem exec_flitSlot_idle (idle : (s.port p).train.state ≠ .active ∨ (s.port p).tx.asleep = true ∨ (s.port p).outSet = 0) :
    exec (.flitSlot p) s = .next s := by
  refine if_pos ?_
  obtain down | asleep | none' := idle
  · simp [State.linkUp, down]
  · simp [asleep]
  · simp [none']

section
variable (active : (s.port p).train.state = .active) (awake : (s.port p).tx.asleep = false) (lanes : (s.port p).outSet ≠ 0)
include active awake lanes

theorem flitSlot_sends : (!s.linkUp p || (s.port p).tx.asleep || decide ((s.port p).outSet = 0)) = false := by
  rw [State.linkUp_iff.mpr active, awake, decide_eq_false lanes]
  rfl

theorem exec_flitSlot_ctrl {c : Ctrl} {rest : List Ctrl} (waits : (s.port p).tx.ctrl = c :: rest) :
    exec (.flitSlot p) s = .next ((s.ctrlTaken p rest).putCtrl p c) := by
  change execFlitSlot p s = _
  simp only [execFlitSlot, flitSlot_sends active awake lanes, waits]
  rfl

section
variable (idle : (s.port p).tx.ctrl = [])
include idle

theorem exec_flitSlot_resend {u : Unacked} {rest : List Unacked} (due : (s.port p).tx.resend = u :: rest) :
    exec (.flitSlot p) s = .next (s.resent p u rest) := by
  change execFlitSlot p s = _
  simp only [execFlitSlot, flitSlot_sends active awake lanes, idle, due]
  rfl

section
variable (none' : (s.port p).tx.resend = [])
include none'

theorem exec_flitSlot_full (full : 2048 ≤ (s.port p).tx.unacked.length) : exec (.flitSlot p) s = .next (s.putFlit p (flitBytes 0 [])) := by
  change execFlitSlot p s = _
  simp only [execFlitSlot, flitSlot_sends active awake lanes, idle, none', if_pos full]
  rfl

theorem exec_flitSlot_burst {f : DataFlit} {rest : List DataFlit} (room : (s.port p).tx.unacked.length < 2048)
    (burst : (s.port p).tx.burstCells = f :: rest) : exec (.flitSlot p) s = .next ((s.creditWaits p).putData p f rest) := by
  change execFlitSlot p s = _
  simp only [execFlitSlot, flitSlot_sends active awake lanes, idle, none', if_neg (Nat.not_le.mpr room), burst]
  simp only [List.isEmpty_cons, Bool.false_eq_true, if_false, burst]

/-- R104: where no flow has a burst. -/
def State.bestEffort (s : State) (p : Nat) : State := s.modPort p fun x => { x with tx := { x.tx with beBurst := true } }

theorem exec_flitSlot_null (room : (s.port p).tx.unacked.length < 2048) (done : (s.port p).tx.burstCells = [])
    (empty : ∀ q, q < 9 → s.servable (agentPort p) q = []) :
    exec (.flitSlot p) s = .next ((s.bestEffort p).putFlit p (flitBytes 0 [])) := by
  have staged : s.stageBurst p = s.bestEffort p := State.stageBurst_of_none empty
  have still : ((s.bestEffort p).port p).tx.burstCells = [] := by
    rw [State.bestEffort, State.port_modPort_same]
    exact done
  change execFlitSlot p s = _
  simp only [execFlitSlot, flitSlot_sends active awake lanes, idle, none', if_neg (Nat.not_le.mpr room), done]
  simp only [List.isEmpty_nil, if_true, staged, still]
  rfl

end

/-! ## What a slot gives -/

theorem flitSlot_resend_gives {u : Unacked} {rest : List Unacked} (due : (s.port p).tx.resend = u :: rest) : Gives (.flitSlot p) s fun t =>
      t.out[1]? = some (.flit p ((lanesOf (s.port p).outSet).getD (s.port p).tx.stripe 0) u.flit.bytes) ∧ (t.port p).tx.resend = rest
        ∧ (t.port p).tx.unacked = (s.port p).tx.unacked ∧ (t.port p).tx.seqNext = (s.port p).tx.seqNext ∧ t = { s with ports := t.ports, out := t.out } := by
  let v := s.modPort p fun x => { x with tx := { x.tx with resend := rest } }
  have taken : State.OnPort p s v := .modPort p s _
  have own : v.port p = { s.port p with tx := { (s.port p).tx with resend := rest } } := State.port_modPort_same ..
  have sent : (s.resent p u rest).out[1]? = some (.flit p (v.port p).nextLane u.flit.bytes) := State.putCounted_out ..
  have kept : State.OnLanes p v (s.resent p u rest) := .putCounted p v _
  refine Gives.of_eq (exec_flitSlot_resend active awake lanes idle due) ⟨?_, ?_, ?_, ?_, (taken.trans kept.onPort).frame⟩
  · rw [sent, own]
    rfl
  · rw [kept.resend, own]
  · rw [kept.unacked, own]
  · rw [kept.seqNext, own]

section
variable (none' : (s.port p).tx.resend = [])
include none'

theorem flitSlot_burst_gives {f : DataFlit} {rest : List DataFlit} (room : (s.port p).tx.unacked.length < 2048)
    (burst : (s.port p).tx.burstCells = f :: rest) : Gives (.flitSlot p) s fun t =>
      let g : DataFlit := { f with seq := (s.port p).tx.seqNext }
      t.out[1]? = some (.flit p ((lanesOf (s.port p).outSet).getD (s.port p).tx.stripe 0) g.bytes) ∧ (t.port p).tx.burstCells = rest
        ∧ (t.port p).tx.seqNext = (s.port p).tx.seqNext + 1 ∧ (t.port p).tx.unacked = (s.port p).tx.unacked ++ [{ seq := g.seq, flit := g, sentAt := s.now }]
        ∧ (∀ k, ((t.port p).tun k).sent = ((s.port p).tun k).sent + if k = f.tun then 1 else 0)
        ∧ ((s.port p).tx.beBurst = false → ∀ k, k ≠ f.tun → (t.port p).tun k = (s.port p).tun k)
        ∧ t = { s with ports := t.ports, out := t.out } := by
  refine Gives.of_eq (exec_flitSlot_burst active awake lanes idle none' room burst) ?_
  have waited := s.creditWaits_waitsOnly p
  have reserved : (s.port p).tx.beBurst = false → s.creditWaits p = s := fun e => if_neg (by rw [e]; exact Bool.false_ne_true)
  generalize s.creditWaits p = u at *
  have tx : (u.port p).tx = (s.port p).tx := (congrArg Port.tx waited.own :)
  have lane : (u.port p).nextLane = (s.port p).nextLane := (congrArg Port.nextLane waited.own :)
  have now : u.now = s.now := congrArg Clock.now waited.onPort.clock
  obtain ⟨out, own, onPort⟩ := u.putData_sends p f rest
  generalize u.putData p f rest = t at *
  have txs : (t.port p).tx.queues = ((u.port p).numbered f rest u.now).tx.queues := (congrArg Port.tx own :)
  have tun (k : Nat) : (t.port p).tun k = if k = f.tun then { (u.port p).tun f.tun with sent := ((u.port p).tun f.tun).sent + 1 } else (u.port p).tun k :=
    Eq.trans (congrArg (fun x : Port => x.tun k) own :) ((u.port p).tun_numbered f rest u.now k)
  rw [lane, tx] at out
  rw [Port.numbered, tx, now] at txs
  refine ⟨out, (congrArg TxState.burstCells txs :), (congrArg TxState.seqNext txs :), (congrArg TxState.unacked txs :), fun k => ?_, fun e k n => ?_,
    (waited.onPort.trans onPort).frame⟩
  · rw [tun k]
    split_ifs with same
    · rw [same, waited.sent]
    · rw [waited.sent, add_zero]
  · rw [tun k, if_neg n, reserved e]

theorem flitSlot_null_gives (nothing : 2048 ≤ (s.port p).tx.unacked.length
      ∨ (s.port p).tx.burstCells = [] ∧ (∀ q, q < 9 → s.servable (agentPort p) q = []) ∧ s.marl.writeBuf = []) : Gives (.flitSlot p) s fun t =>
      t.out[1]? = some (.flit p ((lanesOf (s.port p).outSet).getD (s.port p).tx.stripe 0) (flitBytes 0 []))
        ∧ (t.port p).tx.seqNext = (s.port p).tx.seqNext ∧ (t.port p).tx.unacked = (s.port p).tx.unacked ∧ t.tunnels = s.tunnels ∧ t.marl = s.marl := by
  obtain room | full := Nat.lt_or_ge (s.port p).tx.unacked.length 2048
  · obtain ⟨done, empty, -⟩ := nothing.resolve_left (Nat.not_le.mpr room)
    have own : (s.bestEffort p).port p = { s.port p with tx := { (s.port p).tx with beBurst := true } } := State.port_modPort_same ..
    have chosen : State.OnPort p s (s.bestEffort p) := .modPort p s _
    have sent := (s.bestEffort p).putFlit_out p (flitBytes 0 [])
    have kept := State.OnLanes.putFlit p (s.bestEffort p) (flitBytes 0 [])
    refine Gives.of_eq (exec_flitSlot_null active awake lanes idle none' room done empty) ⟨?_, ?_, ?_, ?_, ?_⟩
    · rw [sent, own]
      rfl
    · rw [kept.seqNext, own]
    · rw [kept.unacked, own]
    · rw [kept.onPort.tunnels, chosen.tunnels]
    · rw [kept.onPort.marl, chosen.marl]
  · have kept := State.OnLanes.putFlit p s (flitBytes 0 [])
    exact Gives.of_eq (exec_flitSlot_full active awake lanes idle none' full)
      ⟨s.putFlit_out .., kept.seqNext, kept.unacked, kept.onPort.tunnels, kept.onPort.marl⟩

end
end

/-- R60: a control flit that is not the last copy of a rotation. -/
theorem flitSlot_ctrl_gives {c : Ctrl} {rest : List Ctrl} (waits : (s.port p).tx.ctrl = c :: rest) (plain : c.newSet = none) : Gives (.flitSlot p) s fun t =>
      t.out[1]? = some (.flit p ((lanesOf (s.port p).outSet).getD (s.port p).tx.stripe 0) (c.bytes s.now)) ∧ (t.port p).tx.ctrl = rest
        ∧ (t.port p).tx.asleep = c.sleeps ∧ (t.port p).tx.seqNext = (s.port p).tx.seqNext ∧ t = { s with ports := t.ports, out := t.out } := by
  have ran := exec_flitSlot_ctrl active awake lanes waits
  rw [State.putCtrl_plain plain] at ran
  have taken : State.OnPort p s (s.ctrlTaken p rest) := .modPort p s _
  have own : (s.ctrlTaken p rest).port p = { s.port p with tx := { (s.port p).tx with ctrl := rest } } := State.port_modPort_same ..
  have now : (s.ctrlTaken p rest).now = s.now := rfl
  have sent := (s.ctrlTaken p rest).ctrlGone_out p c
  have kept := (s.ctrlTaken p rest).ctrlGone_onLanes p c
  rw [own, now] at sent
  obtain ⟨due, slept⟩ := ((s.ctrlTaken p rest).ctrlGone p c).port_sleptAfter p c
  refine Gives.of_eq ran ⟨?_, ?_, ?_, ?_, ((taken.trans kept.onPort).trans (State.OnPort.sleptAfter ..)).frame⟩
  · rw [State.sleptAfter_out, sent]
    rfl
  · rw [slept, kept.ctrl, own]
  · rw [slept, kept.asleep, own]
    exact (congrArg (· || c.sleeps) awake).trans (Bool.false_or _)
  · rw [slept, kept.seqNext, own]

/-- R69: the last copy of a rotation, after which its set takes effect. -/
theorem flitSlot_rotation_gives {c : Ctrl} {rest : List Ctrl} {m : Nat} (waits : (s.port p).tx.ctrl = c :: rest) (last : c.newSet = some m) :
    Gives (.flitSlot p) s fun t => (t.port p).outSet = BitVec.ofNat 4 m ∧ (t.port p).tx.ctrl = rest := by
  have ran := exec_flitSlot_ctrl active awake lanes waits
  rw [State.putCtrl_last last] at ran
  obtain ⟨outSet, ctrl⟩ := ((s.ctrlTaken p rest).ctrlGone p c).rotationDone_sets p m
  rw [((s.ctrlTaken p rest).ctrlGone_onLanes p c).ctrl, State.ctrlTaken, State.port_modPort_same] at ctrl
  obtain ⟨due, slept⟩ := (((s.ctrlTaken p rest).ctrlGone p c).rotationDone p m).port_sleptAfter p c
  refine Gives.of_eq ran ?_
  rw [slept]
  exact ⟨outSet, ctrl⟩

end
end

/-- Settles O44: each clause is what its lemma above gives. -/
theorem flitSlotSends : Obligations.FlitSlotSends := by
  unfold Obligations.FlitSlotSends
  refine ⟨?ctrl, ?time, ?rotation, ?resend, ?burst, ?null, ?inGroup, ?newGroup, ?idle⟩
  case ctrl =>
    intro p c rest s active awake lanes waits plain typed
    have gives := flitSlot_ctrl_gives active awake lanes waits plain
    rw [Ctrl.bytes, if_neg typed] at gives
    exact gives
  case time =>
    intro p c rest s active awake lanes waits plain typed
    have gives := flitSlot_ctrl_gives active awake lanes waits plain
    rw [Ctrl.bytes, if_pos typed, typed] at gives
    exact gives.imp fun _ ⟨ran, out, ctrl, _⟩ => ⟨ran, out, ctrl⟩
  case rotation => exact fun _ _ _ _ _ active awake lanes waits last => flitSlot_rotation_gives active awake lanes waits last
  case resend => exact fun _ _ _ _ active awake lanes idle due => flitSlot_resend_gives active awake lanes idle due
  case burst => exact fun _ _ _ _ active awake lanes idle none' room burst => flitSlot_burst_gives active awake lanes idle none' room burst
  case null => exact fun _ _ active awake lanes idle none' nothing => flitSlot_null_gives active awake lanes idle none' nothing
  case inGroup => exact fun _ b _ room => State.laneFlit_in_group room b
  case newGroup => exact fun _ l b _ full => State.laneFlit_new_group l.isLt full b
  case idle => exact fun _ _ idle => exec_flitSlot_idle idle

end Sys2Proof.Machine
end

section
/-! PROOFS. DATA flits and bad flits received: SEQ, acknowledgement, duplicates and gaps, and the cell that enters Marl (R59, R61 to R63, R65, R66, R83, R121, R122). -/

namespace Sys2Proof.Machine

/-! ## What only ports changed (R121, R125) -/

namespace State.PortsOnly

section
variable {s t : State} (h : State.PortsOnly s t)
include h

theorem after (n : Nat) : t.after n = s.after n := (congrArg (fun v : State => v.after n) h :)
theorem tunnels : t.tunnels = s.tunnels := (congrArg State.tunnels h :)
theorem marl : t.marl = s.marl := (congrArg State.marl h :)
theorem tunnel (k : Nat) : t.tunnel k = s.tunnel k := (congrArg (fun v : State => v.tunnel k) h :)
theorem tidOf (p k : Nat) : t.tidOf p k = s.tidOf p k := (congrArg (fun v : State => v.tidOf p k) h :)
theorem egq (a q : Nat) : t.egq a q = s.egq a q := (congrArg (fun v : State => v.egq a q) h :)
theorem placeBank (recent : List Nat) : t.placeBank recent = s.placeBank recent := (congrArg (fun v : State => v.placeBank recent) h :)

theorem cellIn {u : State} {a q flow : Nat} {P : Cell → Prop} (g : CellIn t u a q flow P) : CellIn s u a q flow P := by
  rw [CellIn, h.egq, h.tunnels] at g
  exact g

end

end State.PortsOnly

/-! ## A cell enters Marl (R121, R122) -/

/-- A cell of a flow that arrives now. -/
def Cell.arrived (c : Cell) (flow : Nat) (now : Time) : Cell := { c with flow := flow, arrival := now, stamp := now.setWidth 32 }

theorem State.egq_setEgq (s : State) (a q : Nat) (v : EgQueue) : (s.setEgq a q v).egq a q = v := (Tab.get_set ..).trans (if_pos rfl)

theorem EgQueue.flow_set (x : EgQueue) (flow : Nat) (l : List Cell) : ({ x with flows := Tab.set [] flow l x.flows } : EgQueue).flow flow = l :=
  (Tab.get_set ..).trans (if_pos rfl)

/-- R122: the cell written is the last of its flow, at an address of its bank. -/
theorem State.writeCell_cellIn (s : State) (a q flow b : Nat) (c : Cell) :
    CellIn s (s.writeCell a q flow b c) a q flow fun d => d = { c with addr := s.freeAddr b } := by
  have written : ∃ x, (s.writeCell a q flow b c).egq a q = x ∧ x.enq = (s.egq a q).enq + 1
      ∧ x.flow flow = (s.egq a q).flow flow ++ [{ c with addr := s.freeAddr b }] :=
    ⟨_, State.egq_setEgq .., rfl, (s.egq a q).flow_set flow _⟩
  obtain ⟨x, own, enq, flows⟩ := written
  exact ⟨_, by rw [own, flows], rfl, by rw [own, enq], rfl⟩

/-- R121, R125: where no write waits and a bank takes the cell it is written at once. -/
theorem State.enqueueCell_of_room {s : State} {a q : Nat} (empty : s.marl.writeBuf = []) (room : (s.placeBank (s.egq a q).recent).isSome = true)
    (flow : Nat) (c : Cell) : ∃ b, s.enqueueCell a q flow c = s.writeCell a q flow b (c.arrived flow s.now) := by
  obtain ⟨b, bank⟩ := Option.isSome_iff_exists.mp room
  refine ⟨b, ?_⟩
  simp only [State.enqueueCell, empty, bank]
  rfl

/-! ## The payload of a DATA flit (R66, R83) -/

/-- R66: one flit more has been received on a TUN. -/
def State.tookFlit (s : State) (p n : Nat) : State := s.modPort p fun y => y.modTun n fun t => { t with recv := t.recv + 1 }

/-- The cell of a DATA flit in a tunnel. -/
def DataFlit.cell (f : DataFlit) (t : Tunnel) : Cell := { gen := t.gen, poison := f.poison, bl := f.bl, cls := t.cls, first := false, payload := f.payload }

/-- R66, R83, R125: the flit is of TUN `f.tun`, which entry `tid` holds open inbound, with credit and the PRI of its class; its cell goes to queue `q` of the
client, where no write waits and a bank takes it. -/
structure State.TakesCell (s : State) (p : Nat) (f : DataFlit) (tid q : Nat) : Prop where
  numbered : f.tun ≠ 0
  held : s.tidOf p f.tun = some tid
  opened : (s.tunnel tid).state = .opened
  inbound : (s.tunnel tid).dirs.getLsbD 1 = true
  plain : (s.tunnel tid).cls ≠ 1
  pri : f.pri = classPri (s.tunnel tid).cls (s.tunnel tid).periodic
  credit : ((s.port p).tun f.tun).granted ≠ ((s.port p).tun f.tun).recv
  ahead : (((s.port p).tun f.tun).granted - ((s.port p).tun f.tun).recv).toNat ≤ 32767
  queue : (s.tunnel tid).inQueue = some q
  room : (s.placeBank (s.egq (s.tunnel tid).client q).recent).isSome = true
  empty : s.marl.writeBuf = []

/-- A change of the ports that leaves the TUN alone. -/
theorem State.TakesCell.of_portsOnly {s t : State} {p tid q : Nat} {f : DataFlit} (h : s.TakesCell p f tid q) (only : State.PortsOnly s t)
    (tun : (t.port p).tun f.tun = (s.port p).tun f.tun) : t.TakesCell p f tid q := by
  have tunnel := only.tunnel tid
  constructor
  case numbered => exact h.numbered
  case held => exact (only.tidOf p _).trans h.held
  case opened => rw [tunnel]; exact h.opened
  case inbound => rw [tunnel]; exact h.inbound
  case plain => rw [tunnel]; exact h.plain
  case pri => rw [tunnel]; exact h.pri
  case credit => rw [tun]; exact h.credit
  case ahead => rw [tun]; exact h.ahead
  case queue => rw [tunnel]; exact h.queue
  case room => rw [tunnel, only.egq, only.placeBank]; exact h.room
  case empty => rw [only.marl]; exact h.empty

section
variable {s : State} {p : Nat} {f : DataFlit}

theorem State.dataPayload_unheld (numbered : f.tun ≠ 0) (unheld : s.tidOf p f.tun = none) : s.dataPayload p f = s.protoDrop p f.tun := by
  simp only [State.dataPayload, if_neg numbered, unheld]

variable {tid q : Nat} (h : s.TakesCell p f tid q)
include h

theorem State.dataPayload_enqueues :
    s.dataPayload p f = (s.tookFlit p f.tun).enqueueCell (s.tunnel tid).client q tid (f.cell (s.tunnel tid)) := by
  have credit : (((s.port p).tun f.tun).granted - ((s.port p).tun f.tun).recv).toNat ≠ 0 := by
    intro e
    have zero : ((s.port p).tun f.tun).granted - ((s.port p).tun f.tun).recv = 0#16 := BitVec.eq_of_toNat_eq e
    exact h.credit (by simpa [BitVec.sub_eq_iff_eq_add] using zero)
  simp only [State.dataPayload, if_neg h.numbered, h.held, h.opened, h.inbound, decide_eq_false credit, decide_eq_false (Nat.not_lt.mpr h.ahead), ← h.pri,
    if_neg h.plain, h.queue, reduceCtorEq, ne_eq, not_true_eq_false, decide_false, Bool.not_true, Bool.or_self, Bool.false_eq_true, if_false]
  rfl

/-- R66, R83: the flit counts as received, and its cell is the last of its flow. -/
theorem State.dataPayload_enters : (s.dataPayload p f).port p = (s.port p).modTun f.tun (fun t => { t with recv := t.recv + 1 })
    ∧ CellIn s (s.dataPayload p f) (s.tunnel tid).client q tid fun c =>
        c.payload = f.payload ∧ c.bl = f.bl ∧ c.poison = f.poison ∧ c.gen = (s.tunnel tid).gen ∧ c.cls = (s.tunnel tid).cls := by
  have only : State.PortsOnly s (s.tookFlit p f.tun) := .modPort s p _
  have took : (s.tookFlit p f.tun).port p = (s.port p).modTun f.tun fun t => { t with recv := t.recv + 1 } := State.port_modPort_same ..
  rw [State.dataPayload_enqueues h]
  generalize s.tookFlit p f.tun = v at *
  obtain ⟨bank, enqueued⟩ := State.enqueueCell_of_room (s := v) (a := (s.tunnel tid).client) (q := q) (by rw [only.marl]; exact h.empty)
    (by rw [only.egq, only.placeBank]; exact h.room) tid (f.cell (s.tunnel tid))
  rw [enqueued]
  refine ⟨(State.port_congr (State.writeCell_ports ..) p).trans took, only.cellIn ?_⟩
  obtain ⟨c, flow, rfl, enq, tunnels⟩ := v.writeCell_cellIn (s.tunnel tid).client q tid bank ((f.cell (s.tunnel tid)).arrived tid v.now)
  exact ⟨_, flow, ⟨rfl, rfl, rfl, rfl, rfl⟩, enq, tunnels⟩

end

/-! ## The SEQ of a DATA flit (R61 to R63) -/

/-- R63: the receiver after a flit with the awaited SEQ. -/
def RxState.accept (r : RxState) (f : DataFlit) : RxState :=
  { r with e := r.e + 1, b := if f.bl then r.e + 1 else r.b, ackValid := r.ackValid || f.bl, retryWait := false, nakDue := none
           burstTun := f.tun, burstPri := f.pri, burstLen := if f.bl then 0 else r.burstLen + 1
           nakRun := if f.bl then 0 else r.nakRun, recvCycle := r.recvCycle + 1 }

/-- R61, R62: the flit is accepted, and with BL acknowledged. -/
def State.dataAccepted (s : State) (p : Nat) (f : DataFlit) : State :=
  let u := s.modPort p fun x => { x with rx := (s.port p).rx.accept f }
  if f.bl then u.sendAck p true else u

theorem State.dataAccepted_accepts (s : State) (p : Nat) (f : DataFlit) : State.PortsOnly s (s.dataAccepted p f) ∧ ∃ due acks,
    (s.dataAccepted p f).port p = { s.port p with rx := { (s.port p).rx.accept f with ackDue := due }
                                                  tx := { (s.port p).tx with ctrl := (s.port p).tx.ctrl ++ acks } }
      ∧ (f.bl = true → due = some (s.after 10000) ∧ acks ≠ []) := by
  let u := s.modPort p fun x => { x with rx := (s.port p).rx.accept f }
  have only : State.PortsOnly s u := .modPort s p _
  have own : u.port p = { s.port p with rx := (s.port p).rx.accept f } := State.port_modPort_same ..
  have after : u.after 10000 = s.after 10000 := only.after _
  have ran : s.dataAccepted p f = if f.bl then u.sendAck p true else u := rfl
  rw [ran]
  cases f.bl with
  | true =>
    obtain ⟨acked, kept⟩ := u.sendAck_acks p true
    rw [own, after] at acked
    exact ⟨only.trans kept, _, _, acked, fun _ => ⟨rfl, List.cons_ne_nil _ _⟩⟩
  | false => exact ⟨only, (s.port p).rx.ackDue, [], by rw [List.append_nil]; exact own, fun e => nomatch e⟩

section
variable {s : State} {p : Nat} {f : DataFlit}

theorem State.dataIn_next (next : f.seq = (s.port p).rx.e)
    (burst : (s.port p).rx.burstLen = 0 ∨ f.tun = (s.port p).rx.burstTun ∧ f.pri = (s.port p).rx.burstPri ∧ (s.port p).rx.burstLen < 16) :
    s.dataIn p f = (s.dataAccepted p f).dataPayload p f := by
  have goesOn : (decide (16 ≤ (s.port p).rx.burstLen)
      || (decide ((s.port p).rx.burstLen ≠ 0) && (decide (f.tun ≠ (s.port p).rx.burstTun) || decide (f.pri ≠ (s.port p).rx.burstPri)))) = false := by
    obtain first | ⟨tun, pri, short⟩ := burst
    · simp [first]
    · simp [tun, pri, short]
  simp only [State.dataIn, if_pos next, goesOn]
  rfl

/-- R63: a flit that E has passed. -/
theorem State.dataIn_passed (other : f.seq ≠ (s.port p).rx.e) (passed : ((s.port p).rx.e - f.seq).toNat ≤ 2048) : s.dataIn p f = s := by
  simp only [State.dataIn, if_neg other, if_pos passed]

/-- R63: a flit beyond E. -/
theorem State.dataIn_beyond (other : f.seq ≠ (s.port p).rx.e) (beyond : 2048 < ((s.port p).rx.e - f.seq).toNat) : s.dataIn p f = s.onError p := by
  simp only [State.dataIn, if_neg other, if_neg (Nat.not_le.mpr beyond)]

theorem State.onError_waits (waits : (s.port p).rx.retryWait = true) : s.onError p = s := if_pos waits

theorem State.onError_asks (waits : (s.port p).rx.retryWait = false) : s.onError p = s.sendNak p := if_neg (by rw [waits]; exact Bool.false_ne_true)

end

/-! ## Bad flits (R59, R63, R65) -/

/-- R59: a bad flit is counted on its lane. -/
def State.badCounted (s : State) (p l : Nat) : State := s.modPort p fun x => x.modLane l fun v => { v with badFlit := v.badFlit + 1 }

theorem State.port_badCounted (s : State) (p l : Nat) : (s.badCounted p l).port p = (s.port p).modLane l fun v => { v with badFlit := v.badFlit + 1 } :=
  State.port_modPort_same ..

theorem State.badCounted_rx (s : State) (p l : Nat) : ((s.badCounted p l).port p).rx = (s.port p).rx := by
  rw [State.port_badCounted, Port.modLane_rx]

theorem State.badCounted_train (s : State) (p l : Nat) : ((s.badCounted p l).port p).train = (s.port p).train := by
  rw [State.port_badCounted, Port.modLane_train]

section
variable {p : Fin 12} {l : Fin 4} {s : State}

section
variable (active : (s.port p).train.state = .active)
include active

theorem exec_badFlit : exec (.badFlit p l) s = .next ((s.badCounted p l).onError p) := if_pos (State.linkUp_iff.mpr active)

theorem badFlit_counts (waits : (s.port p).rx.retryWait = true) : Gives (.badFlit p l) s fun t =>
      t = s.modPort p fun x => x.modLane l fun v => { v with badFlit := v.badFlit + 1 } :=
  Gives.of_eq (exec_badFlit active) (State.onError_waits (by rw [State.badCounted_rx]; exact waits))

section
variable (asks : (s.port p).rx.retryWait = false)
include asks

theorem exec_badFlit_asks : exec (.badFlit p l) s = .next ((s.badCounted p l).sendNak p) := by
  rw [exec_badFlit active, State.onError_asks (by rw [State.badCounted_rx]; exact asks)]

theorem badFlit_asks (few : (s.port p).rx.nakSeq = some (s.port p).rx.b → (s.port p).rx.nakRun < 7) : Gives (.badFlit p l) s fun t =>
      ((t.port p).lane l).badFlit = ((s.port p).lane l).badFlit + 1 ∧ (t.port p).rx.retryWait = true ∧ (t.port p).rx.nakSeq = some (s.port p).rx.b
        ∧ (t.port p).rx.nakDue = some (s.after (s.port p).replayNs)
        ∧ (t.port p).tx.ctrl = (s.port p).tx.ctrl ++ [{ typ := 2, payload := ackPayload (s.port p).rx (some (s.port p).rx.b) }]
        ∧ (t.port p).rx.e = (s.port p).rx.e ∧ t = { s with ports := t.ports } := by
  have rx := s.badCounted_rx p l
  have replay : ((s.badCounted p l).port p).replayNs = (s.port p).replayNs := by rw [Port.replayNs, State.badCounted_train]; rfl
  have tx : ((s.badCounted p l).port p).tx = (s.port p).tx := by rw [State.port_badCounted, Port.modLane_tx]
  have lane : (((s.badCounted p l).port p).lane l).badFlit = ((s.port p).lane l).badFlit + 1 := by
    rw [State.port_badCounted, Port.lane_modLane_same _ _ l.isLt]
  have counted : State.PortsOnly s (s.badCounted p l) := .modPort s p _
  obtain ⟨own, only⟩ := State.sendNak_asks (s := s.badCounted p l) (p := p) (by rw [rx]; exact few)
  refine Gives.of_eq (exec_badFlit_asks active asks) ?_
  rw [rx, replay, tx, counted.after] at own
  have kept := counted.trans only
  generalize (s.badCounted p l).sendNak p = t at *
  rw [own]
  exact ⟨lane, rfl, rfl, rfl, rfl, rfl, kept⟩

theorem badFlit_exhausts (again : (s.port p).rx.nakSeq = some (s.port p).rx.b) (many : 7 ≤ (s.port p).rx.nakRun) : Gives (.badFlit p l) s fun t =>
      (t.port p).train.state = .detect ∧ (t.port p).train.trainId = (s.port p).train.trainId + 1 := by
  have rx := s.badCounted_rx p l
  have train := s.badCounted_train p l
  have exhausts := State.sendNak_exhausts (s := s.badCounted p l) (p := p) (by rw [State.linkUp_iff, train]; exact active) (by rw [rx]; exact again)
    (by rw [rx]; exact many)
  rw [train] at exhausts
  exact Gives.of_eq (exec_badFlit_asks active asks) exhausts

end
end

/-! ## DATA flits (R61 to R63, R66) -/

variable {b : List Byte}

section
variable (active : (s.port p).train.state = .active) (good : flitGood b = true) (typed : flitType b = 1)
include active good typed

theorem exec_dataFlitReceived : exec (.dataFlitReceived p l b) s = .next ((s.alive p).dataIn p (parseData b)) := by
  refine (congrArg Host.Outcome.next (State.flitIn_of_good active good _)).trans ?_
  simp only [typed]

theorem dataFlit_passed (other : (parseData b).seq ≠ (s.port p).rx.e) (passed : ((s.port p).rx.e - (parseData b).seq).toNat ≤ 2048) :
    Gives (.dataFlitReceived p l b) s fun t =>
      t = s.setPort p { s.port p with rx := { (s.port p).rx with linkDue := some (s.after (100000 * (s.port p).toForce)) } } := by
  have heard := s.port_alive p
  exact Gives.of_eq (exec_dataFlitReceived active good typed) (State.dataIn_passed (by rw [heard]; exact other) (by rw [heard]; exact passed))

theorem dataFlit_beyond (other : (parseData b).seq ≠ (s.port p).rx.e) (beyond : 2048 < ((s.port p).rx.e - (parseData b).seq).toNat)
    (asks : (s.port p).rx.retryWait = false) (few : (s.port p).rx.nakSeq = some (s.port p).rx.b → (s.port p).rx.nakRun < 7) :
    Gives (.dataFlitReceived p l b) s fun t =>
      (t.port p).rx.retryWait = true ∧ (t.port p).rx.e = (s.port p).rx.e ∧ (s.port p).tx.ctrl.length < (t.port p).tx.ctrl.length ∧ t.tunnels = s.tunnels
        ∧ t.marl = s.marl := by
  have heard := s.port_alive p
  have ran : (s.alive p).dataIn p (parseData b) = (s.alive p).sendNak p :=
    (State.dataIn_beyond (by rw [heard]; exact other) (by rw [heard]; exact beyond)).trans (State.onError_asks (by rw [heard]; exact asks))
  obtain ⟨own, only⟩ := State.sendNak_asks (s := s.alive p) (p := p) (by rw [heard]; exact few)
  have kept := (State.PortsOnly.alive s p).trans only
  refine Gives.of_eq (exec_dataFlitReceived active good typed) ?_
  rw [ran]
  generalize (s.alive p).sendNak p = t at *
  rw [own, heard]
  refine ⟨rfl, rfl, ?_, kept.tunnels, kept.marl⟩
  rw [List.length_append]
  exact Nat.lt_succ_self _

/-- R61 to R63: what a flit with the awaited SEQ leaves of the port, before its payload is looked at. -/
theorem dataFlit_accepted : let f := parseData b
    f.seq = (s.port p).rx.e → ((s.port p).rx.burstLen = 0 ∨ f.tun = (s.port p).rx.burstTun ∧ f.pri = (s.port p).rx.burstPri ∧ (s.port p).rx.burstLen < 16) →
    ∃ u due acks, exec (.dataFlitReceived p l b) s = .next (u.dataPayload p f) ∧ State.PortsOnly s u
      ∧ u.port p = { s.port p with rx := { (((s.port p).heard (s.after (100000 * (s.port p).toForce))).rx.accept f) with ackDue := due }
                                   tx := { (s.port p).tx with ctrl := (s.port p).tx.ctrl ++ acks } }
      ∧ (f.bl = true → due = some (s.after 10000) ∧ acks ≠ []) := by
  intro f next burst
  have heard := s.port_alive p
  have alive := State.PortsOnly.alive s p
  have ran : (s.alive p).dataIn p f = ((s.alive p).dataAccepted p f).dataPayload p f :=
    State.dataIn_next (by rw [heard]; exact next) (by rw [heard]; exact burst)
  obtain ⟨only, due, acks, own, acked⟩ := (s.alive p).dataAccepted_accepts p f
  rw [heard] at own
  rw [alive.after] at acked
  exact ⟨_, due, acks, (exec_dataFlitReceived active good typed).trans (congrArg Host.Outcome.next ran), alive.trans only, own, acked⟩

theorem dataFlit_unheld : let f := parseData b
    f.seq = (s.port p).rx.e → ((s.port p).rx.burstLen = 0 ∨ f.tun = (s.port p).rx.burstTun ∧ f.pri = (s.port p).rx.burstPri ∧ (s.port p).rx.burstLen < 16) →
    f.tun ≠ 0 → s.tidOf p f.tun = none → Gives (.dataFlitReceived p l b) s fun t =>
      (t.port p).rx.e = (s.port p).rx.e + 1 ∧ ((t.port p).tun f.tun).protoDrop = ((s.port p).tun f.tun).protoDrop + 1
        ∧ ((t.port p).tun f.tun).recv = ((s.port p).tun f.tun).recv ∧ t = { s with ports := t.ports } := by
  intro f next burst numbered unheld
  obtain ⟨u, due, acks, ran, only, own, -⟩ := dataFlit_accepted (l := l) active good typed next burst
  rw [State.dataPayload_unheld numbered ((only.tidOf p _).trans unheld)] at ran
  refine Gives.of_eq ran ?_
  have dropped : (u.protoDrop p f.tun).port p = (u.port p).modTun f.tun fun t => { t with protoDrop := t.protoDrop + 1 } := State.port_modPort_same ..
  have kept : State.PortsOnly s (u.protoDrop p f.tun) := only.trans (.modPort u p _)
  generalize u.protoDrop p f.tun = t at *
  rw [dropped, Port.tun_modTun, if_pos rfl, own]
  exact ⟨rfl, rfl, rfl, kept⟩

theorem dataFlit_cell {tid q : Nat} : let f := parseData b
    let u := (s.port p).tun f.tun
    f.seq = (s.port p).rx.e → ((s.port p).rx.burstLen = 0 ∨ f.tun = (s.port p).rx.burstTun ∧ f.pri = (s.port p).rx.burstPri ∧ (s.port p).rx.burstLen < 16) →
    f.tun ≠ 0 → s.tidOf p f.tun = some tid → (s.tunnel tid).state = .opened → (s.tunnel tid).dirs.getLsbD 1 = true → (s.tunnel tid).cls ≠ 1 →
    f.pri = classPri (s.tunnel tid).cls (s.tunnel tid).periodic → u.granted ≠ u.recv → (u.granted - u.recv).toNat ≤ 32767 →
    (s.tunnel tid).inQueue = some q → (s.placeBank (s.egq (s.tunnel tid).client q).recent).isSome = true → s.marl.writeBuf = [] →
    Gives (.dataFlitReceived p l b) s fun t =>
      (t.port p).rx.e = (s.port p).rx.e + 1 ∧ (t.port p).rx.b = (if f.bl then (s.port p).rx.e + 1 else (s.port p).rx.b) ∧ (t.port p).rx.retryWait = false
        ∧ ((t.port p).tun f.tun).recv = u.recv + 1 ∧ (∀ k, k ≠ f.tun → (t.port p).tun k = (s.port p).tun k)
        ∧ (f.bl = true → (s.port p).tx.ctrl.length < (t.port p).tx.ctrl.length ∧ (t.port p).rx.ackDue = some (s.after 10000))
        ∧ CellIn s t (s.tunnel tid).client q tid fun c => c.payload = f.payload ∧ c.bl = f.bl ∧ c.poison = f.poison ∧ c.gen = (s.tunnel tid).gen
            ∧ c.cls = (s.tunnel tid).cls := by
  intro f x next burst numbered held opened inbound plain pri credit ahead queue room empty
  obtain ⟨u, due, acks, ran, only, own, acked⟩ := dataFlit_accepted (l := l) active good typed next burst
  have tun (k : Nat) : (u.port p).tun k = (s.port p).tun k := by rw [own]; rfl
  have takes : s.TakesCell p f tid q := ⟨numbered, held, opened, inbound, plain, pri, credit, ahead, queue, room, empty⟩
  obtain ⟨port, enters⟩ := State.dataPayload_enters (takes.of_portsOnly only (tun f.tun))
  rw [only.tunnel] at enters
  refine Gives.of_eq ran ?_
  generalize u.dataPayload p f = t at *
  have rx : (t.port p).rx = (u.port p).rx := by rw [port]; rfl
  have tx : (t.port p).tx = (u.port p).tx := by rw [port]; rfl
  rw [rx, tx, port]
  refine ⟨by rw [own]; rfl, by rw [own]; rfl, by rw [own]; rfl, ?_, fun k other => ?_, fun last => ?_, only.cellIn enters⟩
  · rw [Port.tun_modTun, if_pos rfl, tun]
  · rw [Port.tun_modTun, if_neg other, tun]
  · obtain ⟨now, some'⟩ := acked last
    rw [own, List.length_append]
    exact ⟨Nat.lt_add_of_pos_right (List.length_pos_iff.mpr some'), now⟩

end

/-- On a link that is not ACTIVE no flit is received. -/
theorem flits_down (down : (s.port p).train.state ≠ .active) : exec (.dataFlitReceived p l b) s = .next s ∧ exec (.badFlit p l) s = .next s
    ∧ exec (.ackReceived p l b) s = .next s ∧ exec (.creditReceived p l b) s = .next s := by
  have off : s.linkUp p = false := State.linkUp_false_iff.mpr down
  have none' (f : State → State) : s.flitIn p l b f = s := if_pos (by rw [off]; rfl)
  exact ⟨congrArg Host.Outcome.next (none' _), if_neg (by rw [off]; exact Bool.false_ne_true), congrArg Host.Outcome.next (none' _),
    congrArg Host.Outcome.next (none' _)⟩

end

/-- Settles O45: each clause is what its lemma above gives. -/
theorem dataFlitsReceived : Obligations.DataFlitsReceived := by
  unfold Obligations.DataFlitsReceived
  refine ⟨?counts, ?asks, ?exhausts, ?cell, ?unheld, ?passed, ?beyond, ?down⟩
  case counts => exact fun _ _ _ active waits => badFlit_counts active waits
  case asks => exact fun _ _ _ active asks few => badFlit_asks active asks few
  case exhausts => exact fun _ _ _ active asks again many => badFlit_exhausts active asks again many
  case cell => exact fun _ _ _ _ _ _ active good typed => dataFlit_cell active good typed
  case unheld => exact fun _ _ _ _ active good typed => dataFlit_unheld active good typed
  case passed => exact fun _ _ _ _ active good typed other passed => dataFlit_passed active good typed other passed
  case beyond => exact fun _ _ _ _ active good typed other beyond asks few => dataFlit_beyond active good typed other beyond asks few
  case down => exact fun _ _ _ _ down => flits_down down

end Sys2Proof.Machine
end

section
/-! PROOFS. The canonical forms of the byte memories, the tunnel and slice tables, the memory regions and the cores, and the updates of the state that keep them (R98, R306, R354, R397). -/

set_option Elab.async false

namespace Sys2Proof.Machine

/-! ## The canonical forms (R98, R306, R354, R397) -/

/-- What `State.wf` asks, with a name for each part: the byte memories, the tunnel and slice tables, the regions and the cores. -/
structure State.Canonical (s : State) : Prop where
  mgmtBuf : Tab.wf 0 s.mgmt.buf = true
  flash : Tab.wf 0xFF s.boot.flash = true
  dmaBuf : Tab.wf 0 s.mem.dmaBuf = true
  epBuf : Tab.wf 0 s.mem.epBuf = true
  prog : Tab.wf 0 s.xfer.prog = true
  tunnels : Tab.wf {} s.tunnels = true
  slices : Tab.wf {} s.hosts.slices = true
  regions : s.mem.regions.length = 5
  cores : s.cluster.cores.length = 9

theorem State.canonical_iff {s : State} : s.Canonical ↔ s.wf = true := by
  simp only [State.wf, State.memWf, State.tunWf, State.sliceWf, Bool.and_eq_true, decide_eq_true_eq]
  exact ⟨fun w => ⟨⟨⟨⟨⟨⟨⟨⟨w.mgmtBuf, w.flash⟩, w.dmaBuf⟩, w.epBuf⟩, w.prog⟩, w.tunnels⟩, w.slices⟩, w.regions⟩, w.cores⟩,
    fun ⟨⟨⟨⟨⟨⟨⟨⟨mgmtBuf, flash⟩, dmaBuf⟩, epBuf⟩, prog⟩, tunnels⟩, slices⟩, regions⟩, cores⟩ =>
      ⟨mgmtBuf, flash, dmaBuf, epBuf, prog, tunnels, slices, regions, cores⟩⟩

/-- If the outcome is a next state, that state is in canonical form. -/
def NextCanonical (o : Result) : Prop := ∀ t, o = .next t → t.Canonical

/-- If there is a state, it is in canonical form. -/
def SomeCanonical (o : Option State) : Prop := ∀ t, o = some t → t.Canonical

/-- The state that an instruction ends with is in canonical form. -/
def DmaOut.Canonical : DmaOut → Prop
  | .done s => s.Canonical
  | .hold s => s.Canonical
  | .stop s _ _ _ => s.Canonical

theorem listMod_length {α : Type} (f : α → α) : ∀ (i : Nat) (l : List α), (listMod f i l).length = l.length
  | i, [] => by cases i <;> rfl
  | 0, _ :: _ => rfl
  | i + 1, _ :: l => congrArg (· + 1) (listMod_length f i l)

theorem Tab.above_filter {α : Type} (k : Nat) (p : Nat × α → Bool) (t : List (Nat × α)) (a : Tab.above k t = true) : Tab.above k (t.filter p) = true := by
  induction t with
  | nil => rfl
  | cons e t ih =>
    simp only [Tab.above, Bool.and_eq_true] at a
    rw [List.filter_cons]
    split
    · simp only [Tab.above, Bool.and_eq_true]
      exact ⟨a.1, ih a.2⟩
    · exact ih a.2

/-- Entries taken out leave the canonical form. -/
theorem Tab.wf_filter {α : Type} [DecidableEq α] (d : α) (p : Nat × α → Bool) (t : List (Nat × α)) (w : Tab.wf d t = true) :
    Tab.wf d (t.filter p) = true := by
  induction t with
  | nil => rfl
  | cons e t ih =>
    simp only [Tab.wf, Bool.and_eq_true] at w
    obtain ⟨⟨other, above⟩, rest⟩ := w
    rw [List.filter_cons]
    split
    · simp only [Tab.wf, Bool.and_eq_true]
      exact ⟨⟨other, Tab.above_filter _ p t above⟩, ih rest⟩
    · exact ih rest

theorem eraseRange_wf (off len : Nat) (t : List (Nat × Byte)) (w : Tab.wf 0xFF t = true) : Tab.wf 0xFF (eraseRange off len t) = true :=
  Tab.wf_filter 0xFF _ t w

namespace State.Canonical

variable {s t : State}

/-- An update that leaves every byte memory, tunnel, slice, region and core alone. -/
theorem of_stores (w : s.Canonical)
    (mgmtBuf : t.mgmt.buf = s.mgmt.buf := by rfl) (flash : t.boot.flash = s.boot.flash := by rfl)
    (dmaBuf : t.mem.dmaBuf = s.mem.dmaBuf := by rfl) (epBuf : t.mem.epBuf = s.mem.epBuf := by rfl)
    (prog : t.xfer.prog = s.xfer.prog := by rfl) (tunnels : t.tunnels = s.tunnels := by rfl)
    (slices : t.hosts.slices = s.hosts.slices := by rfl) (regions : t.mem.regions = s.mem.regions := by rfl)
    (cores : t.cluster.cores = s.cluster.cores := by rfl) : t.Canonical :=
  ⟨mgmtBuf ▸ w.mgmtBuf, flash ▸ w.flash, dmaBuf ▸ w.dmaBuf, epBuf ▸ w.epBuf, prog ▸ w.prog, tunnels ▸ w.tunnels, slices ▸ w.slices,
    regions ▸ w.regions, cores ▸ w.cores⟩

/-! ## How updates are put together -/

theorem ite {c : Prop} {inst : Decidable c} (ht : s.Canonical) (hu : t.Canonical) : (if c then s else t).Canonical := by
  split_ifs <;> assumption

theorem iteFst {α : Type} {c : Prop} {inst : Decidable c} {p q : State × α} (hp : p.1.Canonical) (hq : q.1.Canonical) :
    (if c then p else q).1.Canonical := by
  split_ifs <;> assumption

theorem foldl {α : Type} {f : State → α → State} {l : List α} (w : s.Canonical) (hf : ∀ (t : State) (x : α), t.Canonical → (f t x).Canonical) :
    (l.foldl f s).Canonical := by
  induction l generalizing s with
  | nil => exact w
  | cons x l ih => exact ih (hf s x w)

theorem foldlFst {α β : Type} {f : State × β → α → State × β} {l : List α} {p : State × β} (w : p.1.Canonical)
    (hf : ∀ (q : State × β) (x : α), q.1.Canonical → (f q x).1.Canonical) : (l.foldl f p).1.Canonical := by
  induction l generalizing p with
  | nil => exact w
  | cons x l ih => exact ih (hf p x w)

theorem pair {α : Type} {x : α} (w : s.Canonical) : (s, x).1.Canonical := w

theorem next (w : s.Canonical) : NextCanonical (.next s) := fun | _, rfl => w

theorem given (w : s.Canonical) : SomeCanonical (Option.some s) := fun | _, rfl => w

theorem done (w : s.Canonical) : (DmaOut.done s).Canonical := w

theorem hold (w : s.Canonical) : (DmaOut.hold s).Canonical := w

theorem stop (w : s.Canonical) {cause addr bus} : (DmaOut.stop s cause addr bus).Canonical := w

end State.Canonical

theorem DmaOut.Canonical.ite {c : Prop} {inst : Decidable c} {o q : DmaOut} (ho : o.Canonical) (hq : q.Canonical) :
    (if c then o else q).Canonical := by
  split_ifs <;> assumption

theorem DmaOut.Canonical.of_done {o : DmaOut} {s : State} (w : o.Canonical) (e : o = .done s) : s.Canonical := (e ▸ w : (DmaOut.done s).Canonical)

theorem DmaOut.Canonical.of_hold {o : DmaOut} {s : State} (w : o.Canonical) (e : o = .hold s) : s.Canonical := (e ▸ w : (DmaOut.hold s).Canonical)

theorem DmaOut.Canonical.of_stop {o : DmaOut} {s : State} {cause addr bus} (w : o.Canonical) (e : o = .stop s cause addr bus) : s.Canonical :=
  (e ▸ w : (DmaOut.stop s cause addr bus).Canonical)

theorem SomeCanonical.none : SomeCanonical none := fun _ e => (Option.some_ne_none _ e.symm).elim

theorem SomeCanonical.ite {c : Prop} {inst : Decidable c} {o q : Option State} (ho : SomeCanonical o) (hq : SomeCanonical q) :
    SomeCanonical (if c then o else q) := by
  split_ifs <;> assumption

theorem SomeCanonical.getD {s : State} {o : Option State} (h : SomeCanonical o) (w : s.Canonical) : (o.getD s).Canonical := by
  cases o with
  | none => exact w
  | some t => exact h t rfl

theorem SomeCanonical.map {o : Option State} {f : State → State} (h : SomeCanonical o) (hf : ∀ t, t.Canonical → (f t).Canonical) :
    SomeCanonical (o.map f) := by
  rintro _ e
  obtain ⟨t, ht, rfl⟩ := Option.map_eq_some_iff.mp e
  exact hf t (h t ht)

theorem NextCanonical.nextOr {o : Result} {s : State} (h : NextCanonical o) (w : s.Canonical) : (nextOr o s).Canonical := by
  cases o with
  | next t => exact h t rfl
  | fault => exact w
  | refused => exact w

theorem NextCanonical.state {o : Result} {s : State} (h : NextCanonical o) (w : s.Canonical) : (Result.state s o).Canonical := by
  cases o with
  | next t => exact h t rfl
  | fault => exact w
  | refused => exact w

theorem NextCanonical.ite {c : Prop} {inst : Decidable c} {o q : Result} (ho : NextCanonical o) (hq : NextCanonical q) :
    NextCanonical (if c then o else q) := by
  split_ifs <;> assumption

namespace State.Canonical

variable {s t : State}

/-! ## The tables of the state -/

theorem setPort (w : s.Canonical) {p v} : (s.setPort p v).Canonical := w.of_stores

theorem modPort (w : s.Canonical) {p f} : (s.modPort p f).Canonical := w.setPort

theorem setTunnel (w : s.Canonical) {tid v} : (s.setTunnel tid v).Canonical := { w with tunnels := Tab.wf_set {} tid v _ w.tunnels }

theorem modTunnel (w : s.Canonical) {tid f} : (s.modTunnel tid f).Canonical := w.setTunnel

theorem modMarl (w : s.Canonical) {f} : (s.modMarl f).Canonical := w.of_stores

theorem modXfer (w : s.Canonical) {f : Xfer → Xfer} (prog : (f s.xfer).prog = s.xfer.prog := by rfl) : (s.modXfer f).Canonical :=
  w.of_stores (prog := prog)

theorem modCluster (w : s.Canonical) {f : Cluster → Cluster} (cores : (f s.cluster).cores = s.cluster.cores := by rfl) :
    (s.modCluster f).Canonical := w.of_stores (cores := cores)

theorem modPower (w : s.Canonical) {f} : (s.modPower f).Canonical := w.of_stores

theorem modMem (w : s.Canonical) {f : Mem → Mem} (dmaBuf : (f s.mem).dmaBuf = s.mem.dmaBuf := by rfl)
    (epBuf : (f s.mem).epBuf = s.mem.epBuf := by rfl) (regions : (f s.mem).regions = s.mem.regions := by rfl) : (s.modMem f).Canonical :=
  w.of_stores (dmaBuf := dmaBuf) (epBuf := epBuf) (regions := regions)

theorem modSilt (w : s.Canonical) {f} : (s.modSilt f).Canonical := w.of_stores

theorem modBoot (w : s.Canonical) {f : Boot → Boot} (flash : (f s.boot).flash = s.boot.flash := by rfl) : (s.modBoot f).Canonical :=
  w.of_stores (flash := flash)

theorem modEdge (w : s.Canonical) {f} : (s.modEdge f).Canonical := w.of_stores

theorem modMgmt (w : s.Canonical) {f : Mgmt → Mgmt} (buf : (f s.mgmt).buf = s.mgmt.buf := by rfl) : (s.modMgmt f).Canonical :=
  w.of_stores (mgmtBuf := buf)

theorem modClock (w : s.Canonical) {f} : (s.modClock f).Canonical := w.of_stores

theorem modHosts (w : s.Canonical) {f : Hosts → Hosts} (slices : (f s.hosts).slices = s.hosts.slices := by rfl) : (s.modHosts f).Canonical :=
  w.of_stores (slices := slices)

theorem setHp (w : s.Canonical) {h v} : (s.setHp h v).Canonical := .ite w.of_stores w.of_stores

theorem modHp (w : s.Canonical) {h f} : (s.modHp h f).Canonical := w.setHp

theorem setSlice (w : s.Canonical) {h sl v} : (s.setSlice h sl v).Canonical := { w with slices := Tab.wf_set {} _ v _ w.slices }

theorem modSlice (w : s.Canonical) {h sl f} : (s.modSlice h sl f).Canonical := w.setSlice

theorem modCore (w : s.Canonical) {c f} : (s.modCore c f).Canonical := { w with cores := (listMod_length f c _).trans w.cores }

theorem modRegion (w : s.Canonical) {r f} : (s.modRegion r f).Canonical := { w with regions := (listMod_length f r _).trans w.regions }

end State.Canonical
end Sys2Proof.Machine
end

section
/-! PROOFS. Every operation of the model keeps the canonical forms, file by file of the model; so does every command and event, and every step. Each lemma is put together, as its operation is, from the lemmas about the operations it calls. -/

set_option Elab.async false

namespace Sys2Proof.Machine
namespace State.Canonical

variable {s t : State}

/-! ## Ops -/

theorem setQp (w : s.Canonical) {h sl q v} : (s.setQp h sl q v).Canonical := w.modHosts

theorem modQp (w : s.Canonical) {h sl q f} : (s.modQp h sl q f).Canonical := w.setQp

theorem setRoot (w : s.Canonical) {r v} : (s.setRoot r v).Canonical := w.modXfer

theorem modRoot (w : s.Canonical) {r f} : (s.modRoot r f).Canonical := w.setRoot

theorem setEp (w : s.Canonical) {e v} : (s.setEp e v).Canonical := w.modXfer

theorem modEp (w : s.Canonical) {e f} : (s.modEp e f).Canonical := w.setEp

theorem setDslot (w : s.Canonical) {n v} : (s.setDslot n v).Canonical := w.modXfer

theorem setFn (w : s.Canonical) {n v} : (s.setFn n v).Canonical := w.modXfer

theorem modFn (w : s.Canonical) {n f} : (s.modFn n f).Canonical := w.setFn

theorem setCh (w : s.Canonical) {n v} : (s.setCh n v).Canonical := w.modXfer

theorem modCh (w : s.Canonical) {n f} : (s.modCh n f).Canonical := w.setCh

theorem setReady (w : s.Canonical) {p v} : (s.setReady p v).Canonical := w.modCluster

theorem setDelay (w : s.Canonical) {d v} : (s.setDelay d v).Canonical := w.modCluster

theorem setSrc (w : s.Canonical) {n v} : (s.setSrc n v).Canonical := w.modCluster

theorem setAlarm (w : s.Canonical) {a v} : (s.setAlarm a v).Canonical := w.modSilt

theorem modNet (w : s.Canonical) {n f} : (s.modNet n f).Canonical := w.modEdge

theorem modDpi (w : s.Canonical) {n f} : (s.modDpi n f).Canonical := w.modEdge

theorem send (w : s.Canonical) {o} : (s.send o).Canonical := w.of_stores

theorem tickFree (w : s.Canonical) : s.tickFree.Canonical := w.of_stores

theorem trace (w : s.Canonical) {agent group object} : (s.trace agent group object).Canonical :=
  .ite (.ite w.modSilt.tickFree w.modSilt.tickFree) w

theorem enqueue (w : s.Canonical) {it} : (s.enqueue it).Canonical := w.setReady

theorem raiseSrc (w : s.Canonical) {n x} : (s.raiseSrc n x).Canonical := .ite w.setSrc.modCluster w.setSrc.modCluster.enqueue

theorem wakeNow (w : s.Canonical) {code} : (s.wakeNow code).Canonical := by
  simp only [State.wakeNow]
  split
  · exact .ite w w.modPower
  · exact w
  · exact w.modPower

theorem wakeCfg (w : s.Canonical) {b} : (s.wakeCfg b).Canonical := .ite w.wakeNow w

theorem event (w : s.Canonical) {n} : (s.event n).Canonical := by
  simp only [State.event]
  refine .ite (w.wakeNow.ite w).modCluster ?_
  split
  · exact .ite (w.wakeNow.ite w).raiseSrc (w.wakeNow.ite w).setSrc
  · exact (w.wakeNow.ite w).setSrc
  · exact (w.wakeNow.ite w).setSrc

theorem level (w : s.Canonical) {n b} : (s.level n b).Canonical := .ite w.setSrc.event w.setSrc

theorem alarmOccur (w : s.Canonical) {a object cond} : (s.alarmOccur a object cond).Canonical :=
  .ite (w.setAlarm.modSilt.wakeCfg.ite w.setAlarm.modSilt).modHp.modHp.modMgmt.event (.ite w.setAlarm.modSilt.wakeCfg w.setAlarm.modSilt)

theorem alarmEnd (w : s.Canonical) {a} : (s.alarmEnd a).Canonical := w.setAlarm

theorem journalAlarm (w : s.Canonical) : s.journalAlarm.Canonical := .ite (.ite w w.alarmOccur.event) (.ite w.alarmEnd w)

theorem commit (w : s.Canonical) {r} : (s.commit r).Canonical := w.modSilt.journalAlarm

theorem commitNow (w : s.Canonical) {r} : (s.commitNow r).Canonical := .ite w.commit w.modSilt

theorem record (w : s.Canonical) {r} : (s.record r).Canonical := .ite w.commit (.ite w.modSilt w.modSilt)

theorem loamRecord (w : s.Canonical) {kind object old new} : (s.loamRecord kind object old new).Canonical := w.record

theorem fwChange (w : s.Canonical) {r act effect} (heffect : ∀ t, t.Canonical → (effect t).Canonical) :
    (s.fwChange r act effect).Canonical :=
  .ite (heffect _ w.commit) (.ite w w.modSilt)

theorem sendVec (w : s.Canonical) {h v} : (s.sendVec h v).Canonical := .ite (.ite w.setHp.send w.setHp) (.ite w.setHp w.send)

theorem sliceEvent (w : s.Canonical) {h sl bit q cause} : (s.sliceEvent h sl bit q cause).Canonical :=
  (w.setSlice.sendVec.ite w.setSlice).event.trace

theorem notice (w : s.Canonical) {h sl q tag st result} : (s.notice h sl q tag st result).Canonical :=
  .ite w.modSlice (.ite w.modSlice (.ite w.modSlice.setQp w.setQp))

theorem mgmtNotice (w : s.Canonical) {st result} : (s.mgmtNotice st result).Canonical := by
  have kept : (s.mgmt.overflowOut s.now).buf = s.mgmt.buf := by
    unfold Mgmt.overflowOut
    split <;> rfl
  refine w.modMgmt (Eq.trans ?_ kept)
  dsimp only
  split <;> rfl

theorem logPage (w : s.Canonical) {h sl page} : (s.logPage h sl page).Canonical :=
  .ite w (.ite w.setSlice (.ite w.send.setSlice w.send.setSlice))

theorem hostWrite (w : s.Canonical) {h sl addr bytes} : (s.hostWrite h sl addr bytes).Canonical :=
  .ite w.send (w.send.foldl fun _ _ v => v.logPage)

theorem noticeOwner (w : s.Canonical) {o q tag st result} : (s.noticeOwner o q tag st result).Canonical := by
  simp only [State.noticeOwner]
  split
  · exact w.notice
  · exact w.mgmtNotice

theorem startCmd (w : s.Canonical) {c op} : (s.startCmd c op).Canonical := .ite w w.modHosts

theorem endCmd (w : s.Canonical) {c op} : (s.endCmd c op).Canonical := w.modHosts

theorem markCommitted (w : s.Canonical) {c op} : (s.markCommitted c op).Canonical := w.modHosts

theorem markBegun (w : s.Canonical) {c op} : (s.markBegun c op).Canonical := w.modHosts

theorem deliver (w : s.Canonical) {c st detail result} : (s.deliver c st detail result).Canonical := by
  simp only [State.deliver]
  split
  · exact .ite w.setSlice.sendVec w.setSlice
  · exact .ite w.modQp w.modSlice
  · exact w.modMgmt
  · exact w
  · exact .ite w w.modBoot.trace
  · exact w
  · exact w.send

theorem complete (w : s.Canonical) {c op st detail result} : (s.complete c op st detail result).Canonical := .ite w.endCmd.deliver w

theorem completeOpt (w : s.Canonical) {c op st detail result} : (s.completeOpt c op st detail result).Canonical := by
  simp only [State.completeOpt]
  split
  · exact w.complete
  · exact w

theorem journalRefused (w : s.Canonical) {i c k} : (s.journalRefused i c k).Canonical := .ite w.commitNow w.modSilt

theorem command (w : s.Canonical) {i c k effect} (heffect : ∀ t, t.Canonical → (effect t).Canonical) :
    (s.command i c k effect).Canonical := by
  unfold State.command
  extract_lets s₁
  have started : s₁.Canonical := w.startCmd
  clear_value s₁
  refine .ite started ?_
  split
  · exact .ite (started.journalRefused.ite started).endCmd.deliver (.ite started.journalRefused started)
  · exact .ite (heffect _ started.markBegun)
      (.ite started.modSilt (.ite (heffect _ started.commitNow.markCommitted) (.ite started.modSilt started.modSilt.complete)))

theorem ok (w : s.Canonical) {c op result} : (s.ok c op result).Canonical := w.complete

theorem bufferWrite (w : s.Canonical) {c addr bytes} : (s.bufferWrite c addr bytes).Canonical := by
  unfold State.bufferWrite
  split
  · exact { w with mgmtBuf := Tab.wf_write 0 bytes addr _ w.mgmtBuf }
  · exact w.send
  · split
    · exact w.hostWrite
    · exact w

/-! ## Cluster -/

theorem endItem (w : s.Canonical) {c} : (s.endItem c).Canonical := w.modCore

theorem dispatchItem (w : s.Canonical) {p i k} : (s.dispatchItem p i k).Canonical := by
  simp only [State.dispatchItem]
  split
  · exact w.setReady.modCluster.modCore
  · exact w.setReady.modCluster

theorem exec_workItemDispatch (w : s.Canonical) {ended} : NextCanonical (execWorkItemDispatch ended s) := by
  simp only [execWorkItemDispatch]
  refine .ite (w.foldl fun _ _ v => .ite v.endItem v).next ?_
  split
  · exact (w.foldl fun _ _ v => .ite v.endItem v).dispatchItem.next
  · exact (w.foldl fun _ _ v => .ite v.endItem v).next

theorem exec_evcSourceAssert (w : s.Canonical) {src rise} : NextCanonical (execEvcSourceAssert src rise s) :=
  .ite w.level.next (w.event.ite w).next

theorem setUpSource (w : s.Canonical) {n g} : (s.setUpSource n g).Canonical := .ite w.raiseSrc (.ite w.setReady.setSrc w.setSrc)

theorem exec_evcInterruptTaken (w : s.Canonical) {src} : NextCanonical (execEvcInterruptTaken src s) := by
  simp only [execEvcInterruptTaken]
  split
  · refine .ite ?_ w.next
    split
    · split
      · exact (w.modCore.modCluster.ite w.modCore).next
      · exact w.next
    · exact w.next
  · exact w.next

theorem exec_evcClaim (w : s.Canonical) {src core} : NextCanonical (execEvcClaim src core s) :=
  .ite (w.setSrc.modCluster.ite w.setSrc).send.next w.next

theorem completeSrc (w : s.Canonical) {n} : (s.completeSrc n).Canonical := .ite w.raiseSrc w.setSrc

theorem exec_evcComplete (w : s.Canonical) {src} : NextCanonical (execEvcComplete src s) := by
  simp only [execEvcComplete]
  refine .ite ?_ w.next
  refine .next ?_
  refine .completeSrc ?_
  split
  · exact .ite w.modCore (.ite w.endItem w)
  · exact w

theorem exec_claimOverdue (w : s.Canonical) {src} : NextCanonical (execClaimOverdue src s) :=
  .ite w.setSrc.modCluster.event.trace.next w.next

theorem exec_directEnqueue (w : s.Canonical) {item} : NextCanonical (execDirectEnqueue item s) := .ite w.enqueue.next w.modCluster.next

theorem exec_delayInsert (w : s.Canonical) {list item d} : NextCanonical (execDelayInsert list item d s) :=
  .ite w.enqueue.next (.ite w.modCluster.next w.setDelay.modCluster.next)

theorem tickList (w : s.Canonical) {d} : (s.tickList d).Canonical := w.setDelay.foldl fun _ _ v => v.enqueue

theorem rebaseDelays (w : s.Canonical) {step} : (s.rebaseDelays step).Canonical := w.foldl fun _ _ v => v.setDelay

theorem exec_delayTick (w : s.Canonical) : NextCanonical (execDelayTick s) :=
  .ite (w.wakeNow.ite w).next (w.foldl fun _ _ v => v.tickList).next

theorem exec_delayCancel (w : s.Canonical) {list ident} : NextCanonical (execDelayCancel list ident s) :=
  (w.ite w.tickList).setDelay.send.next

theorem occupy (w : s.Canonical) {c k} : (s.occupy c k).Canonical := w.modCore

theorem rotate (w : s.Canonical) {out spare} : (s.rotate out spare).Canonical := w.modCore.occupy.modCluster.trace

theorem exec_coreRotation (w : s.Canonical) : NextCanonical (execCoreRotation s) := by
  simp only [execCoreRotation]
  split
  · exact .ite w.rotate.modCluster.next w.next
  · exact w.next

theorem exec_coreDrainDone (w : s.Canonical) {core} : NextCanonical (execCoreDrainDone core s) := .ite w.modCore.next w.next

theorem coreFaultAlarm (w : s.Canonical) {c} : (s.coreFaultAlarm c).Canonical := w.alarmOccur.event

theorem fillVacancy (w : s.Canonical) : s.fillVacancy.Canonical := by
  simp only [State.fillVacancy]
  split
  · exact .ite w.occupy.alarmEnd w.occupy
  · exact w

theorem startRollback (w : s.Canonical) {detail} : (s.startRollback detail).Canonical := .ite w.modBoot.modCluster w

theorem codeSettled (w : s.Canonical) : s.codeSettled.Canonical := { w with cores := (List.length_map ..).trans w.cores }

theorem updateDone (w : s.Canonical) : s.updateDone.Canonical := w.modBoot.codeSettled.completeOpt

theorem rollbackDone (w : s.Canonical) : s.rollbackDone.Canonical := (w.fwChange fun _ v => v).modBoot.codeSettled.completeOpt

theorem updateEnd (w : s.Canonical) : s.updateEnd.Canonical := by
  simp only [State.updateEnd]
  split
  · exact .ite w.updateDone w
  · exact .ite w.rollbackDone w
  · exact w

theorem exec_selfTestDone (w : s.Canonical) {core pass} : NextCanonical (execSelfTestDone core pass s) :=
  .ite w.next (.ite w.modCore.modBoot.fillVacancy.updateEnd.next (w.modCore.coreFaultAlarm.startRollback.ite w.modCore.coreFaultAlarm).next)

theorem exec_spareSelftestExpiry (w : s.Canonical) : NextCanonical (execSpareSelftestExpiry s) := by
  simp only [execSpareSelftestExpiry]
  split
  · exact .ite w.modCore.next w.next
  · exact w.next

theorem exec_faultedRetestExpiry (w : s.Canonical) {core} : NextCanonical (execFaultedRetestExpiry core s) :=
  .ite w.modCore.next w.next

theorem requeueHead (w : s.Canonical) {it} : (s.requeueHead it).Canonical := w.setReady

theorem releaseClaims (w : s.Canonical) {c keep} : (s.releaseClaims c keep).Canonical :=
  w.foldl (fun _ _ v => .ite v.setSrc (.ite v.raiseSrc v.setSrc))

theorem stopCore (w : s.Canonical) {c f} : (s.stopCore c f).Canonical := by
  simp only [State.stopCore]
  refine .releaseClaims ?_
  split
  · exact w.modCore.requeueHead
  · exact w.modCore

theorem faultCore (w : s.Canonical) {c} : (s.faultCore c).Canonical := by
  simp only [State.faultCore]
  refine .coreFaultAlarm ?_
  split
  · exact w.modCore.occupy
  · exact w.modCore.alarmOccur
  · exact w.modCore

theorem faultInUpdate (w : s.Canonical) {c} : (s.faultInUpdate c).Canonical :=
  .ite (.ite (w.modBoot.ite w).modCore.startRollback (w.modBoot.ite w).modCore) (.ite w.modBoot w)

theorem exec_coreFault (w : s.Canonical) {core} : NextCanonical (execCoreFault core s) := by
  simp only [execCoreFault]
  split
  · exact w.stopCore.faultCore.faultInUpdate.next
  · exact w.stopCore.faultCore.faultInUpdate.next
  · exact w.next

theorem abortServed (w : s.Canonical) {it} : (s.abortServed it).Canonical := by
  simp only [State.abortServed]
  split
  · split
    · exact w.complete
    · exact w
  · exact w

theorem exec_itemLimitOverrun (w : s.Canonical) {core} : NextCanonical (execItemLimitOverrun core s) := by
  simp only [execItemLimitOverrun]
  have faulty {it} : ((((s.stopCore core fun _ => none).abortServed it).alarmOccur 9 core false).event 0x1E1 |>.faultCore core).Canonical :=
    w.stopCore.abortServed.alarmOccur.event.faultCore
  split
  · exact .ite (.ite (faulty.startRollback.ite faulty.faultInUpdate).next w.stopCore.next) w.next
  · exact w.next

theorem exec_shlPeakClrLists (w : s.Canonical) : NextCanonical (execShlPeakClrLists s) := (w.foldl fun _ _ v => v.setReady).next

theorem exec_shlPeakClrDelay (w : s.Canonical) : NextCanonical (execShlPeakClrDelay s) := (w.foldl fun _ _ v => v.setDelay).next

/-! ## Mem -/

theorem upsetPage (w : s.Canonical) {region page upset} : (s.upsetPage region page upset).Canonical := w.modRegion

theorem pageWritten (w : s.Canonical) {region page} : (s.pageWritten region page).Canonical := w.modRegion

theorem startRepair (w : s.Canonical) {region bank row spare perm cmd} : (s.startRepair region bank row spare perm cmd).Canonical :=
  w.modRegion

theorem autoRepair (w : s.Canonical) {region page} : (s.autoRepair region page).Canonical := by
  simp only [State.autoRepair]
  refine .ite w ?_
  split
  · exact w.fwChange fun _ v => v.startRepair
  · exact w.alarmOccur

theorem noteCorrected (w : s.Canonical) {region page} : (s.noteCorrected region page).Canonical := .ite w.modRegion.autoRepair w.modRegion

theorem demandRead (w : s.Canonical) {region page} : (s.demandRead region page).Canonical := by
  simp only [State.demandRead]
  split
  · exact w.modRegion
  · exact w.modRegion.noteCorrected
  · exact w.modRegion

theorem loamRead (w : s.Canonical) {page} : (s.loamRead page).1.Canonical :=
  w.demandRead.pair.iteFst (w.demandRead.alarmOccur.demandRead.modRegion.pair.iteFst w.demandRead.alarmOccur.alarmOccur.pair)

theorem loamReads (w : s.Canonical) {pages} : (s.loamReads pages).1.Canonical := w.pair.foldlFst fun _ _ v => v.loamRead.pair

theorem storeBytes (w : s.Canonical) {region at' bytes put} (hput : ∀ lo piece t, t.Canonical → (put lo piece t).Canonical) :
    (s.storeBytes region at' bytes put).1.Canonical :=
  w.pair.iteFst (w.pair.foldlFst fun _ _ v =>
    have read := v.modRegion.demandRead
    (hput _ _ _ v.pageWritten).pair.iteFst (read.pair.iteFst (hput _ _ _ read.pageWritten).pair))

theorem throughBuffer (w : s.Canonical) {region at' bytes put} (hput : ∀ lo piece t, t.Canonical → (put lo piece t).Canonical) :
    (s.throughBuffer region at' bytes put).1.Canonical :=
  w.pair.iteFst ((w.storeBytes (fun _ _ _ v2 => hput _ _ _ v2)).foldl (fun _ _ v2 => v2.demandRead)).pair

theorem setBank (w : s.Canonical) {b v} : (s.setBank b v).Canonical := w.modMarl

theorem modBank (w : s.Canonical) {b f} : (s.modBank b f).Canonical := w.setBank

theorem retireBank (w : s.Canonical) {b cmd} : (s.retireBank b cmd).Canonical := by
  simp only [State.retireBank]
  refine .ite w.setBank.event ?_
  refine .setBank ?_
  split
  · exact .ite w.modMarl w.modBank
  · exact w.modMarl

theorem autoRetire (w : s.Canonical) {b} : (s.autoRetire b).Canonical :=
  .ite w (.ite w.modMarl (.ite w (w.fwChange fun _ v => v.retireBank)))

theorem latchedAuto (n : Nat) (w : s.Canonical) : (State.latchedAuto n s).Canonical := by
  induction n generalizing s with
  | zero => exact w
  | succ n ih =>
    unfold State.latchedAuto
    split
    · exact .ite (ih w.modMarl.autoRetire) w
    · exact w

theorem nextAuto (w : s.Canonical) : s.nextAuto.Canonical := w.latchedAuto _

theorem bankError (w : s.Canonical) {b ue} : (s.bankError b ue).Canonical := .ite w.setBank.autoRetire w.setBank

theorem exec_marlBankRetire (w : s.Canonical) {c} : NextCanonical (execMarlBankRetire c s) :=
  (w.command fun _ v => .ite v.retireBank.ok v.retireBank).next

theorem bankRetiredNow (w : s.Canonical) {b} : (s.bankRetiredNow b).Canonical := w.setBank.event.completeOpt.nextAuto

theorem exec_marlBankRetired (w : s.Canonical) {bank} : NextCanonical (execMarlBankRetired bank s) :=
  .ite (w.fwChange fun _ v => v.bankRetiredNow).next w.next

theorem exec_marlBankReadmit (w : s.Canonical) {c} : NextCanonical (execMarlBankReadmit c s) := (w.command fun _ v => v.modBank).next

theorem exec_bankReadmitDone (w : s.Canonical) {bank} : NextCanonical (execBankReadmitDone bank s) := by
  simp only [execBankReadmitDone]
  split
  · exact .ite w.next (w.setBank.modRegion.modMarl.ite w.setBank.modRegion).ok.next
  · exact w.next

theorem poisonCell (w : s.Canonical) {page} : (s.poisonCell page).Canonical := w.modMarl

theorem scrubPage (w : s.Canonical) {region page} : (s.scrubPage region page).Canonical := by
  simp only [State.scrubPage]
  split
  · exact w.modRegion.modRegion
  · exact .ite w.modRegion.noteCorrected.modRegion.bankError w.modRegion.noteCorrected.modRegion
  · exact .ite (w.modRegion.modRegion.modRegion.ite w.modRegion.modRegion.poisonCell).bankError w.modRegion.modRegion

theorem exec_scrubStep (w : s.Canonical) {region upset} : NextCanonical (execScrubStep region upset s) :=
  .ite w.next w.upsetPage.scrubPage.modRegion.next

theorem exec_conversionStep (w : s.Canonical) {region upset} : NextCanonical (execConversionStep region upset s) := by
  simp only [execConversionStep]
  refine .ite w.next ?_
  refine .next ?_
  refine .modRegion ?_
  split <;> exact w.upsetPage.modRegion

theorem exec_writeBack (w : s.Canonical) {region page} : NextCanonical (execWriteBack region page s) := .ite w.modRegion.next w.next

theorem exec_memEccCfg (w : s.Canonical) {c} : NextCanonical (execMemEccCfg c s) :=
  (w.command (fun _ v => (v.modRegion.modMarl.ite v.modRegion).ok)).next

theorem exec_memSoftRepair (w : s.Canonical) {c} : NextCanonical (execMemSoftRepair c s) := by
  simp only [execMemSoftRepair]
  refine .ite ?_ ?_
  · refine .next ?_
    refine .alarmOccur ?_
    refine .command w fun _ v => ?_
    split
    · exact v.startRepair
    · exact v
  · refine .next ?_
    refine .command w fun _ v => ?_
    split
    · exact v.startRepair
    · exact v

theorem exec_softRepairDone (w : s.Canonical) {region bank row} : NextCanonical (execSoftRepairDone region bank row s) := by
  simp only [execSoftRepairDone]
  split
  · exact (w.modRegion.modMem.ite w.modRegion).completeOpt.next
  · exact w.next

theorem exec_fuseProgram (w : s.Canonical) {c} : NextCanonical (execFuseProgram c s) :=
  (w.command fun _ v => .ite v.ok v.modMem).next

theorem exec_fuseBurnDone (w : s.Canonical) {good} : NextCanonical (execFuseBurnDone good s) := by
  simp only [execFuseBurnDone]
  split
  · exact .ite (w.modMem.modMem.ok.ite w.modMem.modMem).next w.modMem.modMem.complete.next
  · exact w.next

theorem exec_memFlipMask (w : s.Canonical) {c} : NextCanonical (execMemFlipMask c s) := (w.command fun _ v => v.modRegion.ok).next

theorem exec_fwSramUe (w : s.Canonical) {core page fetch} : NextCanonical (execFwSramUe core page fetch s) := by
  simp only [execFwSramUe]
  refine .ite (.ite w.modRegion.alarmOccur.modMem.stopCore.faultCore.faultInUpdate.next w.modRegion.alarmOccur.next) ?_
  split
  · split
    · split
      · exact w.modRegion.alarmOccur.endItem.complete.next
      · exact w.modRegion.alarmOccur.endItem.next
    · exact w.modRegion.alarmOccur.endItem.next
  · exact w.modRegion.alarmOccur.next

theorem exec_fwPageRewriteDone (w : s.Canonical) {page good} : NextCanonical (execFwPageRewriteDone page good s) := by
  simp only [execFwPageRewriteDone]
  split
  · exact .ite (w.modRegion.modMem.foldl fun _ _ v => v.requeueHead).next w.autoRepair.next
  · exact w.next

/-! ## Marl -/

theorem setEgq (w : s.Canonical) {agent q v} : (s.setEgq agent q v).Canonical := w.modMarl

theorem modEgq (w : s.Canonical) {agent q f} : (s.modEgq agent q f).Canonical := w.setEgq

theorem setPool (w : s.Canonical) {k v} : (s.setPool k v).Canonical := w.modMarl

theorem takeSpace (w : s.Canonical) {cls} : SomeCanonical (s.takeSpace cls) := .ite w.setPool.given (.ite w.setPool.modMarl.given (.none))

theorem takeSpaces (n : Nat) {cls} (w : s.Canonical) : (State.takeSpaces n cls s).1.Canonical := by
  induction n generalizing s with
  | zero => exact w
  | succ n ih =>
    unfold State.takeSpaces
    split
    · next h => exact ih (w.takeSpace _ h)
    · exact w

theorem freeSpace (w : s.Canonical) {cls} : (s.freeSpace cls).Canonical := .ite w.setPool w.setPool

theorem freeSpaces (n : Nat) {cls} (w : s.Canonical) : (State.freeSpaces n cls s).Canonical := by
  induction n generalizing s with
  | zero => exact w
  | succ n ih => exact ih w.freeSpace

theorem writeCell (w : s.Canonical) {agent q flow b c} : (s.writeCell agent q flow b c).Canonical := by
  unfold State.writeCell
  exact w.pageWritten.modBank.setEgq.modMarl

theorem writesGoOn (n : Nat) (w : s.Canonical) : (State.writesGoOn n s).Canonical := by
  induction n generalizing s with
  | zero => exact w
  | succ n ih =>
    unfold State.writesGoOn
    split
    · exact w
    · split
      · exact w
      · exact ih w.modMarl.writeCell

theorem flushWrites (w : s.Canonical) : s.flushWrites.Canonical := w.writesGoOn _

theorem enqueueCell (w : s.Canonical) {agent q flow c} : (s.enqueueCell agent q flow c).Canonical := by
  simp only [State.enqueueCell]
  split
  · exact w.writeCell
  · exact w.modMarl.flushWrites

theorem admitLossy (w : s.Canonical) {agent q flow c} : (s.admitLossy agent q flow c).Canonical := by
  simp only [State.admitLossy]
  refine .ite w.setEgq ?_
  split
  · next h => exact (w.takeSpace _ h).enqueueCell
  · exact w.setEgq.event

theorem admitLossless (w : s.Canonical) {from' agent q flow c} : (s.admitLossless from' agent q flow c).Canonical :=
  .ite w w.modMarl.enqueueCell

theorem admitMgmt (w : s.Canonical) {p c} : (s.admitMgmt p c).Canonical := by
  simp only [State.admitMgmt]
  refine .ite w.modCluster ?_
  refine .ite w.admitLossless ?_
  split
  · next h => exact (w.takeSpace _ h).enqueueCell
  · exact w.modCluster

theorem mgmtGoesOn (w : s.Canonical) : s.mgmtGoesOn.Canonical := by
  simp only [State.mgmtGoesOn]
  split
  · exact .ite w w.modCluster.admitLossless
  · exact w

theorem freeCell (w : s.Canonical) {agent flow queued c} : (s.freeCell agent flow queued c).Canonical := by
  simp only [State.freeCell]
  split
  · exact .ite w.modPort w.freeSpace
  · exact w.freeSpace

theorem clearDeficit (w : s.Canonical) {agent flow} : (s.clearDeficit agent flow).Canonical := .ite w.modPort w

theorem popHead (w : s.Canonical) {agent q flow} : (s.popHead agent q flow).Canonical := by
  simp only [State.popHead]
  split
  · exact w
  · exact .ite w.setEgq.modBank.freeCell.clearDeficit w.setEgq.modBank.freeCell

theorem agedBlock (w : s.Canonical) {agent flow c} : (s.agedBlock agent flow c).Canonical := by
  simp only [State.agedBlock]
  refine .ite w ?_
  split
  · exact w.modXfer.modCh
  · exact w.modXfer

theorem cleanFlow (n : Nat) {agent q flow} (w : s.Canonical) : (State.cleanFlow agent q flow n s).Canonical := by
  induction n generalizing s with
  | zero => exact w
  | succ n ih =>
    unfold State.cleanFlow
    split
    · exact w
    · exact .ite (ih w.popHead.modEgq) (.ite (ih w.popHead.modEgq.agedBlock) w)

theorem checkHead (w : s.Canonical) {agent q flow} : (s.checkHead agent q flow).Canonical := w.cleanFlow _

theorem loseFlow (w : s.Canonical) {agent q flow} : (s.loseFlow agent q flow).Canonical :=
  (w.foldl fun _ _ v => v.popHead).modEgq.modMarl.alarmOccur.event

theorem readHead (w : s.Canonical) {agent q flow committed} : (s.readHead agent q flow committed).1.Canonical := by
  unfold State.readHead
  split
  · exact w.pair
  · extract_lets bank got errs s₁ s₂ s₃
    have corrected : s₁.Canonical := w.modRegion.bankError.ite w
    have popped : s₃.Canonical := (corrected.modRegion.bankError.event.ite corrected).popHead
    exact popped.setEgq.pair.iteFst (popped.setEgq.pair.iteFst (popped.setEgq.pair.iteFst popped.setEgq.pair))

theorem tlpOut (w : s.Canonical) {h r} : (s.tlpOut h r).Canonical := .ite w (.ite (.ite w.send w) w.send)

theorem takeCell (w : s.Canonical) {c out} (hout : ∀ t x1, t.Canonical → (out t x1).Canonical) : (s.takeCell c out).Canonical :=
  w.modPort.foldl (fun _ _ v2 => hout _ _ v2)

theorem mgmtArrives (w : s.Canonical) {port c} : (s.mgmtArrives port c).Canonical := .ite w w.modPort.level

/-! ## Switch -/

theorem exec_marlPoolCfg (w : s.Canonical) {c} : NextCanonical (execMarlPoolCfg c s) := (w.command fun _ v => v.modMarl.ok).next

theorem exec_marlQueueCfg (w : s.Canonical) {c} : NextCanonical (execMarlQueueCfg c s) :=
  (w.command (fun _ v => (v.foldl (fun _ _ v2 => v2.modEgq)).ok)).next

theorem exec_marlAgeCfg (w : s.Canonical) {c} : NextCanonical (execMarlAgeCfg c s) := (w.command fun _ v => v.modMarl.ok).next

theorem orphanDrop (w : s.Canonical) {t} : (s.orphanDrop t).Canonical := w.modPort

theorem clientCell (w : s.Canonical) {tid bl poison payload} : (s.clientCell tid bl poison payload).Canonical := by
  simp only [State.clientCell]
  split
  · exact w
  · exact .ite w.orphanDrop (.ite (.ite w.admitLossy w.admitLossless) w)

theorem exec_cellAdmit (w : s.Canonical) {agent flow bl poison payload} : NextCanonical (execCellAdmit agent flow bl poison payload s) := by
  simp only [execCellAdmit]
  refine .next ?_
  refine .ite w ?_
  refine .ite (.ite w.clientCell w) ?_
  refine .ite ?_ w
  split
  · exact w.admitLossless
  · exact w

theorem frameOut (w : s.Canonical) {tid r} : (s.frameOut tid r).Canonical :=
  .ite w (.ite w.modNet (.ite w.send (.ite w.modNet (.ite w.send w.send))))

theorem landCell (w : s.Canonical) {c} : (s.landCell c).Canonical := by
  simp only [State.landCell]
  split
  · exact w
  · exact .ite (.ite (w.modCh.ite w).modCh.modXfer (w.modCh.ite w).modCh) (.ite (w.modCh.ite w).modMarl (w.modCh.ite w).modCh)

theorem deliverCell (w : s.Canonical) {agent c} : (s.deliverCell agent c).Canonical :=
  .ite (.ite w.landCell (.ite w.modMarl w.send)) (.ite (.ite (w.takeCell fun _ _ v => v.tlpOut) w.send)
    (.ite (w.takeCell fun _ _ v => v.frameOut) (.ite w.mgmtArrives (.ite w.send w.send))))

theorem drainStaging (w : s.Canonical) {agent} : (s.drainStaging agent).Canonical := .ite w (w.modMarl.foldl fun _ _ v => v.deliverCell)

theorem stageCell (w : s.Canonical) {agent c} : (s.stageCell agent c).Canonical := .ite w.deliverCell w.modMarl.drainStaging

theorem selectCell (w : s.Canonical) {agent linkUe} : (s.selectCell agent linkUe).Canonical := by
  simp only [State.selectCell]
  split
  · exact w
  · refine .ite w.loseFlow ?_
    split
    · exact w.checkHead
    · split
      · exact (w.checkHead.readHead.modEgq.modMarl.ite w.checkHead.readHead.modEgq).stageCell
      · exact w.checkHead.readHead.modEgq

theorem exec_sweepRound (w : s.Canonical) : NextCanonical (execSweepRound s) :=
  (w.foldl fun _ _ v => v.checkHead).modMarl.flushWrites.next

theorem flushAgent (w : s.Canonical) {agent} : (s.flushAgent agent).Canonical := by
  unfold State.flushAgent
  refine .modMarl (.foldl (.modMarl (.foldl (.modMarl (.foldl (.foldl w ?queues) ?staged)) ?waiting)) ?credits)
  case queues => exact fun _ _ v => .modEgq (.foldl v fun _ _ v => .foldl v fun _ _ v => v.popHead)
  case staged => exact fun _ _ v => v.modEgq
  case waiting => exact fun _ _ v => v.freeSpace.modEgq
  case credits => exact fun _ _ v => v.freeSpaces _

/-! ## Root -/

theorem enginePush (w : s.Canonical) {h sl q e slot} : (s.enginePush h sl q e slot).Canonical := w.modQp

theorem enginePost (w : s.Canonical) {h sl q e slot} : (s.enginePost h sl q e slot).Canonical := .ite w.enginePush w.modSlice

theorem takeSlot (w : s.Canonical) {h sl q} : (s.takeSlot h sl q).Canonical := w.modQp

theorem endChain (w : s.Canonical) {e st xcode short} : (s.endChain e st xcode short).Canonical := by
  simp only [State.endChain]
  split
  · exact (w.tickFree.ite w).setEp.enginePost
  · exact w

theorem ringStop (w : s.Canonical) {e tag st xcode} : (s.ringStop e tag st xcode).Canonical := by
  simp only [State.ringStop]
  split
  · exact w.tickFree.enginePost
  · exact w

theorem dropRequests (w : s.Canonical) {e} : (s.dropRequests e).Canonical := w.modXfer

theorem stopEp (w : s.Canonical) {e st xcode dst} : (s.stopEp e st xcode dst).Canonical := by
  unfold State.stopEp
  exact w.dropRequests.endChain.modEp

theorem disableEp (w : s.Canonical) {e st gen} : (s.disableEp e st gen).Canonical := .ite w.stopEp.setEp w.stopEp.setEp

theorem rootNotice (w : s.Canonical) {r code tport} : (s.rootNotice r code tport).Canonical := by
  simp only [State.rootNotice]
  refine .event ?_
  split
  · exact w.notice
  · exact w

theorem endRootCmds (w : s.Canonical) {r st} : (s.endRootCmds r st).Canonical := by
  unfold State.endRootCmds
  exact w.completeOpt.completeOpt.completeOpt.modRoot

theorem stopRoot (w : s.Canonical) {r st xcode} : (s.stopRoot r st xcode).Canonical := by
  unfold State.stopRoot
  exact (w.foldl fun _ _ v => v.stopEp).modRoot

theorem rootDisconnect (w : s.Canonical) {r} : (s.rootDisconnect r).Canonical := .ite w w.stopRoot.endRootCmds.modRoot.rootNotice

theorem rootOff (w : s.Canonical) {r excess} : (s.rootOff r excess).Canonical :=
  .ite w.stopRoot.endRootCmds.modRoot.rootNotice w.stopRoot.endRootCmds.modRoot

theorem usbError (w : s.Canonical) {e} : (s.usbError e).Canonical := .ite w.stopEp w.setEp

theorem loseRequests (w : s.Canonical) {r} : (s.loseRequests r).Canonical := w.modRoot.foldl fun _ _ v => v.usbError

theorem rootHeld (w : s.Canonical) {r} : (s.rootHeld r).Canonical := .ite w w.loseRequests.modRoot.rootNotice

theorem rootRestored (w : s.Canonical) {r} : (s.rootRestored r).Canonical :=
  .ite (w.modRoot.rootNotice.ite w).modRoot.rootNotice (.ite w.modRoot.rootNotice w)

theorem freeSlots (w : s.Canonical) {r} : (s.freeSlots r).Canonical := w.modXfer

theorem rootGone (w : s.Canonical) {r} : (s.rootGone r).Canonical :=
  .ite w.modRoot (w.foldl fun _ _ v => v.disableEp).freeSlots.endRootCmds.modRoot.rootNotice

/-! ## Tunnels -/

theorem tunnelNotice (w : s.Canonical) {tid code st} : (s.tunnelNotice tid code st).Canonical := w.noticeOwner

theorem pushCtrl (w : s.Canonical) {p c} : (s.pushCtrl p c).Canonical := w.modPort

theorem grant (w : s.Canonical) {p tun cls window queued} : (s.grant p tun cls window queued).Canonical :=
  .ite (w.takeSpaces _).modPort (w.takeSpaces _).modPort.pushCtrl

theorem grantTun (w : s.Canonical) {p tun} : (s.grantTun p tun).Canonical := by
  simp only [State.grantTun]
  refine .ite w.grant ?_
  split
  · split
    · exact .ite w.grant w
    · exact w
  · exact w

theorem releaseTun (w : s.Canonical) {p tun cls keep} : (s.releaseTun p tun cls keep).Canonical := by
  unfold State.releaseTun
  exact (w.freeSpaces _).modPort

theorem holdMin (w : s.Canonical) {p tun cls} : (s.holdMin p tun cls).Canonical := by
  unfold State.holdMin
  exact (w.takeSpaces _).modPort

theorem queueMgmt (w : s.Canonical) {p m} : (s.queueMgmt p m).Canonical := w.admitMgmt

theorem request (w : s.Canonical) {p msg tid body} : (s.request p msg tid body).Canonical := w.modPort.queueMgmt

theorem sendOpen (w : s.Canonical) {tid} : (s.sendOpen tid).Canonical := w.modPort.request

theorem sendClose (w : s.Canonical) {tid} : (s.sendClose tid).Canonical := w.request

theorem sendAllot (w : s.Canonical) {tid rsvIn wIn effective} : (s.sendAllot tid rsvIn wIn effective).Canonical := w.request

theorem dropAwaits (w : s.Canonical) {p tid} : (s.dropAwaits p tid).Canonical := w.modPort

theorem restoreOne (w : s.Canonical) {tid} : (s.restoreOne tid).Canonical := .ite w.setTunnel.sendOpen (.ite w w.tunnelNotice.modTunnel)

theorem planRefused (w : s.Canonical) {tid} : (s.planRefused tid).Canonical := .ite w w.modTunnel.record.alarmOccur

theorem planOne (w : s.Canonical) {tid} : (s.planOne tid).Canonical := .ite w.setTunnel.sendOpen w.planRefused

theorem retryTunnels (w : s.Canonical) {p} : (s.retryTunnels p).Canonical :=
  .ite ((w.foldl fun _ _ v => v.restoreOne).foldl fun _ _ v => v.planOne) w

theorem rootFollows (w : s.Canonical) {port} : (s.rootFollows port).Canonical := .ite w.rootGone (.ite w.rootHeld (.ite w w.rootRestored))

theorem freeEntry (w : s.Canonical) {tid closed} : (s.freeEntry tid closed).Canonical :=
  .ite w.dropAwaits.releaseTun.modPort.setTunnel.retryTunnels.rootFollows w.dropAwaits.releaseTun.modPort.setTunnel.retryTunnels

theorem endModify (w : s.Canonical) {tid st detail} : (s.endModify tid st detail).Canonical := by
  simp only [State.endModify]
  refine .modTunnel ?_
  split
  · exact w.completeOpt
  · exact w

theorem undoModify (w : s.Canonical) {tid st} : (s.undoModify tid st).Canonical := by
  simp only [State.undoModify]
  split
  · exact w.setTunnel.endModify
  · exact w

theorem failQueued (w : s.Canonical) {tid st detail} : (s.failQueued tid st detail).Canonical := by
  unfold State.failQueued
  exact (w.foldl fun _ _ v => v.complete).modTunnel

theorem teardownNow (w : s.Canonical) {tid} : (s.teardownNow tid).Canonical := w.tunnelNotice.endModify.failQueued.freeEntry

theorem teardown (w : s.Canonical) {tid origin} : (s.teardown tid origin).Canonical := .ite w (w.fwChange fun _ v => v.teardownNow)

theorem revertCreate (w : s.Canonical) {tid st detail} : (s.revertCreate tid st detail).Canonical :=
  w.completeOpt.modTunnel.fwChange fun _ v => v.freeEntry

theorem closeTunnel (w : s.Canonical) {tid} : (s.closeTunnel tid).Canonical :=
  have failed := w.completeOpt.endModify.failQueued.modTunnel
  .ite failed.completeOpt.freeEntry failed.dropAwaits.setTunnel.sendClose

theorem closeDone (w : s.Canonical) {tid closed} : (s.closeDone tid closed).Canonical := w.completeOpt.freeEntry

theorem tunnelLinkDown (w : s.Canonical) {tid} : (s.tunnelLinkDown tid).Canonical := by
  simp only [State.tunnelLinkDown]
  split
  · exact w.undoModify.failQueued.releaseTun.modTunnel.tunnelNotice
  · exact .ite w (.ite w.modTunnel (.ite w.revertCreate w.teardown))
  · exact w.closeDone
  · exact w

theorem tunnelsLinkDown (w : s.Canonical) {p} : (s.tunnelsLinkDown p).Canonical := by
  unfold State.tunnelsLinkDown
  extract_lets s₁ s₂ s₃ s₄ s₅ _ s₆
  have cleared : s₅.Canonical := (w.modPort.level.releaseTun.foldl fun _ _ v => v.tunnelLinkDown).modPort.modPort
  have held : s₆.Canonical := cleared.rootHeld.ite cleared
  exact .ite cleared (.ite (held.foldl fun _ _ v => v.teardown) held)

/-! ## PdOps -/

theorem modPd (w : s.Canonical) {p f} : (s.modPd p f).Canonical := w.modPort

theorem armPd (w : s.Canonical) {p n ms} : (s.armPd p n ms).Canonical := w.modPd

theorem sendPd (w : s.Canonical) {p sop kind typ objs} : (s.sendPd p sop kind typ objs).Canonical := w.send

theorem sendChunk (w : s.Canonical) {p typ num data} : (s.sendChunk p typ num data).Canonical := w.sendPd

theorem sendExt (w : s.Canonical) {p typ data} : (s.sendExt p typ data).Canonical := .ite w.sendChunk.modPd.armPd w.sendChunk.modPd

theorem sendVdm (w : s.Canonical) {p sop svid pos cmd objs} : (s.sendVdm p sop svid pos cmd objs).Canonical := w.sendPd

theorem askVdm (w : s.Canonical) {p step sop svid pos cmd objs} : (s.askVdm p step sop svid pos cmd objs).Canonical :=
  .ite w.sendVdm.modPd.armPd w.sendVdm.modPd.armPd

theorem portNotice (w : s.Canonical) {p code detail} : (s.portNotice p code detail).Canonical := by
  simp only [State.portNotice]
  refine .trace ?_
  refine .mgmtNotice ?_
  split
  · refine .notice ?_
    split
    · exact w.notice
    · exact w
  · split
    · exact w.notice
    · exact w

theorem modeNotice (w : s.Canonical) {p code svid pos} : (s.modeNotice p code svid pos).Canonical := w.portNotice

theorem sinkOn (w : s.Canonical) {p} : (s.sinkOn p).Canonical := by
  unfold State.sinkOn
  exact w.modPd

theorem presentDiag (w : s.Canonical) {p} : (s.presentDiag p).Canonical := by
  simp only [State.presentDiag]
  split
  · exact .ite w w.setFn
  · exact w

theorem presentDiags (w : s.Canonical) {skip} : (s.presentDiags skip).Canonical := w.foldl fun _ _ v => .ite v.presentDiag v

theorem notJayth (w : s.Canonical) {p} : (s.notJayth p).Canonical := w.foldl fun _ _ v => v.teardown

theorem nativeUses (w : s.Canonical) {p} : (s.nativeUses p).Canonical := .ite (.ite w.askVdm w) (.ite w.presentDiag w)

theorem fallback (w : s.Canonical) {p cause} : (s.fallback p cause).Canonical := (w.modPd.notJayth.ite w.modPd).trace.nativeUses

theorem sendExitJayth (w : s.Canonical) {p} : (s.sendExitJayth p).Canonical := w.sendVdm.modeNotice

/-! ## TunCmd -/

theorem makeTunnel (w : s.Canonical) {tid t} : (s.makeTunnel tid t).Canonical := by
  unfold State.makeTunnel
  extract_lets s₁ s₂
  have made : s₂.Canonical := w.setTunnel.holdMin.ite w.setTunnel
  exact .ite (.ite made.planRefused made) (.ite made made.sendOpen)

theorem exec_tunCreate (w : s.Canonical) {c} : NextCanonical (execTunCreate c s) :=
  (w.command fun _ v => .ite v.makeTunnel.modTunnel.ok v.makeTunnel).next

theorem exec_tunDestroy (w : s.Canonical) {c} : NextCanonical (execTunDestroy c s) :=
  (w.command fun _ v => .ite v.modTunnel.closeTunnel.rootFollows v.modTunnel.closeTunnel).next

theorem startModify (w : s.Canonical) {tid n cmd} : (s.startModify tid n cmd).Canonical :=
  (w.setTunnel.sendAllot.ite w.setTunnel).retryTunnels

theorem exec_tunModify (w : s.Canonical) {c} : NextCanonical (execTunModify c s) :=
  .ite w.startCmd.modTunnel.next (w.command fun _ v => v.startModify).next

theorem nextModify (w : s.Canonical) {tid} : (s.nextModify tid).Canonical := by
  simp only [State.nextModify]
  split
  · exact w
  · split
    · next h => exact w.setTunnel.exec_tunModify _ h
    · exact w.setTunnel

theorem exec_tunQuery (w : s.Canonical) {c} : NextCanonical (execTunQuery c s) := (w.command fun _ v => v.ok).next

theorem exec_tunAdopt (w : s.Canonical) {c} : NextCanonical (execTunAdopt c s) := (w.command fun _ v => v.setTunnel.ok).next

theorem exec_tunAllotCfg (w : s.Canonical) {c} : NextCanonical (execTunAllotCfg c s) := (w.command fun _ v => v.modPort.ok).next

theorem protoErr (w : s.Canonical) {p} : (s.protoErr p).Canonical := w.modPort

theorem protoDrop (w : s.Canonical) {p tun} : (s.protoDrop p tun).Canonical := w.modPort

/-! ## Link -/

theorem sendTb (w : s.Canonical) {p lanes o} : (s.sendTb p lanes o).Canonical := w.foldl fun _ _ v => v.send.modPort

theorem sendMarker (w : s.Canonical) {p l} : (s.sendMarker p l).Canonical := by
  unfold State.sendMarker
  exact w.send.modPort

theorem announce (w : s.Canonical) {p} : (s.announce p).Canonical := w.sendTb

theorem modTrain (w : s.Canonical) {p f} : (s.modTrain p f).Canonical := w.modPort

theorem enter (w : s.Canonical) {p st} : (s.enter p st).Canonical := w.modPort

theorem startDetect (w : s.Canonical) {p} : (s.startDetect p).Canonical := w.enter.modPort.announce

theorem trainDisable (w : s.Canonical) {p} : (s.trainDisable p).Canonical := w.modPort

theorem trainFailed (w : s.Canonical) {p cause} : (s.trainFailed p cause).Canonical := w.modTrain.event.trace.sendExitJayth.fallback

theorem attemptFails (w : s.Canonical) {p tell} : (s.attemptFails p tell).Canonical :=
  have counted := (w.sendTb.ite w).modTrain.trace
  .ite (.ite counted.trainFailed counted.modTrain.event) counted.modTrain

theorem sendHubInfo (w : s.Canonical) {p restore} : (s.sendHubInfo p restore).Canonical := w.modPort.queueMgmt

theorem armRecal (w : s.Canonical) {p} : (s.armRecal p).Canonical := by
  unfold State.armRecal
  exact w.modPort

theorem linkUpNow (w : s.Canonical) {p} : (s.linkUpNow p).Canonical :=
  (w.setPort.armRecal.event.trace.ite (w.setPort.armRecal.event.trace.foldl fun _ _ v => v.teardown)).modPort.sendHubInfo.grant

theorem linkLost (w : s.Canonical) {p} : (s.linkLost p).Canonical := .ite w.modPort.modTrain.event.trace.tunnelsLinkDown w

theorem retrainFor (w : s.Canonical) {p cause} : (s.retrainFor p cause).Canonical := .ite w.linkLost.modTrain.startDetect w

theorem linkRetrain (w : s.Canonical) {p} : (s.linkRetrain p).Canonical := w.retrainFor

theorem linkDisable (w : s.Canonical) {p} : (s.linkDisable p).Canonical := .ite w w.linkLost.trainDisable

theorem enterConfig (w : s.Canonical) {p} : (s.enterConfig p).Canonical := w.enter.modPort.announce

theorem judgeLanes (w : s.Canonical) {p} : (s.judgeLanes p).Canonical := w.setPort.foldl fun _ _ v => v.event.trace

theorem storePass (w : s.Canonical) {p passB} : (s.storePass p passB).Canonical := w.of_stores

theorem eqNoted (w : s.Canonical) {p f} : (s.eqNoted p f).Canonical := by
  unfold State.eqNoted
  exact w.modPort

theorem enterSync (w : s.Canonical) {p} : (s.enterSync p).Canonical := w.modTrain.enter.modPort.announce

theorem eqEnds (w : s.Canonical) {p} : (s.eqEnds p).Canonical :=
  .ite w.eqNoted.judgeLanes.attemptFails w.eqNoted.judgeLanes.modTrain.enterSync

theorem applyRequest (w : s.Canonical) {p b} : (s.applyRequest p b).Canonical := w.modPort.sendTb

theorem eqAnswer (w : s.Canonical) {p l on fec err passB} : (s.eqAnswer p l on fec err passB).1.Canonical :=
  w.sendTb.pair.iteFst (w.sendTb.pair.iteFst w.modPort.tickFree.sendTb.pair)

theorem eqStep (w : s.Canonical) {p l b err passB} : (s.eqStep p l b err passB).Canonical := by
  unfold State.eqStep
  extract_lets _ _ s₁ _ s₂
  have measured : s₁.Canonical := w.modPort
  have answered : s₂.Canonical := .ite measured measured.eqAnswer.modTrain
  exact .ite answered.applyRequest (.ite answered.modTrain answered)

theorem notePeer (w : s.Canonical) {p b} : (s.notePeer p b).Canonical := by
  unfold State.notePeer
  exact w.modPort

theorem syncEcho (w : s.Canonical) {p b} : (s.syncEcho p b).Canonical :=
  .ite w (.ite w.trainFailed (w.modTrain.foldl fun _ _ v => v.sendMarker))

theorem dropSets (w : s.Canonical) {p} : (s.dropSets p).Canonical := w.modPort

theorem checkStep (w : s.Canonical) {p l b err} : (s.checkStep p l b err).Canonical :=
  .ite w.modPort.sendTb.dropSets.attemptFails (.ite w.modPort.sendTb.modTrain.enterSync w.modPort.sendTb.modTrain)

theorem presetLanes (w : s.Canonical) {p m} : (s.presetLanes p m).Canonical := w.modPort

theorem tbStep (w : s.Canonical) {p l b err} : (s.tbStep p l b err).Canonical := by
  unfold State.tbStep
  extract_lets _ s₁ _ good _ _ s₂ s₃ s₄ _ _ s₅ s₆
  have locked : s₁.Canonical := w.modTrain
  have noted : s₄.Canonical := (locked.notePeer.modPort.ite locked.notePeer).modTrain
  have told : s₅.Canonical := noted.modTrain.announce.ite noted
  have acked : s₆.Canonical := told.modTrain.ite told
  split
  · exact .ite locked locked.notePeer.modPort.modTrain.enter.modTrain.announce
  · exact .ite acked.enterConfig acked
  · exact .ite (.ite locked.modTrain.enter.modTrain locked.modTrain) locked
  · exact .ite locked (.ite (.ite locked.enter.modTrain.modPort locked.enter.modTrain) locked)
  · exact .ite (.ite locked.eqStep.storePass.enter.presetLanes.announce locked.eqStep.storePass.eqEnds) locked.eqStep
  · exact .ite locked.enter.modTrain locked
  · exact .ite locked.eqStep.storePass.eqEnds locked.eqStep
  · exact locked.checkStep
  · exact .ite locked.syncEcho locked
  · exact locked

theorem recalPassEnds (w : s.Canonical) {p t} : (s.recalPassEnds p t).Canonical := .ite (.ite w.modPort.presetLanes.sendTb w.modPort) w

theorem recalStep (w : s.Canonical) {p t b err} : (s.recalStep p t b err).Canonical :=
  .ite (.ite w.modPort.eqAnswer.recalPassEnds w.modPort.eqAnswer)
    (.ite w.modPort (.ite w.modPort.applyRequest (.ite w.modPort.recalPassEnds w.modPort)))

theorem exec_tbReceived (w : s.Canonical) {port lane payload err} : NextCanonical (execTbReceived port lane payload err s) := by
  simp only [execTbReceived]
  refine .ite w.next ?_
  refine .ite w.modPort.next ?_
  split
  · exact w.recalStep.next
  · exact .ite w.attemptFails.next w.tbStep.next

theorem exec_trainStateTimeout (w : s.Canonical) {port} : NextCanonical (execTrainStateTimeout port s) :=
  .ite w.attemptFails.next w.next

theorem exec_trainIdleEnd (w : s.Canonical) {port} : NextCanonical (execTrainIdleEnd port s) := .ite w.startDetect.next w.next

theorem exec_rateIdleEnd (w : s.Canonical) {port} : NextCanonical (execRateIdleEnd port s) :=
  .ite w.modTrain.presetLanes.announce.next w.next

theorem rotate' (w : s.Canonical) {p newSet lane change ext} : (s.rotate' p newSet lane change ext).Canonical := w.modPort

theorem laneReq (w : s.Canonical) {p lane action} : (s.laneReq p lane action).Canonical := w.pushCtrl

theorem beginChange (w : s.Canonical) {p lane kind dir} : (s.beginChange p lane kind dir).Canonical :=
  .ite w.setPort.rotate' w.setPort.laneReq

theorem armIdle (w : s.Canonical) {p} : (s.armIdle p).Canonical := by
  unfold State.armIdle
  exact w.modPort

theorem creditAll (w : s.Canonical) {p} : (s.creditAll p).Canonical := w.foldl fun _ _ v => v.pushCtrl

theorem wakeOut (w : s.Canonical) {p} : (s.wakeOut p).Canonical := .ite w (w.modPort.send.foldl fun _ _ v => v.sendMarker).creditAll.armIdle

theorem deferRecal (w : s.Canonical) {p lane} : (s.deferRecal p lane).Canonical := w.modPort.event.trace

theorem recalibrate (w : s.Canonical) {p lane} : (s.recalibrate p lane).Canonical := by
  simp only [State.recalibrate]
  split
  · exact .ite w.deferRecal w
  · exact .ite w.deferRecal (w.modPort.wakeOut.ite w.modPort).beginChange

theorem degraded (w : s.Canonical) {p lane} : (s.degraded p lane).Canonical := .ite w.event.trace.linkRetrain w.event.trace.recalibrate

theorem exec_markerLossTimeout (w : s.Canonical) {port lane} : NextCanonical (execMarkerLossTimeout port lane s) :=
  .ite w.degraded.next w.next

theorem exec_codewordErrorLimit (w : s.Canonical) {port lane} : NextCanonical (execCodewordErrorLimit port lane s) :=
  .ite w.degraded.next w.next

theorem exec_linkTimeout (w : s.Canonical) {port} : NextCanonical (execLinkTimeout port s) := .ite w.linkRetrain.next w.next

theorem alive (w : s.Canonical) {p} : (s.alive p).Canonical := w.modPort

theorem exec_wakeBurstReceived (w : s.Canonical) {port} : NextCanonical (execWakeBurstReceived port s) :=
  .ite w.modPort.alive.wakeCfg.next w.next

theorem settled (w : s.Canonical) {p} : (s.settled p).Canonical := w.modPort.retryTunnels

theorem joinDone (w : s.Canonical) {p} : (s.joinDone p).Canonical := by
  simp only [State.joinDone]
  split
  · exact .ite (w.modPort.ite w.modPort.trace).settled w
  · exact w

theorem exec_markerReceived (w : s.Canonical) {port lane head diff flit} : NextCanonical (execMarkerReceived port lane head diff flit s) :=
  .ite w.next (.ite (.ite w.next (.ite w.modPort.linkUpNow.next w.modPort.next)) (.ite w.alive.modPort.joinDone.next w.next))

theorem exec_recalPeriodExpiry (w : s.Canonical) {port lane} : NextCanonical (execRecalPeriodExpiry port lane s) :=
  .ite w.modPort.recalibrate.next w.next

theorem exec_tempDrift (w : s.Canonical) {port temp} : NextCanonical (execTempDrift port temp s) :=
  .ite w.modPort.next (w.modPort.foldl fun _ _ v => v.recalibrate).next

theorem exec_recalRetryExpiry (w : s.Canonical) {port} : NextCanonical (execRecalRetryExpiry port s) :=
  .ite (w.modPort.foldl fun _ _ v => v.recalibrate).next w.next

theorem joinOut (w : s.Canonical) {p lane change ns} : (s.joinOut p lane change ns).Canonical := w.send.sendMarker.rotate'

theorem comeBack (w : s.Canonical) {p lane d} : (s.comeBack p lane d).Canonical := .ite w.modPort.joinOut w.modPort

theorem exec_recalDone (w : s.Canonical) {port outErr inErr} : NextCanonical (execRecalDone port outErr inErr s) := by
  unfold execRecalDone
  have measured {p l f} {g : Port → Lane → Lane} : ((s.eqNoted p f).tickFree.modPort p fun x => x.modLane l (g x)).Canonical :=
    w.eqNoted.tickFree.modPort
  extract_lets p
  split
  · exact w.next
  · exact .ite w.next (.ite measured.comeBack.next
      (.ite measured.modPort.event.trace.comeBack.next measured.modPort.event.trace.settled.next))

/-! ## Flits -/

theorem badProto (w : s.Canonical) {p} : (s.badProto p).Canonical := .ite w.protoErr.event.modPort.linkRetrain w.protoErr

theorem sendAck (w : s.Canonical) {p counts} : (s.sendAck p counts).Canonical := w.modPort.pushCtrl

theorem sendNak (w : s.Canonical) {p} : (s.sendNak p).Canonical := .ite w.modPort.linkRetrain w.modPort.pushCtrl

theorem onError (w : s.Canonical) {p} : (s.onError p).Canonical := .ite w w.sendNak

theorem badFlit (w : s.Canonical) {p l} : (s.badFlit p l).Canonical := w.modPort.onError

theorem exec_badFlit (w : s.Canonical) {port lane} : NextCanonical (execBadFlit port lane s) := .ite w.badFlit.next w.next

theorem flitIn (w : s.Canonical) {p l b f} (hf : ∀ t, t.Canonical → (f t).Canonical) : (s.flitIn p l b f).Canonical :=
  .ite w (.ite w.badFlit (hf _ w.alive))

theorem smplFlit (w : s.Canonical) {p f} : (s.smplFlit p f).1.Canonical := by
  unfold State.smplFlit
  exact (w.modPort.modXfer.event.ite w.modPort).pair

theorem dataPayload (w : s.Canonical) {p f} : (s.dataPayload p f).Canonical := by
  simp only [State.dataPayload]
  refine .ite (.ite w.modPort.event (.ite w.modPort.protoDrop.freeSpace w.modPort.enqueueCell)) ?_
  split
  · exact w.protoDrop
  · refine .ite (.ite w w.modPort.freeSpace) ?_
    refine .ite w.protoDrop ?_
    refine .ite w.modPort.event ?_
    refine .ite w.modPort.protoDrop.freeSpace ?_
    refine .ite (w.modPort.smplFlit.iteFst w.modPort.pair).freeSpace ?_
    split
    · exact (w.modPort.smplFlit.iteFst w.modPort.pair).enqueueCell
    · exact w.modPort.smplFlit.iteFst w.modPort.pair

theorem dataIn (w : s.Canonical) {p f} : (s.dataIn p f).Canonical :=
  .ite (.ite w.onError (w.modPort.sendAck.ite w.modPort).dataPayload) (.ite w w.onError)

theorem exec_dataFlitReceived (w : s.Canonical) {port lane flit} : NextCanonical (execDataFlitReceived port lane flit s) := by
  simp only [execDataFlitReceived]
  refine .next ?_
  refine .flitIn w fun _ v => ?_
  split
  · exact v.dataIn
  · exact .ite v v.badProto
  · exact v.badProto
  · exact .ite v v.badProto
  · exact .ite v v.badProto
  · exact v

theorem ctrlIn (w : s.Canonical) {p l b typ sub ok f} (hf : ∀ x t, t.Canonical → (f x t).Canonical) :
    (s.ctrlIn p l b typ sub ok f).Canonical :=
  w.flitIn (fun _ v2 => .ite v2 (.ite v2.badProto (hf _ _ v2)))

theorem resendFrom (w : s.Canonical) {p seq} : (s.resendFrom p seq).Canonical := by
  unfold State.resendFrom
  exact w.modPort

theorem ackSeq (w : s.Canonical) {p seq} : (s.ackSeq p seq).Canonical := .ite w (.ite w.badProto w.modPort)

theorem nakIn (w : s.Canonical) {p seq} : (s.nakIn p seq).Canonical :=
  .ite w (.ite w.badProto (.ite w.modPort.linkRetrain w.modPort.resendFrom))

theorem exec_ackReceived (w : s.Canonical) {port lane flit} : NextCanonical (execAckReceived port lane flit s) :=
  (w.ctrlIn (fun _ _ v => .ite (v.ackSeq.ite v).nakIn (.ite v.ackSeq v))).next

theorem exec_creditReceived (w : s.Canonical) {port lane flit} : NextCanonical (execCreditReceived port lane flit s) :=
  (w.ctrlIn (fun _ _ v => v.foldl (fun _ _ v2 => .ite v2.modPort v2))).next

theorem exec_creditReturn (w : s.Canonical) {port tun} : NextCanonical (execCreditReturn port tun s) := .ite w.grantTun.next w.next

theorem exec_creditRefreshExpiry (w : s.Canonical) {port} : NextCanonical (execCreditRefreshExpiry port s) :=
  .ite (w.modPort.ite w.modPort.creditAll).next w.next

theorem exec_ackRepeatExpiry (w : s.Canonical) {port} : NextCanonical (execAckRepeatExpiry port s) := .ite w.sendAck.next w.next

theorem exec_nakTimerExpiry (w : s.Canonical) {port} : NextCanonical (execNakTimerExpiry port s) := .ite w.sendNak.next w.next

theorem exec_replayTimeout (w : s.Canonical) {port} : NextCanonical (execReplayTimeout port s) := by
  simp only [execReplayTimeout]
  split
  · exact w.next
  · exact .ite w.resendFrom.next w.next

theorem mapped (w : s.Canonical) {p newSet tid change f} : (s.mapped p newSet tid change f).Canonical := w.modPort

theorem turnSets (w : s.Canonical) {p l d} : (s.turnSets p l d).Canonical := w.modPort.tickFree

theorem takeLane (w : s.Canonical) {p l} : (s.takeLane p l).Canonical := w.turnSets.joinOut

theorem exec_lanemapReceived (w : s.Canonical) {port lane flit} : NextCanonical (execLanemapReceived port lane flit s) := by
  simp only [execLanemapReceived]
  refine .next ?_
  refine .ctrlIn w fun _ _ v => ?_
  refine .ite v ?_
  split
  · exact v.badProto
  · refine .ite v.badProto ?_
    split
    · exact v.mapped.takeLane
    · exact v.mapped.joinDone
    · exact v.mapped
    · exact v.mapped.joinDone
    · exact v.mapped.settled
    · exact v.badProto

theorem exec_turnDoneReceived (w : s.Canonical) {port lane flit} : NextCanonical (execTurnDoneReceived port lane flit s) := by
  simp only [execTurnDoneReceived]
  refine .next ?_
  refine .ctrlIn w fun _ _ v => ?_
  split
  · exact .ite v.modPort.joinDone v
  · exact v

theorem turnFails (w : s.Canonical) {p t} : (s.turnFails p t).Canonical :=
  .ite w.event.trace.modPort.modPort.rotate' w.event.trace.modPort.modPort.laneReq

theorem exec_turnaroundTimeout (w : s.Canonical) {port} : NextCanonical (execTurnaroundTimeout port s) := by
  simp only [execTurnaroundTimeout]
  split
  · exact .ite w.turnFails.next w.next
  · exact w.next

theorem exec_laneReqResendExpiry (w : s.Canonical) {port} : NextCanonical (execLaneReqResendExpiry port s) := by
  simp only [execLaneReqResendExpiry]
  split
  · exact .ite (.ite w.modPort.laneReq.next w.event.trace.settled.next) w.next
  · exact w.next

theorem exec_sleepReceived (w : s.Canonical) {port lane flit} : NextCanonical (execSleepReceived port lane flit s) :=
  (w.ctrlIn fun _ _ v => v.modPort).next

theorem exec_backlogReceived (w : s.Canonical) {port lane flit} : NextCanonical (execBacklogReceived port lane flit s) :=
  (w.ctrlIn fun _ _ v => v.modPort).next

theorem exec_retrainReqReceived (w : s.Canonical) {port lane flit} : NextCanonical (execRetrainReqReceived port lane flit s) :=
  (w.ctrlIn fun _ _ v => v.retrainFor).next

theorem exec_laneBadReceived (w : s.Canonical) {port lane flit} : NextCanonical (execLaneBadReceived port lane flit s) :=
  (w.ctrlIn fun _ _ v => .ite v.modPort.degraded v).next

theorem exec_timePeriodExpiry (w : s.Canonical) {port} : NextCanonical (execTimePeriodExpiry port s) :=
  .ite w.modPort.pushCtrl.next w.next

theorem exec_echoReceived (w : s.Canonical) {port lane flit} : NextCanonical (execEchoReceived port lane flit s) :=
  (w.ctrlIn fun _ _ v => .ite v.modPort.trace v.modPort).next

theorem selectData (w : s.Canonical) {p ok} : (s.selectData p ok).1.Canonical := by
  simp only [State.selectData]
  split <;> exact w.setPort.pair

theorem selectBurst (w : s.Canonical) {p} : (s.selectBurst p).1.Canonical := by
  simp only [State.selectBurst]
  split
  · exact w.modPort.pair.iteFst w.selectData
  · exact w.selectData

theorem readBurst (n : Nat) {a q flow tun pri} (w : s.Canonical) : (State.readBurst a q flow tun pri n s).1.Canonical := by
  induction n generalizing s with
  | zero => exact w
  | succ n ih =>
    simp only [State.readBurst]
    split
    · exact w.readHead
    · exact ih w.readHead

theorem stageBurst (w : s.Canonical) {p} : (s.stageBurst p).Canonical := by
  simp only [State.stageBurst]
  split
  · exact .selectBurst (.foldl w fun _ _ v => v.checkHead)
  · exact .flushWrites (.modPort (.readBurst _ (.selectBurst (.foldl w fun _ _ v => v.checkHead))))

theorem laneFlit (w : s.Canonical) {p l bytes} : (s.laneFlit p l bytes).Canonical := (w.sendMarker.ite w).modPort.send.send

theorem putFlit (w : s.Canonical) {p bytes} : (s.putFlit p bytes).Canonical := w.modPort.laneFlit

theorem fillLane (w : s.Canonical) {p l} : (s.fillLane p l).Canonical := .ite (w.foldl fun _ _ v => v.laneFlit) w

theorem rotationDone (w : s.Canonical) {p m} : (s.rotationDone p m).Canonical := by
  simp only [State.rotationDone]
  split
  · exact (w.foldl fun _ _ v => v.fillLane).modPort
  · split
    · exact (w.foldl fun _ _ v => v.fillLane).modPort.modPort.modPort.turnSets
    · exact (w.foldl fun _ _ v => v.fillLane).modPort.modPort.modPort.presetLanes.sendTb
    · exact (w.foldl fun _ _ v => v.fillLane).modPort.modPort.settled
    · exact (w.foldl fun _ _ v => v.fillLane).modPort.modPort.modPort.joinDone
    · exact (w.foldl fun _ _ v => v.fillLane).modPort.modPort

theorem putCtrl (w : s.Canonical) {p c} : (s.putCtrl p c).Canonical := by
  simp only [State.putCtrl]
  refine .ite ?_ ?_
  · refine .modPort ?_
    split
    · exact (w.putFlit.armIdle.ite w.putFlit).rotationDone
    · exact .ite w.putFlit.armIdle w.putFlit
  · split
    · exact (w.putFlit.armIdle.ite w.putFlit).rotationDone
    · exact .ite w.putFlit.armIdle w.putFlit

theorem creditWaits (w : s.Canonical) {p} : (s.creditWaits p).Canonical := .ite (w.foldl fun _ _ v => v.modPort) w

theorem putData (w : s.Canonical) {p f rest} : (s.putData p f rest).Canonical := w.modPort.putFlit.armIdle

theorem exec_flitSlot (w : s.Canonical) {port} : NextCanonical (execFlitSlot port s) := by
  simp only [execFlitSlot]
  refine .ite w.next ?_
  split
  · exact w.modPort.putCtrl.next
  · exact w.modPort.putFlit.armIdle.next
  · refine .ite w.putFlit.next ?_
    split
    · exact (w.stageBurst.ite w).creditWaits.putData.next
    · exact (w.stageBurst.ite w).putFlit.next

theorem exec_sleepIdleExpiry (w : s.Canonical) {port} : NextCanonical (execSleepIdleExpiry port s) := .ite w.pushCtrl.next w.next

theorem exec_directionWake (w : s.Canonical) {port} : NextCanonical (execDirectionWake port s) := .ite w.wakeOut.next w.next

theorem exec_keepaliveExpiry (w : s.Canonical) {port} : NextCanonical (execKeepaliveExpiry port s) := .ite w.wakeOut.next w.next

/-! ## Msg -/

theorem takeMsg (w : s.Canonical) {p msg f} (hf : ∀ x t, t.Canonical → (f x t).Canonical) : (s.takeMsg p msg f).Canonical := by
  simp only [State.takeMsg]
  split
  · exact w
  · exact .ite w (hf _ _ (.ite w.modPort.level w.modPort))

theorem answer (w : s.Canonical) {p m req f} (hf : ∀ x t, t.Canonical → (f x t).Canonical) : (s.answer p m req f).Canonical := by
  simp only [State.answer]
  split
  · exact hf _ _ w.modPort
  · exact w.badProto

theorem exec_termInfoReceived (w : s.Canonical) {port} : NextCanonical (execTermInfoReceived port s) :=
  (w.takeMsg (fun _ _ v => v.modPort.retryTunnels.foldl (fun _ _ v2 => v2.sendOpen))).next

theorem opened (w : s.Canonical) {tid} : (s.opened tid).Canonical := by
  unfold State.opened
  extract_lets _ s₁ s₂ s₃ s₄
  have answered : s₃.Canonical := (w.setTunnel.grantTun.ite w.setTunnel).completeOpt
  have told : s₄.Canonical := answered.tunnelNotice.ite answered
  exact .ite told.rootFollows told

theorem exec_openAckReceived (w : s.Canonical) {port} : NextCanonical (execOpenAckReceived port s) :=
  (w.takeMsg (fun _ _ v => v.answer (fun _ _ v2 => v2.opened))).next

theorem exec_openNakReceived (w : s.Canonical) {port} : NextCanonical (execOpenNakReceived port s) :=
  (w.takeMsg (fun _ _ v => v.answer (fun _ _ v2 => .ite v2.setTunnel v2.revertCreate))).next

theorem exec_closeAckReceived (w : s.Canonical) {port} : NextCanonical (execCloseAckReceived port s) :=
  (w.takeMsg (fun _ _ v => v.answer (fun _ _ v2 => v2.closeDone))).next

theorem raiseDone (w : s.Canonical) {a} : (s.raiseDone a).Canonical := by
  simp only [State.raiseDone]
  split
  · exact .ite w.setTunnel.grantTun.completeOpt.nextModify w
  · exact w

theorem exec_allotAckReceived (w : s.Canonical) {port} : NextCanonical (execAllotAckReceived port s) :=
  (w.takeMsg (fun _ _ v => v.answer (fun _ _ v2 => v2.raiseDone))).next

theorem exec_tunStatusReceived (w : s.Canonical) {port} : NextCanonical (execTunStatusReceived port s) := by
  simp only [execTunStatusReceived]
  refine .next ?_
  refine .takeMsg w fun _ _ v => ?_
  split
  · exact v.badProto
  · exact .ite v.badProto (.ite v.protoDrop v.tunnelNotice.trace)

theorem unanswered (w : s.Canonical) {a} : (s.unanswered a).Canonical := by
  simp only [State.unanswered]
  refine .ite (.ite w.setTunnel w.revertCreate) ?_
  refine .ite w.closeDone ?_
  split
  · exact .ite w.undoModify.nextModify.retryTunnels w
  · exact w

theorem exec_mgmtResendExpiry (w : s.Canonical) {port xid} : NextCanonical (execMgmtResendExpiry port xid s) := by
  simp only [execMgmtResendExpiry]
  split
  · exact w.next
  · exact .ite w.next (.ite w.modPort.queueMgmt.next w.modPort.unanswered.next)

theorem exec_orphanWindowExpiry (w : s.Canonical) {port} : NextCanonical (execOrphanWindowExpiry port s) :=
  (w.foldl fun _ _ v => v.teardown).next

/-! ## Allot -/

theorem setBudgets (w : s.Canonical) {p} : (s.setBudgets p).Canonical := w.foldl fun _ _ v => v.modPort

theorem noteOver (w : s.Canonical) {p} : (s.noteOver p).Canonical := .ite w.modPort.event.trace w.modPort

theorem noteClient (w : s.Canonical) {h} : (s.noteClient h).Canonical := .ite w.modHp.alarmOccur (.ite w.modHp.alarmEnd w.modHp)

theorem applyModify (w : s.Canonical) {tid} : (s.applyModify tid).Canonical := by
  simp only [State.applyModify]
  split
  · exact .ite w w.setTunnel.completeOpt.nextModify.retryTunnels
  · exact w

theorem turn (w : s.Canonical) {p a} : SomeCanonical (s.turn p a) := by
  simp only [State.turn]
  split
  · exact (w.wakeOut.ite w).beginChange.trace.given
  · exact .none

theorem turnRequests (w : s.Canonical) {p v} : (s.turnRequests p v).Canonical :=
  .ite (.ite (w.modPort.turn.getD w.modPort) (.ite (w.modPort.turn.getD w.modPort) w.modPort))
    (.ite ((w.turn.map fun _ v => v.modPort).getD w) (.ite ((w.turn.map fun _ v => v.modPort).getD w) w))

theorem turnHome (w : s.Canonical) {p v} : (s.turnHome p v).Canonical := by
  simp only [State.turnHome]
  refine .ite w.modPort ?_
  refine .ite w.modPort ?_
  split
  · next h => exact (w.turn _ h).modPort
  · exact w.modPort

theorem deferredExclude (w : s.Canonical) {p} : (s.deferredExclude p).Canonical := by
  simp only [State.deferredExclude]
  split
  · exact w
  · split
    · exact .ite w w.modPort
    · exact .ite (w.modPort.wakeOut.ite w.modPort).beginChange w

theorem rollCycle (w : s.Canonical) {p} : (s.rollCycle p).Canonical := by
  unfold State.rollCycle
  exact w.modPort

theorem turnCounts (w : s.Canonical) {p v} : (s.turnCounts p v).Canonical := w.setPort

theorem exec_allotCycleStart (w : s.Canonical) {port} : NextCanonical (execAllotCycleStart port s) :=
  .ite w.next (w.turnCounts.rollCycle.foldl fun _ _ v => v.applyModify).noteOver.noteClient.noteClient.setBudgets.deferredExclude.turnRequests.turnHome.next

/-! ## Silt -/

theorem exec_jrnlRead (w : s.Canonical) {c} : NextCanonical (execJrnlRead c s) :=
  (w.command fun _ v => .ite v.loamReads.complete v.loamReads.bufferWrite.ok).next

theorem sinkAlarm (w : s.Canonical) {hadNone} : (s.sinkAlarm hadNone).Canonical :=
  .ite (.ite w.journalAlarm.alarmOccur w.journalAlarm) (.ite w.journalAlarm.alarmEnd w.journalAlarm)

theorem traceRelease (w : s.Canonical) : s.traceRelease.Canonical := by
  unfold State.traceRelease
  exact w.modSilt

theorem bindJournal (w : s.Canonical) {h base log2} : (s.bindJournal h base log2).Canonical := by
  unfold State.bindJournal
  exact w.modHp

theorem unbindJournal (w : s.Canonical) {h} : (s.unbindJournal h).Canonical := w.modHp

theorem bindTrace (w : s.Canonical) {h base log2} : (s.bindTrace h base log2).Canonical := w.modHp

theorem unbindTrace (w : s.Canonical) {h} : (s.unbindTrace h).Canonical := w.modHp.traceRelease

theorem exec_siltDrainBind (w : s.Canonical) {c} : NextCanonical (execSiltDrainBind c s) := by
  simp only [execSiltDrainBind]
  refine .next ?_
  refine .command w fun _ v => ?_
  refine .ok ?_
  refine .sinkAlarm ?_
  split
  · exact v.bindJournal
  · exact v.unbindJournal
  · exact v.bindTrace
  · exact .ite v.unbindTrace v
  · exact v.modSilt
  · exact v.modSilt
  · exact v.modSilt
  · exact v.modSilt.traceRelease

theorem exec_jrnlRingCi (w : s.Canonical) {hp v} : NextCanonical (execJrnlRingCi hp v s) := by
  simp only [execJrnlRingCi]
  refine .ite w.wakeCfg.next ?_
  split
  · exact w.wakeCfg.setHp.next
  · exact w.wakeCfg.modSilt.next

theorem exec_traceRingCi (w : s.Canonical) {hp v} : NextCanonical (execTraceRingCi hp v s) := by
  simp only [execTraceRingCi]
  refine .ite w.wakeCfg.next ?_
  split
  · exact w.wakeCfg.setHp.next
  · exact w.wakeCfg.modSilt.next

theorem exec_jrnlMgmtCi (w : s.Canonical) {v} : NextCanonical (execJrnlMgmtCi v s) :=
  .ite w.next (.ite w.modSilt.journalAlarm.next w.modSilt.next)

theorem exec_traceMgmtCi (w : s.Canonical) {v} : NextCanonical (execTraceMgmtCi v s) :=
  .ite w.next (.ite w.modSilt.traceRelease.next w.modSilt.next)

theorem drainOne (w : s.Canonical) {h} : (s.drainOne h).Canonical := w.send.setHp

theorem drainEntries (n : Nat) {h} (w : s.Canonical) : (s.drainEntries h n).Canonical := by
  induction n generalizing s with
  | zero => exact w
  | succ n ih => exact ih w.drainOne

theorem exec_journalDrain (w : s.Canonical) {hp} : NextCanonical (execJournalDrain hp s) := (w.drainEntries _).journalAlarm.next

theorem persistFail (w : s.Canonical) : s.persistFail.Canonical := w.modSilt.alarmOccur.loamRecord.sinkAlarm

theorem persistPage (w : s.Canonical) : s.persistPage.Canonical := by
  refine .journalAlarm (modSilt ?_)
  refine { w with flash := ?_ }
  have written := Tab.wf_write 0xFF (s.journalEntries s.silt.persist.next (min 8 s.persistWaiting)) s.persistAddr _ w.flash
  dsimp only [State.modBoot]
  split
  · exact eraseRange_wf _ _ _ written
  · exact written

theorem exec_persistPage (w : s.Canonical) {good} : NextCanonical (execPersistPage good s) :=
  .ite (w.persistPage.ite w.persistFail).next w.next

theorem exec_jrnlPersistCfg (w : s.Canonical) {c} : NextCanonical (execJrnlPersistCfg c s) :=
  (w.command (fun _ v => .ite v.complete (v.ite (.ite v.modSilt v.modSilt)).sinkAlarm.ok)).next

theorem exec_traceCfg (w : s.Canonical) {c} : NextCanonical (execTraceCfg c s) := (w.command fun _ v => v.modSilt.ok).next

theorem bufferPut (w : s.Canonical) {r} : (s.bufferPut r).Canonical := w.modSilt

theorem bufferLossOut (w : s.Canonical) : s.bufferLossOut.Canonical := by
  simp only [State.bufferLossOut]
  split
  · exact .ite w.bufferPut.modSilt.alarmEnd w
  · exact w

theorem bufferIn (w : s.Canonical) {r} : (s.bufferIn r).Canonical :=
  .ite w.modSilt (.ite w.bufferLossOut.bufferPut (w.bufferLossOut.alarmOccur.ite w.bufferLossOut).modSilt)

theorem drainFifos (w : s.Canonical) : s.drainFifos.Canonical := w.modSilt.foldl fun _ _ v => v.bufferIn

theorem ringPut (w : s.Canonical) {h r} : (s.ringPut h r).Canonical := w.send.setHp

theorem ringLossOut (w : s.Canonical) {h} : (s.ringLossOut h).Canonical := .ite w.ringPut.modHp w

theorem ringIn (w : s.Canonical) {h k r} : (s.ringIn h k r).Canonical := by
  unfold State.ringIn
  exact (w.ringLossOut.ringPut.ite w.ringLossOut.setHp.modSilt).modHp

theorem traceToRing (w : s.Canonical) {h} : (s.traceToRing h).Canonical := .ite (w.foldl fun _ _ v => v.ringIn) w

theorem exec_traceDrain (w : s.Canonical) : NextCanonical (execTraceDrain s) :=
  ((w.drainFifos.traceToRing.ite w.drainFifos).traceToRing.ite (.ite w.drainFifos.traceToRing w.drainFifos)).traceRelease.next

theorem exec_lossRecord (w : s.Canonical) {place} : NextCanonical (execLossRecord place s) := by
  simp only [execLossRecord]
  split
  · exact w.bufferLossOut.next
  · exact w.ringLossOut.next
  · split
    · exact .ite w.modSilt.next w.next
    · exact w.next

theorem exec_alarmRead (w : s.Canonical) {c} : NextCanonical (execAlarmRead c s) := (w.command (fun _ v => (v.modMgmt.ite v).ok)).next

theorem exec_alarmAck (w : s.Canonical) {c} : NextCanonical (execAlarmAck c s) := (w.command fun _ v => v.setAlarm.ok).next

theorem exec_alarmCfg (w : s.Canonical) {c} : NextCanonical (execAlarmCfg c s) := (w.command fun _ v => v.setAlarm.ok).next

theorem exec_alarmVector (w : s.Canonical) {hp} : NextCanonical (execAlarmVector hp s) := .ite w.setHp.sendVec.next w.next

theorem exec_siltRingVector (w : s.Canonical) {hp trace} : NextCanonical (execSiltRingVector hp trace s) :=
  .ite (.ite w.setHp.sendVec.next w.next) (.ite w.setHp.sendVec.next w.next)

/-! ## Rings -/

theorem pasidMiss (w : s.Canonical) {h sl} : (s.pasidMiss h sl).Canonical := w.modHp.trace

theorem atSlice (w : s.Canonical) {h sl f} (hf : ∀ t, t.Canonical → (f t).Canonical) : (s.atSlice h sl f).Canonical :=
  .ite (hf _ w) w.pasidMiss

theorem atPage (w : s.Canonical) {h sl f} (hf : ∀ t, t.Canonical → (f t).Canonical) : (s.atPage h sl f).Canonical :=
  w.wakeCfg.atSlice (fun _ v2 => hf _ v2)

theorem submitMbx (w : s.Canonical) {h sl} : (s.submitMbx h sl).Canonical :=
  .ite w.setSlice.event.startCmd.complete w.setSlice.event.startCmd

theorem exec_mbxGo (w : s.Canonical) {hp sl} : NextCanonical (execMbxGo hp sl s) :=
  (w.atPage (fun _ v => .ite v.setSlice (.ite v.submitMbx v.setSlice))).next

theorem exec_mbxDoneClear (w : s.Canonical) {hp sl} : NextCanonical (execMbxDoneClear hp sl s) :=
  (w.atPage fun _ v => v.modSlice).next

theorem exec_mbxRefusedClear (w : s.Canonical) {hp sl} : NextCanonical (execMbxRefusedClear hp sl s) :=
  (w.atPage fun _ v => v.modSlice).next

theorem exec_sliceEvtClear (w : s.Canonical) {hp sl v} : NextCanonical (execSliceEvtClear hp sl v s) :=
  (w.atPage fun _ v => v.modSlice).next

theorem exec_mgmtGo (w : s.Canonical) : NextCanonical (execMgmtGo s) :=
  .ite w.modMgmt.next (.ite w.modMgmt.event.startCmd.complete.next (.ite w.modMgmt.event.startCmd.complete.next w.modMgmt.event.startCmd.next))

theorem exec_mgmtDoneClear (w : s.Canonical) : NextCanonical (execMgmtDoneClear s) := w.modMgmt.next

theorem exec_mgmtRefusedClear (w : s.Canonical) : NextCanonical (execMgmtRefusedClear s) := w.modMgmt.next

theorem exec_mgmtNtcPop (w : s.Canonical) : NextCanonical (execMgmtNtcPop s) := w.modMgmt.next

theorem sqRecord (w : s.Canonical) {h sl q} : (s.sqRecord h sl q).Canonical := w.modHp.event

theorem cqRecord (w : s.Canonical) {h sl q} : (s.cqRecord h sl q).Canonical := w.modHp.event

theorem exec_sqDb (w : s.Canonical) {hp sl q v} : NextCanonical (execSqDb hp sl q v s) := by
  simp only [execSqDb]
  refine .next ?_
  refine .atPage w fun _ v => ?_
  split
  · exact v
  · split
    · exact v.sliceEvent
    · exact v.setQp.sqRecord
  · exact v.sliceEvent

theorem exec_cqDb (w : s.Canonical) {hp sl q v} : NextCanonical (execCqDb hp sl q v s) := by
  simp only [execCqDb]
  refine .next ?_
  refine .atPage w fun _ v => ?_
  split
  · exact v.sliceEvent
  · exact v.sliceEvent
  · split
    · exact v.sliceEvent
    · exact v.setQp.cqRecord

theorem takeTurn (w : s.Canonical) {h sl q} : (s.takeTurn h sl q).Canonical := by
  unfold State.takeTurn
  exact w.modHosts.modSlice

theorem exec_chainDispatch (w : s.Canonical) {hp sl q entries} : NextCanonical (execChainDispatch hp sl q entries s) := by
  simp only [execChainDispatch]
  refine .ite w.next ?_
  split
  · exact w.modQp.next
  · exact w.modQp.takeTurn.deliver.next
  · exact .ite w.modQp.takeTurn.startCmd.endCmd.deliver.next w.modQp.takeTurn.startCmd.next

theorem fetchError (w : s.Canonical) {h sl q read cause} : (s.fetchError h sl q read cause).Canonical := w.setQp.sliceEvent

theorem exec_queueFetchError (w : s.Canonical) {hp sl q read cause} : NextCanonical (execQueueFetchError hp sl q read cause s) :=
  .ite w.fetchError.next w.next

theorem cqWriteError (w : s.Canonical) {h sl q cause} : (s.cqWriteError h sl q cause).Canonical := w.modQp.sliceEvent

theorem exec_cqWriteError (w : s.Canonical) {hp sl q cause} : NextCanonical (execCqWriteError hp sl q cause s) :=
  .ite w.cqWriteError.next w.next

theorem moderate (w : s.Canonical) {h sl q} : (s.moderate h sl q).Canonical := .ite w.setQp.sendVec w.setQp

theorem writeCompletion (w : s.Canonical) {h sl q e rest} : (s.writeCompletion h sl q e rest).Canonical :=
  .ite w.cqWriteError (.ite w.hostWrite.setQp.moderate w.hostWrite.setQp)

theorem exec_completionWrite (w : s.Canonical) {hp sl q} : NextCanonical (execCompletionWrite hp sl q s) := by
  simp only [execCompletionWrite]
  split
  · exact .ite w.writeCompletion.next w.next
  · exact w.next

theorem exec_complRingStalled (w : s.Canonical) {hp sl q} : NextCanonical (execComplRingStalled hp sl q s) :=
  .ite w.setQp.sliceEvent.next w.next

theorem exec_moderationTimerExpiry (w : s.Canonical) {hp sl q} : NextCanonical (execModerationTimerExpiry hp sl q s) :=
  .ite w.setQp.sendVec.next w.next

theorem exec_noticeOverflow (w : s.Canonical) {fifo} : NextCanonical (execNoticeOverflow fifo s) := by
  unfold execNoticeOverflow
  split
  · exact w.modQp.next
  · refine .next (w.modMgmt ?_)
    unfold Mgmt.overflowOut
    split <;> rfl

theorem exec_msixVectorUnmask (w : s.Canonical) {hp vec} : NextCanonical (execMsixVectorUnmask hp vec s) :=
  .ite w.setHp.send.next w.setHp.next

theorem exec_qpCreate (w : s.Canonical) {c} : NextCanonical (execQpCreate c s) := (w.command fun _ v => v.setQp.ok).next

theorem exec_qpModify (w : s.Canonical) {c} : NextCanonical (execQpModify c s) := (w.command fun _ v => v.modQp.ok).next

theorem stopQp (w : s.Canonical) {h sl q why cmd unread gen} : (s.stopQp h sl q why cmd unread gen).Canonical := w.modHosts.setQp

theorem exec_qpReset (w : s.Canonical) {c} : NextCanonical (execQpReset c s) := (w.command fun _ v => v.stopQp).next

theorem exec_qpDestroy (w : s.Canonical) {c} : NextCanonical (execQpDestroy c s) := (w.command fun _ v => v.stopQp).next

theorem exec_qpQuery (w : s.Canonical) {c} : NextCanonical (execQpQuery c s) := (w.command fun _ v => v.ok).next

theorem exec_qpStopDone (w : s.Canonical) {hp sl q} : NextCanonical (execQpStopDone hp sl q s) := by
  simp only [execQpStopDone]
  refine .ite w.next ?_
  split
  · refine .next ?_
    split
    · exact w.setQp.ok
    · exact w.setQp
  · refine .next ?_
    split
    · exact w.setQp.ok
    · exact w.setQp
  · exact w.setQp.next

/-! ## Port -/

theorem exclude (w : s.Canonical) {p l} : (s.exclude p l).1.Canonical := by
  simp only [State.exclude]
  refine .iteFst w.pair ?_
  split
  · exact (w.wakeOut.ite w).beginChange.pair.iteFst w.setPort.pair
  · exact w.setPort.pair

theorem retrainCmd (w : s.Canonical) {p} : (s.retrainCmd p).Canonical :=
  .ite w.linkLost.modTrain.trainDisable w.linkLost.modTrain.startDetect

theorem exec_portLinkCtrl (w : s.Canonical) {c} : NextCanonical (execPortLinkCtrl c s) := by
  simp only [execPortLinkCtrl]
  refine .next ?_
  refine .command w fun _ v => ?_
  split
  · exact v.recalibrate.ok
  · exact v.modPort.exclude.ok
  · exact v.retrainCmd.ok
  · exact v.modPort.ok

theorem linkCfgNow (w : s.Canonical) {p m} : (s.linkCfgNow p m).Canonical := by
  unfold State.linkCfgNow
  extract_lets _ s₁ s₂ s₃
  have counts : s₁.Canonical := w.modTrain.ite w
  have idle : s₂.Canonical := counts.armIdle.ite counts
  have period : s₃.Canonical := idle.modPort.ite idle
  exact .ite period.modPort period

theorem exec_portLinkCfg (w : s.Canonical) {c} : NextCanonical (execPortLinkCfg c s) :=
  (w.command fun _ v => v.modPort.linkCfgNow.ok).next

theorem exec_portNotifyBind (w : s.Canonical) {c} : NextCanonical (execPortNotifyBind c s) :=
  (w.command fun _ v => v.modPort.ok).next

/-! ## Dp -/

theorem modStream (w : s.Canonical) {x f} : (s.modStream x f).Canonical := w.modDpi

theorem dpEnd (w : s.Canonical) {p} : (s.dpEnd p).Canonical := by
  simp only [State.dpEnd]
  refine .ite ?_ w
  refine .modeNotice ?_
  refine .portNotice ?_
  refine .modPd ?_
  split
  · exact w.teardown
  · exact w

theorem dpExit (w : s.Canonical) {p} : (s.dpExit p).Canonical := .ite w.sendVdm.dpEnd w

theorem dpTrain (w : s.Canonical) {p} : (s.dpTrain p).Canonical := .ite w.modPd.event.dpExit w.modPd

theorem dpRefit (w : s.Canonical) {p} : (s.dpRefit p).Canonical := by
  simp only [State.dpRefit]
  split
  · refine .ite ?_ w.dpTrain
    split
    · exact w.modTunnel
    · exact w
  · exact .ite w.dpTrain w

theorem dpBindNow (w : s.Canonical) {p src owner} : (s.dpBindNow p src owner).1.Canonical := w.setTunnel.modPd.dpRefit.pair

theorem dpAutoBind (w : s.Canonical) {p} : (s.dpAutoBind p).Canonical := .ite (w.modPd.fwChange fun _ v => v.dpBindNow) w.modPd

theorem exec_dpaltBind (w : s.Canonical) {c} : NextCanonical (execDpaltBind c s) := (w.command fun _ v => v.dpBindNow.ok).next

theorem exec_dpaltUnbind (w : s.Canonical) {c} : NextCanonical (execDpaltUnbind c s) := by
  simp only [execDpaltUnbind]
  refine .next ?_
  refine .command w fun _ v => ?_
  refine .ok ?_
  refine .modPd ?_
  split
  · exact v.freeEntry
  · exact v

theorem dpIdle (w : s.Canonical) {tid} : (s.dpIdle tid).Canonical := .ite w.send w

theorem dispRaised (w : s.Canonical) {tid flits} : (s.dispRaised tid flits).Canonical := w.setTunnel.modStream

theorem dispRaise (w : s.Canonical) {tid flits} : (s.dispRaise tid flits).Canonical :=
  .ite w.modStream (.ite w.modStream.event.dpIdle (w.setTunnel.fwChange fun _ v => v.dispRaised))

theorem dpDscCheck (w : s.Canonical) {p} : (s.dpDscCheck p).Canonical := by
  simp only [State.dpDscCheck]
  split
  · exact .ite w w.dispRaise
  · exact w

theorem exec_dpHpdChange (w : s.Canonical) {port kind linkOk dsc} : NextCanonical (execDpHpdChange port kind linkOk dsc s) := by
  simp only [execDpHpdChange]
  refine .ite w.next ?_
  split
  · exact w.modPd.portNotice.next
  · exact (w.modPd.portNotice.ite w.modPd.portNotice.dpAutoBind).dpDscCheck.dpTrain.next
  · exact (w.dpTrain.ite w).next

theorem exec_dpTrained (w : s.Canonical) {port ok} : NextCanonical (execDpTrained port ok s) := by
  simp only [execDpTrained]
  refine .ite w.next ?_
  refine .ite ?_ (.ite w.event.dpExit.next w.modPd.next)
  split
  · exact w.event.dpExit.next
  · refine .next ?_
    refine .portNotice ?_
    split
    · exact w.modPd.modTunnel
    · exact w.modPd

theorem exec_dispModeChange (w : s.Canonical) {dpi stream mode} : NextCanonical (execDispModeChange dpi stream mode s) := by
  simp only [execDispModeChange]
  split
  · exact .ite w.modStream.dispRaise.dpRefit.next w.modStream.dispRaise.next
  · exact w.modStream.next

theorem exec_novideoPeriod (w : s.Canonical) {dpi stream} : NextCanonical (execNovideoPeriod dpi stream s) := by
  simp only [execNovideoPeriod]
  split
  · exact .ite w.clientCell.next w.next
  · exact w.next

theorem exec_dispSegment (w : s.Canonical) {dpi stream seg flags line off frame data} :
    NextCanonical (execDispSegment dpi stream seg flags line off frame data s) := by
  unfold execDispSegment
  extract_lets x y y₁ z s₁
  have noted : s₁.Canonical := w.modStream
  refine .ite w.next ?_
  split
  · exact .ite noted.next (.ite noted.modStream.next (.ite noted.modStream.next (.ite noted.modStream.next
      (.ite noted.next (.ite noted.clientCell.next (.ite noted.clientCell.next noted.clientCell.next))))))
  · exact noted.modStream.next

/-! ## Usb -/

theorem schedErr (w : s.Canonical) {r cycle cause} : (s.schedErr r cycle cause).Canonical := .ite w w.modRoot.event

theorem startChain (w : s.Canonical) {v e} : (s.startChain v e).Canonical := by
  simp only [State.startChain]
  split
  · refine .ite w ?_
    split
    · exact w
    · exact w.setEp.ringStop
    · exact w.setEp.ringStop
    · exact w.setEp.takeSlot
  · exact w

theorem drainEnding (n : Nat) {v e} (w : s.Canonical) : (s.drainEnding v e n).Canonical := by
  induction n generalizing s with
  | zero => exact w
  | succ n ih =>
    simp only [State.drainEnding]
    split
    · split
      · exact .ite w.tickFree.enginePush.setEp (ih w.tickFree.enginePush.setEp)
      · exact w.tickFree.enginePush.setEp
      · exact w.tickFree.enginePush.setEp
      · exact w.setEp
    · exact w

theorem drainAll (w : s.Canonical) {v} : (s.drainAll v).Canonical := .foldl w fun _ _ v => v.drainEnding _

theorem noteAddress (w : s.Canonical) {x c} : (s.noteAddress x c).Canonical := .ite w.setDslot w

theorem chainOk (w : s.Canonical) {e short} : (s.chainOk e short).Canonical := by
  simp only [State.chainOk]
  refine .modEp ?_
  refine .endChain ?_
  split
  · exact w.noteAddress
  · exact w

theorem nextTd (w : s.Canonical) {e cur short} : (s.nextTd e cur short).Canonical := by
  simp only [State.nextTd]
  split
  · exact .ite w.setEp w.chainOk
  · exact w

theorem movedOut (w : s.Canonical) {e n cycle} : (s.movedOut e n cycle).Canonical := by
  simp only [State.movedOut]
  split
  · exact w
  · exact .ite w.setEp.nextTd w.setEp

theorem epBuffer (w : s.Canonical) {x data} : (s.epBuffer x data).1.Canonical :=
  .iteFst w.pair (w.throughBuffer fun a b _ v => { v with epBuf := Tab.wf_write 0 b a _ v.epBuf })

theorem poisonEnd (w : s.Canonical) {e} : (s.poisonEnd e).Canonical := w.endChain.modEp

theorem movedIn (w : s.Canonical) {e asked dpid data cycle more} : (s.movedIn e asked dpid data cycle more).Canonical := by
  unfold State.movedIn
  extract_lets x n seq short
  split
  · extract_lets td status put addr c₁
    have read : (s.epBuffer x put).1.Canonical := w.epBuffer
    refine .ite w.modEp (.ite w.stopEp ?_)
    split
    next s₁ bad e₁ =>
    rw [e₁] at read
    extract_lets s₂ s₃
    have placed : s₃.Canonical := (read.ite read.hostWrite).setEp
    exact .ite read.poisonEnd (.ite read.stopEp (.ite (.ite placed.endChain.modEp (.ite placed placed.chainOk))
      (.ite placed.nextTd (.ite (.ite placed.nextTd placed.chainOk) (.ite placed.nextTd placed)))))
  · exact w

theorem splitError (w : s.Canonical) {e} : (s.splitError e).Canonical := .ite w.modXfer.stopEp w.modXfer.setEp

theorem xactEnd (w : s.Canonical) {e res asked dpid data poison cycle} : (s.xactEnd e res asked dpid data poison cycle).Canonical := by
  simp only [State.xactEnd]
  refine .ite w.modEp ?_
  refine .ite w.modEp.poisonEnd ?_
  split
  · exact w.modEp.movedOut
  · exact w.modEp.movedOut
  · exact w.modEp.modEp
  · exact w.modEp.stopEp
  · exact w.modEp.movedIn
  · exact w.modEp.stopEp
  · exact .ite w.modEp.endChain.modEp w.modEp.modEp
  · exact w.modEp.splitError
  · exact w.modEp.usbError

theorem sendRecords (w : s.Canonical) {tid rs} : (s.sendRecords tid rs).Canonical := by
  simp only [State.sendRecords]
  split
  · exact w
  · exact w.foldl fun _ _ v => v.clientCell

theorem splitWait (w : s.Canonical) {e cycle} : (s.splitWait e cycle).Canonical := by
  simp only [State.splitWait]
  refine .ite w.endChain.modEp ?_
  split
  · exact w.setEp
  · exact .ite w.stopEp w

theorem startNative (w : s.Canonical) {e cycle v} : (s.startNative e cycle v).Canonical := by
  simp only [State.startNative]
  split
  · exact w
  · exact .ite w (.ite w.stopEp (.ite w.epBuffer.poisonEnd (.ite (.ite w.epBuffer.setEp.modXfer w.epBuffer.splitWait) w.epBuffer.setEp)))

theorem sendSs (w : s.Canonical) {tid ps} : SomeCanonical (s.sendSs tid ps) := .ite (.none) w.sendRecords.given

theorem startSs (w : s.Canonical) {r e v} : (s.startSs r e v).Canonical := by
  simp only [State.startSs]
  split
  · refine .ite w ?_
    refine .ite w.stopEp ?_
    refine .ite w.epBuffer.poisonEnd ?_
    split
    · exact w.epBuffer
    · next h => exact .ite (w.epBuffer.sendSs _ h).xactEnd (w.epBuffer.sendSs _ h).modEp
  · exact w

theorem ssGoOn (w : s.Canonical) {e left cur} : (s.ssGoOn e left cur).Canonical := .ite w.setEp w

theorem ssDataIn (w : s.Canonical) {r e p} : (s.ssDataIn r e p).Canonical := by
  simp only [State.ssDataIn]
  refine .ite ?_ ?_
  · split
    · exact w.sendSs.getD w
    · exact w
  · refine .ite w.xactEnd.ssGoOn ?_
    split
    · exact w.xactEnd.ssGoOn.sendSs.getD w.xactEnd.ssGoOn
    · exact w.xactEnd.ssGoOn

theorem ssAcked (w : s.Canonical) {e p} : (s.ssAcked e p).Canonical := .ite w.modEp w.xactEnd.ssGoOn

theorem ssPacket (w : s.Canonical) {r rec'} : (s.ssPacket r rec').Canonical := by
  simp only [State.ssPacket]
  refine .ite w ?_
  split
  · exact w
  · split
    · exact w
    · refine .ite w.modEp.modRoot ?_
      refine .ite w ?_
      refine .ite w.xactEnd ?_
      refine .ite ?_ (.ite w.ssDataIn w.xactEnd)
      split
      · exact w.ssAcked
      · exact w.xactEnd
      · exact w.xactEnd
      · exact w

theorem usb3Cells (w : s.Canonical) : s.usb3Cells.Canonical := w.modMarl.foldl (fun _ _ v => v.takeCell (fun _ _ v2 => v2.ssPacket))

theorem exec_cellEgressSelect (w : s.Canonical) {agent linkUe} : NextCanonical (execCellEgressSelect agent linkUe s) := by
  simp only [execCellEgressSelect]
  refine .ite w.next ?_
  refine .ite ?_ (.ite w.next w.selectCell.flushWrites.usb3Cells.next)
  refine .ite ?_ (.ite (w.selectCell.flushWrites.ite w).next (.ite w.stageBurst.next w.next))
  split
  · exact w.loseFlow.flushWrites.next
  · exact w.next

theorem pass (w : s.Canonical) {per asy credit worked} : (Pass.mk s per asy credit worked).s.Canonical := w

theorem pass_ite {a b : Pass} {c : Prop} {_ : Decidable c} (ha : a.s.Canonical) (hb : b.s.Canonical) :
    (if c then a else b).s.Canonical := by
  split_ifs <;> assumption

theorem pass_request {a : Pass} (w : a.s.Canonical) {r e mframe done k rest v} : (a.request r e mframe done k rest v).s.Canonical := by
  simp only [Pass.request]
  split
  · exact w
  · refine pass_ite w ?_
    split
    · exact w.stopEp.pass
    · exact pass_ite w.epBuffer.poisonEnd.pass w.epBuffer.setRoot.modEp.pass

theorem pass_foldl {α : Type} {f : Pass → α → Pass} {l : List α} {a : Pass} (w : a.s.Canonical) (hf : ∀ b x, b.s.Canonical → (f b x).s.Canonical) :
    (l.foldl f a).s.Canonical := by
  induction l generalizing a with
  | nil => exact w
  | cons x l ih => exact ih (hf a x w)

theorem pass_requests {a : Pass} (w : a.s.Canonical) {r e mframe v} : (a.requests r e mframe v).s.Canonical := by
  simp only [Pass.requests]
  split
  · exact w
  · exact pass_foldl w fun _ _ v => pass_request v

theorem isoReady (n : Nat) {v e cycle} (w : s.Canonical) : (s.isoReady v e cycle n).1.Canonical := by
  induction n generalizing s with
  | zero => exact w
  | succ n ih =>
    simp only [State.isoReady]
    split
    · exact w.startChain
    · exact .iteFst w.startChain.pair (.iteFst (ih w.startChain.endChain.modEp) w.startChain.pair)

theorem autoSuspend (w : s.Canonical) {r} : (s.autoSuspend r).Canonical := .ite w.setRoot w

theorem exec_usbPrefetch (w : s.Canonical) {root view} : NextCanonical (execUsbPrefetch root view s) :=
  .ite w.drainAll.next w.drainAll.setRoot.next

theorem pass_visit {a : Pass} (w : a.s.Canonical) {r cycle mframe usb3 v d} : (a.visit r cycle mframe usb3 v d).s.Canonical := by
  have ready {x : Ep} {c : Prop} {_ : Decidable c} :
      (if c then (a.s.setEp d.handle x).isoReady v d.handle cycle 64 else ((a.s.setEp d.handle x).startChain v d.handle, true)).1.Canonical :=
    iteFst (w.setEp.isoReady _) w.setEp.startChain.pair
  unfold Pass.visit
  exact pass_ite (pass_ite w w.modRoot.schedErr.pass) (pass_ite w (pass_ite w.pass
    (pass_ite ready.pass (pass_ite ready.startNative.pass (pass_ite ready.startSs.pass (pass_requests ready.pass))))))

theorem pass_periodic {a : Pass} (w : a.s.Canonical) {r cycle usb3 v} : (a.periodic r cycle usb3 v).s.Canonical := by
  unfold Pass.periodic
  split
  · extract_lets b
    refine pass_ite w ?_
    have visited : b.s.Canonical := pass_foldl w fun _ _ v => pass_visit v
    exact pass_ite visited visited.schedErr.pass
  · exact w

theorem heldIso (w : s.Canonical) {r cycle v} : (s.heldIso r cycle v).Canonical := .foldl w fun _ _ v => v.isoReady _

theorem exec_usbFormingTime (w : s.Canonical) {root usb3 view} : NextCanonical (execUsbFormingTime root usb3 view s) := by
  unfold execUsbFormingTime
  extract_lets r s₁ x n fresh s₂ a₁ a₂
  have drained : s₁.Canonical := w.drainAll
  refine .ite drained.heldIso.next (.ite drained.next ?_)
  have formed : a₂.s.Canonical := pass_ite (pass_periodic drained.setRoot.pass) drained.setRoot.pass
  split
  extract_lets a₃ s₃
  have visited : a₃.s.Canonical := pass_foldl formed.pass fun _ _ v => pass_visit v
  exact (visited.schedErr.ite visited).modRoot.sendRecords.sendRecords.autoSuspend.next

theorem sendPing (w : s.Canonical) {r} : (s.sendPing r).Canonical := .ite w.modRoot w.setRoot.sendRecords

theorem heldPing (w : s.Canonical) : s.heldPing.Canonical := by
  simp only [State.heldPing]
  split
  · exact w.sendPing
  · exact w

theorem beginResume (w : s.Canonical) {r wake} : (s.beginResume r wake).Canonical := .ite w.modRoot.sendPing w.modRoot

theorem exec_losslessCreditGrant (w : s.Canonical) {agent cls} : NextCanonical (execLosslessCreditGrant agent cls s) := by
  simp only [execLosslessCreditGrant]
  refine .next ?_
  refine .ite ?_ w
  split
  · next h => exact .ite (w.takeSpace _ h).modMarl.mgmtGoesOn (.ite (w.takeSpace _ h).modMarl.heldPing (w.takeSpace _ h).modMarl)
  · exact w

theorem remoteWake (w : s.Canonical) {r tport} : (s.remoteWake r tport).Canonical := by
  simp only [State.remoteWake]
  split
  · exact w.rootNotice.beginResume
  · exact w.modRoot
  · exact .ite w.rootNotice w

theorem usb2Result (w : s.Canonical) {r rec'} : (s.usb2Result r rec').Canonical := by
  simp only [State.usb2Result]
  refine .ite w ?_
  refine .ite (.ite w w.remoteWake) ?_
  split
  · exact w
  · refine .ite w ?_
    split
    · exact w.modRoot
    · exact w.modRoot.xactEnd

theorem exec_usb2ResultReceived (w : s.Canonical) : NextCanonical (execUsb2ResultReceived s) := by
  simp only [execUsb2ResultReceived]
  split
  · exact w.next
  · exact (w.modMarl.takeCell fun _ _ v => v.usb2Result).next

theorem exec_usb2ResultMissing (w : s.Canonical) {root xid} : NextCanonical (execUsb2ResultMissing root xid s) := by
  simp only [execUsb2ResultMissing]
  split
  · exact w.next
  · refine .ite w.next ?_
    split
    · exact w.modRoot.usbError.next
    · exact w.modRoot.next

theorem goOn (w : s.Canonical) {e v} : (s.goOn e v).Canonical := .ite w (.ite (w.ite w.startChain).startNative (.ite w w.startChain))

theorem exec_nativeTransactionEnd (w : s.Canonical) {ep res dpid data view} :
    NextCanonical (execNativeTransactionEnd ep res dpid data view s) := by
  simp only [execNativeTransactionEnd]
  split
  · exact w.next
  · exact .ite (.ite w.setEp.modRoot.next w.next) (.ite (.ite w.xactEnd.next w.next)
      (.ite w.next (.ite w.modXfer.setEp.next (.ite w.splitError.next w.modXfer.xactEnd.goOn.next))))

theorem exec_completeSplitDue (w : s.Canonical) {ep res dpid data view} : NextCanonical (execCompleteSplitDue ep res dpid data view s) := by
  simp only [execCompleteSplitDue]
  split
  · exact .ite w.next (.ite (.ite w.splitError.next w.next) (.ite w.splitError.next w.modXfer.modEp.xactEnd.goOn.next))
  · exact w.next

theorem exec_rootConnect (w : s.Canonical) {root speed} : NextCanonical (execRootConnect root speed s) :=
  .ite w.modRoot.rootNotice.next w.next

theorem exec_rootDisconnect (w : s.Canonical) {root} : NextCanonical (execRootDisconnect root s) := .ite w.next w.rootDisconnect.next

theorem runSuspend (w : s.Canonical) {r} : (s.runSuspend r).Canonical := by
  simp only [State.runSuspend]
  split
  · exact w.setRoot.ok
  · exact w

theorem exec_rootResetEnd (w : s.Canonical) {root speed} : NextCanonical (execRootResetEnd root speed s) :=
  .ite (w.setRoot.rootNotice.ite w.setRoot).rootNotice.completeOpt.runSuspend.next w.next

theorem exec_rootSuspendIdle (w : s.Canonical) {root} : NextCanonical (execRootSuspendIdle root s) :=
  .ite w.setRoot.rootNotice.next w.autoSuspend.next

theorem resumed (w : s.Canonical) {r} : (s.resumed r).Canonical := w.setRoot.rootNotice.completeOpt.runSuspend

theorem exec_rootResumeEnd (w : s.Canonical) {root} : NextCanonical (execRootResumeEnd root s) := .ite w.resumed.next w.next

theorem exec_tunRootResumeWaitEnd (w : s.Canonical) {root} : NextCanonical (execTunRootResumeWaitEnd root s) :=
  .ite w.resumed.next w.next

theorem exec_remoteWake (w : s.Canonical) {root tport} : NextCanonical (execRemoteWake root tport s) := w.remoteWake.next

theorem exec_u1u2Timeout (w : s.Canonical) {root cause} : NextCanonical (execU1u2Timeout root cause s) :=
  .ite w.next (.ite w.setRoot.next (.ite (w.setRoot.ite w).next (.ite w.setRoot.next (.ite w.setRoot.next w.next))))

/-! ## Dma -/

theorem chainEnd (w : s.Canonical) {n st xcode check} : (s.chainEnd n st xcode check).Canonical := by
  simp only [State.chainEnd]
  split
  · exact w
  · exact .ite w w.enginePost.modCh

theorem ringEnd (w : s.Canonical) {n tag st xcode} : (s.ringEnd n tag st xcode).Canonical := by
  simp only [State.ringEnd]
  split
  · exact w
  · exact w.enginePush

theorem haltCh (w : s.Canonical) {n cause addr} : (s.haltCh n cause addr).Canonical := by
  unfold State.haltCh
  exact (w.ringEnd.ite w).chainEnd.modCh

theorem busError (w : s.Canonical) {n cause addr} : (s.busError n cause addr).Canonical := .ite w.modCh w.haltCh

theorem sendBlock (w : s.Canonical) {tid before after close} : (s.sendBlock tid before after close).Canonical :=
  .ite (w.foldl fun _ _ v => v.clientCell).clientCell (w.foldl fun _ _ v => v.clientCell)

theorem hostWrites (l : Writes) {h sl} (w : s.Canonical) : (s.hostWrites h sl l).1.Canonical := by
  induction l generalizing s with
  | nil => exact w
  | cons x l ih => exact .iteFst (ih w) (.iteFst (ih w.hostWrite) w.pair)

theorem written (w : s.Canonical) {h sl l x} (e : s.hostWrites h sl l = (t, x)) : t.Canonical := by
  have v := w.hostWrites l (h := h) (sl := sl)
  rwa [e] at v

theorem writeSpace (w : s.Canonical) {n r l} : (s.writeSpace n r l).Canonical := by
  simp only [State.writeSpace]
  split
  · exact w.hold
  · refine .ite w.hold ?_
    split
    · next h => exact (w.written h).modCh.done
    · next h => exact (w.ite (w.written h)).stop
  · exact .ite w.stop (.ite w.stop (.ite w.hold w.sendBlock.modCh.modCh.done))
  · exact w.done

theorem dmaStepped (w : s.Canonical) {n} : (s.dmaStepped n).Canonical := w.modCh

theorem writeDmaBuf (w : s.Canonical) {off b} : (s.modMem fun m => { m with dmaBuf := Tab.write 0 off b m.dmaBuf }).Canonical :=
  { w with dmaBuf := Tab.wf_write 0 b off _ w.dmaBuf }

theorem inFlight (w : s.Canonical) {n data} : (s.inFlight n data).1.Canonical := by
  exact foldlFst w.pair fun _ _ v => (v.throughBuffer fun _ _ _ v => v.writeDmaBuf).pair

theorem moveTurn (w : s.Canonical) {n v b} : (s.moveTurn n v b).Canonical := by
  simp only [State.moveTurn]
  split
  · exact w.modXfer.stop
  · refine .ite w.modXfer.inFlight.stop ?_
    split
    · next h => exact (w.modXfer.inFlight.writeSpace.of_hold h).hold
    · next h => exact (w.modXfer.inFlight.writeSpace.of_stop h).stop
    · next h => exact (w.modXfer.inFlight.writeSpace.of_done h).modCh.done

theorem moveTurns (k : Nat) {n v b} (w : s.Canonical) : (State.moveTurns n v b k s).Canonical := by
  induction k generalizing s with
  | zero => exact w.hold
  | succ k ih =>
    unfold State.moveTurns
    split
    · next h =>
      have v := w.moveTurn.of_done h
      exact .ite v.done (.ite (ih v) v.hold)
    · exact w.moveTurn

theorem dmaMoveRun (w : s.Canonical) {n v fault b} : (s.dmaMoveRun n v fault b).Canonical :=
  .ite w.stop (.ite w.hold (.ite w.stop (.ite w.hold (w.moveTurns _))))

theorem dmaLoopRun (w : s.Canonical) {n b} : (s.dmaLoopRun n b).Canonical := .ite w.stop w.modCh.done

theorem dmaSetupRun (w : s.Canonical) {n b} : (s.dmaSetupRun n b).Canonical := .ite w.stop w.modCh.done

theorem dmaEntry (w : s.Canonical) {n entry id xcode st irq} : (s.dmaEntry n entry id xcode st irq).Canonical := by
  simp only [State.dmaEntry]
  split
  · exact w
  · exact w.enginePost

theorem takeBlock (w : s.Canonical) {n} : (s.takeBlock n).Canonical := by
  unfold State.takeBlock
  extract_lets x u
  split
  · exact w.hold
  · extract_lets _ _ _ _ s₁ s₂
    have taken : s₁.Canonical := w.modCh
    have posted : s₂.Canonical := taken.dmaEntry.ite taken
    exact .ite w.modCh.hold (.ite taken.stop (.ite posted.stop (posted.dmaEntry.ite posted).done))

theorem dmaWaitRun (w : s.Canonical) {n b} : (s.dmaWaitRun n b).Canonical :=
  .ite w.stop (.ite (.ite w.modCh.hold w.takeBlock) (.ite w.modCh.hold w.modCh.done))

theorem triggerAll (w : s.Canonical) {kind num owner} : (s.triggerAll kind num owner).Canonical := w.modXfer

theorem dmaSignalRun (w : s.Canonical) {n b} : (s.dmaSignalRun n b).Canonical := by
  unfold State.dmaSignalRun
  extract_lets _ _ _ _ _ _ _ _ _ _ s₁ s₂
  have posted : s₁.Canonical := w.dmaEntry.ite w
  have fired : s₂.Canonical := posted.triggerAll.ite posted
  exact .ite w.stop (.ite w.stop (.ite w.modCh.hold (.ite w.hold (fired.sendBlock.modCh.ite fired).done)))

theorem dmaEndRun (w : s.Canonical) {n b} : (s.dmaEndRun n b).Canonical := by
  have stored {c : Prop} {_ : Decidable c} {r l} : (if c then s.writeSpace n r l else .done s).Canonical := .ite w.writeSpace w.done
  simp only [State.dmaEndRun]
  refine .ite w.stop ?_
  split
  · next h => exact (stored.of_hold h).hold
  · next h => exact (stored.of_stop h).stop
  · next h =>
    have v := stored.of_done h
    split
    · exact v.modCh.chainEnd.modCh.done
    · exact v.modCh.modCh.modCh.done

theorem dmaEnds {o : DmaOut} (w : o.Canonical) {n} : (Machine.dmaEnds n o).Canonical := by
  cases o with
  | done _ => exact w
  | hold _ => exact w
  | stop s => exact w.busError.ite w.haltCh

theorem dmaStepped_done {o : DmaOut} (w : o.Canonical) {n} :
    (match o with | .done s' => DmaOut.done (s'.dmaStepped n) | o => o).Canonical := by
  cases o with
  | done _ => exact w.dmaStepped
  | hold _ => exact w
  | stop s => exact w

theorem dmaInstrRun (w : s.Canonical) {n op view fault} : (s.dmaInstrRun n op view fault).Canonical := by
  unfold State.dmaInstrRun
  extract_lets x v step run page bad s'
  have ran {t : State} (w : t.Canonical) {b} : (run t b).Canonical := by
    dsimp only [run]
    split
    · exact dmaStepped_done w.dmaMoveRun
    · exact dmaStepped_done w.dmaLoopRun
    · exact dmaStepped_done w.dmaWaitRun
    · exact dmaStepped_done w.dmaSignalRun
    · exact dmaStepped_done w.dmaSetupRun
    · exact w.dmaEndRun
    · exact w.stop
  clear_value run
  refine .ite w (.ite w.haltCh ?_)
  split
  · exact .ite w (.ite w.haltCh (dmaEnds (ran w)))
  · refine .ite w.haltCh (.ite w.haltCh (.ite w ?_))
    have read : s'.Canonical := w.demandRead.ite w
    clear_value s'
    refine .ite read.haltCh ?_
    split
    · exact dmaEnds w.stop
    · exact .ite w (dmaEnds (ran read))

theorem dmaRow (w : s.Canonical) {n op view fault} : (s.dmaRow n op view fault).Canonical := .ite w (.ite (.ite w.haltCh w) w.dmaInstrRun)

theorem startEntry (w : s.Canonical) {n} : (s.startEntry n).Canonical := by
  simp only [State.startEntry]
  split
  · exact w
  · exact .ite w.modCh.haltCh (.ite w.modCh.haltCh w.modCh)

theorem startJob (w : s.Canonical) {n view} : (s.startJob n view).Canonical := by
  simp only [State.startJob]
  split
  · exact w
  · refine .ite w ?_
    refine .ite w.startEntry ?_
    refine .ite w ?_
    split
    · exact w
    · exact w.modCh.ringEnd.modCh
    · exact w.modCh.busError
    · exact w.modCh.takeSlot.startEntry

theorem exec_dmaJobStart (w : s.Canonical) {ch view} : NextCanonical (execDmaJobStart ch view s) := (w.startJob.ite w).next

theorem exec_dmaMove (w : s.Canonical) {ch view fault} : NextCanonical (execDmaMove ch view fault s) := w.dmaRow.next

theorem exec_dmaLoop (w : s.Canonical) {ch view fault} : NextCanonical (execDmaLoop ch view fault s) := w.dmaRow.next

theorem exec_dmaWait (w : s.Canonical) {ch view fault} : NextCanonical (execDmaWait ch view fault s) := w.dmaRow.next

theorem exec_dmaSignal (w : s.Canonical) {ch view fault} : NextCanonical (execDmaSignal ch view fault s) := w.dmaRow.next

theorem exec_dmaSetup (w : s.Canonical) {ch view fault} : NextCanonical (execDmaSetup ch view fault s) := w.dmaRow.next

theorem exec_dmaEnd (w : s.Canonical) {ch view fault} : NextCanonical (execDmaEnd ch view fault s) := w.dmaRow.next

theorem exec_dmaRetryExpiry (w : s.Canonical) {ch view fault} : NextCanonical (execDmaRetryExpiry ch view fault s) :=
  (w.ite (.ite w.modCh.dmaInstrRun w.modCh.startJob)).next

theorem exec_dmaWaitTimeout (w : s.Canonical) {ch} : NextCanonical (execDmaWaitTimeout ch s) := (w.haltCh.ite w).next

theorem exec_dmaTimerExpiry (w : s.Canonical) {timer} : NextCanonical (execDmaTimerExpiry timer s) :=
  ((w.modXfer.ite w.modXfer.triggerAll).wakeCfg.ite w).next

theorem exec_blockLanded (w : s.Canonical) {ch} : NextCanonical (execBlockLanded ch s) := by
  simp only [execBlockLanded]
  refine .next ?_
  split
  · exact w
  · exact w.modMarl.modCh

/-! ## Device -/

theorem devNotice (w : s.Canonical) {n code detail} : (s.devNotice n code detail).Canonical := by
  simp only [State.devNotice]
  refine .event ?_
  split
  · exact w.notice
  · exact w

theorem endWake (w : s.Canonical) {n st} : (s.endWake n st).Canonical := w.setFn.completeOpt

theorem devSettings (w : s.Canonical) {n} : (s.devSettings n).Canonical :=
  w.foldl (fun _ _ v => .ite v (.ite (.ite v.setEp v) (.ite v v.stopEp.modEp)))

theorem flushControl (n : Nat) {v e st xcode} (w : s.Canonical) : (s.flushControl v e st xcode n).Canonical := by
  induction n generalizing s with
  | zero => exact w
  | succ n ih =>
    simp only [State.flushControl]
    split
    · exact w
    · split
      · exact .ite w (ih w.setEp.enginePost)
      · exact w

theorem endControl (w : s.Canonical) {v e st xcode} : (s.endControl v e st xcode).Canonical := by
  unfold State.endControl
  exact .modEp (.ite (w.endChain.flushControl _) w.endChain)

theorem deliverSetup (w : s.Canonical) {v e} : (s.deliverSetup v e).Canonical := by
  have flushed : (s.flushControl v e .aborted 8 32768).Canonical := w.flushControl _
  simp only [State.deliverSetup]
  refine .ite w ?_
  split
  · exact flushed
  · refine .ite flushed ?_
    split
    · exact flushed
    · exact flushed.setEp.ringStop
    · exact flushed.setEp.ringStop
    · exact .ite flushed.setEp.ringStop flushed.hostWrite.setEp.enginePost

theorem devSend (w : s.Canonical) {n ep kind bytes} : (s.devSend n ep kind bytes).Canonical := w.send

theorem devNak (w : s.Canonical) {n ep} : (s.devNak n ep).Canonical := w.devSend

theorem setHalt (w : s.Canonical) {e b} : (s.setHalt e b).Canonical := w.modEp

theorem devFeature (w : s.Canonical) {n p on} : SomeCanonical (s.devFeature n p on) := by
  unfold State.devFeature
  split
  · exact .ite w.setFn.given (.ite w.given .none)
  · exact .ite w.setFn.given .none
  · refine .ite ?_ .none
    intro t e
    obtain ⟨_, -, rfl⟩ := Option.map_eq_some_iff.mp e
    exact w.setHalt

theorem setConfiguration (w : s.Canonical) {n v} : SomeCanonical (s.setConfiguration n v) :=
  .ite (.ite w.setFn.devSettings.given (.ite w.given (.none))) (.ite (.none) w.setFn.devSettings.setFn.devSettings.devNotice.given)

theorem setInterface (w : s.Canonical) {n iface alt} : SomeCanonical (s.setInterface n iface alt) :=
  .ite w.setFn.devSettings.devNotice.given (.none)

theorem standardAnswer (w : s.Canonical) {n p r} (h : s.standardAnswer n p = some r) : r.1.Canonical := by
  have mapped {o : Option State} (v : SomeCanonical o) {f : State → List Byte} (e : (o.map fun s => (s, f s)) = some r) : r.1.Canonical := by
    obtain ⟨t, ht, rfl⟩ := Option.map_eq_some_iff.mp e
    exact v t ht
  simp only [State.standardAnswer] at h
  split at h
  case h_1 | h_6 | h_10 => cases h; exact w
  case h_2 | h_3 => exact mapped w.devFeature h
  case h_4 => cases h; exact .ite w.setFn.devNotice w.setFn
  case h_5 =>
    obtain ⟨d, -, rfl⟩ := Option.map_eq_some_iff.mp h
    exact w
  case h_7 => exact mapped w.setConfiguration h
  case h_8 =>
    split at h
    · cases h; exact w
    · cases h
  case h_9 => exact mapped w.setInterface h

theorem exec_devAttached (w : s.Canonical) {fn} : NextCanonical (execDevAttached fn s) := .ite w.modPd.setFn.devNotice.next w.next

theorem resetRing (w : s.Canonical) {e} : (s.resetRing e).Canonical := .ite w.modEp (w.stopEp.ite w.ringStop.stopEp).modEp

theorem exec_devBusReset (w : s.Canonical) {fn speed view} : NextCanonical (execDevBusReset fn speed view s) := by
  simp only [execDevBusReset]
  refine .ite w.drainAll.next ?_
  refine .next ?_
  refine .devNotice ?_
  refine .setFn ?_
  refine .ite ?_ ?_
  · split
    · exact w.drainAll.endWake.endControl.modEp
    · exact w.drainAll.endWake
  · refine .foldl ?_ fun _ _ v => v.resetRing
    split
    · exact w.drainAll.endWake.endControl.modEp
    · exact w.drainAll.endWake

theorem exec_devSetupReceived (w : s.Canonical) {fn packet view} : NextCanonical (execDevSetupReceived fn packet view s) := by
  unfold execDevSetupReceived
  extract_lets n s₁ e0 s₂
  have drained : s₁.Canonical := w.drainAll
  refine .ite drained.next ?_
  have cleared : s₂.Canonical := by
    dsimp only [s₂]
    clear_value e0
    split
    · have ended {e} : ((if (s₁.ep e).ctlOpen then s₁.endControl view e .aborted 8 else s₁).modEp e fun x => { x with setup := [] }).Canonical :=
        (drained.endControl.ite drained).modEp
      exact .ite ended.setFn ended
    · exact drained
  clear_value e0 s₂
  refine .ite ?_ ?_
  · split
    · next h => exact (cleared.standardAnswer h).devSend.next
    · exact cleared.devSend.next
  · split
    · exact cleared.modEp.devSend.deliverSetup.next
    · exact cleared.devSend.next

theorem devPacket (w : s.Canonical) {n e dirIn dpid data acked v} : (s.devPacket n e dirIn dpid data acked v).Canonical := by
  simp only [State.devPacket]
  split
  · exact w.devNak
  · refine .ite ?_ w.devSend.movedIn
    split
    · exact w.stopEp
    · exact .ite w.epBuffer.poisonEnd (.ite w.epBuffer.devSend.movedOut w.epBuffer.devSend)

theorem ep0Token (w : s.Canonical) {n e dirIn dpid data acked v} : (s.ep0Token n e dirIn dpid data acked v).Canonical := by
  unfold State.ep0Token
  extract_lets s₁ _ _ _ s₂ _
  have delivered : s₁.Canonical := w.deliverSetup
  have begun : s₂.Canonical := delivered.ite delivered.startChain
  refine .ite delivered.devNak ?_
  split
  · exact begun.devNak
  · exact .ite begun.devSend.endChain.modEp (.ite begun.devNak begun.setEp.devPacket.modEp)

theorem diagEntries (w : s.Canonical) {data} : (s.diagEntries data).Canonical := w.foldl fun _ _ v => .ite v.startCmd v.startCmd.complete

theorem exec_devToken (w : s.Canonical) {fn ep dirIn dpid data acked view} :
    NextCanonical (execDevToken fn ep dirIn dpid data acked view s) := by
  simp only [execDevToken]
  refine .ite w.drainAll.next ?_
  refine .ite (.ite (w.drainAll.devNak.ite w.drainAll.devSend.diagEntries).next w.drainAll.next) ?_
  refine .ite ?_ ?_
  · split
    · exact w.drainAll.ep0Token.next
    · exact w.drainAll.devNak.next
  · split
    · exact w.drainAll.next
    · exact .ite w.drainAll.next (.ite w.drainAll.devSend.next (w.drainAll.startChain.ite w.drainAll).devPacket.next)

theorem exec_devSuspended (w : s.Canonical) {fn} : NextCanonical (execDevSuspended fn s) := .ite w.setFn.devNotice.next w.next

theorem exec_devHostResume (w : s.Canonical) {fn} : NextCanonical (execDevHostResume fn s) :=
  .ite w.next (w.setFn.devSend.ite w.setFn).endWake.devNotice.next

theorem exec_devWakeSignalStart (w : s.Canonical) {fn} : NextCanonical (execDevWakeSignalStart fn s) :=
  .ite w.setFn.devSend.next w.next

theorem exec_devWakeTimeout (w : s.Canonical) {fn} : NextCanonical (execDevWakeTimeout fn s) := .ite w.endWake.next w.next

theorem devDetach (w : s.Canonical) {n} : (s.devDetach n).Canonical := .ite w (w.endWake.foldl fun _ _ v => v.stopEp.modEp).setFn.devNotice

theorem portDevices (w : s.Canonical) {p} : (s.portDevices p).Canonical :=
  w.foldl (fun _ _ v => .ite (.ite v.devDetach.setFn.presentDiags v.devDetach) v)

theorem exec_devDetached (w : s.Canonical) {fn} : NextCanonical (execDevDetached fn s) := w.devDetach.next

theorem exec_usbDevBind (w : s.Canonical) {c} : NextCanonical (execUsbDevBind c s) := by
  simp only [execUsbDevBind]
  refine .next ?_
  refine .command w fun _ v => ?_
  refine .ok ?_
  refine .setFn ?_
  split
  · exact v.devDetach
  · exact v

theorem releaseFn (w : s.Canonical) {n} : (s.releaseFn n).Canonical :=
  ((w.devDetach.foldl fun _ _ v => v.disableEp).setFn.sinkOn.ite (w.devDetach.foldl fun _ _ v => v.disableEp).setFn).presentDiags

theorem exec_usbDevUnbind (w : s.Canonical) {c} : NextCanonical (execUsbDevUnbind c s) := (w.command fun _ v => v.releaseFn.ok).next

theorem exec_usbDevCtrl (w : s.Canonical) {c} : NextCanonical (execUsbDevCtrl c s) :=
  (w.command fun _ v => .ite v.setFn v.setHalt.ok).next

/-! ## UsbCmd -/

theorem replaceTunnel (w : s.Canonical) {tid n} : (s.replaceTunnel tid n).Canonical :=
  w.completeOpt.endModify.failQueued.completeOpt.dropAwaits.releaseTun.makeTunnel

theorem exec_usbRootBind (w : s.Canonical) {c} : NextCanonical (execUsbRootBind c s) := (w.command fun _ v => v.setRoot.ok).next

theorem rootReset (w : s.Canonical) {r c} : (s.rootReset r c).Canonical := by
  simp only [State.rootReset]
  refine .ite ?_ w.stopRoot.completeOpt.modRoot
  refine .runSuspend ?_
  refine .ok ?_
  refine .rootNotice ?_
  refine .modRoot ?_
  refine .ite ?_ ?_
  · refine .rootNotice ?_
    refine .completeOpt ?_
    split
    · exact w.stopRoot.replaceTunnel
    · exact w.stopRoot
  · refine .completeOpt ?_
    split
    · exact w.stopRoot.replaceTunnel
    · exact w.stopRoot

theorem rootAction (w : s.Canonical) {r action c} : (s.rootAction r action c).Canonical := by
  simp only [State.rootAction]
  split
  · exact w.setRoot.ok
  · exact w.rootOff.ok
  · exact w.rootReset
  · exact w.rootReset
  · split
    · exact w.setRoot.ok
    · exact w.setRoot
    · exact w.setRoot
    · exact w.ok
  · split
    · exact w.setRoot.ok
    · exact w.beginResume.modRoot
    · exact w.setRoot
  · exact w.setRoot.ok
  · exact w.setRoot.ok
  · exact w.setRoot.ok
  · exact w.setRoot.ok

theorem exec_usbRootCtrl (w : s.Canonical) {c} : NextCanonical (execUsbRootCtrl c s) := (w.command fun _ v => v.rootAction).next

theorem exec_usbSlotAlloc (w : s.Canonical) {c} : NextCanonical (execUsbSlotAlloc c s) := (w.command fun _ v => v.setDslot.ok).next

theorem exec_usbSlotFree (w : s.Canonical) {c} : NextCanonical (execUsbSlotFree c s) := (w.command fun _ v => v.setDslot.ok).next

theorem exec_usbEpConfig (w : s.Canonical) {c} : NextCanonical (execUsbEpConfig c s) :=
  (w.command fun _ v => .ite v.setEp.ok (v.disableEp.drainEnding _).ok).next

theorem exec_usbEpReset (w : s.Canonical) {c} : NextCanonical (execUsbEpReset c s) := (w.command fun _ v => v.setEp.ok).next

theorem exec_usbEpStop (w : s.Canonical) {c} : NextCanonical (execUsbEpStop c s) := (w.command fun _ v => v.stopEp.ok).next

theorem exec_usbEpSetDeq (w : s.Canonical) {c} : NextCanonical (execUsbEpSetDeq c s) := (w.command fun _ v => v.setEp.ok).next

theorem exec_usbRootQuery (w : s.Canonical) {c} : NextCanonical (execUsbRootQuery c s) := (w.command fun _ v => v.ok).next

theorem newWork (w : s.Canonical) {e} : (s.newWork e).Canonical := by
  simp only [State.newWork]
  split
  · exact w
  · refine .ite w.modRoot ?_
    split
    · exact w.modRoot.setRoot
    · exact .ite w.modRoot.beginResume w.modRoot
    · exact w.modRoot

theorem dbReject (w : s.Canonical) {h sl} : (s.dbReject h sl).Canonical := w.modSlice

theorem deviceWork (w : s.Canonical) {e v} : (s.deviceWork e v).Canonical := .ite w (.ite w.deliverSetup.devSend w.deliverSetup)

theorem exec_usbEpDoorbell (w : s.Canonical) {hp sl v view} : NextCanonical (execUsbEpDoorbell hp sl v view s) :=
  (w.atPage (fun _ v => .ite v.dbReject (.ite (v.stopEp.ite v.ringStop).modEp (.ite v (.ite v.setEp.deviceWork v.setEp.newWork))))).next

/-! ## DmaCmd -/

theorem clearCh (w : s.Canonical) {n keep} : (s.clearCh n keep).Canonical := by
  unfold State.clearCh
  exact w.modMarl.modCh

theorem stopCh (w : s.Canonical) {n} : (s.stopCh n).Canonical := by
  unfold State.stopCh
  exact w.chainEnd.modCh

theorem exec_dmaChAlloc (w : s.Canonical) {c} : NextCanonical (execDmaChAlloc c s) := (w.command fun _ v => v.setCh.ok).next

theorem exec_dmaChConfig (w : s.Canonical) {c} : NextCanonical (execDmaChConfig c s) := (w.command fun _ v => v.modCh.ok).next

theorem exec_dmaChCtrl (w : s.Canonical) {c} : NextCanonical (execDmaChCtrl c s) := by
  simp only [execDmaChCtrl]
  refine .next ?_
  refine .command w fun _ v => ?_
  split
  · exact v.modCh.ok
  · exact (v.stopCh.ite v).ok
  · exact (v.modCh.ite v).ok

theorem exec_dmaChFree (w : s.Canonical) {c} : NextCanonical (execDmaChFree c s) := (w.command fun _ v => v.clearCh.ok).next

theorem exec_dmaTimerCfg (w : s.Canonical) {c} : NextCanonical (execDmaTimerCfg c s) := (w.command fun _ v => v.modXfer.ok).next

theorem exec_dmaChQuery (w : s.Canonical) {c} : NextCanonical (execDmaChQuery c s) := (w.command fun _ v => v.ok).next

theorem exec_dmaChDoorbell (w : s.Canonical) {hp sl v} : NextCanonical (execDmaChDoorbell hp sl v s) :=
  (w.atPage (fun _ v => .ite v.dbReject (.ite (.ite v.haltCh v) v.setCh))).next

theorem exec_dmaProgramWrite (w : s.Canonical) {hp sl off bytes} : NextCanonical (execDmaProgramWrite hp sl off bytes s) := by
  refine .next (w.atPage fun _ v => .ite v ?_)
  have stored := v.storeBytes (region := 3) (at' := 524288 + off.val) (bytes := bytes.take (1024 - off.val % 1024)) (put := fun a b s =>
    s.modXfer fun y => { y with prog := Tab.write 0 (a - 524288) b y.prog }) fun a b _ v => { v with prog := Tab.wf_write 0 b _ _ v.prog }
  exact .ite stored.haltCh stored

/-! ## Slices -/

theorem orWait (w : s.Canonical) {i c k h sl waits effect} (heffect : ∀ t, t.Canonical → (effect t).Canonical) :
    (s.orWait i c k h sl waits effect).Canonical :=
  .ite w.startCmd.modSlice (w.command (fun _ v2 => heffect _ v2))

theorem exec_sliceEnable (w : s.Canonical) {c} : NextCanonical (execSliceEnable c s) := (w.orWait fun _ v => v.setSlice.ok).next

theorem unbindRoot (w : s.Canonical) {r} : (s.unbindRoot r).Canonical := by
  unfold State.unbindRoot
  exact w.freeSlots.endRootCmds.modRoot

theorem renewHub (w : s.Canonical) {r} : (s.renewHub r).Canonical := by
  simp only [State.renewHub]
  split
  · exact .ite w.replaceTunnel w
  · exact w

theorem dropBinding (w : s.Canonical) {tid} : (s.dropBinding tid).Canonical := by
  unfold State.dropBinding
  exact w.dpIdle.freeEntry.modPd

theorem closeOwned (w : s.Canonical) {tid} : (s.closeOwned tid).Canonical :=
  .ite w (.ite w.dropBinding (.ite w.closeTunnel.rootFollows w.closeTunnel))

theorem releaseTunnel (w : s.Canonical) {h sl tid} : (s.releaseTunnel h sl tid).Canonical :=
  .ite (.ite w w.setTunnel) (.ite w (w.fwChange fun _ v => v.closeOwned))

theorem releaseOwned (w : s.Canonical) {h sl disable} : (s.releaseOwned h sl disable).Canonical := by
  unfold State.releaseOwned
  extract_lets roots s₁ s₂ s₃ s₄ s₅ s₆ s₇ s₈
  have unbound : s₁.Canonical := .foldl w fun _ _ v => v.unbindRoot
  have freed : s₂.Canonical := .foldl unbound fun _ _ v => v.modFn.releaseFn
  have released : s₃.Canonical := .foldl freed fun _ _ v => v.releaseTunnel
  have renewed : s₄.Canonical := .foldl released fun _ _ v => v.renewHub
  have cleared : s₅.Canonical := .foldl renewed fun _ _ v => v.clearCh
  have timers : s₆.Canonical := .foldl cleared fun _ _ v => v.modXfer
  have ports : s₇.Canonical := .ite timers.of_stores timers
  have last : s₈.Canonical := ports.of_stores
  exact .ite last.modSlice last

theorem abortEps (l : List Nat) {gen b} (w : s.Canonical) : (s.abortEps gen l b).1.Canonical := by
  induction l generalizing s b with
  | nil => exact w
  | cons e l ih => exact ih (.ite (w.disableEp.drainEnding _) w.disableEp)

theorem abortQps (l : List Nat) {h sl gen b} (w : s.Canonical) : (s.abortQps h sl gen l b).Canonical := by
  induction l generalizing s b with
  | nil => exact w
  | cons q l ih => exact ih (.ite w w.stopQp)

theorem abortMbx (w : s.Canonical) {h sl} : (s.abortMbx h sl).Canonical := w.foldl fun _ _ v => v.complete

theorem beginReset (w : s.Canonical) {h sl op c disable} : (s.beginReset h sl op c disable).Canonical :=
  .releaseOwned (.modSlice (.abortMbx (.abortQps _ (.foldl (w.completeOpt.abortEps _) fun _ _ v => v.stopCh))))

theorem resetCmd (w : s.Canonical) {i c disable} : (s.resetCmd i c disable).Canonical := w.orWait fun _ v => v.beginReset

theorem exec_sliceReset (w : s.Canonical) {c} : NextCanonical (execSliceReset c s) := w.resetCmd.next

theorem exec_sliceDisable (w : s.Canonical) {c} : NextCanonical (execSliceDisable c s) := w.resetCmd.next

theorem exec_sliceFreeze (w : s.Canonical) {c} : NextCanonical (execSliceFreeze c s) := (w.command fun _ v => v.modSlice).next

theorem exec_sliceQuiescent (w : s.Canonical) {hp sl} : NextCanonical (execSliceQuiescent hp sl s) :=
  .ite w.setSlice.completeOpt.next w.next

theorem thaw (w : s.Canonical) {h sl} : (s.thaw h sl).Canonical := .ite w.modSlice.submitMbx w.modSlice

theorem exec_sliceFreezeTimeout (w : s.Canonical) {hp sl} : NextCanonical (execSliceFreezeTimeout hp sl s) :=
  .ite w.completeOpt.thaw.next w.next

theorem exec_sliceSave (w : s.Canonical) {c} : NextCanonical (execSliceSave c s) :=
  (w.command (fun _ v => .ite v.complete.tickFree (.ite v.complete.tickFree v.modSlice.modHosts.bufferWrite.ok.tickFree))).next

theorem restoreTunnel (w : s.Canonical) {o e} (h : s.restoreTunnel o e = .ok t) : t.Canonical := by
  simp only [State.restoreTunnel] at h
  split at h
  · cases h
    exact w.setTunnel
  · split at h
    · split at h
      · cases h
      · split at h
        · cases h
        · cases h
          exact w.makeTunnel
    · cases h

theorem restoreTunnels (l : List (Nat × Tunnel)) {o} (w : s.Canonical) (h : s.restoreTunnels o l = .ok t) : t.Canonical := by
  induction l generalizing s with
  | nil => cases h; exact w
  | cons e l ih =>
    unfold State.restoreTunnels at h
    split at h
    · cases h
    · next r => exact ih (w.restoreTunnel r) h

theorem restoreEngines (w : s.Canonical) {m src dst} : (s.restoreEngines m src dst).Canonical := by
  unfold State.restoreEngines
  extract_lets s₁ s₂ s₃ s₄ s₅
  have roots : s₁.Canonical := w.foldl fun _ _ v => v.setRoot
  have slots : s₂.Canonical := roots.foldl fun _ _ v => v.setDslot
  have eps : s₃.Canonical := slots.foldl fun _ _ v => v.setEp
  have fns : s₄.Canonical := eps.foldl fun _ _ v => v.setFn
  have chans : s₅.Canonical := fns.foldl fun _ _ v => v.setCh
  exact chans.foldl fun _ _ v => v.modXfer

theorem restoreMove (w : s.Canonical) {m src dst} : (s.restoreMove m src dst).Canonical := by
  unfold State.restoreMove
  split
  split
  extract_lets _ s₁ s₂ s₃ s₄ s₅
  have qps : s₃.Canonical := .foldl (.foldl w.restoreEngines fun _ _ v => v.setQp) fun _ _ v => v.setQp
  have moved : s₄.Canonical := qps.modSlice
  exact (moved.ite moved.releaseOwned).modHosts.modSlice

theorem exec_sliceRestore (w : s.Canonical) {c} : NextCanonical (execSliceRestore c s) := by
  simp only [execSliceRestore]
  refine .next (.orWait w fun _ v => .ite v.thaw.ok ?_)
  split
  · next h => exact (v.restoreTunnels _ h).restoreMove.ok
  · exact v.complete

theorem exec_sliceDirtyLog (w : s.Canonical) {c} : NextCanonical (execSliceDirtyLog c s) := (w.command fun _ v => v.modSlice.ok).next

theorem exec_sliceQuery (w : s.Canonical) {c} : NextCanonical (execSliceQuery c s) := (w.command fun _ v => v.ok).next

theorem rerunSlice (w : s.Canonical) {op c} : (s.rerunSlice op c).Canonical := by
  unfold State.rerunSlice
  extract_lets r
  have rerun : NextCanonical r := by
    dsimp only [r]
    split
    · exact w.exec_sliceEnable
    · exact w.exec_sliceReset
    · exact w.exec_sliceDisable
    · exact w.exec_sliceRestore
  clear_value r
  split
  · exact rerun _ rfl
  · exact w

theorem nextWaiting (w : s.Canonical) {h sl} : (s.nextWaiting h sl).Canonical := by
  simp only [State.nextWaiting]
  split
  · exact w
  · exact w.modSlice.rerunSlice

theorem exec_sliceResetDone (w : s.Canonical) {hp sl} : NextCanonical (execSliceResetDone hp sl s) := by
  simp only [execSliceResetDone]
  refine .ite w.next ?_
  refine .next ?_
  refine .nextWaiting ?_
  split
  · exact .ite w.releaseOwned.modSlice.endCmd.deliver w.releaseOwned.modSlice
  · exact w.releaseOwned.modSlice

theorem exec_generationDrained (w : s.Canonical) {hp sl} : NextCanonical (execGenerationDrained hp sl s) := by
  simp only [execGenerationDrained]
  split
  · exact w.next
  · exact .ite w.next w.modSlice.nextWaiting.next

/-! ## Levels -/

theorem commandVcore (w : s.Canonical) : s.commandVcore.Canonical := by
  simp only [State.commandVcore]
  split
  · exact w
  · exact .ite w w.modPower.send

theorem setLevel (w : s.Canonical) {agent level} : (s.setLevel agent level).Canonical := w.modPower

theorem startLevel (w : s.Canonical) {agent level cmd} : (s.startLevel agent level cmd).Canonical := by
  unfold State.startLevel
  exact w.setLevel.modPower

theorem raiseHost (w : s.Canonical) {h} : (s.raiseHost h).Canonical := .ite w (w.fwChange fun _ v => v.startLevel.commandVcore)

theorem exec_pmLevel (w : s.Canonical) {c} : NextCanonical (execPmLevel c s) :=
  (w.command (fun _ v => (v.foldl (fun _ _ v2 => v2.startLevel)).commandVcore)).next

theorem exec_levelChangeDone (w : s.Canonical) {agent} : NextCanonical (execLevelChangeDone agent s) := by
  simp only [execLevelChangeDone]
  split
  · exact w.next
  · refine .ite w.next ?_
    split
    · exact w.modPower.trace.commandVcore.next
    · exact .ite w.modPower.trace.commandVcore.next w.modPower.trace.commandVcore.complete.next

theorem domainDown (w : s.Canonical) {d} : (s.domainDown d).Canonical := .ite (w.modPower.foldl fun _ _ v => v.linkDisable) w.modPower

theorem retrainEntered (w : s.Canonical) {p} : (s.retrainEntered p).Canonical := .ite w.startDetect w

theorem domainUp (w : s.Canonical) {d} : (s.domainUp d).Canonical := .ite (w.modPower.foldl fun _ _ v => v.retrainEntered) w.modPower

theorem exec_pmDomain (w : s.Canonical) {c} : NextCanonical (execPmDomain c s) :=
  (w.command fun _ v => .ite v.modPower.ok v.modPower.modPower).next

theorem exec_domainSequenceDone (w : s.Canonical) {domain} : NextCanonical (execDomainSequenceDone domain s) := by
  simp only [execDomainSequenceDone]
  split
  · exact w.next
  · refine .ite w.next ?_
    have switched {f : Power → Power} {c : Prop} {_ : Decidable c} {d e} :
        (if c then (s.modPower f).domainDown d else (s.modPower f).domainUp e).Canonical := w.modPower.domainDown.ite w.modPower.domainUp
    exact (switched.trace.ite switched).completeOpt.next

theorem pgWake (w : s.Canonical) {g} : (s.pgWake g).Canonical := .ite w.modPower.modPower w.modPower

theorem exec_pgIdleOffExpiry (w : s.Canonical) {group} : NextCanonical (execPgIdleOffExpiry group s) := .ite w.modPower.next w.next

theorem wake (w : s.Canonical) {src} : (s.wake src).Canonical := .ite w.wakeNow w

theorem exec_wakeEvent (w : s.Canonical) {src} : NextCanonical (execWakeEvent src s) := w.wake.next

theorem exec_pmWakeCfg (w : s.Canonical) {c} : NextCanonical (execPmWakeCfg c s) := (w.command fun _ v => v.modPower.ok).next

theorem exec_pmQuery (w : s.Canonical) {c} : NextCanonical (execPmQuery c s) := (w.command fun _ v => v.ok).next

/-! ## HostPort -/

theorem planNow (w : s.Canonical) {i} : (s.planNow i).Canonical := by
  simp only [State.planNow]
  split
  · exact w.alarmOccur
  · refine .ite ?_ ?_
    · refine .rootFollows ?_
      split
      · exact .ite w.tunnelNotice.replaceTunnel w.tunnelNotice.closeTunnel.makeTunnel
      · exact w.makeTunnel
    · split
      · exact .ite w.tunnelNotice.replaceTunnel w.tunnelNotice.closeTunnel.makeTunnel
      · exact w.makeTunnel

theorem planApply (w : s.Canonical) {i} : (s.planApply i).Canonical := by
  simp only [State.planApply]
  split
  · exact w.alarmOccur
  · exact w.fwChange fun _ v => v.planNow

theorem dropQueues (w : s.Canonical) {h sl} : (s.dropQueues h sl).Canonical := by
  unfold State.dropQueues
  exact w.modHosts.modSlice

theorem lostTunnel (w : s.Canonical) {h tid} : (s.lostTunnel h tid).Canonical := .ite w.dropBinding (.ite w.setTunnel w.setTunnel)

theorem loseSlice (w : s.Canonical) {h sl} : (s.loseSlice h sl).Canonical := by
  unfold State.loseSlice
  extract_lets x keeps s₁ s₂ s₃ s₄ s₅ roots s₆ s₇ s₈ s₉
  have lost : s₂.Canonical := w.completeOpt.setSlice
  have eps : s₃.Canonical := .foldl lost fun _ _ v => v.stopEp.setEp
  have chans : s₄.Canonical := .foldl eps fun _ _ v => v.stopCh.clearCh
  have tunnels : s₅.Canonical := .foldl chans fun _ _ v => v.lostTunnel
  have unbound : s₆.Canonical := .foldl tunnels fun _ _ v => v.unbindRoot
  have renewed : s₇.Canonical := .foldl unbound fun _ _ v => v.renewHub
  have freed : s₈.Canonical := .foldl renewed fun _ _ v => v.modFn.releaseFn
  have timers : s₉.Canonical := .foldl freed fun _ _ v => v.modXfer
  exact timers.dropQueues

theorem losePort (w : s.Canonical) {h up} : (s.losePort h up).Canonical := by
  unfold State.losePort
  extract_lets waiting s₁ s₂ s₃ s₄ none' s₅ s₆ s₇ s₈ s₉
  have lost : s₁.Canonical := .foldl w fun _ _ v => v.loseSlice
  have reset : s₂.Canonical := lost.flushAgent.modHp
  have ports : s₄.Canonical := reset.of_stores
  have sinks : s₆.Canonical := .ite ports.unbindJournal.unbindTrace ports.unbindJournal
  have told : s₈.Canonical := sinks.sinkAlarm.alarmOccur.event.loamRecord
  have planned : s₉.Canonical := .foldl told fun _ _ v => v.planApply
  exact .foldl planned fun _ _ v => v.nextWaiting

theorem exec_hostPortLoss (w : s.Canonical) {hp} : NextCanonical (execHostPortLoss hp s) := .ite w.modHp.next w.losePort.next

theorem exec_functionLevelReset (w : s.Canonical) {hp} : NextCanonical (execFunctionLevelReset hp s) :=
  .ite w.event.next w.event.losePort.next

theorem exec_hostLostTunnelExpiry (w : s.Canonical) {hp sl} : NextCanonical (execHostLostTunnelExpiry hp sl s) :=
  .ite w.next (w.setSlice.foldl (fun _ _ v => v.fwChange (fun _ v2 => v2.closeOwned))).next

theorem exec_hostPortReturn (w : s.Canonical) {hp rate width} : NextCanonical (execHostPortReturn hp rate width s) := by
  unfold execHostPortReturn
  extract_lets _ s₁ s₂ _ s₃ s₄ s₅
  have raised : s₂.Canonical := w.modHp.noteClient.raiseHost.wakeCfg
  have active : s₄.Canonical := (raised.foldl fun _ _ v => v.modSlice).modSlice
  exact .ite raised.next (active.ite active.alarmEnd).event.next

theorem exec_hostLinkRateChange (w : s.Canonical) {hp rate width} : NextCanonical (execHostLinkRateChange hp rate width s) :=
  .ite w.next w.modHp.noteClient.raiseHost.next

theorem deliverOwed (w : s.Canonical) {h} : (s.deliverOwed h).Canonical :=
  .ite w (.ite (w.setHp.foldl fun _ _ v => v.sendVec) ((w.setHp.foldl fun _ _ v => v.sendVec).setHp.foldl fun _ _ v => v.send))

theorem exec_hostPowerStateChange (w : s.Canonical) {hp power bme pmeEn ptmEn bar0 ctoMs} :
    NextCanonical (execHostPowerStateChange hp power bme pmeEn ptmEn bar0 ctoMs s) :=
  .ite w.next (w.modHp.deliverOwed.drainStaging.wakeCfg.ite w.modHp.deliverOwed.drainStaging).next

theorem exec_hostReadCompletion (w : s.Canonical) {hp sl addr bytes} : NextCanonical (execHostReadCompletion hp sl addr bytes s) :=
  .ite w.next w.modHp.next

theorem exec_hostReadTimeout (w : s.Canonical) {user} : NextCanonical (execHostReadTimeout user s) := by
  simp only [execHostReadTimeout]
  split
  · exact .ite w.busError.next w.next
  · exact .ite w.fetchError.next w.next
  · exact .ite w.stopEp.next w.next

/-! ## Edge -/

theorem setTimebase (w : s.Canonical) {v} : (s.setTimebase v).Canonical := w.modClock.rebaseDelays

theorem exec_tbSet (w : s.Canonical) {c} : NextCanonical (execTbSet c s) := (w.command fun _ v => v.setTimebase.ok).next

theorem exec_tbSlew (w : s.Canonical) {c} : NextCanonical (execTbSlew c s) := (w.command fun _ v => v.modClock.ok).next

theorem exec_slewOffsetRemoved (w : s.Canonical) : NextCanonical (execSlewOffsetRemoved s) := (w.modClock.ite w).next

theorem exec_tbQuery (w : s.Canonical) {c} : NextCanonical (execTbQuery c s) := (w.command fun _ v => v.ok).next

theorem exec_followerInvalid (w : s.Canonical) {agent} : NextCanonical (execFollowerInvalid agent s) := w.modClock.event.next

theorem exec_timebaseFullValue (w : s.Canonical) : NextCanonical (execTimebaseFullValue s) := w.modClock.next

theorem siteRefused (w : s.Canonical) {who} : (s.siteRefused who).Canonical := by
  simp only [State.siteRefused]
  split
  · exact w.modSilt.modHp
  · exact w.modSilt.modMgmt

theorem siteWrite (w : s.Canonical) {who v late} : (s.siteWrite who v late).Canonical :=
  .ite (.ite w.commitNow w.modSilt) (.ite w.commitNow.of_stores w.siteRefused)

theorem siteHold (w : s.Canonical) {who v} : (s.siteHold who v).Canonical := by
  simp only [State.siteHold]
  split
  · exact .ite w.modHp w.siteRefused
  · exact .ite w.modMgmt w.siteRefused

theorem sitesHeld (w : s.Canonical) : s.sitesHeld.Canonical :=
  (w.foldl (fun _ _ v => v.modHp.foldl (fun _ _ v2 => v2.siteWrite))).modMgmt.foldl fun _ _ v => v.siteWrite

theorem wroteBy (w : s.Canonical) {who} : (s.wroteBy who).Canonical := by
  simp only [State.wroteBy]
  split
  · exact w.wakeCfg
  · exact w

theorem exec_glbSiteIdWrite (w : s.Canonical) {who v} : NextCanonical (execGlbSiteIdWrite who v s) :=
  (w.wroteBy.siteHold.ite w.wroteBy.siteWrite).next

theorem exec_wrRefusedClear (w : s.Canonical) {who} : NextCanonical (execWrRefusedClear who s) := by
  simp only [execWrRefusedClear]
  refine .next ?_
  split
  · exact w.wroteBy.modHp
  · exact w.wroteBy.modMgmt

theorem switchRef (w : s.Canonical) {b} : (s.switchRef b).Canonical := w.modClock.trace

theorem exec_refclkLost (w : s.Canonical) {input} : NextCanonical (execRefclkLost input s) :=
  .ite w.next (have lost := w.modClock.alarmOccur.event
    .ite lost.next (.ite lost.switchRef.next lost.modClock.alarmOccur.next))

theorem exec_refclkValid (w : s.Canonical) {input} : NextCanonical (execRefclkValid input s) := by
  unfold execRefclkValid
  extract_lets _ _ s₁ s₂ s₃
  have ended : s₂.Canonical := w.modClock.alarmEnd.ite w.modClock
  have switched : s₃.Canonical := ended.ite ended.switchRef
  exact .ite w.next (switched.modClock.alarmEnd.event.ite switched).next

theorem exec_preferredReturn (w : s.Canonical) : NextCanonical (execPreferredReturn s) := .ite w.switchRef.next w.next

theorem exec_refclkSelect (w : s.Canonical) {c} : NextCanonical (execRefclkSelect c s) := (w.command fun _ v => v.modClock.ok).next

theorem exec_ptmDialogue (w : s.Canonical) {hp t1 master delay} : NextCanonical (execPtmDialogue hp t1 master delay s) :=
  .ite w.setHp.event.next w.next

theorem exec_dpiCfg (w : s.Canonical) {c} : NextCanonical (execDpiCfg c s) := (w.command fun _ v => v.modDpi.ok).next

theorem exec_dpiHpdPulseEnd (w : s.Canonical) {dpi} : NextCanonical (execDpiHpdPulseEnd dpi s) := .ite w.modDpi.next w.next

theorem exec_dpiQuery (w : s.Canonical) {c} : NextCanonical (execDpiQuery c s) := (w.command fun _ v => v.ok).next

theorem exec_dpiLinkChange (w : s.Canonical) {dpi kind rate lanes} : NextCanonical (execDpiLinkChange dpi kind rate lanes s) :=
  .ite w.next (.ite (w.wakeCfg.ite w).next (.ite w.next (w.modDpi.event.wakeCfg.ite w.modDpi.event).next))

theorem exec_netPortCfg (w : s.Canonical) {c} : NextCanonical (execNetPortCfg c s) :=
  (w.command (fun _ v => (v.modNet.event.ite v.modNet).ok)).next

theorem exec_ptpCfg (w : s.Canonical) {c} : NextCanonical (execPtpCfg c s) := (w.command fun _ v => v.modNet.ok).next

theorem exec_ethLinkChange (w : s.Canonical) {ep up} : NextCanonical (execEthLinkChange ep up s) :=
  .ite w.next (.ite (w.wakeCfg.ite w).next (w.modNet.event.wakeCfg.ite w.modNet.event).next)

theorem exec_ethFrameReceived (w : s.Canonical) {ep frame} : NextCanonical (execEthFrameReceived ep frame s) := by
  simp only [execEthFrameReceived]
  refine .ite w.next ?_
  refine .ite w.modNet.next ?_
  refine .ite w.next ?_
  refine .ite w.modNet.next ?_
  refine .ite w.modNet.next ?_
  split
  · exact w.modNet.next
  · split
    · exact w.modNet.next
    · refine .next ?_
      split
      · exact (w.foldl fun _ _ v => v.clientCell).clientCell
      · exact w.foldl fun _ _ v => v.clientCell

/-! ## Power -/

theorem sleepRefused (w : s.Canonical) {result busy} : (s.sleepRefused result busy).Canonical := w.modPower

theorem sleepCheck (w : s.Canonical) : s.sleepCheck.Canonical := by
  simp only [State.sleepCheck]
  refine .ite w.sleepRefused ?_
  refine .ite w.sleepRefused ?_
  split
  · exact w.sleepRefused
  · exact .ite w.sleepRefused w.modPower

theorem exec_pmModeReq (w : s.Canonical) {writer target mask} : NextCanonical (execPmModeReq writer target mask s) := by
  unfold execPmModeReq
  extract_lets _ s₁ s₂ s₃
  have wrote : s₁.Canonical := w.wroteBy.ite w
  have asked : s₃.Canonical := wrote.modPower.event.trace
  exact .ite wrote.next (.ite (wrote.wakeNow.ite wrote.modPower).next (asked.modPower.ite (asked.modPower.ite asked.sleepCheck)).next)

theorem exec_pmModeRefusedClear (w : s.Canonical) : NextCanonical (execPmModeRefusedClear s) := w.modPower.next

theorem exitLatched (w : s.Canonical) : s.exitLatched.Canonical := by
  simp only [State.exitLatched]
  split
  · exact w
  · exact w.modPower

theorem sleepEntered (w : s.Canonical) : s.sleepEntered.Canonical := by
  unfold State.sleepEntered
  extract_lets l s₁ s₂ s₃ s₄
  have down : s₂.Canonical := .foldl w.modPower fun _ _ v => v.domainDown
  have saved : s₃.Canonical := .ite down.modCluster down
  have idle : s₄.Canonical := .foldl saved fun _ _ v => .ite v.armIdle v
  exact idle.exitLatched

theorem exec_sleepEntry (w : s.Canonical) {done} : NextCanonical (execSleepEntry done s) := by
  simp only [execSleepEntry]
  split
  · refine .ite w.next ?_
    split
    · exact w.sleepRefused.next
    · exact w.modPower.next
  · exact w.sleepEntered.next
  · exact w.next

theorem exec_sleepExitDone (w : s.Canonical) : NextCanonical (execSleepExitDone s) := by
  unfold execSleepExitDone
  extract_lets _ _ _ s₁ s₂ s₃ s₄ s₅ s₆
  have restored : s₂.Canonical := w.modPower.foldl fun _ _ v => v.domainUp
  have replayed : s₄.Canonical := (restored.modCluster.foldl fun _ _ v => v.event).foldl fun _ _ v => v.event
  have woken : s₆.Canonical := (replayed.ite replayed.event).foldl fun _ _ v => v.pgWake
  exact .ite w.next (woken.foldl fun _ _ v => v.armIdle.ite v).next

theorem exec_dozeUngate (w : s.Canonical) {agent} : NextCanonical (execDozeUngate agent s) := w.modPower.next

theorem exec_brownoutWarn (w : s.Canonical) {rail mv} : NextCanonical (execBrownoutWarn rail mv s) :=
  .ite w.next (.ite (w.modPower.ite w).next w.modPower.alarmOccur.event.next)

theorem restoreLevels (w : s.Canonical) : s.restoreLevels.Canonical := (w.foldl fun _ _ v => v.modPower).commandVcore

theorem afterHold (w : s.Canonical) : s.afterHold.Canonical := .ite w.sitesHeld.nextAuto.modPower.sleepCheck w.sitesHeld.nextAuto

theorem holdReturns (w : s.Canonical) {low} : (s.holdReturns low).Canonical := by
  unfold State.holdReturns
  exact w.modPower.alarmEnd.loamRecord.restoreLevels.afterHold

theorem holdBroken (w : s.Canonical) : s.holdBroken.Canonical := .ite w.modPower.alarmEnd.alarmEnd.afterHold w

theorem exec_railReturn (w : s.Canonical) {low} : NextCanonical (execRailReturn low s) := by
  unfold execRailReturn
  extract_lets s₁ s₂ s₃ s₄
  have back : s₁.Canonical := .ite w.holdReturns w
  have entered : s₂.Canonical := .foldl back.modPower.alarmEnd fun _ _ v => v.retrainEntered
  have trained : s₃.Canonical := .foldl entered fun _ _ v => .ite v.dpTrain v
  have links : s₄.Canonical := .ite (.ite trained trained.restoreLevels) back
  exact .next (.ite links.modPower.alarmEnd links)

theorem exec_holdWindowExpiry (w : s.Canonical) : NextCanonical (execHoldWindowExpiry s) :=
  .ite w.next w.modPower.alarmEnd.alarmOccur.loamRecord.afterHold.next

theorem exec_lowSupplyEnd (w : s.Canonical) {low} : NextCanonical (execLowSupplyEnd low s) :=
  .ite w.next w.modPower.alarmEnd.loamRecord.restoreLevels.next

theorem domainReset (w : s.Canonical) : s.domainReset.Canonical := by
  refine .sinkAlarm (.foldl (.alarmEnd ?_) fun _ _ v => v.alarmEnd)
  exact ⟨w.mgmtBuf, w.flash, rfl, rfl, rfl, rfl, rfl, rfl, rfl⟩

theorem exec_switchedDomainReset (w : s.Canonical) {rail} : NextCanonical (execSwitchedDomainReset rail s) :=
  .ite w.next w.loamRecord.domainReset.alarmOccur.next

theorem exec_serdesRailLoss (w : s.Canonical) {rail} : NextCanonical (execSerdesRailLoss rail s) := by
  unfold execSerdesRailLoss
  extract_lets s₁ s₂ s₃ s₄ s₅
  have links : s₂.Canonical := w.modPower.alarmOccur.holdBroken.foldl fun _ _ v => v.ite v.linkDisable
  have displays : s₃.Canonical := links.foldl fun _ _ v => v.modPd.ite v
  have hosts : s₄.Canonical := displays.foldl fun _ _ v => v.modHp.ite v.losePort
  have inputs : s₅.Canonical := hosts.foldl fun _ _ v => v.modDpi.event.ite v
  exact .ite w.next (inputs.foldl fun _ _ v => v.modNet.event.ite v).next

theorem coldStart (w : s.Canonical) : s.coldStart.Canonical := ⟨rfl, w.flash, rfl, rfl, rfl, rfl, rfl, rfl, rfl⟩

theorem exec_coldStart (w : s.Canonical) : NextCanonical (execColdStart s) := w.coldStart.next

theorem exec_energySample (w : s.Canonical) {islands tunnels overhead} : NextCanonical (execEnergySample islands tunnels overhead s) :=
  (((w.foldl fun _ _ v => v.modPower).foldl fun _ _ v => .ite v v.modPort).foldl fun _ _ v => .ite v.modPort v).next

theorem exec_pmbusPoll (w : s.Canonical) {reg status} : NextCanonical (execPmbusPoll reg status s) := by
  unfold execPmbusPoll
  extract_lets x put
  have stored {y} : (put s y).Canonical := w.modPower
  clear_value put
  refine .ite w.next ?_
  split
  · exact (stored.alarmOccur.ite stored).next
  · extract_lets s₁ _ s₂ s₃ s₄
    have polled : s₂.Canonical := stored.ite stored.alarmEnd
    have faulty : s₃.Canonical := polled.alarmOccur.ite polled
    exact (faulty.ite faulty.alarmEnd).commandVcore.next

/-! ## Regs -/

theorem accessReject (w : s.Canonical) {h sl} : (s.accessReject h sl).Canonical := w.modSlice

theorem barWords (n : Nat) {h sl a} (w : s.Canonical) : (s.barWords h sl a n).1.Canonical := by
  induction n generalizing s a with
  | zero => exact w
  | succ n ih => exact ih w.modHp

theorem barRead (w : s.Canonical) {h sl a len} : (s.barRead h sl a len).Canonical :=
  .ite w.accessReject.send (.ite w.modHp.send (w.barWords _).send)

theorem alarmSeen (w : s.Canonical) : s.alarmSeen.Canonical := w.modMgmt

theorem exec_halfReadLatch (w : s.Canonical) {who off len} : NextCanonical (execHalfReadLatch who off len s) := by
  simp only [execHalfReadLatch]
  split
  · exact .ite w.next (.ite w.modMgmt.send.next (w.modMgmt.send.alarmSeen.ite w.modMgmt.send).next)
  · exact .ite w.next (w.atSlice fun _ v => .ite v.barRead v.send).next

theorem pmModeWrite (w : s.Canonical) {v} : (s.pmModeWrite v).Canonical := .ite (w.modPower.ite w).modPower (w.modPower.ite w).modPower

theorem msixWrite (w : s.Canonical) {h o v} : (s.msixWrite h o v).Canonical := .ite w.modHp.setHp.send w.modHp

theorem barWord (w : s.Canonical) {h sl o v} : (s.barWord h sl o v).Canonical :=
  .ite (.ite w.modHp (.ite w w.accessReject)) (.ite w.modSlice
    (.ite (.ite w.accessReject (.ite w.pmModeWrite (.ite w.modHp (.ite w.msixWrite w)))) (.ite (.ite w.modSlice (.ite w w.accessReject)) w)))

theorem loamWord (w : s.Canonical) {a v} : (s.loamWord a v).Canonical := by
  have buffered {b n} : (s.modMgmt fun m => { m with buf := Tab.write 0 n b m.buf }).Canonical :=
    { w with mgmtBuf := Tab.wf_write 0 b n _ w.mgmtBuf }
  unfold State.loamWord
  refine .ite (.ite (w.exec_glbSiteIdWrite.state w) (.ite w.modMgmt (.ite w.modMgmt w))) (.ite w.modMgmt (.ite ?clear (.ite w.modMgmt
    (.ite (.ite (w.exec_mgmtNtcPop.state w) w) (.ite (.ite ?mode w.pmModeWrite) (.ite (w.exec_traceMgmtCi.state w)
      (.ite (w.exec_jrnlMgmtCi.state w) (.ite (w.exec_jrnlMgmtCi.state w) (.ite ?peaks (.ite buffered w))))))))))
  case clear => exact .ite (w.modMgmt.exec_mgmtGo.state w.modMgmt) w.modMgmt
  case mode =>
    extract_lets t
    have cleared : t.Canonical := .ite w.modPower w
    exact cleared.exec_pmModeReq.state cleared
  case peaks =>
    extract_lets t
    have lists : t.Canonical := .ite (w.exec_shlPeakClrLists.state w) w
    exact .ite (lists.exec_shlPeakClrDelay.state lists) lists

theorem loamWords (w : s.Canonical) {a b} : (s.loamWords a b).Canonical :=
  .foldl w fun _ _ v => .ite (v.exec_jrnlMgmtCi.state v) (.ite v v.loamWord)

theorem mgmtBad (w : s.Canonical) : s.mgmtBad.Canonical := w.modMgmt

theorem exec_registerWrite (w : s.Canonical) {who off bytes} : NextCanonical (execRegisterWrite who off bytes s) := by
  simp only [execRegisterWrite]
  split
  · exact (w.loamWords.ite w.mgmtBad).next
  · exact .ite w.next (w.atPage (fun _ v => .ite v.modHp (v.foldl (fun _ _ v2 => v2.barWord)))).next

theorem exec_smbWrite (w : s.Canonical) {addr data pec} : NextCanonical (execSmbWrite addr data pec s) :=
  .ite w.next (.ite w.mgmtBad.next (w.loamWords.wakeCfg.ite w.loamWords).next)

theorem exec_alarmLatchRead (w : s.Canonical) : NextCanonical (execAlarmLatchRead s) := w.alarmSeen.next

theorem exec_smbRead (w : s.Canonical) {addr count} : NextCanonical (execSmbRead addr count s) :=
  .ite w.next (.ite w.mgmtBad.send.next (w.modMgmt.send.alarmSeen.ite w.modMgmt.send).next)

theorem exec_smbAlertResponse (w : s.Canonical) : NextCanonical (execSmbAlertResponse s) := (w.send.alarmSeen.ite w).next

theorem exec_smbClockLowTimeout (w : s.Canonical) : NextCanonical (execSmbClockLowTimeout s) := w.next

/-! ## Query -/

theorem exec_devIdentify (w : s.Canonical) {c} : NextCanonical (execDevIdentify c s) := (w.command fun _ v => v.ok).next

theorem exec_devConfigLock (w : s.Canonical) {c} : NextCanonical (execDevConfigLock c s) :=
  (w.command fun _ v => v.of_stores.ok).next

theorem clearPeaks (w : s.Canonical) {agent group} : (s.clearPeaks agent group).Canonical := by
  simp only [State.clearPeaks]
  split
  · exact w.foldl fun _ _ v => v.modEgq
  · exact (w.foldl fun _ _ v => v.setPool).modMarl
  · exact w

theorem giveCounters (w : s.Canonical) {c op agent groups more} : (s.giveCounters c op agent groups more).Canonical :=
  .ite w.complete (.ite (w.foldl fun _ _ v => v.clearPeaks).ok.send (w.foldl fun _ _ v => v.clearPeaks).bufferWrite.ok)

theorem exec_counterRead (w : s.Canonical) {c} : NextCanonical (execCounterRead c s) := (w.command fun _ v => v.giveCounters).next

theorem exec_snapshot (w : s.Canonical) {c} : NextCanonical (execSnapshot c s) := (w.command fun _ v => v.giveCounters).next

/-! ## Boot -/

theorem readSelects (w : s.Canonical) : s.readSelects.Canonical := by
  simp only [State.readSelects]
  split <;> exact w.modBoot

theorem appendSelect (w : s.Canonical) {pref} : (s.appendSelect pref).Canonical := by
  refine { w with flash := ?_ }
  refine Tab.wf_write 0xFF _ _ _ ?_
  have erased {c : Bool} {off : Nat} : Tab.wf 0xFF (if c then eraseRange off 65536 s.boot.flash else s.boot.flash) = true := by
    split_ifs
    · exact eraseRange_wf _ _ _ w.flash
    · exact w.flash
  exact erased

theorem exec_powerGood (w : s.Canonical) {recovery smbAddr} : NextCanonical (execPowerGood recovery smbAddr s) :=
  .ite w.next w.modPower.modBoot.next

theorem fuseRepair (w : s.Canonical) {e} : (s.fuseRepair e).Canonical := .ite w.modMem w.modMem.modRegion

theorem fuseApply (w : s.Canonical) {i e} : (s.fuseApply i e).Canonical := .ite w (.ite w.fuseRepair w.alarmOccur)

theorem exec_fuseLoadDone (w : s.Canonical) {keyHash serial options0 options1 trim repairMap} :
    NextCanonical (execFuseLoadDone keyHash serial options0 options1 trim repairMap s) :=
  .ite w.next (w.modMem.modBoot.foldl fun _ _ v => v.fuseApply).record.readSelects.modBoot.next

theorem applySettings (w : s.Canonical) {p} : (s.applySettings p).Canonical := w.modBoot.modPower.foldl fun _ _ v => v.modPort

theorem setCause (w : s.Canonical) {slot c} : (s.modBoot fun b => b.setCause slot c).Canonical := by
  refine w.modBoot ?_
  unfold Boot.setCause
  split <;> rfl

theorem loadImage (w : s.Canonical) {slot m} : (s.loadImage slot m).Canonical := by
  unfold State.loadImage
  extract_lets displays s₁
  have loaded : s₁.Canonical := w.modBoot
  exact loaded.of_stores.applySettings

theorem flushRecords (n : Nat) (w : s.Canonical) : (s.flushRecords n).Canonical := by
  induction n generalizing s with
  | zero => exact w
  | succ n ih =>
    unfold State.flushRecords
    split
    · exact w
    · exact .ite (ih w.modSilt.commit) w

theorem chainStart (w : s.Canonical) : s.chainStart.Canonical := by
  simp only [State.chainStart]
  refine .ite w (.flushRecords _ ?_)
  split
  · exact w.modSilt.modSilt.commit
  · exact w.modSilt.commit

theorem exec_imageVerified (w : s.Canonical) {readError} : NextCanonical (execImageVerified readError s) := by
  simp only [execImageVerified]
  refine .ite w.next ?_
  split
  · exact w.modBoot.next
  · exact .ite w.setCause.loadImage.chainStart.modBoot.next (.ite w.setCause.modBoot.next w.setCause.next)

theorem exec_imageWrite (w : s.Canonical) {c} : NextCanonical (execImageWrite c s) := by
  simp only [execImageWrite]
  refine .next ?_
  refine .command w fun _ v => ?_
  split
  · exact v.complete
  · exact (v.appendSelect.ite v).modBoot

theorem selectFinish (w : s.Canonical) {c good} : (s.selectFinish c good).Canonical := by
  unfold State.selectFinish
  exact w.command fun _ v => .ite v.appendSelect.ok.modBoot v.appendSelect.ok

theorem exec_imageSelect (w : s.Canonical) {c} : NextCanonical (execImageSelect c s) :=
  .ite w.selectFinish.next (.ite (w.command fun _ v => v).next w.startCmd.modBoot.next)

theorem exec_flashOperationDone (w : s.Canonical) {good} : NextCanonical (execFlashOperationDone good s) := by
  simp only [execFlashOperationDone]
  split
  · exact w.next
  · refine .ite w.modBoot.selectFinish.next ?_
    have written {v : State} {data : List Byte} {a n : Nat} (v' : v.Canonical) :
        (v.modBoot fun b => { b with flash := Tab.write 0xFF a data (eraseRange a n b.flash) }).Canonical :=
      { v' with flash := Tab.wf_write 0xFF data a _ (eraseRange_wf a n _ v'.flash) }
    exact .next (.ite (written (.ite w.modBoot w.modBoot.tickFree)).ok (written (.ite w.modBoot w.modBoot.tickFree)).complete)

theorem modLoam (w : s.Canonical) {copyB f} : (s.modLoam copyB f).Canonical := by
  refine w.modBoot ?_
  split <;> rfl

theorem traceGone (w : s.Canonical) : s.traceGone.Canonical := .ite w (w.alarmOccur.ite w).modSilt

theorem switchTo (w : s.Canonical) {copyB} : (s.switchTo copyB).Canonical := w.modLoam.traceGone.modBoot

theorem exec_loamHandover (w : s.Canonical) {c} : NextCanonical (execLoamHandover c s) :=
  (w.command (fun _ v => (v.ite v.switchTo.modLoam).ok)).next

theorem exec_loamCopyFault (w : s.Canonical) {copyB} : NextCanonical (execLoamCopyFault copyB s) :=
  .ite w.next (w.modLoam.alarmOccur.ite (.ite w.modLoam.alarmOccur.switchTo w.modLoam.alarmOccur.alarmOccur)).next

theorem exec_loamCopyRetryExpiry (w : s.Canonical) {copyB} : NextCanonical (execLoamCopyRetryExpiry copyB s) :=
  .ite w.modLoam.next w.next

theorem exec_loamSyncDone (w : s.Canonical) {copyB} : NextCanonical (execLoamSyncDone copyB s) := .ite w.modLoam.next w.next

/-! ## PdLink -/

theorem await (w : s.Canonical) {p k} : (s.await p k).Canonical := w.modPd

theorem sendCaps (w : s.Canonical) {p} : (s.sendCaps p).Canonical :=
  .ite (w.sendExt.ite w.sendPd).modPd.await (w.sendExt.ite w.sendPd).modPd.armPd

theorem endUses (w : s.Canonical) {p} : (s.endUses p).Canonical := by
  unfold State.endUses
  extract_lets jayth s₁ s₂ s₃
  have noted : s₂.Canonical := .ite w.linkDisable.dpEnd.modeNotice w.linkDisable.dpEnd
  have off : s₃.Canonical := .ite noted noted.rootDisconnect.rootOff
  exact off.portDevices.modPd

theorem endSwap (w : s.Canonical) {p st} : (s.endSwap p st).Canonical := w.modPd.completeOpt.completeOpt

theorem endReset (w : s.Canonical) {p st} : (s.endReset p st).Canonical := w.modPd.completeOpt

theorem endRetry (w : s.Canonical) {p st} : (s.endRetry p st).Canonical := w.modPd.completeOpt

theorem discoveryEnd (w : s.Canonical) {p} : (s.discoveryEnd p).Canonical := w.modPd.endRetry

theorem toFallback (w : s.Canonical) {p cause} : (s.toFallback p cause).Canonical :=
  .ite (.ite w.nativeUses w.fallback) (w.nativeUses.ite w.fallback).discoveryEnd

theorem resetPort (w : s.Canonical) {p sent} : (s.resetPort p sent).Canonical := by
  unfold State.resetPort
  exact .modPd (.endUses (.endReset (.endSwap (.portNotice (.ite w.send w)))))

theorem refall (w : s.Canonical) {p} : (s.refall p).Canonical := .ite w w.fallback

theorem hardReset (w : s.Canonical) {p sent} : (s.hardReset p sent).Canonical := w.resetPort.refall

theorem pgIdle (w : s.Canonical) {g} : (s.pgIdle g).Canonical := .ite w.modPower w

theorem disconnect (w : s.Canonical) {p} : (s.disconnect p).Canonical := w.endSwap.endReset.endRetry.endUses.modPd.pgIdle

theorem errorRecovery (w : s.Canonical) {p} : (s.errorRecovery p).Canonical :=
  .ite w.disconnect.modPd.portNotice.modPd.portNotice.alarmOccur w.disconnect.modPd.portNotice

theorem ladderReset (w : s.Canonical) {p} : (s.ladderReset p).Canonical := .ite w.hardReset.modPd (.ite w.errorRecovery w.modPd.toFallback)

theorem stageFault (w : s.Canonical) {p row} : (s.stageFault p row).Canonical := by
  unfold State.stageFault
  extract_lets _ s₁ s₂ s₃ s₄ s₅ s₆
  have told : s₂.Canonical := w.modPd.portNotice.event
  have counted : s₃.Canonical := told.modPd.alarmOccur.ite told
  have alarmed : s₅.Canonical := counted.modPd.alarmOccur
  have off : s₆.Canonical := .ite (alarmed.ite alarmed.rootOff) counted.modPd.alarmOccur
  exact .ite counted.modPd.alarmOccur off.hardReset.modPd

theorem afterSoftReset (w : s.Canonical) {p} : (s.afterSoftReset p).Canonical := .ite w.sendCaps w.armPd

theorem softReset (w : s.Canonical) {p sent st} : (s.softReset p sent st).Canonical :=
  .ite w.endSwap.portNotice.modPd.sendPd.await w.endSwap.portNotice.modPd.sendPd.afterSoftReset

theorem ams (w : s.Canonical) {p k start} (hstart : ∀ t, t.Canonical → (start t).Canonical) : (s.ams p k start).Canonical :=
  .ite w.modPd.armPd (hstart _ w)

theorem sendSwap (w : s.Canonical) {p} : (s.sendSwap p).Canonical := by
  simp only [State.sendSwap]
  split
  · exact w.sendPd.await
  · exact w

theorem discover (w : s.Canonical) {p} : (s.discover p).Canonical := .ite w.askVdm (.ite w w.modPd.sendSwap)

theorem startDiscovery (w : s.Canonical) {p} : (s.startDiscovery p).Canonical := .ite (w.ams fun _ v => v.discover) w

theorem discoverSop (w : s.Canonical) {p} : (s.discoverSop p).Canonical := w.askVdm

theorem settleModes (w : s.Canonical) {p} : (s.settleModes p).Canonical :=
  .ite w.toFallback (.ite w.toFallback (.ite w.toFallback (.ite w.askVdm w.askVdm)))

theorem enterMode (w : s.Canonical) {p} : (s.enterMode p).Canonical :=
  .ite w w.dpEnd.portDevices.rootDisconnect.rootOff.modPd.startDetect.modeNotice.discoveryEnd

theorem exec_enterModeAck (w : s.Canonical) {port} : NextCanonical (execEnterModeAck port s) := w.enterMode.next

theorem askAgain (w : s.Canonical) {p} : (s.askAgain p).Canonical := by
  simp only [State.askAgain]
  split
  · exact w.askVdm
  · exact w.askVdm
  · exact w.askVdm
  · exact w.askVdm
  · exact w.discoverSop
  · exact w.askVdm
  · exact w.askVdm
  · exact w.askVdm
  · exact w.askVdm
  · exact w.askVdm
  · exact w.askVdm
  · exact w.askVdm
  · exact w

theorem primeDp (w : s.Canonical) {p} : (s.primeDp p).Canonical := .ite w.modPd.askAgain w.discoverSop

theorem stepFails (w : s.Canonical) {p silent} : (s.stepFails p silent).Canonical := by
  simp only [State.stepFails]
  split
  · exact .ite w.modPd.modPd.askAgain w.modPd.modPd.discoverSop
  · exact w.modPd.discoverSop
  · exact w.modPd.primeDp
  · exact w.modPd.discoverSop
  · exact w.modPd.toFallback
  · exact w.modPd.toFallback
  · exact .ite w.modPd.modPd.askAgain w.modPd.settleModes
  · exact w.modPd.modPd.settleModes
  · exact w.modPd.modPd.toFallback
  · exact w.modPd.toFallback
  · exact w.modPd.discoveryEnd
  · exact w.modPd.dpExit.discoveryEnd
  · exact w.modPd.dpExit.discoveryEnd
  · exact w.modPd

theorem stepAck (w : s.Canonical) {p objs} : (s.stepAck p objs).Canonical := by
  simp only [State.stepAck]
  split
  · exact .ite w.modPd.modPd.modPd.askAgain w.modPd.modPd.discoverSop
  · exact .ite w.modPd.modPd.modPd.askAgain w.modPd.modPd.primeDp
  · exact w.modPd.modPd.primeDp
  · exact w.modPd.modPd.discoverSop
  · exact w.modPd.modPd.askAgain
  · exact .ite w.modPd.modPd.modPd.askAgain (.ite w.modPd.modPd.modPd.askAgain w.modPd.modPd.toFallback)
  · exact .ite w.modPd.modPd.modPd.askAgain w.modPd.modPd.settleModes
  · split <;> exact w.modPd.modPd.settleModes
  · exact w.modPd.askVdm
  · exact w.modPd.enterMode
  · exact w.modPd.modPd.modeNotice.askAgain
  · exact w.modPd.modPd.askAgain
  · exact (w.modPd.ite w.modPd.rootDisconnect).discoveryEnd.dpAutoBind
  · exact w.modPd

theorem stepBusy (w : s.Canonical) {p} : (s.stepBusy p).Canonical := .ite w.modPd.stepFails w.modPd.armPd

theorem contractMade (w : s.Canonical) {p k} : (s.contractMade p k).Canonical := by
  unfold State.contractMade
  extract_lets s₁ s₂ _ s₃ s₄ _
  have told : s₂.Canonical := w.modPd.portNotice
  have sinks : s₃.Canonical := told.ite told.sinkOn
  have asked : s₄.Canonical := .ite sinks.startDiscovery (.ite sinks.fallback sinks)
  exact .ite asked.modPd asked

theorem swapDone (w : s.Canonical) {p} : (s.swapDone p).Canonical := by
  simp only [State.swapDone]
  split
  · exact w
  · exact .ite w.modPd.portNotice.completeOpt.completeOpt w.modPd.portNotice.completeOpt

theorem dataSwapped (w : s.Canonical) {p} : (s.dataSwapped p).Canonical :=
  .ite w.modPd.swapDone.portDevices.modPd.startDiscovery (w.modPd.swapDone.ite w.modPd.swapDone.rootDisconnect.rootOff).modPd.toFallback

theorem vconnSwapped (w : s.Canonical) {p} : (s.vconnSwapped p).Canonical := .ite w.modPd.swapDone.startDiscovery w.modPd.swapDone

theorem swapAccepted (w : s.Canonical) {p} : (s.swapAccepted p).Canonical := by
  simp only [State.swapAccepted]
  split
  · exact w.modPd
  · split
    · exact .ite w.modPd.modPd.armPd w.modPd.modPd.modPd.armPd
    · exact w.modPd.dataSwapped
    · exact .ite w.modPd w.modPd.sendPd.vconnSwapped
    · exact w.modPd.modPd.armPd

/-! ## Pd -/

theorem tellAttach (w : s.Canonical) {p source flipped} : (s.tellAttach p source flipped).Canonical :=
  (w.event.wakeCfg.ite w.event.wakeCfg.pgWake).portNotice

theorem attach (w : s.Canonical) {p source flipped} : (s.attach p source flipped).Canonical := by
  unfold State.attach
  extract_lets s₁ s₂ _ s₃
  have told : s₂.Canonical := w.modPd.tellAttach
  have fell : s₃.Canonical := .ite told.fallback (.ite told.fallback told)
  exact .ite fell (.ite fell.sinkOn fell.armPd.sinkOn)

theorem exec_ccAttach (w : s.Canonical) {port source flipped} : NextCanonical (execCcAttach port source flipped s) := by
  simp only [execCcAttach]
  refine .next ?_
  refine .ite w ?_
  split
  · exact .ite w.modPd.armPd.armPd w.attach
  · exact .ite w.attach w
  · exact .ite w w.attach
  · exact w

theorem ladderAlarms (w : s.Canonical) : s.ladderAlarms.Canonical := .ite (.ite w w.alarmEnd) (w.ite w.alarmEnd).alarmEnd

theorem clearLockouts (w : s.Canonical) {p} : (s.clearLockouts p).Canonical := w.modPd.ladderAlarms

theorem exec_ccDetach (w : s.Canonical) {port} : NextCanonical (execCcDetach port s) := by
  simp only [execCcDetach]
  refine .next ?_
  split
  · exact w.clearLockouts
  · exact w.modPd.clearLockouts
  · exact w.modPd.clearLockouts
  · exact w.disconnect.wakeCfg.portNotice.clearLockouts

theorem notSupported (w : s.Canonical) {p} : (s.notSupported p).Canonical := w.sendPd

theorem protocolError (w : s.Canonical) {p} : (s.protocolError p).Canonical := .ite w.hardReset w.softReset

theorem evaluate (w : s.Canonical) {p rdo} : (s.evaluate p rdo).Canonical := by
  simp only [State.evaluate]
  split
  · exact w.modPd.sendPd.modPd.armPd
  · exact .ite w.modPd.hardReset w.modPd.sendPd.modPd

theorem askSupply (w : s.Canonical) {p} : (s.askSupply p).Canonical := w.sendPd.modPd.await

theorem swapRequest (w : s.Canonical) {p kind} : (s.swapRequest p kind).Canonical := by
  simp only [State.swapRequest]
  refine .ite w.hardReset ?_
  split
  · exact .ite (.ite (.ite w.modPd.sendPd.modPd.swapAccepted w.modPd.sendPd) w.sendPd) w.protocolError
  · exact .ite w.sendPd.modPd.swapAccepted w.sendPd

theorem swapRefused (w : s.Canonical) {p st} : (s.swapRefused p st).Canonical := .ite w.endSwap.modPd.discoverSop w.endSwap.modPd

theorem accepted (w : s.Canonical) {p} : (s.accepted p).Canonical := by
  simp only [State.accepted]
  refine .ite w.modPd.endReset.afterSoftReset ?_
  split
  · exact .ite w.swapAccepted w.protocolError
  · exact .ite w.modPd.armPd w.protocolError

theorem rejected (w : s.Canonical) {p ns} : (s.rejected p ns).Canonical := by
  simp only [State.rejected]
  split
  · exact .ite (.ite w.errorRecovery w.swapRefused) w.protocolError
  · exact .ite w.modPd (.ite w.stepFails (.ite w w.protocolError))

theorem waited (w : s.Canonical) {p} : (s.waited p).Canonical := by
  simp only [State.waited]
  split
  · exact .ite (.ite w.errorRecovery (.ite w.swapRefused w.modPd)) w.protocolError
  · exact .ite w.modPd.armPd w.protocolError

theorem psReady (w : s.Canonical) {p} : (s.psReady p).Canonical := by
  simp only [State.psReady]
  split
  · exact .ite w.protocolError (.ite (.ite w.vconnSwapped w.protocolError) (.ite w.modPd (.ite w.modPd.swapDone.armPd.sinkOn w.protocolError)))
  · split
    · exact .ite w.protocolError w.modPd.contractMade
    · exact w.protocolError

theorem pdControl (w : s.Canonical) {p typ} : (s.pdControl p typ).Canonical := by
  simp only [State.pdControl]
  refine .ite w.notSupported ?_
  split
  · exact w
  · exact w.accepted
  · exact w.rejected
  · exact w
  · exact w.psReady
  · exact w.sendPd
  · exact w.sendPd
  · exact w.swapRequest
  · exact w.swapRequest
  · exact w.swapRequest
  · exact w.waited
  · exact w.softReset
  · exact w.rejected
  · exact w.sendExt
  · exact w.sendExt
  · exact w.protocolError
  · exact w.sendExt
  · exact w.sendPd
  · exact w.sendPd
  · exact w.notSupported

theorem eprMode (w : s.Canonical) {p o} : (s.eprMode p o).Canonical := by
  simp only [State.eprMode]
  split
  · exact .ite w.protocolError (.ite w.sendPd (.ite w.sendPd (.ite w.sendPd (.ite w.sendPd w.sendPd.sendPd.modPd.armPd.sendCaps))))
  · exact .ite w.protocolError (.ite w.hardReset w.modPd.sendCaps)
  · exact w.protocolError

theorem answerVdm (w : s.Canonical) {p sop h kind objs} : (s.answerVdm p sop h kind objs).Canonical := w.sendPd

theorem vdmRequest (w : s.Canonical) {p sop h} : (s.vdmRequest p sop h).Canonical := by
  simp only [State.vdmRequest]
  split
  · exact .ite w.answerVdm w.answerVdm
  · exact .ite w.answerVdm w.answerVdm
  · exact .ite w.answerVdm.dpEnd w.answerVdm
  · exact .ite w.protoErr w
  · exact w.answerVdm

theorem pdVdm (w : s.Canonical) {p sop objs} : (s.pdVdm p sop objs).Canonical := by
  simp only [State.pdVdm]
  refine .ite (.ite w.notSupported w) ?_
  split
  · exact .ite w.vdmRequest w
  · refine .ite ?_ w
    split
    · exact w.stepAck
    · exact w.stepFails
    · exact w.stepBusy

theorem bistIn (w : s.Canonical) {p o} : (s.bistIn p o).Canonical := by
  simp only [State.bistIn]
  split
  · exact .ite w.modPd.armPd w
  · exact .ite w.modPd w
  · exact w.notSupported
  · exact w.notSupported
  · exact w

theorem pdData (w : s.Canonical) {p typ objs} : (s.pdData p typ objs).Canonical := by
  simp only [State.pdData]
  refine .ite w.notSupported ?_
  split
  · exact .ite w.protocolError w.modPd.askSupply
  · exact .ite w.evaluate w.protocolError
  · exact w.bistIn
  · exact w
  · exact w
  · exact .ite w.evaluate w.protocolError
  · exact w.eprMode
  · exact w
  · exact w
  · exact w.pdVdm
  · exact w.notSupported

theorem pdExtended (w : s.Canonical) {p typ body} : (s.pdExtended p typ body).Canonical := by
  simp only [State.pdExtended]
  split
  · exact w
  · exact w
  · exact w.sendExt
  · exact w
  · exact w
  · split
    · exact .ite w.sendExt w.notSupported
    · exact w.sendExt
    · exact .ite w.modPd.sendExt w.protocolError
    · exact w
  · exact w
  · exact w
  · exact w.notSupported

theorem pdChunk (w : s.Canonical) {p typ bytes} : (s.pdChunk p typ bytes).Canonical := by
  simp only [State.pdChunk]
  refine .ite w.notSupported ?_
  refine .ite ?_ (.ite w.modPd.protocolError (.ite w.modPd.pdExtended w.modPd.modPd.sendPd.armPd))
  split
  · exact .ite w.protocolError (.ite w.modPd.sendChunk.armPd w.modPd.sendChunk.modPd)
  · exact w.protocolError

theorem exec_pdMessageReceived (w : s.Canonical) {port sop bytes} : NextCanonical (execPdMessageReceived port sop bytes s) := by
  unfold execPdMessageReceived
  extract_lets _ _ _ _ _ _ s₁
  have woken : s₁.Canonical := w.level.wakeCfg.level.modPd
  exact (w.ite (.ite woken (.ite (.ite woken.pdVdm woken) (.ite woken.pdChunk (.ite woken.pdControl woken.pdData))))).next

theorem exec_hardResetReceived (w : s.Canonical) {port} : NextCanonical (execHardResetReceived port s) := (w.ite w.hardReset).next

theorem updateCaps (w : s.Canonical) {p} : (s.updateCaps p).Canonical := .ite w.sendCaps.await w.sendCaps

theorem amsStart (w : s.Canonical) {p} : (s.amsStart p).Canonical := by
  simp only [State.amsStart]
  split
  · exact w.modPd.discover
  · exact w.modPd.sendSwap
  · exact w.modPd.updateCaps
  · exact w.modPd

theorem transition (w : s.Canonical) {p} : (s.transition p).Canonical := w.modPd

theorem tryWait (w : s.Canonical) {p} : (s.tryWait p).Canonical := w.modPd

theorem timerEnds (w : s.Canonical) {p n} : (s.timerEnds p n).Canonical :=
  .ite w.stepFails <| .ite w.askAgain <| .ite (.ite w.sendCaps w.toFallback) <| .ite w.transition <| .ite w.modPd.armPd <|
  .ite (.ite w.disconnect.portNotice w.modPd) <| .ite w.errorRecovery <| .ite w.sendCaps <| .ite w.amsStart <| .ite w.ladderReset <|
  .ite w.modPd <| .ite w.endRetry <| .ite w.hardReset <| .ite (.ite w.sendPd.armPd w) <| .ite w.modPd <|
  .ite (.ite w.modPd.softReset w.modPd) <| .ite (.ite w.tryWait w) <| .ite (.ite w.tryWait w) <| .ite w.askSupply w

theorem exec_pdTimerExpiry (w : s.Canonical) {port timer} : NextCanonical (execPdTimerExpiry port timer s) :=
  (w.modPd.event.timerEnds.ite w).next

theorem exec_senderResponseTimeout (w : s.Canonical) {port unacked} : NextCanonical (execSenderResponseTimeout port unacked s) :=
  (w.ite (.ite w.event.endReset.ladderReset (.ite w.event.hardReset (.ite w.event.errorRecovery w.event.softReset)))).next

theorem exec_swapRetryExpiry (w : s.Canonical) {port} : NextCanonical (execSwapRetryExpiry port s) := by
  simp only [execSwapRetryExpiry]
  refine .next ?_
  split
  · exact .ite (w.modPd.ams fun _ v => v.sendSwap) w
  · exact w

theorem exec_eprKeepaliveTimeout (w : s.Canonical) {port} : NextCanonical (execEprKeepaliveTimeout port s) :=
  (w.event.hardReset.ite w).next

theorem exec_frsSignal (w : s.Canonical) {port} : NextCanonical (execFrsSignal port s) := (w.ite w.endSwap.modPd.sendSwap).next

theorem exec_pstgFltLow (w : s.Canonical) {port} : NextCanonical (execPstgFltLow port s) :=
  (w.stageFault.ite (.ite w.stageFault w)).next

theorem transitEnd (w : s.Canonical) {p target} : (s.transitEnd p target).Canonical := by
  simp only [State.transitEnd]
  refine .ite ?_ ?_
  · split
    · exact .ite w.modPd.modPd.modPd.sendPd.armPd w.modPd.modPd
    · exact w.modPd.modPd
  · split
    · exact w.modPd.sendPd.contractMade
    · exact .ite w.modPd.sendPd.swapDone.armPd (.ite w.modPd w.modPd.sendCaps)

theorem exec_vbusSample (w : s.Canonical) {port mv ma} : NextCanonical (execVbusSample port mv ma s) := by
  simp only [execVbusSample]
  refine .next ?_
  split
  · exact .ite (.ite w.modPd.modPd w.modPd.transitEnd) w.modPd.modPd
  · split
    · exact .ite w.modPd.stageFault (.ite w.modPd.stageFault w.modPd)
    · exact w.modPd

theorem exec_transitionWindowTimeout (w : s.Canonical) {port} : NextCanonical (execTransitionWindowTimeout port s) := by
  simp only [execTransitionWindowTimeout]
  refine .next ?_
  split
  · exact .ite w.stageFault w
  · exact w

theorem exec_sourceCapsUpdate (w : s.Canonical) {port} : NextCanonical (execSourceCapsUpdate port s) :=
  ((w.modPd.ams fun _ v => v.updateCaps).ite w).next

theorem exec_portPdCfg (w : s.Canonical) {c} : NextCanonical (execPortPdCfg c s) := (w.command fun _ v => v.modPd.ok).next

theorem exec_portPdSwap (w : s.Canonical) {c} : NextCanonical (execPortPdSwap c s) :=
  (w.command (fun _ v => v.modPd.ams (fun _ v2 => v2.sendSwap))).next

theorem exec_portPdReset (w : s.Canonical) {c} : NextCanonical (execPortPdReset c s) := by
  simp only [execPortPdReset]
  refine .next ?_
  refine .command w fun _ v => ?_
  split
  · exact v.endReset.softReset.modPd
  · exact v.endReset.modPd.hardReset
  · exact v.endReset.errorRecovery.ok
  · exact .ite v.endReset.endSwap.clearLockouts.modPd.softReset.modPd v.endReset.endSwap.clearLockouts.modPd.disconnect.ok

theorem exec_portPdQuery (w : s.Canonical) {c} : NextCanonical (execPortPdQuery c s) := (w.command fun _ v => v.ok).next

theorem exec_portFallbackCfg (w : s.Canonical) {c} : NextCanonical (execPortFallbackCfg c s) :=
  (w.command fun _ v => v.modPd.ok).next

theorem exec_portJaythRetry (w : s.Canonical) {c} : NextCanonical (execPortJaythRetry c s) := by
  refine .next (w.command fun t v => ?_)
  extract_lets s₁ s₂ s₃ d s₄ s₅
  have asked : s₁.Canonical := .ite v.sendVdm v
  have again : s₄.Canonical := asked.dpExit.endUses.armPd.modPd.refall
  have fresh : s₅.Canonical := again.modPd
  exact .ite again.fallback.endRetry (.ite again.endRetry (.ite again.modPd.startDiscovery (.ite fresh.sendCaps fresh.armPd)))

/-! ## Update -/

theorem exec_fwStage (w : s.Canonical) {c} : NextCanonical (execFwStage c s) := (w.command fun _ v => v.modBoot.ok).next

theorem reload (w : s.Canonical) {core new} : (s.reload core new).Canonical := w.modCore

theorem exec_fwActivate (w : s.Canonical) {c} : NextCanonical (execFwActivate c s) := by
  simp only [execFwActivate]
  refine .next ?_
  refine .command w fun _ v => ?_
  split
  · exact v.modBoot.reload
  · exact v.modBoot

theorem fenceReached (w : s.Canonical) : s.fenceReached.Canonical := .ite w.modBoot w

theorem updateRotate (w : s.Canonical) {new} : (s.updateRotate new).Canonical := by
  simp only [State.updateRotate]
  split
  · exact w
  · split
    · exact .ite w w.reload
    · exact .ite w.rotate w.reload

theorem exec_updateRotation (w : s.Canonical) : NextCanonical (execUpdateRotation s) := by
  simp only [execUpdateRotation]
  refine .ite w.next ?_
  split
  · exact (w.ite w.updateRotate).fenceReached.next
  · exact w.updateRotate.updateEnd.next
  · exact (w.updateRotate.updateEnd.ite w).next
  · exact w.next

theorem exec_classMove (w : s.Canonical) {cls last} : NextCanonical (execClassMove cls last s) := by
  simp only [execClassMove]
  refine .ite w.next ?_
  split
  · exact (w.modCluster.ite w).next
  · exact .ite w.next (w.modCluster.modBoot.ite w.modCluster).next

theorem exec_updateRollback (w : s.Canonical) {takeover} : NextCanonical (execUpdateRollback takeover s) := by
  simp only [execUpdateRollback]
  refine .ite w.startRollback.next ?_
  refine .ite w.startRollback.next ?_
  refine .ite w.next ?_
  split
  · exact w.modCluster.next
  · exact (w.modCluster.ite w).next
  · exact w.next

/-! ## Run -/

theorem exec_opcode (w : s.Canonical) {op c} : NextCanonical (runOpcode op c s) := by
  simp only [runOpcode]
  split
  · exact w.exec_devIdentify
  · exact w.exec_devConfigLock
  · exact w.exec_marlPoolCfg
  · exact w.exec_marlQueueCfg
  · exact w.exec_marlAgeCfg
  · exact w.exec_counterRead
  · exact w.exec_snapshot
  · exact w.exec_tunCreate
  · exact w.exec_tunDestroy
  · exact w.exec_tunModify
  · exact w.exec_tunQuery
  · exact w.exec_tunAdopt
  · exact w.exec_tunAllotCfg
  · exact w.exec_portPdCfg
  · exact w.exec_portPdSwap
  · exact w.exec_portPdReset
  · exact w.exec_portPdQuery
  · exact w.exec_portLinkCtrl
  · exact w.exec_portNotifyBind
  · exact w.exec_portLinkCfg
  · exact w.exec_portFallbackCfg
  · exact w.exec_portJaythRetry
  · exact w.exec_usbRootBind
  · exact w.exec_usbRootCtrl
  · exact w.exec_usbSlotAlloc
  · exact w.exec_usbSlotFree
  · exact w.exec_usbEpConfig
  · exact w.exec_usbEpReset
  · exact w.exec_usbEpStop
  · exact w.exec_usbEpSetDeq
  · exact w.exec_usbRootQuery
  · exact w.exec_usbDevBind
  · exact w.exec_usbDevUnbind
  · exact w.exec_usbDevCtrl
  · exact w.exec_dmaChAlloc
  · exact w.exec_dmaChConfig
  · exact w.exec_dmaChCtrl
  · exact w.exec_dmaChFree
  · exact w.exec_dmaTimerCfg
  · exact w.exec_dmaChQuery
  · exact w.exec_qpCreate
  · exact w.exec_qpModify
  · exact w.exec_qpReset
  · exact w.exec_qpDestroy
  · exact w.exec_qpQuery
  · exact w.exec_sliceEnable
  · exact w.exec_sliceReset
  · exact w.exec_sliceDisable
  · exact w.exec_sliceFreeze
  · exact w.exec_sliceSave
  · exact w.exec_sliceRestore
  · exact w.exec_sliceDirtyLog
  · exact w.exec_sliceQuery
  · exact w.exec_pmLevel
  · exact w.exec_pmDomain
  · exact w.exec_pmWakeCfg
  · exact w.exec_pmQuery
  · exact w.exec_jrnlRead
  · exact w.exec_siltDrainBind
  · exact w.exec_traceCfg
  · exact w.exec_alarmRead
  · exact w.exec_alarmAck
  · exact w.exec_alarmCfg
  · exact w.exec_jrnlPersistCfg
  · exact w.exec_fwStage
  · exact w.exec_fwActivate
  · exact w.exec_imageWrite
  · exact w.exec_imageSelect
  · exact w.exec_marlBankRetire
  · exact w.exec_marlBankReadmit
  · exact w.exec_memEccCfg
  · exact w.exec_memSoftRepair
  · exact w.exec_fuseProgram
  · exact w.exec_memFlipMask
  · exact w.exec_loamHandover
  · exact w.exec_tbSet
  · exact w.exec_tbSlew
  · exact w.exec_refclkSelect
  · exact w.exec_tbQuery
  · exact w.exec_netPortCfg
  · exact w.exec_ptpCfg
  · exact w.exec_dpiCfg
  · exact w.exec_dpiQuery
  · exact w.exec_dpaltBind
  · exact w.exec_dpaltUnbind
  · exact w.next

theorem applyAct (w : s.Canonical) {a} : (s.applyAct a).Canonical := by
  cases a with
  | none => exact w
  | level a l => exact w.startLevel.commandVcore
  | teardown tid => exact .ite w w.teardownNow
  | revert tid => exact .ite w.freeEntry w
  | bankRetire b => exact .ite w.retireBank w
  | bankRetired b => exact .ite w.bankRetiredNow w
  | softRepair r b row =>
    simp only [State.applyAct]
    split
    · exact w.startRepair
    · exact w
  | dispRaise tid f => exact .ite w w.dispRaised
  | dpBind p src => exact .ite w.dpBindNow w
  | planApply i => exact w.planNow
  | close tid => exact w.closeOwned

theorem actGone (w : s.Canonical) {a} : (s.actGone a).Canonical := by
  unfold State.actGone
  split
  · exact w.autoRetire
  · exact w

theorem exec_journalDeferredCommit (w : s.Canonical) : NextCanonical (execJournalDeferredCommit s) := by
  have flushed : (s.flushRecords 64).Canonical := w.flushRecords _
  simp only [execJournalDeferredCommit]
  split
  · exact flushed.next
  · refine .ite flushed.next ?_
    split
    · exact .ite flushed.modSilt.next (.ite flushed.next flushed.modSilt.exec_opcode)
    · exact .ite flushed.modSilt.actGone.next (.ite flushed.modSilt.commit.applyAct.next flushed.next)

theorem runChain (w : s.Canonical) : s.runChain.Canonical := by
  simp only [State.runChain]
  split
  · exact .ite w.modBoot.startCmd.complete (w.modBoot.startCmd.exec_opcode.nextOr w.modBoot.startCmd)
  · exact w.modBoot

theorem runCommands (n : Nat) (w : s.Canonical) : (s.runCommands n).Canonical := by
  induction n generalizing s with
  | zero => exact w
  | succ n ih => exact .ite w (ih w.runChain)

theorem planStart (w : s.Canonical) : s.planStart.Canonical := .foldl w fun _ _ v => v.exec_tunCreate.nextOr v

theorem release (w : s.Canonical) : s.release.Canonical := .ite w.modBoot.modSlice.modSlice.alarmOccur w.modBoot.modSlice.modSlice

theorem exec_startUpRelease (w : s.Canonical) {sources} : NextCanonical (execStartUpRelease sources s) := by
  unfold execStartUpRelease
  refine .ite w.next ?_
  extract_lets s₁ s₂
  have run : s₂.Canonical := .runCommands _ (.foldl w fun _ _ v => v.setUpSource)
  exact .ite run.next run.planStart.release.next

/-! ## Dispatch -/

theorem exec_canonical (w : s.Canonical) {i} : NextCanonical (exec i s) := by
  cases i with
  | devIdentify _ => exact w.exec_devIdentify
  | devConfigLock _ => exact w.exec_devConfigLock
  | marlPoolCfg _ => exact w.exec_marlPoolCfg
  | marlQueueCfg _ => exact w.exec_marlQueueCfg
  | marlAgeCfg _ => exact w.exec_marlAgeCfg
  | counterRead _ => exact w.exec_counterRead
  | snapshot _ => exact w.exec_snapshot
  | tunCreate _ => exact w.exec_tunCreate
  | tunDestroy _ => exact w.exec_tunDestroy
  | tunModify _ => exact w.exec_tunModify
  | tunQuery _ => exact w.exec_tunQuery
  | tunAdopt _ => exact w.exec_tunAdopt
  | tunAllotCfg _ => exact w.exec_tunAllotCfg
  | portPdCfg _ => exact w.exec_portPdCfg
  | portPdSwap _ => exact w.exec_portPdSwap
  | portPdReset _ => exact w.exec_portPdReset
  | portPdQuery _ => exact w.exec_portPdQuery
  | portLinkCtrl _ => exact w.exec_portLinkCtrl
  | portNotifyBind _ => exact w.exec_portNotifyBind
  | portLinkCfg _ => exact w.exec_portLinkCfg
  | portFallbackCfg _ => exact w.exec_portFallbackCfg
  | portJaythRetry _ => exact w.exec_portJaythRetry
  | usbRootBind _ => exact w.exec_usbRootBind
  | usbRootCtrl _ => exact w.exec_usbRootCtrl
  | usbSlotAlloc _ => exact w.exec_usbSlotAlloc
  | usbSlotFree _ => exact w.exec_usbSlotFree
  | usbEpConfig _ => exact w.exec_usbEpConfig
  | usbEpReset _ => exact w.exec_usbEpReset
  | usbEpStop _ => exact w.exec_usbEpStop
  | usbEpSetDeq _ => exact w.exec_usbEpSetDeq
  | usbRootQuery _ => exact w.exec_usbRootQuery
  | usbDevBind _ => exact w.exec_usbDevBind
  | usbDevUnbind _ => exact w.exec_usbDevUnbind
  | usbDevCtrl _ => exact w.exec_usbDevCtrl
  | dmaChAlloc _ => exact w.exec_dmaChAlloc
  | dmaChConfig _ => exact w.exec_dmaChConfig
  | dmaChCtrl _ => exact w.exec_dmaChCtrl
  | dmaChFree _ => exact w.exec_dmaChFree
  | dmaTimerCfg _ => exact w.exec_dmaTimerCfg
  | dmaChQuery _ => exact w.exec_dmaChQuery
  | qpCreate _ => exact w.exec_qpCreate
  | qpModify _ => exact w.exec_qpModify
  | qpReset _ => exact w.exec_qpReset
  | qpDestroy _ => exact w.exec_qpDestroy
  | qpQuery _ => exact w.exec_qpQuery
  | sliceEnable _ => exact w.exec_sliceEnable
  | sliceReset _ => exact w.exec_sliceReset
  | sliceDisable _ => exact w.exec_sliceDisable
  | sliceFreeze _ => exact w.exec_sliceFreeze
  | sliceSave _ => exact w.exec_sliceSave
  | sliceRestore _ => exact w.exec_sliceRestore
  | sliceDirtyLog _ => exact w.exec_sliceDirtyLog
  | sliceQuery _ => exact w.exec_sliceQuery
  | pmLevel _ => exact w.exec_pmLevel
  | pmDomain _ => exact w.exec_pmDomain
  | pmWakeCfg _ => exact w.exec_pmWakeCfg
  | pmQuery _ => exact w.exec_pmQuery
  | jrnlRead _ => exact w.exec_jrnlRead
  | siltDrainBind _ => exact w.exec_siltDrainBind
  | traceCfg _ => exact w.exec_traceCfg
  | alarmRead _ => exact w.exec_alarmRead
  | alarmAck _ => exact w.exec_alarmAck
  | alarmCfg _ => exact w.exec_alarmCfg
  | jrnlPersistCfg _ => exact w.exec_jrnlPersistCfg
  | fwStage _ => exact w.exec_fwStage
  | fwActivate _ => exact w.exec_fwActivate
  | imageWrite _ => exact w.exec_imageWrite
  | imageSelect _ => exact w.exec_imageSelect
  | marlBankRetire _ => exact w.exec_marlBankRetire
  | marlBankReadmit _ => exact w.exec_marlBankReadmit
  | memEccCfg _ => exact w.exec_memEccCfg
  | memSoftRepair _ => exact w.exec_memSoftRepair
  | fuseProgram _ => exact w.exec_fuseProgram
  | memFlipMask _ => exact w.exec_memFlipMask
  | loamHandover _ => exact w.exec_loamHandover
  | tbSet _ => exact w.exec_tbSet
  | tbSlew _ => exact w.exec_tbSlew
  | refclkSelect _ => exact w.exec_refclkSelect
  | tbQuery _ => exact w.exec_tbQuery
  | netPortCfg _ => exact w.exec_netPortCfg
  | ptpCfg _ => exact w.exec_ptpCfg
  | dpiCfg _ => exact w.exec_dpiCfg
  | dpiQuery _ => exact w.exec_dpiQuery
  | dpaltBind _ => exact w.exec_dpaltBind
  | dpaltUnbind _ => exact w.exec_dpaltUnbind
  | mbxGo _ _ => exact w.exec_mbxGo
  | mbxDoneClear _ _ => exact w.exec_mbxDoneClear
  | mbxRefusedClear _ _ => exact w.exec_mbxRefusedClear
  | sqDb _ _ _ _ => exact w.exec_sqDb
  | cqDb _ _ _ _ => exact w.exec_cqDb
  | sliceEvtClear _ _ _ => exact w.exec_sliceEvtClear
  | usbEpDoorbell _ _ _ _ => exact w.exec_usbEpDoorbell
  | dmaChDoorbell _ _ _ => exact w.exec_dmaChDoorbell
  | dmaProgramWrite _ _ _ _ => exact w.exec_dmaProgramWrite
  | pmModeReq _ _ _ => exact w.exec_pmModeReq
  | pmModeRefusedClear => exact w.exec_pmModeRefusedClear
  | mgmtGo => exact w.exec_mgmtGo
  | mgmtDoneClear => exact w.exec_mgmtDoneClear
  | mgmtRefusedClear => exact w.exec_mgmtRefusedClear
  | mgmtNtcPop => exact w.exec_mgmtNtcPop
  | jrnlRingCi _ _ => exact w.exec_jrnlRingCi
  | traceRingCi _ _ => exact w.exec_traceRingCi
  | jrnlMgmtCi _ => exact w.exec_jrnlMgmtCi
  | traceMgmtCi _ => exact w.exec_traceMgmtCi
  | glbSiteIdWrite _ _ => exact w.exec_glbSiteIdWrite
  | wrRefusedClear _ => exact w.exec_wrRefusedClear
  | shlPeakClrLists => exact w.exec_shlPeakClrLists
  | shlPeakClrDelay => exact w.exec_shlPeakClrDelay
  | halfReadLatch _ _ _ => exact w.exec_halfReadLatch
  | alarmLatchRead => exact w.exec_alarmLatchRead
  | registerWrite _ _ _ => exact w.exec_registerWrite
  | smbWrite _ _ _ => exact w.exec_smbWrite
  | smbRead _ _ => exact w.exec_smbRead
  | smbAlertResponse => exact w.exec_smbAlertResponse
  | smbClockLowTimeout => exact w.exec_smbClockLowTimeout
  | enterModeAck _ => exact w.exec_enterModeAck
  | tbReceived _ _ _ _ => exact w.exec_tbReceived
  | trainStateTimeout _ => exact w.exec_trainStateTimeout
  | trainIdleEnd _ => exact w.exec_trainIdleEnd
  | rateIdleEnd _ => exact w.exec_rateIdleEnd
  | markerReceived _ _ _ _ _ => exact w.exec_markerReceived
  | markerLossTimeout _ _ => exact w.exec_markerLossTimeout
  | codewordErrorLimit _ _ => exact w.exec_codewordErrorLimit
  | linkTimeout _ => exact w.exec_linkTimeout
  | wakeBurstReceived _ => exact w.exec_wakeBurstReceived
  | sleepIdleExpiry _ => exact w.exec_sleepIdleExpiry
  | directionWake _ => exact w.exec_directionWake
  | keepaliveExpiry _ => exact w.exec_keepaliveExpiry
  | recalPeriodExpiry _ _ => exact w.exec_recalPeriodExpiry
  | tempDrift _ _ => exact w.exec_tempDrift
  | recalRetryExpiry _ => exact w.exec_recalRetryExpiry
  | recalDone _ _ _ => exact w.exec_recalDone
  | flitSlot _ => exact w.exec_flitSlot
  | dataFlitReceived _ _ _ => exact w.exec_dataFlitReceived
  | badFlit _ _ => exact w.exec_badFlit
  | ackReceived _ _ _ => exact w.exec_ackReceived
  | creditReceived _ _ _ => exact w.exec_creditReceived
  | lanemapReceived _ _ _ => exact w.exec_lanemapReceived
  | echoReceived _ _ _ => exact w.exec_echoReceived
  | sleepReceived _ _ _ => exact w.exec_sleepReceived
  | turnDoneReceived _ _ _ => exact w.exec_turnDoneReceived
  | backlogReceived _ _ _ => exact w.exec_backlogReceived
  | retrainReqReceived _ _ _ => exact w.exec_retrainReqReceived
  | laneBadReceived _ _ _ => exact w.exec_laneBadReceived
  | nakTimerExpiry _ => exact w.exec_nakTimerExpiry
  | replayTimeout _ => exact w.exec_replayTimeout
  | ackRepeatExpiry _ => exact w.exec_ackRepeatExpiry
  | creditRefreshExpiry _ => exact w.exec_creditRefreshExpiry
  | creditReturn _ _ => exact w.exec_creditReturn
  | timePeriodExpiry _ => exact w.exec_timePeriodExpiry
  | turnaroundTimeout _ => exact w.exec_turnaroundTimeout
  | laneReqResendExpiry _ => exact w.exec_laneReqResendExpiry
  | termInfoReceived _ => exact w.exec_termInfoReceived
  | openAckReceived _ => exact w.exec_openAckReceived
  | openNakReceived _ => exact w.exec_openNakReceived
  | closeAckReceived _ => exact w.exec_closeAckReceived
  | allotAckReceived _ => exact w.exec_allotAckReceived
  | tunStatusReceived _ => exact w.exec_tunStatusReceived
  | mgmtResendExpiry _ _ => exact w.exec_mgmtResendExpiry
  | allotCycleStart _ => exact w.exec_allotCycleStart
  | orphanWindowExpiry _ => exact w.exec_orphanWindowExpiry
  | dispModeChange _ _ _ => exact w.exec_dispModeChange
  | hostLostTunnelExpiry _ _ => exact w.exec_hostLostTunnelExpiry
  | cellAdmit _ _ _ _ _ => exact w.exec_cellAdmit
  | losslessCreditGrant _ _ => exact w.exec_losslessCreditGrant
  | cellEgressSelect _ _ => exact w.exec_cellEgressSelect
  | sweepRound => exact w.exec_sweepRound
  | marlBankRetired _ => exact w.exec_marlBankRetired
  | bankReadmitDone _ => exact w.exec_bankReadmitDone
  | scrubStep _ _ => exact w.exec_scrubStep
  | conversionStep _ _ => exact w.exec_conversionStep
  | writeBack _ _ => exact w.exec_writeBack
  | fwSramUe _ _ _ => exact w.exec_fwSramUe
  | fwPageRewriteDone _ _ => exact w.exec_fwPageRewriteDone
  | softRepairDone _ _ _ => exact w.exec_softRepairDone
  | usbPrefetch _ _ => exact w.exec_usbPrefetch
  | usbFormingTime _ _ _ => exact w.exec_usbFormingTime
  | usb2ResultReceived => exact w.exec_usb2ResultReceived
  | usb2ResultMissing _ _ => exact w.exec_usb2ResultMissing
  | nativeTransactionEnd _ _ _ _ _ => exact w.exec_nativeTransactionEnd
  | completeSplitDue _ _ _ _ _ => exact w.exec_completeSplitDue
  | remoteWake _ _ => exact w.exec_remoteWake
  | tunRootResumeWaitEnd _ => exact w.exec_tunRootResumeWaitEnd
  | rootConnect _ _ => exact w.exec_rootConnect
  | rootDisconnect _ => exact w.exec_rootDisconnect
  | rootResetEnd _ _ => exact w.exec_rootResetEnd
  | rootSuspendIdle _ => exact w.exec_rootSuspendIdle
  | rootResumeEnd _ => exact w.exec_rootResumeEnd
  | u1u2Timeout _ _ => exact w.exec_u1u2Timeout
  | devAttached _ => exact w.exec_devAttached
  | devBusReset _ _ _ => exact w.exec_devBusReset
  | devSetupReceived _ _ _ => exact w.exec_devSetupReceived
  | devToken _ _ _ _ _ _ _ => exact w.exec_devToken
  | devSuspended _ => exact w.exec_devSuspended
  | devHostResume _ => exact w.exec_devHostResume
  | devWakeSignalStart _ => exact w.exec_devWakeSignalStart
  | devWakeTimeout _ => exact w.exec_devWakeTimeout
  | devDetached _ => exact w.exec_devDetached
  | dpHpdChange _ _ _ _ => exact w.exec_dpHpdChange
  | dpTrained _ _ => exact w.exec_dpTrained
  | ccAttach _ _ _ => exact w.exec_ccAttach
  | ccDetach _ => exact w.exec_ccDetach
  | pdMessageReceived _ _ _ => exact w.exec_pdMessageReceived
  | hardResetReceived _ => exact w.exec_hardResetReceived
  | pdTimerExpiry _ _ => exact w.exec_pdTimerExpiry
  | senderResponseTimeout _ _ => exact w.exec_senderResponseTimeout
  | swapRetryExpiry _ => exact w.exec_swapRetryExpiry
  | eprKeepaliveTimeout _ => exact w.exec_eprKeepaliveTimeout
  | frsSignal _ => exact w.exec_frsSignal
  | pstgFltLow _ => exact w.exec_pstgFltLow
  | vbusSample _ _ _ => exact w.exec_vbusSample
  | transitionWindowTimeout _ => exact w.exec_transitionWindowTimeout
  | sourceCapsUpdate _ => exact w.exec_sourceCapsUpdate
  | pgIdleOffExpiry _ => exact w.exec_pgIdleOffExpiry
  | chainDispatch _ _ _ _ => exact w.exec_chainDispatch
  | queueFetchError _ _ _ _ _ => exact w.exec_queueFetchError
  | cqWriteError _ _ _ _ => exact w.exec_cqWriteError
  | completionWrite _ _ _ => exact w.exec_completionWrite
  | complRingStalled _ _ _ => exact w.exec_complRingStalled
  | moderationTimerExpiry _ _ _ => exact w.exec_moderationTimerExpiry
  | noticeOverflow _ => exact w.exec_noticeOverflow
  | qpStopDone _ _ _ => exact w.exec_qpStopDone
  | sliceQuiescent _ _ => exact w.exec_sliceQuiescent
  | sliceFreezeTimeout _ _ => exact w.exec_sliceFreezeTimeout
  | sliceResetDone _ _ => exact w.exec_sliceResetDone
  | generationDrained _ _ => exact w.exec_generationDrained
  | hostPortLoss _ => exact w.exec_hostPortLoss
  | hostPortReturn _ _ _ => exact w.exec_hostPortReturn
  | functionLevelReset _ => exact w.exec_functionLevelReset
  | hostLinkRateChange _ _ _ => exact w.exec_hostLinkRateChange
  | hostPowerStateChange _ _ _ _ _ _ _ => exact w.exec_hostPowerStateChange
  | hostReadTimeout _ => exact w.exec_hostReadTimeout
  | dmaJobStart _ _ => exact w.exec_dmaJobStart
  | dmaMove _ _ _ => exact w.exec_dmaMove
  | dmaLoop _ _ _ => exact w.exec_dmaLoop
  | dmaWait _ _ _ => exact w.exec_dmaWait
  | dmaSignal _ _ _ => exact w.exec_dmaSignal
  | dmaSetup _ _ _ => exact w.exec_dmaSetup
  | dmaEnd _ _ _ => exact w.exec_dmaEnd
  | dmaTimerExpiry _ => exact w.exec_dmaTimerExpiry
  | dmaWaitTimeout _ => exact w.exec_dmaWaitTimeout
  | dmaRetryExpiry _ _ _ => exact w.exec_dmaRetryExpiry
  | blockLanded _ => exact w.exec_blockLanded
  | evcSourceAssert _ _ => exact w.exec_evcSourceAssert
  | workItemDispatch _ => exact w.exec_workItemDispatch
  | evcInterruptTaken _ => exact w.exec_evcInterruptTaken
  | evcClaim _ _ => exact w.exec_evcClaim
  | evcComplete _ => exact w.exec_evcComplete
  | claimOverdue _ => exact w.exec_claimOverdue
  | directEnqueue _ => exact w.exec_directEnqueue
  | delayInsert _ _ _ => exact w.exec_delayInsert
  | delayCancel _ _ => exact w.exec_delayCancel
  | delayTick => exact w.exec_delayTick
  | coreRotation => exact w.exec_coreRotation
  | coreDrainDone _ => exact w.exec_coreDrainDone
  | selfTestDone _ _ => exact w.exec_selfTestDone
  | spareSelftestExpiry => exact w.exec_spareSelftestExpiry
  | faultedRetestExpiry _ => exact w.exec_faultedRetestExpiry
  | coreFault _ => exact w.exec_coreFault
  | itemLimitOverrun _ => exact w.exec_itemLimitOverrun
  | brownoutWarn _ _ => exact w.exec_brownoutWarn
  | railReturn _ => exact w.exec_railReturn
  | holdWindowExpiry => exact w.exec_holdWindowExpiry
  | lowSupplyEnd _ => exact w.exec_lowSupplyEnd
  | switchedDomainReset _ => exact w.exec_switchedDomainReset
  | serdesRailLoss _ => exact w.exec_serdesRailLoss
  | coldStart => exact w.exec_coldStart
  | levelChangeDone _ => exact w.exec_levelChangeDone
  | domainSequenceDone _ => exact w.exec_domainSequenceDone
  | sleepEntry _ => exact w.exec_sleepEntry
  | wakeEvent _ => exact w.exec_wakeEvent
  | sleepExitDone => exact w.exec_sleepExitDone
  | dozeUngate _ => exact w.exec_dozeUngate
  | energySample _ _ _ => exact w.exec_energySample
  | pmbusPoll _ _ => exact w.exec_pmbusPoll
  | refclkLost _ => exact w.exec_refclkLost
  | refclkValid _ => exact w.exec_refclkValid
  | preferredReturn => exact w.exec_preferredReturn
  | followerInvalid _ => exact w.exec_followerInvalid
  | ptmDialogue _ _ _ _ => exact w.exec_ptmDialogue
  | ethFrameReceived _ _ => exact w.exec_ethFrameReceived
  | dispSegment _ _ _ _ _ _ _ _ => exact w.exec_dispSegment
  | dpiHpdPulseEnd _ => exact w.exec_dpiHpdPulseEnd
  | journalDeferredCommit => exact w.exec_journalDeferredCommit
  | journalDrain _ => exact w.exec_journalDrain
  | persistPage _ => exact w.exec_persistPage
  | traceDrain => exact w.exec_traceDrain
  | lossRecord _ => exact w.exec_lossRecord
  | alarmVector _ => exact w.exec_alarmVector
  | siltRingVector _ _ => exact w.exec_siltRingVector
  | powerGood _ _ => exact w.exec_powerGood
  | fuseLoadDone _ _ _ _ _ _ => exact w.exec_fuseLoadDone
  | imageVerified _ => exact w.exec_imageVerified
  | startUpRelease _ => exact w.exec_startUpRelease
  | updateRotation => exact w.exec_updateRotation
  | classMove _ _ => exact w.exec_classMove
  | updateRollback _ => exact w.exec_updateRollback
  | loamCopyFault _ => exact w.exec_loamCopyFault
  | loamCopyRetryExpiry _ => exact w.exec_loamCopyRetryExpiry
  | loamSyncDone _ => exact w.exec_loamSyncDone
  | ethLinkChange _ _ => exact w.exec_ethLinkChange
  | dpiLinkChange _ _ _ _ => exact w.exec_dpiLinkChange
  | timebaseFullValue => exact w.exec_timebaseFullValue
  | slewOffsetRemoved => exact w.exec_slewOffsetRemoved
  | msixVectorUnmask _ _ => exact w.exec_msixVectorUnmask
  | flashOperationDone _ => exact w.exec_flashOperationDone
  | fuseBurnDone _ => exact w.exec_fuseBurnDone
  | hostReadCompletion _ _ _ _ => exact w.exec_hostReadCompletion
  | novideoPeriod _ _ => exact w.exec_novideoPeriod

/-! ## Step -/

theorem step_canonical (w : s.Canonical) : NextCanonical (step s) := by
  simp only [step]
  split
  · exact exec_canonical w.of_stores
  · exact w.of_stores.next

end State.Canonical

/-- Settles O3: each command and event keeps the canonical forms, as its lemma above says. -/
theorem everyStepKeepsWellFormedness : Obligations.EveryStepKeepsWellFormedness := by
  unfold Obligations.EveryStepKeepsWellFormedness
  exact fun s t w e => State.canonical_iff.mp ((State.canonical_iff.mpr w).step_canonical t e)

end Sys2Proof.Machine
end

section
/-! PROOFS. What reset leaves, and the identity in configuration space (R99, R262, R307, R354, R416, R496). -/

set_option Elab.async false

namespace Sys2Proof.Machine

/-- R354: CORE0 to CORE7 execute in slots 0 to 7. -/
theorem State.reset_core {c : Nat} (executes : c < 8) : (State.reset.core c).state = .active ∧ (State.reset.core c).slot = some c := by
  have all : ∀ c < 8, (State.reset.core c).state = .active ∧ (State.reset.core c).slot = some c := by decide
  exact all c executes

/-- R429, R494: with JIDX 0 the next, the tag before it is the genesis tag. -/
theorem State.reset_jrnlTag : State.reset.jrnlTag = State.reset.genesisTag := if_pos rfl

/-- A byte below a number of whole bytes is the first of its layout. -/
theorem toLe_byte_add (n k : Nat) (b : Byte) : toLe (n + 1) (b.toNat + 256 * k) = b :: toLe n k := by
  have first : BitVec.ofNat 8 (b.toNat + 256 * k) = b := BitVec.eq_of_toNat_eq (by simp only [BitVec.toNat_ofNat]; omega)
  have rest : (b.toNat + 256 * k) / 256 = k := by omega
  rw [toLe, first, rest]

/-- Two half words, the low one first. -/
theorem toLe_two_add (a b : BitVec 16) : toLe 4 (a.toNat + 65536 * b.toNat) = toLe 2 a.toNat ++ toLe 2 b.toNat := by
  simp only [toLe, List.cons_append, List.nil_append, List.cons.injEq, and_true, ← BitVec.toNat_inj, BitVec.toNat_ofNat]
  omega

/-- R496: vendor and device, silicon revision and class, and the subsystem of the image. -/
theorem State.pciIdentity_eq (s : State) : s.pciIdentity =
    [(0x00, toLe 4 0xC1241FE7), (0x08, [Config.silicon, 0x00, 0x80, 0x08]), (0x2C, toLe 2 s.boot.subVendor.toNat ++ toLe 2 s.boot.subId.toNat)] := by
  have revision : toLe 4 (Config.silicon.toNat + 256 * 0x088000) = [Config.silicon, 0x00, 0x80, 0x08] := toLe_byte_add 3 0x088000 Config.silicon
  rw [pciIdentity, reg4, reg4, reg4, revision, toLe_two_add]

/-- Settles O2: the tables of the reset state are empty, so each entry reads as its default. -/
theorem resetState : Obligations.ResetState := by
  unfold Obligations.ResetState
  refine ⟨?form, rfl, rfl, rfl, rfl, fun _ => rfl, fun _ _ => rfl, fun _ => State.reset_core, rfl, rfl, State.reset_jrnlTag, fun _ => rfl, State.pciIdentity_eq⟩
  case form => decide

end Sys2Proof.Machine
end

section
/-! PROOFS. What the operations behind the tunnel timers leave of the allotment cycle of every port and of the mark of a lost host (R102, R110, R332). -/

set_option Elab.async false

namespace Sys2Proof.Machine

/-! ## Counts and marks -/

/-- R102, R110: what an allotment cycle counts on a port, with the cycle evaluated last and the turn counters. -/
def Port.counts (x : Port) : Port :=
  { allot := { turnCycles := x.allot.turnCycles, cycle := x.allot.cycle, cIn := x.allot.cIn, cOut := x.allot.cOut }
    tx := { sentCycle := x.tx.sentCycle, mgmtSent := x.tx.mgmtSent }
    rx := { recvLast := x.rx.recvLast, recvCycle := x.rx.recvCycle, backlog := x.rx.backlog } }

/-- R102, R332: the counts of every port and the mark of every slice whose host was lost are as they were. -/
structure State.TimingKept (s t : State) : Prop where
  counts : ∀ p, (t.port p).counts = (s.port p).counts
  lost : ∀ h sl, (t.slice h sl).lostDue = (s.slice h sl).lostDue

namespace State.TimingKept

theorem refl (s : State) : s.TimingKept s := ⟨fun _ => rfl, fun _ _ => rfl⟩

theorem trans {s t u : State} (h : s.TimingKept t) (g : t.TimingKept u) : s.TimingKept u :=
  ⟨fun p => (g.counts p).trans (h.counts p), fun n sl => (g.lost n sl).trans (h.lost n sl)⟩

variable {s t u : State}

theorem ite {c : Prop} [Decidable c] (ht : s.TimingKept t) (hu : s.TimingKept u) : s.TimingKept (if c then t else u) := by
  split_ifs <;> assumption

section
variable (h : s.TimingKept t)
include h

/-- An update that changes no port and no slice. -/
theorem of_eq (ports : u.ports = t.ports := by rfl) (slices : u.hosts.slices = t.hosts.slices := by rfl) : s.TimingKept u :=
  h.trans ⟨fun p => congrArg Port.counts (State.port_congr ports p), fun n sl => by rw [State.slice, State.slice, slices]⟩

theorem foldl {α : Type} {f : State → α → State} {l : List α} (hf : ∀ (t : State) (x : α), s.TimingKept t → s.TimingKept (f t x)) :
    s.TimingKept (l.foldl f t) := by
  induction l generalizing t with
  | nil => exact h
  | cons x l ih => exact ih (hf t x h)

theorem setPort {p : Nat} {x : Port} (hx : x.counts = (t.port p).counts) : s.TimingKept (t.setPort p x) := by
  refine h.trans ⟨fun q => ?_, fun _ _ => rfl⟩
  rw [State.port_setPort]
  split_ifs with e
  · rw [e, hx]
  · rfl

theorem modPort {p : Nat} {f : Port → Port} (hf : ∀ x, (f x).counts = x.counts := by exact fun _ => rfl) : s.TimingKept (t.modPort p f) :=
  h.setPort (hf _)

theorem modPd {p : Nat} {f : Pd → Pd} : s.TimingKept (t.modPd p f) := h.modPort

theorem setSlice {n sl : Nat} {x : Slice} (hx : x.lostDue = (t.slice n sl).lostDue := by rfl) : s.TimingKept (t.setSlice n sl x) := by
  refine h.trans ⟨fun _ => rfl, fun n' sl' => ?_⟩
  by_cases e : sliceKey n' sl' = sliceKey n sl
  · have same (u : State) : u.slice n' sl' = u.slice n sl := by rw [State.slice, State.slice, e]
    rw [same, same, State.slice_setSlice_self, hx]
  · rw [State.slice_setSlice_ne _ _ _ _ _ _ e]

theorem modSlice {n sl : Nat} {f : Slice → Slice} (hf : ∀ x, (f x).lostDue = x.lostDue := by exact fun _ => rfl) : s.TimingKept (t.modSlice n sl f) :=
  h.setSlice (hx := hf _)

/-! ## Tunnels, completions and notices (R94, R101, R246, R258) -/

theorem setTunnel {tid v} : s.TimingKept (t.setTunnel tid v) := h.of_eq

theorem modTunnel {tid f} : s.TimingKept (t.modTunnel tid f) := h.of_eq

theorem modSilt {f} : s.TimingKept (t.modSilt f) := h.of_eq

theorem modMgmt {f} : s.TimingKept (t.modMgmt f) := h.of_eq

theorem modBoot {f} : s.TimingKept (t.modBoot f) := h.of_eq

theorem modXfer {f} : s.TimingKept (t.modXfer f) := h.of_eq

theorem modRoot {r f} : s.TimingKept (t.modRoot r f) := h.of_eq

theorem setEp {e v} : s.TimingKept (t.setEp e v) := h.of_eq

theorem modEp {e f} : s.TimingKept (t.modEp e f) := h.of_eq

theorem setQp {n sl q v} : s.TimingKept (t.setQp n sl q v) := h.of_eq

theorem modQp {n sl q f} : s.TimingKept (t.modQp n sl q f) := h.of_eq

theorem tickFree : s.TimingKept t.tickFree := h.of_eq

theorem send {o} : s.TimingKept (t.send o) := h.of_eq

theorem event {n} : s.TimingKept (t.event n) := h.of_eq (by simp) (by simp)

theorem trace {a g o} : s.TimingKept (t.trace a g o) := h.of_eq (by simp) (by simp)

theorem alarmOccur {a o c} : s.TimingKept (t.alarmOccur a o c) := h.of_eq (by simp) (by simp)

theorem alarmEnd {a} : s.TimingKept (t.alarmEnd a) := h.of_eq (by simp) (by simp)

theorem modHp {n f} : s.TimingKept (t.modHp n f) := h.of_eq (by simp) (by simp)

theorem commit {r} : s.TimingKept (t.commit r) := h.of_eq (by simp) (by simp)

theorem commitNow {r} : s.TimingKept (t.commitNow r) := h.of_eq (by simp) (by simp)

theorem endCmd {c op} : s.TimingKept (t.endCmd c op) := h.of_eq

theorem markBegun {c op} : s.TimingKept (t.markBegun c op) := h.of_eq

theorem markCommitted {c op} : s.TimingKept (t.markCommitted c op) := h.of_eq

theorem startCmd {c op} : s.TimingKept (t.startCmd c op) := h.of_eq (by simp) (by simp)

theorem record {r} : s.TimingKept (t.record r) := .ite h.commit (.ite h.modSilt h.modSilt)

theorem setHp {n v} : s.TimingKept (t.setHp n v) := .ite h.of_eq h.of_eq

theorem sendVec {n v} : s.TimingKept (t.sendVec n v) := .ite (.ite h.setHp.send h.setHp) (.ite h.setHp h.send)

/-- R246, R249: a completion delivered by any route leaves the marks of the slices alone. -/
theorem deliver {c st d r} : s.TimingKept (t.deliver c st d r) := by
  unfold State.deliver
  split
  · exact .ite h.setSlice.sendVec h.setSlice
  · exact .ite h.modQp h.modSlice
  · exact h.modMgmt
  · exact h
  · exact .ite h h.modBoot.trace
  · exact h
  · exact h.send

theorem complete {c op st d r} : s.TimingKept (t.complete c op st d r) := .ite h.endCmd.deliver h

theorem completeOpt {c op st d r} : s.TimingKept (t.completeOpt c op st d r) := by
  cases c with
  | none => exact h
  | some c => exact h.complete

theorem notice {n sl q tag st r} : s.TimingKept (t.notice n sl q tag st r) :=
  .ite h.modSlice (.ite h.modSlice (.ite h.modSlice.setQp h.setQp))

theorem noticeOwner {o q tag st r} : s.TimingKept (t.noticeOwner o q tag st r) := by
  unfold State.noticeOwner
  split
  · exact h.notice
  · exact h.of_eq (by simp) (by simp)

theorem tunnelNotice {tid code st} : s.TimingKept (t.tunnelNotice tid code st) := h.noticeOwner

theorem fwChange {r act effect} (he : ∀ t, s.TimingKept t → s.TimingKept (effect t)) : s.TimingKept (t.fwChange r act effect) :=
  .ite (he _ h.commit) (.ite h h.modSilt)

/-- R263: the steps of a command, where its effect leaves counts and marks alone. -/
theorem command {i c k effect} (he : ∀ t, s.TimingKept t → s.TimingKept (effect t)) : s.TimingKept (t.command i c k effect) := by
  have refused {t : State} (h : s.TimingKept t) : s.TimingKept (t.journalRefused i c k) := .ite h.commitNow h.modSilt
  unfold State.command
  extract_lets t₁
  have started : s.TimingKept t₁ := h.startCmd
  clear_value t₁
  refine .ite started ?_
  split
  · next f _ =>
    have checked : s.TimingKept (if i.journal && k.journalled && stepThree f then t₁.journalRefused i c k else t₁) := .ite (refused started) started
    exact .ite checked.endCmd.deliver checked
  · exact .ite (he _ started.markBegun)
      (.ite started.modSilt (.ite (he _ started.commitNow.markCommitted) (.ite started.modSilt started.modSilt.complete)))

/-! ## Roots and endpoints (R165 to R180) -/

theorem endChain {e st x short} : s.TimingKept (t.endChain e st x short) := by
  have posted {t : State} (h : s.TimingKept t) {n sl q entry slot} : s.TimingKept (t.enginePost n sl q entry slot) := .ite h.modQp h.modSlice
  have ticked {c : Prop} [Decidable c] : s.TimingKept (if c then t.tickFree else t) := .ite h.tickFree h
  simp only [State.endChain]
  split
  · exact posted ticked.setEp
  · exact h

theorem stopEp {e st x dst} : s.TimingKept (t.stopEp e st x dst) := by
  unfold State.stopEp State.dropRequests
  exact h.modXfer.endChain.modEp

theorem disableEp {e st g} : s.TimingKept (t.disableEp e st g) := .ite h.stopEp.setEp h.stopEp.setEp

theorem usbError {e} : s.TimingKept (t.usbError e) := .ite h.stopEp h.setEp

theorem rootNotice {r code tport} : s.TimingKept (t.rootNotice r code tport) := by
  simp only [State.rootNotice]
  split
  · exact h.notice.event
  · exact h.event

theorem endRootCmds {r st} : s.TimingKept (t.endRootCmds r st) := by
  unfold State.endRootCmds
  exact h.completeOpt.completeOpt.completeOpt.modRoot

theorem rootGone {r} : s.TimingKept (t.rootGone r) :=
  .ite h.modRoot (h.foldl fun _ _ v => v.disableEp).modXfer.endRootCmds.modRoot.rootNotice

theorem rootHeld {r} : s.TimingKept (t.rootHeld r) := .ite h (h.modRoot.foldl fun _ _ v => v.usbError).modRoot.rootNotice

theorem rootRestored {r} : s.TimingKept (t.rootRestored r) := by
  unfold State.rootRestored
  extract_lets t₁
  have told : s.TimingKept t₁ := .ite h.modRoot.rootNotice h
  exact .ite told.modRoot.rootNotice told

theorem rootFollows {p} : s.TimingKept (t.rootFollows p) := .ite h.rootGone (.ite h.rootHeld (.ite h h.rootRestored))

/-! ## MGMT messages and credit (R66, R93 to R95, R133 to R135) -/

theorem modMarl {f} : s.TimingKept (t.modMarl f) := h.of_eq

theorem modCluster {f} : s.TimingKept (t.modCluster f) := h.of_eq

theorem takeSpace {cls v} (e : t.takeSpace cls = some v) : s.TimingKept v := by
  simp only [State.takeSpace] at e
  split_ifs at e
  all_goals
    cases e
    exact h.of_eq

theorem writesGoOn {n} : s.TimingKept (State.writesGoOn n t) := by
  induction n generalizing t with
  | zero => exact h
  | succ n ih =>
    unfold State.writesGoOn
    split
    · exact h
    · split
      · exact h
      · exact ih h.of_eq

theorem enqueueCell {a q flow c} : s.TimingKept (t.enqueueCell a q flow c) := by
  simp only [State.enqueueCell]
  split
  · exact h.of_eq
  · exact h.modMarl.writesGoOn

theorem queueMgmt {p m} : s.TimingKept (t.queueMgmt p m) := by
  simp only [State.queueMgmt, State.admitMgmt, State.admitLossless]
  refine .ite h.modCluster (.ite (.ite h h.modMarl.enqueueCell) ?_)
  split
  · next e => exact (h.takeSpace e).enqueueCell
  · exact h.modCluster

theorem request {p msg tid body} : s.TimingKept (t.request p msg tid body) := h.modPort.queueMgmt

theorem sendOpen {tid} : s.TimingKept (t.sendOpen tid) := h.modPort.request

theorem freeSpaces {n cls} : s.TimingKept (State.freeSpaces n cls t) := by
  induction n generalizing t with
  | zero => exact h
  | succ n ih => exact ih (.ite h.of_eq h.of_eq)

theorem releaseTun {p tun cls keep} : s.TimingKept (t.releaseTun p tun cls keep) := by
  unfold State.releaseTun
  exact h.freeSpaces.modPort

/-! ## Tunnels opened, freed and closed (R94, R96, R101, R113) -/

theorem restoreOne {tid} : s.TimingKept (t.restoreOne tid) := .ite h.setTunnel.sendOpen (.ite h h.tunnelNotice.modTunnel)

theorem planRefused {tid} : s.TimingKept (t.planRefused tid) := .ite h h.modTunnel.record.alarmOccur

theorem planOne {tid} : s.TimingKept (t.planOne tid) := .ite h.setTunnel.sendOpen h.planRefused

theorem retryTunnels {p} : s.TimingKept (t.retryTunnels p) :=
  .ite ((h.foldl fun _ _ v => v.restoreOne).foldl fun _ _ v => v.planOne) h

theorem dropAwaits {p tid} : s.TimingKept (t.dropAwaits p tid) := h.modPort

theorem freeEntry {tid closed} : s.TimingKept (t.freeEntry tid closed) := by
  have retried : s.TimingKept ((t.entryFreed tid closed).retryTunnels (t.tunnel tid).port) := by
    unfold State.entryFreed State.entryReleased
    exact h.dropAwaits.releaseTun.modPort.setTunnel.retryTunnels
  rw [State.freeEntry_eq]
  exact .ite retried.rootFollows retried

theorem endModify {tid st d} : s.TimingKept (t.endModify tid st d) := by
  simp only [State.endModify]
  split
  · exact h.completeOpt.modTunnel
  · exact h.modTunnel

theorem failQueued {tid st d} : s.TimingKept (t.failQueued tid st d) := by
  unfold State.failQueued
  exact (h.foldl fun _ _ v => v.complete).modTunnel

theorem closeTunnel {tid} : s.TimingKept (t.closeTunnel tid) := by
  unfold State.closeTunnel
  extract_lets x t₁ t₂ t₃
  have failed : s.TimingKept t₃ := h.completeOpt.endModify.failQueued.modTunnel
  exact .ite failed.completeOpt.freeEntry failed.dropAwaits.setTunnel.request

theorem dpIdle {tid} : s.TimingKept (t.dpIdle tid) := .ite h.send h

theorem dropBinding {tid} : s.TimingKept (t.dropBinding tid) := by
  unfold State.dropBinding
  exact h.dpIdle.freeEntry.modPd

theorem closeOwned {tid} : s.TimingKept (t.closeOwned tid) :=
  .ite h (.ite h.dropBinding (.ite h.closeTunnel.rootFollows h.closeTunnel))

/-! ## Modifies (R105, R106) -/

theorem startModify {tid n cmd} : s.TimingKept (t.startModify tid n cmd) := by
  unfold State.startModify
  extract_lets x inbound eff m t₁ t₂
  have asked : s.TimingKept t₂ := .ite h.setTunnel.request h.setTunnel
  exact asked.retryTunnels

theorem execTunModify {c} (e : Machine.execTunModify c t = .next u) : s.TimingKept u := by
  simp only [Machine.execTunModify] at e
  split_ifs at e
  · cases e
    exact h.startCmd.modTunnel
  · cases e
    exact h.command fun _ v => v.startModify

theorem nextModify {tid} : s.TimingKept (t.nextModify tid) := by
  simp only [State.nextModify]
  split
  · exact h
  · split
    · next e => exact h.setTunnel.execTunModify e
    · exact h.setTunnel

theorem applyModify {tid} : s.TimingKept (t.applyModify tid) := by
  simp only [State.applyModify]
  split
  · exact .ite h h.setTunnel.completeOpt.nextModify.retryTunnels
  · exact h

/-! ## The turns of a cycle (R107 to R112) -/

theorem pushCtrl {p c} : s.TimingKept (t.pushCtrl p c) := h.modPort

theorem creditAll {p} : s.TimingKept (t.creditAll p) := h.foldl fun _ _ v => v.pushCtrl

theorem armIdle {p} : s.TimingKept (t.armIdle p) := by
  unfold State.armIdle
  exact h.modPort

theorem sendMarker {p l} : s.TimingKept (t.sendMarker p l) := by
  unfold State.sendMarker
  refine h.send.modPort fun x => ?_
  rw [Port.modLane_frame]
  rfl

theorem wakeOut {p} : s.TimingKept (t.wakeOut p) := .ite h (h.modPort.send.foldl fun _ _ v => v.sendMarker).creditAll.armIdle

theorem beginChange {p lane kind dir} : s.TimingKept (t.beginChange p lane kind dir) := by
  have begun {x : Transit} {f : Lane → Lane} {id} :
      s.TimingKept (t.setPort p ({ t.port p with transit := some x, turnId := id }.modLane lane f)) :=
    h.setPort (by rw [Port.modLane_frame]; rfl)
  exact .ite begun.modPort begun.pushCtrl

theorem turn {p a} (e : t.turn p a = some u) : s.TimingKept u := by
  unfold State.turn at e
  split at e
  · cases e
    exact (ite h.wakeOut h).beginChange.trace
  · cases e

theorem deferredExclude {p} : s.TimingKept (t.deferredExclude p) := by
  simp only [State.deferredExclude]
  split
  · exact h
  · split
    · exact .ite h h.modPort
    · exact .ite (ite h.modPort.wakeOut h.modPort).beginChange h

theorem noteOver {p} : s.TimingKept (t.noteOver p) := .ite h.modPort.event.trace h.modPort

theorem noteClient {n} : s.TimingKept (t.noteClient n) := .ite h.modHp.alarmOccur (.ite h.modHp.alarmEnd h.modHp)

theorem setBudgets {p} : s.TimingKept (t.setBudgets p) := h.foldl fun _ _ v => v.modPort

theorem turnHome {p v} : s.TimingKept (t.turnHome p v) := by
  simp only [State.turnHome]
  refine .ite h.modPort (.ite h.modPort ?_)
  split
  · next e => exact (h.turn e).modPort
  · exact h.modPort

end
end State.TimingKept
end Sys2Proof.Machine
end

section
/-! PROOFS. The tunnel timers: MGMT requests without an answer, allotment cycles, orphan windows and the mark of a lost host (R94, R102, R105, R110, R113, R116, R332). -/

set_option Elab.async false

namespace Sys2Proof.Machine

/-! ## Entries torn down (R101, R113) -/

/-- Entry `tid` keeps its generation and the destroy that waits for it, and the tunnel table its canonical form. -/
structure State.EntryHeld (tid : Nat) (s t : State) : Prop where
  wf : s.tunWf = true → t.tunWf = true
  gen : (t.tunnel tid).gen = (s.tunnel tid).gen
  destroy : (t.tunnel tid).destroy = (s.tunnel tid).destroy

namespace State.EntryHeld

theorem refl (tid : Nat) (s : State) : State.EntryHeld tid s s := ⟨id, rfl, rfl⟩

variable {tid : Nat} {s t u : State} (h : State.EntryHeld tid s t)
include h

theorem linksKept (g : t.LinksKept u) : State.EntryHeld tid s u :=
  ⟨fun w => by rw [State.tunWf, g.tunnels]; exact h.wf w, by rw [g.tunnel, h.gen], by rw [g.tunnel, h.destroy]⟩

theorem commit (r : JReq) : State.EntryHeld tid s (t.commit r) := h.linksKept (.of_eq (State.commit_ports ..) (State.commit_tunnels ..))

theorem completeOpt (c : Option Cmd) (op : Nat) (st : Status) (d : Nat) (r : List Byte) : State.EntryHeld tid s (t.completeOpt c op st d r) :=
  h.linksKept (t.completeOpt_linksKept ..)

theorem modTunnel {f : Tunnel → Tunnel} (gen : (f (t.tunnel tid)).gen = (t.tunnel tid).gen := by rfl)
    (destroy : (f (t.tunnel tid)).destroy = (t.tunnel tid).destroy := by rfl) : State.EntryHeld tid s (t.modTunnel tid f) := by
  have own : (t.modTunnel tid f).tunnel tid = f (t.tunnel tid) := (State.tunnel_modTunnel ..).trans (if_pos rfl)
  exact ⟨fun w => Tab.wf_set ({} : Tunnel) tid (f (t.tunnel tid)) t.tunnels (h.wf w), by rw [own, gen, h.gen], by rw [own, destroy, h.destroy]⟩

theorem endModify (st : Status) (d : Nat) : State.EntryHeld tid s (t.endModify tid st d) := by
  simp only [State.endModify]
  split
  · exact (h.completeOpt ..).modTunnel
  · exact h.modTunnel

theorem failQueued (st : Status) (d : Nat) : State.EntryHeld tid s (t.failQueued tid st d) := by
  have told : t.LinksKept ((t.tunnel tid).queued.foldl (fun s c => s.complete c 0x0203 st d []) t) :=
    .foldl (fun u c => u.completeOpt_linksKept (some c) 0x0203 st d []) _ t
  unfold State.failQueued
  exact (h.linksKept told).modTunnel

/-- R101: an entry freed then is FREE under the next generation. -/
theorem freed (w : s.tunWf = true) (closed : Bool) : (t.freeEntry tid closed).tunnel tid = { gen := (s.tunnel tid).gen + 1 } := by
  rw [(t.freeEntry_keeps tid closed).2 (h.wf w), h.gen]

theorem teardownNow (w : s.tunWf = true) : (t.teardownNow tid).tunnel tid = { gen := (s.tunnel tid).gen + 1 } := by
  unfold State.teardownNow
  exact (((h.linksKept (t.tunnelNotice_linksKept tid _ _)).endModify ..).failQueued ..).freed w false

theorem teardown (w : s.tunWf = true) (live : (t.tunnel tid).state ≠ .free) (may : t.fwMayCommit = true) (origin : Nat) :
    (t.teardown tid origin).tunnel tid = { gen := (s.tunnel tid).gen + 1 } := by
  have ran : t.teardown tid origin = (t.commit (t.teardownReq tid origin)).teardownNow tid := (if_neg live).trans (if_pos may)
  rw [ran]
  exact (h.commit _).teardownNow w

/-- R101: what a close waits for has failed before the entry is freed or the partner asked. -/
theorem beforeClose (st : Status) (d : Nat) : State.EntryHeld tid s
    ((((t.completeOpt (t.tunnel tid).create 0x0201 .aborted 0 []).endModify tid .aborted 0).failQueued tid st d).modTunnel tid
      fun x => { x with create := none }) :=
  (((h.completeOpt ..).endModify ..).failQueued ..).modTunnel

/-- R113, R116: closed while it is ORPHAN, it is freed at once. -/
theorem closeTunnel_orphan (w : s.tunWf = true) (orphan : (t.tunnel tid).state = .orphan) :
    (t.closeTunnel tid).tunnel tid = { gen := (s.tunnel tid).gen + 1 } := by
  unfold State.closeTunnel
  extract_lets x t₁ t₂ t₃
  have failed : State.EntryHeld tid s t₃ := h.beforeClose ..
  have now : x.state = .orphan := orphan
  rw [if_pos (by rw [now]; rfl)]
  exact (failed.completeOpt ..).freed w false

/-- R101: closed, it is freed at once, or CLOSING until the partner has answered. -/
theorem closeTunnel (w : s.tunWf = true) : (t.closeTunnel tid).tunnel tid = { gen := (s.tunnel tid).gen + 1 }
    ∨ ((t.closeTunnel tid).tunnel tid).state = .closing ∧ ((t.closeTunnel tid).tunnel tid).gen = (s.tunnel tid).gen
      ∧ ((t.closeTunnel tid).tunnel tid).destroy = (s.tunnel tid).destroy := by
  unfold State.closeTunnel
  extract_lets x t₁ t₂ t₃
  have failed : State.EntryHeld tid s t₃ := h.beforeClose ..
  clear_value t₃
  split
  · exact .inl ((failed.completeOpt ..).freed w false)
  · have asked (u : State) : u.LinksKept (u.sendClose tid) := u.request_linksKept ..
    rw [(asked _).tunnel, State.tunnel_setTunnel, if_pos rfl]
    exact .inr ⟨rfl, failed.gen, failed.destroy⟩

end State.EntryHeld

/-! ## MGMT requests without an answer (R94) -/

/-- Message `xid` of port `p` is awaited no more; the requests `l` are. -/
def State.awaitingInstead (s : State) (p : Nat) (xid : BitVec 16) (l : List Await) : State :=
  s.modPort p fun x => { x with awaits := (s.port p).awaits.filter (fun b => b.xid ≠ xid) ++ l }

theorem State.awaitingInstead_keeps (s : State) (p : Nat) (xid : BitVec 16) (l : List Await) :
    (s.awaitingInstead p xid l).tunnels = s.tunnels ∧ s.CommitsAlike (s.awaitingInstead p xid l)
      ∧ (s.awaitingInstead p xid l).port p = { s.port p with awaits := (s.port p).awaits.filter (fun b => b.xid ≠ xid) ++ l } :=
  ⟨rfl, .of_eq rfl rfl rfl rfl, State.port_modPort_same ..⟩

theorem State.queueMgmt_linksKept (s : State) (p : Nat) (m : MgmtMsg) : s.LinksKept (s.queueMgmt p m) := s.admitMgmt_linksKept p _

section
variable {p : Fin 12} {xid : BitVec 16} {a : Await} {s : State} (awaited : (s.port p).awaits.find? (fun a => decide (a.xid = xid)) = some a)
  (due : a.due.toNat ≤ s.now.toNat)
include awaited due

theorem exec_mgmtResendExpiry_again (few : a.tries < 2) : exec (.mgmtResendExpiry p xid) s =
    .next ((s.awaitingInstead p xid [{ a with tries := a.tries + 1, due := s.after 1000000 }]).queueMgmt p a.msg) := by
  change execMgmtResendExpiry p xid s = _
  simp only [execMgmtResendExpiry, awaited, if_neg (Nat.not_lt.mpr due), if_pos few]
  rfl

theorem exec_mgmtResendExpiry_ends (many : 2 ≤ a.tries) : exec (.mgmtResendExpiry p xid) s = .next ((s.awaitingInstead p xid []).unanswered a) := by
  change execMgmtResendExpiry p xid s = _
  simp only [execMgmtResendExpiry, awaited, if_neg (Nat.not_lt.mpr due), if_neg (Nat.not_lt.mpr many), State.awaitingInstead, List.append_nil]

theorem mgmtResendExpiry_again (few : a.tries < 2) : Gives (.mgmtResendExpiry p xid) s fun t =>
    (t.port p).awaits = (s.port p).awaits.filter (fun b => b.xid ≠ xid) ++ [{ a with tries := a.tries + 1, due := s.after 1000000 }]
      ∧ t.tunnels = s.tunnels ∧ (t.port p).train = (s.port p).train := by
  refine Gives.of_eq (exec_mgmtResendExpiry_again awaited due few) ?_
  obtain ⟨tunnels, -, own⟩ := s.awaitingInstead_keeps p xid [{ a with tries := a.tries + 1, due := s.after 1000000 }]
  rw [State.port_congr (State.queueMgmt_ports ..), (State.queueMgmt_linksKept ..).tunnels, own]
  exact ⟨rfl, tunnels, rfl⟩

theorem mgmtResendExpiry_restore (many : 2 ≤ a.tries) (opens : a.msg.msg = 0x10) (restore : (s.tunnel a.tid).restore = true) :
    Gives (.mgmtResendExpiry p xid) s fun t =>
      t.tunnel a.tid = { s.tunnel a.tid with state := .orphan, restore := false } ∧ (∀ k, k ≠ a.tid → t.tunnel k = s.tunnel k)
        ∧ (t.port p).awaits = (s.port p).awaits.filter (fun b => b.xid ≠ xid) := by
  obtain ⟨tunnels, -, own⟩ := s.awaitingInstead_keeps p xid []
  have tunnel (k : Nat) : (s.awaitingInstead p xid []).tunnel k = s.tunnel k := by rw [State.tunnel, State.tunnel, tunnels]
  refine Gives.of_eq (exec_mgmtResendExpiry_ends awaited due many) ?_
  generalize s.awaitingInstead p xid [] = u at *
  have back : u.unanswered a = u.setTunnel a.tid { u.tunnel a.tid with state := .orphan, restore := false } := by
    simp only [State.unanswered, if_pos opens, tunnel, restore, if_true]
  rw [back]
  refine ⟨?_, fun k other => ?_, ?_⟩
  · rw [State.tunnel_setTunnel, if_pos rfl, tunnel]
  · rw [State.tunnel_setTunnel, if_neg other, tunnel]
  · rw [State.port_congr (State.setTunnel_ports ..), own, List.append_nil]

theorem mgmtResendExpiry_frees (many : 2 ≤ a.tries)
    (frees : a.msg.msg = 0x10 ∧ (s.tunnel a.tid).restore = false ∧ s.fwMayCommit = true ∨ a.msg.msg = 0x13) (w : s.tunWf = true) :
    Gives (.mgmtResendExpiry p xid) s fun t => t.tunnel a.tid = { gen := (s.tunnel a.tid).gen + 1 } := by
  obtain ⟨tunnels, alike, -⟩ := s.awaitingInstead_keeps p xid []
  have tunnel : (s.awaitingInstead p xid []).tunnel a.tid = s.tunnel a.tid := by rw [State.tunnel, State.tunnel, tunnels]
  have wf : (s.awaitingInstead p xid []).tunWf = true := by rw [State.tunWf, tunnels]; exact w
  refine Gives.of_eq (exec_mgmtResendExpiry_ends awaited due many) ?_
  generalize s.awaitingInstead p xid [] = u at *
  rw [← tunnel]
  obtain ⟨opens, create, may⟩ | closes := frees
  · have reverts : u.unanswered a = u.revertCreate a.tid .timeout 0 := by
      simp only [State.unanswered, if_pos opens, tunnel, create, Bool.false_eq_true, if_false]
    rw [reverts]
    exact (State.revertCreate_keeps _ _ _ _ (alike.fwMayCommit.trans may)).2 wf
  · have other : a.msg.msg ≠ 0x10 := by rw [closes]; decide
    have done : u.unanswered a = u.closeDone a.tid false := by simp only [State.unanswered, if_neg other, if_pos closes]
    rw [done]
    exact (State.closeDone_keeps _ _ _).2 wf

end

/-! ## The cycle of an allotment (R102, R110) -/

/-- The counts of a port without its turn counters. -/
def Port.rolled (x : Port) : Port := { x.counts with allot := { x.counts.allot with cIn := 0, cOut := 0 } }

theorem State.TimingKept.rolled {s t : State} (h : s.TimingKept t) (p : Nat) : (t.port p).rolled = (s.port p).rolled := by
  rw [Port.rolled, Port.rolled, h.counts]

theorem State.turn_rolled (s : State) (p : Nat) (d : Dir) (q : Nat) : (((s.turn p d).getD s).port q).rolled = (s.port q).rolled := by
  cases e : s.turn p d with
  | none => rfl
  | some t => exact ((State.TimingKept.refl s).turn e).rolled q

/-- R110: evaluating the turn counters may clear them, and leaves the other counts alone. -/
theorem State.turnRequests_rolled (s : State) (p : Nat) (v : TurnView) (q : Nat) : ((s.turnRequests p v).port q).rolled = (s.port q).rolled := by
  unfold State.turnRequests
  extract_lets a clear wantIn wantOut t
  have cleared (o i : Bool) (t : State) : ((clear o i t).port q).rolled = (t.port q).rolled := by
    rw [State.port_modPort]
    by_cases e : q = p
    · rw [if_pos e, e]
      rfl
    · rw [if_neg e]
  have told (d : Dir) (o i : Bool) : ((((s.turn p d).map (clear o i)).getD s).port q).rolled = (s.port q).rolled := by
    have turned := s.turn_rolled p d q
    generalize s.turn p d = r at turned ⊢
    cases r with
    | none => rfl
    | some t => exact (cleared o i t).trans turned
  have both : (t.port q).rolled = (s.port q).rolled := cleared true true s
  clear_value clear t
  split_ifs
  · exact (t.turn_rolled p .outb q).trans both
  · exact (t.turn_rolled p .inb q).trans both
  · exact both
  · exact told .outb false true
  · exact told .inb true false
  · rfl

/-- R110: with both turn counters below TURN_CYCLES no turn is asked for. -/
theorem State.turnRequests_none {s : State} {p : Nat} {v : TurnView} (inb : (s.port p).allot.cIn < (s.port p).allot.turnCycles)
    (outb : (s.port p).allot.cOut < (s.port p).allot.turnCycles) : s.turnRequests p v = s := by
  simp only [State.turnRequests, decide_eq_false (Nat.not_le.mpr inb), decide_eq_false (Nat.not_le.mpr outb), Bool.and_self, Bool.false_eq_true, if_false]

/-- R102, R105, R109: the counters of the cycle are rolled, and modifies that are due applied. -/
def State.cycleRolled (s : State) (p : Nat) : State :=
  let r := (s.turnCounts p (s.turnView p)).rollCycle p
  let u := (r.portTunnels p .opened).foldl State.applyModify r
  ((((u.noteOver p).noteClient 0).noteClient 1).setBudgets p).deferredExclude p

theorem State.cycleRolled_timingKept (s : State) (p : Nat) : ((s.turnCounts p (s.turnView p)).rollCycle p).TimingKept (s.cycleRolled p) := by
  unfold State.cycleRolled
  exact ((State.TimingKept.refl _).foldl fun _ _ v => v.applyModify).noteOver.noteClient.noteClient.setBudgets.deferredExclude

theorem exec_allotCycleStart {p : Fin 12} {s : State} (active : (s.port p).train.state = .active) (new : (s.port p).allot.cycle ≠ some s.cycle) :
    exec (.allotCycleStart p) s = .next (((s.cycleRolled p).turnRequests p (s.turnView p)).turnHome p (s.turnView p)) := by
  have goes : (!s.linkUp p || decide ((s.port p).allot.cycle = some s.cycle)) = false := by
    rw [State.linkUp_iff.mpr active, decide_eq_false new]
    rfl
  exact if_neg (by rw [goes]; exact Bool.false_ne_true)

theorem allotCycleStart_rolls {p : Fin 12} {s : State} (active : (s.port p).train.state = .active) (new : (s.port p).allot.cycle ≠ some s.cycle) :
    Gives (.allotCycleStart p) s fun t =>
      let x := s.port p
      let v := s.turnView p
      let cIn := turnCount x.allot.turnThresh v.backIn (decide (v.sentOut + v.backOut ≤ s.ps p (laneCount x.outSet - 1))) x.allot.cIn
      let cOut := turnCount x.allot.turnThresh v.backOut (decide (v.sentIn + v.backIn ≤ s.ps p (laneCount x.inSet - 1))) x.allot.cOut
      (t.port p).allot.cycle = some s.cycle ∧ (t.port p).tx.sentCycle = 0 ∧ (t.port p).tx.mgmtSent = 0 ∧ (t.port p).rx.recvLast = x.rx.recvCycle
        ∧ (t.port p).rx.recvCycle = 0 ∧ (t.port p).rx.backlog = none
        ∧ (cIn < x.allot.turnCycles → cOut < x.allot.turnCycles → (t.port p).allot.cIn = cIn ∧ (t.port p).allot.cOut = cOut) := by
  refine Gives.of_eq (exec_allotCycleStart active new) ?_
  intro x v cIn cOut
  have kept := (s.cycleRolled_timingKept p).counts p
  have begun : (((s.turnCounts p (s.turnView p)).rollCycle p).port p).counts =
      { allot := { turnCycles := x.allot.turnCycles, cycle := some s.cycle, cIn := cIn, cOut := cOut }, rx := { recvLast := x.rx.recvCycle } } := by
    rw [State.rollCycle, State.port_modPort_same, State.turnCounts, State.port_setPort_same]
    rfl
  rw [begun] at kept
  generalize s.cycleRolled p = u at kept ⊢
  have home : (u.turnRequests p v).TimingKept ((u.turnRequests p v).turnHome p v) := (State.TimingKept.refl _).turnHome
  generalize (u.turnRequests p v).turnHome p v = t at home ⊢
  have rolled : (t.port p).rolled = (u.port p).rolled := (home.rolled p).trans (u.turnRequests_rolled p v p)
  rw [Port.rolled, Port.rolled, kept] at rolled
  refine ⟨congrArg (·.allot.cycle) rolled, congrArg (·.tx.sentCycle) rolled, congrArg (·.tx.mgmtSent) rolled, congrArg (·.rx.recvLast) rolled,
    congrArg (·.rx.recvCycle) rolled, congrArg (·.rx.backlog) rolled, fun inb outb => ?_⟩
  have cIn' : (u.port p).allot.cIn = cIn := congrArg (·.allot.cIn) kept
  have cOut' : (u.port p).allot.cOut = cOut := congrArg (·.allot.cOut) kept
  have cycles : (u.port p).allot.turnCycles = x.allot.turnCycles := congrArg (·.allot.turnCycles) kept
  rw [State.turnRequests_none (by rw [cIn', cycles]; exact inb) (by rw [cOut', cycles]; exact outb)] at home
  have still := (home.counts p).trans kept
  exact ⟨congrArg (·.allot.cIn) still, congrArg (·.allot.cOut) still⟩

/-! ## Orphan windows and lost hosts (R113, R116, R332) -/

theorem orphanWindowExpiry_frees {p : Fin 12} {tid : Nat} {at' : Time} {s : State} (one : s.portTunnels p .orphan = [tid]) (own : (s.tunnel tid).port = p)
    (since : (s.tunnel tid).orphanAt = some at') (ended : at'.toNat + 100000000 * (s.port p).allot.orphanWin ≤ s.now.toNat) (may : s.fwMayCommit = true)
    (orphan : (s.tunnel tid).state = .orphan) (w : s.tunWf = true) :
    Gives (.orphanWindowExpiry p) s fun t => t.tunnel tid = { gen := (s.tunnel tid).gen + 1 } := by
  have window : s.windowOver tid = true := by
    simp only [State.windowOver, since, own]
    exact decide_eq_true ended
  have ran : exec (.orphanWindowExpiry p) s = .next (s.teardown tid 5) := by
    change execOrphanWindowExpiry p s = _
    simp only [execOrphanWindowExpiry, one, List.filter_cons_of_pos window, List.filter_nil, List.foldl_cons, List.foldl_nil]
  exact Gives.of_eq ran ((State.EntryHeld.refl tid s).teardown w (by rw [orphan]; exact TunState.noConfusion) may 5)

theorem orphanWindowExpiry_within {p : Fin 12} {s : State} (within : ∀ tid ∈ s.portTunnels p .orphan, s.windowOver tid = false) :
    exec (.orphanWindowExpiry p) s = .next s := by
  have none' : (s.portTunnels p .orphan).filter s.windowOver = [] := List.filter_eq_nil_iff.mpr fun tid m => by rw [within tid m]; exact Bool.false_ne_true
  change execOrphanWindowExpiry p s = _
  simp only [execOrphanWindowExpiry, none', List.foldl_nil]

theorem State.dpBinding_congr {s t : State} (ports : t.ports = s.ports) (tunnels : t.tunnels = s.tunnels) (tid : Nat) :
    t.dpBinding tid = s.dpBinding tid := by
  have tunnel : t.tunnel = s.tunnel := funext fun k => by rw [State.tunnel, State.tunnel, tunnels]
  have held (p : Nat) : t.dpTid p = s.dpTid p := by rw [State.dpTid, State.dpTid, tunnel, State.port_congr ports]
  rw [State.dpBinding, State.dpBinding, tunnel, held]

/-- R116, R332: the tunnels of a slice whose host was lost with port `h`. -/
def State.lostTunnels (s : State) (h : Fin 2) (sl : Fin 256) : List Nat :=
  keysOf s.tunnels fun x => decide (x.owner = .slice h sl) && decide (x.tornDown = some h.val) && decide (x.state ≠ .free)

theorem exec_hostLostTunnelExpiry {h : Fin 2} {sl : Fin 256} {s : State} (due : s.due (s.slice h sl).lostDue = true) :
    exec (.hostLostTunnelExpiry h sl) s = .next ((s.lostTunnels h sl).foldl
      (fun s tid => s.fwChange (s.teardownReq tid 5) (.close tid) fun s => s.closeOwned tid) (s.setSlice h sl { s.slice h sl with lostDue := none })) := by
  change execHostLostTunnelExpiry h sl s = _
  simp only [execHostLostTunnelExpiry, due, Bool.not_true, Bool.false_eq_true, if_false]
  rfl

theorem hostLostTunnelExpiry_gives {h : Fin 2} {sl : Fin 256} {s : State} (due : s.due (s.slice h sl).lostDue = true) :
    Gives (.hostLostTunnelExpiry h sl) s fun t =>
      (t.slice h sl).lostDue = none
        ∧ (∀ tid, s.lostTunnels h sl = [tid] → s.fwMayCommit = true → s.tunWf = true → s.dpBinding tid = false → (s.tunnel tid).state = .orphan →
            t.tunnel tid = { gen := (s.tunnel tid).gen + 1 })
        ∧ (s.lostTunnels h sl = [] → t = s.setSlice h sl { s.slice h sl with lostDue := none }) := by
  refine Gives.of_eq (exec_hostLostTunnelExpiry due) ⟨?_, fun tid one may w unbound orphan => ?_, fun none' => by rw [none', List.foldl_nil]⟩
  · rw [((State.TimingKept.refl _).foldl fun _ _ v => v.fwChange fun _ v => v.closeOwned).lost, State.slice_setSlice_self]
  · generalize marked : s.setSlice h sl { s.slice h sl with lostDue := none } = u
    have alike : s.CommitsAlike u := marked ▸ s.setSlice_commitsAlike ..
    have links : s.LinksKept u := marked ▸ .of_eq rfl rfl
    have ports : u.ports = s.ports := marked ▸ rfl
    let v := u.commit (u.teardownReq tid 5)
    have ran : u.fwChange (u.teardownReq tid 5) (.close tid) (fun s => s.closeOwned tid) = v.closeOwned tid := if_pos (alike.fwMayCommit.trans may)
    have tunnel (k : Nat) : v.tunnel k = s.tunnel k := by
      rw [← links.tunnel]
      exact State.LinksKept.tunnel (.of_eq (State.commit_ports ..) (State.commit_tunnels ..)) k
    have held : State.EntryHeld tid s v := ((State.EntryHeld.refl tid s).linksKept links).commit _
    have free : v.dpBinding tid = false :=
      (State.dpBinding_congr ((u.commit_ports _).trans ports) ((u.commit_tunnels _).trans links.tunnels) tid).trans unbound
    have closed : (v.closeTunnel tid).LinksKept (v.closeOwned tid) := by
      simp only [State.closeOwned, tunnel, orphan, free, decide_false, Bool.or_self, Bool.false_eq_true, if_false, reduceCtorEq]
      exact .ite (State.rootFollows_linksKept ..) (.refl _)
    rw [one, List.foldl_cons, List.foldl_nil, ran, closed.tunnel, held.closeTunnel_orphan w (by rw [tunnel, orphan])]

/-- Settles O49: each event has the outcome that its lemma above gives. -/
theorem tunnelTimers : Obligations.TunnelTimers := by
  unfold Obligations.TunnelTimers
  refine ⟨?again, ?restore, ?frees, ?rolls, ?rolled, ?ended, ?within, ?lost⟩
  case again => exact fun _ _ _ _ awaited due few => mgmtResendExpiry_again awaited due few
  case restore => exact fun _ _ _ _ awaited due many opens restore => mgmtResendExpiry_restore awaited due many opens restore
  case frees => exact fun _ _ _ _ awaited due many frees w => mgmtResendExpiry_frees awaited due many frees w
  case rolls => exact fun _ _ active new => allotCycleStart_rolls active new
  case rolled => exact fun _ _ now => if_pos (by rw [decide_eq_true now, Bool.or_true])
  case ended => exact fun _ _ _ _ one own since ended may orphan w => orphanWindowExpiry_frees one own since ended may orphan w
  case within => exact fun _ _ within => orphanWindowExpiry_within within
  case lost => exact fun _ _ _ due => hostLostTunnelExpiry_gives due

end Sys2Proof.Machine
end

section
/-! PROOFS. TUN_MODIFY, TUN_QUERY, TUN_ADOPT, TUN_ALLOT_CFG and TUN_DESTROY, whenever they may be carried out (R98, R105, R120, R270, R271). -/

set_option Elab.async false

namespace Sys2Proof.Machine

/-! ## Restores and openings leave what a modify sets (R115, R118) -/

/-- What a TUN_MODIFY sets at once, and the modify in progress. -/
def Tunnel.terms (t : Tunnel) : Tunnel := { rsvOut := t.rsvOut, wOut := t.wOut, persist := t.persist, modify := t.modify }

/-- Every tunnel keeps its outbound terms, its PERSIST and its modify. -/
def State.TermsKept (s t : State) : Prop := ∀ k, (t.tunnel k).terms = (s.tunnel k).terms

namespace State.TermsKept

theorem refl (s : State) : s.TermsKept s := fun _ => rfl

variable {s t : State} (h : s.TermsKept t)
include h

theorem linksKept {u : State} (g : t.LinksKept u) : s.TermsKept u := fun k => by rw [g.tunnel, h]

theorem setTunnel {tid : Nat} {v : Tunnel} (terms : v.terms = (t.tunnel tid).terms := by rfl) : s.TermsKept (t.setTunnel tid v) := by
  intro k
  rw [State.tunnel_setTunnel]
  split
  case isTrue own => rw [own, terms, h]
  case isFalse => exact h k

omit h in
theorem foldl {f : State → Nat → State} (hf : ∀ u x, s.TermsKept u → s.TermsKept (f u x)) (l : List Nat) :
    ∀ t : State, s.TermsKept t → s.TermsKept (l.foldl f t) := by
  induction l with
  | nil => exact fun _ h => h
  | cons x l ih => exact fun t h => ih (f t x) (hf t x h)

theorem restoreOne (tid : Nat) : s.TermsKept (t.restoreOne tid) := by
  simp only [State.restoreOne]
  split_ifs
  · exact h.setTunnel.linksKept (State.sendOpen_linksKept ..)
  · exact h
  · exact (h.linksKept (t.tunnelNotice_linksKept tid 0x03 .ok)).setTunnel

theorem planOne (tid : Nat) : s.TermsKept (t.planOne tid) := by
  simp only [State.planOne, State.planRefused]
  split_ifs
  · exact h.setTunnel.linksKept (State.sendOpen_linksKept ..)
  · exact h
  · exact h.setTunnel.linksKept (.of_eq ((State.alarmOccur_ports ..).trans (State.record_ports ..)) ((State.alarmOccur_tunnels ..).trans (State.record_tunnels ..)))

theorem retryTunnels (p : Nat) : s.TermsKept (t.retryTunnels p) := by
  simp only [State.retryTunnels]
  split_ifs
  · exact foldl (fun _ x g => g.planOne x) _ _ (foldl (fun _ x g => g.restoreOne x) _ _ h)
  · exact h

end State.TermsKept

/-! ## TUN_MODIFY (R105, R270, R271) -/

/-- R105: what a modify that begins leaves in its tunnel. -/
theorem State.startModify_sets (s : State) (tid : Nat) (n : Tunnel) (cmd : Option Cmd) :
    let t := (s.startModify tid n cmd).tunnel tid
    t.rsvOut = n.rsvOut ∧ t.wOut = n.wOut ∧ t.persist = n.persist ∧ t.modify.isSome = true := by
  unfold State.startModify
  extract_lets t inbound eff m u v left
  have set : (u.tunnel tid).terms = { rsvOut := n.rsvOut, wOut := n.wOut, persist := n.persist, modify := some m } := by
    rw [State.tunnel_setTunnel, if_pos rfl]
    rfl
  have asked : u.LinksKept v := .ite (State.request_linksKept ..) (.refl u)
  have terms := (((State.TermsKept.refl u).linksKept asked).retryTunnels t.port tid).trans set
  exact ⟨congrArg (·.rsvOut) terms, congrArg (·.wOut) terms, congrArg (·.persist) terms, congrArg (·.modify.isSome) terms⟩

theorem exec_tunModify_begins {c : Cmd} {s : State} (may : s.mayCarry infoTunModify c (checksTunModify c s) = true)
    (idle : (s.tunnel (le c.payload 0 2)).modify = none) :
    let tid := le c.payload 0 2
    let b := s.carried infoTunModify c (checksTunModify c s)
    exec (.tunModify c) s = .next (b.startModify tid ((b.tunnel tid).modified c.payload) (some c)) := by
  intro tid b
  have none' : (s.tunnel tid).modify.isSome = false := by rw [idle]; rfl
  change execTunModify c s = _
  unfold execTunModify
  extract_lets p tid' t k
  rw [if_neg (by rw [none']; exact Bool.false_ne_true), State.command_of_mayCarry may, State.carried_tunnel]

theorem exec_tunModify_waits {c : Cmd} {s : State} (busy : (s.tunnel (le c.payload 0 2)).modify.isSome = true)
    (opened : (s.tunnel (le c.payload 0 2)).state = .opened) (gen : (s.tunnel (le c.payload 0 2)).gen = BitVec.ofNat 8 (byteAt c.payload 2))
    (runs : s.waitsCtrl infoTunModify c = false) (passes : firstFailure infoTunModify c s { checksTunModify c s with refuse := none } = none) :
    exec (.tunModify c) s = .next ((s.startCmd c 0x0203).modTunnel (le c.payload 0 2) fun x => { x with queued := x.queued ++ [c] }) := by
  refine if_pos ?_
  simp only [busy, opened, gen, runs, passes, Bool.not_false, Option.isNone_none, decide_true, Bool.and_self]

/-! ## TUN_ADOPT, TUN_ALLOT_CFG and TUN_DESTROY -/

/-- R120: an entry written over leaves the rest of the state. -/
theorem State.setTunnel_gives (s : State) (tid : Nat) (v : Tunnel) :
    (s.setTunnel tid v).tunnel tid = v ∧ (∀ j, j ≠ tid → (s.setTunnel tid v).tunnel j = s.tunnel j)
      ∧ s.setTunnel tid v = { s with tunnels := (s.setTunnel tid v).tunnels } :=
  ⟨(State.tunnel_setTunnel ..).trans (if_pos rfl), fun _ other => (State.tunnel_setTunnel ..).trans (if_neg other), rfl⟩

theorem tunAdopt_gives {c : Cmd} {s : State} (may : s.mayCarry infoTunAdopt c (checksTunAdopt c s) = true) :
    let tid := le c.payload 0 2
    let b := s.carried infoTunAdopt c (checksTunAdopt c s)
    CompletesOk (exec (.tunAdopt c) s) infoTunAdopt c (fun _ => [(s.tunnel tid).gen]) fun u =>
      u.tunnel tid = { b.tunnel tid with owner := ownerNamed c.route (le c.payload 4 2), notifyQ := byteAt c.payload 3, notifyTag := c.tag }
        ∧ (∀ j, j ≠ tid → u.tunnel j = b.tunnel j) ∧ u = { b with tunnels := u.tunnels } := by
  intro tid b
  have run : b.isRunning c infoTunAdopt.opcode = true := s.carried_isRunning ..
  rw [State.carried_tunnel]
  exact completesOk_command may (completesOk_of_eq_ok ((State.isRunning_setTunnel ..).trans run) rfl (b.setTunnel_gives ..))

theorem tunAllotCfg_gives {c : Cmd} {s : State} (may : s.mayCarry infoTunAllotCfg c (checksTunAllotCfg c s) = true) :
    let p := c.payload
    let m := byteAt p 1
    let b := s.carried infoTunAllotCfg c (checksTunAllotCfg c s)
    let a := (b.port (byteAt p 0)).allot
    CompletesOk (exec (.tunAllotCfg c) s) infoTunAllotCfg c (fun _ => []) fun u =>
      let n := (u.port (byteAt p 0)).allot
      n.turnThresh = (if bitOf m 0 then le p 2 2 else a.turnThresh) ∧ n.turnCycles = (if bitOf m 1 then byteAt p 4 else a.turnCycles)
        ∧ n.holdCycles = (if bitOf m 2 then le p 6 2 else a.holdCycles) ∧ n.homeCycles = (if bitOf m 3 then le p 8 2 else a.homeCycles)
        ∧ n.orphanWin = (if bitOf m 4 then le p 10 2 else a.orphanWin) ∧ (u.port (byteAt p 0)) = { b.port (byteAt p 0) with allot := n }
        ∧ (∀ j, j ≠ byteAt p 0 → u.port j = b.port j) ∧ u = { b with ports := u.ports } := by
  intro p m b a
  have run : b.isRunning c infoTunAllotCfg.opcode = true := s.carried_isRunning ..
  have port : a = (s.port (byteAt p 0)).allot := congrArg Port.allot (State.carried_port ..)
  refine completesOk_command may (completesOk_of_eq_ok ((State.isRunning_modPort ..).trans run) rfl ?_)
  rw [port, State.port_modPort_same]
  exact ⟨rfl, rfl, rfl, rfl, rfl, rfl, fun _ other => (State.port_modPort ..).trans (if_neg other), rfl⟩

/-- R101: a destroy awaits the partner's answer, or the entry is FREE under the next generation. -/
theorem tunDestroy_gives {c : Cmd} {s : State} (may : s.mayCarry infoTunDestroy c (checksTunDestroy c s) = true) (w : s.tunWf = true) :
    let tid := le c.payload 0 2
    let b := s.carried infoTunDestroy c (checksTunDestroy c s)
    ∃ t, exec (.tunDestroy c) s = .next t
      ∧ ((t.tunnel tid).state = .closing ∧ (t.tunnel tid).gen = (b.tunnel tid).gen ∧ (t.tunnel tid).destroy = some c
        ∨ (t.tunnel tid).state = .free ∧ (t.tunnel tid).gen = (b.tunnel tid).gen + 1) := by
  intro tid b
  let asked := b.modTunnel tid fun x => { x with destroy := some c }
  have wf : asked.tunWf = true := by
    have kept : b.tunWf = true := by rw [State.tunWf, State.carried_tunnels]; exact w
    exact Tab.wf_set ({} : Tunnel) tid _ b.tunnels kept
  have own : asked.tunnel tid = { b.tunnel tid with destroy := some c } := (State.tunnel_modTunnel ..).trans (if_pos rfl)
  have closed := (State.EntryHeld.refl tid asked).closeTunnel wf
  rw [own] at closed
  refine ⟨_, congrArg Host.Outcome.next (State.command_of_mayCarry may _), ?_⟩
  have follows (p : Prop) [Decidable p] (q : Nat) : (asked.closeTunnel tid).LinksKept (if p then (asked.closeTunnel tid).rootFollows q else asked.closeTunnel tid) :=
    .ite (State.rootFollows_linksKept ..) (.refl _)
  rw [(follows _ _).tunnel]
  obtain freed | closing := closed
  · rw [freed]
    exact .inr ⟨rfl, rfl⟩
  · exact .inl closing

/-- Settles O11: each command has the outcome that its lemma above gives; a query changes nothing. -/
theorem tunnelCommandsComplete : Obligations.TunnelCommandsComplete := by
  unfold Obligations.TunnelCommandsComplete
  refine ⟨?modify, ?waits, ?query, ?adopt, ?allot, ?destroy⟩
  case modify => exact fun c s may idle => ⟨_, exec_tunModify_begins may idle, State.startModify_sets ..⟩
  case waits =>
    rintro c s _ rfl busy opened gen runs passes
    exact exec_tunModify_waits busy opened gen runs passes
  case query => exact fun c s may _ => completesOk_command may (completesOk_of_eq_ok (s.carried_isRunning ..) rfl rfl)
  case adopt => exact fun c s may _ => tunAdopt_gives may
  case allot => exact fun c s may _ => tunAllotCfg_gives may
  case destroy => exact fun c s may w => tunDestroy_gives may w

end Sys2Proof.Machine
end

section
/-! PROOFS. The display edge: HPD, link changes, segments, NOVIDEO and mode changes (R88, R89, R90, R345, R346, R347, R387). -/

set_option Elab.async false

namespace Sys2Proof.Machine

/-! ## The streams of a display input -/

theorem Dpi.stream_modStream (d : Dpi) {j k : Nat} (hj : j < 4) (hk : k < 4) (f : Stream → Stream) :
    (d.modStream k f).stream j = if j = k then f (d.stream k) else d.stream j := by
  interval_cases k <;> interval_cases j <;> rfl

theorem State.streamOf_modStream (s : State) (x y : Nat) (f : Stream → Stream) :
    (s.modStream x f).streamOf y = if y = x then f (s.streamOf x) else s.streamOf y := by
  have four : 0 < 4 := by decide
  rw [State.streamOf, State.modStream, State.dpi_modDpi, State.streamOf, State.streamOf]
  by_cases input : y / 4 = x / 4
  · have same : y % 4 = x % 4 ↔ y = x := by omega
    rw [if_pos input, Dpi.stream_modStream _ (Nat.mod_lt _ four) (Nat.mod_lt _ four), if_congr same rfl rfl, input]
  · have other : y ≠ x := fun e => input (congrArg (· / 4) e)
    rw [if_neg input, if_neg other]

theorem State.streamOf_modStream_same (s : State) (x : Nat) (f : Stream → Stream) : (s.modStream x f).streamOf x = f (s.streamOf x) :=
  (s.streamOf_modStream x x f).trans (if_pos rfl)

/-! ## HPD and the main link (R345, R346) -/

theorem dpiHpdPulseEnd_gives {n : Fin 8} {s : State} (due : s.due (s.dpi n).hpdDue = true) : Gives (.dpiHpdPulseEnd n) s fun t =>
    t.dpi n = { s.dpi n with hpdDue := none } ∧ (∀ j, j ≠ n.val → t.dpi j = s.dpi j) ∧ t = { s with edge := { s.edge with dpis := t.edge.dpis } } :=
  Gives.of_eq (if_pos due) ⟨(State.dpi_modDpi ..).trans (if_pos rfl), fun _ other => (State.dpi_modDpi ..).trans (if_neg other), rfl⟩

/-- R346: what a change of the main link leaves of an enabled input. -/
def Dpi.linkChanged (d : Dpi) (kind : Fin 5) (rate : Fin 6) (lanes : Fin 5) : Dpi :=
  match kind.val with
  | 0 => { d with connected := true }
  | 1 => { d.down with connected := false }
  | 2 => { d.down with connected := true }
  | 3 => { d with connected := true, trained := true, linkRate := rate.val, lanes := lanes.val }
  | _ => d.down

theorem Dpi.linkChanged_gives (d : Dpi) (kind : Fin 5) (rate : Fin 6) (lanes : Fin 5) :
    let n := d.linkChanged kind rate lanes
    n.connected = (if kind.val = 1 then false else if kind.val = 4 then d.connected else true)
      ∧ n.trained = (if kind.val = 0 then d.trained else decide (kind.val = 3))
      ∧ (kind.val = 3 → n.linkRate = rate ∧ n.lanes = lanes)
      ∧ (kind.val ∈ [1, 2, 4] → n.linkRate = 0 ∧ n.lanes = 0 ∧ ∀ k, (n.stream k).stopped = true) := by
  have stopped (k : Nat) : (d.down.stream k).stopped = true := by
    simp only [Dpi.stream]
    split <;> rfl
  fin_cases kind
  · exact ⟨rfl, rfl, nofun, fun down => absurd down (by decide)⟩
  · exact ⟨rfl, rfl, nofun, fun _ => ⟨rfl, rfl, stopped⟩⟩
  · exact ⟨rfl, rfl, nofun, fun _ => ⟨rfl, rfl, stopped⟩⟩
  · exact ⟨rfl, rfl, fun _ => ⟨rfl, rfl⟩, fun down => absurd down (by decide)⟩
  · exact ⟨rfl, rfl, nofun, fun _ => ⟨rfl, rfl, stopped⟩⟩

theorem exec_dpiLinkChange {n : Fin 8} {kind : Fin 5} {rate : Fin 6} {lanes : Fin 5} {s : State} (powered : s.domainOff 9 = false)
    (enabled : (s.dpi n).enabled = true) (high : (s.dpi n).hpdDue = none)
    (fits : kind.val = 3 → rate.val ≤ (s.dpi n).rate ∧ lanes.val ∈ [1, 2, 4]) :
    let t := (s.modDpi n fun _ => (s.dpi n).linkChanged kind rate lanes).event (0x1A0 + n)
    exec (.dpiLinkChange n kind rate lanes) s = .next (if decide (kind.val = 0) || decide (kind.val = 2) then t.wakeCfg 17 else t) := by
  have able : ¬ (decide (kind.val = 3) && (decide ((s.dpi n).rate < rate.val) || decide (lanes.val = 0) || decide (lanes.val = 3))) = true := by
    intro refused
    simp only [Bool.and_eq_true, Bool.or_eq_true, decide_eq_true_eq] at refused
    obtain ⟨trained, bad⟩ := refused
    obtain ⟨low, width⟩ := fits trained
    simp only [List.mem_cons, List.not_mem_nil, or_false] at width
    omega
  change execDpiLinkChange n kind rate lanes s = _
  unfold execDpiLinkChange
  extract_lets d woken m t t'
  rw [if_neg (by rw [enabled, high]; exact Bool.false_ne_true), if_neg (by rw [powered]; exact Bool.false_ne_true), if_neg able]
  rfl

theorem dpiLinkChange_gives {n : Fin 8} {kind : Fin 5} {rate : Fin 6} {lanes : Fin 5} {s : State} (powered : s.domainOff 9 = false)
    (enabled : (s.dpi n).enabled = true) (high : (s.dpi n).hpdDue = none)
    (fits : kind.val = 3 → rate.val ≤ (s.dpi n).rate ∧ lanes.val ∈ [1, 2, 4]) : Gives (.dpiLinkChange n kind rate lanes) s fun t =>
      (t.dpi n).connected = (if kind.val = 1 then false else if kind.val = 4 then (s.dpi n).connected else true)
        ∧ (t.dpi n).trained = (if kind.val = 0 then (s.dpi n).trained else decide (kind.val = 3))
        ∧ (kind.val = 3 → (t.dpi n).linkRate = rate ∧ (t.dpi n).lanes = lanes)
        ∧ (kind.val ∈ [1, 2, 4] → (t.dpi n).linkRate = 0 ∧ (t.dpi n).lanes = 0 ∧ ∀ k, ((t.dpi n).stream k).stopped = true)
        ∧ (∀ j, j ≠ n.val → t.dpi j = s.dpi j) ∧ t = { s with edge := { s.edge with dpis := t.edge.dpis }, cluster := t.cluster, power := t.power } := by
  refine Gives.of_eq (exec_dpiLinkChange powered enabled high fits) ?_
  generalize changed : s.modDpi n (fun _ => (s.dpi n).linkChanged kind rate lanes) = u
  generalize told : (if decide (kind.val = 0) || decide (kind.val = 2) then (u.event (0x1A0 + n)).wakeCfg 17 else u.event (0x1A0 + n)) = t
  have only : t = { u with cluster := t.cluster, power := t.power } := by
    rw [← told]
    split
    · exact State.eq_of_fields
    · exact State.eq_of_fields
  have dpi (j : Nat) : t.dpi j = if j = n.val then (s.dpi n).linkChanged kind rate lanes else s.dpi j := by
    rw [← State.dpi_modDpi s n j fun _ => (s.dpi n).linkChanged kind rate lanes, changed, only]
    rfl
  obtain ⟨connected, trained, up, down⟩ := (s.dpi n).linkChanged_gives kind rate lanes
  rw [dpi n, if_pos rfl]
  refine ⟨connected, trained, up, down, fun j other => (dpi j).trans (if_neg other), only.trans ?_⟩
  have edge : t.edge = u.edge := congrArg (·.edge) only
  rw [edge, ← changed]
  rfl

/-! ## Segments (R88, R89, R347) -/

/-- R88: the stream when segment `seg` of a frame has come: FRAME and what has been sent of it. -/
def Stream.begun (y : Stream) (frame : BitVec 8) : Stream :=
  if frame = y.frame then y else { y with frame := frame, sdps := 0, msa := false, vblank := false }

def Stream.received (y : Stream) (seg : Nat) (frame : BitVec 8) : Stream :=
  let b := y.begun frame
  { b with stopped := false, sdps := b.sdps + flag (decide (seg = 2)), msa := b.msa || decide (seg = 1), vblank := b.vblank || decide (seg = 3) }

/-- R88: the state when the segment has come. -/
def State.segmentCame (s : State) (x seg : Nat) (frame : BitVec 8) : State := s.modStream x fun _ => (s.streamOf x).received seg frame

theorem State.segmentCame_edge (s : State) (x seg : Nat) (frame : BitVec 8) : ∃ f, s.segmentCame x seg frame = s.modEdge f := by
  simp only [State.segmentCame, State.modStream, State.modDpi]
  exact ⟨_, rfl⟩

/-- Table 4-13: the cell payload of a segment, the MSA with its presentation time. -/
def segmentSent (seg flags line off : Nat) (frame : BitVec 8) (data : List Byte) (delay : Nat) : List Byte :=
  if seg = 1 then segment 1 0 0 0 frame (msaData data delay) else if seg = 3 then segment 3 0 0 0 frame [0] else segment seg flags line off frame data

theorem Stream.begun_noVideo (y : Stream) (frame : BitVec 8) : (y.begun frame).noVideo = y.noVideo := by
  rw [Stream.begun]
  split <;> rfl

theorem Stream.begun_unboundDrop (y : Stream) (frame : BitVec 8) : (y.begun frame).unboundDrop = y.unboundDrop := by
  rw [Stream.begun]
  split <;> rfl

theorem Stream.begun_sdpDrop (y : Stream) (frame : BitVec 8) : (y.begun frame).sdpDrop = y.sdpDrop := by
  rw [Stream.begun]
  split <;> rfl

/-- R89: the first of its kind in the frame: no MSA or VBLANK before it, and of the SDPs at most one. -/
theorem Stream.firstOf_iff (y : Stream) (seg : Nat) (frame : BitVec 8) : y.firstOf seg frame = true ↔
    ¬ ((decide (seg = 1) && (y.begun frame).msa || decide (seg = 3) && (y.begun frame).vblank) = true)
      ∧ ¬ ((decide (seg = 2) && decide (2 ≤ (y.begun frame).sdps)) = true) := by
  by_cases same : frame = y.frame
  · simp [Stream.firstOf, Stream.begun, same, imp_iff_not_or]
  · simp [Stream.firstOf, Stream.begun, same]

/-- R347: what a counted segment leaves: `f` of the stream with the segment, and the rest of the state. -/
theorem State.segmentCounted_gives (s : State) (x seg : Nat) (frame : BitVec 8) (f : Stream → Stream) :
    let t := (s.segmentCame x seg frame).modStream x f
    t.streamOf x = f ((s.streamOf x).received seg frame) ∧ t = { s with edge := { s.edge with dpis := t.edge.dpis } } := by
  refine ⟨?_, rfl⟩
  rw [State.streamOf_modStream_same, State.segmentCame, State.streamOf_modStream_same]

section
variable {n : Fin 8} {k : Fin 4} {seg flags line off : Nat} {frame : BitVec 8} {data : List Byte} {s : State}
  (ok : segOk seg flags line data = true)
include ok

theorem exec_dispSegment_unbound (free : s.streamTunnel (4 * n.val + k.val) = none) :
    exec (.dispSegment n k seg flags line off frame data) s = .next ((s.segmentCame (4 * n.val + k.val) seg frame).modStream (4 * n.val + k.val)
      fun y => { y with unboundDrop := y.unboundDrop + 1 }) := by
  change execDispSegment n k seg flags line off frame data s = _
  unfold execDispSegment
  extract_lets x y y' z t
  have came : t.streamTunnel x = none := free
  rw [if_neg (by rw [ok]; exact Bool.false_ne_true), came]
  rfl

/-- R89, R90, R202, R347: what becomes of a segment of a stream that a tunnel names. -/
theorem exec_dispSegment_bound {tid : Nat} (bound : s.streamTunnel (4 * n.val + k.val) = some tid) :
    let x := 4 * n.val + k.val
    let b := (s.streamOf x).begun frame
    let t := s.segmentCame x seg frame
    exec (.dispSegment n k seg flags line off frame data) s = .next (
      if decide (seg = 1) && b.msa || decide (seg = 3) && b.vblank then t
      else if decide (seg = 2) && decide (2 ≤ b.sdps) then t.modStream x fun y => { y with sdpDrop := y.sdpDrop + 1 }
      else if s.hpdLow tid then t.modStream x fun y => { y with hpdDrop := y.hpdDrop + 1 }
      else if decide ((s.tunnel tid).state = .opening) || decide ((s.tunnel tid).state = .closing) then t.modStream x fun y => { y with unboundDrop := y.unboundDrop + 1 }
      else if b.noVideo then t
      else t.clientCell tid true false (segmentSent seg flags line off frame data (s.tunnel tid).presDelay)) := by
  change execDispSegment n k seg flags line off frame data s = _
  unfold execDispSegment
  extract_lets x y y' z t
  have came : t.streamTunnel x = some tid := bound
  rw [if_neg (by rw [ok]; exact Bool.false_ne_true), came]
  simp only [segmentSent, apply_ite (f := Host.Outcome.next), apply_ite (f := State.clientCell _ tid true false)]
  rfl

theorem dispSegment_unbound (free : s.streamTunnel (4 * n.val + k.val) = none) : Gives (.dispSegment n k seg flags line off frame data) s fun t =>
    (t.streamOf (4 * n.val + k.val)).unboundDrop = (s.streamOf (4 * n.val + k.val)).unboundDrop + 1 ∧ (t.streamOf (4 * n.val + k.val)).stopped = false
      ∧ t = { s with edge := { s.edge with dpis := t.edge.dpis } } := by
  obtain ⟨own, rest⟩ := State.segmentCounted_gives s (4 * n.val + k.val) seg frame fun y : Stream => { y with unboundDrop := y.unboundDrop + 1 }
  refine Gives.of_eq (exec_dispSegment_unbound ok free) ⟨?_, ?_, rest⟩
  · rw [own]
    exact congrArg (· + 1) (Stream.begun_unboundDrop ..)
  · rw [own]
    rfl

section
variable {tid : Nat} (bound : s.streamTunnel (4 * n.val + k.val) = some tid)
include bound

theorem dispSegment_moving (first : (s.streamOf (4 * n.val + k.val)).firstOf seg frame = true) (high : s.hpdLow tid = false)
    (moving : (s.tunnel tid).state = .opening ∨ (s.tunnel tid).state = .closing) : Gives (.dispSegment n k seg flags line off frame data) s fun t =>
      (t.streamOf (4 * n.val + k.val)).unboundDrop = (s.streamOf (4 * n.val + k.val)).unboundDrop + 1 ∧ t = { s with edge := { s.edge with dpis := t.edge.dpis } } := by
  obtain ⟨only, few⟩ := (Stream.firstOf_iff ..).mp first
  have counted : (decide ((s.tunnel tid).state = .opening) || decide ((s.tunnel tid).state = .closing)) = true := by
    rwa [Bool.or_eq_true, decide_eq_true_iff, decide_eq_true_iff]
  have ran := exec_dispSegment_bound (off := off) (frame := frame) ok bound
  dsimp only at ran
  rw [if_neg only, if_neg few, high, if_neg Bool.false_ne_true, if_pos counted] at ran
  obtain ⟨own, rest⟩ := State.segmentCounted_gives s (4 * n.val + k.val) seg frame fun y : Stream => { y with unboundDrop := y.unboundDrop + 1 }
  refine Gives.of_eq ran ⟨?_, rest⟩
  rw [own]
  exact congrArg (· + 1) (Stream.begun_unboundDrop ..)

theorem dispSegment_repeated (notSdp : seg ≠ 2) (again : (s.streamOf (4 * n.val + k.val)).firstOf seg frame = false) :
    Gives (.dispSegment n k seg flags line off frame data) s fun t => t = { s with edge := { s.edge with dpis := t.edge.dpis } }
      ∧ (t.streamOf (4 * n.val + k.val)).unboundDrop = (s.streamOf (4 * n.val + k.val)).unboundDrop
      ∧ (t.streamOf (4 * n.val + k.val)).sdpDrop = (s.streamOf (4 * n.val + k.val)).sdpDrop := by
  have ran := exec_dispSegment_bound (off := off) (frame := frame) ok bound
  dsimp only at ran
  have twice : (decide (seg = 1) && ((s.streamOf (4 * n.val + k.val)).begun frame).msa
      || decide (seg = 3) && ((s.streamOf (4 * n.val + k.val)).begun frame).vblank) = true := by
    by_contra once
    refine absurd ((Stream.firstOf_iff ..).mpr ⟨once, ?_⟩) (by rw [again]; exact Bool.false_ne_true)
    rw [decide_eq_false notSdp]
    exact Bool.false_ne_true
  rw [if_pos twice] at ran
  refine Gives.of_eq ran ⟨rfl, ?_, ?_⟩
  · rw [State.segmentCame, State.streamOf_modStream_same]
    exact Stream.begun_unboundDrop ..
  · rw [State.segmentCame, State.streamOf_modStream_same]
    exact Stream.begun_sdpDrop ..

end

end

theorem dispSegment_thirdSdp {n : Fin 8} {k : Fin 4} {flags line off : Nat} {frame : BitVec 8} {data : List Byte} {tid : Nat} {s : State}
    (ok : segOk 2 flags line data = true) (bound : s.streamTunnel (4 * n.val + k.val) = some tid) (same : frame = (s.streamOf (4 * n.val + k.val)).frame)
    (many : 2 ≤ (s.streamOf (4 * n.val + k.val)).sdps) : Gives (.dispSegment n k 2 flags line off frame data) s fun t =>
      (t.streamOf (4 * n.val + k.val)).sdpDrop = (s.streamOf (4 * n.val + k.val)).sdpDrop + 1 ∧ t = { s with edge := { s.edge with dpis := t.edge.dpis } } := by
  have begun : (s.streamOf (4 * n.val + k.val)).begun frame = s.streamOf (4 * n.val + k.val) := if_pos same
  have ran := exec_dispSegment_bound (off := off) (frame := frame) ok bound
  dsimp only at ran
  rw [if_neg (by exact Bool.false_ne_true), if_pos (by rw [begun, decide_eq_true many]; rfl)] at ran
  obtain ⟨own, rest⟩ := State.segmentCounted_gives s (4 * n.val + k.val) 2 frame fun y => { y with sdpDrop := y.sdpDrop + 1 }
  refine Gives.of_eq ran ⟨?_, rest⟩
  rw [own]
  exact congrArg (· + 1) (Stream.begun_sdpDrop ..)

/-! ## A cell of an open DISP tunnel (R121, R125) -/

theorem padTo_of_length {n : Nat} {p : List Byte} (h : p.length = n) : padTo n p = p := by
  subst h
  exact List.ext_getElem (Sys2Proof.Tests.padTo_length ..) fun i _ hi => by simp [padTo, hi]

theorem padTo_segment (seg flags line off : Nat) (frame : BitVec 8) (data : List Byte) :
    padTo 120 (segment seg flags line off frame data) = segment seg flags line off frame data :=
  padTo_of_length (Sys2Proof.Tests.padTo_length ..)

/-- Taking a cell's space changes the use of the pools alone. -/
theorem State.takeSpace_places {s t : State} {cls : Nat} (h : s.takeSpace cls = some t) (a q : Nat) :
    t.egq a q = s.egq a q ∧ t.marl.writeBuf = s.marl.writeBuf ∧ t.tunnels = s.tunnels ∧ t.placeBank (s.egq a q).recent = s.placeBank (s.egq a q).recent := by
  simp only [State.takeSpace] at h
  split_ifs at h
  all_goals
    cases h
    exact ⟨rfl, rfl, rfl, rfl⟩

/-- R121: whether a cell has room is not for the edge to say. -/
theorem State.roomFor_modEdge (s : State) (f : Edge → Edge) (cls a q : Nat) : (s.modEdge f).roomFor cls a q = s.roomFor cls a q := by
  have space : ((s.modEdge f).takeSpace cls).isSome = (s.takeSpace cls).isSome := by
    simp only [State.takeSpace, apply_ite Option.isSome, Option.isSome_some]
    rfl
  rw [State.roomFor, State.roomFor, space]
  rfl

theorem State.admitLossy_cellIn {s : State} {a q : Nat} {c : Cell} (room : s.roomFor c.cls a q = true) (flow : Nat) :
    CellIn s (s.admitLossy a q flow c) a q flow fun d => d.bl = c.bl ∧ d.cls = c.cls ∧ d.gen = c.gen ∧ d.poison = c.poison ∧ d.payload = c.payload := by
  simp only [State.roomFor, Bool.and_eq_true, decide_eq_true_eq, List.isEmpty_iff] at room
  obtain ⟨⟨⟨empty, below⟩, space⟩, bank⟩ := room
  obtain ⟨t, took⟩ := Option.isSome_iff_exists.mp space
  obtain ⟨egq, writeBuf, tunnels, place⟩ := State.takeSpace_places took a q
  obtain ⟨b, wrote⟩ := State.enqueueCell_of_room (writeBuf.trans empty) (by rw [egq, place]; exact bank) flow c
  have ran : s.admitLossy a q flow c = t.writeCell a q flow b (c.arrived flow t.now) := by
    simp only [State.admitLossy, if_neg (Nat.not_le.mpr below), took, wrote]
  obtain ⟨d, last, rfl, enq, kept⟩ := t.writeCell_cellIn a q flow b (c.arrived flow t.now)
  rw [egq] at last enq
  rw [ran]
  exact ⟨_, last, ⟨rfl, rfl, rfl, rfl, rfl⟩, enq, kept.trans tunnels⟩

/-- R121: a segment of an open DISP tunnel enters the DISP queue of its port. -/
theorem State.clientCell_cellIn {s : State} {tid q : Nat} (opened : (s.tunnel tid).state = .opened) (disp : (s.tunnel tid).cls = 0)
    (queue : queueOf (agentPort (s.tunnel tid).port) 0 (s.tunnel tid).periodic = some q)
    (room : s.roomFor 0 (agentPort (s.tunnel tid).port) q = true) (payload : List Byte) :
    CellIn s (s.clientCell tid true false payload) (agentPort (s.tunnel tid).port) q tid fun c =>
      c.bl = true ∧ c.cls = 0 ∧ c.gen = (s.tunnel tid).gen ∧ c.poison = false ∧ c.payload = padTo 120 payload := by
  have client : (s.tunnel tid).client = agentDisp := by
    rw [Tunnel.client, disp]
    rfl
  unfold State.clientCell
  extract_lets t c
  have cls : c.cls = 0 := disp
  have live : t.state = .opened := opened
  have lossy : t.client = agentDisp := client
  rw [disp, queue]
  simp only [live, lossy, decide_true, Bool.true_or, if_true, reduceCtorEq, if_false]
  rw [← cls] at room
  obtain ⟨d, last, ⟨bl, cls', gen, poison, sent⟩, enq, tunnels⟩ := State.admitLossy_cellIn room tid
  exact ⟨d, last, ⟨bl, cls'.trans cls, gen, poison, sent⟩, enq, tunnels⟩

theorem dispSegment_sends {n : Fin 8} {k : Fin 4} {seg flags line off : Nat} {frame : BitVec 8} {data : List Byte} {tid q : Nat} {s : State}
    (ok : segOk seg flags line data = true) (bound : s.streamTunnel (4 * n.val + k.val) = some tid)
    (first : (s.streamOf (4 * n.val + k.val)).firstOf seg frame = true) (high : s.hpdLow tid = false) (opened : (s.tunnel tid).state = .opened)
    (disp : (s.tunnel tid).cls = 0) (video : (s.streamOf (4 * n.val + k.val)).noVideo = false)
    (queue : queueOf (agentPort (s.tunnel tid).port) 0 (s.tunnel tid).periodic = some q) (room : s.roomFor 0 (agentPort (s.tunnel tid).port) q = true) :
    Gives (.dispSegment n k seg flags line off frame data) s fun t =>
      CellIn s t (agentPort (s.tunnel tid).port) q tid fun c => c.bl = true ∧ c.cls = 0 ∧ c.gen = (s.tunnel tid).gen ∧ c.poison = false
        ∧ c.payload = segmentSent seg flags line off frame data (s.tunnel tid).presDelay := by
  obtain ⟨only, few⟩ := (Stream.firstOf_iff ..).mp first
  have ran := exec_dispSegment_bound (off := off) (frame := frame) ok bound
  dsimp only at ran
  rw [if_neg only, if_neg few, high, if_neg Bool.false_ne_true, if_neg (by rw [opened]; decide), Stream.begun_noVideo, video,
    if_neg Bool.false_ne_true] at ran
  have padded : padTo 120 (segmentSent seg flags line off frame data (s.tunnel tid).presDelay)
      = segmentSent seg flags line off frame data (s.tunnel tid).presDelay := by
    rw [segmentSent]
    split_ifs <;> exact padTo_segment ..
  obtain ⟨f, came⟩ := s.segmentCame_edge (4 * n.val + k.val) seg frame
  rw [came] at ran
  have sent := State.clientCell_cellIn (s := s.modEdge f) opened disp queue ((s.roomFor_modEdge ..).trans room) (segmentSent seg flags line off frame data (s.tunnel tid).presDelay)
  rw [padded] at sent
  exact Gives.of_eq ran sent

theorem novideoPeriod_sends {n : Fin 8} {k : Fin 4} {tid q : Nat} {s : State} (bound : s.streamTunnel (4 * n.val + k.val) = some tid)
    (high : s.hpdLow tid = false) (opened : (s.tunnel tid).state = .opened) (disp : (s.tunnel tid).cls = 0)
    (dark : (s.streamOf (4 * n.val + k.val)).stopped = true ∨ (s.streamOf (4 * n.val + k.val)).noVideo = true)
    (queue : queueOf (agentPort (s.tunnel tid).port) 0 (s.tunnel tid).periodic = some q) (room : s.roomFor 0 (agentPort (s.tunnel tid).port) q = true) :
    Gives (.novideoPeriod n k) s fun t =>
      CellIn s t (agentPort (s.tunnel tid).port) q tid fun c => c.payload = segment 4 0 0 0 (s.streamOf (4 * n.val + k.val)).frame [0] ∧ c.bl = true := by
  have sends : ((s.streamOf (4 * n.val + k.val)).stopped || (s.streamOf (4 * n.val + k.val)).noVideo) = true := by rwa [Bool.or_eq_true]
  have ran : exec (.novideoPeriod n k) s = .next (s.clientCell tid true false (segment 4 0 0 0 (s.streamOf (4 * n.val + k.val)).frame [0])) := by
    change execNovideoPeriod n k s = _
    simp only [execNovideoPeriod, bound, sends, high, Bool.not_false, Bool.and_self, if_true]
  obtain ⟨c, last, ⟨bl, -, -, -, payload⟩, enq, tunnels⟩ :=
    State.clientCell_cellIn opened disp queue room (segment 4 0 0 0 (s.streamOf (4 * n.val + k.val)).frame [0])
  exact Gives.of_eq ran ⟨c, last, ⟨payload.trans (padTo_segment ..), bl⟩, enq, tunnels⟩

/-! ## Mode changes (R90, R203) -/

/-- The stream but for NOVIDEO. -/
def Stream.source (y : Stream) : Stream := { y with noVideo := false }

/-- What makes a tunnel the binding of a port (R199). -/
def Tunnel.place (t : Tunnel) : Tunnel := { port := t.port, state := t.state, cls := t.cls, tun := t.tun }

/-- The bindings are as they were, and so is every stream but for NOVIDEO. -/
structure State.SourcesKept (s t : State) : Prop where
  ports : t.ports = s.ports
  place : ∀ k, (t.tunnel k).place = (s.tunnel k).place
  source : ∀ x, (t.streamOf x).source = (s.streamOf x).source

namespace State.SourcesKept

theorem refl (s : State) : s.SourcesKept s := ⟨rfl, fun _ => rfl, fun _ => rfl⟩

variable {s t : State} (h : s.SourcesKept t)
include h

theorem of_eq {u : State} (ports : u.ports = t.ports := by simp) (tunnels : u.tunnels = t.tunnels := by simp) (edge : u.edge = t.edge := by simp) :
    s.SourcesKept u where
  ports := ports.trans h.ports
  place k := by rw [State.tunnel, tunnels]; exact h.place k
  source x := by rw [State.streamOf, State.dpi, edge]; exact h.source x

theorem modStream {x : Nat} {f : Stream → Stream} (source : ∀ y, (f y).source = y.source := by intro; rfl) : s.SourcesKept (t.modStream x f) where
  ports := h.ports
  place := h.place
  source y := by
    rw [State.streamOf_modStream]
    split
    case isTrue own => rw [source, own, h.source]
    case isFalse => exact h.source y

theorem setTunnel {tid : Nat} {v : Tunnel} (place : v.place = (t.tunnel tid).place := by rfl) : s.SourcesKept (t.setTunnel tid v) where
  ports := h.ports
  place k := by
    rw [State.tunnel_setTunnel]
    split
    case isTrue own => rw [own, place, h.place]
    case isFalse => exact h.place k
  source := h.source

theorem dispRaised {tid flits : Nat} : s.SourcesKept (t.dispRaised tid flits) := h.setTunnel.modStream

/-- R90: a raise, made, refused or put off, changes NOVIDEO and the reservation alone. -/
theorem dispRaise {tid flits : Nat} : s.SourcesKept (t.dispRaise tid flits) := by
  unfold State.dispRaise
  extract_lets x more binding dsc refused n u
  have marked : s.SourcesKept u := h.setTunnel
  split_ifs
  · exact h.modStream
  · have dark : s.SourcesKept (t.modStream x.stream fun y => { y with noVideo := true }) := h.modStream
    have told := dark.of_eq (u := (t.modStream x.stream fun y => { y with noVideo := true }).event 0x1A8)
    simp only [State.dpIdle]
    split
    · exact told.of_eq
    · exact told
  · simp only [State.fwChange]
    split_ifs
    · exact (marked.of_eq (u := u.commit _)).dispRaised
    · exact marked
    · exact marked.of_eq

theorem dpBinding (tid : Nat) : t.dpBinding tid = s.dpBinding tid := by
  have port : (t.tunnel tid).port = (s.tunnel tid).port := congrArg (·.port) (h.place tid)
  have binds (p k : Nat) : (decide ((t.tunnel k).port = p) && decide ((t.tunnel k).state ≠ .free) && decide ((t.tunnel k).cls = 0)
        && decide ((t.tunnel k).tun = 1))
      = (decide ((s.tunnel k).port = p) && decide ((s.tunnel k).state ≠ .free) && decide ((s.tunnel k).cls = 0) && decide ((s.tunnel k).tun = 1)) :=
    (congrArg (fun v : Tunnel => decide (v.port = p) && decide (v.state ≠ .free) && decide (v.cls = 0) && decide (v.tun = 1)) (h.place k) :)
  have held (p : Nat) : t.dpTid p = s.dpTid p := by
    rw [State.dpTid, State.dpTid, State.port_congr h.ports]
    exact congrArg (fun f => Option.filter f (s.port p).pd.dp.tid) (funext (binds p))
  rw [State.dpBinding, State.dpBinding, port, held]

end State.SourcesKept

/-- R90: the new mode of a stream, and the flits it needs. -/
def State.modeChanged (s : State) (x : Nat) (mode : DispMode) : State :=
  s.modStream x fun y => { y with flits := dispFlits mode, mode := mode, stopped := false }

theorem State.streamOf_modeChanged (s : State) (x : Nat) (mode : DispMode) :
    (s.modeChanged x mode).streamOf x = { s.streamOf x with flits := dispFlits mode, mode := mode, stopped := false } := s.streamOf_modStream_same ..

section
variable {n : Fin 8} {k : Fin 4} {mode : DispMode} {s : State}

theorem dispModeChange_free (free : s.streamTunnel (4 * n.val + k.val) = none) : Gives (.dispModeChange n k mode) s fun t =>
    t.streamOf (4 * n.val + k.val) = { s.streamOf (4 * n.val + k.val) with flits := dispFlits mode, mode := mode, stopped := false }
      ∧ t = { s with edge := { s.edge with dpis := t.edge.dpis } } := by
  have ran : exec (.dispModeChange n k mode) s = .next (s.modeChanged (4 * n.val + k.val) mode) := by
    change execDispModeChange n k mode s = _
    unfold execDispModeChange
    extract_lets x f u
    have none' : u.streamTunnel x = none := free
    rw [none']
    rfl
  exact Gives.of_eq ran ⟨s.streamOf_modeChanged .., rfl⟩

variable {tid : Nat} (bound : s.streamTunnel (4 * n.val + k.val) = some tid)
include bound

theorem exec_dispModeChange_bound :
    let t := (s.modeChanged (4 * n.val + k.val) mode).dispRaise tid (dispFlits mode)
    exec (.dispModeChange n k mode) s = .next (if s.dpBinding tid && !(t.streamOf (4 * n.val + k.val)).noVideo then t.dpRefit (t.tunnel tid).port else t) := by
  intro t
  change execDispModeChange n k mode s = _
  unfold execDispModeChange
  extract_lets x f u
  have some' : u.streamTunnel x = some tid := bound
  have binding : t.dpBinding tid = s.dpBinding tid := (State.SourcesKept.refl u).dispRaise.dpBinding tid
  rw [some', ← binding]
  exact (apply_ite Host.Outcome.next ..).symm

theorem dispModeChange_plain (plain : s.dpBinding tid = false) : Gives (.dispModeChange n k mode) s fun t =>
    (t.streamOf (4 * n.val + k.val)).flits = dispFlits mode ∧ (t.streamOf (4 * n.val + k.val)).mode = mode
      ∧ (t.streamOf (4 * n.val + k.val)).stopped = false := by
  have ran := exec_dispModeChange_bound (mode := mode) bound
  dsimp only at ran
  rw [plain, Bool.false_and, if_neg Bool.false_ne_true] at ran
  have source := (State.SourcesKept.refl (s.modeChanged (4 * n.val + k.val) mode)).dispRaise (tid := tid) (flits := dispFlits mode) |>.source (4 * n.val + k.val)
  rw [State.streamOf_modeChanged] at source
  exact Gives.of_eq ran ⟨congrArg (·.flits) source, congrArg (·.mode) source, congrArg (·.stopped) source⟩

/-- R203: the mode of a binding whose reservation and rate fit it is taken, and the video goes on. -/
theorem dispModeChange_fits {r : Nat} (binding : s.dpBinding tid = true) (reserved : dispFlits mode ≤ (s.tunnel tid).rsvOut)
    (rate : (s.port (s.tunnel tid).port).pd.dp.rate = some r) (source : (s.port (s.tunnel tid).port).pd.dp.source = some (4 * n.val + k.val))
    (dsc : (s.port (s.tunnel tid).port).pd.dpDscOk mode = true) (own : (s.tunnel tid).stream = 4 * n.val + k.val)
    (fits : dpFits mode (s.port (s.tunnel tid).port).pd.dp.lanes r = true) : Gives (.dispModeChange n k mode) s fun t =>
      t.streamOf (4 * n.val + k.val) = { s.streamOf (4 * n.val + k.val) with flits := dispFlits mode, mode := mode, stopped := false, noVideo := false }
        ∧ t.tunnel tid = { s.tunnel tid with state := .opened } ∧ t.ports = s.ports := by
  have ran := exec_dispModeChange_bound (mode := mode) bound
  dsimp only at ran
  have changed := s.streamOf_modeChanged (4 * n.val + k.val) mode
  have raised : (s.modeChanged (4 * n.val + k.val) mode).dispRaise tid (dispFlits mode)
      = (s.modeChanged (4 * n.val + k.val) mode).modStream (4 * n.val + k.val) fun x => { x with noVideo := false } := by
    unfold State.dispRaise
    extract_lets x more binding' dsc' refused m u
    have stream : x.stream = 4 * n.val + k.val := own
    have decoded : dsc' = false := by
      have ok : ((s.modeChanged (4 * n.val + k.val) mode).port x.port).pd.dpDscOk mode = true := dsc
      simp only [dsc', stream, changed, ok, Bool.not_true, Bool.and_false]
    rw [if_pos (by rw [decoded, decide_eq_true (show dispFlits mode ≤ x.rsvOut from reserved)]; rfl), stream]
  rw [raised] at ran
  generalize shown : ((s.modeChanged (4 * n.val + k.val) mode).modStream (4 * n.val + k.val) fun x => { x with noVideo := false }) = u at ran
  have stream : u.streamOf (4 * n.val + k.val)
      = { s.streamOf (4 * n.val + k.val) with flits := dispFlits mode, mode := mode, stopped := false, noVideo := false } := by
    rw [← shown, State.streamOf_modStream_same, changed]
  have ports : u.ports = s.ports := shown ▸ rfl
  have tunnels : u.tunnels = s.tunnels := shown ▸ rfl
  have tunnel : u.tunnel tid = s.tunnel tid := by rw [State.tunnel, State.tunnel, tunnels]
  have port : u.port = s.port := funext (State.port_congr ports)
  have held : u.dpTid (s.tunnel tid).port = some tid := by
    have held' := State.dpBinding_congr ports tunnels tid
    rw [binding, State.dpBinding, decide_eq_true_iff, tunnel] at held'
    exact held'
  have refit : u.dpRefit (s.tunnel tid).port = u.modTunnel tid fun t => { t with state := .opened } := by
    have shows : u.dpMode (s.tunnel tid).port = mode := by simp only [State.dpMode, port, source, stream]
    simp only [State.dpRefit, port, rate, shows, fits, if_true, held]
  have video : (u.streamOf (4 * n.val + k.val)).noVideo = false := by rw [stream]
  rw [binding, video, tunnel, refit, if_pos (by rfl)] at ran
  exact Gives.of_eq ran ⟨stream, by rw [State.tunnel_modTunnel, if_pos rfl, tunnel], ports⟩

end

/-- Settles O37: each event has the outcome that its lemma above gives. -/
theorem displayEvents : Obligations.DisplayEvents := by
  unfold Obligations.DisplayEvents
  refine ⟨?pulse, ?link, ?unbound, ?moving, ?sdp, ?sent, ?again, ?novideo, ?free, ?plain, ?fits⟩
  case pulse => exact fun _ _ due => dpiHpdPulseEnd_gives due
  case link => exact fun _ _ _ _ _ powered enabled high fits => dpiLinkChange_gives powered enabled high fits
  case unbound => exact fun _ _ _ _ _ _ _ _ _ ok free => dispSegment_unbound ok free
  case moving => exact fun _ _ _ _ _ _ _ _ _ _ ok bound first high moving => dispSegment_moving ok bound first high moving
  case sdp => exact fun _ _ _ _ _ _ _ _ _ ok bound same many => dispSegment_thirdSdp ok bound same many
  case sent =>
    exact fun _ _ _ _ _ _ _ _ _ _ _ ok bound first high opened disp video queue room => dispSegment_sends ok bound first high opened disp video queue room
  case again => exact fun _ _ _ _ _ _ _ _ _ _ ok bound notSdp again => dispSegment_repeated ok bound notSdp again
  case novideo => exact fun _ _ _ _ _ bound high opened disp dark queue room => novideoPeriod_sends bound high opened disp dark queue room
  case free => exact fun _ _ _ _ free => dispModeChange_free free
  case plain => exact fun _ _ _ _ _ bound plain => dispModeChange_plain bound plain
  case fits =>
    exact fun _ _ _ _ _ _ bound binding reserved rate source dsc own fits => dispModeChange_fits bound binding reserved rate source dsc own fits

end Sys2Proof.Machine
end

section
/-! PROOFS. What the checks have found of a command that may be carried out (R19, R263). -/

namespace Sys2Proof.Machine

/-- R263 step 1: in a payload without a bad field, a field that begins inside it holds a value it may hold. -/
theorem Field.ok_of_firstBad {fs : List Field} {p : List Byte} {f : Field} (good : firstBad fs p = none) (inside : f.off < p.length)
    (first : fs.find? (·.covers f.off) = some f) : f.ok (le p f.off f.len) = true := by
  rw [firstBad, List.head?_eq_none_iff, List.filter_eq_nil_iff] at good
  have here := good f.off (List.mem_range.mpr inside)
  simpa only [first, decide_true, Bool.true_and, Bool.not_eq_true', Bool.not_eq_false] using here

theorem rangeField_ok {fs : List Field} {p : List Byte} {off len lo hi : Nat} (good : firstBad fs p = none) (inside : off < p.length)
    (first : fs.find? (·.covers off) = some (rangeField off len lo hi)) : lo ≤ le p off len ∧ le p off len ≤ hi := by
  have ok := Field.ok_of_firstBad (f := rangeField off len lo hi) good inside first
  simpa only [rangeField, Bool.and_eq_true, decide_eq_true_eq] using ok

theorem firstSome_eq_none {α : Type} {l : List (Option α)} (none' : firstSome l = none) : ∀ x ∈ l, x = none := by
  induction l with
  | nil => exact nofun
  | cons x l ih =>
    cases x with
    | none => exact List.forall_mem_cons.mpr ⟨rfl, ih none'⟩
    | some _ => exact nomatch none'

theorem failIf_eq_none {b : Bool} {st : Status} {d : Nat} : failIf b st d = none ↔ b = false := by
  cases b <;> simp [failIf]

section
variable {s : State} {i : CmdInfo} {c : Cmd} {k : Checks} (may : s.mayCarry i c k = true)
include may

theorem State.firstFailure_of_mayCarry : firstFailure i c s k = none := by
  simp only [State.mayCarry, Bool.and_eq_true, Option.isNone_iff_eq_none] at may
  obtain ⟨⟨-, passes⟩, -⟩ := may
  exact passes

/-- R263 steps 1, 4 and 5: the payload is whole, no field of it is bad, and nothing refuses the command. -/
theorem State.mayCarry_passes : i.len ≤ c.payload.length ∧ k.bad = none ∧ k.refuse = none := by
  have passes := State.firstFailure_of_mayCarry may
  rw [firstFailure] at passes
  split at passes
  case isTrue => exact nomatch passes
  case isFalse whole =>
    split at passes
    case h_1 => exact nomatch passes
    case h_2 good =>
      split_ifs at passes
      exact ⟨Nat.not_lt.mp whole, good, passes⟩

/-- R19: the part is awake, but for a command that a sleeping part takes from the management controller. -/
theorem State.mayCarry_awake (other : [0x0106, 0x0107, 0x0804].contains i.opcode = false) : s.power.phase = .steady ∧ s.power.sleep = 0 := by
  simp only [State.mayCarry, State.waits, State.waitsCtrl, other, Bool.and_false, Bool.not_false, Bool.and_true, Bool.and_eq_true,
    Bool.not_eq_true', Bool.or_eq_false_iff, State.ctrlStopped, decide_eq_false_iff_not, not_not] at may
  obtain ⟨⟨⟨⟨⟨⟨phase, sleep⟩, -⟩, -⟩, -⟩, -⟩, -⟩ := may
  exact ⟨phase, sleep⟩

end

end Sys2Proof.Machine
end

section
/-! PROOFS. MARL_POOL_CFG, MARL_QUEUE_CFG and MARL_AGE_CFG (R134, R136, R137, R139). -/

namespace Sys2Proof.Machine

/-! ## Pools, queues and age limits (R134, R137, R139) -/

theorem State.egq_setEgq_of (s : State) (a q r : Nat) (v : EgQueue) : (s.setEgq a q v).egq a r = if r = q then v else s.egq a r :=
  (Tab.get_set ..).trans (if_congr Nat.add_left_cancel_iff rfl rfl)

/-- A change made at each of some queues of an egress, one after another; made twice at a queue it is as made once. -/
theorem State.foldl_modEgq (a : Nat) {f : EgQueue → EgQueue} (idem : ∀ x, f (f x) = f x) (named : List Nat) : ∀ s : State,
    let t := named.foldl (fun s q => s.modEgq a q f) s
    (∀ q, t.egq a q = if q ∈ named then f (s.egq a q) else s.egq a q) ∧ t = { s with marl := { s.marl with queues := t.marl.queues } } := by
  induction named with
  | nil => exact fun s => ⟨fun q => (if_neg List.not_mem_nil).symm, rfl⟩
  | cons r named ih =>
    intro s
    obtain ⟨queues, frame⟩ := ih (s.modEgq a r f)
    refine ⟨fun q => (queues q).trans ?_, frame⟩
    rw [State.modEgq, State.egq_setEgq_of]
    by_cases own : q = r
    · subst own
      simp only [if_true, idem, List.mem_cons, true_or, ite_self]
    · simp only [List.mem_cons, own, false_or, if_false]

theorem State.ageLimit_setAge (s : State) (k us sweep j : Nat) :
    (s.modMarl fun m => { m.setAge k us with sweepUs := sweep }).ageLimit j = if j = k ∧ k ≤ 6 then us else s.ageLimit j := by
  match k with
  | 0 | 1 | 2 | 3 | 4 | 5 | 6 => match j with | 0 | 1 | 2 | 3 | 4 | 5 | 6 | _ + 7 => rfl
  | k + 7 => rw [if_neg (by omega)]; rfl

theorem Marl.setAge_keeps (m : Marl) (k us : Nat) :
    (m.setAge k us).pools = m.pools ∧ (m.setAge k us).queues = m.queues ∧ (m.setAge k us).banks = m.banks := by
  unfold Marl.setAge
  split <;> exact ⟨rfl, rfl, rfl⟩

/-! ## The commands of the switch (R134, R136, R137, R139) -/

section
variable {c : Cmd} {s : State}

theorem marlPoolCfg_gives (may : s.mayCarry infoMarlPoolCfg c (checksMarlPoolCfg c s) = true) :
    let k := byteAt c.payload 0
    let b := s.carried infoMarlPoolCfg c (checksMarlPoolCfg c s)
    CompletesOk (exec (.marlPoolCfg c) s) infoMarlPoolCfg c (fun u => toLe 4 u.sharedSize) fun u =>
      (u.pool k).min = le c.payload 4 4 ∧ (u.pool k).shareMax = le c.payload 8 4 ∧ (u.pool k).used = (b.pool k).used
        ∧ (∀ j, j ≠ k → u.pool j = b.pool j) ∧ u = { b with marl := { b.marl with pools := u.marl.pools } } := by
  intro k b
  let set : Pool := { s.pool k with min := le c.payload 4 4, shareMax := le c.payload 8 4 }
  let u := b.modMarl fun m => { m with pools := Tab.set {} k set s.marl.pools }
  have pool (j : Nat) : u.pool j = if j = k then set else s.pool j := Tab.get_set ..
  have own : u.pool k = set := (pool k).trans (if_pos rfl)
  have before (j : Nat) : b.pool j = s.pool j := by rw [State.pool, s.carried_marl]; rfl
  refine completesOk_command may (completesOk_of_eq_ok (u := u) ((State.isRunning_modMarl ..).trans (s.carried_isRunning ..)) rfl
    ⟨?_, ?_, ?_, fun j other => ?_, rfl⟩)
  · rw [own]
  · rw [own]
  · rw [own, before]
  · rw [pool, before, if_neg other]

theorem marlQueueCfg_gives (may : s.mayCarry infoMarlQueueCfg c (checksMarlQueueCfg c s) = true) :
    let a := byteAt c.payload 0
    let named := queuesNamed a (byteAt c.payload 1)
    let b := s.carried infoMarlQueueCfg c (checksMarlQueueCfg c s)
    CompletesOk (exec (.marlQueueCfg c) s) infoMarlQueueCfg c (fun _ => []) fun u =>
      (∀ q ∈ named, u.egq a q = { b.egq a q with qcap := le c.payload 4 4 }) ∧ (∀ q, q ∉ named → u.egq a q = b.egq a q)
        ∧ u = { b with marl := { b.marl with queues := u.marl.queues } } := by
  intro a named b
  obtain ⟨queues, frame⟩ := State.foldl_modEgq a (f := fun x => { x with qcap := le c.payload 4 4 }) (fun _ => rfl) named b
  refine completesOk_command may (completesOk_of_eq_ok ?_ rfl ⟨?_, ?_, frame⟩)
  · rw [frame]
    exact s.carried_isRunning ..
  · exact fun q isNamed => (queues q).trans (if_pos isNamed)
  · exact fun q other => (queues q).trans (if_neg other)

theorem marlAgeCfg_gives (may : s.mayCarry infoMarlAgeCfg c (checksMarlAgeCfg c s) = true) :
    let k := byteAt c.payload 0
    let b := s.carried infoMarlAgeCfg c (checksMarlAgeCfg c s)
    CompletesOk (exec (.marlAgeCfg c) s) infoMarlAgeCfg c (fun _ => []) fun u =>
      u.marl.sweepUs = (if le c.payload 8 4 = 0 then b.marl.sweepUs else le c.payload 8 4)
        ∧ (k ≤ 6 → u.ageLimit k = le c.payload 4 4) ∧ (∀ j, j ≠ k → u.ageLimit j = b.ageLimit j)
        ∧ u = { b with marl := u.marl } ∧ u.marl.pools = b.marl.pools ∧ u.marl.queues = b.marl.queues ∧ u.marl.banks = b.marl.banks := by
  intro k b
  let sweep := if le c.payload 8 4 = 0 then s.marl.sweepUs else le c.payload 8 4
  let u := b.modMarl fun m => { m.setAge k (le c.payload 4 4) with sweepUs := sweep }
  have set : (fun m : Marl => { (if k = 0xFF then m else m.setAge k (le c.payload 4 4)) with sweepUs := sweep })
      = fun m => { m.setAge k (le c.payload 4 4) with sweepUs := sweep } := by
    funext m
    split
    case isTrue none' => rw [none']; rfl
    case isFalse => rfl
  have marl : b.marl = s.marl := s.carried_marl ..
  have age := b.ageLimit_setAge k (le c.payload 4 4) sweep
  refine completesOk_command may (completesOk_of_eq_ok (u := u) ((State.isRunning_modMarl ..).trans (s.carried_isRunning ..)) ?_
    ⟨?_, ?_, ?_, rfl, b.marl.setAge_keeps ..⟩)
  · exact congrArg (fun f => Host.Outcome.next ((b.modMarl f).ok c 0x0105 [])) set
  · rw [marl]
    rfl
  · exact fun small => (age k).trans (if_pos ⟨rfl, small⟩)
  · exact fun j other => (age j).trans (if_neg fun own => other own.1)

end

/-- Settles O9: each command has the outcome that its lemma above gives. -/
theorem switchCommandsComplete : Obligations.SwitchCommandsComplete := by
  unfold Obligations.SwitchCommandsComplete
  refine ⟨?pool, ?queue, ?age⟩
  case pool => exact fun c s may _ => marlPoolCfg_gives may
  case queue => exact fun c s may _ => marlQueueCfg_gives may
  case age => exact fun c s may _ => marlAgeCfg_gives may

end Sys2Proof.Machine
end

section
/-! PROOFS. The commands of the memories: banks retired and readmitted, strengths, repairs, fuses and flip masks (R146, R147, R149, R401, R404, R406, R408, R410, R411). -/

namespace Sys2Proof.Machine

/-! ## Banks and regions after a write -/

theorem State.bank_setBank (s : State) (n j : Nat) (v : Bank) : (s.setBank n v).bank j = if j = n then v else s.bank j := Tab.get_set ..

theorem State.bank_congr {s t : State} (marl : t.marl = s.marl) (n : Nat) : t.bank n = s.bank n := by rw [State.bank, State.bank, marl]

theorem State.banksIn_congr {s t : State} (marl : t.marl = s.marl) (x : BankState) : t.banksIn x = s.banksIn x :=
  (congrArg (fun m : Marl => ({ s with marl := m } : State).banksIn x) marl :)

theorem State.mem_banksIn {s : State} {x : BankState} {n : Nat} (h : n ∈ s.banksIn x) : (s.bank n).state = x :=
  of_decide_eq_true (List.mem_filter.mp h).2

theorem getD_listMod {α : Type} (f : α → α) (d : α) : ∀ (i : Nat) (l : List α) (j : Nat), i < l.length →
    (listMod f i l).getD j d = if j = i then f (l.getD i d) else l.getD j d
  | 0, _ :: _, 0, _ => rfl
  | 0, _ :: _, _ + 1, _ => rfl
  | _ + 1, _ :: _, 0, _ => rfl
  | i + 1, _ :: l, j + 1, inside =>
    (getD_listMod f d i l j (Nat.lt_of_succ_lt_succ inside)).trans (if_congr Nat.succ_inj.symm rfl rfl)

theorem State.region_modRegion {s : State} {n : Nat} (inside : n < s.mem.regions.length) (f : Region → Region) (j : Nat) :
    (s.modRegion n f).region j = if j = n then f (s.region n) else s.region j := getD_listMod f {} n s.mem.regions j inside

/-! ## Banks (R146, R147, R149) -/

section
variable {c : Cmd} {s : State}

theorem exec_marlBankRetire (may : s.mayCarry infoBankRetire c (checksMarlBankRetire c s) = true) :
    let t := (s.carried infoBankRetire c (checksMarlBankRetire c s)).retireBank (byteAt c.payload 0) (some c)
    exec (.marlBankRetire c) s = .next (if (s.bank (byteAt c.payload 0)).state = .spare then t.ok c 0x0905 [3] else t) :=
  congrArg Host.Outcome.next (State.command_of_mayCarry may _)

/-- R366: an assertion leaves the switch alone. -/
theorem State.event_modMarl (s : State) (f : Marl → Marl) (n : Nat) :
    let t := (s.modMarl f).event n
    t = { s with marl := t.marl, cluster := t.cluster, power := t.power } := State.eq_of_fields

theorem bankRetire_spare (may : s.mayCarry infoBankRetire c (checksMarlBankRetire c s) = true)
    (spare : (s.bank (byteAt c.payload 0)).state = .spare) :
    let n := byteAt c.payload 0
    let b := s.carried infoBankRetire c (checksMarlBankRetire c s)
    CompletesOk (exec (.marlBankRetire c) s) infoBankRetire c (fun _ => [3]) fun u =>
      u.bank n = { b.bank n with state := .retired } ∧ (∀ j, j ≠ n → u.bank j = b.bank j) ∧ n < 33
        ∧ u = { b with marl := u.marl, cluster := u.cluster, power := u.power } := by
  intro n b
  let u := (b.setBank n { b.bank n with state := .retired }).event 0x182
  have same : (b.bank n).state = .spare := (congrArg Bank.state (State.bank_congr (s.carried_marl ..) n)).trans spare
  have retired : b.retireBank n (some c) = u := if_pos same
  have bank (j : Nat) : u.bank j = if j = n then { b.bank n with state := .retired } else b.bank j :=
    (State.bank_congr (State.event_marl ..) j).trans (b.bank_setBank ..)
  obtain ⟨whole, good, -⟩ := State.mayCarry_passes may
  have small : n ≤ 32 := (rangeField_ok (off := 0) good (Nat.lt_of_lt_of_le (by decide) whole) rfl).2
  have done : exec (.marlBankRetire c) s = .next (u.ok c 0x0905 [3]) := by
    rw [← retired]
    exact (exec_marlBankRetire may).trans (congrArg Host.Outcome.next (if_pos spare))
  refine completesOk_of_eq_ok ?_ done ⟨(bank n).trans (if_pos rfl), fun j other => (bank j).trans (if_neg other), by omega, b.event_modMarl ..⟩
  rw [State.isRunning_event]
  exact (State.isRunning_modMarl ..).trans (s.carried_isRunning ..)

/-- R149: what is to replace an ACTIVE bank that leaves placement: a spare that is powered, or else shared space. -/
def State.bankReplaced (s : State) : State :=
  match s.banksIn .spare with
  | sp :: _ => if s.domainOff 2 then s.modMarl fun m => { m with sharedLost := m.sharedLost + 8192 } else s.modBank sp fun y => { y with state := .active }
  | [] => s.modMarl fun m => { m with sharedLost := m.sharedLost + 8192 }

theorem State.bankReplaced_frame (s : State) : s.bankReplaced = { s with marl := s.bankReplaced.marl } := by
  unfold State.bankReplaced
  split
  · split_ifs <;> rfl
  · rfl

theorem State.bankReplaced_spare {s : State} {sp : Nat} {rest : List Nat} (first : s.banksIn .spare = sp :: rest) (powered : s.domainOff 2 = false) :
    (s.bankReplaced.bank sp).state = .active ∧ s.bankReplaced.marl.sharedLost = s.marl.sharedLost := by
  have joins : s.bankReplaced = s.setBank sp { s.bank sp with state := .active } := by
    simp only [State.bankReplaced, first, powered, Bool.false_eq_true, if_false]
    rfl
  rw [joins, State.bank_setBank, if_pos rfl]
  exact ⟨rfl, rfl⟩

theorem State.bankReplaced_shared {s : State} (without : s.banksIn .spare = [] ∨ s.domainOff 2 = true) :
    s.bankReplaced.marl.sharedLost = s.marl.sharedLost + 8192 := by
  unfold State.bankReplaced
  split
  case h_1 sp rest first =>
    obtain none' | off := without
    · rw [none'] at first
      exact nomatch first
    · rw [if_pos off]
      rfl
  case h_2 => rfl

theorem bankRetire_active (may : s.mayCarry infoBankRetire c (checksMarlBankRetire c s) = true)
    (active : (s.bank (byteAt c.payload 0)).state = .active) :
    let n := byteAt c.payload 0
    let b := s.carried infoBankRetire c (checksMarlBankRetire c s)
    ∃ t, exec (.marlBankRetire c) s = .next t ∧ t.bank n = { b.bank n with state := .draining, retireBy := some c }
      ∧ (∀ sp rest, b.banksIn .spare = sp :: rest → b.domainOff 2 = false → (t.bank sp).state = .active ∧ t.marl.sharedLost = b.marl.sharedLost)
      ∧ ((b.banksIn .spare = [] ∨ b.domainOff 2 = true) → t.marl.sharedLost = b.marl.sharedLost + 8192)
      ∧ b.banksIn .draining = [] ∧ t = { b with marl := t.marl } := by
  intro n b
  have marl : b.marl = s.marl := s.carried_marl ..
  have same : (b.bank n).state = .active := (congrArg Bank.state (State.bank_congr marl n)).trans active
  let t := b.bankReplaced.setBank n { b.bank n with state := .draining, retireBy := some c }
  have retired : b.retireBank n (some c) = t := if_neg (by rw [same]; decide)
  have begun : exec (.marlBankRetire c) s = .next t := by
    rw [← retired]
    exact (exec_marlBankRetire may).trans (congrArg Host.Outcome.next (if_neg (by rw [active]; decide)))
  obtain ⟨-, -, free⟩ := State.mayCarry_passes may
  have drains : b.banksIn .draining = [] := by
    have idle := failIf_eq_none.mp (firstSome_eq_none free _ (List.mem_cons_of_mem _ (List.mem_cons_of_mem _ List.mem_cons_self)))
    rw [State.banksIn_congr marl]
    simpa using idle
  refine ⟨t, begun, (State.bank_setBank ..).trans (if_pos rfl), ?_, fun without => State.bankReplaced_shared without, drains, ?_⟩
  · intro sp rest first powered
    have spare : (b.bank sp).state = .spare := State.mem_banksIn (first ▸ List.mem_cons_self)
    have other : sp ≠ n := by
      rintro rfl
      rw [same] at spare
      exact nomatch spare
    obtain ⟨joined, lost⟩ := State.bankReplaced_spare first powered
    exact ⟨by rw [State.bank_setBank, if_neg other, joined], lost⟩
  · exact congrArg (fun u : State => u.setBank n { b.bank n with state := .draining, retireBy := some c }) b.bankReplaced_frame

theorem bankReadmit_gives (may : s.mayCarry infoBankReadmit c (checksMarlBankReadmit c s) = true) :
    let n := byteAt c.payload 0
    let b := s.carried infoBankReadmit c (checksMarlBankReadmit c s)
    ∃ t, exec (.marlBankReadmit c) s = .next t ∧ t = b.setBank n { b.bank n with readmit := some c } ∧ (b.bank n).state = .retired := by
  intro n b
  obtain ⟨-, -, free⟩ := State.mayCarry_passes may
  have retired := failIf_eq_none.mp (firstSome_eq_none free _ (List.mem_cons_of_mem _ List.mem_cons_self))
  refine ⟨_, congrArg Host.Outcome.next (State.command_of_mayCarry may _), rfl, ?_⟩
  rw [State.bank_congr (s.carried_marl ..)]
  simpa using retired

/-! ## Strengths, repairs and flip masks (R401, R404, R406, R408, R411) -/

theorem memEccCfg_gives (may : s.mayCarry infoMemEccCfg c (checksMemEccCfg c s) = true) (five : s.mem.regions.length = 5) :
    let p := c.payload
    let n := byteAt p 0
    let b := s.carried infoMemEccCfg c (checksMemEccCfg c s)
    let r := b.region n
    CompletesOk (exec (.memEccCfg c) s) infoMemEccCfg c (fun _ => []) fun u =>
      u.region n = (if byteAt p 1 = r.t then { r with fly := decide (byteAt p 2 = 1), period := le p 4 4 }
          else { r with fly := decide (byteAt p 2 = 1), period := le p 4 4, tOld := r.t, t := byteAt p 1, converting := true, convAt := 0 })
        ∧ (∀ j, j ≠ n → u.region j = b.region j) ∧ 1 ≤ byteAt p 1 ∧ byteAt p 1 ≤ 8
        ∧ u.marl = { b.marl with retireAuto := if n = 0 then bitOf (byteAt p 3) 0 else b.marl.retireAuto } ∧ u = { b with mem := u.mem, marl := u.marl } := by
  intro p n b r
  obtain ⟨whole, good, -⟩ := State.mayCarry_passes may
  have bytes : 8 ≤ p.length := whole
  have strength : 1 ≤ byteAt p 1 ∧ byteAt p 1 ≤ 8 := rangeField_ok (off := 1) good (Nat.lt_of_lt_of_le (by decide) bytes) rfl
  have small : n ≤ 4 := (rangeField_ok (off := 0) good (Nat.lt_of_lt_of_le (by decide) bytes) rfl).2
  have inside : n < b.mem.regions.length := by rw [s.carried_mem, five]; omega
  let f (r : Region) : Region :=
    let r := { r with fly := decide (byteAt p 2 = 1), period := le p 4 4 }
    if byteAt p 1 = r.t then r else { r with tOld := r.t, t := byteAt p 1, converting := true, convAt := 0 }
  let u := (b.modRegion n f).modMarl fun m => { m with retireAuto := if n = 0 then bitOf (byteAt p 3) 0 else m.retireAuto }
  have set : (if n = 0 then (b.modRegion n f).modMarl fun m => { m with retireAuto := bitOf (byteAt p 3) 0 } else b.modRegion n f) = u := by
    by_cases marl : n = 0
    · simp only [u, if_pos marl]
    · simp only [u, if_neg marl]
      rfl
  have region (j : Nat) : u.region j = if j = n then f r else b.region j := State.region_modRegion inside f j
  exact completesOk_command may (completesOk_of_eq_ok ((State.isRunning_modMarl ..).trans ((State.isRunning_modRegion ..).trans (s.carried_isRunning ..)))
    (congrArg (fun v => Host.Outcome.next (v.ok c 0x0907 [])) set)
    ⟨(region n).trans (if_pos rfl), fun j other => (region j).trans (if_neg other), strength.1, strength.2, rfl, rfl⟩)

theorem memSoftRepair_gives (may : s.mayCarry infoMemSoftRepair c (checksMemSoftRepair c s) = true) (five : s.mem.regions.length = 5) :
    let p := c.payload
    let n := byteAt p 0
    let bank := byteAt p 1
    let b := s.carried infoMemSoftRepair c (checksMemSoftRepair c s)
    let spare := Tab.get 0 (b.region n).used bank
    ∃ t, exec (.memSoftRepair c) s = .next t ∧ spare < 16
      ∧ (t.region n).copying = (b.region n).copying ++ [(bank, le p 2 2, spare, bitOf (byteAt p 4) 0, some c)]
      ∧ Tab.get 0 (t.region n).used bank = spare + 1 ∧ (∀ j, j ≠ n → t.region j = b.region j) ∧ t = { b with mem := t.mem } := by
  intro p n bank b spare
  obtain ⟨whole, good, free⟩ := State.mayCarry_passes may
  have bytes : 5 ≤ p.length := whole
  have small : n ≤ 4 := (rangeField_ok (off := 0) good (Nat.lt_of_lt_of_le (by decide) bytes) rfl).2
  have inside : n < b.mem.regions.length := by rw [s.carried_mem, five]; omega
  have left : (s.freeSpare n bank).isNone = false := failIf_eq_none.mp free
  have same : b.freeSpare n bank = s.freeSpare n bank := by rw [State.freeSpare, State.freeSpare, s.carried_region]
  have few : spare < 16 := by
    rw [← same, State.freeSpare] at left
    by_contra many
    rw [if_neg many] at left
    exact nomatch left
  have takes : b.freeSpare n bank = some spare := if_pos few
  have ran : exec (.memSoftRepair c) s = .next (b.startRepair n bank (le p 2 2) spare (bitOf (byteAt p 4) 0) (some c)) := by
    refine (if_neg (by rw [State.firstFailure_of_mayCarry may]; exact nofun)).trans (congrArg Host.Outcome.next ((State.command_of_mayCarry may _).trans ?_))
    change (match b.freeSpare n bank with | some spare => b.startRepair n bank (le p 2 2) spare (bitOf (byteAt p 4) 0) (some c) | none => b) = _
    rw [takes]
  have region := State.region_modRegion inside
    fun r => { r with used := Tab.set 0 bank (spare + 1) r.used, copying := r.copying ++ [(bank, le p 2 2, spare, bitOf (byteAt p 4) 0, some c)] }
  have own := (region n).trans (if_pos rfl)
  refine ⟨_, ran, few, congrArg Region.copying own, ?_, fun j other => (region j).trans (if_neg other), rfl⟩
  exact (congrArg (fun r : Region => Tab.get 0 r.used bank) own).trans ((Tab.get_set 0 bank bank (spare + 1) (b.region n).used).trans (if_pos rfl))

theorem memFlipMask_gives (may : s.mayCarry infoMemFlipMask c (checksMemFlipMask c s) = true) (five : s.mem.regions.length = 5) :
    let n := byteAt c.payload 0
    let b := s.carried infoMemFlipMask c (checksMemFlipMask c s)
    CompletesOk (exec (.memFlipMask c) s) infoMemFlipMask c (fun _ => []) fun u =>
      u.region n = { b.region n with flip := (flipPositions c.payload).filter (fun x => x ≠ 0xFFFF), flipArmed := true }
        ∧ (∀ j, j ≠ n → u.region j = b.region j) ∧ u = { b with mem := u.mem } := by
  intro n b
  obtain ⟨whole, good, -⟩ := State.mayCarry_passes may
  have small : n ≤ 4 := (rangeField_ok (off := 0) good (Nat.lt_of_lt_of_le (by decide) whole) rfl).2
  have inside : n < b.mem.regions.length := by rw [s.carried_mem, five]; omega
  have region := State.region_modRegion inside
    fun r => { r with flip := (flipPositions c.payload).filter (fun x => x ≠ 0xFFFF), flipArmed := true }
  exact completesOk_command may (completesOk_of_eq_ok ((State.isRunning_modRegion ..).trans (s.carried_isRunning ..)) rfl
    ⟨(region n).trans (if_pos rfl), fun j other => (region j).trans (if_neg other), rfl⟩)

/-! ## Fuses (R410) -/

theorem exec_fuseProgram (may : s.mayCarry infoFuseProgram c (checksFuseProgram c s) = true) :
    let b := s.carried infoFuseProgram c (checksFuseProgram c s)
    exec (.fuseProgram c) s = .next (if s.mem.queued.isEmpty then b.ok c 0x0909 (toLe 2 b.fuseBitsLeft)
      else b.modMem fun m => { m with burning := some (c, m.queued) }) := by
  intro b
  have mem : b.mem = s.mem := s.carried_mem ..
  rw [← mem]
  exact congrArg Host.Outcome.next (State.command_of_mayCarry may _)

theorem fuseProgram_nothing (may : s.mayCarry infoFuseProgram c (checksFuseProgram c s) = true) (none' : s.mem.queued = []) :
    CompletesOk (exec (.fuseProgram c) s) infoFuseProgram c (fun u => toLe 2 u.fuseBitsLeft)
      fun u => u = s.carried infoFuseProgram c (checksFuseProgram c s) := by
  have done := (exec_fuseProgram may).trans (congrArg Host.Outcome.next (if_pos (List.isEmpty_iff.mpr none')))
  exact completesOk_of_eq_ok (s.carried_isRunning ..) done rfl

theorem fuseProgram_burns (may : s.mayCarry infoFuseProgram c (checksFuseProgram c s) = true) (some' : s.mem.queued ≠ []) :
    let b := s.carried infoFuseProgram c (checksFuseProgram c s)
    ∃ t, exec (.fuseProgram c) s = .next t
      ∧ t = { b with mem := { b.mem with burning := some (c, b.mem.queued) } } ∧ 1710 ≤ c.vfuse ∧ c.vfuse ≤ 1890 := by
  intro b
  obtain ⟨-, -, free⟩ := State.mayCarry_passes may
  have supply := failIf_eq_none.mp (firstSome_eq_none free _ List.mem_cons_self)
  have begun := (exec_fuseProgram may).trans (congrArg Host.Outcome.next (if_neg (mt List.isEmpty_iff.mp some')))
  exact ⟨_, begun, rfl, by simpa using supply⟩

end

/-- Settles O51: each command has the outcome that its lemma above gives. -/
theorem memoryCommandsTakeEffect : Obligations.MemoryCommandsTakeEffect := by
  unfold Obligations.MemoryCommandsTakeEffect
  refine ⟨?spare, ?active, ?readmit, ?strength, ?repair, ?nothing, ?burns, ?mask⟩
  case spare => exact fun c s may spare => bankRetire_spare may spare
  case active => exact fun c s may active => bankRetire_active may active
  case readmit => exact fun c s may _ => bankReadmit_gives may
  case strength => exact fun c s may five => memEccCfg_gives may five
  case repair => exact fun c s may five => memSoftRepair_gives may five
  case nothing => exact fun c s may none' => fuseProgram_nothing may none'
  case burns => exact fun c s may some' => fuseProgram_burns may some'
  case mask => exact fun c s may five => memFlipMask_gives may five

end Sys2Proof.Machine
end

section
/-! PROOFS. PM_LEVEL, PM_DOMAIN, PM_WAKE_CFG and PM_QUERY (R126, R353, R380, R381, R387, R395). -/

namespace Sys2Proof.Machine

/-! ## Levels (R353, R380) -/

/-- The islands go to a level, one after another. -/
def State.startLevels (s : State) (agents : List Nat) (level : Nat) (cmd : Option Cmd) : State :=
  agents.foldl (fun s i => s.startLevel i level cmd) s

/-- R380: one island is set to the level, and runs at it at once where it ran faster. -/
theorem State.startLevel_gives (s : State) (a level : Nat) (cmd : Option Cmd) :
    let t := s.startLevel a level cmd
    (∀ i, Tab.get 0 t.power.levelsSet i = if i = a then level else Tab.get 0 s.power.levelsSet i)
      ∧ (∀ i, t.levelOf i = if i = a then max (s.levelOf a) level else s.levelOf i)
      ∧ t.power.jobs = s.power.jobs ++ [{ agent := a, level := level, cmd := cmd }] ∧ t = { s with power := t.power } := by
  refine ⟨fun i => Tab.get_set .., fun i => ?_, rfl, rfl⟩
  have levels : (s.startLevel a level cmd).levelOf i
      = Tab.get 0 (if s.levelOf a < level then Tab.set 0 a level s.power.levels else s.power.levels) i := rfl
  rw [levels]
  split
  case isTrue slower => rw [Tab.get_set, max_eq_right slower.le]; rfl
  case isFalse faster =>
    rw [max_eq_left (Nat.not_lt.mp faster)]
    split
    case isTrue own => rw [own]; rfl
    case isFalse => rfl

theorem State.startLevels_gives (level : Nat) (cmd : Option Cmd) (agents : List Nat) : ∀ s : State,
    let t := s.startLevels agents level cmd
    (∀ i, Tab.get 0 t.power.levelsSet i = if i ∈ agents then level else Tab.get 0 s.power.levelsSet i)
      ∧ (∀ i, t.levelOf i = if i ∈ agents then max (s.levelOf i) level else s.levelOf i)
      ∧ t.power.jobs = s.power.jobs ++ agents.map (fun i => { agent := i, level := level, cmd := cmd }) ∧ t = { s with power := t.power } := by
  induction agents with
  | nil => exact fun s => ⟨fun i => (if_neg List.not_mem_nil).symm, fun i => (if_neg List.not_mem_nil).symm, (List.append_nil _).symm, rfl⟩
  | cons a agents ih =>
    intro s
    obtain ⟨set, levels, jobs, frame⟩ := ih (s.startLevel a level cmd)
    obtain ⟨setOne, levelsOne, jobsOne, -⟩ := s.startLevel_gives a level cmd
    refine ⟨fun i => (set i).trans ?_, fun i => (levels i).trans ?_, jobs.trans ?_, frame⟩
    · rw [setOne]
      by_cases own : i = a
      · simp only [own, List.mem_cons, true_or, if_true, ite_self]
      · simp only [own, List.mem_cons, false_or, if_false]
    · rw [levelsOne]
      by_cases own : i = a
      · simp only [own, List.mem_cons, true_or, if_true, max_assoc, max_self, ite_self]
      · simp only [own, List.mem_cons, false_or, if_false]
    · rw [jobsOne, List.append_assoc]
      rfl

/-- R353: commanding the supply changes its regulator, and sends. -/
theorem State.commandVcore_keeps (s : State) :
    let t := s.commandVcore
    t.power.levels = s.power.levels ∧ t.power.levelsSet = s.power.levelsSet ∧ t.power.jobs = s.power.jobs
      ∧ t = { s with power := t.power, out := t.out } := by
  simp only [State.commandVcore]
  split
  · exact ⟨rfl, rfl, rfl, rfl⟩
  · split_ifs <;> exact ⟨rfl, rfl, rfl, rfl⟩

theorem mem_levelAgents (a i : Nat) : i ∈ levelAgents a ↔ a = 0xFF ∧ i ∈ islands ∨ a ≠ 0xFF ∧ i = a := by
  rw [levelAgents]
  split
  case isTrue every => simp only [every, true_and, ne_eq, not_true_eq_false, false_and, or_false]
  case isFalse one => simp only [one, List.mem_singleton, false_and, ne_eq, not_false_eq_true, true_and, false_or]

/-! ## Domains held off (R377, R378) -/

/-- Bit `d` of the domains is set or cleared. -/
theorem getLsbD_held (held : BitVec 12) (off : Bool) (d : Nat) {k : Nat} (small : k < 12) :
    (if off then held ||| BitVec.ofNat 12 (2 ^ d) else held &&& ~~~BitVec.ofNat 12 (2 ^ d)).getLsbD k = if k = d then off else held.getLsbD k := by
  have bit : (BitVec.ofNat 12 (2 ^ d)).getLsbD k = decide (d = k) := by
    rw [BitVec.getLsbD_ofNat, decide_eq_true small, Bool.true_and, Nat.testBit_two_pow]
  cases off with
  | true =>
    rw [if_pos rfl, BitVec.getLsbD_or, bit]
    split
    case isTrue own => rw [decide_eq_true own.symm, Bool.or_true]
    case isFalse other => rw [decide_eq_false (Ne.symm other), Bool.or_false]
  | false =>
    rw [if_neg Bool.false_ne_true, BitVec.getLsbD_and, BitVec.getLsbD_not, bit, decide_eq_true small, Bool.true_and]
    split
    case isTrue own => rw [decide_eq_true own.symm, Bool.not_true, Bool.and_false]
    case isFalse other => rw [decide_eq_false (Ne.symm other), Bool.not_false, Bool.and_true]

/-- R378: a domain is held off, or on, and what would bring its port group up or down by itself is forgotten. -/
def State.holdDomain (s : State) (d : Nat) (off : Bool) : State :=
  s.modPower fun w =>
    { w with held := (if off then w.held ||| BitVec.ofNat 12 (2 ^ d) else w.held &&& ~~~BitVec.ofNat 12 (2 ^ d))
             pgDemand := (if 3 ≤ d && d ≤ 6 then w.pgDemand &&& ~~~(BitVec.ofNat 4 (2 ^ (d - 3))) else w.pgDemand)
             pgDue := (if 3 ≤ d then Tab.erase (d - 3) w.pgDue else w.pgDue) }

/-! ## The power commands -/

section
variable {c : Cmd} {s : State}

theorem pmLevel_gives (may : s.mayCarry infoPmLevel c (checksPmLevel c s) = true) :
    let a := byteAt c.payload 0
    let l := byteAt c.payload 1
    let b := s.carried infoPmLevel c (checksPmLevel c s)
    ∃ t, exec (.pmLevel c) s = .next t
      ∧ (∀ i, i ∈ levelAgents a → Tab.get 0 t.power.levelsSet i = l ∧ t.levelOf i = max (b.levelOf i) l
        ∧ { agent := i, level := l, cmd := some c } ∈ t.power.jobs)
      ∧ (∀ i, i ∉ levelAgents a → Tab.get 0 t.power.levelsSet i = Tab.get 0 b.power.levelsSet i ∧ t.levelOf i = b.levelOf i)
      ∧ t = { b with power := t.power, out := t.out } := by
  intro a l b
  let v := b.startLevels (levelAgents a) l (some c)
  let t := v.commandVcore
  have ran : exec (.pmLevel c) s = .next t := congrArg Host.Outcome.next (State.command_of_mayCarry may _)
  obtain ⟨set, levels, jobs, started⟩ := b.startLevels_gives l (some c) (levelAgents a)
  obtain ⟨sameLevels, sameSet, sameJobs, frame⟩ := v.commandVcore_keeps
  have levelOf (i : Nat) : t.levelOf i = v.levelOf i := congrArg (Tab.get 0 · i) sameLevels
  refine ⟨t, ran, fun i named => ?_, fun i other => ?_, ?_⟩
  · rw [sameSet, sameJobs, set, levelOf, levels, jobs, if_pos named, if_pos named]
    exact ⟨rfl, rfl, List.mem_append_right _ (List.mem_map_of_mem named)⟩
  · rw [sameSet, set, levelOf, levels, if_neg other, if_neg other]
    exact ⟨rfl, rfl⟩
  · exact frame.trans (congrArg (fun v : State => { v with power := t.power, out := t.out }) started)

/-- R377: a domain that already is as asked, with no sequence under way, completes the command; else its sequence begins. -/
theorem exec_pmDomain (may : s.mayCarry infoPmDomain c (checksPmDomain c s) = true) :
    let t := (s.carried infoPmDomain c (checksPmDomain c s)).holdDomain (byteAt c.payload 0) (decide (byteAt c.payload 1 = 1))
    exec (.pmDomain c) s = .next (
      if !(s.power.seqs.any fun q => decide (q.domain = byteAt c.payload 0))
          && s.power.on.getLsbD (byteAt c.payload 0) = !decide (byteAt c.payload 1 = 1) then t.ok c 0x0702 []
      else t.modPower fun w => { w with seqs := w.seqs ++ [{ domain := byteAt c.payload 0, off := decide (byteAt c.payload 1 = 1), cmd := some c }] }) := by
  intro t
  have on : t.power.on = s.power.on := s.carried_power_on ..
  rw [← on]
  exact congrArg Host.Outcome.next (State.command_of_mayCarry may _)

theorem pmDomain_holds (may : s.mayCarry infoPmDomain c (checksPmDomain c s) = true) (idle : ∀ q ∈ s.power.seqs, q.domain ≠ byteAt c.payload 0)
    (asked : s.power.on.getLsbD (byteAt c.payload 0) = decide (byteAt c.payload 1 ≠ 1)) :
    let b := s.carried infoPmDomain c (checksPmDomain c s)
    CompletesOk (exec (.pmDomain c) s) infoPmDomain c (fun _ => []) fun u =>
      (∀ d, d < 12 → u.power.held.getLsbD d = if d = byteAt c.payload 0 then decide (byteAt c.payload 1 = 1) else b.power.held.getLsbD d)
        ∧ u.power.on = b.power.on ∧ u.power.seqs = b.power.seqs ∧ u = { b with power := u.power } := by
  intro b
  have none' : (s.power.seqs.any fun q => decide (q.domain = byteAt c.payload 0)) = false := by simpa using idle
  have done := (exec_pmDomain may).trans (congrArg Host.Outcome.next (if_pos (by rw [none', asked]; simp)))
  exact completesOk_of_eq_ok ((State.isRunning_modPower ..).trans (s.carried_isRunning ..)) done ⟨fun d small => getLsbD_held _ _ _ small, rfl, rfl, rfl⟩

theorem pmDomain_begins (may : s.mayCarry infoPmDomain c (checksPmDomain c s) = true)
    (other : s.power.on.getLsbD (byteAt c.payload 0) = decide (byteAt c.payload 1 = 1)) :
    let b := s.carried infoPmDomain c (checksPmDomain c s)
    ∃ t, exec (.pmDomain c) s = .next t
      ∧ t.power.seqs = b.power.seqs ++ [{ domain := byteAt c.payload 0, off := decide (byteAt c.payload 1 = 1), cmd := some c }]
      ∧ (∀ d, d < 12 → t.power.held.getLsbD d = if d = byteAt c.payload 0 then decide (byteAt c.payload 1 = 1) else b.power.held.getLsbD d)
      ∧ t.power.on = b.power.on ∧ t = { b with power := t.power } := by
  intro b
  have begun := (exec_pmDomain may).trans (congrArg Host.Outcome.next (if_neg (by rw [other]; simp)))
  exact ⟨_, begun, rfl, fun d small => getLsbD_held _ _ _ small, rfl, rfl⟩

theorem pmWakeCfg_gives (may : s.mayCarry infoPmWakeCfg c (checksPmWakeCfg c s) = true) :
    let b := s.carried infoPmWakeCfg c (checksPmWakeCfg c s)
    CompletesOk (exec (.pmWakeCfg c) s) infoPmWakeCfg c (fun _ => []) fun u =>
      u = { b with power := { b.power with wakeMask := BitVec.ofNat 64 (le c.payload 0 8) } } ∧ le c.payload 0 8 < 2 ^ 19 := by
  intro b
  obtain ⟨whole, good, -⟩ := State.mayCarry_passes may
  have sources := Field.ok_of_firstBad (f := ⟨0, 8, fun v => decide (v < 2 ^ 19)⟩) good (Nat.lt_of_lt_of_le (by decide) whole) rfl
  dsimp only at sources
  exact completesOk_command may (completesOk_of_eq_ok ((State.isRunning_modPower ..).trans (s.carried_isRunning ..)) rfl
    ⟨rfl, of_decide_eq_true sources⟩)

/-- R395: a query changes nothing, and the state in which it has its effect has the power state of the one before. -/
theorem pmQuery_gives (may : s.mayCarry infoPmQuery c (checksPmQuery c) = true) :
    CompletesOk (exec (.pmQuery c) s) infoPmQuery c (fun _ => toLe 2 s.power.on.toNat ++ toLe 1 s.power.sleep.toNat ++ [0]
      ++ toLe 4 (s.planeUj (islands.filter fun a => decide (a ≠ 1))) ++ toLe 4 (s.planeUj [1]) ++ toLe 4 (s.planeUj [0]))
      fun u => u = s.carried infoPmQuery c (checksPmQuery c) := by
  obtain ⟨phase, sleep⟩ := State.mayCarry_awake may rfl
  have power := s.carried_power infoPmQuery c (checksPmQuery c) phase sleep
  refine completesOk_command may (completesOk_of_eq_ok (s.carried_isRunning ..) ?_ rfl)
  simp only [State.planeUj, power]
  rfl

end

/-- Settles O30: each command has the outcome that its lemma above gives. -/
theorem powerCommandsTakeEffect : Obligations.PowerCommandsTakeEffect := by
  unfold Obligations.PowerCommandsTakeEffect
  refine ⟨?level, ?held, ?begun, ?wake, ?query⟩
  case level =>
    intro c s may _
    simp only [← mem_levelAgents]
    exact pmLevel_gives may
  case held => exact fun c s may ⟨idle, asked⟩ => pmDomain_holds may idle asked
  case begun => exact fun c s may other => pmDomain_begins may other
  case wake => exact fun c s may _ => pmWakeCfg_gives may
  case query => exact fun c s may _ => pmQuery_gives may

end Sys2Proof.Machine
end

section
/-! PROOFS. A cell that waits for a bank and a flow that is lost: a loss frees the banks of its cells, and the waiting cell may enter the flow just lost, which refutes O50 (R125, R144). -/

namespace Sys2Proof.Machine

/-- R125: the one write that waits goes on when a bank takes it, behind the other cells of its flow. -/
theorem State.flushWrites_cellIn {s : State} {a q flow : Nat} {c : Cell} (waits : s.marl.writeBuf = [(a, q, flow, c)])
    (room : (s.placeBank (s.egq a q).recent).isSome = true) : CellIn s s.flushWrites a q flow fun d => d.payload = c.payload := by
  obtain ⟨b, bank⟩ := Option.isSome_iff_exists.mp room
  have wrote : s.flushWrites = (s.modMarl fun m => { m with writeBuf := [] }).writeCell a q flow b c := by
    simp only [State.flushWrites, waits, List.length_singleton, State.writesGoOn, bank]
  rw [wrote]
  obtain ⟨d, last, rfl, enq, tunnels⟩ := (s.modMarl fun m => { m with writeBuf := [] }).writeCell_cellIn a q flow b c
  exact ⟨_, last, rfl, enq, tunnels⟩

/-- R86: where XFER has staged no USB3 cell its engine leaves the queues alone. -/
theorem State.usb3Cells_egq {s : State} (idle : (Tab.get [] s.marl.staging agentXfer).filter (fun c => decide (c.cls = 3)) = []) (a q : Nat) :
    s.usb3Cells.egq a q = s.egq a q := by
  simp only [State.usb3Cells, idle]
  rfl

/-- R144: an egress whose link entry fails loses the flow picked; then the writes that wait go on. -/
theorem exec_cellEgressSelect_linkUe {h : Fin 2} {q f : Nat} {s : State} (powered : s.agentPowered (agentHp h) = true)
    (picked : s.pickUnit (agentHp h) = some (q, f)) (room : (Tab.get [] s.marl.staging (agentHp h)).length < 16) :
    exec (.cellEgressSelect (BitVec.ofNat 8 (agentHp h)) true) s = .next (s.loseFlow (agentHp h) q f).flushWrites.usb3Cells := by
  have selected : s.selectCell (agentHp h) true = s.loseFlow (agentHp h) q f := by simp only [State.selectCell, picked, if_true]
  change execCellEgressSelect _ true s = _
  unfold execCellEgressSelect
  extract_lets a
  have own : a = agentHp h := by fin_cases h <;> rfl
  have client : ¬ (0x10 ≤ a && a ≤ 0x1B) = true := by rw [own]; fin_cases h <;> decide
  have size : stagingSize (agentHp h) = 16 := by fin_cases h <;> rfl
  rw [if_neg client, own, if_neg (by rw [powered]; decide), if_neg (by rw [size]; exact Nat.not_le.mpr room), selected]

/-- Bank 0 alone is ACTIVE, and full; host port 0's flow 5 holds one of its cells, and another cell of that flow waits for a bank. -/
def fullBank : State :=
  { Sys2Proof.Tests.up with marl := { Sys2Proof.Tests.up.marl with
      banks := (List.range 33).map fun b => (b, if b = 0 then { fill := 8192 } else { state := .retired })
      queues := [(agentHp 0 * 16 + 1, { flows := [(5, [{ sys := true, cls := 7 }])] })]
      writeBuf := [(agentHp 0, 1, 5, { sys := true, cls := 7 })] } }

/-- Refutes O50: a link entry of host port 0 fails and flow 5 is lost, which frees a row of bank 0; the cell of that flow that waited for a bank enters its queue in the same step, so the flow is not empty. -/
theorem not_marlEvents : ¬ Obligations.MarlEvents := by
  rintro ⟨-, -, -, -, -, -, -, -, -, -, linkUe, -⟩
  have powered : fullBank.agentPowered (agentHp 0) = true := by decide +kernel
  have picked : fullBank.pickUnit (agentHp 0) = some (1, 5) := by decide +kernel
  obtain ⟨t, ran, empty, -⟩ := linkUe 0 1 5 fullBank powered picked (by decide)
  let lost := fullBank.loseFlow (agentHp 0) 1 5
  have waits : lost.marl.writeBuf = [(agentHp 0, 1, 5, { sys := true, cls := 7 })] := by decide +kernel
  have freed : (lost.placeBank (lost.egq (agentHp 0) 1).recent).isSome = true := by decide +kernel
  have idle : (Tab.get [] lost.flushWrites.marl.staging agentXfer).filter (fun c => decide (c.cls = 3)) = [] := by decide +kernel
  obtain ⟨d, entered, -⟩ := State.flushWrites_cellIn waits freed
  have left : t = lost.flushWrites.usb3Cells := Host.Outcome.next.inj (ran.symm.trans (exec_cellEgressSelect_linkUe powered picked (by decide)))
  have flow : (t.egq (agentHp 0) 1).flow 5 = (lost.egq (agentHp 0) 1).flow 5 ++ [d] := by rw [left, State.usb3Cells_egq idle, entered]
  exact List.append_ne_nil_of_right_ne_nil _ (List.cons_ne_nil d []) (flow.symm.trans empty)

end Sys2Proof.Machine
end

section
/-! PROOFS. The endpoints and roots of the USB host engine: what an endpoint is once its chain has ended, and what completions and notices leave of the engine (R165, R174, R179, R180). -/

namespace Sys2Proof.Machine

/-! ## Completions and notices (R165, R180, R249) -/

@[simp] theorem State.enginePost_xfer (s : State) (h sl q : Nat) (e : CqEntry) (slot : Bool) : (s.enginePost h sl q e slot).xfer = s.xfer := by
  unfold State.enginePost
  split <;> rfl

theorem State.enginePost_frame (s : State) (h sl q : Nat) (e : CqEntry) (slot : Bool) :
    s.enginePost h sl q e slot = { s with hosts := (s.enginePost h sl q e slot).hosts } := by
  unfold State.enginePost
  split <;> rfl

theorem State.enginePost_running (s : State) (h sl q : Nat) (e : CqEntry) (slot : Bool) :
    (s.enginePost h sl q e slot).hosts.running = s.hosts.running := by
  unfold State.enginePost
  split <;> rfl

@[simp] theorem State.ringStop_xfer (s : State) (e : Nat) (tag : BitVec 16) (st : Status) (x : Nat) : (s.ringStop e tag st x).xfer = s.xfer := by
  simp only [State.ringStop]
  split
  · rw [State.enginePost_xfer]
    rfl
  · rfl

@[simp] theorem State.rootNotice_xfer (s : State) (r code tport : Nat) : (s.rootNotice r code tport).xfer = s.xfer := by
  simp only [State.rootNotice]
  split <;> simp

@[simp] theorem State.rootNotice_clock (s : State) (r code tport : Nat) : (s.rootNotice r code tport).clock = s.clock :=
  (s.rootNotice_linesKept r code tport).clock

@[simp] theorem State.rootNotice_marl (s : State) (r code tport : Nat) : (s.rootNotice r code tport).marl = s.marl := by
  simp only [State.rootNotice]
  split <;> simp

theorem State.ep_congr {s t : State} (h : t.xfer = s.xfer) (e : Nat) : t.ep e = s.ep e := by rw [State.ep, State.ep, h]

theorem State.root_congr {s t : State} (h : t.xfer = s.xfer) (r : Nat) : t.root r = s.root r := by rw [State.root, State.root, h]

/-! ## The end of a chain (R165, R174) -/

/-- R165: an endpoint whose chain in progress has ended: its consumer index stands behind the chain. One without an owner keeps it. -/
def Ep.unchained (x : Ep) : Ep :=
  match x.chain, x.owner with
  | some c, some _ => { x with chain := none, busy := false, left := 0, cons := ((c.first + c.tds.length + x.span - 1) % x.span + 1) % x.span }
  | _, _ => x

theorem Ep.unchained_of_chain {x : Ep} {c : Chain} {o : Nat × Nat} (chain : x.chain = some c) (owner : x.owner = some o) :
    x.unchained = { x with chain := none, busy := false, left := 0, cons := ((c.first + c.tds.length + x.span - 1) % x.span + 1) % x.span } := by
  rw [Ep.unchained, chain, owner]

theorem Ep.unchained_of_not {x : Ep} (keeps : ∀ c h sl, x.chain = some c → x.owner = some (h, sl) → False) : x.unchained = x := by
  unfold Ep.unchained
  split
  · next c o chain owner => exact (keeps c o.1 o.2 chain owner).elim
  · rfl

theorem Ep.unchained_of_idle {x : Ep} (idle : x.chain = none) : x.unchained = x :=
  Ep.unchained_of_not fun _ _ _ chain _ => nomatch idle.symm.trans chain

theorem Ep.chain_unchained {x : Ep} (owned : x.owner.isSome = true) : x.unchained.chain = none := by
  obtain ⟨o, owner⟩ := Option.isSome_iff_exists.mp owned
  cases chain : x.chain with
  | none => rw [Ep.unchained_of_idle chain, chain]
  | some c => rw [Ep.unchained_of_chain chain owner]

theorem Ep.prod_unchained (x : Ep) : x.unchained.prod = x.prod := by
  unfold Ep.unchained
  split <;> rfl

/-- Table 6-9: an endpoint that has left its ring for a stopped state. -/
def Ep.stoppedIn (x : Ep) (dst : EpState) : Ep :=
  { x.unchained with state := dst, busy := false, left := 0, latched := x.unchained.cons, errors := 0, splitErrs := 0, nrdy := false, noSplit := none }

theorem State.endChain_of_idle {s : State} {e : Nat} (idle : (s.ep e).chain = none) (st : Status) (x : Nat) (short : Bool) : s.endChain e st x short = s := by
  simp only [State.endChain, idle]

theorem State.endChain_frame (s : State) (e : Nat) (st : Status) (x : Nat) (short : Bool) :
    let t := s.endChain e st x short
    t = { s with xfer := { s.xfer with eps := t.xfer.eps }, hosts := t.hosts, freeCtr := t.freeCtr } := by
  simp only [State.endChain]
  split
  · rw [State.enginePost_frame]
    split <;> rfl
  · rfl

theorem State.ep_endChain (s : State) (e j : Nat) (st : Status) (x : Nat) (short : Bool) :
    (s.endChain e st x short).ep j = if j = e then (s.ep e).unchained else s.ep j := by
  simp only [State.endChain]
  split
  · next c h sl chain owner =>
    rw [State.ep_congr (State.enginePost_xfer ..), State.ep_setEp, Ep.unchained_of_chain chain owner]
    split_ifs <;> rfl
  · next keeps =>
    rw [Ep.unchained_of_not keeps]
    split_ifs with own
    · rw [own]
    · rfl

theorem State.endChain_running (s : State) (e : Nat) (st : Status) (x : Nat) (short : Bool) : (s.endChain e st x short).hosts.running = s.hosts.running := by
  simp only [State.endChain]
  split
  · rw [State.enginePost_running]
    split <;> rfl
  · rfl

theorem State.stopEp_running (s : State) (e : Nat) (st : Status) (x : Nat) (dst : EpState) : (s.stopEp e st x dst).hosts.running = s.hosts.running :=
  (s.dropRequests e).endChain_running ..

theorem State.stopEp_frame (s : State) (e : Nat) (st : Status) (x : Nat) (dst : EpState) :
    let t := s.stopEp e st x dst
    t = { s with xfer := t.xfer, hosts := t.hosts, freeCtr := t.freeCtr } := by
  intro t
  have ended := (s.dropRequests e).endChain_frame e st x false
  simp only [t, State.stopEp]
  generalize (s.dropRequests e).endChain e st x false = u at ended
  rw [ended]
  rfl

theorem State.ep_stopEp (s : State) (e j : Nat) (st : Status) (x : Nat) (dst : EpState) :
    (s.stopEp e st x dst).ep j = if j = e then (s.ep e).stoppedIn dst else s.ep j := by
  have before (k : Nat) : (s.dropRequests e).ep k = s.ep k := rfl
  rw [State.stopEp, State.ep_modEp, State.ep_endChain, State.ep_endChain, if_pos rfl, before, before]
  split_ifs <;> rfl

theorem State.stopEp_own (s : State) (e : Nat) (st : Status) (x : Nat) (dst : EpState) : (s.stopEp e st x dst).ep e = (s.ep e).stoppedIn dst :=
  (s.ep_stopEp ..).trans (if_pos rfl)

theorem State.stopEp_other (s : State) {e j : Nat} (st : Status) (x : Nat) (dst : EpState) (other : j ≠ e) : (s.stopEp e st x dst).ep j = s.ep j :=
  (s.ep_stopEp ..).trans (if_neg other)

theorem State.stopEp_freeCtr {s : State} {e : Nat} (idle : (s.ep e).chain = none) (st : Status) (x : Nat) (dst : EpState) :
    (s.stopEp e st x dst).freeCtr = s.freeCtr := by
  have same : (s.dropRequests e).endChain e st x false = s.dropRequests e := State.endChain_of_idle (s := s.dropRequests e) idle ..
  rw [State.stopEp, same]
  rfl

end Sys2Proof.Machine
end

section
/-! PROOFS. USB_ROOT_BIND and USB_ROOT_CTRL (R151, R152, R166, R172, R180, R181). -/

namespace Sys2Proof.Machine

/-! ## Roots that stop (R174, R180) -/

theorem State.root_modRoot_self (s : State) (r : Nat) (f : Root → Root) : (s.modRoot r f).root r = f (s.root r) :=
  (s.root_modRoot ..).trans (if_pos rfl)

theorem State.root_modRoot_other (s : State) {r j : Nat} (f : Root → Root) (other : j ≠ r) : (s.modRoot r f).root j = s.root j :=
  (s.root_modRoot ..).trans (if_neg other)

theorem State.root_completeOpt (s : State) (o : Option Cmd) (op : Nat) (st : Status) (d : Nat) (b : List Byte) (r : Nat) :
    (s.completeOpt o op st d b).root r = s.root r := State.root_congr (s.completeOpt_xfer ..) r

theorem State.outst_stopRoot (s : State) (r : Nat) (st : Status) (x : Nat) : ((s.stopRoot r st x).root r).outst = [] := by
  rw [State.stopRoot, State.root_modRoot_self]

theorem State.root_endRootCmds (s : State) (r : Nat) (st : Status) :
    (s.endRootCmds r st).root r = { s.root r with suspendWait := none, resetCmd := none, resumeCmd := none } := by
  rw [State.endRootCmds, State.root_modRoot_self, State.root_completeOpt, State.root_completeOpt, State.root_completeOpt]

/-- Table 6-10: POWERED_OFF leaves nothing outstanding and nothing due. -/
theorem State.root_rootOff (s : State) (r : Nat) :
    let x := (s.rootOff r false).root r
    x.state = .poweredOff ∧ x.outst = [] ∧ x.due = none := by
  simp only [State.rootOff, Bool.false_eq_true, if_false, State.root_modRoot_self, State.root_endRootCmds, State.outst_stopRoot, and_self]

/-- Table 6-10: a native root is held RESETTING for 50 ms, with nothing outstanding. -/
theorem State.root_rootReset {s : State} {r : Nat} (native : tunnelled r = false) (c : Cmd) :
    let t := s.rootReset r c
    (t.root r).state = .resetting ∧ (t.root r).due = some (t.after 50000000) ∧ (t.root r).resetCmd = some c ∧ (t.root r).outst = [] := by
  simp only [State.rootReset, native, Bool.false_eq_true, if_false, State.root_modRoot_self, State.root_completeOpt, State.outst_stopRoot, and_true,
    true_and]
  rfl

/-! ## The actions that only set the root (Table 6-10) -/

/-- Table 6-10: what an action that completes at once makes of its root; a suspend it begins ends at `idle`. -/
def Root.acted (x : Root) (p : List Byte) (idle : Time) : Root :=
  match byteAt p 1 with
  | 1 => { x with state := .disconnected }
  | 5 => { x with state := .suspending, due := some idle }
  | 6 => { x with state := .enabled, due := none }
  | 7 => { x with asyncNext := x.asyncBase }
  | 8 => { x with u1 := le p 4 2, u2 := le p 6 2 }
  | 9 => { x with autoSuspend := bitOf (byteAt p 2) 0 }
  | _ => { state := x.state, speed := x.speed, held := x.held, xid := x.xid }

theorem State.rootAction_acted {s : State} {c : Cmd} (h : byteAt c.payload 1 ∈ [1, 7, 8, 9, 10]
      ∨ (byteAt c.payload 1 = 5 ∧ (s.root (byteAt c.payload 0)).state = .enabled)
      ∨ (byteAt c.payload 1 = 6 ∧ (s.root (byteAt c.payload 0)).state = .suspending)) :
    let x := s.root (byteAt c.payload 0)
    s.rootAction (byteAt c.payload 0) (byteAt c.payload 1) c
      = (s.setRoot (byteAt c.payload 0) (x.acted c.payload (s.after 3000000))).ok c 0x0402 [BitVec.ofNat 8 x.speed] := by
  intro x
  rcases h with listed | ⟨suspend, enabled⟩ | ⟨resume, suspending⟩
  · simp only [List.mem_cons, List.not_mem_nil, or_false] at listed
    rcases listed with h | h | h | h | h <;> simp only [State.rootAction, Root.acted, h, x]
  · simp only [State.rootAction, Root.acted, suspend, enabled, x]
  · simp only [State.rootAction, Root.acted, resume, suspending, x]

/-! ## The commands -/

/-- R151: a root written over leaves the rest of the state. -/
theorem State.setRoot_gives (s : State) (r : Nat) (v : Root) :
    (s.setRoot r v).root r = v ∧ (∀ j, j ≠ r → (s.setRoot r v).root j = s.root j)
      ∧ s.setRoot r v = { s with xfer := { s.xfer with roots := (s.setRoot r v).xfer.roots } } :=
  ⟨(State.root_setRoot ..).trans (if_pos rfl), fun _ other => (State.root_setRoot ..).trans (if_neg other), rfl⟩

section
variable {c : Cmd} {s : State}

theorem usbRootBind_gives (may : s.mayCarry infoUsbRootBind c (checksUsbRootBind c s) = true) :
    let p := c.payload
    let r := byteAt p 0
    let b := s.carried infoUsbRootBind c (checksUsbRootBind c s)
    CompletesOk (exec (.usbRootBind c) s) infoUsbRootBind c (fun _ => []) fun u =>
      u.root r = { b.root r with owner := ownerSlice c.route (le p 3 2), notifyQ := byteAt p 1, notifyTag := 0xFFFF, autoSuspend := bitOf (byteAt p 2) 0
                                 tunLead := if le p 6 2 = 0 then 20 else le p 6 2, perBase := BitVec.ofNat 64 (le p 8 8)
                                 asyncBase := BitVec.ofNat 64 (le p 16 8), asyncNext := BitVec.ofNat 64 (le p 16 8), asyncSleep := false, prefetch := none }
        ∧ (∀ j, j ≠ r → u.root j = b.root j) ∧ u = { b with xfer := { b.xfer with roots := u.xfer.roots } } := by
  intro p r b
  rw [show b.root r = s.root r from s.carried_root ..]
  exact completesOk_command may (completesOk_of_eq_ok ((State.isRunning_setRoot ..).trans (s.carried_isRunning ..)) rfl (b.setRoot_gives ..))

theorem exec_usbRootCtrl (may : s.mayCarry infoUsbRootCtrl c (checksUsbRootCtrl c s) = true) :
    exec (.usbRootCtrl c) s
      = .next ((s.carried infoUsbRootCtrl c (checksUsbRootCtrl c s)).rootAction (byteAt c.payload 0) (byteAt c.payload 1) c) :=
  congrArg Host.Outcome.next (State.command_of_mayCarry may _)

theorem usbRootCtrl_acted (may : s.mayCarry infoUsbRootCtrl c (checksUsbRootCtrl c s) = true)
    (h : byteAt c.payload 1 ∈ [1, 7, 8, 9, 10] ∨ (byteAt c.payload 1 = 5 ∧ (s.root (byteAt c.payload 0)).state = .enabled)
      ∨ (byteAt c.payload 1 = 6 ∧ (s.root (byteAt c.payload 0)).state = .suspending)) :
    let r := byteAt c.payload 0
    let b := s.carried infoUsbRootCtrl c (checksUsbRootCtrl c s)
    CompletesOk (exec (.usbRootCtrl c) s) infoUsbRootCtrl c (fun _ => [BitVec.ofNat 8 (s.root r).speed]) fun u =>
      u.root r = (b.root r).acted c.payload (b.after 3000000) ∧ (∀ j, j ≠ r → u.root j = b.root j)
        ∧ u = { b with xfer := { b.xfer with roots := u.xfer.roots } } := by
  intro r b
  have own : b.root r = s.root r := s.carried_root ..
  rw [← own] at h ⊢
  refine completesOk_of_eq_ok (u := b.setRoot r ((b.root r).acted c.payload (b.after 3000000)))
    ((State.isRunning_setRoot ..).trans (s.carried_isRunning ..)) ?_ (b.setRoot_gives ..)
  rw [exec_usbRootCtrl may, State.rootAction_acted h]
  rfl

theorem usbRootCtrl_powerOff (may : s.mayCarry infoUsbRootCtrl c (checksUsbRootCtrl c s) = true) (off : byteAt c.payload 1 = 2) :
    ∃ t, exec (.usbRootCtrl c) s = .next t ∧ (t.root (byteAt c.payload 0)).state = .poweredOff ∧ (t.root (byteAt c.payload 0)).outst = []
      ∧ (t.root (byteAt c.payload 0)).due = none := by
  refine ⟨_, exec_usbRootCtrl may, ?_⟩
  simp only [State.rootAction, off, State.root_congr (State.ok_xfer ..)]
  exact State.root_rootOff ..

theorem usbRootCtrl_reset (may : s.mayCarry infoUsbRootCtrl c (checksUsbRootCtrl c s) = true)
    (reset : byteAt c.payload 1 = 3 ∨ byteAt c.payload 1 = 4) (native : tunnelled (byteAt c.payload 0) = false) :
    ∃ t, exec (.usbRootCtrl c) s = .next t ∧ (t.root (byteAt c.payload 0)).state = .resetting
      ∧ (t.root (byteAt c.payload 0)).due = some (t.after 50000000) ∧ (t.root (byteAt c.payload 0)).resetCmd = some c
      ∧ (t.root (byteAt c.payload 0)).outst = [] := by
  refine ⟨_, exec_usbRootCtrl may, ?_⟩
  have same (u : State) : u.rootAction (byteAt c.payload 0) (byteAt c.payload 1) c = u.rootReset (byteAt c.payload 0) c := by
    rcases reset with h | h <;> rw [h] <;> rfl
  rw [same]
  exact State.root_rootReset native c

end

/-- Settles O17: each form of the commands has the outcome that its lemma above gives. -/
theorem usbRootCommandsTakeEffect : Obligations.UsbRootCommandsTakeEffect := by
  unfold Obligations.UsbRootCommandsTakeEffect
  refine ⟨?bind, ?acted, ?powerOff, ?reset⟩
  case bind => exact fun c s may _ => usbRootBind_gives may
  case acted => exact fun c s may h => usbRootCtrl_acted may h
  case powerOff => exact fun c s may off => usbRootCtrl_powerOff may off
  case reset => exact fun c s may ⟨reset, native⟩ => usbRootCtrl_reset may reset native

end Sys2Proof.Machine
end

section
/-! PROOFS. The slot and endpoint commands of the USB host engine, and USB_ROOT_QUERY (R153, R154, R155, R174, R192, R272, R273). -/

namespace Sys2Proof.Machine

/-! ## Free slots and contexts (R153, R310) -/

theorem State.freeDslot_congr {s t : State} (h : t.xfer = s.xfer) : t.freeDslot = s.freeDslot := by
  simp only [State.freeDslot, State.dslot, h]

theorem State.freeEp_congr {s t : State} (h : t.xfer = s.xfer) : t.freeEp = s.freeEp := by
  have same (e : Nat) : t.ep e = s.ep e := State.ep_congr h e
  simp only [State.freeEp, same]

theorem State.alloc_of_freeDslot {s : State} (found : s.freeDslot.isNone = false) : (s.dslot (s.freeDslot.getD 0)).alloc = false := by
  obtain ⟨n, hn⟩ := Option.isSome_iff_exists.mp (Option.isNone_eq_false_iff.mp found)
  rw [hn, Option.getD_some]
  simpa using List.find?_some hn

theorem State.ep_of_freeEp {s : State} (found : s.freeEp.isNone = false) : s.ep (s.freeEp.getD 0) = {} := by
  obtain ⟨n, hn⟩ := Option.isSome_iff_exists.mp (Option.isNone_eq_false_iff.mp found)
  rw [hn, Option.getD_some]
  exact of_decide_eq_true (List.find?_some hn :)

/-! ## Tables written over -/

/-- R153: a slot written over leaves the rest of the state. -/
theorem State.setDslot_gives (s : State) (n : Nat) (v : Slot) :
    (s.setDslot n v).dslot n = v ∧ (∀ j, j ≠ n → (s.setDslot n v).dslot j = s.dslot j)
      ∧ s.setDslot n v = { s with xfer := { s.xfer with slots := (s.setDslot n v).xfer.slots } } :=
  ⟨(State.dslot_setDslot ..).trans (if_pos rfl), fun _ other => (State.dslot_setDslot ..).trans (if_neg other), rfl⟩

theorem State.ep_setEp_self (s : State) (e : Nat) (v : Ep) : (s.setEp e v).ep e = v := (State.ep_setEp ..).trans (if_pos rfl)

theorem State.ep_setEp_other (s : State) {e j : Nat} (v : Ep) (other : j ≠ e) : (s.setEp e v).ep j = s.ep j := (State.ep_setEp ..).trans (if_neg other)

/-- R153: an endpoint written over leaves the rest of the state. -/
theorem State.setEp_gives (s : State) (e : Nat) (v : Ep) :
    (s.setEp e v).ep e = v ∧ (∀ j, j ≠ e → (s.setEp e v).ep j = s.ep j)
      ∧ s.setEp e v = { s with xfer := { s.xfer with eps := (s.setEp e v).xfer.eps } } :=
  ⟨s.ep_setEp_self e v, fun _ other => s.ep_setEp_other v other, rfl⟩

/-- R263 step 3: the origin owns the object that the command names. -/
theorem State.mayCarry_owned {s : State} {i : CmdInfo} {c : Cmd} {k : Checks} (may : s.mayCarry i c k = true) : k.owned = true := by
  have passes := State.firstFailure_of_mayCarry may
  cases owned : k.owned with
  | true => rfl
  | false =>
    simp only [firstFailure, owned, Bool.not_false, if_true] at passes
    split at passes
    · exact nomatch passes
    · split at passes
      · exact nomatch passes
      · split_ifs at passes

/-! ## Slots (R153, R154, R273) -/

section
variable {c : Cmd} {s : State}

theorem usbSlotAlloc_gives (may : s.mayCarry infoUsbSlotAlloc c (checksUsbSlotAlloc c s) = true) :
    let p := c.payload
    let b := s.carried infoUsbSlotAlloc c (checksUsbSlotAlloc c s)
    let n := b.freeDslot.getD 0
    CompletesOk (exec (.usbSlotAlloc c) s) infoUsbSlotAlloc c (fun _ => toLe 2 (s.freeDslot.getD 0)) fun u =>
      u.dslot n = { root := byteAt p 0, route := BitVec.ofNat 20 (le p 4 3), tport := byteAt p 2, speed := byteAt p 1, hubSlot := le p 8 2
                    hubPort := byteAt p 10, alloc := true }
        ∧ (u.dslot n).addr = 0 ∧ (b.dslot n).alloc = false ∧ (∀ j, j ≠ n → u.dslot j = b.dslot j)
        ∧ u = { b with xfer := { b.xfer with slots := u.xfer.slots } } := by
  intro p b n
  obtain ⟨-, -, free⟩ := State.mayCarry_passes may
  have found : s.freeDslot.isNone = false := failIf_eq_none.mp (firstSome_eq_none free (failIf s.freeDslot.isNone .noResource 0) (by simp))
  have same : b.freeDslot = s.freeDslot := State.freeDslot_congr (s.carried_xfer ..)
  have vacant : (b.dslot n).alloc = false := State.alloc_of_freeDslot (by rw [same]; exact found)
  rw [← same]
  let slot : Slot :=
    { root := byteAt p 0, route := BitVec.ofNat 20 (le p 4 3), tport := byteAt p 2, speed := byteAt p 1, hubSlot := le p 8 2, hubPort := byteAt p 10, alloc := true }
  obtain ⟨own, other, frame⟩ := b.setDslot_gives n slot
  refine completesOk_command may (completesOk_of_eq_ok ((State.isRunning_setDslot ..).trans (s.carried_isRunning ..)) ?_
    ⟨own, congrArg Slot.addr own, vacant, other, frame⟩)
  rw [← same]
  rfl

theorem usbSlotFree_gives (may : s.mayCarry infoUsbSlotFree c (checksUsbSlotFree c s) = true) :
    let n := le c.payload 0 2
    let b := s.carried infoUsbSlotFree c (checksUsbSlotFree c s)
    CompletesOk (exec (.usbSlotFree c) s) infoUsbSlotFree c (fun _ => []) fun u =>
      u.dslot n = {} ∧ (∀ j, j ≠ n → u.dslot j = b.dslot j) ∧ u = { b with xfer := { b.xfer with slots := u.xfer.slots } } := by
  intro n b
  exact completesOk_command may (completesOk_of_eq_ok ((State.isRunning_setDslot ..).trans (s.carried_isRunning ..)) rfl (b.setDslot_gives ..))

/-! ## USB_EP_CONFIG (R153, R155, R174) -/

/-- R155: a new endpoint of the host is IDLE in the lowest free context. -/
theorem usbEpConfig_enables (may : s.mayCarry infoUsbEpConfig c (checksUsbEpConfig c s) = true) (on : bitOf (byteAt c.payload 2) 7 = true)
    (host : bitOf (le c.payload 0 2) 15 = false) :
    let b := s.carried infoUsbEpConfig c (checksUsbEpConfig c s)
    let n := b.freeEp.getD 0
    CompletesOk (exec (.usbEpConfig c) s) infoUsbEpConfig c (fun _ => toLe 2 (s.freeEp.getD 0)) fun u =>
      u.ep n = newEp c ∧ b.ep n = {} ∧ (∀ j, j ≠ n → u.ep j = b.ep j) ∧ u = { b with xfer := { b.xfer with eps := u.xfer.eps } } := by
  intro b n
  obtain ⟨-, -, free⟩ := State.mayCarry_passes may
  have found : s.freeEp.isNone = false := by
    have room := failIf_eq_none.mp (firstSome_eq_none free _ (List.mem_of_getLast? rfl))
    rw [on, Bool.true_and, Bool.or_eq_false_iff, Bool.or_eq_false_iff] at room
    exact room.1.2
  have same : b.freeEp = s.freeEp := State.freeEp_congr (s.carried_xfer ..)
  have vacant : b.ep n = {} := State.ep_of_freeEp (by rw [same]; exact found)
  have hostEp : (newEp c).ofDevice = false := host
  rw [← same]
  obtain ⟨own, other, frame⟩ := b.setEp_gives n (newEp c)
  refine completesOk_command may (completesOk_of_eq_ok ((State.isRunning_setEp ..).trans (s.carried_isRunning ..)) ?_ ⟨own, vacant, other, frame⟩)
  simp only [on, hostEp, if_true, Bool.false_and, Bool.false_eq_true, if_false, ← same]
  rfl

/-- R174: an endpoint disabled with no chain in progress and nothing in its ring leaves its context free at once. -/
theorem State.disableEp_idle {s : State} {e : Nat} (idle : (s.ep e).chain = none) (empty : (s.ep e).used = 0) (st : Status) (g : BitVec 8) :
    let t := s.disableEp e st g
    t.ep e = {} ∧ (∀ j, j ≠ e → t.ep j = s.ep j) ∧ t = { s with xfer := t.xfer } ∧ ∀ v, t.drainEnding v e 32768 = t := by
  have stopped : (s.stopEp e st 0 .disabled).ep e = (s.ep e).stoppedIn .disabled := s.stopEp_own ..
  have used : ((s.stopEp e st 0 .disabled).ep e).used = 0 := by
    rw [stopped, Ep.stoppedIn, Ep.unchained_of_idle idle]
    exact empty
  have freed : s.disableEp e st g = (s.stopEp e st 0 .disabled).setEp e {} := if_pos used
  intro t
  have own : t.ep e = {} := by rw [show t = _ from freed, State.ep_setEp_self]
  refine ⟨own, fun j other => ?_, ?_, fun v => ?_⟩
  · rw [show t = _ from freed, State.ep_setEp_other _ _ other, State.stopEp_other _ _ _ _ other]
  · have same : (s.dropRequests e).endChain e st 0 false = s.dropRequests e := State.endChain_of_idle (s := s.dropRequests e) idle ..
    rw [show t = _ from freed, State.stopEp, same]
    rfl
  · simp only [State.drainEnding, own]

theorem usbEpConfig_disables (may : s.mayCarry infoUsbEpConfig c (checksUsbEpConfig c s) = true) (off : bitOf (byteAt c.payload 2) 7 = false)
    (idle : (s.ep (le c.payload 24 2)).chain = none) (empty : (s.ep (le c.payload 24 2)).used = 0) :
    let e := le c.payload 24 2
    let b := s.carried infoUsbEpConfig c (checksUsbEpConfig c s)
    CompletesOk (exec (.usbEpConfig c) s) infoUsbEpConfig c (fun _ => toLe 2 e) fun u =>
      u.ep e = {} ∧ (∀ j, j ≠ e → u.ep j = b.ep j) ∧ u = { b with xfer := u.xfer } := by
  intro e b
  have same : b.ep e = s.ep e := s.carried_ep ..
  obtain ⟨own, other, frame, drained⟩ := State.disableEp_idle (s := b) (by rw [same]; exact idle) (by rw [same]; exact empty)
    .aborted (b.slice c.home.1 c.home.2).gen
  refine completesOk_command may (completesOk_of_eq_ok ?_ ?_ ⟨own, other, frame⟩)
  · rw [frame]
    exact s.carried_isRunning ..
  · simp only [off, Bool.false_eq_true, if_false]
    exact congrArg (fun u : State => Host.Outcome.next (u.ok c 0x0405 (toLe 2 e))) (drained _)

/-! ## USB_EP_RESET, USB_EP_STOP, USB_EP_SET_DEQ (R174) -/

/-- R174: the endpoint that a reset lets run again; one that was HALTED starts its toggle and sequence number again. -/
def Ep.cleared (x : Ep) : Ep :=
  if x.state = .halted then { x with toggle := false, seqnum := 0, resetStop := false, cfgStop := false } else { x with resetStop := false, cfgStop := false }

theorem Ep.cleared_eq (x : Ep) : { x.cleared with state := x.cleared.restState }
    = { x with resetStop := false, cfgStop := false, state := if x.used = 0 then .idle else .active
               toggle := x.toggle && decide (x.state ≠ .halted), seqnum := if x.state = .halted then 0 else x.seqnum } := by
  unfold Ep.cleared
  by_cases halted : x.state = .halted
  · simp only [halted, if_true, ne_eq, not_true_eq_false, decide_false, Bool.and_false]
    rfl
  · simp only [halted, if_false, ne_eq, not_false_eq_true, decide_true, Bool.and_true]
    rfl

theorem usbEpReset_gives (may : s.mayCarry infoUsbEpReset c (checksUsbEpReset c s) = true) :
    let e := le c.payload 0 2
    let b := s.carried infoUsbEpReset c (checksUsbEpReset c s)
    let x := b.ep e
    CompletesOk (exec (.usbEpReset c) s) infoUsbEpReset c (fun _ => toLe 2 (s.ep e).cons) fun u =>
      u.ep e = { x with resetStop := false, cfgStop := false, state := if x.used = 0 then .idle else .active
                        toggle := x.toggle && decide (x.state ≠ .halted), seqnum := if x.state = .halted then 0 else x.seqnum }
        ∧ (∀ j, j ≠ e → u.ep j = b.ep j) ∧ u = { b with xfer := { b.xfer with eps := u.xfer.eps } } := by
  intro e b x
  have same : x = s.ep e := s.carried_ep ..
  refine completesOk_command may (completesOk_of_eq_ok ((State.isRunning_setEp ..).trans (s.carried_isRunning ..)) ?_ (b.setEp_gives ..))
  rw [same]
  exact congrArg (fun y : Ep => Host.Outcome.next ((b.setEp e y).ok c 0x0406 (toLe 2 (s.ep e).cons))) (s.ep e).cleared_eq

/-- R174: the endpoint is STOPPED, its chain ended; without one the consumer index stays, and no completion is posted. -/
theorem usbEpStop_gives (may : s.mayCarry infoUsbEpStop c (checksUsbEpStop c s) = true) :
    let e := le c.payload 0 2
    let b := s.carried infoUsbEpStop c (checksUsbEpStop c s)
    CompletesOk (exec (.usbEpStop c) s) infoUsbEpStop c (fun u => toLe 2 (u.ep e).cons) fun u =>
      (u.ep e).state = .stopped ∧ (u.ep e).chain = none ∧ (u.ep e).busy = false ∧ (u.ep e).latched = (u.ep e).cons
        ∧ ((b.ep e).chain = none → (u.ep e).cons = (b.ep e).cons) ∧ (∀ j, j ≠ e → u.ep j = b.ep j)
        ∧ ((b.ep e).chain = none → u.freeCtr = b.freeCtr) ∧ u = { b with xfer := u.xfer, hosts := u.hosts, freeCtr := u.freeCtr } := by
  intro e b
  have same : b.ep e = s.ep e := s.carried_ep ..
  have owned : (b.ep e).owner.isSome = true := by
    have owns : c.owns (s.ep e).owner = true := State.mayCarry_owned may
    rw [same]
    exact (Bool.and_eq_true_iff.mp owns).2
  have own : (b.stopEp e .aborted 0 .stopped).ep e = (b.ep e).stoppedIn .stopped := b.stopEp_own ..
  have frame := b.stopEp_frame e .aborted 0 .stopped
  refine completesOk_command may (completesOk_of_eq_ok (u := b.stopEp e .aborted 0 .stopped) ?_ rfl ?_)
  · rw [State.isRunning_congr (State.stopEp_running ..)]
    exact s.carried_isRunning ..
  · rw [own]
    exact ⟨rfl, Ep.chain_unchained owned, rfl, rfl, fun idle => (congrArg Ep.cons (Ep.unchained_of_idle idle) :), fun j other => b.stopEp_other _ _ _ other,
      fun idle => State.stopEp_freeCtr idle .., frame⟩

theorem usbEpSetDeq_gives (may : s.mayCarry infoUsbEpSetDeq c (checksUsbEpSetDeq c s) = true) :
    let e := le c.payload 0 2
    let b := s.carried infoUsbEpSetDeq c (checksUsbEpSetDeq c s)
    CompletesOk (exec (.usbEpSetDeq c) s) infoUsbEpSetDeq c (fun _ => []) fun u =>
      (u.ep e).cons = le c.payload 2 2 ∧ (u.ep e).prod = (b.ep e).prod ∧ (u.ep e).chain = (b.ep e).chain
        ∧ ((b.ep e).state ≠ .idle → (u.ep e).state = (b.ep e).state) ∧ (∀ j, j ≠ e → u.ep j = b.ep j)
        ∧ u = { b with xfer := { b.xfer with eps := u.xfer.eps } } := by
  intro e b
  have same : b.ep e = s.ep e := s.carried_ep ..
  let y : Ep := { s.ep e with cons := le c.payload 2 2 }
  obtain ⟨own, other, frame⟩ := b.setEp_gives e { y with state := if y.state = .idle then y.restState else y.state }
  refine completesOk_command may (completesOk_of_eq_ok ((State.isRunning_setEp ..).trans (s.carried_isRunning ..)) rfl
    ⟨congrArg Ep.cons own, ?_, ?_, fun busy => ?_, other, frame⟩)
  · rw [own, same]
  · rw [own, same]
  · rw [own]
    rw [same] at busy ⊢
    exact if_neg busy

/-- R272: a query gives the fields of the root, slot or endpoint and changes nothing. -/
theorem usbRootQuery_gives (may : s.mayCarry infoUsbRootQuery c (checksUsbRootQuery c s) = true) :
    let n := le c.payload 2 2
    CompletesOk (exec (.usbRootQuery c) s) infoUsbRootQuery c (fun _ =>
      match byteAt c.payload 1 with
      | 0 => let x := s.root (byteAt c.payload 0); toLe 1 x.state.ctorIdx ++ toLe 1 x.speed ++ toLe 1 (flag x.held)
      | 1 => let d := s.dslot n; toLe 1 d.addr ++ toLe 1 d.speed ++ toLe 1 d.tport
      | _ => let x := s.ep n
             toLe 1 x.state.ctorIdx ++ [0] ++ toLe 2 x.cons ++ toLe 2 x.prod ++ toLe 1 (flag x.toggle) ++ toLe 1 x.seqnum)
      fun u => u = s.carried infoUsbRootQuery c (checksUsbRootQuery c s) := by
  refine completesOk_command may (completesOk_of_eq_ok (s.carried_isRunning ..) ?_ rfl)
  simp only [State.carried_root, State.carried_dslot, State.carried_ep]
  rfl

end

/-- Settles O18: each command has the outcome that its lemma above gives. -/
theorem usbSlotAndEndpointCommandsComplete : Obligations.UsbSlotAndEndpointCommandsComplete := by
  unfold Obligations.UsbSlotAndEndpointCommandsComplete
  refine ⟨?alloc, ?free, ?enable, ?disable, ?reset, ?stop, ?setDeq, ?query⟩
  case alloc => exact fun c s may _ => usbSlotAlloc_gives may
  case free => exact fun c s may _ => usbSlotFree_gives may
  case enable => exact fun c s may ⟨on, host⟩ => usbEpConfig_enables may on host
  case disable => exact fun c s may ⟨off, idle, empty⟩ => usbEpConfig_disables may off idle empty
  case reset => exact fun c s may _ => usbEpReset_gives may
  case stop => exact fun c s may _ => usbEpStop_gives may
  case setDeq => exact fun c s may _ => usbEpSetDeq_gives may
  case query => exact fun c s may _ => usbRootQuery_gives may

end Sys2Proof.Machine
end

section
/-! PROOFS. What admission of cells to Marl leaves alone: the transfer engines and the staging buffers (R121, R125, R132 to R134). -/

namespace Sys2Proof.Machine

/-- R132: the transfer engines and the staging buffers are as they were. -/
structure State.Admitted (s t : State) : Prop where
  xfer : t.xfer = s.xfer
  staging : t.marl.staging = s.marl.staging

namespace State.Admitted

theorem refl (s : State) : s.Admitted s := ⟨rfl, rfl⟩

variable {s t u : State}

theorem ite {c : Prop} [Decidable c] (ht : s.Admitted t) (hu : s.Admitted u) : s.Admitted (if c then t else u) := by
  split_ifs <;> assumption

section
variable (h : s.Admitted t)
include h

theorem of_eq (xfer : u.xfer = t.xfer := by rfl) (staging : u.marl.staging = t.marl.staging := by rfl) : s.Admitted u :=
  ⟨xfer.trans h.xfer, staging.trans h.staging⟩

theorem foldl {α : Type} {f : State → α → State} {l : List α} (hf : ∀ (t : State) (x : α), s.Admitted t → s.Admitted (f t x)) :
    s.Admitted (l.foldl f t) := by
  induction l generalizing t with
  | nil => exact h
  | cons x l ih => exact ih (hf t x h)

theorem takeSpace {cls v} (e : t.takeSpace cls = some v) : s.Admitted v := by
  simp only [State.takeSpace] at e
  split_ifs at e
  all_goals
    cases e
    exact h.of_eq

theorem writesGoOn {n} : s.Admitted (State.writesGoOn n t) := by
  induction n generalizing t with
  | zero => exact h
  | succ n ih =>
    unfold State.writesGoOn
    split
    · exact h
    · split
      · exact h
      · exact ih h.of_eq

theorem enqueueCell {a q flow c} : s.Admitted (t.enqueueCell a q flow c) := by
  simp only [State.enqueueCell]
  split
  · exact h.of_eq
  · exact (h.of_eq (u := t.modMarl _)).writesGoOn

theorem admitLossless {n a q flow c} : s.Admitted (t.admitLossless n a q flow c) :=
  .ite h (h.of_eq (u := t.modMarl _)).enqueueCell

theorem admitLossy {a q flow c} : s.Admitted (t.admitLossy a q flow c) := by
  simp only [State.admitLossy]
  refine .ite h.of_eq ?_
  split
  · next e => exact (h.takeSpace e).enqueueCell
  · exact h.of_eq (State.event_xfer ..) (by rw [State.event_marl]; rfl)

theorem clientCell {tid bl poison payload} : s.Admitted (t.clientCell tid bl poison payload) := by
  simp only [State.clientCell]
  split
  · exact h
  · exact .ite h.of_eq (.ite (.ite h.admitLossy h.admitLossless) h)

theorem sendRecords {tid rs} : s.Admitted (t.sendRecords tid rs) := by
  simp only [State.sendRecords]
  split
  · exact h
  · exact h.foldl fun _ _ g => g.clientCell

end

end State.Admitted

end Sys2Proof.Machine
end

section
/-! PROOFS. The events of a root of the USB host engine: connect, disconnect, reset, suspend, resume, remote wake, U1 and U2 (R172, R177, R178, R180, R181). -/

namespace Sys2Proof.Machine

/-! ## Connect and disconnect (R180, R181) -/

theorem State.root_rootNotice (s : State) (r code tport j : Nat) : (s.rootNotice r code tport).root j = s.root j :=
  State.root_congr (s.rootNotice_xfer ..) j

section
variable {r : Fin 24} {s : State}

theorem rootConnect_gives {speed : Fin 7} (native : r.val < 12) (absent : (s.root r).state = .disconnected)
    (offered : (s.port r.val).pd.rootSpeedOk speed.val = true) :
    Gives (.rootConnect r speed) s fun t =>
      t.root r = { s.root r with state := .connected, speed := speed } ∧ (∀ j, j ≠ r.val → t.root j = s.root j) := by
  have untunnelled : tunnelled r.val = false := decide_eq_false (by omega)
  have connects : exec (.rootConnect r speed) s
      = .next ((s.modRoot r fun x => { x with state := .connected, speed := speed.val }).rootNotice r 0x10 0) :=
    if_pos (by simp only [absent, untunnelled, offered, decide_true, Bool.not_false, Bool.and_self])
  refine Gives.of_eq connects ⟨?_, fun j other => ?_⟩
  · rw [State.root_rootNotice, State.root_modRoot_self]
  · rw [State.root_rootNotice, State.root_modRoot_other _ _ other]

theorem exec_rootConnect_idle {speed : Fin 7}
    (idle : 12 ≤ r.val ∨ (s.root r).state ≠ .disconnected ∨ (s.port r.val).pd.rootSpeedOk speed.val = false) :
    exec (.rootConnect r speed) s = .next s := by
  refine if_neg ?_
  simp only [Bool.and_eq_true, decide_eq_true_eq, Bool.not_eq_true', tunnelled, decide_eq_false_iff_not, not_and, Bool.not_eq_true, not_le]
  rintro ⟨absent, native⟩
  rcases idle with h | h | h
  · omega
  · exact absurd absent h
  · exact h

/-- R180: a root that disconnects has nothing outstanding, and no command waits on it. -/
theorem State.root_rootDisconnect {s : State} {r : Nat} (powered : (s.root r).state ≠ .poweredOff) (present : (s.root r).state ≠ .disconnected) :
    let x := (s.rootDisconnect r).root r
    x.state = .disconnected ∧ x.outst = [] ∧ x.resetCmd = none ∧ x.suspendWait = none ∧ x.resumeCmd = none := by
  simp only [State.rootDisconnect, powered, present, decide_false, Bool.or_self, Bool.false_eq_true, if_false, State.root_rootNotice,
    State.root_modRoot_self, State.root_endRootCmds, State.outst_stopRoot, and_self]

theorem exec_rootDisconnect_native (native : r.val < 12) : exec (.rootDisconnect r) s = .next (s.rootDisconnect r) :=
  if_neg (by simp only [tunnelled, decide_eq_true_eq]; omega)

/-! ## Reset, suspend and resume (R180, R181) -/

/-- R181: a root that is ENABLED goes on to suspend where a SUSPEND waited for it. -/
def Root.goesOn (x : Root) (idle : Time) : Root :=
  if x.suspendWait.isSome then { x with suspendWait := none, state := .suspending, due := some idle } else x

/-- R181: a SUSPEND that waited runs once its root is as `v` says; what else happened meanwhile left the engine alone. -/
theorem State.runSuspend_gives {s t : State} {r : Nat} {v : Root} (told : t.xfer = (s.setRoot r v).xfer) :
    let u := t.runSuspend r
    u.root r = v.goesOn (t.after 3000000) ∧ (∀ j, j ≠ r → u.root j = s.root j) ∧ u.xfer.eps = s.xfer.eps := by
  have own : t.root r = v := (State.root_congr told r).trans ((State.root_setRoot ..).trans (if_pos rfl))
  have other (j : Nat) (h : j ≠ r) : t.root j = s.root j := (State.root_congr told j).trans ((State.root_setRoot ..).trans (if_neg h))
  have eps : t.xfer.eps = s.xfer.eps := (congrArg Xfer.eps told :)
  simp only [State.runSuspend, own, Root.goesOn]
  cases wait : v.suspendWait with
  | none => exact ⟨own, other, eps⟩
  | some c =>
    have root (j : Nat) (w : Root) (b : List Byte) : ((t.setRoot r w).ok c 0x0402 b).root j = if j = r then w else t.root j :=
      (State.root_congr (State.ok_xfer ..) j).trans (State.root_setRoot ..)
    exact ⟨(root ..).trans (if_pos rfl), fun j h => ((root ..).trans (if_neg h)).trans (other j h), (congrArg Xfer.eps (State.ok_xfer ..)).trans eps⟩

theorem Root.state_goesOn (x : Root) (idle : Time) : (x.goesOn idle).state = if x.suspendWait.isSome then .suspending else x.state := by
  unfold Root.goesOn
  split <;> rfl

/-- R181: going on to suspend keeps the speed, what a resume clears, and the command of a reset. -/
theorem Root.goesOn_keeps (x : Root) (idle : Time) : let y := x.goesOn idle
    y.speed = x.speed ∧ y.resetCmd = x.resetCmd ∧ y.pingWait = x.pingWait ∧ y.uState = x.uState ∧ y.resumeCmd = x.resumeCmd := by
  unfold Root.goesOn
  split <;> exact ⟨rfl, rfl, rfl, rfl, rfl⟩

theorem rootResetEnd_gives {speed : Fin 7} (resetting : (s.root r).state = .resetting) (due : s.due (s.root r).due = true)
    (offered : 12 ≤ r.val ∨ (s.port r.val).pd.rootSpeedOk speed.val = true) :
    Gives (.rootResetEnd r speed) s fun t =>
      (t.root r).state = (if (s.root r).suspendWait.isSome then .suspending else .enabled) ∧ (t.root r).speed = speed ∧ (t.root r).resetCmd = none
        ∧ (∀ j, j ≠ r.val → t.root j = s.root j) ∧ t.xfer.eps = s.xfer.eps := by
  let x := s.root r
  let v : Root := { x with state := .enabled, due := none, speed := speed.val, wakeLost := false, wakeFrom := false, resetCmd := none }
  let lost := if x.wakeLost then (s.setRoot r v).rootNotice r 0x16 0 else s.setRoot r v
  let told := (lost.rootNotice r 0x12 0).completeOpt x.resetCmd 0x0402 .ok 0 [BitVec.ofNat 8 speed.val]
  have offers : (tunnelled r.val || (s.port r.val).pd.rootSpeedOk speed.val) = true := by
    simpa only [tunnelled, Bool.or_eq_true, decide_eq_true_eq] using offered
  have ends : exec (.rootResetEnd r speed) s = .next (told.runSuspend r) :=
    if_pos (by simp only [resetting, due, offers, decide_true, Bool.and_self])
  have engine : told.xfer = (s.setRoot r v).xfer := by
    rw [State.completeOpt_xfer, State.rootNotice_xfer]
    simp only [lost]
    split
    · exact State.rootNotice_xfer ..
    · rfl
  obtain ⟨own, other, eps⟩ := State.runSuspend_gives engine
  obtain ⟨keptSpeed, cmd, -⟩ := v.goesOn_keeps (told.after 3000000)
  refine Gives.of_eq ends ⟨?_, ?_, ?_, other, eps⟩
  · rw [own, Root.state_goesOn]
  · rw [own, keptSpeed]
  · rw [own, cmd]

theorem rootSuspendIdle_gives (suspending : (s.root r).state = .suspending) (due : s.due (s.root r).due = true) :
    Gives (.rootSuspendIdle r) s fun t =>
      t.root r = { s.root r with state := .suspended, due := none, uState := 3 } ∧ (∀ j, j ≠ r.val → t.root j = s.root j) := by
  have idle : exec (.rootSuspendIdle r) s
      = .next ((s.setRoot r { s.root r with state := .suspended, due := none, uState := 3 }).rootNotice r 0x13 0) :=
    if_pos (by simp only [suspending, due, decide_true, Bool.and_self])
  refine Gives.of_eq idle ⟨?_, fun j other => ?_⟩
  · rw [State.root_rootNotice, State.root_setRoot, if_pos rfl]
  · rw [State.root_rootNotice, State.root_setRoot, if_neg other]

/-- R180: a root whose resume is over, ENABLED or going on to suspend, in U0. -/
theorem State.root_resumed (s : State) (r : Nat) :
    let t := s.resumed r
    (t.root r).state = (if (s.root r).suspendWait.isSome then .suspending else .enabled) ∧ (t.root r).pingWait = false ∧ (t.root r).uState = 0
      ∧ (t.root r).resumeCmd = none ∧ (∀ j, j ≠ r → t.root j = s.root j) ∧ t.xfer.eps = s.xfer.eps := by
  intro t
  let x := s.root r
  let v : Root := { x with state := .enabled, due := none, wakeFrom := false, pingWait := false, pingHeld := false, uState := 0, resumeCmd := none }
  let told := ((s.setRoot r v).rootNotice r 0x14 0).completeOpt x.resumeCmd 0x0402 .ok 0 [BitVec.ofNat 8 x.speed]
  have engine : told.xfer = (s.setRoot r v).xfer := (State.completeOpt_xfer ..).trans (State.rootNotice_xfer ..)
  obtain ⟨own, other, eps⟩ := State.runSuspend_gives engine
  obtain ⟨-, -, ping, link, cmd⟩ := v.goesOn_keeps (told.after 3000000)
  rw [show t.root r = _ from own]
  exact ⟨Root.state_goesOn .., ping, link, cmd, other, eps⟩

theorem resumeEnd_gives {i : Fin 24 → Instr} (ends : i = .rootResumeEnd ∧ r.val < 12 ∨ i = .tunRootResumeWaitEnd ∧ 12 ≤ r.val)
    (resuming : (s.root r).state = .resuming) (due : s.due (s.root r).due = true) : exec (i r) s = .next (s.resumed r) := by
  rcases ends with ⟨rfl, native⟩ | ⟨rfl, far⟩
  · have untunnelled : tunnelled r.val = false := decide_eq_false (by omega)
    exact if_pos (by simp only [resuming, due, untunnelled, decide_true, Bool.not_false, Bool.and_self])
  · have far' : tunnelled r.val = true := decide_eq_true far
    exact if_pos (by simp only [resuming, due, far', decide_true, Bool.and_self])

/-! ## Remote wake and the resume PING (R177, R178, R180) -/

/-- R22, R177: without a crossing credit the PING is held. -/
theorem State.sendPing_held {s : State} (dry : Tab.get 0 s.marl.crossing (agentXfer * 8 + 2) = 0) (r : Nat) :
    s.sendPing r = s.modRoot r fun x => { x with pingHeld := true } := if_pos dry

/-- R177: with a crossing credit the PING goes, and its 30 ms run. -/
theorem State.root_sendPing {s : State} (credit : Tab.get 0 s.marl.crossing (agentXfer * 8 + 2) ≠ 0) (r : Nat) :
    let x := (s.sendPing r).root r
    x.state = (s.root r).state ∧ x.wakeFrom = (s.root r).wakeFrom ∧ x.pingWait = (s.root r).pingWait ∧ x.due = some (s.after 30000000) := by
  let y := (s.root r).takeXid.1
  let v : Root := { y with pingHeld := false, due := some (s.after 30000000)
                           outst := y.outst ++ [{ xid := (s.root r).takeXid.2, ep := none, cycle := s.nextFormed r, len := 0 }] }
  obtain ⟨recs, sent⟩ : ∃ recs, s.sendPing r = (s.setRoot r v).sendRecords ((s.setRoot r v).usbTunnel r false) recs := ⟨_, if_neg credit⟩
  have own : (s.sendPing r).root r = v := by
    rw [sent, State.root_congr (State.Admitted.refl _).sendRecords.xfer, State.root_setRoot, if_pos rfl]
  intro x
  rw [show x = v from own]
  exact ⟨rfl, rfl, rfl, rfl⟩

/-- R177, R181: how a resume begins: on a native root its 30 ms run at once, on a tunnelled one from the PING, which needs a crossing credit. -/
theorem State.root_beginResume (s : State) (r : Nat) (wake : Bool) :
    let t := s.beginResume r wake
    (t.root r).state = .resuming ∧ (t.root r).wakeFrom = wake ∧ (t.root r).pingWait = tunnelled r
      ∧ (tunnelled r = false ∨ Tab.get 0 s.marl.crossing (agentXfer * 8 + 2) ≠ 0 → (t.root r).due = some (s.after 30000000))
      ∧ (tunnelled r = true → Tab.get 0 s.marl.crossing (agentXfer * 8 + 2) = 0 →
          (t.root r).due = none ∧ (t.root r).pingHeld = true ∧ (t.root r).outst = (s.root r).outst) := by
  cases far : tunnelled r with
  | false =>
    simp only [State.beginResume, far, Bool.false_eq_true, if_false, State.root_modRoot_self, implies_true, false_implies, and_true]
  | true =>
    let v := s.modRoot r fun x => { x with state := .resuming, wakeFrom := wake, pingWait := true, due := none }
    have begins : s.beginResume r wake = v.sendPing r := by simp only [State.beginResume, far, if_true, v]
    rw [begins]
    have own : v.root r = { s.root r with state := .resuming, wakeFrom := wake, pingWait := true, due := none } := State.root_modRoot_self ..
    by_cases dry : Tab.get 0 s.marl.crossing (agentXfer * 8 + 2) = 0
    · rw [State.sendPing_held (s := v) dry]
      intro t
      have held : t.root r = { v.root r with pingHeld := true } := State.root_modRoot_self ..
      rw [held, own]
      exact ⟨rfl, rfl, rfl, fun h => h.elim nofun (absurd dry), fun _ _ => ⟨rfl, rfl, rfl⟩⟩
    · obtain ⟨state, from', wait, due⟩ := State.root_sendPing (s := v) dry r
      rw [own] at state from' wait
      exact ⟨state, from', wait, fun _ => due, fun _ h => absurd h dry⟩

theorem remoteWake_suspended {n : Fin 16} (suspended : (s.root r).state = .suspended) :
    Gives (.remoteWake r n) s fun t =>
      (t.root r).state = .resuming ∧ (t.root r).wakeFrom = true ∧ (t.root r).pingWait = decide (12 ≤ r.val)
        ∧ (r.val < 12 ∨ Tab.get 0 s.marl.crossing (agentXfer * 8 + 2) ≠ 0 → (t.root r).due = some (s.after 30000000))
        ∧ (12 ≤ r.val → Tab.get 0 s.marl.crossing (agentXfer * 8 + 2) = 0 →
            (t.root r).due = none ∧ (t.root r).pingHeld = true ∧ (t.root r).outst = (s.root r).outst) := by
  let u := s.rootNotice r 0x15 (if tunnelled r.val then n.val else 0)
  have wakes : exec (.remoteWake r n) s = .next (u.beginResume r true) := by
    change Host.Outcome.next (s.remoteWake r _) = _
    rw [State.remoteWake, suspended]
  obtain ⟨state, from', wait, due, held⟩ := u.root_beginResume r true
  rw [show u.marl = s.marl from State.rootNotice_marl ..] at due held
  rw [show u.root r = s.root r from State.root_rootNotice ..] at held
  have time : u.after 30000000 = s.after 30000000 := congrArg (fun c : Clock => c.now + BitVec.ofNat 64 30000000) (State.rootNotice_clock ..)
  refine Gives.of_eq wakes ⟨state, from', wait, fun h => ?_, fun far => held (decide_eq_true far)⟩
  rw [← time]
  exact due (h.imp_left fun native => decide_eq_false (by omega))

theorem remoteWake_resetting {n : Fin 16} (resetting : (s.root r).state = .resetting) :
    Gives (.remoteWake r n) s fun t => t.root r = { s.root r with wakeLost := true } ∧ t = { s with xfer := t.xfer } := by
  have wakes : exec (.remoteWake r n) s = .next (s.modRoot r fun x => { x with wakeLost := true }) := by
    change Host.Outcome.next (s.remoteWake r _) = _
    rw [State.remoteWake, resetting]
  exact Gives.of_eq wakes ⟨State.root_modRoot_self .., rfl⟩

theorem exec_remoteWake_idle {n : Fin 16} (native : r.val < 12) (awake : (s.root r).state ≠ .suspended) (quiet : (s.root r).state ≠ .resetting) :
    exec (.remoteWake r n) s = .next s := by
  have untunnelled : tunnelled r.val = false := decide_eq_false (by omega)
  change Host.Outcome.next (s.remoteWake r _) = _
  unfold State.remoteWake
  split
  · next h => exact absurd h awake
  · next h => exact absurd h quiet
  · rw [untunnelled]; rfl

/-! ## U1 and U2 (R172) -/

/-- R172: the link power state that a cause leads to. -/
def Root.uNext (x : Root) (cause : U1u2Cause) : Nat :=
  if cause = .activity then 0 else if cause ≠ .timeout then max x.uState cause.asked else if x.uState = 0 ∧ x.u1 ≠ 0 then 1
  else if x.uState < 2 ∧ x.u2 ≠ 0 then 2 else x.uState

/-- R172: the link of an ENABLED native SuperSpeed root enters the state that the cause leads to; where it is in it, nothing happens. -/
theorem exec_u1u2Timeout {cause : U1u2Cause} (native : r.val < 12) (enabled : (s.root r).state = .enabled) (ss : 3 ≤ (s.root r).speed) :
    exec (.u1u2Timeout r cause) s = .next (s.setRoot r { s.root r with uState := (s.root r).uNext cause })
      ∨ exec (.u1u2Timeout r cause) s = .next s ∧ (s.root r).uNext cause = (s.root r).uState := by
  have skip : ¬ (tunnelled r.val || decide ((s.root r).state ≠ .enabled) || decide ((s.root r).speed < 3)) = true := by
    simp only [tunnelled, enabled, Bool.or_eq_true, decide_eq_true_eq, ne_eq, not_true_eq_false, or_false, not_or, not_le, not_lt]
    exact ⟨native, ss⟩
  change execU1u2Timeout r cause s = _ ∨ execU1u2Timeout r cause s = _ ∧ _
  rw [execU1u2Timeout, if_neg skip, Root.uNext]
  by_cases activity : cause = .activity
  · rw [if_pos activity, if_pos activity]
    exact .inl rfl
  rw [if_neg activity, if_neg activity]
  by_cases asked : cause ≠ .timeout
  · rw [if_pos asked, if_pos asked]
    by_cases deeper : (s.root r).uState < cause.asked
    · rw [if_pos deeper, max_eq_right deeper.le]
      exact .inl rfl
    · rw [if_neg deeper]
      exact .inr ⟨rfl, max_eq_left (not_lt.mp deeper)⟩
  rw [if_neg asked, if_neg asked]
  simp only [Bool.and_eq_true, decide_eq_true_eq]
  by_cases idle1 : (s.root r).uState = 0 ∧ (s.root r).u1 ≠ 0
  · rw [if_pos idle1, if_pos idle1]
    exact .inl rfl
  rw [if_neg idle1, if_neg idle1]
  by_cases idle2 : (s.root r).uState < 2 ∧ (s.root r).u2 ≠ 0
  · rw [if_pos idle2, if_pos idle2]
    exact .inl rfl
  · rw [if_neg idle2, if_neg idle2]
    exact .inr ⟨rfl, rfl⟩

end

/-- Settles O54: each event has the outcome that its lemma above gives. -/
theorem usbRootEvents : Obligations.UsbRootEvents := by
  unfold Obligations.UsbRootEvents
  refine ⟨?connect, ?noConnect, ?disconnect, ?resetEnd, ?suspend, ?resume, ?wake, ?lostWake, ?noWake, ?link⟩
  case connect => exact fun r speed s native absent offered => rootConnect_gives native absent offered
  case noConnect => exact fun r speed s idle => exec_rootConnect_idle idle
  case disconnect => exact fun r s native powered present => Gives.of_eq (exec_rootDisconnect_native native) (State.root_rootDisconnect powered present)
  case resetEnd => exact fun r speed s resetting due offered => rootResetEnd_gives resetting due offered
  case suspend => exact fun r s suspending due => rootSuspendIdle_gives suspending due
  case resume => exact fun i r s ends resuming due => Gives.of_eq (resumeEnd_gives ends resuming due) (s.root_resumed r)
  case wake => exact fun r n s suspended => remoteWake_suspended suspended
  case lostWake => exact fun r n s resetting => remoteWake_resetting resetting
  case noWake => exact fun r n s native awake quiet => exec_remoteWake_idle native awake quiet
  case link =>
    intro r cause s native enabled ss
    rcases exec_u1u2Timeout (cause := cause) native enabled ss with moves | ⟨stays, same⟩
    · obtain ⟨own, other, -⟩ := s.setRoot_gives r { s.root r with uState := (s.root r).uNext cause }
      exact Gives.of_eq moves ⟨own, other, rfl⟩
    · have own : s.root r = { s.root r with uState := (s.root r).uNext cause } := by rw [same]
      exact Gives.of_eq stays ⟨own, fun _ _ => rfl, rfl⟩

end Sys2Proof.Machine
end

section
/-! PROOFS. The doorbells of the endpoints and of the sample DMA channels (R164, R252, R281, R313, R387). -/

namespace Sys2Proof.Machine

/-! ## What work on one endpoint leaves of the others (R160, R164, R190, R191, R194) -/

/-- R164: at most endpoint `e` has changed, and its producer index stands. -/
structure State.OnRing (e : Nat) (s t : State) : Prop where
  others : ∀ j, j ≠ e → t.ep j = s.ep j
  prod : (t.ep e).prod = (s.ep e).prod

namespace State.OnRing

theorem refl (e : Nat) (s : State) : s.OnRing e s := ⟨fun _ _ => rfl, rfl⟩

section
variable {e : Nat} {s t u : State} (h : State.OnRing e s t)
include h

theorem of_eps (same : u.xfer.eps = t.xfer.eps) : State.OnRing e s u := by
  have ep (j : Nat) : u.ep j = t.ep j := by rw [State.ep, State.ep, same]
  exact ⟨fun j other => (ep j).trans (h.others j other), (congrArg Ep.prod (ep e)).trans h.prod⟩

theorem of_xfer (same : u.xfer = t.xfer) : State.OnRing e s u := h.of_eps (congrArg Xfer.eps same)

theorem setEp {v : Ep} (prod : v.prod = (t.ep e).prod) : State.OnRing e s (t.setEp e v) :=
  ⟨fun j other => (t.ep_setEp_other v other).trans (h.others j other), by rw [State.ep_setEp_self, prod, h.prod]⟩

theorem setEp_ringStop {v : Ep} {tag : BitVec 16} {st : Status} {x : Nat} (prod : v.prod = (t.ep e).prod) :
    State.OnRing e s ((t.setEp e v).ringStop e tag st x) :=
  (h.setEp prod).of_xfer (State.ringStop_xfer ..)

theorem setEp_enginePost {v : Ep} {k sl q : Nat} {c : CqEntry} {slot : Bool} (prod : v.prod = (t.ep e).prod) :
    State.OnRing e s ((t.setEp e v).enginePost k sl q c slot) :=
  (h.setEp prod).of_xfer (State.enginePost_xfer ..)

theorem hostWrite {k sl : Nat} {a : BitVec 64} {b : List Byte} : State.OnRing e s (t.hostWrite k sl a b) := h.of_xfer (State.hostWrite_xfer ..)

theorem flushControl {v : HostView} {st : Status} {x n : Nat} : State.OnRing e s (t.flushControl v e st x n) := by
  induction n generalizing t with
  | zero => exact h
  | succ n ih =>
    simp only [State.flushControl]
    split
    · exact h
    · split
      · exact iteInduction (motive := State.OnRing e s) (fun _ => h) fun _ => ih (h.setEp_enginePost rfl)
      · exact h

theorem deliverSetup {v : HostView} : State.OnRing e s (t.deliverSetup v e) := by
  have flushed := h.flushControl (v := v) (st := .aborted) (x := 8) (n := 32768)
  simp only [State.deliverSetup]
  refine iteInduction (motive := State.OnRing e s) (fun _ => h) fun _ => ?_
  split
  · exact flushed
  refine iteInduction (motive := State.OnRing e s) (fun _ => flushed) fun _ => ?_
  split
  · exact flushed
  · exact flushed.setEp_ringStop rfl
  · exact flushed.setEp_ringStop rfl
  · refine iteInduction (motive := State.OnRing e s) (fun _ => flushed.setEp_ringStop rfl) fun _ => ?_
    exact flushed.hostWrite.setEp_enginePost (congrArg Ep.prod (State.ep_congr (State.hostWrite_xfer ..) e).symm :)

theorem deviceWork {v : HostView} : State.OnRing e s (t.deviceWork e v) := by
  simp only [State.deviceWork]
  refine iteInduction (motive := State.OnRing e s) (fun _ => h) fun _ => ?_
  exact iteInduction (motive := State.OnRing e s) (fun _ => h.deliverSetup.of_xfer rfl) fun _ => h.deliverSetup

end

end State.OnRing

theorem State.sendPing_eps (s : State) (r : Nat) : (s.sendPing r).xfer.eps = s.xfer.eps := by
  simp only [State.sendPing]
  refine iteInduction (motive := fun t : State => t.xfer.eps = s.xfer.eps) (fun _ => rfl) fun _ => ?_
  exact (congrArg Xfer.eps (State.Admitted.refl _).sendRecords.xfer :)

theorem State.beginResume_eps (s : State) (r : Nat) (wake : Bool) : (s.beginResume r wake).xfer.eps = s.xfer.eps := by
  simp only [State.beginResume]
  exact iteInduction (motive := fun t : State => t.xfer.eps = s.xfer.eps) (fun _ => State.sendPing_eps ..) fun _ => rfl

/-- R160, R180: new work wakes the walk and the root, and changes no endpoint. -/
theorem State.newWork_eps (s : State) (e : Nat) : (s.newWork e).xfer.eps = s.xfer.eps := by
  simp only [State.newWork]
  split
  · rfl
  refine iteInduction (motive := fun t : State => t.xfer.eps = s.xfer.eps) (fun _ => rfl) fun _ => ?_
  split
  · rfl
  · exact iteInduction (motive := fun t : State => t.xfer.eps = s.xfer.eps) (fun _ => State.beginResume_eps ..) fun _ => rfl
  · rfl

/-! ## An access to the page of a slice (R306, R387) -/

section
variable {h : Fin 2} {sl : Fin 256} {s : State}

theorem State.slice_wakeCfg (s : State) (b k sl : Nat) : (s.wakeCfg b).slice k sl = s.slice k sl := by
  rw [State.slice, State.slice, State.wakeCfg_hosts]

theorem State.domainOff_wakeCfg (s : State) (b d : Nat) : (s.wakeCfg b).domainOff d = s.domainOff d := by
  simp only [State.domainOff, State.wakeCfg_power_on, State.wakeCfg_power_seqs]

theorem State.ep_wakeCfg (s : State) (b e : Nat) : (s.wakeCfg b).ep e = s.ep e := State.ep_congr (s.wakeCfg_xfer b) e

theorem State.ch_wakeCfg (s : State) (b n : Nat) : (s.wakeCfg b).ch n = s.ch n := by
  rw [State.ch, State.ch, State.wakeCfg_xfer]

/-- R387: an access to a slice that is reached acts on the state in which its wake source has occurred. -/
theorem State.atPage_of_reachable (reached : s.reachable h sl = true) (f : State → State) : s.atPage h sl f = f (s.wakeCfg (12 + h)) :=
  if_pos (by rw [State.reachable, State.slice_wakeCfg]; exact reached)

/-! ## The doorbell of an endpoint (R164, R252) -/

variable {v : BitVec 32} {view : HostView}

/-- R164: the doorbell of an endpoint that is the slice's own, in use and powered is taken. -/
theorem State.epDoorbell_taken (up : (s.slice h sl).state ≠ .resetting) (on : s.domainOff 8 = false) {e : Nat}
    (owned : (s.ep e).owner = some (h.val, sl.val)) (enabled : (s.ep e).state ≠ .disabled) :
    let u := s.wakeCfg (12 + h)
    ¬ ((decide ((u.ep e).owner ≠ some (h.val, sl.val)) || decide ((u.ep e).state = .disabled) || decide ((u.slice h sl).state = .resetting)
        || u.domainOff 8) = true) := by
  intro u
  simp only [u, State.ep_wakeCfg, State.slice_wakeCfg, State.domainOff_wakeCfg, owned, enabled, up, on, ne_eq, not_true_eq_false, decide_false,
    Bool.or_self, Bool.false_eq_true, not_false_eq_true]

theorem usbEpDoorbell_good (reached : s.reachable h sl = true) (up : (s.slice h sl).state ≠ .resetting) (on : s.domainOff 8 = false)
    (owned : (s.ep (v.toNat % 4096)).owner = some (h.val, sl.val)) (enabled : (s.ep (v.toNat % 4096)).state ≠ .disabled)
    (good : prodBad (s.ep (v.toNat % 4096)).ringLog2 (s.ep (v.toNat % 4096)).cons (s.ep (v.toNat % 4096)).prod (v.toNat / 65536) = false) :
    Gives (.usbEpDoorbell h sl v view) s fun t =>
      (t.ep (v.toNat % 4096)).prod = v.toNat / 65536 ∧ ∀ j, j ≠ v.toNat % 4096 → t.ep j = s.ep j := by
  let e := v.toNat % 4096
  let u := s.wakeCfg (12 + h)
  have ep (j : Nat) : u.ep j = s.ep j := s.ep_wakeCfg ..
  let y : Ep := { u.ep e with prod := v.toNat / 65536 }
  let z : Ep := { y with state := if decide ((u.ep e).state = .idle) || decide ((u.ep e).state = .active) then (if y.chain.isSome then .active else y.restState)
                                  else y.state }
  let w := u.setEp e z
  let t := if y.ofDevice then w.deviceWork e view else w.newWork e
  have good' : ¬ prodBad (u.ep e).ringLog2 (u.ep e).cons (u.ep e).prod (v.toNat / 65536) = true := by
    rw [ep, good]
    exact Bool.false_ne_true
  have rings : exec (.usbEpDoorbell h sl v view) s = .next t := by
    change execUsbEpDoorbell h sl v view s = _
    rw [execUsbEpDoorbell, State.atPage_of_reachable reached]
    refine congrArg Host.Outcome.next ((if_neg (State.epDoorbell_taken up on owned enabled)).trans ((if_neg fun both => ?_).trans (if_neg good')))
    exact good' (Bool.and_eq_true_iff.mp both).1
  have works : State.OnRing e w t :=
    iteInduction (motive := State.OnRing e w) (fun _ => (State.OnRing.refl e w).deviceWork) fun _ => (State.OnRing.refl e w).of_eps (State.newWork_eps ..)
  refine Gives.of_eq rings ⟨?_, fun j other => ?_⟩
  · exact works.prod.trans (congrArg Ep.prod (u.ep_setEp_self e z))
  · exact (works.others j other).trans ((u.ep_setEp_other z other).trans (ep j))

theorem usbEpDoorbell_bad (reached : s.reachable h sl = true) (up : (s.slice h sl).state ≠ .resetting) (on : s.domainOff 8 = false)
    (owned : (s.ep (v.toNat % 4096)).owner = some (h.val, sl.val))
    (live : (s.ep (v.toNat % 4096)).state = .idle ∨ (s.ep (v.toNat % 4096)).state = .active)
    (bad : prodBad (s.ep (v.toNat % 4096)).ringLog2 (s.ep (v.toNat % 4096)).cons (s.ep (v.toNat % 4096)).prod (v.toNat / 65536) = true) :
    Gives (.usbEpDoorbell h sl v view) s fun t =>
      (t.ep (v.toNat % 4096)).state = .error ∧ (t.ep (v.toNat % 4096)).prod = (s.ep (v.toNat % 4096)).prod
        ∧ ∀ j, j ≠ v.toNat % 4096 → t.ep j = s.ep j := by
  let e := v.toNat % 4096
  let u := s.wakeCfg (12 + h)
  have ep (j : Nat) : u.ep j = s.ep j := s.ep_wakeCfg ..
  let w := if (u.ep e).chain.isSome then u.stopEp e .overrun 0 .error else u.ringStop e 0xFFFF .overrun 0
  have enabled : (s.ep e).state ≠ .disabled := live.elim (fun idle d => nomatch idle.symm.trans d) fun active d => nomatch active.symm.trans d
  have both : (prodBad (u.ep e).ringLog2 (u.ep e).cons (u.ep e).prod (v.toNat / 65536)
      && (decide ((u.ep e).state = .idle) || decide ((u.ep e).state = .active))) = true := by
    rw [ep, bad]
    simpa only [Bool.true_and, Bool.or_eq_true, decide_eq_true_eq] using live
  have rings : exec (.usbEpDoorbell h sl v view) s = .next (w.modEp e fun y => { y with state := .error, latched := y.cons }) := by
    change execUsbEpDoorbell h sl v view s = _
    rw [execUsbEpDoorbell, State.atPage_of_reachable reached]
    exact congrArg Host.Outcome.next ((if_neg (State.epDoorbell_taken up on owned enabled)).trans (if_pos both))
  have stops : State.OnRing e u w := by
    refine iteInduction (motive := State.OnRing e u) (fun _ => ⟨fun j other => u.stopEp_other _ _ _ other, ?_⟩) fun _ =>
      (State.OnRing.refl e u).of_xfer (State.ringStop_xfer ..)
    rw [State.stopEp_own]
    exact Ep.prod_unchained _
  have own : (w.modEp e fun y => { y with state := .error, latched := y.cons }).ep e = { w.ep e with state := .error, latched := (w.ep e).cons } :=
    (State.ep_modEp ..).trans (if_pos rfl)
  refine Gives.of_eq rings ⟨congrArg Ep.state own, ?_, fun j other => ?_⟩
  · exact (congrArg Ep.prod own).trans (stops.prod.trans (congrArg Ep.prod (ep e)))
  · exact ((State.ep_modEp ..).trans (if_neg other)).trans ((stops.others j other).trans (ep j))

/-- R313: a doorbell that is not the slice's own is counted. -/
theorem State.dbReject_wakeCfg (s : State) (b k sl : Nat) :
    (s.wakeCfg b).dbReject k sl = (s.wakeCfg b).setSlice k sl { s.slice k sl with dbReject := (s.slice k sl).dbReject + 1 } := by
  rw [← s.slice_wakeCfg b]
  rfl

theorem exec_usbEpDoorbell_foreign (reached : s.reachable h sl = true) (foreign : (s.ep (v.toNat % 4096)).owner ≠ some (h.val, sl.val)) :
    exec (.usbEpDoorbell h sl v view) s
      = .next ((s.wakeCfg (12 + h)).setSlice h sl { s.slice h sl with dbReject := (s.slice h sl).dbReject + 1 }) := by
  change execUsbEpDoorbell h sl v view s = _
  rw [execUsbEpDoorbell, State.atPage_of_reachable reached, ← State.dbReject_wakeCfg]
  refine congrArg Host.Outcome.next (if_pos ?_)
  rw [State.ep_wakeCfg, decide_eq_true foreign]
  rfl

/-! ## The doorbell of a channel (R281) -/

theorem exec_dmaChDoorbell_good (reached : s.reachable h sl = true) (up : (s.slice h sl).state ≠ .resetting) (on : s.domainOff 8 = false)
    (owned : (s.ch (v.toNat % 64)).owner = some (h.val, sl.val))
    (good : prodBad (s.ch (v.toNat % 64)).ringLog2 (s.ch (v.toNat % 64)).cons (s.ch (v.toNat % 64)).prod (v.toNat / 65536) = false) :
    exec (.dmaChDoorbell h sl v) s
      = .next ((s.wakeCfg (12 + h)).setCh (v.toNat % 64) { s.ch (v.toNat % 64) with prod := v.toNat / 65536 }) := by
  change execDmaChDoorbell h sl v s = _
  rw [execDmaChDoorbell, State.atPage_of_reachable reached]
  simp only [State.ch_wakeCfg, State.slice_wakeCfg, State.domainOff_wakeCfg, owned, up, on, good, ne_eq, not_true_eq_false, decide_false,
    Bool.or_self, Bool.false_eq_true, if_false]

theorem exec_dmaChDoorbell_foreign (reached : s.reachable h sl = true) (foreign : (s.ch (v.toNat % 64)).owner ≠ some (h.val, sl.val)) :
    exec (.dmaChDoorbell h sl v) s
      = .next ((s.wakeCfg (12 + h)).setSlice h sl { s.slice h sl with dbReject := (s.slice h sl).dbReject + 1 }) := by
  change execDmaChDoorbell h sl v s = _
  rw [execDmaChDoorbell, State.atPage_of_reachable reached, ← State.dbReject_wakeCfg]
  refine congrArg Host.Outcome.next (if_pos ?_)
  rw [State.ch_wakeCfg, decide_eq_true foreign]
  rfl

end

end Sys2Proof.Machine
end

section
/-! PROOFS. The pages of a memory region: what reading and writing one leaves of the others and of the engines, and bytes stored page by page (R402, R403, R408, R409, R411). -/

namespace Sys2Proof.Machine

theorem getD_listMod_or {α : Type} (f : α → α) (d : α) (j : Nat) : ∀ (i : Nat) (l : List α),
    (listMod f i l).getD j d = f (l.getD j d) ∨ (listMod f i l).getD j d = l.getD j d := by
  induction j with
  | zero =>
    intro i l
    rcases l with _ | ⟨x, l⟩
    · exact .inr (by rw [listMod])
    · cases i with
      | zero => exact .inl rfl
      | succ i => exact .inr rfl
  | succ j ih =>
    intro i l
    rcases l with _ | ⟨x, l⟩
    · exact .inr (by rw [listMod])
    · cases i with
      | zero => exact .inr rfl
      | succ i => exact ih i l

theorem Tab.find?_erase {α : Type} {k p : Nat} (other : p ≠ k) (t : List (Nat × α)) :
    (Tab.erase k t).find? (fun e => decide (e.1 = p)) = t.find? fun e => decide (e.1 = p) := by
  induction t with
  | nil => rfl
  | cons e t ih =>
    obtain ⟨q, v⟩ := e
    by_cases same : k = q
    · rw [Tab.erase, if_pos same, ih, List.find?_cons_of_neg]
      simpa only [← same, decide_eq_true_eq] using Ne.symm other
    · rw [Tab.erase, if_neg same, List.find?_cons, List.find?_cons, ih]

/-- R401: a page that is written whole leaves the strength of another. -/
theorem Region.pageT_fix (r : Region) {page p : Nat} (other : p ≠ page) : (r.fix page).pageT p = r.pageT p := by
  rw [Region.pageT, Region.pageT, Region.fix, Tab.find?_erase other]

/-- R402: what changes the codeword of page `page` of region `n` at most, and neither the engines nor Marl, the ports, the tunnels or the queue pairs. -/
structure State.PageWork (n page : Nat) (s t : State) : Prop where
  xfer : t.xfer = s.xfer
  marl : t.marl = s.marl
  ports : t.ports = s.ports
  tunnels : t.tunnels = s.tunnels
  qps : t.hosts.qps = s.hosts.qps
  reads : ∀ p, p ≠ page → t.readPage n p = s.readPage n p

namespace State.PageWork

theorem refl (n page : Nat) (s : State) : State.PageWork n page s s := ⟨rfl, rfl, rfl, rfl, rfl, fun _ _ => rfl⟩

theorem ite {c : Prop} [Decidable c] {n page : Nat} {s t u : State} (ht : State.PageWork n page s t) (hu : State.PageWork n page s u) :
    State.PageWork n page s (if c then t else u) := by
  split_ifs <;> assumption

section
variable {n page : Nat} {s t : State} (h : State.PageWork n page s t)
include h

/-- R402: a region is changed, and as for other pages it reads as before. -/
theorem modRegion {m : Nat} {f : Region → Region} (same : ∀ r p, p ≠ page → (f r).pageT p = r.pageT p ∧ (f r).pageErrs p = r.pageErrs p) :
    State.PageWork n page s (t.modRegion m f) := by
  refine ⟨h.xfer, h.marl, h.ports, h.tunnels, h.qps, fun p other => Eq.trans ?_ (h.reads p other)⟩
  obtain ⟨strength, errs⟩ := same (t.region n) p other
  rcases getD_listMod_or f {} n m t.mem.regions with changed | stays
  · have region : (t.modRegion m f).region n = f (t.region n) := changed
    rw [State.readPage, State.readPage, region, strength, errs]
  · have region : (t.modRegion m f).region n = t.region n := stays
    rw [State.readPage, State.readPage, region]

theorem modSilt {f : Silt → Silt} : State.PageWork n page s (t.modSilt f) := ⟨h.xfer, h.marl, h.ports, h.tunnels, h.qps, h.reads⟩

theorem of_mem {u : State} (xfer : u.xfer = t.xfer) (marl : u.marl = t.marl) (ports : u.ports = t.ports) (tunnels : u.tunnels = t.tunnels)
    (qps : u.hosts.qps = t.hosts.qps) (mem : u.mem = t.mem) : State.PageWork n page s u := by
  refine ⟨xfer.trans h.xfer, marl.trans h.marl, ports.trans h.ports, tunnels.trans h.tunnels, qps.trans h.qps, fun p other => Eq.trans ?_ (h.reads p other)⟩
  simp only [State.readPage, State.region, mem]

theorem alarmOccur {a object : Nat} {cond : Bool} : State.PageWork n page s (t.alarmOccur a object cond) :=
  h.of_mem (State.alarmOccur_xfer ..) (State.alarmOccur_marl ..) (State.alarmOccur_ports ..) (State.alarmOccur_tunnels ..)
    (State.alarmOccur_hosts_qps ..) (State.alarmOccur_mem ..)

theorem commit {r : JReq} : State.PageWork n page s (t.commit r) :=
  h.of_mem (State.commit_xfer ..) (State.commit_marl ..) (State.commit_ports ..) (State.commit_tunnels ..) (State.commit_hosts_qps ..) (State.commit_mem ..)

theorem autoRepair {m p : Nat} : State.PageWork n page s (t.autoRepair m p) := by
  simp only [State.autoRepair]
  refine .ite h ?_
  split
  · exact .ite (h.commit.modRegion fun _ _ _ => ⟨rfl, rfl⟩) (.ite h h.modSilt)
  · exact h.alarmOccur

theorem noteCorrected {m p : Nat} : State.PageWork n page s (t.noteCorrected m p) := by
  simp only [State.noteCorrected]
  have noted {f : Region → Region} (same : ∀ r, (f r).pageT = r.pageT ∧ (f r).pageErrs = r.pageErrs) : State.PageWork n page s (t.modRegion m f) :=
    h.modRegion fun r _ _ => ⟨congrFun (same r).1 _, congrFun (same r).2 _⟩
  refine .ite (autoRepair (noted ?_)) (noted ?_)
  · exact fun _ => ⟨rfl, rfl⟩
  · exact fun _ => ⟨rfl, rfl⟩

theorem tally {m : Nat} {onB : Bool} {f : RegionCtr → RegionCtr} : State.PageWork n page s (t.modRegion m fun r => r.tally onB f) := by
  refine h.modRegion fun r p _ => ?_
  unfold Region.tally
  split <;> exact ⟨rfl, rfl⟩

theorem demandRead {m p : Nat} : State.PageWork n page s (t.demandRead m p) := by
  simp only [State.demandRead]
  split
  · exact h.modRegion fun _ _ _ => ⟨rfl, rfl⟩
  · refine (h.modRegion fun r q _ => ?_).noteCorrected
    unfold Region.tally
    split <;> exact ⟨rfl, rfl⟩
  · exact h.tally

/-- R403, R411: a page written whole: its own codeword alone, whether a flip mask is armed or not. -/
theorem pageWritten {m : Nat} : State.PageWork n page s (t.pageWritten m page) := by
  refine h.modRegion fun r p other => ?_
  have cleared : Tab.get [] (Tab.erase page r.errs) p = Tab.get [] r.errs p := (Tab.get_erase ..).trans (if_neg other)
  refine iteInduction (motive := fun x : Region => x.pageT p = r.pageT p ∧ x.pageErrs p = r.pageErrs p) (fun _ => ?_) fun _ => ?_
  · exact ⟨r.pageT_fix other, (Tab.get_set ..).trans ((if_neg other).trans cleared)⟩
  · exact ⟨r.pageT_fix other, cleared⟩

end

end State.PageWork

end Sys2Proof.Machine
end

section
/-! PROOFS. Bytes stored page by page, and DMA_PROGRAM_WRITE (R280, R402). -/

namespace Sys2Proof.Machine

theorem foldl_range_induct {α : Type} {P : Nat → α → Prop} {f : α → Nat → α} {a : α} (start : P 0 a) (step : ∀ k b, P k b → P (k + 1) (f b k)) (n : Nat) :
    P n ((List.range n).foldl f a) := by
  induction n with
  | zero => exact start
  | succ n ih =>
    rw [List.range_succ, List.foldl_append]
    exact step n _ ih

/-! ## Bytes stored in a region (R402, R403) -/

/-- R402: the first of the bytes from `at'` on that lies in the page `k` after the first. -/
def pageLo (at' k : Nat) : Nat := max at' (128 * (at' / 128 + k))

/-- R402: the bytes of a write from `at'` on that lie in that page. -/
def pagePiece (at' k : Nat) (bytes : List Byte) : List Byte :=
  (bytes.drop (pageLo at' k - at')).take (128 * (at' / 128 + k) + 128 - pageLo at' k)

/-- R402: the pages that a write of `len` bytes from `at'` on covers. -/
def pageCount (at' len : Nat) : Nat := (at' % 128 + len + 127) / 128

/-- R402: a write whose pages are readable when their turn comes is not refused, and keeps what storing one page after another keeps. -/
theorem State.storeBytes_induct {s : State} {n at' : Nat} {bytes : List Byte} {put : Nat → List Byte → State → State} {P : Nat → State → Prop}
    (some' : bytes.isEmpty = false) (start : P 0 s)
    (readable : ∀ k t, P k t → t.readPage n (at' / 128 + k) ≠ .uncorrectable)
    (page : ∀ k t u, P k t → State.PageWork n (at' / 128 + k) t u → P (k + 1) (put (pageLo at' k) (pagePiece at' k bytes) u)) :
    let w := s.storeBytes n at' bytes put
    P (pageCount at' bytes.length) w.1 ∧ w.2 = false := by
  rw [State.storeBytes, some', if_neg Bool.false_ne_true]
  refine foldl_range_induct (P := fun k (w : State × Bool) => P k w.1 ∧ w.2 = false) ⟨start, rfl⟩ (fun k w kept => ?_) (pageCount at' bytes.length)
  obtain ⟨held, taken⟩ := kept
  have same := State.PageWork.refl n (at' / 128 + k) w.1
  refine iteInduction (motive := fun v : State × Bool => P (k + 1) v.1 ∧ v.2 = false) (fun _ => ⟨page k _ _ held same.pageWritten, taken⟩) fun _ => ?_
  rw [if_neg (readable k _ held)]
  exact ⟨page k _ _ held same.tally.demandRead.pageWritten, taken⟩

/-! ## DMA_PROGRAM_WRITE (R280) -/

/-- R280: the bytes `bs` from `off` on are stored, as far as they lie before address `limit` of the region. -/
structure State.ProgramStored (s t : State) (off : Nat) (bs : List Byte) (limit : Nat) : Prop where
  prog : ∀ a, Tab.get 0 t.xfer.prog a
    = if off ≤ a ∧ a < off + bs.length ∧ 524288 + a < limit then bs.getD (a - off) 0 else Tab.get 0 s.xfer.prog a
  xfer : t.xfer = { s.xfer with prog := t.xfer.prog }
  ports : t.ports = s.ports
  tunnels : t.tunnels = s.tunnels
  qps : t.hosts.qps = s.hosts.qps

/-- R280: the bytes of a page of the program memory. -/
def State.putProgram (lo : Nat) (b : List Byte) (s : State) : State := s.modXfer fun y => { y with prog := Tab.write 0 (lo - 524288) b y.prog }

theorem getD_pagePiece {at' k : Nat} {bytes : List Byte} {i : Nat} (inside : i < 128 * (at' / 128 + k) + 128 - pageLo at' k) :
    (pagePiece at' k bytes).getD i 0 = bytes.getD (pageLo at' k - at' + i) 0 := by
  simp only [pagePiece, List.getD_eq_getElem?_getD, List.getElem?_take_of_lt inside, List.getElem?_drop]

theorem State.ProgramStored.page {s t u : State} {off k : Nat} {bs : List Byte} (h : s.ProgramStored t off bs (128 * ((524288 + off) / 128 + k)))
    (work : State.PageWork 3 ((524288 + off) / 128 + k) t u) :
    s.ProgramStored (State.putProgram (pageLo (524288 + off) k) (pagePiece (524288 + off) k bs) u) off bs (128 * ((524288 + off) / 128 + (k + 1))) := by
  refine ⟨fun a => ?_, ?_, work.ports.trans h.ports, work.tunnels.trans h.tunnels, work.qps.trans h.qps⟩
  · change Tab.get 0 (Tab.write 0 _ _ u.xfer.prog) a = _
    rw [Tab.get_write, work.xfer, h.prog]
    have len : (pagePiece (524288 + off) k bs).length
        = min (128 * ((524288 + off) / 128 + k) + 128 - pageLo (524288 + off) k) (bs.length - (pageLo (524288 + off) k - (524288 + off))) := by
      rw [pagePiece, List.length_take, List.length_drop]
    have lo : pageLo (524288 + off) k = max (524288 + off) (128 * ((524288 + off) / 128 + k)) := rfl
    by_cases here : pageLo (524288 + off) k - 524288 ≤ a ∧ a < pageLo (524288 + off) k - 524288 + (pagePiece (524288 + off) k bs).length
    · rw [if_pos here, if_pos (by omega), getD_pagePiece (by omega)]
      exact congrArg (bs.getD · 0) (by omega)
    · rw [if_neg here]
      exact if_congr (by omega) rfl rfl
  · have before : u.xfer = { s.xfer with prog := u.xfer.prog } := by
      rw [work.xfer]
      exact h.xfer
    exact congrArg (fun x : Xfer => { x with prog := Tab.write 0 (pageLo (524288 + off) k - 524288) (pagePiece (524288 + off) k bs) u.xfer.prog }) before

/-- R280, R402: with no page of the region uncorrectable, the bytes are stored. -/
theorem State.programStored {s : State} {off : Nat} {bs : List Byte} (readable : ∀ page, s.readPage 3 page ≠ .uncorrectable) :
    let w := s.storeBytes 3 (524288 + off) bs State.putProgram
    (∀ a, Tab.get 0 w.1.xfer.prog a = if off ≤ a ∧ a < off + bs.length then bs.getD (a - off) 0 else Tab.get 0 s.xfer.prog a)
      ∧ w.1.xfer = { s.xfer with prog := w.1.xfer.prog } ∧ w.1.ports = s.ports ∧ w.1.tunnels = s.tunnels ∧ w.1.hosts.qps = s.hosts.qps ∧ w.2 = false := by
  intro w
  cases none' : bs.isEmpty with
  | true =>
    have same : w = (s, false) := if_pos none'
    rw [same, List.isEmpty_iff.mp none']
    exact ⟨fun a => (if_neg fun h => by simp only [List.length_nil] at h; omega).symm, rfl, rfl, rfl, rfl, rfl⟩
  | false =>
    obtain ⟨⟨stored, -⟩, taken⟩ := State.storeBytes_induct (s := s) (n := 3) (at' := 524288 + off) (put := State.putProgram)
      (P := fun k t => s.ProgramStored t off bs (128 * ((524288 + off) / 128 + k)) ∧ ∀ p, (524288 + off) / 128 + k ≤ p → t.readPage 3 p = s.readPage 3 p)
      none' ⟨⟨fun a => (if_neg fun h => by omega).symm, rfl, rfl, rfl, rfl⟩, fun _ _ => rfl⟩
      (fun k t kept => by rw [kept.2 _ le_rfl]; exact readable _)
      (fun k t u kept work => ⟨kept.1.page work, fun p later => (work.reads p (by omega)).trans (kept.2 p (by omega))⟩)
    refine ⟨fun a => (stored.prog a).trans (if_congr ?_ rfl rfl), stored.xfer, stored.ports, stored.tunnels, stored.qps, taken⟩
    have count : pageCount (524288 + off) bs.length = ((524288 + off) % 128 + bs.length + 127) / 128 := rfl
    omega

theorem dmaProgramWrite_gives {h : Fin 2} {sl : Fin 256} {off : Fin 65536} {bytes : List Byte} {s : State} (reached : s.reachable h sl = true)
    (on : s.domainOff 8 = false) (owned : (s.ch (off.val / 1024)).owner = some (h.val, sl.val)) (readable : ∀ page, s.readPage 3 page ≠ .uncorrectable) :
    Gives (.dmaProgramWrite h sl off bytes) s fun t =>
      (∀ a, Tab.get 0 t.xfer.prog a =
          if off.val ≤ a ∧ a < off.val + min bytes.length (1024 - off.val % 1024) then bytes.getD (a - off.val) 0 else Tab.get 0 s.xfer.prog a)
        ∧ t.xfer = { s.xfer with prog := t.xfer.prog } ∧ t.ports = s.ports ∧ t.tunnels = s.tunnels ∧ t.hosts.qps = s.hosts.qps := by
  let u := s.wakeCfg (12 + h)
  let bs := bytes.take (1024 - off.val % 1024)
  let w := u.storeBytes 3 (524288 + off.val) bs State.putProgram
  have readable' (page : Nat) : u.readPage 3 page ≠ .uncorrectable := by
    have same : u.readPage 3 page = s.readPage 3 page := by
      rw [State.readPage, State.readPage, State.region, State.region, show u.mem = s.mem from State.wakeCfg_mem ..]
    rw [same]
    exact readable page
  obtain ⟨prog, xfer, ports, tunnels, qps, taken⟩ := State.programStored (off := off.val) (bs := bs) readable'
  have writes : exec (.dmaProgramWrite h sl off bytes) s = .next w.1 := by
    change execDmaProgramWrite h sl off bytes s = _
    rw [execDmaProgramWrite, State.atPage_of_reachable reached]
    refine congrArg Host.Outcome.next ((if_neg ?_).trans (if_neg ?_))
    · simp only [State.ch_wakeCfg, State.domainOff_wakeCfg, owned, on, ne_eq, not_true_eq_false, decide_false, Bool.or_self, Bool.false_eq_true,
        not_false_eq_true]
    · intro halts
      exact absurd (taken.symm.trans (Bool.and_eq_true_iff.mp halts).1) Bool.false_ne_true
  rw [show u.xfer = s.xfer from State.wakeCfg_xfer ..] at prog xfer
  refine Gives.of_eq writes ⟨fun a => (prog a).trans ?_, xfer, ports.trans (State.wakeCfg_ports ..), tunnels.trans (State.wakeCfg_tunnels ..),
    qps.trans (congrArg Hosts.qps (State.wakeCfg_hosts ..))⟩
  rw [show bs.length = _ from List.length_take ..]
  by_cases inside : off.val ≤ a ∧ a < off.val + min (1024 - off.val % 1024) bytes.length
  · have near : a - off.val < 1024 - off.val % 1024 := by omega
    rw [if_pos inside, if_pos (by omega), List.getD_eq_getElem?_getD, List.getD_eq_getElem?_getD, show bs[a - off.val]? = _ from List.getElem?_take_of_lt near]
  · rw [if_neg inside, if_neg (by omega)]

/-- Settles O24: each doorbell, and a program write, has the outcome that its lemma above gives. -/
theorem engineDoorbells : Obligations.EngineDoorbells := by
  unfold Obligations.EngineDoorbells
  refine ⟨?good, ?bad, ?foreign, ?channel, ?foreignChannel, ?program⟩
  case good => exact fun h sl v view s reached up on owned enabled good => usbEpDoorbell_good reached up on owned enabled good
  case bad => exact fun h sl v view s reached up on owned live bad => usbEpDoorbell_bad reached up on owned live bad
  case foreign => exact fun h sl v view s reached foreign => Gives.of_eq (exec_usbEpDoorbell_foreign reached foreign) rfl
  case channel => exact fun h sl v s reached up on owned good => Gives.of_eq (exec_dmaChDoorbell_good reached up on owned good) rfl
  case foreignChannel => exact fun h sl v s reached foreign => Gives.of_eq (exec_dmaChDoorbell_foreign reached foreign) rfl
  case program => exact fun h sl off bytes s reached on owned readable => dmaProgramWrite_gives reached on owned readable

end Sys2Proof.Machine
end

section
/-! PROOFS. What the USB host engine's work leaves in the staging buffers, and USB2_RESULT_RECEIVED (R85, R87, R165, R168, R178). -/

namespace Sys2Proof.Machine

/-- R132: the staging buffers are as they were. -/
structure State.Staged (s t : State) : Prop where
  staging : t.marl.staging = s.marl.staging

namespace State.Staged

theorem refl (s : State) : s.Staged s := ⟨rfl⟩

variable {s t u : State}

theorem ite {c : Prop} [Decidable c] (ht : s.Staged t) (hu : s.Staged u) : s.Staged (if c then t else u) := by
  split_ifs <;> assumption

section
variable (h : s.Staged t)
include h

theorem of_marl (same : u.marl = t.marl) : s.Staged u := ⟨(congrArg Marl.staging same).trans h.staging⟩

theorem foldl {α : Type} {f : State → α → State} {l : List α} (hf : ∀ (t : State) (x : α), s.Staged t → s.Staged (f t x)) : s.Staged (l.foldl f t) := by
  induction l generalizing t with
  | nil => exact h
  | cons x l ih => exact ih (hf t x h)

theorem setEp {e v} : s.Staged (t.setEp e v) := h.of_marl rfl

theorem modEp {e f} : s.Staged (t.modEp e f) := h.of_marl rfl

theorem endChain {e st x short} : s.Staged (t.endChain e st x short) := by
  have frame := t.endChain_frame e st x short
  exact h.of_marl (congrArg State.marl frame :)

theorem stopEp {e st x dst} : s.Staged (t.stopEp e st x dst) := by
  have frame := t.stopEp_frame e st x dst
  exact h.of_marl (congrArg State.marl frame :)

/-! ## Bytes through a buffer (R402, R405) -/

/-- R402: work on a page of a region. -/
theorem page {n p} (work : State.PageWork n p t u) : s.Staged u := h.of_marl work.marl

theorem storeBytes {n a bytes} {put : Nat → List Byte → State → State} (hput : ∀ lo piece (v : State), s.Staged v → s.Staged (put lo piece v)) :
    s.Staged (t.storeBytes n a bytes put).1 := by
  cases none' : bytes.isEmpty with
  | true =>
    rw [State.storeBytes, if_pos none']
    exact h
  | false =>
    rw [State.storeBytes, none', if_neg Bool.false_ne_true]
    refine foldl_range_induct (P := fun _ (w : State × Bool) => s.Staged w.1) h (fun k w kept => ?_) _
    have same := State.PageWork.refl n (a / 128 + k) w.1
    refine iteInduction (motive := fun v : State × Bool => s.Staged v.1) (fun _ => hput _ _ _ (kept.page same.pageWritten)) fun _ => ?_
    exact iteInduction (motive := fun v : State × Bool => s.Staged v.1) (fun _ => kept.page same.tally.demandRead)
      fun _ => hput _ _ _ (kept.page same.tally.demandRead.pageWritten)

theorem throughBuffer {n a bytes} {put : Nat → List Byte → State → State} (hput : ∀ lo piece (v : State), s.Staged v → s.Staged (put lo piece v)) :
    s.Staged (t.throughBuffer n a bytes put).1 := by
  simp only [State.throughBuffer]
  refine iteInduction (motive := fun v : State × Bool => s.Staged v.1) (fun _ => h) fun _ => ?_
  exact (h.storeBytes hput).foldl fun v p kept => kept.page (n := n) (p := p) (State.PageWork.refl ..).demandRead

theorem epBuffer {x data} : s.Staged (t.epBuffer x data).1 :=
  iteInduction (motive := fun v : State × Bool => s.Staged v.1) (fun _ => h) fun _ => h.throughBuffer fun _ _ _ kept => kept.of_marl rfl

/-! ## The end of a transaction (R165, R167, R173) -/

theorem chainOk {e short} : s.Staged (t.chainOk e short) := by
  simp only [State.chainOk]
  refine modEp (endChain ?_)
  split
  · exact .ite (h.of_marl rfl) h
  · exact h

theorem nextTd {e cur short} : s.Staged (t.nextTd e cur short) := by
  simp only [State.nextTd]
  split
  · exact .ite h.setEp h.chainOk
  · exact h

theorem movedOut {e n cycle} : s.Staged (t.movedOut e n cycle) := by
  simp only [State.movedOut]
  split
  · exact h
  · exact .ite h.setEp.nextTd h.setEp

theorem poisonEnd {e} : s.Staged (t.poisonEnd e) := h.endChain.modEp

theorem hostWrite {k sl a b} : s.Staged (t.hostWrite k sl a b) := h.of_marl (State.hostWrite_marl ..)

theorem movedIn {e asked dpid data cycle more} : s.Staged (t.movedIn e asked dpid data cycle more) := by
  unfold State.movedIn
  extract_lets x n seq short
  split
  · extract_lets td status put addr c₁
    have read : s.Staged (t.epBuffer x put).1 := h.epBuffer
    refine .ite h.modEp (.ite h.stopEp ?_)
    split
    next t₁ bad buffered =>
    rw [buffered] at read
    extract_lets t₂ t₃
    have placed : s.Staged t₃ := (read.ite read.hostWrite).setEp
    exact .ite read.poisonEnd (.ite read.stopEp (.ite (.ite placed.endChain.modEp (.ite placed placed.chainOk))
      (.ite placed.nextTd (.ite (.ite placed.nextTd placed.chainOk) (.ite placed.nextTd placed)))))
  · exact h

theorem splitError {e} : s.Staged (t.splitError e) := .ite (h.of_marl (u := t.modXfer _) rfl).stopEp (h.of_marl (u := t.modXfer _) rfl).setEp

theorem usbError {e} : s.Staged (t.usbError e) := .ite h.stopEp h.setEp

theorem xactEnd {e res asked dpid data poison cycle} : s.Staged (t.xactEnd e res asked dpid data poison cycle) := by
  simp only [State.xactEnd]
  refine .ite h.modEp (.ite h.modEp.poisonEnd ?_)
  split
  · exact h.modEp.movedOut
  · exact h.modEp.movedOut
  · exact h.modEp.modEp
  · exact h.modEp.stopEp
  · exact h.modEp.movedIn
  · exact h.modEp.stopEp
  · exact .ite h.modEp.endChain.modEp h.modEp.modEp
  · exact h.modEp.splitError
  · exact h.modEp.usbError

/-! ## Results (R168, R177, R178) -/

theorem rootNotice {r code tport} : s.Staged (t.rootNotice r code tport) := h.of_marl (State.rootNotice_marl ..)

theorem sendPing {r} : s.Staged (t.sendPing r) :=
  .ite (h.of_marl rfl) ⟨(State.Admitted.refl _).sendRecords.staging.trans h.staging⟩

theorem beginResume {r wake} : s.Staged (t.beginResume r wake) := .ite (h.of_marl (u := t.modRoot r _) rfl).sendPing (h.of_marl rfl)

theorem remoteWake {r tport} : s.Staged (t.remoteWake r tport) := by
  simp only [State.remoteWake]
  split
  · exact h.rootNotice.beginResume
  · exact h.of_marl rfl
  · exact .ite h.rootNotice h

theorem usb2Result {r rec'} : s.Staged (t.usb2Result r rec') := by
  simp only [State.usb2Result]
  refine .ite h (.ite (.ite h h.remoteWake) ?_)
  split
  · exact h
  refine .ite h ?_
  split
  · exact h.of_marl rfl
  · exact (h.of_marl (u := t.modRoot r _) rfl).xactEnd

theorem takeCell {c} {out : State → Record → State} (hout : ∀ (v : State) (x : Record), s.Staged v → s.Staged (out v x)) : s.Staged (t.takeCell c out) := by
  simp only [State.takeCell]
  exact (h.of_marl (u := t.modPort _ _) rfl).foldl hout

end

end State.Staged

/-- R85, R168: the engine takes the oldest USB2 cell of its staging buffer, whatever the results in it do. -/
theorem usb2ResultReceived_gives {c : Cell} {s : State} (oldest : (Tab.get [] s.marl.staging agentXfer).find? (fun c => decide (c.cls = 2)) = some c) :
    Gives .usb2ResultReceived s fun t =>
      Tab.get [] t.marl.staging agentXfer = eraseFirst (fun c => decide (c.cls = 2)) (Tab.get [] s.marl.staging agentXfer) := by
  let l := eraseFirst (fun c => decide (c.cls = 2)) (Tab.get [] s.marl.staging agentXfer)
  let u := s.modMarl fun m => { m with staging := Tab.set [] agentXfer l m.staging }
  let t := u.takeCell c fun s r => s.usb2Result ((s.tunnel c.flow).port + 12) r
  have takes : exec .usb2ResultReceived s = .next t := by
    change execUsb2ResultReceived s = _
    simp only [execUsb2ResultReceived, oldest]
    rfl
  have staged : u.Staged t := (State.Staged.refl u).takeCell fun _ _ kept => kept.usb2Result
  refine Gives.of_eq takes ?_
  rw [staged.staging]
  exact (Tab.get_set ..).trans (if_pos rfl)

theorem exec_usb2ResultReceived_idle {s : State} (none' : (Tab.get [] s.marl.staging agentXfer).find? (fun c => decide (c.cls = 2)) = none) :
    exec .usb2ResultReceived s = .next s := by
  change execUsb2ResultReceived s = _
  simp only [execUsb2ResultReceived, none']

end Sys2Proof.Machine
end

section
/-! PROOFS. How the transactions of the USB host engine end: without a result, with NAK, STALL, BABBLE or an error, and split (R154, R165, R168, R170, R173). -/

namespace Sys2Proof.Machine

/-! ## Errors (R173) -/

section
variable {s : State} {e : Nat}

theorem State.usbError_few (few : (s.ep e).errors < 2) :
    s.usbError e = s.setEp e { s.ep e with errors := (s.ep e).errors + 1, busy := false, left := 0 } := if_neg (Nat.not_le.mpr few)

theorem State.usbError_third (third : 2 ≤ (s.ep e).errors) : s.usbError e = s.stopEp e .mediaError 3 .halted := if_pos third

/-- R173: the third error halts the endpoint. -/
theorem State.ep_usbError_third (third : 2 ≤ (s.ep e).errors) : (s.usbError e).ep e = (s.ep e).stoppedIn .halted := by
  rw [State.usbError_third third, State.stopEp_own]

theorem State.splitError_few (few : (s.ep e).splitErrs < 2) :
    s.splitError e = (s.modXfer fun y => { y with splits := y.splits.filter fun x => decide (x.1 ≠ e) }).setEp e
      { s.ep e with splitErrs := (s.ep e).splitErrs + 1, busy := false, left := 0 } := if_neg (Nat.not_le.mpr few)

theorem State.splitError_third (third : 2 ≤ (s.ep e).splitErrs) : ((s.splitError e).ep e).state = .halted := by
  have halts : s.splitError e = (s.modXfer fun y => { y with splits := y.splits.filter fun x => decide (x.1 ≠ e) }).stopEp e .mediaError 6 .halted := if_pos third
  rw [halts, State.stopEp_own]
  rfl

/-- R167: a visit whose budget has run out does not go on. -/
theorem State.goOn_of_left (spent : (s.ep e).left = 0) (v : HostView) : s.goOn e v = s :=
  if_pos (by rw [spent, decide_eq_true rfl, Bool.or_true])

/-! ## The end of a transaction (R165, R173) -/

/-- R165: the endpoint when its transaction ends in `cycle`; with `rest`, another of its visit is outstanding. -/
def Ep.ends (x : Ep) (rest : Bool) (cycle : BitVec 32) : Ep :=
  { x with busy := rest, chain := x.chain.map fun c => { c with cycle := some cycle } }

/-- R167: another transaction of the endpoint's visit is outstanding. -/
def State.rests (s : State) (e : Nat) : Bool := (s.root ((s.epRoot (s.ep e)).getD 24)).outst.any fun q => decide (q.ep = some e)

/-- R165: the state in which the result of a transaction acts. -/
def State.xactOver (s : State) (e : Nat) (cycle : BitVec 32) : State := s.modEp e fun x => x.ends (s.rests e) cycle

theorem State.ep_xactOver_self (s : State) (e : Nat) (cycle : BitVec 32) : (s.xactOver e cycle).ep e = (s.ep e).ends (s.rests e) cycle :=
  (State.ep_modEp ..).trans (if_pos rfl)

theorem State.ep_xactOver_other (s : State) {e j : Nat} (cycle : BitVec 32) (other : j ≠ e) : (s.xactOver e cycle).ep j = s.ep j :=
  (State.ep_modEp ..).trans (if_neg other)

section
variable {asked dpid : Nat} {data : List Byte} {cycle : BitVec 32} (chained : (s.ep e).chain.isSome = true)
include chained

theorem State.xactOver_chained : ¬ ((s.xactOver e cycle).ep e).chain.isNone = true := by
  rw [State.ep_xactOver_self]
  obtain ⟨c, chain⟩ := Option.isSome_iff_exists.mp chained
  simp only [Ep.ends, chain, Option.map_some, Option.isNone_some, Bool.false_eq_true, not_false_eq_true]

/-- R165: NAK, or NRDY, leaves the chain for a later visit. -/
theorem State.xactEnd_nak : s.xactEnd e 1 asked dpid data false cycle
    = (s.xactOver e cycle).modEp e fun x => { x with errors := 0, left := 0, nrdy := (s.xactOver e cycle).isSs x && decide (x.typ ≠ 1) } :=
  (if_neg (State.xactOver_chained chained)).trans (if_neg Bool.false_ne_true)

theorem State.ep_xactEnd_nak : (s.xactEnd e 1 asked dpid data false cycle).ep e
    = { s.ep e with
        busy := s.rests e, errors := 0, left := 0, chain := (s.ep e).chain.map fun c => { c with cycle := some cycle }
        nrdy := s.isSs (s.ep e) && decide ((s.ep e).typ ≠ 1) } := by
  rw [State.xactEnd_nak chained, State.ep_modEp, if_pos rfl, State.ep_xactOver_self]
  rfl

/-- R165, R173: STALL, and BABBLE, halt the endpoint. -/
theorem State.xactEnd_halts {res : Nat} (halts : res = 2 ∨ res = 6) :
    ∃ x, s.xactEnd e res asked dpid data false cycle = (s.xactOver e cycle).stopEp e .mediaError x .halted := by
  rcases halts with rfl | rfl
  · exact ⟨1, (if_neg (State.xactOver_chained chained)).trans (if_neg Bool.false_ne_true)⟩
  · exact ⟨2, (if_neg (State.xactOver_chained chained)).trans (if_neg Bool.false_ne_true)⟩

theorem State.ep_xactEnd_halts {res : Nat} (halts : res = 2 ∨ res = 6) :
    (s.xactEnd e res asked dpid data false cycle).ep e = ((s.ep e).ends (s.rests e) cycle).stoppedIn .halted := by
  obtain ⟨x, stops⟩ := State.xactEnd_halts (asked := asked) (dpid := dpid) (data := data) (cycle := cycle) chained halts
  rw [stops, State.stopEp_own, State.ep_xactOver_self]

theorem State.xactEnd_silent : s.xactEnd e 5 asked dpid data false cycle = (s.xactOver e cycle).usbError e :=
  (if_neg (State.xactOver_chained chained)).trans (if_neg Bool.false_ne_true)

theorem State.ep_xactEnd_few (few : (s.ep e).errors < 2) : (s.xactEnd e 5 asked dpid data false cycle).ep e
    = { s.ep e with errors := (s.ep e).errors + 1, busy := false, left := 0, chain := (s.ep e).chain.map fun c => { c with cycle := some cycle } } := by
  have same := s.ep_xactOver_self e cycle
  have few' : ((s.xactOver e cycle).ep e).errors < 2 := by
    rw [same]
    exact few
  rw [State.xactEnd_silent chained, State.usbError_few few', State.ep_setEp_self, same]
  rfl

theorem State.ep_xactEnd_third (third : 2 ≤ (s.ep e).errors) :
    (s.xactEnd e 5 asked dpid data false cycle).ep e = ((s.ep e).ends (s.rests e) cycle).stoppedIn .halted := by
  have same := s.ep_xactOver_self e cycle
  have third' : 2 ≤ ((s.xactOver e cycle).ep e).errors := by
    rw [same]
    exact third
  rw [State.xactEnd_silent chained, State.ep_usbError_third third', same]

end

end

/-! ## A request without a result (R168, R173) -/

theorem usb2ResultMissing_gives {r : Fin 24} {xid : BitVec 16} {q : UsbReq} {e : Nat} {s : State}
    (asked : (s.root r).outst.find? (fun q => decide (q.xid = xid)) = some q) (ep : q.ep = some e)
    (due : (q.cycle + 2) * 125000 + (s.port (r.val - 12)).oneWay + 10000 ≤ s.now.toNat) :
    Gives (.usb2ResultMissing r xid) s fun t =>
      ((s.ep e).errors < 2 → t.ep e = { s.ep e with errors := (s.ep e).errors + 1, busy := false, left := 0 } ∧ (∀ j, j ≠ e → t.ep j = s.ep j)
          ∧ (t.root r).outst = (s.root r).outst.filter (fun q => q.xid ≠ xid) ∧ t = { s with xfer := t.xfer })
        ∧ (2 ≤ (s.ep e).errors → (t.ep e).state = .halted ∧ (t.ep e).busy = false) := by
  let u := s.modRoot r fun x => { x with outst := x.outst.filter (·.xid ≠ xid) }
  have dropped : u.root r = { s.root r with outst := (s.root r).outst.filter (·.xid ≠ xid) } := s.root_modRoot_self ..
  have misses : exec (.usb2ResultMissing r xid) s = .next (u.usbError e) := by
    change execUsb2ResultMissing r xid s = _
    simp only [execUsb2ResultMissing, asked, if_neg (Nat.not_lt.mpr due), ep]
    rfl
  refine Gives.of_eq misses ⟨fun few => ?_, fun third => ?_⟩
  · obtain ⟨own, other, -⟩ := u.setEp_gives e { s.ep e with errors := (s.ep e).errors + 1, busy := false, left := 0 }
    rw [State.usbError_few (s := u) few]
    exact ⟨own, other, congrArg Root.outst dropped, rfl⟩
  · rw [State.ep_usbError_third (s := u) third]
    exact ⟨rfl, rfl⟩

theorem exec_usb2ResultMissing_early {r : Fin 24} {xid : BitVec 16} {q : UsbReq} {s : State}
    (asked : (s.root r).outst.find? (fun q => decide (q.xid = xid)) = some q)
    (early : s.now.toNat < (q.cycle + 2) * 125000 + (s.port (r.val - 12)).oneWay + 10000) : exec (.usb2ResultMissing r xid) s = .next s := by
  change execUsb2ResultMissing r xid s = _
  simp only [execUsb2ResultMissing, asked, if_pos early]

/-! ## NATIVE_TRANSACTION_END (R165, R171, R173) -/

section
variable {e : Fin 4096} {res : Fin 9} {dpid : Fin 4} {data : List Byte} {v : HostView} {s : State}

/-- R165: a transaction of a native root that has no split ends with its result, and the visit goes on. -/
theorem exec_nativeTransactionEnd {r : Nat} {c : Chain} (chain : (s.ep e).chain = some c) (busy : (s.ep e).busy = true)
    (root : s.epRoot (s.ep e) = some r) (native : r < 12) (whole : s.xfer.splits = []) :
    exec (.nativeTransactionEnd e res dpid data v) s
      = .next (((s.modXfer fun y => { y with splits := y.splits.filter fun x => decide (x.1 ≠ e.val) }).xactEnd e res
          ((s.ep e).nextXact c (s.unitBytes (s.ep e))).2 dpid data false s.cycle32).goOn e v) := by
  have near : tunnelled r = false := decide_eq_false (by omega)
  change execNativeTransactionEnd e res dpid data v s = _
  simp only [execNativeTransactionEnd, chain, busy, root, near, whole, Option.getD_some, Bool.not_true, Bool.false_eq_true, if_false, List.any_nil,
    Bool.false_and]
  rfl

theorem nativeTransactionEnd_gives {r : Nat} (chained : (s.ep e).chain.isSome = true) (busy : (s.ep e).busy = true)
    (root : s.epRoot (s.ep e) = some r) (native : r < 12) (alone : (s.root r).outst.any (fun q => q.ep = some e.val) = false) (whole : s.xfer.splits = []) :
    Gives (.nativeTransactionEnd e res dpid data v) s fun t =>
      (res.val = 1 → t.ep e = { s.ep e with
              busy := false, errors := 0, left := 0, chain := (s.ep e).chain.map fun c => { c with cycle := some s.cycle32 }
              nrdy := s.isSs (s.ep e) && decide ((s.ep e).typ ≠ 1) } ∧ (∀ j, j ≠ e.val → t.ep j = s.ep j) ∧ t = { s with xfer := t.xfer })
        ∧ (res.val = 2 ∨ res.val = 6 → (t.ep e).state = .halted ∧ (t.ep e).busy = false)
        ∧ (res.val = 5 → (s.ep e).errors < 2 → (t.ep e).errors = (s.ep e).errors + 1 ∧ (t.ep e).busy = false
            ∧ (t.ep e).chain = (s.ep e).chain.map fun c => { c with cycle := some s.cycle32 })
        ∧ (res.val = 5 → 2 ≤ (s.ep e).errors → (t.ep e).state = .halted) := by
  obtain ⟨c, chain⟩ := Option.isSome_iff_exists.mp chained
  let u := s.modXfer fun y => { y with splits := y.splits.filter fun x => decide (x.1 ≠ e.val) }
  let asked := ((s.ep e).nextXact c (s.unitBytes (s.ep e))).2
  have last : u.rests e = false := by
    change (s.root ((s.epRoot (s.ep e)).getD 24)).outst.any _ = false
    rw [root]
    exact alone
  refine Gives.of_eq (exec_nativeTransactionEnd chain busy root native whole) ⟨fun nak => ?_, fun halts => ?_, fun silent few => ?_, fun silent third => ?_⟩
  · have own := State.ep_xactEnd_nak (s := u) (e := e) (asked := asked) (dpid := dpid) (data := data) (cycle := s.cycle32) chained
    rw [nak, State.goOn_of_left (by rw [own]), own, last, State.xactEnd_nak (s := u) chained]
    exact ⟨rfl, fun j other => ((State.ep_modEp ..).trans (if_neg other)).trans (u.ep_xactOver_other _ other), rfl⟩
  · have own := State.ep_xactEnd_halts (s := u) (e := e) (asked := asked) (dpid := dpid) (data := data) (cycle := s.cycle32) chained halts
    rw [State.goOn_of_left (by rw [own]; rfl), own]
    exact ⟨rfl, rfl⟩
  · have own := State.ep_xactEnd_few (s := u) (e := e) (asked := asked) (dpid := dpid) (data := data) (cycle := s.cycle32) chained few
    rw [silent, State.goOn_of_left (by rw [own]), own]
    exact ⟨rfl, rfl, rfl⟩
  · have own := State.ep_xactEnd_third (s := u) (e := e) (asked := asked) (dpid := dpid) (data := data) (cycle := s.cycle32) chained third
    rw [silent, State.goOn_of_left (by rw [own]; rfl), own]
    rfl

theorem nativeTransactionEnd_erdy (chained : (s.ep e).chain.isSome = true) (idle : (s.ep e).busy = false) (nrdy : (s.ep e).nrdy = true) :
    Gives (.nativeTransactionEnd e 0 dpid data v) s fun t =>
      t.ep e = { s.ep e with nrdy := false } ∧ (∀ j, j ≠ e.val → t.ep j = s.ep j) ∧ t = { s with xfer := t.xfer } := by
  obtain ⟨c, chain⟩ := Option.isSome_iff_exists.mp chained
  let u := s.setEp e { s.ep e with nrdy := false }
  have wakes : exec (.nativeTransactionEnd e 0 dpid data v) s
      = .next (u.modRoot ((s.epRoot (s.ep e)).getD 24) fun y => { y with asyncSleep := false }) := by
    change execNativeTransactionEnd e 0 dpid data v s = _
    simp only [execNativeTransactionEnd]
    split
    · next none' => exact nomatch chain.symm.trans none'
    · exact (if_pos (by rw [idle]; rfl)).trans (if_pos (by rw [nrdy]; rfl))
  obtain ⟨own, other, -⟩ := s.setEp_gives e { s.ep e with nrdy := false }
  exact Gives.of_eq wakes ⟨own, other, rfl⟩

/-- R171: on a tunnelled root only the missing answer of a SuperSpeed endpoint ends a transaction here. -/
theorem exec_nativeTransactionEnd_tunnelled {r : Nat} (busy : (s.ep e).busy = true) (root : s.epRoot (s.ep e) = some r) (far : 12 ≤ r)
    (none' : res.val ≠ 5 ∨ s.isSs (s.ep e) = false) : exec (.nativeTransactionEnd e res dpid data v) s = .next s := by
  have far' : tunnelled r = true := decide_eq_true far
  have skip : ¬ ((decide (res.val = 5) && s.isSs (s.ep e)) = true) := by
    rw [Bool.and_eq_true, decide_eq_true_eq]
    exact fun ⟨five, ss⟩ => none'.elim (· five) fun usb2 => Bool.false_ne_true (usb2.symm.trans ss)
  change execNativeTransactionEnd e res dpid data v s = _
  simp only [execNativeTransactionEnd]
  split
  · rfl
  · simp only [busy, root, far', Option.getD_some, Bool.not_true, Bool.false_eq_true, if_false, if_true, if_neg skip]

/-! ## COMPLETE_SPLIT_DUE (R154, R170) -/

theorem completeSplitDue_gives {x : Nat × Nat} (split : s.xfer.splits.find? (fun x => decide (x.1 = e.val)) = some x)
    (chained : (s.ep e).chain.isSome = true) (asynchronous : (s.ep e).typ = 0 ∨ (s.ep e).typ = 2) :
    Gives (.completeSplitDue e res dpid data v) s fun t =>
      (res.val = 3 → t = s)
        ∧ (res.val = 5 ∨ res.val = 8 → (s.ep e).splitErrs < 2 → (t.ep e).splitErrs = (s.ep e).splitErrs + 1 ∧ (t.ep e).busy = false
            ∧ t.xfer.splits = s.xfer.splits.filter (fun y => decide (y.1 ≠ e.val)) ∧ t = { s with xfer := t.xfer })
        ∧ (res.val = 5 ∨ res.val = 8 → 2 ≤ (s.ep e).splitErrs → (t.ep e).state = .halted)
        ∧ (res.val = 1 → (t.ep e).splitErrs = 0 ∧ (t.ep e).errors = 0 ∧ (t.ep e).left = 0
            ∧ t.xfer.splits = s.xfer.splits.filter (fun y => decide (y.1 ≠ e.val))) := by
  obtain ⟨c, chain⟩ := Option.isSome_iff_exists.mp chained
  let u := (s.modXfer fun y => { y with splits := y.splits.filter fun x => decide (x.1 ≠ e.val) }).modEp e fun x => { x with splitErrs := 0 }
  let t := (u.xactEnd e res ((s.ep e).nextXact c (s.unitBytes (s.ep e))).2 dpid data false s.cycle32).goOn e v
  have aperiodic : (decide ((s.ep e).typ = 1) || decide ((s.ep e).typ = 3)) = false := by
    rcases asynchronous with typ | typ <;> rw [typ] <;> rfl
  have due : exec (.completeSplitDue e res dpid data v) s
      = if res.val = 3 then .next s else if (decide (res.val = 5) || decide (res.val = 8)) = true then .next (s.splitError e) else .next t := by
    change execCompleteSplitDue e res dpid data v s = _
    simp only [execCompleteSplitDue, split, chain, aperiodic, Bool.false_and, Bool.false_eq_true, if_false]
    rfl
  by_cases wait : res.val = 3
  · exact Gives.of_eq (due.trans (if_pos wait)) ⟨fun _ => rfl, fun error => by omega, fun error => by omega, fun nak => by omega⟩
  rw [if_neg wait] at due
  by_cases error : res.val = 5 ∨ res.val = 8
  · rw [if_pos (by simpa only [Bool.or_eq_true, decide_eq_true_eq] using error)] at due
    refine Gives.of_eq due ⟨fun nyet => absurd nyet wait, fun _ few => ?_, fun _ third => State.splitError_third third, fun nak => by omega⟩
    rw [State.splitError_few few, State.ep_setEp_self]
    exact ⟨rfl, rfl, rfl, rfl⟩
  · rw [if_neg (by simpa only [Bool.or_eq_true, decide_eq_true_eq] using error)] at due
    refine Gives.of_eq due ⟨fun nyet => absurd nyet wait, fun h => absurd h error, fun h => absurd h error, fun nak => ?_⟩
    have before : u.ep e = { s.ep e with splitErrs := 0 } := (State.ep_modEp ..).trans (if_pos rfl)
    have chained' : (u.ep e).chain.isSome = true := by
      rw [before]
      exact chained
    have own := State.ep_xactEnd_nak (asked := ((s.ep e).nextXact c (s.unitBytes (s.ep e))).2) (dpid := dpid) (data := data) (cycle := s.cycle32) chained'
    simp only [t]
    rw [nak, State.goOn_of_left (by rw [own]), own, before, State.xactEnd_nak chained']
    exact ⟨rfl, rfl, rfl, rfl⟩

end

end Sys2Proof.Machine
end

section
/-! PROOFS. The schedules of a USB root: the prefetch of a cycle, and a pass over a root that forms no work (R156 to R160, R166, R180). -/

namespace Sys2Proof.Machine

/-! ## What the pass leaves (R158, R160, R180) -/

/-- R174: with no endpoint that is being ended there is nothing to end. -/
theorem State.drainAll_of_none {s : State} (none' : ∀ e ∈ s.xfer.eps, e.2.ending = none) (v : HostView) : s.drainAll v = s := by
  have empty : (s.xfer.eps.filter fun e => e.2.ending.isSome) = [] :=
    List.filter_eq_nil_iff.mpr fun e listed => by rw [none' e listed]; exact Bool.false_ne_true
  rw [State.drainAll, empty]
  rfl

/-- R150, R179: a root that runs is not held. -/
theorem State.held_of_rootRuns {s : State} {r : Nat} (runs : s.rootRuns r = true) : (s.root r).held = false := by
  simp only [State.rootRuns, Bool.and_eq_true, Bool.not_eq_true'] at runs
  exact runs.1.1.2

/-- R85: a pass that formed no records sends nothing. -/
theorem State.sendRecords_nil (s : State) (tid : Option Nat) : s.sendRecords tid [] = s := by
  cases tid <;> rfl

/-- R158, R159: the root once a schedule error of a cycle is told; it is told once per cycle. -/
def Root.told (x : Root) (cycle cause : Nat) : Root := if x.schedTold = some cycle then x else { x with schedTold := some cycle, schedCause := cause }

theorem State.schedErr_gives (s : State) (r cycle cause : Nat) : (s.schedErr r cycle cause).xfer.eps = s.xfer.eps ∧
    (s.schedErr r cycle cause).root r = (s.root r).told cycle cause := by
  unfold State.schedErr Root.told
  split
  · exact ⟨rfl, rfl⟩
  · rw [State.root_congr (State.event_xfer ..), State.event_xfer]
    exact ⟨rfl, State.root_modRoot_self ..⟩

theorem Root.told_gives (x : Root) (cycle cause : Nat) :
    (x.told cycle cause).schedTold = some cycle ∧ (x.schedTold ≠ some cycle → (x.told cycle cause).schedCause = cause)
      ∧ (x.told cycle cause).schedErr = x.schedErr := by
  unfold Root.told
  split
  · next known => exact ⟨known, fun new => absurd known new, rfl⟩
  · exact ⟨rfl, fun _ => rfl, rfl⟩

/-- R180: beginning to suspend changes the state and the deadline of the root alone. -/
theorem State.root_autoSuspend (s : State) (r : Nat) : ∃ st due, (s.autoSuspend r).root r = { s.root r with state := st, due := due } := by
  simp only [State.autoSuspend]
  split
  · exact ⟨_, _, (State.root_setRoot ..).trans (if_pos rfl)⟩
  · exact ⟨_, _, rfl⟩

theorem State.autoSuspend_eps (s : State) (r : Nat) : (s.autoSuspend r).xfer.eps = s.xfer.eps :=
  iteInduction (motive := fun t : State => t.xfer.eps = s.xfer.eps) (fun _ => rfl) fun _ => rfl

/-! ## USB_PREFETCH (R156, R159, R166) -/

section
variable {r : Fin 24} {v : HostView} {s : State}

theorem usbPrefetch_gives (settled : ∀ e ∈ s.xfer.eps, e.2.ending = none) (runs : s.rootRuns r = true) {t0 n : Nat}
    (at0 : t0 = s.now.toNat + s.leadNs r false) (cycle : n = (t0 + 25000) / 125000) (early : t0 < n * 125000)
    (new : (s.root r).prefetch.map (fun x => x.1) ≠ some n) :
    Gives (.usbPrefetch r v) s fun t =>
      (t.root r).prefetch = some (match v.read ((s.root r).perBase + BitVec.ofNat 64 (8 * (n % 8192))) 8 with
          | none => (n, [], 1)
          | some b => (n, walkChain v 256 (BitVec.ofNat 64 (le b 0 8))))
        ∧ (∀ j, j ≠ r.val → t.root j = s.root j) ∧ t.xfer.eps = s.xfer.eps ∧ t = { s with xfer := t.xfer } := by
  let f : List Epd × Nat := match v.read ((s.root r).perBase + BitVec.ofNat 64 (8 * (n % 8192))) 8 with
    | none => ([], 1)
    | some b => walkChain v 256 (BitVec.ofNat 64 (le b 0 8))
  have fetches : exec (.usbPrefetch r v) s = .next (s.setRoot r { s.root r with prefetch := some (n, f) }) := by
    change execUsbPrefetch r v s = _
    rw [execUsbPrefetch, State.drainAll_of_none settled]
    subst at0 cycle
    refine if_neg ?_
    simp only [runs, new, Bool.not_true, Bool.false_or, decide_false, Bool.or_false, decide_eq_true_eq]
    omega
  obtain ⟨own, other, -⟩ := s.setRoot_gives r { s.root r with prefetch := some (n, f) }
  refine Gives.of_eq fetches ⟨?_, other, rfl, rfl⟩
  rw [own]
  simp only [f]
  split <;> rfl

theorem exec_usbPrefetch_idle (settled : ∀ e ∈ s.xfer.eps, e.2.ending = none) (stopped : s.rootRuns r = false) : exec (.usbPrefetch r v) s = .next s := by
  change execUsbPrefetch r v s = _
  rw [execUsbPrefetch, State.drainAll_of_none settled]
  exact if_pos (by rw [stopped]; rfl)

/-! ## USB_FORMING_TIME (R158, R160, R167) -/

theorem exec_usbFormingTime_idle {usb3 : Bool} (settled : ∀ e ∈ s.xfer.eps, e.2.ending = none) (stopped : s.rootRuns r = false)
    (free : (s.root r).held = false) : exec (.usbFormingTime r usb3 v) s = .next s := by
  change execUsbFormingTime r usb3 v s = _
  rw [execUsbFormingTime, State.drainAll_of_none settled]
  exact (if_neg (by rw [free]; exact Bool.false_ne_true)).trans (if_pos (by rw [stopped]; rfl))

/-- R166: the root once the work of cycle `n` is formed. -/
def Root.formed (x : Root) (usb3 : Bool) (n : Nat) : Root :=
  if usb3 then { x with formed3 := some n, asyncSleep := false } else { x with formed2 := some n, asyncSleep := false }

/-- R160: where the asynchronous walk stands after it has visited `l`. -/
def Root.walked (x : Root) (worked : Bool) (l : List Epd) : Root :=
  { x with asyncSleep := !worked, asyncNext := match l.getLast? with
      | some d => d.next
      | none => x.asyncBase }

/-- R160, R166: the pass with which the work of cycle `n` begins. -/
def State.beginPass (s : State) (r : Nat) (usb3 : Bool) (n : Nat) : Pass :=
  { s := s.setRoot r ((s.root r).formed usb3 n), credit := Tab.get 0 s.marl.crossing (5 * 8 + 2) }

/-- R160: a pass goes on with the asynchronous list, sends the records it has formed, and may leave the root to suspend. -/
def Pass.walk (a : Pass) (r cycle mframe : Nat) (usb3 : Bool) (v : HostView) : State :=
  let (l, cut) := a.s.asyncEpds v r
  let a := l.foldl (fun a d => a.visit r cycle mframe usb3 v d) { a with worked := false }
  let s := (if cut then a.s.schedErr r cycle 1 else a.s).modRoot r fun x => x.walked a.worked l
  ((s.sendRecords (s.usbTunnel r true) a.per).sendRecords (s.usbTunnel r false) a.asy).autoSuspend r

/-- R158, R160: the first pass of a cycle that was not prefetched, over a list whose EPDs form no records. -/
theorem exec_usbFormingTime {usb3 cut : Bool} {n : Nat} {l : List Epd} {a : Pass} (settled : ∀ e ∈ s.xfer.eps, e.2.ending = none) (runs : s.rootRuns r = true)
    (cycle : n = (s.now.toNat + s.leadNs r usb3) / 125000) (fresh : (if usb3 then (s.root r).formed3 else (s.root r).formed2) ≠ some n)
    (unread : (s.root r).prefetch.map (fun x => x.1) ≠ some n) (list : s.asyncEpds v r = (l, cut))
    (visits : l.foldl (fun a d => a.visit r n n usb3 v d) (s.beginPass r usb3 n) = a) (quiet : a.per = [] ∧ a.asy = []) :
    exec (.usbFormingTime r usb3 v) s
      = .next (((if cut then a.s.schedErr r n 1 else a.s).modRoot r fun x => x.walked a.worked l).autoSuspend r) := by
  let a₀ := s.beginPass r usb3 n
  have root : a₀.s.root r = (s.root r).formed usb3 n := (State.root_setRoot ..).trans (if_pos rfl)
  have periodic : a₀.periodic r n usb3 v = a₀ := by
    have same : (a₀.s.root r).prefetch = (s.root r).prefetch := by
      rw [root]
      cases usb3 <;> rfl
    rw [Pass.periodic, same]
    split
    · next m _ _ known => exact if_pos fun eq => unread (by rw [known, ← eq]; rfl)
    · rfl
  have list' : a₀.s.asyncEpds v r = (l, cut) := by
    have same : a₀.s.asyncEpds v r = s.asyncEpds v r := by
      simp only [State.asyncEpds, root]
      cases usb3 <;> rfl
    rw [same, list]
  have fresh' : decide ((if usb3 then (s.root r).formed3 else (s.root r).formed2) ≠ some n) = true := decide_eq_true fresh
  have forms : exec (.usbFormingTime r usb3 v) s = .next (a₀.walk r n n usb3 v) := by
    change execUsbFormingTime r usb3 v s = _
    rw [execUsbFormingTime, State.drainAll_of_none settled]
    subst cycle
    refine (if_neg ?_).trans ((if_neg ?_).trans ?_)
    · rw [State.held_of_rootRuns runs]
      exact Bool.false_ne_true
    · rw [runs, fresh', Bool.not_true, Bool.and_false]
      exact Bool.false_ne_true
    · change Host.Outcome.next (Pass.walk (if decide (_ ≠ some _) = true then a₀.periodic r _ usb3 v else a₀) r _ (if decide (_ ≠ some _) = true then _ else _) usb3 v) = _
      rw [fresh', if_pos rfl, if_pos rfl, periodic]
  rw [forms, Pass.walk, list']
  have visits' : l.foldl (fun a d => a.visit r n n usb3 v d) { a₀ with worked := false } = a := visits
  simp only [visits', quiet, State.sendRecords_nil]

theorem State.root_beginPass (s : State) (r : Nat) (usb3 : Bool) (n : Nat) : (s.beginPass r usb3 n).s.root r = (s.root r).formed usb3 n :=
  (State.root_setRoot ..).trans (if_pos rfl)

theorem State.eps_modRoot (s : State) (r : Nat) (f : Root → Root) : (s.modRoot r f).xfer.eps = s.xfer.eps := rfl

theorem State.eps_beginPass (s : State) (r : Nat) (usb3 : Bool) (n : Nat) : (s.beginPass r usb3 n).s.xfer.eps = s.xfer.eps := rfl

theorem Root.formed_gives (x : Root) (usb3 : Bool) (n : Nat) : let y := x.formed usb3 n
    (if usb3 then y.formed3 else y.formed2) = some n ∧ y.asyncBase = x.asyncBase ∧ y.autoSuspend = x.autoSuspend ∧ y.owner = x.owner
      ∧ y.schedErr = x.schedErr ∧ y.schedTold = x.schedTold := by
  cases usb3 <;> exact ⟨rfl, rfl, rfl, rfl, rfl, rfl⟩

/-- R180: a root without AUTO_SUSPEND, or with work, does not begin to suspend. -/
theorem State.autoSuspend_of_work {s : State} {r : Nat} (work : (s.root r).autoSuspend = true → s.rootHasWork r = true) : s.autoSuspend r = s := by
  refine if_neg fun idle => ?_
  obtain ⟨⟨-, may⟩, none'⟩ := Bool.and_eq_true_iff.mp idle |>.imp_left Bool.and_eq_true_iff.mp
  rw [work may] at none'
  exact Bool.false_ne_true none'

/-- R180: what work a root has does not lie in the table of roots. -/
theorem State.rootHasWork_roots (s : State) (usb3 : Bool) (r n : Nat) (f : Root → Root) :
    ((s.beginPass r usb3 n).s.modRoot r f).rootHasWork r = s.rootHasWork r := by
  simp only [State.rootHasWork, State.rootEps, State.ep]
  rfl

/-- R160, R180: a list that holds nothing to visit puts the walk to sleep. -/
theorem usbFormingTime_sleeps {usb3 : Bool} {n : Nat} (settled : ∀ e ∈ s.xfer.eps, e.2.ending = none) (runs : s.rootRuns r = true)
    (cycle : n = (s.now.toNat + s.leadNs r usb3) / 125000) (fresh : (if usb3 then (s.root r).formed3 else (s.root r).formed2) ≠ some n)
    (unread : (s.root r).prefetch.map (fun x => x.1) ≠ some n) (list : s.asyncEpds v r = ([], false))
    (work : (s.root r).autoSuspend = true → s.rootHasWork r = true) :
    Gives (.usbFormingTime r usb3 v) s fun t =>
      (if usb3 then (t.root r).formed3 else (t.root r).formed2) = some n ∧ (t.root r).asyncSleep = true ∧ (t.root r).asyncNext = (s.root r).asyncBase
        ∧ (t.root r).schedErr = (s.root r).schedErr ∧ t.xfer.eps = s.xfer.eps ∧ t = { s with xfer := t.xfer } := by
  let t := (s.beginPass r usb3 n).s.modRoot r fun x => x.walked false []
  have own : t.root r = ((s.root r).formed usb3 n).walked false [] := by rw [State.root_modRoot_self, State.root_beginPass]
  obtain ⟨formed, base, auto', -, errs, -⟩ := (s.root r).formed_gives usb3 n
  have awake : t.autoSuspend r = t := by
    refine State.autoSuspend_of_work fun may => ?_
    rw [own] at may
    rw [State.rootHasWork_roots]
    exact work (auto'.symm.trans may)
  have forms := exec_usbFormingTime settled runs cycle fresh unread list rfl ⟨rfl, rfl⟩
  rw [if_neg Bool.false_ne_true] at forms
  change exec (.usbFormingTime r usb3 v) s = .next (t.autoSuspend r) at forms
  rw [awake] at forms
  refine Gives.of_eq forms ⟨?_, ?_, ?_, ?_, rfl, rfl⟩ <;> rw [own]
  · exact formed
  · rfl
  · exact base
  · exact errs

/-- R158: an asynchronous list that cannot be read is a schedule error, told once per cycle. -/
theorem usbFormingTime_unreadable {usb3 : Bool} {n : Nat} (settled : ∀ e ∈ s.xfer.eps, e.2.ending = none) (runs : s.rootRuns r = true)
    (cycle : n = (s.now.toNat + s.leadNs r usb3) / 125000) (fresh : (if usb3 then (s.root r).formed3 else (s.root r).formed2) ≠ some n)
    (unread : (s.root r).prefetch.map (fun x => x.1) ≠ some n) (list : s.asyncEpds v r = ([], true)) :
    Gives (.usbFormingTime r usb3 v) s fun t =>
      (t.root r).schedTold = some n ∧ ((s.root r).schedTold ≠ some n → (t.root r).schedCause = 1) ∧ (t.root r).schedErr = (s.root r).schedErr
        ∧ t.xfer.eps = s.xfer.eps := by
  let u := (s.beginPass r usb3 n).s
  obtain ⟨-, -, -, -, errs, before⟩ := (s.root r).formed_gives usb3 n
  obtain ⟨eps, told⟩ := u.schedErr_gives r n 1
  rw [show u.root r = _ from s.root_beginPass ..] at told
  obtain ⟨known, cause, same⟩ := ((s.root r).formed usb3 n).told_gives n 1
  let w := (u.schedErr r n 1).modRoot r fun x => x.walked false []
  obtain ⟨st, due, own⟩ := w.root_autoSuspend r
  rw [show w.root r = _ from (State.root_modRoot_self ..).trans (by rw [told])] at own
  have eps' : w.xfer.eps = s.xfer.eps := by rw [State.eps_modRoot, eps, State.eps_beginPass]
  have forms := exec_usbFormingTime settled runs cycle fresh unread list rfl ⟨rfl, rfl⟩
  rw [if_pos rfl] at forms
  change exec (.usbFormingTime r usb3 v) s = .next (w.autoSuspend r) at forms
  refine Gives.of_eq forms ⟨?_, fun new => ?_, ?_, (w.autoSuspend_eps r).trans eps'⟩ <;> rw [own]
  · exact known
  · exact cause (before ▸ new)
  · exact same.trans errs

/-- R158: a visit of a bad EPD counts it and tells it. -/
theorem usbFormingTime_badEpd {d : Epd} {n : Nat} (settled : ∀ e ∈ s.xfer.eps, e.2.ending = none) (runs : s.rootRuns r = true)
    (cycle : n = (s.now.toNat + s.leadNs r false) / 125000) (fresh : (s.root r).formed2 ≠ some n)
    (unread : (s.root r).prefetch.map (fun x => x.1) ≠ some n) (list : s.asyncEpds v r = ([d], false)) (bad : s.epdBad r d = true) :
    Gives (.usbFormingTime r false v) s fun t =>
      (t.root r).schedErr = (s.root r).schedErr + 1 ∧ (t.root r).schedTold = some n ∧ ((s.root r).schedTold ≠ some n → (t.root r).schedCause = 0)
        ∧ (t.root r).asyncNext = d.next ∧ t.xfer.eps = s.xfer.eps := by
  let a := s.beginPass r false n
  let u := a.s.modRoot r fun y => { y with schedErr := y.schedErr + 1 }
  have bad' : a.s.epdBad r d = true := by
    have same : a.s.epdBad r d = s.epdBad r d := by
      simp only [State.epdBad, show a.s.root r = _ from s.root_beginPass ..]
      rfl
    rw [same, bad]
  have visits : [d].foldl (fun a d => a.visit r n n false v d) a = { a with s := u.schedErr r n 0 } :=
    (if_pos bad').trans (if_neg (by rw [Bool.and_false]; exact Bool.false_ne_true))
  obtain ⟨eps, told⟩ := u.schedErr_gives r n 0
  let x : Root := { (s.root r).formed false n with schedErr := (s.root r).schedErr + 1 }
  have counted : u.root r = x := by
    rw [State.root_modRoot_self, State.root_beginPass]
    rfl
  rw [counted] at told
  obtain ⟨known, cause, same⟩ := x.told_gives n 0
  have before : x.schedTold = (s.root r).schedTold := rfl
  let w := (u.schedErr r n 0).modRoot r fun x => x.walked false [d]
  obtain ⟨st, due, own⟩ := w.root_autoSuspend r
  rw [show w.root r = (x.told n 0).walked false [d] from (State.root_modRoot_self ..).trans (by rw [told])] at own
  have forms := exec_usbFormingTime settled runs cycle fresh unread list visits ⟨rfl, rfl⟩
  rw [if_neg Bool.false_ne_true] at forms
  change exec (.usbFormingTime r false v) s = .next (w.autoSuspend r) at forms
  have eps' : w.xfer.eps = s.xfer.eps := by rw [State.eps_modRoot, eps, State.eps_modRoot, State.eps_beginPass]
  refine Gives.of_eq forms ⟨?_, ?_, fun new => ?_, ?_, (w.autoSuspend_eps r).trans eps'⟩ <;> rw [own]
  · exact same
  · exact known
  · exact cause (before ▸ new)
  · rfl

end

/-- Settles O53: each event has the outcome that its lemma above gives. -/
theorem usbEngineEvents : Obligations.UsbEngineEvents := by
  unfold Obligations.UsbEngineEvents
  refine ⟨?prefetch, ?sleeps, ?badEpd, ?unreadable, ?idle, ?result, ?noResult, ?missing, ?early, ?ends, ?erdy, ?tunnelled, ?split⟩
  case prefetch => exact fun r v s settled runs early new => usbPrefetch_gives settled runs rfl rfl early new
  case sleeps => exact fun r usb3 v s settled runs fresh unread list work => usbFormingTime_sleeps settled runs rfl fresh unread list work
  case badEpd => exact fun r v d s settled runs fresh unread list bad => usbFormingTime_badEpd settled runs rfl fresh unread list bad
  case unreadable => exact fun r usb3 v s settled runs fresh unread list => usbFormingTime_unreadable settled runs rfl fresh unread list
  case idle => exact fun r usb3 v s settled stopped free => ⟨exec_usbPrefetch_idle settled stopped, exec_usbFormingTime_idle settled stopped free⟩
  case result => exact fun c s oldest => usb2ResultReceived_gives oldest
  case noResult => exact fun s none' => exec_usb2ResultReceived_idle none'
  case missing => exact fun r xid q e s asked ep due => usb2ResultMissing_gives asked ep due
  case early => exact fun r xid q s asked early => exec_usb2ResultMissing_early asked early
  case ends => exact fun e res dpid data v r s chained busy root native alone whole => nativeTransactionEnd_gives chained busy root native alone whole
  case erdy => exact fun e dpid data v s chained idle nrdy => nativeTransactionEnd_erdy chained idle nrdy
  case tunnelled => exact fun e res dpid data v r s busy root far none' => exec_nativeTransactionEnd_tunnelled busy root far none'
  case split => exact fun e res dpid data v x s split chained asynchronous => completeSplitDue_gives split chained asynchronous

end Sys2Proof.Machine
end

section
/-! PROOFS. What the work on the endpoints of a device function leaves of the functions, the ports and the tunnels, and a function written over (R165, R174, R187, R190 to R194, R197). -/

namespace Sys2Proof.Machine

theorem State.fn_congr {s t : State} (h : t.xfer.fns = s.xfer.fns) (n : Nat) : t.fn n = s.fn n := by rw [State.fn, State.fn, h]

/-- R192: a notice of a function changes what is posted and counted, and may wake the part. -/
theorem State.devNotice_frame (s : State) (n code : Nat) (d : List Byte) :
    s.devNotice n code d
      = { s with hosts := (s.devNotice n code d).hosts, cluster := (s.devNotice n code d).cluster, power := (s.devNotice n code d).power } := by
  simp only [State.devNotice]
  split <;> exact State.eq_of_fields

theorem State.devNotice_xfer (s : State) (n code : Nat) (d : List Byte) : (s.devNotice n code d).xfer = s.xfer := by rw [State.devNotice_frame]

/-! ## Work on endpoints (R165, R174, R191 to R194) -/

/-- R187: the device functions, the ports and the tunnels are as they were. -/
structure State.FnsKept (s t : State) : Prop where
  fns : t.xfer.fns = s.xfer.fns
  ports : t.ports = s.ports
  tunnels : t.tunnels = s.tunnels

namespace State.FnsKept

theorem refl (s : State) : s.FnsKept s := ⟨rfl, rfl, rfl⟩

variable {s t u : State}

theorem ite {c : Prop} [Decidable c] (ht : s.FnsKept t) (hu : s.FnsKept u) : s.FnsKept (if c then t else u) := by
  split_ifs <;> assumption

section
variable (h : s.FnsKept t)
include h

theorem fn (n : Nat) : t.fn n = s.fn n := State.fn_congr h.fns n

theorem trans (g : t.FnsKept u) : s.FnsKept u := ⟨g.fns.trans h.fns, g.ports.trans h.ports, g.tunnels.trans h.tunnels⟩

theorem foldl {α : Type} {f : State → α → State} {l : List α} (hf : ∀ (t : State) (x : α), s.FnsKept t → s.FnsKept (f t x)) :
    s.FnsKept (l.foldl f t) :=
  List.foldlRecOn l f h fun u hu x _ => hf u x hu

theorem setEp {e v} : s.FnsKept (t.setEp e v) := h.trans ⟨rfl, rfl, rfl⟩

theorem modEp {e f} : s.FnsKept (t.modEp e f) := h.setEp

theorem devSend {n ep kind b} : s.FnsKept (t.devSend n ep kind b) := h.trans ⟨rfl, rfl, rfl⟩

theorem tickFree : s.FnsKept t.tickFree := h.trans ⟨rfl, rfl, rfl⟩

theorem enginePush {k sl q e slot} : s.FnsKept (t.enginePush k sl q e slot) := h.trans ⟨rfl, rfl, rfl⟩

theorem enginePost {k sl q e slot} : s.FnsKept (t.enginePost k sl q e slot) := .ite h.enginePush (h.trans ⟨rfl, rfl, rfl⟩)

theorem endChain {e st x short} : s.FnsKept (t.endChain e st x short) := by
  have frame := t.endChain_frame e st x short
  exact h.trans ⟨(congrArg (fun v : State => v.xfer.fns) frame :), (congrArg State.ports frame :), (congrArg State.tunnels frame :)⟩

theorem dropRequests {e} : s.FnsKept (t.dropRequests e) := h.trans ⟨rfl, rfl, rfl⟩

theorem stopEp {e st x dst} : s.FnsKept (t.stopEp e st x dst) := by
  unfold State.stopEp
  exact h.dropRequests.endChain.modEp

theorem ringStop {e tag st x} : s.FnsKept (t.ringStop e tag st x) := by
  simp only [State.ringStop]
  split
  · exact h.tickFree.enginePost
  · exact h

theorem flushControl {v : HostView} {e : Nat} {st : Status} {x n : Nat} : s.FnsKept (t.flushControl v e st x n) := by
  induction n generalizing t with
  | zero => exact h
  | succ n ih =>
    simp only [State.flushControl]
    split
    · exact h
    · split
      · exact .ite h (ih h.setEp.enginePost)
      · exact h

theorem endControl {v : HostView} {e : Nat} {st : Status} {x : Nat} : s.FnsKept (t.endControl v e st x) := by
  unfold State.endControl
  exact (FnsKept.ite h.endChain.flushControl h.endChain).modEp

theorem resetRing {e} : s.FnsKept (t.resetRing e) := .ite h.modEp (FnsKept.ite h.stopEp h.ringStop.stopEp).modEp

theorem drainEnding {v : HostView} {e n : Nat} : s.FnsKept (t.drainEnding v e n) := by
  induction n generalizing t with
  | zero => exact h
  | succ n ih =>
    simp only [State.drainEnding]
    split
    · split
      · exact .ite h.tickFree.enginePush.setEp (ih h.tickFree.enginePush.setEp)
      · exact h.tickFree.enginePush.setEp
      · exact h.tickFree.enginePush.setEp
      · exact h.setEp
    · exact h

theorem drainAll {v : HostView} : s.FnsKept (t.drainAll v) := h.foldl fun _ _ hu => hu.drainEnding

theorem completeOpt {c op st d b} : s.FnsKept (t.completeOpt c op st d b) :=
  h.trans ⟨congrArg Xfer.fns (State.completeOpt_xfer ..), State.completeOpt_ports .., State.completeOpt_tunnels ..⟩

theorem devNotice {n code d} : s.FnsKept (t.devNotice n code d) := by
  have frame := t.devNotice_frame n code d
  exact h.trans ⟨(congrArg (fun v : State => v.xfer.fns) frame :), (congrArg State.ports frame :), (congrArg State.tunnels frame :)⟩

end

end State.FnsKept

/-! ## A function written over (R187) -/

/-- R187: from `s` to `t` function `n` has become `v`; the other functions, the ports and the tunnels are as they were. -/
structure State.FnSet (n : Nat) (v : Fn) (s t : State) : Prop where
  own : t.fn n = v
  others : ∀ j, j ≠ n → t.fn j = s.fn j
  ports : t.ports = s.ports
  tunnels : t.tunnels = s.tunnels

theorem State.FnsKept.setFn {s t : State} (h : s.FnsKept t) (n : Nat) (v : Fn) : State.FnSet n v s (t.setFn n v) :=
  ⟨(State.fn_setFn ..).trans (if_pos rfl), fun j other => ((State.fn_setFn ..).trans (if_neg other)).trans (h.fn j), h.ports, h.tunnels⟩

theorem State.FnSet.kept {n : Nat} {v : Fn} {s t u : State} (h : State.FnSet n v s t) (g : t.FnsKept u) : State.FnSet n v s u :=
  ⟨(g.fn n).trans h.own, fun j other => (g.fn j).trans (h.others j other), g.ports.trans h.ports, g.tunnels.trans h.tunnels⟩

theorem State.FnSet.setFn {n : Nat} {v : Fn} {s t : State} (h : State.FnSet n v s t) (w : Fn) : State.FnSet n w s (t.setFn n w) := by
  obtain ⟨own, others, ports, tunnels⟩ := (State.FnsKept.refl t).setFn n w
  exact ⟨own, fun j other => (others j other).trans (h.others j other), ports.trans h.ports, tunnels.trans h.tunnels⟩

theorem State.FnsKept.set {n : Nat} {v : Fn} {s t u : State} (h : s.FnsKept t) (g : State.FnSet n v t u) : State.FnSet n v s u :=
  ⟨g.own, fun j other => (g.others j other).trans (h.fn j), g.ports.trans h.ports, g.tunnels.trans h.tunnels⟩

/-- R196, R197: the function whose remote wake has ended. -/
def Fn.unwoken (f : Fn) : Fn := { f with wakePend := none, wakeSig := false }

theorem State.endWake_fnSet (s : State) (n : Nat) (st : Status) : State.FnSet n (s.fn n).unwoken s (s.endWake n st) :=
  ((State.FnsKept.refl s).setFn n _).kept (State.FnsKept.refl _).completeOpt

theorem State.endWake_eps (s : State) (n : Nat) (st : Status) : (s.endWake n st).xfer.eps = s.xfer.eps :=
  (congrArg Xfer.eps (State.completeOpt_xfer ..)).trans rfl

/-- R187, R192: a function written over, and its notice, leave the endpoints. -/
theorem State.devTold_eps (s : State) (n : Nat) (v : Fn) (code : Nat) (d : List Byte) : ((s.setFn n v).devNotice n code d).xfer.eps = s.xfer.eps :=
  (congrArg Xfer.eps (State.devNotice_xfer ..)).trans rfl

theorem State.devTold_fnSet (s : State) (n : Nat) (v : Fn) (code : Nat) (d : List Byte) : State.FnSet n v s ((s.setFn n v).devNotice n code d) :=
  ((State.FnsKept.refl s).setFn n v).kept (State.FnsKept.refl _).devNotice

end Sys2Proof.Machine
end

section
/-! PROOFS. The bus events of a device function (R189, R190, R192, R193, R195 to R197, Table 7-5). -/

namespace Sys2Proof.Machine

/-! ## Attach, reset and detach (R192, R193) -/

section
variable {n : Fin 2} {s : State}

theorem devAttached_gives (bound : (s.fn n).bound = true) (detached : (s.fn n).state = .detached)
    (fallback : (s.port (s.fn n).port).pd.inFallback = true) (ufp : (s.port (s.fn n).port).pd.roles.dfp = false)
    (attached : (s.port (s.fn n).port).pd.conn = .attachedSrc ∨ (s.port (s.fn n).port).pd.conn = .attachedSnk)
    (enabled : (s.port (s.fn n).port).pd.fbNow.devEn = true) :
    Gives (.devAttached n) s fun t =>
      t.fn n = { s.fn n with state := .attached, desc := if (s.fn n).diag then diagDesc else (s.fn n).desc }
        ∧ (t.port (s.fn n).port).pd = (let d := (s.port (s.fn n).port).pd; { d with pins := { d.pins with snkEn := false } })
        ∧ (∀ j, j ≠ n.val → t.fn j = s.fn j) ∧ (∀ j, j ≠ (s.fn n).port → t.port j = s.port j) ∧ t.tunnels = s.tunnels
        ∧ t.xfer.eps = s.xfer.eps := by
  let u := s.modPd (s.fn n).port fun d => { d with pins := { d.pins with snkEn := false } }
  let f : Fn := { s.fn n with state := .attached, desc := if (s.fn n).diag then diagDesc else (s.fn n).desc }
  have attaches : exec (.devAttached n) s = .next ((u.setFn n f).devNotice n 0x20 []) :=
    if_pos (by simpa only [bound, detached, fallback, ufp, enabled, decide_true, Bool.not_false, Bool.and_true, Bool.true_and, Bool.or_eq_true,
      decide_eq_true_eq] using attached)
  obtain ⟨own, others, ports, tunnels⟩ := u.devTold_fnSet n f 0x20 []
  have path := State.OnPort.modPd (s.fn n).port s fun d => { d with pins := { d.pins with snkEn := false } }
  refine Gives.of_eq attaches ⟨own, ?_, others, fun j other => ?_, tunnels, u.devTold_eps ..⟩
  · rw [State.port_congr ports]
    exact congrArg Port.pd (State.port_modPort_same ..)
  · rw [State.port_congr ports, path.other j other]

theorem devBusReset_gives {speed : Fin 7} {view : HostView} (present : (s.fn n).state ≠ .detached) (offered : s.devSpeedOk (s.fn n) speed = true) :
    Gives (.devBusReset n speed view) s fun t =>
      t.fn n = { s.fn n with state := .default, addr := 0, config := 0, alts := [], wakeEn := false, speed := speed, wakePend := none, wakeSig := false }
        ∧ (∀ j, j ≠ n.val → t.fn j = s.fn j) ∧ t.ports = s.ports ∧ t.tunnels = s.tunnels := by
  let b := s.drainAll view
  let w := b.endWake n .busReset
  let x := match w.fnEp0 n with
    | some e => (w.endControl view e .busReset 0).modEp e fun x => { x with setup := [], halted := false, mps := ep0Mps speed.val }
    | none => w
  let y := if (x.fn n).state = .attached then x else (x.fnEps n).foldl State.resetRing x
  let f : Fn := { y.fn n with state := .default, addr := 0, config := 0, alts := [], wakeEn := false, speed := speed.val }
  have drained : s.FnsKept b := (State.FnsKept.refl s).drainAll
  have control : w.FnsKept x := by
    simp only [x]
    split
    · exact (State.FnsKept.refl w).endControl.modEp
    · exact .refl w
  have rings : w.FnsKept y := .ite control (control.foldl fun _ _ hu => hu.resetRing)
  have takes : b.devSpeedOk (b.fn n) speed = true := by
    rw [drained.fn, State.devSpeedOk, State.port_congr drained.ports]
    exact offered
  have resets : exec (.devBusReset n speed view) s = .next ((y.setFn n f).devNotice n 0x21 (toLe 1 speed.val)) := by
    refine if_neg ?_
    change ¬ (decide ((b.fn n).state = .detached) || !b.devSpeedOk (b.fn n) speed.val) = true
    rw [takes, drained.fn, decide_eq_false present]
    exact Bool.false_ne_true
  obtain ⟨own, others, ports, tunnels⟩ :=
    drained.set ((((b.endWake_fnSet n .busReset).kept rings).setFn f).kept (State.FnsKept.refl _).devNotice)
  have before : y.fn n = (s.fn n).unwoken := by rw [rings.fn, (b.endWake_fnSet n .busReset).own, drained.fn]
  refine Gives.of_eq resets ⟨own.trans ?_, others, ports, tunnels⟩
  simp only [f, before]
  rfl

theorem devDetached_gives (present : (s.fn n).state ≠ .detached) :
    Gives (.devDetached n) s fun t =>
      t.fn n = { s.fn n with state := .detached, addr := 0, config := 0, alts := [], wakeEn := false, speed := 0, wakePend := none, wakeSig := false }
        ∧ (∀ j, j ≠ n.val → t.fn j = s.fn j) ∧ t.ports = s.ports ∧ t.tunnels = s.tunnels := by
  obtain ⟨y, stopped, detaches⟩ : ∃ y, (s.endWake n .aborted).FnsKept y ∧ s.devDetach n
      = (y.setFn n { y.fn n with state := .detached, addr := 0, config := 0, alts := [], wakeEn := false, speed := 0 }).devNotice n 0x26 [] :=
    ⟨_, (State.FnsKept.refl _).foldl fun _ _ hu => hu.stopEp.modEp, if_neg present⟩
  have woken := s.endWake_fnSet n .aborted
  obtain ⟨own, others, ports, tunnels⟩ := ((woken.kept stopped).setFn _).kept (State.FnsKept.refl _).devNotice
  refine Gives.of_eq (congrArg Host.Outcome.next detaches) ⟨own.trans ?_, others, ports, tunnels⟩
  rw [stopped.fn, woken.own]
  rfl

/-! ## Suspend, resume and remote wake (R195 to R197) -/

theorem devSuspended_gives (live : (s.fn n).state.live = true) :
    Gives (.devSuspended n) s fun t =>
      t.fn n = { s.fn n with state := .suspended, before := (s.fn n).state, suspAt := s.now } ∧ (∀ j, j ≠ n.val → t.fn j = s.fn j)
        ∧ t.ports = s.ports ∧ t.xfer.eps = s.xfer.eps := by
  obtain ⟨own, others, ports, -⟩ := s.devTold_fnSet n { s.fn n with state := .suspended, before := (s.fn n).state, suspAt := s.now } 0x24 []
  exact Gives.of_eq (if_pos live) ⟨own, others, ports, s.devTold_eps ..⟩

theorem devHostResume_gives (suspended : (s.fn n).state = .suspended) :
    Gives (.devHostResume n) s fun t =>
      t.fn n = { s.fn n with state := (s.fn n).before, wakePend := none, wakeSig := false } ∧ (∀ j, j ≠ n.val → t.fn j = s.fn j)
        ∧ t.ports = s.ports ∧ t.xfer.eps = s.xfer.eps := by
  let f : Fn := { s.fn n with state := (s.fn n).before }
  let u := s.setFn n f
  let w := if (s.fn n).wakeSig && 3 ≤ (s.fn n).speed then u.devSend n 0 7 [] else u
  let st : Status := if (s.fn n).wakeSig then .ok else .superseded
  have resumes : exec (.devHostResume n) s = .next ((w.endWake n st).devNotice n 0x25 []) := if_neg (not_not.mpr suspended)
  have answers : u.FnsKept w := .ite (State.FnsKept.refl u).devSend (.refl u)
  have sameEps : w.xfer.eps = s.xfer.eps := by
    simp only [w]
    split <;> rfl
  have set : State.FnSet n f s u := (State.FnsKept.refl s).setFn n f
  have ended := w.endWake_fnSet n st
  have own : ((w.endWake n st).devNotice n 0x25 []).fn n = f.unwoken := by
    rw [(State.FnsKept.refl _).devNotice.fn, ended.own, answers.fn, set.own]
  refine Gives.of_eq resumes ⟨own, fun j other => ?_, ?_, ?_⟩
  · rw [(State.FnsKept.refl _).devNotice.fn, ended.others j other, answers.fn, set.others j other]
  · rw [(State.FnsKept.refl _).devNotice.ports, ended.ports, answers.ports, set.ports]
  · rw [State.devNotice_xfer, State.endWake_eps, sameEps]

theorem devWakeSignalStart_gives (suspended : (s.fn n).state = .suspended) (pending : (s.fn n).wakePend.isSome = true)
    (silent : (s.fn n).wakeSig = false) (due : 3 ≤ (s.fn n).speed ∨ (s.fn n).suspAt.toNat + 5000000 ≤ s.now.toNat) :
    Gives (.devWakeSignalStart n) s fun t =>
      t.fn n = { s.fn n with wakeSig := true, wakeEnd := if 3 ≤ (s.fn n).speed then s.now else s.after 2000000 }
        ∧ t.out = .dev n 0 6 [] :: s.out ∧ (∀ j, j ≠ n.val → t.fn j = s.fn j) ∧ t = { s with xfer := t.xfer, out := t.out } := by
  have signals : exec (.devWakeSignalStart n) s
      = .next ((s.setFn n { s.fn n with wakeSig := true, wakeEnd := if decide (3 ≤ (s.fn n).speed) then s.now else s.after 2000000 }).devSend n 0 6 []) :=
    if_pos (by simpa only [suspended, pending, silent, decide_true, Bool.not_false, Bool.true_and, Bool.or_eq_true, decide_eq_true_eq] using due)
  simp only [decide_eq_true_eq] at signals
  obtain ⟨own, others, -, -⟩ := (State.FnsKept.refl s).setFn n
    { s.fn n with wakeSig := true, wakeEnd := if 3 ≤ (s.fn n).speed then s.now else s.after 2000000 }
  exact Gives.of_eq signals ⟨own, rfl, others, rfl⟩

theorem devWakeTimeout_gives (pending : (s.fn n).wakePend.isSome = true) (signalled : (s.fn n).wakeSig = true)
    (passed : (s.fn n).wakeEnd.toNat + 100000000 ≤ s.now.toNat) :
    Gives (.devWakeTimeout n) s fun t =>
      t.fn n = { s.fn n with wakePend := none, wakeSig := false } ∧ (∀ j, j ≠ n.val → t.fn j = s.fn j) ∧ t.ports = s.ports
        ∧ t.xfer.eps = s.xfer.eps := by
  have ends : exec (.devWakeTimeout n) s = .next (s.endWake n .timeout) :=
    if_pos (by simp only [pending, signalled, passed, decide_true, Bool.and_self])
  obtain ⟨own, others, ports, -⟩ := s.endWake_fnSet n .timeout
  exact Gives.of_eq ends ⟨own, others, ports, s.endWake_eps ..⟩

/-! ## Standard requests (R189, R191, R194) -/

/-- R191, R194: a SETUP packet takes the place of the one that was held, and ends the control transfer in progress. -/
def State.setupTaken (s : State) (n : Nat) (view : HostView) : State :=
  match s.fnEp0 n with
  | some e =>
    let held := !(s.ep e).setup.isEmpty
    let u := if (s.ep e).ctlOpen then s.endControl view e .aborted 8 else s
    let u := u.modEp e fun x => { x with setup := [] }
    if held then u.setFn n { u.fn n with setupReplaced := (u.fn n).setupReplaced + 1 } else u
  | none => s

/-- R191: of the function a SETUP packet changes at most the count of those replaced. -/
theorem State.fn_setupTaken (s : State) (n : Nat) (view : HostView) :
    ∃ k, (s.setupTaken n view).fn n = { s.fn n with setupReplaced := k } := by
  unfold State.setupTaken
  split
  case h_1 e _ =>
    let u := if (s.ep e).ctlOpen then s.endControl view e .aborted 8 else s
    let w := u.modEp e fun x => { x with setup := [] }
    have same : w.fn n = s.fn n := ((State.FnsKept.ite (State.FnsKept.refl s).endControl (.refl s)).modEp).fn n
    change ∃ k, (if !(s.ep e).setup.isEmpty then w.setFn n { w.fn n with setupReplaced := (w.fn n).setupReplaced + 1 } else w).fn n = _
    split
    · exact ⟨_, by rw [State.fn_setFn, if_pos rfl, same]⟩
    · exact ⟨_, same⟩
  case h_2 => exact ⟨_, rfl⟩

/-- R189: a standard request that the part answers by itself. -/
theorem exec_devSetupReceived_answered {packet data : List Byte} {view : HostView} {u : State} (live : (s.fn n).state.live = true)
    (whole : packet.length = 8) (standard : standardRequest packet = true)
    (answer : ((s.drainAll view).setupTaken n view).standardAnswer n packet = some (u, data)) :
    exec (.devSetupReceived n packet view) s
      = .next (u.devSend n 0 (if bitOf (byteAt packet 0) 7 then 0 else 1) (data.take (le packet 6 2))) := by
  let b := s.drainAll view
  have takes : ¬ (!(b.fn n).state.live || decide (packet.length ≠ 8)) = true := by
    rw [(State.FnsKept.refl s).drainAll.fn, live, whole]
    exact Bool.false_ne_true
  refine (if_neg takes).trans ((if_pos standard).trans ?_)
  exact congrArg (fun o : Option (State × List Byte) => (match o with
    | some (s', data) => .next (s'.devSend n 0 (if bitOf (byteAt packet 0) 7 then 0 else 1) (data.take (le packet 6 2)))
    | none => .next (State.devSend (b.setupTaken n view) n 0 3 []) : Result)) answer

theorem State.fn_setupTaken_drainAll (s : State) (n : Nat) (view : HostView) :
    ∃ k, ((s.drainAll view).setupTaken n view).fn n = { s.fn n with setupReplaced := k } := by
  rw [← (State.FnsKept.refl s).drainAll.fn]
  exact State.fn_setupTaken ..

/-- R189: the SETUP packet of SET_ADDRESS. -/
def setAddress (a : Nat) : List Byte := [0, 5, BitVec.ofNat 8 a, 0, 0, 0, 0, 0]

theorem byteAt_setAddress (a : Nat) : byteAt (setAddress a) 0 = 0 ∧ byteAt (setAddress a) 1 = 5 := ⟨rfl, rfl⟩

theorem le_setAddress (a : Fin 128) : le (setAddress a) 2 2 % 128 = a := by
  have small := a.isLt
  change ((BitVec.ofNat 8 a.val).toNat + 256 * (0 + 256 * 0)) % 128 = a.val
  rw [BitVec.toNat_ofNat]
  omega

theorem standardRequest_setAddress (a : Nat) : standardRequest (setAddress a) = true := by
  obtain ⟨kind, request⟩ := byteAt_setAddress a
  rw [standardRequest, kind, request]
  rfl

theorem devSetupReceived_setAddress {a : Fin 128} {view : HostView} (default : (s.fn n).state = .default) (nonzero : a.val ≠ 0) :
    Gives (.devSetupReceived n (setAddress a) view) s fun t =>
      (t.fn n).addr = a ∧ (t.fn n).state = .address ∧ ∃ o, t.out = .dev n 0 1 [] :: o := by
  let w := (s.drainAll view).setupTaken n view
  obtain ⟨k, own⟩ := s.fn_setupTaken_drainAll n view
  let f : Fn := { w.fn n with addr := a.val, state := .address }
  let u := (w.setFn n f).devNotice n 0x22 []
  have waits : (decide ((w.fn n).state = .default) && decide (a.val ≠ 0)) = true := by
    rw [own, default, decide_eq_true nonzero]
    rfl
  have answer : w.standardAnswer n (setAddress a) = some (u, []) := by
    change some (ite _ _ _, ([] : List Byte)) = _
    rw [le_setAddress, if_pos waits, if_pos waits]
  have live : (s.fn n).state.live = true := by
    rw [default]
    rfl
  have answered := exec_devSetupReceived_answered live rfl (standardRequest_setAddress a) answer
  rw [(byteAt_setAddress a).1, List.take_nil] at answered
  have set : (u.devSend n 0 1 []).fn n = f := ((w.devTold_fnSet n f 0x22 []).kept (State.FnsKept.refl u).devSend).own
  exact Gives.of_eq (t := u.devSend n 0 1 []) answered ⟨congrArg Fn.addr set, congrArg Fn.state set, u.out, rfl⟩

theorem devSetupReceived_getConfiguration {view : HostView} (live : (s.fn n).state.live = true) :
    Gives (.devSetupReceived n [0x80, 8, 0, 0, 0, 0, 1, 0] view) s fun t => ∃ o, t.out = .dev n 0 0 (toLe 1 (s.fn n).config) :: o := by
  let w := (s.drainAll view).setupTaken n view
  obtain ⟨k, own⟩ := s.fn_setupTaken_drainAll n view
  have config : (w.fn n).config = (s.fn n).config := (congrArg Fn.config own :)
  have answer : w.standardAnswer n [0x80, 8, 0, 0, 0, 0, 1, 0] = some (w, toLe 1 (s.fn n).config) := by
    rw [← config]
    rfl
  exact Gives.of_eq (exec_devSetupReceived_answered live rfl rfl answer) ⟨_, rfl⟩

/-! ## Tokens (R190, R192) -/

/-- R190: a token for an endpoint of the configuration in force, not of the diagnostic function, finds it halted or is served. -/
theorem exec_devToken {ep : Fin 16} {dirIn acked : Bool} {dpid : Fin 4} {data : List Byte} {view : HostView} {e : Nat}
    (live : ((s.drainAll view).fn n).state.live = true) (real : ((s.drainAll view).fn n).diag = false) (numbered : ep.val ≠ 0)
    (found : (s.drainAll view).fnEp n ep dirIn = some e) (included : ((s.drainAll view).fn n).includes ((s.drainAll view).ep e).address = true) :
    let b := s.drainAll view
    ∃ runs : Bool, exec (.devToken n ep dirIn dpid data acked view) s
      = if (b.ep e).halted then .next (b.devSend n ep 3 [])
        else .next ((if runs then b.startChain view e else b).devPacket n e dirIn dpid data acked view) := by
  intro b
  refine ⟨match (b.ep e).owner with
    | some (h, sl) => decide ((b.slice h sl).state = .active)
    | none => false, ?_⟩
  change execDevToken n ep dirIn dpid data acked view s = _
  simp only [execDevToken, live, real, numbered, found, included, Bool.not_true, Bool.false_and, Bool.false_eq_true, if_false]
  rfl

/-- R162: a chain in progress stays in progress. -/
theorem State.startChain_of_chain {e : Nat} {c : Chain} (chain : (s.ep e).chain = some c) (v : HostView) : s.startChain v e = s := by
  simp only [State.startChain]
  split
  · next idle => exact nomatch chain.symm.trans idle
  · rfl

/-- R190: an IN packet of the chain in progress, not acknowledged, is only sent; the endpoint has no carve of the endpoint buffer. -/
theorem State.devPacket_sent {k e dpid : Nat} {data bytes : List Byte} {view : HostView} {c : Chain} (chain : (s.ep e).chain = some c)
    (direct : (s.ep e).bufSize = 0)
    (read : view.read ((c.tds.getD c.cur {}).addr + BitVec.ofNat 64 c.off) (min (s.ep e).mps ((c.tds.getD c.cur {}).len - c.off)) = some bytes) :
    s.devPacket k e true dpid data false view = s.devSend k (s.ep e).num 0 bytes := by
  have buffer : s.epBuffer (s.ep e) bytes = (s, false) := if_pos direct
  simp only [State.devPacket, chain, read, buffer, if_true, Bool.false_eq_true, if_false]

end

/-- Settles O20: each event has the outcome that its lemma above gives. -/
theorem deviceFunctionEvents : Obligations.DeviceFunctionEvents := by
  unfold Obligations.DeviceFunctionEvents
  refine ⟨?attach, ?reset, ?address, ?configuration, ?stall, ?packet, ?suspend, ?resume, ?signal, ?timeout, ?detach⟩
  case attach => exact fun n s bound detached fallback ufp attached enabled => devAttached_gives bound detached fallback ufp attached enabled
  case reset => exact fun n speed view s present offered => devBusReset_gives present offered
  case address => exact fun n a view s default nonzero => devSetupReceived_setAddress default nonzero
  case configuration => exact fun n view s live => devSetupReceived_getConfiguration live
  case stall =>
    intro n ep dirIn acked dpid data view e s b live real numbered found included halted
    obtain ⟨runs, token⟩ := exec_devToken (acked := acked) (dpid := dpid) (data := data) live real numbered found included
    exact token.trans (if_pos halted)
  case packet =>
    intro n ep dpid data bytes view e c s b td live real numbered found included running chain own direct read
    obtain ⟨runs, token⟩ := exec_devToken (acked := false) (dpid := dpid) (data := data) live real numbered found included
    have starts : (if runs then b.startChain view e else b) = b := by rw [State.startChain_of_chain chain, ite_self]
    refine Gives.of_eq (token.trans (if_neg (by rw [running]; exact Bool.false_ne_true))) ?_
    rw [starts, State.devPacket_sent chain direct read, own]
  case suspend => exact fun n s live => devSuspended_gives live
  case resume => exact fun n s suspended => devHostResume_gives suspended
  case signal => exact fun n s suspended pending silent due => devWakeSignalStart_gives suspended pending silent due
  case timeout => exact fun n s pending signalled passed => devWakeTimeout_gives pending signalled passed
  case detach => exact fun n s present => devDetached_gives present

end Sys2Proof.Machine
end

section
/-! PROOFS. USB_DEV_BIND, USB_DEV_UNBIND and USB_DEV_CTRL (R187, R189, R196 to R198). -/

namespace Sys2Proof.Machine

/-- R187: a function written over leaves the rest of the state. -/
theorem State.setFn_gives (s : State) (n : Nat) (v : Fn) :
    (s.setFn n v).fn n = v ∧ (∀ j, j ≠ n → (s.setFn n v).fn j = s.fn j)
      ∧ s.setFn n v = { s with xfer := { s.xfer with fns := (s.setFn n v).xfer.fns } } :=
  ⟨(State.fn_setFn ..).trans (if_pos rfl), fun _ other => (State.fn_setFn ..).trans (if_neg other), rfl⟩

section
variable {c : Cmd} {s : State}

/-! ## USB_DEV_BIND (R187, R189) -/

/-- R189: the descriptor set that USB_DEV_BIND has read. -/
def Cmd.descRead (c : Cmd) : List Byte :=
  match c.data with
  | .ok b => padTo (le c.payload 4 2) b
  | .err _ => []

/-- R187: the function that USB_DEV_BIND makes. -/
def Cmd.boundFn (c : Cmd) : Fn :=
  { bound := true, owner := c.route.slice?, port := byteAt c.payload 0, notifyQ := byteAt c.payload 1, cap := byteAt c.payload 2, desc := c.descRead
    descAddr := BitVec.ofNat 64 (le c.payload 8 8) }

/-- R198: the diagnostic function of a port. -/
def State.diagHere (s : State) (p : Nat) : Option Nat := [0, 1].find? fun n => (s.fn n).bound && (s.fn n).diag && decide ((s.fn n).port = p)

theorem State.diagHere_of_free {p : Nat} (free : ∀ n, n < 2 → (s.fn n).bound = true → (s.fn n).port ≠ p) : s.diagHere p = none := by
  refine List.find?_eq_none.mpr fun n listed taken => ?_
  simp only [Bool.and_eq_true, decide_eq_true_eq] at taken
  obtain ⟨⟨bound, -⟩, here⟩ := taken
  simp only [List.mem_cons, List.not_mem_nil, or_false] at listed
  exact free n (by omega) bound here

/-- R187: unless both are bound, the first function that is not bound is found. -/
theorem State.find_unbound (room : ([0, 1].all fun n => (s.fn n).bound) = false) :
    [0, 1].find? (fun n => !(s.fn n).bound) = some (if (s.fn 0).bound then 1 else 0)
      ∧ (s.fn (if (s.fn 0).bound then 1 else 0)).bound = false := by
  cases first : (s.fn 0).bound with
  | false => exact ⟨by simp only [List.find?, first, Bool.not_false, Bool.false_eq_true, if_false], first⟩
  | true =>
    have second : (s.fn 1).bound = false := by simpa only [List.all_cons, List.all_nil, first, Bool.true_and, Bool.and_true] using room
    exact ⟨by simp only [List.find?, first, second, Bool.not_true, Bool.not_false, if_true], second⟩

theorem usbDevBind_gives (may : s.mayCarry infoUsbDevBind c (checksUsbDevBind c s) = true)
    (free : ∀ n, n < 2 → (s.fn n).bound = true → (s.fn n).port ≠ byteAt c.payload 0) :
    let p := c.payload
    let b := s.carried infoUsbDevBind c (checksUsbDevBind c s)
    let n := if (b.fn 0).bound then 1 else 0
    CompletesOk (exec (.usbDevBind c) s) infoUsbDevBind c (fun _ => [if (s.fn 0).bound then 1 else 0]) fun u =>
      (b.fn n).bound = false
        ∧ u.fn n = { bound := true, owner := c.route.slice?, port := byteAt p 0, notifyQ := byteAt p 1, cap := byteAt p 2, desc := (u.fn n).desc
                     descAddr := BitVec.ofNat 64 (le p 8 8) }
        ∧ (∀ d, c.data = .ok d → (u.fn n).desc = padTo (le p 4 2) d) ∧ descSetOk (u.fn n).desc = true
        ∧ (∀ j, j ≠ n → u.fn j = b.fn j) ∧ u = { b with xfer := { b.xfer with fns := u.xfer.fns } } := by
  intro p b n
  obtain ⟨-, -, passes⟩ := State.mayCarry_passes may
  have noDiag : s.diagHere (byteAt c.payload 0) = none := State.diagHere_of_free free
  have room : ((s.diagHere (byteAt c.payload 0)).isNone && [0, 1].all fun n => (s.fn n).bound) = false :=
    failIf_eq_none.mp (firstSome_eq_none passes _ (List.mem_cons_of_mem _ (List.mem_cons_of_mem _ List.mem_cons_self)))
  rw [noDiag, Option.isNone_none, Bool.true_and] at room
  have good : (!descSetOk c.descRead) = false := failIf_eq_none.mp (firstSome_eq_none passes _ (List.mem_of_getLast? rfl))
  obtain ⟨found, vacant⟩ := State.find_unbound room
  have same (j : Nat) : b.fn j = s.fn j := s.carried_fn ..
  simp only [n, same]
  obtain ⟨own, others, frame⟩ := b.setFn_gives (if (s.fn 0).bound then 1 else 0) c.boundFn
  have binds : exec (.usbDevBind c) s = .next (s.command infoUsbDevBind c (checksUsbDevBind c s) fun t =>
      (t.setFn (if (s.fn 0).bound then 1 else 0) c.boundFn).ok c 0x0410 [BitVec.ofNat 8 (if (s.fn 0).bound then 1 else 0)]) := by
    rw [State.diagHere] at noDiag
    change execUsbDevBind c s = _
    simp only [execUsbDevBind, noDiag, found, Option.getD_none, Option.getD_some]
    rfl
  rw [binds]
  refine completesOk_command may (completesOk_of_eq_ok ((State.isRunning_setFn ..).trans (s.carried_isRunning ..)) ?_
    ⟨vacant, ?_, fun d read => ?_, ?_, fun j other => (others j other).trans (same j), frame⟩)
  · cases (s.fn 0).bound <;> rfl
  · rw [own]
    rfl
  · rw [own, Cmd.boundFn, Cmd.descRead, read]
  · rw [own]
    exact (Bool.not_eq_false' _).mp good

/-! ## USB_DEV_UNBIND (R187, R198) -/

/-- R187, R198: a function that is not bound, or is the diagnostic function of some port. -/
def Fn.FreeOrDiag (f : Fn) : Prop := f = {} ∨ ∃ p, f = { bound := true, diag := true, port := p, cap := 4 }

/-- R198: presenting the diagnostic function on a port takes at most a function that is not bound. -/
theorem State.freeOrDiag_presentDiag {n : Nat} (h : (s.fn n).FreeOrDiag) (p : Nat) : ((s.presentDiag p).fn n).FreeOrDiag := by
  simp only [State.presentDiag]
  split
  · split
    · exact h
    · rw [State.fn_setFn]
      split
      · exact .inr ⟨p, rfl⟩
      · exact h
  · exact h

theorem State.freeOrDiag_presentDiags {n : Nat} (h : (s.fn n).FreeOrDiag) (skip : Nat) : ((s.presentDiags skip).fn n).FreeOrDiag := by
  refine List.foldlRecOn (motive := fun t : State => (t.fn n).FreeOrDiag) _ _ h fun t ht p _ => ?_
  exact iteInduction (motive := fun u : State => (u.fn n).FreeOrDiag) (fun _ => State.freeOrDiag_presentDiag ht p) fun _ => ht

/-- R187: a function released is free, or firmware presents the diagnostic function with it. -/
theorem State.freeOrDiag_releaseFn (s : State) (n : Nat) : ((s.releaseFn n).fn n).FreeOrDiag := by
  refine State.freeOrDiag_presentDiags ?_ 12
  refine iteInduction (motive := fun u : State => (u.fn n).FreeOrDiag) (fun _ => ?_) fun _ => ?_
  · exact .inl ((State.fn_setFn ..).trans (if_pos rfl))
  · exact .inl ((State.fn_setFn ..).trans (if_pos rfl))

theorem usbDevUnbind_gives (may : s.mayCarry infoUsbDevUnbind c (checksUsbDevUnbind c s) = true) :
    ∃ t, exec (.usbDevUnbind c) s = .next t ∧ (t.fn (byteAt c.payload 0)).FreeOrDiag := by
  refine ⟨_, congrArg Host.Outcome.next (State.command_of_mayCarry may _), ?_⟩
  rw [State.fn_congr (congrArg Xfer.fns (State.ok_xfer ..))]
  exact State.freeOrDiag_releaseFn ..

/-! ## USB_DEV_CTRL (R196, R197) -/

theorem usbDevCtrl_wakes (may : s.mayCarry infoUsbDevCtrl c (checksUsbDevCtrl c s) = true) (wake : byteAt c.payload 1 = 1) :
    let n := byteAt c.payload 0
    let b := s.carried infoUsbDevCtrl c (checksUsbDevCtrl c s)
    ∃ t, exec (.usbDevCtrl c) s = .next t ∧ t.fn n = { b.fn n with wakePend := some c, wakeSig := false } ∧ (b.fn n).state = .suspended
      ∧ (b.fn n).wakeEn = true ∧ (∀ j, j ≠ n → t.fn j = b.fn j) ∧ t = { b with xfer := { b.xfer with fns := t.xfer.fns } } := by
  intro n b
  obtain ⟨-, -, passes⟩ := State.mayCarry_passes may
  have armed : (decide (byteAt c.payload 1 = 1) && (decide ((s.fn n).state ≠ .suspended) || !(s.fn n).wakeEn)) = false :=
    failIf_eq_none.mp (firstSome_eq_none passes _ (List.mem_of_getLast? rfl))
  simp only [wake, decide_true, Bool.true_and, Bool.or_eq_false_iff, decide_eq_false_iff_not, not_not, Bool.not_eq_false'] at armed
  obtain ⟨suspended, enabled⟩ := armed
  rw [show b.fn n = s.fn n from s.carried_fn ..]
  obtain ⟨own, others, frame⟩ := b.setFn_gives n { s.fn n with wakePend := some c, wakeSig := false }
  exact ⟨_, congrArg Host.Outcome.next ((State.command_of_mayCarry may _).trans (if_pos wake)), own, suspended, enabled, others, frame⟩

/-- R192: an endpoint whose halt feature is set or cleared. -/
def Ep.haltSet (x : Ep) (b : Bool) : Ep := if b then { x with halted := true } else { x with halted := false, toggle := false, seqnum := 0 }

theorem usbDevCtrl_halts (may : s.mayCarry infoUsbDevCtrl c (checksUsbDevCtrl c s) = true) (halt : byteAt c.payload 1 ≠ 1) :
    let e := le c.payload 2 2
    let b := s.carried infoUsbDevCtrl c (checksUsbDevCtrl c s)
    CompletesOk (exec (.usbDevCtrl c) s) infoUsbDevCtrl c (fun _ => []) fun u =>
      u.ep e = (if byteAt c.payload 1 = 2 then { b.ep e with halted := true } else { b.ep e with halted := false, toggle := false, seqnum := 0 })
        ∧ (∀ j, j ≠ e → u.ep j = b.ep j) ∧ u = { b with xfer := { b.xfer with eps := u.xfer.eps } } := by
  intro e b
  obtain ⟨own, others, frame⟩ := b.setEp_gives e ((b.ep e).haltSet (decide (byteAt c.payload 1 = 2)))
  refine completesOk_command may (completesOk_of_eq_ok ((State.isRunning_setEp ..).trans (s.carried_isRunning ..))
    (congrArg Host.Outcome.next (if_neg halt)) ⟨own.trans ?_, others, frame⟩)
  simp only [Ep.haltSet, decide_eq_true_eq]

end

/-- Settles O19: each form of the commands has the outcome that its lemma above gives. -/
theorem usbDeviceCommandsTakeEffect : Obligations.UsbDeviceCommandsTakeEffect := by
  unfold Obligations.UsbDeviceCommandsTakeEffect
  refine ⟨?bind, ?unbind, ?wake, ?halt⟩
  case bind => exact fun c s may free => usbDevBind_gives may free
  case unbind => exact fun c s may _ => usbDevUnbind_gives may
  case wake => exact fun c s may wake => usbDevCtrl_wakes may wake
  case halt => exact fun c s may halt => usbDevCtrl_halts may halt

end Sys2Proof.Machine
end

section
/-! PROOFS. DisplayPort Alternate Mode: the binding, HPD and training (R199 to R203). -/

namespace Sys2Proof.Machine

/-! ## What a binding and its mode rest on (R200, R201) -/

theorem State.pd_modPd (s : State) (p : Nat) (f : Pd → Pd) : ((s.modPd p f).port p).pd = f (s.port p).pd := congrArg Port.pd (State.port_modPort_same ..)

theorem State.portNotice_edge (s : State) (p code : Nat) (d : List Byte) : (s.portNotice p code d).edge = s.edge := by rw [State.portNotice_frame]

theorem State.tunnel_congr {s t : State} (h : t.tunnels = s.tunnels) : t.tunnel = s.tunnel := funext fun k => by rw [State.tunnel, State.tunnel, h]

theorem State.dpTid_congr {s t : State} {p : Nat} (tid : (t.port p).pd.dp.tid = (s.port p).pd.dp.tid) (tunnels : t.tunnels = s.tunnels) :
    t.dpTid p = s.dpTid p := by
  rw [State.dpTid, State.dpTid, State.tunnel_congr tunnels, tid]

theorem State.freeTid_congr {s t : State} (tunnels : t.tunnels = s.tunnels) : t.freeTid = s.freeTid := by
  rw [State.freeTid, State.freeTid, State.tunnel_congr tunnels]

theorem State.dpMode_congr {s t : State} {p : Nat} (source : (t.port p).pd.dp.source = (s.port p).pd.dp.source) (edge : t.edge = s.edge) :
    t.dpMode p = s.dpMode p := by
  simp only [State.dpMode, State.streamOf, State.dpi, source, edge]

/-- Table 10-4: the reference of a stream names it. -/
theorem Tunnel.stream_of_ref {t : Tunnel} {x : Nat} (small : x < 32) (ref : t.clientRef = streamRef x) : t.stream = x := by
  have value : t.clientRef.toNat = x / 4 % 8 + 8 * (x % 4) := by
    rw [ref, streamRef, BitVec.toNat_ofNat]
    exact Nat.mod_eq_of_lt (by omega)
  simp only [Tunnel.stream, value, bits, Nat.reducePow, Nat.reduceAdd, Nat.reduceSub, Nat.div_one]
  have input : (x / 4 % 8 + 8 * (x % 4)) % 8 = x / 4 := by omega
  have stream : (x / 4 % 8 + 8 * (x % 4)) / 8 % 4 = x % 4 := by
    rw [Nat.add_mul_div_left _ _ (by decide), Nat.div_eq_of_lt (by omega), Nat.zero_add, Nat.mod_mod]
  rw [input, stream]
  omega

/-- R201: the rate found is the lowest that fits. -/
theorem Pd.dpRate_lowest {d : Pd} {m : DispMode} {lanes r : Nat} (found : d.dpRate m lanes = some r) :
    (∀ q, q < r → dpFits m lanes q = false) ∧ dpFits m lanes r = true := by
  obtain ⟨fits, -, lower⟩ := List.find?_range_eq_some.mp found
  exact ⟨fun q less => (Bool.not_eq_true' _).mp (lower q less), fits⟩

/-! ## DPALT_BIND and DPALT_UNBIND (R200) -/

/-- R200: the entry that a binding of the port takes: the one it has, or a free one. -/
def State.dpTidFor (s : State) (p : Nat) : Nat := (if (s.dpTid p).isSome then s.dpTid p else s.freeTid).getD 0

/-- R200: the port's binding is made in that entry. -/
def State.dpBound (s : State) (p src : Nat) (owner : Owner) : State :=
  let tid := s.dpTidFor p
  (s.setTunnel tid (s.dpEntry p src owner (if (s.dpTid p).isSome then (s.tunnel tid).gen + 1 else (s.tunnel tid).gen))).modPd p fun d =>
    { d with dp := { d.dp with tid := some tid, source := some src } }

/-- R203: before the sink's link is up a binding retrains nothing. -/
theorem State.dpBindNow_of_down {s : State} {p : Nat} (rate : (s.port p).pd.dp.rate = none) (hpd : (s.port p).pd.dp.hpd = false) (src : Nat) (owner : Owner) :
    s.dpBindNow p src owner = (s.dpBound p src owner, s.dpTidFor p) := by
  have own := State.pd_modPd (s.setTunnel (s.dpTidFor p) (s.dpEntry p src owner
    (if (s.dpTid p).isSome then (s.tunnel (s.dpTidFor p)).gen + 1 else (s.tunnel (s.dpTidFor p)).gen))) p
    fun d => { d with dp := { d.dp with tid := some (s.dpTidFor p), source := some src } }
  have still : (s.dpBound p src owner).dpRefit p = s.dpBound p src owner := by
    have rate' : ((s.dpBound p src owner).port p).pd.dp.rate = none := (congrArg (fun d : Pd => d.dp.rate) own).trans rate
    have hpd' : ((s.dpBound p src owner).port p).pd.dp.hpd = false := (congrArg (fun d : Pd => d.dp.hpd) own).trans hpd
    simp only [State.dpRefit, rate', hpd', Bool.false_eq_true, if_false]
  exact congrArg (·, s.dpTidFor p) still

theorem State.dpTidFor_found {s : State} {p : Nat} (room : ((s.dpTid p).isNone && s.freeTid.isNone) = false) :
    s.dpTid p = some (s.dpTidFor p) ∨ s.freeTid = some (s.dpTidFor p) := by
  cases held : s.dpTid p with
  | some tid => exact .inl (by rw [State.dpTidFor, held]; rfl)
  | none =>
    rw [held, Option.isNone_none, Bool.true_and, Option.isNone_eq_false_iff] at room
    obtain ⟨tid, free⟩ := Option.isSome_iff_exists.mp room
    exact .inr (by rw [State.dpTidFor, held, free]; rfl)

section
variable {c : Cmd} {s : State}

theorem dpaltBind_gives (may : s.mayCarry infoDpaltBind c (checksDpaltBind c s) = true)
    (rate : (s.port (byteAt c.payload 0)).pd.dp.rate = none) (hpd : (s.port (byteAt c.payload 0)).pd.dp.hpd = false) :
    let p := byteAt c.payload 0
    let src := byteAt c.payload 1
    let b := s.carried infoDpaltBind c (checksDpaltBind c s)
    CompletesOk (exec (.dpaltBind c) s) infoDpaltBind c (fun u => toLe 2 ((u.port p).pd.dp.tid.getD 0)) fun u =>
      ∃ tid, (u.port p).pd.dp = { (b.port p).pd.dp with tid := some tid, source := some src } ∧ (b.dpTid p = some tid ∨ b.freeTid = some tid)
        ∧ (let t := u.tunnel tid
           t.state = .opening ∧ t.port = p ∧ t.tun = 1 ∧ t.cls = 0 ∧ t.dirs = 1 ∧ t.owner = ownerNamed c.route 0
             ∧ t.rsvOut = dispFlits (b.streamOf src).mode ∧ t.stream = src)
        ∧ (∀ j, j ≠ tid → u.tunnel j = b.tunnel j) ∧ (∀ j, j ≠ p → u.port j = b.port j)
        ∧ u = { b with ports := u.ports, tunnels := u.tunnels } := by
  intro p src b
  obtain ⟨whole, good, passes⟩ := State.mayCarry_passes may
  have small : src < 32 :=
    Nat.lt_succ_of_le (rangeField_ok (off := 1) (len := 1) (lo := 0) (hi := 31) good (Nat.lt_of_lt_of_le (by decide) whole) rfl).2
  have samePort : b.port p = s.port p := s.carried_port ..
  have room : ((b.dpTid p).isNone && b.freeTid.isNone) = false := by
    rw [State.dpTid_congr (congrArg (fun x : Port => x.pd.dp.tid) samePort) (s.carried_tunnels ..), State.freeTid_congr (s.carried_tunnels ..)]
    exact failIf_eq_none.mp (firstSome_eq_none passes _ (List.mem_cons_of_mem _ (List.mem_cons_of_mem _ (List.mem_cons_of_mem _ List.mem_cons_self))))
  let u := b.dpBound p src (ownerNamed c.route 0)
  have binds : b.dpBindNow p src (ownerNamed c.route 0) = (u, b.dpTidFor p) :=
    State.dpBindNow_of_down (by rw [samePort]; exact rate) (by rw [samePort]; exact hpd) ..
  have own : (u.port p).pd.dp = { (b.port p).pd.dp with tid := some (b.dpTidFor p), source := some src } := congrArg Pd.dp (State.pd_modPd ..)
  have entry (j : Nat) : u.tunnel j = if j = b.dpTidFor p then b.dpEntry p src (ownerNamed c.route 0)
      (if (b.dpTid p).isSome then (b.tunnel (b.dpTidFor p)).gen + 1 else (b.tunnel (b.dpTidFor p)).gen) else b.tunnel j := State.tunnel_setTunnel ..
  refine completesOk_command may (completesOk_of_eq_ok (u := u) (s.carried_isRunning ..) ?_
    ⟨b.dpTidFor p, own, State.dpTidFor_found room, ?_, fun j other => (entry j).trans (if_neg other), (State.OnPort.modPd ..).other, rfl⟩)
  · change Host.Outcome.next ((b.dpBindNow p src (ownerNamed c.route 0)).1.ok c 0x0B10 (toLe 2 (b.dpBindNow p src (ownerNamed c.route 0)).2)) = _
    rw [binds, own]
    rfl
  · rw [entry, if_pos rfl]
    exact ⟨rfl, rfl, rfl, rfl, rfl, rfl, rfl, Tunnel.stream_of_ref small rfl⟩

/-- R200: the entry of a port's binding, where it has one, is freed. -/
def State.dpFreed (s : State) (p : Nat) : State :=
  match s.dpTid p with
  | some tid => s.freeEntry tid false
  | none => s

theorem dpaltUnbind_gives (may : s.mayCarry infoDpaltUnbind c (checksDpaltUnbind c s) = true) (wf : s.tunWf = true) :
    let p := byteAt c.payload 0
    ∃ t, exec (.dpaltUnbind c) s = .next t ∧ (t.port p).pd.dp.tid = none ∧ (t.port p).pd.dp.source = none
      ∧ ∀ tid, (s.carried infoDpaltUnbind c (checksDpaltUnbind c s)).dpTid p = some tid → (t.tunnel tid).state = .free := by
  intro p
  let b := s.carried infoDpaltUnbind c (checksDpaltUnbind c s)
  let u := (b.dpFreed p).modPd p fun d => { d with dp := { d.dp with tid := none, source := none } }
  have unbinds : exec (.dpaltUnbind c) s = .next (u.ok c 0x0B11 []) := congrArg Host.Outcome.next (State.command_of_mayCarry may _)
  have own : ((u.ok c 0x0B11 []).port p).pd = { ((b.dpFreed p).port p).pd with dp := { ((b.dpFreed p).port p).pd.dp with tid := none, source := none } } := by
    rw [State.port_congr (State.ok_ports ..)]
    exact State.pd_modPd ..
  refine ⟨_, unbinds, congrArg (fun d : Pd => d.dp.tid) own, congrArg (fun d : Pd => d.dp.source) own, fun tid held => ?_⟩
  have freed : b.dpFreed p = b.freeEntry tid false := by
    rw [State.dpFreed, show b.dpTid p = some tid from held]
  have bWf : b.tunWf = true := by
    rw [State.tunWf, State.carried_tunnels]
    exact wf
  have entry : (u.ok c 0x0B11 []).tunnel tid = (b.freeEntry tid false).tunnel tid := by
    rw [← freed, State.tunnel, State.ok_tunnels]
    rfl
  rw [entry, (b.freeEntry_keeps tid false).2 bWf]

end

/-! ## HPD (R201, R202) -/

section
variable {port : Fin 12} {s : State}

theorem exec_dpHpdChange_outside {kind : Fin 3} {linkOk dsc : Bool} (outside : (s.port port).pd.dp.entered = false) :
    exec (.dpHpdChange port kind linkOk dsc) s = .next s := if_pos (by rw [outside]; rfl)

theorem dpHpdChange_low {linkOk dsc : Bool} (entered : (s.port port).pd.dp.entered = true) :
    Gives (.dpHpdChange port 0 linkOk dsc) s fun t =>
      (t.port port).pd = { (s.port port).pd with dp := { (s.port port).pd.dp with hpd := false, rate := none } }
        ∧ (∀ j, j ≠ port.val → t.port j = s.port j) ∧ t.tunnels = s.tunnels := by
  let u := s.modPd port fun d => { d with dp := { d.dp with hpd := false, rate := none } }
  have falls : exec (.dpHpdChange port 0 linkOk dsc) s = .next (u.portNotice port 0x29 []) := if_neg (by rw [entered]; exact Bool.false_ne_true)
  refine Gives.of_eq falls ⟨?_, fun j other => ?_, State.portNotice_tunnels ..⟩
  · rw [State.port_congr (State.portNotice_ports ..)]
    exact State.pd_modPd ..
  · rw [State.port_congr (State.portNotice_ports ..)]
    exact (State.OnPort.modPd ..).other j other

/-- R199: a stream without DSC is not held back. -/
theorem State.dpDscCheck_of_plain {p : Nat} (plain : (s.dpMode p).dscLine = 0) : s.dpDscCheck p = s := by
  simp only [State.dpDscCheck, plain, if_true]
  split <;> rfl

/-- R201: training begins where a rate fits. -/
theorem State.dpTrain_of_fits {p : Nat} (fits : ((s.port p).pd.dpRate (s.dpMode p) (dpLanes (s.port p).pd.dp.pin)).isSome = true) :
    s.dpTrain p = s.modPd p fun d => { d with dp := { d.dp with rate := none, lanes := dpLanes d.dp.pin } } := by
  let u := s.modPd p fun d => { d with dp := { d.dp with rate := none, lanes := dpLanes d.dp.pin } }
  have mode : u.dpMode p = s.dpMode p := State.dpMode_congr (congrArg (fun d : Pd => d.dp.source) (State.pd_modPd ..) :) rfl
  refine if_neg ?_
  change ¬ ((s.port p).pd.dpRate (u.dpMode p) (dpLanes (s.port p).pd.dp.pin)).isNone = true
  rw [mode, Option.isNone_iff_eq_none, ← ne_eq, Option.ne_none_iff_isSome]
  exact fits

theorem dpHpdChange_high {linkOk dsc : Bool} (entered : (s.port port).pd.dp.entered = true)
    (tried : (s.port port).pd.dp.autoTried = true ∨ (s.port port).pd.disco ≠ .done) (plain : (s.dpMode port).dscLine = 0)
    (fits : ((s.port port).pd.dpRate (s.dpMode port) (dpLanes (s.port port).pd.dp.pin)).isSome = true) :
    let d := (s.port port).pd
    Gives (.dpHpdChange port 1 linkOk dsc) s fun t =>
      (t.port port).pd = { d with dp := { d.dp with hpd := true, sinkDsc := dsc, fails := 0, rate := none, lanes := dpLanes d.dp.pin } }
        ∧ (∀ j, j ≠ port.val → t.port j = s.port j) ∧ t.tunnels = s.tunnels := by
  intro d
  let v := s.modPd port fun d => { d with dp := { d.dp with hpd := true, sinkDsc := dsc, fails := 0 } }
  let u := v.portNotice port 0x28 []
  have own : (u.port port).pd = { d with dp := { d.dp with hpd := true, sinkDsc := dsc, fails := 0 } } := by
    rw [State.port_congr (State.portNotice_ports ..)]
    exact State.pd_modPd ..
  have mode : u.dpMode port = s.dpMode port := State.dpMode_congr (congrArg (fun d : Pd => d.dp.source) own :) (State.portNotice_edge ..)
  have tried' : (d.dp.autoTried || decide (d.disco ≠ .done)) = true := by
    rw [Bool.or_eq_true, decide_eq_true_eq]
    exact tried
  have rises : exec (.dpHpdChange port 1 linkOk dsc) s
      = .next (((if d.dp.autoTried || decide (d.disco ≠ .done) then u else u.dpAutoBind port).dpDscCheck port).dpTrain port) :=
    if_neg (by rw [entered]; exact Bool.false_ne_true)
  have fits' : ((u.port port).pd.dpRate (u.dpMode port) (dpLanes (u.port port).pd.dp.pin)).isSome = true := by
    rw [mode, own]
    exact fits
  rw [if_pos tried', State.dpDscCheck_of_plain (by rw [mode]; exact plain), State.dpTrain_of_fits fits'] at rises
  refine Gives.of_eq rises ⟨?_, fun j other => ?_, State.portNotice_tunnels ..⟩
  · rw [State.pd_modPd, own]
  · rw [(State.OnPort.modPd ..).other j other, State.port_congr (State.portNotice_ports ..)]
    exact (State.OnPort.modPd ..).other j other

/-! ## Training (R200, R201) -/

/-- R200: the binding of the port enters OPEN. -/
def State.dpOpened (s : State) (p : Nat) : State :=
  match s.dpTid p with
  | some tid => s.modTunnel tid fun t => { t with state := .opened }
  | none => s

theorem State.dpOpened_ports (s : State) (p : Nat) : (s.dpOpened p).ports = s.ports := by
  unfold State.dpOpened
  split <;> rfl

theorem State.tunnel_dpOpened {p tid : Nat} (held : s.dpTid p = some tid) :
    (s.dpOpened p).tunnel tid = { s.tunnel tid with state := .opened } ∧ ∀ j, j ≠ tid → (s.dpOpened p).tunnel j = s.tunnel j := by
  rw [State.dpOpened, held]
  exact ⟨(State.tunnel_modTunnel ..).trans (if_pos rfl), fun j other => (State.tunnel_modTunnel ..).trans (if_neg other)⟩

theorem dpTrained_ok {r : Nat} (entered : (s.port port).pd.dp.entered = true) (hpd : (s.port port).pd.dp.hpd = true)
    (rate : (s.port port).pd.dp.rate = none) (found : (s.port port).pd.dpRate (s.dpMode port) (s.port port).pd.dp.lanes = some r) :
    let d := (s.port port).pd
    Gives (.dpTrained port true) s fun t =>
      (t.port port).pd.dp = { d.dp with rate := some r, fails := 0 } ∧ (∀ q, q < r → dpFits (s.dpMode port) d.dp.lanes q = false)
        ∧ dpFits (s.dpMode port) d.dp.lanes r = true
        ∧ (∀ tid, s.dpTid port = some tid → t.tunnel tid = { s.tunnel tid with state := .opened } ∧ ∀ j, j ≠ tid → t.tunnel j = s.tunnel j)
        ∧ (∀ j, j ≠ port.val → t.port j = s.port j) := by
  intro d
  let u := s.modPd port fun d => { d with dp := { d.dp with rate := some r, fails := 0 } }
  have own : (u.port port).pd = { d with dp := { d.dp with rate := some r, fails := 0 } } := State.pd_modPd ..
  have trains : exec (.dpTrained port true) s = .next ((u.dpOpened port).portNotice port 0x2A (toLe 1 r ++ toLe 1 d.dp.lanes)) := by
    change execDpTrained port true s = _
    simp only [execDpTrained, entered, hpd, rate, found, Bool.not_true, Option.isSome_none, Bool.or_self, Bool.false_eq_true, if_false, if_true]
    rfl
  have ports (j : Nat) : ((u.dpOpened port).portNotice port 0x2A (toLe 1 r ++ toLe 1 d.dp.lanes)).port j = u.port j :=
    (State.port_congr (State.portNotice_ports ..) j).trans (State.port_congr (u.dpOpened_ports port) j)
  obtain ⟨lower, fits⟩ := Pd.dpRate_lowest found
  refine Gives.of_eq trains ⟨?_, lower, fits, fun tid held => ?_, fun j other => ?_⟩
  · rw [ports, own]
  · have held' : u.dpTid port = some tid := (State.dpTid_congr (t := u) (congrArg (fun d : Pd => d.dp.tid) own :) rfl).trans held
    simp only [State.tunnel, State.portNotice_tunnels]
    exact State.tunnel_dpOpened held'
  · rw [ports]
    exact (State.OnPort.modPd ..).other j other

theorem dpTrained_fails (entered : (s.port port).pd.dp.entered = true) (hpd : (s.port port).pd.dp.hpd = true)
    (rate : (s.port port).pd.dp.rate = none) (few : (s.port port).pd.dp.fails < 2) :
    let d := (s.port port).pd
    Gives (.dpTrained port false) s fun t =>
      (t.port port).pd.dp = { d.dp with fails := d.dp.fails + 1 } ∧ (∀ j, j ≠ port.val → t.port j = s.port j) ∧ t = { s with ports := t.ports } := by
  intro d
  have counts : exec (.dpTrained port false) s = .next (s.modPd port fun d => { d with dp := { d.dp with fails := d.dp.fails + 1 } }) := by
    change execDpTrained port false s = _
    simp only [execDpTrained, entered, hpd, rate, Nat.not_le.mpr few, Bool.not_true, Option.isSome_none, Bool.or_self, Bool.false_eq_true, if_false]
  exact Gives.of_eq counts ⟨congrArg Pd.dp (State.pd_modPd ..), (State.OnPort.modPd ..).other, rfl⟩

end

/-- Settles O21: each command and event has the outcome that its lemma above gives. -/
theorem displayPortAlternateMode : Obligations.DisplayPortAlternateMode := by
  unfold Obligations.DisplayPortAlternateMode
  refine ⟨?bind, ?unbind, ?outside, ?low, ?high, ?trained, ?fails⟩
  case bind => exact fun c s may ⟨rate, hpd⟩ => dpaltBind_gives may rate hpd
  case unbind => exact fun c s may wf => dpaltUnbind_gives may wf
  case outside => exact fun port kind linkOk dsc s outside => exec_dpHpdChange_outside outside
  case low => exact fun port linkOk dsc s entered => dpHpdChange_low entered
  case high => exact fun port linkOk dsc s entered tried plain fits => dpHpdChange_high entered tried plain fits
  case trained => exact fun port r s entered hpd rate found => dpTrained_ok entered hpd rate found
  case fails => exact fun port s entered hpd rate few => dpTrained_fails entered hpd rate few

end Sys2Proof.Machine
end
